-- ==== Sys2Proof/Word.lean ====
section
/-! DEFINITION. The word types of the device and their plainest arithmetic (00_scope.md, R6). -/

namespace Sys2Proof

abbrev Byte := BitVec 8
abbrev Half := BitVec 16
/-- A 32-bit register word, frame number or counter. -/
abbrev Word := BitVec 32
abbrev DWord := BitVec 64

end Sys2Proof
end

