-- ==== Sys2Proof/Syntax.lean ====
section
/-! DEFINITION. The commands of the block: one constructor of `Instr` per row of spec/opcode_table.json, and the
operands they carry (what the host, the lines, the balls and the supplies bring with each of them). -/

namespace Sys2Proof

/-- The balls sampled at a reset (16_register_map.md R420, GLB.STRAPS). -/
structure Straps where
  testMode : Bool
  mi2cAddr : Fin 4
  bootSrc  : Fin 4
deriving DecidableEq, Repr

/-- A SECDED-protected word of the device that an error can strike (13_faults.md R378, 12 R348). -/
inductive Mem where
  | cm (page : Bool) (slot : Nat)            -- truss connection entry, page B when true
  | dm (replica : Fin 8) (half : Bool) (word : Nat)   -- truss data memory, 8-byte word
  | participant (page : Bool) (p : Nat)      -- conference roster
  | conference (page : Bool) (c : Nat)
  | lane (p : Nat)                           -- conference lane state of a participant
  | collector (c : Nat)                      -- conference collector record
  | due (entry : Nat)                        -- body of a due-table entry
  | group (kind : Fin 4) (g : Nat)           -- protection group state
  | key (slot : Fin 64)                      -- key store
  | cmac (slot : Fin 64)                     -- CMAC engine, operation on a slot
  | lock (i : Fin 256)                       -- peg board state word
  | registry (second : Bool) (rtype : Fin 5) (i : Nat)   -- resource registry, either of its two copies (14 R396)
  | reaction (source : Nat) (cls : Fin 4)    -- reaction table of the collector
  | staging (g : Fin 256)                    -- staging of a device-to-host row of a stream group
  | other (source : Nat) (addr : Nat)        -- any other SECDED memory of a source
deriving DecidableEq, Repr

/-- A bit error: in which word, and whether two bits (uncorrectable) or one. -/
structure Upset where
  mem    : Mem
  double : Bool
deriving DecidableEq, Repr

/-- What the firmware, the other masters of the bus matrix and the host's reads do (14 R388, 15 R399, 09 R257): processor `p`
claims, renews or releases a peg-board lock through its own port; master `m` reads (no byte) or writes a byte at an internal
address; the host reads the register word at BAR0 offset `o`. -/
inductive PortOp where
  | claim (p : Fin 7) (i : Fin 256) (lease : Nat)
  | release (p : Fin 7) (i : Fin 256)
  | access (m : Fin 9) (write : Option Byte) (addr : Word)
  | hostRead (o : Word)
deriving DecidableEq, Repr

/-- What the outside brings to a frame boundary: SRAM bit errors of the ended frame, those of the frame that begins that can
reach its own read pass (06 R183), what the processors, the bus masters and the host's reads did in the ended frame, a disagreement of the duplicated
story-pole counters, the measured phase error to the selected reference in ns. -/
structure FrameInputs where
  upsets   : List Upset
  late     : List Upset
  ports    : List PortOp
  cntFault : Bool
  phaseErr : Int
deriving DecidableEq, Repr

/-- A sample of the sensors: 8 temperatures (0.125 C units, signed), 5 rails in mV, power in 0.1 W (12 R346). -/
structure Sample where
  temps : List Int
  rails : List Nat
  power : Nat
deriving DecidableEq, Repr

/-- Measurement of a reference candidate: edges present, frequency offset in 0.01 ppm (02 R43). -/
structure RefMeas where
  edges : Bool
  fofs  : Int
deriving DecidableEq, Repr

/-- The register of an offset write (02 R58). -/
inductive OffsetReg where
  | port (n : Fin 32)
  | group (g : Fin 8)
deriving DecidableEq, Repr

/-- A highway register (05 R158). -/
inductive HwyReg where
  | cfg (n : Fin 64)
  | txEn (n : Fin 64) (w : Fin 8)
  | group (g : Fin 8)
deriving DecidableEq, Repr

/-- The three paged tables (01 R15). -/
inductive Paged where
  | truss | roster | xc
deriving DecidableEq, Repr

/-- A command descriptor: eight little-endian words (09 Table HR-5). -/
structure Desc where
  w0 : Word
  w1 : Word
  w2 : Word
  w3 : Word
  w4 : Word
  w5 : Word
  w6 : Word
  w7 : Word
deriving DecidableEq, Repr

/-- A buffer descriptor as fetched (09 Table HR-7). -/
structure BufDesc where
  addr : DWord
  len  : Word
  int  : Bool
deriving DecidableEq, Repr

/-- The second word of a buffer descriptor: its length and its INT bit. -/
structure BufCtl where
  len : Word
  int : Bool
deriving DecidableEq, Repr

/-- The descriptor of an address and a second word, and its second word. -/
def bufDesc (a : DWord) (c : BufCtl) : BufDesc := { addr := a, len := c.len, int := c.int }
def BufDesc.ctl (d : BufDesc) : BufCtl := { len := d.len, int := d.int }

/-- Whose command this is: its CQ, descriptor index, tag and flags (09 Table HR-5, 10 R285). -/
structure Hdr where
  ring    : Fin 64
  index   : Nat
  tag     : Half
  int     : Bool
  nocomp  : Bool
  ordered : Bool
  asap    : Bool
deriving DecidableEq, Repr

/-- TSW_SET, TSW_FILL and TSW_PATCH (10 Table CM-7). -/
structure TswRun where
  entry : Word
  out   : Nat
  step  : Bool
  count : Nat
deriving DecidableEq, Repr

/-- TSW_READ (10 Table CM-8). -/
structure TswReadOp where
  addr  : DWord
  first : Nat
  kind  : Nat
  count : Nat
deriving DecidableEq, Repr

/-- XC_SET (10 Table CM-9). -/
structure XcOp where
  dest  : Nat
  src   : Nat
  width : Nat
  force : Nat
  en    : Bool
  sel   : Bool
deriving DecidableEq, Repr

/-- A TU position (05 R131). -/
structure TuPos where
  m    : Nat
  grp  : Nat
  tug2 : Nat
  tu   : Nat
deriving DecidableEq, Repr

/-- The settings of a tributary (05 Table TB-2, 10 Table CM-9). -/
structure TribSet where
  en       : Bool
  t1       : Bool
  byteSync : Bool
  pos      : TuPos
  crc4     : Nat
  cas      : Bool
  saTx     : Nat
  tagSa    : Nat
  esf      : Bool
  rbs      : Bool
  crc6Reframe : Bool
  raiEn    : Bool
  bomCode  : Nat
  bomRepeat : Nat
  cond     : Byte
  sigCond  : Nat
  sigIdle  : Nat
deriving DecidableEq, Repr

/-- SIG_SET (10 Table CM-9). -/
structure SigOp where
  t      : Nat
  tx     : Bool
  follow : Bool
  abcd   : Nat
  mask   : Word
deriving DecidableEq, Repr

/-- Settings of a conference (07 Table CF-2). -/
structure ConfSet where
  k     : Nat
  hang  : Nat
  floor : Nat
  spkEv : Bool
deriving DecidableEq, Repr

/-- Settings of a participant (07 Table CF-3). -/
structure PartSet where
  conf : Nat
  role : Nat
  mu   : Bool
  gin  : Int
  gout : Int
deriving DecidableEq, Repr

/-- CNF_MODIFY (10 Table CM-10). -/
structure CnfMod where
  index    : Nat
  isConf   : Bool
  hot      : Bool
  fields   : Nat
  part     : PartSet
  conf     : ConfSet
deriving DecidableEq, Repr

/-- A tone definition block (10 Table CM-15, 07 R216): the eight durations are ON0, OFF0, .., OFF3. -/
structure ToneDef where
  en   : Bool
  rep  : Bool
  f1   : Nat
  f2   : Nat
  a1   : Nat
  a2   : Nat
  durs : List Nat
deriving DecidableEq, Repr

/-- PROT_GROUP (10 Table CM-11, 08 Table SI-2). -/
structure ProtOp where
  op      : Nat
  kind    : Fin 4
  group   : Nat
  w       : Nat
  p       : Nat
  width   : Nat
  bidir   : Bool
  revert  : Bool
  sdEn    : Bool
  timSf   : Bool
  holdoff : Nat
  wtr     : Nat
  lag     : Nat
deriving DecidableEq, Repr

/-- TRACE_SET (10 Table CM-12); the strings are those of its host block. -/
structure TraceOp where
  kind   : Nat
  index  : Nat
  fields : Nat
  fmt    : Nat
  n      : Nat
  cmpEn  : Bool
  rxPort : Nat
  rxS    : Nat
  rxBind : Bool
  txBind : Bool
  txSlot : Nat
  txStr  : List Byte
  exStr  : List Byte
deriving DecidableEq, Repr

/-- STREAM_OPEN (10 Table CM-13). -/
structure StreamOp where
  group    : Nat
  dirIn    : Bool
  dirOut   : Bool
  mu       : Bool
  k        : Nat
  depth    : Nat
  cutT     : Nat
  cku      : Nat
  ckuEn    : Bool
  play     : Bool
  fill     : Byte
  fillLast : Bool
  start    : Word
deriving DecidableEq, Repr

/-- What a highway port sees by a frame sync on one edge of HCK, the rising or the falling one (05 R160, R161): the levels of
HDI in the bit periods since the last sync, eight to a byte and the first most significant, and how many bit periods of HCK the
port has counted from that sync to this one (R162). -/
structure HwySeen where
  bytes   : List Byte
  periods : Nat
deriving DecidableEq, Repr

/-- GFP_OPEN (10 Table CM-13). -/
structure GfpOp where
  ch       : Nat
  dirTx    : Bool
  dirRx    : Bool
  slot     : Nat
  width    : Nat
  upi      : Nat
  pti      : Nat
  pfcs     : Bool
  pscr     : Bool
  chscr    : Bool
  checCorr : Bool
  delta    : Nat
  txThresh : Nat
  maxLen   : Nat
deriving DecidableEq, Repr

/-- DCC_AUTH_CFG (10 Table CM-14). -/
structure DccAuthOp where
  port   : Nat
  ms     : Bool
  txEn   : Bool
  rxEn   : Bool
  txSlot : Nat
  rxSlot : Nat
deriving DecidableEq, Repr

/-- The commands of Table CM-2 with their operands, as a descriptor and its host block spell them. -/
inductive Cmd where
  | nop | fence | fenceAll
  | echo (value : Word)
  | tswSet (o : TswRun)
  | tswPatch (o : TswRun)
  | tswFill (o : TswRun)
  | tswRead (o : TswReadOp)
  | fabricCommit
  | xcSet (o : XcOp)
  | lomapSet (m struct tu11 : Nat)
  | tribCfg (t : Nat) (c : TribSet)
  | sigSet (o : SigOp)
  | cnfCreate (conf : Nat) (o : ConfSet)
  | cnfJoin (p : Nat) (o : PartSet)
  | cnfLeave (p : Nat)
  | cnfModify (o : CnfMod)
  | cnfDestroy (conf : Nat)
  | cnfQuery (addr : DWord) (conf : Nat)
  | protGroup (o : ProtOp)
  | protCmd (kind : Fin 4) (group code : Nat)
  | protQuery (addr : DWord) (kind : Fin 4) (group : Nat)
  | traceSet (o : TraceOp)
  | traceRead (addr : DWord) (kind index : Nat)
  | ohSet (code : Nat) (target : Word) (value : Nat)
  | streamOpen (o : StreamOp)
  | streamClose (g : Nat) (dirIn dirOut : Bool)
  | streamFlush (g : Nat) (dirIn dirOut : Bool)
  | gfpOpen (o : GfpOp)
  | gfpClose (ch : Nat) (dirTx dirRx : Bool)
  | gfpFlush (ch : Nat) (dirTx dirRx : Bool)
  | keyLoad (slot : Nat) (aes256 : Bool) (key : List Byte)
  | keyErase (slot : Nat)
  | dccAuthCfg (o : DccAuthOp)
  | resClaim (rtype rindex lease : Nat)
  | resRelease (rtype rindex : Nat)
  | toneLoad (d : Nat) (t : ToneDef)
  | pmCfg (scope index : Nat) (incl : Bool)
deriving DecidableEq, Repr

/-- Who owns an internal queue (11 R320). -/
inductive QOwner where
  | stream (g : Fin 256)
  | gfpTx (ch : Fin 64)
  | gfpRx (ch : Fin 64)
  | dcc (ch : Fin 64)
deriving DecidableEq, Repr

/-- A set-up register whose EN field claims shared resources (14 R392). -/
inductive ClaimReg where
  | timer (n : Fin 16)
  | refout (m : Fin 2)
  | hwyGroup (g : Fin 8)
  | alt (a : Fin 3)
  | capt (k : Fin 8)
deriving DecidableEq, Repr

/-- A board-management I2C transaction (15 R415): the 7-bit address, the offset bytes and, for a write, the data bytes; for a
read, how many bytes are taken; `stop` is false when it breaks off without a stop condition. -/
structure I2c where
  target : BitVec 7
  offset : Word
  write  : List Byte
  read   : Nat
  stop   : Bool
deriving DecidableEq, Repr

/-- What SFDP discovery finds (15 R411). -/
structure Sfdp where
  instr   : Byte
  dummy   : Byte
  density : Nat
deriving DecidableEq, Repr

/-- The commands of the block, one constructor per row of spec/opcode_table.json, in the table's order. -/
inductive Instr where
  | powerOn (st : Straps)
  | resetN (st : Straps)
  | warmChipRst (st : Straps)
  | glbChipRstRequest (v : Word)
  | perstN
  | flr
  | busMasterEnable
  | busMasterDisable
  | d3hotEntry
  | msixUnmask (v : Option (Fin 64))
  | frameBoundary (i : FrameInputs)
  | storySecond (x : Sample)
  | scrubWord (m : Mem) (hit : Option Bool)
  | calibration
  | snapLatch
  | epochWrite (v : Word)
  | secondOriginWrite (v : Word)
  | timerEnable (n : Fin 16) (v : Word)
  | timerArm (n : Fin 16)
  | timerDisarm (n : Fin 16)
  | tmrFire (n : Fin 16)
  | refoutEnable (m : Fin 2) (v : Word)
  | refDisq (k : Fin 8) (m : RefMeas)
  | refQual (k : Fin 8) (m : RefMeas)
  | dpllLock
  | holdReady
  | oscFail
  | oscSelect
  | portCfgWrite (n : Fin 32) (v : Word)
  | txOffsetWrite (r : OffsetReg) (v : Word)
  | txLineFrame (n : Fin 32) (phase : Nat)
  | rxLineFrame (n : Fin 32) (b : List Byte)
  | lofL (n : Fin 32)
  | losL (n : Fin 32) (absent : Bool)
  | serdesLol (n : Fin 32) (rx : Bool)
  | hopStructWrite (n : Fin 32) (w : Fin 4) (v : Word)
  | traceNew (kind : Fin 3) (index : Nat)
  | rxTribFrame (t : Fin 16384) (t1 : Bool)
  | crc4None (t : Fin 16384)
  | sigHoldoffExpiry (t : Fin 16384)
  | hwyCfgWrite (r : HwyReg) (v : Word)
  | hwyFrameSync (n : Fin 64) (rise fall : HwySeen)
  | hwyFsLoss (n : Fin 64)
  | copybackDone (p : Paged)
  | lanePass
  | collectorWindow (late : Bool)
  | speakerHoldoffExpiry (c : Fin 16384)
  | selectorDecision (kind : Fin 4) (g : Nat)
  | holdoffExpiry (kind : Fin 4) (g : Nat) (side : Bool)
  | wtrExpiry (kind : Fin 4) (g : Nat)
  | protSw (kind : Fin 4) (g : Nat)
  | k1Protocol (i : Fin 16)
  | protExer (i : Fin 16)
  | doorbellWrite (off bytes : Nat) (v : DWord)
  | descriptorAdmission (ring : Fin 64) (d : Desc) (blk : Option (List Byte))
  | consumerIndexWriteback (kind : Fin 10) (ring : Nat)
  | completionWrite (cc : Fin 64)
  | ceStall (ring : Fin 64)
  | ringEnable (kind : Fin 10) (ring : Nat) (v : Word)
  | ringDisable (kind : Fin 10) (ring : Nat)
  | ringReset (kind : Fin 10) (ring : Nat)
  | hifCplTo (kind : Fin 10) (ring : Nat) (second : Bool)
  | nop (h : Hdr)
  | fence (h : Hdr)
  | fenceAll (h : Hdr)
  | echo (h : Hdr) (value : Word)
  | tswSet (h : Hdr) (o : TswRun)
  | tswFill (h : Hdr) (o : TswRun)
  | tswPatch (h : Hdr) (o : TswRun)
  | tswRead (h : Hdr) (o : TswReadOp)
  | fabricCommit (h : Hdr)
  | xcSet (h : Hdr) (o : XcOp)
  | lomapSet (h : Hdr) (m struct tu11 : Nat)
  | tribCfg (h : Hdr) (t : Nat) (c : TribSet)
  | sigSet (h : Hdr) (o : SigOp)
  | cnfCreate (h : Hdr) (conf : Nat) (o : ConfSet)
  | cnfJoin (h : Hdr) (p : Nat) (o : PartSet)
  | cnfLeave (h : Hdr) (p : Nat)
  | cnfModify (h : Hdr) (o : CnfMod)
  | cnfDestroy (h : Hdr) (conf : Nat)
  | cnfQuery (h : Hdr) (addr : DWord) (conf : Nat)
  | toneLoad (h : Hdr) (d : Nat) (t : ToneDef)
  | protGroup (h : Hdr) (o : ProtOp)
  | protCmd (h : Hdr) (kind : Fin 4) (group code : Nat)
  | protQuery (h : Hdr) (addr : DWord) (kind : Fin 4) (group : Nat)
  | traceSet (h : Hdr) (o : TraceOp)
  | traceRead (h : Hdr) (addr : DWord) (kind index : Nat)
  | ohSet (h : Hdr) (code : Nat) (target : Word) (value : Nat)
  | streamOpen (h : Hdr) (o : StreamOp)
  | streamClose (h : Hdr) (g : Nat) (dirIn dirOut : Bool)
  | streamFlush (h : Hdr) (g : Nat) (dirIn dirOut : Bool)
  | gfpOpen (h : Hdr) (o : GfpOp)
  | gfpClose (h : Hdr) (ch : Nat) (dirTx dirRx : Bool)
  | gfpFlush (h : Hdr) (ch : Nat) (dirTx dirRx : Bool)
  | keyLoad (h : Hdr) (slot : Nat) (aes256 : Bool) (key : List Byte)
  | keyErase (h : Hdr) (slot : Nat)
  | dccAuthCfg (h : Hdr) (o : DccAuthOp)
  | resClaim (h : Hdr) (rtype rindex lease : Nat)
  | resRelease (h : Hdr) (rtype rindex : Nat)
  | pmCfg (h : Hdr) (scope index : Nat) (incl : Bool)
  | voiceBlockArrival (g : Fin 256) (d : BufDesc) (b : List Byte)
  | voiceBlockWrite (g : Fin 256) (d : BufDesc)
  | qptr (q : QOwner)
  | gfpTxFrame (ch : Fin 64) (d : BufDesc) (data : List Byte)
  | gfpRxHeader (ch : Fin 64) (addr : DWord) (c : BufCtl)
  | dccTxFrame (d : BufDesc) (buf : List Byte)
  | dccRxFrame (ch : Fin 64) (addr : DWord) (c : BufCtl)
  | cmacDone (slot : Fin 64)
  | leaseExpiry (i : Fin 256)
  | resourceRegisterClaim (r : ClaimReg) (v : Word)
  | captureEdge (gpio : Fin 16) (rise : Bool)
  | captDataRead (k : Fin 8)
  | pmPartWrite (d : BufDesc)
  | pmcSnap
  | pmcFreeze (on : Bool)
  | pmcPreset (j : Fin 13) (v : DWord)
  | pmcOvf (j : Fin 13)
  | legacySense
  | legacyCal
  | legacyScrubReport
  | legacyDone (x : Sample)
  | svcModeWrite (v : Word)
  | logMarkWrite (v : Word)
  | logRidxWrite (v : Word)
  | logCfgWrite (v : Word)
  | collectorTake
  | nmiReturn (mp : Bool)
  | processorReady (p : Fin 7)
  | errPinAssert
  | errPinRelease
  | errPinWidthExpiry
  | firstClr
  | firstClrFatal
  | reactionWrite (v : Word)
  | injUnlock (v : Word)
  | injGo (v : Word)
  | pfail
  | pfailClear
  | procWdt (p : Fin 7)
  | procExc (p : Fin 7) (addr : Word)
  | clkLol (pll : Fin 2)
  | grantWdt (target : Fin 16) (master : Fin 9)
  | busCommit
  | busFreezeWrite (v : Word)
  | bootLoadDone (image : List Byte)
  | bootPushData (v : Word)
  | bootPushTail (v : Word)
  | bootPushEnd
  | i2cTransaction (x : I2c)
  | registerWrite (off bytes : Nat) (v : DWord)
  | serdesLock (n : Fin 32) (rx : Bool)
  | sfdpDiscovery (r : Option Sfdp)
  | powerLoss
  | linkUp (up : Bool) (width speed : Nat)
  | d0Entry
  | i2cIdleTimeout
deriving DecidableEq, Repr

end Sys2Proof
end

