-- ==== Sys2Proof/Machine/Bits.lean ====
section
/-! DEFINITION. Bit fields, byte order, parity and serial frame arithmetic (00_scope.md R6, 02_story_pole.md R39). -/

namespace Sys2Proof.Machine

/-- Field [lo+w-1 : lo] of a word, as a number. -/
def fld (v : Nat) (lo w : Nat) : Nat := (v >>> lo) % 2 ^ w

/-- Field of a register word. -/
def wfld (v : Word) (lo w : Nat) : Nat := fld v.toNat lo w

/-- Bit `i` of a register word. -/
def wbit (v : Word) (i : Nat) : Bool := v.getLsbD i

/-- `v` placed in a field [lo+w-1 : lo] of a word otherwise 0. -/
def put (v lo w : Nat) : Nat := (v % 2 ^ w) <<< lo

/-- One bit at place `lo`. -/
def putB (b : Bool) (lo : Nat) : Nat := if b then 1 <<< lo else 0

def b2n (b : Bool) : Nat := if b then 1 else 0

/-- The bytes of a number, least significant first. -/
def leBytes : Nat → Nat → List Byte
  | 0, _ => []
  | n + 1, v => BitVec.ofNat 8 v :: leBytes n (v >>> 8)

/-- The number that little-endian bytes spell. -/
def leNat : List Byte → Nat
  | [] => 0
  | b :: r => b.toNat + 256 * leNat r

/-- The number that big-endian bytes spell. -/
def beNat (l : List Byte) : Nat := leNat l.reverse

/-- Byte `i` of a list, 0 beyond its end. -/
def byteAt (l : List Byte) (i : Nat) : Byte := l.getD i 0

/-- The `n` bytes from `i`, padded with 0 beyond the list's end. -/
def bytesAt (l : List Byte) (i n : Nat) : List Byte := (List.range n).map (fun j => byteAt l (i + j))

/-- How many bits of a number below `2 ^ n` are 1. -/
def popcount : Nat → Nat → Nat
  | 0, _ => 0
  | n + 1, v => v % 2 + popcount n (v / 2)

/-- BIP-8: bit by bit even parity over the bytes (03_line_ports.md R77, 04_paths_and_traces.md R110). -/
def bip8 (l : List Byte) : Byte := l.foldl (fun a b => a ^^^ b) 0

/-- How many of the 8 bits of a parity byte disagree. -/
def bipErrors (a b : Byte) : Nat := popcount 8 (a ^^^ b).toNat

/-- Even parity of a number's low `n` bits. -/
def parity (n v : Nat) : Bool := popcount n v % 2 = 1

/-- The bits of a byte, most significant first. -/
def byteBits (b : Byte) : List Bool := (List.range 8).map (fun i => b.getLsbD (7 - i))

/-- The bits of bytes, most significant first. -/
def bitsOf (l : List Byte) : List Bool := l.flatMap byteBits

/-- A byte from up to 8 bits, most significant first. -/
def byteOfBits (l : List Bool) : Byte :=
  BitVec.ofNat 8 ((l.take 8).foldl (fun a b => 2 * a + b2n b) 0 * 2 ^ (8 - min 8 l.length))

/-- Frame `a` lies after frame `b` (R39): the difference mod 2^32 lies in 1 .. 2^31 - 1. -/
def after (a b : Word) : Bool :=
  decide (1 ≤ (a - b).toNat) && decide ((a - b).toNat ≤ 2 ^ 31 - 1)

/-- The frames from `b` on to `a` (R39), meaningful only when `after a b`. -/
def distance (a b : Word) : Nat := (a - b).toNat

/-- Frame `a` is `b` or lies after it. -/
def notBefore (a b : Word) : Bool := decide (a = b) || after a b

/-- Saturating increment of a counter of `w` bits. -/
def satInc (w : Nat) (v n : Nat) : Nat := min (v + n) (2 ^ w - 1)

/-- A limit: values outside `lo .. hi` are treated as the nearer limit. -/
def clamp (lo hi v : Nat) : Nat := max lo (min hi v)

/-- The signed number of a two's complement field of `w` bits. -/
def sgn (w v : Nat) : Int := if v % 2 ^ w < 2 ^ (w - 1) then (v % 2 ^ w : Nat) else ((v % 2 ^ w : Nat) : Int) - (2 ^ w : Nat)

/-- Ceiling division. -/
def cdiv (a b : Nat) : Nat := (a + b - 1) / b

/-- The indexes 0 .. n-1 that satisfy `p`. -/
def upTo (n : Nat) (p : Nat → Bool) : List Nat := (List.range n).filter p

/-- Fold a state change over a list. -/
def foldS {σ α : Type} (l : List α) (f : α → σ → σ) (s : σ) : σ := l.foldl (fun s a => f a s) s

/-- Carry out a change only under a condition. -/
def whenS {σ : Type} (c : Bool) (f : σ → σ) (s : σ) : σ := if c then f s else s

end Sys2Proof.Machine
end

