-- ==== Sys2Proof/Machine/Codec.lean ====
section
/-! DEFINITION. Arithmetic of samples and codes: G.711 (06 R166, R167; 07 R197-R201), tones (07 R216), check values
(11 R316), the scramblers of the line and of GFP (03 R76, 11 R322), the trace CRC-7 (04 R124). -/

namespace Sys2Proof.Machine

/-! ### G.711 -/

/-- A-law expansion (07 R197). -/
def expandA (b : Byte) : Int :=
  let a := (b ^^^ 0x55).toNat
  let s := fld a 4 3
  let q := fld a 0 4
  let t : Nat := if s = 0 then 16 * q + 8 else (16 * q + 264) * 2 ^ (s - 1)
  if a ≥ 128 then t else -t

/-- µ-law expansion (07 R197). -/
def expandU (b : Byte) : Int :=
  let u := (~~~ b).toNat
  let t : Nat := (8 * fld u 0 4 + 132) * 2 ^ fld u 4 3
  if u < 128 then (t : Int) - 132 else 132 - (t : Int)

/-- Expansion in a law (`mu` true: µ-law). -/
def expand (mu : Bool) (b : Byte) : Int := if mu then expandU b else expandA b

/-- The least segment whose top reaches the magnitude, at most 7. -/
def segment (top mag : Nat) : Nat := ((List.range 7).find? (fun s => decide (mag ≤ top * 2 ^ s - 1))).getD 7

/-- A-law encoding (07 R201). -/
def encodeA (w : Int) : Byte :=
  let v := w / 8
  let mag := (if v ≥ 0 then v else -v - 1).toNat
  let s := segment 32 mag
  let step := if s < 2 then mag / 2 % 16 else mag / 2 ^ s % 16
  BitVec.ofNat 8 (16 * s + step) ^^^ (if v ≥ 0 then 0xD5#8 else 0x55#8)

/-- µ-law encoding (07 R201). -/
def encodeU (w : Int) : Byte :=
  let v := w / 4
  let mag := min (if v ≥ 0 then v else -v).toNat 8158 + 33
  let s := segment 64 mag
  BitVec.ofNat 8 (16 * s + mag / 2 ^ (s + 1) % 16) ^^^ (if v ≥ 0 then 0xFF#8 else 0x7F#8)

def encode (mu : Bool) (w : Int) : Byte := if mu then encodeU w else encodeA w

/-- The idle byte of a law (06 R163). -/
def idle (mu : Bool) : Byte := if mu then 0xFF else 0xD5

/-- G.711 table of µ-law to A-law conversion, decision value numbers by µ-law number. PRESUMED: the manual names the
table and does not print it (assumption 6). -/
def u2aTab : List Nat :=
  [1, 1, 2, 2, 3, 3, 4, 4, 5, 5, 6, 6, 7, 7, 8, 8, 9, 10, 11, 12, 13, 14, 15, 16,
   17, 18, 19, 20, 21, 22, 23, 24, 25, 27, 29, 31, 33, 34, 35, 36, 37, 38, 39, 40, 41, 42, 43, 44,
   46, 48, 49, 50, 51, 52, 53, 54, 55, 56, 57, 58, 59, 60, 61, 62, 64, 65, 66, 67, 68, 69, 70, 71,
   72, 73, 74, 75, 76, 77, 78, 79, 80, 82, 83, 84, 85, 86, 87, 88, 89, 90, 91, 92, 93, 94, 95, 96,
   97, 98, 99, 100, 101, 102, 103, 104, 105, 106, 107, 108, 109, 110, 111, 112, 113, 114, 115, 116, 117, 118, 119, 120,
   121, 122, 123, 124, 125, 126, 127, 128]

/-- G.711 table of A-law to µ-law conversion. PRESUMED (assumption 6). -/
def a2uTab : List Nat :=
  [1, 3, 5, 7, 9, 11, 13, 15, 16, 17, 18, 19, 20, 21, 22, 23, 24, 25, 26, 27, 28, 29, 30, 31,
   32, 32, 33, 33, 34, 34, 35, 35, 36, 37, 38, 39, 40, 41, 42, 43, 44, 45, 46, 47, 48, 48, 49, 49,
   50, 51, 52, 53, 54, 55, 56, 57, 58, 59, 60, 61, 62, 63, 64, 64, 65, 66, 67, 68, 69, 70, 71, 72,
   73, 74, 75, 76, 77, 78, 79, 80, 80, 81, 82, 83, 84, 85, 86, 87, 88, 89, 90, 91, 92, 93, 94, 95,
   96, 97, 98, 99, 100, 101, 102, 103, 104, 105, 106, 107, 108, 109, 110, 111, 112, 113, 114, 115, 116, 117, 118, 119,
   120, 121, 122, 123, 124, 125, 126, 127]

/-- µ-law to A-law by the table of G.711 (06 R166). -/
def convUA (b : Byte) : Byte :=
  if b.toNat ≥ 128 then 0xD5#8 ^^^ BitVec.ofNat 8 (u2aTab.getD (0xFF#8 ^^^ b).toNat 1 - 1)
  else 0x55#8 ^^^ BitVec.ofNat 8 (u2aTab.getD (0x7F#8 ^^^ b).toNat 1 - 1)

/-- A-law to µ-law by the table of G.711 (06 R166). -/
def convAU (b : Byte) : Byte :=
  if b.toNat ≥ 128 then 0xFF#8 ^^^ BitVec.ofNat 8 (a2uTab.getD (b ^^^ 0xD5#8).toNat 0)
  else 0x7F#8 ^^^ BitVec.ofNat 8 (a2uTab.getD (b ^^^ 0x55#8).toNat 0)

/-- Attenuation factors (06 Table TR-4). -/
def padFactor : List Nat :=
  [32768, 30935, 29205, 27571, 26029, 24573, 23198, 21900, 20675, 19519, 18427, 17396, 16423, 15504, 14637, 13818]

/-- An attenuated byte (06 R167): source law, output law, PAD. -/
def attenuate (srcMu outMu : Bool) (pad : Nat) (b : Byte) : Byte :=
  encode outMu ((expand srcMu b * (padFactor.getD pad 0 : Nat) + 2 ^ 14) / 2 ^ 15)

/-- Gain factors m(G), G = -48 .. 24: round(16,384 x 10^(G/40)) (07 R198, Table CF-5). -/
def gainTab : List Nat :=
  [1034, 1095, 1160, 1229, 1301, 1379, 1460, 1547, 1638, 1735, 1838, 1947, 2063, 2185, 2314, 2451, 2597, 2751,
   2914, 3086, 3269, 3463, 3668, 3885, 4115, 4359, 4618, 4891, 5181, 5488, 5813, 6158, 6523, 6909, 7318, 7752,
   8211, 8698, 9213, 9759, 10338, 10950, 11599, 12286, 13014, 13785, 14602, 15467, 16384, 17355, 18383, 19472, 20626, 21848,
   23143, 24514, 25967, 27506, 29135, 30862, 32690, 34627, 36679, 38853, 41155, 43593, 46176, 48913, 51811, 54881, 58133, 61577,
   65226]

/-- A gain code applied to a value (07 R198). -/
def gain (g v : Int) : Int := (v * (gainTab.getD (g + 48).toNat 16384 : Nat) + 2 ^ 13) / 2 ^ 14

/-- Saturation to 16 bits (07 R200). -/
def sat16 (v : Int) : Int := max (-32768) (min 32767 v)

/-! ### Tones (07 R216) -/

/-- Terms of the sine series in units of 2^-62. -/
def sinSeries : Nat → Int → Int → Nat → Int
  | 0, _, _, _ => 0
  | n + 1, t, x2, k => t + sinSeries n (-(t * x2 / 2 ^ 62) / (((k + 1) * (k + 2) : Nat) : Int)) x2 (k + 2)

/-- 2 pi / 4,096 in units of 2^-62. -/
def angleUnit : Int := 7074237752028440

/-- round(32,767 x sin(2 pi i / 4,096)) for the first quarter, 0 .. 1,024. -/
def sinQuarter (i : Nat) : Int :=
  let x := angleUnit * i
  (32767 * sinSeries 14 x (x * x / 2 ^ 62) 1 + 2 ^ 61) / 2 ^ 62

/-- SIN[i] of 07 R216. -/
def sinTab (i : Nat) : Int :=
  let j := i % 4096
  if j ≤ 1024 then sinQuarter j else if j ≤ 2048 then sinQuarter (2048 - j)
  else if j ≤ 3072 then -sinQuarter (j - 2048) else -sinQuarter (4096 - j)

/-- The phase increment of a frequency in 0.1 Hz (07 R216). -/
def toneInc (f : Nat) : Nat := (f * 2 ^ 32 + 40000) / 80000

/-- The sample of a tone `n` frames after its load (07 R216). -/
def toneSample (f1 f2 a1 a2 n : Nat) : Int :=
  let ph (f : Nat) := n * toneInc f % 2 ^ 32 / 2 ^ 20
  ((a1 : Int) * sinTab (ph f1) + (a2 : Int) * sinTab (ph f2) + 2 ^ 14) / 2 ^ 15

/-- A cadence position lies in an ON segment: the durations are ON0, OFF0, ON1, ... (07 R216). -/
def cadenceOn : List Nat → Nat → Bool → Bool
  | [], _, _ => false
  | d :: r, n, on => if n < d then on else cadenceOn r (n - d) (!on)

/-- Whether a tone sounds at cadence position `n` (07 R216). -/
def toneOn (durs : List Nat) (rep : Bool) (n : Nat) : Bool :=
  let p := durs.foldl (· + ·) 0
  if p = 0 then true else if rep then cadenceOn durs (n % p) true else decide (n < p) && cadenceOn durs n true

/-! ### Check values -/

/-- One bit shifted into a CRC register of `w` bits. -/
def crcBit (w poly reg : Nat) (b : Bool) : Nat :=
  let top : Bool := (reg / 2 ^ (w - 1)) % 2 = 1
  let r := reg * 2 % 2 ^ w
  if top ≠ b then r ^^^ (poly % 2 ^ w) else r

/-- The register after a run of bits. -/
def crcBits (w poly : Nat) (reg : Nat) (l : List Bool) : Nat := l.foldl (crcBit w poly) reg

/-- A number's low `w` bits reversed. -/
def reflect : Nat → Nat → Nat
  | 0, _ => 0
  | w + 1, v => v % 2 * 2 ^ w + reflect w (v / 2)

/-- The check value of 11 R316. -/
def crc (w poly init xorout : Nat) (refin refout : Bool) (msg : List Byte) : Nat :=
  let bits := msg.flatMap (fun b => if refin then (byteBits b).reverse else byteBits b)
  let r := crcBits w poly (init % 2 ^ w) bits
  (if refout then reflect w r else r) ^^^ (xorout % 2 ^ w)

/-- CRC-16 of HDLC frames (ISO/IEC 13239, 11 R329). PRESUMED parameters (assumption 7). -/
def fcs16 (l : List Byte) : Nat := crc 16 0x1021 0xFFFF 0xFFFF true true l
/-- CRC-32 of HDLC frames (ISO/IEC 13239, 11 R329). PRESUMED parameters (assumption 7). -/
def fcs32 (l : List Byte) : Nat := crc 32 0x04C11DB7 0xFFFFFFFF 0xFFFFFFFF true true l
/-- cHEC and tHEC of GFP (G.7041). PRESUMED parameters (assumption 7). -/
def hec16 (l : List Byte) : Nat := crc 16 0x1021 0 0 false false l
/-- pFCS of GFP (G.7041). PRESUMED parameters (assumption 7). -/
def pfcs32 (l : List Byte) : Nat := crc 32 0x04C11DB7 0xFFFFFFFF 0xFFFFFFFF false false l
/-- CRC-7 of a trace string (04 R124): x^7 + x^3 + 1. -/
def crc7 (l : List Byte) : Nat := crc 7 0x09 0 0 false false l
/-- CRC-4 of an E1 sub-multiframe (G.704): x^4 + x + 1. PRESUMED parameters (assumption 7). -/
def crc4 (l : List Bool) : Nat := crcBits 4 0x3 0 l
/-- CRC-6 of a T1 superframe (G.704): x^6 + x + 1. PRESUMED parameters (assumption 7). -/
def crc6 (l : List Bool) : Nat := crcBits 6 0x3 0 l

/-! ### Scramblers -/

/-- The frame-synchronous scrambler 1 + x^6 + x^7 (03 R76): one byte of its sequence and the next register. -/
def scrByte (r : Nat) : Nat × Nat :=
  (List.range 8).foldl (fun (st : Nat × Nat) _ =>
    let out := st.2 / 64 % 2
    let fb := (st.2 / 64 + st.2 / 32) % 2
    (st.1 * 2 + out, st.2 * 2 % 128 + fb)) (0, r)

/-- Bytes XORed with the sequence from register `r`. -/
def scrambleFrom : Nat → List Byte → List Byte
  | _, [] => []
  | r, b :: l => (b ^^^ BitVec.ofNat 8 (scrByte r).1) :: scrambleFrom (scrByte r).2 l

/-- Scramble or descramble a line frame whose first `n` bytes are the first row of the RS overhead (03 R76). -/
def scrambleFrame (n : Nat) (l : List Byte) : List Byte := l.take n ++ scrambleFrom 127 (l.drop n)

/-- Bytes from bits, eight at a time. -/
def packBits : Nat → List Bool → List Byte
  | 0, _ => []
  | n + 1, l => byteOfBits (l.take 8) :: packBits n (l.drop 8)

/-- Self-synchronous x^43 + 1 (11 R322, R327): each bit with the bit 43 before it on the line; `hist` holds the last 43
line bits, latest first. `rx` descrambles. -/
def scr43 (rx : Bool) : List Bool → List Bool → List Bool × List Bool
  | hist, [] => ([], hist)
  | hist, b :: l =>
    let o := b ^^ hist.getD 42 false
    let line := if rx then b else o
    let r := scr43 rx ((line :: hist).take 43) l
    (o :: r.1, r.2)

def scr43Bytes (rx : Bool) (hist : List Bool) (l : List Byte) : List Byte × List Bool :=
  let r := scr43 rx hist (bitsOf l)
  (packBits l.length r.1, r.2)

end Sys2Proof.Machine
end

