-- ==== Sys2Proof/Config.lean ====
section
/-! DEFINITION. What the spec leaves open: values without a body. No file gives any of them a value. -/

namespace Sys2Proof.Config

/-- The 256-bit image key that SP copies from OTP into K0 (14_keys_locks_resources.md, R380);
the manual does not give it. Byte `i` of the key, `i < 32`. Assumption 3. -/
opaque otpKey : Nat → Byte

/-- A value the spec leaves open, one per use: applied to the model's own counter `State.freeIdx`.
Assumption 4. -/
opaque freeByte : Nat → Byte

/-- The fuse behind GLB.REV.GRADE (16_register_map.md R420): true for the ZN6410-A0I. -/
opaque gradeI : Bool

end Sys2Proof.Config
end

