-- ==== Sys2Proof/Machine/Kinds.lean ====
section
/-! DEFINITION. The kind codes of Table FT-5 (13_faults.md R378), each with its class (R361). -/

namespace Sys2Proof.Machine

/-- Kinds of message, in the order of Table FT-5. -/
inductive Kind where
  | sramCe | sramUe | qptr | procWdt | procExc | grantWdt | serdesLol | refDisq
  | refQual | refSwitch | qlChange | dpllLock | dpllHoldover | dpllFreerun | oscFail | stpEpoch
  | tmrFire | stpCnt | losL | oofL | lofL | aisL | rdiL | timJ0
  | excL | degL | kunstL | qlRx | aisP | lopP | uneqP | plmP
  | timJ1 | rdiP | excP | degP | lomP | traceNew | xcMismatch | aisV
  | lopV | uneqV | plmV | timJ2 | rdiV | excV | degV | losT
  | aisT | lofT | lomfT | losmfT | raiT | rmaiT | tagT | slipT
  | sigChange | saChange | fdlBom | crc4None | hwySlip | hwyFsLoss | cmCe | cmUe
  | dmCe | dmUe | cnfStCe | cnfStUe | cnfRsCe | cnfRsUe | cnfColUe | cnfColLate
  | cnfSpeaker | protSw | protFop | protModeMm | protCmdDrop | protExer | mergeDiff | mergeBoth
  | prtStCe | prtStUe | hifDbErr | hifDescErr | hifCplTo | ceStall | dueCe | dueUe
  | strLate | strCkuFail | strOutDrop | gfpLfd | dccAuthFail | dccKeyEx | pmLost | pmcOvf
  | sensTemp | sensCrit | sensVolt | pfail | lockBroken | bootFail | clkLol | epochRec
  | resetRec
deriving DecidableEq, Repr

/-- Code of a kind (Table FT-5). -/
def Kind.code : Kind → Nat
  | .sramCe => 0x01 | .sramUe => 0x02 | .qptr => 0x03 | .procWdt => 0x04 | .procExc => 0x05
  | .grantWdt => 0x06 | .serdesLol => 0x07 | .refDisq => 0x10 | .refQual => 0x11 | .refSwitch => 0x12
  | .qlChange => 0x13 | .dpllLock => 0x14 | .dpllHoldover => 0x15 | .dpllFreerun => 0x16 | .oscFail => 0x17
  | .stpEpoch => 0x18 | .tmrFire => 0x19 | .stpCnt => 0x1A | .losL => 0x20 | .oofL => 0x21
  | .lofL => 0x22 | .aisL => 0x23 | .rdiL => 0x24 | .timJ0 => 0x25 | .excL => 0x26
  | .degL => 0x27 | .kunstL => 0x28 | .qlRx => 0x29 | .aisP => 0x30 | .lopP => 0x31
  | .uneqP => 0x32 | .plmP => 0x33 | .timJ1 => 0x34 | .rdiP => 0x35 | .excP => 0x36
  | .degP => 0x37 | .lomP => 0x38 | .traceNew => 0x39 | .xcMismatch => 0x3A | .aisV => 0x40
  | .lopV => 0x41 | .uneqV => 0x42 | .plmV => 0x43 | .timJ2 => 0x44 | .rdiV => 0x45
  | .excV => 0x46 | .degV => 0x47 | .losT => 0x50 | .aisT => 0x51 | .lofT => 0x52
  | .lomfT => 0x53 | .losmfT => 0x54 | .raiT => 0x55 | .rmaiT => 0x56 | .tagT => 0x57
  | .slipT => 0x58 | .sigChange => 0x59 | .saChange => 0x5A | .fdlBom => 0x5B | .crc4None => 0x5C
  | .hwySlip => 0x5D | .hwyFsLoss => 0x5E | .cmCe => 0x60 | .cmUe => 0x61 | .dmCe => 0x62
  | .dmUe => 0x63 | .cnfStCe => 0x68 | .cnfStUe => 0x69 | .cnfRsCe => 0x6A | .cnfRsUe => 0x6B
  | .cnfColUe => 0x6C | .cnfColLate => 0x6D | .cnfSpeaker => 0x6E | .protSw => 0x70 | .protFop => 0x71
  | .protModeMm => 0x72 | .protCmdDrop => 0x73 | .protExer => 0x74 | .mergeDiff => 0x75 | .mergeBoth => 0x76
  | .prtStCe => 0x77 | .prtStUe => 0x78 | .hifDbErr => 0x80 | .hifDescErr => 0x81 | .hifCplTo => 0x82
  | .ceStall => 0x88 | .dueCe => 0x89 | .dueUe => 0x8A | .strLate => 0x90 | .strCkuFail => 0x91
  | .strOutDrop => 0x92 | .gfpLfd => 0x93 | .dccAuthFail => 0x94 | .dccKeyEx => 0x95 | .pmLost => 0xA0
  | .pmcOvf => 0xA1 | .sensTemp => 0xA2 | .sensCrit => 0xA3 | .sensVolt => 0xA4 | .pfail => 0xA5
  | .lockBroken => 0xB0 | .bootFail => 0xB1 | .clkLol => 0xB2 | .epochRec => 0xF0 | .resetRec => 0xF1

/-- Class of a kind (Table FT-5): 0 corrected, 1 contained, 2 fatal, 3 NET (Table FT-1). -/
def Kind.cls : Kind → Nat
  | .sramCe | .cmCe | .dmCe | .cnfStCe | .cnfRsCe | .prtStCe | .dueCe | .sensTemp => 0
  | .sensVolt => 0
  | .sramUe | .qptr | .procWdt | .procExc | .grantWdt | .serdesLol | .oscFail | .xcMismatch => 1
  | .cmUe | .dmUe | .cnfStUe | .cnfRsUe | .cnfColUe | .prtStUe | .hifDbErr | .hifDescErr => 1
  | .hifCplTo | .ceStall | .dueUe | .sensCrit | .pfail | .bootFail => 1
  | .stpCnt | .cnfColLate | .clkLol => 2
  | .refDisq | .refQual | .refSwitch | .qlChange | .dpllLock | .dpllHoldover | .dpllFreerun | .stpEpoch
  | .tmrFire | .losL | .oofL | .lofL | .aisL | .rdiL | .timJ0 | .excL
  | .degL | .kunstL | .qlRx | .aisP | .lopP | .uneqP | .plmP | .timJ1
  | .rdiP | .excP | .degP | .lomP | .traceNew | .aisV | .lopV | .uneqV
  | .plmV | .timJ2 | .rdiV | .excV | .degV | .losT | .aisT | .lofT
  | .lomfT | .losmfT | .raiT | .rmaiT | .tagT | .slipT | .sigChange | .saChange
  | .fdlBom | .crc4None | .hwySlip | .hwyFsLoss | .cnfSpeaker | .protSw | .protFop | .protModeMm
  | .protCmdDrop | .protExer | .mergeDiff | .mergeBoth | .strLate | .strCkuFail | .strOutDrop | .gfpLfd
  | .dccAuthFail | .dccKeyEx | .pmLost | .pmcOvf | .lockBroken | .epochRec | .resetRec => 3

end Sys2Proof.Machine
end

