-- ==== Sys2Proof/Machine/Regs.lean ====
section
/-! DEFINITION. The register map (16_register_map.md, Tables RG-2 to RG-9): every 32-bit word BAR0 decodes, the reset
value of its stored bits and which of its bits a write stores. Words that hardware keeps (RO, W1C, WO and the window
registers) have no stored bits here; Read.lean computes what they return and RegWrite.lean what a write does. -/

namespace Sys2Proof.Machine

/-- A run of `count` words, `stride` bytes apart, with the reset value and the writable bits of each. -/
structure RegRow where
  base   : Nat
  stride : Nat
  count  : Nat
  reset  : Nat
  rw     : Nat
deriving DecidableEq, Repr

def regsGlb : List RegRow := [
  ⟨0x0, 0x4, 3, 0x0, 0x0⟩,
  ⟨0xC, 0x4, 1, 0x0, 0x1⟩,
  ⟨0x10, 0x4, 1, 0x0, 0x1⟩,
  ⟨0x14, 0x4, 1, 0x0, 0x0⟩,
  ⟨0x18, 0x4, 1, 0x0, 0xFFFFFFFF⟩,
  ⟨0x1C, 0x4, 1, 0x0, 0x0⟩]

def regsStp : List RegRow := [
  ⟨0x1000, 0x4, 3, 0x0, 0x0⟩,
  ⟨0x1010, 0x4, 2, 0x0, 0x0⟩,
  ⟨0x1018, 0x4, 1, 0x0, 0xFFFFFFFF⟩,
  ⟨0x101C, 0x4, 1, 0x0, 0x0⟩,
  ⟨0x1020, 0x4, 1, 0x0, 0x0⟩,
  ⟨0x1024, 0x4, 1, 0x2B00012C, 0xFF0F03FF⟩,
  ⟨0x1028, 0x4, 1, 0x0, 0x0⟩,
  ⟨0x102C, 0x4, 1, 0x8, 0x1F⟩,
  ⟨0x1030, 0x4, 1, 0x0, 0x0⟩,
  ⟨0x1040, 0x8, 8, 0xF0F0000, 0x8F8FF01F⟩,
  ⟨0x1044, 0x8, 8, 0x0, 0x0⟩,
  ⟨0x1080, 0x4, 2, 0xB000000, 0xBF000007⟩,
  ⟨0x1088, 0x4, 1, 0x0, 0xFFF⟩,
  ⟨0x1100, 0x4, 8, 0x0, 0xFFF⟩,
  ⟨0x1200, 0x20, 16, 0x100, 0x9EF0FF00⟩,
  ⟨0x1208, 0x20, 16, 0x0, 0xFFF⟩,
  ⟨0x120C, 0x20, 16, 0x0, 0xFFFFFFFF⟩,
  ⟨0x1210, 0x20, 16, 0x0, 0xFFFFFFFF⟩,
  ⟨0x1214, 0x20, 16, 0x0, 0x0⟩,
  ⟨0x1218, 0x20, 16, 0x0, 0x0⟩]

def regsHif : List RegRow := [
  ⟨0x2000, 0x4, 1, 0x0, 0x0⟩,
  ⟨0x2004, 0x4, 1, 0x1, 0x1⟩,
  ⟨0x2008, 0x4, 5, 0x0, 0x0⟩,
  ⟨0x2100, 0x4, 1, 0x0, 0xF00FF⟩,
  ⟨0x2108, 0x4, 9, 0x0, 0x0⟩,
  ⟨0x2200, 0x4, 1, 0x0, 0x0⟩,
  ⟨0x2204, 0x4, 1, 0x40, 0xFFFF⟩,
  ⟨0x2208, 0x4, 2, 0x0, 0x0⟩,
  ⟨0x2210, 0x4, 1, 0x0, 0xFFFFFFFF⟩,
  ⟨0x2214, 0x4, 3, 0x0, 0x0⟩]

def regsMsix : List RegRow := [
  ⟨0x3000, 0x4, 256, 0x0, 0x0⟩,
  ⟨0x3800, 0x4, 2, 0x0, 0x0⟩]

def regsFlt : List RegRow := [
  ⟨0x4000, 0x4, 2, 0x0, 0x0⟩,
  ⟨0x4008, 0x4, 1, 0xA, 0x3FF⟩,
  ⟨0x400C, 0x4, 1, 0x0, 0x4⟩,
  ⟨0x4010, 0x4, 1, 0x3, 0x3⟩,
  ⟨0x4014, 0x4, 1, 0x0, 0x0⟩,
  ⟨0x4020, 0x4, 16, 0x0, 0x0⟩,
  ⟨0x4080, 0x4, 1, 0x0, 0x7FF⟩,
  ⟨0x4084, 0x4, 1, 0x0, 0x0⟩,
  ⟨0x4100, 0x4, 32, 0x0, 0x0⟩,
  ⟨0x4180, 0x4, 1, 0x0, 0x0⟩,
  ⟨0x4184, 0x4, 1, 0x0, 0x7FFC00FF⟩,
  ⟨0x4188, 0x4, 1, 0x0, 0xFFFFFFFF⟩]

def regsLog : List RegRow := [
  ⟨0x5000, 0x4, 1, 0x0, 0x7⟩,
  ⟨0x5004, 0x4, 5, 0x0, 0x0⟩,
  ⟨0x5020, 0x4, 1, 0x0, 0x3FFF⟩,
  ⟨0x5024, 0x4, 8, 0x0, 0x0⟩]

def regsPmc : List RegRow := [
  ⟨0x6000, 0x4, 1, 0x0, 0x80001F02⟩,
  ⟨0x6004, 0x4, 1, 0x0, 0x0⟩,
  ⟨0x6008, 0x4, 4, 0x0, 0x0⟩,
  ⟨0x6020, 0x4, 8, 0x0, 0xE03F00FF⟩,
  ⟨0x6100, 0x4, 26, 0x0, 0x0⟩,
  ⟨0x6180, 0x4, 26, 0x0, 0x0⟩]

def regsSec : List RegRow := [
  ⟨0x7000, 0x4, 1, 0x0, 0x3F⟩,
  ⟨0x7004, 0x4, 4, 0x0, 0x0⟩,
  ⟨0x7014, 0x4, 1, 0x0, 0x1⟩,
  ⟨0x7100, 0x4, 1, 0x0, 0xFF⟩,
  ⟨0x7104, 0x4, 4, 0x0, 0x0⟩]

def regsBus : List RegRow := [
  ⟨0x8000, 0x4, 1, 0x8, 0xF⟩,
  ⟨0x8004, 0x4, 1, 0x4, 0xF⟩,
  ⟨0x8008, 0x4, 1, 0xC, 0xF⟩,
  ⟨0x800C, 0x4, 1, 0xA, 0xF⟩,
  ⟨0x8010, 0x4, 1, 0xA, 0xF⟩,
  ⟨0x8014, 0x4, 1, 0xA, 0xF⟩,
  ⟨0x8018, 0x4, 1, 0xA, 0xF⟩,
  ⟨0x801C, 0x4, 1, 0x6, 0xF⟩,
  ⟨0x8020, 0x4, 1, 0x2, 0xF⟩,
  ⟨0x8040, 0x4, 1, 0x0, 0x0⟩,
  ⟨0x8044, 0x4, 1, 0x0, 0xFDFF⟩,
  ⟨0x8048, 0x4, 1, 0x0, 0x0⟩,
  ⟨0x804C, 0x4, 1, 0x1000, 0xFFFF⟩,
  ⟨0x8050, 0x4, 1, 0x0, 0x0⟩,
  ⟨0x8058, 0x4, 3, 0x0, 0x0⟩]

def regsBoot : List RegRow := [
  ⟨0x9000, 0x4, 3, 0x0, 0x0⟩,
  ⟨0x9010, 0x4, 4, 0x0, 0x0⟩]

def regsLpt : List RegRow := [
  ⟨0x10000, 0x400, 32, 0x0, 0x800000F7⟩,
  ⟨0x10004, 0x400, 32, 0x10, 0x3F0FF1F⟩,
  ⟨0x10008, 0x400, 32, 0x280203, 0x7F070F⟩,
  ⟨0x1000C, 0x400, 32, 0x13, 0x1F⟩,
  ⟨0x10010, 0x400, 32, 0x63, 0xFF⟩,
  ⟨0x10014, 0x400, 32, 0x0, 0x3⟩,
  ⟨0x10018, 0x400, 32, 0x0, 0x0⟩,
  ⟨0x1001C, 0x400, 32, 0x0, 0x0⟩,
  ⟨0x10020, 0x400, 32, 0x0, 0x7FE⟩,
  ⟨0x10024, 0x400, 32, 0x0, 0x0⟩,
  ⟨0x10028, 0x400, 32, 0x0, 0x0⟩,
  ⟨0x1002C, 0x400, 32, 0x0, 0x0⟩,
  ⟨0x10030, 0x400, 32, 0x0, 0x0⟩,
  ⟨0x10034, 0x400, 32, 0x0, 0x0⟩,
  ⟨0x10038, 0x400, 32, 0x0, 0x0⟩,
  ⟨0x10040, 0x400, 32, 0x0, 0x87000FFF⟩,
  ⟨0x10044, 0x400, 32, 0x0, 0xF⟩]

def regsHop : List RegRow := [
  ⟨0x20000, 0x4, 1, 0x108, 0x10F⟩,
  ⟨0x20004, 0x4, 1, 0x6363, 0xFFFF⟩,
  ⟨0x20008, 0x4, 1, 0x0, 0x3FE03FE⟩,
  ⟨0x2000C, 0x4, 1, 0x0, 0x0⟩,
  ⟨0x20010, 0x4, 1, 0x0, 0x80001FFF⟩,
  ⟨0x20014, 0x4, 2, 0x0, 0x0⟩,
  ⟨0x20100, 0x4, 128, 0x0, 0xFFFFFFFF⟩]

def regsTrb : List RegRow := [
  ⟨0x30000, 0x4, 1, 0x0, 0x1FFF⟩,
  ⟨0x30004, 0x4, 1, 0x0, 0x0⟩,
  ⟨0x30010, 0x4, 1, 0x0, 0x3FFF⟩,
  ⟨0x30014, 0x4, 2, 0x0, 0x0⟩,
  ⟨0x30020, 0x4, 1, 0x0, 0x1FF⟩,
  ⟨0x30024, 0x4, 1, 0x0, 0x0⟩]

def regsTsw : List RegRow := [
  ⟨0x40000, 0x4, 3, 0x0, 0x0⟩,
  ⟨0x40010, 0x4, 1, 0x0, 0x800FFFFF⟩,
  ⟨0x40014, 0x4, 2, 0x0, 0x0⟩,
  ⟨0x40020, 0x4, 3, 0x0, 0x0⟩]

def regsCnf : List RegRow := [
  ⟨0x50000, 0x4, 2, 0x0, 0x0⟩,
  ⟨0x50008, 0x4, 1, 0x0, 0x1⟩,
  ⟨0x5000C, 0x4, 2, 0x0, 0x0⟩,
  ⟨0x50020, 0x4, 1, 0x0, 0xC000FFFF⟩,
  ⟨0x50024, 0x4, 3, 0x0, 0x0⟩,
  ⟨0x50100, 0x4, 16, 0x0, 0x0⟩]

def regsPrt : List RegRow := [
  ⟨0x60000, 0x4, 1, 0x1, 0x1⟩,
  ⟨0x60004, 0x4, 1, 0x0, 0x7F⟩,
  ⟨0x60008, 0x4, 4, 0x0, 0x0⟩,
  ⟨0x60100, 0x4, 32, 0x0, 0x0⟩]

def regsHwy : List RegRow := [
  ⟨0x70000, 0x100, 64, 0x0, 0xE7FF0003⟩,
  ⟨0x70004, 0x100, 64, 0x0, 0x0⟩,
  ⟨0x70008, 0x100, 64, 0x0, 0x0⟩,
  ⟨0x7000C, 0x100, 64, 0x0, 0x0⟩,
  ⟨0x70010, 0x100, 64, 0x0, 0x0⟩,
  ⟨0x70020, 0x100, 64, 0x0, 0xFFFFFFFF⟩,
  ⟨0x70024, 0x100, 64, 0x0, 0xFFFFFFFF⟩,
  ⟨0x70028, 0x100, 64, 0x0, 0xFFFFFFFF⟩,
  ⟨0x7002C, 0x100, 64, 0x0, 0xFFFFFFFF⟩,
  ⟨0x70030, 0x100, 64, 0x0, 0xFFFFFFFF⟩,
  ⟨0x70034, 0x100, 64, 0x0, 0xFFFFFFFF⟩,
  ⟨0x70038, 0x100, 64, 0x0, 0xFFFFFFFF⟩,
  ⟨0x7003C, 0x100, 64, 0x0, 0xFFFFFFFF⟩,
  ⟨0x74000, 0x10, 8, 0xA000000, 0xFF0F0000⟩,
  ⟨0x74004, 0x10, 8, 0x0, 0x0⟩]

def regsStr : List RegRow := [
  ⟨0x80000, 0x10, 4, 0x320, 0x33F⟩,
  ⟨0x80004, 0x10, 4, 0x4C11DB7, 0xFFFFFFFF⟩,
  ⟨0x80008, 0x10, 4, 0xFFFFFFFF, 0xFFFFFFFF⟩,
  ⟨0x8000C, 0x10, 4, 0xFFFFFFFF, 0xFFFFFFFF⟩,
  ⟨0x80040, 0x4, 1, 0x0, 0xF⟩,
  ⟨0x80100, 0x4, 1, 0x0, 0xFF⟩,
  ⟨0x80104, 0x4, 1, 0x0, 0x0⟩,
  ⟨0x80110, 0x4, 8, 0x0, 0x0⟩,
  ⟨0x80200, 0x4, 1, 0x0, 0x3F⟩,
  ⟨0x80204, 0x4, 2, 0x0, 0x0⟩,
  ⟨0x80210, 0x4, 6, 0x0, 0x0⟩]

def regsGfp : List RegRow := [
  ⟨0x90000, 0x4, 1, 0x0, 0x3F⟩,
  ⟨0x90004, 0x4, 1, 0x0, 0x0⟩,
  ⟨0x90008, 0x4, 1, 0x0, 0x1⟩,
  ⟨0x9000C, 0x4, 2, 0x0, 0x0⟩,
  ⟨0x90020, 0x4, 8, 0x0, 0x0⟩]

def regsMgt : List RegRow := [
  ⟨0xA0000, 0x4, 1, 0x0, 0x80000000⟩,
  ⟨0xA0004, 0x4, 2, 0x0, 0x0⟩,
  ⟨0xA0100, 0x4, 8, 0x0, 0x0⟩,
  ⟨0xA0120, 0x4, 7, 0x0, 0x0⟩,
  ⟨0xA0140, 0x4, 1, 0x6E6405, 0xFFFF0F⟩,
  ⟨0xA0144, 0x4, 1, 0x0, 0x0⟩,
  ⟨0xA0150, 0x4, 1, 0x0, 0x0⟩,
  ⟨0xA0200, 0x4, 2, 0x0, 0x0⟩,
  ⟨0xA0208, 0x4, 1, 0x0, 0xF⟩,
  ⟨0xA020C, 0x4, 1, 0x0, 0x0⟩]

def regsPin : List RegRow := [
  ⟨0xB0000, 0x4, 1, 0x0, 0xF00FF⟩,
  ⟨0xB0004, 0x4, 1, 0x0, 0x0⟩,
  ⟨0xB0010, 0x4, 3, 0x0, 0x0⟩,
  ⟨0xB0020, 0x4, 3, 0x0, 0xA00F0000⟩,
  ⟨0xB0040, 0x10, 8, 0x1000000, 0x830F0000⟩,
  ⟨0xB0044, 0x10, 8, 0x0, 0x0⟩,
  ⟨0xB0048, 0x10, 8, 0x0, 0x0⟩,
  ⟨0xB004C, 0x10, 8, 0x0, 0x0⟩]

/-- The rows of the block at an offset (Table RG-1). -/
def regsAt (o : Nat) : List RegRow :=
  if o < 0x10000 then
    match o / 0x1000 with
    | 0 => regsGlb
    | 1 => regsStp
    | 2 => regsHif
    | 3 => regsMsix
    | 4 => regsFlt
    | 5 => regsLog
    | 6 => regsPmc
    | 7 => regsSec
    | 8 => regsBus
    | 9 => regsBoot
    | _ => []
  else
    match o / 0x10000 with
    | 1 => regsLpt
    | 2 => regsHop
    | 3 => regsTrb
    | 4 => regsTsw
    | 5 => regsCnf
    | 6 => regsPrt
    | 7 => regsHwy
    | 8 => regsStr
    | 9 => regsGfp
    | 10 => regsMgt
    | 11 => regsPin
    | _ => []

/-- The row that decodes the word at offset `o`, if any does (R418, R257). -/
def regRow (o : Nat) : Option RegRow :=
  (regsAt o).find? (fun r => decide (r.base ≤ o) && decide ((o - r.base) % r.stride = 0) && decide ((o - r.base) / r.stride < r.count))

/-- Reset value of the stored bits of the word at `o`. -/
def regReset (o : Nat) : Word := match regRow o with
  | some r => BitVec.ofNat 32 r.reset
  | none => 0

/-- Bits of the word at `o` that a plain write stores. -/
def regMask (o : Nat) : Word := match regRow o with
  | some r => BitVec.ofNat 32 r.rw
  | none => 0

end Sys2Proof.Machine
end

