-- ==== Sys2Proof/Machine/Tab.lean ====
section
/-! DEFINITION. Tables of like things held as plain data: a list of (index, entry) pairs, indexes rising,
no entry equal to the table's default (what an unlisted index reads as). -/

namespace Sys2Proof.Machine

/-- A sparse table: an unlisted index reads as the default the reader names. -/
abbrev Tab (α : Type) := List (Nat × α)

/-- The entry at `k`, the default `d` where none is listed. -/
def tget {α : Type} (d : α) : Tab α → Nat → α
  | [], _ => d
  | (k', v) :: r, k => if k = k' then v else tget d r k

/-- Put `v` at `k`, keeping the indexes rising. -/
def tput {α : Type} : Tab α → Nat → α → Tab α
  | [], k, v => [(k, v)]
  | (k', v') :: r, k, v =>
    if k < k' then (k, v) :: (k', v') :: r
    else if k = k' then (k, v) :: r
    else (k', v') :: tput r k v

/-- Take out the entry at `k`. -/
def tdel {α : Type} : Tab α → Nat → Tab α
  | [], _ => []
  | (k', v') :: r, k => if k = k' then tdel r k else (k', v') :: tdel r k

/-- Write `v` at `k`; writing the default takes the entry out, so that equal tables are equal data. -/
def tset {α : Type} [DecidableEq α] (d : α) (t : Tab α) (k : Nat) (v : α) : Tab α :=
  if v = d then tdel t k else tput t k v

/-- Change the entry at `k`. -/
def tmod {α : Type} [DecidableEq α] (d : α) (t : Tab α) (k : Nat) (f : α → α) : Tab α :=
  tset d t k (f (tget d t k))

/-- Indexes rise strictly above `lo`, and no entry equals the default. -/
def tcanonAbove {α : Type} [DecidableEq α] (d : α) : Option Nat → Tab α → Bool
  | _, [] => true
  | lo, (k, v) :: r => (match lo with | none => true | some l => decide (l < k)) && decide (v ≠ d) && tcanonAbove d (some k) r

/-- The canonical form of a table with default `d`. -/
def tcanon {α : Type} [DecidableEq α] (d : α) (t : Tab α) : Bool := tcanonAbove d none t

/-- Keep the entries whose index satisfies `p` (a reset of the others to the default). -/
def tkeep {α : Type} (p : Nat → Bool) (t : Tab α) : Tab α := t.filter (fun e => p e.1)

/-- Change every listed entry, taking out those that become the default. -/
def tmapAll {α : Type} [DecidableEq α] (d : α) (f : Nat → α → α) (t : Tab α) : Tab α :=
  t.filterMap (fun e => let v := f e.1 e.2; if v = d then none else some (e.1, v))

/-- The listed indexes that satisfy `p`. -/
def tkeys {α : Type} (p : α → Bool) (t : Tab α) : List Nat :=
  (t.filter (fun e => p e.2)).map (fun e => e.1)

/-- How many listed entries satisfy `p`. -/
def tcount {α : Type} (p : Nat → α → Bool) (t : Tab α) : Nat :=
  (t.filter (fun e => p e.1 e.2)).length

/-- The write of a run of `n` entries from index `k`, entry `i` being `f i`. -/
def tsetRun {α : Type} [DecidableEq α] (d : α) (t : Tab α) (k : Nat) : Nat → (Nat → α) → Tab α
  | 0, _ => t
  | n + 1, f => tset d (tsetRun d t k n f) (k + n) (f n)

end Sys2Proof.Machine
end

