-- ==== Sys2Proof/Machine/State.lean ====
section
/-! DEFINITION. The state of the block as plain data: one structure per subsystem of 01_architecture.md R10,
each field with the rule that names it; the state after reset; why a run could stop. -/

namespace Sys2Proof.Machine

/-! ### Time -/

/-- A story-pole position with sub-tick (02_story_pole.md R33, R34; 12 Table MG-6). -/
structure Pos where
  frame : Word := 0
  phase : Nat := 0
  sub   : Nat := 0
deriving DecidableEq, Repr

/-! ### Global, boot and fabric (15_fabric_boot_reset.md, 16_register_map.md R420) -/

/-- GLB state. `last` is GLB.RSTCTL.LAST; `insvc` the 7 bits of GLB.STATUS.INSVC. -/
structure Glb where
  straps  : Straps := { testMode := false, mi2cAddr := 0, bootSrc := 0 }
  ready   : Bool := false
  insvc   : BitVec 7 := 0
  nmiTrap : BitVec 7 := 0        -- processors trapped by an NMI reaction (13 R446)
  heldRst : BitVec 7 := 0        -- processors restarting after a BLK_RST (13 R367, 01 R31)
  svc     : Bool := false        -- GLB.MODE.SVC in force (12 R356)
  last    : Nat := 0
  remap   : Bool := false
  rstReq  : Option (Bool × Nat × Nat) := none  -- a CHIP_RST under way: by reaction (with source and kind) or by the host
deriving DecidableEq, Repr

/-- BOOT state (15 R408-R413). -/
structure Boot where
  stage    : Nat := 0
  src      : Nat := 0
  copy     : Bool := false
  fail     : Nat := 0
  version  : Word := 0
  instr    : Byte := 0
  dummy    : Byte := 0
  density  : Nat := 0
  fifo     : List Byte := []        -- bytes in the packing FIFO
  image    : List Byte := []        -- image bytes SP has taken so far
  eod      : Bool := false          -- end-of-data has been marked and SP has not yet read up to it
  owned    : Bool := false          -- a push source owns the FIFO
  ownerI2c : Bool := false
  ovf      : Bool := false
  conflict : Bool := false
deriving DecidableEq, Repr

/-- BUS state (15 R399-R409): ACTIVE QoS by master; decode errors; what has been written behind the target ports, by internal
address. -/
structure Bus where
  active    : Tab Nat := [(0, 8), (1, 4), (2, 12), (3, 10), (4, 10), (5, 10), (6, 10), (7, 6), (8, 2)]
  decErr    : Word := 0
  decWrite  : Bool := false
  decMaster : Nat := 0
  decAddr   : Word := 0
  mem       : Tab Byte := []
deriving DecidableEq, Repr

/-- Board-management I2C target (15 R415, 17 R438): whether a transaction stands open. -/
structure I2cState where
  open_  : Bool := false
  offset : Word := 0
  got    : List Byte := []          -- bytes of a write not yet a whole word
  sent   : List Byte := []          -- bytes the last transaction has read
deriving DecidableEq, Repr

/-! ### Faults (13_faults.md) and the chalk log (12 R350) -/

/-- A message to the fault collector (13 R360): when it arrived, and whether its block masks its EV entry (09 R272). -/
structure Msg where
  source : Nat
  kind   : Nat
  cls    : Nat
  addr   : Word := 0
  data   : DWord := 0
  at_    : Pos := {}
  masked : Bool := false
deriving DecidableEq, Repr

/-- A chalk-log entry (12 Table MG-6). -/
structure LogEntry where
  time   : Pos := {}
  cls    : Nat := 0
  source : Nat := 0
  kind   : Nat := 0
  seq    : Half := 0
  addr   : Word := 0
  data   : DWord := 0
deriving DecidableEq, Repr

/-- FLT state (13 R362-R379). -/
structure Flt where
  queue     : List Msg := []                    -- oldest first, at most 64 (R362)
  lost      : Nat := 0                          -- FLT.LOST.COUNT
  fatal     : Bool := false
  self      : Bool := false
  pfail     : Bool := false                     -- PFAIL_N asserted (R374)
  pfSquelch : Bool := false                     -- line transmitters squelched by PFAIL_N
  first     : Option LogEntry := none
  firstFatal : Option LogEntry := none
  cause     : BitVec 512 := 0
  react     : Tab (Option (BitVec 5)) := []     -- by 4 x source + class; none = the value of Table FT-3
  errLatch  : Bool := false
  errLeft   : Nat := 0                          -- sub-ticks left of ERR_N's minimum width
  errWait   : Bool := false                     -- a release waits for it
  unlock1   : Bool := false                     -- first unlock word written (R376)
  test      : Bool := false                     -- factory test mode: TEST_MODE was high at the last release of RESET_N (R376)
  injOpen   : Bool := false
  flip      : Option (Nat × Word × Bool) := none  -- armed bit flip: source, word address, two bits
  pllLol    : BitVec 2 := 0                     -- PLLs out of lock (R373)
deriving DecidableEq, Repr

/-- The chalk log (12 R350-R355). RDATA is kept as the copied entry, one copy for BAR0 and one for I2C (16 R424). -/
structure ChalkLog where
  entries   : Tab LogEntry := []
  wr        : Nat := 0
  mark      : Nat := 0
  mirr      : Nat := 0
  seq       : Half := 0
  overtaken : Bool := false
  markErr   : Bool := false
  lostOver  : Half := 0
  lostDrop  : Half := 0
  rdata     : LogEntry := {}
  i2cRidx   : Nat := 0
  i2cRdata  : LogEntry := {}
deriving DecidableEq, Repr

/-! ### Host interface (09_host_rings.md) -/

/-- A ring of any kind (09 R258-R263, R419). `host` and `dev` are the host index and the device index; `head` is a
descriptor fetched from a CQ and not yet decided, with its host block; `waited` the frames it has waited for a reason
of no class of Table CM-5; `fence` the admission number before which everything must be done (R295), of all rings
when the flag is set. -/
structure Ring where
  base    : DWord := 0
  wb      : DWord := 0
  en      : Bool := false
  weight  : Nat := 1
  bind    : Nat := 0
  size    : Nat := 4
  intMode : Nat := 0
  vec     : Nat := 0
  host    : Nat := 0
  dev     : Nat := 0
  phase   : Bool := true
  cfgErr  : Bool := false
  descErr : Bool := false
  wbDue   : Bool := false                       -- the index has moved since its last write-back (R268)
  head    : Option (Desc × Option (List Byte)) := none
  headDelta : Word := 0                         -- what the count has been moved by since the head was fetched (02 R64)
  waited  : Nat := 0
  waits   : Bool := false                       -- its head was judged in this cycle and waits (10 R288, R297)
  fence   : Option (Nat × Bool) := none
  cplTo   : Bool := false                       -- a read timed out once and is repeated (13 R373)
deriving DecidableEq, Repr

/-- An MSI-X table entry (16 R422). -/
structure Vec where
  addr : DWord := 0
  data : Word := 0
  ctl  : Word := 1
deriving DecidableEq, Repr

/-- HIF and config-space state. -/
structure Hif where
  rings     : Tab Ring := []                    -- by 256 x kind + ring number
  vecs      : Tab Vec := []
  pend      : BitVec 64 := 0
  funcMask  : Bool := false
  msgs      : Tab Nat := []                     -- messages sent, by vector
  bme       : Bool := false
  d3hot     : Bool := false
  linkUp    : Bool := false
  linkWidth : Nat := 0
  linkSpeed : Nat := 0
  nmiCause  : Bool := false
  fatalCause : Bool := false
  evLost    : Nat := 0                          -- HIF.EV_LOST
  evGap     : Nat := 0                          -- lost since the last entry written (R272)
  dbErr     : Bool := false
  dbKind    : Nat := 0
  dbRing    : Nat := 0
  rstLast   : Nat := 0                          -- HIF.RESET_CAUSE.LAST
  purged    : Nat := 0
deriving DecidableEq, Repr

/-! ### Command engine (10_commands.md) -/

/-- An occupied due-table entry whose command has not yet taken effect (10 R284, R285). `seq` is its place in the
order of admission; `noBoundary` marks FENCE and FENCE_ALL. -/
structure Due where
  entry    : Nat
  seq      : Nat
  ring     : Nat
  cc       : Nat
  index    : Nat
  tag      : Half
  int      : Bool
  nocomp   : Bool
  asap     : Bool
  boundary : Word
  noBoundary : Bool
  cmd      : Cmd
  step     : Nat := 0                           -- its place in Table CM-3
  ue       : Bool := false
deriving DecidableEq, Repr

/-- A completion that has arisen and is not yet written: draining, or held (09 R282). `entry` is its due-table entry;
`refusal` marks one that the visible consumer index must not pass. -/
structure Comp where
  entry   : Nat
  ring    : Nat
  cc      : Nat
  index   : Nat
  tag     : Half
  int     : Bool
  status  : Nat
  data    : Bool := false
  asap    : Bool := false
  held    : Bool := false
  refusal : Bool := false
  exec    : Word := 0
  result  : Word := 0
deriving DecidableEq, Repr

/-- Command-engine state. -/
structure Ce where
  due      : List Due := []                     -- in the order of admission
  comps    : List Comp := []                    -- in the order they arose
  seq      : Nat := 0
  stall    : Bool := false
  refused  : Word := 0
  lastIdx  : Nat := 0
  lastRing : Nat := 0
  lastStat : Nat := 0
  rrRing   : Nat := 0                           -- round-robin: ring of the present visit
  rrLeft   : Nat := 0                           -- and its grants left (10 R297)
  visited  : Nat := 0                           -- slots used since the others were last counted (10 R300)
  cycle    : List (Option (Word × Cmd)) := []   -- decisions of the present cycle's slots: what was admitted where (10 R300)
  failed   : List (Nat × Nat) := []             -- admitted commands that had no effect: place in the order of admission, family (R448)
deriving DecidableEq, Repr

/-! ### Performance counters (12 R341-R344) -/

structure Pmc where
  cnt    : Tab Nat := []
  shadow : Tab Nat := []
  ovf    : BitVec 13 := 0
  snap   : Pos := {}
  sample : DWord := 0
  wait   : List (Nat × Nat) := []               -- counters whose sample waits for an admitted descriptor; sub-ticks left
deriving DecidableEq, Repr

/-! ### Keys, locks, resources, pins (14_keys_locks_resources.md) -/

/-- A key slot (14 R380-R386). EXHAUSTED is its counter at the last value, PEND a stale operation bound to it. -/
structure KeySlot where
  loaded : Bool := false
  aes256 : Bool := false
  key    : List Byte := []
  ctr    : Word := 0
  kcv    : Nat := 0
  poison : Bool := false
deriving DecidableEq, Repr

/-- A CMAC operation (14 R383, R385): it signs a frame to be sent or verifies a received one. `id` names the frame it
serves; it binds its slot and takes the slot's key when it starts. -/
structure CmacOp where
  id     : Nat
  verify : Bool
  ch     : Nat
  slot   : Nat
  info   : List Byte
  seqNo  : Word := 0
  tag    : List Byte := []
  bound  : Bool := false
  aes256 : Bool := false
  key    : List Byte := []
  stale  : Bool := false                        -- bound before the slot's last load or erase
deriving DecidableEq, Repr

/-- A received DCC frame with its OX buffer (11 R333): written as the frame arrives, written back, in index order, once `stat`
is known. -/
structure OxItem where
  id    : Nat
  ch    : Nat
  buf   : BufDesc
  info  : List Byte
  auth  : Bool := false
  ok    : Bool := false
  seqNo : Word := 0
  frame : Word := 0
  stat  : Option Nat := none
  bad   : Bool := false                          -- its descriptor was bad (09 R271)
  cut   : Bool := false                          -- its frame was discarded (assumption 151)
deriving DecidableEq, Repr

/-- A peg-board lock (14 R388): state 0 FREE, 1 HELD, 2 BROKEN; `left` frames to the lease end. -/
structure Lock where
  state : Nat := 0
  owner : Nat := 0
  cause : Nat := 0
  left  : Nat := 0
  since : Word := 0
deriving DecidableEq, Repr

/-- A registry entry as both copies keep it (14 R392-R396): owner code, and a host reservation behind it. -/
structure Res where
  owner  : Option Nat := none
  behind : Bool := false
deriving DecidableEq, Repr

/-- SEC state. -/
structure Sec where
  keys  : Tab KeySlot := []
  ops   : List CmacOp := []                     -- in the order they were asked for
  ox    : List OxItem := []
  opId  : Nat := 0
  locks : Tab Lock := []
  res   : Tab Res := []                         -- by 256 x RTYPE + index
  cmacPoison : Bool := false
deriving DecidableEq, Repr

/-- A capture buffer (14 R398). -/
structure Capt where
  queue   : List (Pos × Bool) := []
  ovf     : Bool := false
  held    : Option Nat := none                  -- GPIO held while the claim stands
  refused : Bool := false
deriving DecidableEq, Repr

/-- PIN state: levels at the balls (outputs included), capture buffers, alternates (claimed GPIO, refused). -/
structure Pin where
  gpioIn : BitVec 16 := 0
  dir    : BitVec 16 := 0
  out    : BitVec 16 := 0
  capt   : Tab Capt := []
  alt    : Tab (Option Nat × Bool) := []
deriving DecidableEq, Repr

/-! ### Management (12_management_plane.md) -/

/-- A PM record as latched (12 Table MG-3): scope, index, defect-seen bits, counters. -/
structure PmRec where
  scope   : Nat
  index   : Nat
  defects : Nat
  cnts    : List Nat
deriving DecidableEq, Repr

/-- MGT state. -/
structure Mgt where
  incl       : Tab Bool := []                   -- included units, by 65,536 x scope + index
  seen       : Tab Nat := []                    -- defect-seen bits, same index
  bank       : List PmRec := []                 -- records of the bank not yet delivered
  bankOpen   : Bool := false                    -- a bank is being delivered
  bankTotal  : Nat := 0
  bankFrame  : Word := 0
  bankPart   : Nat := 0
  bankFlags  : Nat := 0                         -- LOST_BEFORE, EPOCH, SHORT as in Table MG-2 [2:0]
  lostBefore : Bool := false
  second     : Word := 0
  pmLost     : Nat := 0
  temp       : Tab Int := []
  tempMax    : Tab Int := []                    -- default -32768
  volt       : Tab Nat := []
  power      : Nat := 0
  sensFrame  : Word := 0
  hot        : Bool := false
  crit       : Bool := false
  voltBad    : Bool := false
  sweeps     : Nat := 0
  missed     : Nat := 0
  sweepOn    : Bool := false
  toScrub    : List Upset := []                 -- words with an error that the sweep has not reached
  scrubCe    : Nat := 0
  scrubUe    : Nat := 0
  legacyTask : Nat := 0                         -- 0 none, 1 SENSE, 2 CAL, 3 SCRUB_REPORT
  legacyDone : Bool := false
  legacyErr  : Bool := false
  legacyLeft : Nat := 0                         -- windows that end before the task completes (R358)
  legacyData : Tab Int := []
  calSeconds : Nat := 0                         -- story seconds since the last calibration (R349)
  cals       : Nat := 0                         -- calibrations made
deriving DecidableEq, Repr

/-! ### Story pole (02_story_pole.md) -/

/-- A reference candidate (02 R43-R47). `lineDef` is read from the port; `wtr` frames of the requalification wait left,
`wtrAt` the sub-tick of the frame at which it began. -/
structure RefState where
  active    : Bool := false
  freqOk    : Bool := false
  fofs      : Int := 0
  qualified : Bool := false
  wtrRun    : Bool := false
  wtr       : Nat := 0
  wtrAt     : Nat := 0
  disq      : Bool := false                     -- a disqualification or requalification waits for the boundary
deriving DecidableEq, Repr

/-- A general timer (02 R59-R61). `target` is the armed target; `pulse` the ticks left of a pulse and its GPIO. -/
structure Timer where
  claimed     : Bool := false
  refused     : Bool := false
  gpio        : Option Nat := none              -- GPIO held
  gpioRefused : Bool := false
  target      : Option (Word × Nat) := none
  fired       : Bool := false
  armErr      : Bool := false
  pulse       : Nat := 0                        -- sub-ticks left of a pulse in progress
  pulseGpio   : Nat := 0
  pulseHigh   : Bool := true
deriving DecidableEq, Repr

/-- A reference output (02 R54). -/
structure RefOut where
  claimed  : Bool := false
  refused  : Bool := false
  squelch  : Bool := false
deriving DecidableEq, Repr

/-- STP state. -/
structure Stp where
  frame    : Word := 0
  phase    : Nat := 0
  sub      : Nat := 0
  snap     : Pos := {}
  epoch    : Option Word := none                -- a written epoch waits for the boundary
  done     : Bool := false
  origin   : Word := 0                          -- SECOND_ORIGIN in force
  originNew : Option Word := none               -- written, waiting for the boundary
  short    : Bool := false                      -- the second in progress is cut short or long
  epochIn  : Bool := false                      -- an epoch change applied within the second
  atSecond : Bool := false                      -- the present frame begins a story second, not yet served
  dpll     : Nat := 0                           -- Table SP-3: 0 FREERUN, 1 ACQUIRING, 2 LOCKED, 3 HOLDOVER
  holdReady : Bool := false
  lockFrames : Nat := 0                         -- frames of continuous LOCKED
  acqFrames : Nat := 0                          -- frames within 100 ns while ACQUIRING
  sel      : Option (Fin 8) := none
  oscFail  : Bool := false
  onXo     : Bool := true                       -- the DPLL runs from the XO
  phaseErr : Int := 0
  curQl    : Nat := 0xB
  refs     : Tab RefState := []
  timers   : Tab Timer := []
  refouts  : Tab RefOut := []
  held     : Tab Word := []                     -- SEL_CFG and REF_CFG in force, by register offset (01 R12)
  lgOfs    : Tab Nat := []                      -- LG_OFFSET in force
deriving DecidableEq, Repr

/-! ### Line ports (03_line_ports.md) -/

/-- A run of equal values: the value and how many times in a row it arrived. -/
structure Run where
  v : Nat := 0
  n : Nat := 0
deriving DecidableEq, Repr

/-- A sliding error window (03 R81, 04 R116, R121): frames since it restarted, and the errored frames with their counts. -/
structure Ber where
  n    : Nat := 0
  hist : List (Nat × Nat) := []
deriving DecidableEq, Repr

/-- The transmit overhead of the line frame sent last (03 Table LP-5), with its error insertions and forces. -/
structure TxLine where
  j0   : Byte := 0
  b1   : Byte := 0
  b2   : List Byte := []
  k1   : Byte := 0
  k2   : Byte := 0
  s1   : Byte := 0
  m0   : Byte := 0
  m1   : Byte := 0
  ais  : Bool := false                          -- all-ones outside the RS overhead (R89)
deriving DecidableEq, Repr

/-- A line port. `defects` has the places of LPT[n].STATUS bits 9:1. -/
structure Port where
  en       : Bool := false
  cdrLock  : Bool := false
  txLock   : Bool := false
  txLol    : Bool := false                      -- transmit PLL out of lock: squelched (R92)
  rxLol    : Bool := false
  noSignal : Bool := false                      -- no transitions, or the detector reports loss (R75)
  frm      : Nat := 0                           -- 0 HUNT, 1 CANDIDATE, 2 IN_FRAME
  passes   : Nat := 0                           -- recurrence checks the candidate has passed
  succs    : List (Nat × Nat) := []             -- later matches while CANDIDATE: place, checks passed, oldest first (R72)
  align    : Nat := 1                           -- place of the framer's own position (R71), 1 .. frame length
  rxPrev   : List Byte := []                    -- the bytes of the frame time before
  rxAt     : Option (Word × Nat) := none        -- when the last frame time was taken: frame, sub-tick
  taint    : Bool := true                       -- OOF, LOF or LOS stood during the frame received last (R80)
  cfg      : Tab Word := []                     -- settings in force since the port started, by register offset (01 R13)
  bad      : Nat := 0                           -- consecutive errored framing patterns
  oofInt   : Nat := 0                           -- OOF integration timer (R74)
  inRun    : Nat := 0                           -- consecutive in-frame line frames
  defects  : BitVec 10 := 0b0000000110#10
  sticky   : BitVec 10 := 0
  k1Raw    : Byte := 0
  k2Raw    : Byte := 0
  k1Run    : Run := {}
  k2Run    : Run := {}
  kbRun    : Run := {}
  k1Acc    : Nat := 0
  k2Acc    : Nat := 0
  kbAcc    : Nat := 0                           -- validated K2 bits 6 to 8
  kMiss    : Nat := 0
  s1Raw    : Nat := 0xF
  s1Run    : Run := {}
  s1Acc    : Nat := 0xF
  capE1    : Byte := 0
  capF1    : Byte := 0
  capE2    : Byte := 0
  b1Cnt    : Word := 0
  b2Cnt    : Word := 0
  reiCnt   : Word := 0
  exc      : Ber := {}
  deg      : Ber := {}
  rxBip    : Option (Byte × List Byte) := none  -- B1 and B2 computed over the last received frame
  rei      : Nat := 0                           -- B2 errors of the last received frame, to return
  ohSet    : Tab (Option Byte) := []            -- bytes stored by OH_SET, by code
  txOfs    : Nat × Bool × Nat := (0, false, 0)  -- OFFSET, LG_EN, LG in force
  tx       : TxLine := {}
  txFrame  : List Byte := []                    -- the line frame sent last, as sent
  txAt     : Option Word := none                -- frame in which the last line frame started
  squelch  : Bool := false                      -- CFG.TX_SQUELCH in force (01 R12)
  txB2     : List Byte := []                    -- B2 computed over the line frame sent last
deriving DecidableEq, Repr

/-! ### Paths, cross-connect, scribe (04_paths_and_traces.md) -/

/-- A pointer interpreter (04 R97-R99, R118): state 0 NORM, 1 AIS, 2 LOP. -/
structure Pi where
  st    : Nat := 2
  ofs   : Nat := 0
  new   : Run := {}
  inv   : Nat := 0
  ndf   : Nat := 0
  ais   : Nat := 0
  since : Nat := 3                              -- frames since the last offset change
deriving DecidableEq, Repr

/-- A part of a VC being received: the place it began at (none: its start has not come), its bytes so far. -/
structure Chunk where
  at_  : Option Nat := none
  part : List Byte := []
deriving DecidableEq, Repr

/-- A monitored HO path (a line timeslot) or a mapper sink (a destination slot 6144-7727), by slot (04 R110-R116).
`defects` bits: AIS-P, LOP-P, UNEQ-P, PLM-P, TIM, RDI-P, EXC-P, DEG-P. -/
structure HoPath where
  pi      : Pi := {}
  conc    : Tab Nat := []                       -- by later AU-4: frames in a row its concatenation indication was missing (R100)
  concLop : Bool := false
  c2Run   : Run := {}
  c2Acc   : Option Nat := none
  rdiRun  : Run := {}
  g1      : Byte := 0
  expC2   : Option Byte := none                 -- none: the value after reset
  flags   : Nat := 0x30                         -- HO flags of Table PA-4
  defects : BitVec 8 := 0b10
  bip     : Option Byte := none
  b3Last  : Nat := 0                            -- B3 errors of the last complete frame, for REI-P
  b3      : Word := 0
  rei     : Word := 0
  inc     : Word := 0
  dec     : Word := 0
  ndf     : Word := 0
  slip    : Word := 0
  exc     : Ber := {}
  deg     : Ber := {}
  vc      : Chunk := {}                         -- the VC frame being received
  src     : Nat := 8176                         -- a sink's source: its flow, and the next unit to take of it
  pos     : Nat := 0
deriving DecidableEq, Repr

/-- An HO source slot of a mapper (04 R107, R113, R114): bytes stored by OH_SET, the return G1, the J1 sent last, BIP-8 of
the VC frame sent last. -/
structure HoSrc where
  c2 : Option Byte := none
  f2 : Byte := 0
  f3 : Byte := 0
  k3 : Byte := 0
  n1 : Byte := 0
  g1 : Byte := 8
  j1 : Byte := 0
  bip : Byte := 0
deriving DecidableEq, Repr

/-- The VC frames that come from a source slot, as units of one byte per timeslot, each with its place 0 .. 782 in the VC
frame (04 R94, R106): the latest units, the count of those before them, whether a loopback carries AU-AIS (1) or an
unequipped VC (2) instead. -/
structure Flow where
  base  : Nat := 4000
  units : List (Nat × List Byte) := []
  kind  : Nat := 0
deriving DecidableEq, Repr

/-- A destination timeslot's elastic store and pointer generator (04 R106, R108). `src` is the flow it reads, `pos` the
next unit it reads of it. -/
structure Store where
  fill  : Nat := 24
  pos   : Nat := 0
  ptr   : Nat := 0
  since : Nat := 3                              -- line frames since the last justification
  ndf   : Bool := false                         -- the next line frame carries NDF
  ais   : Bool := false                         -- AU-AIS is sent
  uneq  : Bool := true                          -- an unequipped VC is sent
  src   : Nat := 8176
  h1    : Byte := 0
  h2    : Byte := 0
  hold  : Bool := false                         -- AU-AIS since a structure change (R96)
deriving DecidableEq, Repr

/-- A received TU (04 R118, 05 R133): its pointer interpreter, the V1 of the multiframe, a justification that V3 carries
out (1 increment, 2 decrement), the quarter of the VC multiframe being received, the quarters complete. -/
structure TuRx where
  pi    : Pi := {}
  v1    : Byte := 0
  just  : Nat := 0
  vc    : Chunk := {}
  mf    : List (List Byte) := []
deriving DecidableEq, Repr

/-- HOP state: cross-connect pages, dirty bits, structures in force. -/
structure Hop where
  xcA    : Tab Word := []
  xcB    : Tab Word := []
  dirty  : Tab Bool := []
  active : Bool := false
  copy   : Bool := false                        -- copy-back running
  mism   : Tab Word := []                       -- mismatched connections: entry by destination first slot
  struct : Tab Word := []                       -- HOP.STRUCT in force, by 4 x n + w
  paths  : Tab HoPath := []
  srcs   : Tab HoSrc := []
  stores : Tab Store := []
  flows  : Tab Flow := []                       -- by first source slot
  tus    : Tab TuRx := []                       -- received TUs, by position
  piCfg  : Word := 0x108                        -- HOP.PI_CFG and HOP.BER_CFG in force (01 R12)
  berCfg : Word := 0x6363
  mf4    : Nat := 0                             -- frame of the TU multiframe the LO mapper generates
deriving DecidableEq, Repr

/-- A trace entry (04 R123-R127): key 65,536 x kind + number. `run` is the string of the current run. -/
structure Trace where
  tx       : List Byte := []
  exp      : List Byte := []
  acc      : Option (List Byte) := none
  run      : List Byte := []
  runLen   : Nat := 0
  part     : List Byte := []                    -- bytes of the string being received
  last     : List Byte := []                    -- last complete received string
  ready    : Option (List Byte) := none         -- a string the OP is to accept
  fmt      : Nat := 1
  n        : Nat := 3
  cmp      : Bool := false
  rx       : Option (Nat × Nat) := none         -- J1 receive point
  txPt     : Option Nat := none                 -- J1 transmit point
  crcErr   : Bool := false
  unframed : Bool := false
  tim      : Bool := false
  txPos    : Nat := 0                           -- next byte to send
  txNow    : List Byte := []                    -- the string whose repetition is being sent
deriving DecidableEq, Repr

/-! ### LO mapper, tributaries, highways (05_tributaries_and_highways.md) -/

/-- A VC-4 equivalent (05 R130, R131). -/
structure Vc4 where
  struct : Nat := 0
  tu11   : Nat := 0
deriving DecidableEq, Repr

/-- An H4 multiframe (04 R117), by 3 x m + group. -/
structure H4 where
  inMf  : Bool := false
  last  : Nat := 0
  run   : Nat := 0                              -- frames in a row that follow (out) or fail (in) the sequence
  outN  : Nat := 0                              -- frames out of multiframe
  inN   : Nat := 0
  lom   : Bool := false
  mf    : Nat := 0                              -- frame of the TU multiframe received last
deriving DecidableEq, Repr

/-- An LO path, by tributary (04 R118-R122); its pointer interpreter stands with the TU. `defects` bits: AIS-V, LOP-V, UNEQ-V, PLM-V, TIM, RDI-V, EXC-V, DEG-V. -/
structure LoPath where
  labelRun : Run := {}
  label    : Option Nat := none
  rdiRun   : Run := {}
  k4Run    : Run := {}
  k4Acc    : Nat := 0
  flags    : Nat := 0x30
  k4Tx     : Byte := 0
  n2Tx     : Byte := 0
  defects  : BitVec 8 := 0b10
  hoCause  : Bool := false                      -- AIS-V caused by LOM or the HO path
  bip      : Option Nat := none
  bipCnt   : Word := 0
  reiCnt   : Word := 0
  reiTx    : Bool := false
  v5Tx     : Byte := 0                          -- V5 of the multiframe sent last
  ndfTx    : Bool := false                      -- the next multiframe carries NDF (R118)
  k4Now    : Byte := 0                          -- K4 and N2 of the multiframe being sent (R114, R120)
  n2Now    : Byte := 0
  bipTx    : Byte := 0                          -- the bytes of the VC multiframe being sent, added bit by bit (R119)
  out      : List Byte := []                    -- the TU's bytes of the frame sent last
  mapQ     : List (Nat × List Bool) := []       -- byte-synchronous frames that wait for their place (05 R138)
  exc      : Ber := {}
  deg      : Ber := {}
deriving DecidableEq, Repr

/-- A 2-frame slip buffer at frame granularity (05 R147, R148): the complete unread frame, the frame taken last, the fill in
bits at the last frame boundary; what has come of the frame after it stands with the receiver. -/
structure Slip where
  unread  : Option (List Byte) := none
  taken   : List Byte := []
  reading : Bool := false
  fill    : Nat := 0
deriving DecidableEq, Repr

/-- Signalling of a tributary's receive side (05 R149-R152), by slot; nibbles are kept plus 1, 0 being none. `cand` is
the value of the last multiframe, `next` a value received twice that the end of the multiframe confirms, `conf` the
confirmed value, `plane` the one on the plane, `part` the robbed bits of the present superframe. -/
structure SigState where
  cand    : Tab Nat := []
  next    : Tab Nat := []
  conf    : Tab Nat := []
  plane   : Tab Nat := []
  part    : Tab Nat := []
  ovRx    : Tab Nat := []
  ovTx    : Tab Nat := []                       -- in force
  ovTxNew : Tab Nat := []                       -- as SIG_SET left it, for the next transmit multiframe
  pend    : BitVec 32 := 0
  holdoff : Option Nat := none                  -- frames of a running hold-off left
deriving DecidableEq, Repr

/-- A tributary (05 R134-R156). `defects` bits: LOS, AIS, LOF, LOMF, LOSMF, RAI, RMAI; `sticky` has TAG in bit 7. -/
structure Trib where
  cfg      : TribSet
  cfgNew   : Option TribSet := none             -- settings that wait for the next transmit multiframe (R136)
  frm      : Nat := 0                           -- 0 hunt, 1 frame-aligned, 2 multiframe-aligned
  odd      : Bool := false                      -- the next frame is an NFAS frame
  fasBad   : Nat := 0
  mfPos    : Nat := 0                           -- frame number within the CRC-4 multiframe or superframe
  mfas     : List Bool := []                    -- bit 1 of the last 14 NFAS frames, latest first
  noMf     : Nat := 0                           -- frames aligned without a CRC-4 multiframe
  crcNone  : Bool := false
  crcWin   : Ber := {}
  saRun    : Tab Run := []
  saAcc    : Nat := 0
  aRun     : Run := {}
  casAl    : Bool := false                      -- the CAS multiframe is aligned
  casPos   : Nat := 0
  casBad   : Nat := 0
  casZero  : Bool := true                       -- every TS16 of the present CAS multiframe was zero
  prevOne  : Bool := false                      -- the preceding TS16 holds a 1
  yRun     : Run := {}
  oofErr   : List Bool := []                    -- last four framing bits in error
  oofInt   : Nat := 0
  inRun    : Nat := 0
  yelRun   : Run := {}
  bomRun   : Run := {}
  zeros    : Nat := 0                           -- consecutive zero bits
  perBits  : Nat := 0                           -- bits and zeros of the present AIS period
  perZeros : Nat := 0
  perPrev  : Bool := false                      -- the period before it had few zeros
  ones32   : List Bool := []                    -- last 32 bits
  loAis    : Bool := false                      -- AIS from the LO path (R155)
  fresh    : Bool := false                      -- restarted, and not yet aligned again (08 R222)
  defects  : BitVec 7 := 0
  sticky   : BitVec 8 := 0
  rxBits   : List Bool := []                    -- received bits that the framer has not taken (05 R138)
  hunt     : List Bool := []                    -- bits among which the framer hunts (R139, R143)
  rxSmf    : List Byte := []                    -- bytes of the present received sub-multiframe or superframe
  rxCrc    : Option Nat := none                 -- the check computed over the one before
  rxC      : Nat := 0                           -- check bits received in the present one
  fdlRx    : List Bool := []                    -- FDL bits, latest first, and how many since the last word
  fdlCnt   : Nat := 0
  slip     : Slip := {}
  sig      : SigState := {}
  tagBits  : List Bool := []
  tagLast  : Option Nat := none                 -- the sequence of the last multiframe
  tagBad   : Nat := 0
  tagLock  : Bool := false
  crcCnt   : Word := 0
  febe     : Word := 0
  frmErr   : Word := 0
  slipRep  : Word := 0
  slipDel  : Word := 0
  slipSeen : Bool := false
  txQ      : Nat := 0                           -- transmit multiframe count mod 64
  txPos    : Nat := 0                           -- frame within the transmit multiframe
  txFrame  : List Byte := []                    -- the frame sent last
  txF      : Bool := false                      -- its F bit (T1)
  txSmf    : List Byte := []                    -- bytes of the present sub-multiframe (CRC-4) or superframe (CRC-6)
  txCrc    : Nat := 0                           -- CRC to send
  eBits    : Bool × Bool := (true, true)        -- E bits to send in frames 13 and 15
  bomLeft  : Nat := 0
  fdlPos   : Nat := 0
  fdlWord  : Nat := 0
  fdlKind  : Nat := 0                           -- the FDL word being sent: 0 flags, 1 a message, 2 yellow
  txRai    : Bool := false                      -- RAI is being sent
deriving DecidableEq, Repr

/-- A local highway port (05 R157-R162): `cur` and `prev` hold the bytes received since the last sync and the one before, in
bit periods from the sync on, `slip` the slave receive buffer, `txHeld` the output frames not yet sent. -/
structure Hwy where
  cfg     : Word := 0                           -- CFG in force
  txEn    : Tab Word := []                      -- TX_EN in force
  cur     : Option (List Byte) := none
  prev    : Option (List Byte) := none
  slip    : Slip := {}
  txHeld  : List (List Byte) := []
  txLast  : Option (List Byte) := none
  out     : List (Option Byte) := []            -- channels as sent in the last highway frame, none high-impedance
  outPrev : List (Option Byte) := []            -- and in the one before it
  fsLoss  : Bool := false
  badSync : Nat := 0
  goodSync : Nat := 0
  syncAt  : Option (Word × Nat) := none         -- when the last sync came, or the port was enabled: frame, sub-tick
  sticky  : BitVec 2 := 0
  del     : Half := 0
  rep     : Half := 0
  txDel   : Half := 0
  txRep   : Half := 0
  slipSeen : Bool := false
deriving DecidableEq, Repr

/-- A highway group (05 R157-R159): the sync GPIO it holds. -/
structure HwyGrp where
  syncGpio : Option Nat := none
  refused  : Bool := false
deriving DecidableEq, Repr

/-! ### Truss (06_truss.md) and conference engine (07_conference.md) -/

/-- A byte with its signalling value: VALID in bit 4, ABCD in [3:0] (06 R168). -/
structure SByte where
  b : Byte := 0xD5
  s : Nat := 0
deriving DecidableEq, Repr

/-- What a read pass forms for an output slot (06 R163, R166, R167): idle, a repeat of the byte sent in the previous
output frame, or an input byte with its signalling and the entry's LAW and PAD, which wait for the port's output law. -/
structure PassByte where
  idle : Bool := true
  hold : Bool := false
  v    : SByte := {}
  law  : Nat := 0
  pad  : Nat := 0
deriving DecidableEq, Repr

/-- TSW state. `inCur` is the half that takes the present input frame, `inPrev` the one this frame's read pass reads;
the output pipeline holds what a read pass formed, the output stage and the output frame at the ports; `confIn` the
bytes delivered to the conference engine (R171). -/
structure Tsw where
  pageA     : Tab Word := []
  pageB     : Tab Word := []
  poisonA   : Tab Bool := []
  poisonB   : Tab Bool := []
  dirty     : Tab Bool := []
  active    : Bool := false
  committed : Bool := false
  lastCommit : Word := 0
  copyLeft  : Nat := 0                          -- frame boundaries until copy-back has ended
  inCur     : Tab SByte := []
  inPrev    : Tab SByte := []
  passOut   : Tab PassByte := []
  stage     : Tab PassByte := []
  confIn    : Tab SByte := []
  out       : Tab SByte := []
  wipe      : Tab Nat := []                     -- replica: read passes still to give idle after a BLK_RST
  chgApplied : Nat := 0
  patApplied : Nat := 0
  cmCe : Half := 0
  cmUe : Half := 0
  dmCe : Half := 0
  dmUe : Half := 0
  lastUnit : Nat := 0
  lastAddr : Nat := 0
  seen     : List (Nat × Nat) := []             -- kind and address already raised in this story second
deriving DecidableEq, Repr

/-- A conference roster entry. -/
structure CEntry where
  inUse : Bool := false
  set   : ConfSet := { k := 0, hang := 0, floor := 0, spkEv := false }
deriving DecidableEq, Repr

/-- A participant roster entry. -/
structure PEntry where
  inUse : Bool := false
  set   : PartSet := { conf := 0, role := 0, mu := false, gin := 0, gout := 0 }
deriving DecidableEq, Repr

/-- Lane state of a participant (07 R202, R203): its last contributions, latest first, hangover counter, selection. -/
structure LaneSt where
  win   : List Int := []
  cnt   : Nat := 0
  sel   : Bool := false
deriving DecidableEq, Repr

/-- Per-conference selection state: selected by rank; speaker event scheme of R205; frame of the last decision. -/
structure Spk where
  rank    : List Nat := []
  top     : List Nat := []
  pend    : Bool := false
  holdoff : Option Nat := none                  -- frames of a running hold-off left
  decided : Word := 0
deriving DecidableEq, Repr

/-- A loaded tone definition and its load boundary (07 R216). -/
structure Tone where
  d     : ToneDef := { en := false, rep := false, f1 := 0, f2 := 0, a1 := 0, a2 := 0, durs := [] }
  since : Nat := 0                              -- frames since the load boundary
deriving DecidableEq, Repr

/-- What a lane presents of a participant in use (07 R199, R203, R210, R213): its contribution, its energy, whether the
contribution is in the mix, whether it is a candidate, whether its output is idle. -/
structure Contrib where
  y    : Int := 0
  e    : Nat := 0
  mix  : Bool := false
  cand : Bool := false
  mute : Bool := false
deriving DecidableEq, Repr

/-- CNF state. Participant entries by p; conference entries by c. -/
structure Cnf where
  partA  : Tab PEntry := []
  partB  : Tab PEntry := []
  confA  : Tab CEntry := []
  confB  : Tab CEntry := []
  poisPA : Tab Bool := []
  poisPB : Tab Bool := []
  poisCA : Tab Bool := []
  poisCB : Tab Bool := []
  dirtyP : Tab Bool := []
  dirtyC : Tab Bool := []
  active : Bool := false
  copyLeft : Nat := 0
  lane   : Tab LaneSt := []
  spk    : Tab Spk := []
  contrib : Tab Contrib := []                   -- of the lane pass the collector works on
  laneDone : Bool := false
  colDone  : Bool := false
  wipe   : Tab Nat := []                        -- lane: affected by a BLK_RST for 2 more lane passes; 3 = after the running one
  tones  : Tab Tone := []
  ce     : Half := 0
  ue     : Half := 0
  lastUnit : Nat := 0
  lastAddr : Nat := 0
  seen   : List (Nat × Nat) := []
deriving DecidableEq, Repr

/-! ### Sisters (08_sisters.md) -/

/-- A side of a group: triggers in the request logic, its hold-off. -/
structure Side where
  sf    : Bool := false                         -- in the request logic
  sd    : Bool := false
  trig  : Bool := false                         -- some trigger is present
  hold  : Option Nat := none                    -- frames of hold-off left
  at_   : Nat := 0                              -- sub-tick of the frame at which the hold-off started
deriving DecidableEq, Repr

/-- A merge group's buffer and read point (08 R241-R245): decision stage of each copy (key and frame, oldest first; none: a frame that came without TAG_LOCK),
whether a copy had no defect during its present and its last sub-multiframe, goodness by sub-multiframe (key / 8), buffered
frames by key mod 1,024, and which copy wrote a sub-multiframe, with its goodness. -/
structure Merge where
  stA    : List (Option Nat × List Byte) := []
  stB    : List (Option Nat × List Byte) := []
  okA    : Bool × Bool := (true, true)
  okB    : Bool × Bool := (true, true)
  goodA  : List (Nat × Bool) := []
  goodB  : List (Nat × Bool) := []
  buf    : Tab (List Byte) := []
  read   : Option Nat := none                   -- key of the frame read next, mod 1,024
  leadA  : Bool := false                        -- copy A paces the read point; else copy B
  lastW  : Bool := false                        -- the copy that wrote last: true B
  wrote  : List (Nat × Bool × Bool) := []
  diff   : Bool := false
  delta  : Option Int := none
  bothBad : Word := 0
  bothSeen : Bool := false
  keyA   : Option Nat := none                   -- key of the last frame of each copy while it holds TAG_LOCK
  keyB   : Option Nat := none
  atA    : Word := 0                            -- frame in which the last frame of each copy came
  atB    : Word := 0
deriving DecidableEq, Repr

/-- A protection group (08 R219-R253), by 65,536 x kind + number. `op` holds its settings. `selP` is the selector;
`move` a decided move that waits for its point of Table SI-5. -/
structure Group where
  inUse  : Bool := false
  op     : ProtOp := { op := 0, kind := 0, group := 0, w := 0, p := 0, width := 0, bidir := false, revert := false,
                       sdEn := false, timSf := false, holdoff := 0, wtr := 0, lag := 0 }
  selP   : Bool := false
  move   : Option (Bool × Nat) := none          -- new side, request code that moves it
  cmd    : Option Nat := none
  req    : Nat := 12                            -- priority of the local request in force (Table SI-4)
  w      : Side := {}
  p      : Side := {}
  wtrOn  : Bool := false
  wtrArm : Bool := false                        -- starts at the next boundary
  wtrLeft : Nat := 0
  dnr    : Bool := false
  farWin : Bool := false                        -- the far end's request wins
  farK1  : Nat := 0                             -- the far end's K1 as the OP last acted on it
  loc    : Byte := 0                            -- request in force in the form of K1
  k1Tx   : Byte := 0
  k2Tx   : Byte := 4
  back   : Bool := false                        -- a deleted line pair whose selector has not yet returned to W (R222)
  fop    : Bool := false
  fopMis : Bool := false                        -- by channel mismatch
  modeMm : Bool := false
  misRun : Nat := 0
  clrFop : Nat := 0
  clrMm  : Nat := 0
  exer   : Option Nat := none                   -- frames left of a running exercise
  exerRr : Bool := false                        -- the far end answered
  poison : Bool := false
  lastSw : Word := 0
  switches : Word := 0
  merge  : Merge := {}
deriving DecidableEq, Repr

/-- PRT state. -/
structure Prt where
  fastOof  : Bool := true                       -- PRT.CFG.FAST_OOF in force (01 R12)
  groups   : Tab Group := []
  switches : Word := 0
  ce       : Half := 0
  ue       : Half := 0
deriving DecidableEq, Repr

/-! ### Streams, GFP, DCC (11_streams_gfp_dcc.md) -/

/-- A device-to-host block whose rows are complete, not yet written (11 R312). -/
structure OutBlock where
  seq   : Word
  first : Word
  rows  : List (List Byte)
  err   : Bool
  epoch : Bool
deriving DecidableEq, Repr

/-- An open stream direction with its settings; the rest is of the device-to-host direction (11 R312). `first` is the
first frame of the block in progress or next; `desc` the buffer that cut-through has taken. -/
structure StreamDir where
  op    : StreamOp
  seq   : Word := 0
  first : Word := 0
  rows  : List (List Byte) := []
  desc  : Option BufDesc := none
  err   : Bool := false
  epoch : Bool := false
  drop  : Bool := false                         -- the block found no buffer when writing began
  fresh : Bool := false                         -- the newest row has not been sent yet (within a frame boundary)
deriving DecidableEq, Repr

/-- A stream group. `rows` holds accepted rows by play frame. `last` the last sample of each channel. -/
structure Stream where
  inn   : Option StreamDir := none
  out   : Option StreamDir := none
  rows  : List (Word × Word × List Byte) := []  -- play frame, first play frame of its block, bytes
  last  : Tab (Option Byte) := []
  prevSeq : Option Word := none
  cnts  : Tab Word := []                        -- STR.GRP_CNT c = 0-7
  wait  : List OutBlock := []
  outOp : Option StreamOp := none               -- settings of the blocks in `wait`
  lateSeen : Bool := false
  ckuSeen  : Bool := false
  dropSeen : Bool := false
  muOut : Bool := false                         -- law of the group's output slots
deriving DecidableEq, Repr

/-- A GFP client frame being sent: its LEN, the bytes fetched, octets sent; `bad` once it ran out of data (11 R322-R324). -/
structure GfpCur where
  len  : Nat
  data : List Byte
  sent : Nat := 0
  bad  : Bool := false
deriving DecidableEq, Repr

/-- A GFP channel (11 R321-R328). `rxOct` are the octets received from the candidate or the expected header on, `next` the
place among them at which the next header is expected, `good` the consecutive good headers in PRESYNC. -/
structure Gfp where
  tx     : Option GfpOp := none
  rx     : Option GfpOp := none
  delin  : Nat := 0
  next   : Nat := 0
  good   : Nat := 0
  last   : Nat := 0                             -- place of the header that checked last, in PRESYNC
  rxOct  : List Byte := []
  lfd    : Bool := false
  lfdSticky : Bool := false
  cmfUpi : Byte := 0
  cnts   : Tab Word := []                       -- GFP.CH_CNT c = 0-7
  held   : List (Nat × List Byte) := []         -- client frames not started: LEN, bytes fetched
  cur    : Option GfpCur := none
  idleOct : Nat := 0                            -- octets of an idle frame in progress still to send
  line   : List Byte := []                      -- octets of the VC frame sent last
  scrTx  : List Bool := []                      -- last 43 bits of the x^43+1 scramblers
  scrRx  : List Bool := []
deriving DecidableEq, Repr

/-- A received DCC frame between its flags (11 R329), with the settings in force at its opening flag. -/
structure DccFrame where
  bytes   : List Byte
  aborted : Bool
  cfg     : Word
  auth    : DccAuthOp
  at_     : Word := 0                           -- frame in which its closing flag arrived
  item    : Option Nat := none                  -- its OX buffer
  lost    : Bool := false                       -- its OX buffer was lost with the ring: it is counted already
deriving DecidableEq, Repr

/-- The HDLC receiver of a DCC channel (11 R329): consecutive ones, whether a frame is open, its bits with the inserted
zeros taken out, the settings at its opening flag, the OX buffer that it is written to, whether that was lost with the ring. -/
structure Hdlc where
  ones : Nat := 0
  open_ : Bool := false
  bits : List Bool := []
  cfg  : Word := 0x000005DC
  auth : DccAuthOp := { port := 0, ms := false, txEn := false, rxEn := false, txSlot := 0, rxSlot := 0 }
  item : Option Nat := none
  lost : Bool := false
deriving DecidableEq, Repr

/-- A frame waiting to be sent on a DCC channel: its information field, and what goes between its flags before the FCS,
none while it is being signed. -/
structure DccOut where
  id    : Nat
  info  : List Byte
  ready : Option (List Byte)
deriving DecidableEq, Repr

/-- A DCC channel 2n or 2n + 1. `win` is the replay window: highest sequence and the 64 bits below it. -/
structure Dcc where
  cfg    : Word := 0x000005DC
  auth   : DccAuthOp := { port := 0, ms := false, txEn := false, rxEn := false, txSlot := 0, rxSlot := 0 }
  win    : Option (Word × BitVec 64) := none
  cnts   : Tab Word := []                       -- STR.DCC_CNT c = 0-5
  keyEx  : Bool := false
  failSeen : Bool := false
  txQ    : List DccOut := []                    -- in order
  txBits : List Bool := []                      -- bits of frames begun, in transmission order
  rx     : Hdlc := {}
  rxDone : List DccFrame := []                  -- frames whose closing flag has arrived, oldest first
deriving DecidableEq, Repr

/-! ### The whole state -/

/-- The state of the device, the queue of waiting commands, and the model's own counter of free values. -/
structure State where
  pending : List Instr := []
  powered : Bool := true
  freeIdx : Nat := 0                            -- the model's own (assumption 4)
  cfg     : Tab Word := []                      -- plain register words by BAR0 offset, where not at their reset value
  hostMem : List Host.Cell := []                -- host memory as the device has written it
  upsets  : List Upset := []                    -- bit errors not yet found
  glb     : Glb := {}
  boot    : Boot := {}
  bus     : Bus := {}
  i2c     : I2cState := {}
  flt     : Flt := {}
  log     : ChalkLog := {}
  hif     : Hif := {}
  ce      : Ce := {}
  pmc     : Pmc := {}
  sec     : Sec := {}
  pin     : Pin := {}
  mgt     : Mgt := {}
  stp     : Stp := {}
  ports   : Tab Port := []
  hop     : Hop := {}
  scribe  : Tab Trace := []
  vc4s    : Tab Vc4 := []
  h4s     : Tab H4 := []
  los     : Tab LoPath := []
  tribs   : Tab Trib := []                      -- every tributary ever configured since reset
  hwys    : Tab Hwy := []
  grps    : Tab HwyGrp := []
  tsw     : Tsw := {}
  cnf     : Cnf := {}
  prt     : Prt := {}
  strs    : Tab Stream := []
  gfps    : Tab Gfp := []
  dccs    : Tab Dcc := []
deriving DecidableEq, Repr

/-- Why a run could stop with a fault. No command of this block does: every trouble the manual knows is a message to
the fault collector (13 R360), a status or a discarded access, all of them next states. -/
inductive Fault where
  /-- Raised by no meaning. Safe. -/
  | none
deriving DecidableEq, Repr

/-- Why a command could be refused by the model. -/
inductive Refusal where
  /-- Raised by an arm of exec whose command has no meaning yet. Safe: the run stops. -/
  | notModelled (mnemonic : String)
deriving DecidableEq, Repr

/-- The device right after the release of power-on reset (01 R9, 02 R35; 13 R379): every field at its reset value, the
story pole at 0:0000, SP about to boot (assumption 5). -/
def State.reset : State := {}

end Sys2Proof.Machine
end

