-- ==== Sys2Proof/Machine/Ops.lean ====
section
/-! DEFINITION. The named operations every command is written with: stored register words, the story-pole position,
messages to the collector, host memory, MSI-X vectors, rings, the chalk log, the performance counters. -/

namespace Sys2Proof.Machine

/-! ### Stored register words -/

/-- The stored bits of the register word at BAR0 offset `o`. -/
def State.reg (s : State) (o : Nat) : Word := tget (regReset o) s.cfg o

/-- A field of a stored register word. -/
def State.rf (s : State) (o lo w : Nat) : Nat := wfld (s.reg o) lo w

/-- One bit of a stored register word. -/
def State.rb (s : State) (o i : Nat) : Bool := wbit (s.reg o) i

/-- Store a whole word. -/
def State.setReg (s : State) (o : Nat) (v : Word) : State := { s with cfg := tset (regReset o) s.cfg o v }

/-- A plain write: the writable bits of the word take the written value (00 R7). -/
def State.regWrite (s : State) (o : Nat) (v : Word) : State :=
  s.setReg o ((s.reg o &&& ~~~ regMask o) ||| (v &&& regMask o))

/-- The per-unit reset of register words: those whose offset satisfies `p` take their reset value. -/
def State.regsReset (p : Nat → Bool) (s : State) : State := { s with cfg := tkeep (fun o => !p o) s.cfg }

/-- Offset of a word of line port `n`. -/
def lpt (n o : Nat) : Nat := 0x10000 + 0x400 * n + o
/-- Offset of a word of highway `n`. -/
def hwyReg (n o : Nat) : Nat := 0x70000 + 0x100 * n + o
/-- Offset of a word of timer `n`. -/
def tmrReg (n o : Nat) : Nat := 0x1200 + 0x20 * n + o

/-! ### Position -/

/-- The position now (02 R33, R34). -/
def State.now (s : State) : Pos := { frame := s.stp.frame, phase := s.stp.phase, sub := s.stp.sub }

/-- A position as in a time stamp: frame [47:16], phase [15:4], sub-tick [3:0] (12 Table MG-6). -/
def Pos.stamp (p : Pos) : Nat := p.frame.toNat * 65536 + p.phase % 4096 * 16 + p.sub % 16

/-- A position as STP.NOW shows it (02 STP.NOW). -/
def Pos.word (p : Pos) : DWord := BitVec.ofNat 64 (p.frame.toNat * 2 ^ 32 + p.phase % 4096 * 65536 + p.sub % 16)

/-- Sub-ticks of a frame. -/
def subTicks : Nat := 38880

/-- Sub-ticks from the start of the frame. -/
def State.inFrame (s : State) : Nat := s.stp.phase * 16 + s.stp.sub

/-! ### Free values -/

/-- Take `n` fresh free bytes (assumption 4). -/
def State.takeFree (n : Nat) (s : State) : List Byte × State :=
  ((List.range n).map (fun i => Config.freeByte (s.freeIdx + i)), { s with freeIdx := s.freeIdx + n })

/-! ### Messages to the collector (13 R360-R363) -/

/-- The order of messages of one instant (13 R362): fatal, contained, corrected, NET; within a class by source. -/
def msgRank (m : Msg) : Nat := (match m.cls with | 2 => 0 | 1 => 1 | 0 => 2 | _ => 3) * 512 + m.source

/-- A message takes its place in the queue: behind every earlier one, and among those of its own instant by rank. -/
def insertMsg (m : Msg) : List Msg → List Msg
  | [] => [m]
  | x :: r => if x.at_ = m.at_ ∧ msgRank m < msgRank x then m :: x :: r else x :: insertMsg m r

/-- A message enters the queue of 64 entries; one that finds no place is lost and counted: the last of its instant (13
R362, R363; assumption 89). -/
def State.post (m : Msg) (s : State) : State :=
  let q := insertMsg { m with at_ := s.now } s.flt.queue
  if s.flt.queue.length < 64 then { s with flt := { s.flt with queue := q } }
  else { s with flt := { s.flt with queue := q.take 64, lost := satInc 16 s.flt.lost 1 } }

/-- A source is a processor that restarts: a block in reset raises no messages (13 R367). -/
def State.srcInReset (s : State) (src : Nat) : Bool :=
  decide (0x160 ≤ src) && decide (src < 0x167) && s.glb.heldRst.getLsbD (src - 0x160)

/-- Raise a message of a kind of Table FT-5; the kind fixes its class (13 R361). -/
def State.raise (k : Kind) (src addr data : Nat) (s : State) : State :=
  if s.srcInReset src then s
  else s.post { source := src, kind := k.code, cls := k.cls, addr := BitVec.ofNat 32 addr, data := BitVec.ofNat 64 data }

/-- Raise a NET event that its block may mask: the mask withholds its EV entry alone (09 R272, 13 R364; assumption 91). -/
def State.raiseU (masked : Bool) (k : Kind) (src addr data : Nat) (s : State) : State :=
  s.post { source := src, kind := k.code, cls := k.cls, addr := BitVec.ofNat 32 addr, data := BitVec.ofNat 64 data,
           masked := masked }

/-! ### Host memory -/

/-- Ring DMA runs: Bus Master Enable set, in D0 (09 R283). -/
def State.dmaOn (s : State) : Bool := s.hif.bme && !s.hif.d3hot

/-- Write bytes at an address. -/
def memWrite (m : List Host.Cell) (a : Nat) : List Byte → List Host.Cell
  | [] => m
  | b :: r => memWrite (tput m (a % 2 ^ 64) b) (a + 1) r

/-- The byte the device has written at an address, none where it has written nothing. -/
def memRead (m : List Host.Cell) (a : Nat) : Option Byte := tget none (m.map (fun c => (c.1, some c.2))) a

/-- The canonical form of host memory: addresses strictly rising. -/
def Memory.wf : List Host.Cell → Bool
  | [] => true
  | [_] => true
  | a :: b :: r => decide (a.1 < b.1) && Memory.wf (b :: r)

/-- A DMA write of the device; none is made while DMA is stopped (09 R283). -/
def State.dma (a : Nat) (bs : List Byte) (s : State) : State :=
  if s.dmaOn then { s with hostMem := memWrite s.hostMem a bs } else s

/-! ### MSI-X (09 R273-R275, R283; 16 R422) -/

def State.vec (s : State) (v : Nat) : Vec := tget {} s.hif.vecs v

/-- A vector can be sent: DMA runs, and neither the function mask nor its mask bit holds it back. -/
def State.vecOpen (s : State) (v : Nat) : Bool := s.dmaOn && !s.hif.funcMask && !(wbit (s.vec v).ctl 0)

/-- The message of a vector: its data written at its address. -/
def State.vecMsg (v : Nat) (s : State) : State :=
  let s := s.dma (s.vec v).addr.toNat (leBytes 4 (s.vec v).data.toNat)
  { s with hif := { s.hif with msgs := tset 0 s.hif.msgs v (tget 0 s.hif.msgs v + 1) } }

/-- An interrupt cause of vector `v`: the message, or the pending bit while it cannot be sent. -/
def State.sendVec (v : Nat) (s : State) : State :=
  if s.vecOpen v then s.vecMsg v
  else { s with hif := { s.hif with pend := s.hif.pend ||| (1#64 <<< (v % 64)) } }

/-- The interrupt of a ring: VEC = 0 gives none (09 R274). -/
def State.intr (v : Nat) (s : State) : State := if v % 64 = 0 then s else s.sendVec (v % 64)

/-- Send every pending vector that can be sent now (09 R283). -/
def State.flushVecs (s : State) : State :=
  foldS (List.range 64) (fun v s =>
    if s.hif.pend.getLsbD v && s.vecOpen v then
      ({ s with hif := { s.hif with pend := s.hif.pend &&& ~~~ (1#64 <<< v) } }).vecMsg v
    else s) s

/-! ### Rings (09 R258-R263) -/

/-- Rings of each kind (09 Table HR-3). -/
def ringCount : Nat → Nat
  | 0 => 64 | 1 => 64 | 2 => 256 | 3 => 256 | 4 => 64 | 5 => 64 | 6 => 1 | 7 => 1 | 8 => 1 | 9 => 1 | _ => 0

def ringKey (kind n : Nat) : Nat := 256 * kind + n

def State.ring (s : State) (kind n : Nat) : Ring := tget {} s.hif.rings (ringKey kind n)

def State.setRing (kind n : Nat) (r : Ring) (s : State) : State :=
  { s with hif := { s.hif with rings := tset {} s.hif.rings (ringKey kind n) r } }

def State.modRing (kind n : Nat) (f : Ring → Ring) (s : State) : State := s.setRing kind n (f (s.ring kind n))

/-- The SIZE in force: outside its kind's range, the nearer limit; 14 for EV (09 R258). -/
def ringSize (kind size : Nat) : Nat :=
  if kind = 8 then 14 else if kind ≤ 1 then clamp 4 16 size else if kind = 9 then clamp 4 8 size else clamp 4 12 size

/-- Entries of a ring. -/
def ringLen (kind : Nat) (r : Ring) : Nat := 2 ^ ringSize kind r.size

/-- Entries of a host-written ring from the consumer index up to the producer index (09 R259). -/
def Ring.pendingCount (kind : Nat) (r : Ring) : Nat := (r.host + ringLen kind r - r.dev) % ringLen kind r

/-- Entries of a device-written ring not yet returned by the host. -/
def Ring.outstanding (kind : Nat) (r : Ring) : Nat := (r.dev + ringLen kind r - r.host) % ringLen kind r

/-- CC and EV are written by the device; every other ring by the host (09 Table HR-3). -/
def deviceWritten (kind : Nat) : Bool := kind = 1 || kind = 8

/-- The device may use the ring: enabled, DMA permitted (HIF.RSTAT.RUN). -/
def State.ringRun (s : State) (kind n : Nat) : Bool := (s.ring kind n).en && s.dmaOn

/-- Advance the device index; the phase toggles after the last entry (09 R261). A read that timed out before has been
repeated with success. -/
def Ring.advance (kind : Nat) (r : Ring) : Ring :=
  let d := (r.dev + 1) % ringLen kind r
  { r with dev := d, phase := if d = 0 then !r.phase else r.phase, cplTo := false }

/-- The host address of an entry. -/
def Ring.addrOf (r : Ring) (esize i : Nat) : Nat := r.base.toNat / 4096 * 4096 + esize * i

/-- INT_MODE of Table HR-9: 0b01 and 0b11 after every one, 0b10 only where `wanted`. -/
def Ring.intNow (r : Ring) (wanted : Bool) : Bool := (r.intMode = 1 || r.intMode = 3) || (r.intMode = 2 && wanted)

/-- A device-written entry: written at the device index with its phase bit by `f`, then the interrupt. -/
def State.putEntry (kind n esize : Nat) (f : Bool → List Byte) (wanted : Bool) (s : State) : State :=
  let r := s.ring kind n
  let s := s.dma (r.addrOf esize r.dev) (f r.phase)
  let s := s.setRing kind n (r.advance kind)
  whenS (r.intNow wanted) (fun s => s.intr r.vec) s

/-- A buffer descriptor the device may use (09 R270, R271). -/
def bufOk (d : BufDesc) : Bool :=
  d.addr.toNat % 8 = 0 && decide (16 ≤ d.len.toNat) && decide (d.len.toNat ≤ 2 ^ 20)

/-- The write-back form of Table HR-7 over bytes 8 to 15 of the descriptor at the device index, then the interrupt. -/
def State.writeBack (kind n : Nat) (d : BufDesc) (used stat : Nat) (s : State) : State :=
  let r := s.ring kind n
  let s := s.dma (r.addrOf 16 r.dev + 8) (leBytes 4 used ++ leBytes 1 stat ++ [0] ++ leBytes 2 (putB r.phase 15))
  let s := s.setRing kind n (r.advance kind)
  whenS (r.intNow d.int) (fun s => s.intr r.vec) s

/-- A buffer of VI, GT or OT is consumed: the index moves, a write-back of it is due (09 R268). -/
def State.consume (kind n : Nat) (s : State) : State :=
  s.modRing kind n (fun r => { r.advance kind with wbDue := true })

/-- A DMA read of a ring has succeeded: the next timeout is a first one (13 R373). -/
def State.readOk (kind n : Nat) (s : State) : State := s.modRing kind n (fun r => { r with cplTo := false })

/-- A bad buffer descriptor (09 R271): consumed without a transfer and reported. -/
def State.badDesc (kind n : Nat) (d : BufDesc) (s : State) : State :=
  let s := if kind = 2 || kind = 4 || kind = 6 then s.consume kind n else s.writeBack kind n d 0 5
  (s.modRing kind n (fun r => { r with descErr := true })).raise .hifDescErr 0x141 (kind * 256 + n) 0

/-- A ring has a descriptor the device may take. -/
def State.hasBuf (s : State) (kind n : Nat) : Bool :=
  s.ringRun kind n && decide (0 < (s.ring kind n).pendingCount kind)

/-! ### The event ring (09 R272) -/

/-- An EV entry without its LOST and PHASE fields. -/
structure EvEntry where
  logged : Bool
  mirror : Bool
  source : Nat
  kind   : Nat
  cls    : Nat
  addr   : Word
  data   : DWord
  time   : Pos
  seq    : Half
deriving DecidableEq, Repr

/-- The bytes of Table HR-8. -/
def EvEntry.bytes (e : EvEntry) (lost : Nat) (phase : Bool) : List Byte :=
  leBytes 2 (putB e.logged 13 + putB e.mirror 12 + put e.source 0 9) ++ leBytes 1 e.kind ++ leBytes 1 (put e.cls 6 2)
  ++ leBytes 4 e.addr.toNat ++ leBytes 8 e.data.toNat ++ leBytes 6 e.time.stamp
  ++ leBytes 2 (if e.logged then e.seq.toNat else 0) ++ leBytes 2 (min lost 0xFFFF) ++ leBytes 2 0
  ++ leBytes 4 (putB phase 31)

/-- EV can take an entry. -/
def State.evRoom (s : State) : Bool :=
  s.ringRun 8 0 && decide ((s.ring 8 0).outstanding 8 + 1 < ringLen 8 (s.ring 8 0))

/-- Offer an entry to EV; without room it is lost and counted (09 R272, R281). -/
def State.evPut (e : EvEntry) (s : State) : State :=
  if s.evRoom then
    let lost := s.hif.evGap
    let s := { s with hif := { s.hif with evGap := 0 } }
    s.putEntry 8 0 32 (e.bytes lost) (e.cls = 1 || e.cls = 2)
  else { s with hif := { s.hif with evLost := satInc 32 s.hif.evLost 1, evGap := s.hif.evGap + 1 } }

/-! ### The chalk log (12 R350-R354) -/

/-- Valid entries: (WR - MARK) mod 16,384 (12 R351). -/
def ChalkLog.count (l : ChalkLog) : Nat := (l.wr + 16384 - l.mark) % 16384

/-- The entry a pointer names, the zero entry outside MARK .. WR - 1 (12 R354). -/
def ChalkLog.at (l : ChalkLog) (p : Nat) : LogEntry :=
  if (p % 16384 + 16384 - l.mark) % 16384 < l.count then tget {} l.entries (p % 8192) else {}

/-- The 32 bytes of Table MG-6. -/
def LogEntry.bytes (e : LogEntry) : List Byte :=
  leBytes 6 e.time.stamp ++ leBytes 2 (put e.cls 9 2 + put e.source 0 9) ++ leBytes 1 e.kind ++ leBytes 1 0
  ++ leBytes 2 e.seq.toNat ++ leBytes 4 e.addr.toNat ++ leBytes 8 e.data.toNat ++ leBytes 8 0

/-- Offer the log entry at `p` to EV (12 R353). -/
def State.offerLog (p : Nat) (s : State) : State :=
  let e := tget {} s.log.entries (p % 8192)
  s.evPut { logged := true, mirror := true, source := e.source, kind := e.kind, cls := e.cls, addr := e.addr,
            data := e.data, time := e.time, seq := e.seq }

/-- The entries from MIRR to WR - 1 (12 R353). -/
def ChalkLog.unflushed (l : ChalkLog) : List Nat := (List.range ((l.wr + 16384 - l.mirr) % 16384)).map (fun i => l.mirr + i)

/-- Offer entries to EV in order. -/
def State.flushFrom (l : List Nat) (s : State) : State := foldS l (fun p s => s.offerLog p) s

/-- Offer every unflushed entry, and MIRR advances with each (12 R353). -/
def State.mirrorAll (s : State) : State :=
  ({ s with log := { s.log with mirr := s.log.wr } }).flushFrom s.log.unflushed

/-- Whether the log is full and drops (12 R352). -/
def State.logStopped (s : State) : Bool := decide (s.log.count ≥ 8192) && s.rb 0x5000 0

/-- The log accepts a message at its position, or drops it under STOP; either takes the next SEQ (12 R350, R352).
Answers whether it was written. -/
def State.logWrite (m : Msg) (s : State) : Bool × State :=
  let l := s.log
  if s.logStopped then
    (false, { s with log := { l with seq := l.seq + 1, lostDrop := BitVec.ofNat 16 (satInc 16 l.lostDrop.toNat 1) } })
  else
    let full := decide (l.count ≥ 8192)
    let e : LogEntry := { time := s.now, cls := m.cls, source := m.source, kind := m.kind, seq := l.seq, addr := m.addr, data := m.data }
    let l1 : ChalkLog := if full then
        { l with mark := (l.mark + 1) % 16384, overtaken := true,
                 lostOver := BitVec.ofNat 16 (satInc 16 l.lostOver.toNat 1),
                 mirr := if l.mirr = l.mark then (l.mirr + 1) % 16384 else l.mirr }
      else l
    let l2 : ChalkLog := { l1 with entries := tset {} l1.entries (l.wr % 8192) e, wr := (l.wr + 1) % 16384, seq := l.seq + 1 }
    let s := { s with log := l2 }
    (true, if s.rb 0x5000 1 then s.mirrorAll else s)

/-! ### Performance counters (12 R341, R342) -/

/-- PMC.CTL.FREEZE. -/
def State.pmcFrozen (s : State) : Bool := s.rb 0x6000 1

/-- Counter `j` advances by `n`; an overflow sets its bit and, where its interrupt is set, asks for a sample. -/
def State.pmcAdd (j n : Nat) (s : State) : State :=
  if s.pmcFrozen || n = 0 then s else
  let v := tget 0 s.pmc.cnt j + n
  let s := { s with pmc := { s.pmc with cnt := tset 0 s.pmc.cnt j (v % 2 ^ 48) } }
  if v < 2 ^ 48 then s else
  let s := { s with pmc := { s.pmc with ovf := s.pmc.ovf ||| (1#13 <<< j) } }
  let want := if j ≤ 4 then s.rb 0x6000 (8 + j) else s.rb (0x6020 + 4 * (j - 5)) 30
  if want && !(s.pmc.wait.any (fun x => decide (x.1 = j))) then
    { s with pmc := { s.pmc with wait := s.pmc.wait ++ [(j, subTicks)] } }
  else s

/-- The programmable counters that count event `ev` on CQ `ring` (none: an event without a ring) advance by `n`. -/
def State.pmcEvent (ev : Nat) (ring : Option Nat) (n : Nat) (s : State) : State :=
  foldS (List.range 8) (fun i s =>
    let w := 0x6020 + 4 * i
    let hit := s.rb w 31 && s.rf w 0 8 = ev &&
      (match ring with | none => true | some r => !(s.rb w 29) || s.rf w 16 6 = r)
    whenS hit (fun s => s.pmcAdd (5 + i) n) s) s

/-! ### The command engine's completions (09 R267-R269, R282; 10 R284) -/

/-- CC entries reserved for commands not yet completed and for descriptors fetched and not yet decided (09 R267). -/
def State.ccReserved (s : State) (cc : Nat) : Nat :=
  (s.ce.due.filter (fun d => d.cc = cc)).length + (s.ce.comps.filter (fun c => c.cc = cc)).length
    + tcount (fun k (r : Ring) => decide (k < 256) && r.head.isSome && r.bind = cc) s.hif.rings

/-- A CC has an unreserved free entry (09 R259, R267). -/
def State.ccFree (s : State) (cc : Nat) : Bool :=
  let r := s.ring 1 cc
  s.ringRun 1 cc && decide (r.outstanding 1 + s.ccReserved cc + 1 < ringLen 1 r)

/-- CC `cc` can take an entry (R259). -/
def State.ccRoom (s : State) (cc : Nat) : Bool :=
  s.ringRun 1 cc && decide ((s.ring 1 cc).outstanding 1 + 1 < ringLen 1 (s.ring 1 cc))

/-- The bytes of Table HR-6. -/
def Comp.bytes (c : Comp) (phase : Bool) : List Byte :=
  leBytes 2 (putB phase 15 + put c.ring 0 6) ++ leBytes 2 c.index ++ leBytes 2 c.tag.toNat ++ leBytes 1 c.status
  ++ leBytes 1 (putB c.data 2 + putB c.asap 1 + putB c.held 0) ++ leBytes 4 c.exec.toNat ++ leBytes 4 c.result.toNat

/-- Write a completion on its CC. -/
def State.putComp (c : Comp) (s : State) : State :=
  (s.putEntry 1 c.cc 16 c.bytes c.int).pmcEvent 0x0F (some c.ring) 1

/-- A completion arises: it waits to be written, held where its CC is disabled or DMA stopped (09 R282). -/
def State.addComp (c : Comp) (s : State) : State :=
  { s with ce := { s.ce with comps := s.ce.comps ++ [{ c with held := c.held || !(s.ringRun 1 c.cc) }] } }

/-- The first completion of CC `cc` that waits, and the others. -/
def takeComp (cc : Nat) : List Comp → Option (Comp × List Comp)
  | [] => none
  | c :: r => if c.cc = cc then some (c, r) else (takeComp cc r).map (fun x => (x.1, c :: x.2))

/-- Completions held (HIF.HELD). -/
def State.heldCount (s : State) : Nat := (s.ce.comps.filter (fun c => c.held)).length

/-- The consumer index of a CQ as the host sees it: it does not pass a refusal whose completion is held (01 R22). -/
def State.visIdx (s : State) (n : Nat) : Nat :=
  match s.ce.comps.find? (fun c => c.ring = n && c.refusal) with
  | some c => c.index
  | none => (s.ring 0 n).dev

/-- The device index of a ring as the host reads it (01 R22; 09 R262, HIF.RIDX). -/
def State.seenIdx (s : State) (k n : Nat) : Nat := if k = 0 then s.visIdx n else (s.ring k n).dev

/-- Occupied due-table entries (10 R284). -/
def State.dueUsed (s : State) : Nat := s.ce.due.length + s.ce.comps.length

/-- The least entry number not in use. -/
def State.freeEntry (s : State) : Nat :=
  let used := s.ce.due.map (fun d => d.entry) ++ s.ce.comps.map (fun c => c.entry)
  ((List.range (used.length + 1)).find? (fun e => !(used.contains e))).getD 0

/-! ### Processors (01 R31, 16 GLB.STATUS) -/

/-- Processor `p` is in service: its INSVC bit, no restart, no NMI trap (10 R290, 13 R446). -/
def State.inSvc (s : State) (p : Nat) : Bool :=
  s.glb.insvc.getLsbD p && !(s.glb.nmiTrap.getLsbD p) && !(s.glb.heldRst.getLsbD p)

/-- GLB.STATUS.INSVC. -/
def State.insvcBits (s : State) : BitVec 7 := s.glb.insvc &&& ~~~ s.glb.nmiTrap &&& ~~~ s.glb.heldRst

end Sys2Proof.Machine
end

