-- ==== Sys2Proof/Machine/Ecc.lean ====
section
/-! DEFINITION. Bit errors that have arisen and are not yet found (13_faults.md R376, R378; 06 R182, R183; 07 R210-R212;
08 R253; 12 R348): a SECDED word corrects one wrong bit and detects two. -/

namespace Sys2Proof.Machine

/-- The error in a word, if one waits there: `some true` is uncorrectable. -/
def State.upsetAt (s : State) (m : Mem) : Option Bool :=
  let l := s.upsets.filter (fun (u : Upset) => decide (u.mem = m))
  if l = [] then none else some (l.any (fun (u : Upset) => u.double))

/-- The word is written whole or its error has been dealt with. -/
def State.clearUpset (m : Mem) (s : State) : State :=
  { s with upsets := s.upsets.filter (fun (u : Upset) => decide (u.mem ≠ m)) }

/-- Every word that satisfies `p` is written whole. -/
def State.clearUpsets (p : Mem → Bool) (s : State) : State :=
  { s with upsets := s.upsets.filter (fun (u : Upset) => !p u.mem) }

/-- Bit errors arise. -/
def State.addUpsets (l : List Upset) (s : State) : State := { s with upsets := s.upsets ++ l }

/-- Source of a group's messages (08 R252). -/
def prtSource (kind g : Nat) : Nat :=
  0x120 + (match kind with | 0 => g / 4 | 1 => 4 + g / 256 | 2 => 8 + g / 2048 | _ => 12 + g / 512)

/-- Source and word address of a word, as FLT.INJ_CTL and FLT.INJ_ADDR name it (13 Table FT-4, R376). -/
def memWord : Mem → Nat × Nat
  | .cm _ k => (0x068, k)
  | .dm r h w => (0x060 + r.val, b2n h * 131072 + w)
  | .participant _ p => (0x070 + p / 4096, p)
  | .conference _ c => (0x070 + c / 1024, 0x10000 + c)
  | .lane p => (0x070 + p / 4096, p)
  | .collector c => (0x070 + c / 1024, 0x20000 + c)
  | .due e => (0x151, e)
  | .group k g => (prtSource k.val g, g)
  | .key k => (0x183, k.val)
  | .cmac k => (0x184, k.val)
  | .lock i => (0x185, i.val)
  | .registry _ r i => (0x186, 256 * r.val + i)
  | .reaction s c => (0x180, 4 * s + c.val)
  | .staging g => (0x142, g.val)
  | .other s a => (s, a)

/-- A word is written whole: an error in it is gone, and an armed bit flip strikes it (13 R376). -/
def State.wordWritten (m : Mem) (s : State) : State :=
  let s := s.clearUpset m
  match s.flt.flip with
  | none => s
  | some (src, a, dbl) =>
    if memWord m = (src, a.toNat) then
      ({ s with flt := { s.flt with flip := none } }).addUpsets [{ mem := m, double := dbl }]
    else s

/-- SRAM_CE or SRAM_UE of a memory with no mnemonic of its own (13 R378). -/
def State.sramErr (src addr : Nat) (double : Bool) (s : State) : State :=
  s.raise (if double then .sramUe else .sramCe) src addr 0

end Sys2Proof.Machine
end

