-- ==== Sys2Proof/Machine/Hdlc.lean ====
section
/-! DEFINITION. HDLC on the DCC (11_streams_gfp_dcc.md R329): the bits of a frame, the receiver, the bytes a channel sends. -/

namespace Sys2Proof.Machine

/-- STR.DCC_CNT: 0 TX_FRAMES, 1 TX_DROP, 2 RX_FRAMES, 3 RX_BAD, 4 RX_DROP, 5 AUTH_FAIL. -/
def Dcc.count (c n : Nat) (x : Dcc) : Dcc := { x with cnts := tset 0 x.cnts c (tget 0 x.cnts c + BitVec.ofNat 32 n) }

/-- Octets in transmission order, low-order bit first. -/
def lsbBits (l : List Byte) : List Bool := l.flatMap (fun b => (List.range 8).map (fun i => b.getLsbD i))

/-- A 0 after five 1s. -/
def stuff : Nat → List Bool → List Bool
  | _, [] => []
  | n, b :: r => if b then (if n = 4 then true :: false :: stuff 0 r else true :: stuff (n + 1) r) else false :: stuff 0 r

/-- The frame check sequence as it is sent. -/
def fcsBytes (wide : Bool) (l : List Byte) : List Byte := if wide then leBytes 4 (fcs32 l) else leBytes 2 (fcs16 l)

/-- A frame's bits between and with its flags. -/
def hdlc (wide : Bool) (l : List Byte) : List Bool := lsbBits [0x7E] ++ stuff 0 (lsbBits (l ++ fcsBytes wide l)) ++ lsbBits [0x7E]

/-! ### Receive -/

/-- The octets of a frame's bits. -/
def lsbBytes (l : List Bool) : List Byte := (packBits (l.length / 8) l).map (fun b => byteOfBits (byteBits b).reverse)

/-- One received bit: a 0 after five 1s is taken out, a 0 after six closes and opens a frame, a seventh 1 aborts it. A frame
that is no whole number of octets counts as aborted (assumption 142). `now` is the present frame. -/
def Hdlc.bit (now cfg : Word) (auth : DccAuthOp) (b : Bool) (h : Hdlc) : Hdlc × List DccFrame :=
  let frame (l : List Bool) (ab : Bool) : List DccFrame :=
    if h.open_ && decide (l ≠ []) then
      [{ bytes := lsbBytes l, aborted := ab || decide (l.length % 8 ≠ 0), cfg := h.cfg, auth := h.auth, at_ := now, item := h.item, lost := h.lost }]
    else []
  if b then
    if 6 ≤ h.ones then ({ h with ones := 7, open_ := false, bits := [], item := none, lost := false }, frame (h.bits.take (h.bits.length - 6)) true)
    else ({ h with ones := h.ones + 1, bits := if h.open_ then h.bits ++ [true] else [] }, [])
  else if h.ones = 5 then ({ h with ones := 0 }, [])
  else if h.ones = 6 then ({ ones := 0, open_ := true, bits := [], cfg := cfg, auth := auth }, frame (h.bits.take (h.bits.length - 7)) false)
  else ({ h with ones := 0, bits := if h.open_ then h.bits ++ [false] else [] }, [])

/-- Received bytes of a channel, most significant bit first, in frame `now`. -/
def Dcc.take (now : Word) (l : List Byte) (x : Dcc) : Dcc :=
  (bitsOf l).foldl (fun x b =>
    let r := x.rx.bit now x.cfg x.auth b
    { x with rx := r.1, rxDone := x.rxDone ++ r.2 }) x

/-- Bytes of the FCS. -/
def fcsLen (cfg : Word) : Nat := if wbit cfg 31 then 4 else 2

/-- What a frame holds before its FCS. -/
def DccFrame.body (f : DccFrame) : List Byte := f.bytes.take (f.bytes.length - fcsLen f.cfg)

/-- What octets that have arrived hold for certain of the information field: those behind them may be authentication bytes
and FCS (R333). -/
def infoSoFar (cfg : Word) (a : DccAuthOp) (l : List Byte) : List Byte :=
  l.take (l.length - fcsLen cfg - (if a.rxEn then 12 else 0))

/-! ### Transmit -/

/-- Frames begin while bits are needed, in order; answers those left, the bits, how many began. A frame that is being
signed holds back those behind it. -/
def fillBits (wide : Bool) (need : Nat) : List DccOut → List Bool → List DccOut × List Bool × Nat
  | [], bits => ([], bits, 0)
  | e :: r, bits =>
    if need ≤ bits.length then (e :: r, bits, 0)
    else match e.ready with
      | some b => let x := fillBits wide need r (bits ++ hdlc wide b); (x.1, x.2.1, x.2.2 + 1)
      | none => (e :: r, bits, 0)

/-- `n` bytes of a channel, flags filling what no frame does (R329). -/
def Dcc.give (n : Nat) (x : Dcc) : List Byte × Dcc :=
  let r := fillBits (wbit x.cfg 31) (8 * n) x.txQ x.txBits
  let bits := r.2.1 ++ (List.replicate (cdiv (8 * n - r.2.1.length) 8) (lsbBits [0x7E])).flatten
  (packBits n bits, { x.count 0 r.2.2 with txQ := r.1, txBits := bits.drop (8 * n) })

/-- A frame that is being sent is cut: an abort of seven 1s, then flags (R329). -/
def Dcc.abortTx (x : Dcc) : Dcc := { x with txBits := if x.txBits = [] then [] else List.replicate 7 true }

/-! ### The channels and OX (R333; 09 R270, R281) -/

def State.dcc (s : State) (ch : Nat) : Dcc := tget {} s.dccs ch
def State.setDcc (ch : Nat) (x : Dcc) (s : State) : State := { s with dccs := tset {} s.dccs ch x }
def State.modDcc (ch : Nat) (f : Dcc → Dcc) (s : State) : State := s.setDcc ch (f (s.dcc ch))

/-- The header of an OX buffer (Table ST-5). -/
def OxItem.header (x : OxItem) : List Byte :=
  leBytes 1 x.ch ++ leBytes 1 (putB x.ok 1 + putB x.auth 0) ++ leBytes 2 x.info.length ++ leBytes 4 x.seqNo.toNat
    ++ leBytes 4 x.frame.toNat ++ leBytes 4 0

/-- A received frame is written back, its header first (its information field stands there already, R333). A descriptor that
was bad is consumed without one; one whose frame was discarded with ABORT (assumption 151). -/
def State.oxWrite (x : OxItem) (st : Nat) (s : State) : State :=
  if x.bad then s.badDesc 7 0 x.buf
  else if x.cut then s.writeBack 7 0 x.buf 0 4
  else
    let n := min (16 + x.info.length) x.buf.len.toNat
    let st := if st = 0 && decide (n < 16 + x.info.length) then 1 else st
    let s := (s.dma x.buf.addr.toNat (x.header.take n)).writeBack 7 0 x.buf n st
    let s := s.modDcc x.ch (Dcc.count 2 1)
    if st ≠ 2 then s
    else
      let seen := (s.dcc x.ch).failSeen
      whenS (!seen) (fun s => s.raiseU (s.rb 0x80040 3) .dccAuthFail (0x100 + x.ch / 2) x.ch 0)
        (s.modDcc x.ch (fun d => { d.count 5 1 with failSeen := true }))

/-- Received frames whose verdict is known are written back, the oldest first. -/
def State.oxFlush : Nat → State → State
  | 0, s => s
  | fuel + 1, s =>
    match s.sec.ox with
    | [] => s
    | x :: r => match x.stat with
      | none => s
      | some st => State.oxFlush fuel (({ s with sec := { s.sec with ox := r } }).oxWrite x st)

def State.oxDone (s : State) : State := s.oxFlush s.sec.ox.length

/-- OX has a descriptor for one more frame. -/
def State.oxBuf (s : State) : Bool := s.ringRun 7 0 && decide (s.sec.ox.length < (s.ring 7 0).pendingCount 7)

/-- OX takes an item in its order. -/
def State.oxPut (x : OxItem) (s : State) : State := { s with sec := { s.sec with ox := s.sec.ox ++ [x] } }

/-- A new frame identity. -/
def State.newId (s : State) : Nat × State := (s.sec.opId, { s with sec := { s.sec with opId := s.sec.opId + 1 } })

/-- The item of a buffer changes. -/
def State.oxMod (id : Nat) (f : OxItem → OxItem) (s : State) : State :=
  { s with sec := { s.sec with ox := s.sec.ox.map (fun (x : OxItem) => if x.id = id then f x else x) } }

/-- What has come of a frame's information field is written to its buffer (R333). -/
def State.oxStream (id : Nat) (info : List Byte) (s : State) : State :=
  match s.sec.ox.find? (fun (x : OxItem) => x.id = id) with
  | some x => s.dma (x.buf.addr.toNat + 16) (info.take (x.buf.len.toNat - 16))
  | none => s

/-- Frames are discarded before their verdict. The last descriptors taken serve the frames that follow; one before a frame that
stands is written back in its turn (assumption 151). -/
def State.oxCancel (p : OxItem → Bool) (s : State) : State :=
  let l := s.sec.ox.map (fun (x : OxItem) => if p x && x.stat.isNone then { x with stat := some 4, cut := true } else x)
  ({ s with sec := { s.sec with ox := (l.reverse.dropWhile (fun (x : OxItem) => x.cut)).reverse } }).oxDone

/-- OX no longer runs: received frames that hold a buffer are discarded, counted in RX_DROP (R330; 09 R281). -/
def State.oxStops (s : State) : State :=
  if s.ringRun 7 0 || s.sec.ox = [] then s
  else
    let s := foldS (s.sec.ox.filter (fun (x : OxItem) => !(x.bad || x.cut))) (fun (x : OxItem) (s : State) => s.modDcc x.ch (Dcc.count 4 1)) s
    { s with sec := { s.sec with ox := [] }
             dccs := tmapAll {} (fun _ (d : Dcc) => { d with rx := if d.rx.item.isSome then { d.rx with item := none, lost := true } else d.rx,
                                                             rxDone := d.rxDone.map (fun f => if f.item.isSome then { f with item := none, lost := true } else f) }) s.dccs }

/-- A frame of channel `ch` finds the next OX descriptor, `d`: the buffer it gets, none where OX has none. A bad one is consumed
in its turn (09 R271). -/
def State.dccBuf (ch : Nat) (d : BufDesc) (s : State) : Option Nat × State :=
  if !s.oxBuf then (none, s)
  else
    let r := s.newId
    let s := r.2.readOk 7 0
    let x : OxItem := { id := r.1, ch := ch, buf := d, info := [] }
    if bufOk d then (some r.1, s.oxPut x) else (none, (s.oxPut { x with stat := some 5, bad := true }).oxDone)

/-- The frame that is arriving on a channel, so far, in its buffer. -/
def State.oxArriving (ch : Nat) (s : State) : State :=
  let h := (s.dcc ch).rx
  match h.item with
  | some id => s.oxStream id (infoSoFar h.cfg h.auth (lsbBytes h.bits))
  | none => s

/-- Received bytes of a channel (03 R84): what they add to frames that hold a buffer is written there (R333). -/
def State.dccTake (ch : Nat) (l : List Byte) (s : State) : State :=
  let x := s.dcc ch
  let y := x.take s.stp.frame l
  let s := foldS (y.rxDone.drop x.rxDone.length) (fun (f : DccFrame) (s : State) => match f.item with
    | some id => s.oxStream id (infoSoFar f.cfg f.auth f.bytes)
    | none => s) (s.setDcc ch y)
  s.oxArriving ch

/-- Received bytes stop (03 R84): a frame in progress is discarded and counted in RX_DROP. -/
def State.dccCut (ch : Nat) (s : State) : State :=
  let h := (s.dcc ch).rx
  if h = {} then s
  else (s.modDcc ch (fun x => { (if h.open_ && decide (8 ≤ h.bits.length) && !h.lost then x.count 4 1 else x) with rx := {} })).oxCancel
    (fun x => h.item = some x.id)

end Sys2Proof.Machine
end

