-- ==== Sys2Proof/Machine/Resource.lean ====
section
/-! DEFINITION. The resource registry, the peg board and the pins (14_keys_locks_resources.md R388-R398). -/

namespace Sys2Proof.Machine

/-! ### Registry (14 R392-R396) -/

def resKey (rtype i : Nat) : Nat := 256 * rtype + i

def State.res (s : State) (k : Nat) : Res := tget {} s.sec.res k

/-- A copy of registry entry `k` (14 R396). -/
def resMem (second : Bool) (k : Nat) : Mem := .registry second (Fin.ofNat 5 (k / 256)) (k % 256)

/-- An entry is written: both copies of it. -/
def State.setRes (k : Nat) (r : Res) (s : State) : State :=
  let s := (s.wordWritten (resMem false k)).wordWritten (resMem true k)
  { s with sec := { s.sec with res := tset {} s.sec.res k r } }

/-- Resources of each type (14 Table SE-1): alternates 0-2 and 8-15. -/
def resExists (rtype i : Nat) : Bool :=
  match rtype with
  | 0 => decide (i < 16) | 1 => decide (i < 16) | 2 => decide (i < 2) | 3 => decide (i < 8)
  | 4 => decide (i < 3) || (decide (8 ≤ i) && decide (i < 16)) | 5 => decide (i < 256) | _ => false

/-- A register claim succeeds on a free resource or one under a host reservation (14 R392). -/
def State.claimable (s : State) (k : Nat) : Bool := (s.res k).owner = none || (s.res k).owner = some 0

/-- The feature with code `owner` takes the resource; a host reservation stands behind it (14 R394). -/
def State.claim (owner k : Nat) (s : State) : State :=
  s.setRes k { owner := some owner, behind := (s.res k).owner = some 0 }

/-- The error in a registry entry: uncorrectable where it is so in both copies (14 R396). -/
def State.resUpset (s : State) (k : Nat) : Option Bool :=
  match s.upsetAt (resMem false k), s.upsetAt (resMem true k) with
  | none, none => none
  | some true, some true => some true
  | _, _ => some false

/-- A read of a registry entry finds an error that waits there (14 R396): both copies lost, owner 0xFFFF holds the resource; a
copy lost alone is written again from the other and reported as corrected (assumption 176). -/
def State.resRead (k : Nat) (s : State) : State :=
  match s.resUpset k with
  | none => s
  | some d =>
    let s := ((s.clearUpset (resMem false k)).clearUpset (resMem true k)).sramErr 0x186 k d
    if d then s.setRes k { owner := some 0xFFFF, behind := false } else s

/-- A feature releases a resource it holds: a reservation behind it returns (14 R394). -/
def State.unclaim (owner k : Nat) (s : State) : State :=
  let s := s.resRead k
  if (s.res k).owner = some owner then s.setRes k { owner := if (s.res k).behind then some 0 else none, behind := false } else s

/-- A register claim of several resources at once: all of them or none. -/
def State.claimAll (owner : Nat) (ks : List Nat) (s : State) : Bool × State :=
  let s := foldS ks (fun k s => s.resRead k) s
  if ks.all (fun k => s.claimable k) then (true, ks.foldl (fun s k => s.claim owner k) s) else (false, s)

/-- RES_CLAIM of RTYPE 0-4 (14 R392, R394): the status, the RESULT. -/
def State.hostClaim (k : Nat) (s : State) : Nat × Nat × State :=
  let s := s.resRead k
  match (s.res k).owner with
  | none => (0x00, 0, s.setRes k { owner := some 0, behind := false })
  | some o => (0x07, o, s)

/-- RES_RELEASE of RTYPE 0-4 (14 R394). -/
def State.hostRelease (k : Nat) (s : State) : State :=
  let s := s.resRead k
  let r := s.res k
  if r.owner = some 0 then s.setRes k {} else s.setRes k { r with behind := false }

/-- GPIOs under a host reservation that no feature holds (14 R397). -/
def State.gpioReserved (s : State) : BitVec 16 :=
  (List.range 16).foldl (fun (a : BitVec 16) i => if (s.res (resKey 0 i)).owner = some 0 then a ||| (1#16 <<< i) else a) 0

/-! ### Peg board (14 R388-R391) -/

def State.lock (s : State) (i : Nat) : Lock := tget {} s.sec.locks i

def State.setLock (i : Nat) (l : Lock) (s : State) : State :=
  let s := s.wordWritten (.lock (Fin.ofNat 256 i))
  { s with sec := { s.sec with locks := tset {} s.sec.locks i l } }

/-- A lock breaks (14 R391): its former owner recorded, LOCK_BROKEN raised unless SEC.EV_MASK suppresses it. A lease and an
owner break a HELD lock; an error of the state word (cause 2) breaks a FREE one too, with owner code 0, and leaves a BROKEN one
as it is (assumption 177). -/
def State.breakLock (i cause : Nat) (s : State) : State :=
  let l := s.lock i
  if l.state = 1 || (cause = 2 && l.state = 0) then
    (s.setLock i { state := 2, owner := l.owner, cause := cause, left := 0, since := s.stp.frame }).raiseU (s.rb 0x7014 0)
      .lockBroken 0x185 i (l.owner + cause * 65536)
  else s

/-- A read of a lock's state word finds an error that waits there (14 R391): the lock breaks with cause 2. -/
def State.lockRead (i : Nat) (s : State) : State :=
  let m : Mem := .lock (Fin.ofNat 256 i)
  match s.upsetAt m with
  | none => s
  | some d =>
    let s := (s.clearUpset m).sramErr 0x185 i d
    if d then s.breakLock i 2 else s

/-- A claim of lock `i` by owner `me`, a queue set or a processor (14 R388), with lease `len` (14 R389): status, RESULT. -/
def State.lockClaim (i me len : Nat) (s : State) : Nat × Nat × State :=
  let s := s.lockRead i
  let l := s.lock i
  let held : Lock := { state := 1, owner := me, cause := 0, left := len, since := s.stp.frame }
  if l.state = 0 then (0x00, 0, s.setLock i held)
  else if l.state = 2 then (0x0C, l.owner, s.setLock i held)
  else if l.owner = me then (0x00, 0, s.setLock i { l with left := len })
  else (0x07, l.owner, s)

/-- A release of lock `i` by owner `me` (14 R390). -/
def State.lockRelease (i me : Nat) (s : State) : State :=
  let s := s.lockRead i
  let l := s.lock i
  if l.state = 1 && l.owner = me then s.setLock i { since := l.since } else s

/-- Every lock of the owners that satisfy `p` breaks: its owner was reset. -/
def State.breakOwners (p : Nat → Bool) (s : State) : State :=
  (tkeys (fun (l : Lock) => l.state = 1 && p l.owner) s.sec.locks).foldl (fun s i => s.breakLock i 1) s

/-! ### Capture buffers and alternates -/

def State.capt (s : State) (k : Nat) : Capt := tget {} s.pin.capt k

def State.setCapt (k : Nat) (c : Capt) (s : State) : State := { s with pin := { s.pin with capt := tset {} s.pin.capt k c } }

/-- The fixed input delay of a GPIO capture in sub-ticks (17_electrical_package.md Table EL-11: 4.0 ns, the nearest
sub-tick; DEDUCED, assumption 9). -/
def captDelay : Nat := 1

/-- A position `n` sub-ticks earlier. -/
def Pos.back (p : Pos) (n : Nat) : Pos :=
  let t := p.phase * 16 + p.sub
  if n ≤ t then { frame := p.frame, phase := (t - n) / 16, sub := (t - n) % 16 }
  else let u := t + subTicks - n; { frame := p.frame - 1, phase := u / 16, sub := u % 16 }

/-- An edge at a GPIO reaches buffer `k` (14 R398): time-stamped into its queue of 16, dropped with OVF when full. -/
def State.captEdge (k gpio : Nat) (rise : Bool) (s : State) : State :=
  let c := s.capt k
  let edge := s.rf (0xB0040 + 0x10 * k) 24 2
  let wanted := (rise && edge % 2 = 1) || (!rise && edge / 2 = 1)
  if c.held = some gpio && wanted then
    if c.queue.length < 16 then s.setCapt k { c with queue := c.queue ++ [(s.now.back captDelay, rise)] }
    else s.setCapt k { c with ovf := true }
  else s

/-- A write of PIN.CAPT_CFG[k] (14 R392, R398). -/
def State.captCfgWrite (k : Nat) (v : Word) (s : State) : State :=
  let o := 0xB0040 + 0x10 * k
  let was := s.rb o 31
  let g := wfld v 16 4
  let owner := 0x0600 + k
  let c := s.capt k
  let s := s.regWrite o v
  if wbit v 31 && !was then
    let r := s.claimAll owner [resKey 3 k, resKey 0 g]
    r.2.setCapt k { c with held := if r.1 then some g else none, refused := !r.1 }
  else if !(wbit v 31) then
    let s := s.unclaim owner (resKey 3 k)
    let s := match c.held with | some g => s.unclaim owner (resKey 0 g) | none => s
    s.setCapt k { c with held := none, refused := false, queue := [] }
  else s

/-- A write of PIN.ALT_CFG[a] (14 R392, Table SE-3): alternate and GPIO are claimed together. -/
def State.altCfgWrite (a : Nat) (v : Word) (s : State) : State :=
  let o := 0xB0020 + 4 * a
  let was := s.rb o 31
  let g := wfld v 16 4
  let owner := 0x0500 + a
  let cur := tget (none, false) s.pin.alt a
  let put (x : Option Nat × Bool) (s : State) : State := { s with pin := { s.pin with alt := tset (none, false) s.pin.alt a x } }
  let s := s.regWrite o v
  if wbit v 31 && !was then
    let r := s.claimAll owner [resKey 4 a, resKey 0 g]
    put (if r.1 then some g else none, !r.1) r.2
  else if !(wbit v 31) then
    let s := s.unclaim owner (resKey 4 a)
    put (none, false) (match cur.1 with | some g => s.unclaim owner (resKey 0 g) | none => s)
  else s

/-- A read of PIN.CAPT_DATA[k] as 64 bits (14 R398): the oldest entry, removed. -/
def State.captRead (k : Nat) (s : State) : DWord × State :=
  match (s.capt k).queue with
  | [] => (0, s)
  | (p, rise) :: r =>
    (BitVec.ofNat 64 (p.frame.toNat * 2 ^ 32 + putB true 31 + putB rise 30 + put p.phase 16 12 + put p.sub 0 4),
     s.setCapt k { s.capt k with queue := r })

/-! ### The commands -/

/-- The lease test of R391: a HELD lock whose lease has run out breaks. -/
def State.leaseTest (i : Nat) (s : State) : State :=
  if (s.lock i).state = 1 && (s.lock i).left = 0 then (s.lockRead i).breakLock i 0 else s

/-- LEASE_EXPIRY (14 R391). -/
def execLeaseExpiry (i : Fin 256) (s : State) : Host.Outcome State Fault Refusal := .next (s.leaseTest i)

/-- CAPTURE_EDGE (14 R398): the level of the ball changes and every buffer on it takes the edge. -/
def execCaptureEdge (gpio : Fin 16) (rise : Bool) (s : State) : Host.Outcome State Fault Refusal :=
  let lvl : BitVec 16 := if rise then s.pin.gpioIn ||| (1#16 <<< gpio.val) else s.pin.gpioIn &&& ~~~ (1#16 <<< gpio.val)
  let s := { s with pin := { s.pin with gpioIn := lvl } }
  .next (foldS (List.range 8) (fun k s => s.captEdge k gpio rise) s)

/-- CAPT_DATA_READ (14 R398): a 64-bit read removes the oldest entry of the queue. -/
def execCaptDataRead (k : Fin 8) (s : State) : Host.Outcome State Fault Refusal := .next (s.captRead k).2

end Sys2Proof.Machine
end

