-- ==== Sys2Proof/Machine/Time.lean ====
section
/-! DEFINITION. The story pole: references, the DPLL, timers, reference outputs (02_story_pole.md R33-R66). -/

namespace Sys2Proof.Machine

/-! ### What the clock reads of a line port -/

def State.port (s : State) (n : Nat) : Port := tget {} s.ports n

def State.setPort (n : Nat) (p : Port) (s : State) : State := { s with ports := tset {} s.ports n p }

def State.modPort (n : Nat) (f : Port → Port) (s : State) : State := s.setPort n (f (s.port n))

/-- A defect of LPT[n].STATUS, by bit. -/
def Port.def_ (p : Port) (b : Nat) : Bool := p.defects.getLsbD b

/-- OOF, LOF or LOS stands. -/
def Port.oofLofLos (p : Port) : Bool := p.def_ 1 || p.def_ 2 || p.def_ 3

/-- OOF, LOF, LOS or MS-AIS stands. -/
def Port.lost (p : Port) : Bool := p.oofLofLos || p.def_ 4

/-- The QL a port reports to the DPLL (03 R83). -/
def Port.ql (p : Port) : Nat := if p.lost then 0xF else p.s1Acc

/-! ### Candidates -/

/-- Rank of a QL code under an option (02 Table SP-2): 9 is DNU or DUS and every code not listed (R47). -/
def qlRank (opt2 : Bool) (c : Nat) : Nat :=
  if opt2 then
    match c with
    | 1 => 1 | 0 => 2 | 7 => 3 | 4 => 4 | 13 => 5 | 10 => 6 | 12 => 7 | 14 => 8 | _ => 9
  else
    match c with
    | 2 => 1 | 4 => 2 | 8 => 3 | 11 => 4 | _ => 9

def refReg (k : Nat) : Nat := 0x1040 + 8 * k

/-- STP.SEL_CFG and STP.REF_CFG[k] take force at a frame boundary (01 R12): the word in force, a field, a bit of it. -/
def State.stpCfg (s : State) (o : Nat) : Word := tget (regReset o) s.stp.held o
def State.stpF (s : State) (o lo w : Nat) : Nat := wfld (s.stpCfg o) lo w
def State.stpB (s : State) (o i : Nat) : Bool := wbit (s.stpCfg o) i

/-- The words written take force (01 R12, R13; assumption 156). -/
def State.stpHold (s : State) : State :=
  { s with stp := { s.stp with held := (0x1024 :: (List.range 8).map refReg).foldl (fun t o => tset (regReset o) t o (s.reg o)) [] } }

def State.ref (s : State) (k : Nat) : RefState := tget {} s.stp.refs k

def State.setRef (k : Nat) (r : RefState) (s : State) : State :=
  { s with stp := { s.stp with refs := tset {} s.stp.refs k r } }

/-- STP.REF_CFG[k].EN. -/
def State.refEn (s : State) (k : Nat) : Bool := s.stpB (refReg k) 31

/-- The effective QL of a candidate (R47). -/
def State.effQl (s : State) (k : Nat) : Nat :=
  if k < 4 || s.stpB (refReg k) 23 then s.stpF (refReg k) 24 4 else (s.port (s.stpF (refReg k) 0 5)).ql

/-- The rank of a QL under STP.SEL_CFG.QL_OPT. -/
def State.rank (s : State) (c : Nat) : Nat := qlRank (s.stpB 0x1024 30) c

/-- The rank of a candidate's QL: QL_OPT selects the code set used for all candidates (R47; assumption 154). -/
def State.candRank (s : State) (k : Nat) : Nat := s.rank (s.effQl k)

/-- LINE_DEF: the port of an enabled line-clock candidate has LOS or LOF. -/
def State.lineDef (s : State) (k : Nat) : Bool :=
  decide (4 ≤ k) && s.refEn k && ((s.port (s.stpF (refReg k) 0 5)).def_ 1 || (s.port (s.stpF (refReg k) 0 5)).def_ 3)

/-- A disqualifying condition of R43 holds. -/
def State.refBad (s : State) (k : Nat) : Bool :=
  !(s.ref k).active || !(s.ref k).freqOk || s.lineDef k || (s.stpB 0x1024 31 && s.candRank k = 9)

/-- Every condition of R44 is clear: those of R43, and the frequency within 10 ppm. -/
def State.refClear (s : State) (k : Nat) : Bool :=
  !(s.refBad k) && decide (-1000 ≤ (s.ref k).fofs) && decide ((s.ref k).fofs ≤ 1000)

/-- A measurement is taken over (R43); one that meets a condition of R44 restarts the wait at once. -/
def State.refMeasure (k : Nat) (m : RefMeas) (s : State) : State :=
  let s := s.setRef k { s.ref k with active := m.edges, fofs := m.fofs, freqOk := decide (-1200 ≤ m.fofs) && decide (m.fofs ≤ 1200) }
  if s.refClear k then s else s.setRef k { s.ref k with wtrRun := false, wtr := 0 }

/-- STP.SEL_CFG.WTR in seconds. -/
def State.wtrSeconds (s : State) : Nat := min 720 (s.stpF 0x1024 0 10)

/-- LOS or LOF of port `n` has been declared or has cleared (R43, R44): a line-clock candidate that follows the port is to be
disqualified at the next boundary, or its wait ends and starts again once every condition is clear. -/
def State.refLine (n : Nat) (s : State) : State :=
  foldS (List.range 4) (fun i (s : State) =>
    let k := 4 + i
    let r := s.ref k
    if !(s.refEn k) || s.stpF (refReg k) 0 5 ≠ n then s
    else if s.lineDef k then s.setRef k { r with disq := r.disq || r.qualified, wtrRun := false, wtr := 0 }
    else if r.qualified || r.disq || r.wtrRun || !(s.refClear k) || s.wtrSeconds = 0 then s
    else s.setRef k { r with wtrRun := true, wtr := s.wtrSeconds * 8000, wtrAt := s.inFrame }) s

/-- Source of a candidate's events (Table SP-6). -/
def refSource (k : Nat) : Nat := if k < 4 then 0x132 + k else 0x131

/-- The candidate requalifies (R44). -/
def State.requalify (k : Nat) (s : State) : State :=
  (s.setRef k { s.ref k with qualified := true, wtrRun := false, wtr := 0, disq := false }).raise .refQual (refSource k) k 0

/-- The candidate is disqualified (R43, R66). How DATA spells the reason is not stated: a free byte (assumption 10). -/
def State.disqualify (k : Nat) (s : State) : State :=
  let s := s.setRef k { s.ref k with qualified := false, wtrRun := false, wtr := 0, disq := false }
  let f := s.takeFree 1
  f.2.raise .refDisq (refSource k) k (leNat f.1)

/-- The wait for requalification has lasted WTR seconds. -/
def State.wtrOver (s : State) (k : Nat) : Bool :=
  (s.ref k).wtrRun && decide ((s.ref k).wtr = 0) && decide ((s.ref k).wtrAt ≤ s.inFrame)

/-- A candidate at a frame boundary (R43, R44). -/
def State.refBoundary (k : Nat) (s : State) : State :=
  let r := s.ref k
  if !(s.refEn k) then s.setRef k { r with qualified := false, wtrRun := false, wtr := 0, disq := false }
  else if r.qualified then (if s.refBad k || r.disq then s.disqualify k else s)
  else if !(s.refClear k) || r.disq then s.setRef k { r with wtrRun := false, wtr := 0, disq := false }
  else if s.wtrSeconds = 0 then s.requalify k
  else if r.wtrRun then s.setRef k { r with wtr := r.wtr - 1 }
  else s.setRef k { r with wtrRun := true, wtr := s.wtrSeconds * 8000, wtrAt := 0 }

/-! ### Selection (R45, R46) -/

/-- Candidate `a` is chosen before candidate `b`. -/
def State.refBefore (s : State) (a b : Nat) : Bool :=
  let pa := s.stpF (refReg a) 16 4
  let pb := s.stpF (refReg b) 16 4
  let ra := if s.stpB 0x1024 31 then s.candRank a else 0
  let rb := if s.stpB 0x1024 31 then s.candRank b else 0
  decide (ra < rb) || (decide (ra = rb) && (decide (pa < pb) || (decide (pa = pb) && decide (a < b))))

/-- A candidate may be selected automatically. -/
def State.refEligible (s : State) (k : Nat) : Bool := (s.ref k).qualified && decide (s.stpF (refReg k) 16 4 < 15)

/-- The best eligible candidate. -/
def State.refBest (s : State) : Option (Fin 8) :=
  (List.finRange 8).find? (fun k =>
    s.refEligible k && (List.finRange 8).all (fun j => !(s.refEligible j) || j = k || s.refBefore k j))

/-- The candidate the selector chooses (R45, R46). -/
def State.refSelect (s : State) : Option (Fin 8) :=
  if s.stpB 0x1024 19 then
    let k := Fin.ofNat 8 (s.stpF 0x1024 16 3)
    if (s.ref k).qualified then some k else none
  else
    match s.stp.sel with
    | some k =>
      if !(s.stpB 0x1024 29) && (s.ref k).qualified then
        match s.refBest with
        | some b => if s.stpB 0x1024 31 && decide (s.candRank b < s.candRank k) then some b else some k
        | none => some k
      else s.refBest
    | none => s.refBest

/-- A candidate number in REF_SWITCH, 0xFF for none. -/
def refNumber : Option (Fin 8) → Nat
  | some k => k
  | none => 0xFF

/-- The selection at a frame boundary. -/
def State.selBoundary (s : State) : State :=
  let new := s.refSelect
  if new = s.stp.sel then s
  else ({ s with stp := { s.stp with sel := new } }).raise .refSwitch 0x131 (refNumber s.stp.sel * 256 + refNumber new) 0

/-! ### DPLL states (Table SP-3) -/

def State.enterFreerun (s : State) : State :=
  ({ s with stp := { s.stp with dpll := 0, holdReady := false, lockFrames := 0, acqFrames := 0 } }).raise .dpllFreerun 0x131 0 0

def State.enterHoldover (s : State) : State :=
  ({ s with stp := { s.stp with dpll := 3, lockFrames := 0, acqFrames := 0 } }).raise .dpllHoldover 0x131 0 0

def State.enterAcquiring (s : State) : State :=
  { s with stp := { s.stp with dpll := 1, lockFrames := 0, acqFrames := 0 } }

/-- STP.DPLL_CFG.HOLD_FORCE. -/
def State.holdForce (s : State) : Bool := s.rb 0x102C 4

/-- The DPLL at a frame boundary, with the phase error measured (R49). -/
def State.dpllBoundary (phaseErr : Int) (s : State) : State :=
  let s := { s with stp := { s.stp with phaseErr := phaseErr } }
  if s.stp.dpll = 0 then (if s.stp.sel.isSome then s.enterAcquiring else s)
  else if s.stp.dpll = 3 then (if s.stp.sel.isSome && !s.holdForce then s.enterAcquiring else s)
  else if s.stp.holdReady && (s.holdForce || s.stp.sel.isNone) then s.enterHoldover
  else if s.stp.sel.isNone then s.enterFreerun
  else if s.stp.dpll = 1 then
    { s with stp := { s.stp with acqFrames := if phaseErr.natAbs ≤ 100 then s.stp.acqFrames + 1 else 0 } }
  else { s with stp := { s.stp with lockFrames := min 800000 (s.stp.lockFrames + 1) } }

/-- The clock's own QL (R48). -/
def State.ownQl (s : State) : Nat :=
  match s.stp.sel with
  | some k => if s.stp.dpll = 1 || s.stp.dpll = 2 then s.effQl k else s.stpF 0x1024 24 4
  | none => s.stpF 0x1024 24 4

/-- A change of the clock's own QL is reported (R66); `curQl` is the QL last reported. -/
def State.qlUpdate (s : State) : State :=
  if s.ownQl = s.stp.curQl then s
  else ({ s with stp := { s.stp with curQl := s.ownQl } }).raise .qlChange 0x131 s.ownQl 0

/-- S1 bits 5 to 8 inserted on port `n` with S1_AUTO = 1 (R48). -/
def State.s1Auto (s : State) (n : Nat) : Nat :=
  match s.stp.sel with
  | some k => if 4 ≤ k.val && s.stpF (refReg k) 0 5 = n then 0xF else s.ownQl
  | none => s.ownQl

/-- STP.DPLL_STATUS.ALIGNED (R53). -/
def State.aligned (s : State) : Bool :=
  match s.stp.sel with
  | some k =>
    decide (k.val < 4) && decide (s.stpF (refReg k) 12 3 ≤ 1) && s.rb 0x102C 3 && (s.stp.dpll = 1 || s.stp.dpll = 2)
      && decide (s.stp.phaseErr.natAbs ≤ 10)
  | none => false

/-! ### Reference outputs (R54) -/

def State.refout (s : State) (m : Nat) : RefOut := tget {} s.stp.refouts m

def State.setRefout (m : Nat) (r : RefOut) (s : State) : State :=
  { s with stp := { s.stp with refouts := tset {} s.stp.refouts m r } }

/-- A squelch begins or ends at a frame boundary. -/
def State.refoutBoundary (m : Nat) (s : State) : State :=
  let o := 0x1080 + 4 * m
  let sq := (s.rf o 28 2 = 1 && (s.stp.dpll = 0 || s.stp.dpll = 3))
    || (s.rf o 28 2 = 2 && decide (s.rank (s.rf o 24 4) < s.rank s.ownQl))
  s.setRefout m { s.refout m with squelch := (s.refout m).claimed && sq }

/-- A write of STP.REFOUT_CFG[m]. -/
def State.refoutWrite (m : Nat) (v : Word) (s : State) : State :=
  let o := 0x1080 + 4 * m
  let was := s.rb o 31
  let s := s.regWrite o v
  if wbit v 31 && !was then
    let r := s.claimAll (0x0300 + m) [resKey 2 m]
    r.2.setRefout m { s.refout m with claimed := r.1, refused := !r.1 }
  else if !(wbit v 31) then (s.unclaim (0x0300 + m) (resKey 2 m)).setRefout m {}
  else s

/-- Cycles per frame of a REFOUT frequency (17 R440); a reserved FREQ gives none: the ball stays low (assumption 172). -/
def refoutCycles (freq : Nat) : Nat :=
  match freq with
  | 0 => 1 | 1 => 256 | 2 => 193 | 3 => 1250 | _ => 0

/-- The level of a REFOUT ball, none high-impedance (R54; 13 R371; 17 R427, R440): low until set up, while squelched and in the
fatal state; else in each cycle high first, so that an edge rises at every frame boundary and 8 kHz is high from F:0000 to
F:1214. -/
def State.refoutLevel (s : State) (m : Nat) : Option Bool :=
  let c := refoutCycles (s.rf (0x1080 + 4 * m) 0 3)
  if !s.powered then none
  else some ((s.refout m).claimed && !(s.refout m).squelch && !s.flt.fatal && decide (c ≠ 0)
    && decide (2 * (s.inFrame * c % subTicks) < subTicks))

/-! ### General timers (R59-R61) -/

def State.timer (s : State) (n : Nat) : Timer := tget {} s.stp.timers n

def State.setTimer (n : Nat) (t : Timer) (s : State) : State :=
  { s with stp := { s.stp with timers := tset {} s.stp.timers n t } }

/-- Ticks from the present position to a target that lies less than 2^31 frames ahead, else 0 (R39). -/
def State.ticksTo (s : State) (f : Word) (p : Nat) : Nat :=
  if decide (f = s.stp.frame) || after f s.stp.frame then distance f s.stp.frame * 2430 + p - s.stp.phase else 0

/-- The period of a timer in ticks; a TICKS value above 2429 counts as it is (assumption 157). -/
def State.tmrPeriod (s : State) (n : Nat) : Nat := s.rf (tmrReg n 0x10) 12 20 * 2430 + s.rf (tmrReg n 0x10) 0 12

/-- A periodic timer's settings keep R61. -/
def State.tmrPeriodOk (s : State) (n : Nat) : Bool :=
  let c := tmrReg n 0
  !(s.rb c 28) || (decide ((if s.rb c 27 then 2430 else 2) ≤ s.tmrPeriod n) && decide (s.rf c 8 8 < s.tmrPeriod n))

/-- A timer's own GPIO claim (R61). -/
def State.tmrGpioClaim (n : Nat) (s : State) : State :=
  let g := s.rf (tmrReg n 0) 20 4
  let r := s.claimAll (0x0200 + n) [resKey 0 g]
  r.2.setTimer n { s.timer n with gpio := if r.1 then some g else none, gpioRefused := !r.1 }

/-- A timer's GPIO is released. -/
def State.tmrGpioFree (n : Nat) (s : State) : State :=
  let s := match (s.timer n).gpio with | some g => s.unclaim (0x0200 + n) (resKey 0 g) | none => s
  s.setTimer n { s.timer n with gpio := none, gpioRefused := false }

/-- A write of STP.TMR_CFG[n] (R59, R61, 14 R392). A GPIO field that changes while GPIO_EN stays 1 leaves the claim on the
GPIO claimed (assumption 158). -/
def State.tmrWrite (n : Nat) (v : Word) (s : State) : State :=
  let o := tmrReg n 0
  let was := s.rb o 31
  let wasG := s.rb o 26
  let s := s.regWrite o v
  if !(wbit v 31) then
    let s := (s.tmrGpioFree n).unclaim (0x0200 + n) (resKey 1 n)
    s.setTimer n { s.timer n with claimed := false, refused := false, target := none }
  else
    let s := if was then s else
      let r := s.claimAll (0x0200 + n) [resKey 1 n]
      r.2.setTimer n { s.timer n with claimed := r.1, refused := !r.1 }
    if !(s.timer n).claimed then s
    else if wbit v 26 && !(was && wasG) then s.tmrGpioClaim n
    else if !(wbit v 26) then s.tmrGpioFree n
    else s

/-- Arm a timer for the position in STP.TMR_AT[n], or set ARM_ERR and leave it disarmed (R59). A PHASE above 2429 names no
position: ARM_ERR (assumption 128). A timer that is not enabled or was refused does nothing, ARM_ERR included
(assumption 129); in the fatal state every timer stays disarmed (13 R371). -/
def State.tmrArm (n : Nat) (s : State) : State :=
  if !(s.timer n).claimed || s.flt.fatal then s else
  let f := s.reg (tmrReg n 0xC)
  let p := s.rf (tmrReg n 0x8) 0 12
  let d := s.ticksTo f p
  if decide (p ≤ 2429) && decide (1 ≤ d) && decide (d ≤ 2 ^ 20 * 2430) && s.tmrPeriodOk n then
    s.setTimer n { s.timer n with target := some (f, p) }
  else s.setTimer n { s.timer n with target := none, armErr := true }

def State.tmrDisarm (n : Nat) (s : State) : State := s.setTimer n { s.timer n with target := none }

/-- An armed timer whose target has come. -/
def State.tmrDue (s : State) (n : Nat) : Bool :=
  match (s.timer n).target with
  | some (f, p) => (f = s.stp.frame && decide (p ≤ s.stp.phase)) || after s.stp.frame f
  | none => false

/-- The next target of a periodic timer: the previous one plus the period in force now (R60); R61 is checked when the timer
is armed and not again (assumption 159). -/
def State.tmrNext (s : State) (n : Nat) (f : Word) (p : Nat) : Word × Nat :=
  (f + BitVec.ofNat 32 ((p + s.tmrPeriod n) / 2430), (p + s.tmrPeriod n) % 2430)

/-- An armed timer fires (R60). -/
def State.tmrFire (n : Nat) (s : State) : State :=
  let c := tmrReg n 0
  match (s.timer n).target with
  | none => s
  | some (f, p) =>
    let t := s.timer n
    let t : Timer := { t with fired := true, target := if s.rb c 28 then some (s.tmrNext n f p) else none }
    let t : Timer := match t.gpio with
      | some g => if s.rb c 26 then { t with pulse := 16 * s.rf c 8 8, pulseGpio := g, pulseHigh := !(s.rb c 25) } else t
      | none => t
    whenS (s.rb c 27) (fun s => s.raise .tmrFire 0x130 n 0) (s.setTimer n t)

/-! ### Time passes -/

/-- `n` sub-ticks of the things that count in less than frames: timer pulses, ERR_N's minimum width, counter samples. -/
def State.subTicksPass (n : Nat) (s : State) : State :=
  { s with
    stp := { s.stp with timers := tmapAll {} (fun _ (t : Timer) => { t with pulse := t.pulse - n }) s.stp.timers }
    flt := { s.flt with errLeft := s.flt.errLeft - n }
    pmc := { s.pmc with wait := s.pmc.wait.map (fun (x : Nat × Nat) => (x.1, x.2 - n)) } }

/-! ### The commands -/

/-- SNAP_LATCH (R37). -/
def execSnapLatch (s : State) : Host.Outcome State Fault Refusal :=
  .next { s with stp := { s.stp with snap := s.now } }

/-- A write of STP.EPOCH (R62): the last write before the boundary applies. -/
def State.epochWrite (v : Word) (s : State) : State :=
  let s := s.setReg 0x1018 v
  { s with stp := { s.stp with epoch := some v } }

/-- EPOCH_WRITE (R62). -/
def execEpochWrite (v : Word) (s : State) : Host.Outcome State Fault Refusal := .next (s.epochWrite v)

/-- A write of STP.SECOND_ORIGIN (R55). -/
def State.originWrite (v : Word) (s : State) : State := { s with stp := { s.stp with originNew := some v } }

/-- SECOND_ORIGIN_WRITE (R55). -/
def execSecondOriginWrite (v : Word) (s : State) : Host.Outcome State Fault Refusal := .next (s.originWrite v)

/-- TIMER_ENABLE (R59, R61). -/
def execTimerEnable (n : Fin 16) (v : Word) (s : State) : Host.Outcome State Fault Refusal := .next (s.tmrWrite n v)

/-- TIMER_ARM (R59). -/
def execTimerArm (n : Fin 16) (s : State) : Host.Outcome State Fault Refusal := .next (s.tmrArm n)

/-- TIMER_DISARM (R59). -/
def execTimerDisarm (n : Fin 16) (s : State) : Host.Outcome State Fault Refusal := .next (s.tmrDisarm n)

/-- TMR_FIRE (R60): an armed timer at its target; no other fires. -/
def execTmrFire (n : Fin 16) (s : State) : Host.Outcome State Fault Refusal :=
  .next (if s.tmrDue n then s.tmrFire n else s)

/-- REFOUT_ENABLE (R54). -/
def execRefoutEnable (m : Fin 2) (v : Word) (s : State) : Host.Outcome State Fault Refusal := .next (s.refoutWrite m v)

/-- REF_DISQ (R43): the condition is noted; disqualification takes effect at the next frame boundary. -/
def execRefDisq (k : Fin 8) (m : RefMeas) (s : State) : Host.Outcome State Fault Refusal :=
  let s := s.refMeasure k m
  .next (if s.refEn k && s.refBad k then s.setRef k { s.ref k with disq := true } else s)

/-- REF_QUAL (R44): a good measurement starts the wait; at the wait's end the candidate requalifies. -/
def execRefQual (k : Fin 8) (m : RefMeas) (s : State) : Host.Outcome State Fault Refusal :=
  let s := s.refMeasure k m
  let r := s.ref k
  .next (if !(s.refEn k) || r.qualified || r.disq || !(s.refClear k) then s
    else if r.wtrRun then (if s.wtrOver k then s.requalify k else s)
    else if s.wtrSeconds = 0 then s
    else s.setRef k { r with wtrRun := true, wtr := s.wtrSeconds * 8000, wtrAt := s.inFrame })

/-- DPLL_LOCK (R49, Table SP-3): the phase error has stayed within 100 ns for 1 s in ACQUIRING. -/
def execDpllLock (s : State) : Host.Outcome State Fault Refusal :=
  .next (if s.stp.dpll = 1 && decide (8000 ≤ s.stp.acqFrames) then
      ({ s with stp := { s.stp with dpll := 2, lockFrames := 0 } }).raise .dpllLock 0x131 0 0
    else s)

/-- HOLD_READY (R49): 100 s of continuous LOCKED; a waiting HOLD_FORCE then forces HOLDOVER. At a frame boundary the
reference outputs follow at once (R54). -/
def execHoldReady (s : State) : Host.Outcome State Fault Refusal :=
  .next (if s.stp.dpll = 2 && decide (800000 ≤ s.stp.lockFrames) && !s.stp.holdReady then
      let s := { s with stp := { s.stp with holdReady := true } }
      if s.holdForce then
        whenS (decide (s.inFrame = 0)) (fun s => (s.refoutBoundary 0).refoutBoundary 1) s.enterHoldover.qlUpdate
      else s
    else s)

/-- OSC_FAIL (R51): SYNC_OSC shows no activity while it is in use. -/
def execOscFail (s : State) : Host.Outcome State Fault Refusal :=
  .next (if s.stp.onXo then s
    else ({ s with stp := { s.stp with onXo := true, oscFail := true } }).raise .oscFail 0x131 0 0)

/-- A write of STP.DPLL_CFG (R51): OSC_SEL = 1 moves the DPLL to SYNC_OSC and ends OSC_FAIL, OSC_SEL = 0 to the XO and
leaves OSC_FAIL as it stands (assumption 133). -/
def State.dpllCfgWrite (v : Word) (s : State) : State :=
  let s := s.regWrite 0x102C v
  if wbit v 2 then { s with stp := { s.stp with onXo := false, oscFail := false } }
  else { s with stp := { s.stp with onXo := true } }

/-- OSC_SELECT (R51): a write of 1 to STP.DPLL_CFG.OSC_SEL, the other fields as they stand. -/
def execOscSelect (s : State) : Host.Outcome State Fault Refusal := .next (s.dpllCfgWrite (s.reg 0x102C ||| 4#32))

end Sys2Proof.Machine
end

