-- ==== Sys2Proof/Machine/Path.lean ====
section
/-! DEFINITION. Pointers, structures, the HO cross-connect, path monitors and the scribe
(04_paths_and_traces.md R94-R129). -/

namespace Sys2Proof.Machine

/-! ### Defect-seen bits (12 R336) -/

/-- The defects `bits` of a unit are declared at this instant: their defect-seen bits (12 R336, R337). -/
def State.seeBits (scope idx bits : Nat) (s : State) : State :=
  let k := 65536 * scope + idx
  { s with mgt := { s.mgt with seen := tset 0 s.mgt.seen k (tget 0 s.mgt.seen k ||| bits) } }

/-- A defect of a unit changes: on either side of the change it is declared at this instant (12 R337). -/
def State.seeDef (scope idx bit : Nat) (s : State) : State := s.seeBits scope idx (1 <<< bit)

/-! ### Groups that stand in front of the cross-connect (08 R219) -/

def groupKey (kind g : Nat) : Nat := 65536 * kind + g

def State.group (s : State) (kind g : Nat) : Group := tget {} s.prt.groups (groupKey kind g)

def State.setGroup (kind g : Nat) (x : Group) (s : State) : State :=
  { s with prt := { s.prt with groups := tset {} s.prt.groups (groupKey kind g) x } }

/-- The line pair a port belongs to. -/
def State.pairOf (s : State) (n : Nat) : Option Nat :=
  (List.range 16).find? (fun i => (s.group 0 i).inUse && ((s.group 0 i).op.w = n || (s.group 0 i).op.p = n))

/-- The line pair whose working port is `n`; a deleted pair stands until its selector has returned (08 R222). -/
def State.pairOfW (s : State) (n : Nat) : Option Nat :=
  (List.range 16).find? (fun i => ((s.group 0 i).inUse || (s.group 0 i).back) && (s.group 0 i).op.w = n)

/-- The port whose received signal source slots 192n + s carry (08 R234). -/
def State.feedPort (s : State) (n : Nat) : Nat :=
  match s.pairOfW n with
  | some i => if (s.group 0 i).selP then (s.group 0 i).op.p else n
  | none => n

/-! ### Structures (R94-R96) -/

/-- N of STM-N for a rate code (03 Table LP-1). -/
def rateN : Nat → Nat
  | 0 => 1 | 1 => 4 | 2 => 16 | _ => 64

/-- N of a port. -/
def State.portN (s : State) (n : Nat) : Nat := rateN (s.rf (lpt n 0) 0 2)

/-- LPT[n].CFG.MODE is SONET. -/
def State.sonet (s : State) (n : Nat) : Bool := s.rb (lpt n 0) 2

/-- Structure code in force of AUG-1 `a` of port `n` (R95). -/
def State.augCode (s : State) (n a : Nat) : Nat := wfld (tget 0 s.hop.struct (4 * n + a / 16)) (2 * (a % 16)) 2

/-- The `g` AUG-1s around `a` form a complete, aligned group of a concatenation code. -/
def State.augGroup (s : State) (n a g code : Nat) : Bool :=
  decide (a / g * g + g ≤ s.portN n) && (List.range g).all (fun j => s.augCode n (a / g * g + j) = code)

/-- The first timeslot and the width of the path that timeslot `t` of port `n` belongs to. -/
def State.pathOf (s : State) (n t : Nat) : Nat × Nat :=
  let a := t / 3
  if s.augCode n a = 1 then (t, 1)
  else if s.augCode n a = 2 && s.augGroup n a 4 2 then (12 * (a / 4), 12)
  else if s.augCode n a = 3 && s.augGroup n a 16 3 then (48 * (a / 16), 48)
  else (3 * a, 3)

/-- The paths of a port: first timeslot and width. -/
def State.pathsOf (s : State) (n : Nat) : List (Nat × Nat) :=
  ((List.range (3 * s.portN n)).map (fun t => (t, s.pathOf n t))).filterMap
    (fun x => if x.2.1 = x.1 then some x.2 else none)

/-- HOP.STRUCT_ERR of a port: some concatenation code forms no group (R95). -/
def State.structErr (s : State) (n : Nat) : Bool :=
  (List.range (s.portN n)).any (fun a =>
    (s.augCode n a = 2 && !(s.augGroup n a 4 2)) || (s.augCode n a = 3 && !(s.augGroup n a 16 3)))

/-! ### The HO cross-connect (R101-R105) -/

/-- Entry of a page: A when `b` is false. -/
def State.xcPage (s : State) (b : Bool) (d : Nat) : Word := tget 0 (if b then s.hop.xcB else s.hop.xcA) d

/-- The active entry of a destination slot. -/
def State.xc (s : State) (d : Nat) : Word := s.xcPage s.hop.active d

/-- Widths of Table PA-3. -/
def xcWidth : Nat → Nat
  | 0 => 1 | 1 => 3 | 2 => 12 | 3 => 48 | _ => 0

/-- The width code of a width; 7 for none. -/
def xcWidthCode : Nat → Nat
  | 1 => 0 | 3 => 1 | 12 => 2 | 48 => 3 | _ => 7

/-- First slot of the range of Table PA-2 that a slot lies in, a line port being a range of its own. -/
def slotBase (x : Nat) : Nat :=
  if x < 6144 then x / 192 * 192 else if x < 6960 then 6144 else if x < 7728 then 6960
  else if x < 8176 then 7728 else x

/-- The first slot of the connection of a destination slot's entry. -/
def connFirst (e : Word) (d : Nat) : Nat :=
  let w := max 1 (xcWidth (wfld e 18 3))
  slotBase d + (d - slotBase d) / w * w

def State.vc4 (s : State) (m : Nat) : Vc4 := tget {} s.vc4s m

/-- A connection of width `w` at slot `x` fits the structures of ports and mappers; `dst` tells which side of the GFP
mapper it meets (R105, 05 Table TB-1, 11 R321). -/
def State.slotFits (s : State) (dst : Bool) (x w : Nat) : Bool :=
  if x < 6144 then s.pathOf (x / 192) (x % 192) = (x % 192, w) && decide (x % 192 + w ≤ 3 * s.portN (x / 192))
  else if x < 6960 then
    let c := (s.vc4 ((x - 6144) / 3)).struct
    (c = 1 && w = 3 && (x - 6144) % 3 = 0) || (c = 2 && w = 1)
  else if x < 7728 then
    s.gfps.all (fun e => match (if dst then e.2.rx else e.2.tx) with
      | some o => (o.slot = x && o.width = w) || decide (o.slot + o.width ≤ x) || decide (x + w ≤ o.slot)
      | none => true)
  else true

/-- The source first slot of the connection that starts at `d`: of the member the selector stands on where the entry
names a group (R239). -/
def State.connSrc (s : State) (e : Word) : Nat :=
  if wbit e 14 then
    let g := s.group 1 (wfld e 0 10)
    if g.selP then g.op.p else g.op.w
  else wfld e 0 13

/-- The connection of entry `e` whose first slot is `d` matches (R105, 08 R239). -/
def State.connMatch (s : State) (e : Word) (d : Nat) : Bool :=
  let w := xcWidth (wfld e 18 3)
  s.slotFits true d w &&
    (if wbit e 14 then
      let g := s.group 1 (wfld e 0 10)
      g.inUse && g.op.width = w && s.slotFits false (if g.selP then g.op.p else g.op.w) w
     else s.slotFits false (wfld e 0 13) w)

/-- The active connections of the cross-connect: first slot and entry. -/
def State.conns (s : State) : List (Nat × Word) :=
  (if s.hop.active then s.hop.xcB else s.hop.xcA).filter (fun x => wbit x.2 21 && wbit x.2 15)

/-- The check of R105: mismatches begin, each connection raising XC_MISMATCH once, and end. -/
def State.xcCheck (s : State) : State :=
  let bad := s.conns.filter (fun x => !(s.connMatch x.2 x.1))
  let fresh := bad.filter (fun x => decide (tget 0 s.hop.mism x.1 ≠ x.2))
  let s := { s with hop := { s.hop with mism := bad.foldl (fun t x => tset 0 t x.1 x.2) [] } }
  foldS fresh (fun x s => s.raise .xcMismatch 0x069 x.1 0) s

/-- The source slot a destination slot takes now: 8176 an unequipped VC, 8177 AU-AIS (R102, R105, R108). -/
def State.xcSource (s : State) (d : Nat) : Nat :=
  let e := s.xc d
  let f := connFirst e d
  if !(wbit e 15) then 8176
  else if tget 0 s.hop.mism f ≠ 0 then 8177
  else if wfld e 16 2 = 1 then 8177
  else if wfld e 16 2 = 2 then 8176
  else if wbit e 14 then s.connSrc e + (d - f)
  else wfld e 0 13

/-! ### HO path state -/

def State.path (s : State) (k : Nat) : HoPath := tget {} s.hop.paths k

def State.setPath (k : Nat) (p : HoPath) (s : State) : State :=
  { s with hop := { s.hop with paths := tset {} s.hop.paths k p } }

def State.hoSrc (s : State) (k : Nat) : HoSrc := tget {} s.hop.srcs k

def State.setHoSrc (k : Nat) (p : HoSrc) (s : State) : State :=
  { s with hop := { s.hop with srcs := tset {} s.hop.srcs k p } }

/-- A defect of an HO path: 0 AIS-P, 1 LOP-P, 2 UNEQ-P, 3 PLM-P, 4 TIM, 5 RDI-P, 6 EXC-P, 7 DEG-P. -/
def HoPath.def_ (p : HoPath) (b : Nat) : Bool := p.defects.getLsbD b

/-- An HO flag of Table PA-4: 0 TIM_CA, 1 UNEQ_AIS, 2 PLM_AIS, 3 EXC_AIS, 4 RDI_EN, 5 REI_EN. -/
def HoPath.flag (p : HoPath) (b : Nat) : Bool := p.flags.testBit b

/-- AIS downstream of a path (Table PA-5). -/
def HoPath.aisDown (p : HoPath) : Bool :=
  p.def_ 0 || p.def_ 1 || (p.def_ 2 && p.flag 1) || (p.def_ 3 && p.flag 2) || (p.def_ 4 && p.flag 0)
    || (p.def_ 6 && p.flag 3)

/-- The monitor of the path that a line source slot carries, of the selected port in a pair (08 R234). -/
def State.lineMon (s : State) (x : Nat) : Nat :=
  let n := s.feedPort (x / 192)
  192 * n + (s.pathOf n (x % 192)).1

/-- The flow that a source slot's content comes in: of the path received on the port that carries a line slot, else of the
slot itself. -/
def State.flowKey (s : State) (x : Nat) : Nat := if x < 6144 then s.lineMon x else x

def State.flow (s : State) (k : Nat) : Flow := tget {} s.hop.flows k

def State.setFlow (k : Nat) (f : Flow) (s : State) : State := { s with hop := { s.hop with flows := tset {} s.hop.flows k f } }

/-- A transmitting GFP channel occupies source slot `x` (11 R321). -/
def State.gfpSends (s : State) (x : Nat) : Bool :=
  s.gfps.any (fun e => match e.2.tx with | some o => decide (o.slot ≤ x) && decide (x < o.slot + o.width) | none => false)

/-- The loopback connections of the active map: destination first slot and width. -/
def State.loops (s : State) : List (Nat × Nat) :=
  (s.conns.filter (fun x => decide (7728 ≤ x.1) && decide (x.1 < 8176))).map (fun x => (x.1, xcWidth (wfld x.2 18 3)))

/-- What a source slot sends: 0 the VC of its flow, 1 AU-AIS, 2 an unequipped VC (R101, R108; 11 R321, R325). -/
def State.srcKind (s : State) (x : Nat) : Nat :=
  if x < 6144 then b2n (s.path (s.lineMon x)).aisDown
  else if x < 6960 then (if (s.vc4 ((x - 6144) / 3)).struct = 0 then 2 else 0)
  else if x < 7728 then (if s.gfpSends x then 0 else 2)
  else if x < 8176 then (if s.loops.any (fun e => decide (e.1 ≤ x) && decide (x < e.1 + e.2)) then (s.flow x).kind else 2)
  else if x = 8177 then 1 else 2

/-- A source slot sends AU-AIS. -/
def State.srcAis (s : State) (x : Nat) : Bool := s.srcKind x = 1

/-- A mapper or loopback destination receives AU-AIS. -/
def State.destAis (s : State) (d : Nat) : Bool := s.srcAis (s.xcSource d)

/-! ### Pointers (R97-R99) -/

/-- A received pointer as R97 classifies it. -/
inductive Ptr where
  | ais
  | ndf (ofs : Nat)
  | normal (ofs : Nat)
  | conc
  | invalid
deriving DecidableEq, Repr

/-- Classification of the two pointer bytes; `ss` the SS bits asked for, none where they are not checked. -/
def classify (ss : Option Nat) (h1 h2 : Byte) : Ptr :=
  let n := h1.toNat / 16
  let o := h1.toNat % 4 * 256 + h2.toNat
  if h1 = 0xFF && h2 = 0xFF then .ais
  else if (match ss with | some v => decide (h1.toNat / 4 % 4 ≠ v) | none => false) then .invalid
  else if popcount 4 (n ^^^ 9) ≤ 1 then (if o = 0x3FF then .conc else .ndf o)
  else if popcount 4 (n ^^^ 6) ≤ 1 then .normal o
  else .invalid

/-- What a pointer did to the interpreter: increments, decrements, NDF-enabled new offsets. -/
structure PtrEv where
  inc : Bool := false
  dec : Bool := false
  ndf : Bool := false
deriving DecidableEq, Repr

/-- An invalid pointer. -/
def Pi.bad (lopN : Nat) (p : Pi) : Pi :=
  let p := { p with inv := p.inv + 1, ndf := 0, ais := 0, new := {} }
  if lopN ≤ p.inv && p.st ≠ 2 then { p with st := 2, inv := 0 } else p

/-- A normal pointer with a valid offset that counts toward 3 x new. -/
def Pi.fresh (o : Nat) (p : Pi) : Pi :=
  let r : Run := if p.new.n ≠ 0 && p.new.v = o then { v := o, n := p.new.n + 1 } else { v := o, n := 1 }
  let p := { p with inv := 0, ndf := 0, ais := 0, new := r }
  if 3 ≤ r.n then { p with st := 0, ofs := o, new := {}, since := 0 } else p

/-- One step of a pointer interpreter (R98, R99): `maxOfs` the greatest valid offset. -/
def piStep (lopN maxOfs : Nat) (c : Ptr) (p : Pi) : Pi × PtrEv :=
  let p := { p with since := min 3 (p.since + 1) }
  match c with
  | .ais =>
    let p := { p with ais := p.ais + 1, inv := 0, ndf := 0, new := {} }
    (if 3 ≤ p.ais then { p with st := 1, ais := 3 } else p, {})
  | .conc => (p.bad lopN, {})
  | .invalid => (p.bad lopN, {})
  | .ndf o =>
    if maxOfs < o then (p.bad lopN, {})
    else
      let p := { p with inv := 0, ais := 0, new := {}, ndf := p.ndf + 1 }
      if p.st ≠ 0 then (p, {})
      else if lopN ≤ p.ndf then ({ p with st := 2, ndf := 0 }, { ndf := true })
      else ({ p with ofs := o, since := if o = p.ofs then p.since else 0 }, { ndf := true })
  | .normal o =>
    if p.st = 0 then
      let q := { p with inv := 0, ndf := 0, ais := 0, new := {} }
      if o = p.ofs then (q, {})
      else if popcount 10 (o ^^^ (p.ofs ^^^ 0x2AA)) ≤ 2 then
        if 3 ≤ p.since then ({ q with ofs := (p.ofs + 1) % (maxOfs + 1), since := 0 }, { inc := true }) else (q, {})
      else if popcount 10 (o ^^^ (p.ofs ^^^ 0x155)) ≤ 2 then
        if 3 ≤ p.since then ({ q with ofs := (p.ofs + maxOfs) % (maxOfs + 1), since := 0 }, { dec := true }) else (q, {})
      else if maxOfs < o then (p.bad lopN, {})
      else (p.fresh o, {})
    else if maxOfs < o then (p.bad lopN, {})
    else (p.fresh o, {})

/-- HOP.PI_CFG.LOP_N. -/
def State.lopN (s : State) : Nat := clamp 8 10 (wfld s.hop.piCfg 0 4)

/-- HOP.PI_CFG.SS_CHK. -/
def State.ssChk (s : State) : Bool := wbit s.hop.piCfg 8

/-- The SS bits asked for in AU pointers of a port (R97). -/
def State.ssAsked (s : State) (n : Nat) : Option Nat := if !(s.sonet n) && s.ssChk then some 2 else none

/-! ### Error windows (03 R81, 04 R116, R121) -/

/-- Line frames of a window (Table LP-4). -/
def berWindow : Nat → Nat
  | 5 => 80 | 6 => 800 | 7 => 8000 | 8 => 80000 | 9 => 800000 | _ => 8

/-- The declare count of a threshold: rate in bit/s. -/
def berCount (z rate : Nat) : Nat := cdiv (rate * berWindow z) (8000 * 10 ^ z)

/-- One unit of a sliding window of length `w`: declare at `c` errors, clear below `clr` in a complete window. -/
def berStep (w c clr cnt : Nat) (declared : Bool) (b : Ber) : Ber × Bool :=
  let n := b.n + 1
  let h := (b.hist.filter (fun e => n < e.1 + w)) ++ (if cnt = 0 then [] else [(n, cnt)])
  let total := h.foldl (fun a e => a + e.2) 0
  ({ n := n, hist := h }, if c ≤ total then true else if w ≤ n && decide (total < clr) then false else declared)

/-- One more value of a run. -/
def Run.push (v : Nat) (r : Run) : Run := if r.n ≠ 0 && r.v = v then { v := v, n := min 255 (r.n + 1) } else { v := v, n := 1 }

/-! ### The scribe (R123-R129) -/

def traceKey (kind i : Nat) : Nat := 65536 * kind + i

def State.trace (s : State) (kind i : Nat) : Trace := tget {} s.scribe (traceKey kind i)

def State.setTrace (kind i : Nat) (t : Trace) (s : State) : State :=
  { s with scribe := tset {} s.scribe (traceKey kind i) t }

/-- The processor (0 CP, 1 MP, 2 SP, 3 + k OPk) that serves an entry (R125). -/
def traceOp (kind i : Nat) : Nat := 3 + (match kind with | 0 => i / 8 | 1 => i / 512 | _ => i / 4096)

/-- The string a host string becomes on the line (Table PA-8). -/
def traceString (fmt : Nat) (host : List Byte) : List Byte :=
  match fmt with
  | 0 => bytesAt host 0 1
  | 1 =>
    let c := (bytesAt host 0 15).map (fun b => b &&& 0x7F)
    (0x80#8 ||| BitVec.ofNat 8 (crc7 (0x80 :: c))) :: c
  | _ => bytesAt host 0 62 ++ [0x0D, 0x0A]

/-- Length of a string of a format. -/
def traceLen : Nat → Nat
  | 0 => 1 | 1 => 16 | _ => 64

/-- The part of a string that is compared (Table PA-8): host strings are kept as the host supplies them. -/
def traceCompared (fmt : Nat) (l : List Byte) : List Byte := if fmt = 1 then l.drop 1 else l

/-- TIM as R126 decides it. -/
def Trace.timNow (t : Trace) : Bool :=
  match t.acc with
  | some a => t.cmp && decide (traceCompared t.fmt a ≠ traceCompared t.fmt (traceString t.fmt t.exp))
  | none => false

/-- An unframed string: the run breaks (R125). -/
def Trace.unframe (t : Trace) : Trace := { t with run := [], runLen := 0, unframed := true }

/-- A complete counted string (R125): a run of N makes it ready for the OP. -/
def Trace.counted (str : List Byte) (t : Trace) : Trace :=
  let n := if t.runLen ≠ 0 && t.run = str then min 255 (t.runLen + 1) else 1
  { t with last := str, run := str, runLen := n,
           ready := if t.n ≤ n && t.acc ≠ some str then some str else t.ready }

/-- A received byte of the trace (R124, R125). -/
def Trace.byte (b : Byte) (t : Trace) : Trace :=
  match t.fmt with
  | 0 => t.counted [b]
  | 1 =>
    if b.getLsbD 7 then
      if t.part = [] then { t with part := [b] } else { t.unframe with part := [b] }
    else if t.part = [] then t.unframe
    else
      let p := t.part ++ [b]
      if p.length < 16 then { t with part := p }
      else
        let t := { t with part := [] }
        if (p.headD 0).toNat % 128 = crc7 (0x80 :: p.drop 1) then t.counted p else { t with last := p, crcErr := true }
  | _ =>
    let p := t.part ++ [b]
    if p.drop (p.length - 2) = [0x0D, 0x0A] then
      (if p.length = 64 then Trace.counted p { t with part := [] } else { t.unframe with part := [] })
    else if p.length < 64 then { t with part := p }
    else { t.unframe with part := [] }

/-- The entry's layer has AIS or LOP: the run restarts, nothing is accepted (R126). -/
def Trace.stop (t : Trace) : Trace := { t with run := [], runLen := 0, part := [], ready := none }

/-- The J1 entry bound to a receive point (port, s). -/
def State.traceRx (s : State) (n t : Nat) : Option Nat :=
  (s.scribe.find? (fun e => e.1 / 65536 = 1 && e.2.rx = some (n, t))).map (fun e => e.1 % 65536)

/-- The J1 entry bound to a transmit point. -/
def State.traceTx (s : State) (x : Nat) : Option Nat :=
  (s.scribe.find? (fun e => e.1 / 65536 = 1 && e.2.txPt = some x)).map (fun e => e.1 % 65536)

/-- The next byte a transmit entry sends: the string in progress completes before a new one begins (R127). -/
def Trace.send (t : Trace) : Byte × Trace :=
  let str := if t.txPos = 0 || t.txNow = [] then traceString t.fmt t.tx else t.txNow
  let pos := if t.txNow = [] then 0 else t.txPos
  (byteAt str pos, { t with txNow := str, txPos := (pos + 1) % str.length })

/-! ### Defect changes -/

/-- A defect of an HO path monitor changes (R129): HO events of the line-port monitors only (R113). -/
def State.setPathDef (k b : Nat) (kind : Kind) (on : Bool) (s : State) : State :=
  let p := s.path k
  if p.def_ b = on then s
  else
    let s := s.setPath k { p with defects := if on then p.defects ||| (1#8 <<< b) else p.defects &&& ~~~ (1#8 <<< b) }
    if k < 6144 then
      let s := s.seeDef 1 k b
      s.raiseU (s.rb 0x20008 (1 + b)) kind (0x20 + k / 192) (k % 192) (b2n on)
    else s

def State.lo (s : State) (t : Nat) : LoPath := tget {} s.los t

def State.setLo (t : Nat) (p : LoPath) (s : State) : State := { s with los := tset {} s.los t p }

/-- A defect of an LO path: 0 AIS-V, 1 LOP-V, 2 UNEQ-V, 3 PLM-V, 4 TIM, 5 RDI-V, 6 EXC-V, 7 DEG-V. -/
def LoPath.def_ (p : LoPath) (b : Nat) : Bool := p.defects.getLsbD b

def LoPath.flag (p : LoPath) (b : Nat) : Bool := p.flags.testBit b

/-- AIS to the framer (Table PA-7). -/
def LoPath.aisDown (p : LoPath) : Bool :=
  p.def_ 0 || p.def_ 1 || (p.def_ 2 && p.flag 1) || (p.def_ 3 && p.flag 2) || (p.def_ 4 && p.flag 0)
    || (p.def_ 6 && p.flag 3)

/-- A defect of an LO path changes (R129). -/
def State.setLoDef (t b : Nat) (kind : Kind) (on : Bool) (s : State) : State :=
  let p := s.lo t
  if p.def_ b = on then s
  else
    let s := s.setLo t { p with defects := if on then p.defects ||| (1#8 <<< b) else p.defects &&& ~~~ (1#8 <<< b) }
    let s := s.seeDef 2 t b
    s.raiseU (s.rb 0x20008 (17 + b)) kind (0x40 + t / 1024) t (b2n on)

/-- PM place of a port defect: STATUS bits 1 to 8 (12 Table MG-1). -/
def State.setDef (n b : Nat) (kind : Kind) (on : Bool) (s : State) : State :=
  let p := s.port n
  if p.def_ b = on then s
  else
    let s := s.setPort n { p with defects := if on then p.defects ||| (1#10 <<< b) else p.defects &&& ~~~ (1#10 <<< b),
                                  sticky := if on then p.sticky ||| (1#10 <<< b) else p.sticky,
                                  taint := p.taint || (on && (b = 1 || b = 2 || b = 3)) }
    let s := whenS (decide (b ≤ 8)) (fun s => s.seeDef 0 n (b - 1)) s
    s.raiseU (s.rb (lpt n 0x20) b) kind n 0 (b2n on)

/-- The layer below a trace entry has AIS or LOP, or LOS, LOF or MS-AIS for J0 (R126). -/
def State.layerLost (s : State) (kind i : Nat) : Bool :=
  match kind with
  | 0 => (s.port i).def_ 1 || (s.port i).def_ 3 || (s.port i).def_ 4
  | 1 => match (s.trace 1 i).rx with
    | some (n, t) => (s.path (192 * n + t)).def_ 0 || (s.path (192 * n + t)).def_ 1
    | none => true
  | _ => (s.lo i).def_ 0 || (s.lo i).def_ 1

/-- TIM of a layer follows its entry (R126). -/
def State.setTim (kind i : Nat) (on : Bool) (s : State) : State :=
  let s := s.setTrace kind i { s.trace kind i with tim := on }
  match kind with
  | 0 => s.setDef i 6 .timJ0 on
  | 1 => match (s.trace 1 i).rx with
    | some (n, t) => s.setPathDef (192 * n + t) 4 .timJ1 on
    | none => s
  | _ => s.setLoDef i 4 .timJ2 on

/-- TIM is decided again, and held cleared while the layer is lost. An entry whose OP is out of service is frozen. -/
def State.timUpdate (kind i : Nat) (s : State) : State :=
  if !(s.inSvc (traceOp kind i)) then s
  else s.setTim kind i ((s.trace kind i).timNow && !(s.layerLost kind i))

/-- A trace entry while its layer is lost: the run restarts and TIM is held cleared (R126), or frozen with its OP (01 R31). -/
def State.traceLost (kind i : Nat) (s : State) : State :=
  let s := s.setTrace kind i (s.trace kind i).stop
  if s.inSvc (traceOp kind i) then s.setTim kind i false else s

/-- A received trace byte reaches its entry; TIM stands again once the layer is back (R126). -/
def State.traceByte (kind i : Nat) (b : Byte) (s : State) : State :=
  if s.layerLost kind i then s.traceLost kind i
  else (s.setTrace kind i ((s.trace kind i).byte b)).timUpdate kind i

/-- The bytes of a trace entry stop without its layer having AIS or LOP: the string in progress is broken. -/
def State.traceGap (kind i : Nat) (s : State) : State := s.setTrace kind i { s.trace kind i with part := [] }

/-- The byte a transmit entry sends next. -/
def State.traceSend (kind i : Nat) (s : State) : Byte × State :=
  let r := (s.trace kind i).send
  (r.1, s.setTrace kind i r.2)

/-- The OP accepts a string (R125). -/
def State.traceAccept (kind i : Nat) (s : State) : State :=
  let t := s.trace kind i
  match t.ready with
  | none => s
  | some str =>
    if !(s.inSvc (traceOp kind i)) || s.layerLost kind i then s
    else
      let s := s.setTrace kind i { t with acc := some str, ready := none }
      let src := match kind with
        | 0 => i
        | 1 => 0x20 + (match t.rx with | some (n, _) => n | none => 0)
        | _ => 0x40 + i / 1024
      (s.raiseU (s.rb 0x20008 25) .traceNew src i (kind * 256)).timUpdate kind i

/-! ### HO path overhead (R110-R116) -/

/-- The overhead of a received VC frame and the BIP-8 over all its bytes (R110). -/
structure RxPath where
  j1 : Byte
  b3 : Byte
  c2 : Byte
  g1 : Byte
  h4 : Byte
  bip : Byte
deriving DecidableEq, Repr

/-- The overhead of a VC frame of width `w`: the first byte of each of its nine rows. -/
def rxOf (w : Nat) (l : List Byte) : RxPath :=
  let o (r : Nat) := byteAt l (87 * w * r)
  { j1 := o 0, b3 := o 1, c2 := o 2, g1 := o 3, h4 := o 5, bip := bip8 l }

/-- Rate of a VC in bit/s (R116). -/
def vcRate : Nat → Nat
  | 1 => 48960000 | 3 => 150336000 | 12 => 601344000 | _ => 2405376000

/-- What a path loses while AIS-P or LOP-P is declared (R115). -/
def HoPath.restart (p : HoPath) : HoPath :=
  { p with c2Run := {}, rdiRun := {}, bip := none, exc := {}, deg := {}, vc := {} }

/-- TIM of a path is frozen: the OP of the J1 entry bound to it is out of service (01 R31). -/
def State.timFrozen (s : State) (k : Nat) : Bool :=
  match s.traceRx (k / 192) (k % 192) with
  | some e => decide (k < 6144) && !(s.inSvc (traceOp 1 e))
  | none => false

/-- The expected C2 of a monitor or of a mapper sink (R111, R113). -/
def HoPath.expected (p : HoPath) (k : Nat) : Nat :=
  if k < 6144 then (match p.expC2 with | some b => b.toNat | none => 1) else if k < 6960 then 2 else 0x1B

/-- PLM-P of an accepted C2 (R111). -/
def plmP (acc exp : Nat) : Bool :=
  decide (acc ≠ exp) && !(acc = 0 || (exp = 1 && acc ≠ 0) || (acc = 1 && exp ≠ 0))

/-- The checks of R110 to R112 and R116 on one VC frame of monitor or sink `k`, width `w`. -/
def State.pathOverhead (k w : Nat) (r : RxPath) (s : State) : State :=
  let p := s.path k
  let err := match p.bip with | some b => bipErrors b r.b3 | none => 0
  let c2Run := p.c2Run.push r.c2.toNat
  let acc := if 5 ≤ c2Run.n then some r.c2.toNat else p.c2Acc
  let rdiRun := p.rdiRun.push (b2n (r.g1.getLsbD 3))
  let rei := if r.g1.toNat / 16 ≤ 8 then r.g1.toNat / 16 else 0
  let zx := clamp 3 5 (wfld s.hop.berCfg 0 4)
  let zy := clamp 5 9 (wfld s.hop.berCfg 4 4)
  let cx := berCount zx (vcRate w)
  let cy := berCount zy (vcRate w)
  let ex := berStep (berWindow zx) cx (max 1 (cx / 10)) err (p.def_ 6) p.exc
  let dg := berStep (berWindow zy) cy (max 1 (cy / 10)) err (p.def_ 7) p.deg
  let s := s.setPath k { p with
    bip := some r.bip, b3Last := err, b3 := p.b3 + BitVec.ofNat 32 err, rei := p.rei + BitVec.ofNat 32 rei,
    c2Run := c2Run, c2Acc := acc, rdiRun := rdiRun, g1 := r.g1, exc := ex.1, deg := dg.1 }
  let s := match acc with
    | some a => (s.setPathDef k 2 .uneqP (a = 0)).setPathDef k 3 .plmP (plmP a (p.expected k))
    | none => s
  let s := if 5 ≤ rdiRun.n then s.setPathDef k 5 .rdiP (r.g1.getLsbD 3) else s
  (s.setPathDef k 6 .excP ex.2).setPathDef k 7 .degP dg.2

/-- AIS-P and LOP-P of path `k` as given; while either stands the others are held cleared (R115). -/
def State.pathServer (k : Nat) (ais lop : Bool) (s : State) : State :=
  let s := (s.setPathDef k 0 .aisP ais).setPathDef k 1 .lopP lop
  if ais || lop then
    let s := (s.setPathDef k 2 .uneqP false).setPathDef k 3 .plmP false
    let s := (if s.timFrozen k then s else s.setPathDef k 4 .timJ1 false).setPathDef k 5 .rdiP false
    let s := (s.setPathDef k 6 .excP false).setPathDef k 7 .degP false
    s.setPath k (s.path k).restart
  else s

/-- TIM of a mapper sink is that of the line timeslot that is its source (R113). -/
def State.sinkTim (d : Nat) (s : State) : State :=
  let x := s.xcSource d
  s.setPathDef d 4 .timJ1 (decide (x < 6144) && (s.path (s.lineMon x)).def_ 4)

/-- The HO paths of the LO mapper and the GFP mapper, first slot and width: every one is a sink and a source (R107, R113;
05 Table TB-1; 11 R321), those of the GFP mapper in its own slots (Table PA-2). -/
def State.sinks (s : State) : List (Nat × Nat) :=
  s.vc4s.flatMap (fun (e : Nat × Vc4) =>
    if e.2.struct = 1 then [(6144 + 3 * e.1, 3)]
    else if e.2.struct = 2 then (List.range 3).map (fun g => (6144 + 3 * e.1 + g, 1)) else [])
  ++ ((s.gfps.flatMap (fun (e : Nat × Gfp) =>
    (match e.2.rx with | some o => [(o.slot, o.width)] | none => [])
      ++ (match e.2.tx with | some o => [(o.slot, o.width)] | none => []))).dedup.filter (fun x => decide (6960 ≤ x.1)))

/-! ### H4 and LO paths (R117-R122) -/

def State.h4 (s : State) (k : Nat) : H4 := tget {} s.h4s k

/-- One frame of an H4 multiframe (R117), followed from the value received last (assumption 137). H4 names the next frame
of the TU multiframe (assumption 130); out of the multiframe the frames count on. -/
def H4.step (b : Nat) (h : H4) : H4 :=
  let follows := decide (b % 4 = (h.last + 1) % 4)
  let run := if follows = h.inMf then 0 else h.run + 1
  let flip := decide (2 ≤ run)
  let inMf := if flip then !h.inMf else h.inMf
  let h : H4 := { h with inMf := inMf, last := b % 4, run := if flip then 0 else run, mf := if inMf then (b + 3) % 4 else (h.mf + 1) % 4,
                         outN := if inMf then 0 else min 8 (h.outN + 1), inN := if inMf then min 8 (h.inN + 1) else 0 }
  { h with lom := if 8 ≤ h.outN then true else if 8 ≤ h.inN then false else h.lom }

/-- The mapper's HO path and H4 group that carry a TU position (Table TB-1). -/
def State.tuSlot (s : State) (p : TuPos) : Nat := 6144 + 3 * p.m + (if (s.vc4 p.m).struct = 2 then p.grp else 0)
def State.tuH4 (s : State) (p : TuPos) : Nat := 3 * p.m + (if (s.vc4 p.m).struct = 2 then p.grp else 0)

/-- LOM of H4 multiframe `k` changes: the defect-seen bit of every LO path that it carries (12 Table MG-1). -/
def State.seeLom (k : Nat) (s : State) : State :=
  foldS (s.tribs.filter (fun e => e.2.cfg.en && decide (s.tuH4 e.2.cfg.pos = k))) (fun e (s : State) => s.seeDef 2 e.1 8) s

/-- The H4 byte of VC group `k` = 3m + group (R117); LOM_P on each change. -/
def State.h4Frame (k b : Nat) (s : State) : State :=
  let o := s.h4 k
  let h := o.step b
  let s := { s with h4s := tset {} s.h4s k h }
  if h.lom = o.lom then s
  else (s.seeLom k).raiseU (s.rb 0x20008 9) .lomP (0x40 + k / 3 / 17) (k / 3) (b2n h.lom)

/-- AIS-V caused by the HO path or LOM (R115, Table PA-7). -/
def State.loServer (s : State) (p : TuPos) : Bool :=
  (s.path (s.tuSlot p)).aisDown || s.destAis (s.tuSlot p) || (s.h4 (s.tuH4 p)).lom

/-- AIS-V of a tributary's path caused by the HO path or LOM. -/
def State.loCause (s : State) (t : Nat) : Bool :=
  match s.tribs.find? (fun e => e.1 = t) with
  | some e => s.loServer e.2.cfg.pos
  | none => false

/-- The TU at a position: 84 places in each VC-4 equivalent. -/
def tuKey (p : TuPos) : Nat := ((p.m * 3 + p.grp) * 7 + p.tug2) * 4 + p.tu

def State.tu (s : State) (k : Nat) : TuRx := tget {} s.hop.tus k

def State.setTu (k : Nat) (x : TuRx) (s : State) : State := { s with hop := { s.hop with tus := tset {} s.hop.tus k x } }

/-- State of the pointer interpreter of a tributary's TU: 0 NORM, 1 AIS, 2 LOP. -/
def State.tuState (s : State) (t : Nat) : Nat :=
  match s.tribs.find? (fun e => e.1 = t) with
  | some e => (s.tu (tuKey e.2.cfg.pos)).pi.st
  | none => 2

/-- AIS-V and LOP-V of a path from its interpreter, its label and its server layer; the suppression of R122. -/
def State.loServerUpdate (t : Nat) (ho : Bool) (s : State) : State :=
  let p := s.lo t
  let st := s.tuState t
  let ais := st = 1 || p.label = some 7 || ho
  let lop := st = 2
  let s := s.setLo t { p with hoCause := ho }
  let s := (s.setLoDef t 0 .aisV ais).setLoDef t 1 .lopV lop
  if ais || lop then
    let s := (s.setLoDef t 2 .uneqV false).setLoDef t 3 .plmV false
    let s := (if s.inSvc (traceOp 2 t) then s.setLoDef t 4 .timJ2 false else s).setLoDef t 5 .rdiV false
    let s := (s.setLoDef t 6 .excV false).setLoDef t 7 .degV false
    let p := s.lo t
    s.setLo t { p with labelRun := if st = 0 && !ho then p.labelRun else {}, rdiRun := {}, bip := none, exc := {}, deg := {} }
  else s

/-- Window of EXC-V and DEG-V in multiframes (R121): `t1` for VC-11. -/
def loWindow (t1 : Bool) (z : Nat) : Nat := cdiv (32000 * 10 ^ z) (if t1 then 1664000 else 2240000)

/-- A received VC-12 or VC-11 multiframe: V5, J2, N2, K4, and the BIP-2 over all its bytes (R119). -/
structure RxTu where
  v5   : Byte
  j2   : Byte
  k4   : Byte
  bip2 : Nat
deriving DecidableEq, Repr

/-- BIP-2 over bytes that were added bit by bit (R119): bit 1 over the odd-numbered bits, bit 2 over the even-numbered. -/
def bip2Of (b : Byte) : Nat := 2 * b2n (parity 8 (b &&& 0xAA).toNat) + b2n (parity 8 (b &&& 0x55).toNat)

/-- V5 and the rest of a received TU multiframe (R118-R121): `label` the label sent and expected. -/
def State.loOverhead (t label : Nat) (t1 : Bool) (r : RxTu) (s : State) : State :=
  let p := s.lo t
  let v := r.v5.toNat
  let err := match p.bip with | some b => popcount 2 (b ^^^ (v / 64)) | none => 0
  let labelRun := p.labelRun.push (v / 2 % 8)
  let acc := if 5 ≤ labelRun.n then some (v / 2 % 8) else p.label
  let rdiRun := p.rdiRun.push (v % 2)
  let k4Run := p.k4Run.push r.k4.toNat
  let zx := clamp 3 5 (wfld s.hop.berCfg 8 4)
  let zy := clamp 5 7 (wfld s.hop.berCfg 12 4)
  let ex := berStep (loWindow t1 zx) 16 1 err (p.def_ 6) p.exc
  let dg := berStep (loWindow t1 zy) 16 1 err (p.def_ 7) p.deg
  let s := s.setLo t { p with
    bip := some r.bip2, bipCnt := p.bipCnt + BitVec.ofNat 32 err,
    reiCnt := p.reiCnt + BitVec.ofNat 32 (v / 32 % 2), reiTx := decide (1 ≤ err) && p.flag 5,
    labelRun := labelRun, label := acc, rdiRun := rdiRun, k4Run := k4Run,
    k4Acc := if 5 ≤ k4Run.n then r.k4.toNat else p.k4Acc, exc := ex.1, deg := dg.1 }
  let s := s.loServerUpdate t (s.loCause t)
  if (s.lo t).def_ 0 || (s.lo t).def_ 1 then s
  else
    let s := match acc with
      | some a => (s.setLoDef t 2 .uneqV (a = 0)).setLoDef t 3 .plmV (a ≠ 0 && a ≠ label && a ≠ 1)
      | none => s
    let s := if 5 ≤ rdiRun.n then s.setLoDef t 5 .rdiV (v % 2 = 1) else s
    (s.setLoDef t 6 .excV ex.2).setLoDef t 7 .degV dg.2

/-! ### The commands -/

/-- A write of HOP.STRUCT[n][w] (R96, 08 R223): the word is stored, for both ports of a line pair; the structure in
force follows at the next frame boundary. -/
def State.structWrite (n w : Nat) (v : Word) (s : State) : State :=
  let o (k : Nat) := 0x20100 + 0x10 * k + 4 * w
  match s.pairOf n with
  | some i => (s.setReg (o (s.group 0 i).op.w) v).setReg (o (s.group 0 i).op.p) v
  | none => s.setReg (o n) v

/-- HOP_STRUCT_WRITE (R96). -/
def execHopStructWrite (n : Fin 32) (w : Fin 4) (v : Word) (s : State) : Host.Outcome State Fault Refusal :=
  .next (s.structWrite n w v)

/-- A timeslot stops starting a path: nothing is monitored there, its declared defects end. -/
def State.pathEnd (k : Nat) (s : State) : State :=
  let s := s.setPath k { (s.path k).restart with pi := {}, conc := [], concLop := false, c2Acc := none }
  let s := (s.setPathDef k 0 .aisP false).setPathDef k 1 .lopP false
  let s := (s.setPathDef k 2 .uneqP false).setPathDef k 3 .plmP false
  let s := (s.setPathDef k 4 .timJ1 false).setPathDef k 5 .rdiP false
  (s.setPathDef k 6 .excP false).setPathDef k 7 .degP false

/-- Timeslot `x` has a new structure: a path that starts there starts again in LOP, one that started there ends (R96); a
timeslot that starts no path before or after has nothing to report (R129). -/
def State.pathRestart (x : Nat) (was now : Bool) (s : State) : State :=
  let p := s.path x
  if now then
    (s.setPath x { p with pi := {}, conc := [], concLop := false, inc := 0, dec := 0, ndf := 0,
                          defects := if was then p.defects else 0 }).pathServer x false true
  else if was then s.pathEnd x
  else s

/-- The structure words take force at a frame boundary (R96): in every AUG-1 of the port whose code changed the interpreters
start again in LOP with their counters cleared and the generators send AU-AIS; codes beyond the rate are ignored (R95).
Answers whether any changed. -/
def State.structBoundary (s : State) : Bool × State :=
  let ws := (List.range 128).filter (fun k => decide (tget 0 s.hop.struct k ≠ s.reg (0x20100 + 4 * k)))
  let old := s
  let s := { s with hop := { s.hop with struct := ws.foldl (fun t k => tset 0 t k (s.reg (0x20100 + 4 * k))) s.hop.struct } }
  let slots := ws.flatMap (fun k => (List.range 16).flatMap (fun j =>
    let a := 16 * (k % 4) + j
    if s.portN (k / 4) ≤ a || old.augCode (k / 4) a = s.augCode (k / 4) a then [] else
      [192 * (k / 4) + 3 * a, 192 * (k / 4) + 3 * a + 1, 192 * (k / 4) + 3 * a + 2]))
  (decide (ws ≠ []), foldS slots (fun x s =>
    let s := { s with hop := { s.hop with stores := tmod {} s.hop.stores x (fun st => { st with hold := true }) } }
    (s.setFlow x {}).pathRestart x (decide ((old.pathOf (x / 192) (x % 192)).1 = x % 192))
      (decide ((s.pathOf (x / 192) (x % 192)).1 = x % 192))) s)

/-- TRACE_NEW (R125): a run of N equal strings waits for the OP. -/
def execTraceNew (kind : Fin 3) (index : Nat) (s : State) : Host.Outcome State Fault Refusal :=
  .next (s.traceAccept kind index)

end Sys2Proof.Machine
end

