-- ==== Sys2Proof/Machine/Vc.lean ====
section
/-! DEFINITION. The content of the VC frames: flows from a source slot, VC frames and TUs as the sinks of the mappers take
them (04_paths_and_traces.md R101, R106, R110, R113, R117-R122; 05_tributaries_and_highways.md R131, R133, R138). A VC frame
is 783 units of one byte per timeslot. The columns of containers, TUGs and TUs and the bits of the mappings are those of
G.707 (assumption 130). -/

namespace Sys2Proof.Machine

/-! ### VC frames and their parts -/

/-- The units of a VC frame of width `w`. -/
def vcUnits (w : Nat) (l : List Byte) : List (Nat × List Byte) := (List.range 783).map (fun i => (i, bytesAt l (w * i) w))

/-- Byte `i` of a VC frame of width `w` carries payload: no overhead, no fixed stuff. -/
def vcData (w i : Nat) : Bool :=
  let c := i % (87 * w)
  if w = 1 then decide (c ≠ 0) && decide (c ≠ 29) && decide (c ≠ 58)
  else if 12 ≤ w then decide (w / 3 ≤ c) else decide (c ≠ 0)

/-- The payload bytes of a VC frame, in order. -/
def vcPayload (w : Nat) (l : List Byte) : List Byte := (l.zipIdx.filter (fun e => vcData w e.2)).map (fun e => e.1)

/-- Parts of `len` places are cut out of a stream of units: each complete part with the number of its place. -/
def vcSplit (len : Nat) : List (Nat × List Byte) → Chunk → List (Nat × List Byte) × Chunk
  | [], c => ([], c)
  | u :: l, c =>
    if u.1 % len = 0 then
      let r := vcSplit len l { at_ := some (u.1 / len), part := u.2 }
      ((match c.at_ with | some a => [(a, c.part)] | none => []) ++ r.1, r.2)
    else vcSplit len l (if c.at_.isSome then { c with part := c.part ++ u.2 } else c)

/-! ### Flows -/

/-- Units come from a source; the latest 2,400 are kept. -/
def Flow.push (us : List (Nat × List Byte)) (f : Flow) : Flow :=
  let l := f.units ++ us
  let n := l.length - 2400
  { f with base := f.base + n, units := l.drop n }

/-- How many units have come so far. -/
def Flow.ends (f : Flow) : Nat := f.base + f.units.length

/-- The units from count `pos` on. -/
def Flow.since (pos : Nat) (f : Flow) : List (Nat × List Byte) := f.units.drop (pos - f.base)

/-- Unit number `i`, none where it came before those kept or has not come. -/
def Flow.unit (f : Flow) (i : Nat) : Option (Nat × List Byte) := if i < f.base then none else f.units[i - f.base]?

/-- The `w` slots of a loopback from `x` on as one flow: each slot brings its own byte of a unit (R101); a slot to which
nothing was written brings 0. The units are those of slot `x`, the others stand beside them counted from the latest. -/
def State.loopFlow (s : State) (x w : Nat) : Flow :=
  let f := s.flow x
  let rest := (List.range (w - 1)).map (fun j => (s.flow (x + j + 1)).units)
  { f with units := f.units.mapIdx (fun i u => (u.1, byteAt u.2 0 :: rest.map (fun l =>
      if f.units.length ≤ l.length + i then byteAt (l.getD (l.length + i - f.units.length) (0, [])).2 0 else 0))) }

/-- The flow that source slots `x` to `x + w - 1` send. -/
def State.flowOf (s : State) (x w : Nat) : Flow :=
  if decide (7728 ≤ x) && decide (x < 8176) then s.loopFlow x w else s.flow (s.flowKey x)

def State.modFlow (k : Nat) (g : Flow → Flow) (s : State) : State := s.setFlow k (g (s.flow k))

/-! ### TUs received (04 R118; 05 R131, R133) -/

/-- Column of a VC row of width `w` that column `c` of TUG-2 `tug2` in group `g` stands in. -/
def tuCol (w g tug2 c : Nat) : Nat :=
  let j := tug2 + 7 * c
  if w = 1 then 1 + j + b2n (decide (28 ≤ j)) + b2n (decide (56 ≤ j)) else 9 + 3 * j + g

/-- The places of the bytes of a TU in a VC frame of width `w`, in order: a TUG-2 sends its TUs column by column in turn. -/
def tuPlaces (w g tug2 tu : Nat) (t1 : Bool) : List Nat :=
  (List.range 9).flatMap (fun r => (List.range (if t1 then 3 else 4)).map (fun c =>
    87 * w * r + tuCol w g tug2 (tu + (if t1 then 4 else 3) * c)))

/-- The TU positions of VC-4 equivalent `m` in groups `gs`, with whether each is a TU-11 (R131). -/
def Vc4.positions (v : Vc4) (m : Nat) (gs : List Nat) : List (TuPos × Bool) :=
  gs.flatMap (fun g => (List.range 7).flatMap (fun k =>
    let t1 := v.tu11.testBit (7 * g + k)
    (List.range (if t1 then 4 else 3)).map (fun tu => ({ m := m, grp := g, tug2 := k, tu := tu }, t1))))

/-- Bytes of the payload of a TU in a frame: a quarter of its VC. -/
def tuLen (t1 : Bool) : Nat := if t1 then 26 else 35

/-- Bytes from place `start` on, with their places in a VC that begins at offset `ofs`. -/
def tuTag (len ofs start : Nat) (l : List Byte) : List (Nat × List Byte) :=
  l.mapIdx (fun i b => ((start + i + 4 * len - ofs % (4 * len)) % (4 * len), [b]))

/-- Frame `mf` of the TU multiframe (R118): V1 to V4 stand first in the four frames, the pointer takes effect after V2, a
justification at V3. Answers the TU and the quarters of its VC that are complete. -/
def TuRx.frame (lopN : Nat) (ss : Option Nat) (t1 : Bool) (mf : Nat) (b : List Byte) (x : TuRx) : TuRx × List (Nat × List Byte) :=
  let n := tuLen t1
  let v := byteAt b 0
  let l := b.drop 1
  let r : TuRx × List (Nat × List Byte) := match mf with
    | 0 => ({ x with v1 := v }, tuTag n x.pi.ofs (3 * n) l)
    | 1 =>
      let q := piStep lopN (4 * n - 1) (classify ss x.v1 v) x.pi
      let j := if q.2.inc then 1 else if q.2.dec then 2 else 0
      ({ x with pi := q.1, just := j }, tuTag n (if j = 0 then q.1.ofs else x.pi.ofs) 0 l)
    | 2 => (x, if x.just = 2 then tuTag n x.pi.ofs (n - 1) (v :: l)
               else if x.just = 1 then tuTag n x.pi.ofs (n + 1) (l.drop 1) else tuTag n x.pi.ofs n l)
    | _ => (x, tuTag n x.pi.ofs (2 * n) l)
  if r.1.pi.st = 0 then
    let c := vcSplit n r.2 r.1.vc
    ({ r.1 with vc := c.2 }, c.1)
  else ({ r.1 with vc := {}, mf := [] }, [])

/-- The tributary's bits in quarter `q` of a VC-12 or VC-11 (R138): `mf` holds the quarters of the multiframe so far. Where
two of the three C bits of a justification opportunity are 0 it carries a bit. -/
def loBits (t1 sync : Bool) (mf : List (List Byte)) (q : Nat) (l : List Byte) : List Bool :=
  let body := bitsOf (bytesAt l 2 (if t1 then 24 else 32))
  let o := byteAt l 1
  let c (i : Nat) : Bool := decide (((mf.drop 1).filter (fun b => !((byteAt b 1).getLsbD i))).length < 2)
  if sync then (if t1 then [o.getLsbD 1] else []) ++ body
  else if t1 then
    (if q = 3 then (if c 7 then [] else [o.getLsbD 2]) ++ (if c 6 then [] else [o.getLsbD 1]) else [o.getLsbD 1]) ++ body
  else if q = 3 then (if c 7 then [] else [o.getLsbD 0]) ++ (if c 6 then [] else body.take 1) ++ body.drop 1
  else body

/-- A quarter of the VC of an enabled tributary arrives: its bits go to the framer, and the last one completes the VC
multiframe (R119, R120, R138). -/
def State.loQuarter (t : Nat) (c : TribSet) (q : Nat) (l : List Byte) (s : State) : State :=
  let k := tuKey c.pos
  let x := s.tu k
  let mf := if q = 0 then [l] else if x.mf.length = q then x.mf ++ [l] else []
  let s := s.setTu k { x with mf := mf }
  let s := if (s.lo t).aisDown then s
    else { s with tribs := s.tribs.map (fun (e : Nat × Trib) =>
      if e.1 = t then (t, { e.2 with rxBits := e.2.rxBits ++ loBits c.t1 c.byteSync mf q l }) else e) }
  if q = 3 && decide (mf.length = 4) then
    let r : RxTu := { v5 := byteAt (mf.getD 0 []) 0, j2 := byteAt (mf.getD 1 []) 0, k4 := byteAt l 0, bip2 := bip2Of (bip8 mf.flatten) }
    (s.loOverhead t (if c.byteSync then 4 else 2) c.t1 r).traceByte 2 t r.j2
  else s

/-- One frame of a TU (R118-R122). Of a TU that no enabled tributary is bound to the pointer alone is monitored (05 R133). -/
def State.tuFrame (p : TuPos) (t1 : Bool) (mf : Nat) (b : List Byte) (s : State) : State :=
  let ss := if s.ssChk then some (if t1 then 3 else 2) else none
  let r := (s.tu (tuKey p)).frame s.lopN ss t1 mf b
  let s := s.setTu (tuKey p) r.1
  match s.tribs.find? (fun e => e.2.cfg.en && decide (e.2.cfg.pos = p)) with
  | none => s
  | some e =>
    let s := if mf = 1 then s.loServerUpdate e.1 (s.loServer p) else s
    let s := if r.1.pi.st ≠ 0 then s.traceLost 2 e.1 else s
    foldS r.2 (fun c s => s.loQuarter e.1 e.2.cfg c.1 c.2) s

/-! ### The sinks of the mappers (R113, R117) -/

/-- The bytes of a VC frame of width `w` reach what sink `d` terminates it in: the TUs of the LO mapper, a GFP channel. -/
def State.vcTerm (d w h4 : Nat) (l : List Byte) (s : State) : State :=
  if d < 6960 then
    let m := (d - 6144) / 3
    let v := s.vc4 m
    if v.struct = 0 then s
    else
      let s := s.h4Frame (d - 6144) h4
      let mf := (s.h4 (d - 6144)).mf
      foldS (v.positions m (if w = 3 then [0, 1, 2] else [(d - 6144) % 3])) (fun x s =>
        s.tuFrame x.1 x.2 mf ((tuPlaces w x.1.grp x.1.tug2 x.1.tu x.2).map (byteAt l))) s
  else
    { s with gfps := s.gfps.map (fun e => match e.2.rx with
      | some o => if o.slot = d then (e.1, { e.2 with rxOct := e.2.rxOct ++ vcPayload w l }) else e
      | none => e) }

/-- A VC frame arrives at sink `d`: the checks of R110 to R112, then what it carries. -/
def State.sinkVc (d w : Nat) (l : List Byte) (s : State) : State :=
  let r := rxOf w l
  (s.pathOverhead d w r).vcTerm d w r.h4.toNat l

/-- A sink whose source sends a VC takes the units that have come since. -/
def State.sinkPull (d w : Nat) (s : State) : State :=
  let x := s.xcSource d
  if s.srcKind x ≠ 0 then s
  else
    let k := s.flowKey x
    let f := s.flowOf x w
    let s := s.pathServer d false false
    let p := s.path d
    if p.src ≠ k then (s.setPath d { p with src := k, pos := f.ends, vc := {} }).sinkTim d
    else
      let r := vcSplit 783 (f.since p.pos) p.vc
      let s := s.setPath d { p with pos := f.ends, vc := r.2 }
      (foldS r.1 (fun c s => s.sinkVc d w c.2) s).sinkTim d

/-- A sink at a frame boundary: a frame of all-ones under AU-AIS, of an unequipped VC, or what its source has sent. -/
def State.sinkFrame (d w : Nat) (s : State) : State :=
  match s.srcKind (s.xcSource d) with
  | 0 => s.sinkPull d w
  | 1 =>
    let s := s.pathServer d true false
    (s.setPath d { s.path d with src := 8177 }).vcTerm d w 0xFF (List.replicate (783 * w) 0xFF)
  | _ =>
    let s := s.pathServer d false false
    ((s.setPath d { s.path d with src := 8176 }).sinkVc d w (List.replicate (783 * w) 0)).sinkTim d

/-- Every enabled tributary whose HO path is in AIS, or in LOM, has AIS-V (R115, R122). -/
def State.loSweep (s : State) : State :=
  foldS (s.tribs.filter (fun e => e.2.cfg.en)) (fun e s =>
    if s.loServer e.2.cfg.pos then (if (s.lo e.1).hoCause then s else (s.loServerUpdate e.1 true).traceLost 2 e.1)
    else if (s.lo e.1).hoCause then s.loServerUpdate e.1 false else s) s

/-! ### Loopbacks (Table PA-2) -/

/-- What was written to the loopback slots in the ended frame stands at their sources now, slot by slot: every loopback takes
what its source had sent before any of them moves on. -/
def State.loopFrame (s : State) : State :=
  let old := s
  foldS old.loops (fun x s =>
    let y := old.xcSource x.1
    let kind := old.srcKind y
    let k := old.flowKey y
    let p := old.path x.1
    let f := old.flowOf y x.2
    let us := if p.src = k then f.since p.pos else []
    let s := s.setPath x.1 { p with src := k, pos := f.ends }
    foldS (List.range x.2) (fun j s => s.modFlow (x.1 + j) (fun f =>
      { (if kind = 0 then f.push (us.map (fun u => (u.1, [byteAt u.2 j]))) else f) with kind := kind })) s) s

end Sys2Proof.Machine
end

