-- ==== Sys2Proof/Machine/Line.lean ====
section
/-! DEFINITION. Line ports and section termination (03_line_ports.md R67-R93): framing, the section checks, K1/K2 and
S1, the transmit frame. Overhead positions in STM-N are those of G.707 (assumption 11). -/

namespace Sys2Proof.Machine

/-! ### Settings -/

/-- Bytes of a line frame (Table LP-1). -/
def lineLen (n : Nat) : Nat := 2430 * n

/-- A set-up register of a port as the running port uses it: as it stood when the port started (01 R13), or as written
while the port is disabled. -/
def State.lptCfg (s : State) (n o : Nat) : Word := if (s.port n).en then tget (regReset (lpt n o)) (s.port n).cfg o else s.reg (lpt n o)

/-- A bit and a field of such a register. -/
def State.lptB (s : State) (n o i : Nat) : Bool := wbit (s.lptCfg n o) i
def State.lptF (s : State) (n o lo w : Nat) : Nat := wfld (s.lptCfg n o) lo w

/-- The registers that a port holds in force while it runs: CFG, FRM_CFG, CA_CFG, BER_CFG, DCC_CFG. -/
def State.lptHold (s : State) (n : Nat) : Tab Word :=
  [0, 8, 0xC, 0x10, 0x14].foldl (fun t o => tset (regReset (lpt n o)) t o (s.reg (lpt n o))) []

/-- HUNT_N in force (R70). -/
def State.huntN (s : State) (n : Nat) : Nat := clamp 1 (if s.portN n = 1 then 3 else 12) (s.lptF n 0x8 0 4)

/-- CONFIRM_N in force (R71). -/
def State.confirmN (s : State) (n : Nat) : Nat := clamp 2 4 (s.lptF n 0x8 8 3)

/-- A port passes on all-ones downstream (R88). TIM and EXC do it by their own enables, whatever AIS_EN (assumption 134). -/
def State.lineAis (s : State) (n : Nat) : Bool :=
  let p := s.port n
  (s.lptB n 0xC 0 && p.lost) || (p.def_ 6 && s.lptB n 0xC 2) || (p.def_ 7 && s.lptB n 0xC 3)

/-- A port asks for MS-RDI upstream (R88). -/
def State.lineRdi (s : State) (n : Nat) : Bool :=
  let p := s.port n
  s.lptB n 0xC 1 && (p.def_ 3 || p.def_ 1 || p.def_ 4 || (p.def_ 6 && s.lptB n 0xC 2))

/-- REI-L uses M0 and M1 (R69, Table LP-3): at STM-64 with REI_M0, in SDH mode (assumption 141). -/
def State.reiWide (s : State) (n : Nat) : Bool := s.portN n = 64 && s.lptB n 0 7 && !(s.sonet n)

/-- The compared window (R70). -/
def framePattern (h : Nat) : List Byte := List.replicate h 0xF6 ++ List.replicate h 0x28

/-- The places, from `i` on, at which a pattern stands in the first `fuel` places of a list. -/
def patternAt (pat : List Byte) : Nat → Nat → List Byte → List Nat
  | 0, _, _ => []
  | fuel + 1, i, l => (if l.take pat.length = pat then [i] else []) ++ patternAt pat fuel (i + 1) (l.drop 1)

/-- The bytes of a frame time after those of the one before it. -/
def rxSpan (len : Nat) (prev b : List Byte) : List Byte := List.replicate (len - prev.length) 0 ++ prev ++ b

/-- The places 1 .. `len` of a span at which the window of a frame that begins there matches. -/
def frameMarks (nn h : Nat) (x : List Byte) : List Nat :=
  patternAt (framePattern h) (lineLen nn) 1 (x.drop (1 + 3 * nn - h))

/-- Byte of a line frame at a row and a column of STM-N, both from 0. -/
def lineByte (nn : Nat) (b : List Byte) (row col : Nat) : Byte := byteAt b (row * (270 * nn) + col)

/-! ### Parity -/

/-- B2 over a frame (R78): chunk `q` of 3N bytes at a time, the RS overhead left out. -/
def b2Chunks (nn : Nat) : Nat → Nat → List Byte → List Byte → List Byte
  | 0, _, _, acc => acc
  | k + 1, q, b, acc =>
    b2Chunks nn k (q + 1) (b.drop (3 * nn))
      (if q / 90 < 3 ∧ q % 90 < 3 then acc else List.zipWith (· ^^^ ·) acc (bytesAt b 0 (3 * nn)))

/-- The 3N bytes of B2 over a frame before scrambling. -/
def b2Of (nn : Nat) (b : List Byte) : List Byte := b2Chunks nn 810 0 b (List.replicate (3 * nn) 0)

/-- Bits of B2 that disagree. -/
def b2Errors (a b : List Byte) : Nat := (List.zipWith bipErrors a b).foldl (· + ·) 0

/-! ### Framing (R70-R74) -/

/-- The matches held, each with its checks passed, oldest first: the first is the candidate, confirmed by `confirm` - 1
checks; the others its successors; none is HUNT (R71, R72). -/
def Port.settle (confirm : Nat) (l : List (Nat × Nat)) (p : Port) : Port :=
  match l with
  | [] => { p with frm := 0, passes := 0, succs := [] }
  | (c, k) :: r =>
    if confirm ≤ k + 1 then { p with frm := 2, align := c, passes := 0, succs := [], bad := 0 }
    else { p with frm := 1, align := c, passes := k, succs := r }

/-- The framer over one frame time (R71-R73). Every match held is checked at its recurrence, and dropped where it fails;
each further match is held behind them, so that hunting never rescans. -/
def Port.frame (marks : List Nat) (confirm : Nat) (p : Port) : Port :=
  match p.frm with
  | 0 => p.settle confirm (marks.map (fun m => (m, 0)))
  | 1 =>
    let held := (p.align, p.passes) :: p.succs
    p.settle confirm ((held.filter (fun e => decide (e.1 ∈ marks))).map (fun e => (e.1, e.2 + 1))
      ++ (marks.filter (fun m => !(held.any (fun e => decide (e.1 = m))))).map (fun m => (m, 0)))
  | _ =>
    if p.align ∈ marks then { p with bad := 0 }
    else if 4 ≤ p.bad + 1 then
      ({ p with bad := 0 }).settle confirm ((marks.filter (fun m => decide (p.align < m))).map (fun m => (m, 0)))
    else { p with bad := p.bad + 1 }

/-- The OOF integration timer over a line frame that started with `oof` (R74). -/
def Port.integrate (oof : Bool) (p : Port) : Port :=
  if oof then { p with oofInt := min 24 (p.oofInt + 1), inRun := 0 }
  else
    let r := min 24 (p.inRun + 1)
    { p with inRun := r, oofInt := if 24 ≤ r then 0 else p.oofInt }

/-- What a port forgets while it is out of frame: acceptance counts and the frame parity (R82, R83). A REI-L count that is
known is still sent (R79). -/
def Port.outOfFrame (p : Port) : Port :=
  { p with k1Run := {}, k2Run := {}, kbRun := {}, s1Run := {}, kMiss := 0, rxBip := none }

/-- The DCC bytes of a port stop (R84). -/
def State.dccBreak (n : Nat) (s : State) : State :=
  (s.dccCut (2 * n)).dccCut (2 * n + 1)

/-! ### The section overhead of a received frame -/

/-- Errors that the B2 of frame `d` finds in the frame before it (R78). -/
def State.b2Found (s : State) (n : Nat) (d : List Byte) : Nat :=
  match (s.port n).rxBip with
  | some x => b2Errors x.2 (bytesAt d (4 * (270 * s.portN n)) (3 * s.portN n))
  | none => 0

/-- B1 and B2 of a frame `d`, received as `raw` (R77-R80). They check the frame before it: `was` tells whether OOF, LOF or LOS
stood during that one. -/
def State.rxParity (n : Nat) (was : Bool) (raw d : List Byte) (s : State) : State :=
  let nn := s.portN n
  let p := s.port n
  let e1 := match p.rxBip with | some x => bipErrors x.1 (lineByte nn d 1 0) | none => 0
  let e2 := s.b2Found n d
  let sent := if nn = 16 || (nn = 64 && !(s.reiWide n)) then min 255 e2 else e2
  s.setPort n { p with
    rxBip := some (bip8 raw, b2Of nn d), rei := if p.rxBip.isSome then sent else p.rei,
    b1Cnt := if was then p.b1Cnt else p.b1Cnt + BitVec.ofNat 32 e1,
    b2Cnt := if was || p.def_ 4 then p.b2Cnt else p.b2Cnt + BitVec.ofNat 32 e2 }

/-- The REI-L that a frame brings in row 9, not counted where OOF, LOF or LOS stood during it (`now`) or MS-AIS stands
(R79, R80). -/
def State.rxRei (n : Nat) (now : Bool) (d : List Byte) (s : State) : State :=
  let nn := s.portN n
  let m1 := (lineByte nn d 8 (3 * nn + 2)).toNat
  let wide := s.reiWide n
  let v := if wide then 256 * (lineByte nn d 8 (3 * nn + 1)).toNat + m1 else m1
  let top := if wide then 1536 else if nn = 1 then 24 else if nn = 4 then 96 else 255
  s.modPort n (fun p => { p with
    reiCnt := if now || p.def_ 4 then p.reiCnt else p.reiCnt + BitVec.ofNat 32 (if v ≤ top then v else 0) })

/-- The error windows at the end of a line frame with `e2` B2 errors (R81). -/
def State.rxBer (n e2 : Nat) (s : State) : State :=
  let p := s.port n
  let zx := clamp 3 5 (s.lptF n 0x10 0 4)
  let zy := clamp 5 9 (s.lptF n 0x10 4 4)
  let rate := 155520000 * s.portN n
  if p.lost then s.setPort n { p with exc := {}, deg := {} }
  else
    let ex := berStep (berWindow zx) (berCount zx rate) (berCount zx rate / 10) e2 (p.def_ 7) p.exc
    let dg := berStep (berWindow zy) (berCount zy rate) (berCount zy rate / 10) e2 (p.def_ 8) p.deg
    ((s.setPort n { p with exc := ex.1, deg := dg.1 }).setDef n 7 .excL ex.2).setDef n 8 .degL dg.2

/-- K1, K2 and S1 of a frame received in frame (R82, R83): the accepted S1 is held under OOF, LOF, LOS and MS-AIS. A value
of K2 bits 6 to 8 is validated when that same value has come three times in a row (assumption 135). -/
def State.rxKS (n : Nat) (d : List Byte) (s : State) : State :=
  let nn := s.portN n
  let p := s.port n
  let k1 := lineByte nn d 4 (3 * nn)
  let k2 := lineByte nn d 4 (6 * nn)
  let s1 := (lineByte nn d 8 0).toNat % 16
  let k1Run := p.k1Run.push k1.toNat
  let k2Run := p.k2Run.push (k2.toNat / 8)
  let kbRun := p.kbRun.push (k2.toNat % 8)
  let s1Run := p.s1Run.push s1
  let acc := decide (3 ≤ k1Run.n)
  let miss := if acc then 0 else min 12 (p.kMiss + 1)
  let s := s.setPort n { p with
    k1Raw := k1, k2Raw := k2, s1Raw := s1, k1Run := k1Run, k2Run := k2Run, kbRun := kbRun, s1Run := s1Run,
    k1Acc := if acc then k1.toNat else p.k1Acc,
    k2Acc := if 3 ≤ k2Run.n then k2.toNat / 8 else p.k2Acc,
    kbAcc := if 3 ≤ kbRun.n then k2.toNat % 8 else p.kbAcc,
    kMiss := miss,
    capE1 := lineByte nn d 1 (3 * nn), capF1 := lineByte nn d 1 (6 * nn), capE2 := lineByte nn d 8 (6 * nn) }
  let s := if acc then s.setDef n 9 .kunstL false else if 12 ≤ miss then s.setDef n 9 .kunstL true else s
  let s := if 3 ≤ kbRun.n then (s.setDef n 4 .aisL (k2.toNat % 8 = 7)).setDef n 5 .rdiL (k2.toNat % 8 = 6) else s
  let s := whenS ((s.port n).def_ 4) (fun s => s.traceLost 0 n) s
  if decide (8 ≤ s1Run.n) && decide (s1 ≠ p.s1Acc) && !(s.port n).lost then
    (s.modPort n (fun p => { p with s1Acc := s1 })).raiseU (s.rb (lpt n 0x20) 10) .qlRx n 0 s1
  else s

/-- D bytes of a row: columns 1, 4 and 7 of STM-1. -/
def dRow (nn : Nat) (d : List Byte) (row : Nat) : List Byte :=
  [lineByte nn d row 0, lineByte nn d row (3 * nn), lineByte nn d row (6 * nn)]

/-- The DCC bytes of a frame pass to OPk (R84). -/
def State.rxDcc (n : Nat) (d : List Byte) (s : State) : State :=
  let nn := s.portN n
  if (s.port n).oofLofLos then s.dccBreak n
  else
    let s := if s.lptB n 0x14 0 then s.dccTake (2 * n) (dRow nn d 2) else s
    if s.lptB n 0x14 1 then s.dccTake (2 * n + 1) (dRow nn d 5 ++ dRow nn d 6 ++ dRow nn d 7) else s

/-! ### The paths of a received frame -/

/-- The pointer bytes of a timeslot. -/
def hPair (nn : Nat) (d : List Byte) (t : Nat) : Byte × Byte := (lineByte nn d 3 t, lineByte nn d 3 (3 * nn + t))

/-- Rows `a` to `b` - 1 of a path's payload: its units in order. -/
def rowUnits (nn t w a b : Nat) (d : List Byte) : List (List Byte) :=
  (List.range (b - a)).flatMap (fun r => (List.range 87).map (fun g => bytesAt d ((a + r) * (270 * nn) + (3 + g) * (3 * nn) + t) w))

/-- Units from offset place `start` on, with their places in a VC frame of offset `ofs`. -/
def hoTag (ofs start : Nat) (l : List (List Byte)) : List (Nat × List Byte) :=
  l.mapIdx (fun i u => ((start + i + 783 - ofs % 783) % 783, u))

/-- The VC units of a path in a frame (R99): rows 1 to 3 under the pointer before, H3 and the rest under the new one. The
unit after H3 is skipped by an increment, H3 is read by a decrement. -/
def pathUnits (nn t w : Nat) (d : List Byte) (old new : Pi) (ev : PtrEv) : List (Nat × List Byte) :=
  let rest := rowUnits nn t w 3 9 d
  (if old.st = 0 then hoTag old.ofs 522 (rowUnits nn t w 0 3 d) else []) ++
  (if new.st ≠ 0 then []
   else if ev.inc then hoTag new.ofs 1 (rest.drop 1)
   else if ev.dec then hoTag new.ofs 782 (bytesAt d (3 * (270 * nn) + 6 * nn + t) w :: rest)
   else hoTag new.ofs 0 rest)

/-- The concatenation indication of each later AU-4 of a group (R100): for how many frames in a row it was missing. -/
def concStep (lopN : Nat) (ss : Option Nat) (nn t w : Nat) (d : List Byte) (c : Tab Nat) : Tab Nat :=
  (List.range (w / 3)).foldl (fun c j =>
    if j = 0 || w = 3 then c
    else
      let h := hPair nn d (t + 3 * j)
      tset 0 c j (if classify ss h.1 h.2 = .conc then 0 else min lopN (tget 0 c j + 1))) c

/-- The pointer of one path (R97-R100); answers the units of its VC. -/
def State.rxPointer (n : Nat) (d : List Byte) (t w : Nat) (s : State) : List (Nat × List Byte) × State :=
  let nn := s.portN n
  let k := 192 * n + t
  let p := s.path k
  let ss := s.ssAsked n
  let h := hPair nn d t
  let c := classify ss h.1 h.2
  let r := piStep s.lopN 782 c p.pi
  let conc := concStep s.lopN ss nn t w d p.conc
  let q := { p with pi := r.1, conc := conc, concLop := conc.any (fun e => decide (s.lopN ≤ e.2)),
                    inc := p.inc + BitVec.ofNat 32 (b2n r.2.inc), dec := p.dec + BitVec.ofNat 32 (b2n r.2.dec),
                    ndf := p.ndf + BitVec.ofNat 32 (b2n r.2.ndf) }
  (if q.concLop then [] else pathUnits nn t w d p.pi r.1 r.2,
   (s.setPath k q).pathServer k (q.pi.st = 1) (q.pi.st = 2 || q.concLop))

/-- Trace bytes of a received path: its bound J1 entry, or that its layer is lost. -/
def State.rxJ1 (n t : Nat) (b : Option Byte) (s : State) : State :=
  match s.traceRx n t with
  | none => s
  | some e => match b with
    | some b => s.traceByte 1 e b
    | none => s.traceLost 1 e

/-- A whole VC frame of a monitored path (R110-R112, R116, R123). -/
def State.rxVc (n t w : Nat) (l : List Byte) (s : State) : State :=
  let r := rxOf w l
  (s.pathOverhead (192 * n + t) w r).rxJ1 n t (some r.j1)

/-- One path of a received frame: its pointer, its VC frames, its flow to the cross-connect. -/
def State.rxPath (n : Nat) (d : List Byte) (t w : Nat) (s : State) : State :=
  let k := 192 * n + t
  let r := s.rxPointer n d t w
  let s := r.2
  if (s.path k).def_ 0 || (s.path k).def_ 1 then s.rxJ1 n t none
  else
    let p := s.path k
    let c := vcSplit 783 r.1 p.vc
    let s := s.setPath k { p with vc := c.2 }
    (foldS c.1 (fun l s => s.rxVc n t w l.2) s).modFlow k (Flow.push r.1)

/-- What a port passes on of a frame `d` of `len` bytes: all-ones up to byte `k` where `before`, from there on where `after`
(R88). -/
def downstream (len k : Nat) (before after : Bool) (d : List Byte) : List Byte :=
  (if before then List.replicate k 0xFF else d.take k) ++ (if after then List.replicate (len - k) 0xFF else d.drop k)

/-- The path units over the bytes of one line frame, and the mapper sinks that this port's paths feed. -/
def State.rxPaths (n : Nat) (d : List Byte) (s : State) : State :=
  let s := foldS (s.pathsOf n) (fun x s => s.rxPath n d x.1 x.2) s
  let s := foldS s.sinks (fun x s =>
    let y := s.xcSource x.1
    if decide (y < 6144) && decide (s.lineMon y / 192 = n) then s.sinkPull x.1 x.2 else s) s
  s.loSweep

/-- LOF of a port is declared once the integration timer has reached 3 ms, and clears after 3 ms in frame (R74). -/
def State.lofTest (n : Nat) (s : State) : State :=
  let p := s.port n
  if !p.en then s
  else if !(p.def_ 3) && decide (24 ≤ p.oofInt) then ((((s.setDef n 3 .lofL true).refLine n).traceLost 0 n).dccBreak n)
  else if p.def_ 3 && decide (24 ≤ p.inRun) then (s.setDef n 3 .lofL false).refLine n
  else s

/-- A line frame time of a port without signal (R75, R88): OOF is counted, all-ones goes downstream. -/
def State.lostFrame (n : Nat) (s : State) : State :=
  let s := s.modPort n (fun p => { (p.integrate true).outOfFrame with rxAt := some (s.stp.frame, s.inFrame), taint := true })
  let s := (s.traceLost 0 n).dccBreak n
  if s.lineAis n then s.rxPaths n (List.replicate (lineLen (s.portN n)) 0xFF) else s

/-- The next frame time of a port's received bytes, of any alignment (R70-R90): the framer looks at the frame starts in it,
and takes the frame at its own place, which ends with these bytes at the latest. The bytes act in their order: J0, B1 and B2,
K1 and K2 in row 5, from where on AIS downstream follows MS-AIS, then M1 and the end of the frame. -/
def State.rxFrame (n : Nat) (b : List Byte) (s : State) : State :=
  let nn := s.portN n
  let o := s.port n
  let x := rxSpan (lineLen nn) o.rxPrev b
  let p := (o.frame (frameMarks nn (s.huntN n) x) (s.confirmN n)).integrate (o.def_ 2)
  let now := o.oofLofLos || decide (p.frm ≠ 2)
  let s := ((s.setPort n { p with rxPrev := b, rxAt := some (s.stp.frame, s.inFrame), taint := now }).setDef n 2 .oofL (p.frm ≠ 2)).lofTest n
  let raw := (x.drop p.align).take (lineLen nn)
  let d := if s.lptB n 0 4 then raw else scrambleFrame (9 * nn) raw
  if p.frm ≠ 2 then
    let s := ((s.modPort n (fun p => { p.outOfFrame with exc := {}, deg := {} })).traceGap 0 n).dccBreak n
    s.rxPaths n (downstream (lineLen nn) 0 true (s.lineAis n) d)
  else
    let s := s.traceByte 0 n (lineByte nn d 0 (6 * nn))
    let before := s.lineAis n
    let e2 := if o.taint then 0 else s.b2Found n d
    let s := (s.rxParity n o.taint raw d).rxKS n d
    let s := s.rxPaths n (downstream (lineLen nn) (4 * (270 * nn) + 6 * nn + 1) before (s.lineAis n) d)
    ((s.rxRei n now d).rxBer n e2).rxDcc n d

/-! ### Transmit (R76-R89, R106-R108) -/

/-- The transmitter is in electrical idle (R89, R92, 13 R371, R374). -/
def State.txIdle (s : State) (n : Nat) : Bool :=
  (s.port n).squelch || s.flt.fatal || s.flt.pfSquelch || (s.port n).txLol

/-- A byte stored by OH_SET, with its default (Table LP-5). -/
def Port.oh (p : Port) (code : Nat) (dflt : Byte) : Byte := (tget none p.ohSet code).getD dflt

/-- The destination slot whose content timeslot `t` of a port sends: W's for the protection port of a pair (08 R234). -/
def State.txSlot (s : State) (n t : Nat) : Nat :=
  match s.pairOf n with
  | some i => if (s.group 0 i).op.p = n then 192 * (s.group 0 i).op.w + t else 192 * n + t
  | none => 192 * n + t

def State.store (s : State) (d : Nat) : Store := tget {} s.hop.stores d

def State.setStore (d : Nat) (x : Store) (s : State) : State :=
  { s with hop := { s.hop with stores := tset {} s.hop.stores d x } }

/-- The pointer bytes of a first timeslot: NDF or not, SS, offset. -/
def ptrBytes (ndf sonet : Bool) (o : Nat) : Byte × Byte :=
  (BitVec.ofNat 8 ((if ndf then 0x90 else 0x60) + (if sonet then 0 else 8) + o / 256 % 4), BitVec.ofNat 8 (o % 256))

/-- What a path sends in a line frame: the units that stand in its columns, row by row, and its H3 bytes. -/
structure TxPath where
  units : List (List Byte)
  h3    : List Byte
deriving DecidableEq, Repr

/-- How many of the last 783 units of flow `k` have come by now (R106, R107): a port's frame time, which its row begins
(assumption 139), or the frame of the story pole for what the device itself generates, brings them one by one. -/
def State.flowAge (s : State) (k : Nat) : Nat :=
  let a := if k < 6144 then
      match (s.port (k / 192)).rxAt with
      | some (f, p) => (s.stp.frame - f).toNat * subTicks + s.inFrame - p
      | none => 0
    else s.inFrame
  min 783 (783 * a / subTicks)

/-- `n` units of a flow from count `pos` on, none where the store never held one. -/
def Flow.read (pos n : Nat) (f : Flow) : List (Option (Nat × List Byte)) :=
  let l := List.replicate (f.base - pos) none ++ (f.since pos).map some
  (l ++ List.replicate (n - l.length) none).take n

/-- The place in its VC frame of the unit read at number 261, the first after H3: where that one is missing, as the first
that is not tells. -/
def readPlace (l : List (Option (Nat × List Byte))) : Nat :=
  match l.getD 261 none with
  | some u => u.1
  | none => match (l.zipIdx.filterMap (fun e => e.1.map (fun u => (u.1, e.2)))).head? with
    | some (v, i) => (v + 261 + 4 * 783 - i) % 783
    | none => 0

/-- The bytes of units read; those missing are taken from `free`. -/
def unitBytes (w : Nat) : List (Option (Nat × List Byte)) → List Byte → List (List Byte)
  | [], _ => []
  | some u :: l, free => bytesAt u.2 0 w :: unitBytes w l free
  | none :: l, free => bytesAt free 0 w :: unitBytes w l (free.drop w)

/-- A path in AU-AIS, and in an unequipped VC, which starts with the story pole (R101, R108). -/
def State.genFixed (n t w : Nat) (ais hold : Bool) (s : State) : TxPath × State :=
  let k := 192 * n + t
  let st := s.store k
  let o := (2 * 783 - (236 + 783 * s.inFrame / subTicks)  % 783) % 783
  let b : Byte := if ais then 0xFF else 0
  let h := if ais then (0xFF, 0xFF) else ptrBytes (st.ais || !st.uneq || decide (st.ptr ≠ o)) (s.sonet n) o
  ({ units := List.replicate 783 (List.replicate w b), h3 := List.replicate w b },
   s.setStore k { st with ais := ais, uneq := !ais, src := if ais then 8177 else 8176, hold := hold, h1 := h.1, h2 := h.2,
                          ptr := if ais then st.ptr else o, ndf := !ais && decide (h.1.getLsbD 7), since := min 3 (st.since + 1) })

/-- A path that flow `f` from source slot key `k` feeds: its elastic store and its pointer generator (R106, R107, R108). A
line frame is read at its start, one frame and the store's fill behind the units that have come (R109; assumption 139). -/
def State.genFlow (n t w k : Nat) (f : Flow) (s : State) : TxPath × State :=
  let d := 192 * n + t
  let st := s.store d
  let reach := f.ends + s.flowAge k - 783
  let new := decide (st.src ≠ k) || st.ais || st.uneq
  let slip := !new && (decide (reach < st.pos + 784) || decide (st.pos + 784 + 48 < reach))
  let pos := if new || slip then reach - 808 else st.pos
  let fill := reach - (pos + 784)
  let v := readPlace (f.read pos 784)
  let ndf := new || slip || decide ((783 - v) % 783 ≠ st.ptr)
  let neg := !ndf && decide (32 < fill) && decide (3 ≤ st.since)
  let stf := !ndf && decide (fill < 16) && decide (3 ≤ st.since)
  let o := (783 - v) % 783
  let h := ptrBytes ndf (s.sonet n) (if neg then o ^^^ 0x155 else if stf then o ^^^ 0x2AA else o)
  let got := f.read pos (if neg then 784 else if stf then 782 else 783)
  let r := s.takeFree (w * (got.filter (fun u => u.isNone)).length)
  let us := unitBytes w got r.1
  let s := r.2.setStore d { st with fill := fill, pos := pos + got.length, src := k, ais := false, uneq := false, hold := false,
                                    ndf := ndf, h1 := h.1, h2 := h.2,
                                    ptr := if neg then (782 - v) % 783 else if stf then (784 - v) % 783 else o,
                                    since := if neg || stf then 0 else min 3 (st.since + 1) }
  let s := if slip then s.setPath d { s.path d with slip := (s.path d).slip + 1 } else s
  let zero := List.replicate w (0#8)
  (if neg then { units := us.take 261 ++ us.drop 262, h3 := us.getD 261 zero }
   else if stf then { units := us.take 261 ++ zero :: us.drop 261, h3 := zero }
   else { units := us, h3 := zero }, s)

/-- What the path of width `w` that starts at timeslot `t` sends in a line frame (R101, R106, R108): AU-AIS after a change of
structure until a connection matches (R96). For a group of several AUG-1s the hold of its first timeslot decides
(assumption 160). -/
def State.genPath (n t w : Nat) (s : State) : TxPath × State :=
  let d := s.txSlot n t
  let src := s.xcSource d
  let live := wbit (s.xc d) 15 && tget 0 s.hop.mism (connFirst (s.xc d) d) = 0
  let hold := (s.store (192 * n + t)).hold && !live
  if hold || s.srcKind src = 1 then s.genFixed n t w true hold
  else if s.srcKind src = 2 then s.genFixed n t w false false
  else s.genFlow n t w (s.flowKey src) (s.flowOf src w)

/-- What all paths of a port send, in order. -/
def State.genPaths (n : Nat) : List (Nat × Nat) → State → List TxPath × State
  | [], s => ([], s)
  | x :: l, s =>
    let r := s.genPath n x.1 x.2
    let q := State.genPaths n l r.2
    (r.1 :: q.1, q.2)

/-- `k` columns of each path's units, interleaved by byte. -/
def interleave : Nat → List (List (List Byte)) → List Byte
  | 0, _ => []
  | k + 1, l => (l.flatMap (fun u => u.headD [])) ++ interleave k (l.map (fun u => u.drop 1))

/-- The K1 and K2 a port sends (R85, R88, R89, 08 R235). -/
def State.txK (s : State) (n : Nat) : Byte × Byte :=
  let p := s.port n
  let k := match s.pairOf n with
    | some i => ((s.group 0 i).k1Tx, (s.group 0 i).k2Tx)
    | none => (p.oh 4 0, p.oh 5 0)
  (k.1, if s.lineRdi n || s.rb (lpt n 0x44) 1 then (k.2 &&& 0xF8) ||| 6 else k.2)

/-- The S1 a port sends (R48). -/
def State.txS1 (s : State) (n : Nat) : Byte :=
  if s.stpB 0x1024 28 then BitVec.ofNat 8 (s.s1Auto n) else (s.port n).oh 6 0

/-- The M0 and M1 a port sends (Table LP-3). -/
def State.txM (s : State) (n : Nat) : Byte × Byte :=
  let v := if s.lptB n 0xC 4 then (s.port n).rei else 0
  if s.reiWide n then (BitVec.ofNat 8 (v / 256), BitVec.ofNat 8 v) else (0, BitVec.ofNat 8 v)

/-- The values a transmitted frame is built from. -/
structure TxParts where
  nn   : Nat
  oh   : Nat → Byte → Byte
  j0   : Byte
  b1   : Byte
  b2   : List Byte
  k    : Byte × Byte
  s1   : Byte
  m    : Byte × Byte
  rs   : List Byte
  ms   : List Byte
  h    : List (Byte × Byte)
  pay  : List TxPath

/-- The overhead byte at a row and column of STM-N (Table LP-5). -/
def TxParts.overhead (x : TxParts) (row col : Nat) : Byte :=
  let n := x.nn
  match row with
  | 0 => if col < 3 * n then 0xF6 else if col < 6 * n then 0x28 else if col = 6 * n then x.j0 else x.oh 7 0xAA
  | 1 => if col = 0 then x.b1 else if 3 * n ≤ col ∧ col < 4 * n then x.oh 1 0
         else if 6 * n ≤ col ∧ col < 7 * n then x.oh 2 0 else x.oh 8 0
  | 2 => if col % (3 * n) = 0 then byteAt x.rs (col / (3 * n)) else x.oh 8 0
  | 3 => if col < 3 * n then (x.h.getD col (0, 0)).1
         else if col < 6 * n then (x.h.getD (col - 3 * n) (0, 0)).2
         else byteAt (x.pay.flatMap (fun p => p.h3)) (col - 6 * n)
  | 4 => if col < 3 * n then byteAt x.b2 col else if col < 4 * n then x.k.1
         else if 6 * n ≤ col ∧ col < 7 * n then x.k.2 else x.oh 9 0
  | 8 => if col < n then x.s1 else if col = 3 * n + 1 ∧ n = 64 then x.m.1 else if col = 3 * n + 2 then x.m.2
         else if 6 * n ≤ col ∧ col < 7 * n then x.oh 3 0 else x.oh 9 0
  | r => if col % (3 * n) = 0 then byteAt x.ms (3 * (r - 5) + col / (3 * n)) else x.oh 9 0

/-- Row `row` of the frame: the overhead, then 87 columns of each path. -/
def TxParts.row (x : TxParts) (row : Nat) : List Byte :=
  (List.range (9 * x.nn)).map (x.overhead row) ++ interleave 87 (x.pay.map (fun p => p.units.drop (87 * row)))

/-- The line frame before scrambling. -/
def TxParts.frame (x : TxParts) : List Byte := (List.range 9).flatMap x.row

/-- A frame with all-ones outside the RS overhead (R89). -/
def msAis (nn : Nat) (b : List Byte) : List Byte :=
  b.mapIdx (fun i x => if i / (270 * nn) < 3 ∧ i % (270 * nn) < 9 * nn then x else 0xFF)

/-- The pointer bytes of every timeslot, from the stores of the port's paths (R94). -/
def State.txH (s : State) (n : Nat) : List (Byte × Byte) :=
  (List.range (3 * s.portN n)).map (fun t =>
    let f := (s.pathOf n t).1
    let st := s.store (192 * n + f)
    if st.ais then (0xFF, 0xFF) else if f = t then (st.h1, st.h2) else ptrBytes true (s.sonet n) 0x3FF)

/-- The transmit offset in force of a port (R56, R57). -/
def State.txOffset (s : State) (n : Nat) : Nat :=
  let p := s.port n
  if p.txOfs.2.1 then tget 0 s.stp.lgOfs p.txOfs.2.2 else p.txOfs.1

/-- The DCC bytes of a transmit frame (R84): those of a disabled channel are 0. -/
def State.txDcc (c n : Nat) (on : Bool) (s : State) : List Byte × State :=
  if on then
    let r := (tget {} s.dccs c).give n
    (r.1, { s with dccs := tset {} s.dccs c r.2 })
  else (List.replicate n 0, s)

/-- A transmit line frame starts (R56): pointers, overhead, payload. -/
def State.txFrame (n : Nat) (s : State) : State :=
  if s.txIdle n then s.modPort n (fun p => { p with txFrame := [], txB2 := [], tx := {}, txAt := some s.stp.frame })
  else
    let nn := s.portN n
    let pay := State.genPaths n (s.pathsOf n) s
    let s := pay.2
    let p := s.port n
    let j := s.traceSend 0 n
    let rs := j.2.txDcc (2 * n) 3 (s.lptB n 0x14 0)
    let ms := rs.2.txDcc (2 * n + 1) 9 (s.lptB n 0x14 1)
    let s := ms.2
    let b1 := bip8 p.txFrame ^^^ (if s.rb (lpt n 0x44) 2 then 1 else 0)
    let b2 := if p.txB2 = [] then List.replicate (3 * nn) 0 else p.txB2
    let b2 := if s.rb (lpt n 0x44) 3 then (match b2 with | [] => [] | x :: r => (x ^^^ 1) :: r) else b2
    let x : TxParts := {
      nn := nn, oh := p.oh, j0 := j.1, b1 := b1, b2 := b2, k := s.txK n, s1 := s.txS1 n, m := s.txM n,
      rs := rs.1, ms := ms.1, h := s.txH n, pay := pay.1 }
    let ais := s.rb (lpt n 0x44) 0
    let plain := if ais then msAis nn x.frame else x.frame
    let sent := if s.lptB n 0 5 then plain else scrambleFrame (9 * nn) plain
    s.modPort n (fun p => { p with
      txFrame := sent, txB2 := b2Of nn plain, txAt := some s.stp.frame, rei := 0,
      tx := { j0 := j.1, b1 := b1, b2 := b2, k1 := if ais then 0xFF else x.k.1, k2 := if ais then 0xFF else x.k.2,
              s1 := x.s1, m0 := x.m.1, m1 := x.m.2, ais := ais } })

/-- A line frame of a port starts now (R41, R56, R57): at its transmit offset, once in each frame. -/
def State.txStarts (s : State) (n : Nat) : Bool :=
  (s.port n).en && decide (s.stp.phase = s.txOffset n) && decide (s.stp.sub = 0) && decide ((s.port n).txAt ≠ some s.stp.frame)

/-! ### Enabling, offsets, locks -/

/-- A write of LPT[n].CFG (R68, 08 R223): RATE and MODE only while the EN in force is 0 and the port is in no pair. -/
def State.portCfgWrite (n : Nat) (v : Word) (s : State) : State :=
  let o := lpt n 0
  let keep : Word := if (s.port n).en || (s.pairOf n).isSome then 0x7#32 else 0
  s.setReg o ((s.reg o &&& (~~~ regMask o ||| keep)) ||| (v &&& regMask o &&& ~~~ keep))

/-- A write of LPT[n].SERDES_CFG (R68): only while the EN in force is 0. -/
def State.serdesCfgWrite (n : Nat) (v : Word) (s : State) : State :=
  if (s.port n).en then s else s.regWrite (lpt n 4) v

/-- The receiver starts with its framer in HUNT and reports LOS until its clock recovery has locked (R68, R69). -/
def State.portStart (n : Nat) (s : State) : State :=
  let s := s.modPort n (fun p => { p.outOfFrame with
    en := true, cdrLock := false, rxLol := false, frm := 0, passes := 0, succs := [], align := 1, rxPrev := [], rxAt := none,
    taint := true, cfg := s.lptHold n, bad := 0, oofInt := 0, inRun := 0, txFrame := [], txB2 := [], txAt := none, exc := {}, deg := {} })
  (s.setDef n 1 .losL true).setDef n 2 .oofL true

/-- The EN in force follows the EN written at a frame boundary (R68), TX_SQUELCH likewise (01 R12). -/
def State.enBoundary (n : Nat) (s : State) : State :=
  let s := if s.rb (lpt n 0) 6 = (s.port n).squelch then s else s.modPort n (fun p => { p with squelch := s.rb (lpt n 0) 6 })
  let want := s.rb (lpt n 0) 31
  if want = (s.port n).en then s
  else if want then s.portStart n
  else s.modPort n (fun p => { p with en := false, txFrame := [], txB2 := [] })

/-- The offset settings of a port as written: OFFSET, LG_EN, LG. -/
def State.ofsAsked (s : State) (n : Nat) : Nat × Bool × Nat :=
  (s.rf (lpt n 0x40) 0 12, s.rb (lpt n 0x40) 31, s.rf (lpt n 0x40) 24 3)

/-- Offsets take force at a frame boundary; a transmitting port whose offset moves cuts its line frame short (R58). A change
that leaves the offset in force as it was cuts nothing (assumption 131); the next B1 and B2 are both over the bytes that were
sent (assumption 132). -/
def State.ofsBoundary (s : State) : State :=
  let old := s
  let s := { s with stp := { s.stp with lgOfs := (List.range 8).foldl (fun t g => tset 0 t g (s.rf (0x1100 + 4 * g) 0 12)) [] } }
  foldS (List.range 32) (fun n s =>
    let s := if (s.port n).txOfs = s.ofsAsked n then s else s.modPort n (fun p => { p with txOfs := s.ofsAsked n })
    if (s.port n).en && s.txOffset n ≠ old.txOffset n then
      let cut := (s.port n).txFrame.take ((2430 - old.txOffset n) * s.portN n)
      s.modPort n (fun p => { p with
        txFrame := cut, txB2 := if cut = [] then [] else b2Of (s.portN n) (if s.lptB n 0 5 then cut else scrambleFrame (9 * s.portN n) cut) })
    else s) s

/-- A write of an offset register (R56, R58): an OFFSET above 2429 is ignored. -/
def State.offsetWrite (o : Nat) (v : Word) (s : State) : State :=
  let v := if wfld v 0 12 ≤ 2429 then v else (v &&& ~~~ 0xFFF#32) ||| (s.reg o &&& 0xFFF#32)
  s.regWrite o v

/-- LOS of a port follows its signal and its clock recovery (R69, R75, R92); under LOS the framer is held in HUNT. -/
def State.losUpdate (n : Nat) (s : State) : State :=
  let p := s.port n
  let los := p.noSignal || p.rxLol || !p.cdrLock
  let s := (s.setDef n 1 .losL los).refLine n
  if los then
    let s := (s.modPort n (fun p => { p.outOfFrame with
      frm := 0, passes := 0, succs := [], bad := 0, rxPrev := [], exc := {}, deg := {} })).setDef n 2 .oofL true
    (s.traceLost 0 n).dccBreak n
  else s

/-! ### The commands -/

/-- PORT_CFG_WRITE (R68). -/
def execPortCfgWrite (n : Fin 32) (v : Word) (s : State) : Host.Outcome State Fault Refusal := .next (s.portCfgWrite n v)

/-- TX_OFFSET_WRITE (R58). -/
def execTxOffsetWrite (r : OffsetReg) (v : Word) (s : State) : Host.Outcome State Fault Refusal :=
  .next (match r with
    | .port n => s.offsetWrite (lpt n 0x40) v
    | .group g => s.offsetWrite (0x1100 + 4 * g.val) v)

/-- TX_LINE_FRAME (R41, R56): an enabled port, now at `phase`, its transmit offset. -/
def execTxLineFrame (n : Fin 32) (phase : Nat) (s : State) : Host.Outcome State Fault Refusal :=
  .next (if s.txStarts n && decide (phase = s.stp.phase) then s.txFrame n else s)

/-- LOF_L (R74). -/
def execLofL (n : Fin 32) (s : State) : Host.Outcome State Fault Refusal := .next (s.lofTest n)

/-- LOS_L (R75): signal absent or present throughout LOS_T. -/
def execLosL (n : Fin 32) (absent : Bool) (s : State) : Host.Outcome State Fault Refusal :=
  .next (if (s.port n).en then (s.modPort n (fun p => { p with noSignal := absent })).losUpdate n else s)

/-- SERDES_LOL (R92): the receive or the transmit PLL loses lock. -/
def execSerdesLol (n : Fin 32) (rx : Bool) (s : State) : Host.Outcome State Fault Refusal :=
  .next (if !(s.port n).en then s
    else if rx then
      if (s.port n).rxLol then s
      else ((s.modPort n (fun p => { p with rxLol := true, cdrLock := false })).raise .serdesLol n 0 0).losUpdate n
    else if (s.port n).txLol then s
    else (s.modPort n (fun p => { p with txLol := true, txLock := false, txFrame := [], txB2 := [] })).raise .serdesLol n 0 0)

/-- SERDES_LOCK (R69, R92): lock is gained or regained. -/
def execSerdesLock (n : Fin 32) (rx : Bool) (s : State) : Host.Outcome State Fault Refusal :=
  .next (if !(s.port n).en then s
    else if rx then (s.modPort n (fun p => { p with rxLol := false, cdrLock := true })).losUpdate n
    else s.modPort n (fun p => { p with txLol := false, txLock := true }))

end Sys2Proof.Machine
end

