-- ==== Sys2Proof/Machine/Trib.lean ====
section
/-! DEFINITION. Tributaries and their signalling (05_tributaries_and_highways.md R134-R156), the hitless E1 merge
(08_sisters.md R241-R246), local highways (05 R157-R162). -/

namespace Sys2Proof.Machine

/-! ### Tributary state -/

/-- The settings of a tributary that was never configured. -/
def tribOff : TribSet :=
  { en := false, t1 := false, byteSync := false, pos := ⟨0, 0, 0, 0⟩, crc4 := 1, cas := false, saTx := 31, tagSa := 0,
    esf := true, rbs := false, crc6Reframe := true, raiEn := true, bomCode := 0, bomRepeat := 0, cond := 0xD5,
    sigCond := 15, sigIdle := 13 }

def State.trib (s : State) (t : Nat) : Trib := tget { cfg := tribOff } s.tribs t

/-- Bits of a frame of payload bytes: 256 of E1, 192 of T1 (and its F bit). -/
def Trib.frameBits (x : Trib) : Nat := if x.cfg.t1 then 193 else 256

/-- A defect: 0 LOS, 1 AIS, 2 LOF, 3 LOMF, 4 LOSMF, 5 RAI, 6 RMAI. -/
def Trib.def_ (x : Trib) (i : Nat) : Bool := x.defects.getLsbD i

def Trib.setD (i : Nat) (on : Bool) (x : Trib) : Trib :=
  if on then { x with defects := x.defects ||| (1#7 <<< i), sticky := if x.def_ i then x.sticky else x.sticky ||| (1#8 <<< i) }
  else { x with defects := x.defects &&& ~~~ (1#7 <<< i) }

/-- A defect that conditions the input (Table TB-5). -/
def Trib.conditioned (x : Trib) : Bool := x.def_ 0 || x.def_ 1 || x.def_ 2 || x.def_ 3

/-- The kinds of the tributary defects. -/
def tribKind : Nat → Kind
  | 0 => .losT | 1 => .aisT | 2 => .lofT | 3 => .lomfT | 4 => .losmfT | 5 => .raiT | _ => .rmaiT

def tribSource (t : Nat) : Nat := 0x50 + t / 1024

/-- The group of a kind, with its number, in which a tributary is a member. -/
def State.groupOf (s : State) (kind t : Nat) : Option Nat :=
  (s.prt.groups.find? (fun e => e.1 / 65536 = kind && e.2.inUse && (e.2.op.w = t || e.2.op.p = t))).map (fun e => e.1 % 65536)

/-- The merge group whose slots are those of `t`. -/
def State.mergeOfA (s : State) (t : Nat) : Option Nat :=
  match s.groupOf 3 t with
  | some g => if (s.group 3 g).op.w = t then some g else none
  | none => none

/-- The new state of a tributary, with the events of what changed (R156). A defect that conditions the input clears: the
slip buffer restarts (R148), that of a merge group apart. -/
def State.putTrib (t : Nat) (x : Trib) (s : State) : State :=
  let o := s.trib t
  let ends := (List.range 4).any (fun i => o.def_ i && !(x.def_ i))
  let x := if ends && (s.mergeOfA t).isNone then { x with slip := {} } else x
  let s := { s with tribs := tput s.tribs t x }
  let ev (b : Nat) (k : Kind) (d : Nat) (s : State) := s.raiseU (s.rb 0x30000 b) k (tribSource t) t d
  let s := foldS (List.range 7) (fun i s =>
    if o.def_ i = x.def_ i then s else ev i (tribKind i) (b2n (x.def_ i)) (s.seeDef 3 t i)) s
  let s := if o.tagLock = x.tagLock then s else ev 7 .tagT (b2n o.tagLock) s
  if o.saAcc = x.saAcc then s else ev 10 .saChange x.saAcc s

def State.modTrib (t : Nat) (f : Trib → Trib) (s : State) : State := s.putTrib t (f (s.trib t))

/-- A slot of the tributary carries signalling (R149); none of a disabled one does (06 R164). -/
def signalled (c : TribSet) (ts : Nat) : Bool :=
  c.en && if c.t1 then c.rbs && decide (ts < 24) else c.cas && decide (ts ≠ 0) && decide (ts ≠ 16)

/-- The settings TRIB_CFG has asked for. -/
def Trib.want (x : Trib) : TribSet := x.cfgNew.getD x.cfg

/-- Settings that waited take force with a transmit multiframe (R136); a new BOM starts. -/
def Trib.takeCfg (x : Trib) : Trib :=
  match x.cfgNew with
  | none => x
  | some c => { x with cfg := c, cfgNew := none,
                       bomLeft := if c.bomCode = x.cfg.bomCode ∧ c.bomRepeat = x.cfg.bomRepeat then x.bomLeft else c.bomRepeat,
                       fdlKind := if c.bomCode = x.cfg.bomCode ∧ c.bomRepeat = x.cfg.bomRepeat then x.fdlKind else x.fdlKind / 2 * 2 }

/-- A restart (R136): the framer hunts, the slip buffer is empty, the transmit side starts a multiframe and the tag
sequence. Counters, sticky bits, signalling overrides and the accepted Sa bits stay (assumption 163). -/
def Trib.restart (c : TribSet) (x : Trib) : Trib :=
  { cfg := c, sticky := x.sticky, crcCnt := x.crcCnt, febe := x.febe, frmErr := x.frmErr, slipRep := x.slipRep, slipDel := x.slipDel,
    slipSeen := x.slipSeen, saAcc := x.saAcc, bomLeft := c.bomRepeat, loAis := x.loAis, fresh := c.en,
    sig := { ovRx := x.sig.ovRx, ovTx := x.sig.ovTxNew, ovTxNew := x.sig.ovTxNew } }

/-- A change that restarts an enabled tributary (R136). -/
def tribRestarts (a b : TribSet) : Bool :=
  !a.en || a.t1 ≠ b.t1 || a.byteSync ≠ b.byteSync || decide (a.pos ≠ b.pos) || a.crc4 ≠ b.crc4 || a.cas ≠ b.cas || a.esf ≠ b.esf

/-- TRIB_CFG at its boundary (R136). TAG_LOCK stays as it was where TAG_SA becomes 0 without a restart (R154; assumption 166). -/
def State.tribCfg (t : Nat) (c : TribSet) (s : State) : State :=
  let x := s.trib t
  let o := x.want
  let p := s.lo t
  let s := s.seeBits 2 t (p.defects.toNat + putB (x.cfg.en && (s.h4 (s.tuH4 x.cfg.pos)).lom) 8)
  let fresh : LoPath := { flags := p.flags, k4Tx := p.k4Tx, n2Tx := p.n2Tx, bipCnt := p.bipCnt, reiCnt := p.reiCnt, ndfTx := c.en }
  if !c.en then (s.putTrib t (x.restart c)).setLo t fresh
  else if tribRestarts o c then
    let s := s.putTrib t (x.restart c)
    s.setLo t (if o.en && decide (o.pos = c.pos) && o.t1 = c.t1 then { p with ndfTx := true, mapQ := [] } else fresh)
  else
    let now := { x.cfg with cond := c.cond, sigCond := c.sigCond, sigIdle := c.sigIdle }
    s.putTrib t { x with cfg := now, cfgNew := if c = now then none else some c }

/-- SIG_SET at its boundary (R152): the slots acted on, the state. -/
def State.sigSet (o : SigOp) (s : State) : Nat × State :=
  let x := s.trib o.t
  let l := (List.range 32).filter (fun ts => wbit o.mask ts && signalled x.want ts)
  let v := if o.follow then 0 else o.abcd + 1
  let w (t : Tab Nat) := l.foldl (fun t ts => tset 0 t ts v) t
  (l.length, s.putTrib o.t { x with sig := if o.tx then { x.sig with ovTxNew := w x.sig.ovTxNew } else { x.sig with ovRx := w x.sig.ovRx } })

/-! ### LOS and AIS over the received bits (Table TB-5) -/

/-- Counts over received bits; `chg` the changes of LOS (0) and AIS (1) so far. -/
structure BitScan where
  zeros : Nat
  los   : Bool
  last  : List Bool
  bits  : Nat
  zers  : Nat
  prev  : Bool
  ais   : Bool
  chg   : List (Nat × Bool)
deriving DecidableEq, Repr

/-- A defect's new value, noted where it changes. -/
def BitScan.note (i : Nat) (was now : Bool) (x : BitScan) : BitScan := if was = now then x else { x with chg := x.chg ++ [(i, now)] }

def BitScan.bit (t1 lo : Bool) (x : BitScan) (b : Bool) : BitScan :=
  let zeros := if b then 0 else min 255 (x.zeros + 1)
  let last := (b :: x.last).take 32
  let los := if (if t1 then 175 else 255) ≤ zeros then true
    else if 4 ≤ (last.filter (fun v => v)).length then false else x.los
  let bits := x.bits + 1
  let zers := x.zers + b2n (!b)
  let y := ({ x with zeros := zeros, los := los, last := last, bits := bits, zers := zers }).note 0 x.los los
  if bits < (if t1 then 3088 else 512) then y
  else
    let few := decide (zers < (if t1 then 6 else 3))
    let ais := lo || (if few && x.prev then true else if !few && !x.prev then false else x.ais)
    ({ y with bits := 0, zers := 0, prev := few, ais := ais }).note 1 x.ais ais

/-- A frame of bits is scanned: the counts after it, and how LOS and AIS changed in it, in order. -/
def Trib.scan (l : List Bool) (x : Trib) : Trib × List (Nat × Bool) :=
  let r := l.foldl (BitScan.bit x.cfg.t1 x.loAis)
    { zeros := x.zeros, los := x.def_ 0, last := x.ones32, bits := x.perBits, zers := x.perZeros, prev := x.perPrev, ais := x.def_ 1,
      chg := [] }
  ({ x with zeros := r.zeros, ones32 := r.last, perBits := r.bits, perZeros := r.zers, perPrev := r.prev }, r.chg)

/-! ### Signalling received (R149) -/

/-- A nibble received for a slot in this signalling multiframe. -/
def SigState.take (slot v : Nat) (x : SigState) : SigState :=
  { x with next := if tget 0 x.cand slot = v + 1 then tset 0 x.next slot (v + 1) else tset 0 x.next slot 0,
           cand := tset 0 x.cand slot (v + 1) }

/-- A signalling multiframe ends: values received in two of them are confirmed. -/
def SigState.close (x : SigState) : SigState :=
  { x with conf := x.next.foldl (fun t e => tset 0 t e.1 e.2) x.conf, next := [] }

/-- Signalling multiframes are no longer in alignment: a value must be received twice anew (R149). -/
def SigState.cut (x : SigState) : SigState := { x with cand := [], next := [], part := [] }

/-- TS16 of a frame (R142). While no alignment is found, LOSMF is declared after 32 frames, two CAS multiframes (assumption 143). The
y bit of a frame 0 whose MFAS is incorrect is skipped and breaks no run (assumption 164). -/
def Trib.casFrame (b : Byte) (x : Trib) : Trib :=
  let v := b.toNat
  let one := decide (v ≠ 0)
  if !x.casAl then
    if v / 16 = 0 && x.prevOne then
      ({ x with casAl := true, casPos := 1, casBad := 0, casZero := !one, prevOne := one, yRun := x.yRun.push (v / 4 % 2) }).setD 4 false
    else
      let x := { x with casBad := min 32 (x.casBad + 1), prevOne := one }
      if 32 ≤ x.casBad then x.setD 4 true else x
  else
    let k := x.casPos
    let zero := (k = 0 || x.casZero) && !one
    let x := { x with casPos := (k + 1) % 16, casZero := zero, prevOne := one }
    if k = 0 then
      if v / 16 = 0 then
        let r := x.yRun.push (v / 4 % 2)
        let x := { x with casBad := 0, yRun := r }
        if 2 ≤ r.n then x.setD 6 (v / 4 % 2 = 1) else x
      else if 2 ≤ x.casBad + 1 then ({ x with casBad := 0, casAl := false, sig := x.sig.cut }).setD 4 true
      else { x with casBad := x.casBad + 1 }
    else
      let sg := (x.sig.take k (v / 16)).take (k + 16) (v % 16)
      let x := { x with sig := if k = 15 then sg.close else sg }
      if k = 15 && zero then ({ x with casAl := false, casBad := 0, sig := x.sig.cut }).setD 4 true else x

/-- A frame whose TS16 a merge could not give: the CAS multiframe counts on, its values are not confirmed (08 R244). -/
def Trib.casSkip (x : Trib) : Trib :=
  if x.casAl then { x with casPos := (x.casPos + 1) % 16, sig := x.sig.cut } else x

/-! ### The alignment tag (R153, R154) -/

/-- The tag of a sequence. -/
def tagOf (q : Nat) : Nat := q % 64 * 4 + b2n (parity 3 (q / 8)) * 2 + b2n (parity 3 q)

/-- The tag received in a CRC-4 multiframe. -/
def Trib.tagEval (bits : List Bool) (x : Trib) : Trib :=
  let v := bits.foldl (fun a b => 2 * a + b2n b) 0
  let q := v / 4
  let valid := decide (bits.length = 8) && decide (tagOf q = v)
  if x.tagLock then
    let want := (x.tagLast.getD 0 + 1) % 64
    if valid && q = want then { x with tagLast := some want, tagBad := 0 }
    else if 2 ≤ x.tagBad + 1 then { x with tagLock := false, tagBad := 0, tagLast := if valid then some q else none, sticky := x.sticky ||| 0x80 }
    else { x with tagLast := some want, tagBad := x.tagBad + 1 }
  else if valid && x.tagLast = some ((q + 63) % 64) then { x with tagLock := true, tagLast := some q, tagBad := 0 }
  else { x with tagLast := if valid then some q else none }

/-- Tag lock ends at every LOF or LOMF (R154). -/
def Trib.tagDrop (x : Trib) : Trib :=
  { x with tagLock := false, tagLast := none, tagBad := 0, tagBits := [], sticky := if x.tagLock then x.sticky ||| 0x80 else x.sticky }

/-! ### E1 framing (R139-R142) -/

/-- The receive side looks for CRC-4. -/
def Trib.wantsCrc (x : Trib) : Bool := x.cfg.crc4 = 1 || (x.cfg.crc4 = 2 && !x.crcNone)

/-- The framer hunts again, among the bits `rest` of the present frame and those that follow. -/
def Trib.rehunt (rest : List Bool) (x : Trib) : Trib :=
  { x.tagDrop with frm := 0, hunt := rest, fasBad := 0, mfas := [], noMf := 0, crcWin := {}, saRun := [], aRun := {},
                   rxSmf := [], rxCrc := none, rxC := 0, casAl := false, casBad := 0, prevOne := false, sig := x.sig.cut }

/-- The TS0 bits of an NFAS frame that carry Sa bits and the A bit (R141); `k` its number in the multiframe. -/
def Trib.nfas (ts0 : Byte) (k : Nat) (x : Trib) : Trib :=
  let a := x.aRun.push (b2n (ts0.getLsbD 5))
  let runs := (List.range 5).foldl (fun t j => tset {} t j ((tget {} t j).push (b2n (ts0.getLsbD j)))) x.saRun
  let closes : Bool := !x.wantsCrc || (decide (x.frm = 2) && decide (k = 15))
  let tagBit := if x.cfg.tagSa = 0 then 8 else 8 - x.cfg.tagSa
  let sa := (List.range 5).foldl (fun v j =>
    let r := tget {} runs j
    let bit : Bool := if j = tagBit then false else if closes && decide (24 ≤ r.n) then r.v = 1 else x.saAcc.testBit j
    v + (if bit then 2 ^ j else 0)) 0
  let x := { x with aRun := a, saRun := runs, saAcc := sa }
  if 3 ≤ a.n then x.setD 5 (ts0.getLsbD 5) else x

/-- The CRC-4 multiframe is found when two MFAS stand exactly 2 ms apart (R139). -/
def mfasFound (bits : List Bool) : Bool :=
  let m := [true, true, false, true, false, false]
  bits.take 6 = m && (bits.drop 8).take 6 = m

/-- A CRC-4 check ends: E bit, count, the 915 of 1,000 rule (R139, R140). -/
def Trib.crcEnd (k : Nat) (crcOk : Bool) (x : Trib) : Trib :=
  let w := berStep 1000 915 0 (b2n (!crcOk)) false x.crcWin
  let x := { x with crcWin := w.1, crcCnt := x.crcCnt + BitVec.ofNat 32 (b2n (!crcOk)),
                    eBits := if k = 7 then (x.eBits.1, crcOk) else (crcOk, x.eBits.2) }
  if w.2 then (if x.cfg.crc4 = 1 then (x.rehunt []).setD 3 true else x.rehunt []) else x

/-- The received sub-multiframe grows by frame `k`; its own four check bits belong to the one before it (G.704). Answers the
outcome of that check once the sub-multiframe has ended, a first one without a reference passing. -/
def Trib.crcFrame (b : List Byte) (odd : Bool) (k : Nat) (x : Trib) : Bool × Trib :=
  let t0 := byteAt b 0
  let smf := (if k % 8 = 0 then [] else x.rxSmf) ++ (if odd then t0 else t0 &&& 0x7F) :: b.drop 1
  let c := if odd then x.rxC else (if k % 8 = 0 then 0 else x.rxC * 2) + b2n (t0.getLsbD 7)
  let ok := match x.rxCrc with | some v => decide (v = c) | none => true
  if k % 8 = 7 then (ok, { x with rxSmf := [], rxC := 0, rxCrc := if smf.length = 256 then some (crc4 (bitsOf smf)) else none })
  else (ok, { x with rxSmf := smf, rxC := c })

/-- Frame `k` of an aligned CRC-4 multiframe: E bits, tag, check. -/
def Trib.mfFrame (b : List Byte) (odd : Bool) (k : Nat) (x : Trib) : Trib :=
  let ts0 := byteAt b 0
  let zeroE := decide (k = 13 ∨ k = 15) && !(ts0.getLsbD 7)
  let x := if zeroE then { x with febe := x.febe + 1 } else x
  let tag := decide (x.cfg.tagSa ≠ 0)
  let x := if tag && odd then { x with tagBits := x.tagBits ++ [ts0.getLsbD (8 - x.cfg.tagSa)] } else x
  let x := if tag && decide (k = 15) then { x.tagEval x.tagBits with tagBits := [] } else x
  let r := x.crcFrame b odd k
  if k = 7 ∨ k = 15 then r.2.crcEnd k r.1 else r.2

/-- A frame while the CRC-4 multiframe is looked for: after 8 ms without it LOF, and a hunt from the bit after this FAS. -/
def Trib.mfSearch (b : List Byte) (odd : Bool) (x : Trib) : Trib :=
  let ts0 := byteAt b 0
  let bits := if odd then (ts0.getLsbD 7 :: x.mfas).take 14 else x.mfas
  if odd && mfasFound bits then
    ({ x with frm := 2, mfPos := 12, mfas := [], noMf := 0, crcWin := {}, tagBits := [], eBits := (true, true),
              rxSmf := [], rxCrc := none, rxC := 0 }).setD 3 false
  else if x.cfg.crc4 = 1 && !odd && decide (64 ≤ x.noMf) then (x.rehunt (bitsOf (b.drop 1))).setD 2 true
  else { x with mfas := bits, noMf := x.noMf + 1 }

/-- The FAS or NFAS of a frame in frame-aligned state. -/
def Trib.alignFrame (ts0 : Byte) (fas : Bool) (x : Trib) : Trib :=
  let k := x.mfPos
  let y := if x.odd then x.nfas ts0 k
    else if fas then { x with fasBad := 0 } else { x with fasBad := x.fasBad + 1, frmErr := x.frmErr + 1 }
  { y with odd := !x.odd, mfPos := (k + 1) % 16 }

/-- A frame in frame-aligned state: FAS or NFAS, CRC-4 multiframe, tag. The third errored FAS in a row loses the frame. -/
def Trib.e1Aligned (b : List Byte) (x : Trib) : Trib :=
  let ts0 := byteAt b 0
  let fas := decide (ts0 &&& 0x7F = 0x1B)
  if !x.odd && !fas && decide (3 ≤ x.fasBad + 1) then (({ x with frmErr := x.frmErr + 1 }).rehunt (bitsOf (b.drop 1))).setD 2 true
  else
    let y := x.alignFrame ts0 fas
    if x.frm = 2 then y.mfFrame b x.odd x.mfPos
    else if x.wantsCrc then y.mfSearch b x.odd
    else y

/-- Bits 2 to 8 of a FAS stand at the head of the bits. -/
def fasAt (l : List Bool) : Bool := (l.drop 1).take 7 = [false, false, true, true, false, true, true]

/-- The first place, from `i` on, of a FAS, an NFAS a frame later and a FAS two frames later (R139). -/
def e1Find : List Bool → Nat → Option Nat
  | [], _ => none
  | v :: l, i => if fasAt (v :: l) && (l.drop 256).head? = some true && fasAt (l.drop 511) then some i else e1Find l (i + 1)

/-- The hunt over every candidate bit position (R139): the frame found second starts the aligned frames. LOF is declared where
alignment is lost, not in a first hunt (assumption 31). -/
def Trib.e1Hunt (l : List Bool) (x : Trib) : Trib :=
  let h := x.hunt ++ l
  match e1Find h 0 with
  | some i =>
    ({ x with frm := 1, hunt := [], rxBits := h.drop (i + 512) ++ x.rxBits, odd := false, fasBad := 0, mfas := [], noMf := 0,
              mfPos := 0 }).setD 2 false
  | none => { x with hunt := h.drop (h.length - 519) }

/-- A frame of an E1 framer (R139). -/
def Trib.e1Frame (l : List Bool) (x : Trib) : Trib := if x.frm = 0 then x.e1Hunt l else x.e1Aligned (packBits 32 l)

/-! ### T1 framing (R143-R146) -/

/-- The framing bit expected in frame `k` of a superframe, none where the F bit is no Ft or FPS bit. -/
def t1Framing (esf : Bool) (k : Nat) : Option Bool :=
  if esf then (if k % 4 = 3 then some (k = 11 || k = 19 || k = 23) else none)
  else if k % 2 = 0 then some (k % 4 = 0) else none

/-- Bits of one signalling frame: bit 8 of every channel (R144). -/
def Trib.rbsFrame (b : List Byte) (last : Bool) (x : Trib) : Trib :=
  let part := (List.range 24).foldl (fun t ch => tset 0 t ch (max 1 (tget 0 t ch) * 2 + (byteAt b ch).toNat % 2)) x.sig.part
  if !last then { x with sig := { x.sig with part := part } }
  else
    let sg := (List.range 24).foldl (fun (g : SigState) ch =>
      let v := tget 0 part ch
      g.take ch (if x.cfg.esf then v % 16 else v % 4 * 5)) { x.sig with part := [] }
    { x with sig := sg.close }

/-- Frames of a superframe. -/
def t1Len (esf : Bool) : Nat := if esf then 24 else 12

/-- The F bit of frame `k` that a hunt asks for (R143): Ft and Fs, or FPS. -/
def t1Wanted (esf : Bool) (k : Nat) : Option Bool :=
  match t1Framing esf k with
  | some v => some v
  | none => if esf then none else some (k = 5 || k = 7 || k = 9)

/-- The F bits of `n` frames whose first begins the bits. -/
def fBits : Nat → List Bool → List Bool
  | 0, _ => []
  | n + 1, l => l.headD false :: fBits n (l.drop 193)

/-- The CRC-6 of a superframe of bits, its F bits taken as 1. -/
def crc6Of (l : List Bool) : Nat := crc6 ((List.range 24).flatMap (fun j => true :: (l.drop (193 * j + 1)).take 192))

/-- The check bits among the F bits of a superframe. -/
def crc6Sent (f : List Bool) : Nat := (List.range 6).foldl (fun a j => 2 * a + b2n (f.getD (4 * j + 1) false)) 0

/-- Two consecutive superframes that begin the bits pass (R143). The CRC-6 of the second is the one it carries, over the
first (assumption 143). -/
def t1Passes (esf crc : Bool) (l : List Bool) : Bool :=
  let n := t1Len esf
  let f := fBits (2 * n) l
  (f.zipIdx.all (fun e => match t1Wanted esf (e.2 % n) with | some v => v = e.1 | none => true))
    && (!(esf && crc) || decide (crc6Of l = crc6Sent (f.drop 24)))

/-- A T1 framer out of frame: the OOF timer, and alignment when exactly one of the 193 positions passes (R143). -/
def Trib.t1Hunt (l : List Bool) (x : Trib) : Trib :=
  let x := { x with oofInt := min 20000 (x.oofInt + 1), inRun := 0 }
  let x := if 20000 ≤ x.oofInt then x.setD 2 true else x
  let n := 2 * t1Len x.cfg.esf
  let h := x.hunt ++ l
  let h := h.drop (h.length - 193 * (n + 1))
  let from_ (o : Nat) : List Bool := h.drop (h.length - 193 * n - o)
  match (List.range 193).filter (fun o => decide (193 * n + o ≤ h.length) && t1Passes x.cfg.esf x.cfg.crc6Reframe (from_ o)) with
  | [o] =>
    { x with frm := 2, mfPos := 0, oofErr := [], hunt := [], rxBits := (from_ o).drop (193 * n) ++ x.rxBits, sig := x.sig.cut,
             rxSmf := [], rxC := 0, rxCrc := if x.cfg.esf then some (crc6Of ((from_ o).drop (193 * 24))) else none,
             fdlRx := [], fdlCnt := 0, yelRun := {}, bomRun := {} }
  | _ => { x with hunt := h }

/-- In-frame integration (R143, as R74) and the framing bit of frame `k`. -/
def Trib.t1Bit (fbit : Bool) (k : Nat) (x : Trib) : Trib :=
  let r := min 20000 (x.inRun + 1)
  let x := { x with inRun := r, oofInt := if 20000 ≤ r then 0 else x.oofInt,
                    mfPos := (k + 1) % t1Len x.cfg.esf }
  let x := if 20000 ≤ r then x.setD 2 false else x
  match t1Framing x.cfg.esf k with
  | some v =>
    let bad : Bool := decide (v ≠ fbit)
    { x with oofErr := (bad :: x.oofErr).take 4, frmErr := x.frmErr + BitVec.ofNat 32 (b2n bad) }
  | none => x

/-- Yellow alarm received in SF framing (R145). -/
def Trib.sfYellow (b : List Byte) (x : Trib) : Trib :=
  let all := (List.range 24).all (fun ch => !((byteAt b ch).getLsbD 6))
  let r := x.yelRun.push (b2n all)
  let x := { x with yelRun := r }
  if 40 ≤ r.n then x.setD 5 all else x

/-- A word of the FDL ends (R145, R146): a message with its code, that of code 0 being the yellow pattern, or any other word.
Answers the code that has come four times in a row. -/
def Trib.fdlEnds (code : Option Nat) (x : Trib) : Option Nat × Trib :=
  let yel := decide (code = some 0)
  let y := x.yelRun.push (b2n yel)
  let bom : Run := match code with | some c => if c = 0 then {} else x.bomRun.push c | none => {}
  let x := { x with yelRun := y, bomRun := bom, fdlCnt := 0 }
  (if bom.n = 4 then some bom.v else none, if 4 ≤ y.n then x.setD 5 yel else x)

/-- A received FDL bit: the word that it ends, if it ends one. Between messages 16 bits make a word. -/
def Trib.fdlBit (b : Bool) (x : Trib) : Option Nat × Trib :=
  let l := (b :: x.fdlRx).take 16
  let x := { x with fdlRx := l, fdlCnt := x.fdlCnt + 1 }
  if (l.drop 8).length = 8 && (l.drop 8).all (fun v => v) && !b && !(l.getD 7 true) then
    x.fdlEnds (some (((l.drop 1).take 6).reverse.foldl (fun a v => 2 * a + b2n v) 0))
  else if 16 ≤ x.fdlCnt then x.fdlEnds none
  else (none, x)

/-- The received superframe grows by frame `k`; at its end the check bits it carries are held against the one before it. -/
def Trib.crc6Frame (fbit : Bool) (b : List Byte) (k : Nat) (x : Trib) : Trib :=
  let smf := (if k = 0 then [] else x.rxSmf) ++ b
  let c := if k % 4 = 1 then (if k = 1 then 0 else x.rxC * 2) + b2n fbit else x.rxC
  if k < 23 then { x with rxSmf := smf, rxC := c }
  else
    let bad := match x.rxCrc with | some v => decide (v ≠ c) | none => false
    { x with rxSmf := [], rxC := 0, crcCnt := x.crcCnt + BitVec.ofNat 32 (b2n bad),
             rxCrc := some (crc6 ((List.range 24).flatMap (fun j => true :: bitsOf (bytesAt smf (24 * j) 24)))) }

/-- A T1 frame in frame (R143-R146); answers the code of a message that has come four times in a row. -/
def Trib.t1Aligned (l : List Bool) (x : Trib) : Option Nat × Trib :=
  let fbit := l.headD false
  let b := packBits 24 (l.drop 1)
  let k := x.mfPos
  let x := x.t1Bit fbit k
  let x := if x.cfg.esf then x.crc6Frame fbit b k else x
  let x := if x.cfg.rbs && decide (k % 6 = 5) then x.rbsFrame b (decide (k + 1 = t1Len x.cfg.esf)) else x
  let r := if !x.cfg.esf then (none, x.sfYellow b) else if k % 2 = 0 then x.fdlBit fbit else (none, x)
  let x := r.2
  (r.1, if 2 ≤ (x.oofErr.filter (fun v => v)).length then { x with frm := 0, oofErr := [], hunt := [], sig := x.sig.cut } else x)

/-- A T1 frame with its F bit (R143). -/
def Trib.t1Frame (l : List Bool) (x : Trib) : Option Nat × Trib := if x.frm = 0 then (none, x.t1Hunt l) else x.t1Aligned l

/-- The framer delivers this frame: it is aligned, and in its CRC-4 multiframe where CRC-4 is on (R139, R147). -/
def Trib.delivers (x : Trib) : Bool := if x.cfg.t1 || x.cfg.crc4 = 1 then x.frm = 2 else x.frm ≠ 0

/-! ### The slip buffer (R147, R148) -/

/-- A slip is counted; the first in a story second is raised. -/
def State.tribSlip (t : Nat) (del : Bool) (s : State) : State :=
  let x := s.trib t
  let seen := x.slipSeen
  let s := s.putTrib t { x with
    slipSeen := true, slipDel := x.slipDel + BitVec.ofNat 32 (b2n del), slipRep := x.slipRep + BitVec.ofNat 32 (b2n (!del)) }
  if seen then s else s.raiseU (s.rb 0x30000 8) .slipT (tribSource t) t (b2n del)

/-- A complete frame is written: a complete frame not yet read is discarded (R147). -/
def State.slipWrite (t : Nat) (f : List Byte) (s : State) : State :=
  let x := s.trib t
  let del := x.slip.unread.isSome && x.slip.reading
  let s := s.putTrib t { x with slip := { x.slip with unread := some f } }
  if del then s.tribSlip t true else s

/-- The bits held at a boundary, before the frame is taken: the complete unread frame, and `part` of the one that is coming. -/
def Slip.fillNow (bits part : Nat) (x : Slip) : Nat := min (2 * bits) ((if x.unread.isSome then bits else 0) + part)

/-- The frame taken at a boundary, and whether the last one is repeated. -/
def Slip.take (bits part : Nat) (x : Slip) : Slip × Bool :=
  let x := { x with fill := x.fillNow bits part }
  match x.unread with
  | some f => ({ x with taken := f, unread := none, reading := true }, false)
  | none => (x, x.reading)

/-! ### Hitless merge (08 R241-R246) -/

/-- A NET event of the sister units, by its place in PRT.EV_MASK. -/
def State.prtEvent (kind g bit : Nat) (k : Kind) (data : Nat) (s : State) : State :=
  s.raiseU (s.rb 0x60004 bit) k (prtSource kind g) g data

/-- Δ in -512 .. 511 (R243). -/
def mergeDelta (a b : Nat) : Int :=
  let d := (a + 1024 - b) % 1024
  if d < 512 then (d : Int) else (d : Int) - 1024

/-- The one copy a standing LOCKOUT or FORCE lets write, with the meaning of Table SI-6. -/
def Group.onlyCopy (x : Group) : Option Bool :=
  match x.cmd with
  | some 1 => some false
  | some 2 => some true
  | some 3 => some false
  | _ => none

/-- Copy `b` may write a sub-multiframe that begins now (R243, R244): a standing LOCKOUT or FORCE names one copy; a copy whose
delay lies outside the window writes nothing, the one that paces the read carries the traffic. -/
def Group.mayWrite (x : Group) (b : Bool) : Bool :=
  match x.onlyCopy with
  | some c => c = b
  | none => !(x.merge.diff && b = x.merge.leadA)

/-- The first frame of a sub-multiframe of copy `b` decides who writes it (R244): the copy that writes first where its
sub-multiframe is good, else the other where that is, else the one that wrote the sub-multiframe before. Answers the new record,
and whether both copies were bad. `other` tells whether the other copy may write. -/
def Merge.decide (m : Merge) (b forced other : Bool) (smf : Nat) : Merge × Bool :=
  let good := (((if b then m.goodB else m.goodA).find? (fun e => e.1 = smf)).map (fun e => e.2)).getD false
  let prev := ((m.wrote.find? (fun e => e.1 = (smf + 127) % 128)).map (fun e => e.2.1)).getD b
  let put (c gd : Bool) : Merge := { m with wrote := (m.wrote.filter (fun e => e.1 ≠ smf)).drop (m.wrote.length - 15) ++ [(smf, c, gd)] }
  let fin (c gd : Bool) : Merge := { put c gd with lastW := c }
  if forced then (fin b good, false)
  else match m.wrote.find? (fun e => e.1 = smf) with
    | some (_, c, gd) =>
      if gd || c = b then (m, false)
      else if good then (fin b true, false)
      else (fin prev false, true)
    | none =>
      if good then (fin b true, false)
      else if other then (put b false, false)
      else (fin b false, true)

/-- A frame of copy `b` leaves its decision stage and is written where its copy writes the sub-multiframe: in the slot of the
frame 32 before it, unless that one is the next to be read, whose slot its own reading frees (assumption 144). -/
def Merge.write (m : Merge) (b : Bool) (key : Nat) (f : List Byte) : Merge :=
  let w := (m.wrote.find? (fun e => e.1 = key / 8)).map (fun e => e.2.1)
  let old := (key + 992) % 1024
  if w = some b then { m with buf := tput (if m.read = some old then m.buf else tdel m.buf old) key f } else m

/-- MERGE_BOTH is counted, and raised once in a story second. -/
def State.mergeBoth (g : Nat) (s : State) : State :=
  let x := s.group 3 g
  let seen := x.merge.bothSeen
  let s := s.setGroup 3 g { x with merge := { x.merge with bothBad := x.merge.bothBad + 1, bothSeen := true } }
  if seen then s else s.prtEvent 3 g 6 .mergeBoth 0

/-- The frame at the read point leaves the merge: into a's slip buffer and its CAS extraction (R242). Where no copy wrote it,
a frame of conditioning leaves (R244), an empty one. -/
def State.mergeRead (g : Nat) (s : State) : State :=
  let x := s.group 3 g
  match x.merge.read with
  | none => s
  | some k =>
    let a := x.op.w
    let t := s.trib a
    let f := tget [] x.merge.buf k
    let s := s.setGroup 3 g { x with merge := { x.merge with read := some ((k + 1) % 1024), buf := tdel x.merge.buf k } }
    let s := if t.cfg.cas then s.modTrib a (fun y => if f = [] then y.casSkip else y.casFrame (byteAt f 16)) else s
    s.slipWrite a f

/-- The tributary of a copy is enabled and holds TAG_LOCK. -/
def State.locked (s : State) (t : Nat) : Bool := (s.trib t).cfg.en && (s.trib t).tagLock

def Merge.key (b : Bool) (m : Merge) : Option Nat := if b then m.keyB else m.keyA
def Merge.setKey (b : Bool) (k : Option Nat) (m : Merge) : Merge := if b then { m with keyB := k } else { m with keyA := k }
def Merge.stage (b : Bool) (m : Merge) : List (Option Nat × List Byte) := if b then m.stB else m.stA
def Merge.setStage (b : Bool) (l : List (Option Nat × List Byte)) (m : Merge) : Merge := if b then { m with stB := l } else { m with stA := l }

/-- The key of the frame of a copy that has just come (R241): the one after its last while it held TAG_LOCK, else as its tag
has just told. -/
def Merge.keyNow (b : Bool) (x : Trib) (pos : Nat) (m : Merge) : Option Nat :=
  match m.key b with
  | some k => some ((k + 1) % 1024)
  | none => if x.tagLock then some ((if pos = 15 then x.tagLast.getD 0 else (x.tagLast.getD 63 + 1) % 64) * 16 + pos) else none

/-- The sub-multiframes of a copy as they arrive: which were good, by key (R244). `hurt`: a defect stood or was declared in
this frame. The check that ends with a sub-multiframe is that of the one before it. -/
def Merge.judge (b : Bool) (x : Trib) (pos : Nat) (key : Option Nat) (hurt : Bool) (m : Merge) : Merge :=
  let ok := if b then m.okB else m.okA
  let ok := (ok.1, ok.2 && !(hurt || !x.tagLock))
  let ends := pos = 7 || pos = 15
  let good := if b then m.goodB else m.goodA
  let crcOk := if pos = 7 then x.eBits.2 else x.eBits.1
  let good := match key with
    | some k => if ends then (good.drop (good.length - 3)) ++ [((k / 8 + 127) % 128, ok.1 && crcOk)] else good
    | none => good
  let ok := if ends then (ok.2, true) else ok
  if b then { m with okB := ok, goodB := good } else { m with okA := ok, goodA := good }

/-- Both copies have lost TAG_LOCK: the read point is reset (R242). -/
def Merge.reset (m : Merge) : Merge := { m with read := none, buf := [], wrote := [], stA := [], stB := [] }

/-- A locked copy arrives under its key; the first one places the read and paces it (R242). -/
def Merge.place (b : Bool) (key lag : Nat) (m : Merge) : Merge :=
  match m.read with
  | some _ => m
  | none => { m with read := some ((key + 1024 - (if b then 48 - lag else 16 + lag)) % 1024), leadA := !b }

/-- Δ (R243), measured when a frame of copy B comes: by how many frames its key stands behind that of A's last. -/
def Merge.measure (b both : Bool) (lag : Nat) (m : Merge) : Merge :=
  let d := if !both then none else if !b then m.delta else
    match m.keyA, m.keyB with
    | some ka, some kb => some (mergeDelta ka kb)
    | _, _ => m.delta
  { m with delta := d, diff := match d with | some d => if d < (lag : Int) - 32 ∨ (lag : Int) < d then true else false | none => false }

/-- The oldest frame held of a copy goes to the merge buffer (R241). Which copy writes a sub-multiframe is decided with its first
frame. That the other copy writes from then on is no selector move: the model raises no PROT_SW and counts no switch for it
(assumption 168). -/
def State.mergeOut (g : Nat) (b : Bool) (s : State) : State :=
  let gr := s.group 3 g
  match gr.merge.stage b with
  | [] => s
  | e :: r =>
    let m := gr.merge.setStage b r
    match e.1 with
    | none => s.setGroup 3 g { gr with merge := m }
    | some k =>
      let other := s.locked (if b then gr.op.w else gr.op.p) && gr.mayWrite (!b)
      let dc := if k % 8 = 0 && gr.mayWrite b then m.decide b gr.onlyCopy.isSome other (k / 8) else (m, false)
      let s := s.setGroup 3 g { gr with merge := dc.1.write b k e.2 }
      if dc.2 then s.mergeBoth g else s

/-- It does so when the frame 16 after it has come (R241). -/
def State.mergeTake (g : Nat) (b : Bool) (s : State) : State :=
  if ((s.group 3 g).merge.stage b).length ≤ 16 then s else s.mergeOut g b

/-- The read of a frame period of the pacing copy `b` (R242): where the other copy's frame that brings this very frame out of its
decision stage falls into the period that begins, the read has it (R243, R245: hitless up to a delay of M; assumption 144). -/
def State.mergeNext (g : Nat) (b : Bool) (s : State) : State :=
  let m := (s.group 3 g).merge
  let c := !b
  let due := match m.stage c with
    | e :: r => decide (r.length = 15) && m.read.isSome && decide (e.1 = m.read)
    | [] => false
  (if due && s.locked (if c then (s.group 3 g).op.p else (s.group 3 g).op.w) then s.mergeOut g c else s).mergeRead g

/-- MERGE_DIFF when the difference of the copies enters or leaves its range (R243). -/
def State.mergeTell (g : Nat) (was : Bool) (s : State) : State :=
  let m := (s.group 3 g).merge
  if was = m.diff then s
  else s.prtEvent 3 g 5 .mergeDiff (b2n m.diff + put ((m.delta.getD 0 + 4096).toNat) 4 12)

/-- The read point advances once in each frame period of a locked copy (R242, R245): the one that paces it, until that one has
lost TAG_LOCK. At the change the read of this period is made unless the other copy's next frame still falls into this frame of
the story pole, so that none is omitted or made twice (assumption 144). -/
def State.mergePace (g : Nat) (b mine other : Bool) (s : State) : State :=
  let gr := s.group 3 g
  let m := gr.merge
  let lead (c : Bool) (s : State) : State := s.setGroup 3 g { gr with merge := { m with leadA := !c } }
  if b = !m.leadA then
    if mine then s.mergeNext g b
    else if other then
      let s := lead (!b) s
      if (if b then m.atA else m.atB) = s.stp.frame then s.mergeRead g else s
    else s
  else if mine && !other then (lead b s).mergeRead g
  else s

/-- A frame of copy `b` of merge group `g` has come (R241-R245): `x` is its tributary after it, `pos` its number in the
multiframe. -/
def State.mergeIn (g : Nat) (b : Bool) (x : Trib) (pos : Nat) (f : List Byte) (hurt : Bool) (s : State) : State :=
  let gr := s.group 3 g
  let other := s.locked (if b then gr.op.w else gr.op.p)
  let key := gr.merge.keyNow b x pos
  let m := gr.merge.judge b x pos key hurt
  let m := m.setStage b (m.stage b ++ [(key, f)])
  let m := if b then { m with atB := s.stp.frame } else { m with atA := s.stp.frame }
  let m := if x.tagLock then (m.setKey b key).place b (key.getD 0) gr.op.lag else m.setKey b none
  let m := m.measure b (x.tagLock && other) gr.op.lag
  let m := if x.tagLock || other then m else m.reset
  let s := ((s.setGroup 3 g { gr with merge := m }).mergeTell g gr.merge.diff).mergeTake g b
  s.mergePace g b x.tagLock other

/-- The framer takes one received frame (05 R136-R146); answers the code of a message that FDL_BOM reports. -/
def Trib.frameIn (l : List Bool) (isA : Bool) (x : Trib) : Option Nat × Trib :=
  if x.cfg.t1 then x.t1Frame l
  else
    let al := decide (x.frm ≠ 0)
    let y := x.e1Frame l
    (none, if y.cfg.cas && al && decide (y.frm ≠ 0) && !isA then y.casFrame (byteAt (packBits 32 l) 16) else y)

/-- The next frame of received bits (R139-R156): bits, framing, signalling, and the frame's way to the truss. -/
def State.tribFrame (t : Nat) (l : List Bool) (s : State) : State :=
  let isA := (s.mergeOfA t).isSome
  let pos := (s.trib t).mfPos
  let al := decide ((s.trib t).frm ≠ 0)
  let sc := (s.trib t).scan l
  let s := foldS sc.2 (fun e s => s.modTrib t (Trib.setD e.1 e.2)) (s.putTrib t sc.1)
  let r := (s.trib t).frameIn l isA
  let x := { r.2 with fresh := r.2.fresh && !r.2.delivers }
  let s := s.putTrib t x
  let s := match r.1 with
    | some c => s.raiseU (s.rb 0x30000 11) .fdlBom (tribSource t) t c
    | none => s
  let b := if x.cfg.t1 then packBits 24 (l.drop 1) else packBits 32 l
  let s := match s.groupOf 3 t with
    | some g => s.mergeIn g (!isA) x pos b (x.conditioned || sc.2.any (fun e => e.2))
    | none => s
  if al && x.delivers && !x.conditioned && !isA then s.slipWrite t b else s

/-- A frame of received bits goes to the framer of an enabled tributary once it is there (R138, R139). -/
def State.tribBits (t : Nat) (s : State) : State :=
  let x := s.trib t
  if x.cfg.en && decide (x.frameBits ≤ x.rxBits.length) then
    (s.putTrib t { x with rxBits := x.rxBits.drop x.frameBits }).tribFrame t (x.rxBits.take x.frameBits)
  else s

/-! ### Tributaries at a frame boundary -/

/-- AIS to the framer begins or ends (R155), and a framer in AIS receives all-ones. -/
def State.tribLo (t : Nat) (s : State) : State :=
  let lo := (s.lo t).aisDown
  let s := s.modTrib t (fun x => if lo then { (x.setD 1 true) with loAis := true, rxBits := [] } else { x with loAis := false })
  if lo then s.tribFrame t (List.replicate (s.trib t).frameBits true) else s

/-- The slip buffer at a boundary (R147, R148). One without a source is empty and gives COND: while a defect conditions the
input, or while no copy of the merge group holds TAG_LOCK (08 R242, R244). -/
def State.tribTake (t : Nat) (s : State) : State :=
  let x := s.trib t
  let noSource := match s.mergeOfA t with
    | some g => (s.group 3 g).merge.read.isNone
    | none => x.conditioned
  if noSource then s.putTrib t { x with slip := {} }
  else
    let r := x.slip.take x.frameBits (if x.delivers then x.rxBits.length else 0)
    let s := s.putTrib t { x with slip := r.1 }
    if r.2 then s.tribSlip t false else s

/-- Confirmed nibbles reach the plane; SIG_CHANGE and its hold-off (R149, R150). Before a first confirmation the plane carries
SIG_COND, and the first confirmed value counts as a change (assumption 165). -/
def State.tribSig (t : Nat) (s : State) : State :=
  let x := s.trib t
  let sg := x.sig
  let new : Tab Nat := sg.conf.filter (fun (e : Nat × Nat) => decide (tget 0 sg.plane e.1 ≠ e.2))
  let bits := (new.filter (fun (e : Nat × Nat) => decide (tget 0 sg.ovRx e.1 = 0))).foldl (fun (a : BitVec 32) (e : Nat × Nat) => a ||| (1#32 <<< e.1)) sg.pend
  let sg := { sg with plane := new.foldl (fun (p : Tab Nat) (e : Nat × Nat) => tset 0 p e.1 e.2) sg.plane,
                      holdoff := sg.holdoff.map (fun n => n - 1) }
  if decide (bits ≠ 0) && sg.holdoff.isNone then
    (s.putTrib t { x with sig := { sg with pend := 0, holdoff := some 16 } }).raiseU (s.rb 0x30000 9) .sigChange
      (tribSource t) t bits.toNat
  else s.putTrib t { x with sig := { sg with pend := bits } }

/-- The byte of a tributary's truss input slot and its signalling, before any selector (R137, R148, R149; 06 R164 for a
disabled one, 08 R244 for a frame that no copy of a merge wrote). -/
def Trib.input (x : Trib) (ts : Nat) : SByte :=
  if !x.cfg.en then { b := idle x.cfg.t1, s := 0 } else
  let live := x.slip.reading && decide (x.slip.taken ≠ [])
  let b : Byte := if x.cfg.t1 && decide (24 ≤ ts) then 0xFF else if live then byteAt x.slip.taken ts else x.cfg.cond
  let nib := if tget 0 x.sig.ovRx ts ≠ 0 then tget 0 x.sig.ovRx ts - 1
    else if !live || x.def_ 4 || tget 0 x.sig.plane ts = 0 then x.cfg.sigCond
    else tget 0 x.sig.plane ts - 1
  { b := b, s := if signalled x.cfg ts then 16 + nib % 16 else 0 }

/-- The output law of a tributary's slots is µ-law for T1 (R137). -/
def Trib.mu (x : Trib) : Bool := x.cfg.t1

/-! ### Transmit (R138, R140, R142, R144-R146, R151, R153) -/

/-- The nibble a slot transmits. -/
def Trib.txNib (x : Trib) (ts : Nat) (o : SByte) : Nat :=
  if tget 0 x.sig.ovTx ts ≠ 0 then tget 0 x.sig.ovTx ts - 1 else if 16 ≤ o.s then o.s % 16 else x.cfg.sigIdle

/-- RAI goes out while a defect of Table TB-5 asks for it. -/
def Trib.raiNow (x : Trib) : Bool := x.cfg.raiEn && x.conditioned

/-- TS0 of transmit frame `k`; the CRC-4 bit is given. While no CRC-4 multiframe is received the E bits keep their last values,
both 1 where multiframe alignment has just begun (assumption 162). -/
def Trib.ts0 (x : Trib) (k : Nat) (rai : Bool) : Byte :=
  let crcOn := decide (x.cfg.crc4 ≠ 0)
  if k % 2 = 0 then
    0x1B ||| (if !crcOn || x.txCrc.testBit (3 - k % 8 / 2) then 0x80 else 0)
  else
    let e := if x.crcNone then (false, false) else x.eBits
    let b1 := if !crcOn then true
      else if k = 13 then e.1 else if k = 15 then e.2 else (k = 5 || k = 9 || k = 11)
    let sa := BitVec.ofNat 8 (x.cfg.saTx % 32)
    let sa := if x.cfg.tagSa = 0 then sa
      else
        let m : Byte := 1#8 <<< (8 - x.cfg.tagSa)
        (sa &&& ~~~ m) ||| (if (tagOf x.txQ).testBit (7 - k / 2) then m else 0)
    0x40 ||| (if b1 then 0x80 else 0) ||| (if rai then 0x20 else 0) ||| sa

/-- TS16 of transmit frame `k` with CAS (R142). The spare bits of frame 0 are 1, as G.704 has them (assumption 13). -/
def Trib.ts16 (x : Trib) (k : Nat) (out : Nat → SByte) : Byte :=
  if k = 0 then 0x0B ||| (if x.def_ 4 then 4 else 0)
  else BitVec.ofNat 8 (x.txNib k (out k) % 16 * 16 + x.txNib (k + 16) (out (k + 16)) % 16)

/-- The E1 frame of a boundary from its truss output slots. -/
def Trib.txE1 (out : Nat → SByte) (x : Trib) : Trib :=
  let k := x.txPos
  let x := if k = 0 then { x.takeCfg with sig := { x.sig with ovTx := x.sig.ovTxNew } } else x
  let rai := x.raiNow
  let x := if k % 8 = 0 then { x with txCrc := crc4 (bitsOf x.txSmf), txSmf := [] } else x
  let t0 := x.ts0 k rai
  let f := (List.range 32).map (fun ts =>
    if ts = 0 then t0 else if ts = 16 && x.cfg.cas then x.ts16 k out else (out ts).b)
  let masked := (if k % 2 = 0 then t0 &&& 0x7F else t0) :: f.drop 1
  { x with txFrame := f, txRai := rai, txSmf := x.txSmf ++ masked, txPos := (k + 1) % 16, txQ := if k = 15 then (x.txQ + 1) % 64 else x.txQ }

/-- The next word of the FDL (R146): yellow over a bit-oriented message over flags. A message that yellow interrupts (R155) is
sent anew. -/
def Trib.fdlNext (x : Trib) : Trib :=
  let left := x.bomLeft + b2n (x.fdlKind = 1 && decide (x.fdlPos ≠ 0))
  let x := { x with fdlPos := 0 }
  if x.raiNow then { x with fdlWord := 0xFF00, fdlKind := 2, bomLeft := left }
  else if 0 < left then { x with fdlWord := 0xFF00 + x.cfg.bomCode % 64 * 2, fdlKind := 1, bomLeft := left - 1 }
  else { x with fdlWord := 0x7E7E, fdlKind := 0, bomLeft := 0 }

/-- The T1 frame of a boundary from its truss output slots. -/
def Trib.txT1 (out : Nat → SByte) (x : Trib) : Trib :=
  let k := x.txPos
  let len := if x.cfg.esf then 24 else 12
  let x := if k = 0 then { x.takeCfg with sig := { x.sig with ovTx := x.sig.ovTxNew } } else x
  let x := if k = 0 && x.cfg.esf then
      { x with txCrc := crc6 ((List.range 24).flatMap (fun j => true :: bitsOf (bytesAt x.txSmf (24 * j) 24))) } else x
  let x := if k = 0 then { x with txSmf := [] } else x
  let rai := x.raiNow
  let fdl := x.cfg.esf && k % 2 = 0
  let x := if fdl && (x.fdlPos = 0 || (rai != decide (x.fdlKind = 2))) then x.fdlNext else x
  let fbit := match t1Framing x.cfg.esf k with
    | some v => v
    | none =>
      if x.cfg.esf then (if k % 2 = 0 then x.fdlWord.testBit (15 - x.fdlPos) else x.txCrc.testBit (5 - k / 4))
      else (k = 5 || k = 7 || k = 9)
  let f := (List.range 24).map (fun ch =>
    let b := (out ch).b
    let b := if !x.cfg.esf && rai then b &&& 0xBF else b
    if x.cfg.rbs && k % 6 = 5 then
      (b &&& 0xFE) ||| (if (x.txNib ch (out ch)).testBit (3 - k / 6) then 1 else 0)
    else b)
  { x with txFrame := f, txF := fbit, txRai := rai, txSmf := x.txSmf ++ f, txPos := (k + 1) % len,
           txQ := if k + 1 = len then (x.txQ + 1) % 64 else x.txQ,
           fdlPos := if fdl then (x.fdlPos + 1) % 16 else x.fdlPos }

/-- The transmit frame of a tributary (R138); an LO SNCP or merge partner sends its group's frame (08 R240, R246). -/
def State.tribTx (out : Nat → SByte) (t : Nat) (s : State) : State :=
  s.modTrib t (fun x =>
    let o (ts : Nat) := out (32 * t + ts)
    if x.cfg.t1 then x.txT1 o else x.txE1 o)

/-- The protection members send what the working members send. -/
def State.tribBridge (s : State) : State :=
  foldS (s.prt.groups.filter (fun e => decide (e.1 / 65536 = 2 ∨ e.1 / 65536 = 3) && e.2.inUse)) (fun e s =>
    let w := s.trib e.2.op.w
    if (s.trib e.2.op.p).cfg.en then
      s.modTrib e.2.op.p (fun y => { y with txFrame := w.txFrame, txF := w.txF })
    else s) s

/-- The tributary whose frame an enabled tributary sends: the working member's, of a protection member (08 R240, R246). -/
def State.tribSrc (s : State) (t : Nat) : Nat :=
  match s.prt.groups.find? (fun e => decide (e.1 / 65536 = 2 ∨ e.1 / 65536 = 3) && e.2.inUse && decide (e.2.op.p = t)) with
  | some e => e.2.op.w
  | none => t

/-- What follows the overhead byte in quarter `q` of a VC-12 or VC-11 that carries a frame's bits (R138): justification control
that calls for stuff in the first opportunity and data in the second, the data, in a VC-12 a fixed byte. -/
def loBody (t1 sync : Bool) (q : Nat) (bits : List Bool) : List Byte :=
  let c : Byte := if sync || q = 0 then 0 else 0x80
  if t1 then (c ||| (if bits.headD false then 2 else 0)) :: packBits 24 (bits.drop 1)
  else c :: packBits 32 bits ++ [0]

/-- V1 of a TU (R118): NDF or not, the SS bits, offset 0. -/
def tuV1 (t1 ndf : Bool) : Byte := (if ndf then 0x90 else 0x60) ||| (if t1 then 0x0C else 0x08)

/-- A TU of an unequipped VC with a valid pointer, in frame `m` of the TU multiframe (R133). -/
def unequipTu (m : Nat) (t1 : Bool) : List Byte := (if m = 0 then tuV1 t1 false else 0) :: List.replicate (tuLen t1) 0

/-- V5 of the TU multiframe that starts now (R119). -/
def State.v5 (s : State) (t : Nat) : Byte :=
  let p := s.lo t
  let rdi := p.flag 4 && (p.def_ 0 || p.def_ 1 || p.def_ 2 || (p.def_ 4 && p.flag 0))
  BitVec.ofNat 8 (bip2Of p.bipTx * 64) ||| (if p.reiTx then 0x20 else 0) ||| (if (s.trib t).cfg.byteSync then 0x08 else 0x04)
    ||| (if rdi then 1 else 0)

/-- The bits that quarter `q` carries: of the present frame, or, byte-synchronously, of the oldest one held whose number fits
(R138). Older ones are dropped, so that the queue fits again after the source's numbers have jumped. -/
def LoPath.mapBits (sync : Bool) (q k n : Nat) (bits : List Bool) (p : LoPath) : List Bool × LoPath :=
  if !sync then (bits, p)
  else
    let l := p.mapQ ++ [(k % 4, bits)]
    let l := l.drop (l.length - 4)
    match l.dropWhile (fun e => e.1 ≠ q) with
    | e :: r => (e.2, { p with mapQ := r })
    | [] => (List.replicate n false, { p with mapQ := l })

/-- The TU of an enabled tributary in the frame that starts (R118-R120, R138): V1 to V4, then a quarter of the VC. -/
def State.loQuarterTx (t : Nat) (s : State) : State :=
  let c := (s.trib t).cfg
  let x := s.trib (s.tribSrc t)
  let m := s.hop.mf4
  let q := (m + 3) % 4
  let frame := if c.t1 then x.txF :: bitsOf x.txFrame else bitsOf x.txFrame
  let r := (s.lo t).mapBits c.byteSync q (x.txPos + 3) (s.trib t).frameBits frame
  let v5 := s.v5 t
  let j2 := if q = 1 then s.traceSend 2 t else (0, s)
  let p := r.2
  let p := if q = 0 then { p with v5Tx := v5, reiTx := false, k4Now := p.k4Tx, n2Now := p.n2Tx } else p
  let oh := match q with | 0 => v5 | 1 => j2.1 | 2 => p.n2Now | _ => p.k4Now
  let vc := oh :: loBody c.t1 c.byteSync q r.1
  let v : Byte := if m = 0 then tuV1 c.t1 p.ndfTx else 0
  j2.2.setLo t { p with bipTx := if q = 0 then bip8 vc else p.bipTx ^^^ bip8 vc, out := v :: vc, ndfTx := p.ndfTx && decide (m ≠ 0) }

/-- The TU of an enabled tributary in the frame that starts. A protection member whose working member is disabled sends what
that one's TU sends, an unequipped VC (08 R222, R240, R246; R133), and never its own output slots (assumption 169). -/
def State.loTx (t : Nat) (s : State) : State :=
  if (s.trib (s.tribSrc t)).cfg.en then s.loQuarterTx t
  else s.setLo t { s.lo t with out := unequipTu s.hop.mf4 (s.trib t).cfg.t1 }

/-! ### Highways (R157-R162) -/

def State.hwy (s : State) (n : Nat) : Hwy := tget {} s.hwys n
def State.setHwy (n : Nat) (h : Hwy) (s : State) : State := { s with hwys := tset {} s.hwys n h }
def State.modHwy (n : Nat) (f : Hwy → Hwy) (s : State) : State := s.setHwy n (f (s.hwy n))

def grpReg (g : Nat) : Nat := 0x74000 + 0x10 * g

/-- The port is enabled, its EN in force. -/
def Hwy.en (h : Hwy) : Bool := wbit h.cfg 31
/-- The port's output law. -/
def Hwy.mu (h : Hwy) : Bool := wbit h.cfg 30

/-- Channels of a highway at its group's rate (Table TB-7). -/
def State.hwyChans (s : State) (n : Nat) : Nat := 32 * 2 ^ s.rf (grpReg (n / 8)) 29 2
def State.hwyMaster (s : State) (n : Nat) : Bool := s.rb (grpReg (n / 8)) 31
/-- Bits of a highway frame; where channel 0 begins after the bit period of the sync (R160). -/
def State.hwyBits (s : State) (n : Nat) : Nat := 8 * s.hwyChans n
def State.hwyOffset (s : State) (n : Nat) : Nat :=
  let o := wfld (tget {} s.hwys n).cfg 16 11
  if o < s.hwyBits n then o else 0

/-- A byte as its bits come or go, first bit most significant, against the channel byte (R160). -/
def State.hwyOrder (s : State) (n : Nat) (b : Byte) : Byte :=
  if s.rb (grpReg (n / 8)) 27 then b else byteOfBits (byteBits b).reverse

def State.hwyGrp (s : State) (g : Nat) : HwyGrp := tget {} s.grps g
def State.setHwyGrp (g : Nat) (x : HwyGrp) (s : State) : State := { s with grps := tset {} s.grps g x }

/-- A highway slip (R161). -/
def State.hwySlip (n : Nat) (del tx : Bool) (s : State) : State :=
  let h := s.hwy n
  let seen := h.slipSeen
  let h := { h with slipSeen := true, sticky := h.sticky ||| 1 }
  let h := if tx then (if del then { h with txDel := h.txDel + 1 } else { h with txRep := h.txRep + 1 })
    else (if del then { h with del := h.del + 1 } else { h with rep := h.rep + 1 })
  whenS (!seen) (fun s => s.raiseU (wbit h.cfg 0) .hwySlip (0x80 + n) n (b2n del + 2 * b2n tx)) (s.setHwy n h)

/-- Frame sync is lost on, or regained by, one enabled port (R162). -/
def State.hwyLoss (n : Nat) (on : Bool) (s : State) : State :=
  let h := s.hwy n
  if !h.en || h.fsLoss = on then s
  else
    let h := if on then { h with fsLoss := true, sticky := h.sticky ||| 2, badSync := 0, goodSync := 0, slip := {}, cur := none,
                                 out := [], outPrev := [] }
      else { h with fsLoss := false, txHeld := [], txLast := none, slip := {} }
    (s.setHwy n h).raiseU (wbit h.cfg 1) .hwyFsLoss (0x80 + n) n (b2n on)

/-- HWY_FS_LOSS on every enabled port of a port's group. -/
def State.hwyGroupLoss (n : Nat) (s : State) : State :=
  foldS (List.range 8) (fun j s => s.hwyLoss (n / 8 * 8 + j) true) s

/-- The channels a port drives of an output frame (R160). -/
def State.hwyDrive (s : State) (n : Nat) (f : List Byte) : List (Option Byte) :=
  (List.range (s.hwyChans n)).map (fun ch =>
    if wbit (tget 0 (s.hwy n).txEn (ch / 32)) (ch % 32) then some (s.hwyOrder n (byteAt f ch)) else none)

/-- The channels of the highway frame that begins OFFSET bit periods after the sync of period `a`, `b` the next one (R160). -/
def State.hwyFrame (s : State) (n : Nat) (a b : List Byte) : List Byte :=
  let o := s.hwyOffset n
  (packBits (s.hwyChans n) ((bitsOf a).drop o ++ (bitsOf b).take o)).map (s.hwyOrder n)

/-- A port sends a highway frame; in the fatal state none (13 R371). -/
def State.hwySend (n : Nat) (f : List Byte) (s : State) : State :=
  let o := s.hwyDrive n f
  if s.flt.fatal then s else s.modHwy n (fun h => { h with out := o, outPrev := h.out })

/-- The outputs of the highways are driven: with power, outside the fatal state (13 R371; 17 R427). -/
def State.hwyDriven (s : State) : Bool := s.powered && !s.flt.fatal

/-- The level that a port drives on HDO in bit period `i` after the one that carries sync, none high-impedance (R160). -/
def State.hdo (s : State) (n i : Nat) : Option Bool :=
  if !s.hwyDriven then none else
  let o := s.hwyOffset n
  let l := if i < o then (s.hwy n).outPrev else (s.hwy n).out
  let k := (i + s.hwyBits n - o) % s.hwyBits n
  (l.getD (k / 8) none).map (fun b => b.getLsbD (7 - k % 8))

/-- A complete frame for a slave port's receive slip buffer (R161). -/
def State.hwySlipIn (n : Nat) (f : List Byte) (s : State) : State :=
  let h := s.hwy n
  let del := h.slip.unread.isSome && h.slip.reading
  let s := s.setHwy n { h with slip := { h.slip with unread := some f } }
  if del then s.hwySlip n true false else s

/-- A slave port between two syncs: received bytes into its slip buffer, an output frame taken (R161). -/
def State.hwySlave (n : Nat) (bytes : List Byte) (s : State) : State :=
  let s := if s.hwyOffset n = 0 then s.hwySlipIn n (s.hwyFrame n bytes [])
    else match (s.hwy n).cur with
      | some a => s.hwySlipIn n (s.hwyFrame n a bytes)
      | none => s
  let s := s.modHwy n (fun h => { h with cur := some bytes })
  let h := s.hwy n
  match h.txHeld with
  | f :: r => (s.setHwy n { h with txHeld := r, txLast := some f }).hwySend n f
  | [] => match h.txLast with
    | some f => (s.hwySend n f).hwySlip n false true
    | none => s.hwySend n (List.replicate (s.hwyChans n) (idle h.mu))

/-- Output frame of a boundary for a highway port: sent at once in master mode, held in slave mode (R161). -/
def State.hwyTx (out : Nat → SByte) (n : Nat) (s : State) : State :=
  let h := s.hwy n
  if !h.en then s.setHwy n { h with out := [], outPrev := [] }
  else
    let f := (List.range (s.hwyChans n)).map (fun ch => (out (0xB0000 + 256 * n + ch)).b)
    if s.hwyMaster n then s.hwySend n f
    else if h.fsLoss then s
    else if h.txHeld.length < 2 then s.setHwy n { h with txHeld := h.txHeld ++ [f] }
    else (s.setHwy n { h with txHeld := h.txHeld.drop 1 ++ [f] }).hwySlip n true true

/-- Sub-ticks since a port's last sync. -/
def State.syncAge (s : State) (n : Nat) : Nat :=
  match (s.hwy n).syncAt with
  | some (f, p) => (s.stp.frame - f).toNat * subTicks + s.inFrame - p
  | none => 0

/-- Bits that a slave port has received of the frame that is coming: those after its channel 0 began, OFFSET after a sync. -/
def State.hwyPart (s : State) (n : Nat) : Nat :=
  s.syncAge n * s.hwyBits n / subTicks + (if (s.hwy n).cur.isSome && decide (s.hwyOffset n ≠ 0) then s.hwyBits n - s.hwyOffset n else 0)

/-- The receive side of a highway port at a boundary (R161): in master mode what came under the sync of the frame before the
last is complete. -/
def State.hwyTake (n : Nat) (s : State) : State :=
  let h := s.hwy n
  if !h.en then s
  else if s.hwyMaster n then
    s.setHwy n { h with prev := h.cur, cur := none,
                        slip := { h.slip with taken := (h.prev.map (fun a => s.hwyFrame n a (h.cur.getD []))).getD [], reading := h.prev.isSome } }
  else if h.fsLoss then s
  else
    let r := h.slip.take (s.hwyBits n) (s.hwyPart n)
    let s := s.setHwy n { h with slip := r.1 }
    if r.2 then s.hwySlip n false false else s

/-- The byte of a highway input slot (R157, R160, R162). -/
def State.hwyInput (s : State) (n ch : Nat) : Byte :=
  let h := s.hwy n
  if h.en && !h.fsLoss && h.slip.reading && decide (ch < s.hwyChans n) then byteAt h.slip.taken ch else idle h.mu

/-- CFG and TX_EN take force at a boundary (R158). -/
def State.hwyApply (n : Nat) (s : State) : State :=
  let h := s.hwy n
  let cfg := s.reg (hwyReg n 0)
  let txEn := (List.range 8).foldl (fun t w => tset 0 t w (s.reg (hwyReg n (0x20 + 4 * w)))) []
  if h.cfg = cfg && h.txEn = txEn then s
  else
    let started := wbit cfg 31 && !h.en
    let h := { h with cfg := cfg, txEn := txEn }
    s.setHwy n (if started then { h with slip := {}, txHeld := [], txLast := none, cur := none, prev := none, fsLoss := false,
                                         badSync := 0, goodSync := 0, syncAt := some (s.stp.frame, 0) }
      else if !(wbit cfg 31) then { h with fsLoss := false, out := [], outPrev := [] } else h)

/-- A group gives up its sync GPIO. -/
def State.hwySyncFree (g : Nat) (s : State) : State :=
  let s := s.unclaim (0x0400 + g) (resKey 4 (8 + g))
  let s := match (s.hwyGrp g).syncGpio with | some p => s.unclaim (0x0400 + g) (resKey 0 p) | none => s
  s.setHwyGrp g {}

/-- A group claims its sync GPIO (R159). -/
def State.hwySyncClaim (g gp : Nat) (s : State) : State :=
  let r := s.claimAll (0x0400 + g) [resKey 4 (8 + g), resKey 0 gp]
  r.2.setHwyGrp g { syncGpio := if r.1 then some gp else none, refused := !r.1 }

/-- A write of HWY.GRP_CFG[g] (R158, R159): only while every port of the group is disabled. SYNC_SRC claims when it goes from 0
to 1 (14 R392); a SYNC_GPIO that changes while it stays 1 leaves the claim as it is (assumption 158). -/
def State.hwyGroupWrite (g : Nat) (v : Word) (s : State) : State :=
  if (List.range 8).any (fun j => (s.hwy (8 * g + j)).en) then s
  else
    let o := grpReg g
    let was := s.rb o 24
    let s := s.regWrite o v
    if wbit v 24 && !was then s.hwySyncClaim g (wfld v 16 4)
    else if !(wbit v 24) then s.hwySyncFree g
    else s

/-- The port whose RX_EDGE tells the launch edge of its group's HCK: the first enabled one, else the first (assumption 171). -/
def State.hckPort (s : State) (g : Nat) : Nat :=
  (((List.range 8).map (fun j => 8 * g + j)).find? (fun n => (s.hwy n).en)).getD (8 * g)

/-- The level of HCK[g] that the device drives in master mode: the bit rate, or twice that (R159). A bit period begins with the
launch edge, the edge that does not sample (R160, 17 R436): with RX_EDGE 0 the falling one. -/
def State.hck (s : State) (g : Nat) : Option Bool :=
  let f := s.hwyBits (8 * g) * (if s.rb (grpReg g) 28 then 2 else 1)
  let first := decide (2 * (s.inFrame * f % subTicks) < subTicks)
  if s.hwyDriven && s.hwyMaster (8 * g) then some (first == wbit (s.hwy (s.hckPort g)).cfg 29) else none

/-- The level of HFS[g] that the device drives in master mode: active for one bit period from F:0000 (R159). -/
def State.hfs (s : State) (g : Nat) : Option Bool :=
  if s.hwyDriven && s.hwyMaster (8 * g) then some (decide (s.inFrame * s.hwyBits (8 * g) < subTicks) != s.rb (grpReg g) 26) else none

/-- A write of a highway register. -/
def State.hwyWrite (r : HwyReg) (v : Word) (s : State) : State :=
  match r with
  | .cfg n => s.regWrite (hwyReg n.val 0) v
  | .txEn n w => s.regWrite (hwyReg n.val (0x20 + 4 * w.val)) v
  | .group g => s.hwyGroupWrite g.val v

/-! ### The commands -/

/-- RX_TRIB_FRAME (R139, R143): the framer of an enabled tributary takes its next frame of received bits, an E1 frame or, with
`t1`, a T1 frame, as the tributary is. -/
def execRxTribFrame (t : Fin 16384) (t1 : Bool) (s : State) : Host.Outcome State Fault Refusal :=
  .next (if t1 = (s.trib t).cfg.t1 then s.tribBits t else s)

/-- CRC4_NONE (R139): 400 ms of frame alignment without a CRC-4 multiframe, CRC4 = 0b10. -/
def execCrc4None (t : Fin 16384) (s : State) : Host.Outcome State Fault Refusal :=
  let x := s.trib t
  .next (if x.cfg.en && x.cfg.crc4 = 2 && !x.crcNone && x.frm = 1 && decide (3200 ≤ x.noMf) then
      (s.putTrib t { x with crcNone := true }).raiseU (s.rb 0x30000 12) .crc4None (tribSource t) t 0
    else s)

/-- SIG_HOLDOFF_EXPIRY (R150). -/
def execSigHoldoffExpiry (t : Fin 16384) (s : State) : Host.Outcome State Fault Refusal :=
  let x := s.trib t
  .next (if x.sig.holdoff ≠ some 0 then s
    else if x.sig.pend = 0 then s.putTrib t { x with sig := { x.sig with holdoff := none } }
    else (s.putTrib t { x with sig := { x.sig with pend := 0, holdoff := some 16 } }).raiseU (s.rb 0x30000 9) .sigChange
      (tribSource t) t x.sig.pend.toNat)

/-- HWY_CFG_WRITE (R158). -/
def execHwyCfgWrite (r : HwyReg) (v : Word) (s : State) : Host.Outcome State Fault Refusal := .next (s.hwyWrite r v)

/-- HWY_FRAME_SYNC (R161): on a slave port a sync arrives, sampled on the edge FS_EDGE chooses, with what HDI showed since on
the edge RX_EDGE chooses; on a master port what it showed under its own sync. A group whose sync GPIO is refused has no frame
sync. A sync is on count where as many bit periods of HCK as a frame has came since the last one, or since the port was enabled
(R162). At the first sync at another count the port still takes the received frame and sends one (assumption 167). -/
def execHwyFrameSync (n : Fin 64) (rise fall : HwySeen) (s : State) : Host.Outcome State Fault Refusal :=
  let h := s.hwy n
  let bytes := if wbit h.cfg 29 then fall.bytes else rise.bytes
  let periods := if s.rb (grpReg (n / 8)) 25 then fall.periods else rise.periods
  .next (if !h.en || (s.hwyGrp (n.val / 8)).refused then s
    else if s.hwyMaster n then s.setHwy n { h with cur := some bytes }
    else
      let h := if periods = s.hwyBits n then { h with badSync := 0, goodSync := min 2 (h.goodSync + 1) } else { h with badSync := h.badSync + 1, goodSync := 0 }
      let s := s.setHwy n { h with syncAt := some (s.stp.frame, s.inFrame) }
      if h.fsLoss then (if 2 ≤ h.goodSync then s.hwyLoss n false else s)
      else if 2 ≤ h.badSync then s.hwyGroupLoss n
      else s.hwySlave n bytes)

/-- HWY_FS_LOSS (R162): in a slave group no sync has come for 2 frame periods. Two syncs at another count declare it with the
second. -/
def execHwyFsLoss (n : Fin 64) (s : State) : Host.Outcome State Fault Refusal :=
  .next (if (s.hwy n).en && !(s.hwyMaster n) && decide (2 * subTicks ≤ s.syncAge n) then s.hwyGroupLoss n else s)

end Sys2Proof.Machine
end

