-- ==== Sys2Proof/Machine/Truss.lean ====
section
/-! DEFINITION. The truss (06_truss.md R163-R186): slot spaces, connection pages, the read pass of a frame, errors. -/

namespace Sys2Proof.Machine

/-- The listed entry at a key, if there is one. -/
def tfind {α : Type} (t : Tab α) (k : Nat) : Option α := (t.find? (fun (e : Nat × α) => decide (e.1 = k))).map (fun (e : Nat × α) => e.2)

/-! ### Slots (Table TR-1) -/

/-- Region of an output slot; 4 is reserved. -/
def outRegion (k : Nat) : Nat :=
  if k < 0x80000 then 0 else if k < 0x90000 then 1 else if k < 0xB0000 then 2 else if k < 0xB4000 then 3 else 4

/-- Region of an input slot; 5 is reserved. -/
def inRegion (k : Nat) : Nat :=
  if k < 0xB4000 then outRegion k else if k < 0xB5000 then 4 else 5

/-- A run of output slots lies in one region of Table TR-1 and below the reserved range (R181). -/
def outRunOk (first n : Nat) : Bool :=
  decide (first + n - 1 < 0xB4000) && decide (outRegion first = outRegion (first + n - 1))

/-- A run of input slots lies in one region and below the reserved range (R181). -/
def inRunOk (first n : Nat) : Bool :=
  decide (first + n - 1 < 0xB5000) && decide (inRegion first = inRegion (first + n - 1))

/-- R181 for TSW_SET, TSW_FILL and TSW_PATCH: entry, output slot, STEP, COUNT. -/
def tswOk (o : TswRun) : Bool :=
  outRunOk o.out o.count && inRunOk (wfld o.entry 0 20) (if o.step then o.count else 1)
  && decide (wfld o.entry 21 2 ≠ 3) && decide (wfld o.entry 28 4 = 0)

/-- R181 for TSW_READ. -/
def tswReadOk (o : TswReadOp) : Bool :=
  decide (1 ≤ o.count) && decide (o.count ≤ 1024) && decide (o.kind ≤ 2)
  && (if o.kind = 2 then inRunOk o.first o.count else outRunOk o.first o.count)

/-! ### Pages (R165, R173-R179) -/

def State.tswPage (s : State) (b : Bool) : Tab Word := if b then s.tsw.pageB else s.tsw.pageA

def State.setTswPage (b : Bool) (t : Tab Word) (s : State) : State :=
  { s with tsw := if b then { s.tsw with pageB := t } else { s.tsw with pageA := t } }

def State.tswPoison (s : State) (b : Bool) (k : Nat) : Bool := tget false (if b then s.tsw.poisonB else s.tsw.poisonA) k

def State.setTswPoison (b : Bool) (k : Nat) (v : Bool) (s : State) : State :=
  { s with tsw := if b then { s.tsw with poisonB := tset false s.tsw.poisonB k v }
                  else { s.tsw with poisonA := tset false s.tsw.poisonA k v } }

def State.tswDirty (s : State) (k : Nat) : Bool := tget false s.tsw.dirty k

/-- A whole entry is written on a page: its poison and any error in it are gone (R182). -/
def State.tswPut (b : Bool) (k : Nat) (e : Word) (s : State) : State :=
  ((s.setTswPage b (tset 0 (s.tswPage b) k e)).setTswPoison b k false).wordWritten (.cm b k)

/-- Entry `i` of a run: with STEP the source is SRC + i (R173). -/
def runEntry (o : TswRun) (i : Nat) : Word :=
  if o.step then (o.entry &&& 0xFFF00000#32) ||| BitVec.ofNat 32 ((wfld o.entry 0 20 + i) % 2 ^ 20) else o.entry

/-- TSW_SET and TSW_FILL write a run into the standby page and mark it dirty (R173, R174, R176). -/
def State.tswRun (o : TswRun) (s : State) : State :=
  foldS (List.range o.count) (fun i s =>
    let s := s.tswPut (!s.tsw.active) (o.out + i) (runEntry o i)
    { s with tsw := { s.tsw with dirty := tset false s.tsw.dirty (o.out + i) true } }) s

/-- Truss changes and patches applied at this boundary (TSW.APPLIED). -/
def State.tswCount (chg pat : Nat) (s : State) : State :=
  { s with tsw := { s.tsw with chgApplied := s.tsw.chgApplied + chg, patApplied := s.tsw.patApplied + pat } }

/-- TSW_SET (R173). -/
def State.tswSet (o : TswRun) (s : State) : State := (s.tswRun o).tswCount o.count 0

/-- TSW_FILL (R174). -/
def State.tswFill (o : TswRun) (s : State) : State := (s.tswRun o).tswCount (o.count / 32) 0

/-- TSW_PATCH (R179): the active entry, and the standby entry unless it is dirty. -/
def State.tswPatch (o : TswRun) (s : State) : State :=
  let a := s.tsw.active
  let s := s.tswPut a o.out o.entry
  let s := if s.tswDirty o.out then s else s.tswPut (!a) o.out o.entry
  s.tswCount 1 1

/-- The swap of the truss pages (R175): the dirty bitmap is cleared and copy-back starts. -/
def State.tswSwap (s : State) : State :=
  { s with tsw := { s.tsw with active := !s.tsw.active, committed := true, lastCommit := s.stp.frame, dirty := [], copyLeft := 3 } }

/-! ### Errors in connection entries (R182, R184) -/

/-- A message of the truss, at most once per story second for its address (R184). -/
def State.tswOnce (k : Kind) (src addr data : Nat) (s : State) : State :=
  if (k.code + 256 * src, addr) ∈ s.tsw.seen then s
  else ({ s with tsw := { s.tsw with seen := (k.code + 256 * src, addr) :: s.tsw.seen } }).raise k src addr data

/-- A read of the entry of slot `k` on page `b` finds an error that waits there. -/
def State.cmRead (b : Bool) (k : Nat) (s : State) : State :=
  match s.upsetAt (.cm b k) with
  | none => s
  | some false =>
    (({ s.clearUpset (.cm b k) with tsw := { s.tsw with cmCe := s.tsw.cmCe + 1 } })).tswOnce .cmCe 0x068 k (b2n b)
  | some true =>
    let s := (s.clearUpset (.cm b k)).setTswPoison b k true
    let s := if b = s.tsw.active && s.tsw.copyLeft = 0 && !s.tswDirty k then s.setTswPoison (!b) k true else s
    ({ s with tsw := { s.tsw with cmUe := s.tsw.cmUe + 1, lastUnit := 8, lastAddr := k } }).tswOnce .cmUe 0x068 k (b2n b)

/-- Every entry of a page that holds an error is read. -/
def State.cmReadAll (b : Bool) (p : Nat → Bool) (s : State) : State :=
  foldS s.upsets (fun (u : Upset) s => match u.mem with
    | .cm b' k => if b' = b && p k then s.cmRead b k else s
    | _ => s) s

/-- An entry as the standby page will hold it once copy-back has ended (R177); the page it is read from. -/
def State.tswReadPage (s : State) (standby : Bool) (k : Nat) : Bool :=
  if standby && (s.tsw.copyLeft = 0 || s.tswDirty k) then !s.tsw.active else s.tsw.active

/-- The entry TSW_READ and TSW.RDATA return. -/
def State.tswEntry (s : State) (standby : Bool) (k : Nat) : Word := tget 0 (s.tswPage (s.tswReadPage standby k)) k

/-- A standby table after copy-back: the active entry where not dirty (R176). -/
def copyBack {α : Type} (dirty : Nat → Bool) (act stb : Tab α) : Tab α :=
  (tkeep dirty stb).foldr (fun (e : Nat × α) (t : Tab α) => tput t e.1 e.2) (tkeep (fun k => !(dirty k)) act)

/-- Copy-back ends (R176, R182): every slot that is not dirty holds the active entry and its poison. -/
def State.tswCopyDone (s : State) : State :=
  if s.tsw.copyLeft = 0 then s else
  let a := s.tsw.active
  let d := fun k => s.tswDirty k
  let s := s.cmReadAll a (fun k => !(d k))
  let s := s.setTswPage (!a) (copyBack d (s.tswPage a) (s.tswPage (!a)))
  let po := copyBack d (if a then s.tsw.poisonB else s.tsw.poisonA) (if a then s.tsw.poisonA else s.tsw.poisonB)
  let s : State := { s with tsw := if a then { s.tsw with poisonA := po, copyLeft := 0 } else { s.tsw with poisonB := po, copyLeft := 0 } }
  s.clearUpsets (fun m => match m with | .cm b k => b = !a && !(d k) | _ => false)

/-- A frame boundary of a copy-back: it ends by the third (R176). -/
def State.tswCopyTick (s : State) : State :=
  if s.tsw.copyLeft ≤ 1 then s.tswCopyDone else { s with tsw := { s.tsw with copyLeft := s.tsw.copyLeft - 1 } }

/-! ### Laws and input bytes (R163, R164) -/

/-- The active participant entry of the conference roster. -/
def State.cnfPart (s : State) (p : Nat) : PEntry := tget {} (if s.cnf.active then s.cnf.partB else s.cnf.partA) p

/-- Output law of an output slot (R163): µ-law where true. -/
def State.outMu (s : State) (k : Nat) : Bool :=
  if k < 0x80000 then (s.trib (k / 32)).mu
  else if k < 0x90000 then (s.cnfPart (k - 0x80000)).inUse && (s.cnfPart (k - 0x80000)).set.mu
  else if k < 0xB0000 then (tget {} s.strs ((k - 0x90000) / 512)).muOut
  else (s.hwy ((k - 0xB0000) / 256)).mu

/-- A byte of the output frame at the ports: idle where the slot sends none of its own (R166, R168). -/
def State.outByte (s : State) (k : Nat) : SByte := (tfind s.tsw.out k).getD { b := idle (s.outMu k), s := 0 }

/-- The byte of tributary `t` in its truss input slots: the selected member of an LO SNCP group feeds the slots of its
working member (08 R239). -/
def State.tribIn (s : State) (t ts : Nat) : SByte :=
  match s.groupOf 2 t with
  | some g =>
    let x := s.group 2 g
    if x.op.w = t && x.selP then (s.trib x.op.p).input ts else (s.trib t).input ts
  | none => (s.trib t).input ts

/-! ### The read pass (R166-R172, R183, R185) -/

/-- The active entry of slot `k` reads a word of the data memory. -/
def entryReads (e : Word) : Bool := wbit e 20 && !(wbit e 23)

/-- The half that this frame's read pass reads. -/
def State.readHalf (s : State) : Bool := decide ((s.stp.frame.toNat + 2 ^ 32 - 1) % 2 = 1)

/-- Some slot of replica `r` reads word `w` in this pass. -/
def State.wordRead (s : State) (r w : Nat) : Bool :=
  (s.tswPage s.tsw.active).any (fun (e : Nat × Word) =>
    e.1 % 8 = r && entryReads e.2 && wfld e.2 0 20 / 8 = w && !(s.tswPoison s.tsw.active e.1))

/-- A read of a data-memory word finds an error that waits there (R183, R184). -/
def State.dmRead (r : Fin 8) (half : Bool) (w : Nat) (s : State) : State :=
  let a := b2n half * 131072 + w
  match s.upsetAt (.dm r half w) with
  | none => s
  | some false => (({ s.clearUpset (.dm r half w) with tsw := { s.tsw with dmCe := s.tsw.dmCe + 1 } })).tswOnce .dmCe (0x060 + r.val) a 0
  | some true =>
    (({ s with tsw := { s.tsw with dmUe := s.tsw.dmUe + 1, lastUnit := r.val, lastAddr := a } })).tswOnce .dmUe (0x060 + r.val) a 0

/-- What the pass forms for slot `k` with entry `e` (R166, R168). -/
def State.passByte (s : State) (k : Nat) (e : Word) : PassByte :=
  let src := wfld e 0 20
  if !(wbit e 20) || decide (0 < tget 0 s.tsw.wipe (k % 8)) || s.tswPoison s.tsw.active k then {}
  else if wbit e 23 then { idle := false, hold := true }
  else if s.upsetAt (.dm (Fin.ofNat 8 k) s.readHalf (src / 8)) = some true then {}
  else { idle := false, v := tget {} s.tsw.inPrev src, law := wfld e 21 2, pad := wfld e 24 4 }

/-- The byte a slot sends, its output law known (R166, R167); none is idle. `prev` is what it sent a frame before. -/
def PassByte.resolve (mu : Bool) (prev : Option SByte) (p : PassByte) : Option SByte :=
  if p.idle then none
  else if p.hold then prev
  else
    let b := if p.pad = 0 then (if p.law = 1 then convAU p.v.b else if p.law = 2 then convUA p.v.b else p.v.b)
      else attenuate (if p.law = 1 then false else if p.law = 2 then true else mu) mu p.pad p.v.b
    some { b := b, s := p.v.s }

/-- Resolve every listed slot of a pass. -/
def State.resolveAll (prev : Tab SByte) (l : Tab PassByte) (s : State) : Tab SByte :=
  l.filterMap (fun (e : Nat × PassByte) => (e.2.resolve (s.outMu e.1) (tfind prev e.1)).map (fun v => (e.1, v)))

/-- The input frame of the ended frame becomes the one to read; the other half takes the new one. -/
def State.tswTurn (s : State) : State :=
  { s with tsw := { s.tsw with inPrev := s.tsw.inCur, inCur := [] } }

/-- The data-memory words that the pass reads, with the errors they hold (06 R182). -/
def State.dmReadAll (s : State) : State :=
  foldS s.upsets (fun (u : Upset) s => match u.mem with
    | .dm r half w => if half = s.readHalf && s.wordRead r.val w then s.dmRead r half w else s
    | _ => s) s

/-- Read pass G at G:0000 and the move of the output pipeline (Table TR-5): the output frame at the ports, the output
stage, the pass formed now; the conference inputs are delivered at once. -/
def State.readPass (s : State) : State :=
  let s := s.cmReadAll s.tsw.active (fun _ => true)
  let s := s.dmReadAll
  let pass := (s.tswPage s.tsw.active).filterMap (fun (e : Nat × Word) =>
    let p := s.passByte e.1 e.2
    if p.idle then none else some (e.1, p))
  let isConf := fun (k : Nat) => decide (0x80000 ≤ k) && decide (k < 0x90000)
  let out := s.resolveAll s.tsw.out s.tsw.stage
  let conf := s.resolveAll s.tsw.confIn (tkeep isConf pass)
  let wrHalf := !s.readHalf
  let s := s.clearUpsets (fun m => match m with | .dm _ h _ => h = wrHalf | _ => false)
  { s with tsw := { s.tsw with out := out, stage := s.tsw.passOut, passOut := tkeep (fun k => !(isConf k)) pass, confIn := conf,
                               wipe := tmapAll 0 (fun _ n => n - 1) s.tsw.wipe } }

/-- One slot of the pass in progress at a BLK_RST: a free choice whether it had been read (R185; the order of reads
within the slots of one region of a replica is not given). -/
def State.wipeSlots {α : Type} (r : Nat) (t : Tab α) (s : State) : Tab α × State :=
  t.foldl (fun (a : Tab α × State) (e : Nat × α) =>
    if e.1 % 8 = r then
      let f := a.2.takeFree 1
      (if (f.1.headD 0).getLsbD 0 then a.1 else a.1 ++ [e], f.2)
    else (a.1 ++ [e], a.2)) ([], s)

/-- The conference-input slots of replica `r` at a BLK_RST before phase 150; answers whether the pass may already have
gone on to the other slots: it may not while a conference slot is unread, for these are read before all others (R171). -/
def State.wipeConf (r : Nat) (s : State) : Bool × State :=
  let x := s.wipeSlots r s.tsw.confIn
  let f := x.2.takeFree 1
  (decide (x.1.length = s.tsw.confIn.length) && (f.1.headD 0).getLsbD 0,
    { f.2 with tsw := { f.2.tsw with confIn := x.1 } })

/-- The other slots of replica `r` at a BLK_RST: none was read, or each may have been. -/
def State.wipeRest (r : Nat) (begun : Bool) (s : State) : State :=
  if begun then
    let x := s.wipeSlots r s.tsw.passOut
    { x.2 with tsw := { x.2.tsw with passOut := x.1 } }
  else { s with tsw := { s.tsw with passOut := tkeep (fun k => decide (k % 8 ≠ r)) s.tsw.passOut } }

/-- BLK_RST of replica `r` (R185). -/
def State.replicaReset (r : Nat) (s : State) : State :=
  let p := s.stp.phase
  let s := if p < 150 then
      let x := s.wipeConf r
      x.2.wipeRest r x.1
    else if p < 2330 then s.wipeRest r true
    else s
  let s := s.clearUpsets (fun m => match m with | .dm r' _ _ => r'.val = r | _ => false)
  { s with tsw := { s.tsw with wipe := tset 0 s.tsw.wipe r 1 } }

/-! ### Errors that arise in the half the present pass reads (R183) -/

/-- The entry of a slot takes its byte from word `w` of replica `r`. -/
def State.slotReads (s : State) (r w k : Nat) : Bool :=
  let e := tget 0 (s.tswPage s.tsw.active) k
  decide (k % 8 = r) && entryReads e && decide (wfld e 0 20 / 8 = w)

/-- The slots of list `l` that the pass had not yet read when an error arose: a free choice for each. -/
def State.lateOf (l : List Nat) (s : State) : List Nat × State :=
  l.foldl (fun (a : List Nat × State) k =>
    let f := a.2.takeFree 1
    (if (f.1.headD 0).getLsbD 0 then a.1 ++ [k] else a.1, f.2)) ([], s)

/-- The slots that read word `w` of replica `r` after an error has arisen in it. The slots of the conference input are read
before all others (R171): while one of them is unread, all the others are. -/
def State.lateSlots (r w : Nat) (s : State) : List Nat × State :=
  let ks := ((s.tswPage s.tsw.active).map (fun e => e.1)).filter (fun k => s.slotReads r w k && !(s.tswPoison s.tsw.active k))
  let isConf (k : Nat) : Bool := decide (0x80000 ≤ k) && decide (k < 0x90000)
  let rest := ks.filter (fun k => !(isConf k))
  let c := s.lateOf (ks.filter isConf)
  if c.1 = [] then c.2.lateOf rest else (c.1 ++ rest, c.2)

/-- The present pass finds the error of a word in slots `hit`, which send idle where it is uncorrectable. -/
def State.lateFind (r : Fin 8) (half : Bool) (w : Nat) (double : Bool) (hit : List Nat) (s : State) : State :=
  let keep (k : Nat) : Bool := !(double && hit.contains k)
  if hit = [] then s
  else ({ s with tsw := { s.tsw with passOut := tkeep keep s.tsw.passOut, confIn := tkeep keep s.tsw.confIn } }).dmRead r half w

/-- Errors that arise during the frame whose pass has been formed, in words of the half that this pass reads (R183, its first
case): they strike the slots that had yet to be read. -/
def State.lateErrors (l : List Upset) (s : State) : State :=
  foldS l (fun (u : Upset) s => match u.mem with
    | .dm r half w =>
      if half = s.readHalf then
        let x := s.lateSlots r.val w
        x.2.lateFind r half w u.double x.1
      else s
    | _ => s) s

/-! ### TSW_READ (R180) -/

/-- The signalling value TSW_READ returns for an input slot: VALID in bit 4, ABCD in [3:0]. -/
def State.slotSig (s : State) (k : Nat) : Nat := if k < 0x80000 then (s.tribIn (k / 32) (k % 32)).s else 0

/-- The record of TSW_READ; the reads of entries find errors that wait there (R182). -/
def State.tswReadRec (o : TswReadOp) (s : State) : List Byte × State :=
  let idx := (List.range o.count).map (fun i => o.first + i)
  if o.kind = 2 then (idx.map (fun k => BitVec.ofNat 8 (s.slotSig k)), s)
  else
    let sb := o.kind = 1
    let r := s
    (idx.flatMap (fun k => leBytes 4 (s.tswEntry sb k).toNat), foldS idx (fun k s => s.cmRead (r.tswReadPage sb k) k) s)

end Sys2Proof.Machine
end

