-- ==== Sys2Proof/Machine/Conf.lean ====
section
/-! DEFINITION. The conference engine and the tone generator (07_conference.md R187-R218). -/

namespace Sys2Proof.Machine

/-! ### Roster pages (R189-R192, R195) -/

def State.cnfParts (s : State) (b : Bool) : Tab PEntry := if b then s.cnf.partB else s.cnf.partA
def State.cnfConfs (s : State) (b : Bool) : Tab CEntry := if b then s.cnf.confB else s.cnf.confA
def State.cnfPoisP (s : State) (b : Bool) : Tab Bool := if b then s.cnf.poisPB else s.cnf.poisPA
def State.cnfPoisC (s : State) (b : Bool) : Tab Bool := if b then s.cnf.poisCB else s.cnf.poisCA

def State.setCnfParts (b : Bool) (t : Tab PEntry) (s : State) : State :=
  { s with cnf := if b then { s.cnf with partB := t } else { s.cnf with partA := t } }
def State.setCnfConfs (b : Bool) (t : Tab CEntry) (s : State) : State :=
  { s with cnf := if b then { s.cnf with confB := t } else { s.cnf with confA := t } }
def State.setCnfPoisP (b : Bool) (t : Tab Bool) (s : State) : State :=
  { s with cnf := if b then { s.cnf with poisPB := t } else { s.cnf with poisPA := t } }
def State.setCnfPoisC (b : Bool) (t : Tab Bool) (s : State) : State :=
  { s with cnf := if b then { s.cnf with poisCB := t } else { s.cnf with poisCA := t } }

/-- The conference entry in the active page. -/
def State.cnfConf (s : State) (c : Nat) : CEntry := tget {} (s.cnfConfs s.cnf.active) c

/-- A participant entry is written whole: its poison and any error in it are gone (R211). -/
def State.putPart (b : Bool) (p : Nat) (e : PEntry) (s : State) : State :=
  ((s.setCnfParts b (tset {} (s.cnfParts b) p e)).setCnfPoisP b (tset false (s.cnfPoisP b) p false)).wordWritten (.participant b p)

/-- A conference entry is written whole. -/
def State.putConf (b : Bool) (c : Nat) (e : CEntry) (s : State) : State :=
  ((s.setCnfConfs b (tset {} (s.cnfConfs b) c e)).setCnfPoisC b (tset false (s.cnfPoisC b) c false)).wordWritten (.conference b c)

/-- A write of the standby participant entry, which becomes dirty (R191). -/
def State.standbyPart (p : Nat) (e : PEntry) (s : State) : State :=
  let s := s.putPart (!s.cnf.active) p e
  { s with cnf := { s.cnf with dirtyP := tset false s.cnf.dirtyP p true } }

/-- A write of the standby conference entry, which becomes dirty. -/
def State.standbyConf (c : Nat) (e : CEntry) (s : State) : State :=
  let s := s.putConf (!s.cnf.active) c e
  { s with cnf := { s.cnf with dirtyC := tset false s.cnf.dirtyC c true } }

/-- The page on which the standby value of participant `p` stands (R177, R191). -/
def State.partPage (s : State) (p : Nat) : Bool :=
  if s.cnf.copyLeft = 0 || tget false s.cnf.dirtyP p then !s.cnf.active else s.cnf.active

def State.confPage (s : State) (c : Nat) : Bool :=
  if s.cnf.copyLeft = 0 || tget false s.cnf.dirtyC c then !s.cnf.active else s.cnf.active

/-- The standby entry of a participant as it will stand once copy-back has ended. -/
def State.sbPart (s : State) (p : Nat) : PEntry := tget {} (s.cnfParts (s.partPage p)) p
def State.sbConf (s : State) (c : Nat) : CEntry := tget {} (s.cnfConfs (s.confPage c)) c

/-- Every listed participant index. -/
def State.partKeys (s : State) : List Nat :=
  ((s.cnfParts false).foldl (fun (t : Tab Bool) (e : Nat × PEntry) => tput t e.1 true)
    ((s.cnfParts true).map (fun (e : Nat × PEntry) => (e.1, true)))).map (fun (e : Nat × Bool) => e.1)

/-- Standby participants of conference `c`. -/
def State.sbMembers (s : State) (c : Nat) : List Nat :=
  s.partKeys.filter (fun p => (s.sbPart p).inUse && (s.sbPart p).set.conf = c)

/-- CNF_CREATE (Table CF-4). -/
def State.cnfCreate (c : Nat) (o : ConfSet) (s : State) : State := s.standbyConf c { inUse := true, set := o }

/-- CNF_JOIN. -/
def State.cnfJoin (p : Nat) (o : PartSet) (s : State) : State := s.standbyPart p { inUse := true, set := o }

/-- CNF_LEAVE. -/
def State.cnfLeave (p : Nat) (s : State) : State := s.standbyPart p {}

/-- CNF_DESTROY: the entry, and every participant of the conference, which counts as not in use from the swap. Answers
how many participants were released. -/
def State.cnfDestroy (c : Nat) (s : State) : Nat × State :=
  let l := s.sbMembers c
  (l.length, (foldS l (fun p s => s.standbyPart p {}) s).standbyConf c {})

/-- The settings of a participant that FIELDS selects (R193). -/
def PEntry.modify (o : CnfMod) (e : PEntry) : PEntry :=
  let b (i : Nat) := o.fields.testBit i
  { e with set := { conf := if b 8 then o.part.conf else e.set.conf, role := if b 0 then o.part.role else e.set.role,
                    mu := if b 1 then o.part.mu else e.set.mu, gin := if b 2 then o.part.gin else e.set.gin,
                    gout := if b 3 then o.part.gout else e.set.gout } }

/-- The settings of a conference that FIELDS selects. -/
def CEntry.modify (o : CnfMod) (e : CEntry) : CEntry :=
  let b (i : Nat) := o.fields.testBit i
  { e with set := { k := if b 4 then o.conf.k else e.set.k, hang := if b 5 then o.conf.hang else e.set.hang,
                    floor := if b 6 then o.conf.floor else e.set.floor, spkEv := if b 7 then o.conf.spkEv else e.set.spkEv } }

/-! ### Limits (R190) -/

/-- The limits of R190 around participant `p` in a table of participants. -/
def limitsOk (t : Tab PEntry) (p : Nat) : Bool :=
  let e := tget {} t p
  if !e.inUse then true else
  let mem := t.filter (fun (x : Nat × PEntry) => x.2.inUse && x.2.set.conf = e.set.conf)
  let lanes := (mem.map (fun (x : Nat × PEntry) => x.1 / 4096)).dedup
  let segs := ((t.filter (fun (x : Nat × PEntry) => x.2.inUse && x.1 / 4096 = p / 4096)).map (fun (x : Nat × PEntry) => x.2.set.conf)).dedup
  decide (mem.length ≤ 8192) && decide (lanes.length ≤ 2) && decide (segs.length ≤ 2048)
    && decide ((mem.filter (fun (x : Nat × PEntry) => decide (x.2.set.role = 3))).length ≤ 8)

/-- The whole standby page of participants, as it will stand once copy-back has ended. -/
def State.sbParts (s : State) : Tab PEntry := s.partKeys.filterMap (fun p => if s.sbPart p = {} then none else some (p, s.sbPart p))

/-- A hot CNF_MODIFY can change the active page (R195). -/
def State.hotOk (o : CnfMod) (s : State) : Bool :=
  let t := s.cnfParts s.cnf.active
  let e := tget {} t o.index
  e.inUse && limitsOk (tset {} t o.index (e.modify o)) o.index

/-- CNF_MODIFY (Table CF-4, R195); answers RESULT 1 where a hot change lands in the standby page alone. -/
def State.cnfModify (o : CnfMod) (s : State) : Nat × State :=
  if o.isConf then (0, s.standbyConf o.index ((s.sbConf o.index).modify o))
  else if !o.hot then (0, s.standbyPart o.index ((s.sbPart o.index).modify o))
  else
    let a := s.cnf.active
    let ok := s.hotOk o
    let dirty := tget false s.cnf.dirtyP o.index
    let sb := (s.sbPart o.index).modify o
    let s := if ok then s.putPart a o.index ((tget {} (s.cnfParts a) o.index).modify o) else s
    (b2n (!ok), if dirty then s else s.putPart (!a) o.index sb)

/-! ### Errors in the roster (R211, R214) -/

/-- A message of the engine, at most once per story second for its address (R214). -/
def State.cnfOnce (k : Kind) (src addr data : Nat) (s : State) : State :=
  if (k.code, addr) ∈ s.cnf.seen then s
  else ({ s with cnf := { s.cnf with seen := (k.code, addr) :: s.cnf.seen } }).raise k src addr data

/-- CNF.ECC and CNF.ECC_LAST: units 0 lane state, 1 roster, 2 collector. -/
def State.cnfEcc (double : Bool) (unit addr : Nat) (s : State) : State :=
  { s with cnf := if double then { s.cnf with ue := s.cnf.ue + 1, lastUnit := unit, lastAddr := addr } else { s.cnf with ce := s.cnf.ce + 1 } }

/-- A read of a roster entry finds an error that waits there. -/
def State.rsRead (isConf b : Bool) (i : Nat) (s : State) : State :=
  let m : Mem := if isConf then .conference b i else .participant b i
  let addr := if isConf then 0x10000 + i else i
  let src := 0x070 + (if isConf then i / 1024 else i / 4096)
  match s.upsetAt m with
  | none => s
  | some d =>
    let s := (s.clearUpset m).cnfEcc d 1 addr
    let s := if !d then s
      else if isConf then
        let s := s.setCnfPoisC b (tset false (s.cnfPoisC b) i true)
        if b = s.cnf.active && s.cnf.copyLeft = 0 && !(tget false s.cnf.dirtyC i) then s.setCnfPoisC (!b) (tset false (s.cnfPoisC (!b)) i true) else s
      else
        let s := s.setCnfPoisP b (tset false (s.cnfPoisP b) i true)
        if b = s.cnf.active && s.cnf.copyLeft = 0 && !(tget false s.cnf.dirtyP i) then s.setCnfPoisP (!b) (tset false (s.cnfPoisP (!b)) i true) else s
    s.cnfOnce (if d then .cnfRsUe else .cnfRsCe) src addr 0

/-- Every participant entry (`isConf` false) or conference entry of page `b` that holds an error is read. -/
def State.rsReadAll (isConf b : Bool) (s : State) : State :=
  foldS s.upsets (fun (u : Upset) s => match u.mem with
    | .participant b' i => if !isConf && b' = b then s.rsRead false b i else s
    | .conference b' i => if isConf && b' = b then s.rsRead true b i else s
    | _ => s) s

/-- Copy-back of the roster ends (R191, R176, R211). -/
def State.cnfCopyDone (s : State) : State :=
  if s.cnf.copyLeft = 0 then s else
  let a := s.cnf.active
  let s := (((s.rsReadAll false a).rsReadAll true a).rsReadAll false (!a)).rsReadAll true (!a)
  let dp := fun k => tget false s.cnf.dirtyP k
  let dc := fun k => tget false s.cnf.dirtyC k
  let s := s.setCnfParts (!a) (copyBack dp (s.cnfParts a) (s.cnfParts (!a)))
  let s := s.setCnfConfs (!a) (copyBack dc (s.cnfConfs a) (s.cnfConfs (!a)))
  let s := s.setCnfPoisP (!a) (copyBack dp (s.cnfPoisP a) (s.cnfPoisP (!a)))
  let s := s.setCnfPoisC (!a) (copyBack dc (s.cnfPoisC a) (s.cnfPoisC (!a)))
  { s with cnf := { s.cnf with copyLeft := 0 } }

def State.cnfCopyTick (s : State) : State :=
  if s.cnf.copyLeft ≤ 1 then s.cnfCopyDone else { s with cnf := { s.cnf with copyLeft := s.cnf.copyLeft - 1 } }

/-- The swap of the roster pages (R191, R175). -/
def State.cnfSwap (s : State) : State :=
  { s with cnf := { s.cnf with active := !s.cnf.active, dirtyP := [], dirtyC := [], copyLeft := 3 } }

/-! ### Participants in force (R187, R188, R196) -/

/-- A participant in use in the active page, its conference too. -/
def State.partLive (s : State) (p : Nat) : Bool := (s.cnfPart p).inUse && (s.cnfConf (s.cnfPart p).set.conf).inUse

/-- The participants in use of the active page. -/
def State.livePartsOf (s : State) (c : Nat) : List Nat :=
  ((s.cnfParts s.cnf.active).filter (fun (e : Nat × PEntry) => s.partLive e.1 && (s.cnfPart e.1).set.conf = c)).map (fun (e : Nat × PEntry) => e.1)

/-- The conferences in use of the active page. -/
def State.liveConfs (s : State) : List Nat :=
  ((s.cnfConfs s.cnf.active).filter (fun (e : Nat × CEntry) => e.2.inUse)).map (fun (e : Nat × CEntry) => e.1)

/-- The lower lane of a conference: that of its lowest participant. -/
def State.lowLane (s : State) (c : Nat) : Nat := (s.livePartsOf c).headD 0 / 4096

def State.laneSt (s : State) (p : Nat) : LaneSt := tget {} s.cnf.lane p
def State.setLaneSt (p : Nat) (x : LaneSt) (s : State) : State := { s with cnf := { s.cnf with lane := tset {} s.cnf.lane p x } }
def State.spkOf (s : State) (c : Nat) : Spk := tget {} s.cnf.spk c
def State.setSpk (c : Nat) (x : Spk) (s : State) : State := { s with cnf := { s.cnf with spk := tset {} s.cnf.spk c x } }

/-- A participant is poisoned, or its conference is (R211). -/
def State.partPoison (s : State) (p : Nat) : Bool :=
  tget false (s.cnfPoisP s.cnf.active) p || tget false (s.cnfPoisC s.cnf.active) (s.cnfPart p).set.conf

/-- A candidate by its role (R203). -/
def roleTalks (r : Nat) : Bool := r = 0 || r = 2

/-- What a change of the active roster does to the selection state at a boundary (R196); `o` is the state before. -/
def State.cnfChanges (o s : State) : State :=
  let s := foldS s.partKeys (fun p (s : State) =>
    let was := o.partLive p
    let is := s.partLive p
    if !was && !is then s
    else if !is || !was || (o.cnfPart p).set.conf ≠ (s.cnfPart p).set.conf then s.setLaneSt p {}
    else if (o.cnfPart p).set.role ≠ (s.cnfPart p).set.role && !(roleTalks (s.cnfPart p).set.role) then
      s.setLaneSt p { s.laneSt p with sel := false, cnt := 0 }
    else s) s
  foldS ((o.cnfConfs o.cnf.active ++ s.cnfConfs s.cnf.active).map (fun (e : Nat × CEntry) => e.1)) (fun c (s : State) =>
    let a := o.cnfConf c
    let b := s.cnfConf c
    if a.inUse && b.inUse && (decide (a.set.k ≠ b.set.k) || decide (a.set.hang ≠ b.set.hang) || decide (a.set.floor ≠ b.set.floor)) then
      foldS (s.livePartsOf c) (fun p s => s.setLaneSt p { s.laneSt p with sel := false, cnt := 0 }) s
    else if !b.inUse || !a.inUse then s.setSpk c {}
    else s) s

/-! ### The lane pass (R197-R199, R202, R206, R210, R213) -/

/-- A byte of the conference input of participant `p` (R171). -/
def State.confByte (s : State) (p : Nat) : Byte := ((tfind s.tsw.confIn (0x80000 + p)).getD { b := idle (s.cnfPart p).set.mu, s := 0 }).b

/-- Energy (R202). -/
def LaneSt.energy (x : LaneSt) : Nat := (x.win.foldl (fun (a : Int) y => a + y * y) 0).toNat

/-- Every lane-state word that holds an error is read (R210); answers the participants struck. -/
def State.laneErrors (s : State) : List Nat × State :=
  s.upsets.foldl (fun (a : List Nat × State) (u : Upset) => match u.mem with
    | .lane p => match a.2.upsetAt (.lane p) with
      | none => a
      | some d =>
        let s := ((a.2.clearUpset (.lane p)).cnfEcc d 0 p).cnfOnce (if d then .cnfStUe else .cnfStCe) (0x070 + p / 4096) p 0
        if d then (p :: a.1, s.setLaneSt p {}) else (a.1, s)
    | _ => a) ([], s)

/-- A lane is affected by a BLK_RST in this pass (R213). -/
def State.laneWiped (s : State) (l : Nat) : Bool :=
  let n := tget 0 s.cnf.wipe l
  n = 1 || n = 2

/-- One participant in use in a lane pass. -/
def State.lanePart (struck : List Nat) (p : Nat) (s : State) : State :=
  let put (c : Contrib) (s : State) : State := { s with cnf := { s.cnf with contrib := tput s.cnf.contrib p c } }
  if s.laneWiped (p / 4096) || p ∈ struck then put { mute := true } (s.setLaneSt p {})
  else
    let e := (s.cnfPart p).set
    let y := gain e.gin (expand e.mu (s.confByte p))
    let x := s.laneSt p
    let bad := s.partPoison p
    let x := { x with win := (y :: x.win).take 32, sel := x.sel && !bad, cnt := if bad then 0 else x.cnt }
    (put { y := y, e := x.energy, mix := !bad && (e.role = 3 || (roleTalks e.role && x.sel)),
           cand := !bad && roleTalks e.role, mute := bad || e.role = 2 } (s.setLaneSt p x))

/-- Lane pass G (Table CF-8). -/
def State.lanePass (s : State) : State :=
  let s := s.rsReadAll false s.cnf.active
  let r := s.laneErrors
  let s := { r.2 with cnf := { r.2.cnf with contrib := [], laneDone := true } }
  foldS ((s.cnfParts s.cnf.active).map (fun (e : Nat × PEntry) => e.1)) (fun p s => if s.partLive p then s.lanePart r.1 p else s) s

/-! ### The collector window (R200, R201, R203-R208, R212) -/

/-- Rank order: higher energy first, then the lower index (R203). -/
def rankLe (a b : Nat × Nat) : Bool := decide (b.2 < a.2) || (decide (a.2 = b.2) && decide (a.1 ≤ b.1))

/-- The top K candidates of a conference, by rank; the members of a poisoned conference are none (R211). -/
def State.topOf (c : Nat) (s : State) : List Nat :=
  if tget false (s.cnfPoisC s.cnf.active) c then [] else
  let f := (s.cnfConf c).set.floor
  let l := (s.livePartsOf c).filterMap (fun p =>
    let x : Contrib := tget {} s.cnf.contrib p
    if x.cand && decide (32768 * f * f ≤ x.e) then some (p, x.e) else none)
  ((l.mergeSort rankLe).take (s.cnfConf c).set.k).map (fun (e : Nat × Nat) => e.1)

/-- The decision of R203 for a conference. -/
def State.decideConf (c : Nat) (s : State) : State :=
  let o := (s.cnfConf c).set
  let top := s.topOf c
  let mem := s.livePartsOf c
  let s := foldS mem (fun p (s : State) =>
    let x := s.laneSt p
    if !x.sel then s
    else if p ∈ top then s.setLaneSt p { x with cnt := o.hang }
    else if x.cnt = 0 then s.setLaneSt p { x with sel := false }
    else s.setLaneSt p { x with cnt := x.cnt - 1 }) s
  let s := foldS top (fun p (s : State) =>
    let n := (mem.filter (fun q => (s.laneSt q).sel)).length
    if !(s.laneSt p).sel && decide (n < o.k) then s.setLaneSt p { s.laneSt p with sel := true, cnt := o.hang } else s) s
  let sel := mem.filter (fun p => (s.laneSt p).sel)
  let rank := ((sel.map (fun p => (p, (tget {} s.cnf.contrib p : Contrib).e))).mergeSort rankLe).map (fun (e : Nat × Nat) => e.1)
  let x := s.spkOf c
  let changed := decide ((x.rank.mergeSort (fun a b => decide (a ≤ b))) ≠ sel.mergeSort (fun a b => decide (a ≤ b)))
  s.setSpk c { x with rank := rank, top := top, decided := s.stp.frame, pend := x.pend || (changed && o.spkEv) }

/-- The output byte of a participant (R200, R201). -/
def State.mixByte (s : State) (total : Int) (muted : Bool) (p : Nat) : Byte :=
  let e := (s.cnfPart p).set
  let x : Contrib := tget {} s.cnf.contrib p
  if muted || x.mute then idle e.mu
  else encode e.mu (sat16 (gain e.gout (if x.mix then total - x.y else total)))

/-- A byte written into the present input frame. -/
def State.putInput (k : Nat) (b : Byte) (s : State) : State :=
  { s with tsw := { s.tsw with inCur := tset {} s.tsw.inCur k { b := b, s := 0 } } }

/-- The collector's errors (R212): the conferences muted in this frame. -/
def State.colErrors (s : State) : List Nat × State :=
  s.upsets.foldl (fun (a : List Nat × State) (u : Upset) => match u.mem with
    | .collector c => match a.2.upsetAt (.collector c) with
      | none => a
      | some d =>
        let s := ((a.2.clearUpset (.collector c)).cnfEcc d 2 c).cnfOnce (if d then .cnfColUe else .sramCe) (0x070 + a.2.lowLane c) c 0
        if d then (c :: a.1, s) else (a.1, s)
    | _ => a) ([], s)

/-- One conference in the collector window: a conference muted by an error of its record keeps its selected set (R212);
every other one is decided (R203), a poisoned one with no candidate. -/
def State.collectConf (muted : List Nat) (c : Nat) (s : State) : State :=
  let quiet := decide (c ∈ muted) || tget false (s.cnfPoisC s.cnf.active) c
  let mem := s.livePartsOf c
  let total : Int := mem.foldl (fun (a : Int) p => let x : Contrib := tget {} s.cnf.contrib p; if x.mix then a + x.y else a) 0
  let s := foldS mem (fun p s => s.putInput (0x80000 + p) (s.mixByte total quiet p)) s
  if c ∈ muted then s else s.decideConf c

/-- The collector window of frame G (Table CF-8). An entry poisoned by the window's own read makes its members idle
in the same frame. -/
def State.collect (s : State) : State :=
  let s := s.rsReadAll true s.cnf.active
  let r := s.colErrors
  let s : State := { r.2 with cnf := { r.2.cnf with colDone := true } }
  foldS s.liveConfs (fun c s => s.collectConf r.1 c) s

/-- A collector that is late (R208): fatal; which bytes it wrote is open. -/
def State.collectLate (s : State) : State :=
  let s := s.collect
  let s := foldS s.liveConfs (fun c s => foldS (s.livePartsOf c) (fun p (s : State) =>
    let f := s.takeFree 1
    f.2.putInput (0x80000 + p) (f.1.headD 0)) s) s
  s.cnfOnce .cnfColLate 0x070 s.stp.frame.toNat 0

/-- Work of the ended frame that the engine has not been told of: it keeps its schedule every frame (R206). -/
def State.confFinish (s : State) : State :=
  let s := if s.cnf.laneDone then s else s.lanePass
  if s.cnf.colDone then s else s.collect

/-- A new frame for the engine. An error in a record that arose after the window affects no later frame (R212). -/
def State.confTurn (s : State) : State :=
  let s := s.clearUpsets (fun m => match m with | .collector _ => true | _ => false)
  { s with cnf := { s.cnf with laneDone := false, colDone := false, wipe := tmapAll 0 (fun _ n => n - 1) s.cnf.wipe,
                               tones := s.cnf.tones.map (fun (e : Nat × Tone) => (e.1, { e.2 with since := e.2.since + 1 })) } }

/-- BLK_RST of lane `l` (R213). -/
def State.laneReset (l : Nat) (s : State) : State :=
  let n := if s.stp.phase < 150 && !s.cnf.laneDone then 2 else 3
  let s := if n = 3 && !s.cnf.laneDone then s.lanePass else s
  { s with cnf := { s.cnf with lane := tkeep (fun p => decide (p / 4096 ≠ l)) s.cnf.lane, wipe := tput s.cnf.wipe l n } }

/-! ### Speaker events (R205) -/

/-- CNF_SPEAKER with the selected set as it stands, at most once per story second for a conference (R214); the hold-off
starts also where the message of the second has been sent (assumption 146). -/
def State.speakerRaise (c : Nat) (s : State) : State :=
  let x := s.spkOf c
  let l := x.rank.filter (fun p => (s.laneSt p).sel)
  let s := s.setSpk c { x with pend := false, holdoff := some 16 }
  let me := (Kind.cnfSpeaker.code, c)
  if me ∈ s.cnf.seen then s
  else ({ s with cnf := { s.cnf with seen := me :: s.cnf.seen } }).raiseU (s.rb 0x50008 0) .cnfSpeaker (0x070 + s.lowLane c) c
    (l.headD 0xFFFF + l.length * 65536)

/-- The scheme of R150 at a boundary. -/
def State.speakerBoundary (s : State) : State :=
  foldS s.cnf.spk (fun (e : Nat × Spk) (s : State) =>
    let x := s.spkOf e.1
    let s := s.setSpk e.1 { x with holdoff := x.holdoff.map (fun n => n - 1) }
    if x.pend && x.holdoff.isNone then s.speakerRaise e.1 else s) s

/-! ### Tones (R215-R217) -/

/-- TONE_LOAD at its boundary (R217). -/
def State.toneLoad (d : Nat) (t : ToneDef) (s : State) : State :=
  { s with cnf := { s.cnf with tones := tset {} s.cnf.tones d { d := t, since := 0 } } }

/-- The byte of tone slot 16d + j in the present input frame (R215, R216). -/
def Tone.byte (x : Tone) (j : Nat) : Byte :=
  let mu := j % 2 = 1
  if !x.d.en then 0xD5
  else
    let p := x.d.durs.foldl (· + ·) 0
    if toneOn x.d.durs x.d.rep (x.since + j / 2 * (p / 8)) then encode mu (toneSample x.d.f1 x.d.f2 x.d.a1 x.d.a2 x.since)
    else encode mu 0

/-! ### Reads of the page windows (06 R182, R211) -/

/-- What a read of the word at offset `o` finds and leaves behind: TSW.RDATA and CNF.RDATA read the entry their index
register selects, and find an error that waits there. -/
def State.readFinds (o : Nat) (s : State) : State :=
  if o = 0x40014 then
    let k := s.rf 0x40010 0 20
    s.cmRead (s.tswReadPage (s.rb 0x40010 31) k) k
  else if o = 0x50024 then
    let i := s.rf 0x50020 0 16
    let stb := s.rb 0x50020 31
    if s.rb 0x50020 30 then (if 16384 ≤ i then s else s.rsRead true (if stb then s.confPage i else s.cnf.active) i)
    else s.rsRead false (if stb then s.partPage i else s.cnf.active) i
  else s

/-! ### CNF_QUERY (R218) -/

def State.cnfQueryRec (c : Nat) (s : State) : List Byte :=
  let e := s.cnfConf c
  if !e.inUse then leBytes 2 c ++ List.replicate 142 0
  else
    let mem := s.livePartsOf c
    let x := s.spkOf c
    let ai := mem.filter (fun p => decide ((s.cnfPart p).set.role = 3))
    let sel := x.rank.filter (fun p => (s.laneSt p).sel)
    let lanes := mem.foldl (fun (a : BitVec 16) p => a ||| (1#16 <<< (p / 4096))) 0
    let line (isAi : Bool) (p : Nat) : List Byte :=
      leBytes 2 p ++ leBytes 1 (s.laneSt p).cnt ++ leBytes 1 (putB isAi 0 + putB (!isAi && !(decide (p ∈ x.top))) 1)
        ++ leBytes 4 ((s.laneSt p).energy / 256)
    let lines := ai.map (line true) ++ sel.map (line false)
    leBytes 2 c ++ leBytes 2 mem.length ++ leBytes 1 (put ai.length 4 4 + put e.set.k 0 4) ++ leBytes 1 e.set.hang
      ++ leBytes 2 (putB true 15 + put sel.length 10 5 + put e.set.floor 0 10) ++ leBytes 4 x.decided.toNat
      ++ leBytes 2 lanes.toNat ++ leBytes 2 0
      ++ ((lines ++ List.replicate 16 (leBytes 2 0xFFFF ++ List.replicate 6 0)).take 16).flatten

/-! ### The commands -/

/-- LANE_PASS (R206): from G:0150, once in a frame. -/
def execLanePass (s : State) : Host.Outcome State Fault Refusal :=
  .next (if !s.cnf.laneDone && decide (150 ≤ s.stp.phase) then s.lanePass else s)

/-- COLLECTOR_WINDOW (R207): from G:1944, once in a frame. -/
def execCollectorWindow (late : Bool) (s : State) : Host.Outcome State Fault Refusal :=
  .next (if !s.cnf.colDone && decide (1944 ≤ s.stp.phase) then
      let s := if s.cnf.laneDone then s else s.lanePass
      if late then s.collectLate else s.collect
    else s)

/-- SPEAKER_HOLDOFF_EXPIRY (R205). -/
def execSpeakerHoldoffExpiry (c : Fin 16384) (s : State) : Host.Outcome State Fault Refusal :=
  let x := s.spkOf c
  .next (if x.holdoff ≠ some 0 then s
    else if x.pend then s.speakerRaise c.val
    else s.setSpk c.val { x with holdoff := none })

end Sys2Proof.Machine
end

