-- ==== Sys2Proof/Machine/Aes.lean ====
section
/-! DEFINITION. AES encryption (FIPS 197) and the AES-CMAC (SP 800-38B), which 14_keys_locks_resources.md R380 and
11_streams_gfp_dcc.md R331 name. PRESUMED from those standards (assumption 8). -/

namespace Sys2Proof.Machine

/-- Multiplication by x in GF(2^8), modulus x^8 + x^4 + x^3 + x + 1. -/
def xtime (b : Byte) : Byte := (b <<< 1) ^^^ (if b.getLsbD 7 then 0x1B else 0)

/-- Multiplication in GF(2^8). -/
def gmul (a b : Byte) : Byte :=
  ((List.range 8).foldl (fun (st : Byte × Byte) i => (if b.getLsbD i then st.1 ^^^ st.2 else st.1, xtime st.2)) (0, a)).1

/-- a^254: the inverse, 0 for 0. -/
def ginv (a : Byte) : Byte :=
  let a2 := gmul a a; let a3 := gmul a2 a; let a6 := gmul a3 a3; let a12 := gmul a6 a6; let a15 := gmul a12 a3
  let a30 := gmul a15 a15; let a60 := gmul a30 a30; let a120 := gmul a60 a60; let a126 := gmul a120 a6
  let a127 := gmul a126 a
  gmul a127 a127

/-- The S-box. -/
def sbox (a : Byte) : Byte :=
  let b := ginv a
  b ^^^ b.rotateLeft 1 ^^^ b.rotateLeft 2 ^^^ b.rotateLeft 3 ^^^ b.rotateLeft 4 ^^^ 0x63

def xorBytes (a b : List Byte) : List Byte := List.zipWith (· ^^^ ·) a b

/-- The words of the key schedule after the first `nk`, newest first: `n` more words. -/
def keyWords (nk : Nat) : Nat → Nat → Byte → List (List Byte) → List (List Byte)
  | 0, _, _, ws => ws
  | n + 1, i, rcon, ws =>
    let prev := ws.headD []
    let t := if i % nk = 0 then
        xorBytes ((prev.drop 1 ++ prev.take 1).map sbox) [rcon, 0, 0, 0]
      else if nk > 6 && i % nk = 4 then prev.map sbox else prev
    let w := xorBytes (ws.getD (nk - 1) []) t
    keyWords nk n (i + 1) (if i % nk = 0 then xtime rcon else rcon) (w :: ws)

/-- The key schedule as round keys of 16 bytes. -/
def roundKeys (aes256 : Bool) (key : List Byte) : List (List Byte) :=
  let nk := if aes256 then 8 else 4
  let rounds := if aes256 then 14 else 10
  let first := (List.range nk).map (fun i => bytesAt key (4 * i) 4)
  let ws := (keyWords nk (4 * (rounds + 1) - nk) nk 1 first.reverse).reverse
  (List.range (rounds + 1)).map (fun r => (List.range 4).flatMap (fun j => ws.getD (4 * r + j) []))

/-- ShiftRows on a state of 16 bytes, column by column. -/
def shiftRows (l : List Byte) : List Byte :=
  (List.range 16).map (fun i => byteAt l ((i + 4 * (i % 4)) % 16))

/-- MixColumns. -/
def mixColumns (l : List Byte) : List Byte :=
  (List.range 16).map (fun i =>
    let c := i / 4 * 4
    let g (k : Nat) := byteAt l (c + (i + k) % 4)
    gmul 2 (g 0) ^^^ gmul 3 (g 1) ^^^ g 2 ^^^ g 3)

/-- The rounds after the first key addition; the last one mixes no columns. -/
def aesRounds : List (List Byte) → List Byte → List Byte
  | [], st => st
  | [k], st => xorBytes (shiftRows (st.map sbox)) k
  | k :: ks, st => aesRounds ks (xorBytes (mixColumns (shiftRows (st.map sbox))) k)

/-- The AES cipher of one block. -/
def aes (aes256 : Bool) (key block : List Byte) : List Byte :=
  match roundKeys aes256 key with
  | [] => block
  | k :: ks => aesRounds ks (xorBytes block k)

/-- Doubling in GF(2^128) (SP 800-38B): the block shifted left by one bit. -/
def dbl128 (l : List Byte) : List Byte :=
  let v := beNat l
  (leBytes 16 ((v * 2) % 2 ^ 128 ^^^ (if v ≥ 2 ^ 127 then 0x87 else 0))).reverse

/-- The chain over the blocks of a message. -/
def cbc (aes256 : Bool) (key : List Byte) : Nat → List Byte → List Byte → List Byte
  | 0, x, _ => x
  | n + 1, x, m => cbc aes256 key n (aes aes256 key (xorBytes x (m.take 16))) (m.drop 16)

/-- The AES-CMAC of a message (SP 800-38B): 16 bytes. -/
def cmac (aes256 : Bool) (key msg : List Byte) : List Byte :=
  let k1 := dbl128 (aes aes256 key (List.replicate 16 0))
  let n := max 1 ((msg.length + 15) / 16)
  let last := msg.drop (16 * (n - 1))
  let lastBlock := if last.length = 16 then xorBytes last k1
    else xorBytes (bytesAt (last ++ [0x80]) 0 16) (dbl128 k1)
  aes aes256 key (xorBytes (cbc aes256 key (n - 1) (List.replicate 16 0) msg) lastBlock)

/-- The key check value (14 R380): the first three bytes of the CMAC of the empty message, first byte in [23:16]. -/
def kcv (aes256 : Bool) (key : List Byte) : Nat := beNat ((cmac aes256 key []).take 3)

end Sys2Proof.Machine
end

