-- ==== Sys2Proof/Machine/Stream.lean ====
section
/-! DEFINITION. Voice streams (11_streams_gfp_dcc.md R304-R320): blocks in both directions, fill, check units. -/

namespace Sys2Proof.Machine

/-! ### Groups -/

def State.strm (s : State) (g : Nat) : Stream := tget {} s.strs g
def State.setStrm (g : Nat) (x : Stream) (s : State) : State := { s with strs := tset {} s.strs g x }
def State.modStrm (g : Nat) (f : Stream → Stream) (s : State) : State := s.setStrm g (f (s.strm g))

/-- STR.GRP_CNT: 0 ACCEPTED, 1 LATE, 2 EARLY, 3 REJECT, 4 CRC, 5 SEQ_GAP, 6 OUT_DROP, 7 FLUSHED; wraps at 2^32. -/
def Stream.count (c n : Nat) (x : Stream) : Stream := { x with cnts := tset 0 x.cnts c (tget 0 x.cnts c + BitVec.ofNat 32 n) }

/-- Rows of a block. -/
def strD (o : StreamOp) : Nat := 2 ^ o.depth

/-- Length of a block (R306). -/
def blockLen (o : StreamOp) : Nat := 16 + 8 * cdiv ((strD o) * o.k) 8 + 8

/-! ### Check units (R316, R317) -/

def ckuReg (u o : Nat) : Nat := 0x80000 + 0x10 * u + o

/-- The unit's CRC of a message. -/
def State.ckuCrc (s : State) (u : Nat) (msg : List Byte) : Nat :=
  let w := clamp 8 32 (s.rf (ckuReg u 0) 0 6)
  crc w ((s.reg (ckuReg u 4)).toNat % 2 ^ w) ((s.reg (ckuReg u 8)).toNat % 2 ^ w) ((s.reg (ckuReg u 12)).toNat % 2 ^ w)
    (s.rb (ckuReg u 0) 8) (s.rb (ckuReg u 0) 9) msg

/-- The check value of a block of group `g`: header first, rows without padding. -/
def State.blockCheck (s : State) (g : Nat) (o : StreamOp) (seq : Word) (head rows : List Byte) : Nat :=
  s.ckuCrc o.cku (leBytes 4 (g * 65536 + seq.toNat % 65536) ++ head ++ rows)

/-- Some open direction uses the unit (STR.CKU_CFG.BUSY). -/
def State.ckuBusy (s : State) (u : Nat) : Bool :=
  let uses (d : Option StreamDir) : Bool := match d with | some x => x.op.ckuEn && x.op.cku = u | none => false
  s.strs.any (fun (e : Nat × Stream) => uses e.2.inn || uses e.2.out)

/-! ### Host to device (R307-R311) -/

/-- An event of the stream engine, once per story second for the group: `bit` its place in STR.EV_MASK. -/
def State.strEvent (seen : Bool) (bit : Nat) (k : Kind) (g : Nat) (s : State) : State :=
  whenS (!seen) (fun s => s.raiseU (s.rb 0x80040 bit) k 0x142 g 0) s

/-- STR_LATE. -/
def State.strLate (g : Nat) (s : State) : State :=
  (s.modStrm g (fun x => { x with lateSeen := true })).strEvent (s.strm g).lateSeen 0 .strLate g

/-- STR_CKU_FAIL. -/
def State.strCku (g : Nat) (s : State) : State :=
  (s.modStrm g (fun x => { x with ckuSeen := true })).strEvent (s.strm g).ckuSeen 1 .strCkuFail g

/-- Test 1 of R307: the header against the open settings. -/
def headerOk (g : Nat) (o : StreamOp) (len : Nat) (b : List Byte) : Bool :=
  let l := (blockLen o)
  decide ((byteAt b 0).toNat = g) && decide ((byteAt b 1).toNat / 16 = 0) && !((byteAt b 1).getLsbD 0)
    && decide (leNat (bytesAt b 2 2) = o.k) && decide ((byteAt b 12).toNat = (strD o)) && decide (leNat (bytesAt b 13 3) = 0)
    && decide (l ≤ len) && decide (leNat (bytesAt b (l - 4) 2) = leNat (bytesAt b 4 2))

/-- Test 2 of R307 (R317). -/
def State.checkOk (s : State) (g : Nat) (o : StreamOp) (b : List Byte) : Bool :=
  !o.ckuEn || decide (s.blockCheck g o (BitVec.ofNat 32 (leNat (bytesAt b 4 4))) (bytesAt b 0 16) (bytesAt b 16 ((strD o) * o.k))
    = leNat (bytesAt b ((blockLen o) - 8) 4))

/-- The lead of play frame `p` in ticks, none where it does not lie after the present frame (R307). -/
def State.lead (s : State) (p : Word) : Option Nat :=
  if after p s.stp.frame then some (distance p s.stp.frame * 2430 - s.stp.phase) else none

/-- Tests 3 and 4 of R307; answers the state and whether the block plays. -/
def State.blockLate (g : Nat) (o : StreamOp) (b : List Byte) (s : State) : Bool × State :=
  let p : Word := BitVec.ofNat 32 (leNat (bytesAt b 8 4))
  match s.lead p with
  | none => (false, (s.modStrm g (Stream.count 1 1)).strLate g)
  | some l =>
    if l < 4860 then (false, (s.modStrm g (Stream.count 1 1)).strLate g)
    else if 77760 < l then (false, (s.modStrm g (Stream.count 2 1)).strLate g)
    else if (List.range (strD o)).any (fun k => (s.strm g).rows.any (fun r => decide (r.1 = p + BitVec.ofNat 32 k))) then
      (false, s.modStrm g (Stream.count 3 1))
    else
      let rows := (List.range (strD o)).map (fun k => (p + BitVec.ofNat 32 k, p, bytesAt b (16 + k * o.k) o.k))
      (true, s.modStrm g (fun x => { x.count 0 1 with rows := x.rows ++ rows }))

/-- A block that has been read is judged (R307, R318). -/
def State.blockJudge (g : Nat) (len : Nat) (b : List Byte) (s : State) : State :=
  match (s.strm g).inn with
  | none => s.modStrm g (Stream.count 3 1)
  | some d =>
    if !(headerOk g d.op len b) then s.modStrm g (Stream.count 3 1)
    else if s.checkOk g d.op b then (s.blockLate g d.op b).2
    else
      let s := s.modStrm g (Stream.count 4 1)
      if !d.op.play then s.strCku g
      else
        let r := s.blockLate g d.op b
        if r.1 then r.2.strCku g else r.2

/-- SEQ against the previous block read (R308). -/
def State.seqCheck (g : Nat) (b : List Byte) (s : State) : State :=
  let q : Word := BitVec.ofNat 32 (leNat (bytesAt b 4 4))
  let x := s.strm g
  let gap := match x.prevSeq with | some p => decide (q ≠ p + 1) | none => false
  s.setStrm g { x.count 5 (b2n gap) with prevSeq := some q }

/-- How many accepted blocks the rows of a group belong to. -/
def Stream.blocks (x : Stream) : Nat := ((x.rows.map (fun r => r.2.1)).dedup).length

/-- The accepted rows are discarded, each block that loses some counted once in FLUSHED (R310, R319). -/
def Stream.dropRows (x : Stream) : Stream := { x.count 7 x.blocks with rows := [] }

/-- The fill of a channel (R311). -/
def Stream.fillByte (x : Stream) (o : StreamOp) (ch : Nat) : Byte :=
  if o.fillLast then (tget none x.last ch).getD o.fill else o.fill

/-- An uncorrectable error in the staging of a group strikes the accepted block of the row for frame `f`: all its frames
play fill, and the block is counted in FLUSHED (01 R24; assumption 149). -/
def State.stageRead (g : Nat) (f : Word) (s : State) : State :=
  match (s.strm g).rows.find? (fun r => decide (r.1 = f)), s.upsetAt (.staging (Fin.ofNat 256 g)) with
  | some r, some dbl =>
    let s := (s.clearUpset (.staging (Fin.ofNat 256 g))).sramErr 0x142 g dbl
    if dbl then s.modStrm g (fun x => { x.count 7 1 with rows := x.rows.filter (fun q => decide (q.2.1 ≠ r.2.1)) }) else s
  | _, _ => s

/-- The row of input frame F: its bytes by channel, the group with the row taken (R307, R311). -/
def Stream.playRow (f : Word) (x : Stream) : List Byte × Stream :=
  match x.inn with
  | none => ([], x)
  | some d =>
    match x.rows.find? (fun r => decide (r.1 = f)) with
    | none => ((List.range 512).map (x.fillByte d.op), x)
    | some r =>
      let x' := { x with rows := x.rows.filter (fun q => decide (q.1 ≠ f)),
                         last := (List.range d.op.k).map (fun ch => (ch, some (byteAt r.2.2 ch))) }
      ((List.range 512).map (fun ch => if ch < d.op.k then byteAt r.2.2 ch else x'.fillByte d.op ch), x')

/-! ### Device to host (R312-R315) -/

/-- Header bytes 0 to 15 of a device-to-host block. -/
def outHeader (g : Nat) (o : StreamOp) (b : OutBlock) : List Byte :=
  leBytes 1 g ++ leBytes 1 (putB b.err 3 + putB b.epoch 2 + putB (o.cutT ≠ 0) 1 + 1) ++ leBytes 2 o.k ++ leBytes 4 b.seq.toNat
    ++ leBytes 4 b.first.toNat ++ leBytes 1 (strD o) ++ leBytes 3 0

/-- A whole block as it stands in memory, VALID set (Table ST-1). -/
def State.outBytes (s : State) (g : Nat) (o : StreamOp) (b : OutBlock) : List Byte :=
  let head := outHeader g o b
  let rows := b.rows.flatten
  let chk := if o.ckuEn then s.blockCheck g o b.seq head rows else 0
  head ++ rows ++ List.replicate ((blockLen o) - 24 - rows.length) 0 ++ leBytes 4 chk ++ leBytes 2 (b.seq.toNat % 65536) ++ leBytes 2 1

/-- A block is not written: counted, STR_OUT_DROP for the first of the story second (R313). -/
def State.outDrop (g : Nat) (s : State) : State :=
  (s.modStrm g (fun x => { x.count 6 1 with dropSeen := true })).strEvent (s.strm g).dropSeen 2 .strOutDrop g

/-- A block is written whole into buffer `d` and its descriptor written back. -/
def State.outWrite (g : Nat) (o : StreamOp) (b : OutBlock) (d : BufDesc) (s : State) : State :=
  (s.dma d.addr.toNat (s.outBytes g o b)).writeBack 3 g d (blockLen o) 0

/-- A VOg descriptor is there for one more block. -/
def State.outBuf (s : State) (g : Nat) : Bool :=
  let x := s.strm g
  let taken := x.wait.length + (match x.out with | some d => b2n d.desc.isSome | none => 0)
  s.ringRun 3 g && decide (taken < (s.ring 3 g).pendingCount 3)

/-- The block in progress as a record. -/
def StreamDir.block (d : StreamDir) : OutBlock := { seq := d.seq, first := d.first, rows := d.rows, err := d.err, epoch := d.epoch }

/-- The next block: the next SEQ, from frame `f`. -/
def StreamDir.next (f : Word) (d : StreamDir) : StreamDir :=
  { d with seq := d.seq + 1, first := f, rows := [], desc := none, err := false, epoch := false, drop := false, fresh := false }

/-- The row of the ended output frame G joins the block of group `g` (R312, R314). -/
def State.outRow (g : Nat) (s : State) : State :=
  match (s.strm g).out with
  | none => s
  | some d =>
    let f := s.stp.frame
    if d.rows = [] && !(notBefore f d.first) then s
    else
      let u := s.upsetAt (.staging (Fin.ofNat 256 g))
      let s := match u with
        | some dbl => (s.clearUpset (.staging (Fin.ofNat 256 g))).sramErr 0x142 g dbl
        | none => s
      let bad := u = some true
      let row := (List.range d.op.k).map (fun ch => if bad then idle d.op.mu else (s.outByte (0x90000 + 512 * g + ch)).b)
      s.modStrm g (fun x => { x with out := some { d with
        rows := d.rows ++ [row], err := d.err || bad, first := if d.rows = [] then f else d.first, fresh := true } })

/-- The row that has joined is complete after the commands of the boundary (R312, R315): cut-through writes it, a whole
block waits to be written, or is dropped where no buffer is there when writing begins (R313). -/
def State.outSend (g : Nat) (s : State) : State :=
  match (s.strm g).out with
  | none => s
  | some d =>
    if !d.fresh then s
    else
      let o := d.op
      let d := { d with fresh := false }
      let n := d.rows.length
      let s := match d.desc with
        | some b => s.dma (b.addr.toNat + 16 + (n - 1) * o.k) (d.rows.getLastD [])
        | none => s
      let begins := decide (n = if o.cutT = 0 then (strD o) else o.cutT)
      let lack := begins && !(s.outBuf g)
      let s := if lack then s.outDrop g else s
      let d := if lack then { d with drop := true } else d
      if n < (strD o) then s.modStrm g (fun x => { x with out := some d })
      else
        let s := match d.desc with
          | some b => s.outWrite g o d.block b
          | none => s
        s.modStrm g (fun x => { x with out := some (d.next s.stp.frame), outOp := some o,
                                       wait := if d.desc.isSome || d.drop then x.wait else x.wait ++ [d.block] })

/-- A buffer too short for the block: consumed, the block is dropped (R313). -/
def State.outShort (g : Nat) (d : BufDesc) (s : State) : State := (s.writeBack 3 g d 0 5).outDrop g

/-- The next block of a group takes buffer `d` (R312, R313): the oldest whole block, or the one in progress under
cut-through. -/
def State.outTake (g : Nat) (d : BufDesc) (s : State) : State :=
  let x := s.strm g
  match x.wait, x.outOp with
  | b :: r, some o =>
    if !(bufOk d) then s.badDesc 3 g d
    else
      let s := s.setStrm g { x with wait := r }
      if d.len.toNat < (blockLen o) then s.outShort g d else s.outWrite g o b d
  | _, _ => match x.out with
    | none => s
    | some p =>
      let o := p.op
      if o.cutT = 0 || decide (p.rows.length < o.cutT) || p.desc.isSome || p.drop then s
      else if !(bufOk d) then s.badDesc 3 g d
      else if d.len.toNat < (blockLen o) then (s.setStrm g { x with out := some { p with drop := true } }).outShort g d
      else ((s.setStrm g { x with out := some { p with desc := some d } }).readOk 3 g).dma d.addr.toNat (outHeader g o p.block ++ p.rows.flatten)

/-- The block in progress is discarded and consumes its SEQ; under cut-through its descriptor is written back with ABORT
(R315). The next covers frames from `f`. Where no frame of a block has begun there is none in progress, and no SEQ is
consumed. -/
def State.outDiscard (g : Nat) (begun : Bool) (f : Word) (s : State) : State :=
  match (s.strm g).out with
  | none => s
  | some d =>
    let s := match d.desc with
      | some b => s.writeBack 3 g b (16 + (d.rows.length - b2n d.fresh) * d.op.k) 4
      | none => s
    s.modStrm g (fun x => { x with out := some (if begun then d.next f else { d with first := f }) })

/-- A frame of the block in progress has been sent. -/
def State.outBegun (s : State) (g : Nat) : Bool := match (s.strm g).out with | some d => d.rows ≠ [] | none => false

/-- VOg no longer runs: the blocks of group `g` that were being written are discarded and counted (R313; 09 R281). -/
def State.outLost (g : Nat) (s : State) : State :=
  let x := s.strm g
  let cut := match x.out with | some d => d.desc.isSome | none => false
  let s := s.setStrm g { x with wait := [], out := if cut then x.out.map (fun d => { d with desc := none, drop := true }) else x.out }
  foldS (List.range (x.wait.length + b2n cut)) (fun _ s => s.outDrop g) s

/-- Device-to-host blocks whose ring has stopped. -/
def State.outStops (s : State) : State :=
  foldS s.strs (fun (e : Nat × Stream) (s : State) => if s.ringRun 3 e.1 then s else s.outLost e.1) s

/-! ### Commands (R304, R310, R315, R319) -/

/-- STREAM_OPEN at its boundary. -/
def State.streamOpen (o : StreamOp) (s : State) : State :=
  let first := if o.start = 0 then s.stp.frame + 1 else o.start
  s.modStrm o.group (fun x => { x with
    inn := if o.dirIn then some { op := o } else x.inn, last := if o.dirIn then [] else x.last,
    rows := if o.dirIn then [] else x.rows,
    out := if o.dirOut then some { op := o, first := first } else x.out, muOut := if o.dirOut then o.mu else x.muOut })

/-- A block of VIg may be being read when the direction closes: a free choice. It is discarded whole, counted once in
FLUSHED, and its buffer returned (R310; assumption 150). -/
def State.readCut (g : Nat) (s : State) : State :=
  if !(s.hasBuf 2 g) then s
  else
    let f := s.takeFree 1
    if (f.1.headD 0).getLsbD 0 then (f.2.modStrm g (Stream.count 7 1)).consume 2 g else f.2

/-- STREAM_CLOSE. -/
def State.streamClose (g : Nat) (i o : Bool) (s : State) : State :=
  let s := if i then (s.modStrm g (fun x => { x.dropRows with inn := none })).readCut g else s
  if o then (s.outDiscard g (s.outBegun g) s.stp.frame).modStrm g (fun x => { x with out := none }) else s

/-- Every descriptor pending on a ring is consumed without a transfer (R319); answers how many. A block or frame fetched in
part is the one of its descriptor, and is counted with it. -/
def State.consumeAll (kind n : Nat) (s : State) : Nat × State :=
  let k := (s.ring kind n).pendingCount kind
  (k, foldS (List.range k) (fun _ s => s.consume kind n) s)

/-- STREAM_FLUSH. -/
def State.streamFlush (g : Nat) (i o : Bool) (s : State) : State :=
  let s := if i then
      let r := s.consumeAll 2 g
      r.2.modStrm g (fun x => x.dropRows.count 7 r.1)
    else s
  if o then s.outDiscard g (s.outBegun g) s.stp.frame else s

/-- A queue reset of a group (R320): what the queues hold is discarded, and the fill that plays for accepted blocks counted
(01 R24). Whole blocks that wait to be written, and the one in progress, count in OUT_DROP. -/
def State.streamReset (g : Nat) (s : State) : State :=
  let s := s.modStrm g (fun x => { x.dropRows.count 6 x.wait.length with wait := [] })
  let begun := match (s.strm g).out with | some d => decide (d.rows ≠ []) || notBefore s.stp.frame d.first | none => false
  if begun then (s.outDiscard g true (s.stp.frame + 1)).modStrm g (Stream.count 6 1) else s

/-- An epoch change applies within every block in progress; a block to come is re-based (02 R63, R65). -/
def StreamDir.rebase (delta : Word) (d : StreamDir) : StreamDir :=
  if d.rows = [] then { d with first := d.first + delta } else { d with epoch := true }

/-- Re-basing of a group's play frames and first frames (02 R63). -/
def Stream.rebase (delta : Word) (x : Stream) : Stream :=
  { x with rows := x.rows.map (fun r => (r.1 + delta, r.2.1 + delta, r.2.2)), out := x.out.map (StreamDir.rebase delta) }

/-- VOICE_BLOCK_ARRIVAL (R307): a VIg descriptor is pending; one with a bad address or length is consumed (R271). -/
def execVoiceBlockArrival (g : Fin 256) (d : BufDesc) (b : List Byte) (s : State) : Host.Outcome State Fault Refusal :=
  .next (if !(s.hasBuf 2 g.val) then s
    else if !(bufOk d) then s.badDesc 2 g.val d
    else ((s.seqCheck g.val b).blockJudge g.val d.len.toNat b).consume 2 g.val)

/-- VOICE_BLOCK_WRITE (R312). -/
def execVoiceBlockWrite (g : Fin 256) (d : BufDesc) (s : State) : Host.Outcome State Fault Refusal :=
  .next (if s.hasBuf 3 g.val then s.outTake g.val d else s)

end Sys2Proof.Machine
end

