-- ==== Sys2Proof/Machine/Gfp.lean ====
section
/-! DEFINITION. GFP-F channels (11_streams_gfp_dcc.md R321-R328): frames sent and received, delineation. -/

namespace Sys2Proof.Machine

def State.gfp (s : State) (ch : Nat) : Gfp := tget {} s.gfps ch
def State.setGfp (ch : Nat) (x : Gfp) (s : State) : State := { s with gfps := tset {} s.gfps ch x }
def State.modGfp (ch : Nat) (f : Gfp → Gfp) (s : State) : State := s.setGfp ch (f (s.gfp ch))

/-- GFP.CH_CNT: 0 TX_FRAMES, 1 TX_ABORT, 2 TX_OVERLEN, 3 RX_FRAMES, 4 RX_BAD_FCS, 5 RX_DROP, 6 CHEC_CORR, 7 FLUSHED. -/
def Gfp.count (c n : Nat) (x : Gfp) : Gfp := { x with cnts := tset 0 x.cnts c (tget 0 x.cnts c + BitVec.ofNat 32 n) }

/-- Payload rate of a width in kbit/s (R321). -/
def gfpRate : Nat → Nat
  | 1 => 48384 | 3 => 149760 | 12 => 599040 | 48 => 2396160 | _ => 0

/-- Payload octets of a width in a frame. -/
def gfpOctets (w : Nat) : Nat := gfpRate w / 64

/-- Rate of all open channels of a direction. -/
def State.gfpTotal (s : State) (rx : Bool) : Nat :=
  s.gfps.foldl (fun (a : Nat) (e : Nat × Gfp) => a + (match (if rx then e.2.rx else e.2.tx) with | some o => gfpRate o.width | none => 0)) 0

/-! ### Headers -/

/-- A 2-byte field with its HEC. -/
def hec (v : Nat) : List Byte :=
  let b := [BitVec.ofNat 8 (v / 256), BitVec.ofNat 8 v]
  b ++ [BitVec.ofNat 8 (hec16 b / 256), BitVec.ofNat 8 (hec16 b)]

/-- The core header's scrambling (R322). -/
def coreMask : List Byte := [0xB6, 0xAB, 0x31, 0xE0]

def coreXor (on : Bool) (b : List Byte) : List Byte := if on then List.zipWith (· ^^^ ·) b coreMask else b

/-- The four bytes with bit `i` changed, counted from the first byte's most significant bit. -/
def flipBit (b : List Byte) (i : Nat) : List Byte := b.mapIdx (fun j x => if j = i / 8 then x ^^^ (0x80#8 >>> (i % 8)) else x)

/-- A field and its HEC check. -/
def hecOk (b : List Byte) : Bool := decide (b = hec (beNat (b.take 2)))

/-- A field corrected of a single-bit error, none where more is wrong. -/
def hecFix (b : List Byte) : Option (List Byte) :=
  if hecOk b then some b else ((List.range 32).map (flipBit b)).find? hecOk

/-- A PLI a header may carry (R326). -/
def pliOk (p : Nat) : Bool := p = 0 || decide (4 ≤ p)

/-! ### Transmit (R322-R325) -/

/-- PLI of a client frame of `len` bytes. -/
def gfpPli (o : GfpOp) (len : Nat) : Nat := len + 4 + (if o.pfcs then 4 else 0)

/-- The payload area of a frame before scrambling: type header, client bytes, pFCS; `bad` one's-complements the pFCS. -/
def gfpArea (o : GfpOp) (info : List Byte) (bad : Bool) : List Byte :=
  let fcs := pfcs32 info
  let fcs := if bad then 0xFFFFFFFF - fcs else fcs
  hec (put o.pti 13 3 + putB o.pfcs 12 + put o.upi 0 8) ++ info ++ (if o.pfcs then (leBytes 4 fcs).reverse else [])

/-- A held frame can start (R323). -/
def gfpReady (o : GfpOp) (e : Nat × List Byte) : Bool :=
  if o.txThresh = 0 then decide (e.1 ≤ e.2.length) else decide (min (64 * o.txThresh) e.1 ≤ e.2.length)

/-- The next held frame starts where none is being sent. -/
def Gfp.start (x : Gfp) : Gfp :=
  match x.tx, x.cur, x.held with
  | some o, none, e :: r => if gfpReady o e then { x with cur := some { len := e.1, data := e.2 }, held := r } else x
  | _, _, _ => x

/-- A started frame loses the data not yet sent: sent octets stand, 0x00 follows (R324). -/
def GfpCur.cut (c : GfpCur) : GfpCur :=
  let got := min c.data.length (c.sent - 8)
  if c.len ≤ got then c else { c with data := c.data.take got, bad := true }

/-- At most `n` octets of the frame being sent. One that needs a client byte not yet fetched has run out of data (R324). -/
def Gfp.part (o : GfpOp) (c : GfpCur) (n : Nat) (x : Gfp) : List Byte × Gfp :=
  let total := 4 + gfpPli o c.len
  let m := min n (total - c.sent)
  let bad := c.bad || (decide (c.data.length < c.len) && decide (8 + c.data.length < c.sent + m))
  let core := coreXor o.chscr (hec (gfpPli o c.len))
  let l := ((core ++ gfpArea o (bytesAt c.data 0 c.len) bad).drop c.sent).take m
  let h := 4 - c.sent
  let r := if o.pscr then scr43Bytes false x.scrTx (l.drop h) else (l.drop h, x.scrTx)
  let x := { x with scrTx := r.2 }
  (l.take h ++ r.1,
    if c.sent + m < total then { x with cur := some { c with sent := c.sent + m, bad := bad } }
    else { x with cur := none }.count (b2n bad) 1)

/-- At most `n` octets of an idle frame. -/
def Gfp.idle (o : GfpOp) (n : Nat) (x : Gfp) : List Byte × Gfp :=
  let k := if x.idleOct = 0 then 4 else x.idleOct
  (((coreXor o.chscr (hec 0)).drop (4 - k)).take n, { x with idleOct := k - n })

/-- The next `n` octets of the channel's line: its frames in order, idle frames between them (R322). `fuel` is at least the
number of octets. -/
def Gfp.send (o : GfpOp) : Nat → Nat → Gfp → List Byte × Gfp
  | 0, _, x => ([], x)
  | fuel + 1, n, x =>
    if n = 0 then ([], x)
    else
      let x := if x.idleOct = 0 then x.start else x
      let r := match x.cur with
        | some c => if x.idleOct = 0 then x.part o c n else x.idle o n
        | none => x.idle o n
      let q := Gfp.send o fuel (n - r.1.length) r.2
      (r.1 ++ q.1, q.2)

/-- The payload octets of the VC frame that a transmitting channel sends now. -/
def Gfp.tick (x : Gfp) : Gfp := match x.tx with
  | some o =>
    let n := gfpOctets o.width
    let r := x.send o n n
    { r.2 with line := r.1 }
  | none => x

/-- The frame being sent runs out of data: by a flush or a queue reset (R320, R324). -/
def Gfp.abort (x : Gfp) : Gfp := { x with cur := x.cur.map GfpCur.cut }

/-- A frame still being fetched: the last one, whose descriptor is not yet consumed. -/
def Gfp.fetching (x : Gfp) : Bool :=
  match x.held.getLast?, x.cur with
  | some e, _ => decide (e.2.length < e.1)
  | none, some c => decide (c.data.length < c.len) && !c.bad
  | none, none => false

/-- More bytes of the frame being fetched. -/
def Gfp.fetch (data : List Byte) (x : Gfp) : Gfp :=
  match x.held.getLast? with
  | some e => { x with held := x.held.dropLast ++ [(e.1, (e.2 ++ data).take e.1)] }
  | none => { x with cur := x.cur.map (fun c => { c with data := (c.data ++ data).take c.len }) }

/-- Held frames are discarded (R319, R325). One fetched in part counts with its descriptor, where that is discarded too. -/
def Gfp.dropHeld (x : Gfp) : Gfp := { x.count 7 (x.held.filter (fun e => decide (e.1 ≤ e.2.length))).length with held := [] }

/-! ### Receive (R326, R327) -/

/-- LFD is declared or cleared (R326). -/
def State.setLfd (ch : Nat) (on : Bool) (s : State) : State :=
  let x := s.gfp ch
  if x.lfd = on then s
  else ((s.setGfp ch { x with lfd := on, lfdSticky := x.lfdSticky || on }).seeDef 4 ch 0).raiseU (s.rb 0x90008 0) .gfpLfd (0x0C0 + ch) ch (b2n on)

/-- The delineator enters HUNT; what was received is gone but for the octets `l`, among which it searches. -/
def Gfp.huntIn (l : List Byte) (x : Gfp) : Gfp := { x with delin := 0, next := 0, good := 0, last := 0, rxOct := l }

/-- The delineator enters HUNT at an open, a flush or a queue reset. -/
def Gfp.hunt (x : Gfp) : Gfp := x.huntIn []

/-- A delineated frame's payload area in clear, and the descrambler after it. -/
def Gfp.area (o : GfpOp) (b : List Byte) (x : Gfp) : List Byte × Gfp :=
  if o.pscr then let r := scr43Bytes true x.scrRx b; (r.1, { x with scrRx := r.2 }) else (b, x)

/-- A GX buffer takes a frame's information field (R327). -/
def State.gfpDeliver (ch : Nat) (o : GfpOp) (d : BufDesc) (info : List Byte) (badFcs : Bool) (s : State) : State :=
  if o.maxLen < info.length then s.modGfp ch (Gfp.count 5 1)
  else if !(s.hasBuf 5 ch) then s.modGfp ch (Gfp.count 5 1)
  else if !(bufOk d) then (s.badDesc 5 ch d).modGfp ch (Gfp.count 5 1)
  else
    let cut := info.take d.len.toNat
    let stat := if badFcs then 3 else if cut.length < info.length then 1 else 0
    let s := (s.dma d.addr.toNat cut).writeBack 5 ch d cut.length stat
    s.modGfp ch (fun x => (x.count 3 1).count 4 (b2n badFcs))

/-- A frame delineated in SYNC (R327). -/
def State.gfpFrameIn (ch : Nat) (o : GfpOp) (d : BufDesc) (pli : Nat) (body : List Byte) (s : State) : State :=
  if pli = 0 then s.modGfp ch (Gfp.count 5 1)
  else
    let r := (s.gfp ch).area o (bytesAt body 0 pli)
    let s := s.setGfp ch r.2
    match hecFix (r.1.take 4) with
    | none => s.modGfp ch (Gfp.count 5 1)
    | some h =>
      let t := beNat (h.take 2)
      let upi := t % 256
      if fld t 8 4 ≠ 0 then s.modGfp ch (Gfp.count 5 1)
      else if fld t 13 3 = 4 then s.modGfp ch (fun x => { x.count 5 1 with cmfUpi := BitVec.ofNat 8 upi })
      else if upi ≠ o.upi || fld t 13 3 ≠ o.pti then s.modGfp ch (Gfp.count 5 1)
      else
        let p := r.1.drop 4
        if o.pfcs then
          let info := p.take (p.length - 4)
          s.gfpDeliver ch o d info (decide (p.length < 4) || decide ((leBytes 4 (pfcs32 info)).reverse ≠ p.drop (p.length - 4)))
        else s.gfpDeliver ch o d p false

/-- The core header that stands at the head of some octets, in clear. -/
def gfpCore (o : GfpOp) (l : List Byte) : List Byte := coreXor o.chscr (bytesAt l 0 4)

/-- The header at the head of some octets checks (R326). -/
def gfpChecks (o : GfpOp) (l : List Byte) : Bool :=
  !((l.drop 3).isEmpty) && hecOk (gfpCore o l) && pliOk (beNat ((gfpCore o l).take 2))

/-- The length of a frame by its core header. -/
def gfpSpan (h : List Byte) : Nat := 4 + beNat (h.take 2)

/-- The octets from the first position on at which a header checks; where none does, those that may yet begin one. -/
def gfpScan (o : GfpOp) : List Byte → Option (List Byte)
  | [] => none
  | b :: l => if gfpChecks o (b :: l) then some (b :: l) else gfpScan o l

/-- A header found by the search becomes the candidate (Table ST-4). -/
def Gfp.candidate (o : GfpOp) (l : List Byte) (x : Gfp) : Gfp :=
  { x with delin := 1, rxOct := l, next := gfpSpan (gfpCore o l), last := 0, good := 0 }

/-- The descrambler runs over the payload area of the frame whose header was the last to check. -/
def Gfp.passArea (o : GfpOp) (x : Gfp) : Gfp := (x.area o ((x.rxOct.take x.next).drop (x.last + 4))).2

/-- A step of the delineator in HUNT and in PRESYNC (Table ST-4). The octets from the candidate on are kept, so that the
successor is found among them when an expected header fails. -/
def Gfp.search (o : GfpOp) (x : Gfp) : Gfp :=
  if x.delin = 0 then
    match gfpScan o x.rxOct with
    | some l => x.candidate o l
    | none => x.huntIn (x.rxOct.drop (x.rxOct.length - 3))
  else if x.rxOct.length < x.next + 4 then x
  else if gfpChecks o (x.rxOct.drop x.next) then
    let y := x.passArea o
    if o.delta ≤ x.good + 1 then { y with delin := 2, rxOct := x.rxOct.drop x.next, next := 0, last := 0, good := 0 }
    else { y with last := x.next, next := x.next + gfpSpan (gfpCore o (x.rxOct.drop x.next)), good := x.good + 1 }
  else match gfpScan o ((x.rxOct.take (x.next + 4)).drop 1) with
    | some l => x.candidate o (l ++ x.rxOct.drop (x.next + 4))
    | none => x.huntIn (x.rxOct.drop (x.next + 1))

/-- A received core header and what follows it (R326, R327). In SYNC the received octets begin at the expected header; the
frame is handled once it has come whole. -/
def State.gfpHeader (ch : Nat) (o : GfpOp) (d : BufDesc) (s : State) : State :=
  let x := s.gfp ch
  if x.delin ≠ 2 then
    let x := x.search o
    (s.setGfp ch x).setLfd ch (x.delin ≠ 2)
  else if x.rxOct.length < 4 then s
  else
    let h := gfpCore o x.rxOct
    let fixed := if hecOk h then some h else if o.checCorr then hecFix h else none
    match fixed with
    | none => (s.setGfp ch (x.huntIn (x.rxOct.drop 1))).setLfd ch true
    | some h' =>
      if !(pliOk (beNat (h'.take 2))) then (s.setGfp ch (x.huntIn (x.rxOct.drop 1))).setLfd ch true
      else if x.rxOct.length < gfpSpan h' then s
      else
        let body := (x.rxOct.take (gfpSpan h')).drop 4
        let s := s.setGfp ch ({ x with rxOct := x.rxOct.drop (gfpSpan h') }.count 6 (b2n (decide (h' ≠ h))))
        s.gfpFrameIn ch o d (beNat (h'.take 2)) body

/-! ### Commands (R321, R325, R328, R319) -/

/-- GFP_OPEN at its boundary: an opened receive direction hunts, LFD declared. -/
def State.gfpOpen (o : GfpOp) (s : State) : State :=
  let s := if o.dirTx then s.modGfp o.ch (fun x => { x with tx := some o, held := [], cur := none, idleOct := 0, scrTx := [] }) else s
  if o.dirRx then (s.modGfp o.ch (fun x => { x.hunt with rx := some o, lfd := false, scrRx := [] })).setLfd o.ch true else s

/-- The started frame ends with the channel: the VC frames from the boundary on are unequipped (R325). -/
def Gfp.closeTx (x : Gfp) : Gfp := { (x.count 1 (b2n x.cur.isSome)).dropHeld with tx := none, cur := none, idleOct := 0, line := [] }

/-- GFP_CLOSE. -/
def State.gfpClose (ch : Nat) (tx rx : Bool) (s : State) : State :=
  let s := if tx then s.modGfp ch Gfp.closeTx else s
  if rx then (s.seeBits 4 ch (b2n (s.gfp ch).lfd)).modGfp ch (fun x => { x.hunt with rx := none, lfd := false }) else s

/-- GFP_FLUSH. -/
def State.gfpFlush (ch : Nat) (tx rx : Bool) (s : State) : State :=
  let s := if tx then
      let r := s.consumeAll 4 ch
      r.2.modGfp ch (fun x => x.abort.dropHeld.count 7 r.1)
    else s
  if rx then (s.modGfp ch Gfp.hunt).setLfd ch true else s

/-- A queue reset of a channel's transmit or receive side (R320). -/
def State.gfpQptr (ch : Nat) (rx : Bool) (s : State) : State :=
  if rx then (if (s.gfp ch).rx.isSome then (s.modGfp ch Gfp.hunt).setLfd ch true else s)
  else
    let s := if (s.gfp ch).fetching then s.consume 4 ch else s
    s.modGfp ch (fun x => { x.abort with held := [] })

/-- The line of a channel over one VC frame. A frame that runs out of data is fetched no further: its buffer is consumed. -/
def State.gfpTick (ch : Nat) (s : State) : State :=
  let was := (s.gfp ch).fetching
  let s := s.modGfp ch Gfp.tick
  if was && !(s.gfp ch).fetching then s.consume 4 ch else s

/-- The device fetches a client frame, or more of it: `data` are the bytes read now. Its buffer is consumed once the frame
has been read whole. -/
def State.gfpFetch (ch : Nat) (o : GfpOp) (d : BufDesc) (data : List Byte) (s : State) : State :=
  if !(s.gfp ch).fetching && !(bufOk d) then s.badDesc 4 ch d
  else if !(s.gfp ch).fetching && (decide (o.maxLen < d.len.toNat) || decide (65535 < gfpPli o d.len.toNat)) then
    (s.consume 4 ch).modGfp ch (Gfp.count 2 1)
  else
    let s := s.modGfp ch (fun x => (if x.fetching then x else { x with held := x.held ++ [(d.len.toNat, [])] }).fetch data)
    if (s.gfp ch).fetching then s.readOk 4 ch else s.consume 4 ch

/-- GFP_TX_FRAME (R322, R323): a GT descriptor is pending and the channel is open for transmission. -/
def execGfpTxFrame (ch : Fin 64) (d : BufDesc) (data : List Byte) (s : State) : Host.Outcome State Fault Refusal :=
  .next (match (s.gfp ch.val).tx with
    | none => s
    | some o => if s.hasBuf 4 ch.val then s.gfpFetch ch.val o d data else s)

/-- GFP_RX_HEADER (R326): with the GX descriptor of address `addr` and second word `c`. -/
def execGfpRxHeader (ch : Fin 64) (addr : DWord) (c : BufCtl) (s : State) : Host.Outcome State Fault Refusal :=
  .next (match (s.gfp ch.val).rx with
    | none => s
    | some o => s.gfpHeader ch.val o (bufDesc addr c))

end Sys2Proof.Machine
end

