-- ==== Sys2Proof/Machine/Dcc.lean ====
section
/-! DEFINITION. The DCC, key slots and the CMAC engine (11_streams_gfp_dcc.md R329-R334; 14_keys_locks_resources.md
R380-R387); queue resets (11 R320). -/

namespace Sys2Proof.Machine

/-- STR.DCC_CFG.MAX_LEN. -/
def dccMaxLen (cfg : Word) : Nat := clamp 1 4096 (wfld cfg 0 13)

/-- A channel runs: RS_EN or MS_EN of its port, as the port holds them (03 R84). -/
def State.dccOn (s : State) (ch : Nat) : Bool := s.lptB (ch / 2) 0x14 (ch % 2)

/-- The OP of a channel's port is in service. -/
def State.dccOp (s : State) (ch : Nat) : Bool := s.inSvc (3 + ch / 16)

/-! ### Key slots (14 R380-R384, R386) -/

def State.key (s : State) (i : Nat) : KeySlot := tget {} s.sec.keys i
def State.setKey (i : Nat) (x : KeySlot) (s : State) : State := { s with sec := { s.sec with keys := tset {} s.sec.keys i x } }

/-- EXHAUSTED (14 R384). -/
def KeySlot.exhausted (x : KeySlot) : Bool := x.ctr = 0xFFFFFFFF

/-- New operations may use the slot. -/
def KeySlot.usable (x : KeySlot) : Bool := x.loaded && !x.poison

/-- Operations bound to a slot. -/
def State.boundOps (s : State) (slot : Nat) : Nat := (s.sec.ops.filter (fun (o : CmacOp) => o.bound && o.slot = slot)).length

/-- The operations bound to a slot now work with an old key (14 R383). -/
def State.staleOps (slot : Nat) (s : State) : State :=
  { s with sec := { s.sec with ops := s.sec.ops.map (fun (o : CmacOp) => if o.bound && o.slot = slot then { o with stale := true } else o) } }

/-- PEND: an operation bound before the last load or erase still holds the old key (14 R383). -/
def State.keyPend (s : State) (slot : Nat) : Bool := s.sec.ops.any (fun (o : CmacOp) => o.bound && o.stale && o.slot = slot)

/-- The replay windows of the channels that verify with a slot are emptied (14 R381). -/
def State.emptyWindows (slot : Nat) (s : State) : State :=
  { s with dccs := tmapAll {} (fun _ (d : Dcc) => if d.auth.rxEn && d.auth.rxSlot = slot then { d with win := none } else d) s.dccs }

/-- KEY_LOAD at its boundary (14 R381). -/
def State.keyLoad (slot : Nat) (aes256 : Bool) (key : List Byte) (s : State) : State :=
  let k := bytesAt key 0 (if aes256 then 32 else 16)
  let s := ((s.staleOps slot).emptyWindows slot).wordWritten (.key (Fin.ofNat 64 slot))
  let s := { s with dccs := tmapAll {} (fun _ (d : Dcc) => if d.auth.txEn && d.auth.txSlot = slot then { d with keyEx := false } else d) s.dccs }
  s.setKey slot { loaded := true, aes256 := aes256, key := k, ctr := 0, kcv := kcv aes256 k, poison := false }

/-- KEY_ERASE at its boundary (14 R382): without effect on a slot that is not loaded. -/
def State.keyErase (slot : Nat) (s : State) : State :=
  if !(s.key slot).loaded then s
  else (s.staleOps slot).setKey slot { s.key slot with loaded := false, key := [], kcv := 0 }

/-- A read of a slot finds an error that waits there (14 R386). -/
def State.keyRead (slot : Nat) (s : State) : State :=
  let m : Mem := .key (Fin.ofNat 64 slot)
  match s.upsetAt m with
  | none => s
  | some d =>
    let s := (s.clearUpset m).sramErr 0x183 slot d
    if d then s.setKey slot { s.key slot with poison := true } else s

/-- SEC.KEY_STATUS.USERS: DCC channel directions configured with the slot. -/
def State.keyUsers (s : State) (slot : Nat) : Nat :=
  s.dccs.foldl (fun (a : Nat) (e : Nat × Dcc) => a + b2n (e.2.auth.txEn && e.2.auth.txSlot = slot) + b2n (e.2.auth.rxEn && e.2.auth.rxSlot = slot)) 0

/-! ### Frames out (R330-R332) -/

/-- A frame under signature is dropped. -/
def Dcc.dropTx (id : Nat) (x : Dcc) : Dcc := { x.count 1 1 with txQ := x.txQ.filter (fun (e : DccOut) => decide (e.id ≠ id)) }

/-- A frame that waits to be sent has its bytes. -/
def Dcc.readyTx (id : Nat) (b : List Byte) (x : Dcc) : Dcc :=
  { x with txQ := x.txQ.map (fun (e : DccOut) => if e.id = id then { e with ready := some b } else e) }

/-- The context bytes, sequence and information field that a CMAC covers (R331). -/
def cmacMsg (ch : Nat) (seq : Word) (info : List Byte) : List Byte :=
  [BitVec.ofNat 8 ch, 0, 0, 0] ++ (leBytes 4 seq.toNat).reverse ++ info

/-- A received frame's verdict is known: AUTH_OK or STAT = AUTH_FAIL; written back in index order. -/
def State.oxVerdict (id : Nat) (ok : Bool) (s : State) : State :=
  { s with sec := { s.sec with ox := s.sec.ox.map (fun (x : OxItem) => if x.id = id then { x with ok := ok, stat := some (if ok then 0 else 2) } else x) } }

/-- An operation is taken out. -/
def State.dropOp (id : Nat) (s : State) : State :=
  { s with sec := { s.sec with ops := s.sec.ops.filter (fun (o : CmacOp) => decide (o.id ≠ id)) } }

/-- An operation starts: it binds the slot, or is refused by it (14 R384, R385). -/
def State.cmacStart (o : CmacOp) (s : State) : State :=
  let s := s.keyRead o.slot
  let k := s.key o.slot
  if o.verify then
    if !k.usable then ((s.dropOp o.id).oxVerdict o.id false).oxDone
    else { s with sec := { s.sec with ops := s.sec.ops.map (fun (x : CmacOp) => if x.id = o.id then { x with bound := true, aes256 := k.aes256, key := k.key } else x) } }
  else if !k.usable || k.exhausted then
    let s := (s.dropOp o.id).modDcc o.ch (Dcc.dropTx o.id)
    if k.usable && !(s.dcc o.ch).keyEx then
      (s.modDcc o.ch (fun d => { d with keyEx := true })).raise .dccKeyEx (0x100 + o.ch / 2) o.ch o.slot
    else s
  else
    let s := s.setKey o.slot { k with ctr := k.ctr + 1 }
    { s with sec := { s.sec with ops := s.sec.ops.map (fun (x : CmacOp) =>
        if x.id = o.id then { x with bound := true, aes256 := k.aes256, key := k.key, seqNo := k.ctr } else x) } }

/-- Waiting operations start while their slot has room (14 R385: at most 8 bound at a time). -/
def State.cmacPump (s : State) : State :=
  foldS s.sec.ops (fun (o : CmacOp) s => if o.bound || decide (8 ≤ s.boundOps o.slot) then s else s.cmacStart o) s

/-- The replay window (R334): whether a sequence passes, and the window after it. -/
def replay (win : Option (Word × BitVec 64)) (q : Word) : Bool × Option (Word × BitVec 64) :=
  match win with
  | none => (true, some (q, 1))
  | some (h, m) =>
    if h.toNat < q.toNat then (true, some (q, (m <<< (q.toNat - h.toNat)) ||| 1))
    else
      let d := h.toNat - q.toNat
      if 63 < d || m.getLsbD d then (false, win) else (true, some (h, m ||| (1#64 <<< d)))

/-- An operation ends with its tag complete (14 R383, R385, R386). -/
def State.cmacEnd (o : CmacOp) (s : State) : State :=
  let m : Mem := .cmac (Fin.ofNat 64 o.slot)
  let u := s.upsetAt m
  let s := match u with
    | some d => (s.clearUpset m).sramErr 0x184 o.slot d
    | none => s
  let failed := u = some true
  let tag := (cmac o.aes256 o.key (cmacMsg o.ch o.seqNo o.info)).take 8
  let s := s.dropOp o.id
  let s := if o.verify then
      let w := replay (s.dcc o.ch).win o.seqNo
      let good := !failed && decide (tag = o.tag)
      let s := if good then s.modDcc o.ch (fun d => { d with win := w.2 }) else s
      (s.oxVerdict o.id (good && w.1)).oxDone
    else if failed then s.modDcc o.ch (Dcc.dropTx o.id)
    else s.modDcc o.ch (Dcc.readyTx o.id (o.info ++ (leBytes 4 o.seqNo.toNat).reverse ++ tag))
  s.cmacPump

/-- A frame that waits on channel `ch` is to be signed with the slot set now. -/
def State.signOp (ch id : Nat) (info : List Byte) (s : State) : State :=
  let op : CmacOp := { id := id, verify := false, ch := ch, slot := (s.dcc ch).auth.txSlot, info := info }
  { s with sec := { s.sec with ops := s.sec.ops ++ [op] } }

/-- An OT frame that passed R330 goes to its channel, to be signed where signing is on. -/
def State.dccQueue (ch : Nat) (info : List Byte) (s : State) : State :=
  let r := s.newId
  let s := r.2
  let x := s.dcc ch
  let put (b : Option (List Byte)) := s.setDcc ch { x with txQ := x.txQ ++ [{ id := r.1, info := info, ready := b }] }
  if x.auth.txEn then ((put none).signOp ch r.1 info).cmacPump else put (some info)

/-- The signing setting of a channel has changed: it holds for every frame whose opening flag is yet to come (R331). -/
def State.resign (ch : Nat) (s : State) : State :=
  let x := s.dcc ch
  let s := { s with sec := { s.sec with ops := s.sec.ops.filter (fun (o : CmacOp) => o.verify || decide (o.ch ≠ ch)) } }
  if x.auth.txEn then
    let s := s.setDcc ch { x with txQ := x.txQ.map (fun (e : DccOut) => { e with ready := none }) }
    (foldS x.txQ (fun (e : DccOut) s => s.signOp ch e.id e.info) s).cmacPump
  else s.setDcc ch { x with txQ := x.txQ.map (fun (e : DccOut) => { e with ready := some e.info }) }

/-! ### Frames in (R330, R333, R334) -/

/-- The frame of buffer `id` has passed R330 (R333): what is still to be written of its information field, its settings and its
verdict, or the CMAC operation that gives it; `badFcs` tells how its check went. -/
def State.dccDeliver (id ch : Nat) (f : DccFrame) (badFcs : Bool) (s : State) : State :=
  let body := f.body
  let auth := f.auth.rxEn
  let short := decide (body.length < 12)
  let n := if auth && !short then body.length - 12 else body.length
  let info := body.take n
  let q : Word := if auth && !short then BitVec.ofNat 32 (beNat (bytesAt body n 4)) else 0
  let verdict := if badFcs then some 3 else if !auth then some 0 else if short then some 2 else none
  let s := (s.oxStream id info).oxMod id (fun x => { x with info := info, auth := auth, seqNo := q, frame := f.at_, stat := verdict })
  if verdict.isSome then s.oxDone
  else
    let op : CmacOp := { id := id, verify := true, ch := ch, slot := f.auth.rxSlot, info := info, seqNo := q, tag := body.drop (n + 4) }
    State.cmacPump { s with sec := { s.sec with ops := s.sec.ops ++ [op] } }

/-- A received frame is discarded, counted as `c`; one that was lost with its ring is counted already. -/
def State.dccDrop (ch c : Nat) (f : DccFrame) (s : State) : State :=
  (if f.lost then s else s.modDcc ch (Dcc.count c 1)).oxCancel (fun x => f.item = some x.id)

/-- A received frame between its flags (R330), under the settings at its opening flag (R331), with its buffer. -/
def State.dccJudge (ch : Nat) (f : DccFrame) (s : State) : State :=
  let bad := decide (fcsBytes (wbit f.cfg 31) f.body ≠ f.bytes.drop f.body.length)
  if f.aborted || decide (f.body.length < 1) || decide (dccMaxLen f.cfg + 12 < f.body.length) || (bad && !(wbit f.cfg 30)) then s.dccDrop ch 3 f
  else match f.item with
    | some id => if f.lost then s else s.dccDeliver id ch f bad
    | none => s.dccDrop ch 4 f

/-- A received frame whose closing flag has come (R333): one that has no buffer yet finds the next OX descriptor, `d`, and what
arrived of it is written there whatever its verdict. -/
def State.dccIn (ch : Nat) (d : BufDesc) (f : DccFrame) (s : State) : State :=
  if f.item.isSome || f.lost then s.dccJudge ch f
  else
    let r := s.dccBuf ch d
    let s := match r.1 with
      | some id => r.2.oxStream id (infoSoFar f.cfg f.auth f.bytes)
      | none => r.2
    s.dccJudge ch { f with item := r.1 }

/-- The frame that is arriving on a channel finds the next OX descriptor, `d`: what has come of it is written (R333). -/
def State.dccOpen (ch : Nat) (d : BufDesc) (s : State) : State :=
  let h := (s.dcc ch).rx
  if !h.open_ || decide (h.bits.length < 8) || h.item.isSome || h.lost then s
  else
    let r := s.dccBuf ch d
    (r.2.modDcc ch (fun x => { x with rx := { x.rx with item := r.1 } })).oxArriving ch

/-- DCC_AUTH_CFG at its boundary (R331). -/
def State.dccAuthCfg (o : DccAuthOp) (s : State) : State :=
  let ch := 2 * o.port + b2n o.ms
  let x := s.dcc ch
  let same := x.auth.rxEn = o.rxEn && x.auth.rxSlot = o.rxSlot
  let s := s.setDcc ch { x with auth := o, win := if same then x.win else none, keyEx := if x.auth.txSlot = o.txSlot then x.keyEx else false }
  if x.auth.txEn = o.txEn && (!o.txEn || x.auth.txSlot = o.txSlot) then s else s.resign ch

/-- The frames in progress of a DCC channel are discarded: those being received, sent, signed and verified. -/
def State.dccClear (ch : Nat) (s : State) : State :=
  let s := { s with sec := { s.sec with ops := s.sec.ops.filter (fun (o : CmacOp) => decide (o.ch ≠ ch)) } }
  (s.modDcc ch (fun d => { d.abortTx with txQ := [], rx := {}, rxDone := [] })).oxCancel (fun x => x.ch = ch)

/-- A queue reset of a DCC channel (R320). -/
def State.dccQptr (ch : Nat) (s : State) : State := (s.dccClear ch).cmacPump

/-! ### The commands -/

/-- DCC_TX_FRAME (R330): an OT descriptor is pending; `buf` is its buffer (Table ST-5). -/
def execDccTxFrame (d : BufDesc) (buf : List Byte) (s : State) : Host.Outcome State Fault Refusal :=
  .next (if !(s.hasBuf 6 0) then s
    else if !(bufOk d) then s.badDesc 6 0 d
    else
      let ch := (byteAt buf 0).toNat % 64
      let len := leNat (bytesAt buf 2 2)
      let s := s.consume 6 0
      if !(s.dccOn ch) || len = 0 || decide (dccMaxLen (s.dcc ch).cfg < len) || decide (d.len.toNat - 16 < len) || !(s.dccOp ch) then
        s.modDcc ch (Dcc.count 1 1)
      else s.dccQueue ch (bytesAt buf 16 len))

/-- DCC_RX_FRAME (R333), with the next OX descriptor, of address `addr` and second word `c`: the frame of a channel whose closing
flag came first is handled, lost while the OP is out of service (01 R31); where none is complete, the one that is arriving gets
its buffer (assumption 170). -/
def execDccRxFrame (ch : Fin 64) (addr : DWord) (c : BufCtl) (s : State) : Host.Outcome State Fault Refusal :=
  .next (match (s.dcc ch.val).rxDone with
    | [] => if s.dccOp ch.val then s.dccOpen ch.val (bufDesc addr c) else s
    | f :: r =>
      let s := s.modDcc ch.val (fun x => { x with rxDone := r })
      if s.dccOp ch.val then s.dccIn ch.val (bufDesc addr c) f else s.dccDrop ch.val 4 f)

/-- CMAC_DONE (14 R385): the oldest operation bound to the slot ends. -/
def execCmacDone (slot : Fin 64) (s : State) : Host.Outcome State Fault Refusal :=
  .next (match s.sec.ops.find? (fun (o : CmacOp) => o.bound && o.slot = slot.val) with
    | some o => s.cmacEnd o
    | none => s)

/-- QPTR (R320): a queue's duplicated pointers disagree; the queue is reset. -/
def execQptr (q : QOwner) (s : State) : Host.Outcome State Fault Refusal :=
  .next (match q with
    | .stream g => (s.streamReset g.val).raise .qptr 0x142 g.val 0
    | .gfpTx ch => (s.gfpQptr ch.val false).raise .qptr (0x0C0 + ch.val) ch.val 0
    | .gfpRx ch => (s.gfpQptr ch.val true).raise .qptr (0x0C0 + ch.val) ch.val 0
    | .dcc ch => (s.dccQptr ch.val).raise .qptr (0x100 + ch.val / 2) ch.val 0)

end Sys2Proof.Machine
end

