-- ==== Sys2Proof/Machine/Prot.lean ====
section
/-! DEFINITION. Protection switching (08_sisters.md R219-R253): triggers, requests, selectors, the K1/K2 protocol. -/

namespace Sys2Proof.Machine

/-! ### Triggers (R224, Table SI-3) -/

/-- SF of a port's line; a port with EN = 0 counts as SF (R222). -/
def State.sfLine (s : State) (n : Nat) : Bool :=
  let p := s.port n
  !p.en || p.def_ 1 || (s.prt.fastOof && p.def_ 2) || p.def_ 3 || p.def_ 4 || p.def_ 7

/-- SF of a path monitor, TIM where TIM_CA makes it one (04 R115). -/
def HoPath.sf (p : HoPath) : Bool := p.def_ 0 || p.def_ 1 || p.def_ 2 || p.def_ 6 || (p.def_ 4 && p.flag 0)

/-- SF and SD triggers of the HO SNCP member at source slot `x` of width `w` (R223, R224): of the path on the port whose
received signal the slot carries (R234). -/
def State.hoTriggers (s : State) (tim : Bool) (w x : Nat) : Bool × Bool :=
  let k := s.lineMon x
  let p := s.path k
  (s.sfLine (k / 192) || !(s.slotFits false x w) || p.sf || (tim && (s.traceRx (k / 192) (k % 192)).isSome && p.def_ 4), p.def_ 7)

/-- The source slot that feeds source slot `x`, followed through the loopbacks of the active map. -/
def State.xcRoot (s : State) : Nat → Nat → Nat
  | 0, x => x
  | n + 1, x => if 7728 ≤ x && decide (x < 8176) then s.xcRoot n (s.xcSource x) else x

/-- SF and SD triggers of a member tributary (R222, R224); one that was restarted counts as SF until it is aligned again
(assumption 148). -/
def State.loTriggers (s : State) (tim : Bool) (t : Nat) : Bool × Bool :=
  let x := s.trib t
  let p := s.lo t
  let d := s.tuSlot x.cfg.pos
  let src := s.xcRoot 449 (s.xcSource d)
  let feed := decide (src < 6144) && (s.sfLine (s.lineMon src / 192) || (s.path (s.lineMon src)).sf)
  (!x.cfg.en || x.fresh || feed || (s.path d).sf || s.destAis d || (s.h4 (s.tuH4 x.cfg.pos)).lom
    || p.def_ 0 || p.def_ 1 || p.def_ 2 || p.def_ 6 || (tim && p.def_ 4) || x.conditioned, p.def_ 7)

/-- SF and SD triggers of a side of a group; SD takes part only with SD_EN. -/
def State.triggers (s : State) (kind : Nat) (x : Group) (side : Bool) : Bool × Bool :=
  let m := if side then x.op.p else x.op.w
  let r := match kind with
    | 0 => (s.sfLine m, (s.port m).def_ 8)
    | 1 => s.hoTriggers x.op.timSf x.op.width m
    | _ => s.loTriggers x.op.timSf m
  (r.1, r.2 && x.op.sdEn)

/-- A side takes its triggers in (R225): at once without a hold-off, else through its timer. -/
def Side.take (holdoff at_ : Nat) (t : Bool × Bool) (x : Side) : Side :=
  let any := t.1 || t.2
  if holdoff = 0 then { x with sf := t.1, sd := t.2, trig := any }
  else
    let start := any && !x.trig && x.hold.isNone
    { x with sf := x.sf && t.1, sd := x.sd && t.2, trig := any,
             hold := if start then some (800 * holdoff) else x.hold, at_ := if start then at_ else x.at_ }

/-- A side's hold-off ends (R225). -/
def Side.expire (t : Bool × Bool) (x : Side) : Side := { x with sf := t.1, sd := t.2, trig := t.1 || t.2, hold := none }

/-! ### Requests (R227, Table SI-4) -/

/-- Priority of the highest local request in force. -/
def Group.top (x : Group) : Nat :=
  if x.cmd = some 1 then 1
  else if x.p.sf then 2
  else if x.cmd = some 2 || x.cmd = some 3 then 3
  else if x.w.sf then 4
  else if x.p.sd then 5
  else if x.w.sd then 6
  else if x.cmd = some 4 || x.cmd = some 5 then 7
  else if x.wtrOn || x.wtrArm then 8
  else if x.cmd = some 6 then 9
  else if x.dnr then 11
  else 12

/-- Where the selector stands, or is about to stand. -/
def Group.target (x : Group) : Bool := match x.move with | some m => m.1 | none => x.selP

/-- Side of a local request: P where true. -/
def Group.sideOf (x : Group) (r : Nat) : Bool :=
  match r with
  | 3 => x.cmd = some 2
  | 4 => true
  | 6 => true
  | 7 => x.cmd = some 4
  | 8 => true
  | 9 => x.target
  | 11 => true
  | 12 => if x.op.revert then false else x.target
  | _ => false

/-- K1 bits 1-4 of a request. -/
def reqCode : Nat → Nat
  | 1 => 15 | 2 => 13 | 3 => 14 | 4 => 13 | 5 => 11 | 6 => 11 | 7 => 8 | 8 => 6 | 9 => 4 | 10 => 2 | 11 => 1 | _ => 0

/-- Priority of a far-end K1, none for RR and for unused codes (R227, R236). -/
def farReq (k1 : Nat) : Option Nat :=
  let p := k1 % 16 = 1
  match k1 / 16 with
  | 15 => some 1
  | 13 | 12 => some (if p then 4 else 2)
  | 14 => some 3
  | 11 | 10 => some (if p then 6 else 5)
  | 8 => some 7 | 6 => some 8 | 4 => some 9 | 1 => some 11 | 0 => some 12
  | _ => none

/-- The OP that runs a pair's protocol is in service (R235, R238). -/
def State.pairOp (s : State) (x : Group) : Bool := s.inSvc (3 + x.op.w / 8)

/-- A group behaves as bidirectional (R236-R238). -/
def State.bidir (s : State) (kind : Nat) (x : Group) : Bool := decide (kind = 0) && x.op.bidir && !x.fop && !x.modeMm && s.pairOp x

/-- The far end's request of a pair, if it takes part. -/
def State.farOf (s : State) (kind : Nat) (x : Group) : Option Nat := if s.bidir kind x then farReq x.farK1 else none

/-- A standing MANUAL or EXERCISE that a higher request overtakes (R231): `far` is the far end's priority. -/
def Group.overtaken (far : Option Nat) (x : Group) : Bool :=
  let lim := if x.cmd = some 6 then 8 else if x.cmd = some 4 || x.cmd = some 5 then 6 else 0
  decide (x.top ≤ lim) || (match far with | some f => decide (f ≤ lim) | none => false)

/-- Every request of priority 1 to 7 has cleared after the local request `prev` was in force (R228). -/
def Group.after (prev : Nat) (x : Group) : Group :=
  if 7 < prev || !x.target then x
  else if prev = 4 || prev = 6 then
    if x.op.revert then { x with wtrArm := true } else { x with dnr := true }
  else if x.op.revert then x else { x with dnr := true }

/-- WTR and DNR follow the local request `prev` that was in force and the one that is now (R228). -/
def Group.restoration (far : Option Nat) (prev : Nat) (x : Group) : Group :=
  let now := x.top
  if now ≤ 7 then { x with wtrOn := false, wtrArm := false, dnr := false }
  else match far with
  | some f =>
    if f ≤ 7 && decide (f < now) then
      { x with wtrOn := false, wtrArm := false, dnr := x.dnr && x.farK1 % 16 = 1 }
    else x.after prev
  | none => x.after prev

/-! ### Decisions (R226, R236) -/

/-- A standing MANUAL or EXERCISE that is overtaken is removed, with PROT_CMD_DROP (R231). -/
def State.protDrop (kind g : Nat) (x : Group) (far : Option Nat) (s : State) : Group × State :=
  if x.overtaken far then
    ({ x with cmd := none, exer := none, exerRr := false }, s.prtEvent kind g 3 .protCmdDrop (x.cmd.getD 0))
  else (x, s)

/-- The request of the group that wins, the side it asks for, and what follows of it: the pending move and the
K-bytes (R229, R235, R236). -/
def State.protWin (kind : Nat) (far : Option Nat) (x : Group) (s : State) : Group :=
  let own := x.top
  let wins := match far with | some f => decide (f < own) | none => false
  let side := if wins then decide (x.farK1 % 16 = 1) else x.sideOf own
  let code := if wins then 2 else reqCode own
  let ch := b2n side
  let loc : Byte := BitVec.ofNat 8 (code * 16 + ch)
  let k2ch := if s.bidir kind x then x.farK1 % 16 else ch
  let x := { x with req := own, farWin := wins, loc := loc, move := if side = x.selP then none else some (side, code) }
  if decide (kind = 0) && s.pairOp x then
    { x with k1Tx := loc, k2Tx := BitVec.ofNat 8 (k2ch * 16 + (if x.op.bidir then 5 else 4)) }
  else x

/-- An error in a group's state, found when the unit reads it (R253). -/
def State.groupRead (kind : Fin 4) (g : Nat) (s : State) : State :=
  match s.upsetAt (.group kind g) with
  | none => s
  | some false =>
    ({ s.clearUpset (.group kind g) with prt := { s.prt with ce := s.prt.ce + 1 } }).raise .prtStCe (prtSource kind.val g) g 0
  | some true =>
    let s := s.clearUpset (.group kind g)
    let x := s.group kind.val g
    let s := s.setGroup kind.val g { x with poison := true, move := none, wtrOn := false, wtrArm := false, exer := none,
                                            w := { x.w with hold := none }, p := { x.p with hold := none } }
    ({ s with prt := { s.prt with ue := s.prt.ue + 1 } }).raise .prtStUe (prtSource kind.val g) g 0

/-- A group decides for itself: in use, not poisoned, with a selector of its own kind. -/
def Group.decides (kind : Nat) (x : Group) : Bool := x.inUse && !x.poison && decide (kind < 3)

/-- The triggers of both sides are taken in. -/
def State.sides (s : State) (kind : Nat) (x : Group) : Group :=
  { x with w := x.w.take x.op.holdoff s.inFrame (s.triggers kind x false), p := x.p.take x.op.holdoff s.inFrame (s.triggers kind x true) }

/-- The unit re-evaluates a group whose record is `x` (R226, R227, R231). -/
def State.protEval (kind g : Nat) (x : Group) (s : State) : State :=
  let far := s.farOf kind x
  let r := s.protDrop kind g x far
  r.2.setGroup kind g (r.2.protWin kind far (r.1.restoration far x.req))

/-- The unit takes a group's triggers in and decides. -/
def State.protDecide (kind : Fin 4) (g : Nat) (s : State) : State :=
  let s := if (s.group kind.val g).inUse then s.groupRead kind g else s
  let x := s.group kind.val g
  if x.decides kind.val then s.protEval kind.val g (s.sides kind.val x) else s

/-- A group whose triggers have changed, or whose state holds an error, waits for its decision. -/
def State.protWaits (s : State) (kind : Fin 4) (g : Nat) : Bool :=
  let x := s.group kind.val g
  x.decides kind.val && (decide (s.sides kind.val x ≠ x) || (s.upsetAt (.group kind g)).isSome)

/-- The selector moves (R229). -/
def State.protMove (kind g : Nat) (s : State) : State :=
  let x := s.group kind g
  match x.move with
  | none => s
  | some m =>
    let s := s.setGroup kind g { x with selP := m.1, move := none, lastSw := s.stp.frame, switches := x.switches + 1 }
    ({ s with prt := { s.prt with switches := s.prt.switches + 1 } }).prtEvent kind g 0 .protSw (b2n m.1 + 16 * m.2)

/-- Moves of line pairs and HO SNCP groups whose new member is carried by port `n`: a received line frame of it starts
(Table SI-5). A deleted pair returns to W (R222). -/
def State.protMoves (n : Nat) (s : State) : State :=
  let s := foldS (List.range 16) (fun i (s : State) =>
    if (s.group 0 i).back && (s.group 0 i).op.w = n then s.setGroup 0 i {} else s) s
  foldS s.prt.groups (fun (e : Nat × Group) (s : State) =>
    let kind := e.1 / 65536
    match e.2.move with
    | none => s
    | some m =>
      let x := if m.1 then e.2.op.p else e.2.op.w
      if (kind = 0 && x = n) || (kind = 1 && s.feedPort (x / 192) = n) then s.protMove kind (e.1 % 65536) else s) s

/-! ### FOP, MODE_MM, EXERCISE (R232, R237) -/

/-- Unused codes of K1. -/
def unusedCode (c : Nat) : Bool := c = 9 || c = 7 || c = 5 || c = 3

/-- Declare or clear FOP. -/
def State.setFop (g : Nat) (on mis : Bool) (s : State) : State :=
  let x := s.group 0 g
  if x.fop = on then s
  else (s.setGroup 0 g { x with fop := on, fopMis := if on then mis else x.fopMis, clrFop := 0 }).prtEvent 0 g 1 .protFop
    (b2n on + 2 * b2n (if on then mis else x.fopMis))

/-- Declare or clear MODE_MM. -/
def State.setModeMm (g : Nat) (on : Bool) (s : State) : State :=
  let x := s.group 0 g
  if x.modeMm = on then s
  else (s.setGroup 0 g { x with modeMm := on, clrMm := 0 }).prtEvent 0 g 2 .protModeMm (b2n on)

/-- The causes of FOP and MODE_MM as the received K-bytes of P stand: switch byte failure, channel mismatch now, mode
mismatch. -/
def State.kCauses (s : State) (x : Group) : Bool × Bool × Bool :=
  let p := s.port x.op.p
  (p.def_ 9 || unusedCode (p.k1Acc / 16) || decide (1 < p.k1Acc % 16),
   decide (p.k2Acc / 2 ≠ x.k1Tx.toNat % 16),
   decide (p.k2Acc % 2 = 1) || decide (p.kbAcc = 4))

/-- What the OP does with the received K-bytes of P: `frame` tells that a line frame has arrived. -/
def State.kWatch (g : Nat) (frame : Bool) (s : State) : State :=
  let x := s.group 0 g
  if !x.inUse || !x.op.bidir || !(s.pairOp x) || x.poison then s
  else
    let c := s.kCauses x
    let mis := if c.2.1 then (if frame then min 400 (x.misRun + 1) else x.misRun) else 0
    let long := decide (400 ≤ mis)
    let fopNow := c.1 || long
    let clrF := if fopNow then 0 else if frame then min 3 (x.clrFop + 1) else x.clrFop
    let clrM := if c.2.2 then 0 else if frame then min 3 (x.clrMm + 1) else x.clrMm
    let s := s.setGroup 0 g { x with misRun := mis, clrFop := clrF, clrMm := clrM }
    let s := if fopNow then s.setFop g true (!c.1) else if 3 ≤ clrF then s.setFop g false false else s
    if c.2.2 then s.setModeMm g true else if 3 ≤ clrM then s.setModeMm g false else s

/-- The accepted K1 of P became `k1`: an answer to a running exercise (R232). -/
def State.exerAnswer (g k1 : Nat) (s : State) : State :=
  let x := s.group 0 g
  if x.exer.isSome && k1 = 0x20 + b2n x.target then s.setGroup 0 g { x with exerRr := true } else s

/-- The exercise ends (R232). -/
def State.exerEnd (g : Nat) (s : State) : State :=
  let x := s.group 0 g
  if x.exer.isNone then s
  else if x.exerRr || x.exer = some 0 then
    let fail := !x.exerRr
    ((s.setGroup 0 g { x with exer := none, exerRr := false, cmd := if x.cmd = some 6 then none else x.cmd }).prtEvent 0 g 4
      .protExer (b2n fail)).protDecide 0 g
  else s

/-- The OP acts on the accepted K1 of P (R236). -/
def State.kProtocol (g : Nat) (s : State) : State :=
  let x := s.group 0 g
  if !x.inUse || !(s.pairOp x) || x.poison then s
  else
    let k1 := (s.port x.op.p).k1Acc
    let s := s.setGroup 0 g { x with farK1 := k1 }
    (s.kWatch g false).protDecide 0 g

/-- The pair whose protection port is `n`. -/
def State.pairOfP (s : State) (n : Nat) : Option Nat :=
  (List.range 16).find? (fun i => (s.group 0 i).inUse && (s.group 0 i).op.p = n)

/-- A received line frame of an enabled port with signal: pending selector moves first, then the frame, then the
K-byte watch of a pair whose protection port this is. -/
def State.rxLine (n : Nat) (b : List Byte) (s : State) : State :=
  let s := s.protMoves n
  let was := (s.port n).k1Acc
  let s := s.rxFrame n b
  match s.pairOfP n with
  | none => s
  | some g =>
    let k1 := (s.port n).k1Acc
    let s := if k1 ≠ was then s.exerAnswer g k1 else s
    if (s.port n).frm = 2 then s.kWatch g true else s

/-! ### PROT_GROUP (R220-R223, R246) -/

/-- Settings as a create stores them. -/
def Group.create (o : ProtOp) : Group := { inUse := true, op := o }

/-- A running timer with a new length, its start kept (R222): `old` and `new` lengths in frames. -/
def timerMod (old new left : Nat) : Nat := left + new - old

/-- A modify. -/
def Group.modify (o : ProtOp) (x : Group) : Group :=
  let q := { x.op with bidir := o.bidir, revert := o.revert, sdEn := o.sdEn, timSf := o.timSf, holdoff := o.holdoff, wtr := o.wtr, lag := o.lag }
  let h (d : Side) : Side := match d.hold with
    | none => d
    | some n => { d with hold := some (timerMod (800 * x.op.holdoff) (800 * o.holdoff) n),
                         at_ := if n + 800 * o.holdoff < 800 * x.op.holdoff then 0 else d.at_ }
  { x with op := q, w := h x.w, p := h x.p, wtrLeft := if x.wtrOn then timerMod (8000 * x.op.wtr) (8000 * o.wtr) x.wtrLeft else x.wtrLeft }

/-- After a modify, a hold-off or WTR whose new length has elapsed expires at once (R222). -/
def State.timersOver (kind : Fin 4) (g : Nat) (s : State) : State :=
  let x := s.group kind.val g
  let h (d : Side) (side : Bool) : Side := if d.hold = some 0 && decide (d.at_ = 0) then d.expire (s.triggers kind.val x side) else d
  if x.decides kind.val then
    s.setGroup kind.val g { x with w := h x.w false, p := h x.p true, wtrOn := x.wtrOn && decide (x.wtrLeft ≠ 0) }
  else s

/-- The transmit side of a merge's copy B restarts in step with copy A's (R246). -/
def State.mergeStart (o : ProtOp) (s : State) : State :=
  let a := s.trib o.w
  s.modTrib o.p (fun (b : Trib) => { b with txQ := a.txQ, txPos := a.txPos, txSmf := a.txSmf, txCrc := a.txCrc, eBits := a.eBits })

/-- The delete of a group (R222). -/
def State.groupDelete (kind g : Nat) (s : State) : State :=
  let x := s.group kind g
  let s := if kind = 3 then s.modTrib x.op.w (fun (a : Trib) => { a with slip := {} }) else s
  s.setGroup kind g (if kind = 0 && x.selP then { op := x.op, selP := true, back := true } else {})

/-- PROT_GROUP at its boundary (R220). -/
def State.protGroup (o : ProtOp) (s : State) : State :=
  let k := o.kind.val
  match o.op with
  | 0 =>
    let s := if k = 0 then foldS (List.range 16) (fun i (s : State) =>
        if (s.group 0 i).back && (s.group 0 i).op.w = o.w then s.setGroup 0 i {} else s) s else s
    let s := s.setGroup k o.group (Group.create o)
    let s := s.wordWritten (.group o.kind o.group)
    let s := if k = 3 then s.mergeStart o else s
    s.protDecide o.kind o.group
  | 1 => ((s.setGroup k o.group ((s.group k o.group).modify o)).timersOver o.kind o.group).protDecide o.kind o.group
  | _ => s.groupDelete k o.group

/-! ### PROT_CMD (R231-R233, R238) -/

/-- A command is for this kind of group (Table SI-6). -/
def cmdForKind (kind code : Nat) : Bool :=
  decide (code ≤ 3) || (decide (code ≤ 5) && decide (kind < 3)) || (code = 6 && kind = 0)

/-- The highest request in force in a group, local or winning from the far end. -/
def State.inForce (s : State) (kind : Nat) (x : Group) : Nat :=
  match s.farOf kind x with | some f => min f x.top | none => x.top

/-- PROT_CMD (R231): RESULT and the state. -/
def State.protCmd (kind : Fin 4) (g code : Nat) (s : State) : Nat × State :=
  if !(s.group kind.val g).inUse then (3, s)
  else
    let s := if kind.val < 3 then s.protDecide kind g else s.groupRead kind g
    let x := s.group kind.val g
    if x.poison then (1, s)
    else if code = 0 then
      if x.cmd.isNone then (2, s)
      else (0, (s.setGroup kind.val g { x with cmd := none, exer := none, exerRr := false }).protDecide kind g)
    else
      let high := if kind.val = 3 then (if x.cmd = some 1 then 1 else 12) else s.inForce kind.val x
      let ok := if code = 1 then true
        else if code ≤ 3 then decide (high ≠ 1)
        else if code ≤ 5 then decide (6 < high)
        else decide (8 < high) && s.bidir kind.val x
      if !ok then (1, s)
      else (0, (s.setGroup kind.val g { x with cmd := some code, exer := if code = 6 then some 400 else none, exerRr := false }).protDecide kind g)

/-! ### Boundaries, resets, queries -/

/-- A frame passes for a side. -/
def Side.tick (x : Side) : Side := { x with hold := x.hold.map (fun n => n - 1) }

/-- A frame passes for a group's timers (R228: an armed WTR starts). -/
def Group.tick (x : Group) : Group :=
  if x.poison then x else
  { x with w := x.w.tick, p := x.p.tick, exer := x.exer.map (fun n => n - 1),
           wtrOn := x.wtrOn || x.wtrArm, wtrArm := false,
           wtrLeft := if x.wtrArm then 8000 * x.op.wtr else x.wtrLeft - 1 }

/-- The start of a frame for the sister units: timers, and the LO SNCP selectors that were decided to move (R229). -/
def State.protTick (s : State) : State :=
  let s := { s with prt := { s.prt with groups := s.prt.groups.map (fun (e : Nat × Group) => (e.1, e.2.tick)) } }
  foldS s.prt.groups (fun (e : Nat × Group) (s : State) =>
    if e.1 / 65536 = 2 && e.2.move.isSome then s.protMove 2 (e.1 % 65536) else s) s

/-- Every group is judged at a boundary (R233). -/
def State.protJudge (s : State) : State :=
  foldS s.prt.groups (fun (e : Nat × Group) s => s.protDecide (Fin.ofNat 4 (e.1 / 65536)) (e.1 % 65536)) s

/-- BLK_RST of sister unit `q` poisons its groups (R253). -/
def State.unitReset (q : Nat) (s : State) : State :=
  { s with prt := { s.prt with groups := s.prt.groups.map (fun (e : Nat × Group) =>
      if e.2.inUse && prtSource (e.1 / 65536) (e.1 % 65536) = 0x120 + q then
        (e.1, { e.2 with poison := true, move := none, wtrOn := false, wtrArm := false, exer := none,
                         w := { e.2.w with hold := none }, p := { e.2.p with hold := none } })
      else e) } }

/-- The local request of a merge group in the form of K1: its standing command. -/
def mergeLocal (cmd : Option Nat) : Nat := match cmd with | some 1 => 0xF0 | some 2 => 0xE1 | some 3 => 0xE0 | _ => 0

/-- The record of PROT_QUERY (R251, Table SI-9). -/
def State.protQueryRec (kind : Fin 4) (g : Nat) (s : State) : List Byte :=
  let x := s.group kind.val g
  if !x.inUse then
    leBytes 1 kind.val ++ leBytes 1 0 ++ leBytes 2 g ++ leBytes 3 0 ++ leBytes 1 0xFF ++ List.replicate 14 0 ++ leBytes 2 0x8000
      ++ List.replicate 8 0
  else
    let p := s.port x.op.p
    let k0 := decide (kind.val = 0)
    let holds := max (x.w.hold.getD 0) (x.p.hold.getD 0)
    let d := match x.merge.delta with | some d => (d % 65536).toNat | none => 0x8000
    leBytes 1 kind.val
      ++ leBytes 1 (putB true 7 + putB (if kind.val = 3 then x.merge.lastW else x.selP) 6 + putB x.fop 5 + putB x.modeMm 4
          + putB x.wtrOn 3 + putB (x.w.hold.isSome || x.p.hold.isSome) 2 + putB x.merge.diff 1 + putB x.poison 0)
      ++ leBytes 2 g
      ++ leBytes 1 (if kind.val = 3 then mergeLocal x.cmd else x.loc.toNat)
      ++ leBytes 1 (if k0 then p.k1Acc else 0) ++ leBytes 1 (if k0 then p.k2Acc * 8 else 0)
      ++ leBytes 1 (x.cmd.getD 0xFF)
      ++ leBytes 4 x.lastSw.toNat ++ leBytes 4 x.switches.toNat
      ++ leBytes 2 (if x.wtrOn then cdiv x.wtrLeft 8000 else 0) ++ leBytes 2 (cdiv holds 800)
      ++ leBytes 1 (putB x.w.sf 0 + putB x.w.sd 1 + putB x.p.sf 2 + putB x.p.sd 3)
      ++ leBytes 1 (if kind.val = 3 then x.op.lag else 0) ++ leBytes 2 d ++ leBytes 4 x.merge.bothBad.toNat ++ leBytes 4 0

/-! ### The commands -/

/-- RX_LINE_FRAME (03 R71): only an enabled port with signal receives. -/
def execRxLineFrame (n : Fin 32) (b : List Byte) (s : State) : Host.Outcome State Fault Refusal :=
  .next (if (s.port n).en && !((s.port n).def_ 1) then s.rxLine n b else s)

/-- SELECTOR_DECISION (R226). -/
def execSelectorDecision (kind : Fin 4) (g : Nat) (s : State) : Host.Outcome State Fault Refusal := .next (s.protDecide kind g)

/-- HOLDOFF_EXPIRY (R225). -/
def execHoldoffExpiry (kind : Fin 4) (g : Nat) (side : Bool) (s : State) : Host.Outcome State Fault Refusal :=
  let x := s.group kind.val g
  let d := if side then x.p else x.w
  .next (if x.decides kind.val && d.hold = some 0 && decide (d.at_ ≤ s.inFrame) then
      let e := d.expire (s.triggers kind.val x side)
      s.protEval kind.val g (s.sides kind.val (if side then { x with p := e } else { x with w := e }))
    else s)

/-- WTR_EXPIRY (R228). -/
def execWtrExpiry (kind : Fin 4) (g : Nat) (s : State) : Host.Outcome State Fault Refusal :=
  let x := s.group kind.val g
  .next (if x.decides kind.val && x.wtrOn && x.wtrLeft = 0 then
      s.protEval kind.val g (s.sides kind.val { x with wtrOn := false })
    else s)

/-- PROT_SW (R229): a decided move takes effect, of an LO SNCP group at a frame boundary only. -/
def execProtSw (kind : Fin 4) (g : Nat) (s : State) : Host.Outcome State Fault Refusal :=
  .next (if kind.val = 2 && s.inFrame ≠ 0 then s else if kind.val = 3 then s else s.protMove kind.val g)

/-- K1_PROTOCOL (R236). -/
def execK1Protocol (i : Fin 16) (s : State) : Host.Outcome State Fault Refusal := .next (s.kProtocol i.val)

/-- PROT_EXER (R232). -/
def execProtExer (i : Fin 16) (s : State) : Host.Outcome State Fault Refusal := .next (s.exerEnd i.val)

end Sys2Proof.Machine
end

