-- ==== Sys2Proof/Machine/Command.lean ====
section
/-! DEFINITION. Command descriptors (09_host_rings.md Table HR-5; 10_commands.md R287, R289, R302, Tables CM-2, CM-6 to
CM-15): decoding, static tests, executor, changes and hot patches. -/

namespace Sys2Proof.Machine

/-- What a descriptor comes to before any state is looked at: a refusal with status and RESULT, or a command. -/
inductive Parsed where
  | bad (status result : Nat)
  | ok (c : Cmd)
deriving DecidableEq, Repr

/-- Words 2 to 7 of a descriptor: its 24 operand bytes. -/
def descOps (d : Desc) : List Word := [d.w2, d.w3, d.w4, d.w5, d.w6, d.w7]

/-- Assigned operand bits of an opcode, words 2 to 7 (Tables CM-6 to CM-15); none for an opcode not in Table CM-2. -/
def opMask (op : Nat) : Option (List Nat) :=
  match op with
  | 0x00 | 0x01 | 0x02 | 0x18 => some []
  | 0x03 => some [0xFFFFFFFF]
  | 0x10 | 0x11 | 0x12 => some [0xFFFFFFFF, 0x010FFFFF, 0x1FFFF]
  | 0x13 => some [0xFFFFFFFF, 0xFFFFFFFF, 0x030FFFFF, 0x7FF]
  | 0x20 => some [0x1FFF1FFF, 0xFFF]
  | 0x21 => some [0xC00001FF, 0x1FFFFF]
  | 0x22 => some [0x73FFF, 0x377FF, 0x3FFFFF, 0xFFFFFF]
  | 0x23 => some [0xF33FFF, 0xFFFFFFFF]
  | 0x30 => some [0x3FFF, 0x13FFFF0F]
  | 0x31 => some [0xFFFF, 0x3FFF, 0xFFFF07]
  | 0x32 => some [0xFFFF]
  | 0x33 => some [0x3FFFF, 0x1FF, 0xFFFF07, 0x13FFFF0F, 0x3FFF]
  | 0x34 => some [0x3FFF]
  | 0x35 => some [0xFFFFFFFF, 0xFFFFFFFF, 0x3FFF]
  | 0x40 => some [0x1FFF000F, 0xFFFFFFFF, 0x7F0FFF, 0x3F03FF]
  | 0x41 => some [0x1FFF000C, 0x7]
  | 0x42 => some [0xFFFFFFFF, 0xFFFFFFFF, 0x1FFF0003]
  | 0x50 => some [0x3FFF0003, 0xF33F, 0xC000FF1F, 0x1FFF, 0xFFFFFFFF, 0xFFFFFFFF]
  | 0x51 => some [0xFFFFFFFF, 0xFFFFFFFF, 0x3FFF0003]
  | 0x58 => some [0xFF, 0xFFFFFFFF, 0xFFFF]
  | 0x60 => some [0x7FF, 0xFF73FF, 0x1FF, 0xFFFFFFFF]
  | 0x61 | 0x62 => some [0x3FF]
  | 0x68 => some [0x33F, 0xFF1FFF, 0x7F07FF, 0xFFFF, 0xFFFF]
  | 0x69 | 0x6A => some [0x33F]
  | 0x70 => some [0x13F, 0, 0xFFFFFFFF, 0xFFFFFFFF]
  | 0x71 => some [0x3F]
  | 0x72 => some [0x71F, 0x3F3F]
  | 0x78 => some [0xFF, 0xFFFF, 0xFFFF]
  | 0x79 => some [0xFF, 0xFFFF]
  | 0x7E => some [0xFF, 0, 0xFFFFFFFF, 0xFFFFFFFF]
  | 0x80 => some [0xFF, 0xFFFF, 1]
  | _ => none

/-- Every reserved operand bit is 0 (R289). -/
def reservedOk (m : List Nat) (d : Desc) : Bool :=
  (List.zipWith (fun (w : Word) (k : Nat) => w &&& ~~~ (BitVec.ofNat 32 k)) (descOps d) (m ++ List.replicate 6 0)).all (fun w => w = 0)

/-- A host address that a command may name (R289). -/
def addrOk (a : Nat) : Bool := decide (a ≠ 0) && decide (a % 8 = 0)

/-- The host address of two operand words. -/
def addr64 (lo hi : Word) : DWord := BitVec.ofNat 64 (lo.toNat + hi.toNat * 2 ^ 32)

/-- Opcodes whose host block the device reads before the static tests. -/
def hasBlock (op : Nat) : Bool := op = 0x50 || op = 0x70 || op = 0x7E

/-- Where the address of that block stands. -/
def blockAddr (op : Nat) (d : Desc) : Nat :=
  if op = 0x50 then (addr64 d.w6 d.w7).toNat else (addr64 d.w4 d.w5).toNat

def parseTrib (d : Desc) : TribSet :=
  { en := wbit d.w2 16, t1 := wbit d.w2 17, byteSync := wbit d.w2 18
    pos := { m := wfld d.w3 0 9, grp := wfld d.w3 9 2, tug2 := wfld d.w3 12 3, tu := wfld d.w3 16 2 }
    crc4 := wfld d.w4 0 2, cas := wbit d.w4 2, saTx := wfld d.w4 3 5, tagSa := wfld d.w4 8 4, esf := wbit d.w4 12, rbs := wbit d.w4 13
    crc6Reframe := wbit d.w4 14, raiEn := wbit d.w4 15, bomCode := wfld d.w4 16 6, bomRepeat := wfld d.w5 0 8
    cond := BitVec.ofNat 8 (wfld d.w5 8 8), sigCond := wfld d.w5 16 4, sigIdle := wfld d.w5 20 4 }

def parsePart (conf : Nat) (w : Word) : PartSet :=
  { conf := conf, role := wfld w 0 2, mu := wbit w 2, gin := sgn 8 (wfld w 8 8), gout := sgn 8 (wfld w 16 8) }

def parseConf (w : Word) : ConfSet := { k := wfld w 0 4, hang := wfld w 8 8, floor := wfld w 16 10, spkEv := wbit w 28 }

def parseProt (d : Desc) : ProtOp :=
  { op := wfld d.w2 0 2, kind := Fin.ofNat 4 (wfld d.w2 2 2), group := wfld d.w2 16 13, w := wfld d.w3 0 16, p := wfld d.w3 16 16
    width := wfld d.w4 0 8, bidir := wbit d.w4 8, revert := wbit d.w4 9, sdEn := wbit d.w4 10, timSf := wbit d.w4 11
    holdoff := wfld d.w4 16 7, wtr := wfld d.w5 0 10, lag := wfld d.w5 16 6 }

def parseTrace (d : Desc) (b : List Byte) : TraceOp :=
  { kind := wfld d.w2 0 2, index := wfld d.w2 16 14, fields := wfld d.w3 0 6, fmt := wfld d.w3 8 2, n := wfld d.w3 12 3
    cmpEn := wbit d.w3 15, rxPort := wfld d.w4 0 5, rxS := wfld d.w4 8 8, rxBind := wbit d.w4 30, txBind := wbit d.w4 31
    txSlot := wfld d.w5 0 13, txStr := bytesAt b 0 64, exStr := bytesAt b 64 64 }

def parseStream (d : Desc) : StreamOp :=
  { group := wfld d.w2 0 8, dirIn := wbit d.w2 8, dirOut := wbit d.w2 9, mu := wbit d.w2 10, k := wfld d.w3 0 10, depth := wfld d.w3 12 3
    cutT := wfld d.w3 16 4, cku := wfld d.w3 20 2, ckuEn := wbit d.w3 22, play := wbit d.w3 23, fill := BitVec.ofNat 8 (wfld d.w4 0 8)
    fillLast := wbit d.w4 8, start := d.w5 }

def parseGfp (d : Desc) : GfpOp :=
  { ch := wfld d.w2 0 6, dirTx := wbit d.w2 8, dirRx := wbit d.w2 9, slot := wfld d.w3 0 13, width := wfld d.w3 16 8, upi := wfld d.w4 0 8
    pti := wfld d.w4 8 3, pfcs := wbit d.w4 16, pscr := wbit d.w4 17, chscr := wbit d.w4 18, checCorr := wbit d.w4 19
    delta := wfld d.w4 20 3, txThresh := wfld d.w5 0 16, maxLen := wfld d.w6 0 16 }

def parseAuth (d : Desc) : DccAuthOp :=
  { port := wfld d.w2 0 5, ms := wbit d.w2 8, txEn := wbit d.w2 9, rxEn := wbit d.w2 10, txSlot := wfld d.w3 0 6, rxSlot := wfld d.w3 8 6 }

def parseTone (b : List Byte) : ToneDef :=
  let h (i : Nat) := leNat (bytesAt b i 2)
  { en := (byteAt b 0).getLsbD 0, rep := (byteAt b 0).getLsbD 1, f1 := h 2, f2 := h 4, a1 := h 6, a2 := h 8,
    durs := (List.range 8).map (fun i => h (16 + 2 * i)) }

def parseRun (d : Desc) : TswRun := { entry := d.w2, out := wfld d.w3 0 20, step := wbit d.w3 24, count := wfld d.w4 0 17 }

def parseXc (d : Desc) : XcOp :=
  { dest := wfld d.w2 0 13, src := wfld d.w2 16 13, width := wfld d.w3 0 8, force := wfld d.w3 8 2, en := wbit d.w3 10, sel := wbit d.w3 11 }

def parseMod (d : Desc) : CnfMod :=
  { index := wfld d.w2 0 16, isConf := wbit d.w2 16, hot := wbit d.w2 17, fields := wfld d.w3 0 9
    part := parsePart (wfld d.w6 0 14) d.w4, conf := parseConf d.w5 }

/-- The command a descriptor with a listed opcode spells (Tables CM-6 to CM-15); `b` its host block. -/
def parseCmd (op : Nat) (d : Desc) (b : List Byte) : Cmd :=
  match op with
  | 0x00 => .nop
  | 0x01 => .fence
  | 0x02 => .fenceAll
  | 0x03 => .echo d.w2
  | 0x10 => .tswSet (parseRun d)
  | 0x11 => .tswPatch (parseRun d)
  | 0x12 => .tswFill (parseRun d)
  | 0x13 => .tswRead { addr := addr64 d.w2 d.w3, first := wfld d.w4 0 20, kind := wfld d.w4 24 2, count := wfld d.w5 0 11 }
  | 0x18 => .fabricCommit
  | 0x20 => .xcSet (parseXc d)
  | 0x21 => .lomapSet (wfld d.w2 0 9) (wfld d.w2 30 2) (wfld d.w3 0 21)
  | 0x22 => .tribCfg (wfld d.w2 0 14) (parseTrib d)
  | 0x23 => .sigSet { t := wfld d.w2 0 14, tx := wbit d.w2 16, follow := wbit d.w2 17, abcd := wfld d.w2 20 4, mask := d.w3 }
  | 0x30 => .cnfCreate (wfld d.w2 0 14) (parseConf d.w3)
  | 0x31 => .cnfJoin (wfld d.w2 0 16) (parsePart (wfld d.w3 0 14) d.w4)
  | 0x32 => .cnfLeave (wfld d.w2 0 16)
  | 0x33 => .cnfModify (parseMod d)
  | 0x34 => .cnfDestroy (wfld d.w2 0 14)
  | 0x35 => .cnfQuery (addr64 d.w2 d.w3) (wfld d.w4 0 14)
  | 0x40 => .protGroup (parseProt d)
  | 0x41 => .protCmd (Fin.ofNat 4 (wfld d.w2 2 2)) (wfld d.w2 16 13) (wfld d.w3 0 3)
  | 0x42 => .protQuery (addr64 d.w2 d.w3) (Fin.ofNat 4 (wfld d.w4 0 2)) (wfld d.w4 16 13)
  | 0x50 => .traceSet (parseTrace d b)
  | 0x51 => .traceRead (addr64 d.w2 d.w3) (wfld d.w4 0 2) (wfld d.w4 16 14)
  | 0x58 => .ohSet (wfld d.w2 0 8) d.w3 (wfld d.w4 0 16)
  | 0x60 => .streamOpen (parseStream d)
  | 0x61 => .streamClose (wfld d.w2 0 8) (wbit d.w2 8) (wbit d.w2 9)
  | 0x62 => .streamFlush (wfld d.w2 0 8) (wbit d.w2 8) (wbit d.w2 9)
  | 0x68 => .gfpOpen (parseGfp d)
  | 0x69 => .gfpClose (wfld d.w2 0 6) (wbit d.w2 8) (wbit d.w2 9)
  | 0x6A => .gfpFlush (wfld d.w2 0 6) (wbit d.w2 8) (wbit d.w2 9)
  | 0x70 => .keyLoad (wfld d.w2 0 6) (wbit d.w2 8) (bytesAt b 0 32)
  | 0x71 => .keyErase (wfld d.w2 0 6)
  | 0x72 => .dccAuthCfg (parseAuth d)
  | 0x78 => .resClaim (wfld d.w2 0 8) (wfld d.w3 0 16) (wfld d.w4 0 16)
  | 0x79 => .resRelease (wfld d.w2 0 8) (wfld d.w3 0 16)
  | 0x7E => .toneLoad (wfld d.w2 0 8) (parseTone b)
  | _ => .pmCfg (wfld d.w2 0 8) (wfld d.w3 0 16) (wbit d.w4 0)

/-! ### Static tests (R289) -/

def gainOk (g : Int) : Bool := decide (-48 ≤ g) && decide (g ≤ 24)

/-- Table CF-2. -/
def confOk (o : ConfSet) : Bool := decide (1 ≤ o.k) && decide (o.k ≤ 8) && decide (o.hang ≤ 255) && decide (o.floor ≤ 1023)

/-- Table CF-3. -/
def partOk (o : PartSet) : Bool := decide (o.conf < 16384) && decide (o.role ≤ 3) && gainOk o.gin && gainOk o.gout

/-- The static tests of CNF_MODIFY (07 R193): only what FIELDS selects is tested. -/
def modOk (o : CnfMod) : Bool :=
  let b (i : Nat) := o.fields.testBit i
  decide (o.fields < 512) &&
  (if o.isConf then
    decide (o.index < 16384) && !o.hot && !(b 0 || b 1 || b 2 || b 3 || b 8)
      && (!(b 4) || (decide (1 ≤ o.conf.k) && decide (o.conf.k ≤ 8))) && (!(b 5) || decide (o.conf.hang ≤ 255))
      && (!(b 6) || decide (o.conf.floor ≤ 1023))
  else
    decide (o.index < 65536) && !(b 4 || b 5 || b 6 || b 7) && !(o.hot && (b 1 || b 8))
      && (!(b 8) || decide (o.part.conf < 16384)) && (!(b 0) || decide (o.part.role ≤ 3)) && (!(b 2) || gainOk o.part.gin)
      && (!(b 3) || gainOk o.part.gout))

/-- A width of a path. -/
def widthOk (w : Nat) : Bool := w = 1 || w = 3 || w = 12 || w = 48

/-- End of the range of Table PA-2 that a slot lies in, a line port being a range of its own. -/
def slotEnd (x : Nat) : Nat :=
  if x < 6144 then x / 192 * 192 + 192 else if x < 6960 then 6960 else if x < 7728 then 7728
  else if x < 8176 then 8176 else x + 1

/-- A connection of width `w` may begin at slot `x` (04 R103). -/
def firstSlotOk (x w : Nat) : Bool := widthOk w && decide ((x - slotBase x) % w = 0) && decide (x + w ≤ slotEnd x)

/-- The static tests of XC_SET (04 R103). -/
def xcOk (o : XcOp) : Bool :=
  decide (o.dest < 8176) && firstSlotOk o.dest o.width && decide (o.force ≤ 2)
    && (if o.sel then decide (o.src ≤ 1023) else decide (o.src ≤ 8177) && firstSlotOk o.src o.width)

/-- The static tests of TRIB_CFG (05 R135, Table TB-2). -/
def tribSetOk (t : Nat) (c : TribSet) : Bool :=
  decide (t < 16384) && decide (c.pos.m ≤ 271) && decide (c.pos.grp ≤ 2) && decide (c.pos.tug2 ≤ 6) && decide (c.pos.tu ≤ 3) && decide (c.crc4 ≤ 2) && (c.tagSa = 0 || (decide (4 ≤ c.tagSa) && decide (c.tagSa ≤ 8)))
    && !(c.t1 && (c.cas || c.tagSa ≠ 0)) && !(decide (c.tagSa ≠ 0) && decide (c.crc4 ≠ 1)) && !(!c.t1 && (c.rbs || c.esf))
    && decide (c.saTx < 32) && decide (c.bomCode < 64) && decide (c.bomRepeat < 256) && decide (c.sigCond < 16) && decide (c.sigIdle < 16)

/-- Groups of each kind (08 Table SI-1). -/
def groupCount : Nat → Nat
  | 0 => 16 | 1 => 1024 | 2 => 8192 | _ => 2048

/-- Members of each kind. -/
def memberCount : Nat → Nat
  | 0 => 32 | 1 => 6144 | _ => 16384

/-- The value tests of PROT_GROUP (08 R221, Table SI-2); a setting is tested for the kinds that have it. -/
def protOk (o : ProtOp) : Bool :=
  let k := o.kind.val
  decide (o.op ≤ 2) && decide (o.group < groupCount k) &&
  (o.op = 2 || (decide (o.w < memberCount k) && decide (o.p < memberCount k) && decide (o.w ≠ o.p)
    && (k ≠ 1 || (firstSlotOk o.w o.width && firstSlotOk o.p o.width
      && (decide (o.w + o.width ≤ o.p) || decide (o.p + o.width ≤ o.w)))) && (k = 3 || (decide (o.wtr ≤ 720) && decide (o.holdoff ≤ 100))) && (k ≠ 3 || decide (o.lag ≤ 32))))

/-- Trace entries of each kind (04 R123). -/
def traceCount : Nat → Nat
  | 0 => 32 | 1 => 2048 | 2 => 16384 | _ => 0

/-- The static tests of TRACE_SET. -/
def traceOk (o : TraceOp) : Bool :=
  decide (o.index < traceCount o.kind) && decide (o.fields < 64) && decide (o.fmt ≤ 2) && decide (3 ≤ o.n) && decide (o.n ≤ 7)
    && (!(decide (o.kind = 1) && o.fields.testBit 5) || ((!o.rxBind || (decide (o.rxPort < 32) && decide (o.rxS < 192)))
      && (!o.txBind || (decide (6144 ≤ o.txSlot) && decide (o.txSlot ≤ 7727)))))

/-- A TARGET that names a line timeslot (port, s). -/
def lineTarget (t : Word) : Bool := t &&& ~~~ 0xFF1F#32 = 0 && decide (wfld t 8 8 < 192)

/-- The static tests of OH_SET (03 Table LP-5, 04 Table PA-4, R289). -/
def ohOk (code : Nat) (target : Word) (v : Nat) : Bool :=
  let t := target.toNat
  if 1 ≤ code ∧ code ≤ 9 then decide (t < 32) && decide (v < 256)
  else if code = 0x10 ∨ code = 0x13 ∨ code = 0x15 then decide (6144 ≤ t) && decide (t ≤ 7727) && decide (v < 256)
  else if code = 0x14 then decide (6144 ≤ t) && decide (t ≤ 7727) && decide (v < 65536)
  else if code = 0x11 then lineTarget target && decide (v < 256)
  else if code = 0x12 then
    (if wbit target 31 then decide (6144 ≤ t - 2 ^ 31) && decide (t - 2 ^ 31 ≤ 7727) else lineTarget target) && decide (v < 64)
  else if code = 0x20 then decide (t < 16384) && decide (v < 64)
  else if code = 0x21 ∨ code = 0x22 then decide (t < 16384) && decide (v < 256)
  else false

/-- The static tests of STREAM_OPEN (11 R304). -/
def streamOk (o : StreamOp) : Bool :=
  decide (o.group < 256) && (o.dirIn || o.dirOut) && decide (1 ≤ o.k) && decide (o.k ≤ 512) && decide (o.depth ≤ 4)
    && decide (o.cku < 4) && (o.cutT = 0 || decide (o.cutT < 2 ^ o.depth))

/-- The static tests of GFP_OPEN (11 R321). -/
def gfpOk (o : GfpOp) : Bool :=
  decide (o.ch < 64) && (o.dirTx || o.dirRx) && decide (6960 ≤ o.slot) && decide (o.slot ≤ 7727) && firstSlotOk o.slot o.width
    && decide (1 ≤ o.delta) && decide (o.delta ≤ 7) && decide (16 ≤ o.maxLen) && decide (o.upi < 256) && decide (o.pti < 8)

/-- The static tests of DCC_AUTH_CFG (14 R380): both fields name slots 1 to 63, enabled or not. -/
def authOk (o : DccAuthOp) : Bool :=
  decide (o.port < 32) && decide (o.txSlot < 64) && decide (o.rxSlot < 64) && decide (o.txSlot ≠ 0) && decide (o.rxSlot ≠ 0)

/-- A tone definition (07 R216). -/
def toneOk (t : ToneDef) : Bool :=
  decide (t.f1 ≤ 39999) && decide (t.f2 ≤ 39999) && decide (t.a1 ≤ 16383) && decide (t.a2 ≤ 16383) && decide (t.durs.length = 8)
    && t.durs.all (fun n => decide (n ≤ 65535))

/-- Instances of a PM scope (12 Table MG-1). -/
def pmCount : Nat → Nat
  | 0 => 32 | 1 => 6144 | 2 => 16384 | 3 => 16384 | 4 => 64 | 5 => 256 | _ => 0

/-- The static tests of a command; none is a pass, some the RESULT of BAD_OPERAND. -/
def staticTest (c : Cmd) : Option Nat :=
  let no (ok : Bool) : Option Nat := if ok then none else some 0
  match c with
  | .nop | .fence | .fenceAll | .echo _ | .fabricCommit => none
  | .tswSet o => no (decide (1 ≤ o.count) && decide (o.count ≤ 32) && tswOk o)
  | .tswPatch o => no (decide (o.count = 1) && !o.step && tswOk o)
  | .tswFill o => no (decide (32 ≤ o.count) && decide (o.count ≤ 65536) && decide (o.count % 32 = 0) && decide (o.out % 32 = 0) && tswOk o)
  | .tswRead o => no (addrOk o.addr.toNat && tswReadOk o)
  | .xcSet o => no (xcOk o)
  | .lomapSet m st tu11 => no (decide (m ≤ 271) && decide (st ≤ 2) && decide (tu11 < 2 ^ 21))
  | .tribCfg t x => no (tribSetOk t x)
  | .sigSet o => no (decide (o.t < 16384) && decide (o.abcd < 16))
  | .cnfCreate n o => no (decide (n < 16384) && confOk o)
  | .cnfJoin p o => no (decide (p < 65536) && partOk o)
  | .cnfLeave p => no (decide (p < 65536))
  | .cnfModify o => no (modOk o)
  | .cnfDestroy n => no (decide (n < 16384))
  | .cnfQuery a n => no (addrOk a.toNat && decide (n < 16384))
  | .protGroup o => no (protOk o)
  | .protCmd k g code => no (decide (g < groupCount k.val) && decide (code ≤ 6) && cmdForKind k.val code)
  | .protQuery a k g => no (addrOk a.toNat && decide (g < groupCount k.val))
  | .traceSet o => no (traceOk o)
  | .traceRead a k i => no (addrOk a.toNat && decide (i < traceCount k))
  | .ohSet code t v => no (ohOk code t v)
  | .streamOpen o => no (streamOk o)
  | .streamClose g i o => no (decide (g < 256) && (i || o))
  | .streamFlush g i o => no (decide (g < 256) && (i || o))
  | .gfpOpen o => no (gfpOk o)
  | .gfpClose ch t r => no (decide (ch < 64) && (t || r))
  | .gfpFlush ch t r => no (decide (ch < 64) && (t || r))
  | .keyLoad slot wide key =>
    if slot = 0 ∨ 63 < slot ∨ key.length < 32 then some 0
    else if !wide && (bytesAt key 16 16).any (fun b => b ≠ 0) then some 2 else none
  | .keyErase slot => no (decide (1 ≤ slot) && decide (slot ≤ 63))
  | .dccAuthCfg o => no (authOk o)
  | .resClaim r i l => no (resExists r i && (r ≠ 5 || (decide (1 ≤ l) && decide (l ≤ 65535))))
  | .resRelease r i => no (resExists r i)
  | .toneLoad d t => no (decide (d < 256) && toneOk t)
  | .pmCfg sc i _ => no (decide (i < pmCount sc))

/-- The bytes of a TONE_LOAD block that hold no field are 0 (Table CM-15). -/
def toneBlockOk (b : List Byte) : Bool :=
  decide ((byteAt b 0).toNat < 4) && byteAt b 1 = 0 && (bytesAt b 10 6).all (fun x => x = 0)

/-- DUE must be 0 (Table CM-2). -/
def asapOnly (c : Cmd) : Bool := match c with
  | .fence | .fenceAll => true
  | _ => false

/-- The opcode and operand tests of R288 on a descriptor with its host block. -/
def parse (d : Desc) (blk : Option (List Byte)) : Parsed :=
  let op := wfld d.w0 0 8
  match opMask op with
  | none => .bad 0x05 0
  | some m =>
    if hasBlock op && blk.isNone then .bad 0x06 1
    else
      let c := parseCmd op d (blk.getD [])
      if wfld d.w0 11 5 ≠ 0 || !(reservedOk m d) || (hasBlock op && !(addrOk (blockAddr op d))) || (asapOnly c && d.w1 ≠ 0)
          || (decide (op = 0x7E) && !(toneBlockOk (blk.getD []))) then
        .bad 0x06 0
      else match staticTest c with
        | some r => .bad 0x06 r
        | none => .ok c

/-! ### Opcode, executor, changes (Table CM-2) -/

/-- The opcode of a command. -/
def opcodeOf : Cmd → Nat
  | .nop => 0x00 | .fence => 0x01 | .fenceAll => 0x02 | .echo _ => 0x03
  | .tswSet _ => 0x10 | .tswPatch _ => 0x11 | .tswFill _ => 0x12 | .tswRead _ => 0x13
  | .fabricCommit => 0x18 | .xcSet _ => 0x20 | .lomapSet _ _ _ => 0x21 | .tribCfg _ _ => 0x22 | .sigSet _ => 0x23
  | .cnfCreate _ _ => 0x30 | .cnfJoin _ _ => 0x31 | .cnfLeave _ => 0x32 | .cnfModify _ => 0x33 | .cnfDestroy _ => 0x34
  | .cnfQuery _ _ => 0x35 | .protGroup _ => 0x40 | .protCmd _ _ _ => 0x41 | .protQuery _ _ _ => 0x42
  | .traceSet _ => 0x50 | .traceRead _ _ _ => 0x51 | .ohSet _ _ _ => 0x58
  | .streamOpen _ => 0x60 | .streamClose _ _ _ => 0x61 | .streamFlush _ _ _ => 0x62
  | .gfpOpen _ => 0x68 | .gfpClose _ _ _ => 0x69 | .gfpFlush _ _ _ => 0x6A
  | .keyLoad _ _ _ => 0x70 | .keyErase _ => 0x71 | .dccAuthCfg _ => 0x72 | .resClaim _ _ _ => 0x78 | .resRelease _ _ => 0x79
  | .toneLoad _ _ => 0x7E | .pmCfg _ _ _ => 0x80

/-- The processor that executes a command (0 CP, 2 SP, 3 + k OPk); none is hardware. -/
def executorOf : Cmd → Option Nat
  | .lomapSet _ _ _ | .tribCfg _ _ | .cnfCreate _ _ | .cnfJoin _ _ | .cnfLeave _ | .cnfDestroy _ | .protGroup _ => some 0
  | .keyLoad _ _ _ | .keyErase _ => some 2
  | .traceSet o => some (traceOp o.kind o.index)
  | .ohSet code t _ =>
    if code ≤ 9 ∨ code = 0x11 ∨ (code = 0x12 ∧ t.toNat < 2 ^ 31) then some (3 + wfld t 0 5 / 8) else none
  | _ => none

/-- The executor is in service (R290). -/
def State.execReady (s : State) (c : Cmd) : Bool :=
  match executorOf c with | some p => s.inSvc p | none => true

/-- Table changes a command counts. -/
def changesOf : Cmd → Nat
  | .tswSet o => o.count
  | .tswFill o => o.count / 32
  | .xcSet o => o.width
  | .nop | .fence | .fenceAll | .echo _ | .tswRead _ | .fabricCommit | .cnfQuery _ _ | .protQuery _ _ _ | .traceRead _ _ _
  | .keyLoad _ _ _ | .keyErase _ | .resClaim _ _ _ | .resRelease _ _ => 0
  | _ => 1

/-- Hot patches a command counts. -/
def patchesOf : Cmd → Nat
  | .tswPatch _ => 1
  | .cnfModify o => b2n o.hot
  | _ => 0

/-- The START of a waiting STREAM_OPEN moves with the count (02 R63). -/
def rebaseCmd (delta : Word) (c : Cmd) : Cmd := match c with
  | .streamOpen o => if o.start = 0 then c else .streamOpen { o with start := o.start + delta }
  | _ => c

/-- Place of a command within a boundary (Table CM-3): step, and the order within step 4. -/
def stepOf : Cmd → Nat
  | .tswSet _ | .tswFill _ | .xcSet _ | .cnfCreate _ _ | .cnfJoin _ _ | .cnfLeave _ | .cnfDestroy _ => 10
  | .cnfModify o => if o.hot then 30 else 10
  | .fabricCommit => 20
  | .tswPatch _ => 30
  | .lomapSet _ _ _ => 40
  | .tribCfg _ _ => 41
  | .sigSet _ => 42
  | .protGroup _ => 50
  | .protCmd _ _ _ => 60
  | .tswRead _ | .cnfQuery _ _ | .protQuery _ _ _ | .traceRead _ _ _ | .echo _ | .nop | .fence | .fenceAll => 70
  | _ => 43

/-- Families of commands whose admission looks at one another (R448). A commit belongs to two: it makes the standby pages of
the roster and of the map the active ones. -/
def familiesOf : Cmd → List Nat
  | .cnfCreate _ _ | .cnfJoin _ _ | .cnfLeave _ | .cnfModify _ | .cnfDestroy _ => [1]
  | .fabricCommit => [1, 2]
  | .lomapSet _ _ _ | .tribCfg _ _ | .protGroup _ | .protCmd _ _ _ | .xcSet _ => [2]
  | .ohSet code _ _ => if code = 4 ∨ code = 5 then [2] else []
  | .streamOpen _ | .streamClose _ _ _ | .streamFlush _ _ _ => [3]
  | .gfpOpen _ | .gfpClose _ _ _ => [4]
  | .keyLoad _ _ _ | .dccAuthCfg _ => [5]
  | .traceSet _ => [6]
  | _ => []

end Sys2Proof.Machine
end

