-- ==== Sys2Proof/Machine/Apply.lean ====
section
/-! DEFINITION. What each command of Table CM-2 does at its boundary, and the state tests of its admission
(10_commands.md R288, R293, R448 and the owning chapters). -/

namespace Sys2Proof.Machine

/-! ### The cross-connect map (04 R102-R104) -/

def State.setXcPage (b : Bool) (t : Tab Word) (s : State) : State :=
  { s with hop := if b then { s.hop with xcB := t } else { s.hop with xcA := t } }

def State.xcTab (s : State) (b : Bool) : Tab Word := if b then s.hop.xcB else s.hop.xcA

/-- Entry `i` of a connection (Table PA-3). -/
def xcEntry (o : XcOp) (i : Nat) : Word :=
  BitVec.ofNat 32 (putB (i = 0) 21 + put (xcWidthCode o.width) 18 3 + put o.force 16 2 + putB o.en 15 + putB o.sel 14
    + put (if o.sel then o.src else o.src + i) 0 13)

/-- XC_SET: the standby page, marked dirty (04 R103). -/
def State.xcSet (o : XcOp) (s : State) : State :=
  let b := !s.hop.active
  let s := s.setXcPage b (tsetRun 0 (s.xcTab b) o.dest o.width (xcEntry o))
  { s with hop := { s.hop with dirty := tsetRun false s.hop.dirty o.dest o.width (fun _ => true) } }

/-- The swap of the map's pages (04 R104). -/
def State.xcSwap (s : State) : State := { s with hop := { s.hop with active := !s.hop.active, dirty := [], copy := true } }

/-- Copy-back of the map ends: every slot that is not dirty holds the active entry. -/
def State.xcCopyDone (s : State) : State :=
  if !s.hop.copy then s else
  let a := s.hop.active
  let s := s.setXcPage (!a) (copyBack (fun k => tget false s.hop.dirty k) (s.xcTab a) (s.xcTab (!a)))
  { s with hop := { s.hop with copy := false } }

/-- FABRIC_COMMIT: the three pages swap as one action (01 R15, 06 R175). -/
def State.fabricCommit (s : State) : State := s.tswSwap.cnfSwap.xcSwap

/-- COPYBACK_DONE (06 R176, 07 R191, 04 R104): a running copy-back of the table ends. -/
def execCopybackDone (p : Paged) (s : State) : Host.Outcome State Fault Refusal :=
  .next (match p with
    | .truss => if s.tsw.copyLeft = 0 then s else s.tswCopyDone
    | .roster => if s.cnf.copyLeft = 0 then s else s.cnfCopyDone
    | .xc => s.xcCopyDone)

/-! ### LO mapper, overhead, traces -/

/-- The interpreters of the TUs of a TUG-2 begin again in LOP. -/
def State.dropTus (m g k : Nat) (s : State) : State :=
  { s with hop := { s.hop with tus := tkeep (fun i => decide (i / 4 ≠ (m * 3 + g) * 7 + k)) s.hop.tus } }

/-- LOMAP_SET at its boundary (05 R132): the H4 multiframe is hunted again where STRUCT changes, the TU interpreters of
every TUG-2 whose content changes begin in LOP. -/
def State.lomapSet (m st tu11 : Nat) (s : State) : State :=
  let old := s.vc4 m
  let s := { s with vc4s := tset {} s.vc4s m { struct := st, tu11 := tu11 } }
  let s := foldS (List.range 21) (fun i (s : State) =>
    if decide (old.struct ≠ st) || old.tu11.testBit i ≠ tu11.testBit i then s.dropTus m (i / 7) (i % 7) else s) s
  if old.struct = st then s
  else foldS [3 * m, 3 * m + 1, 3 * m + 2] (fun k (s : State) =>
    { s with h4s := tmod {} s.h4s k (fun (h : H4) => { h with inMf := false, run := 0, outN := 0, inN := 0 }) }) s

/-- OH_SET at its boundary (03 R86, 04 R114). -/
def State.ohSet (code : Nat) (t : Word) (v : Nat) (s : State) : State :=
  let b : Byte := BitVec.ofNat 8 v
  let x := wfld t 0 13
  if code ≤ 9 then s.modPort (wfld t 0 5) (fun p => { p with ohSet := tset none p.ohSet code (some b) })
  else match code with
    | 0x10 => s.setHoSrc x { s.hoSrc x with c2 := some b }
    | 0x11 => let k := 192 * wfld t 0 5 + wfld t 8 8; s.setPath k { s.path k with expC2 := some b }
    | 0x12 => let k := if wbit t 31 then x else 192 * wfld t 0 5 + wfld t 8 8; s.setPath k { s.path k with flags := v }
    | 0x13 => s.setHoSrc x { s.hoSrc x with f2 := b }
    | 0x14 => s.setHoSrc x { s.hoSrc x with f3 := b, k3 := BitVec.ofNat 8 (v / 256) }
    | 0x15 => s.setHoSrc x { s.hoSrc x with n1 := b }
    | 0x20 => s.setLo t.toNat { s.lo t.toNat with flags := v }
    | 0x21 => s.setLo t.toNat { s.lo t.toNat with k4Tx := b }
    | _ => s.setLo t.toNat { s.lo t.toNat with n2Tx := b }

/-- The settings of a trace entry after TRACE_SET (04 R127). -/
def Trace.set (o : TraceOp) (t : Trace) : Trace :=
  let f (i : Nat) := o.fields.testBit i
  let t := { t with tx := if f 0 then o.txStr else t.tx, exp := if f 1 then o.exStr else t.exp, cmp := if f 4 then o.cmpEn else t.cmp }
  let changed := (f 2 && t.fmt ≠ o.fmt) || (f 3 && t.n ≠ o.n)
  let t := { t with fmt := if f 2 then o.fmt else t.fmt, n := if f 3 then o.n else t.n }
  let t : Trace := if changed then { t.stop with acc := none } else t
  if f 5 && o.kind = 1 then
    let rx : Option (Nat × Nat) := if o.rxBind then some (o.rxPort, o.rxS) else none
    let t : Trace := if decide (rx = t.rx) then t else t.stop
    { t with rx := rx, txPt := if o.txBind then some o.txSlot else none }
  else t

/-- TRACE_SET at its boundary (04 R127): TIM is decided with the new settings at once. -/
def State.traceSet (o : TraceOp) (s : State) : State :=
  let t := s.trace o.kind o.index
  let n := t.set o
  let s := if n.rx = t.rx then s else s.setTim o.kind o.index false
  (s.setTrace o.kind o.index { n with tim := (s.trace o.kind o.index).tim }).timUpdate o.kind o.index

/-- LAYER of a trace record (04 Table PA-9). -/
def State.traceLayer (s : State) (kind i : Nat) : Nat :=
  match kind with
  | 0 => put (s.port i).s1Acc 0 4
  | 1 => match (s.trace 1 i).rx with
    | some (n, t) => let p := s.path (192 * n + t); put (p.c2Acc.getD 0) 0 8 + put p.g1.toNat 8 8
    | none => 0
  | _ => put ((s.lo i).label.getD 0) 0 3 + put (s.lo i).k4Acc 8 8

/-- The 208 bytes of Table PA-9. -/
def State.traceRec (s : State) (kind i : Nat) : List Byte :=
  let t := s.trace kind i
  leBytes 1 kind ++ leBytes 1 t.fmt ++ leBytes 2 i
    ++ leBytes 1 (putB t.cmp 5 + putB t.unframed 4 + putB t.crcErr 3 + putB (kind = 1 && t.rx.isSome) 2 + putB t.acc.isSome 1 + putB t.tim 0)
    ++ leBytes 1 t.runLen ++ leBytes 2 0 ++ leBytes 4 (s.traceLayer kind i) ++ leBytes 4 0
    ++ bytesAt (t.acc.getD []) 0 64 ++ bytesAt (traceString t.fmt t.exp) 0 64 ++ bytesAt t.last 0 64

/-- PM_CFG at its boundary (12 R338). -/
def State.pmCfg (scope i : Nat) (on : Bool) (s : State) : State :=
  { s with mgt := { s.mgt with incl := tset false s.mgt.incl (65536 * scope + i) on } }

/-! ### Effects (Table CM-2) -/

/-- Status, RESULT and DATA of a completion. -/
structure Eff where
  status : Nat := 0
  result : Nat := 0
  data   : Bool := false
deriving DecidableEq, Repr

/-- A record is written to host memory, or not at all while DMA is stopped (09 R447). -/
def State.putRecord (a : DWord) (b : List Byte) (s : State) : Eff × State :=
  if s.dmaOn then ({ result := b.length, data := true }, s.dma a.toNat b) else ({}, s)

/-- RES_CLAIM (14 R389, R394). -/
def State.resClaim (ring rtype i lease : Nat) (s : State) : Eff × State :=
  let r := if rtype = 5 then s.lockClaim i (0x0800 + ring) lease else s.hostClaim (resKey rtype i)
  ({ status := r.1, result := r.2.1 }, r.2.2)

/-- RES_RELEASE (14 R390, R394). -/
def State.resRelease (ring rtype i : Nat) (s : State) : State :=
  if rtype = 5 then s.lockRelease i (0x0800 + ring) else s.hostRelease (resKey rtype i)

/-- What a command of CQ `ring` does at its boundary. -/
def State.apply (ring : Nat) (c : Cmd) (s : State) : Eff × State :=
  match c with
  | .nop | .fence | .fenceAll => ({}, s)
  | .echo v => ({ result := v.toNat }, s)
  | .tswSet o => ({}, s.tswSet o)
  | .tswPatch o => ({}, s.tswPatch o)
  | .tswFill o => ({}, s.tswFill o)
  | .tswRead o => let r := s.tswReadRec o; r.2.putRecord o.addr r.1
  | .fabricCommit => let t := s.fabricCommit; ({ result := b2n t.tsw.active }, t)
  | .xcSet o => ({}, s.xcSet o)
  | .lomapSet m st tu11 => ({}, s.lomapSet m st tu11)
  | .tribCfg t x => ({}, s.tribCfg t x)
  | .sigSet o => let r := s.sigSet o; ({ result := r.1 }, r.2)
  | .cnfCreate n o => ({}, s.cnfCreate n o)
  | .cnfJoin p o => ({ result := p / 4096 }, s.cnfJoin p o)
  | .cnfLeave p => ({}, s.cnfLeave p)
  | .cnfModify o => let r := s.cnfModify o; ({ result := r.1 }, r.2)
  | .cnfDestroy n => let r := s.cnfDestroy n; ({ result := r.1 }, r.2)
  | .cnfQuery a n => s.putRecord a (s.cnfQueryRec n)
  | .protGroup o => ({}, s.protGroup o)
  | .protCmd k g code => let r := s.protCmd k g code; ({ result := r.1 }, r.2)
  | .protQuery a k g => s.putRecord a (s.protQueryRec k g)
  | .traceSet o => ({}, s.traceSet o)
  | .traceRead a k i =>
    let r := s.putRecord a (s.traceRec k i)
    (r.1, if r.1.data then r.2.setTrace k i { r.2.trace k i with crcErr := false, unframed := false } else r.2)
  | .ohSet code t v => ({}, s.ohSet code t v)
  | .streamOpen o => ({}, s.streamOpen o)
  | .streamClose g i o => ({}, s.streamClose g i o)
  | .streamFlush g i o => ({}, s.streamFlush g i o)
  | .gfpOpen o => ({}, s.gfpOpen o)
  | .gfpClose ch t r => ({}, s.gfpClose ch t r)
  | .gfpFlush ch t r => ({}, s.gfpFlush ch t r)
  | .keyLoad slot w k => ({}, s.keyLoad slot w k)
  | .keyErase slot => ({}, s.keyErase slot)
  | .dccAuthCfg o => ({}, s.dccAuthCfg o)
  | .resClaim t i l => s.resClaim ring t i l
  | .resRelease t i => ({}, s.resRelease ring t i)
  | .toneLoad d t => ({}, s.toneLoad d t)
  | .pmCfg sc i on => ({}, s.pmCfg sc i on)

/-! ### The projected state (07 R193; 08 R221; 10 R288) -/

/-- What a command makes of the settings that later admissions look at. -/
def State.project (c : Cmd) (s : State) : State :=
  match c with
  | .fabricCommit => s.cnfCopyDone.cnfSwap.cnfCopyDone.xcCopyDone.xcSwap.xcCopyDone
  | .xcSet o => s.xcSet o
  | .lomapSet m st tu11 => s.lomapSet m st tu11
  | .tribCfg t x => { s with tribs := tput s.tribs t { s.trib t with cfg := x, cfgNew := none } }
  | .cnfCreate n o => s.cnfCreate n o
  | .cnfJoin p o => s.cnfJoin p o
  | .cnfLeave p => s.cnfLeave p
  | .cnfModify o => (s.cnfModify o).2
  | .cnfDestroy n => (s.cnfDestroy n).2
  | .protGroup o =>
    s.setGroup o.kind.val o.group (if o.op = 0 then Group.create o else if o.op = 1 then (s.group o.kind.val o.group).modify o else {})
  | .traceSet o => s.setTrace o.kind o.index ((s.trace o.kind o.index).set o)
  | .streamOpen o => s.streamOpen o
  | .streamClose g i o => s.modStrm g (fun x => { x with inn := if i then none else x.inn, out := if o then none else x.out })
  | .gfpOpen o => s.modGfp o.ch (fun x => { x with tx := if o.dirTx then some o else x.tx, rx := if o.dirRx then some o else x.rx })
  | .gfpClose ch t r => s.modGfp ch (fun x => { x with tx := if t then none else x.tx, rx := if r then none else x.rx })
  | .keyLoad slot _ _ => s.setKey slot { s.key slot with loaded := true, ctr := 0 }
  | _ => s

/-- Whether an entry takes effect before another: boundary, step of Table CM-3, order of admission. -/
def dueBefore (now : Word) (a b : Due) : Bool :=
  let ka := (a.boundary - now).toNat
  let kb := (b.boundary - now).toNat
  decide (ka < kb) || (ka = kb && (decide (a.step < b.step) || (a.step = b.step && decide (a.seq ≤ b.seq))))

/-- Put an entry in its place. -/
def dueInsert (now : Word) (d : Due) : List Due → List Due
  | [] => [d]
  | x :: r => if dueBefore now d x then d :: x :: r else x :: dueInsert now d r

/-- Entries in the order in which they take effect. -/
def dueSort (now : Word) (l : List Due) : List Due := l.foldr (dueInsert now) []

/-- The state after the entries of `l`, in the order in which they take effect. -/
def State.projectAll (l : List Due) (s : State) : State := foldS (dueSort s.stp.frame l) (fun d s => s.project d.cmd) s

/-- Entries with a boundary at or before `b`; those strictly before it when `strict`. -/
def State.dueUpTo (s : State) (strict : Bool) (b : Word) : List Due :=
  s.ce.due.filter (fun d => !d.noBoundary &&
    (if strict then decide ((d.boundary - s.stp.frame).toNat < (b - s.stp.frame).toNat)
     else decide ((d.boundary - s.stp.frame).toNat ≤ (b - s.stp.frame).toNat)))

/-- Entries with a boundary after `b`. -/
def State.dueAfter (s : State) (b : Word) : List Due :=
  s.ce.due.filter (fun d => !d.noBoundary && decide ((b - s.stp.frame).toNat < (d.boundary - s.stp.frame).toNat))

/-! ### State tests -/

/-- Participants and conferences a CNF_ command names (07 R194). -/
def cnfNames : Cmd → List (Bool × Nat)
  | .cnfCreate n _ => [(true, n)]
  | .cnfDestroy n => [(true, n)]
  | .cnfJoin p o => [(false, p), (true, o.conf)]
  | .cnfLeave p => [(false, p)]
  | .cnfModify o => if o.isConf then [(true, o.index)] else (false, o.index) :: (if o.fields.testBit 8 then [(true, o.part.conf)] else [])
  | _ => []

/-- Groups and members a PROT_GROUP names (08 R221): kinds 2 and 3 share their members. -/
def protNames : Cmd → List (Nat × Nat)
  | .protGroup o =>
    let k := o.kind.val
    (k, o.group) :: (if o.op = 0 then [(if k = 3 then 12 else 10 + k, o.w), (if k = 3 then 12 else 10 + k, o.p)] else [])
  | _ => []

/-- The R193 tests of a CNF_ command but for the limits: `p` the projected state. -/
def State.cnfTest (p : State) (c : Cmd) : Option Nat :=
  match c with
  | .cnfCreate n _ => if (p.sbConf n).inUse then some 0x07 else none
  | .cnfJoin q o => if !(p.sbConf o.conf).inUse then some 0x06 else if (p.sbPart q).inUse then some 0x07 else none
  | .cnfLeave q => if !(p.sbPart q).inUse then some 0x06 else none
  | .cnfDestroy n => if !(p.sbConf n).inUse then some 0x06 else none
  | .cnfModify o =>
    if o.isConf then (if !(p.sbConf o.index).inUse then some 0x06 else none)
    else if !(p.sbPart o.index).inUse || (o.fields.testBit 8 && !(p.sbConf o.part.conf).inUse) then some 0x06
    else if o.hot && !(tget {} (p.cnfParts p.cnf.active) o.index).inUse then some 0x06
    else none
  | _ => none

/-- The participant whose limits a command can break. -/
def limitPart : Cmd → Option Nat
  | .cnfJoin q _ => some q
  | .cnfModify o => if o.isConf then none else some o.index
  | _ => none

/-- The limits of R190 around a command's participant, in the standby page that follows; a hot change in the active page
as well (07 R195). -/
def State.limitTest (p : State) (c : Cmd) : Bool :=
  match limitPart c with
  | none => true
  | some q => limitsOk p.sbParts q && (match c with
    | .cnfModify o =>
      let t := p.cnfParts p.cnf.active
      !o.hot || limitsOk (tset {} t q ((tget {} t q).modify o)) q
    | _ => true)

/-- The value and member tests of a create or modify; `again` leaves out those that no command can make true or false. -/
def State.protMembers (s p : State) (again : Bool) (o : ProtOp) : Bool :=
  match o.kind.val with
  | 0 => again || (decide (s.reg (lpt o.w 0) &&& 7#32 = s.reg (lpt o.p 0) &&& 7#32)
      && (List.range 4).all (fun w => decide (s.reg (0x20100 + 0x10 * o.w + 4 * w) = s.reg (0x20100 + 0x10 * o.p + 4 * w))))
  | 1 => again || (s.slotFits false o.w o.width && s.slotFits false o.p o.width)
  | 2 => (p.trib o.w).want.en && (p.trib o.p).want.en && (p.trib o.w).want.t1 = (p.trib o.p).want.t1
  | _ => [o.w, o.p].all (fun t => let c := (p.trib t).want; c.en && !c.t1 && c.crc4 = 1 && c.tagSa ≠ 0)

/-- A member of a create belongs to another group already. -/
def State.memberTaken (p : State) (o : ProtOp) : Bool :=
  p.prt.groups.any (fun (e : Nat × Group) =>
    let k := e.1 / 65536
    e.2.inUse && !(decide (k = o.kind.val) && decide (e.1 % 65536 = o.group)) &&
    (if o.kind.val = 1 then k = 1 && [o.w, o.p].any (fun x => [e.2.op.w, e.2.op.p].any (fun y =>
        decide (x < y + e.2.op.width) && decide (y < x + o.width)))
     else (k = o.kind.val || (decide (2 ≤ k) && decide (2 ≤ o.kind.val)))
        && [o.w, o.p].any (fun x => x = e.2.op.w || x = e.2.op.p)))

/-- An entry of either cross-connect page names an HO SNCP group. -/
def State.xcNames (p : State) (g : Nat) : Bool :=
  (p.hop.xcA ++ p.hop.xcB).any (fun (e : Nat × Word) => wbit e.2 14 && wfld e.2 0 10 = g)

/-- The tests of R221. -/
def State.protTest (s p : State) (again : Bool) (o : ProtOp) : Option Nat :=
  let x := p.group o.kind.val o.group
  if o.op ≠ 0 && !x.inUse then some 0x06
  else if o.op ≠ 2 && !(s.protMembers p again o) then some 0x06
  else if o.op = 1 && (decide (x.op.w ≠ o.w) || decide (x.op.p ≠ o.p) || (o.kind.val = 1 && x.op.width ≠ o.width)) then some 0x06
  else if o.op = 0 && (x.inUse || p.memberTaken o) then some 0x07
  else if o.op = 2 && o.kind.val = 1 && p.xcNames o.group then some 0x07
  else none

/-- The content of a TUG-2: TU-11 where true. -/
def tugBit (tu11 : Nat) (p : TuPos) : Bool := tu11.testBit (7 * p.grp + p.tug2)

/-- The tests of R132. -/
def State.lomapTest (p : State) (m st tu11 : Nat) : Option Nat :=
  let v := p.vc4 m
  if p.tribs.any (fun (e : Nat × Trib) => e.2.want.en && e.2.want.pos.m = m &&
      (decide (v.struct ≠ st) || tugBit v.tu11 e.2.want.pos ≠ tugBit tu11 e.2.want.pos)) then some 0x07 else none

/-- The tests of R135 and R223. -/
def State.tribTest (p : State) (t : Nat) (c : TribSet) : Option Nat :=
  let v := p.vc4 c.pos.m
  let t1 := tugBit v.tu11 c.pos
  if v.struct = 0 || decide ((if t1 then 3 else 2) < c.pos.tu) || t1 ≠ c.t1 then some 0x06
  else if p.tribs.any (fun (e : Nat × Trib) => decide (e.1 ≠ t) && e.2.want.en && decide (e.2.want.pos = c.pos)) then some 0x07
  else if (p.groupOf 2 t).isSome && c.t1 ≠ (p.trib t).want.t1 then some 0x07
  else if (p.groupOf 3 t).isSome && (c.t1 || decide (c.crc4 ≠ 1) || c.tagSa = 0) then some 0x07
  else none

/-- The tests of R123: binding points, the pool of 64-byte sets. -/
def State.traceTest (p : State) (o : TraceOp) : Option Nat :=
  let key := traceKey o.kind o.index
  let other (f : Trace → Bool) : Bool := p.scribe.any (fun (e : Nat × Trace) => decide (e.1 ≠ key) && e.1 / 65536 = 1 && f e.2)
  if o.kind = 1 && o.fields.testBit 5 && ((o.rxBind && other (fun t => decide (t.rx = some (o.rxPort, o.rxS))))
      || (o.txBind && other (fun t => decide (t.txPt = some o.txSlot)))) then some 0x07
  else if o.kind = 2 && o.fields.testBit 2 && o.fmt = 2 && decide ((p.trace 2 o.index).fmt ≠ 2)
      && decide (1024 ≤ tcount (fun k (t : Trace) => k / 65536 = 2 && t.fmt = 2) p.scribe) then some 0x07
  else none

/-- The tests of R304. -/
def State.streamTest (p : State) (b : Word) (o : StreamOp) : Option Nat :=
  let x := p.strm o.group
  if decide (o.start ≠ 0) && !(after o.start b) then some 0x06
  else if (o.dirIn && x.inn.isSome) || (o.dirOut && x.out.isSome) then some 0x07
  else none

/-- The tests of R304 for STREAM_CLOSE and STREAM_FLUSH. -/
def State.streamShut (p : State) (g : Nat) (i o : Bool) : Option Nat :=
  if (i && (p.strm g).inn.isNone) || (o && (p.strm g).out.isNone) then some 0x06 else none

/-- The tests of R321. -/
def State.gfpTest (p : State) (o : GfpOp) : Option Nat :=
  let x := p.gfp o.ch
  let clash (rx : Bool) : Bool := p.gfps.any (fun (e : Nat × Gfp) => match (if rx then e.2.rx else e.2.tx) with
    | some q => decide (q.slot < o.slot + o.width) && decide (o.slot < q.slot + q.width)
    | none => false)
  if (o.dirTx && x.tx.isSome) || (o.dirRx && x.rx.isSome) || (o.dirTx && clash false) || (o.dirRx && clash true)
    || (o.dirTx && decide (36000000 < p.gfpTotal false + gfpRate o.width))
    || (o.dirRx && decide (36000000 < p.gfpTotal true + gfpRate o.width)) then some 0x07 else none

/-- XC_SET against the port structures at admission (04 R103). -/
def State.xcTest (s : State) (o : XcOp) : Option Nat :=
  if (o.dest < 6144 && !(s.slotFits true o.dest o.width)) || (!o.sel && o.src < 6144 && !(s.slotFits false o.src o.width)) then some 0x06
  else none

/-- OH_SET of K1 or K2 on a port that a pair holds, as projected before its boundary (03 R86). -/
def State.ohTest (before : State) (code : Nat) (t : Word) : Option Nat :=
  if (code = 4 || code = 5) && (before.pairOf (wfld t 0 5)).isSome then some 0x07 else none

/-- The state test of a command for boundary `b` (R288): a refusal status, or none. `s` is the device's state, `p` the
projection up to `b`, `before` the projection up to the boundary before `b`; `again` marks the judgement of R448. -/
def State.stateTest (s p before : State) (b : Word) (again : Bool) (c : Cmd) : Option Nat :=
  match c with
  | .xcSet o => if again then none else s.xcTest o
  | .lomapSet m st tu11 => p.lomapTest m st tu11
  | .tribCfg t x => p.tribTest t x
  | .cnfCreate _ _ | .cnfJoin _ _ | .cnfLeave _ | .cnfDestroy _ | .cnfModify _ => p.cnfTest c
  | .protGroup o => s.protTest p again o
  | .protCmd k g code => if code = 6 && (p.group k.val g).inUse && !(p.group k.val g).op.bidir then some 0x06 else none
  | .traceSet o => p.traceTest o
  | .ohSet code t _ => before.ohTest code t
  | .streamOpen o => p.streamTest b o
  | .streamClose g i o => p.streamShut g i o
  | .streamFlush g i o => p.streamShut g i o
  | .gfpOpen o => p.gfpTest o
  | .dccAuthCfg o => if o.txEn && (p.key o.txSlot).exhausted then some 0x09 else none
  | _ => none

/-- A later entry names what the command names (07 R194, 08 R221). -/
def State.namedLater (s : State) (b : Word) (c : Cmd) : Bool :=
  (s.dueAfter b).any (fun d => (cnfNames d.cmd).any (fun x => x ∈ cnfNames c) || (protNames d.cmd).any (fun x => x ∈ protNames c))

/-- A command as the limits of the standby page see it: a hot change that the active page cannot take lands in the
standby page alone (07 R195). -/
def coldOf : Cmd → Cmd
  | .cnfModify o => .cnfModify { o with hot := false }
  | c => c

/-- The limits at the command's boundary and at every later one at which an admitted CNF_ command falls due (07 R193). -/
def State.limitsHold (s : State) (me : Due) : Bool :=
  if (limitPart me.cmd).isNone then true
  else
    let bs := me.boundary :: ((s.dueAfter me.boundary).filter (fun d => !(cnfNames d.cmd).isEmpty)).map (fun d => d.boundary)
    bs.all (fun b => (s.projectAll (me :: s.dueUpTo false b)).limitTest
      (if b = me.boundary then me.cmd else coldOf me.cmd))

/-- Every state test of an admission for boundary `me.boundary`: the status of the refusal. -/
def State.admitTest (s : State) (me : Due) : Option Nat :=
  let b := me.boundary
  let p := s.projectAll (s.dueUpTo false b)
  match s.stateTest p (s.projectAll (s.dueUpTo true b)) b false me.cmd with
  | some r => some r
  | none => if s.namedLater b me.cmd || !(s.limitsHold me) then some 0x07 else none

/-- The judgement of R448 at the boundary itself. -/
def State.stillOk (s : State) (c : Cmd) : Bool :=
  (s.stateTest s s s.stp.frame true (coldOf c)).isNone && (s.project (coldOf c)).limitTest (coldOf c)

end Sys2Proof.Machine
end

