-- ==== Sys2Proof/Machine/Engine.lean ====
section
/-! DEFINITION. The command engine (10_commands.md R284-R301; 09_host_rings.md R266-R269): admission, fences, what
happens to the commands due at a boundary, and the commands of Table CM-2 carried out one by one. -/

namespace Sys2Proof.Machine

/-! ### Reservations of a boundary (R286) -/

/-- Entries due at boundary `b`. -/
def State.dueAt (s : State) (b : Word) : List Due := s.ce.due.filter (fun d => !d.noBoundary && decide (d.boundary = b))

/-- Table changes reserved at `b`. -/
def State.chgAt (s : State) (b : Word) : Nat := ((s.dueAt b).map (fun d => changesOf d.cmd)).sum
/-- Hot patches reserved at `b`. -/
def State.patAt (s : State) (b : Word) : Nat := ((s.dueAt b).map (fun d => patchesOf d.cmd)).sum
/-- Commands reserved at `b` for processor `p`. -/
def State.procAt (s : State) (b : Word) (p : Nat) : Nat := ((s.dueAt b).filter (fun d => decide (executorOf d.cmd = some p))).length

/-- Table CM-1. -/
def State.chgLimit (s : State) : Nat := if s.glb.svc then 4096 else 8192

/-- A boundary has room for a command (R286); reservations beyond a new limit stand. -/
def State.procFull (s : State) (b : Word) (c : Cmd) : Bool :=
  match executorOf c with | some p => decide (512 ≤ s.procAt b p) | none => false

def State.room (s : State) (b : Word) (c : Cmd) : Bool :=
  (changesOf c = 0 || decide (s.chgAt b + changesOf c ≤ s.chgLimit)) && (patchesOf c = 0 || decide (s.patAt b + patchesOf c ≤ 256))
    && !(s.procFull b c)

/-- RESULT of REJ_FRAME_BUDGET (R292). -/
def State.roomResult (s : State) (b : Word) (c : Cmd) : Nat :=
  put (s.chgLimit - s.chgAt b) 0 14 + put (256 - s.patAt b) 16 9 + putB (s.procFull b c) 31

/-- Frames closer than 4 (R178). -/
def near4 (a b : Word) : Bool := decide ((a - b).toNat < 4) || decide ((b - a).toNat < 4)

/-- The commit that a FABRIC_COMMIT at `b` comes too close to (06 R178); the last executed one counts for 8 frames. Where it
comes too close to several, the pending one admitted first is named, the last executed one after them (assumption 161). -/
def State.commitClash (s : State) (b : Word) : Option Word :=
  match s.ce.due.find? (fun d => decide (d.cmd = .fabricCommit) && near4 b d.boundary) with
  | some d => some d.boundary
  | none => if s.tsw.committed && decide ((s.stp.frame - s.tsw.lastCommit).toNat < 8) && decide ((b - s.tsw.lastCommit).toNat < 4) then some s.tsw.lastCommit else none

/-! ### Admission (R288) -/

/-- What the engine decides of a descriptor: to wait (with the PMC event that counts it), to refuse, to take. -/
inductive Verdict where
  | wait (ev : Option Nat)
  | refuse (status result : Nat)
  | take (b : Word) (c : Cmd)
deriving DecidableEq, Repr

/-- The cutoff phase of a command (R291). -/
def cutoffOf (c : Cmd) : Nat := if (executorOf c).isSome then 1215 else 2268

/-- Some entry is draining (R284): its command has taken effect, its completion is not yet written. -/
def State.draining (s : State) : Bool := s.ce.comps.any (fun c => !c.refusal)

/-- An earlier descriptor of ring `n` is admitted for a boundary later than the next (R296). -/
def State.orderWaits (s : State) (n : Nat) : Bool :=
  s.ce.due.any (fun d => d.ring = n && !d.noBoundary && after d.boundary (s.stp.frame + 1))

/-- The place in Table CM-3 of a descriptor of ring `n`: an ORDERED ASAP one acts in no earlier step than what the ring has
admitted for the same boundary (R296). -/
def State.placeOf (s : State) (n : Nat) (d : Desc) (b : Word) (c : Cmd) : Nat :=
  if wbit d.w0 8 && d.w1 = 0 then
    ((s.dueAt b).filter (fun e => e.ring = n)).foldl (fun a e => max a e.step) (stepOf c)
  else stepOf c

/-- The due entry a descriptor of ring `n` would take for boundary `b`. -/
def State.newDue (s : State) (n : Nat) (d : Desc) (b : Word) (c : Cmd) : Due :=
  { entry := s.freeEntry, seq := s.ce.seq, ring := n, cc := (s.ring 0 n).bind, index := (s.ring 0 n).dev
    tag := BitVec.ofNat 16 (wfld d.w0 16 16), int := wbit d.w0 10, nocomp := wbit d.w0 9, asap := decide (d.w1 = 0)
    boundary := b, noBoundary := asapOnly c, cmd := c, step := s.placeOf n d b c }

/-- The tests of R288 from the projected state on, for boundary `b`. -/
def State.verdictAt (s : State) (n : Nat) (d : Desc) (b : Word) (c : Cmd) : Verdict :=
  match s.admitTest (s.newDue n d b c) with
  | some st => .refuse st 0
  | none =>
    match (if decide (c = .fabricCommit) then s.commitClash b else none) with
    | some f => .refuse 0x08 f.toNat
    | none =>
      if s.room b c then .take b c
      else if d.w1 = 0 then .wait (some 0x07)
      else .refuse 0x04 (s.roomResult b c)

/-- The due-table test of R288, then the rest. -/
def State.verdictDue (s : State) (n : Nat) (d : Desc) (b : Word) (c : Cmd) : Verdict :=
  if 65536 ≤ s.dueUsed then (if s.draining then .wait (some 0x09) else .refuse 0x03 0)
  else if asapOnly c then .take b c
  else s.verdictAt n d b c

/-- The judgement of the descriptor at the head of ring `n` (R288-R292, R295, R296). Its frames stand in the count that was in
force when it was fetched (02 R64). -/
def State.verdict (s : State) (n : Nat) (d : Desc) (blk : Option (List Byte)) : Verdict :=
  match parse d blk with
  | .bad st r => .refuse st r
  | .ok c =>
    let c := rebaseCmd (s.ring 0 n).headDelta c
    let due := d.w1 + (s.ring 0 n).headDelta
    let k := (due - s.stp.frame).toNat
    if !(s.execReady c) then .refuse 0x0B 0
    else if asapOnly c then s.verdictDue n d s.stp.frame c
    else if d.w1 = 0 then
      if cutoffOf c ≤ s.stp.phase then .wait (some 0x06)
      else if wbit d.w0 8 && s.orderWaits n then .wait none
      else s.verdictDue n d (s.stp.frame + 1) c
    else if 2 ^ 31 ≤ k ∨ k < 3 then .refuse 0x01 0
    else if 2 ^ 20 < k then .refuse 0x02 0
    else s.verdictDue n d due c

/-- The head of ring `n` is decided: the consumer index passes it, and a slot is used. -/
def State.passHead (n : Nat) (s : State) : State :=
  let s := s.modRing 0 n (fun r => { r.advance 0 with head := none, waited := 0, waits := false, wbDue := true })
  { s with ce := { s.ce with visited := s.ce.visited + 1 } }

/-- The visit to ring `n` uses one of its grants (R297). -/
def State.grant (n : Nat) (s : State) : State :=
  let same := s.ce.rrRing = n && decide (0 < s.ce.rrLeft)
  { s with ce := { s.ce with rrRing := n, rrLeft := if same then s.ce.rrLeft - 1 else max 1 (s.ring 0 n).weight - 1 } }

/-- Two admissions touch the same budget counter, or items that each other's admission looks at (10 Table CM-5; R448). Every
slot has a due-table entry of its own (assumption 109). -/
def slotsClash (b1 : Word) (c1 : Cmd) (b2 : Word) (c2 : Cmd) : Bool :=
  (decide (b1 = b2) && ((decide (changesOf c1 ≠ 0) && decide (changesOf c2 ≠ 0)) || (decide (patchesOf c1 ≠ 0) && decide (patchesOf c2 ≠ 0))
      || ((executorOf c1).isSome && decide (executorOf c1 = executorOf c2))))
    || (familiesOf c1).any (fun f => (familiesOf c2).contains f)

/-- A slot of ring `n` admits `x`, or refuses (none): the slots of a cycle are 4. One that clashes with an earlier slot of its
cycle is replayed: it is wasted, and the descriptor is decided in the next cycle (R300). -/
def State.useSlot (n : Nat) (x : Option (Word × Cmd)) (s : State) : State :=
  let clash := match x with
    | none => false
    | some y => s.ce.cycle.any (fun o => match o with | some z => slotsClash z.1 z.2 y.1 y.2 | none => false)
  if 4 ≤ s.ce.cycle.length then { s with ce := { s.ce with cycle := [x] } }
  else if clash then
    let s := { s with ce := { s.ce with cycle := [x], visited := s.ce.visited + 1 } }
    ((s.pmcAdd 0 1).pmcAdd 2 1).pmcEvent 0x05 (some n) 1
  else { s with ce := { s.ce with cycle := s.ce.cycle ++ [x] } }

/-- A refusal (R22, R299): the completion is written before the index passes, or held while its CC is stopped. -/
def State.refuse (n : Nat) (d : Desc) (status result : Nat) (s : State) : State :=
  let r := s.ring 0 n
  let c : Comp :=
    { entry := s.freeEntry, ring := n, cc := r.bind, index := r.dev, tag := BitVec.ofNat 16 (wfld d.w0 16 16), int := wbit d.w0 10
      status := status, asap := decide (d.w1 = 0), refusal := true, exec := s.stp.frame, result := BitVec.ofNat 32 result }
  let s := if s.ccRoom r.bind then s.putComp c else s.addComp c
  let s := { s with ce := { s.ce with refused := s.ce.refused + 1, lastIdx := r.dev, lastRing := n, lastStat := status } }
  let s := ((s.passHead n).pmcAdd 0 1).pmcAdd 2 1
  (s.pmcEvent 0x03 (some n) 1).pmcEvent 0x04 (some n) (b2n (status = 0x04))

/-- The layout of PMC.SAMPLE (12 R342): `d` is the descriptor admitted, none with VALID = 0. -/
def pmcSampleOf (j : Nat) (d : Option Due) : Nat :=
  match d with
  | none => put j 56 4
  | some e => putB true 63 + put j 56 4 + put (opcodeOf e.cmd) 48 8 + put e.ring 40 6 + put e.tag.toNat 24 16 + put e.index 0 16

/-- The samples of counters `l` are taken (12 R342). -/
def State.pmcSamples (d : Option Due) (l : List Nat) (s : State) : State :=
  foldS l (fun j (s : State) =>
    let v := pmcSampleOf j d
    ({ s with pmc := { s.pmc with sample := BitVec.ofNat 64 v } }).raise .pmcOvf 0x182 j v) s

/-- Entry `d` is admitted: the samples that waited name it (12 R342). -/
def State.pmcTake (d : Due) (s : State) : State :=
  ({ s with pmc := { s.pmc with wait := [] } }).pmcSamples (some d) (s.pmc.wait.map (fun (x : Nat × Nat) => x.1))

/-- The condition of a FENCE or FENCE_ALL (R28, R295): nothing admitted earlier, from its ring or from every ring, still waits. -/
def State.fenceMet (s : State) (d : Due) : Bool :=
  !(s.ce.due.any (fun e => decide (e.seq < d.seq) && (decide (d.cmd = .fenceAll) || e.ring = d.ring)))

/-- The completion of entry `d`, which has taken effect or failed in the present frame. -/
def Due.comp (d : Due) (frame : Word) (e : Eff) : Comp :=
  { entry := d.entry, ring := d.ring, cc := d.cc, index := d.index, tag := d.tag, int := d.int, status := e.status, data := e.data
    asap := d.asap, exec := frame, result := BitVec.ofNat 32 e.result }

/-- A command has completed with `e`: NOCOMP leaves out the completion of status OK (R269, R284). -/
def State.finish (d : Due) (e : Eff) (s : State) : State :=
  if d.nocomp && e.status = 0 then s else s.addComp (d.comp s.stp.frame e)

/-- The due-table word of an entry is read: DUE_CE or DUE_UE (R285). -/
def State.readDue (e : Nat) (s : State) : Bool × State :=
  match s.upsetAt (.due e) with
  | none => (false, s)
  | some u => (u, (s.clearUpset (.due e)).raise (if u then .dueUe else .dueCe) 0x151 e 0)

/-- A fence completes; with EXEC_FAULT where its entry's word is uncorrectable (R285). -/
def State.fenceDone (d : Due) (s : State) : State :=
  let s := { s with ce := { s.ce with due := s.ce.due.filter (fun e => decide (e.seq ≠ d.seq)) } }
  let s := s.modRing 0 d.ring (fun r => if r.fence.map (fun x => x.1) = some d.seq then { r with fence := none } else r)
  let r := s.readDue d.entry
  if d.ue || r.1 then r.2.addComp (d.comp r.2.stp.frame { status := 0x0D }) else r.2.finish d {}

/-- Every fence whose condition holds completes, in the order of admission. -/
def State.fencesMet (s : State) : State :=
  foldS (s.ce.due.filter (fun d => d.noBoundary)) (fun d (s : State) => if s.fenceMet d then s.fenceDone d else s) s

/-- An entry is admitted: a place in the order of admission and a due-table entry. -/
def State.enter (d : Due) (s : State) : State :=
  let s := ({ s with ce := { s.ce with due := s.ce.due ++ [d], seq := s.ce.seq + 1 } }).wordWritten (.due d.entry)
  if d.noBoundary then
    (s.modRing 0 d.ring (fun r => { r with fence := some (d.seq, decide (d.cmd = .fenceAll)) })).fencesMet
  else s

/-- Admission (R288): the entry, the consumer index, the slot, and the counter samples that waited for a descriptor. -/
def State.admitHead (n : Nat) (d : Desc) (b : Word) (c : Cmd) (s : State) : State :=
  let e := s.newDue n d b c
  let s := (s.passHead n).enter e
  let s := ((s.pmcAdd 0 1).pmcAdd 1 1).pmcEvent (if e.asap then 0x02 else 0x01) (some n) 1
  s.pmcTake e

/-- Ring `n` may have its fetched head judged (R297, R283; 13 R371): enabled, DMA running, no fence, its CC running, the
device not in the fatal state. -/
def State.mayJudge (s : State) (n : Nat) : Bool :=
  let r := s.ring 0 n
  !s.flt.fatal && s.ringRun 0 n && r.fence.isNone && s.ringRun 1 r.bind

/-- Judge the head of ring `n` (R288). -/
def State.judgeHead (n : Nat) (s : State) : State :=
  match (s.ring 0 n).head with
  | none => s
  | some (d, blk) =>
    if !(s.mayJudge n) then s
    else match s.verdict n d blk with
    | .wait _ => s.modRing 0 n (fun r => { r with waits := true })
    | .refuse st r => ((s.grant n).useSlot n none).refuse n d st r
    | .take b c => ((s.grant n).useSlot n (some (b, c))).admitHead n d b c

/-- The rings in the order of the round-robin from here (R297). -/
def State.rrOrder (s : State) : List Nat :=
  (List.range 64).map (fun i => (s.ce.rrRing + i + b2n (decide (s.ce.rrLeft = 0))) % 64)

/-- Ring `n` may proceed (R297): it has pending descriptors, no fence stops it, its CC has an unreserved entry, which a
fetched head has already reserved, and its head does not wait. -/
def State.mayProceed (s : State) (n : Nat) : Bool :=
  let r := s.ring 0 n
  s.mayJudge n && !r.waits && decide (0 < r.pendingCount 0) && (r.head.isSome || s.ccFree r.bind)

/-- The ring whose turn it is: the first, from the present visit on, that may proceed (R297). -/
def State.turn (s : State) : Option Nat := s.rrOrder.find? s.mayProceed

/-- The visit to a ring that cannot proceed ends, and its credit with it (R297). -/
def State.visitEnds (s : State) : State :=
  if decide (0 < s.ce.rrLeft) && !(s.mayProceed s.ce.rrRing) then { s with ce := { s.ce with rrLeft := 0 } } else s

/-- The engine goes on while the ring whose turn it is has its descriptor fetched; `fuel` bounds how many heads there are. -/
def State.serveTurns : Nat → State → State
  | 0, s => s.visitEnds
  | fuel + 1, s => match s.visitEnds.turn with
    | none => s.visitEnds
    | some n => if (s.visitEnds.ring 0 n).head.isSome then State.serveTurns fuel (s.visitEnds.judgeHead n) else s.visitEnds

/-- The engine serves the rings from a fresh cycle on (R297, R300). -/
def State.serve (s : State) : State := State.serveTurns 64 { s with ce := { s.ce with cycle := [] } }

/-- A later cycle: heads that waited are judged afresh (R288). -/
def State.serveHeads (s : State) : State :=
  (foldS (List.range 64) (fun n (s : State) =>
    if (s.ring 0 n).waits && (s.ring 0 n).head.isSome then s.modRing 0 n (fun r => { r with waits := false }) else s) s).serve

/-- A descriptor arrives from host memory at the head of CQ `n` (R260, R267): one read of it is used. -/
def State.fetchHead (n : Nat) (d : Desc) (blk : Option (List Byte)) (s : State) : State :=
  let r := s.ring 0 n
  if s.flt.fatal || !(s.ringRun 0 n) || r.pendingCount 0 = 0 || r.head.isSome then s
  else if r.fence.isSome || !(s.ccFree r.bind) then s
  else (s.modRing 0 n (fun r =>
    { r with head := some (d, blk), headDelta := 0, waited := 0, waits := false, cplTo := false })).pmcEvent 0x0C (some n) 1

/-- DESCRIPTOR_ADMISSION (R288): a descriptor has been fetched, and the engine serves the rings in their turns (R297). -/
def execDescriptorAdmission (ring : Fin 64) (d : Desc) (blk : Option (List Byte)) (s : State) : Host.Outcome State Fault Refusal :=
  .next (s.fetchHead ring.val d blk).serve

/-! ### The commands due at a boundary (R293, R294, R448) -/

/-- An earlier command of the same family had no effect (R448). -/
def State.relied (s : State) (d : Due) : Bool :=
  s.ce.failed.any (fun x => decide (x.1 < d.seq) && (familiesOf d.cmd).contains x.2)

/-- What carries a command out is in service: its processor, or for an EXERCISE the OP that runs the pair (R290; 08 R238). -/
def State.canExec (s : State) (c : Cmd) : Bool :=
  s.execReady c && (match c with
    | .protCmd k g code => code ≠ 6 || !(s.group k.val g).inUse || s.pairOp (s.group k.val g)
    | _ => true)

/-- What the performance counters count of a command that has been carried out (12 R341): its table changes, its hot
patches, its executor. -/
def State.pmcRan (c : Cmd) (s : State) : State :=
  ((s.pmcEvent 0x0D none (changesOf c)).pmcEvent 0x0E none (patchesOf c)).pmcEvent 0x10 none (b2n (executorOf c).isSome)

/-- Entry `d` falls due. -/
def State.runDue (d : Due) (s : State) : State :=
  let s := { s with ce := { s.ce with due := s.ce.due.filter (fun e => decide (e.seq ≠ d.seq)) } }
  let r := s.readDue d.entry
  let s := r.2
  if d.ue || r.1 || !(s.canExec d.cmd) || (s.relied d && !(s.stillOk d.cmd)) then
    let s := { s with ce := { s.ce with failed := s.ce.failed ++ (familiesOf d.cmd).map (fun f => (d.seq, f)) } }
    s.addComp (d.comp s.stp.frame { status := 0x0D })
  else
    let r := s.apply d.ring d.cmd
    (r.2.pmcRan d.cmd).finish d r.1

/-- The commands due now whose place in Table CM-3 lies in `lo .. hi`, in that order. -/
def State.runSteps (lo hi : Nat) (s : State) : State :=
  let l := (s.dueAt s.stp.frame).filter (fun d => decide (lo ≤ min 79 d.step) && decide (min 79 d.step ≤ hi))
  foldS (dueSort s.stp.frame l) (fun d s => s.runDue d) s

/-- Failures that no waiting command came after are forgotten. -/
def State.pruneFailed (s : State) : State :=
  { s with ce := { s.ce with failed := s.ce.failed.filter (fun x => s.ce.due.any (fun d => decide (x.1 < d.seq) && !d.noBoundary)) } }

/-! ### The commands of Table CM-2, one by one -/

/-- The entry of a command that is carried out at once. -/
def State.entryOf (h : Hdr) (c : Cmd) (s : State) : Due :=
  { entry := s.freeEntry, seq := s.ce.seq, ring := h.ring.val, cc := (s.ring 0 h.ring.val).bind, index := h.index % 65536, tag := h.tag
    int := h.int, nocomp := h.nocomp, asap := h.asap, boundary := s.stp.frame, noBoundary := asapOnly c, cmd := c, step := stepOf c }

/-- A command that takes effect now, as the tests of the projection see it. -/
def State.dueNow (s : State) (c : Cmd) : Due :=
  { entry := s.freeEntry, seq := s.ce.seq, ring := 0, cc := 0, index := 0, tag := 0, int := false, nocomp := false, asap := false
    boundary := s.stp.frame, noBoundary := asapOnly c, cmd := c, step := stepOf c }

/-- What a command carried out at once comes to before it acts: a status and RESULT that stop it, or none. The commands
admitted for later boundaries bar it as they would at its admission (07 R193, R194, 08 R221). -/
def State.stops (s : State) (c : Cmd) : Option Eff :=
  match staticTest c with
  | some r => some { status := 0x06, result := r }
  | none =>
    if !(s.canExec c) then some { status := 0x0D }
    else match s.stateTest s s s.stp.frame false c with
    | some st => some { status := st }
    | none =>
      if s.namedLater s.stp.frame c || !(s.limitsHold (s.dueNow c)) then some { status := 0x07 }
      else if decide (c = .fabricCommit) then (s.commitClash s.stp.frame).map (fun f => { status := 0x08, result := f.toNat })
      else none

/-- What follows of pages and structures that a command has changed: selection states (07 R196), the check of 04 R105. -/
def State.follow (c : Cmd) (old s : State) : State :=
  match c with
  | .fabricCommit => (old.cnfChanges s).xcCheck
  | .cnfModify o => if o.hot then old.cnfChanges s else s
  | .lomapSet _ _ _ => s.xcCheck
  | _ => s

/-- A command of Table CM-2 takes effect now, as at its boundary (R293), with its completion; a command that is stopped
has no effect and completes with its status. In the fatal state the engine carries out nothing (13 R371). -/
def State.runNow (h : Hdr) (c : Cmd) (s : State) : State :=
  let d := s.entryOf h c
  if s.flt.fatal then s else
  match s.stops c with
  | some e => s.addComp (d.comp s.stp.frame e)
  | none => let r := s.apply h.ring.val c; ((s.follow c r.2).pmcRan c).finish d r.1

/-- A fence of Table CM-2 enters the due table now (R295). -/
def State.fenceNow (h : Hdr) (c : Cmd) (s : State) : State := if s.flt.fatal then s else s.enter (s.entryOf h c)

/-- NOP (R287). -/
def execNop (h : Hdr) (s : State) : Host.Outcome State Fault Refusal := .next (s.runNow h .nop)
/-- FENCE (R295). -/
def execFence (h : Hdr) (s : State) : Host.Outcome State Fault Refusal := .next (s.fenceNow h .fence)
/-- FENCE_ALL (R295). -/
def execFenceAll (h : Hdr) (s : State) : Host.Outcome State Fault Refusal := .next (s.fenceNow h .fenceAll)
/-- ECHO (R287). -/
def execEcho (h : Hdr) (v : Word) (s : State) : Host.Outcome State Fault Refusal := .next (s.runNow h (.echo v))
/-- TSW_SET (06 R173). -/
def execTswSet (h : Hdr) (o : TswRun) (s : State) : Host.Outcome State Fault Refusal := .next (s.runNow h (.tswSet o))
/-- TSW_FILL (06 R174). -/
def execTswFill (h : Hdr) (o : TswRun) (s : State) : Host.Outcome State Fault Refusal := .next (s.runNow h (.tswFill o))
/-- TSW_PATCH (06 R179). -/
def execTswPatch (h : Hdr) (o : TswRun) (s : State) : Host.Outcome State Fault Refusal := .next (s.runNow h (.tswPatch o))
/-- TSW_READ (06 R180). -/
def execTswRead (h : Hdr) (o : TswReadOp) (s : State) : Host.Outcome State Fault Refusal := .next (s.runNow h (.tswRead o))
/-- FABRIC_COMMIT (06 R175). -/
def execFabricCommit (h : Hdr) (s : State) : Host.Outcome State Fault Refusal := .next (s.runNow h .fabricCommit)
/-- XC_SET (04 R103). -/
def execXcSet (h : Hdr) (o : XcOp) (s : State) : Host.Outcome State Fault Refusal := .next (s.runNow h (.xcSet o))
/-- LOMAP_SET (05 R132). -/
def execLomapSet (h : Hdr) (m struct tu11 : Nat) (s : State) : Host.Outcome State Fault Refusal := .next (s.runNow h (.lomapSet m struct tu11))
/-- TRIB_CFG (05 R136, R135). -/
def execTribCfg (h : Hdr) (t : Nat) (c : TribSet) (s : State) : Host.Outcome State Fault Refusal := .next (s.runNow h (.tribCfg t c))
/-- SIG_SET (05 R152). -/
def execSigSet (h : Hdr) (o : SigOp) (s : State) : Host.Outcome State Fault Refusal := .next (s.runNow h (.sigSet o))
/-- CNF_CREATE (07 R192, R193). -/
def execCnfCreate (h : Hdr) (n : Nat) (o : ConfSet) (s : State) : Host.Outcome State Fault Refusal := .next (s.runNow h (.cnfCreate n o))
/-- CNF_JOIN (07 R192, R193). -/
def execCnfJoin (h : Hdr) (p : Nat) (o : PartSet) (s : State) : Host.Outcome State Fault Refusal := .next (s.runNow h (.cnfJoin p o))
/-- CNF_LEAVE (07 R192, R193). -/
def execCnfLeave (h : Hdr) (p : Nat) (s : State) : Host.Outcome State Fault Refusal := .next (s.runNow h (.cnfLeave p))
/-- CNF_MODIFY (07 R193, R195). -/
def execCnfModify (h : Hdr) (o : CnfMod) (s : State) : Host.Outcome State Fault Refusal := .next (s.runNow h (.cnfModify o))
/-- CNF_DESTROY (07 R192, R193). -/
def execCnfDestroy (h : Hdr) (n : Nat) (s : State) : Host.Outcome State Fault Refusal := .next (s.runNow h (.cnfDestroy n))
/-- CNF_QUERY (07 R218). -/
def execCnfQuery (h : Hdr) (a : DWord) (n : Nat) (s : State) : Host.Outcome State Fault Refusal := .next (s.runNow h (.cnfQuery a n))
/-- TONE_LOAD (07 R217). -/
def execToneLoad (h : Hdr) (d : Nat) (t : ToneDef) (s : State) : Host.Outcome State Fault Refusal := .next (s.runNow h (.toneLoad d t))
/-- PROT_GROUP (08 R220). -/
def execProtGroup (h : Hdr) (o : ProtOp) (s : State) : Host.Outcome State Fault Refusal := .next (s.runNow h (.protGroup o))
/-- PROT_CMD (08 R231). -/
def execProtCmd (h : Hdr) (k : Fin 4) (g code : Nat) (s : State) : Host.Outcome State Fault Refusal := .next (s.runNow h (.protCmd k g code))
/-- PROT_QUERY (08 R251). -/
def execProtQuery (h : Hdr) (a : DWord) (k : Fin 4) (g : Nat) (s : State) : Host.Outcome State Fault Refusal := .next (s.runNow h (.protQuery a k g))
/-- TRACE_SET (04 R127). -/
def execTraceSet (h : Hdr) (o : TraceOp) (s : State) : Host.Outcome State Fault Refusal := .next (s.runNow h (.traceSet o))
/-- TRACE_READ (04 R128). -/
def execTraceRead (h : Hdr) (a : DWord) (k i : Nat) (s : State) : Host.Outcome State Fault Refusal := .next (s.runNow h (.traceRead a k i))
/-- OH_SET (03 R86, 04 R114). -/
def execOhSet (h : Hdr) (code : Nat) (t : Word) (v : Nat) (s : State) : Host.Outcome State Fault Refusal := .next (s.runNow h (.ohSet code t v))
/-- STREAM_OPEN (11 R304). -/
def execStreamOpen (h : Hdr) (o : StreamOp) (s : State) : Host.Outcome State Fault Refusal := .next (s.runNow h (.streamOpen o))
/-- STREAM_CLOSE (11 R310). -/
def execStreamClose (h : Hdr) (g : Nat) (i o : Bool) (s : State) : Host.Outcome State Fault Refusal := .next (s.runNow h (.streamClose g i o))
/-- STREAM_FLUSH (11 R319). -/
def execStreamFlush (h : Hdr) (g : Nat) (i o : Bool) (s : State) : Host.Outcome State Fault Refusal := .next (s.runNow h (.streamFlush g i o))
/-- GFP_OPEN (11 R321). -/
def execGfpOpen (h : Hdr) (o : GfpOp) (s : State) : Host.Outcome State Fault Refusal := .next (s.runNow h (.gfpOpen o))
/-- GFP_CLOSE (11 R325). -/
def execGfpClose (h : Hdr) (ch : Nat) (t r : Bool) (s : State) : Host.Outcome State Fault Refusal := .next (s.runNow h (.gfpClose ch t r))
/-- GFP_FLUSH (11 R319). -/
def execGfpFlush (h : Hdr) (ch : Nat) (t r : Bool) (s : State) : Host.Outcome State Fault Refusal := .next (s.runNow h (.gfpFlush ch t r))
/-- KEY_LOAD (14 R381). -/
def execKeyLoad (h : Hdr) (slot : Nat) (w : Bool) (key : List Byte) (s : State) : Host.Outcome State Fault Refusal := .next (s.runNow h (.keyLoad slot w key))
/-- KEY_ERASE (14 R382). -/
def execKeyErase (h : Hdr) (slot : Nat) (s : State) : Host.Outcome State Fault Refusal := .next (s.runNow h (.keyErase slot))
/-- DCC_AUTH_CFG (11 R331). -/
def execDccAuthCfg (h : Hdr) (o : DccAuthOp) (s : State) : Host.Outcome State Fault Refusal := .next (s.runNow h (.dccAuthCfg o))
/-- RES_CLAIM (14 R389, R394). -/
def execResClaim (h : Hdr) (rtype i lease : Nat) (s : State) : Host.Outcome State Fault Refusal := .next (s.runNow h (.resClaim rtype i lease))
/-- RES_RELEASE (14 R390, R394). -/
def execResRelease (h : Hdr) (rtype i : Nat) (s : State) : Host.Outcome State Fault Refusal := .next (s.runNow h (.resRelease rtype i))
/-- PM_CFG (12 R338). -/
def execPmCfg (h : Hdr) (sc i : Nat) (on : Bool) (s : State) : Host.Outcome State Fault Refusal := .next (s.runNow h (.pmCfg sc i on))

end Sys2Proof.Machine
end

