-- ==== Sys2Proof/Machine/Hif.lean ====
section
/-! DEFINITION. The host interface (09_host_rings.md R254-R283, 16_register_map.md R422): doorbells, ring set-up,
index write-backs, completion writes, stops of DMA, MSI-X, host resets. -/

namespace Sys2Proof.Machine

/-! ### Doorbells (R262, R263) -/

/-- The tests of R263 on a doorbell value of a ring. -/
def State.doorbellBad (s : State) (kind n : Nat) (v : Word) : Bool :=
  let r := s.ring kind n
  let len := ringLen kind r
  let x := wfld v 0 16
  !r.en || decide (len ≤ x) || decide (wfld v 16 16 ≠ 0) ||
    (if deviceWritten kind then decide (r.outstanding kind < (x + len - r.host) % len)
     else decide ((x + len - r.dev) % len < r.pendingCount kind))

/-- A doorbell write; the PMC counts those of the CQs by ring. -/
def State.doorbell (kind n : Nat) (v : Word) (s : State) : State :=
  if !s.glb.ready || decide (ringCount kind ≤ n) then s
  else if s.doorbellBad kind n v then
    ({ s with hif := { s.hif with dbErr := true, dbKind := kind, dbRing := n } }).raise .hifDbErr 0x141 (kind * 256 + n) 0
  else (s.modRing kind n (fun r => { r with host := wfld v 0 16 })).pmcEvent 0x0B (some (if kind = 0 then n else 64)) 1

/-- The ring whose doorbell is the word at BAR2 offset `o` (Table HR-4; 16 R423): BLOCK + 8 n, no other offset. -/
def doorbellAt (o : Nat) : Option (Nat × Nat) :=
  if o % 8 = 0 && decide (o / 0x1000 < 10) && decide (o % 0x1000 / 8 < ringCount (o / 0x1000)) then some (o / 0x1000, o % 0x1000 / 8)
  else none

/-- A write of `bytes` bytes to BAR2 (R257, 16 R423): naturally aligned, of 4 bytes, or of 8, of which the low half alone can
meet a doorbell. -/
def State.writeBar2 (o bytes : Nat) (v : DWord) (s : State) : State :=
  if (bytes = 4 || bytes = 8) && o % bytes = 0 then
    match doorbellAt o with
    | some x => s.doorbell x.1 x.2 (v.extractLsb' 0 32)
    | none => s
  else s

/-- DOORBELL_WRITE (R262, R263). -/
def execDoorbellWrite (o bytes : Nat) (v : DWord) (s : State) : Host.Outcome State Fault Refusal := .next (s.writeBar2 o bytes v)

/-! ### Index write-backs and completions (R268, R269) -/

/-- Whether an index move of the ring waits for its write-back: CQ, VI, GT and OT. -/
def State.wbWaits (s : State) (kind n : Nat) : Bool := s.dmaOn && (s.ring kind n).wbDue

/-- The write-back of R268: index and frame, at HIF.RWB unless it is 0, then the interrupt of Table HR-9. -/
def State.indexWriteback (kind n : Nat) (s : State) : State :=
  if !(s.wbWaits kind n) then s else
  let r := s.ring kind n
  let i := s.seenIdx kind n
  let s := if r.wb = 0 then s else s.dma (r.wb.toNat / 8 * 8) (leBytes 4 i ++ leBytes 4 s.stp.frame.toNat)
  let s := s.modRing kind n (fun r => { r with wbDue := false })
  whenS (r.intNow false) (fun s => s.intr r.vec) s

/-- CONSUMER_INDEX_WRITEBACK (R268). -/
def execConsumerIndexWriteback (kind : Fin 10) (n : Nat) (s : State) : Host.Outcome State Fault Refusal :=
  .next (s.indexWriteback kind.val n)

/-- The first completion that waits for CC `cc` is written; its due-table entry is free. A refusal's completion frees
the index that stopped at it (R22, R282). -/
def State.writeComp (cc : Nat) (s : State) : State :=
  if !(s.ccRoom cc) then s else
  match takeComp cc s.ce.comps with
  | none => s
  | some (c, rest) =>
    let s := ({ s with ce := { s.ce with comps := rest } }).putComp c
    if c.refusal then s.modRing 0 c.ring (fun r => { r with wbDue := true }) else s

/-- COMPLETION_WRITE (R269, R282, R284): afterwards the heads that waited for an entry are judged again. -/
def execCompletionWrite (cc : Fin 64) (s : State) : Host.Outcome State Fault Refusal :=
  .next (if s.ccRoom cc.val && s.ce.comps.any (fun c => c.cc = cc.val) then (s.writeComp cc.val).serveHeads else s)

/-- The held completions of CC `cc` are written in the order they arose, while it has room (R282). -/
def State.drainHeld (cc : Nat) (s : State) : State :=
  foldS (s.ce.comps.filter (fun c => c.cc = cc && c.held)) (fun _ s => s.writeComp cc) s

/-- Completions not yet written are held while their CC is stopped (R282). -/
def State.holdComps (s : State) : State :=
  { s with ce := { s.ce with comps := s.ce.comps.map (fun c => if s.ringRun 1 c.cc then c else { c with held := true }) } }

/-! ### Stall watchdog (10 R301) -/

/-- HIF.CE_STATUS.STALL is set. -/
def State.ceStalled (s : State) : State := { s with ce := { s.ce with stall := true } }

/-- CE_STALL (10 R301): a fetched descriptor has waited STALL_LIM frames; it is told once. -/
def execCeStall (ring : Fin 64) (s : State) : Host.Outcome State Fault Refusal :=
  let lim := s.rf 0x2204 0 16
  let r := s.ring 0 ring.val
  .next (if lim ≠ 0 && r.head.isSome && r.waited = lim then
      ((s.setRing 0 ring.val { r with waited := lim + 1 }).raise .ceStall 0x150 (ring.val * 65536 + r.dev) 0).ceStalled
    else s)

/-! ### Enable, disable, reset of a ring (R258, R261, R266, R279, R282, 10 R298) -/

/-- EN of a ring is cleared: the fetched head of a CQ is refused with ABORTED; completions of a CC are held; blocks of a VO
ring and received frames of OX are discarded (R281). -/
def State.ringOff (kind n : Nat) (s : State) : State :=
  let r := s.ring kind n
  let s := s.setRing kind n { r with en := false, cplTo := false }
  if kind = 0 then
    match r.head with
    | some (d, _) => s.refuse n d 0x0A 0
    | none => s
  else if kind = 1 then s.holdComps
  else if kind = 3 then s.outStops
  else if kind = 7 then s.oxStops
  else s

/-- EN of a ring is set: a CQ needs its bound CC enabled (R266); the held completions of a CC are written (R282). -/
def State.ringOn (kind n : Nat) (s : State) : State :=
  let r := s.ring kind n
  if kind = 0 && !(s.ring 1 r.bind).en then s.setRing kind n { r with cfgErr := true }
  else
    let s := s.setRing kind n { r with en := true }
    if kind = 1 then (s.drainHeld n).serveHeads else s

/-- A write of HIF.RCFG for a ring: BIND of an enabled CQ and SIZE of an enabled ring ignore it (R266, HIF.RCFG); before
READY all of it is ignored (R255). -/
def State.rcfgWrite (kind n : Nat) (v : Word) (s : State) : State :=
  if !s.glb.ready || decide (ringCount kind ≤ n) then s else
  let r := s.ring kind n
  let w := { r with weight := wfld v 26 4, intMode := wfld v 4 2, bind := if r.en then r.bind else wfld v 16 6,
                    size := if r.en then r.size else wfld v 8 5 }
  let s := s.setRing kind n w
  if wbit v 31 && !r.en then s.ringOn kind n
  else if !(wbit v 31) && r.en then s.ringOff kind n
  else s

/-- RING_ENABLE (R261, R266, R282). -/
def execRingEnable (kind : Fin 10) (n : Nat) (v : Word) (s : State) : Host.Outcome State Fault Refusal :=
  .next (if (s.ring kind.val n).en then s else s.rcfgWrite kind.val n (v ||| 0x80000000#32))

/-- RING_DISABLE (10 R298, R281). -/
def execRingDisable (kind : Fin 10) (n : Nat) (s : State) : Host.Outcome State Fault Refusal :=
  .next (if (s.ring kind.val n).en then s.ringOff kind.val n else s)

/-- A write of 1 to HIF.RRESET: indices and phase; the locks of a CQ break (R261; 14 R391). -/
def State.ringReset (kind n : Nat) (s : State) : State :=
  let r := s.ring kind n
  if !s.glb.ready || decide (ringCount kind ≤ n) || r.en then s
  else
    let s := s.setRing kind n { r with host := 0, dev := 0, phase := true }
    if kind = 0 then s.breakOwners (fun o => o = 0x0800 + n) else s

/-- RING_RESET (R261). -/
def execRingReset (kind : Fin 10) (n : Nat) (s : State) : Host.Outcome State Fault Refusal := .next (s.ringReset kind.val n)

/-- HIF_CPL_TO (13 R373): a DMA read of a ring times out and is repeated once; the second timeout disables the ring. -/
def execHifCplTo (kind : Fin 10) (n : Nat) (second : Bool) (s : State) : Host.Outcome State Fault Refusal :=
  let k := kind.val
  let r := s.ring k n
  .next (if !(s.ringRun k n) || deviceWritten k || decide (ringCount k ≤ n) || second ≠ r.cplTo then s
    else
      let s := s.raise .hifCplTo 0x140 (k * 256 + n) 0
      if second then s.ringOff k n else s.setRing k n { r with cplTo := true })

/-! ### Bus mastering, power states, MSI-X (R273, R275, R283; 16 R422) -/

/-- Ring DMA may run again: pending vectors are sent, held completions written, heads judged. -/
def State.dmaResumes (s : State) : State :=
  if !s.dmaOn then s else
  (foldS (List.range 64) (fun cc (s : State) => if (s.ring 1 cc).en then s.drainHeld cc else s) s.flushVecs).serveHeads

/-- BUS_MASTER_ENABLE (R283). -/
def execBusMasterEnable (s : State) : Host.Outcome State Fault Refusal :=
  .next (if s.hif.bme then s else ({ s with hif := { s.hif with bme := true } }).dmaResumes)

/-- BUS_MASTER_DISABLE (R283): DMA stops; completions are held. -/
def execBusMasterDisable (s : State) : Host.Outcome State Fault Refusal :=
  .next ({ s with hif := { s.hif with bme := false } }).holdComps.outStops.oxStops

/-- D3HOT_ENTRY (R254, R283). -/
def execD3hotEntry (s : State) : Host.Outcome State Fault Refusal :=
  .next ({ s with hif := { s.hif with d3hot := true } }).holdComps.outStops.oxStops

/-- D0_ENTRY (R283). -/
def execD0Entry (s : State) : Host.Outcome State Fault Refusal :=
  .next (if s.hif.d3hot then ({ s with hif := { s.hif with d3hot := false } }).dmaResumes else s)

/-- MSIX_UNMASK (R273, R283): the function mask, or the mask bit of vector `v`, is cleared; what it held back is sent. -/
def execMsixUnmask (v : Option (Fin 64)) (s : State) : Host.Outcome State Fault Refusal :=
  .next (match v with
    | none => ({ s with hif := { s.hif with funcMask := false } }).flushVecs
    | some v =>
      let x := s.vec v.val
      ({ s with hif := { s.hif with vecs := tset {} s.hif.vecs v.val { x with ctl := x.ctl &&& ~~~ 1#32 } } }).flushVecs)

/-- LINK_UP (R255, HIF.LINK): the link enters or leaves L0 at a width and speed. -/
def execLinkUp (up : Bool) (width speed : Nat) (s : State) : Host.Outcome State Fault Refusal :=
  .next { s with hif := { s.hif with linkUp := up, linkWidth := if up then width % 16 else 0, linkSpeed := if up then speed % 16 else 0 } }

/-! ### Host resets (R279, R283; 14 R391; 15 R412) -/

/-- The purge of R283: accepted commands and held completions are discarded, the CQs are empty. -/
def State.purge (s : State) : State :=
  let n := s.ce.due.length
  let s := { s with ce := { s.ce with due := [], comps := [], failed := [] } }
  let s := { s with hif := { s.hif with purged := min n (2 ^ 17 - 1) } }
  foldS (List.range 64) (fun q (s : State) => s.modRing 0 q (fun r => { r with dev := r.host, fence := none, wbDue := false })) s

/-- PERST_N and FLR reset the host interface only (R279): EN of every ring, config space and the MSI-X table; code `last`
of HIF.RESET_CAUSE. The queue sets' locks break; a push over PCIe starts again (15 R412). -/
def State.hostReset (last : Nat) (s : State) : State :=
  let s := { s with hif := { s.hif with bme := false, d3hot := false, vecs := [], pend := 0, funcMask := false, rstLast := last } }
  let s := foldS s.hif.rings (fun e (s : State) => if e.2.en then s.ringOff (e.1 / 256) (e.1 % 256) else s) s.holdComps.outStops.oxStops
  let s := if s.rb 0x0010 0 then s.purge else s
  let s := s.breakOwners (fun o => decide (0x0800 ≤ o) && decide (o < 0x0840))
  if s.boot.owned && !s.boot.ownerI2c then
    { s with boot := { s.boot with fifo := [], image := [], eod := false, owned := false, ovf := false } }
  else s

/-- PERST_N (R279): a conventional reset, after which the link trains again. -/
def execPerstN (s : State) : Host.Outcome State Fault Refusal :=
  .next (({ s with hif := { s.hif with linkUp := false, linkWidth := 0, linkSpeed := 0 } }).hostReset 1)

/-- FLR (R279). -/
def execFlr (s : State) : Host.Outcome State Fault Refusal := .next (s.hostReset 2)

end Sys2Proof.Machine
end

