-- ==== Sys2Proof/Machine/Mgmt.lean ====
section
/-! DEFINITION. The management plane (12_management_plane.md R336-R358): PM banks, performance counters, telemetry,
scrubbing, calibration, the chalk-log registers, servicing models. -/

namespace Sys2Proof.Machine

/-- MP is in service. -/
def State.mpIn (s : State) : Bool := s.inSvc 1

/-! ### PM (R336-R340) -/

/-- A path starts at timeslot `k % 192` of port `k / 192`. -/
def State.pathStarts (s : State) (k : Nat) : Bool :=
  let n := k / 192
  let t := k % 192
  decide (t < 3 * s.portN n) && decide ((s.pathOf n t).1 = t)

/-- Raw counters of a unit, in record order (Table MG-1). -/
def State.pmCounters (s : State) (scope i : Nat) : List Nat :=
  match scope with
  | 0 => let p := s.port i; [p.b1Cnt, p.b2Cnt, p.reiCnt].map (fun w => w.toNat)
  | 1 => let p := s.path i
         [p.b3, p.rei, p.inc, p.dec, p.ndf, p.slip].map (fun w => if s.pathStarts i then w.toNat else 0)
  | 2 => let p := s.lo i; [p.bipCnt.toNat, p.reiCnt.toNat]
  | 3 => let x := s.trib i; [x.crcCnt, x.febe, x.frmErr, x.slipRep, x.slipDel].map (fun w => w.toNat)
  | 4 => [0, 1, 3, 4, 5, 6].map (fun c => (tget 0 (s.gfp i).cnts c).toNat)
  | 5 => (List.range 8).map (fun c => (tget 0 (s.strm i).cnts c).toNat)
  | _ => []

/-- Defects declared at present (Table MG-1). -/
def State.pmStanding (s : State) (scope i : Nat) : Nat :=
  match scope with
  | 0 => (s.port i).defects.toNat / 2 % 256
  | 1 => if s.pathStarts i then (s.path i).defects.toNat else 0
  | 2 => (s.lo i).defects.toNat + putB ((s.trib i).cfg.en && (s.h4 (s.tuH4 (s.trib i).cfg.pos)).lom) 8
  | 3 => (s.trib i).defects.toNat
  | 4 => b2n (s.gfp i).lfd
  | _ => 0

/-- Defect-seen bits of a unit (R337): declared at present, or on either side of a change since the last latch, which takes in
what was declared then. -/
def State.pmSeen (s : State) (scope i : Nat) : Nat :=
  s.pmStanding scope i ||| (if scope = 1 && !(s.pathStarts i) then 0 else tget 0 s.mgt.seen (65536 * scope + i))

/-- The record of a unit as latched (Table MG-3). -/
def State.pmRec (s : State) (k : Nat) : PmRec :=
  { scope := k / 65536, index := k % 65536, defects := s.pmSeen (k / 65536) (k % 65536), cnts := s.pmCounters (k / 65536) (k % 65536) }

def PmRec.bytes (r : PmRec) : List Byte :=
  leBytes 1 r.scope ++ leBytes 1 r.cnts.length ++ leBytes 2 r.index ++ leBytes 2 r.defects ++ leBytes 2 0
    ++ (List.range 10).flatMap (fun i => leBytes 4 (r.cnts.getD i 0))

/-- A bank is not delivered whole (R340). -/
def State.pmLose (second : Word) (s : State) : State :=
  ({ s with mgt := { s.mgt with pmLost := (s.mgt.pmLost + 1) % 65536, lostBefore := true } }).raise .pmLost 0x161 second.toNat 0

/-- The latch of a story second (R337, R340): the bank, the defect-seen bits cleared. -/
def State.pmLatch (s : State) : State :=
  let recs := (tkeys (fun b => b) s.mgt.incl).map (fun k => s.pmRec k)
  let s := if s.mgt.bankOpen then s.pmLose s.mgt.second else s
  let n := s.mgt.second + 1
  let s := { s with mgt := { s.mgt with second := n, seen := [], bank := [], bankOpen := false, bankTotal := 0, bankPart := 0 } }
  if !s.mpIn then { s with mgt := { s.mgt with lostBefore := true } }
  else if s.rb 0xA0000 31 && s.ringRun 9 0 then
    { s with mgt := { s.mgt with bank := recs, bankOpen := true, bankTotal := recs.length, bankFrame := s.stp.frame, lostBefore := false,
                                 bankFlags := putB s.mgt.lostBefore 2 + putB s.stp.epochIn 1 + putB s.stp.short 0 } }
  else s.pmLose n

/-- The header of a part (Table MG-2). -/
def State.pmHeader (s : State) (n : Nat) (last : Bool) : List Byte :=
  let m := s.mgt
  let flags := if m.bankPart = 0 then m.bankFlags else m.bankFlags % 4
  leBytes 4 m.second.toNat ++ leBytes 4 m.bankFrame.toNat ++ leBytes 2 m.bankPart ++ leBytes 2 0 ++ leBytes 4 n
    ++ leBytes 4 m.bankTotal ++ leBytes 1 (putB last 3 + flags) ++ leBytes 11 0

/-- PM_PART_WRITE (R339): the next part of the bank goes into buffer `d` of the PM ring. -/
def State.pmPart (d : BufDesc) (s : State) : State :=
  if !(s.hasBuf 9 0) || !s.mgt.bankOpen || !s.mpIn then s
  else if !(bufOk d) then s.badDesc 9 0 d
  else if d.len.toNat < 80 then s.writeBack 9 0 d 0 5
  else
    let n := min s.mgt.bank.length ((d.len.toNat - 32) / 48)
    let last := decide (n = s.mgt.bank.length)
    let s := s.dma d.addr.toNat (s.pmHeader n last ++ (s.mgt.bank.take n).flatMap PmRec.bytes)
    let s := { s with mgt := { s.mgt with bank := s.mgt.bank.drop n, bankPart := s.mgt.bankPart + 1, bankOpen := !last } }
    s.writeBack 9 0 d (32 + 48 * n) 0

/-- PM_PART_WRITE (R339). -/
def execPmPartWrite (d : BufDesc) (s : State) : Host.Outcome State Fault Refusal := .next (s.pmPart d)

/-! ### Performance counters (R341-R344) -/

/-- PMC_SNAP (R343). -/
def State.pmcSnap (s : State) : State := { s with pmc := { s.pmc with shadow := s.pmc.cnt, snap := s.now } }

/-- PMC_SNAP (R343). -/
def execPmcSnap (s : State) : Host.Outcome State Fault Refusal := .next s.pmcSnap

/-- PMC_FREEZE (R343). -/
def execPmcFreeze (on : Bool) (s : State) : Host.Outcome State Fault Refusal :=
  .next (s.setReg 0x6000 (if on then s.reg 0x6000 ||| 2#32 else s.reg 0x6000 &&& ~~~ 2#32))

/-- A 64-bit write of PMC.CNT[j] (R344). -/
def State.pmcPreset (j : Nat) (v : DWord) (s : State) : State :=
  { s with pmc := { s.pmc with cnt := tset 0 s.pmc.cnt j (v.toNat % 2 ^ 48) } }

/-- PMC_PRESET (R344). -/
def execPmcPreset (j : Fin 13) (v : DWord) (s : State) : Host.Outcome State Fault Refusal := .next (s.pmcPreset j.val v)

/-- Counter `j` counts at all (R341): a programmable one with EN = 1 and an EVENT of Table MG-4. -/
def State.pmcCounts (s : State) (j : Nat) : Bool :=
  let w := 0x6020 + 4 * (j - 5)
  decide (j ≤ 4) || (s.rb w 31 && decide (1 ≤ s.rf w 0 8) && decide (s.rf w 0 8 ≤ 0x10))

/-- PMC_OVF (R342): counter `j` advances past its last value. -/
def execPmcOvf (j : Fin 13) (s : State) : Host.Outcome State Fault Refusal :=
  .next (if s.pmcCounts j.val then s.pmcAdd j.val (2 ^ 48 - tget 0 s.pmc.cnt j.val % 2 ^ 48) else s)

/-! ### Telemetry (R346, R347) -/

/-- Nominal voltages of VDD, VDDM, AVDD, AVDDH, VDDIO in mV (17 Table EL-5). -/
def nominal : List Nat := [750, 850, 900, 1200, 1800]

/-- A rail lies outside its nominal voltage by more than VPCT % (R347). -/
def railBad (pct r mv : Nat) : Bool :=
  let n := nominal.getD r 0
  decide (mv * 100 < n * (100 - pct)) || decide (n * (100 + pct) < mv * 100)

/-- The least rail outside the window. -/
def badRail (pct : Nat) (mv : Nat → Nat) : Option Nat := (List.range 5).find? (fun r => railBad pct r (mv r))

/-- The hottest sensor. -/
def hottest (t : Nat → Int) : Nat := (List.range 8).foldl (fun b k => if t b < t k then k else b) 0

/-- HOT or CRIT after a sample against a limit in C: declared above it, cleared at 5 C below or less (R347). -/
def hotNext (lim : Nat) (t : Int) (on : Bool) : Bool := if on then decide ((lim : Int) * 8 - 40 < t) else decide ((lim : Int) * 8 < t)

/-- 16 bits of a signed value. -/
def int16 (v : Int) : Nat := (BitVec.ofInt 16 v).toNat

/-- A sample is posted (R346), with the alarms of R347. -/
def State.takeSample (x : Sample) (s : State) : State :=
  let m := s.mgt
  let lim := s.reg 0xA0140
  let t (k : Nat) : Int := x.temps.getD k (tget 0 m.temp k)
  let mv (r : Nat) : Nat := x.rails.getD r (tget 0 m.volt r)
  let h := hottest t
  let pct := max 1 (wfld lim 0 4)
  let old := badRail pct (fun r => tget 0 m.volt r)
  let hot := hotNext (wfld lim 8 8) (t h) m.hot
  let crit := hotNext (wfld lim 16 8) (t h) m.crit
  let bad := badRail pct mv
  let rail := (if bad.isSome then bad else old).getD 0
  let temp := (List.range 8).foldl (fun a k => tset 0 a k (t k)) m.temp
  let tmax := (List.range 8).foldl (fun a k => tset (-32768) a k (max (tget (-32768) a k) (t k))) m.tempMax
  let volt := (List.range 5).foldl (fun a r => tset 0 a r (mv r)) m.volt
  let s := { s with mgt := { m with temp := temp, tempMax := tmax, volt := volt, power := x.power, sensFrame := s.stp.frame,
                                    hot := hot, crit := crit, voltBad := bad.isSome } }
  let s := if hot = m.hot then s else s.raise .sensTemp 0x188 h (b2n hot + int16 (t h) * 65536)
  let s := if crit = m.crit then s else s.raise .sensCrit 0x188 h (b2n crit + int16 (t h) * 65536)
  if bad.isSome = m.voltBad then s else s.raise .sensVolt 0x188 rail (b2n bad.isSome + mv rail % 65536 * 65536)

/-- The sample the registers hold. -/
def State.heldSample (s : State) : Sample :=
  { temps := (List.range 8).map (fun k => tget 0 s.mgt.temp k), rails := (List.range 5).map (fun r => tget 0 s.mgt.volt r), power := s.mgt.power }

/-! ### Scrubbing (R348) -/

/-- An error that a plain memory holds: corrected in place, or reported and left for its next functional read. -/
def State.scrubPlain (m : Mem) (d : Bool) (s : State) : State := if d then s else s.clearUpset m

/-- The scrubber reads word `m` and finds its error (R348): reported and handled by the owning block's rules. -/
def State.scrubRead (m : Mem) (s : State) : State :=
  match s.upsetAt m with
  | none => s
  | some d =>
    let s := { s with mgt := if d then { s.mgt with scrubUe := s.mgt.scrubUe + 1 } else { s.mgt with scrubCe := s.mgt.scrubCe + 1 } }
    match m with
    | .cm b k => s.cmRead b k
    | .dm r h w => s.dmRead r h w
    | .participant b p => s.rsRead false b p
    | .conference b c => s.rsRead true b c
    | .group k g => s.groupRead k g
    | .due e =>
      let s := (s.readDue e).2
      { s with ce := { s.ce with due := s.ce.due.map (fun x => if d && x.entry = e then { x with ue := true } else x) } }
    | .lane p => ((s.scrubPlain m d).cnfEcc d 0 p).cnfOnce (if d then .cnfStUe else .cnfStCe) (0x070 + p / 4096) p 0
    | .collector c => ((s.scrubPlain m d).cnfEcc d 2 c).cnfOnce (if d then .cnfColUe else .sramCe) (0x070 + s.lowLane c) c 0
    | .key k => (s.scrubPlain m d).sramErr 0x183 k.val d
    | .cmac k => (s.scrubPlain m d).sramErr 0x184 k.val d
    | .lock i => (s.scrubPlain m d).sramErr 0x185 i.val d
    | .registry _ r i =>
      let both := decide (s.resUpset (resKey r.val i) = some true)
      (s.scrubPlain m both).sramErr 0x186 (resKey r.val i) both
    | .reaction _ _ => (s.scrubPlain m d).sramErr 0x180 0 d
    | .staging g => (s.scrubPlain m d).sramErr 0x142 g.val d
    | .other src a => (s.scrubPlain m d).sramErr src a d

/-- One word of the sweep. -/
def State.scrubWord (m : Mem) (s : State) : State :=
  let s := s.scrubRead m
  { s with mgt := { s.mgt with toScrub := s.mgt.toScrub.filter (fun (u : Upset) => decide (u.mem ≠ m)) } }

/-- SCRUB_WORD (R348): the sweep reaches a word, with an error that has just arisen there where `hit` says so. -/
def execScrubWord (m : Mem) (hit : Option Bool) (s : State) : Host.Outcome State Fault Refusal :=
  .next (if s.mgt.sweepOn && s.mpIn then
      (match hit with | some d => s.addUpsets [{ mem := m, double := d }] | none => s).scrubWord m
    else s)

/-- A sweep starts; one that has not ended is counted in MISSED (R348). -/
def State.sweepStart (s : State) : State :=
  { s with mgt := { s.mgt with missed := (s.mgt.missed + b2n s.mgt.sweepOn) % 65536, sweepOn := true, toScrub := s.upsets } }

/-- The sweep ends, every word read (R348). -/
def State.sweepEnd (s : State) : State :=
  if !s.mgt.sweepOn || !s.mpIn then s else
  let s := foldS s.mgt.toScrub (fun (u : Upset) (s : State) => s.scrubWord u.mem) s
  { s with mgt := { s.mgt with sweepOn := false, toScrub := [], sweeps := (s.mgt.sweeps + 1) % 65536 } }

/-! ### Calibration and the story second (R349, R337, R346) -/

/-- MP recalibrates (R349); no transmitted or received bit changes. -/
def State.calibrate (s : State) : State := { s with mgt := { s.mgt with calSeconds := 0, cals := s.mgt.cals + 1 } }

/-- CALIBRATION (R349): every 64 story seconds. -/
def execCalibration (s : State) : Host.Outcome State Fault Refusal :=
  .next (if decide (64 ≤ s.mgt.calSeconds) && s.mpIn && !s.glb.svc then s.calibrate else s)

/-- At the boundary that begins a story second (02 R55) the limits of messages to one a story second start again (06 R184, 07 R214, 05 R147, 08 R245, 11 R318). -/
def State.newSecond (s : State) : State :=
  { s with tsw := { s.tsw with seen := [] }, cnf := { s.cnf with seen := [] }
           strs := tmapAll {} (fun _ (x : Stream) => { x with lateSeen := false, ckuSeen := false, dropSeen := false }) s.strs
           dccs := tmapAll {} (fun _ (x : Dcc) => { x with failSeen := false }) s.dccs
           tribs := s.tribs.map (fun (e : Nat × Trib) => (e.1, { e.2 with slipSeen := false }))
           hwys := tmapAll {} (fun _ (x : Hwy) => { x with slipSeen := false }) s.hwys
           prt := { s.prt with groups := tmapAll {} (fun _ (x : Group) => { x with merge := { x.merge with bothSeen := false } }) s.prt.groups } }

/-- A story second begins (R55, R337, R346, R348, R349). -/
def State.storySecond (x : Sample) (s : State) : State :=
  if !s.stp.atSecond then s else
  let s := s.pmLatch
  let s := { s with stp := { s.stp with atSecond := false, short := false, epochIn := false } }
  let s := if s.mpIn && !s.glb.svc then s.takeSample x else s
  let s := s.sweepStart
  { s with mgt := { s.mgt with calSeconds := s.mgt.calSeconds + 1 } }

/-- STORY_SECOND (02 R55). -/
def execStorySecond (x : Sample) (s : State) : Host.Outcome State Fault Refusal := .next (s.storySecond x)

/-! ### Servicing models (R356-R358) -/

/-- A write of MGT.LEGACY_CMD (R358): the task completes at the end of the next window, F:2304 to F:2429, which is that of
the next frame where the write comes inside a window; CAL too, within its 64 windows (assumption 87). -/
def State.legacyCmd (op : Nat) (s : State) : State :=
  if s.mgt.legacyTask ≠ 0 || !s.glb.svc || op % 4 = 0 then { s with mgt := { s.mgt with legacyErr := true } }
  else { s with mgt := { s.mgt with legacyTask := op % 4, legacyLeft := if s.stp.phase < 2304 then 1 else 2 } }

/-- LEGACY_SENSE (R358). -/
def execLegacySense (s : State) : Host.Outcome State Fault Refusal := .next (s.legacyCmd 1)
/-- LEGACY_CAL (R358). -/
def execLegacyCal (s : State) : Host.Outcome State Fault Refusal := .next (s.legacyCmd 2)
/-- LEGACY_SCRUB_REPORT (R358). -/
def execLegacyScrubReport (s : State) : Host.Outcome State Fault Refusal := .next (s.legacyCmd 3)

/-- What a legacy task does as it completes (R358, Table MG-7). -/
def State.legacyEffect (x : Sample) (s : State) : State :=
  if s.mgt.legacyTask = 1 then
    let s := s.takeSample x
    let d := (List.range 8).foldl (fun (a : Tab Int) k => tset 0 a k (tget 0 s.mgt.temp k)) s.mgt.legacyData
    let d := (List.range 5).foldl (fun (a : Tab Int) r => tset 0 a (8 + r) (tget 0 s.mgt.volt r : Nat)) d
    { s with mgt := { s.mgt with legacyData := tset 0 d 13 (s.mgt.power : Nat) } }
  else if s.mgt.legacyTask = 2 then s.calibrate
  else { s with mgt := { s.mgt with legacyData := tset 0 (tset 0 s.mgt.legacyData 14 (s.mgt.scrubCe : Nat)) 15 (s.mgt.scrubUe : Nat),
                                    scrubCe := 0, scrubUe := 0 } }

/-- A legacy task completes (R358). -/
def State.legacyEnd (x : Sample) (s : State) : State :=
  if s.mgt.legacyTask = 0 || !s.mpIn then s else
  let s := s.legacyEffect x
  { s with mgt := { s.mgt with legacyTask := 0, legacyDone := true } }

/-- LEGACY_DONE (R358): in the last tick of the window at whose end the task completes. -/
def execLegacyDone (x : Sample) (s : State) : Host.Outcome State Fault Refusal :=
  .next (if s.glb.svc && decide (s.mgt.legacyLeft ≤ 1) && decide (s.stp.phase = 2429) then s.legacyEnd x else s)

/-- SVC_MODE_WRITE (R356): GLB.MODE is stored; the boundary puts it in force. -/
def execSvcModeWrite (v : Word) (s : State) : Host.Outcome State Fault Refusal := .next (s.regWrite 0x000C v)

/-! ### Chalk-log registers (R351-R354) -/

/-- A write of LOG.MARK (R351). -/
def State.logMark (v : Word) (s : State) : State :=
  let m := wfld v 0 14
  if (m + 16384 - s.log.mark) % 16384 ≤ s.log.count then { s with log := { s.log with mark := m } }
  else { s with log := { s.log with markErr := true } }

/-- LOG_MARK_WRITE (R351). -/
def execLogMarkWrite (v : Word) (s : State) : Host.Outcome State Fault Refusal := .next (s.logMark v)

/-- A write of LOG.RIDX (R354). -/
def State.logRidx (v : Word) (s : State) : State :=
  { s.regWrite 0x5020 v with log := { s.log with rdata := s.log.at (wfld v 0 14) } }

/-- LOG_RIDX_WRITE (R354). -/
def execLogRidxWrite (v : Word) (s : State) : Host.Outcome State Fault Refusal := .next (s.logRidx v)

/-- A write of LOG.CFG (R353): MIRROR from 0 to 1 sets MIRR to WR. -/
def State.logCfg (v : Word) (s : State) : State :=
  let was := s.rb 0x5000 1
  let s := s.regWrite 0x5000 v
  if wbit v 1 && !was then { s with log := { s.log with mirr := s.log.wr } } else s

/-- LOG_CFG_WRITE (R353). -/
def execLogCfgWrite (v : Word) (s : State) : Host.Outcome State Fault Refusal := .next (s.logCfg v)

end Sys2Proof.Machine
end

