-- ==== Sys2Proof/Machine/Fault.lean ====
section
/-! DEFINITION. The fault collector (13_faults.md R360-R376): taking a message, the reactions and what BLK_RST resets,
first-fault capture, the error pins, the fatal state, watchdogs, power failure, injection; the bus matrix (15 R399-R406). -/

namespace Sys2Proof.Machine

/-! ### The reaction table (R365, R367) -/

/-- Sources whose BLK_RST is accepted (Table FT-4). -/
def blkAccepted (src : Nat) : Bool :=
  decide (src < 0x068) || (decide (0x070 ≤ src) && decide (src < 0x130)) || src = 0x142
    || (decide (0x160 ≤ src) && decide (src < 0x167)) || (decide (0x170 ≤ src) && decide (src < 0x180)) || src = 0x182

/-- Table FT-3. -/
def reactReset (src cls : Nat) : BitVec 5 :=
  match cls with
  | 0 => 0
  | 1 => if (decide (0x160 ≤ src) && decide (src < 0x167)) || (decide (0x170 ≤ src) && decide (src < 0x180)) then 0b01101#5 else 0b00101#5
  | _ => 0b00111#5

/-- The bits of an entry that are not RSV. -/
def reactMask (src : Nat) : BitVec 5 := if blkAccepted src then 0b11111#5 else 0b10111#5

/-- The stored reaction of a source and class. -/
def State.reaction (s : State) (src cls : Nat) : BitVec 5 := (tget none s.flt.react (4 * src + cls)).getD (reactReset src cls)

/-- A write of FLT.RDATA (R365). -/
def State.reactWrite (v : Word) (s : State) : State :=
  let r := s.reg 0x4080
  let src := wfld r 2 9
  let cls := wfld r 0 2
  if cls = 3 then s
  else
    let x := BitVec.ofNat 5 v.toNat &&& reactMask src
    let s := s.wordWritten (.reaction src (Fin.ofNat 4 cls))
    { s with flt := { s.flt with react := tset none s.flt.react (4 * src + cls) (if x = reactReset src cls then none else some x) } }

/-- The collector reads the entry: an uncorrectable one gives its reset value and sets SELF; what the collector would
report of its own work is lost (R363, R364). -/
def State.reactRead (src cls : Nat) (s : State) : BitVec 5 × State :=
  let m : Mem := .reaction src (Fin.ofNat 4 cls)
  match s.upsetAt m with
  | none => (s.reaction src cls, s)
  | some d =>
    let s := { s with flt := { s.flt with lost := satInc 16 s.flt.lost 1 } }
    if d then (reactReset src cls, { s with flt := { s.flt with self := true } }) else (s.reaction src cls, s.clearUpset m)

/-! ### What BLK_RST resets (Table FT-4) -/

/-- A line port (03 R68): every LPT[n] register at its reset value, the framer in HUNT, at once. -/
def State.portReset (n : Nat) (s : State) : State :=
  ((s.seeBits 0 n ((s.port n).defects.toNat / 2 % 256)).regsReset
    (fun o => decide (lpt n 0 ≤ o) && decide (o < lpt n 0x400))).setPort n {}

/-- The pointer interpreters of a port's HO path unit restart as under R96 (04 R96). -/
def State.hoUnitReset (n : Nat) (s : State) : State :=
  foldS (List.range 192) (fun t (s : State) =>
    let k := 192 * n + t
    let p := s.path k
    let s := if s.pathStarts k then s.seeBits 1 k p.defects.toNat else s
    s.setPath k { p with pi := {}, conc := [], concLop := false, vc := {}, inc := 0, dec := 0, ndf := 0, defects := (p.defects &&& 0xFC#8) ||| 2#8 }) s

/-- Slice `i` of the LO mapper holds TU `k`: by its VC-4 equivalent, or by the tributary bound to it. -/
def State.loSliceHas (s : State) (i k : Nat) : Bool :=
  decide (k / 84 / 17 = i) || s.tribs.any (fun (e : Nat × Trib) => e.2.cfg.en && decide (tuKey e.2.cfg.pos = k) && decide (e.1 / 1024 = i))

/-- The TU interpreters of an LO mapper slice restart in LOP. -/
def State.loSliceReset (i : Nat) (s : State) : State :=
  let hit : List Nat := (s.tribs.filter (fun (e : Nat × Trib) => e.2.cfg.en && s.loSliceHas i (tuKey e.2.cfg.pos))).map (fun e => e.1)
  let s := foldS hit (fun t (s : State) => s.seeBits 2 t (s.lo t).defects.toNat) s
  { s with hop := { s.hop with tus := tkeep (fun k => !(s.loSliceHas i k)) s.hop.tus }
           los := hit.foldl (fun l t => tmod {} l t (fun (p : LoPath) => { p with defects := (p.defects &&& 0xFC#8) ||| 2#8 })) s.los }

/-- The enabled tributaries of a framer slice restart as under R136, with the settings TRIB_CFG has asked for: the TU's first
multiframe carries NDF. -/
def State.tribSliceReset (i : Nat) (s : State) : State :=
  let hit := s.tribs.filter (fun (e : Nat × Trib) => decide (e.1 / 1024 = i) && e.2.cfg.en)
  foldS hit (fun e (s : State) =>
    let p := s.lo e.1
    let s := s.seeBits 3 e.1 e.2.defects.toNat
    ({ s with tribs := tput s.tribs e.1 (e.2.restart e.2.want) }).setLo e.1 { p with ndfTx := true, mapQ := [] }) s

/-- A highway: its registers, its slip buffer. -/
def State.hwyReset (n : Nat) (s : State) : State :=
  let s := s.regsReset (fun o => decide (hwyReg n 0 ≤ o) && decide (o < hwyReg n 0x100))
  { s with hwys := tset {} s.hwys n {} }

/-- A GFP channel: its queues (11 R320), its window registers. -/
def State.gfpReset (ch : Nat) (s : State) : State :=
  ((s.gfpQptr ch false).gfpQptr ch true).modGfp ch (fun x => { x with cnts := [], lfdSticky := false, cmfUpi := 0 })

/-- The DCC channels of a port: frames in progress discarded, replay windows emptied. -/
def State.dccReset (n : Nat) (s : State) : State :=
  foldS [2 * n, 2 * n + 1] (fun c (s : State) => (s.dccClear c).modDcc c (fun d => { d with win := none })) s

/-- The STR block: its registers and counters; then open directions restart as after a queue reset, which counts their
blocks in progress (11 R320). -/
def State.strReset (s : State) : State :=
  let s := s.regsReset (fun o => decide (0x80000 ≤ o) && decide (o < 0x81000))
  let s := foldS (s.strs.map (fun e => e.1)) (fun g (s : State) => (s.modStrm g (fun x => { x with cnts := [] })).streamReset g) s
  { s with dccs := tmapAll {} (fun _ (d : Dcc) => { d with cfg := 0x5DC#32, cnts := [] }) s.dccs }

/-- Processor `p` restarts (01 R31; 15 R417): without effect before SP has released it or while it restarts already. Its
locks break (14 R391). -/
def State.procReset (p : Nat) (s : State) : State :=
  if !(s.glb.insvc.getLsbD p) || s.glb.heldRst.getLsbD p then s
  else
    let s := { s with glb := { s.glb with heldRst := s.glb.heldRst ||| (1#7 <<< p), nmiTrap := s.glb.nmiTrap &&& ~~~ (1#7 <<< p) } }
    s.breakOwners (fun o => o = 0x0100 + p)

/-- BLK_RST of the unit that a message names (Table FT-4). -/
def State.blkRst (src addr : Nat) (s : State) : State :=
  if src < 0x20 then s.portReset src
  else if src < 0x40 then s.hoUnitReset (src - 0x20)
  else if src < 0x50 then s.loSliceReset (src - 0x40)
  else if src < 0x60 then s.tribSliceReset (src - 0x50)
  else if src < 0x68 then s.replicaReset (src - 0x60)
  else if src < 0x70 then s
  else if src < 0x80 then s.laneReset (src - 0x70)
  else if src < 0xC0 then s.hwyReset (src - 0x80)
  else if src < 0x100 then s.gfpReset (src - 0xC0)
  else if src < 0x120 then s.dccReset (src - 0x100)
  else if src < 0x130 then s.unitReset (src - 0x120)
  else if src = 0x142 then s.strReset
  else if 0x160 ≤ src ∧ src < 0x167 then s.procReset (src - 0x160)
  else if 0x170 ≤ src ∧ src < 0x180 then (if addr < 7 then s.procReset addr else s)
  else if src = 0x182 then { s with pmc := { s.pmc with cnt := [] } }
  else s

/-! ### Error pins (R370) -/

/-- The minimum width of ERR_N in sub-ticks, WIDTH us of 19.44 ticks each. -/
def State.errWidth (s : State) : Nat := cdiv (clamp 1 1000 (s.rf 0x4008 0 10) * 2430) 125 * 16

/-- The latch is set; the minimum width starts again; a waiting release is cancelled. -/
def State.errAssert (s : State) : State := { s with flt := { s.flt with errLatch := true, errLeft := s.errWidth, errWait := false } }

/-- The latch is cleared once the minimum width has passed. -/
def State.errRelease (s : State) : State :=
  if !s.flt.errLatch then s
  else if s.flt.errLeft = 0 then { s with flt := { s.flt with errLatch := false, errWait := false } }
  else { s with flt := { s.flt with errWait := true } }

/-- A write of the FLT block other than INJ_UNLOCK breaks off the unlock sequence (R376). -/
def State.fltTouched (s : State) : State := { s with flt := { s.flt with unlock1 := false } }

/-- ERR_PIN_ASSERT (R370). -/
def execErrPinAssert (s : State) : Host.Outcome State Fault Refusal := .next s.fltTouched.errAssert
/-- ERR_PIN_RELEASE (R370). -/
def execErrPinRelease (s : State) : Host.Outcome State Fault Refusal := .next s.fltTouched.errRelease

/-- ERR_PIN_WIDTH_EXPIRY (R370): a waiting release acts. -/
def execErrPinWidthExpiry (s : State) : Host.Outcome State Fault Refusal :=
  .next (if s.flt.errWait && s.flt.errLeft = 0 then { s with flt := { s.flt with errLatch := false, errWait := false } } else s)

/-- ERR_N is low. -/
def State.errLow (s : State) : Bool := s.flt.errLatch || s.rb 0x400C 2

/-! ### The fatal state and the reactions (R371, Table FT-2) -/

/-- The fatal state is entered (R371): due table discarded without completions, timers disarmed (a pulse begun goes on: GPIO is
unchanged, 17 R427), vector 0. -/
def State.enterFatal (s : State) : State :=
  if s.flt.fatal then s else
  let s := { s with flt := { s.flt with fatal := true }, ce := { s.ce with due := [], comps := [], failed := [] } }
  let s := { s with stp := { s.stp with timers := tmapAll {} (fun _ (t : Timer) => { t with target := none }) s.stp.timers } }
  ({ s with hif := { s.hif with fatalCause := true } }).sendVec 0

/-- NMI (R446): CP and MP, where in service, are trapped; vector 0. -/
def State.nmi (s : State) : State :=
  let hit : BitVec 7 := 0b11#7 &&& s.insvcBits
  let s := { s with glb := { s.glb with nmiTrap := s.glb.nmiTrap ||| hit }, hif := { s.hif with nmiCause := true } }
  s.sendVec 0

/-- The EV entry of a message (09 Table HR-8). -/
def State.evOf (m : Msg) (logged : Bool) (seq : Half) (s : State) : State :=
  s.evPut { logged := logged, mirror := false, source := m.source, kind := m.kind, cls := m.cls, addr := m.addr, data := m.data,
            time := s.now, seq := seq }

/-- The reactions of an entry, in the order of Table FT-2. -/
def State.react (r : BitVec 5) (m : Msg) (logged : Bool) (seq : Half) (s : State) : State :=
  let s := whenS (r.getLsbD 0) (fun s => s.evOf m logged seq) s
  let s := whenS (r.getLsbD 1) (fun s => s.nmi) s
  let s := whenS (r.getLsbD 2) (fun s => s.errAssert) s
  let s := whenS (r.getLsbD 3 && blkAccepted m.source) (fun s => s.blkRst m.source m.addr.toNat) s
  whenS (r.getLsbD 4) (fun (s : State) =>
    { s with glb := { s.glb with rstReq := if s.glb.rstReq.isSome then s.glb.rstReq else some (true, m.source, m.kind) } }) s

/-- First-fault capture (R368). -/
def State.capture (e : LogEntry) (s : State) : State :=
  let s := if s.flt.first.isSome then s else { s with flt := { s.flt with first := some e } }
  if e.cls = 2 && s.flt.firstFatal.isNone then { s with flt := { s.flt with firstFatal := some e } } else s

/-- Kinds that are device records, always logged (12 R350). -/
def isRecord (kind : Nat) : Bool := kind = 0xF0 || kind = 0xF1

/-- The handling of a message (R364). -/
def State.handle (m : Msg) (s : State) : State :=
  let seq := s.log.seq
  let time := s.now
  if m.cls = 3 then
    let r := if s.rb 0x5000 2 || isRecord m.kind then s.logWrite m else (false, s)
    whenS (!m.masked) (fun s => s.evOf m r.1 seq) r.2
  else
    let r := s.logWrite m
    let s := { r.2 with flt := { r.2.flt with cause := r.2.flt.cause ||| (1#512 <<< m.source) } }
    let s := s.capture { time := time, cls := m.cls, source := m.source, kind := m.kind, seq := seq, addr := m.addr, data := m.data }
    let s := if m.cls = 2 then s.enterFatal else s
    let x := s.reactRead m.source m.cls
    x.2.react x.1 m r.1 seq

/-- One message is taken from the head of the queue. -/
def State.collectorTake (s : State) : State :=
  match s.flt.queue with
  | [] => s
  | m :: r => ({ s with flt := { s.flt with queue := r } }).handle m

/-- COLLECTOR_TAKE (R362, R364). -/
def execCollectorTake (s : State) : Host.Outcome State Fault Refusal := .next s.collectorTake

/-! ### NMI return, processors (R446; 01 R31; 15 R414) -/

/-- NMI_RETURN (R446). -/
def execNmiReturn (mp : Bool) (s : State) : Host.Outcome State Fault Refusal :=
  .next ({ s with glb := { s.glb with nmiTrap := s.glb.nmiTrap &&& ~~~ (1#7 <<< b2n mp) } }).serveHeads

/-- PROCESSOR_READY (01 R31; 15 R414): after boot, or after a reset of the processor. -/
def execProcessorReady (p : Fin 7) (s : State) : Host.Outcome State Fault Refusal :=
  .next (if s.glb.ready then
      ({ s with glb := { s.glb with insvc := s.glb.insvc ||| (1#7 <<< p.val), heldRst := s.glb.heldRst &&& ~~~ (1#7 <<< p.val) } }).serveHeads
    else s)

/-- The processor runs its firmware: released and not restarting. -/
def State.procRuns (s : State) (p : Nat) : Bool := s.glb.insvc.getLsbD p && !(s.glb.heldRst.getLsbD p)

/-- PROC_WDT (R373): a released processor misses its heartbeat for 10 ms. -/
def execProcWdt (p : Fin 7) (s : State) : Host.Outcome State Fault Refusal :=
  .next (if s.procRuns p.val then s.raise .procWdt (0x160 + p.val) 0 0 else s)

/-- PROC_EXC (R373): the trap address in the address field. -/
def execProcExc (p : Fin 7) (addr : Word) (s : State) : Host.Outcome State Fault Refusal :=
  .next (if s.procRuns p.val then s.raise .procExc (0x160 + p.val) addr.toNat 0 else s)

/-- CLK_LOL (R373). -/
def execClkLol (pll : Fin 2) (s : State) : Host.Outcome State Fault Refusal :=
  .next (({ s with flt := { s.flt with pllLol := s.flt.pllLol ||| (1#2 <<< pll.val) } }).raise .clkLol 0x189 pll.val 0)

/-- GRANT_WDT (15 R404). -/
def execGrantWdt (target : Fin 16) (master : Fin 9) (s : State) : Host.Outcome State Fault Refusal :=
  .next (s.raise .grantWdt (0x170 + target.val) master.val 0)

/-- The nine ACTIVE QoS values take their SHADOW values (15 R402). -/
def State.busCommit (s : State) : State :=
  { s with bus := { s.bus with active := (List.range 9).foldl (fun t m => tset 0 t m (s.rf (0x8000 + 4 * m) 0 4)) [] } }

/-- BUS_COMMIT (15 R402). -/
def execBusCommit (s : State) : Host.Outcome State Fault Refusal := .next s.busCommit

/-- BUS_FREEZE_WRITE (15 R403). -/
def execBusFreezeWrite (v : Word) (s : State) : Host.Outcome State Fault Refusal := .next (s.regWrite 0x8044 v)

/-! ### FIRST_CTL, reactions, injection (R365, R368, R372, R376) -/

/-- FIRST_CLR (R368). -/
def execFirstClr (s : State) : Host.Outcome State Fault Refusal :=
  let s := s.fltTouched
  .next { s with flt := { s.flt with first := none } }

/-- CLR_FATAL is ignored in the fatal state (R372). -/
def State.clrFatal (s : State) : State := if s.flt.fatal then s else { s with flt := { s.flt with firstFatal := none } }

/-- FIRST_CLR_FATAL (R368, R372). -/
def execFirstClrFatal (s : State) : Host.Outcome State Fault Refusal := .next s.fltTouched.clrFatal

/-- REACTION_WRITE (R365). -/
def execReactionWrite (v : Word) (s : State) : Host.Outcome State Fault Refusal := .next (s.fltTouched.reactWrite v)

/-- Sources that Table FT-4 gives a unit. -/
def srcUsed (src : Nat) : Bool :=
  decide (src < 0x06A) || (decide (0x070 ≤ src) && decide (src < 0x136)) || (decide (0x140 ≤ src) && decide (src < 0x143))
    || src = 0x150 || src = 0x151 || (decide (0x160 ≤ src) && decide (src < 0x167)) || (decide (0x170 ≤ src) && decide (src < 0x18A))

/-- A write of FLT.INJ_UNLOCK (R376): ignored in mission mode. -/
def State.injUnlock (v : Word) (s : State) : State :=
  if !s.flt.test then s
  else
    let k := wfld v 0 16
    { s with flt := { s.flt with injOpen := s.flt.injOpen || (s.flt.unlock1 && k = 0xC3A5), unlock1 := k = 0x5A3C } }

/-- INJ_UNLOCK (R376). -/
def execInjUnlock (v : Word) (s : State) : Host.Outcome State Fault Refusal := .next (s.injUnlock v)

/-- A write of FLT.INJ_CTL (R376): GO injects a message, or arms a bit flip. -/
def State.injCtl (v : Word) (s : State) : State :=
  if !s.flt.test then s
  else
    let s := s.regWrite 0x4184 v
    let a := s.reg 0x4188
    if !(wbit v 31) || !s.flt.injOpen then s
    else if wbit v 30 then { s with flt := { s.flt with flip := some (wfld v 18 9, a, wbit v 29) } }
    else s.post { source := wfld v 18 9, kind := wfld v 0 8, cls := wfld v 27 2, addr := a, data := 0 }

/-- INJ_GO (R376): a write of FLT.INJ_CTL with GO set. -/
def execInjGo (v : Word) (s : State) : Host.Outcome State Fault Refusal := .next (s.fltTouched.injCtl (v ||| 0x80000000#32))

/-- An armed flip strikes a word that its block writes in every frame: data memory of half `wr`, lane and collector
state, staging, and the memories that have no entry of their own here (R376). -/
def State.flipFrame (wr : Bool) (s : State) : State :=
  match s.flt.flip with
  | none => s
  | some (src, a, dbl) =>
    let n := a.toNat
    let hit : Option Mem :=
      if 0x060 ≤ src ∧ src < 0x068 then (if n / 131072 = b2n wr then some (.dm (Fin.ofNat 8 src) wr (n % 131072)) else none)
      else if 0x070 ≤ src ∧ src < 0x080 then
        (if n < 65536 then some (.lane n) else if 0x20000 ≤ n then some (.collector (n - 0x20000)) else none)
      else if src = 0x142 then some (.staging (Fin.ofNat 256 n))
      else if src = 0x184 then some (.cmac (Fin.ofNat 64 n))
      else if src = 0x068 ∨ src = 0x069 ∨ src = 0x151 ∨ (0x120 ≤ src ∧ src < 0x130) ∨ src = 0x183 ∨ src = 0x185 ∨ src = 0x186 ∨ src = 0x180 then none
      else if srcUsed src then some (.other src n)
      else none
    match hit with
    | none => s
    | some m =>
      if memWord m = (src, n) then ({ s with flt := { s.flt with flip := none } }).addUpsets [{ mem := m, double := dbl }] else s

/-! ### Power failure (R374) -/

/-- PFAIL (R374): every assertion that acts, one before the last has ended too. -/
def execPfail (s : State) : Host.Outcome State Fault Refusal :=
  let s := { s with flt := { s.flt with pfail := true, pfSquelch := s.flt.pfSquelch || s.rb 0x4010 0 } }
  let s := s.raise .pfail 0x188 0 1
  .next (if !(s.rb 0x4010 1 && s.hif.linkUp) then s
    else if s.rb 0x5000 1 then s.mirrorAll
    else s.flushFrom s.log.unflushed)

/-- PFAIL_CLEAR (R374): the squelch ends, PFAIL is raised with data bit 0 = 0. -/
def execPfailClear (s : State) : Host.Outcome State Fault Refusal :=
  .next (if s.flt.pfail then
      ({ s with flt := { s.flt with pfail := false, pfSquelch := false } }).raise .pfail 0x188 0 0
    else s)

end Sys2Proof.Machine
end

