-- ==== Sys2Proof/Machine/Boot.lean ====
section
/-! DEFINITION. Boot, resets and board-management I2C (15_fabric_boot_reset.md R408-R417; 13 R366, R375, R379; 12 R355;
16 R420, R421, R424; 17 R438). -/

namespace Sys2Proof.Machine

/-! ### The image (R409, R410) -/

/-- Internal address ranges: base and size (Table IF-2). -/
def targets : List (Nat × Nat) :=
  [(0x00000000, 0x200000), (0x10000000, 0x200000), (0x11000000, 0x10000), (0x12000000, 0x40000), (0x12040000, 0x40000),
   (0x12080000, 0x40000), (0x120C0000, 0x40000), (0x12100000, 0x40000), (0x12140000, 0x40000), (0x12180000, 0x40000),
   (0x30000000, 0x400000), (0x38000000, 0x4000000), (0x40000000, 0x10000), (0x41000000, 0x10000), (0x50000000, 0x100000),
   (0x60000000, 0x1000), (0x70000000, 0x1000000)]

/-- A little-endian word of the image. -/
def imgWord (b : List Byte) (i : Nat) : Nat := leNat (bytesAt b i 4)

/-- Section `k` lies inside the image and inside Table IF-2. The places of the three values of a section entry are the
model's (assumption 14). -/
def sectionOk (b : List Byte) (len k : Nat) : Bool :=
  let e := 64 + 16 * k
  let dst := imgWord b e
  let n := imgWord b (e + 4)
  decide (imgWord b (e + 8) + n ≤ len) && targets.any (fun t => decide (t.1 ≤ dst) && decide (dst + n ≤ t.1 + t.2))

/-- K0 (14 R380). -/
def keyZero : List Byte := (List.range 32).map Config.otpKey

/-- The failure code of Table IF-4 for an image with its end-of-data; 0 for one that passes. -/
def imageCode (b : List Byte) : Nat :=
  let len := imgWord b 8
  let nsect := (byteAt b 16).toNat
  if b.length < 64 then 4
  else if imgWord b 0 ≠ 0x54595250 ∨ imgWord b 4 ≠ 1 then 1
  else if len < 128 ∨ 8388608 < len ∨ nsect = 0 ∨ 32 < nsect then 2
  else if b.length ≠ len then 4
  else if !((List.range nsect).all (sectionOk b len)) then 2
  else if cmac true keyZero (b.take (len - 16)) ≠ b.drop (len - 16) then 3
  else 0

/-! ### The bus matrix (R399, R403, R405, R407) -/

/-- The target behind an internal address of Table IF-2, and its offset there; none where no target is, beyond a target's size
(the boot ROM in its address-zero window too), and at target 11 for every master but SP (R405, R407). -/
def busDecode (remap : Bool) (master addr : Nat) : Option (Nat × Nat) :=
  if addr < 0x200000 then (if remap then some (0, addr) else if addr < 0x10000 then some (1, addr) else none)
  else
    match (targets.drop 1).findIdx? (fun t => decide (t.1 ≤ addr) && decide (addr < t.1 + t.2)) with
    | none => none
    | some k => if k = 11 ∧ master ≠ 2 then none else some (k, addr - ((targets.drop 1).getD k (0, 0)).1)

/-- The internal address of an offset behind a target. -/
def targetAddr (k o : Nat) : Nat := ((targets.drop 1).getD k (0, 0)).1 + o

/-- BUS.FREEZE holds a target (R403). -/
def State.frozen (s : State) (k : Nat) : Bool := s.rb 0x8044 k

/-- A decode error (R405): counted, saturating, its address and master recorded; no fault message. -/
def State.decodeErr (master : Nat) (write : Bool) (addr : Nat) (s : State) : State :=
  { s with bus := { s.bus with decErr := BitVec.ofNat 32 (min (2 ^ 32 - 1) (s.bus.decErr.toNat + 1)), decMaster := master,
                               decWrite := write, decAddr := BitVec.ofNat 32 addr } }

/-- An access of a byte by a master (R399): a request to a frozen target waits, and its master asks again; the boot ROM takes no
write; elsewhere a byte written stands behind the target port (assumption 174). -/
def State.busAccess (master : Nat) (write : Option Byte) (addr : Nat) (s : State) : State :=
  match busDecode s.glb.remap master addr, write with
  | none, w => s.decodeErr master w.isSome addr
  | some (k, o), some b =>
    if s.frozen k || k = 1 then s else { s with bus := { s.bus with mem := tset 0 s.bus.mem (targetAddr k o) b } }
  | some _, none => s

/-- The byte such a read returns: 0 at a decode error (R405). What the boot ROM, and a port whose unit has not been written
through it, hold is not the model's: 0 as well (assumption 174). -/
def State.busRead (s : State) (master addr : Nat) : Byte :=
  match busDecode s.glb.remap master addr with
  | some (k, o) => tget 0 s.bus.mem (targetAddr k o)
  | none => 0

/-- What a processor, a master or a read of the host did (14 R388; R399; 06 R182, 07 R211). A processor's claims follow the
rules of R389 with its own owner code; a read of TSW.RDATA or CNF.RDATA finds an error of the entry it shows. -/
def State.portOp (x : PortOp) (s : State) : State :=
  match x with
  | .claim p i lease => if s.procRuns p.val then (s.lockClaim i.val (0x0100 + p.val) lease).2.2 else s
  | .release p i => if s.procRuns p.val then s.lockRelease i.val (0x0100 + p.val) else s
  | .access m w a => s.busAccess m.val w a.toNat
  | .hostRead o => s.readFinds (o.toNat / 4 * 4)

/-! ### Loading (R409-R413) -/

/-- The packing FIFO is empty and owned by nobody. -/
def Boot.emptied (b : Boot) : Boot := { b with fifo := [], image := [], eod := false, owned := false }

/-- The header and the section entries have arrived, and the header is good: sections can be told (R409). -/
def imageTable (b : List Byte) : Bool :=
  let nsect := (byteAt b 16).toNat
  decide (imgWord b 0 = 0x54595250) && decide (imgWord b 4 = 1) && decide (128 ≤ imgWord b 8) && decide (imgWord b 8 ≤ 8388608)
    && decide (1 ≤ nsect) && decide (nsect ≤ 32) && decide (64 + 16 * nsect ≤ b.length)

/-- Where byte `p` of the image goes: the destinations in the sections that hold it and stand the tests. -/
def imageDest (b : List Byte) (p : Nat) : List Nat :=
  ((List.range (byteAt b 16).toNat).filter (sectionOk b (imgWord b 8))).filterMap (fun k =>
    let e := 64 + 16 * k
    let ofs := imgWord b (e + 8)
    if ofs ≤ p ∧ p < ofs + imgWord b (e + 4) then some (imgWord b e + (p - ofs)) else none)

/-- The image bytes `from`, `from + 1`, .. that have arrived go to their destinations (R409), by SP's writes. -/
def State.loadFrom (start : Nat) (s : State) : State :=
  let b := s.boot.image
  if !(imageTable b) then s
  else foldS (List.range' start (b.length - start)) (fun p (s : State) =>
    foldS (imageDest b p) (fun a (s : State) => s.busAccess 2 (some (byteAt b p)) a) s) s

/-- SP takes image bytes as they arrive. -/
def State.takeImage (bs : List Byte) (s : State) : State :=
  let old := s.boot.image
  ({ s with boot := { s.boot with image := old ++ bs } }).loadFrom (if imageTable old then old.length else 0)

/-- SP's reads of the FIFO, or its writes of what has arrived, wait for a frozen target (R403). -/
def State.loadHeld (s : State) (b : List Byte) : Bool :=
  s.frozen 14
    || (imageTable b && (List.range b.length).any (fun p => (imageDest b p).any (fun a =>
        match busDecode s.glb.remap 2 a with | some (k, _) => s.frozen k | none => false)))

/-- SP zeroes every destination it has written of a failed image (R410). -/
def State.unload (s : State) : State :=
  let b := s.boot.image
  let zero (m : Tab Byte) (a : Nat) : Tab Byte :=
    match busDecode s.glb.remap 2 a with
    | some (k, o) => tset 0 m (targetAddr k o) 0
    | none => m
  if !(imageTable b) then s
  else { s with bus := { s.bus with mem := (List.range b.length).foldl (fun m p => (imageDest b p).foldl zero m) s.bus.mem } }

/-- An image fails with `code` (R410, R411): its destinations are zeroed; the second copy, or the push. -/
def State.bootFail (code : Nat) (s : State) : State :=
  let s := s.unload
  let b := s.boot
  let second := decide (b.stage = 2) && !b.copy && decide (27 ≤ b.density) && code ≠ 5
  let b := if second then { b with copy := true, image := [] } else { b.emptied with stage := 4 }
  ({ s with boot := { b with fail := code } }).raise .bootFail 0x187 0 code

/-- The last byte has arrived and the tag is compared (R410): the processors are released, REMAP is set, then READY. -/
def State.bootEnd (s : State) : State :=
  let k0 : KeySlot := { loaded := true, aes256 := true, key := keyZero, ctr := 0, kcv := kcv true keyZero }
  let s := { s with sec := { s.sec with keys := tset {} s.sec.keys 0 k0 } }
  let image := s.boot.image
  let c := imageCode image
  if c ≠ 0 then s.bootFail c
  else { s with boot := { s.boot.emptied with stage := 5, version := BitVec.ofNat 32 (imgWord image 12) },
                glb := { s.glb with ready := true, remap := true } }

/-- BOOT_LOAD_DONE (R410): the SPI flash has delivered the image; SP writes it to targets that are not frozen. -/
def execBootLoadDone (image : List Byte) (s : State) : Host.Outcome State Fault Refusal :=
  .next (if s.boot.stage = 2 && !(s.loadHeld image) then
      (({ s with boot := { s.boot with image := [] } }).takeImage image).bootEnd
    else s)

/-- SFDP_DISCOVERY (R411). -/
def execSfdpDiscovery (r : Option Sfdp) (s : State) : Host.Outcome State Fault Refusal :=
  .next (if decide (s.boot.stage ≤ 1) && s.boot.src = 0 then
      match r with
      | some x => { s with boot := { s.boot with stage := 2, copy := false, instr := x.instr, dummy := x.dummy, density := x.density % 256 } }
      | none => s.bootFail 5
    else s)

/-- A 64-bit word of the FIFO's read side with its tag of valid bytes (R413). -/
structure FifoWord where
  data  : DWord
  valid : Nat
deriving DecidableEq, Repr

/-- The next word the FIFO yields (R413): eight bytes; at end-of-data a partial last word, its upper bytes 0. -/
def fifoWord (eod : Bool) (l : List Byte) : Option FifoWord :=
  if 8 ≤ l.length then some { data := BitVec.ofNat 64 (leNat (l.take 8)), valid := 8 }
  else if eod && decide (l ≠ []) then some { data := BitVec.ofNat 64 (leNat l), valid := l.length }
  else none

/-- The valid bytes of the words SP reads, at most `n` of them, and what stays in the FIFO. -/
def fifoRead (eod : Bool) : Nat → List Byte → List Byte × List Byte
  | 0, l => ([], l)
  | n + 1, l => match fifoWord eod l with
    | none => ([], l)
    | some w => let r := fifoRead eod n (l.drop w.valid); (leBytes w.valid w.data.toNat ++ r.1, r.2)

/-- SP reads the words that the FIFO holds (R413). -/
def State.fifoDrain (s : State) : State :=
  if s.loadHeld (s.boot.image ++ s.boot.fifo) then s
  else
    let r := fifoRead s.boot.eod s.boot.fifo.length s.boot.fifo
    ({ s with boot := { s.boot with fifo := r.2 } }).takeImage r.1

/-- SP reads on, unless a frozen target holds it (R403); with end-of-data read, the image is complete (R412, R413). -/
def State.fifoStep (s : State) : State :=
  let t := s.fifoDrain
  if t.boot.eod && t.boot.fifo = [] && !(s.loadHeld (s.boot.image ++ s.boot.fifo)) then t.bootEnd else t

/-- A push source may write: SP waits for a push, and the FIFO is free or its own (R412, R413). Between end-of-data and the
verdict on the image nothing is taken (assumption 173). -/
def State.pushOpen (s : State) (i2c : Bool) : Bool :=
  s.boot.stage = 4 && !s.glb.ready && !s.boot.eod && (!s.boot.owned || s.boot.ownerI2c = i2c)

/-- A write from a source that does not own the FIFO. -/
def State.pushClash (i2c : Bool) (s : State) : State :=
  if s.boot.stage = 4 && !s.glb.ready && s.boot.owned && s.boot.ownerI2c ≠ i2c then { s with boot := { s.boot with conflict := true } } else s

/-- Bytes pushed into the FIFO; one that finds it full is discarded and the image fails with code 6 (R412). -/
def State.pushBytes (i2c : Bool) (bs : List Byte) (s : State) : State :=
  if !(s.pushOpen i2c) then s.pushClash i2c
  else
    let b := if s.boot.owned then s.boot else { s.boot with owned := true, ownerI2c := i2c, ovf := false }
    let room := 4096 - b.fifo.length
    let s := { s with boot := { b with fifo := b.fifo ++ bs.take room } }
    if room < bs.length then ({ s with boot := { s.boot with ovf := true } }).bootFail 6 else s

/-- End-of-data (R412, R413): it ends the ownership of the FIFO. -/
def State.pushEnd (i2c : Bool) (s : State) : State :=
  if !(s.pushOpen i2c) then s.pushClash i2c
  else ({ s with boot := { s.boot with eod := true, owned := false } }).fifoStep

/-- A write of BOOT.PUSH_TAIL (R412): COUNT 0 is ignored. -/
def State.pushTail (i2c : Bool) (v : Word) (s : State) : State :=
  let n := wfld v 24 2
  if n = 0 then s
  else
    let t := s.pushBytes i2c (leBytes n v.toNat)
    if t.boot.owned && t.boot.ownerI2c = i2c then t.pushEnd i2c else t

/-- BOOT_PUSH_DATA (R412). -/
def execBootPushData (v : Word) (s : State) : Host.Outcome State Fault Refusal := .next (s.pushBytes false (leBytes 4 v.toNat))
/-- BOOT_PUSH_TAIL (R412). -/
def execBootPushTail (v : Word) (s : State) : Host.Outcome State Fault Refusal := .next (s.pushTail false v)
/-- BOOT_PUSH_END (R412). -/
def execBootPushEnd (s : State) : Host.Outcome State Fault Refusal := .next (s.pushEnd false)

/-! ### Resets (R416, R417) -/

/-- The straps are sampled (16 R420), TEST_MODE for injection at power-on and RESET_N only (13 R376); SP samples BOOT_SRC and
starts (R408): SPI, push, factory test, or the reserved value, which fails with code 7. -/
def State.release (st : Straps) (last : Nat) (s : State) : State :=
  let b := st.bootSrc.val
  let s := { s with glb := { s.glb with straps := st, last := last },
                    flt := { s.flt with test := if last ≤ 1 then st.testMode else s.flt.test },
                    boot := { s.boot with src := b, stage := if b = 1 then 4 else if b = 3 then 15 else 0, fail := if b = 3 then 7 else 0 } }
  if b = 3 then s.raise .bootFail 0x187 0 7 else s

/-- What no reset of the device touches: the queue, the model's own counter, what lies in host memory, the balls. -/
def State.outside (s t : State) : State :=
  { t with pending := s.pending, freeIdx := s.freeIdx, hostMem := s.hostMem, pin := { t.pin with gpioIn := s.pin.gpioIn },
           hif := { t.hif with msgs := s.hif.msgs } }

/-- POWER_ON (02 R35, 15 R416). -/
def execPowerOn (st : Straps) (s : State) : Host.Outcome State Fault Refusal := .next ((s.outside State.reset).release st 0)

/-- RESET_N (R416; 13 R379): all but the fatal state and its capture. -/
def State.resetN (st : Straps) (s : State) : State :=
  let t := s.outside State.reset
  ({ t with flt := { t.flt with fatal := s.flt.fatal, firstFatal := s.flt.firstFatal } }).release st 1

/-- RESET_N (15 R416). -/
def execResetN (st : Straps) (s : State) : Host.Outcome State Fault Refusal := .next (s.resetN st)

/-- What FLT keeps over a warm CHIP_RST (13 R379). -/
def Flt.warm (f : Flt) : Flt := { f with queue := [], react := [], unlock1 := false, flip := none }

/-- FLT and LOG words that a warm CHIP_RST keeps (13 R379; 12 R355): all but PINW, PFAIL_CFG and the injection registers. -/
def warmKeeps (o : Nat) : Bool :=
  (decide (0x5000 ≤ o) && decide (o < 0x6000)) || (decide (0x4000 ≤ o) && decide (o < 0x4180) && decide (o ≠ 0x4008) && decide (o ≠ 0x4010))

/-- A warm CHIP_RST (13 R366; 15 R416; 16 R421): the log, the FLT records, the link and config space stay; the queue is
discarded uncounted and RESET_REC is the first entry logged. -/
def State.warmReset (st : Straps) (byReaction : Bool) (src kind : Nat) (s : State) : State :=
  let t := s.outside State.reset
  let t := { t with cfg := tkeep warmKeeps s.cfg, flt := s.flt.warm, log := s.log
                    hif := { t.hif with bme := s.hif.bme, d3hot := s.hif.d3hot, funcMask := s.hif.funcMask, linkUp := s.hif.linkUp,
                                        linkWidth := s.hif.linkWidth, linkSpeed := s.hif.linkSpeed } }
  let t := if byReaction then t.raise .resetRec 0x180 0 (src + kind * 65536) else t.raise .resetRec 0x180 1 0
  t.release st (if byReaction then 2 else 3)

/-- WARM_CHIP_RST (13 R366): the reset that a reaction or the host has asked for. -/
def execWarmChipRst (st : Straps) (s : State) : Host.Outcome State Fault Refusal :=
  .next (match s.glb.rstReq with
    | none => s
    | some (byReaction, src, kind) => s.warmReset st byReaction src kind)

/-- A write of GLB.RSTCTL (16 R421): CHIP_RST with KEY 0xC4 asks for a warm reset; PURGE_ON_HOST_RESET is stored. -/
def State.rstctl (v : Word) (s : State) : State :=
  let s := s.regWrite 0x0010 v
  if wbit v 31 && wfld v 8 8 = 0xC4 && s.glb.rstReq.isNone then { s with glb := { s.glb with rstReq := some (false, 0, 0) } } else s

/-- GLB_CHIP_RST_REQUEST (16 R421). -/
def execGlbChipRstRequest (v : Word) (s : State) : Host.Outcome State Fault Refusal := .next (s.rstctl v)

/-- POWER_LOSS (13 R375): nothing in the device survives. -/
def execPowerLoss (s : State) : Host.Outcome State Fault Refusal :=
  .next { s.outside State.reset with powered := false }

/-! ### Board-management I2C (R415; 16 R424; 17 R438) -/

/-- A whole word written over I2C: only the push registers and LOG.RIDX accept it. -/
def State.i2cWord (o : Nat) (v : Word) (s : State) : State :=
  if o = 0x9010 then (if wbit v 0 then s.pushEnd true else s)
  else if o = 0x9014 then s.pushBytes true (leBytes 4 v.toNat)
  else if o = 0x9018 then s.pushTail true v
  else if o = 0x5020 then { s with log := { s.log with i2cRidx := wfld v 0 14, i2cRdata := s.log.at (wfld v 0 14) } }
  else s

/-- The words of a write, 4 bytes at a time from the offset onward; a rest below 4 bytes is left. -/
def State.i2cWrite : Nat → Nat → List Byte → State → List Byte × State
  | 0, _, b, s => (b, s)
  | n + 1, o, b, s =>
    if b.length < 4 then (b, s)
    else State.i2cWrite n (o + 4) (b.drop 4) (s.i2cWord o (BitVec.ofNat 32 (leNat (b.take 4))))

/-- I2C_IDLE_TIMEOUT (17 R438): the target is idle. -/
def execI2cIdleTimeout (s : State) : Host.Outcome State Fault Refusal := .next { s with i2c := {} }

end Sys2Proof.Machine
end

