-- ==== Sys2Proof/Machine/Mapper.lean ====
section
/-! DEFINITION. The VC frames that the LO mapper and the GFP mapper send (04_paths_and_traces.md R107, R113, R114, R117,
R118, R123; 05_tributaries_and_highways.md R131, R133; 11_streams_gfp_dcc.md R321, R322). Every one starts at F:0000. -/

namespace Sys2Proof.Machine

/-! ### Path overhead of a source (R113, R114) -/

/-- The return G1 of source slot `k`: RDI-P and REI-P of the sink of the same number (R113). -/
def HoPath.returnG1 (p : HoPath) : Byte :=
  let rdi := p.flag 4 && (p.def_ 0 || p.def_ 1 || p.def_ 2 || (p.def_ 4 && p.flag 0))
  BitVec.ofNat 8 (put (if p.flag 5 && !(p.def_ 0) && !(p.def_ 1) then p.b3Last else 0) 4 4 + putB rdi 3)

/-- C2 that source slot `k` sends where OH_SET has set none (Table PA-4). -/
def defaultC2 (k : Nat) : Byte := if k < 6960 then 0x02 else 0x1B

/-- The J1 byte a source sends: of the entry bound to it, else 0x00 (R123). -/
def State.sendJ1 (k : Nat) (s : State) : Byte × State :=
  match s.traceTx k with
  | some e => s.traceSend 1 e
  | none => (0, s)

/-- Source slot `k` sends a VC frame of width `w`: `row r` is row `r` without its overhead byte. -/
def State.sendVc (k w : Nat) (h4 : Byte) (row : Nat → List Byte) (s : State) : State :=
  let j := s.sendJ1 k
  let s := j.2
  let o := s.hoSrc k
  let g1 := (s.path k).returnG1
  let poh : List Byte := [j.1, o.bip, o.c2.getD (defaultC2 k), g1, o.f2, h4, o.f3, o.k3, o.n1]
  let l := (List.range 9).flatMap (fun r => byteAt poh r :: row r)
  (s.setHoSrc k { o with j1 := j.1, g1 := g1, bip := bip8 l }).modFlow k (Flow.push (vcUnits w l))

/-! ### The LO mapper (05 R131, R133) -/

/-- The bytes of a TU in the frame that starts: of the enabled tributary at its position, else of an unequipped VC with a
valid pointer (R133). -/
def State.tuOut (s : State) (p : TuPos) (t1 : Bool) : List Byte :=
  match s.tribs.find? (fun e => e.2.cfg.en && decide (e.2.cfg.pos = p)) with
  | some e => (s.lo e.1).out
  | none => unequipTu s.hop.mf4 t1

/-- Group, TUG-2 and column within the TUG-2 of a column of a VC row of width `w`, none where it carries no TU; `g` is the
group of a VC of width 1. -/
def tuOfCol (w g c : Nat) : Option (Nat × Nat × Nat) :=
  if w = 1 then
    if c = 0 || c = 29 || c = 58 then none
    else
      let j := c - 1 - b2n (decide (29 < c)) - b2n (decide (58 < c))
      some (g, j % 7, j / 7)
  else if c < 9 then none
  else some ((c - 9) % 3, (c - 9) / 3 % 7, (c - 9) / 3 / 7)

/-- What a column without TU carries: the null pointer indication of a TUG-3, else fixed stuff (assumption 130). -/
def stuffByte (w r c : Nat) : Byte :=
  if w = 3 && decide (3 ≤ c) && decide (c < 6) then (if r = 0 then 0x9B else if r = 1 then 0xE0 else 0) else 0

/-- A byte of the payload of the LO mapper's VC: `outs` holds the bytes of its TUs. -/
def Vc4.byte (v : Vc4) (m w g : Nat) (outs : Tab (List Byte)) (r c : Nat) : Byte :=
  match tuOfCol w g c with
  | none => stuffByte w r c
  | some x =>
    let t1 := v.tu11.testBit (7 * x.1 + x.2.1)
    let n := if t1 then 4 else 3
    byteAt (tget [] outs (tuKey { m := m, grp := x.1, tug2 := x.2.1, tu := x.2.2 % n })) (r * (if t1 then 3 else 4) + x.2.2 / n)

/-- The VC of source slot `k` of VC-4 equivalent `m`, of width `w`, with the groups `gs`. H4 names the next frame (R117). -/
def State.loSend (m : Nat) (v : Vc4) (k w : Nat) (gs : List Nat) (s : State) : State :=
  let outs : Tab (List Byte) := (v.positions m gs).map (fun x => (tuKey x.1, s.tuOut x.1 x.2))
  s.sendVc k w (BitVec.ofNat 8 (0xFC + (s.hop.mf4 + 1) % 4)) (fun r =>
    (List.range (87 * w - 1)).map (fun i => v.byte m w (gs.headD 0) outs r (i + 1)))

/-- The VCs of the LO mapper (Table TB-1). -/
def State.loVcs (s : State) : State :=
  foldS s.vc4s (fun (e : Nat × Vc4) (s : State) =>
    if e.2.struct = 1 then s.loSend e.1 e.2 (6144 + 3 * e.1) 3 [0, 1, 2]
    else if e.2.struct = 2 then foldS [0, 1, 2] (fun g s => s.loSend e.1 e.2 (6144 + 3 * e.1 + g) 1 [g]) s
    else s) s

/-! ### The GFP mapper (11 R321, R322) -/

/-- Octets of a row of a VC payload of width `w`. -/
def rowOctets (w : Nat) : Nat := gfpOctets w / 9

/-- A row with its fixed stuff put in. -/
def stuffRow (w : Nat) (d : List Byte) : List Byte :=
  if w = 1 then d.take 28 ++ 0 :: (d.drop 28).take 28 ++ 0 :: d.drop 56 else List.replicate (w / 3 - 1) 0 ++ d

/-- The VCs of the transmitting GFP channels. -/
def State.gfpVcs (s : State) : State :=
  foldS s.gfps (fun (e : Nat × Gfp) (s : State) =>
    let s := s.gfpTick e.1
    match (s.gfp e.1).tx with
    | some o => s.sendVc o.slot o.width 0 (fun r => stuffRow o.width (bytesAt (s.gfp e.1).line (rowOctets o.width * r) (rowOctets o.width)))
    | none => s) s

/-! ### A frame of the HO paths at F:0000 -/

/-- The sinks take what has come, the loopbacks move on, the mappers send. -/
def State.mapperFrame (s : State) : State :=
  ((foldS s.sinks (fun x s => s.sinkFrame x.1 x.2) s).loopFrame.loVcs).gfpVcs

/-- The sinks fed by sources that are not received on a line take the frame just written (R107). -/
def State.mapperSinks (s : State) : State :=
  foldS s.sinks (fun x s => if s.xcSource x.1 < 6144 then s else s.sinkPull x.1 x.2) s

end Sys2Proof.Machine
end

