-- ==== Sys2Proof/Machine/Boundary.lean ====
section
/-! DEFINITION. The frame boundary F:0000 (02_story_pole.md R33, R41; 10 R294; 06 R169-R171): the end of a frame, the
count, the work scheduled at the boundary in its order, the new input frame and the read pass. -/

namespace Sys2Proof.Machine

/-! ### The end of a frame -/

/-- Ring `n` holds a pending descriptor that could not proceed (10 Table CM-5). -/
def State.ringHeld (s : State) (n : Nat) : Bool :=
  s.ringRun 0 n && decide ((s.ring 0 n).pendingCount 0 ≠ 0)
    && ((s.ring 0 n).head.isSome || (s.ring 0 n).fence.isSome || !(s.ccFree (s.ring 0 n).bind))

/-- The event of 12 Table MG-4 that slots lost to ring `n` count: a fence stop, a CC without an unreserved entry, or what its
head waits for. -/
def State.lostTo (s : State) (n : Nat) : Option Nat :=
  if (s.ring 0 n).fence.isSome then some 0x0A
  else match (s.ring 0 n).head with
    | some (d, blk) => (match s.verdict n d blk with | .wait ev => ev | _ => none)
    | none => if s.ccFree (s.ring 0 n).bind then none else some 0x08

/-- `n` slots decide nothing: starved in back while a ring is held, else in front (10 R300). They are lost to the first ring
held in the order of service (assumption 76). -/
def State.slotsLost (n : Nat) (s : State) : State :=
  let s := s.pmcAdd 0 n
  match s.rrOrder.find? s.ringHeld with
  | none => s.pmcAdd 3 n
  | some r => (match s.lostTo r with | some ev => (s.pmcAdd 4 n).pmcEvent ev (some r) n | none => s.pmcAdd 4 n)

/-- Admission slots offered by sub-tick `x` of a frame (10 R300): 4 in each of its 137,500 cycles of 1.1 GHz. -/
def slotsBy (x : Nat) : Nat := x * 550000 / subTicks

/-- Of `offered` slots those that decided nothing, in the class that holds now; decisions beyond the slots offered use up those
that follow (assumption 109). -/
def State.slotsOffered (offered : Nat) (s : State) : State :=
  let s := s.slotsLost (offered - s.ce.visited)
  { s with ce := { s.ce with visited := s.ce.visited - offered } }

/-- The slots offered from here up to sub-tick `x` of the frame. -/
def State.idleSlots (x : Nat) (s : State) : State := s.slotsOffered (slotsBy x - slotsBy s.inFrame)

/-- Samples for which no descriptor was admitted within 1 frame are taken with VALID = 0 (12 R342). -/
def State.pmcLate (s : State) : State :=
  if s.pmc.wait.any (fun x => decide (x.2 = 0)) then
    ({ s with pmc := { s.pmc with wait := s.pmc.wait.filter (fun (x : Nat × Nat) => decide (x.2 ≠ 0)) } }).pmcSamples none
      ((s.pmc.wait.filter (fun (x : Nat × Nat) => decide (x.2 = 0))).map (fun (x : Nat × Nat) => x.1))
  else s

/-- A window of the ZN2410 servicing model ends with the frame (12 R357, R358): a legacy task may complete. -/
def State.legacyWindow (s : State) : State :=
  if !s.glb.svc || s.mgt.legacyTask = 0 then s
  else if s.mgt.legacyLeft ≤ 1 then s.legacyEnd s.heldSample
  else { s with mgt := { s.mgt with legacyLeft := s.mgt.legacyLeft - 1 } }

/-- What belongs to the frame that ends: what the processors, the bus masters and the host's reads did in it (assumption 175), its work not yet told,
its bit errors (06 R183), its streams' rows (11 R312). -/
def State.frameEnd (i : FrameInputs) (s : State) : State :=
  let s := foldS i.ports (fun (x : PortOp) (s : State) => s.portOp x) s
  let s := if s.stp.atSecond then s.storySecond s.heldSample else s
  let s := ((s.idleSlots subTicks).subTicksPass (subTicks - s.inFrame)).pmcLate.legacyWindow
  let s := s.addUpsets i.upsets
  let s := s.confFinish
  let s := foldS s.strs (fun (e : Nat × Stream) (s : State) => s.outRow e.1) s
  if i.cntFault then s.raise .stpCnt 0x130 0 0 else s

/-! ### The count (02 R33, R55, R62-R65) -/

/-- A due-table entry moves with the count (R63). -/
def Due.rebase (delta : Word) (d : Due) : Due :=
  { d with boundary := if d.noBoundary then d.boundary else d.boundary + delta, cmd := rebaseCmd delta d.cmd }

/-- An armed timer target moves with the count (R63). -/
def Timer.rebase (delta : Word) (t : Timer) : Timer :=
  { t with target := t.target.map (fun (x : Word × Nat) => (x.1 + delta, x.2)) }

/-- A merge group's last frames moved with the count. -/
def Group.rebase (delta : Word) (x : Group) : Group :=
  { x with merge := { x.merge with atA := x.merge.atA + delta, atB := x.merge.atB + delta } }

/-- Everything R63 names moves by `delta`, and so do the marks from which the device itself measures time, so that relative
timing is kept. The lease end of a lock is kept as the frames left, which do not move; a fetched head keeps how far the count
has moved since (R64). -/
def State.rebase (delta : Word) (s : State) : State :=
  { s with
    hif := { s.hif with rings := tmapAll {} (fun _ (r : Ring) => if r.head.isSome then { r with headDelta := r.headDelta + delta } else r) s.hif.rings }
    ports := tmapAll {} (fun _ (p : Port) => { p with rxAt := p.rxAt.map (fun (x : Word × Nat) => (x.1 + delta, x.2)),
                                                      txAt := p.txAt.map (fun (f : Word) => f + delta) }) s.ports
    hwys := tmapAll {} (fun _ (h : Hwy) => { h with syncAt := h.syncAt.map (fun (x : Word × Nat) => (x.1 + delta, x.2)) }) s.hwys
    prt := { s.prt with groups := s.prt.groups.map (fun (e : Nat × Group) => (e.1, if e.2 = {} then e.2 else e.2.rebase delta)) }
    ce := { s.ce with due := s.ce.due.map (Due.rebase delta) }
    strs := tmapAll {} (fun _ x => x.rebase delta) s.strs
    stp := { s.stp with timers := tmapAll {} (fun _ t => t.rebase delta) s.stp.timers, origin := s.stp.origin + delta }
    tsw := { s.tsw with lastCommit := if s.tsw.committed then s.tsw.lastCommit + delta else s.tsw.lastCommit } }

/-- The boundary applies a written epoch (R62-R65). -/
def State.epochApply (e : Word) (s : State) : State :=
  let f := s.stp.frame + 1
  let delta := e - f
  let s := s.rebase delta
  let s := { s with stp := { s.stp with frame := e, epoch := none, done := true, epochIn := true } }
  let s := s.raise .stpEpoch 0x130 e.toNat delta.toNat
  s.raise .epochRec 0x130 e.toNat (f.toNat * 2 ^ 32 + delta.toNat)

/-- Frames from the one that lies `d` after the origin to the next that begins a story second, 0 where it does (R55). -/
def secondIn (d : Word) : Nat := min ((8000 - d.toNat % 8000) % 8000) ((2 ^ 32 - d.toNat) % 2 ^ 32)

/-- A written SECOND_ORIGIN takes effect (R55): a second whose end moves is cut short or long. -/
def State.originApply (s : State) : State :=
  match s.stp.originNew with
  | none => s
  | some o =>
    { s with stp := { s.stp with origin := o, originNew := none
                                 short := s.stp.short || decide (secondIn (s.stp.frame - o) ≠ secondIn (s.stp.frame - s.stp.origin)) } }

/-- The frame counter takes its next value; a story second may begin, and with it the limits of one message a second
(R33, R55). -/
def State.countOn (s : State) : State :=
  let s := match s.stp.epoch with
    | some e => s.epochApply e
    | none => { s with stp := { s.stp with frame := s.stp.frame + 1 } }
  let s := s.originApply
  let s := { s with stp := { s.stp with phase := 0, sub := 0, atSecond := decide ((s.stp.frame - s.stp.origin).toNat % 8000 = 0) } }
  whenS s.stp.atSecond State.newSecond s

/-! ### The work scheduled at the boundary -/

/-- Copy-backs in progress (06 R176, 07 R193, 04 R103). -/
def State.copyTicks (s : State) : State :=
  let s := if s.tsw.copyLeft = 0 then s else s.tswCopyTick
  let s := if s.cnf.copyLeft = 0 then s else s.cnfCopyTick
  if s.hop.copy then s.xcCopyDone else s

/-- A frame passes for the leases of the held locks (14 R389). -/
def State.leasesOn (s : State) : State :=
  { s with sec := { s.sec with locks := s.sec.locks.map (fun (e : Nat × Lock) =>
      (e.1, if e.2.state = 1 then { e.2 with left := e.2.left - 1 } else e.2)) } }

/-- Leases that end here (14 R389). -/
def State.leasesEnd (s : State) : State := foldS s.sec.locks (fun (e : Nat × Lock) (s : State) => s.leaseTest e.1) s

/-- The commands due at the boundary in the steps of Table CM-3 (10 R294); leases are tested after RES_CLAIM and
RES_RELEASE, protection triggers with PROT_CMD (08 R233). Streams then send the row of the ended frame (11 R312). -/
def State.dueWork (s : State) : State :=
  let s := s.runSteps 0 49
  let s := s.leasesEnd.runSteps 50 59
  let s := s.protJudge.runSteps 60 69
  foldS s.strs (fun (e : Nat × Stream) (s : State) => s.outSend e.1) s

/-- What follows where connections, or the structures they run between, have changed (04 R105). -/
def State.xcFollow (old s : State) : State :=
  if s.hop.active ≠ old.hop.active ∨ s.hop.struct ≠ old.hop.struct ∨ s.vc4s ≠ old.vc4s then s.xcCheck else s

/-- Settings that are written at any time and take force at a boundary (01 R12, R13; 02 R58, 03 R68, 04 R96, 05 R158, 12
R356; assumption 156), and what follows from the changed connections and structures. -/
def State.settings (old : State) (s : State) : State :=
  let s := { s with hop := { s.hop with piCfg := s.reg 0x20000, berCfg := s.reg 0x20004 } }
  let s := { s with prt := { s.prt with fastOof := s.rb 0x60000 0 } }
  let s := (old.xcFollow s.structBoundary.2).stpHold
  let s := foldS (List.range 32) (fun n (s : State) => s.enBoundary n) s
  foldS (List.range 64) (fun n (s : State) => s.hwyApply n) s.ofsBoundary

/-- The clock of the device at a boundary (02 R43-R54). -/
def State.clocks (phaseErr : Int) (s : State) : State :=
  let s := foldS (List.range 8) (fun k (s : State) => s.refBoundary k) s
  let s := (s.selBoundary.dpllBoundary phaseErr).qlUpdate
  (s.refoutBoundary 0).refoutBoundary 1

/-! ### The new input frame and the output frame -/

/-- Ports without signal have their frame times counted at the boundary (03 R75). -/
def State.darkPorts (s : State) : State :=
  foldS (List.range 32) (fun n (s : State) =>
    if (s.port n).en && (s.port n).def_ 1 then (s.lostFrame n).protMoves n else s) s

/-- Tributaries take the frame that their slip buffers release (05 R138, R148, R149). -/
def State.tribsTake (s : State) : State :=
  foldS (s.tribs.filter (fun (e : Nat × Trib) => e.2.cfg.en)) (fun (e : Nat × Trib) (s : State) =>
    ((s.tribLo e.1).tribTake e.1).tribSig e.1) s

/-- The input bytes a run of slots from `k` brings, idle A-law bytes left out. -/
def inputRun (k n : Nat) (f : Nat → SByte) : Tab SByte :=
  (List.range n).filterMap (fun j => let v := f j; if v = {} then none else some (k + j, v))

/-- Rows of the host-to-device streams for this frame (11 R307): their input bytes, and the groups with the rows taken. -/
def State.playRows (s : State) : Tab SByte × State :=
  s.strs.foldl (fun (a : Tab SByte × State) (e : Nat × Stream) =>
    if e.2.inn.isSome then
      let t := a.2.stageRead e.1 a.2.stp.frame
      let a := (a.1, t)
      let r := (t.strm e.1).playRow t.stp.frame
      (a.1 ++ inputRun (0x90000 + 512 * e.1) 512 (fun ch => { b := byteAt r.1 ch, s := 0 }), a.2.setStrm e.1 r.2)
    else a) ([], s)

/-- The input frame of the boundary (06 R163, R164). -/
def State.inputFrame (s : State) : State :=
  let t := s.tribs.flatMap (fun (e : Nat × Trib) => inputRun (32 * e.1) 32 (fun ts => s.tribIn e.1 ts))
  let p := s.playRows
  let h := s.hwys.flatMap (fun (e : Nat × Hwy) => inputRun (0xB0000 + 256 * e.1) 256 (fun ch => { b := s.hwyInput e.1 ch, s := 0 }))
  let o := s.cnf.tones.flatMap (fun (e : Nat × Tone) => inputRun (0xB4000 + 16 * e.1) 16 (fun j => { b := e.2.byte j, s := 0 }))
  { p.2 with tsw := { p.2.tsw with inCur := t ++ p.1 ++ h ++ o } }

/-- The tributary and LO mapper side of the output frame (05 R119, R138). -/
def State.tribsSend (s : State) : State :=
  let out := fun (k : Nat) => s.outByte k
  let l := s.tribs.filter (fun (e : Nat × Trib) => e.2.cfg.en)
  let s := (foldS l (fun (e : Nat × Trib) (s : State) => s.tribTx out e.1) s).tribBridge
  let s := { s with hop := { s.hop with mf4 := (s.hop.mf4 + 1) % 4 } }
  foldS l (fun (e : Nat × Trib) (s : State) => s.loTx e.1) s

/-- The highways' side of the output frame; high-impedance in the fatal state (05 R160, 13 R371). -/
def State.hwysSend (s : State) : State :=
  if s.flt.fatal then { s with hwys := s.hwys.map (fun (e : Nat × Hwy) => (e.1, { e.2 with out := [] })) }
  else
    let out := fun (k : Nat) => s.outByte k
    foldS s.hwys (fun (e : Nat × Hwy) (s : State) => s.hwyTx out e.1) s

/-- The reads of step 7, which see the new input frame (06 R180), and what ORDERED has moved into that step (10 R296). -/
def State.lastStep (s : State) : State := s.xcFollow (s.cnfChanges (s.runSteps 70 79))

/-- Input frame, the last commands, read pass, output frame and the frames of the mappers (06 R169, Table TR-5; 04 R107). -/
def State.dataFrame (s : State) : State :=
  let s := s.darkPorts.loSweep.tribsTake
  let s := foldS s.hwys (fun (e : Nat × Hwy) (s : State) => s.hwyTake e.1) s
  let s := s.inputFrame.lastStep.readPass.tribsSend.hwysSend.mapperFrame.mapperSinks
  s.speakerBoundary.flipFrame (decide (s.stp.frame.toNat % 2 = 1))

/-! ### After the boundary's commands -/

/-- A fetched head waits for a reason of no class of Table CM-5: it may proceed, and the turn of R297 stands at a ring whose
descriptor has not come (assumption 152). -/
def State.strayWait (s : State) (n : Nat) : Bool := (s.ring 0 n).head.isSome && s.mayProceed n

/-- Frames that fetched heads have waited in a row for such a reason (10 R301). -/
def State.waitsOn (s : State) : State :=
  foldS (List.range 64) (fun n (s : State) =>
    if s.strayWait n then s.modRing 0 n (fun r => { r with waited := r.waited + 1 })
    else if (s.ring 0 n).waited = 0 then s
    else s.modRing 0 n (fun r => { r with waited := 0 })) s

/-- What follows the commands of a boundary: fences, waiting heads, the sweep's end, the push FIFO. -/
def State.frameRest (s : State) : State :=
  let s := s.fencesMet.pruneFailed.serveHeads
  let s := if (s.stp.frame - s.stp.origin).toNat % 8000 = 7000 then s.sweepEnd else s
  let s := if s.boot.stage = 4 then s.fifoStep else s
  s.waitsOn

/-- The frame boundary, F:0000 of the next frame. -/
def State.frameBoundary (i : FrameInputs) (s : State) : State :=
  let s := (s.frameEnd i).countOn
  let old := s
  let s := s.tswTurn.confTurn.protTick.copyTicks.leasesOn
  let s := { s with tsw := { s.tsw with chgApplied := 0, patApplied := 0 }, glb := { s.glb with svc := s.rb 0x000C 0 } }
  let s := old.settings (old.cnfChanges s.dueWork)
  (((s.clocks i.phaseErr).dataFrame.addUpsets i.late).lateErrors i.late).frameRest

/-- FRAME_BOUNDARY (02 R33). -/
def execFrameBoundary (i : FrameInputs) (s : State) : Host.Outcome State Fault Refusal := .next (s.frameBoundary i)

end Sys2Proof.Machine
end

