-- ==== Sys2Proof/Machine/RegWrite.lean ====
section
/-! DEFINITION. A write to a BAR0 register (16_register_map.md R418-R424; 09 R255, R257): each word goes to the operation
of the chapter that owns it; a word no register occupies, and a bit no access code writes, is discarded. -/

namespace Sys2Proof.Machine

/-- Clear the bits of `a` that are written 1 (W1C). -/
def clear1 (w a v : Nat) : Nat := (BitVec.ofNat w a &&& ~~~ BitVec.ofNat w v).toNat

/-! ### STP (02) -/

/-- A register whose phase field [11:0] ignores values above 2429 (02 R53, R56). -/
def State.stpWrite (o : Nat) (v : Word) (s : State) : State :=
  if o = 0x1008 then (if wbit v 0 then { s with stp := { s.stp with snap := s.now } } else s)
  else if o = 0x1018 then s.epochWrite v
  else if o = 0x101C then (if wbit v 1 then { s with stp := { s.stp with done := false } } else s)
  else if o = 0x1020 then s.originWrite v
  else if o = 0x102C then s.dpllCfgWrite v
  else if o = 0x1088 then s.offsetWrite o v
  else if 0x1080 ≤ o ∧ o < 0x1088 then s.refoutWrite ((o - 0x1080) / 4) v
  else if 0x1100 ≤ o ∧ o < 0x1120 then s.offsetWrite o v
  else if 0x1200 ≤ o ∧ o < 0x1400 then
    let n := (o - 0x1200) / 0x20
    let r := (o - 0x1200) % 0x20
    if r = 0 then s.tmrWrite n v
    else if r = 0x14 then (if wbit v 1 then s.tmrDisarm n else if wbit v 0 then s.tmrArm n else s)
    else if r = 0x18 then
      s.setTimer n { s.timer n with fired := (s.timer n).fired && !(wbit v 2), armErr := (s.timer n).armErr && !(wbit v 1) }
    else s.regWrite o v
  else s.regWrite o v

/-! ### HIF, command engine, MSI-X (09, 10; 16 R422) -/

/-- The ring that HIF.RSEL selects. -/
def State.rselKind (s : State) : Nat := s.rf 0x2100 16 4
def State.rselRing (s : State) : Nat := s.rf 0x2100 0 8
/-- The window selects a ring. -/
def State.rselOk (s : State) : Bool := decide (s.rselKind < 10) && decide (s.rselRing < ringCount s.rselKind)

/-- One half of a 64-bit register replaced. -/
def halfWord (d : DWord) (high : Bool) (v : Word) : DWord :=
  if high then BitVec.ofNat 64 (d.toNat % 2 ^ 32 + v.toNat * 2 ^ 32) else BitVec.ofNat 64 (d.toNat / 2 ^ 32 * 2 ^ 32 + v.toNat)

/-- A write through the ring window (R255, R258, R266, R268, R274, R261). -/
def State.ringWrite (o : Nat) (v : Word) (s : State) : State :=
  if !s.rselOk then s
  else
    let k := s.rselKind
    let n := s.rselRing
    let r := s.ring k n
    if o = 0x2124 then s.setRing k n { r with cfgErr := r.cfgErr && !(wbit v 3), descErr := r.descErr && !(wbit v 2) }
    else if !s.glb.ready then s
    else if o = 0x2108 ∨ o = 0x210C then
      (if r.en then s else s.setRing k n { r with base := halfWord r.base (o = 0x210C) (if o = 0x2108 then v &&& 0xFFFFF000#32 else v) })
    else if o = 0x2110 ∨ o = 0x2114 then
      s.setRing k n { r with wb := halfWord r.wb (o = 0x2114) (if o = 0x2110 then v &&& 0xFFFFFFF8#32 else v) }
    else if o = 0x2118 then s.rcfgWrite k n v
    else if o = 0x211C then s.setRing k n { r with vec := wfld v 0 6 }
    else if o = 0x2128 then (if wbit v 0 then s.ringReset k n else s)
    else s

/-- One word of an MSI-X table entry; bit 0 of its control word masks it (09 R277). -/
def Vec.write (r : Nat) (v : Word) (e : Vec) : Vec :=
  if r = 0 then { e with addr := halfWord e.addr false v }
  else if r = 4 then { e with addr := halfWord e.addr true v }
  else if r = 8 then { e with data := v }
  else { e with ctl := v &&& 1#32 }

/-- Word `r` of vector `i` is written; what an unmasked vector held back goes out. -/
def State.vecWrite (i r : Nat) (v : Word) (s : State) : State :=
  ({ s with hif := { s.hif with vecs := tset {} s.hif.vecs i ((s.vec i).write r v) } }).flushVecs

/-- A write of a word of the MSI-X table; a vector that is no longer masked sends what is pending (R422, R275). -/
def State.msixWrite (o : Nat) (v : Word) (s : State) : State :=
  if 0x3400 ≤ o then s else s.vecWrite ((o - 0x3000) / 16) ((o - 0x3000) % 16) v

/-- A write of the host interface's and the command engine's words. -/
def State.hifWrite (o : Nat) (v : Word) (s : State) : State :=
  if 0x3000 ≤ o then s.msixWrite o v
  else if 0x2108 ≤ o ∧ o < 0x212C then s.ringWrite o v
  else if o = 0x2008 then
    { s with hif := { s.hif with fatalCause := s.hif.fatalCause && !(wbit v 1), nmiCause := s.hif.nmiCause && !(wbit v 0) } }
  else if o = 0x200C then { s with hif := { s.hif with evLost := clear1 32 s.hif.evLost v.toNat } }
  else if o = 0x2014 then { s with hif := { s.hif with dbErr := s.hif.dbErr && !(wbit v 31) } }
  else if o = 0x2200 then { s with ce := { s.ce with stall := s.ce.stall && !(wbit v 30) } }
  else s.regWrite o v

/-! ### FLT, LOG, PMC (13, 12) -/

/-- A write of FLT.ERRPIN (13 R370): FORCE is stored, ASSERT acts before RELEASE. -/
def State.errPinWrite (v : Word) (s : State) : State :=
  let s := s.regWrite 0x400C v
  let s := if wbit v 0 then s.errAssert else s
  if wbit v 1 then s.errRelease else s

/-- FLT.CAUSE bits of word `w` written 1 are cleared (13 R369). -/
def State.causeClear (w : Nat) (v : Word) (s : State) : State :=
  { s with flt := { s.flt with cause := s.flt.cause &&& ~~~ (BitVec.ofNat 512 v.toNat <<< (32 * w)) } }

def State.fltWrite (o : Nat) (v : Word) (s : State) : State :=
  if o = 0x4180 then s.injUnlock v
  else
    let s := s.fltTouched
    if o = 0x4000 then { s with flt := { s.flt with self := s.flt.self && !(wbit v 30) } }
    else if o = 0x4004 then { s with flt := { s.flt with lost := clear1 16 s.flt.lost v.toNat } }
    else if o = 0x400C then s.errPinWrite v
    else if o = 0x4014 then
      let s := if wbit v 0 then { s with flt := { s.flt with first := none } } else s
      if wbit v 1 then s.clrFatal else s
    else if o = 0x4084 then s.reactWrite v
    else if 0x4100 ≤ o ∧ o < 0x4140 then s.causeClear ((o - 0x4100) / 4) v
    else if o = 0x4184 then s.injCtl v
    else if o = 0x4188 then (if s.flt.test then s.regWrite o v else s)
    else s.regWrite o v

def State.logRegWrite (o : Nat) (v : Word) (s : State) : State :=
  if o = 0x5000 then s.logCfg v
  else if o = 0x5004 then
    { s with log := { s.log with overtaken := s.log.overtaken && !(wbit v 31), markErr := s.log.markErr && !(wbit v 30) } }
  else if o = 0x500C then s.logMark v
  else if o = 0x5014 then
    { s with log := { s.log with lostOver := s.log.lostOver &&& ~~~ (v.extractLsb' 16 16), lostDrop := s.log.lostDrop &&& ~~~ (v.extractLsb' 0 16) } }
  else if o = 0x5020 then s.logRidx v
  else s

def State.pmcWrite (o : Nat) (v : Word) (s : State) : State :=
  if o = 0x6000 then
    let s := s.regWrite o v
    if wbit v 0 then s.pmcSnap else s
  else if o = 0x6004 then { s with pmc := { s.pmc with ovf := s.pmc.ovf &&& ~~~ (v.extractLsb' 0 13) } }
  else s.regWrite o v

/-! ### Line, tributary and highway blocks (03, 04, 05) -/

def State.lptWrite (o : Nat) (v : Word) (s : State) : State :=
  let n := (o - 0x10000) / 0x400
  let r := (o - 0x10000) % 0x400
  if r = 0x000 then s.portCfgWrite n v
  else if r = 0x004 then s.serdesCfgWrite n v
  else if r = 0x01C then s.modPort n (fun p => { p with sticky := p.sticky &&& ~~~ (v.extractLsb' 0 10) })
  else if r = 0x040 then s.offsetWrite o v
  else s.regWrite o v

/-- TRB.TRIB_STICKY (05 R155): bits 8 to 2 are the defects LOS to RMAI, bit 9 TAG_LOCK lost. -/
def trbStickyOf (v : Nat) : BitVec 8 :=
  (List.range 8).foldl (fun (a : BitVec 8) i => if v.testBit (if i = 7 then 9 else 8 - i) then a ||| (1#8 <<< i) else a) 0

def State.trbWrite (o : Nat) (v : Word) (s : State) : State :=
  if o = 0x30018 then
    let t := s.rf 0x30010 0 14
    if (tkeep (fun k => decide (k = t)) s.tribs).isEmpty then s
    else s.putTrib t { s.trib t with sticky := (s.trib t).sticky &&& ~~~ (trbStickyOf v.toNat) }
  else s.regWrite o v

def State.hwyRegWrite (o : Nat) (v : Word) (s : State) : State :=
  if 0x74000 ≤ o then s.hwyGroupWrite ((o - 0x74000) / 0x10) v
  else if (o - 0x70000) % 0x100 = 8 then
    s.modHwy ((o - 0x70000) / 0x100) (fun h => { h with sticky := h.sticky &&& ~~~ (v.extractLsb' 0 2) })
  else s.regWrite o v

/-! ### STR, GFP, MGT, PIN, BUS, BOOT (11, 12, 14, 15) -/

def State.strWrite (o : Nat) (v : Word) (s : State) : State :=
  if o < 0x80040 then (if s.ckuBusy ((o - 0x80000) / 0x10) then s else s.regWrite o v)
  else if o = 0x80204 then s.modDcc (s.rf 0x80200 0 6) (fun x => { x with cfg := v &&& 0xC0001FFF#32 })
  else s.regWrite o v

def State.gfpWrite (o : Nat) (v : Word) (s : State) : State :=
  if o = 0x90004 then s.modGfp (s.rf 0x90000 0 6) (fun x => { x with lfdSticky := x.lfdSticky && !(wbit v 26) })
  else s.regWrite o v

def State.mgtWrite (o : Nat) (v : Word) (s : State) : State :=
  if o = 0xA0200 then s.legacyCmd (wfld v 0 2)
  else if o = 0xA0204 then
    { s with mgt := { s.mgt with legacyErr := s.mgt.legacyErr && !(wbit v 2), legacyDone := s.mgt.legacyDone && !(wbit v 1) } }
  else s.regWrite o v

/-- PIN.GPIO_DIR and GPIO_OUT take only the bits of GPIOs that a host reservation alone holds (14 R397). -/
def State.gpioWrite (dir : Bool) (v : Word) (s : State) : State :=
  let m := s.gpioReserved
  let x := v.extractLsb' 0 16
  if dir then { s with pin := { s.pin with dir := (s.pin.dir &&& ~~~ m) ||| (x &&& m) } }
  else { s with pin := { s.pin with out := (s.pin.out &&& ~~~ m) ||| (x &&& m) } }

def State.pinWrite (o : Nat) (v : Word) (s : State) : State :=
  if o = 0xB0014 then s.gpioWrite true v
  else if o = 0xB0018 then s.gpioWrite false v
  else if 0xB0020 ≤ o ∧ o < 0xB002C then s.altCfgWrite ((o - 0xB0020) / 4) v
  else if 0xB0040 ≤ o then
    let k := (o - 0xB0040) / 0x10
    let r := (o - 0xB0040) % 0x10
    if r = 0 then s.captCfgWrite k v
    else if r = 4 then s.setCapt k { s.capt k with ovf := (s.capt k).ovf && !(wbit v 31) }
    else s
  else s.regWrite o v

def State.busWrite (o : Nat) (v : Word) (s : State) : State :=
  if o = 0x8040 then (if wbit v 0 then s.busCommit else s)
  else if o = 0x8050 then { s with bus := { s.bus with decErr := s.bus.decErr &&& ~~~ v } }
  else s.regWrite o v

def State.bootWrite (o : Nat) (v : Word) (s : State) : State :=
  if o = 0x9010 then (if wbit v 0 then s.pushEnd false else s)
  else if o = 0x9014 then s.pushBytes false (leBytes 4 v.toNat)
  else if o = 0x9018 then s.pushTail false v
  else if o = 0x901C then { s with boot := { s.boot with conflict := s.boot.conflict && !(wbit v 30) } }
  else s

/-! ### The whole map -/

/-- A 4-byte write of the word at BAR0 offset `o`. -/
def State.writeWord (o : Nat) (v : Word) (s : State) : State :=
  if (regRow o).isNone then s
  else if o < 0x10000 then
    match o / 0x1000 with
    | 0 => if o = 0x10 then s.rstctl v else s.regWrite o v
    | 1 => s.stpWrite o v
    | 2 | 3 => s.hifWrite o v
    | 4 => s.fltWrite o v
    | 5 => s.logRegWrite o v
    | 6 => s.pmcWrite o v
    | 8 => s.busWrite o v
    | 9 => s.bootWrite o v
    | _ => s.regWrite o v
  else
    match o / 0x10000 with
    | 1 => s.lptWrite o v
    | 2 => if 0x20100 ≤ o then s.structWrite ((o - 0x20100) / 0x10) ((o - 0x20100) % 0x10 / 4) v else s.regWrite o v
    | 3 => s.trbWrite o v
    | 7 => s.hwyRegWrite o v
    | 8 => s.strWrite o v
    | 9 => s.gfpWrite o v
    | 10 => s.mgtWrite o v
    | 11 => s.pinWrite o v
    | _ => s.regWrite o v

/-- A write of `bytes` bytes to BAR0 (09 R257): naturally aligned, of 4 bytes, or of 8 bytes as one PMC preset or as two
words, the lower first; a narrower one is discarded. -/
def State.writeReg (o bytes : Nat) (v : DWord) (s : State) : State :=
  if bytes = 8 then
    (if o % 8 ≠ 0 then s
     else if 0x6100 ≤ o ∧ o < 0x6168 then s.pmcPreset ((o - 0x6100) / 8) v
     else (s.writeWord o (v.extractLsb' 0 32)).writeWord (o + 4) (v.extractLsb' 32 32))
  else if bytes ≠ 4 ∨ o % 4 ≠ 0 then s
  else s.writeWord o (v.extractLsb' 0 32)

/-- REGISTER_WRITE (09 R257). -/
def execRegisterWrite (o bytes : Nat) (v : DWord) (s : State) : Host.Outcome State Fault Refusal := .next (s.writeReg o bytes v)

/-- RESOURCE_REGISTER_CLAIM (14 R392): a write to a set-up register whose EN field claims shared resources. -/
def execResourceRegisterClaim (r : ClaimReg) (v : Word) (s : State) : Host.Outcome State Fault Refusal :=
  .next (match r with
    | .timer n => s.tmrWrite n.val v
    | .refout m => s.refoutWrite m.val v
    | .hwyGroup g => s.hwyGroupWrite g.val v
    | .alt a => s.altCfgWrite a.val v
    | .capt k => s.captCfgWrite k.val v)

end Sys2Proof.Machine
end

