-- ==== Sys2Proof/Machine/Read.lean ====
section
/-! DEFINITION. What a read of a BAR0 word, a doorbell or the user counter page returns (16_register_map.md R418-R424; the
register sections of 02 to 15; 09 R262; 12 R345). Reading is no command of the table: these are functions of the state.
What a read finds or removes besides stands in State.readEffect. -/

namespace Sys2Proof.Machine

/-- Low and high half of a 64-bit register. -/
def half64 (d : DWord) (high : Bool) : Nat := if high then d.toNat / 2 ^ 32 else d.toNat % 2 ^ 32

/-- The word at byte `4 * w` of a record. -/
def wordAt (b : List Byte) (w : Nat) : Nat := leNat (bytesAt b (4 * w) 4)

/-- A signed value in `w` bits. -/
def sfield (w : Nat) (v : Int) : Nat := (BitVec.ofInt w v).toNat

/-! ### Pins (14 R397, Table SE-3; 13 R370) -/

/-- A timer's pulse in progress on GPIO `i` and its polarity: it completes even after EN = 0 (02 R59). -/
def State.gpioPulse (s : State) (i : Nat) : Option Bool :=
  ((List.range 16).find? (fun n => decide (0 < (s.timer n).pulse) && decide ((s.timer n).pulseGpio = i))).map (fun n => (s.timer n).pulseHigh)

/-- The level the device drives on GPIO `i`, none where it drives none. -/
def State.gpioDriven (s : State) (i : Nat) : Option Bool :=
  if (s.gpioPulse i).isSome then s.gpioPulse i else
  let alt := (List.range 3).find? (fun a => (tget (none, false) s.pin.alt a).1 = some i)
  let tmr := (List.range 16).find? (fun n => (s.timer n).gpio = some i)
  match alt, tmr with
  | some a, _ =>
    let on := if a = 0 then s.errLow else if a = 1 then s.flt.fatal else decide (s.stp.dpll = 2)
    some (on != s.rb (0xB0020 + 4 * a) 29)
  | none, some n => some (s.rb (tmrReg n 0) 25)
  | none, none => if (s.gpioReserved &&& s.pin.dir).getLsbD i then some (s.pin.out.getLsbD i) else none

/-- PIN.GPIO_IN: the level of every ball. -/
def State.gpioIn (s : State) : Nat :=
  (List.range 16).foldl (fun a i => a + putB ((s.gpioDriven i).getD (s.pin.gpioIn.getLsbD i)) i) 0

/-! ### FLT.LIVE (13 R369) -/

/-- A source has a standing fault: a poisoned word, a processor out of service, a failed boot, a sensor alarm, a PLL out of
lock, a failed oscillator. -/
def State.live (s : State) (src : Nat) : Bool :=
  if src < 0x20 then (s.port src).rxLol || (s.port src).txLol
  else if src = 0x068 then s.tsw.poisonA.any (fun e => e.2) || s.tsw.poisonB.any (fun e => e.2)
  else if 0x070 ≤ src ∧ src < 0x080 then
    let l := src - 0x070
    (s.cnf.poisPA ++ s.cnf.poisPB).any (fun e => e.2 && decide (e.1 / 4096 = l))
      || (s.cnf.poisCA ++ s.cnf.poisCB).any (fun e => e.2 && decide (e.1 / 1024 = l))
  else if 0x120 ≤ src ∧ src < 0x130 then
    s.prt.groups.any (fun e => e.2.poison && decide (prtSource (e.1 / 65536) (e.1 % 65536) = src))
  else if src = 0x069 then s.hop.mism.any (fun e => decide (e.2 ≠ 0))
  else if src = 0x151 then s.ce.due.any (fun (d : Due) => d.ue)
  else if src = 0x131 then s.stp.oscFail
  else if 0x160 ≤ src ∧ src < 0x167 then s.glb.ready && !(s.inSvc (src - 0x160))
  else if src = 0x183 then s.sec.keys.any (fun e => e.2.poison)
  else if src = 0x184 then s.sec.cmacPoison
  else if src = 0x187 then !s.glb.ready && decide (s.boot.fail ≠ 0)
  else if src = 0x188 then s.mgt.hot || s.mgt.crit || s.mgt.voltBad || s.flt.pfail
  else if src = 0x189 then decide (s.flt.pllLol ≠ 0)
  else false

/-- FLT.LIVE[w]. -/
def State.liveWord (s : State) (w : Nat) : Nat := (List.range 32).foldl (fun a b => a + putB (s.live (32 * w + b)) b) 0

/-! ### The blocks -/

def State.readGlb (s : State) (o : Nat) : Nat :=
  let st := s.glb.straps
  match o with
  | 0x0 => 0x64101D5A
  | 0x4 => 0xA0 + putB Config.gradeI 8
  | 0x8 => putB s.glb.ready 30 + putB s.flt.fatal 16 + s.insvcBits.toNat
  | 0x10 => put s.glb.last 24 4 + s.rf o 0 1
  | 0x14 => b2n s.glb.remap
  | 0x1C => putB st.testMode 4 + put st.mi2cAddr.val 2 2 + put st.bootSrc.val 0 2
  | _ => (s.reg o).toNat

def State.readStp (s : State) (o : Nat) : Nat :=
  if o < 0x1008 then half64 s.now.word (o = 0x1004)
  else if o = 0x1008 then 0
  else if o = 0x1010 ∨ o = 0x1014 then half64 s.stp.snap.word (o = 0x1014)
  else if o = 0x101C then putB s.stp.done 1 + b2n s.stp.epoch.isSome
  else if o = 0x1020 then (s.stp.originNew.getD s.stp.origin).toNat
  else if o = 0x1028 then
    put s.ownQl 28 4 + putB s.stp.sel.isSome 23 + put (match s.stp.sel with | some k => k.val | none => 0) 20 3
      + (List.range 8).foldl (fun a k => a + putB (s.ref k).qualified k) 0
  else if o = 0x1030 then
    put (sfield 16 s.stp.phaseErr) 16 16 + putB s.aligned 4 + putB s.stp.oscFail 3 + putB s.stp.holdReady 2 + put s.stp.dpll 0 2
  else if 0x1040 ≤ o ∧ o < 0x1080 ∧ o % 8 = 4 then
    let k := (o - 0x1040) / 8
    let r := s.ref k
    put (sfield 16 r.fofs) 16 16 + put (s.effQl k) 8 4 + putB (s.lineDef k) 4 + putB r.wtrRun 3 + putB r.qualified 2
      + putB r.freqOk 1 + b2n r.active
  else if o = 0x1080 ∨ o = 0x1084 then (s.reg o).toNat + putB (s.refout ((o - 0x1080) / 4)).refused 30
  else if 0x1200 ≤ o then
    let n := (o - 0x1200) / 0x20
    let t := s.timer n
    match (o - 0x1200) % 0x20 with
    | 0 => (s.reg o).toNat + putB t.refused 30 + putB t.gpioRefused 29
    | 0x18 => putB t.fired 2 + putB t.armErr 1 + b2n t.target.isSome
    | _ => (s.reg o).toNat
  else (s.reg o).toNat

/-- The ring window (Table RG-10). -/
def State.readRing (s : State) (o : Nat) : Nat :=
  if !s.rselOk then 0
  else
    let k := s.rselKind
    let n := s.rselRing
    let r := s.ring k n
    if o = 0x2108 ∨ o = 0x210C then half64 r.base (o = 0x210C)
    else if o = 0x2110 ∨ o = 0x2114 then half64 r.wb (o = 0x2114)
    else if o = 0x2118 then
      putB r.en 31 + put r.weight 26 4 + put r.bind 16 6 + put r.size 8 5 + put r.intMode 4 2
    else if o = 0x211C then r.vec
    else if o = 0x2120 then put (s.seenIdx k n) 16 16 + put r.host 0 16
    else if o = 0x2124 then putB r.cfgErr 3 + putB r.descErr 2 + putB r.phase 1 + b2n (s.ringRun k n)
    else 0

/-- The earliest pending commit (10 HIF.CE_NEXT_COMMIT). -/
def State.nextCommit (s : State) : Option Word :=
  (s.ce.due.filter (fun d => decide (d.cmd = .fabricCommit))).foldl (fun (a : Option Word) d => match a with
    | none => some d.boundary
    | some b => some (if distance d.boundary s.stp.frame < distance b s.stp.frame then d.boundary else b)) none

def State.readMsix (s : State) (o : Nat) : Nat :=
  if 0x3800 ≤ o then half64 s.hif.pend (o = 0x3804)
  else
    let e := s.vec ((o - 0x3000) / 16)
    match (o - 0x3000) % 16 with
    | 0 => half64 e.addr false
    | 4 => half64 e.addr true
    | 8 => e.data.toNat
    | _ => e.ctl.toNat

def State.readHif (s : State) (o : Nat) : Nat :=
  if 0x3000 ≤ o then s.readMsix o
  else if 0x2108 ≤ o ∧ o < 0x212C then s.readRing o
  else
    let b := s.reg 0x2210
    match o with
    | 0x2000 => putB s.hif.linkUp 8 + put s.hif.linkWidth 4 4 + put s.hif.linkSpeed 0 4
    | 0x2008 => putB s.hif.fatalCause 1 + b2n s.hif.nmiCause
    | 0x200C => s.hif.evLost
    | 0x2010 => s.heldCount
    | 0x2014 => putB s.hif.dbErr 31 + put s.hif.dbKind 16 4 + put s.hif.dbRing 0 8
    | 0x2018 => put s.hif.rstLast 30 2 + put s.hif.purged 0 17
    | 0x2200 => putB s.nextCommit.isSome 31 + putB s.ce.stall 30 + put s.dueUsed 0 17
    | 0x2208 => s.ce.refused.toNat
    | 0x220C => put s.ce.lastIdx 16 16 + put s.ce.lastRing 8 6 + put s.ce.lastStat 0 8
    | 0x2214 => put (s.patAt b) 16 9 + put (s.chgAt b) 0 14
    | 0x2218 => (List.range 7).foldl (fun a p => max a (s.procAt b p)) 0
    | 0x221C => (s.nextCommit.getD 0).toNat
    | _ => (s.reg o).toNat

/-- FLT.FIRST and FIRST_FATAL: words 0 to 5 of the entry, VALID in word 6. -/
def firstWord (e : Option LogEntry) (w : Nat) : Nat := match e with
  | none => 0
  | some x => if w < 6 then wordAt x.bytes w else putB (w = 6) 31

def State.readFlt (s : State) (o : Nat) : Nat :=
  if 0x4020 ≤ o ∧ o < 0x4040 then firstWord s.flt.first ((o - 0x4020) / 4)
  else if 0x4040 ≤ o ∧ o < 0x4060 then firstWord s.flt.firstFatal ((o - 0x4040) / 4)
  else if 0x4100 ≤ o ∧ o < 0x4140 then s.flt.cause.toNat >>> (8 * (o - 0x4100)) % 2 ^ 32
  else if 0x4140 ≤ o ∧ o < 0x4180 then s.liveWord ((o - 0x4140) / 4)
  else match o with
    | 0x4000 => putB s.flt.fatal 31 + putB s.flt.self 30 + putB s.flt.pfail 29 + putB s.flt.injOpen 28 + put s.flt.queue.length 0 7
    | 0x4004 => s.flt.lost
    | 0x400C => putB s.errLow 31 + putB s.flt.errWait 30 + (s.reg o).toNat
    | 0x4014 | 0x4180 => 0
    | 0x4084 => if s.rf 0x4080 0 2 = 3 then 0 else (s.reaction (s.rf 0x4080 2 9) (s.rf 0x4080 0 2)).toNat
    | _ => (s.reg o).toNat

def State.readLog (s : State) (o : Nat) : Nat :=
  if 0x5024 ≤ o then wordAt s.log.rdata.bytes ((o - 0x5024) / 4)
  else match o with
    | 0x5004 => putB s.log.overtaken 31 + putB s.log.markErr 30 + putB s.logStopped 29 + put s.log.count 0 14
    | 0x5008 => s.log.wr
    | 0x500C => s.log.mark
    | 0x5010 => s.log.mirr
    | 0x5014 => s.log.lostOver.toNat * 65536 + s.log.lostDrop.toNat
    | _ => (s.reg o).toNat

def State.readPmc (s : State) (o : Nat) : Nat :=
  let cell (t : Tab Nat) (b : Nat) := half64 (BitVec.ofNat 64 (tget 0 t ((o - b) / 8))) (o % 8 = 4)
  if 0x6180 ≤ o then cell s.pmc.shadow 0x6180
  else if 0x6100 ≤ o then cell s.pmc.cnt 0x6100
  else match o with
    | 0x6004 => putB s.pmcFrozen 31 + s.pmc.ovf.toNat
    | 0x6008 | 0x600C => half64 s.pmc.snap.word (o = 0x600C)
    | 0x6010 | 0x6014 => half64 s.pmc.sample (o = 0x6014)
    | _ => (s.reg o).toNat

def State.readSec (s : State) (o : Nat) : Nat :=
  let i := s.rf 0x7000 0 6
  let k := s.key i
  let l := s.lock (s.rf 0x7100 0 8)
  match o with
  | 0x7004 => putB k.loaded 31 + putB k.aes256 30 + putB (s.keyPend i) 29 + putB k.poison 28 + putB k.exhausted 27 + put (s.keyUsers i) 0 8
  | 0x7008 => k.ctr.toNat
  | 0x700C => if k.loaded then k.kcv else 0
  | 0x7010 => tcount (fun _ (x : KeySlot) => x.loaded) s.sec.keys
  | 0x7104 => put l.state 30 2 + put (if l.state = 2 then l.cause else 0) 16 2 + put (if l.state = 0 then 0 else l.owner) 0 16
  | 0x7108 => if l.state = 1 then l.left else 0
  | 0x710C => l.since.toNat
  | 0x7110 => put (tcount (fun _ (x : Lock) => decide (x.state = 2)) s.sec.locks) 16 9
      + put (tcount (fun _ (x : Lock) => decide (x.state = 1)) s.sec.locks) 0 9
  | _ => (s.reg o).toNat

def State.readBus (s : State) (o : Nat) : Nat :=
  if o < 0x8024 then (s.reg o).toNat + put (tget 0 s.bus.active ((o - 0x8000) / 4)) 16 4
  else match o with
    | 0x8048 => (s.reg 0x8044).toNat
    | 0x8050 => s.bus.decErr.toNat
    | 0x8058 => put s.bus.decMaster 28 4
    | 0x805C => putB s.bus.decWrite 3
    | 0x8060 => s.bus.decAddr.toNat
    | _ => (s.reg o).toNat

def State.readBoot (s : State) (o : Nat) : Nat := match o with
  | 0x9000 => put s.boot.stage 28 4 + put s.boot.src 26 2 + putB s.boot.copy 25 + put s.boot.fail 0 8
  | 0x9004 => s.boot.version.toNat
  | 0x9008 => s.boot.instr.toNat * 2 ^ 24 + s.boot.dummy.toNat * 65536 + put s.boot.density 0 8
  | 0x901C => putB s.boot.ovf 31 + putB s.boot.conflict 30 + putB (s.boot.owned && s.boot.ownerI2c) 29 + put (4096 - s.boot.fifo.length) 0 13
  | _ => 0

def State.readLpt (s : State) (o : Nat) : Nat :=
  let n := (o - 0x10000) / 0x400
  let p := s.port n
  match (o - 0x10000) % 0x400 with
  | 0x18 => put p.frm 12 2 + putB p.cdrLock 11 + putB p.txLock 10 + p.defects.toNat
  | 0x1C => p.sticky.toNat
  | 0x24 => put p.k1Raw.toNat 24 8 + put p.k2Raw.toNat 16 8 + put p.k1Acc 8 8 + put p.k2Acc 3 5
  | 0x28 => put p.s1Raw 8 4 + put p.s1Acc 0 4
  | 0x2C => put p.capE2.toNat 16 8 + put p.capF1.toNat 8 8 + put p.capE1.toNat 0 8
  | 0x30 => p.b1Cnt.toNat
  | 0x34 => p.b2Cnt.toNat
  | 0x38 => p.reiCnt.toNat
  | _ => (s.reg o).toNat

/-- An entry of the cross-connect map as HOP.XC_RDATA shows it (04 R102): of the standby page what it will hold once
copy-back has ended. -/
def State.xcRead (s : State) : Nat :=
  let d := s.rf 0x20010 0 13
  let stb := s.rb 0x20010 31 && (!s.hop.copy || tget false s.hop.dirty d)
  (s.xcPage (if stb then !s.hop.active else s.hop.active) d).toNat

def State.readHop (s : State) (o : Nat) : Nat := match o with
  | 0x2000C => putB s.hop.copy 1 + b2n s.hop.active
  | 0x20014 => s.xcRead
  | 0x20018 => (List.range 32).foldl (fun a n => a + putB (s.structErr n) n) 0
  | _ => (s.reg o).toNat

def State.readTrb (s : State) (o : Nat) : Nat :=
  let x := s.trib (s.rf 0x30010 0 14)
  let m := s.rf 0x30020 0 9
  let d (v : BitVec 8) (top : Nat) : Nat := (List.range 7).foldl (fun a i => a + putB (v.getLsbD i) (top - i)) 0
  match o with
  | 0x30004 => put (tcount (fun _ (v : Vc4) => decide (v.struct ≠ 0)) s.vc4s) 16 9 + put (tcount (fun _ (v : Trib) => v.cfg.en) s.tribs) 0 15
  | 0x30014 => putB x.cfg.en 31 + putB x.cfg.t1 30 + put x.frm 28 2 + putB (x.wantsCrc && x.frm = 2 && !x.cfg.t1) 27 + put x.saAcc 20 5
      + put x.slip.fill 10 10 + putB x.tagLock 9 + d (x.defects.setWidth 8) 8
  | 0x30018 => putB (x.sticky.getLsbD 7) 9 + d x.sticky 8
  | 0x30024 => put (s.vc4 m).struct 30 2 + put (s.vc4 m).tu11 0 21
  | _ => (s.reg o).toNat

def State.readTsw (s : State) (o : Nat) : Nat :=
  let k := s.rf 0x40010 0 20
  let stb := s.rb 0x40010 31
  match o with
  | 0x40000 => putB s.tsw.committed 2 + putB (s.tsw.copyLeft ≠ 0) 1 + b2n s.tsw.active
  | 0x40004 => s.tsw.lastCommit.toNat
  | 0x40008 => put s.tsw.patApplied 16 9 + put s.tsw.chgApplied 0 14
  | 0x40014 => (s.tswEntry stb k).toNat
  | 0x40018 => putB (s.tswPoison (s.tswReadPage stb k) k) 1 + b2n (s.tswDirty k)
  | 0x40020 => s.tsw.cmCe.toNat * 65536 + s.tsw.cmUe.toNat
  | 0x40024 => s.tsw.dmCe.toNat * 65536 + s.tsw.dmUe.toNat
  | 0x40028 => put s.tsw.lastUnit 28 4 + put s.tsw.lastAddr 0 20
  | _ => (s.reg o).toNat

/-- A roster entry of a participant as a word (07 Table CF-6). -/
def PEntry.word (e : PEntry) : Nat :=
  if !e.inUse then 0 else
  putB true 31 + put e.set.role 29 2 + putB e.set.mu 28 + put e.set.conf 14 14 + put (e.set.gin + 48).toNat 7 7 + put (e.set.gout + 48).toNat 0 7

/-- A roster entry of a conference as a word (07 Table CF-7). -/
def CEntry.word (e : CEntry) : Nat :=
  if !e.inUse then 0 else putB true 31 + put e.set.k 27 4 + put e.set.hang 19 8 + putB e.set.spkEv 18 + put e.set.floor 0 10

def State.readCnf (s : State) (o : Nat) : Nat :=
  let i := s.rf 0x50020 0 16
  let isC := s.rb 0x50020 30
  let stb := s.rb 0x50020 31
  let act := s.cnfParts s.cnf.active
  if 0x50100 ≤ o then
    let mem := act.filter (fun (e : Nat × PEntry) => e.2.inUse && decide (e.1 / 4096 = (o - 0x50100) / 4))
    put mem.length 16 13 + put (mem.map (fun (e : Nat × PEntry) => e.2.set.conf)).dedup.length 0 12
  else match o with
    | 0x50000 => putB (s.cnf.copyLeft ≠ 0) 1 + b2n s.cnf.active
    | 0x50004 => put (tcount (fun _ (e : CEntry) => e.inUse) (s.cnfConfs s.cnf.active)) 17 15 + put (tcount (fun _ (e : PEntry) => e.inUse) act) 0 17
    | 0x5000C => s.cnf.ce.toNat * 65536 + s.cnf.ue.toNat
    | 0x50010 => put s.cnf.lastUnit 28 4 + put s.cnf.lastAddr 0 17
    | 0x50024 =>
      if isC then (if 16384 ≤ i then 0 else (if stb then s.sbConf i else s.cnfConf i).word)
      else (if stb then s.sbPart i else s.cnfPart i).word
    | 0x50028 =>
      if isC then (if 16384 ≤ i then 0 else putB (tget false (s.cnfPoisC (if stb then s.confPage i else s.cnf.active)) i) 1 + b2n (tget false s.cnf.dirtyC i))
      else putB (tget false (s.cnfPoisP (if stb then s.partPage i else s.cnf.active)) i) 1 + b2n (tget false s.cnf.dirtyP i)
    | 0x5002C => tcount (fun _ (t : Tone) => t.d.en) s.cnf.tones
    | _ => (s.reg o).toNat

/-- K1 and K2 as port `n` sends them: all-ones while it sends MS-AIS (08 PRT.PAIR_K). -/
def State.kSent (s : State) (n : Nat) : Nat × Nat :=
  if s.rb (lpt n 0x44) 0 then (0xFF, 0xFF) else ((s.txK n).1.toNat, (s.txK n).2.toNat)

def State.readPrt (s : State) (o : Nat) : Nat :=
  let used (k : Nat) : Nat := tcount (fun i (x : Group) => decide (i / 65536 = k) && x.inUse) s.prt.groups
  if 0x60140 ≤ o then
    let x := s.group 0 ((o - 0x60140) / 4)
    if !x.inUse then 0
    else
      let p := s.port x.op.p
      put (s.kSent x.op.p).1 24 8 + put (s.kSent x.op.p).2 16 8 + put p.k1Acc 8 8 + put p.k2Acc 3 5
  else if 0x60100 ≤ o then
    let x := s.group 0 ((o - 0x60100) / 4)
    if !x.inUse then 0
    else putB true 31 + putB x.op.bidir 30 + putB x.op.revert 29 + putB x.selP 28 + putB x.fop 27 + putB x.modeMm 26 + putB x.wtrOn 25
      + putB (x.w.hold.isSome || x.p.hold.isSome) 24 + put x.op.p 16 5 + put x.op.w 8 5 + x.loc.toNat
  else match o with
    | 0x60008 => put (used 2) 16 14 + put (used 1) 5 11 + put (used 0) 0 5
    | 0x6000C => used 3
    | 0x60010 => s.prt.switches.toNat
    | 0x60014 => s.prt.ce.toNat * 65536 + s.prt.ue.toNat
    | _ => (s.reg o).toNat

/-- HWY.GRP_STATUS: a master group makes its own clock and sync; a slave group shows those its ports see. -/
def State.grpStatus (s : State) (g : Nat) : Nat :=
  let on := ((List.range 8).map (fun j => 8 * g + j)).filter (fun n => (s.hwy n).en)
  let see (p : Nat → Bool) := on.any (fun n => s.hwyMaster n || p n)
  putB (see (fun n => !(s.hwy n).fsLoss && decide (0 < (s.hwy n).goodSync))) 1
    + b2n (see (fun n => decide (0 < (s.hwy n).goodSync + (s.hwy n).badSync) && decide (s.syncAge n ≤ subTicks)))

def State.readHwy (s : State) (o : Nat) : Nat :=
  if 0x74000 ≤ o then
    let g := (o - 0x74000) / 0x10
    if o % 0x10 = 4 then s.grpStatus g else (s.reg o).toNat + putB (s.hwyGrp g).refused 23
  else
    let h := s.hwy ((o - 0x70000) / 0x100)
    match o % 0x100 with
    | 0x4 => put h.slip.fill 8 13 + putB h.fsLoss 1 + b2n (h.en && !h.fsLoss)
    | 0x8 => h.sticky.toNat
    | 0xC => h.del.toNat * 65536 + h.rep.toNat
    | 0x10 => h.txDel.toNat * 65536 + h.txRep.toNat
    | _ => (s.reg o).toNat

def State.readStr (s : State) (o : Nat) : Nat :=
  let x := s.strm (s.rf 0x80100 0 8)
  let ch := s.rf 0x80200 0 6
  let d := s.dcc ch
  if o < 0x80040 then (s.reg o).toNat + (if o % 16 = 0 then putB (s.ckuBusy ((o - 0x80000) / 16)) 31 else 0)
  else if 0x80110 ≤ o ∧ o < 0x80130 then (tget 0 x.cnts ((o - 0x80110) / 4)).toNat
  else if 0x80210 ≤ o then (tget 0 d.cnts ((o - 0x80210) / 4)).toNat
  else match o with
    | 0x80104 =>
      putB x.inn.isSome 31 + putB x.out.isSome 30
        + (match x.inn with | some i => put i.op.depth 27 3 + put i.op.k 12 10 | none => 0)
        + (match x.out with | some i => put i.op.depth 24 3 + put i.op.k 0 10 | none => 0)
    | 0x80204 => d.cfg.toNat
    | 0x80208 => putB d.auth.txEn 31 + putB d.auth.rxEn 30 + putB d.win.isSome 29 + put d.auth.rxSlot 8 6 + put d.auth.txSlot 0 6
    | _ => (s.reg o).toNat

def State.readGfp (s : State) (o : Nat) : Nat :=
  let x := s.gfp (s.rf 0x90000 0 6)
  if 0x90020 ≤ o then (tget 0 x.cnts ((o - 0x90020) / 4)).toNat
  else match o with
    | 0x90004 =>
      putB x.tx.isSome 31 + putB x.rx.isSome 30 + put x.delin 28 2 + putB x.lfd 27 + putB x.lfdSticky 26 + put x.cmfUpi.toNat 16 8
        + put (match x.tx, x.rx with | some a, _ => a.slot | none, some b => b.slot | none, none => 0) 0 13
    | 0x9000C => s.gfpTotal false % 2 ^ 26
    | 0x90010 => s.gfpTotal true % 2 ^ 26
    | _ => (s.reg o).toNat

def State.readMgt (s : State) (o : Nat) : Nat :=
  if 0xA0100 ≤ o ∧ o < 0xA0120 then
    let k := (o - 0xA0100) / 4
    sfield 16 (tget (-32768) s.mgt.tempMax k) * 65536 + sfield 16 (tget 0 s.mgt.temp k)
  else if 0xA0120 ≤ o ∧ o < 0xA0134 then put (tget 0 s.mgt.volt ((o - 0xA0120) / 4)) 0 16
  else match o with
    | 0xA0004 => putB s.mgt.bankOpen 31 + put s.mgt.pmLost 0 16
    | 0xA0008 => s.mgt.second.toNat
    | 0xA0134 => put s.mgt.power 0 16
    | 0xA0138 => s.mgt.sensFrame.toNat
    | 0xA0144 => putB s.mgt.voltBad 2 + putB s.mgt.crit 1 + b2n s.mgt.hot
    | 0xA0150 => put s.mgt.missed 16 16 + put s.mgt.sweeps 0 16
    | 0xA0204 => putB s.mgt.legacyErr 2 + putB s.mgt.legacyDone 1 + b2n (decide (s.mgt.legacyTask ≠ 0))
    | 0xA020C => sfield 32 (tget 0 s.mgt.legacyData (s.rf 0xA0208 0 4))
    | _ => (s.reg o).toNat

def State.readPin (s : State) (o : Nat) : Nat :=
  if 0xB0020 ≤ o ∧ o < 0xB002C then (s.reg o).toNat + putB (tget (none, false) s.pin.alt ((o - 0xB0020) / 4)).2 30
  else if 0xB0040 ≤ o then
    let c := s.capt ((o - 0xB0040) / 16)
    match o % 16 with
    | 0 => (s.reg o).toNat + putB c.refused 30
    | 4 => putB c.ovf 31 + put c.queue.length 0 5
    | _ => 0
  else match o with
    | 0xB0004 =>
      let t := s.rf 0xB0000 16 4
      let i := s.rf 0xB0000 0 8
      if resExists t i then
        let r := s.res (resKey t i)
        putB r.owner.isSome 31 + putB r.behind 30 + put (r.owner.getD 0) 0 16
      else 0
    | 0xB0010 => s.gpioIn
    | 0xB0014 => s.pin.dir.toNat
    | 0xB0018 => s.pin.out.toNat
    | _ => (s.reg o).toNat

/-! ### The whole map -/

/-- A 4-byte read of the word at BAR0 offset `o`; 0 where no register is (09 R257). -/
def State.readWord (s : State) (o : Nat) : Word :=
  if (regRow o).isNone then 0
  else BitVec.ofNat 32 (
    if o < 0x10000 then
      match o / 0x1000 with
      | 0 => s.readGlb o
      | 1 => s.readStp o
      | 2 | 3 => s.readHif o
      | 4 => s.readFlt o
      | 5 => s.readLog o
      | 6 => s.readPmc o
      | 7 => s.readSec o
      | 8 => s.readBus o
      | _ => s.readBoot o
    else
      match o / 0x10000 with
      | 1 => s.readLpt o
      | 2 => s.readHop o
      | 3 => s.readTrb o
      | 4 => s.readTsw o
      | 5 => s.readCnf o
      | 6 => s.readPrt o
      | 7 => s.readHwy o
      | 8 => s.readStr o
      | 9 => s.readGfp o
      | 10 => s.readMgt o
      | _ => s.readPin o)

/-- PIN.CAPT_DATA of a buffer stands at BAR0 offset `o`. -/
def captOf (o : Nat) : Option Nat := if 0xB0048 ≤ o ∧ o < 0xB00C8 ∧ o % 16 = 8 then some ((o - 0xB0048) / 16) else none

/-- An 8-byte read of BAR0: two words, sampled in one instant where they are one register (02 R36, 12 R344); of
PIN.CAPT_DATA the oldest entry (14 R398). -/
def State.readWide (s : State) (o : Nat) : DWord :=
  match captOf o with
  | some k => (s.captRead k).1
  | none => (s.readWord (o + 4)) ++ (s.readWord o)

/-- A read of `bytes` bytes of BAR0 (09 R257): naturally aligned; of fewer than 4, the addressed bytes of their word. -/
def State.readBar0 (s : State) (o bytes : Nat) : DWord :=
  if bytes = 8 then (if o % 8 = 0 then s.readWide o else 0)
  else if bytes = 4 then (if o % 4 = 0 then (s.readWord o).setWidth 64 else 0)
  else if o % 4 + bytes ≤ 4 then BitVec.ofNat 64 ((s.readWord (o / 4 * 4)).toNat / 2 ^ (8 * (o % 4)) % 2 ^ (8 * bytes))
  else 0

/-- What the same read does besides: TSW.RDATA and CNF.RDATA find an error of their entry (06 R182, 07 R211), an 8-byte
read of PIN.CAPT_DATA removes its entry (14 R398). -/
def State.readEffect (o bytes : Nat) (s : State) : State :=
  if bytes = 8 then
    match captOf o with
    | some k => (s.captRead k).2
    | none => if o % 8 = 0 then (s.readFinds o).readFinds (o + 4) else s
  else s.readFinds (o / 4 * 4)

/-! ### Board-management I2C (15 R415) -/

/-- A board-management I2C read of a word: of GLB, FLT, LOG, BOOT and the sensors as BAR0, but for LOG.RIDX and LOG.RDATA
(16 R424); 0 elsewhere. -/
def State.i2cRead (s : State) (o : Nat) : Word :=
  if o = 0x5020 then BitVec.ofNat 32 s.log.i2cRidx
  else if 0x5024 ≤ o ∧ o < 0x5044 then BitVec.ofNat 32 (wordAt s.log.i2cRdata.bytes ((o - 0x5024) / 4))
  else if o < 0x1000 ∨ (0x4000 ≤ o ∧ o < 0x6000) ∨ (0x9000 ≤ o ∧ o < 0xA000) ∨ (0xA0100 ≤ o ∧ o < 0xA0138) then s.readWord o
  else 0

/-- The bytes an I2C read returns: from offset `o` onward, little-endian, the offset advancing. -/
def State.i2cBytes (s : State) (o n : Nat) : List Byte :=
  (List.range n).map (fun k => BitVec.ofNat 8 ((s.i2cRead ((o + k) / 4 * 4)).toNat / 2 ^ (8 * ((o + k) % 4))))

/-- The 7-bit address of the I2C target: 0b101_1000 + MI2C_ADDR. -/
def State.i2cTarget (s : State) : BitVec 7 := 0b1011000#7 + BitVec.ofNat 7 s.glb.straps.mi2cAddr.val

/-- I2C_TRANSACTION (15 R415): one at another address is not the device's. A transaction that breaks off without a stop stands
open. -/
def execI2cTransaction (x : I2c) (s : State) : Host.Outcome State Fault Refusal :=
  let r := s.i2cWrite x.write.length x.offset.toNat x.write
  let sent := r.2.i2cBytes (x.offset.toNat + x.write.length) x.read
  .next (if x.target = s.i2cTarget then
      { r.2 with i2c := { open_ := !x.stop, offset := x.offset + BitVec.ofNat 32 (x.write.length + x.read),
                          got := if x.stop then [] else r.1, sent := sent } }
    else s)

/-- A read of a doorbell (09 R262, 16 R423): the device index, and the phase of the next device-written entry in bit 16;
0 where no ring is. -/
def State.readDoorbell (s : State) (kind n : Nat) : Word := if ringCount kind ≤ n then 0 else BitVec.ofNat 32 (put (s.seenIdx kind n) 0 16 + putB (s.ring kind n).phase 16)

/-- The word at BAR2 offset `o`; 0 where no doorbell is. -/
def State.bar2Word (s : State) (o : Nat) : Word :=
  match doorbellAt o with
  | some x => s.readDoorbell x.1 x.2
  | none => 0

/-- A read of `bytes` bytes of BAR2 (09 R257, 16 R423): an 8-byte read has 0 in its high half. -/
def State.readBar2 (s : State) (o bytes : Nat) : DWord :=
  if bytes = 4 ∨ bytes = 8 then (if o % bytes = 0 then (s.bar2Word o).setWidth 64 else 0)
  else if o % 4 + bytes ≤ 4 then BitVec.ofNat 64 ((s.bar2Word (o / 4 * 4)).toNat / 2 ^ (8 * (o % 4)) % 2 ^ (8 * bytes))
  else 0

/-- A word of BAR4, the user counter page (12 R345, Table MG-5). -/
def State.readUser (s : State) (o : Nat) : Word :=
  if !(s.rb 0x6000 31) then 0
  else if o < 0x068 then s.readWord (0x6100 + o)
  else if 0x080 ≤ o ∧ o < 0x0E8 then s.readWord (0x6180 + (o - 0x080))
  else if o = 0x100 ∨ o = 0x104 then s.readWord (0x6008 + (o - 0x100))
  else if o = 0x108 then s.readWord 0x6004
  else 0

/-- An 8-byte read of BAR4 (12 R345): a counter's two words, sampled in one instant. -/
def State.readUserWide (s : State) (o : Nat) : DWord := (s.readUser (o + 4)) ++ (s.readUser o)

/-- A read of `bytes` bytes of BAR4 (09 R257, 12 R345): naturally aligned, or the addressed bytes of their word. -/
def State.readBar4 (s : State) (o bytes : Nat) : DWord :=
  if bytes = 8 then (if o % 8 = 0 then s.readUserWide o else 0)
  else if bytes = 4 then (if o % 4 = 0 then (s.readUser o).setWidth 64 else 0)
  else if o % 4 + bytes ≤ 4 then BitVec.ofNat 64 ((s.readUser (o / 4 * 4)).toNat / 2 ^ (8 * (o % 4)) % 2 ^ (8 * bytes))
  else 0

end Sys2Proof.Machine
end

