-- ==== Sys2Proof/Machine/Dispatch.lean ====
section
/-! DEFINITION. What each command does: one arm per row of spec/opcode_table.json, each one call of its meaning. -/

namespace Sys2Proof.Machine

/-- The effect of a command on everything but the queue. -/
def exec (i : Instr) (s : State) : Host.Outcome State Fault Refusal :=
  match i with
  | .powerOn st => Sys2Proof.Machine.execPowerOn st s
  | .resetN st => Sys2Proof.Machine.execResetN st s
  | .warmChipRst st => Sys2Proof.Machine.execWarmChipRst st s
  | .glbChipRstRequest v => Sys2Proof.Machine.execGlbChipRstRequest v s
  | .perstN => Sys2Proof.Machine.execPerstN s
  | .flr => Sys2Proof.Machine.execFlr s
  | .busMasterEnable => Sys2Proof.Machine.execBusMasterEnable s
  | .busMasterDisable => Sys2Proof.Machine.execBusMasterDisable s
  | .d3hotEntry => Sys2Proof.Machine.execD3hotEntry s
  | .msixUnmask v => Sys2Proof.Machine.execMsixUnmask v s
  | .frameBoundary k => Sys2Proof.Machine.execFrameBoundary k s
  | .storySecond x => Sys2Proof.Machine.execStorySecond x s
  | .scrubWord m hit => Sys2Proof.Machine.execScrubWord m hit s
  | .calibration => Sys2Proof.Machine.execCalibration s
  | .snapLatch => Sys2Proof.Machine.execSnapLatch s
  | .epochWrite v => Sys2Proof.Machine.execEpochWrite v s
  | .secondOriginWrite v => Sys2Proof.Machine.execSecondOriginWrite v s
  | .timerEnable n v => Sys2Proof.Machine.execTimerEnable n v s
  | .timerArm n => Sys2Proof.Machine.execTimerArm n s
  | .timerDisarm n => Sys2Proof.Machine.execTimerDisarm n s
  | .tmrFire n => Sys2Proof.Machine.execTmrFire n s
  | .refoutEnable m v => Sys2Proof.Machine.execRefoutEnable m v s
  | .refDisq k m => Sys2Proof.Machine.execRefDisq k m s
  | .refQual k m => Sys2Proof.Machine.execRefQual k m s
  | .dpllLock => Sys2Proof.Machine.execDpllLock s
  | .holdReady => Sys2Proof.Machine.execHoldReady s
  | .oscFail => Sys2Proof.Machine.execOscFail s
  | .oscSelect => Sys2Proof.Machine.execOscSelect s
  | .portCfgWrite n v => Sys2Proof.Machine.execPortCfgWrite n v s
  | .txOffsetWrite r v => Sys2Proof.Machine.execTxOffsetWrite r v s
  | .txLineFrame n p => Sys2Proof.Machine.execTxLineFrame n p s
  | .rxLineFrame n b => Sys2Proof.Machine.execRxLineFrame n b s
  | .lofL n => Sys2Proof.Machine.execLofL n s
  | .losL n absent => Sys2Proof.Machine.execLosL n absent s
  | .serdesLol n rx => Sys2Proof.Machine.execSerdesLol n rx s
  | .hopStructWrite n w v => Sys2Proof.Machine.execHopStructWrite n w v s
  | .traceNew kind index => Sys2Proof.Machine.execTraceNew kind index s
  | .rxTribFrame t t1 => Sys2Proof.Machine.execRxTribFrame t t1 s
  | .crc4None t => Sys2Proof.Machine.execCrc4None t s
  | .sigHoldoffExpiry t => Sys2Proof.Machine.execSigHoldoffExpiry t s
  | .hwyCfgWrite r v => Sys2Proof.Machine.execHwyCfgWrite r v s
  | .hwyFrameSync n r f => Sys2Proof.Machine.execHwyFrameSync n r f s
  | .hwyFsLoss n => Sys2Proof.Machine.execHwyFsLoss n s
  | .copybackDone p => Sys2Proof.Machine.execCopybackDone p s
  | .lanePass => Sys2Proof.Machine.execLanePass s
  | .collectorWindow late => Sys2Proof.Machine.execCollectorWindow late s
  | .speakerHoldoffExpiry c => Sys2Proof.Machine.execSpeakerHoldoffExpiry c s
  | .selectorDecision kind g => Sys2Proof.Machine.execSelectorDecision kind g s
  | .holdoffExpiry kind g side => Sys2Proof.Machine.execHoldoffExpiry kind g side s
  | .wtrExpiry kind g => Sys2Proof.Machine.execWtrExpiry kind g s
  | .protSw kind g => Sys2Proof.Machine.execProtSw kind g s
  | .k1Protocol k => Sys2Proof.Machine.execK1Protocol k s
  | .protExer k => Sys2Proof.Machine.execProtExer k s
  | .doorbellWrite off bytes v => Sys2Proof.Machine.execDoorbellWrite off bytes v s
  | .descriptorAdmission ring d blk => Sys2Proof.Machine.execDescriptorAdmission ring d blk s
  | .consumerIndexWriteback kind ring => Sys2Proof.Machine.execConsumerIndexWriteback kind ring s
  | .completionWrite cc => Sys2Proof.Machine.execCompletionWrite cc s
  | .ceStall ring => Sys2Proof.Machine.execCeStall ring s
  | .ringEnable kind ring v => Sys2Proof.Machine.execRingEnable kind ring v s
  | .ringDisable kind ring => Sys2Proof.Machine.execRingDisable kind ring s
  | .ringReset kind ring => Sys2Proof.Machine.execRingReset kind ring s
  | .hifCplTo kind ring second => Sys2Proof.Machine.execHifCplTo kind ring second s
  | .nop h => Sys2Proof.Machine.execNop h s
  | .fence h => Sys2Proof.Machine.execFence h s
  | .fenceAll h => Sys2Proof.Machine.execFenceAll h s
  | .echo h value => Sys2Proof.Machine.execEcho h value s
  | .tswSet h o => Sys2Proof.Machine.execTswSet h o s
  | .tswFill h o => Sys2Proof.Machine.execTswFill h o s
  | .tswPatch h o => Sys2Proof.Machine.execTswPatch h o s
  | .tswRead h o => Sys2Proof.Machine.execTswRead h o s
  | .fabricCommit h => Sys2Proof.Machine.execFabricCommit h s
  | .xcSet h o => Sys2Proof.Machine.execXcSet h o s
  | .lomapSet h m struct tu11 => Sys2Proof.Machine.execLomapSet h m struct tu11 s
  | .tribCfg h t c => Sys2Proof.Machine.execTribCfg h t c s
  | .sigSet h o => Sys2Proof.Machine.execSigSet h o s
  | .cnfCreate h conf o => Sys2Proof.Machine.execCnfCreate h conf o s
  | .cnfJoin h p o => Sys2Proof.Machine.execCnfJoin h p o s
  | .cnfLeave h p => Sys2Proof.Machine.execCnfLeave h p s
  | .cnfModify h o => Sys2Proof.Machine.execCnfModify h o s
  | .cnfDestroy h conf => Sys2Proof.Machine.execCnfDestroy h conf s
  | .cnfQuery h addr conf => Sys2Proof.Machine.execCnfQuery h addr conf s
  | .toneLoad h d t => Sys2Proof.Machine.execToneLoad h d t s
  | .protGroup h o => Sys2Proof.Machine.execProtGroup h o s
  | .protCmd h kind group code => Sys2Proof.Machine.execProtCmd h kind group code s
  | .protQuery h addr kind group => Sys2Proof.Machine.execProtQuery h addr kind group s
  | .traceSet h o => Sys2Proof.Machine.execTraceSet h o s
  | .traceRead h addr kind index => Sys2Proof.Machine.execTraceRead h addr kind index s
  | .ohSet h code target value => Sys2Proof.Machine.execOhSet h code target value s
  | .streamOpen h o => Sys2Proof.Machine.execStreamOpen h o s
  | .streamClose h g dirIn dirOut => Sys2Proof.Machine.execStreamClose h g dirIn dirOut s
  | .streamFlush h g dirIn dirOut => Sys2Proof.Machine.execStreamFlush h g dirIn dirOut s
  | .gfpOpen h o => Sys2Proof.Machine.execGfpOpen h o s
  | .gfpClose h ch dirTx dirRx => Sys2Proof.Machine.execGfpClose h ch dirTx dirRx s
  | .gfpFlush h ch dirTx dirRx => Sys2Proof.Machine.execGfpFlush h ch dirTx dirRx s
  | .keyLoad h slot aes256 key => Sys2Proof.Machine.execKeyLoad h slot aes256 key s
  | .keyErase h slot => Sys2Proof.Machine.execKeyErase h slot s
  | .dccAuthCfg h o => Sys2Proof.Machine.execDccAuthCfg h o s
  | .resClaim h rtype rindex lease => Sys2Proof.Machine.execResClaim h rtype rindex lease s
  | .resRelease h rtype rindex => Sys2Proof.Machine.execResRelease h rtype rindex s
  | .pmCfg h scope index incl => Sys2Proof.Machine.execPmCfg h scope index incl s
  | .voiceBlockArrival g d b => Sys2Proof.Machine.execVoiceBlockArrival g d b s
  | .voiceBlockWrite g d => Sys2Proof.Machine.execVoiceBlockWrite g d s
  | .qptr q => Sys2Proof.Machine.execQptr q s
  | .gfpTxFrame ch d data => Sys2Proof.Machine.execGfpTxFrame ch d data s
  | .gfpRxHeader ch a c => Sys2Proof.Machine.execGfpRxHeader ch a c s
  | .dccTxFrame d buf => Sys2Proof.Machine.execDccTxFrame d buf s
  | .dccRxFrame ch a c => Sys2Proof.Machine.execDccRxFrame ch a c s
  | .cmacDone slot => Sys2Proof.Machine.execCmacDone slot s
  | .leaseExpiry k => Sys2Proof.Machine.execLeaseExpiry k s
  | .resourceRegisterClaim r v => Sys2Proof.Machine.execResourceRegisterClaim r v s
  | .captureEdge gpio rise => Sys2Proof.Machine.execCaptureEdge gpio rise s
  | .captDataRead k => Sys2Proof.Machine.execCaptDataRead k s
  | .pmPartWrite d => Sys2Proof.Machine.execPmPartWrite d s
  | .pmcSnap => Sys2Proof.Machine.execPmcSnap s
  | .pmcFreeze on => Sys2Proof.Machine.execPmcFreeze on s
  | .pmcPreset j v => Sys2Proof.Machine.execPmcPreset j v s
  | .pmcOvf j => Sys2Proof.Machine.execPmcOvf j s
  | .legacySense => Sys2Proof.Machine.execLegacySense s
  | .legacyCal => Sys2Proof.Machine.execLegacyCal s
  | .legacyScrubReport => Sys2Proof.Machine.execLegacyScrubReport s
  | .legacyDone x => Sys2Proof.Machine.execLegacyDone x s
  | .svcModeWrite v => Sys2Proof.Machine.execSvcModeWrite v s
  | .logMarkWrite v => Sys2Proof.Machine.execLogMarkWrite v s
  | .logRidxWrite v => Sys2Proof.Machine.execLogRidxWrite v s
  | .logCfgWrite v => Sys2Proof.Machine.execLogCfgWrite v s
  | .collectorTake => Sys2Proof.Machine.execCollectorTake s
  | .nmiReturn mp => Sys2Proof.Machine.execNmiReturn mp s
  | .processorReady p => Sys2Proof.Machine.execProcessorReady p s
  | .errPinAssert => Sys2Proof.Machine.execErrPinAssert s
  | .errPinRelease => Sys2Proof.Machine.execErrPinRelease s
  | .errPinWidthExpiry => Sys2Proof.Machine.execErrPinWidthExpiry s
  | .firstClr => Sys2Proof.Machine.execFirstClr s
  | .firstClrFatal => Sys2Proof.Machine.execFirstClrFatal s
  | .reactionWrite v => Sys2Proof.Machine.execReactionWrite v s
  | .injUnlock v => Sys2Proof.Machine.execInjUnlock v s
  | .injGo v => Sys2Proof.Machine.execInjGo v s
  | .pfail => Sys2Proof.Machine.execPfail s
  | .pfailClear => Sys2Proof.Machine.execPfailClear s
  | .procWdt p => Sys2Proof.Machine.execProcWdt p s
  | .procExc p addr => Sys2Proof.Machine.execProcExc p addr s
  | .clkLol pll => Sys2Proof.Machine.execClkLol pll s
  | .grantWdt target master => Sys2Proof.Machine.execGrantWdt target master s
  | .busCommit => Sys2Proof.Machine.execBusCommit s
  | .busFreezeWrite v => Sys2Proof.Machine.execBusFreezeWrite v s
  | .bootLoadDone image => Sys2Proof.Machine.execBootLoadDone image s
  | .bootPushData v => Sys2Proof.Machine.execBootPushData v s
  | .bootPushTail v => Sys2Proof.Machine.execBootPushTail v s
  | .bootPushEnd => Sys2Proof.Machine.execBootPushEnd s
  | .i2cTransaction x => Sys2Proof.Machine.execI2cTransaction x s
  | .registerWrite off bytes v => Sys2Proof.Machine.execRegisterWrite off bytes v s
  | .serdesLock n rx => Sys2Proof.Machine.execSerdesLock n rx s
  | .sfdpDiscovery r => Sys2Proof.Machine.execSfdpDiscovery r s
  | .powerLoss => Sys2Proof.Machine.execPowerLoss s
  | .linkUp up width speed => Sys2Proof.Machine.execLinkUp up width speed s
  | .d0Entry => Sys2Proof.Machine.execD0Entry s
  | .i2cIdleTimeout => Sys2Proof.Machine.execI2cIdleTimeout s

end Sys2Proof.Machine
end

