-- ==== Sys2Proof/Machine/Tick.lean ====
section
/-! DEFINITION. What the device does of its own accord while no command waits (assumption 1): the events whose time has
come, each by the meaning of its row, then one sub-tick of the story pole (02_story_pole.md R33, R34). -/

namespace Sys2Proof.Machine

/-- The state an event leaves. -/
def after1 (f : State → Host.Outcome State Fault Refusal) (s : State) : State := match f s with
  | .next t => t
  | _ => s

/-- The engine and the host interface (09, 10). -/
def State.hostEvents (s : State) : State :=
  let s := foldS (List.range 64) (fun n (s : State) => after1 (execCeStall (Fin.ofNat 64 n)) s) s
  let s := foldS (List.range 64) (fun n (s : State) => after1 (execCompletionWrite (Fin.ofNat 64 n)) s) s
  foldS s.hif.rings (fun (e : Nat × Ring) (s : State) => s.indexWriteback (e.1 / 256) (e.1 % 256)) s

/-- The conference engine's schedule (07 R205, R206). -/
def State.confEvents (s : State) : State :=
  let s := foldS s.cnf.spk (fun (e : Nat × Spk) (s : State) => after1 (execSpeakerHoldoffExpiry (Fin.ofNat 16384 e.1)) s) s
  after1 (execCollectorWindow false) (after1 execLanePass s)

/-- One protection group: its decision, its expired timers (08 R225, R226, R228). -/
def State.groupEvents (k : Nat) (s : State) : State :=
  let kind : Fin 4 := Fin.ofNat 4 (k / 65536)
  let g := k % 65536
  let s := after1 (execHoldoffExpiry kind g false) s
  let s := after1 (execHoldoffExpiry kind g true) s
  let s := after1 (execWtrExpiry kind g) s
  if s.protWaits kind g then s.protDecide kind g else s

/-- The sister units (08). -/
def State.protEvents (s : State) : State :=
  let s := foldS s.prt.groups (fun (e : Nat × Group) (s : State) => s.groupEvents e.1) s
  foldS (List.range 16) (fun i (s : State) => (after1 (execK1Protocol (Fin.ofNat 16 i)) s).exerEnd i) s

/-- The clock and the timers (02 R44, R49, R60). -/
def State.clockEvents (s : State) : State :=
  let s := foldS (List.range 8) (fun k (s : State) =>
    let r := s.ref k
    if s.wtrOver k then after1 (execRefQual (Fin.ofNat 8 k) { edges := r.active, fofs := r.fofs }) s else s) s
  let s := after1 execHoldReady (after1 execDpllLock s)
  foldS (List.range 16) (fun n (s : State) => after1 (execTmrFire (Fin.ofNat 16 n)) s) s

/-- Line transmitters and framers, traces, tributary framers, highways and the CMAC engine (02 R41, R56; 03 R74; 04 R125;
05 R139, R150, R162; 14 R385). -/
def State.unitEvents (s : State) : State :=
  let s := foldS (List.range 32) (fun n (s : State) =>
    after1 (execLofL (Fin.ofNat 32 n)) (after1 (execTxLineFrame (Fin.ofNat 32 n) s.stp.phase) s)) s
  let s := foldS s.scribe (fun (e : Nat × Trace) (s : State) => s.traceAccept (e.1 / 65536) (e.1 % 65536)) s
  let s := foldS s.tribs (fun (e : Nat × Trib) (s : State) =>
    let t := Fin.ofNat 16384 e.1
    after1 (execSigHoldoffExpiry t) (after1 (execCrc4None t) (after1 (execRxTribFrame t (s.trib e.1).cfg.t1) s))) s
  let s := foldS s.hwys (fun (e : Nat × Hwy) (s : State) => after1 (execHwyFsLoss (Fin.ofNat 64 e.1)) s) s
  match s.sec.ops.find? (fun (o : CmacOp) => o.bound) with
  | some o => s.cmacEnd o
  | none => s

/-- Management, the fault collector and a reset under way (12, 13; 16 R421). -/
def State.ownEvents (s : State) : State :=
  let s := s.storySecond s.heldSample
  let s := after1 execCalibration s
  let s := (after1 execErrPinWidthExpiry s).collectorTake
  after1 (execWarmChipRst s.glb.straps) s

/-- The position goes on by one sub-tick within the frame. -/
def State.subTickOn (s : State) : State :=
  let s := s.subTicksPass 1
  if s.stp.sub < 15 then { s with stp := { s.stp with sub := s.stp.sub + 1 } }
  else { s with stp := { s.stp with sub := 0, phase := s.stp.phase + 1 } }

/-- One sub-tick; after the last of a frame comes the frame boundary. -/
def State.subTick (s : State) : State :=
  if s.stp.phase < 2429 ∨ s.stp.sub < 15 then (s.idleSlots (s.inFrame + 1)).subTickOn.pmcLate
  else s.frameBoundary { upsets := [], late := [], ports := [], cntFault := false, phaseErr := s.stp.phaseErr }

/-- The device on its own, for one sub-tick; a device without power does nothing. -/
def State.tick (s : State) : State :=
  if !s.powered then s
  else s.hostEvents.confEvents.protEvents.clockEvents.unitEvents.ownEvents.subTick

end Sys2Proof.Machine
end

