-- ==== Sys2Proof/Machine/Step.lean ====
section
/-! DEFINITION. One step of the block: the command at the front of the queue is carried out with the queue's rest; on an
empty queue the device serves its own events and lets a sub-tick pass (assumption 1). -/

namespace Sys2Proof.Machine

/-- The state with the command that a word spells at the front of its queue; no row of the table has bits, so no word
spells one. -/
def State.withFetchWord (s : State) (nbits w : Nat) : State := match decodeTableWord nbits w with
  | some i => { s with pending := i :: s.pending }
  | none => s

/-- One step. -/
def step (s : State) : Host.Outcome State Fault Refusal := match s.pending with
  | i :: rest => exec i { s with pending := rest }
  | [] => .next s.tick

end Sys2Proof.Machine
end

