-- ==== Sys2Proof/Safety.lean ====
section
/-! DEFINITION. What counts as a safe run: the story pole at a legal position, the host memory in its canonical form, the
collector's queue within its bound, and every step a next state; and the parts of the state that frame statements tell apart. -/

namespace Sys2Proof.Machine

/-- The story pole stands at a position of 02_story_pole.md R33 and R34. -/
def State.PosOk (s : State) : Prop := s.stp.phase < 2430 ∧ s.stp.sub < 16

/-- Host memory is in its canonical form, and the collector's queue holds at most its 64 messages (13_faults.md R363). -/
def State.Fit (s : State) : Prop := Memory.wf s.hostMem = true ∧ s.flt.queue.length ≤ 64

/-- What every step keeps. -/
def State.Legal (s : State) : Prop := s.PosOk ∧ s.Fit

/-- A command answers a next state. -/
def Completes (i : Instr) (s : State) : Prop := ∃ t, exec i s = .next t

/-- A command answers a next state of which `P` holds. -/
def Does (i : Instr) (s : State) (P : State → Prop) : Prop := ∃ t, exec i s = .next t ∧ P t

/-- `n` steps, none of which stops. -/
def Safe : Nat → State → Prop
  | 0, _ => True
  | n + 1, s => ∃ t, step s = .next t ∧ Safe n t

/-- The commands that can move the story pole: the frame boundary and the resets of the whole device (02 R35). -/
def movesPole : Instr → Bool
  | .powerOn _ | .resetN _ | .warmChipRst _ | .powerLoss | .frameBoundary _ => true
  | _ => false

/-- When 09_host_rings.md R263 refuses a doorbell write. -/
def DoorbellRefused (s : State) (kind n : Nat) (v : Word) : Prop :=
  let r := s.ring kind n
  let len := 2 ^ ringSize kind r.size
  let new := v.toNat % 65536
  r.en = false ∨ len ≤ new ∨ v.toNat / 65536 ≠ 0 ∨
  (deviceWritten kind = false ∧ (new + len - r.dev) % len < (r.host + len - r.dev) % len) ∨
  (deviceWritten kind = true ∧ (r.dev + len - r.host) % len < (new + len - r.host) % len)

/-- The bytes that highway port `n` takes of a frame sync: of the edge that RX_EDGE chooses (05_tributaries_and_highways.md
R160). -/
def hwyBytes (s : State) (n : Nat) (rise fall : HwySeen) : List Byte :=
  if wbit (s.hwy n).cfg 29 then fall.bytes else rise.bytes

/-- The sync came at the expected count, as sampled on the edge that FS_EDGE chooses (05_tributaries_and_highways.md R159). -/
def hwyOnCount (s : State) (n : Nat) (rise fall : HwySeen) : Bool :=
  decide ((if s.rb (grpReg (n / 8)) 25 then fall.periods else rise.periods) = s.hwyBits n)

/-- A command of Table CM-2 is carried out now: the device is not in the fatal state, and no test of 10_commands.md R288
stops the command. -/
def Carries (c : Cmd) (s : State) : Prop := s.flt.fatal = false ∧ s.stops c = none

/-- The completion of a command carried out in the present frame (10_commands.md R284): status OK with RESULT `r`, in the
descriptor's name; with NOCOMP there is none. -/
def DoneWith (h : Hdr) (r : Nat) (s t : State) : Prop :=
  (h.nocomp = true → t.ce.comps = s.ce.comps) ∧
  (h.nocomp = false → ∃ x : Comp, t.ce.comps = s.ce.comps ++ [x] ∧ x.status = 0 ∧ x.result = BitVec.ofNat 32 r ∧ x.ring = h.ring ∧
    x.index = h.index % 65536 ∧ x.tag = h.tag ∧ x.int = h.int ∧ x.exec = s.stp.frame)

/-- The due table is in order: every entry was admitted before the next place of the order of admission, no two at one place,
and what waits for a boundary waits for one that lies ahead (10_commands.md R284, R289). -/
def State.DueOk (s : State) : Prop :=
  (∀ d ∈ s.ce.due, d.seq < s.ce.seq ∧
    (d.noBoundary = false → 0 < (d.boundary - s.stp.frame).toNat ∧ (d.boundary - s.stp.frame).toNat < 2 ^ 31)) ∧
  (s.ce.due.map (fun d => d.seq)).Nodup

/-- The words of BAR0 of whose register the map says that a write does more than store its writable bits, and those of the FLT,
LOG and BOOT blocks, which no plain register stands in (16_register_map.md R419 and the register tables of the chapters). -/
def hasWriteEffect (o : Nat) : Bool :=
  let within (a b : Nat) : Bool := decide (a ≤ o) && decide (o < b)
  [0x0010, 0x1008, 0x1018, 0x101C, 0x1020, 0x102C, 0x2008, 0x200C, 0x2014, 0x2200, 0x6000, 0x6004, 0x8040, 0x8050, 0x30018,
   0x80204, 0x90004, 0xA0200, 0xA0204, 0xB0014, 0xB0018].contains o
  || within 0x1080 0x108C || within 0x1100 0x1120 || (within 0x1200 0x1400 && [0x00, 0x14, 0x18].contains ((o - 0x1200) % 0x20))
  || within 0x2108 0x212C || within 0x3000 0x4000 || within 0x4000 0x6000 || within 0x9000 0xA000
  || (within 0x10000 0x20000 && [0x000, 0x004, 0x01C, 0x040].contains ((o - 0x10000) % 0x400)) || within 0x20100 0x30000
  || (within 0x70000 0x74000 && decide ((o - 0x70000) % 0x100 = 8)) || within 0x74000 0x80000 || within 0x80000 0x80040
  || within 0xB0020 0xB002C || within 0xB0040 0xC0000

/-! ### What a command can reach -/

/-- The parts of the state that a frame statement tells apart. -/
inductive Part where
  | pending   -- the queue of waiting commands
  | powered   -- power
  | freeIdx   -- the model's counter of free values
  | cfg       -- plain register words
  | hostMem   -- host memory
  | upsets    -- bit errors not yet found
  | glb       -- GLB but its straps
  | straps    -- sampled straps
  | boot      -- BOOT
  | bus       -- BUS
  | i2c       -- the I2C target
  | inbox     -- the collector's queue, FLT.LOST and FLT.SELF
  | fatal     -- the fatal state
  | flt       -- the rest of FLT
  | log       -- the chalk log
  | rings     -- the rings
  | vecs      -- MSI-X vectors and messages
  | hif       -- the rest of the host interface
  | ce        -- the command engine but its due table
  | pmc       -- performance counters
  | keys      -- keys and the CMAC engine
  | locks     -- the peg board
  | registry  -- the resource registry
  | pin       -- pins
  | mgt       -- PM banks, sensors, scrubbing
  | pole      -- frame count, phase, sub-tick and second origin
  | timers    -- timers
  | clock     -- references, the DPLL, oscillators
  | stp       -- the rest of STP
  | ports     -- line ports
  | hop       -- HO pointers and cross-connect
  | scribe    -- traces
  | vc4s      -- LO mappers
  | h4s       -- received H4
  | los       -- LO paths
  | tribs     -- tributaries
  | hwys      -- highways
  | grps      -- highway groups
  | tsw       -- the truss
  | cnf       -- conferences and tones
  | prt       -- protection groups
  | strs      -- voice streams
  | gfps      -- GFP channels
  | dccs      -- DCC channels
  | due       -- the due table
deriving DecidableEq, Repr

/-- Part `p` of two states is the same. -/
def Part.same (p : Part) (s t : State) : Prop := match p with
  | .pending => s.pending = t.pending
  | .powered => s.powered = t.powered
  | .freeIdx => s.freeIdx = t.freeIdx
  | .cfg => s.cfg = t.cfg
  | .hostMem => s.hostMem = t.hostMem
  | .upsets => s.upsets = t.upsets
  | .glb => s.glb.ready = t.glb.ready ∧ s.glb.insvc = t.glb.insvc ∧ s.glb.nmiTrap = t.glb.nmiTrap ∧
      s.glb.heldRst = t.glb.heldRst ∧ s.glb.svc = t.glb.svc ∧ s.glb.last = t.glb.last ∧ s.glb.remap = t.glb.remap ∧
      s.glb.rstReq = t.glb.rstReq
  | .straps => s.glb.straps = t.glb.straps
  | .boot => s.boot = t.boot
  | .bus => s.bus = t.bus
  | .i2c => s.i2c = t.i2c
  | .inbox => s.flt.queue = t.flt.queue ∧ s.flt.lost = t.flt.lost ∧ s.flt.self = t.flt.self
  | .fatal => s.flt.fatal = t.flt.fatal
  | .flt => s.flt.pfail = t.flt.pfail ∧ s.flt.pfSquelch = t.flt.pfSquelch ∧ s.flt.first = t.flt.first ∧
      s.flt.firstFatal = t.flt.firstFatal ∧ s.flt.cause = t.flt.cause ∧ s.flt.react = t.flt.react ∧
      s.flt.errLatch = t.flt.errLatch ∧ s.flt.errLeft = t.flt.errLeft ∧ s.flt.errWait = t.flt.errWait ∧
      s.flt.unlock1 = t.flt.unlock1 ∧ s.flt.test = t.flt.test ∧ s.flt.injOpen = t.flt.injOpen ∧
      s.flt.flip = t.flt.flip ∧ s.flt.pllLol = t.flt.pllLol
  | .log => s.log = t.log
  | .rings => s.hif.rings = t.hif.rings
  | .vecs => s.hif.vecs = t.hif.vecs ∧ s.hif.pend = t.hif.pend ∧ s.hif.funcMask = t.hif.funcMask ∧
      s.hif.msgs = t.hif.msgs
  | .hif => s.hif.bme = t.hif.bme ∧ s.hif.d3hot = t.hif.d3hot ∧ s.hif.linkUp = t.hif.linkUp ∧
      s.hif.linkWidth = t.hif.linkWidth ∧ s.hif.linkSpeed = t.hif.linkSpeed ∧ s.hif.nmiCause = t.hif.nmiCause ∧
      s.hif.fatalCause = t.hif.fatalCause ∧ s.hif.evLost = t.hif.evLost ∧ s.hif.evGap = t.hif.evGap ∧
      s.hif.dbErr = t.hif.dbErr ∧ s.hif.dbKind = t.hif.dbKind ∧ s.hif.dbRing = t.hif.dbRing ∧
      s.hif.rstLast = t.hif.rstLast ∧ s.hif.purged = t.hif.purged
  | .ce => s.ce.comps = t.ce.comps ∧ s.ce.seq = t.ce.seq ∧ s.ce.stall = t.ce.stall ∧ s.ce.refused = t.ce.refused ∧
      s.ce.lastIdx = t.ce.lastIdx ∧ s.ce.lastRing = t.ce.lastRing ∧ s.ce.lastStat = t.ce.lastStat ∧
      s.ce.rrRing = t.ce.rrRing ∧ s.ce.rrLeft = t.ce.rrLeft ∧ s.ce.visited = t.ce.visited ∧ s.ce.cycle = t.ce.cycle ∧
      s.ce.failed = t.ce.failed
  | .pmc => s.pmc = t.pmc
  | .keys => s.sec.keys = t.sec.keys ∧ s.sec.ops = t.sec.ops ∧ s.sec.ox = t.sec.ox ∧ s.sec.opId = t.sec.opId ∧
      s.sec.cmacPoison = t.sec.cmacPoison
  | .locks => s.sec.locks = t.sec.locks
  | .registry => s.sec.res = t.sec.res
  | .pin => s.pin = t.pin
  | .mgt => s.mgt = t.mgt
  | .pole => s.stp.frame = t.stp.frame ∧ s.stp.phase = t.stp.phase ∧ s.stp.sub = t.stp.sub ∧
      s.stp.origin = t.stp.origin
  | .timers => s.stp.timers = t.stp.timers
  | .clock => s.stp.refs = t.stp.refs ∧ s.stp.dpll = t.stp.dpll ∧ s.stp.holdReady = t.stp.holdReady ∧
      s.stp.lockFrames = t.stp.lockFrames ∧ s.stp.acqFrames = t.stp.acqFrames ∧ s.stp.sel = t.stp.sel ∧
      s.stp.oscFail = t.stp.oscFail ∧ s.stp.onXo = t.stp.onXo ∧ s.stp.phaseErr = t.stp.phaseErr ∧
      s.stp.curQl = t.stp.curQl
  | .stp => s.stp.snap = t.stp.snap ∧ s.stp.epoch = t.stp.epoch ∧ s.stp.done = t.stp.done ∧
      s.stp.originNew = t.stp.originNew ∧ s.stp.short = t.stp.short ∧ s.stp.epochIn = t.stp.epochIn ∧
      s.stp.atSecond = t.stp.atSecond ∧ s.stp.refouts = t.stp.refouts ∧ s.stp.held = t.stp.held ∧
      s.stp.lgOfs = t.stp.lgOfs
  | .ports => s.ports = t.ports
  | .hop => s.hop = t.hop
  | .scribe => s.scribe = t.scribe
  | .vc4s => s.vc4s = t.vc4s
  | .h4s => s.h4s = t.h4s
  | .los => s.los = t.los
  | .tribs => s.tribs = t.tribs
  | .hwys => s.hwys = t.hwys
  | .grps => s.grps = t.grps
  | .tsw => s.tsw = t.tsw
  | .cnf => s.cnf = t.cnf
  | .prt => s.prt = t.prt
  | .strs => s.strs = t.strs
  | .gfps => s.gfps = t.gfps
  | .dccs => s.dccs = t.dccs
  | .due => s.ce.due = t.ce.due

/-- `t` differs from `s` in no part outside `l`. -/
def Unchanged (l : List Part) (s t : State) : Prop := ∀ p, p ∉ l → p.same s t

/-- Every part but what lies outside the device: its queue of commands, host memory, the model's own counter. -/
def device : List Part :=
  [.powered, .cfg, .upsets, .glb, .straps, .boot, .bus, .i2c, .inbox, .fatal, .flt, .log, .rings, .vecs, .hif, .ce,
   .pmc, .keys, .locks, .registry, .pin, .mgt, .pole, .timers, .clock, .stp, .ports, .hop, .scribe, .vc4s, .h4s,
   .los, .tribs, .hwys, .grps, .tsw, .cnf, .prt, .strs, .gfps, .dccs, .due]

/-- The parts that a command can reach: its own unit, and what its rules let it tell, count or claim. -/
def reach (i : Instr) : List Part := match i with
  | .powerOn .. | .resetN .. | .warmChipRst .. | .powerLoss .. =>
    device
  | .glbChipRstRequest .. =>
    [.cfg, .glb]
  | .perstN .. | .flr .. =>
    [.hostMem, .upsets, .boot, .inbox, .flt, .rings, .vecs, .hif, .ce, .pmc, .keys, .locks, .strs, .dccs, .due]
  | .busMasterEnable .. | .d0Entry .. =>
    [.hostMem, .upsets, .inbox, .flt, .rings, .vecs, .hif, .ce, .pmc, .due]
  | .busMasterDisable .. | .d3hotEntry .. =>
    [.inbox, .hif, .ce, .keys, .strs, .dccs]
  | .msixUnmask .. =>
    [.hostMem, .vecs]
  | .frameBoundary .. =>
    [.freeIdx, .hostMem, .upsets, .glb, .boot, .bus, .inbox, .flt, .rings, .vecs, .ce, .pmc, .keys, .locks,
      .registry, .mgt, .pole, .timers, .clock, .stp, .ports, .hop, .scribe, .vc4s, .h4s, .los, .tribs, .hwys, .tsw,
      .cnf, .prt, .strs, .gfps, .dccs, .due]
  | .storySecond .. =>
    [.inbox, .mgt, .stp]
  | .scrubWord .. =>
    [.upsets, .inbox, .mgt, .tsw, .cnf, .prt, .due]
  | .calibration .. | .legacySense .. | .legacyCal .. | .legacyScrubReport .. =>
    [.mgt]
  | .snapLatch .. | .secondOriginWrite .. =>
    [.stp]
  | .epochWrite .. =>
    [.cfg, .stp]
  | .timerEnable .. =>
    [.cfg, .upsets, .inbox, .flt, .registry, .timers]
  | .timerArm .. | .timerDisarm .. =>
    [.timers]
  | .tmrFire .. =>
    [.inbox, .timers]
  | .refoutEnable .. =>
    [.cfg, .upsets, .inbox, .flt, .registry, .stp]
  | .refDisq .. =>
    [.clock]
  | .refQual .. | .dpllLock .. | .oscFail .. =>
    [.inbox, .clock]
  | .holdReady .. =>
    [.inbox, .clock, .stp]
  | .oscSelect .. =>
    [.cfg, .clock]
  | .portCfgWrite .. | .txOffsetWrite .. | .hopStructWrite .. | .pmcFreeze .. | .svcModeWrite .. | .busFreezeWrite .. =>
    [.cfg]
  | .txLineFrame .. =>
    [.freeIdx, .ports, .hop, .scribe, .dccs]
  | .rxLineFrame .. =>
    [.hostMem, .inbox, .rings, .vecs, .keys, .mgt, .clock, .ports, .hop, .scribe, .h4s, .los, .tribs, .prt, .gfps,
      .dccs]
  | .lofL .. | .losL .. | .serdesLol .. | .serdesLock .. =>
    [.hostMem, .inbox, .rings, .vecs, .keys, .mgt, .clock, .ports, .hop, .scribe, .los, .dccs]
  | .traceNew .. =>
    [.inbox, .mgt, .ports, .hop, .scribe, .los]
  | .rxTribFrame .. =>
    [.inbox, .mgt, .tribs, .prt]
  | .crc4None .. | .sigHoldoffExpiry .. =>
    [.inbox, .mgt, .tribs]
  | .hwyCfgWrite .. =>
    [.cfg, .upsets, .inbox, .flt, .registry, .grps]
  | .hwyFrameSync .. | .hwyFsLoss .. =>
    [.inbox, .hwys]
  | .copybackDone .. =>
    [.upsets, .inbox, .hop, .tsw, .cnf]
  | .lanePass .. =>
    [.upsets, .inbox, .cnf]
  | .collectorWindow .. =>
    [.freeIdx, .upsets, .inbox, .tsw, .cnf]
  | .speakerHoldoffExpiry .. =>
    [.inbox, .cnf]
  | .selectorDecision .. | .k1Protocol .. | .protExer .. =>
    [.upsets, .inbox, .prt]
  | .holdoffExpiry .. | .wtrExpiry .. | .protSw .. =>
    [.inbox, .prt]
  | .doorbellWrite .. =>
    [.inbox, .rings, .hif, .pmc]
  | .descriptorAdmission .. | .completionWrite .. =>
    [.hostMem, .upsets, .inbox, .flt, .rings, .vecs, .ce, .pmc, .due]
  | .consumerIndexWriteback .. =>
    [.hostMem, .rings, .vecs]
  | .ceStall .. =>
    [.inbox, .rings, .ce]
  | .ringEnable .. =>
    [.hostMem, .upsets, .inbox, .flt, .rings, .vecs, .ce, .pmc, .keys, .strs, .dccs, .due]
  | .ringDisable .. | .hifCplTo .. =>
    [.hostMem, .inbox, .rings, .vecs, .ce, .pmc, .keys, .strs, .dccs]
  | .ringReset .. =>
    [.upsets, .inbox, .flt, .rings, .locks]
  | .nop .. | .echo .. =>
    [.ce, .pmc]
  | .fence .. | .fenceAll .. =>
    [.upsets, .inbox, .flt, .rings, .ce, .due]
  | .tswSet .. | .tswFill .. | .tswPatch .. =>
    [.upsets, .flt, .ce, .pmc, .tsw]
  | .tswRead .. =>
    [.hostMem, .upsets, .inbox, .ce, .pmc, .tsw]
  | .fabricCommit .. =>
    [.inbox, .ce, .pmc, .hop, .tsw, .cnf]
  | .xcSet .. =>
    [.ce, .pmc, .hop]
  | .lomapSet .. =>
    [.inbox, .ce, .pmc, .hop, .vc4s, .h4s]
  | .tribCfg .. =>
    [.inbox, .ce, .pmc, .mgt, .los, .tribs]
  | .sigSet .. =>
    [.inbox, .ce, .pmc, .mgt, .tribs]
  | .cnfCreate .. | .cnfJoin .. | .cnfLeave .. | .cnfModify .. | .cnfDestroy .. =>
    [.upsets, .flt, .ce, .pmc, .cnf]
  | .cnfQuery .. | .protQuery .. =>
    [.hostMem, .ce, .pmc]
  | .toneLoad .. =>
    [.ce, .pmc, .cnf]
  | .protGroup .. =>
    [.upsets, .inbox, .flt, .ce, .pmc, .mgt, .tribs, .prt]
  | .protCmd .. =>
    [.upsets, .inbox, .ce, .pmc, .prt]
  | .traceSet .. =>
    [.inbox, .ce, .pmc, .mgt, .ports, .hop, .scribe, .los]
  | .traceRead .. =>
    [.hostMem, .ce, .pmc, .scribe]
  | .ohSet .. =>
    [.ce, .pmc, .ports, .hop, .los]
  | .streamOpen .. =>
    [.ce, .pmc, .strs]
  | .streamClose .. =>
    [.freeIdx, .hostMem, .rings, .vecs, .ce, .pmc, .strs]
  | .streamFlush .. =>
    [.hostMem, .rings, .vecs, .ce, .pmc, .strs]
  | .gfpOpen .. =>
    [.inbox, .ce, .pmc, .mgt, .gfps]
  | .gfpClose .. =>
    [.ce, .pmc, .mgt, .gfps]
  | .gfpFlush .. =>
    [.inbox, .rings, .ce, .pmc, .mgt, .gfps]
  | .keyLoad .. =>
    [.upsets, .flt, .ce, .pmc, .keys, .dccs]
  | .keyErase .. =>
    [.ce, .pmc, .keys]
  | .dccAuthCfg .. =>
    [.hostMem, .upsets, .inbox, .rings, .vecs, .ce, .pmc, .keys, .dccs]
  | .resClaim .. | .resRelease .. =>
    [.upsets, .inbox, .flt, .ce, .pmc, .locks, .registry]
  | .pmCfg .. =>
    [.ce, .pmc, .mgt]
  | .voiceBlockArrival .. | .voiceBlockWrite .. =>
    [.hostMem, .inbox, .rings, .vecs, .strs]
  | .qptr .. =>
    [.hostMem, .upsets, .inbox, .rings, .vecs, .keys, .mgt, .strs, .gfps, .dccs]
  | .gfpTxFrame .. =>
    [.hostMem, .inbox, .rings, .vecs, .gfps]
  | .gfpRxHeader .. =>
    [.hostMem, .inbox, .rings, .vecs, .mgt, .gfps]
  | .dccTxFrame .. | .dccRxFrame .. | .cmacDone .. =>
    [.hostMem, .upsets, .inbox, .rings, .vecs, .keys, .dccs]
  | .leaseExpiry .. =>
    [.upsets, .inbox, .flt, .locks]
  | .resourceRegisterClaim .. =>
    [.cfg, .upsets, .inbox, .flt, .registry, .pin, .timers, .stp, .grps]
  | .captureEdge .. | .captDataRead .. =>
    [.pin]
  | .pmPartWrite .. =>
    [.hostMem, .inbox, .rings, .vecs, .mgt]
  | .pmcSnap .. | .pmcPreset .. | .pmcOvf .. =>
    [.pmc]
  | .legacyDone .. =>
    [.inbox, .mgt]
  | .logMarkWrite .. =>
    [.log]
  | .logRidxWrite .. | .logCfgWrite .. =>
    [.cfg, .log]
  | .collectorTake .. =>
    [.freeIdx, .cfg, .hostMem, .upsets, .glb, .inbox, .fatal, .flt, .log, .rings, .vecs, .hif, .ce, .pmc, .keys,
      .locks, .mgt, .timers, .ports, .hop, .los, .tribs, .hwys, .tsw, .cnf, .prt, .strs, .gfps, .dccs, .due]
  | .nmiReturn .. | .processorReady .. =>
    [.hostMem, .upsets, .glb, .inbox, .flt, .rings, .vecs, .ce, .pmc, .due]
  | .errPinAssert .. | .errPinRelease .. | .errPinWidthExpiry .. | .firstClr .. | .firstClrFatal .. | .injUnlock .. =>
    [.flt]
  | .reactionWrite .. =>
    [.upsets, .flt]
  | .injGo .. =>
    [.cfg, .inbox, .flt]
  | .pfail .. =>
    [.hostMem, .inbox, .flt, .log, .rings, .vecs, .hif]
  | .pfailClear .. | .clkLol .. =>
    [.inbox, .flt]
  | .procWdt .. | .procExc .. | .grantWdt .. =>
    [.inbox]
  | .busCommit .. =>
    [.bus]
  | .bootLoadDone .. | .bootPushTail .. | .bootPushEnd .. =>
    [.glb, .boot, .bus, .inbox, .keys]
  | .bootPushData .. | .sfdpDiscovery .. =>
    [.boot, .bus, .inbox]
  | .i2cTransaction .. =>
    [.glb, .boot, .bus, .i2c, .inbox, .log, .keys]
  | .registerWrite .. =>
    [.cfg, .hostMem, .upsets, .glb, .boot, .bus, .inbox, .flt, .log, .rings, .vecs, .hif, .ce, .pmc, .keys, .locks,
      .registry, .pin, .mgt, .timers, .clock, .stp, .ports, .tribs, .hwys, .grps, .strs, .gfps, .dccs, .due]
  | .linkUp .. =>
    [.hif]
  | .i2cIdleTimeout .. =>
    [.i2c]

end Sys2Proof.Machine
end

