-- ==== Sys2Proof/Certificates/Slice0/Obligations.lean ====
section
/-! DEFINITION. The statements for the provers. -/

open Sys2Proof Sys2Proof.Machine

/-! ### The whole machine -/

/-- O1. A step takes the command at the front of the queue and carries it out with the queue's rest. -/
def Obligations.StepRunsFrontCommand : Prop :=
  ∀ (c : Instr) (rest : List Instr) (s : State), s.pending = c :: rest → step s = exec c { s with pending := rest }

/-- O2. No step of the block stops: every command answers a next state. On an empty queue a step lets the device serve its own
events and a sub-tick pass, and a device without power does nothing. The model's choice (assumption 1). -/
def Obligations.StepAnswers : Prop :=
  ((∀ (i : Instr) (s : State), Completes i s) ∧ ∀ s : State, ∃ t, step s = .next t) ∧
  (∀ s : State, s.pending = [] → step s = .next s.tick ∧ (s.powered = false → step s = .next s))

/-- O3. The state after reset is legal: the story pole at 0:0000, host memory in canonical form, the collector's queue within
its 64 entries, the due table in order. -/
def Obligations.ResetLegal : Prop := State.reset.Legal ∧ State.reset.DueOk ∧ State.reset.stp.frame = 0 ∧ State.reset.stp.phase = 0 ∧
  State.reset.stp.sub = 0 ∧ State.reset.pending = []

/-- O4. Every step keeps the story pole at a position of R33 and R34, host memory canonical, the collector's queue at no more
than 64 messages. -/
def Obligations.StepKeepsLegal : Prop := ∀ s t : State, s.Legal → step s = .next t → t.Legal

/-- O5. The frame of every command: it changes no part of the state outside what `reach` lists for it. The table `reach` is the
model's own, read from the rules of the units each command acts on (assumptions 15 and 78). -/
def Obligations.ExecFrame : Prop := ∀ (i : Instr) (s t : State), exec i s = .next t → Unchanged (reach i) s t

/-- O6. No command but the frame boundary and the resets of the whole device moves the story pole: host-interface resets,
block resets by a reaction and writes to STP.EPOCH leave it untouched. -/
def Obligations.PoleMoves : Prop := ∀ (i : Instr) (s t : State), movesPole i = false → exec i s = .next t →
  t.stp.frame = s.stp.frame ∧ t.stp.phase = s.stp.phase ∧ t.stp.sub = s.stp.sub ∧ t.stp.origin = s.stp.origin

/-- O7. Only a power cycle leaves the fatal state. RESET_N, a warm CHIP_RST and writes of CLR_FATAL keep the first fatal
message captured. -/
def Obligations.FatalStays : Prop :=
  (∀ (i : Instr) (s t : State), (∀ st, i ≠ .powerOn st) → i ≠ .powerLoss → s.flt.fatal = true → exec i s = .next t →
    t.flt.fatal = true) ∧
  ∀ (i : Instr) (s t : State), ((∃ st, i = .resetN st) ∨ (∃ st, i = .warmChipRst st) ∨ i = .firstClrFatal) →
    s.flt.fatal = true → exec i s = .next t → t.flt.firstFatal = s.flt.firstFatal

/-! ### The story pole and the clock -/

/-- O8. Latching the count, writing a new epoch and a new second origin: each only stores; the boundary applies what waits.
The frame boundary: the count takes the waiting epoch, or its next value; tick and sub-tick are 0; a second origin takes
effect; a story second is at hand exactly where count less origin is a multiple of 8,000. -/
def Obligations.EpochOriginAndCount : Prop :=
  ((∀ s : State, exec .snapLatch s =
    .next { s with stp := { s.stp with snap := { frame := s.stp.frame, phase := s.stp.phase, sub := s.stp.sub } } }) ∧
  (∀ (v : Word) (s : State), Does (.epochWrite v) s fun t =>
    t.stp.epoch = some v ∧ t.stp.frame = s.stp.frame ∧ t.stp.phase = s.stp.phase ∧ t.stp.sub = s.stp.sub ∧ t.reg 0x1018 = v ∧
    (t.readWord 0x101C).getLsbD 0 = true) ∧
  ∀ (v : Word) (s : State), exec (.secondOriginWrite v) s = .next { s with stp := { s.stp with originNew := some v } }) ∧
  (∀ (i : FrameInputs) (s : State), Does (.frameBoundary i) s fun t =>
    let f := s.stp.epoch.getD (s.stp.frame + 1)
    t.stp.frame = f ∧ t.stp.phase = 0 ∧ t.stp.sub = 0 ∧ t.stp.epoch = none ∧ t.stp.originNew = none ∧
    t.stp.origin = s.stp.originNew.getD (s.stp.origin + (f - (s.stp.frame + 1))) ∧
    t.stp.atSecond = decide ((t.stp.frame - t.stp.origin).toNat % 8000 = 0))

/-- O9. Arming, disarming and firing a timer. An armed timer whose target lies ahead by 1 tick to 2^20 frames is armed for it;
any other target, or a periodic timer that breaks R61, sets ARM_ERR and leaves it disarmed; a PHASE above 2429 is such a
target by the model's choice (assumption 128). In the fatal state arming does nothing. At its target it fires: a
one-shot timer disarms, a periodic one is armed at its previous target plus the period. EN = 0 of a timer releases it and
prevents every firing; EN = 1 on a free timer claims it. A reference output (R54): EN = 1 on a free REFOUT claims it, EN = 0
releases it, a held one is REFUSED and its ball stays low. -/
def Obligations.TimersAndRefouts : Prop :=
  ((∀ (n : Fin 16) (s : State), s.flt.fatal = true → exec (.timerArm n) s = .next s) ∧
  (∀ (n : Fin 16) (s : State), s.flt.fatal = false → (s.timer n).claimed = true →
    let f := s.reg (tmrReg n 0xC)
    let p := s.rf (tmrReg n 0x8) 0 12
    let d := s.ticksTo f p
    let ok := p ≤ 2429 ∧ 1 ≤ d ∧ d ≤ 2 ^ 20 * 2430 ∧ s.tmrPeriodOk n = true
    Does (.timerArm n) s fun t =>
      (ok → (t.timer n) = { s.timer n with target := some (f, p) }) ∧
      (¬ ok → (t.timer n) = { s.timer n with target := none, armErr := true }) ∧
      (∀ m, m ≠ n.val → t.timer m = s.timer m) ∧ t.flt = s.flt) ∧
  (∀ (n : Fin 16) (s : State), Does (.timerDisarm n) s fun t =>
    t.timer n = { s.timer n with target := none } ∧ (∀ m, m ≠ n.val → t.timer m = s.timer m)) ∧
  (∀ (n : Fin 16) (s : State) (f : Word) (p : Nat), (s.timer n).target = some (f, p) → s.tmrDue n = true →
    Does (.tmrFire n) s fun t =>
      (t.timer n).fired = true ∧
      (s.rb (tmrReg n 0) 28 = false → (t.timer n).target = none) ∧
      (s.rb (tmrReg n 0) 28 = true → (t.timer n).target =
        some (f + BitVec.ofNat 32 ((p + s.tmrPeriod n) / 2430), (p + s.tmrPeriod n) % 2430)) ∧
      (∀ g, (s.timer n).gpio = some g → s.rb (tmrReg n 0) 26 = true → (t.timer n).pulse = 16 * s.rf (tmrReg n 0) 8 8 ∧
        (t.timer n).pulseGpio = g ∧ (t.timer n).pulseHigh = !(s.rb (tmrReg n 0) 25)) ∧
      (s.rb (tmrReg n 0) 27 = true → s.flt.queue.length < 64 → t.flt.queue = insertMsg
        { source := 0x130, kind := 0x19, cls := 3, addr := BitVec.ofNat 32 n, data := 0, at_ := s.now } s.flt.queue) ∧
      (s.rb (tmrReg n 0) 27 = false → t.flt = s.flt))) ∧
  ((∀ (n : Fin 16) (v : Word) (s : State), wbit v 31 = false → Does (.timerEnable n v) s fun t =>
    (t.timer n).claimed = false ∧ (t.timer n).target = none ∧ (t.timer n).gpio = none ∧
    (t.timer n).pulse = (s.timer n).pulse ∧ Does (.tmrFire n) t (fun u => u = t)) ∧
  (∀ (n : Fin 16) (v : Word) (s : State), wbit v 31 = true → wbit v 26 = false → s.rb (tmrReg n 0) 31 = false →
    s.upsets = [] → s.flt.flip = none → (s.timer n).gpio = none → (s.res (resKey 1 n)).owner = none →
    Does (.timerEnable n v) s fun t =>
      (t.timer n).claimed = true ∧ (t.timer n).refused = false ∧
      (t.res (resKey 1 n)).owner = some (0x0200 + n)) ∧
  ∀ (n : Fin 16) (v : Word) (s : State) (o : Nat), wbit v 31 = true → wbit v 26 = false → s.rb (tmrReg n 0) 31 = false →
    s.upsets = [] → s.flt.flip = none → (s.res (resKey 1 n)).owner = some o → o ≠ 0 →
    Does (.timerEnable n v) s fun t => (t.timer n).claimed = false ∧ (t.timer n).refused = true ∧
      t.res (resKey 1 n) = s.res (resKey 1 n)) ∧
  ((∀ (m : Fin 2) (v : Word) (s : State), wbit v 31 = true → s.rb (0x1080 + 4 * m) 31 = false → s.upsets = [] →
    s.flt.flip = none → (s.res (resKey 2 m)).owner = none → Does (.refoutEnable m v) s fun t =>
      (t.refout m).claimed = true ∧ (t.refout m).refused = false ∧ (t.res (resKey 2 m)).owner = some (0x0300 + m)) ∧
  (∀ (m : Fin 2) (v : Word) (s : State) (o : Nat), wbit v 31 = true → s.rb (0x1080 + 4 * m) 31 = false → s.upsets = [] →
    s.flt.flip = none → (s.res (resKey 2 m)).owner = some o → o ≠ 0 → Does (.refoutEnable m v) s fun t =>
      (t.refout m).claimed = false ∧ (t.refout m).refused = true ∧ t.refoutLevel m = (if s.powered then some false else none) ∧
      t.res (resKey 2 m) = s.res (resKey 2 m)) ∧
  ∀ (m : Fin 2) (v : Word) (s : State), wbit v 31 = false → s.upsets = [] → s.flt.flip = none →
    (s.res (resKey 2 m)).owner = some (0x0300 + m) → (s.res (resKey 2 m)).behind = false →
    Does (.refoutEnable m v) s fun t => (t.refout m).claimed = false ∧ (t.res (resKey 2 m)).owner = none)

/-- O10. Oscillators and the DPLL. SYNC_OSC without activity moves the DPLL to the XO, sets OSC_FAIL and raises it; a write of
1 to OSC_SEL moves it back. One second within 100 ns in ACQUIRING locks it, with DPLL_LOCK; 100 s of LOCKED set
HOLD_READY, upon which a waiting HOLD_FORCE enters HOLDOVER. -/
def Obligations.DpllEvents : Prop :=
  (∀ s : State, s.stp.onXo = false → exec .oscFail s = .next
    (State.raise .oscFail 0x131 0 0 { s with stp := { s.stp with onXo := true, oscFail := true } })) ∧
  (∀ s : State, Does .oscSelect s fun t => t.stp.onXo = false ∧ t.stp.oscFail = false ∧ t.rb 0x102C 2 = true) ∧
  (∀ s : State, s.stp.dpll = 1 → 8000 ≤ s.stp.acqFrames → exec .dpllLock s = .next
    (State.raise .dpllLock 0x131 0 0 { s with stp := { s.stp with dpll := 2, lockFrames := 0 } })) ∧
  (∀ s : State, s.stp.dpll = 2 → 800000 ≤ s.stp.lockFrames → s.stp.holdReady = false → s.holdForce = false →
    exec .holdReady s = .next { s with stp := { s.stp with holdReady := true } }) ∧
  ∀ s : State, s.stp.dpll = 2 → 800000 ≤ s.stp.lockFrames → s.stp.holdReady = false → s.holdForce = true →
    Does .holdReady s fun t => t.stp.dpll = 3 ∧ t.stp.holdReady = true ∧ (s.flt.queue.length < 63 →
      ({ source := 0x131, kind := 0x15, cls := 3, addr := 0, data := 0, at_ := s.now } : Msg) ∈ t.flt.queue)

/-- O11. Reference candidates and their selection. A measurement that breaks R43 marks an enabled candidate for the next
boundary, and it stays qualified until then; with every condition clear an unqualified candidate starts its wait of WTR seconds, and at the
wait's end it is qualified again, with REF_QUAL. Selection (R45, R46): forced, the candidate named if it is qualified, else
none; automatic, the best of the eligible ones, by QL rank where QL_EN is 1, then priority, then number, and none only where
none is eligible; non-revertive, the selected candidate stays while it is qualified, but for one of better QL. At a frame
boundary the selector takes that choice, by the settings in force after it. -/
def Obligations.RefCandidates : Prop :=
  ((∀ (s : State) (k : Fin 8), s.stpB 0x1024 19 = true → k.val = s.stpF 0x1024 16 3 →
    s.refSelect = if (s.ref k).qualified then some k else none) ∧
  (∀ s : State, s.stpB 0x1024 19 = false → (∀ k, s.stp.sel = some k → s.stpB 0x1024 29 = true ∨ (s.ref k).qualified = false) →
    let rank := fun (k : Fin 8) => if s.stpB 0x1024 31 then qlRank (s.stpB 0x1024 30) (s.effQl k) else 0
    let prio := fun (k : Fin 8) => s.stpF (refReg k) 16 4
    (∀ k, s.refSelect = some k → (s.ref k).qualified = true ∧ prio k < 15 ∧
      ∀ j, j ≠ k → (s.ref j).qualified = true → prio j < 15 →
        rank k < rank j ∨ (rank k = rank j ∧ (prio k < prio j ∨ (prio k = prio j ∧ k < j)))) ∧
    (s.refSelect = none → ∀ k : Fin 8, (s.ref k).qualified = true → prio k = 15)) ∧
  (∀ (s : State) (k : Fin 8), s.stpB 0x1024 19 = false → s.stpB 0x1024 29 = false → s.stp.sel = some k → (s.ref k).qualified = true →
    let rank := fun (j : Fin 8) => qlRank (s.stpB 0x1024 30) (s.effQl j)
    (s.stpB 0x1024 31 = false → s.refSelect = some k) ∧
    ∀ j, s.refSelect = some j → j = k ∨ rank j < rank k) ∧
  ∀ (i : FrameInputs) (s : State), Does (.frameBoundary i) s fun t => ∃ u : State, t.stp.sel = u.refSelect ∧
    u.stp.sel = s.stp.sel ∧ u.stp.held = t.stp.held ∧ ∀ k : Fin 8, (u.ref k).qualified = (t.ref k).qualified) ∧
  (∀ (k : Fin 8) (m : RefMeas) (s : State), s.refEn k = true → (m.edges = false ∨ 1200 < m.fofs ∨ m.fofs < -1200) →
    Does (.refDisq k m) s fun t => (t.ref k).disq = true ∧ (t.ref k).qualified = (s.ref k).qualified ∧
      (∀ j, j ≠ k.val → t.ref j = s.ref j) ∧ t.flt = s.flt) ∧
  (∀ (k : Fin 8) (m : RefMeas) (s : State), s.refEn k = true → (s.ref k).qualified = false → (s.ref k).disq = false →
    (s.ref k).wtrRun = false → (s.refMeasure k m).refClear k = true → 0 < s.wtrSeconds →
    Does (.refQual k m) s fun t => (t.ref k).wtrRun = true ∧ (t.ref k).wtr = s.wtrSeconds * 8000 ∧
      (t.ref k).wtrAt = s.inFrame ∧ (t.ref k).qualified = false ∧ t.flt = s.flt) ∧
  ∀ (k : Fin 8) (m : RefMeas) (s : State), s.refEn k = true → (s.ref k).qualified = false → (s.ref k).disq = false →
    (s.ref k).wtrRun = true → (s.ref k).wtr = 0 → (s.ref k).wtrAt ≤ s.inFrame → (s.refMeasure k m).refClear k = true →
    s.flt.queue.length < 64 →
    Does (.refQual k m) s fun t => (t.ref k).qualified = true ∧ (t.ref k).wtrRun = false ∧
      t.flt.queue = insertMsg { source := refSource k, kind := 0x11, cls := 3, addr := BitVec.ofNat 32 k, data := 0,
                                at_ := s.now } s.flt.queue

/-! ### Resets and boot -/

/-- O12. Power-on and RESET_N: the story pole at 0:0000 with the DPLL in FREERUN, the device blank and not READY, the straps
sampled, the boot source recorded. Power-on clears the fatal state and its capture, RESET_N keeps them (R372, R379). Power
is lost: the device is as after reset, without power, and only what stands outside it is kept: the waiting commands, host
memory and the messages sent, the levels that others drive at the GPIO balls, the model's own counter of free values. While no
command comes, that state stays (assumption 1). -/
def Obligations.PowerAndResetN : Prop :=
  ((∀ (st : Straps) (s : State), Does (.powerOn st) s fun t =>
    t.stp = {} ∧ t.flt.fatal = false ∧ t.flt.firstFatal = none ∧ t.flt.first = none ∧ t.glb.straps = st ∧ t.glb.last = 0 ∧
    t.glb.ready = false ∧ t.boot.src = st.bootSrc ∧ t.log = {} ∧ t.cfg = [] ∧ t.hif.rings = [] ∧ t.ports = [] ∧ t.tsw = {} ∧
    t.sec = {} ∧ t.ce = {} ∧ t.powered = true ∧
    (st.bootSrc ≠ 3 → t.flt = { test := st.testMode })) ∧
  (∀ (st : Straps) (s : State), Does (.resetN st) s fun t =>
    t.stp = {} ∧ t.flt.fatal = s.flt.fatal ∧ t.flt.firstFatal = s.flt.firstFatal ∧ t.flt.first = none ∧ t.glb.straps = st ∧
    t.glb.last = 1 ∧ t.glb.ready = false ∧ t.boot.src = st.bootSrc ∧ t.log = {} ∧ t.cfg = [] ∧ t.hif.rings = [] ∧ t.ports = [] ∧
    t.tsw = {} ∧ t.sec = {} ∧ t.ce = {} ∧
    (st.bootSrc ≠ 3 → t.flt = { fatal := s.flt.fatal, firstFatal := s.flt.firstFatal, test := st.testMode })) ∧
  ∀ (st : Straps) (s : State), st.bootSrc = 3 →
    Does (.powerOn st) s (fun t => t.boot.stage = 15 ∧ t.boot.fail = 7 ∧
      t.flt.queue = [{ source := 0x187, kind := 0xB1, cls := 1, addr := 0, data := 7 }])) ∧
  (∀ s : State, exec .powerLoss s = .next { State.reset with
    powered := false, pending := s.pending, freeIdx := s.freeIdx, hostMem := s.hostMem,
    pin := { State.reset.pin with gpioIn := s.pin.gpioIn }, hif := { State.reset.hif with msgs := s.hif.msgs } }) ∧
  ∀ s : State, s.pending = [] → Does .powerLoss s fun t => step t = .next t

/-- O13. A warm CHIP_RST that a reaction or the host has asked for: the chalk log, the first-fault capture, the cause bits,
the fatal state, the ERR_N latch, the link and config space stay; the data plane, the due table and the keys are blank;
the only message that waits is RESET_REC, with the source and the kind of the message that caused the reset. A write of
GLB.RSTCTL: CHIP_RST with KEY 0xC4 asks for the reset, any other KEY does not; PURGE_ON_HOST_RESET takes the value
written. -/
def Obligations.WarmReset : Prop :=
  (∀ (st : Straps) (s : State) (byReaction : Bool) (src kind : Nat), s.glb.rstReq = some (byReaction, src, kind) →
    st.bootSrc ≠ 3 → Does (.warmChipRst st) s fun t =>
      t.log = s.log ∧ t.flt.first = s.flt.first ∧ t.flt.firstFatal = s.flt.firstFatal ∧ t.flt.cause = s.flt.cause ∧
      t.flt.fatal = s.flt.fatal ∧ t.flt.errLatch = s.flt.errLatch ∧ t.flt.lost = s.flt.lost ∧ t.flt.react = [] ∧ t.flt.test = s.flt.test ∧
      t.hif.bme = s.hif.bme ∧ t.hif.linkUp = s.hif.linkUp ∧ t.stp = {} ∧ t.ce = {} ∧ t.sec = {} ∧ t.tsw = {} ∧
      t.hif.rings = [] ∧ t.glb.rstReq = none ∧ t.glb.last = (if byReaction then 2 else 3) ∧
      t.flt.queue = [{ source := 0x180, kind := 0xF1, cls := 3, addr := if byReaction then 0 else 1,
                       data := if byReaction then BitVec.ofNat 64 (src + kind * 65536) else 0 }]) ∧
  (∀ (v : Word) (s : State), Does (.glbChipRstRequest v) s fun t =>
  t.rb 0x0010 0 = wbit v 0 ∧
  (wbit v 31 = true → wfld v 8 8 = 0xC4 → s.glb.rstReq = none → t.glb.rstReq = some (false, 0, 0)) ∧
  (wbit v 31 = false ∨ wfld v 8 8 ≠ 0xC4 → t.glb.rstReq = s.glb.rstReq))

/-- O14. The chalk log survives a warm CHIP_RST, BLK_RST of any block, PERST_N and FLR, its registers with it; power-on and
RESET_N set every entry to zero and every pointer to 0. -/
def Obligations.LogSurvives : Prop :=
  (∀ (i : Instr) (s : State), (∃ st, i = .warmChipRst st) ∨ i = .perstN ∨ i = .flr →
    Does i s fun t => t.log = s.log ∧ t.reg 0x5000 = s.reg 0x5000 ∧ t.reg 0x5020 = s.reg 0x5020) ∧
  (∀ (src addr : Nat) (s : State), let t := s.blkRst src addr
    t.log = s.log ∧ t.reg 0x5000 = s.reg 0x5000 ∧ t.reg 0x5020 = s.reg 0x5020) ∧
  ∀ (i : Instr) (s : State), (∃ st, i = .powerOn st ∨ i = .resetN st) → Does i s fun t =>
    (∀ k, tget {} t.log.entries k = ({} : LogEntry)) ∧ t.log.wr = 0 ∧ t.log.mark = 0 ∧ t.log.mirr = 0 ∧ t.log.seq = 0 ∧
    t.reg 0x5000 = 0 ∧ t.reg 0x5020 = 0

/-- O15. Every reset of the whole device overwrites the key slots with zeros and clears every state bit; SP then loads K0
again as the image arrives. -/
def Obligations.KeysZeroed : Prop :=
  (∀ (i : Instr) (s t : State), ((∃ st, i = .powerOn st) ∨ (∃ st, i = .resetN st) ∨ ((∃ st, i = .warmChipRst st) ∧ s.glb.rstReq.isSome)) →
    exec i s = .next t → ∀ n, t.key n = {}) ∧
  ∀ (image : List Byte) (s : State), s.boot.stage = 2 → s.loadHeld image = false → Does (.bootLoadDone image) s fun t =>
    (t.key 0).loaded = true ∧ (t.key 0).aes256 = true ∧ (t.key 0).key = keyZero ∧ (∀ n, n ≠ 0 → t.key n = s.key n)

/-- O16. The image from SPI flash, none of whose targets is frozen. Each byte of a section goes to its destination. One that
passes makes the device READY with REMAP set and its version recorded; one that fails has every destination written set to
zero and raises BOOT_FAIL with its code, and SP tries the second copy of a flash of 128 Mbit or more or opens the push. A
flash without SFDP data (code 5) has no second copy: the push opens at once (assumption 98). After READY a processor enters
service; a reset of the processor ends with it as well. -/
def Obligations.BootAndProcessors : Prop :=
  ((∀ (image : List Byte) (s : State), s.boot.stage = 2 → s.loadHeld image = false → imageCode image = 0 →
    Does (.bootLoadDone image) s fun t =>
      t.glb.ready = true ∧ t.glb.remap = true ∧ t.boot.stage = 5 ∧ t.boot.version = BitVec.ofNat 32 (imgWord image 12) ∧
      t.flt = s.flt ∧
      (∀ p a k o, imageTable image = true → p < image.length → a ∈ imageDest image p →
        busDecode s.glb.remap 2 a = some (k, o) → k ≠ 1 →
        (∀ p' a' k' o', p < p' → p' < image.length → a' ∈ imageDest image p' → busDecode s.glb.remap 2 a' = some (k', o') →
          targetAddr k' o' ≠ targetAddr k o) → tget 0 t.bus.mem (targetAddr k o) = byteAt image p)) ∧
  (∀ (image : List Byte) (s : State), s.boot.stage = 2 → s.loadHeld image = false → imageCode image ≠ 0 → s.flt.queue.length < 64 →
    Does (.bootLoadDone image) s fun t => t.glb = s.glb ∧ t.boot.fail = imageCode image ∧
      (s.boot.copy = false → 27 ≤ s.boot.density → t.boot.stage = 2 ∧ t.boot.copy = true) ∧
      (s.boot.copy = true ∨ s.boot.density < 27 → t.boot.stage = 4) ∧
      (∀ p a k o, imageTable image = true → p < image.length → a ∈ imageDest image p →
        busDecode s.glb.remap 2 a = some (k, o) → tget 0 t.bus.mem (targetAddr k o) = 0) ∧
      t.flt.queue = insertMsg { source := 0x187, kind := 0xB1, cls := 1, addr := 0, data := BitVec.ofNat 64 (imageCode image),
                                at_ := s.now } s.flt.queue) ∧
  (∀ (x : Sfdp) (s : State), s.boot.stage ≤ 1 → s.boot.src = 0 → Does (.sfdpDiscovery (some x)) s fun t =>
    t.boot.stage = 2 ∧ t.boot.copy = false ∧ t.boot.instr = x.instr ∧ t.boot.dummy = x.dummy ∧ t.boot.density = x.density % 256) ∧
  ∀ s : State, s.boot.stage ≤ 1 → s.boot.src = 0 → s.flt.queue.length < 64 → Does (.sfdpDiscovery none) s fun t =>
    t.boot.stage = 4 ∧ t.boot.fail = 5 ∧
    t.flt.queue = insertMsg { source := 0x187, kind := 0xB1, cls := 1, addr := 0, data := 5, at_ := s.now } s.flt.queue) ∧
  (∀ (p : Fin 7) (s : State), s.glb.ready = true → Does (.processorReady p) s fun t =>
  t.glb.insvc.getLsbD p = true ∧ t.glb.heldRst.getLsbD p = false ∧
  (∀ q : Fin 7, q ≠ p → t.glb.insvc.getLsbD q = s.glb.insvc.getLsbD q ∧ t.glb.heldRst.getLsbD q = s.glb.heldRst.getLsbD q))

/-- O17. The PCIe push. A write of PUSH_DATA enters four bytes, byte 0 first, and takes the FIFO; beyond 4,096 bytes held a
byte is discarded and the image fails with code 6; END hands SP the whole image, whose check decides; a FIFO owned by the
I2C source refuses the write and sets CONFLICT; a tail enters its COUNT bytes and marks end-of-data. While a frozen target
holds SP's reads of the FIFO or its writes, end-of-data stands marked and no verdict comes (R403). -/
def Obligations.BootPush : Prop :=
  (∀ (v : Word) (s : State), s.pushOpen false = true → s.boot.fifo.length + 4 ≤ 4096 → Does (.bootPushData v) s fun t =>
    t.boot.fifo = s.boot.fifo ++ [v.extractLsb' 0 8, v.extractLsb' 8 8, v.extractLsb' 16 8, v.extractLsb' 24 8] ∧
    t.boot.owned = true ∧ t.boot.ownerI2c = false ∧ t.boot.image = s.boot.image ∧ t.flt = s.flt) ∧
  (∀ (v : Word) (s : State), s.pushOpen false = true → 4096 < s.boot.fifo.length + 4 → Does (.bootPushData v) s fun t =>
    t.boot.fifo = [] ∧ t.boot.fail = 6 ∧ t.boot.owned = false ∧ t.boot.ovf = true ∧ t.boot.stage = 4) ∧
  (∀ (v : Word) (s : State), s.boot.stage = 4 → s.glb.ready = false → s.boot.owned = true → s.boot.ownerI2c = true →
    exec (.bootPushData v) s = .next { s with boot := { s.boot with conflict := true } }) ∧
  (∀ s : State, s.pushOpen false = true → s.loadHeld (s.boot.image ++ s.boot.fifo) = true → exec .bootPushEnd s =
    .next { s with boot := { s.boot with eod := true, owned := false } }) ∧
  (∀ s : State, s.pushOpen false = true → s.loadHeld (s.boot.image ++ s.boot.fifo) = false →
    imageCode (s.boot.image ++ s.boot.fifo) = 0 → Does .bootPushEnd s fun t =>
    t.glb.ready = true ∧ t.glb.remap = true ∧ t.boot.stage = 5 ∧ t.boot.fifo = [] ∧ t.boot.owned = false) ∧
  (∀ s : State, s.pushOpen false = true → s.loadHeld (s.boot.image ++ s.boot.fifo) = false →
    imageCode (s.boot.image ++ s.boot.fifo) ≠ 0 → Does .bootPushEnd s fun t =>
    t.glb = s.glb ∧ t.boot.fail = imageCode (s.boot.image ++ s.boot.fifo) ∧ t.boot.stage = 4 ∧ t.boot.fifo = [] ∧ t.boot.image = []) ∧
  ∀ (v : Word) (s : State), s.pushOpen false = true → 1 ≤ wfld v 24 2 → s.boot.fifo.length + wfld v 24 2 ≤ 4096 →
    s.loadHeld (s.boot.image ++ s.boot.fifo ++ leBytes (wfld v 24 2) v.toNat) = false →
    imageCode (s.boot.image ++ s.boot.fifo ++ leBytes (wfld v 24 2) v.toNat) = 0 → Does (.bootPushTail v) s fun t =>
      t.glb.ready = true ∧ t.boot.stage = 5 ∧ t.boot.fifo = []

/-- O18. Board-management I2C, at the target's own address; a transaction at another address changes nothing. LOG.RIDX written
over I2C loads the target's own log window and leaves that of BAR0; a write to any other register outside the push registers is
discarded; a read returns the bytes from its offset onward; a transaction with a stop leaves the target idle, one without
stands open until 25 ms of SCL low leave the target idle. -/
def Obligations.I2cTarget : Prop :=
  (∀ (s : State) (v : Word), Does (.i2cTransaction { target := s.i2cTarget, offset := 0x5020, write := leBytes 4 v.toNat, read := 0, stop := true }) s fun t =>
    t.log.i2cRidx = wfld v 0 14 ∧ t.log.i2cRdata = s.log.at (wfld v 0 14) ∧ t.log.rdata = s.log.rdata ∧ t.log.mark = s.log.mark ∧
    t.i2c.open_ = false) ∧
  (∀ (s : State) (o v : Word), o ≠ 0x5020 → o ≠ 0x9010 → o ≠ 0x9014 → o ≠ 0x9018 →
    Does (.i2cTransaction { target := s.i2cTarget, offset := o, write := leBytes 4 v.toNat, read := 0, stop := true }) s fun t => ∀ p : Part, p ≠ .i2c → p.same s t) ∧
  (∀ (s : State) (o : Word) (n : Nat), exec (.i2cTransaction { target := s.i2cTarget, offset := o, write := [], read := n, stop := false }) s =
    .next { s with i2c := { open_ := true, offset := o + BitVec.ofNat 32 n, got := [], sent := s.i2cBytes o.toNat n } }) ∧
  (∀ (x : I2c) (s : State), x.target ≠ s.i2cTarget → exec (.i2cTransaction x) s = .next s) ∧
  ∀ s : State, exec .i2cIdleTimeout s = .next { s with i2c := {} }

/-! ### The host interface -/

/-- O19. A naturally aligned write of 4 or 8 bytes to a doorbell's word of BAR2 (Table HR-4: BLOCK + 8 n). In any of the cases
of R263 it leaves the host index, sets HIF.DB_ERR and raises HIF_DB_ERR with the kind and the ring in its address field; any
other stores the new host index; one that repeats the current index changes no index. A write of another width, of another
alignment or to any other offset changes nothing. Reading the word gives the device index that the host sees in its low half
and the ring's phase in bit 16, whatever was written (R262). -/
def Obligations.DoorbellWrite : Prop :=
  ((∀ (kind n : Nat), kind < 10 → n < ringCount kind → doorbellAt (0x1000 * kind + 8 * n) = some (kind, n)) ∧
  (∀ (o kind n : Nat), doorbellAt o = some (kind, n) → o = 0x1000 * kind + 8 * n ∧ kind < 10 ∧ n < ringCount kind)) ∧
  (∀ (o bytes kind n : Nat) (v : DWord) (s : State), s.glb.ready = true → bytes = 4 ∨ bytes = 8 → doorbellAt o = some (kind, n) →
    DoorbellRefused s kind n (v.extractLsb' 0 32) → exec (.doorbellWrite o bytes v) s =
      .next (State.raise .hifDbErr 0x141 (kind * 256 + n) 0 { s with hif := { s.hif with dbErr := true, dbKind := kind, dbRing := n } })) ∧
  (∀ (o bytes kind n : Nat) (v : DWord) (s : State), s.glb.ready = true → bytes = 4 ∨ bytes = 8 → doorbellAt o = some (kind, n) →
    ¬ DoorbellRefused s kind n (v.extractLsb' 0 32) → Does (.doorbellWrite o bytes v) s fun t =>
      t.ring kind n = { s.ring kind n with host := v.toNat % 65536 } ∧
      (∀ k m, ringKey k m ≠ ringKey kind n → t.ring k m = s.ring k m) ∧ t.flt = s.flt ∧ t.hif.dbErr = s.hif.dbErr ∧
      (t.readBar2 o 4).toNat % 65536 = s.seenIdx kind n % 65536 ∧
      wbit ((t.readBar2 o 4).setWidth 32) 16 = (s.ring kind n).phase) ∧
  (∀ (o bytes kind n : Nat) (s : State), s.glb.ready = true → bytes = 4 ∨ bytes = 8 → doorbellAt o = some (kind, n) →
    (s.ring kind n).en = true → (s.ring kind n).host < 2 ^ ringSize kind (s.ring kind n).size →
    Does (.doorbellWrite o bytes (BitVec.ofNat 64 (s.ring kind n).host)) s fun t => t.ring kind n = s.ring kind n ∧ t.flt = s.flt) ∧
  ∀ (o bytes : Nat) (v : DWord) (s : State), doorbellAt o = none ∨ (bytes ≠ 4 ∧ bytes ≠ 8) ∨ o % bytes ≠ 0 →
    exec (.doorbellWrite o bytes v) s = .next s

/-- O20. Enabling a ring. A CQ whose bound CC is disabled is not enabled, with CFG_ERR; a ring that is neither is enabled with
the fields written, its indices and phase continuing; a held completion of an enabled CC is written with HELD = 1 into the ring
as it is then configured; HIF.RRESET puts a disabled ring at entry 0 with phase 1. Disabling a
ring: a descriptor fetched from a CQ and not yet decided is refused with ABORTED and the consumer index passes it; the
commands already admitted stay; completions of a CC are held; blocks of a VO ring and received frames that hold a buffer of
OX are discarded and counted. A DMA read that times out is repeated once; at the second timeout the ring is disabled. -/
def Obligations.RingEnableDisableReset : Prop :=
  ((∀ (n : Nat) (v : Word) (s : State), s.glb.ready = true → n < 64 → (s.ring 0 n).en = false → (s.ring 1 (wfld v 16 6)).en = false →
    Does (.ringEnable 0 n v) s fun t => (t.ring 0 n).en = false ∧ (t.ring 0 n).cfgErr = true ∧ (t.ring 0 n).dev = (s.ring 0 n).dev) ∧
  (∀ (kind : Fin 10) (n : Nat) (v : Word) (s : State), s.glb.ready = true → n < ringCount kind → (s.ring kind n).en = false →
    kind ≠ 1 → (kind = 0 → (s.ring 1 (wfld v 16 6)).en = true) → Does (.ringEnable kind n v) s fun t =>
      t.ring kind n = { s.ring kind n with en := true, weight := wfld v 26 4, intMode := wfld v 4 2, bind := wfld v 16 6,
                                           size := wfld v 8 5 } ∧
      (∀ k m, ringKey k m ≠ ringKey kind n → t.ring k m = s.ring k m) ∧ t.flt = s.flt ∧ t.ce = s.ce) ∧
  (∀ (n : Fin 64) (v : Word) (s : State) (c : Comp), s.glb.ready = true → (s.ring 1 n).en = false → s.dmaOn = true → wfld v 4 2 = 0 →
    s.ce.comps = [c] → c.cc = n → c.held = true → c.refusal = false → (∀ m, (s.ring 0 m).head = none) →
    let r := { s.ring 1 n with en := true, weight := wfld v 26 4, intMode := 0, bind := wfld v 16 6, size := wfld v 8 5 }
    r.outstanding 1 + 1 < ringLen 1 r → Does (.ringEnable 1 n v) s fun t =>
      t.ce.comps = [] ∧ t.ce.due = s.ce.due ∧ (∀ m, (t.ring 0 m).dev = (s.ring 0 m).dev) ∧
      (t.ring 1 n).dev = (r.dev + 1) % ringLen 1 r ∧
      t.hostMem = memWrite s.hostMem (r.base.toNat / 4096 * 4096 + 16 * r.dev)
        (leBytes 2 (putB r.phase 15 + put c.ring 0 6) ++ leBytes 2 c.index ++ leBytes 2 c.tag.toNat ++ leBytes 1 c.status ++
          leBytes 1 (putB c.data 2 + putB c.asap 1 + 1) ++ leBytes 4 c.exec.toNat ++ leBytes 4 c.result.toNat)) ∧
  ∀ (kind : Fin 10) (n : Nat) (s : State), s.glb.ready = true → n < ringCount kind → (s.ring kind n).en = false →
    Does (.ringReset kind n) s fun t => t.ring kind n = { s.ring kind n with host := 0, dev := 0, phase := true } ∧
      (∀ k m, ringKey k m ≠ ringKey kind n → t.ring k m = s.ring k m)) ∧
  ((∀ (kind : Fin 10) (n : Nat) (s : State), (s.ring kind n).en = true → (s.ring kind n).head = none → kind ≠ 3 →
    Does (.ringDisable kind n) s fun t => t.ring kind n = { s.ring kind n with en := false, cplTo := false } ∧
      (∀ k m, ringKey k m ≠ ringKey kind n → t.ring k m = s.ring k m) ∧ t.ce.due = s.ce.due ∧ t.flt = s.flt) ∧
  (∀ (n : Nat) (s : State), (s.ring 1 n).en = true → Does (.ringDisable 1 n) s fun t => (t.ring 1 n).en = false ∧
    t.hostMem = s.hostMem ∧ t.ce.due = s.ce.due ∧
    t.ce.comps = s.ce.comps.map (fun c => if c.cc ≠ n ∧ s.ringRun 1 c.cc then c else { c with held := true })) ∧
  (∀ (g : Nat) (s : State), (s.ring 3 g).en = true →
    let cut := (s.strm g).out.any (fun d => d.desc.isSome)
    Does (.ringDisable 3 g) s fun t => (t.ring 3 g).en = false ∧ t.hostMem = s.hostMem ∧ t.ce = s.ce ∧ (t.strm g).wait = [] ∧
      (t.strm g).out = (s.strm g).out.map (fun d => if cut then { d with desc := none, drop := true } else d) ∧
      tget 0 (t.strm g).cnts 6 = tget 0 (s.strm g).cnts 6 + BitVec.ofNat 32 ((s.strm g).wait.length + b2n cut)) ∧
  (∀ s : State, (s.ring 7 0).en = true → Does (.ringDisable 7 0) s fun t => (t.ring 7 0).en = false ∧ t.hostMem = s.hostMem ∧
    t.sec.ox = [] ∧ ∀ ch, tget 0 (t.dcc ch).cnts 4 = tget 0 (s.dcc ch).cnts 4 +
      BitVec.ofNat 32 (s.sec.ox.filter (fun x => x.ch = ch && !(x.bad || x.cut))).length) ∧
  (∀ (n : Nat) (s : State) (d : Desc) (blk : Option (List Byte)), n < 64 → (s.ring 0 n).en = true → (s.ring 0 n).head = some (d, blk) →
    s.ringRun 1 (s.ring 0 n).bind = false → Does (.ringDisable 0 n) s fun t =>
      (t.ring 0 n).en = false ∧ (t.ring 0 n).head = none ∧ (t.ring 0 n).dev = ((s.ring 0 n).dev + 1) % ringLen 0 (s.ring 0 n) ∧
      t.ce.due = s.ce.due ∧ t.ce.refused = s.ce.refused + 1 ∧ t.ce.lastStat = 0x0A ∧
      (∃ c : Comp, t.ce.comps = s.ce.comps ++ [c] ∧ c.status = 0x0A ∧ c.held = true ∧ c.ring = n ∧ c.index = (s.ring 0 n).dev ∧
        c.tag = BitVec.ofNat 16 (wfld d.w0 16 16))) ∧
  (∀ (kind : Fin 10) (n : Nat) (s : State), s.ringRun kind n = true → deviceWritten kind = false → n < ringCount kind →
    (s.ring kind n).cplTo = false → s.flt.queue.length < 64 → Does (.hifCplTo kind n false) s fun t =>
      t.ring kind n = { s.ring kind n with cplTo := true } ∧
      t.flt.queue = insertMsg { source := 0x140, kind := 0x82, cls := 1, addr := BitVec.ofNat 32 (kind * 256 + n), data := 0,
                                at_ := s.now } s.flt.queue) ∧
  ∀ (kind : Fin 10) (n : Nat) (s : State), s.ringRun kind n = true → deviceWritten kind = false → n < ringCount kind → kind ≠ 3 →
    (s.ring kind n).cplTo = true → (s.ring kind n).head = none → s.flt.queue.length < 64 → Does (.hifCplTo kind n true) s fun t =>
      t.ring kind n = { s.ring kind n with en := false, cplTo := false } ∧
      t.flt.queue = insertMsg { source := 0x140, kind := 0x82, cls := 1, addr := BitVec.ofNat 32 (kind * 256 + n), data := 0,
                                at_ := s.now } s.flt.queue)

/-- O21. A completion that waits is written at the device index of its CC in the layout of Table HR-6, the index moves on and
the due-table entry is free. The index write-back: 8 bytes at HIF.RWB, the index the host sees in the low half and the
frame in the high half; every other byte of host memory stays. -/
def Obligations.CompletionAndIndexWrites : Prop :=
  (∀ (cc : Fin 64) (s : State) (c : Comp) (rest : List Comp), s.ccRoom cc = true → s.ce.comps = c :: rest → c.cc = cc → c.refusal = false →
    (s.ring 1 cc).intMode = 0 → (∀ n, (s.ring 0 n).head = none) →
    Does (.completionWrite cc) s fun t =>
      let a := (s.ring 1 cc).base.toNat / 4096 * 4096 + 16 * (s.ring 1 cc).dev
      t.ce.comps = rest ∧ t.ce.due = s.ce.due ∧ (t.ring 1 cc).dev = ((s.ring 1 cc).dev + 1) % ringLen 1 (s.ring 1 cc) ∧
      t.hostMem = memWrite s.hostMem a (leBytes 2 (putB (s.ring 1 cc).phase 15 + put c.ring 0 6) ++ leBytes 2 c.index ++
        leBytes 2 c.tag.toNat ++ leBytes 1 c.status ++ leBytes 1 (putB c.data 2 + putB c.asap 1 + putB c.held 0) ++
        leBytes 4 c.exec.toNat ++ leBytes 4 c.result.toNat)) ∧
  (∀ (kind : Fin 10) (n : Nat) (s : State), s.dmaOn = true → (s.ring kind n).wbDue = true → (s.ring kind n).intMode = 0 →
    (s.ring kind n).wb ≠ 0 → Does (.consumerIndexWriteback kind n) s fun t =>
      let a := (s.ring kind n).wb.toNat / 8 * 8
      let bytes := leBytes 4 (s.seenIdx kind n) ++ leBytes 4 s.stp.frame.toNat
      (∀ i, i < 8 → memRead t.hostMem (a + i) = some (byteAt bytes i)) ∧
      (∀ x, x < 2 ^ 64 → (x < a ∨ a + 8 ≤ x) → memRead t.hostMem x = memRead s.hostMem x) ∧
      (t.ring kind n) = { s.ring kind n with wbDue := false })

/-- O22. A clear of Bus Master Enable or D3hot stops all ring DMA: no byte of host memory changes, and every completion that
waits is held. Either ends again; with nothing that waits only the bit changes. Unmasking a vector sends the message that
its mask bit held back: its data at its address, its pending bit cleared. -/
def Obligations.DmaStopsAndUnmask : Prop :=
  ((∀ s : State, Does .busMasterDisable s fun t => t.hif.bme = false ∧ t.hif.d3hot = s.hif.d3hot ∧ t.hostMem = s.hostMem ∧
    t.ce.due = s.ce.due ∧ t.ce.comps = s.ce.comps.map (fun c => { c with held := true })) ∧
  (∀ s : State, Does .d3hotEntry s fun t => t.hif.d3hot = true ∧ t.hif.bme = s.hif.bme ∧ t.hostMem = s.hostMem ∧
    t.ce.due = s.ce.due ∧ t.ce.comps = s.ce.comps.map (fun c => { c with held := true })) ∧
  (∀ s : State, s.hif.bme = false → s.hif.pend = 0 → s.ce.comps = [] → (∀ n, (s.ring 0 n).head = none) →
    exec .busMasterEnable s = .next { s with hif := { s.hif with bme := true } }) ∧
  ∀ s : State, s.hif.d3hot = true → s.hif.pend = 0 → s.ce.comps = [] → (∀ n, (s.ring 0 n).head = none) →
    exec .d0Entry s = .next { s with hif := { s.hif with d3hot := false } }) ∧
  ((∀ (v : Fin 64) (s : State), s.dmaOn = true → s.hif.funcMask = false → s.hif.pend = 1#64 <<< v.val →
    Does (.msixUnmask (some v)) s fun t => t.hif.pend = 0 ∧ wbit (t.vec v).ctl 0 = false ∧
      tget 0 t.hif.msgs v = tget 0 s.hif.msgs v + 1 ∧
      t.hostMem = memWrite s.hostMem (s.vec v).addr.toNat (leBytes 4 (s.vec v).data.toNat)) ∧
  ∀ s : State, s.hif.pend = 0 → exec (.msixUnmask none) s = .next { s with hif := { s.hif with funcMask := false } })

/-- O23. PERST_N and FLR reset the host interface only: EN of every ring clears, indices and phases stay, Bus Master Enable,
the power state and the MSI-X table are reset; received frames that hold a buffer of OX are discarded; admitted commands stay
unless the purge option is set. Then PURGED counts the entries of the due table, its fences too, up to its field's 2^17 - 1
(assumption 81). The link enters or
leaves L0 with its width and speed. -/
def Obligations.HostResets : Prop :=
  (∀ (i : Instr) (s : State), i = .perstN ∨ i = .flr → s.rb 0x0010 0 = false → (∀ n, (s.ring 0 n).head = none) →
    Does i s fun t => t.hif.bme = false ∧ t.hif.d3hot = false ∧ t.hif.vecs = [] ∧ t.hif.pend = 0 ∧ t.hif.funcMask = false ∧
      t.hif.rstLast = (if i = .flr then 2 else 1) ∧ t.ce.due = s.ce.due ∧ t.hostMem = s.hostMem ∧ t.sec.ox = [] ∧
      ∀ k n, t.ring k n = { s.ring k n with en := false, cplTo := (t.ring k n).cplTo }) ∧
  (∀ (i : Instr) (s : State), i = .perstN ∨ i = .flr → s.rb 0x0010 0 = true → Does i s fun t =>
    t.ce.due = [] ∧ t.ce.comps = [] ∧ t.hif.purged = min s.ce.due.length (2 ^ 17 - 1) ∧
    ∀ n, n < 64 → (t.ring 0 n).dev = (t.ring 0 n).host) ∧
  ∀ (up : Bool) (w sp : Nat) (s : State), exec (.linkUp up w sp) s = .next { s with hif := { s.hif with
    linkUp := up, linkWidth := if up then w % 16 else 0, linkSpeed := if up then sp % 16 else 0 } }

/-! ### The command engine -/

/-- O24. The order of the first tests of R288: an unknown opcode, then the static tests, then the service test, whatever the
frame and the due table; a full due table waits while an entry drains and refuses REJ_FULL otherwise. The judgement of a
scheduled descriptor against now: fewer than 3 frames ahead, or not after now, is REJ_LATE; more than 2^20 frames ahead
REJ_FAR; else it is judged for the boundary it names. An ASAP descriptor waits from its executor's cutoff on and is judged
for the next boundary before it; a fence is judged at any phase. Frame numbers of a descriptor stand in the count that was in
force when it was fetched: where an epoch has moved the count since, they move with it (02 R64). -/
def Obligations.AdmissionVerdict : Prop :=
  ((∀ (s : State) (n : Nat) (d : Desc) (blk : Option (List Byte)), opMask (wfld d.w0 0 8) = none → s.verdict n d blk = .refuse 0x05 0) ∧
  (∀ (s : State) (n : Nat) (d : Desc) (blk : Option (List Byte)) (r : Nat), parse d blk = .bad 0x06 r → s.verdict n d blk = .refuse 0x06 r) ∧
  (∀ (s : State) (n : Nat) (d : Desc) (blk : Option (List Byte)) (c : Cmd), parse d blk = .ok c → s.execReady c = false →
    s.verdict n d blk = .refuse 0x0B 0) ∧
  ∀ (s : State) (n : Nat) (d : Desc) (b : Word) (c : Cmd), 65536 ≤ s.ce.due.length + s.ce.comps.length →
    s.verdictDue n d b c = if s.ce.comps.any (fun x => !x.refusal) then .wait (some 0x09) else .refuse 0x03 0) ∧
  (∀ (s : State) (n : Nat) (d : Desc) (blk : Option (List Byte)) (c : Cmd), parse d blk = .ok c → s.execReady c = true →
    let moved := (s.ring 0 n).headDelta
    let f := d.w1 + moved
    let c' := rebaseCmd moved c
    let k := (f - s.stp.frame).toNat
    (asapOnly c = false → d.w1 ≠ 0 → (k < 3 ∨ 2 ^ 31 ≤ k) → s.verdict n d blk = .refuse 0x01 0) ∧
    (asapOnly c = false → d.w1 ≠ 0 → 2 ^ 20 < k → k < 2 ^ 31 → s.verdict n d blk = .refuse 0x02 0) ∧
    (asapOnly c = false → d.w1 ≠ 0 → 3 ≤ k → k ≤ 2 ^ 20 → s.verdict n d blk = s.verdictDue n d f c') ∧
    (d.w1 = 0 → asapOnly c = false → (if (executorOf c).isSome then 1215 else 2268) ≤ s.stp.phase →
      s.verdict n d blk = .wait (some 0x06)) ∧
    (d.w1 = 0 → asapOnly c = false → s.stp.phase < (if (executorOf c).isSome then 1215 else 2268) → wbit d.w0 8 = false →
      s.verdict n d blk = s.verdictDue n d (s.stp.frame + 1) c') ∧
    (asapOnly c = true → s.verdict n d blk = s.verdictDue n d s.stp.frame c'))

/-- O25. A descriptor fetched and judged. Admitted: the consumer index passes it and a due-table entry with its ring, index,
tag and boundary joins the table. Waiting: it stays at the head, and neither index nor table moves. A refusal: the
consumer index passes the descriptor, its completion carries the status and the RESULT and is written or held, and nothing
the engine holds for a boundary changes. While the turn is another ring's, whose descriptor is not fetched, a fetched head
stays. -/
def Obligations.DescriptorOutcome : Prop :=
  ((∀ (ring : Fin 64) (d : Desc) (blk : Option (List Byte)) (s : State) (b : Word) (c : Cmd),
    (s.ring 0 ring).head = none → 0 < (s.ring 0 ring).pendingCount 0 → s.mayJudge ring = true → s.ccFree (s.ring 0 ring).bind = true →
    (s.fetchHead ring d blk).turn = some ring.val → (∀ n, n ≠ ring.val → (s.ring 0 n).head = none) →
    (s.fetchHead ring d blk).verdict ring d blk = .take b c → asapOnly c = false →
    Does (.descriptorAdmission ring d blk) s fun t =>
      (t.ring 0 ring).dev = ((s.ring 0 ring).dev + 1) % ringLen 0 (s.ring 0 ring) ∧ (t.ring 0 ring).head = none ∧
      (∃ e : Due, t.ce.due = s.ce.due ++ [e] ∧ e.ring = ring ∧ e.index = (s.ring 0 ring).dev ∧ e.cmd = c ∧ e.boundary = b ∧
        e.tag = BitVec.ofNat 16 (wfld d.w0 16 16) ∧ e.noBoundary = false ∧ e.cc = (s.ring 0 ring).bind) ∧
      t.ce.comps = s.ce.comps ∧ t.hostMem = s.hostMem) ∧
  (∀ (ring : Fin 64) (d : Desc) (blk : Option (List Byte)) (s : State) (ev : Option Nat),
    (s.ring 0 ring).head = none → 0 < (s.ring 0 ring).pendingCount 0 → s.mayJudge ring = true → s.ccFree (s.ring 0 ring).bind = true →
    (s.fetchHead ring d blk).turn = some ring.val → (∀ n, n ≠ ring.val → (s.ring 0 n).head = none) →
    (s.fetchHead ring d blk).verdict ring d blk = .wait ev → Does (.descriptorAdmission ring d blk) s fun t =>
      (t.ring 0 ring).dev = (s.ring 0 ring).dev ∧ (t.ring 0 ring).head = some (d, blk) ∧ 
        t.ce = { s.ce with cycle := t.ce.cycle, rrLeft := t.ce.rrLeft } ∧ t.hostMem = s.hostMem) ∧
  (∀ (ring : Fin 64) (d : Desc) (blk : Option (List Byte)) (s : State) (m : Nat),
    (s.ring 0 ring).head = none → 0 < (s.ring 0 ring).pendingCount 0 → s.mayJudge ring = true → s.ccFree (s.ring 0 ring).bind = true →
    m ≠ ring.val → (s.fetchHead ring d blk).turn = some m → (s.ring 0 m).head = none → Does (.descriptorAdmission ring d blk) s fun t =>
      (t.ring 0 ring).dev = (s.ring 0 ring).dev ∧ (t.ring 0 ring).head = some (d, blk) ∧ 
        t.ce = { s.ce with cycle := t.ce.cycle, rrLeft := t.ce.rrLeft } ∧ t.hostMem = s.hostMem) ∧
  ∀ (ring : Fin 64) (s : State), let lim := s.rf 0x2204 0 16;
    lim ≠ 0 → (s.ring 0 ring).head.isSome → (s.ring 0 ring).waited = lim → s.flt.queue.length < 64 → Does (.ceStall ring) s fun t =>
      t.ce = { s.ce with stall := true } ∧ t.flt.queue = insertMsg
        { source := 0x150, kind := 0x88, cls := 1, addr := BitVec.ofNat 32 (ring.val * 65536 + (s.ring 0 ring).dev), data := 0,
          at_ := s.now } s.flt.queue) ∧
  (∀ (ring : Fin 64) (d : Desc) (blk : Option (List Byte)) (s : State) (st r : Nat),
    (s.ring 0 ring).head = none → 0 < (s.ring 0 ring).pendingCount 0 → s.mayJudge ring = true → s.ccFree (s.ring 0 ring).bind = true →
    (s.fetchHead ring d blk).turn = some ring.val → (∀ n, n ≠ ring.val → (s.ring 0 n).head = none) →
    (s.fetchHead ring d blk).verdict ring d blk = .refuse st r → (s.ring 1 (s.ring 0 ring).bind).intMode = 0 →
    Does (.descriptorAdmission ring d blk) s fun t =>
      (t.ring 0 ring).dev = ((s.ring 0 ring).dev + 1) % ringLen 0 (s.ring 0 ring) ∧ (t.ring 0 ring).head = none ∧
      t.ce.due = s.ce.due ∧ t.ce.refused = s.ce.refused + 1 ∧ t.ce.lastIdx = (s.ring 0 ring).dev ∧ t.ce.lastRing = ring ∧
      t.ce.lastStat = st ∧ t.tsw = s.tsw ∧ t.cnf = s.cnf ∧
      (∃ x : Comp, x.ring = ring ∧ x.index = (s.ring 0 ring).dev ∧ x.status = st ∧ x.result = BitVec.ofNat 32 r ∧
        x.exec = s.stp.frame ∧ t.ce.comps = s.ce.comps ∧
        t.hostMem = memWrite s.hostMem ((s.ring 1 (s.ring 0 ring).bind).base.toNat / 4096 * 4096 + 16 * (s.ring 1 (s.ring 0 ring).bind).dev)
          (x.bytes (s.ring 1 (s.ring 0 ring).bind).phase)))

/-- O26. NOP and ECHO complete with RESULT 0 and VALUE; a FENCE completes at once where nothing of its ring waits, a FENCE_ALL
where nothing waits at all, and otherwise stops its ring until then. A command of Table CM-2 that a test stops has no
effect but its completion with the status and RESULT of the test: the static tests give BAD_OPERAND, an executor out of
service EXEC_FAULT. In the fatal state the engine carries out nothing. -/
def Obligations.ImmediateCommands : Prop :=
  ((∀ (h : Hdr) (s : State), s.flt.fatal = false → h.nocomp = false → Does (.nop h) s fun t => ∃ c : Comp,
    t = { s with ce := { s.ce with comps := s.ce.comps ++ [c] } } ∧ c.status = 0 ∧ c.result = 0 ∧ c.ring = h.ring ∧ c.tag = h.tag ∧
    c.index = h.index % 65536 ∧ c.exec = s.stp.frame) ∧
  (∀ (h : Hdr) (v : Word) (s : State), s.flt.fatal = false → h.nocomp = false → Does (.echo h v) s fun t => ∃ c : Comp,
    t = { s with ce := { s.ce with comps := s.ce.comps ++ [c] } } ∧ c.status = 0 ∧ c.result = v ∧ c.ring = h.ring ∧ c.tag = h.tag) ∧
  (∀ (h : Hdr) (s : State), s.flt.fatal = false → h.nocomp = true → exec (.nop h) s = .next s) ∧
  (∀ (i : Instr) (h : Hdr) (s : State), i = .fence h ∨ i = .fenceAll h → s.flt.fatal = false → s.flt.flip = none → h.nocomp = false →
    s.ce.due = [] → Does i s fun t => t.ce.due = [] ∧ (t.ring 0 h.ring).fence = none ∧ t.ce.seq = s.ce.seq + 1 ∧
      ∃ c : Comp, t.ce.comps = s.ce.comps ++ [c] ∧ c.status = 0 ∧ c.ring = h.ring) ∧
  ∀ (h : Hdr) (s : State) (e : Due), s.flt.fatal = false → s.ce.due = [e] → e.noBoundary = false → e.seq < s.ce.seq →
    Does (.fenceAll h) s (fun t => (t.ring 0 h.ring).fence = some (s.ce.seq, true) ∧ t.ce.comps = s.ce.comps ∧ t.ce.due.length = 2) ∧
    (e.ring = h.ring → Does (.fence h) s (fun t => (t.ring 0 h.ring).fence = some (s.ce.seq, false) ∧ t.ce.comps = s.ce.comps)) ∧
    (e.ring ≠ h.ring → Does (.fence h) s (fun t => t.ce.due = [e] ∧ (t.ring 0 h.ring).fence = none))) ∧
  ((∀ (h : Hdr) (c : Cmd) (s : State) (e : Eff), s.flt.fatal = false → s.stops c = some e → ∃ x : Comp,
    s.runNow h c = { s with ce := { s.ce with comps := s.ce.comps ++ [x] } } ∧ x.status = e.status ∧ x.result = BitVec.ofNat 32 e.result) ∧
  (∀ (c : Cmd) (s : State) (r : Nat), staticTest c = some r → s.stops c = some { status := 0x06, result := r }) ∧
  (∀ (c : Cmd) (s : State), staticTest c = none → s.execReady c = false → s.stops c = some { status := 0x0D }) ∧
  ∀ (h : Hdr) (c : Cmd) (s : State), s.flt.fatal = true → s.runNow h c = s ∧ s.fenceNow h c = s)

/-- O27. Every step keeps the due table in order: no entry with a boundary lies at or behind the frame, so no admitted command is
late, and none acts early: after a frame boundary no command due at the frame that begins waits, and one due at another frame
stays as it was, or moves with the count that an epoch moves (02 R63). No other command takes an entry with a boundary out or
changes it, but for the resets of the whole device, the purge of a host reset, the fatal state, and the scrubber's mark of an
uncorrectable word. -/
def Obligations.NeverLate : Prop :=
  (∀ s t : State, s.DueOk → step s = .next t → t.DueOk) ∧
  (∀ (i : FrameInputs) (s : State), Does (.frameBoundary i) s fun t =>
    ∀ d ∈ t.ce.due, d.noBoundary = false → d.boundary ≠ t.stp.frame) ∧
  (∀ (i : FrameInputs) (s : State), s.stp.epoch = none → (s.ce.due.map (fun d => d.seq)).Nodup →
    Does (.frameBoundary i) s fun t => ∀ d ∈ s.ce.due, d.noBoundary = false → d.boundary ≠ s.stp.frame + 1 →
      ∃ e ∈ t.ce.due, e.seq = d.seq ∧ e.cmd = d.cmd ∧ e.boundary = d.boundary ∧ e.ring = d.ring ∧ e.index = d.index ∧ e.tag = d.tag) ∧
  (∀ (i : FrameInputs) (f : Word) (s : State), s.stp.epoch = some f → (s.ce.due.map (fun d => d.seq)).Nodup →
    Does (.frameBoundary i) s fun t => ∀ d ∈ s.ce.due, d.noBoundary = false → d.boundary ≠ s.stp.frame + 1 →
      ∃ e ∈ t.ce.due, e.seq = d.seq ∧ e.cmd = rebaseCmd (f - (s.stp.frame + 1)) d.cmd ∧
        e.boundary = d.boundary + (f - (s.stp.frame + 1)) ∧ e.ring = d.ring ∧ e.index = d.index ∧ e.tag = d.tag) ∧
  ∀ (i : Instr) (s t : State), s.DueOk →
    (∀ st, i ≠ .powerOn st ∧ i ≠ .resetN st ∧ i ≠ .warmChipRst st) → i ≠ .powerLoss → (∀ x, i ≠ .frameBoundary x) →
    (i = .perstN ∨ i = .flr → s.rb 0x0010 0 = false) → (i = .collectorTake → t.flt.fatal = s.flt.fatal) →
    exec i s = .next t → ∀ d ∈ s.ce.due, d.noBoundary = false →
      ∃ e ∈ t.ce.due, e = { d with ue := e.ue } ∧ ((∀ m x, i ≠ .scrubWord m x) → e = d)

/-! ### HO and LO paths -/

/-- O28. A pointer interpreter (R97-R99, Table PA-1): outside NORM three equal normal pointers in a row bring it to NORM with
their offset, and in NORM three that are no increment and no decrement move it; three AIS indications put it in AIS;
LOP_N invalid pointers put it in LOP, and so do LOP_N with NDF in NORM; in NORM an NDF-enabled pointer moves the offset at
once, outside NORM it changes no state; an increment or a decrement moves the offset by one once three frames have passed.
A received line frame: each path of the port takes one step, AIS-P stands exactly in AIS and LOP-P in LOP or under a lost
concatenation, and either holds the other defects cleared and the monitor restarted (R100, R115). The units of a path without
them reach its flow. UNEQ-P and PLM-P by an accepted C2, RDI-P by G1, the B3 and REI counts (R110-R112). The source of a
destination slot by its entry (R102, R105, R108), and what a path then sends (R106-R109): AU-AIS, an unequipped VC,
or the units of its flow in their order, 783 a line frame, 784 with H3 in a negative and 782 in a positive justification, with NDF at
a change of source and where the store is re-centred. AIS-V and LOP-V follow the interpreter, the label and the HO cause, and
hold the other LO defects cleared (R122). A transmit line frame carries what its paths send. -/
def Obligations.PointersAndPaths : Prop :=
  (∀ (lopN m : Nat) (p : Pi), 8 ≤ lopN → lopN ≤ 10 → m ≤ 782 →
    let next := fun (c : Ptr) (q : Pi) => (piStep lopN m c q).1
    (∀ o, o ≤ m → p.st ≠ 0 → ((next (.normal o))^[3] p).st = 0 ∧ ((next (.normal o))^[3] p).ofs = o) ∧
    (∀ o, o ≤ m → p.st = 0 → 2 < popcount 10 (o ^^^ (p.ofs ^^^ 0x2AA)) → 2 < popcount 10 (o ^^^ (p.ofs ^^^ 0x155)) →
      ((next (.normal o))^[3] p).st = 0 ∧ ((next (.normal o))^[3] p).ofs = o) ∧
    ((next .ais)^[3] p).st = 1 ∧ ((next .invalid)^[lopN] p).st = 2 ∧
    (∀ o, o ≤ m → p.st = 0 → ((next (.ndf o))^[lopN] p).st = 2) ∧
    (∀ o, o ≤ m → p.st = 0 → p.ndf + 1 < lopN → (next (.ndf o) p).st = 0 ∧ (next (.ndf o) p).ofs = o) ∧
    (∀ o, o ≤ m → p.st ≠ 0 → (next (.ndf o) p).st = p.st) ∧
    (∀ o, p.st = 0 → o ≠ p.ofs → popcount 10 (o ^^^ (p.ofs ^^^ 0x2AA)) ≤ 2 → (next (.normal o) p).st = 0 ∧
      (next (.normal o) p).ofs = if 2 ≤ p.since then (p.ofs + 1) % (m + 1) else p.ofs) ∧
    ∀ o, p.st = 0 → o ≠ p.ofs → 2 < popcount 10 (o ^^^ (p.ofs ^^^ 0x2AA)) → popcount 10 (o ^^^ (p.ofs ^^^ 0x155)) ≤ 2 →
      (next (.normal o) p).st = 0 ∧ (next (.normal o) p).ofs = if 2 ≤ p.since then (p.ofs + m) % (m + 1) else p.ofs) ∧
  ((∀ (n : Fin 32) (b : List Byte) (s : State), (s.port n).en = true → (s.port n).def_ 1 = false → Does (.rxLineFrame n b) s fun t =>
    ∀ x ∈ s.pathsOf n, let p := t.path (192 * n + x.1)
      (∃ h1 h2, p.pi = (piStep s.lopN 782 (classify (s.ssAsked n) h1 h2) (s.path (192 * n + x.1)).pi).1) ∧
      p.def_ 0 = decide (p.pi.st = 1) ∧ p.def_ 1 = (decide (p.pi.st = 2) || p.concLop) ∧
      (p.def_ 0 = true ∨ p.def_ 1 = true → p.def_ 2 = false ∧ p.def_ 3 = false ∧ p.def_ 5 = false ∧ p.def_ 6 = false ∧ p.def_ 7 = false ∧
        p.c2Run = {} ∧ p.rdiRun = {} ∧ p.bip = none ∧ p.exc = {} ∧ p.deg = {})) ∧
  (∀ (n t w : Nat) (d : List Byte) (s : State), let k := 192 * n + t
    let r := s.rxPointer n d t w
    (r.2.path k).def_ 0 = false → (r.2.path k).def_ 1 = false → (s.rxPath n d t w).flow k = (s.flow k).push r.1) ∧
  ∀ (k w a : Nat) (r : RxPath) (s : State), r.c2.toNat = a →
    let p := s.path k
    let q := (s.pathOverhead k w r).path k
    let e := p.expected k
    (p.c2Run.v = a → 4 ≤ p.c2Run.n → q.def_ 2 = decide (a = 0) ∧
      (q.def_ 3 = true ↔ a ≠ e ∧ a ≠ 0 ∧ e ≠ 1 ∧ ¬ (a = 1 ∧ e ≠ 0))) ∧
    (∀ f : Bool, r.g1.getLsbD 3 = f → p.rdiRun.v = b2n f → 4 ≤ p.rdiRun.n → q.def_ 5 = f) ∧
    (∀ b, p.bip = some b → q.b3 = p.b3 + BitVec.ofNat 32 (popcount 8 (b ^^^ r.b3).toNat)) ∧ q.bip = some r.bip ∧
    q.rei = p.rei + BitVec.ofNat 32 (if r.g1.toNat / 16 ≤ 8 then r.g1.toNat / 16 else 0)) ∧
  ((∀ (s : State) (d : Nat), let e := s.xc d
    let f := connFirst e d
    (wbit e 15 = false → s.xcSource d = 8176) ∧
    (wbit e 15 = true → tget 0 s.hop.mism f ≠ 0 ∨ wfld e 16 2 = 1 → s.xcSource d = 8177) ∧
    (wbit e 15 = true → tget 0 s.hop.mism f = 0 → (wfld e 16 2 = 2 → s.xcSource d = 8176) ∧
      (wfld e 16 2 = 0 → wbit e 14 = false → s.xcSource d = wfld e 0 13) ∧
      (wfld e 16 2 = 0 → wbit e 14 = true → s.xcSource d =
        (if (s.group 1 (wfld e 0 10)).selP then (s.group 1 (wfld e 0 10)).op.p else (s.group 1 (wfld e 0 10)).op.w) + (d - f)))) ∧
  (∀ (n t w : Nat) (s : State), let src := s.xcSource (s.txSlot n t)
    let k := 192 * n + t
    let r := s.genPath n t w
    ((src < 6144 → (s.path (s.lineMon src)).aisDown = true) → src < 6144 ∨ src = 8177 →
      r.1 = { units := List.replicate 783 (List.replicate w 0xFF), h3 := List.replicate w 0xFF } ∧
      (r.2.store k).h1 = 0xFF ∧ (r.2.store k).h2 = 0xFF) ∧
    (src = 8176 → (s.store k).hold = false → r.1 = { units := List.replicate 783 (List.replicate w 0), h3 := List.replicate w 0 } ∧
      classify none (r.2.store k).h1 (r.2.store k).h2 ≠ .ais) ∧
    (src < 6144 → (s.store k).hold = false → (s.path (s.lineMon src)).aisDown = false →
      r = s.genFlow n t w (s.lineMon src) (s.flow (s.lineMon src)))) ∧
  (∀ (n t w k : Nat) (f : Flow) (s : State), let st := s.store (192 * n + t)
    let reach := f.ends + s.flowAge k - 783
    let us := (f.since st.pos).map (fun u => bytesAt u.2 0 w)
    let q := s.genFlow n t w k f
    let x := q.2.store (192 * n + t)
    let v := (783 - ((f.since st.pos).getD 261 (0, [])).1) % 783
    f.base ≤ st.pos → st.src = k → st.ais = false → st.uneq = false → st.pos + 784 ≤ reach → reach ≤ st.pos + 784 + 48 →
    (q.2.path (192 * n + t)).slip = (s.path (192 * n + t)).slip ∧ x.fill = reach - (st.pos + 784) ∧
    (16 ≤ x.fill → x.fill ≤ 32 → q.1.units = us.take 783 ∧ x.pos = st.pos + 783 ∧ x.ptr = v ∧ x.ndf = decide (v ≠ st.ptr)) ∧
    (32 < x.fill → 3 ≤ st.since → v = st.ptr → q.1.units = us.take 261 ++ (us.take 784).drop 262 ∧ q.1.h3 = us.getD 261 [] ∧
      x.pos = st.pos + 784 ∧ x.ndf = false ∧ x.since = 0 ∧ (x.h1, x.h2) = ptrBytes false (s.sonet n) (v ^^^ 0x155)) ∧
    (x.fill < 16 → 3 ≤ st.since → v = st.ptr → q.1.units = us.take 261 ++ List.replicate w 0 :: (us.take 782).drop 261 ∧
      x.pos = st.pos + 782 ∧ x.ndf = false ∧ x.since = 0 ∧ (x.h1, x.h2) = ptrBytes false (s.sonet n) (v ^^^ 0x2AA))) ∧
  (∀ (n t w k : Nat) (f : Flow) (s : State), let st := s.store (192 * n + t)
    let reach := f.ends + s.flowAge k - 783
    let q := s.genFlow n t w k f
    let x := q.2.store (192 * n + t)
    (st.src ≠ k ∨ st.ais = true ∨ st.uneq = true → x.ndf = true ∧ (q.2.path (192 * n + t)).slip = (s.path (192 * n + t)).slip) ∧
    (st.src = k → st.ais = false → st.uneq = false → reach < st.pos + 784 ∨ st.pos + 784 + 48 < reach →
      x.ndf = true ∧ (q.2.path (192 * n + t)).slip = (s.path (192 * n + t)).slip + 1)) ∧
  ∀ (n : Fin 32) (s : State), s.txStarts n = true → s.txIdle n = false → Does (.txLineFrame n (s.txOffset n)) s fun t =>
    ∃ x : TxParts, x.nn = s.portN n ∧ x.pay = (State.genPaths n (s.pathsOf n) s).1 ∧ x.h = (State.genPaths n (s.pathsOf n) s).2.txH n ∧
      let plain := if s.rb (lpt n 0x44) 0 then msAis (s.portN n) x.frame else x.frame
      (t.port n).txFrame = if s.lptB n 0 5 then plain else scrambleFrame (9 * s.portN n) plain) ∧
  ∀ (t : Nat) (ho : Bool) (s : State), let p := s.lo t
    let q := (s.loServerUpdate t ho).lo t
    q.def_ 0 = (decide (s.tuState t = 1) || decide (p.label = some 7) || ho) ∧ q.def_ 1 = decide (s.tuState t = 2) ∧
    (q.def_ 0 = true ∨ q.def_ 1 = true → q.def_ 2 = false ∧ q.def_ 3 = false ∧ q.def_ 5 = false ∧ q.def_ 6 = false ∧ q.def_ 7 = false ∧
      q.rdiRun = {} ∧ q.bip = none ∧ q.exc = {} ∧ q.deg = {})

/-! ### The truss and the paged tables -/

/-- O29. TSW_SET: COUNT entries, 1 to 32, into the standby page from slot OUT. Entry i receives the command's entry value;
with STEP its SRC is SRC + i. It counts COUNT changes and is executed in hardware. The slots become dirty; the other
slots, the active page and the active page's number stay. -/
def Obligations.TrussRun : Prop :=
  ∀ (h : Hdr) (o : TswRun) (s : State), Carries (.tswSet o) s →
    1 ≤ o.count ∧ o.count ≤ 32 ∧ changesOf (.tswSet o) = o.count ∧ executorOf (.tswSet o) = none ∧
    Does (.tswSet h o) s fun t => DoneWith h 0 s t ∧
      (∀ j, j < o.count → let e := tget 0 (t.tswPage (!s.tsw.active)) (o.out + j)
        (o.step = false → e = o.entry) ∧
        (o.step = true → wfld e 0 20 = wfld o.entry 0 20 + j ∧ e >>> 20 = o.entry >>> 20) ∧
        t.tswDirty (o.out + j) = true ∧ t.tswPoison (!s.tsw.active) (o.out + j) = false) ∧
      (∀ k, k < o.out ∨ o.out + o.count ≤ k →
        tget 0 (t.tswPage (!s.tsw.active)) k = tget 0 (s.tswPage (!s.tsw.active)) k ∧ t.tswDirty k = s.tswDirty k) ∧
      t.tswPage s.tsw.active = s.tswPage s.tsw.active ∧ t.tsw.active = s.tsw.active ∧
      t.tsw.chgApplied = s.tsw.chgApplied + o.count

/-- O30. TSW_FILL and TSW_PATCH. A fill writes COUNT entries, 32 to 65,536 in multiples of 32, from an OUT that is a multiple
of 32, and counts COUNT / 32 changes. A patch writes the entry into the active page, and into the standby page unless the
slot is dirty; dirty bits stay; it counts one change and one hot patch. TSW_READ: the entries of a page, 4 bytes each, or
signalling values, 1 byte each, written at the host address from slot FIRST, with the length as RESULT. While DMA is
stopped nothing is written and RESULT is 0. No entry changes. The read pass (R166-R172): a slot that is not enabled, poisoned, wiped
or whose word is uncorrectable sends idle; a held one repeats what it sent; any other takes the byte and the signalling of its
source in the input frame of the ended frame, converted or attenuated in its output law (R167, R168). What the pass forms stands in
the output stage one frame later and at the ports two later; the conference inputs are delivered at once. -/
def Obligations.TrussFillPatchRead : Prop :=
  ((∀ (h : Hdr) (o : TswRun) (s : State), Carries (.tswFill o) s →
    32 ≤ o.count ∧ o.count ≤ 65536 ∧ o.count % 32 = 0 ∧ o.out % 32 = 0 ∧ changesOf (.tswFill o) = o.count / 32 ∧
    Does (.tswFill h o) s fun t => DoneWith h 0 s t ∧
      (∀ j, j < o.count → let e := tget 0 (t.tswPage (!s.tsw.active)) (o.out + j)
        (o.step = false → e = o.entry) ∧
        (o.step = true → wfld e 0 20 = wfld o.entry 0 20 + j ∧ e >>> 20 = o.entry >>> 20) ∧
        t.tswDirty (o.out + j) = true) ∧
      (∀ k, k < o.out ∨ o.out + o.count ≤ k →
        tget 0 (t.tswPage (!s.tsw.active)) k = tget 0 (s.tswPage (!s.tsw.active)) k ∧ t.tswDirty k = s.tswDirty k) ∧
      t.tswPage s.tsw.active = s.tswPage s.tsw.active ∧ t.tsw.active = s.tsw.active) ∧
  ∀ (h : Hdr) (o : TswRun) (s : State), Carries (.tswPatch o) s →
    o.count = 1 ∧ o.step = false ∧ changesOf (.tswPatch o) = 1 ∧ patchesOf (.tswPatch o) = 1 ∧
    Does (.tswPatch h o) s fun t => DoneWith h 0 s t ∧
      tget 0 (t.tswPage s.tsw.active) o.out = o.entry ∧
      (s.tswDirty o.out = false → tget 0 (t.tswPage (!s.tsw.active)) o.out = o.entry) ∧
      (s.tswDirty o.out = true → t.tswPage (!s.tsw.active) = s.tswPage (!s.tsw.active)) ∧
      (∀ b k, k ≠ o.out → tget 0 (t.tswPage b) k = tget 0 (s.tswPage b) k) ∧
      t.tsw.dirty = s.tsw.dirty ∧ t.tsw.active = s.tsw.active) ∧
  ((∀ (h : Hdr) (o : TswReadOp) (s : State), Carries (.tswRead o) s → o.kind ≤ 1 → s.dmaOn = true → Does (.tswRead h o) s fun t =>
    DoneWith h (4 * o.count) s t ∧
    t.hostMem = memWrite s.hostMem o.addr.toNat
      ((List.range o.count).flatMap (fun i => leBytes 4 (s.tswEntry (o.kind = 1) (o.first + i)).toNat)) ∧
    ∀ b, t.tswPage b = s.tswPage b) ∧
  (∀ (h : Hdr) (o : TswReadOp) (s : State), Carries (.tswRead o) s → o.kind = 2 → s.dmaOn = true → Does (.tswRead h o) s fun t =>
    DoneWith h o.count s t ∧
    t.hostMem = memWrite s.hostMem o.addr.toNat ((List.range o.count).map (fun i => BitVec.ofNat 8 (s.slotSig (o.first + i)))) ∧
    t.tsw = s.tsw) ∧
  ∀ (h : Hdr) (o : TswReadOp) (s : State), Carries (.tswRead o) s → s.dmaOn = false → Does (.tswRead h o) s fun t =>
    DoneWith h 0 s t ∧ t.hostMem = s.hostMem) ∧
  ((∀ (i : FrameInputs) (s : State), i.late = [] → Does (.frameBoundary i) s fun t => ∃ u : State,
    t.tsw.passOut = u.readPass.tsw.passOut ∧ t.tsw.stage = u.readPass.tsw.stage ∧ t.tsw.out = u.readPass.tsw.out ∧
    t.tsw.confIn = u.readPass.tsw.confIn ∧ u.tsw.inPrev = s.tsw.inCur ∧ u.tsw.passOut = s.tsw.passOut ∧
    u.tsw.stage = s.tsw.stage ∧ u.tsw.out = s.tsw.out ∧ u.stp.frame = t.stp.frame ∧ u.tsw.active = t.tsw.active ∧
    ∀ b, u.tswPage b = t.tswPage b) ∧
  (∀ s : State, ((s.tswPage s.tsw.active).map (fun e => e.1)).Nodup → s.upsets = [] → ∀ k, k < 0x80000 ∨ 0x90000 ≤ k →
    let e := tget 0 (s.tswPage s.tsw.active) k
    let idle := wbit e 20 = false ∨ 0 < tget 0 s.tsw.wipe (k % 8) ∨ s.tswPoison s.tsw.active k = true
    (idle → tfind s.readPass.tsw.passOut k = none) ∧
    (¬ idle → wbit e 23 = true → tfind s.readPass.tsw.passOut k = some { idle := false, hold := true }) ∧
    (¬ idle → wbit e 23 = false → tfind s.readPass.tsw.passOut k =
      some { idle := false, v := tget {} s.tsw.inPrev (wfld e 0 20), law := wfld e 21 2, pad := wfld e 24 4 })) ∧
  (∀ (s : State) (r : Fin 8) (w k : Nat), ((s.tswPage s.tsw.active).map (fun e => e.1)).Nodup →
    s.upsets = [{ mem := .dm r s.readHalf w, double := true }] → k % 8 = r → wfld (tget 0 (s.tswPage s.tsw.active) k) 0 20 / 8 = w →
    wbit (tget 0 (s.tswPage s.tsw.active) k) 23 = false → tfind s.readPass.tsw.passOut k = none) ∧
  (∀ (s : State) (k : Nat), (s.tsw.stage.map (fun e => e.1)).Nodup → s.readPass.tsw.stage = s.tsw.passOut ∧
    tfind s.readPass.tsw.out k = (tfind s.tsw.stage k).bind (fun p => p.resolve (s.outMu k) (tfind s.tsw.out k))) ∧
  ∀ (mu : Bool) (prev : Option SByte) (v : SByte) (law pad : Nat),
    PassByte.resolve mu prev { idle := false, hold := true } = prev ∧
    PassByte.resolve mu prev { idle := false, v := v, law := 0 } = some v ∧
    PassByte.resolve mu prev { idle := false, v := v, law := 1 } = some { v with b := convAU v.b } ∧
    PassByte.resolve mu prev { idle := false, v := v, law := 2 } = some { v with b := convUA v.b } ∧
    (0 < pad → PassByte.resolve mu prev { idle := false, v := v, law := law, pad := pad } =
      some { v with b := attenuate (if law = 1 then false else if law = 2 then true else mu) mu pad v.b }))

/-- O31. FABRIC_COMMIT: the truss, the roster and the cross-connect map swap their pages as one action, TSW.LAST_COMMIT takes
the frame, the dirty bitmaps are cleared and copy-back starts; no entry changes. The completion's RESULT is the page now
active; a connection now active stands mismatched exactly where it fails the test of R105. Closer than 4 frames to another
commit it is refused. Copy-back: when it ends, every slot of the standby page that
is not dirty holds the entry of the active page, and a dirty one its own; the active page stays. With no copy-back running
the event changes nothing, as for every row whose condition does not hold (assumption 15). -/
def Obligations.CommitAndCopyback : Prop :=
  ((∀ (h : Hdr) (s : State), Carries .fabricCommit s → Does (.fabricCommit h) s fun t =>
    DoneWith h (b2n (!s.tsw.active)) s t ∧
    t.tsw = { s.tsw with active := !s.tsw.active, committed := true, lastCommit := s.stp.frame, dirty := [], copyLeft := 3 } ∧
    t.cnf = { s.cnf with active := !s.cnf.active, dirtyP := [], dirtyC := [], copyLeft := 3, lane := t.cnf.lane, spk := t.cnf.spk } ∧
    t.hop = { s.hop with active := !s.hop.active, dirty := [], copy := true, mism := t.hop.mism } ∧
    (∀ d, tget 0 t.hop.mism d ≠ 0 ↔ ∃ e, (d, e) ∈ t.conns ∧ t.connMatch e d = false)) ∧
  ∀ (s : State) (f : Word), s.commitClash s.stp.frame = some f →
    s.stops .fabricCommit = some { status := 0x08, result := f.toNat }) ∧
  ((∀ s : State, s.tsw.copyLeft ≠ 0 → Does (.copybackDone .truss) s fun t =>
    (∀ k, tget 0 (t.tswPage (!s.tsw.active)) k = tget 0 (s.tswPage (if s.tswDirty k then !s.tsw.active else s.tsw.active)) k) ∧
    t.tswPage s.tsw.active = s.tswPage s.tsw.active ∧ t.tsw.copyLeft = 0 ∧ t.tsw.active = s.tsw.active) ∧
  (∀ s : State, s.cnf.copyLeft ≠ 0 → Does (.copybackDone .roster) s fun t =>
    (∀ k, tget {} (t.cnfParts (!s.cnf.active)) k =
      tget {} (s.cnfParts (if tget false s.cnf.dirtyP k then !s.cnf.active else s.cnf.active)) k) ∧
    (∀ k, tget {} (t.cnfConfs (!s.cnf.active)) k =
      tget {} (s.cnfConfs (if tget false s.cnf.dirtyC k then !s.cnf.active else s.cnf.active)) k) ∧
    t.cnfParts s.cnf.active = s.cnfParts s.cnf.active ∧ t.cnfConfs s.cnf.active = s.cnfConfs s.cnf.active ∧ t.cnf.copyLeft = 0) ∧
  (∀ s : State, s.hop.copy = true → Does (.copybackDone .xc) s fun t =>
    (∀ k, t.xcPage (!s.hop.active) k = s.xcPage (if tget false s.hop.dirty k then !s.hop.active else s.hop.active) k) ∧
    t.xcTab s.hop.active = s.xcTab s.hop.active ∧ t.hop.copy = false) ∧
  ∀ s : State, (s.tsw.copyLeft = 0 → exec (.copybackDone .truss) s = .next s) ∧
    (s.cnf.copyLeft = 0 → exec (.copybackDone .roster) s = .next s) ∧ (s.hop.copy = false → exec (.copybackDone .xc) s = .next s))

/-! ### Paths, mappers, overhead, traces -/

/-- O32. XC_SET writes one connection of WIDTH slots into the standby page: entry i has SRC + i, or the group number with SEL.
LOMAP_SET stores the structure of a mapper VC-4; a new structure makes its H4 multiframes be hunted again. A write of
HOP.STRUCT is stored, for both ports of a line pair, and the structure in force waits for the boundary. -/
def Obligations.MapCommands : Prop :=
  (∀ (h : Hdr) (o : XcOp) (s : State), Carries (.xcSet o) s → changesOf (.xcSet o) = o.width ∧ Does (.xcSet h o) s fun t =>
    DoneWith h 0 s t ∧
    (∀ i, i < o.width → let e := t.xcPage (!s.hop.active) (o.dest + i)
      wbit e 21 = decide (i = 0) ∧ xcWidth (wfld e 18 3) = o.width ∧ wfld e 16 2 = o.force ∧ wbit e 15 = o.en ∧ wbit e 14 = o.sel ∧
      wfld e 0 13 = (if o.sel then o.src else o.src + i)) ∧
    (∀ k, k < o.dest ∨ o.dest + o.width ≤ k → t.xcPage (!s.hop.active) k = s.xcPage (!s.hop.active) k) ∧
    t.xcTab s.hop.active = s.xcTab s.hop.active ∧ t.hop.active = s.hop.active) ∧
  (∀ (h : Hdr) (m st tu11 : Nat) (s : State), Carries (.lomapSet m st tu11) s → Does (.lomapSet h m st tu11) s fun t =>
    DoneWith h 0 s t ∧ t.vc4 m = { struct := st, tu11 := tu11 } ∧ (∀ k, k ≠ m → t.vc4 k = s.vc4 k) ∧
    ((s.vc4 m).struct = st → t.h4s = s.h4s) ∧
    ((s.vc4 m).struct ≠ st → ∀ k, k / 3 = m → (t.h4 k).inMf = false ∧ (t.h4 k).lom = (s.h4 k).lom)) ∧
  ∀ (n : Fin 32) (w : Fin 4) (v : Word) (s : State), Does (.hopStructWrite n w v) s fun t =>
    t.hop = s.hop ∧ (s.pairOf n = none → t.reg (0x20100 + 0x10 * n + 4 * w) = v) ∧
    ∀ i, s.pairOf n = some i → t.reg (0x20100 + 0x10 * (s.group 0 i).op.w + 4 * w) = v ∧
      t.reg (0x20100 + 0x10 * (s.group 0 i).op.p + 4 * w) = v

/-- O33. OH_SET stores the value where its CODE names it: a section byte of a port, a source byte, expected label or flags of
an HO path, flags or transmit bytes of an LO path. -/
def Obligations.OverheadSet : Prop :=
  ∀ (h : Hdr) (code : Nat) (g : Word) (v : Nat) (s : State), Carries (.ohSet code g v) s → Does (.ohSet h code g v) s fun t =>
    let b : Byte := BitVec.ofNat 8 v
    let k := 192 * wfld g 0 5 + wfld g 8 8
    DoneWith h 0 s t ∧
    (code ≤ 9 → tget none (t.port g.toNat).ohSet code = some b ∧ ∀ m, m ≠ g.toNat → t.port m = s.port m) ∧
    (code = 0x10 → (t.hoSrc g.toNat).c2 = some b) ∧ (code = 0x11 → (t.path k).expC2 = some b) ∧
    (code = 0x12 → wbit g 31 = true → (t.path (g.toNat - 2 ^ 31)).flags = v) ∧
    (code = 0x12 → wbit g 31 = false → (t.path k).flags = v) ∧
    (code = 0x13 → (t.hoSrc g.toNat).f2 = b) ∧
    (code = 0x14 → (t.hoSrc g.toNat).f3 = b ∧ (t.hoSrc g.toNat).k3 = BitVec.ofNat 8 (v / 256)) ∧
    (code = 0x15 → (t.hoSrc g.toNat).n1 = b) ∧ (code = 0x20 → (t.lo g.toNat).flags = v) ∧
    (code = 0x21 → (t.lo g.toNat).k4Tx = b) ∧ (code = 0x22 → (t.lo g.toNat).n2Tx = b)

/-- O34. TRACE_SET stores the fields that FIELDS selects; a change of FMT or N clears the accepted string; TIM is decided at
once with the new settings. No other entry changes. TRACE_READ writes the 208 bytes of the entry's record to host memory
and clears CRC_ERR and UNFRAMED. A run of N equal strings is accepted by its OP: the accepted string is the run's, TIM is
decided, TRACE_NEW is raised, with its EV entry masked where the mask says so. An entry with no such run: nothing
(assumption 15). -/
def Obligations.Traces : Prop :=
  (∀ (h : Hdr) (o : TraceOp) (s : State), Carries (.traceSet o) s → Does (.traceSet h o) s fun t =>
    let a := s.trace o.kind o.index
    let n := t.trace o.kind o.index
    let f (i : Nat) := o.fields.testBit i
    DoneWith h 0 s t ∧
    n.tx = (if f 0 then o.txStr else a.tx) ∧ n.exp = (if f 1 then o.exStr else a.exp) ∧ n.fmt = (if f 2 then o.fmt else a.fmt) ∧
    n.n = (if f 3 then o.n else a.n) ∧ n.cmp = (if f 4 then o.cmpEn else a.cmp) ∧
    (f 5 = true → o.kind = 1 → n.rx = (if o.rxBind then some (o.rxPort, o.rxS) else none) ∧
      n.txPt = if o.txBind then some o.txSlot else none) ∧
    ((f 2 = true ∧ a.fmt ≠ o.fmt) ∨ (f 3 = true ∧ a.n ≠ o.n) → n.acc = none ∧ n.run = [] ∧ n.runLen = 0 ∧ n.tim = false) ∧
    n.tim = (n.timNow && !(t.layerLost o.kind o.index)) ∧
    ∀ k i, traceKey k i ≠ traceKey o.kind o.index → t.trace k i = s.trace k i) ∧
  ((∀ (h : Hdr) (a : DWord) (k i : Nat) (s : State), Carries (.traceRead a k i) s → s.dmaOn = true → Does (.traceRead h a k i) s fun t =>
    DoneWith h 208 s t ∧ (s.traceRec k i).length = 208 ∧ t.hostMem = memWrite s.hostMem a.toNat (s.traceRec k i) ∧
    t.trace k i = { s.trace k i with crcErr := false, unframed := false }) ∧
  (∀ (h : Hdr) (a : DWord) (k i : Nat) (s : State), Carries (.traceRead a k i) s → s.dmaOn = false → Does (.traceRead h a k i) s fun t =>
    DoneWith h 0 s t ∧ t.hostMem = s.hostMem ∧ t.scribe = s.scribe) ∧
  (∀ (k : Fin 3) (i : Nat) (s : State) (str : List Byte), (s.trace k i).ready = some str → s.inSvc (traceOp k i) = true →
    s.layerLost k i = false → Does (.traceNew k i) s fun t =>
      (t.trace k i).acc = some str ∧ (t.trace k i).ready = none ∧ (t.trace k i).tim = (t.trace k i).timNow ∧
      (s.flt.queue.length < 63 → ∃ m ∈ t.flt.queue, m.kind = Kind.traceNew.code ∧ m.cls = Kind.traceNew.cls ∧
        m.addr = BitVec.ofNat 32 i ∧ m.data = BitVec.ofNat 64 (k * 256) ∧ m.masked = s.rb 0x20008 25 ∧ m.at_ = s.now)) ∧
  ∀ (k : Fin 3) (i : Nat) (s : State), (s.trace k i).ready = none → exec (.traceNew k i) s = .next s)

/-! ### Line ports -/

/-- O35. Writes of LPT.CFG and of the offset registers are stored; the settings in force wait for the boundary. RATE and MODE
keep their values while the port's EN in force is 1 or a pair holds it. An OFFSET above 2429 is ignored. LOF after 3 ms
out of frame, cleared after 3 ms in frame; LOS while the signal is absent or the receiver has no lock, under which the
framer hunts and OOF stands; a SERDES PLL that loses lock is reported, and a transmitter without lock is squelched. -/
def Obligations.PortSettingsAndDefects : Prop :=
  ((∀ (n : Fin 32) (v : Word) (s : State), Does (.portCfgWrite n v) s fun t =>
    t.ports = s.ports ∧ (∀ w, w ≠ lpt n 0 → t.reg w = s.reg w) ∧
    ((s.port n).en = false → s.pairOf n = none →
      t.reg (lpt n 0) = (s.reg (lpt n 0) &&& ~~~ regMask (lpt n 0)) ||| (v &&& regMask (lpt n 0))) ∧
    ((s.port n).en = true ∨ (s.pairOf n).isSome = true →
      wfld (t.reg (lpt n 0)) 0 3 = wfld (s.reg (lpt n 0)) 0 3 ∧ wbit (t.reg (lpt n 0)) 31 = wbit v 31)) ∧
  ∀ (r : OffsetReg) (v : Word) (s : State),
    let o := match r with | .port n => lpt n 0x40 | .group g => 0x1100 + 4 * g.val
    Does (.txOffsetWrite r v) s fun t =>
      t.rf o 0 12 = (if wfld v 0 12 ≤ 2429 then wfld v 0 12 else s.rf o 0 12) ∧ (∀ w, w ≠ o → t.reg w = s.reg w) ∧
      t.ports = s.ports ∧ t.stp = s.stp) ∧
  ((∀ (n : Fin 32) (s : State), (s.port n).en = true → (s.port n).def_ 3 = false → 24 ≤ (s.port n).oofInt →
    Does (.lofL n) s fun t => (t.port n).def_ 3 = true) ∧
  (∀ (n : Fin 32) (s : State), (s.port n).en = true → (s.port n).def_ 3 = true → 24 ≤ (s.port n).inRun →
    Does (.lofL n) s fun t => (t.port n).def_ 3 = false) ∧
  (∀ (n : Fin 32) (a : Bool) (s : State), (s.port n).en = true → Does (.losL n a) s fun t =>
    (t.port n).noSignal = a ∧ (t.port n).def_ 1 = (a || (s.port n).rxLol || !(s.port n).cdrLock) ∧
    ((t.port n).def_ 1 = true → (t.port n).frm = 0 ∧ (t.port n).def_ 2 = true)) ∧
  (∀ (n : Fin 32) (s : State), (s.port n).en = true → (s.port n).rxLol = false → s.flt.queue.length < 64 →
    Does (.serdesLol n true) s fun t => (t.port n).rxLol = true ∧ (t.port n).cdrLock = false ∧ (t.port n).def_ 1 = true ∧
      ({ source := n, kind := Kind.serdesLol.code, cls := 1, addr := 0, data := 0, at_ := s.now } : Msg) ∈ t.flt.queue) ∧
  (∀ (n : Fin 32) (s : State), (s.port n).en = true → (s.port n).txLol = false → s.flt.queue.length < 64 →
    Does (.serdesLol n false) s fun t => (t.port n).txLol = true ∧ (t.port n).txFrame = [] ∧ t.txIdle n = true ∧
      t.flt.queue = insertMsg { source := n, kind := Kind.serdesLol.code, cls := 1, addr := 0, data := 0, at_ := s.now } s.flt.queue) ∧
  (∀ (n : Fin 32) (s : State), (s.port n).en = true → Does (.serdesLock n true) s fun t =>
    (t.port n).rxLol = false ∧ (t.port n).cdrLock = true ∧ (t.port n).def_ 1 = (s.port n).noSignal) ∧
  ∀ (n : Fin 32) (s : State), (s.port n).en = true → Does (.serdesLock n false) s fun t =>
    t.port n = { s.port n with txLol := false, txLock := true } ∧ t.flt = s.flt)

/-- O36. A transmit line frame of an enabled port starts at its transmit offset: 2,430 N bytes that begin with the framing
pattern A1 A2 (N-fold), B1 the BIP-8 of the frame before it; an idle transmitter sends nothing; at any other place nothing
starts. A frame time of received bytes: HUNT takes the first match in it; an IN_FRAME framer stays while the window matches
at its place and is out of frame at the fourth errored pattern in a row; the last recurrence check of a candidate puts it
in frame; OOF is declared exactly while the framer is not in frame. -/
def Obligations.LineFrames : Prop :=
  (∀ (n : Fin 32) (s : State), s.txStarts n = true → s.txIdle n = false →
    Does (.txLineFrame n (s.txOffset n)) s fun t => let f := (t.port n).txFrame
      f.length = 2430 * s.portN n ∧ (t.port n).txAt = some s.stp.frame ∧
      f.take (6 * s.portN n) = List.replicate (3 * s.portN n) 0xF6 ++ List.replicate (3 * s.portN n) 0x28 ∧
      (t.port n).tx.b1 = bip8 (s.port n).txFrame ^^^ (if s.rb (lpt n 0x44) 2 then 1 else 0)) ∧
  (∀ (n : Fin 32) (s : State), s.txStarts n = true → s.txIdle n = true →
    Does (.txLineFrame n (s.txOffset n)) s fun t => t.port n = { s.port n with txFrame := [], txB2 := [], tx := {}, txAt := some s.stp.frame }) ∧
  (∀ (n : Fin 32) (s : State), s.txStarts n = true ↔ ((s.port n).en = true ∧ s.stp.phase = s.txOffset n ∧ s.stp.sub = 0 ∧
    (s.port n).txAt ≠ some s.stp.frame)) ∧
  (∀ (n : Fin 32) (p : Nat) (s : State), s.txStarts n = false ∨ p ≠ s.txOffset n → exec (.txLineFrame n p) s = .next s) ∧
  (∀ (n : Fin 32) (b : List Byte) (s : State), (s.port n).en = true → (s.port n).def_ 1 = false →
    let l := frameMarks (s.portN n) (s.huntN n) (rxSpan (lineLen (s.portN n)) (s.port n).rxPrev b)
    let ok := decide ((s.port n).align ∈ l)
    Does (.rxLineFrame n b) s fun t =>
      (t.port n).def_ 2 = decide ((t.port n).frm ≠ 2) ∧
      ((s.port n).frm = 0 → l = [] → (t.port n).frm = 0) ∧
      ((s.port n).frm = 0 → ∀ m r, l = m :: r → (t.port n).frm = 1 ∧ (t.port n).align = m) ∧
      ((s.port n).frm = 2 → ok = true → (t.port n).frm = 2 ∧ (t.port n).bad = 0) ∧
      ((s.port n).frm = 2 → ok = false → (s.port n).bad < 3 → (t.port n).frm = 2 ∧ (t.port n).bad = (s.port n).bad + 1) ∧
      ((s.port n).frm = 2 → ok = false → 3 ≤ (s.port n).bad → (t.port n).frm ≠ 2) ∧
      ((s.port n).frm = 1 → ok = true → s.confirmN n ≤ (s.port n).passes + 2 → (t.port n).frm = 2)) ∧
  ∀ (n : Fin 32) (b : List Byte) (s : State), (s.port n).en = false ∨ (s.port n).def_ 1 = true → exec (.rxLineFrame n b) s = .next s

/-! ### Tributaries and highways -/

/-- O37. TRIB_CFG: the settings are those asked for; a tributary that is disabled, enabled or re-framed takes them at once and
restarts, another change waits for its transmit multiframe, but for the conditioning values. SIG_SET: the selected slots
that carry signalling take the override, and their number is the RESULT. -/
def Obligations.TribSettings : Prop :=
  (∀ (h : Hdr) (n : Nat) (c : TribSet) (s : State), Carries (.tribCfg n c) s → Does (.tribCfg h n c) s fun t =>
    let a := s.trib n
    let b := t.trib n
    DoneWith h 0 s t ∧ b.want = c ∧ (∀ m, m ≠ n → t.trib m = s.trib m) ∧
    (c.en = false ∨ tribRestarts a.want c = true → b.cfg = c ∧ b.frm = 0 ∧ b.slip = {} ∧ b.txPos = 0 ∧ b.tagLock = false ∧
      b.crcCnt = a.crcCnt ∧ b.sig.ovRx = a.sig.ovRx) ∧
    (c.en = true → tribRestarts a.want c = false →
      b.cfg = { a.cfg with cond := c.cond, sigCond := c.sigCond, sigIdle := c.sigIdle } ∧ b.frm = a.frm ∧ b.slip = a.slip)) ∧
  ∀ (h : Hdr) (o : SigOp) (s : State), Carries (.sigSet o) s →
    let hit (ts : Nat) : Bool := wbit o.mask ts && signalled (s.trib o.t).want ts
    let v := if o.follow then 0 else o.abcd + 1
    Does (.sigSet h o) s fun t => DoneWith h ((List.range 32).filter hit).length s t ∧
      (∀ ts, ts < 32 → hit ts = true → tget 0 (if o.tx then (t.trib o.t).sig.ovTxNew else (t.trib o.t).sig.ovRx) ts = v) ∧
      (∀ ts, ts < 32 → hit ts = false →
        tget 0 (if o.tx then (t.trib o.t).sig.ovTxNew else (t.trib o.t).sig.ovRx) ts =
        tget 0 (if o.tx then (s.trib o.t).sig.ovTxNew else (s.trib o.t).sig.ovRx) ts) ∧
      (if o.tx then (t.trib o.t).sig.ovRx = (s.trib o.t).sig.ovRx else (t.trib o.t).sig.ovTxNew = (s.trib o.t).sig.ovTxNew) ∧
      ∀ m, m ≠ o.t → t.trib m = s.trib m

/-- O38. E1 frame alignment: the hunt takes the first bit position at which a FAS, an NFAS a frame later and a FAS two frames
later stand, which puts the framer in frame and clears LOF; the third errored FAS in a row loses it, with LOF. A T1 framer in
hunt aligns when exactly one of its 193 positions passes. A disabled tributary, one whose next frame is not there, or a frame of
the other kind: nothing. 400 ms without a CRC-4 multiframe: CRC4_NONE, where CRC4 = 0b10. A signalling hold-off that ends raises what is
pending, or ends the scheme. A masked event is told to the collector with its mask (assumption 91). -/
def Obligations.TribFrames : Prop :=
  ((∀ (l : List Bool) (i : Nat),
    let ok (j : Nat) : Prop := fasAt (l.drop j) = true ∧ (l.drop (j + 257)).head? = some true ∧ fasAt (l.drop (j + 512)) = true
    e1Find l 0 = some i ↔ (ok i ∧ ∀ j, j < i → ¬ ok j)) ∧
  (∀ (n : Fin 16384) (s : State), (s.trib n).cfg.en = true → (s.trib n).cfg.t1 = false → 256 ≤ (s.trib n).rxBits.length →
    let a := s.trib n
    let l := a.rxBits.take 256
    let fas := decide (byteAt (packBits 32 l) 0 &&& 0x7F = 0x1B)
    Does (.rxTribFrame n false) s fun t => let b := t.trib n
      (a.frm = 0 → ∀ i, e1Find (a.hunt ++ l) 0 = some i →
        b.frm = 1 ∧ b.def_ 2 = false ∧ b.rxBits = (a.hunt ++ l).drop (i + 512) ++ a.rxBits.drop 256) ∧
      (a.frm = 0 → e1Find (a.hunt ++ l) 0 = none → b.frm = 0 ∧ b.def_ 2 = a.def_ 2 ∧ b.rxBits = a.rxBits.drop 256) ∧
      (a.frm ≠ 0 → a.odd = false → fas = false → 2 ≤ a.fasBad → b.frm = 0 ∧ b.def_ 2 = true ∧ b.tagLock = false)) ∧
  (∀ (n : Fin 16384) (s : State), (s.trib n).cfg.en = true → (s.trib n).cfg.t1 = true → (s.trib n).frm = 0 →
    193 ≤ (s.trib n).rxBits.length →
    let a := s.trib n
    let m := 193 * (2 * t1Len a.cfg.esf)
    let h := a.hunt ++ a.rxBits.take 193
    let h := h.drop (h.length - (m + 193))
    let l := (List.range 193).filter (fun o =>
      decide (m + o ≤ h.length) && t1Passes a.cfg.esf a.cfg.crc6Reframe (h.drop (h.length - m - o)))
    Does (.rxTribFrame n true) s fun t => (t.trib n).frm = if l.length = 1 then 2 else 0) ∧
  (∀ (n : Fin 16384) (t1 : Bool) (s : State),
    (s.trib n).cfg.en = false ∨ (s.trib n).rxBits.length < (s.trib n).frameBits ∨ t1 ≠ (s.trib n).cfg.t1 →
    exec (.rxTribFrame n t1) s = .next s)) ∧
  (∀ (n : Fin 16384) (s : State), (s.trib n).cfg.en = true → (s.trib n).cfg.crc4 = 2 → (s.trib n).crcNone = false →
    (s.trib n).frm = 1 → 3200 ≤ (s.trib n).noMf → s.flt.queue.length < 64 →
    Does (.crc4None n) s fun t => t.trib n = { s.trib n with crcNone := true } ∧ t.flt.queue = insertMsg
      { source := 0x50 + n / 1024, kind := Kind.crc4None.code, cls := Kind.crc4None.cls, addr := BitVec.ofNat 32 n, data := 0,
        at_ := s.now, masked := s.rb 0x30000 12 } s.flt.queue) ∧
  (∀ (n : Fin 16384) (s : State), (s.trib n).sig.holdoff = some 0 → (s.trib n).sig.pend = 0 → Does (.sigHoldoffExpiry n) s fun t =>
    (t.trib n).sig = { (s.trib n).sig with holdoff := none } ∧ t.flt = s.flt) ∧
  ∀ (n : Fin 16384) (s : State), (s.trib n).sig.holdoff = some 0 → (s.trib n).sig.pend ≠ 0 → s.flt.queue.length < 64 →
    Does (.sigHoldoffExpiry n) s fun t =>
      (t.trib n).sig = { (s.trib n).sig with pend := 0, holdoff := some 16 } ∧ t.flt.queue = insertMsg
        { source := 0x50 + n / 1024, kind := Kind.sigChange.code, cls := Kind.sigChange.cls, addr := BitVec.ofNat 32 n,
          data := BitVec.ofNat 64 (s.trib n).sig.pend.toNat, at_ := s.now, masked := s.rb 0x30000 9 } s.flt.queue

/-- O39. Highway settings are stored and wait for the boundary; a group's are writable only while every port of it is
disabled. A frame sync on count passes the received frame, which begins OFFSET bit periods after a sync, to the slip buffer
of a slave port; the second wrong one in a row, or none for 2 frame periods, is a loss on every enabled port of the group; the second right one in a row regains a
lost port. -/
def Obligations.Highways : Prop :=
  (∀ (n : Fin 64) (w : Fin 8) (v : Word) (s : State),
    Does (.hwyCfgWrite (.cfg n) v) s (fun t => t.hwys = s.hwys ∧
      t.reg (hwyReg n 0) = (s.reg (hwyReg n 0) &&& ~~~ regMask (hwyReg n 0)) ||| (v &&& regMask (hwyReg n 0))) ∧
    Does (.hwyCfgWrite (.txEn n w) v) s (fun t => t.hwys = s.hwys ∧ t.reg (hwyReg n (0x20 + 4 * w)) = v)) ∧
  (∀ (g : Fin 8) (v : Word) (s : State), (∃ j, j < 8 ∧ (s.hwy (8 * g + j)).en = true) → exec (.hwyCfgWrite (.group g) v) s = .next s) ∧
  (∀ (g : Fin 8) (v : Word) (s : State), (∀ j, j < 8 → (s.hwy (8 * g + j)).en = false) → Does (.hwyCfgWrite (.group g) v) s fun t =>
    t.reg (grpReg g) = (s.reg (grpReg g) &&& ~~~ regMask (grpReg g)) ||| (v &&& regMask (grpReg g)) ∧ t.hwys = s.hwys) ∧
  (∀ (n : Fin 64) (a b : HwySeen) (s : State), (s.hwy n).en = true → (s.hwyGrp (n / 8)).refused = false → s.hwyMaster n = true →
    exec (.hwyFrameSync n a b) s = .next (s.setHwy n { s.hwy n with cur := some (hwyBytes s n a b) })) ∧
  (∀ (n : Fin 64) (a b : HwySeen) (s : State), (s.hwy n).en = true → (s.hwyGrp (n / 8)).refused = false → s.hwyMaster n = false →
    hwyOnCount s n a b = true → Does (.hwyFrameSync n a b) s fun t =>
      ((s.hwy n).fsLoss = false → (t.hwy n).cur = some (hwyBytes s n a b) ∧ (t.hwy n).badSync = 0 ∧ (t.hwy n).fsLoss = false ∧
        (s.hwyOffset n = 0 → (t.hwy n).slip.unread = some (s.hwyFrame n (hwyBytes s n a b) [])) ∧
        (s.hwyOffset n ≠ 0 → ∀ w, (s.hwy n).cur = some w → (t.hwy n).slip.unread = some (s.hwyFrame n w (hwyBytes s n a b))) ∧
        (s.hwyOffset n ≠ 0 → (s.hwy n).cur = none → (t.hwy n).slip = (s.hwy n).slip ∧ (t.hwy n).del = (s.hwy n).del) ∧
        (s.hwyOffset n = 0 ∨ (s.hwy n).cur.isSome = true → (t.hwy n).del = (s.hwy n).del +
          (if (s.hwy n).slip.unread.isSome && (s.hwy n).slip.reading then 1 else 0))) ∧
      ((s.hwy n).fsLoss = true → 1 ≤ (s.hwy n).goodSync → (t.hwy n).fsLoss = false)) ∧
  (∀ (n : Fin 64) (a b : HwySeen) (s : State), (s.hwy n).en = true → (s.hwyGrp (n / 8)).refused = false → s.hwyMaster n = false →
    hwyOnCount s n a b = false → (s.hwy n).fsLoss = false → 1 ≤ (s.hwy n).badSync → Does (.hwyFrameSync n a b) s fun t =>
      ∀ j, j < 8 → (s.hwy (n / 8 * 8 + j)).en = true → (t.hwy (n / 8 * 8 + j)).fsLoss = true) ∧
  (∀ (n : Fin 64) (a b : HwySeen) (s : State), (s.hwy n).en = false ∨ (s.hwyGrp (n / 8)).refused = true →
    exec (.hwyFrameSync n a b) s = .next s) ∧
  (∀ (n : Fin 64) (s : State), (s.hwy n).en = true → s.hwyMaster n = false → 2 * subTicks ≤ s.syncAge n →
    Does (.hwyFsLoss n) s fun t => ∀ j, j < 8 → (s.hwy (n / 8 * 8 + j)).en = true → (t.hwy (n / 8 * 8 + j)).fsLoss = true) ∧
  ∀ (n : Fin 64) (s : State), (s.hwy n).en = false ∨ s.hwyMaster n = true ∨ s.syncAge n < 2 * subTicks → exec (.hwyFsLoss n) s = .next s

/-! ### Conferences and tones -/

/-- O40. The roster commands act on the standby page, and the active page stays: CNF_CREATE and CNF_JOIN put an entry in use
with its settings, JOIN answering its lane; CNF_LEAVE takes one out; CNF_DESTROY takes out the conference and each of its
participants and answers their number; CNF_MODIFY changes the settings that FIELDS selects. A hot CNF_MODIFY changes the
active entry in place as well, where the participant is in use there and the limits of R190 allow it, and says with RESULT
1 that it could not; a dirty standby entry keeps its pending value. -/
def Obligations.RosterCommands : Prop :=
  ((∀ (h : Hdr) (n : Nat) (o : ConfSet) (s : State), Carries (.cnfCreate n o) s → Does (.cnfCreate h n o) s fun t =>
    DoneWith h 0 s t ∧ t.sbConf n = { inUse := true, set := o } ∧ (∀ k, k ≠ n → t.sbConf k = s.sbConf k) ∧
    (∀ p, t.sbPart p = s.sbPart p) ∧ t.cnfConfs s.cnf.active = s.cnfConfs s.cnf.active ∧ t.cnf.active = s.cnf.active) ∧
  (∀ (h : Hdr) (p : Nat) (o : PartSet) (s : State), Carries (.cnfJoin p o) s → Does (.cnfJoin h p o) s fun t =>
    DoneWith h (p / 4096) s t ∧ t.sbPart p = { inUse := true, set := o } ∧ (∀ q, q ≠ p → t.sbPart q = s.sbPart q) ∧
    t.cnfParts s.cnf.active = s.cnfParts s.cnf.active ∧ t.cnf.active = s.cnf.active) ∧
  (∀ (h : Hdr) (p : Nat) (s : State), Carries (.cnfLeave p) s → Does (.cnfLeave h p) s fun t =>
    DoneWith h 0 s t ∧ (t.sbPart p).inUse = false ∧ (∀ q, q ≠ p → t.sbPart q = s.sbPart q) ∧
    t.cnfParts s.cnf.active = s.cnfParts s.cnf.active ∧ t.cnf.active = s.cnf.active) ∧
  (∀ (h : Hdr) (n : Nat) (s : State), Carries (.cnfDestroy n) s → Does (.cnfDestroy h n) s fun t =>
    DoneWith h (s.sbMembers n).length s t ∧ (t.sbConf n).inUse = false ∧ (∀ k, k ≠ n → t.sbConf k = s.sbConf k) ∧
    (∀ p, (if (s.sbPart p).inUse = true ∧ (s.sbPart p).set.conf = n then (t.sbPart p).inUse = false else t.sbPart p = s.sbPart p)) ∧
    t.cnfParts s.cnf.active = s.cnfParts s.cnf.active ∧ t.cnf.active = s.cnf.active) ∧
  (∀ (h : Hdr) (o : CnfMod) (s : State), Carries (.cnfModify o) s → o.isConf = true → Does (.cnfModify h o) s fun t =>
    let a := s.sbConf o.index
    DoneWith h 0 s t ∧ t.sbConf o.index = { a with set := {
      k := if o.fields.testBit 4 then o.conf.k else a.set.k, hang := if o.fields.testBit 5 then o.conf.hang else a.set.hang
      floor := if o.fields.testBit 6 then o.conf.floor else a.set.floor
      spkEv := if o.fields.testBit 7 then o.conf.spkEv else a.set.spkEv } }) ∧
  ∀ (h : Hdr) (o : CnfMod) (s : State), Carries (.cnfModify o) s → o.isConf = false → o.hot = false → Does (.cnfModify h o) s fun t =>
    let a := s.sbPart o.index
    DoneWith h 0 s t ∧ t.cnfParts s.cnf.active = s.cnfParts s.cnf.active ∧ t.sbPart o.index = { a with set := {
      conf := if o.fields.testBit 8 then o.part.conf else a.set.conf, role := if o.fields.testBit 0 then o.part.role else a.set.role
      mu := if o.fields.testBit 1 then o.part.mu else a.set.mu, gin := if o.fields.testBit 2 then o.part.gin else a.set.gin
      gout := if o.fields.testBit 3 then o.part.gout else a.set.gout } }) ∧
  (∀ (h : Hdr) (o : CnfMod) (s : State), Carries (.cnfModify o) s → o.isConf = false → o.hot = true → patchesOf (.cnfModify o) = 1 ∧
    Does (.cnfModify h o) s fun t =>
      DoneWith h (if s.hotOk o then 0 else 1) s t ∧ t.cnf.active = s.cnf.active ∧
      (s.hotOk o = true → tget {} (t.cnfParts s.cnf.active) o.index = (tget {} (s.cnfParts s.cnf.active) o.index).modify o) ∧
      (s.hotOk o = false → t.cnfParts s.cnf.active = s.cnfParts s.cnf.active) ∧
      tget {} (t.cnfParts (!s.cnf.active)) o.index =
        (if tget false s.cnf.dirtyP o.index then tget {} (s.cnfParts (!s.cnf.active)) o.index else (s.sbPart o.index).modify o) ∧
      ∀ b p, p ≠ o.index → tget {} (t.cnfParts b) p = tget {} (s.cnfParts b) p)

/-- O41. CNF_QUERY writes the 144 bytes of the record, index first; TONE_LOAD loads a definition with its load boundary now;
at the end of a hold-off a pending speaker change is reported and holds off again, and with none pending the scheme rests. The
report comes from the lane of the conference's lowest participant (assumption 49), with its first talker and their number; where
the story second has had one already (07 R214), the scheme holds off without it (assumption 146). -/
def Obligations.QueryToneSpeaker : Prop :=
  (∀ (h : Hdr) (a : DWord) (n : Nat) (s : State), Carries (.cnfQuery a n) s → s.dmaOn = true → Does (.cnfQuery h a n) s fun t =>
    DoneWith h 144 s t ∧ (s.cnfQueryRec n).length = 144 ∧ (s.cnfQueryRec n).take 2 = leBytes 2 n ∧
    t.hostMem = memWrite s.hostMem a.toNat (s.cnfQueryRec n) ∧ t.cnf = s.cnf) ∧
  (∀ (h : Hdr) (a : DWord) (n : Nat) (s : State), Carries (.cnfQuery a n) s → s.dmaOn = false → Does (.cnfQuery h a n) s fun t =>
    DoneWith h 0 s t ∧ t.hostMem = s.hostMem) ∧
  (∀ (h : Hdr) (d : Nat) (x : ToneDef) (s : State), Carries (.toneLoad d x) s → Does (.toneLoad h d x) s fun t =>
    DoneWith h 0 s t ∧ tget {} t.cnf.tones d = { d := x, since := 0 } ∧ ∀ k, k ≠ d → tget {} t.cnf.tones k = tget {} s.cnf.tones k) ∧
  (∀ (c : Fin 16384) (s : State), (s.spkOf c).holdoff = some 0 → (s.spkOf c).pend = false → Does (.speakerHoldoffExpiry c) s fun t =>
    t.spkOf c = { s.spkOf c with holdoff := none } ∧ t.flt = s.flt) ∧
  ∀ (c : Fin 16384) (s : State), (s.spkOf c).holdoff = some 0 → (s.spkOf c).pend = true →
    let l := (s.spkOf c).rank.filter (fun p => (s.laneSt p).sel)
    Does (.speakerHoldoffExpiry c) s fun t =>
      t.spkOf c = { s.spkOf c with pend := false, holdoff := some 16 } ∧
      ((Kind.cnfSpeaker.code, c.val) ∈ s.cnf.seen → t.flt = s.flt) ∧
      ((Kind.cnfSpeaker.code, c.val) ∉ s.cnf.seen → (Kind.cnfSpeaker.code, c.val) ∈ t.cnf.seen ∧
        (s.flt.queue.length < 64 → t.flt.queue = insertMsg
          { source := 0x070 + s.lowLane c, kind := Kind.cnfSpeaker.code, cls := Kind.cnfSpeaker.cls, addr := BitVec.ofNat 32 c,
            data := BitVec.ofNat 64 (l.headD 0xFFFF + l.length * 65536), at_ := s.now, masked := s.rb 0x50008 0 } s.flt.queue))

/-- O42. The conference sums. The lane pass presents of every participant in use its input byte, expanded and with its input
gain, its energy over the window that ends with it, and whether it is in the mix: as an always-in participant, or as a
selected talker. The collector window gives each participant the sum of its conference's mix less its own contribution,
with its output gain, clipped and encoded in its law; a muted participant, or a conference whose entry is poisoned, hears
idle. -/
def Obligations.ConferenceMix : Prop :=
  (∀ (s : State) (p : Nat), s.cnf.laneDone = false → 150 ≤ s.stp.phase → s.upsets = [] → s.partLive p = true →
    s.laneWiped (p / 4096) = false → s.partPoison p = false → Does .lanePass s fun t =>
      let e := (s.cnfPart p).set
      let x : Contrib := tget {} t.cnf.contrib p
      t.cnf.laneDone = true ∧ x.y = gain e.gin (expand e.mu (s.confByte p)) ∧ (t.laneSt p).win.head? = some x.y ∧
      (t.laneSt p).sel = (s.laneSt p).sel ∧ x.e = (t.laneSt p).energy ∧
      x.mix = (decide (e.role = 3) || (decide (e.role = 0 ∨ e.role = 2) && (s.laneSt p).sel)) ∧
      x.cand = decide (e.role = 0 ∨ e.role = 2) ∧ x.mute = decide (e.role = 2)) ∧
  ∀ (s : State) (p : Nat), s.cnf.laneDone = true → s.cnf.colDone = false → 1944 ≤ s.stp.phase → s.upsets = [] → s.partLive p = true →
    Does (.collectorWindow false) s fun t =>
      let e := (s.cnfPart p).set
      let c := e.conf
      let part (q : Nat) : Int := let x : Contrib := tget {} s.cnf.contrib q; if x.mix then x.y else 0
      t.cnf.colDone = true ∧ (tget {} t.tsw.inCur (0x80000 + p)).b =
        if tget false (s.cnfPoisC s.cnf.active) c || (tget {} s.cnf.contrib p : Contrib).mute then idle e.mu
        else encode e.mu (sat16 (gain e.gout (((s.livePartsOf c).map part).sum - part p)))

/-! ### Protection switching -/

/-- O43. PROT_GROUP: a create puts the group in use on W with its settings, a modify changes its settings where it stands, a
delete takes it out of use. PROT_CMD: a LOCKOUT stands and a CLEAR takes a standing command away; RESULT 3 for a group not
in use, 2 for a CLEAR of nothing, 1 for a poisoned group. PROT_QUERY writes the 32 bytes of the record. -/
def Obligations.ProtectionCommands : Prop :=
  (∀ (h : Hdr) (o : ProtOp) (s : State), Carries (.protGroup o) s → Does (.protGroup h o) s fun t =>
    let x := s.group o.kind o.group
    let y := t.group o.kind o.group
    DoneWith h 0 s t ∧
    (o.op = 0 → y.inUse = true ∧ y.op = o ∧ y.selP = false ∧ y.cmd = none) ∧
    (o.op = 1 → y.inUse = true ∧ y.selP = x.selP ∧ y.op = { x.op with
      bidir := o.bidir, revert := o.revert, sdEn := o.sdEn, timSf := o.timSf, holdoff := o.holdoff, wtr := o.wtr, lag := o.lag }) ∧
    (o.op = 2 → y.inUse = false)) ∧
  (∀ (h : Hdr) (k : Fin 4) (g code : Nat) (s : State), Carries (.protCmd k g code) s → (s.group k g).inUse = false →
    Does (.protCmd h k g code) s fun t => DoneWith h 3 s t ∧ t.prt = s.prt) ∧
  (∀ (h : Hdr) (k : Fin 4) (g code : Nat) (s : State), Carries (.protCmd k g code) s → (s.group k g).inUse = true →
    (s.group k g).poison = true → s.upsetAt (.group k g) = none →
    Does (.protCmd h k g code) s fun t => DoneWith h 1 s t ∧ t.group k g = s.group k g) ∧
  (∀ (h : Hdr) (k : Fin 4) (g : Nat) (s : State), (s.group k g).inUse = true → (s.group k g).poison = false →
    s.upsetAt (.group k g) = none →
    (Carries (.protCmd k g 1) s → Does (.protCmd h k g 1) s fun t => DoneWith h 0 s t ∧ (t.group k g).cmd = some 1) ∧
    (Carries (.protCmd k g 0) s → ((s.group k g).cmd = some 1 ∨ (s.group k g).cmd = some 2 ∨ (s.group k g).cmd = some 3) →
      Does (.protCmd h k g 0) s fun t => DoneWith h 0 s t ∧ (t.group k g).cmd = none) ∧
    (Carries (.protCmd k g 0) s → (s.group k g).cmd = none →
      Does (.protCmd h k g 0) s fun t => DoneWith h 2 s t ∧ (t.group k g).cmd = none)) ∧
  ∀ (h : Hdr) (a : DWord) (k : Fin 4) (g : Nat) (s : State), Carries (.protQuery a k g) s → Does (.protQuery h a k g) s fun t =>
    (s.protQueryRec k g).length = 32 ∧ t.prt = s.prt ∧
    (s.dmaOn = true → DoneWith h 32 s t ∧ t.hostMem = memWrite s.hostMem a.toNat (s.protQueryRec k g)) ∧
    (s.dmaOn = false → DoneWith h 0 s t ∧ t.hostMem = s.hostMem)

/-- O44. What a selector decides: a signal failure of W with none of P, at once without a hold-off or as a hold-off ends, is
the request in force (priority 4, K1 code 13) and asks for a move to P; the end of wait-to-restore with nothing else asked
of a revertive group asks for the return to W. A decided move takes effect: the selector stands on the new side, the move
is counted and reported; with none decided the event changes nothing (assumption 15). The OP of a line pair takes the accepted K1 of the
protection port as the far end's. An exercise ends when its answer has come or its time is out, with PROT_EXER telling
which. -/
def Obligations.Selectors : Prop :=
  ((∀ (k : Fin 4) (g : Nat) (s : State), let x := s.group k g
    x.decides k = true → s.upsetAt (.group k g) = none → s.bidir k x = false → x.cmd = none → x.op.holdoff = 0 → x.selP = false →
    (s.triggers k x false).1 = true → s.triggers k x true = (false, false) → Does (.selectorDecision k g) s fun t =>
      (t.group k g).req = 4 ∧ (t.group k g).move = some (true, 13) ∧ (t.group k g).selP = false) ∧
  (∀ (k : Fin 4) (g : Nat) (s : State), let x := s.group k g
    x.decides k = true → s.bidir k x = false → x.cmd = none → x.selP = false → x.w.hold = some 0 → x.w.at_ ≤ s.inFrame →
    (s.triggers k x false).1 = true → s.triggers k x true = (false, false) → Does (.holdoffExpiry k g false) s fun t =>
      (t.group k g).req = 4 ∧ (t.group k g).move = some (true, 13) ∧ (t.group k g).w.sf = true ∧ (t.group k g).w.hold = none) ∧
  ∀ (k : Fin 4) (g : Nat) (s : State), let x := s.group k g
    x.decides k = true → s.bidir k x = false → x.cmd = none → x.selP = true → x.op.revert = true → x.wtrOn = true → x.wtrLeft = 0 →
    x.wtrArm = false → x.dnr = false → x.req = 8 → s.triggers k x false = (false, false) → s.triggers k x true = (false, false) →
    Does (.wtrExpiry k g) s fun t => (t.group k g).req = 12 ∧ (t.group k g).wtrOn = false ∧ (t.group k g).move = some (false, 0)) ∧
  ((∀ (k : Fin 4) (g : Nat) (s : State) (b : Bool) (c : Nat), (s.group k g).move = some (b, c) → k.val ≠ 3 →
    (k.val = 2 → s.inFrame = 0) → s.flt.queue.length < 64 → Does (.protSw k g) s fun t =>
      t.group k g = { s.group k g with selP := b, move := none, lastSw := s.stp.frame, switches := (s.group k g).switches + 1 } ∧
      t.flt.queue = insertMsg { source := prtSource k g, kind := Kind.protSw.code, cls := Kind.protSw.cls, addr := BitVec.ofNat 32 g,
                                data := BitVec.ofNat 64 (b2n b + 16 * c), at_ := s.now, masked := s.rb 0x60004 0 } s.flt.queue) ∧
  (∀ (k : Fin 4) (g : Nat) (s : State), (s.group k g).move = none → exec (.protSw k g) s = .next s) ∧
  (∀ (i : Fin 16) (s : State), (s.group 0 i).inUse = true → (s.group 0 i).poison = false → s.pairOp (s.group 0 i) = true →
    Does (.k1Protocol i) s fun t => (t.group 0 i).farK1 = (s.port (s.group 0 i).op.p).k1Acc) ∧
  ∀ (i : Fin 16) (s : State), (s.group 0 i).exer.isSome = true → ((s.group 0 i).exerRr = true ∨ (s.group 0 i).exer = some 0) →
    s.flt.queue.length < 60 → Does (.protExer i) s fun t =>
      (t.group 0 i).exer = none ∧ ((s.group 0 i).cmd = some 6 → (t.group 0 i).cmd = none) ∧
      ∃ m ∈ t.flt.queue, m.kind = Kind.protExer.code ∧ m.source = prtSource 0 i ∧ m.at_ = s.now ∧ m.masked = s.rb 0x60004 4 ∧
        m.data = BitVec.ofNat 64 (b2n (!(s.group 0 i).exerRr)))

/-! ### Streams, GFP, the DCC -/

/-- O45. STREAM_OPEN opens the directions it names, the device-to-host one from its START or the next frame; STREAM_CLOSE
closes them and discards what is held, each block counted, one that was being read with them (a free choice, assumption
150); STREAM_FLUSH discards and leaves them open, a block in progress consuming its SEQ. -/
def Obligations.StreamCommands : Prop :=
  (∀ (h : Hdr) (o : StreamOp) (s : State), Carries (.streamOpen o) s → Does (.streamOpen h o) s fun t =>
    let x := t.strm o.group
    DoneWith h 0 s t ∧ (∀ k, k ≠ o.group → t.strm k = s.strm k) ∧
    (o.dirIn = true → x.inn.map (fun d => d.op) = some o ∧ x.rows = []) ∧ (o.dirIn = false → x.inn = (s.strm o.group).inn) ∧
    (o.dirOut = true → ∃ d, x.out = some d ∧ d.op = o ∧ d.rows = [] ∧ d.first = if o.start = 0 then s.stp.frame + 1 else o.start) ∧
    (o.dirOut = false → x.out = (s.strm o.group).out)) ∧
  (∀ (h : Hdr) (g : Nat) (i o : Bool) (s : State), Carries (.streamClose g i o) s → Does (.streamClose h g i o) s fun t =>
    let x := t.strm g
    DoneWith h 0 s t ∧ (∀ k, k ≠ g → t.strm k = s.strm k) ∧
    (i = true → x.inn = none ∧ x.rows = [] ∧
      let n := tget 0 (s.strm g).cnts 7 + BitVec.ofNat 32 (s.strm g).blocks
      (tget 0 x.cnts 7 = n ∨ (s.hasBuf 2 g = true ∧ tget 0 x.cnts 7 = n + 1))) ∧
    (i = false → x.inn = (s.strm g).inn ∧ x.rows = (s.strm g).rows) ∧
    (o = true → x.out = none) ∧ (o = false → x.out = (s.strm g).out)) ∧
  ∀ (h : Hdr) (g : Nat) (i o : Bool) (s : State), Carries (.streamFlush g i o) s → Does (.streamFlush h g i o) s fun t =>
    let x := t.strm g
    DoneWith h 0 s t ∧ (∀ k, k ≠ g → t.strm k = s.strm k) ∧ x.inn = (s.strm g).inn ∧
    (i = true → x.rows = []) ∧ (i = false → x.rows = (s.strm g).rows) ∧ (o = false → x.out = (s.strm g).out) ∧
    ∀ d, o = true → (s.strm g).out = some d → ∃ e, x.out = some e ∧ e.op = d.op ∧ e.rows = [] ∧
      e.seq = if d.rows = [] then d.seq else d.seq + 1

/-- O46. A host-to-device block is judged in the order of R307. With a good header and check and a lead of 2 to 32 frames its
rows wait for their frames and ACCEPTED counts it; a bad header counts in REJECT, a short lead in LATE, a long one in
EARLY, without rows. Either way its descriptor is consumed. A whole device-to-host block is written into the buffer, then
its descriptor back. -/
def Obligations.VoiceBlocks : Prop :=
  (∀ (g : Fin 256) (d : BufDesc) (b : List Byte) (s : State) (x : StreamDir), s.hasBuf 2 g = true → bufOk d = true →
    (s.strm g).inn = some x →
    let p : Word := BitVec.ofNat 32 (leNat (bytesAt b 8 4))
    let rows := (List.range (2 ^ x.op.depth)).map (fun k => (p + BitVec.ofNat 32 k, p, bytesAt b (16 + k * x.op.k) x.op.k))
    let free := ∀ r ∈ rows, ∀ q ∈ (s.strm g).rows, q.1 ≠ r.1
    let good := headerOk g x.op d.len.toNat b = true
    Does (.voiceBlockArrival g d b) s fun t =>
      let c (i : Nat) := tget 0 (t.strm g).cnts i
      let c0 (i : Nat) := tget 0 (s.strm g).cnts i
      (t.ring 2 g).dev = ((s.ring 2 g).dev + 1) % ringLen 2 (s.ring 2 g) ∧
      (∀ l, good → s.checkOk g x.op b = true → s.lead p = some l → 4860 ≤ l → l ≤ 77760 → free →
        (t.strm g).rows = (s.strm g).rows ++ rows ∧ c 0 = c0 0 + 1) ∧
      (¬ good → (t.strm g).rows = (s.strm g).rows ∧ c 3 = c0 3 + 1 ∧ c 0 = c0 0) ∧
      (good → s.checkOk g x.op b = true → (∀ l, s.lead p = some l → l < 4860) →
        (t.strm g).rows = (s.strm g).rows ∧ c 1 = c0 1 + 1 ∧ c 0 = c0 0) ∧
      (∀ l, good → s.checkOk g x.op b = true → s.lead p = some l → 77760 < l →
        (t.strm g).rows = (s.strm g).rows ∧ c 2 = c0 2 + 1 ∧ c 0 = c0 0)) ∧
  (∀ (g : Fin 256) (d : BufDesc) (b : List Byte) (s : State), s.hasBuf 2 g = false → exec (.voiceBlockArrival g d b) s = .next s) ∧
  ∀ (g : Fin 256) (d : BufDesc) (s : State) (b : OutBlock) (r : List OutBlock) (o : StreamOp), s.hasBuf 3 g = true → bufOk d = true →
    (s.strm g).wait = b :: r → (s.strm g).outOp = some o → blockLen o ≤ d.len.toNat → (s.ring 3 g).intMode = 0 →
    Does (.voiceBlockWrite g d) s fun t => (t.strm g).wait = r ∧
      (t.ring 3 g).dev = ((s.ring 3 g).dev + 1) % ringLen 3 (s.ring 3 g) ∧
      t.hostMem = memWrite (memWrite s.hostMem d.addr.toNat (s.outBytes g o b))
        ((s.ring 3 g).base.toNat / 4096 * 4096 + 16 * (s.ring 3 g).dev + 8)
        (leBytes 4 (blockLen o) ++ [0, 0] ++ leBytes 2 (putB (s.ring 3 g).phase 15))

/-- O47. GFP_OPEN opens the directions it names, reception in HUNT with LFD; GFP_CLOSE closes them and drops what is held;
GFP_FLUSH drops and leaves them open. A client frame that fits is held, and taken off its ring once all of it has been read;
one that is too long is taken off and counted. Of the delineator: the first position at which a header checks gives PRESYNC,
the last right one in PRESYNC gives SYNC and ends LFD, an uncorrectable one in SYNC gives HUNT with LFD. -/
def Obligations.GfpChannels : Prop :=
  (∀ (h : Hdr) (o : GfpOp) (s : State), Carries (.gfpOpen o) s → Does (.gfpOpen h o) s fun t =>
    let x := t.gfp o.ch
    DoneWith h 0 s t ∧ (∀ k, k ≠ o.ch → t.gfp k = s.gfp k) ∧ (o.dirTx = true → x.tx = some o ∧ x.held = [] ∧ x.cur = none) ∧
    (o.dirTx = false → x.tx = (s.gfp o.ch).tx) ∧ (o.dirRx = true → x.rx = some o ∧ x.delin = 0 ∧ x.lfd = true) ∧
    (o.dirRx = false → x.rx = (s.gfp o.ch).rx ∧ x.delin = (s.gfp o.ch).delin)) ∧
  (∀ (h : Hdr) (ch : Nat) (a b : Bool) (s : State), Carries (.gfpClose ch a b) s → Does (.gfpClose h ch a b) s fun t =>
    let x := t.gfp ch
    DoneWith h 0 s t ∧ (∀ k, k ≠ ch → t.gfp k = s.gfp k) ∧ (a = true → x.tx = none ∧ x.held = []) ∧
    (a = false → x.tx = (s.gfp ch).tx ∧ x.held = (s.gfp ch).held) ∧ (b = true → x.rx = none ∧ x.lfd = false) ∧
    (b = false → x.rx = (s.gfp ch).rx)) ∧
  (∀ (h : Hdr) (ch : Nat) (a b : Bool) (s : State), Carries (.gfpFlush ch a b) s → Does (.gfpFlush h ch a b) s fun t =>
    let x := t.gfp ch
    DoneWith h 0 s t ∧ x.tx = (s.gfp ch).tx ∧ x.rx = (s.gfp ch).rx ∧ (a = true → x.held = []) ∧
    (b = true → x.delin = 0 ∧ x.lfd = true)) ∧
  (∀ (ch : Fin 64) (d : BufDesc) (data : List Byte) (s : State) (o : GfpOp), (s.gfp ch).tx = some o → s.hasBuf 4 ch = true →
    bufOk d = true → (s.gfp ch).fetching = false → Does (.gfpTxFrame ch d data) s fun t =>
      let n := d.len.toNat
      let dev := ((s.ring 4 ch).dev + 1) % ringLen 4 (s.ring 4 ch)
      (o.maxLen < n → (t.gfp ch).held = (s.gfp ch).held ∧ (t.ring 4 ch).dev = dev ∧
        tget 0 (t.gfp ch).cnts 2 = tget 0 (s.gfp ch).cnts 2 + 1) ∧
      (n ≤ o.maxLen → gfpPli o n ≤ 65535 → (t.gfp ch).held = (s.gfp ch).held ++ [(n, data.take n)] ∧
        (t.ring 4 ch).dev = if n ≤ data.length then dev else (s.ring 4 ch).dev)) ∧
  (∀ (ch : Fin 64) (d : BufDesc) (data : List Byte) (s : State) (o : GfpOp) (l : List (Nat × List Byte)) (e : Nat × List Byte),
    (s.gfp ch).tx = some o → s.hasBuf 4 ch = true → (s.gfp ch).held = l ++ [e] → e.2.length < e.1 →
    Does (.gfpTxFrame ch d data) s fun t => (t.gfp ch).held = l ++ [(e.1, (e.2 ++ data).take e.1)] ∧
      (t.ring 4 ch).dev = if e.1 ≤ e.2.length + data.length then ((s.ring 4 ch).dev + 1) % ringLen 4 (s.ring 4 ch)
        else (s.ring 4 ch).dev) ∧
  (∀ (o : GfpOp) (l m : List Byte), gfpScan o l = some m ↔
    ∃ k, m = l.drop k ∧ gfpChecks o m = true ∧ ∀ j, j < k → gfpChecks o (l.drop j) = false) ∧
  ∀ (ch : Fin 64) (d : BufDesc) (s : State) (o : GfpOp), (s.gfp ch).rx = some o → Does (.gfpRxHeader ch d.addr d.ctl) s fun t =>
    let x := s.gfp ch
    let y := t.gfp ch
    (x.delin = 0 → ∀ l, gfpScan o x.rxOct = some l → y.delin = 1 ∧ y.rxOct = l ∧ y.next = gfpSpan (gfpCore o l) ∧ y.lfd = true) ∧
    (x.delin = 0 → gfpScan o x.rxOct = none → y.delin = 0 ∧ y.lfd = true) ∧
    (x.delin = 1 → gfpChecks o (x.rxOct.drop x.next) = true → o.delta ≤ x.good + 1 → y.delin = 2 ∧ y.lfd = false) ∧
    (x.delin = 2 → 4 ≤ x.rxOct.length → hecOk (gfpCore o x.rxOct) = false → o.checCorr = false → y.delin = 0 ∧ y.lfd = true)

/-- O48. The DCC. DCC_AUTH_CFG stores a channel's settings. An unsigned OT frame of an enabled channel waits to be sent, and
leaves between flags, stuffed, with its FCS; one that fails R330 counts in TX_DROP. A received frame goes to OX, its
information field first and its header with the verdict, the frame of its closing flag in it; one that fails R330 counts in RX_BAD
and its buffer serves the next; or it counts in RX_DROP where its OP is out of service. Where no frame is complete and none is
arriving, or the OP is out of service, the row does nothing (assumptions 15 and 170). The tag of a
signed frame is the first 8 bytes of the AES-CMAC over its context, sequence and information field, sent after field and
sequence. A queue whose pointers disagree is emptied, with QPTR; a frame that was being sent is cut by seven 1s. -/
def Obligations.DccFrames : Prop :=
  (∀ (h : Hdr) (o : DccAuthOp) (s : State), Carries (.dccAuthCfg o) s → Does (.dccAuthCfg h o) s fun t =>
    let ch := 2 * o.port + b2n o.ms
    DoneWith h 0 s t ∧ (t.dcc ch).auth = o ∧ (∀ k, k ≠ ch → (t.dcc k).auth = (s.dcc k).auth) ∧
    ((s.dcc ch).auth.txEn = o.txEn → (s.dcc ch).auth.txSlot = o.txSlot → ∀ k, k ≠ ch → t.dcc k = s.dcc k)) ∧
  (∀ (d : BufDesc) (buf : List Byte) (s : State), s.hasBuf 6 0 = true → bufOk d = true →
    let ch := (byteAt buf 0).toNat % 64
    let len := leNat (bytesAt buf 2 2)
    let ok := s.dccOn ch = true ∧ s.dccOp ch = true ∧ 1 ≤ len ∧ len ≤ dccMaxLen (s.dcc ch).cfg ∧ len ≤ d.len.toNat - 16
    Does (.dccTxFrame d buf) s fun t =>
      (t.ring 6 0).dev = ((s.ring 6 0).dev + 1) % ringLen 6 (s.ring 6 0) ∧
      (ok → (s.dcc ch).auth.txEn = false → (t.dcc ch).txBits = (s.dcc ch).txBits ∧
        ∃ e, (t.dcc ch).txQ = (s.dcc ch).txQ ++ [e] ∧ e.info = bytesAt buf 16 len ∧ e.ready = some e.info) ∧
      (¬ ok → (t.dcc ch).txBits = (s.dcc ch).txBits ∧ (t.dcc ch).txQ = (s.dcc ch).txQ ∧
        tget 0 (t.dcc ch).cnts 1 = tget 0 (s.dcc ch).cnts 1 + 1)) ∧
  (∀ (x : Dcc) (n : Nat) (e : DccOut) (r : List DccOut) (b : List Byte), x.txBits = [] → x.txQ = e :: r → e.ready = some b →
    let l := hdlc (wbit x.cfg 31) b
    0 < n → 8 * n ≤ l.length → (x.give n).1 = packBits n l ∧ (x.give n).2.txBits = l.drop (8 * n) ∧ (x.give n).2.txQ = r ∧
      tget 0 (x.give n).2.cnts 0 = tget 0 x.cnts 0 + 1) ∧
  (∀ (ch : Fin 64) (d : BufDesc) (s : State), (s.dcc ch).rxDone = [] → s.dccOp ch = false ∨ (s.dcc ch).rx.open_ = false →
    exec (.dccRxFrame ch d.addr d.ctl) s = .next s) ∧
  (∀ (ch : Fin 64) (d : BufDesc) (f : DccFrame) (r : List DccFrame) (s : State), (s.dcc ch).rxDone = f :: r →
    let w := if wbit f.cfg 31 then 4 else 2
    let n := f.bytes.length
    let body := f.bytes.take (n - w)
    let good := fcsBytes (wbit f.cfg 31) body = f.bytes.drop (n - w)
    (s.dccOp ch = false → f.lost = false → Does (.dccRxFrame ch d.addr d.ctl) s fun t =>
      (t.dcc ch).rxDone = r ∧ tget 0 (t.dcc ch).cnts 4 = tget 0 (s.dcc ch).cnts 4 + 1 ∧ (s.sec.ox = [] → t.hostMem = s.hostMem)) ∧
    (s.dccOp ch = true → f.lost = false →
      f.aborted = true ∨ n < w + 1 ∨ dccMaxLen f.cfg + 12 + w < n ∨ (¬ good ∧ wbit f.cfg 30 = false) →
      Does (.dccRxFrame ch d.addr d.ctl) s fun t =>
        (t.dcc ch).rxDone = r ∧ tget 0 (t.dcc ch).cnts 3 = tget 0 (s.dcc ch).cnts 3 + 1 ∧
        (s.sec.ox = [] → f.item = none → s.oxBuf = false ∨ bufOk d = true →
          t.sec.ox = [] ∧ (t.ring 7 0).dev = (s.ring 7 0).dev)) ∧
    (s.dccOp ch = true → f.aborted = false → w + 1 ≤ n → n ≤ dccMaxLen f.cfg + 12 + w → good → f.item = none → f.lost = false →
      s.oxBuf = true → bufOk d = true → f.auth.rxEn = false → s.sec.ox = [] → Does (.dccRxFrame ch d.addr d.ctl) s fun t =>
        t.sec.ox = [] ∧ (t.dcc ch).rxDone = r ∧ tget 0 (t.dcc ch).cnts 2 = tget 0 (s.dcc ch).cnts 2 + 1 ∧
        (t.ring 7 0).dev = ((s.ring 7 0).dev + 1) % ringLen 7 (s.ring 7 0) ∧
        ((s.ring 7 0).intMode = 0 →
          let u := min (16 + body.length) d.len.toNat
          let info := body.take (d.len.toNat - 16)
          let header := leBytes 1 ch ++ leBytes 1 0 ++ leBytes 2 body.length ++ leBytes 4 0 ++ leBytes 4 f.at_.toNat ++ leBytes 4 0
          t.hostMem = memWrite (memWrite (memWrite (memWrite s.hostMem (d.addr.toNat + 16) info) (d.addr.toNat + 16) info)
              d.addr.toNat (header.take u))
              ((s.ring 7 0).base.toNat / 4096 * 4096 + 16 * (s.ring 7 0).dev + 8)
              (leBytes 4 u ++ leBytes 1 (if u < 16 + body.length then 1 else 0) ++ [0] ++ leBytes 2 (putB (s.ring 7 0).phase 15))))) ∧
  (∀ (n : Fin 64) (s : State) (o : CmacOp) (e : DccOut), s.sec.ops = [o] → o.bound = true → o.slot = n.val → o.verify = false →
    s.upsetAt (.cmac n) = none → (s.dcc o.ch).txQ = [e] → e.id = o.id → Does (.cmacDone n) s fun t =>
      let tag := (cmac o.aes256 o.key (cmacMsg o.ch o.seqNo o.info)).take 8
      t.sec.ops = [] ∧ (t.dcc o.ch).txQ = [{ e with ready := some (o.info ++ (leBytes 4 o.seqNo.toNat).reverse ++ tag) }]) ∧
  (∀ (g : Fin 256) (s : State), s.flt.queue.length < 64 → Does (.qptr (.stream g)) s fun t => (t.strm g).rows = [] ∧
    t.flt.queue = insertMsg { source := 0x142, kind := Kind.qptr.code, cls := Kind.qptr.cls, addr := BitVec.ofNat 32 g, data := 0,
                              at_ := s.now } s.flt.queue) ∧
  (∀ (c : Fin 64) (s : State), s.flt.queue.length < 64 → Does (.qptr (.gfpTx c)) s (fun t => (t.gfp c).held = [] ∧
      t.flt.queue = insertMsg { source := 0x0C0 + c, kind := Kind.qptr.code, cls := Kind.qptr.cls, addr := BitVec.ofNat 32 c, data := 0,
                                at_ := s.now } s.flt.queue) ∧
    Does (.qptr (.gfpRx c)) s (fun t => (s.gfp c).rx.isSome = true → (t.gfp c).delin = 0 ∧ (t.gfp c).lfd = true) ∧
    Does (.qptr (.dcc c)) s (fun t => (t.dcc c).txQ = [] ∧ (t.dcc c).rxDone = [] ∧ (t.dcc c).rx = {} ∧
      (t.dcc c).txBits = (if (s.dcc c).txBits = [] then [] else List.replicate 7 true) ∧
      (s.sec.ops = [] → s.sec.ox = [] → t.flt.queue = insertMsg
        { source := 0x100 + c / 2, kind := Kind.qptr.code, cls := Kind.qptr.cls, addr := BitVec.ofNat 32 c, data := 0, at_ := s.now }
        s.flt.queue)))

/-! ### Keys, locks, resources, pins -/

/-- O49. KEY_LOAD writes the slot: loaded, its length, the key, counter 0 and no poison; the windows of the channels that
verify with it are empty. KEY_ERASE clears LOADED and the key at its boundary, and a slot that is not loaded completes OK
without effect. No other slot changes. -/
def Obligations.KeyCommands : Prop :=
  (∀ (h : Hdr) (n : Nat) (w : Bool) (k : List Byte) (s : State), Carries (.keyLoad n w k) s → Does (.keyLoad h n w k) s fun t =>
    DoneWith h 0 s t ∧ (t.key n).loaded = true ∧ (t.key n).aes256 = w ∧ (t.key n).key = bytesAt k 0 (if w then 32 else 16) ∧
    (t.key n).ctr = 0 ∧ (t.key n).poison = false ∧ (∀ m, m ≠ n → t.key m = s.key m) ∧
    ∀ ch, (s.dcc ch).auth.rxEn = true → (s.dcc ch).auth.rxSlot = n → (t.dcc ch).win = none) ∧
  (∀ (h : Hdr) (n : Nat) (s : State), Carries (.keyErase n) s → (s.key n).loaded = true → Does (.keyErase h n) s fun t =>
    DoneWith h 0 s t ∧ (t.key n).loaded = false ∧ (t.key n).usable = false ∧ (t.key n).key = [] ∧ ∀ m, m ≠ n → t.key m = s.key m) ∧
  ∀ (h : Hdr) (n : Nat) (s : State), Carries (.keyErase n) s → (s.key n).loaded = false → Does (.keyErase h n) s fun t =>
    DoneWith h 0 s t ∧ t.sec = s.sec

/-- O50. RES_RELEASE of a lock makes it FREE if the issuing CQ holds it; otherwise the command has no effect, completes OK
with RESULT 0, and the holder keeps the lock. -/
def Obligations.LockRelease : Prop :=
  ∀ (h : Hdr) (i : Nat) (s : State), Carries (.resRelease 5 i) s → s.upsets = [] → Does (.resRelease h 5 i) s fun t =>
    DoneWith h 0 s t ∧
    ((s.lock i).state = 1 → (s.lock i).owner = 0x0800 + h.ring.val → (t.lock i).state = 0) ∧
    ((s.lock i).state ≠ 1 ∨ (s.lock i).owner ≠ 0x0800 + h.ring.val → t.sec.locks = s.sec.locks) ∧
    ∀ j, j ≠ i → t.lock j = s.lock j

/-- O51. RES_CLAIM of a lock: a FREE or BROKEN lock is held by the claiming CQ with the lease, and a BROKEN one answers
LOCK_BROKEN with the former owner; its own lock is renewed; another's answers RES_BUSY with the holder and nothing
happens. A FREE lock whose state word is uncorrectable is found BROKEN (assumption 177). A lease that has run out breaks the lock,
its owner recorded, cause 0, with LOCK_BROKEN (assumption 108); on another lock the row does nothing (assumption 15). -/
def Obligations.LockClaim : Prop :=
  (∀ (h : Hdr) (i l : Nat) (s : State), Carries (.resClaim 5 i l) s → s.upsets = [] →
    let a := s.lock i
    let me := 0x0800 + h.ring.val
    (a.state = 0 → Does (.resClaim h 5 i l) s fun t => DoneWith h 0 s t ∧
      t.lock i = { state := 1, owner := me, cause := 0, left := l, since := s.stp.frame } ∧ ∀ j, j ≠ i → t.lock j = s.lock j) ∧
    (a.state = 2 → Does (.resClaim h 5 i l) s fun t =>
      t.lock i = { state := 1, owner := me, cause := 0, left := l, since := s.stp.frame } ∧
      ∃ x : Comp, t.ce.comps = s.ce.comps ++ [x] ∧ x.status = 0x0C ∧ x.result = BitVec.ofNat 32 a.owner) ∧
    (a.state = 1 → a.owner = me → Does (.resClaim h 5 i l) s fun t => DoneWith h 0 s t ∧ t.lock i = { a with left := l }) ∧
    (a.state = 1 → a.owner ≠ me → Does (.resClaim h 5 i l) s fun t => t.sec.locks = s.sec.locks ∧
      ∃ x : Comp, t.ce.comps = s.ce.comps ++ [x] ∧ x.status = 0x07 ∧ x.result = BitVec.ofNat 32 a.owner)) ∧
  (∀ (h : Hdr) (i : Fin 256) (l : Nat) (s : State), Carries (.resClaim 5 i l) s → s.upsets = [{ mem := .lock i, double := true }] →
    (s.lock i).state = 0 → Does (.resClaim h 5 i l) s fun t =>
      t.lock i = { state := 1, owner := 0x0800 + h.ring.val, cause := 0, left := l, since := s.stp.frame } ∧ t.upsets = [] ∧
      ∃ x : Comp, t.ce.comps = s.ce.comps ++ [x] ∧ x.status = 0x0C ∧ x.result = BitVec.ofNat 32 (s.lock i).owner) ∧
  (∀ (i : Fin 256) (s : State), (s.lock i).state = 1 → (s.lock i).left = 0 → s.upsets = [] →
    s.flt.queue.length < 64 → Does (.leaseExpiry i) s fun t => (t.lock i).state = 2 ∧ (t.lock i).owner = (s.lock i).owner ∧
      (t.lock i).cause = 0 ∧ t.flt.queue = insertMsg
        { source := 0x185, kind := 0xB0, cls := 3, addr := BitVec.ofNat 32 i, data := BitVec.ofNat 64 (s.lock i).owner, at_ := s.now,
          masked := s.rb 0x7014 0 } s.flt.queue) ∧
  ∀ (i : Fin 256) (s : State), (s.lock i).state ≠ 1 ∨ (s.lock i).left ≠ 0 → exec (.leaseExpiry i) s = .next s

/-- O52. The registry: a host reservation of a free resource; RES_BUSY with the owner's code of one that is held; a release
ends the reservation, or only the one behind a feature. A register claim takes its resources together or sets REFUSED and
takes none; the claim rows act as the writes of those registers do. -/
def Obligations.ResourceClaims : Prop :=
  (∀ (h : Hdr) (r i l : Nat) (s : State), Carries (.resClaim r i l) s → r < 5 → s.upsets = [] →
    ((s.res (resKey r i)).owner = none → Does (.resClaim h r i l) s fun t => DoneWith h 0 s t ∧
      (t.res (resKey r i)).owner = some 0 ∧ ∀ k, k ≠ resKey r i → t.res k = s.res k) ∧
    (∀ o, (s.res (resKey r i)).owner = some o → Does (.resClaim h r i l) s fun t => t.sec.res = s.sec.res ∧
      ∃ x : Comp, t.ce.comps = s.ce.comps ++ [x] ∧ x.status = 0x07 ∧ x.result = BitVec.ofNat 32 o)) ∧
  (∀ (h : Hdr) (r i : Nat) (s : State), Carries (.resRelease r i) s → r < 5 → s.upsets = [] → Does (.resRelease h r i) s fun t =>
    DoneWith h 0 s t ∧ ((s.res (resKey r i)).owner = some 0 → (t.res (resKey r i)).owner = none) ∧
    ((s.res (resKey r i)).owner ≠ some 0 → t.res (resKey r i) = { s.res (resKey r i) with behind := false })) ∧
  (∀ (v : Word) (s : State) (n : Fin 16) (m : Fin 2) (g : Fin 8),
    exec (.resourceRegisterClaim (.timer n) v) s = exec (.timerEnable n v) s ∧
    exec (.resourceRegisterClaim (.refout m) v) s = exec (.refoutEnable m v) s ∧
    exec (.resourceRegisterClaim (.hwyGroup g) v) s = exec (.hwyCfgWrite (.group g) v) s) ∧
  (∀ (k : Fin 8) (v : Word) (s : State), wbit v 31 = true → s.rb (0xB0040 + 0x10 * k.val) 31 = false → s.upsets = [] → s.flt.flip = none →
    Does (.resourceRegisterClaim (.capt k) v) s fun t =>
      let free := s.claimable (resKey 3 k) = true ∧ s.claimable (resKey 0 (wfld v 16 4)) = true
      (free → (t.capt k).held = some (wfld v 16 4) ∧ (t.capt k).refused = false ∧
        (t.res (resKey 3 k)).owner = some (0x0600 + k.val) ∧ (t.res (resKey 0 (wfld v 16 4))).owner = some (0x0600 + k.val)) ∧
      (¬ free → (t.capt k).held = none ∧ (t.capt k).refused = true ∧ t.sec.res = s.sec.res)) ∧
  (∀ (a : Fin 3) (v : Word) (s : State), wbit v 31 = true → s.rb (0xB0020 + 4 * a.val) 31 = false → s.upsets = [] → s.flt.flip = none →
    Does (.resourceRegisterClaim (.alt a) v) s fun t =>
      let free := s.claimable (resKey 4 a) = true ∧ s.claimable (resKey 0 (wfld v 16 4)) = true
      (free → tget (none, false) t.pin.alt a = (some (wfld v 16 4), false) ∧
        (t.res (resKey 4 a)).owner = some (0x0500 + a.val) ∧ (t.res (resKey 0 (wfld v 16 4))).owner = some (0x0500 + a.val)) ∧
      (¬ free → tget (none, false) t.pin.alt a = (none, true) ∧ t.sec.res = s.sec.res)) ∧
  ∀ (k : Fin 8) (v : Word) (s : State), wbit v 31 = false → Does (.resourceRegisterClaim (.capt k) v) s fun t =>
    (t.capt k).held = none ∧ (t.capt k).refused = false ∧ (t.capt k).queue = []

/-- O53. An edge at a GPIO enters the queue of each buffer that captures it and asks for that edge, time-stamped at the ball;
with 16 held it is dropped with OVF. A 64-bit read of CAPT_DATA takes the oldest entry; of an empty queue, nothing. -/
def Obligations.Captures : Prop :=
  (∀ (p : Fin 16) (rise : Bool) (s : State), Does (.captureEdge p rise) s fun t =>
    t.pin.gpioIn.getLsbD p = rise ∧ ∀ k : Fin 8,
      let e := s.rf (0xB0040 + 0x10 * k.val) 24 2
      let want := (s.capt k).held = some p.val ∧ (if rise then e % 2 = 1 else e / 2 = 1)
      (want → (s.capt k).queue.length < 16 → t.capt k = { s.capt k with queue := (s.capt k).queue ++ [(s.now.back 1, rise)] }) ∧
      (want → 16 ≤ (s.capt k).queue.length → t.capt k = { s.capt k with ovf := true }) ∧
      (¬ want → t.capt k = s.capt k)) ∧
  (∀ (k : Fin 8) (s : State) (x : Pos × Bool) (r : List (Pos × Bool)), (s.capt k).queue = x :: r → Does (.captDataRead k) s fun t =>
    t.capt k = { s.capt k with queue := r } ∧ ∀ j, j ≠ k.val → t.capt j = s.capt j) ∧
  ∀ (k : Fin 8) (s : State), (s.capt k).queue = [] → exec (.captDataRead k) s = .next s

/-! ### The management plane -/

/-- O54. PM_CFG includes a unit or leaves it out; the next part of an open bank goes whole into a buffer of the PM ring. At
the start of a story second the bank is latched: where PM is enabled and its ring runs, the records of the included units, open
for delivery with the second, the frame and the flags; a bank that was still open is lost with PM_LOST, and so is one that cannot
be delivered (a bank of a second without MP is lost without a message, assumption 82). The defect-seen bits are cleared (those
that stand are seen again by what reads them, assumption 83), sampling and the sweep begin (assumption 85). -/
def Obligations.PmAndSeconds : Prop :=
  (∀ (h : Hdr) (sc i : Nat) (on : Bool) (s : State), Carries (.pmCfg sc i on) s → Does (.pmCfg h sc i on) s fun t =>
    DoneWith h 0 s t ∧ tget false t.mgt.incl (65536 * sc + i) = on ∧
    ∀ k, k ≠ 65536 * sc + i → tget false t.mgt.incl k = tget false s.mgt.incl k) ∧
  (∀ (d : BufDesc) (s : State), s.hasBuf 9 0 = true → s.mgt.bankOpen = true → s.mpIn = true → bufOk d = true → 80 ≤ d.len.toNat →
    let n := min s.mgt.bank.length ((d.len.toNat - 32) / 48)
    Does (.pmPartWrite d) s fun t =>
      t.mgt = { s.mgt with bank := s.mgt.bank.drop n, bankPart := s.mgt.bankPart + 1, bankOpen := decide (n ≠ s.mgt.bank.length) } ∧
      (t.ring 9 0).dev = ((s.ring 9 0).dev + 1) % ringLen 9 (s.ring 9 0) ∧
      ((s.ring 9 0).intMode = 0 → ∃ wb : List Byte, wb.length = 8 ∧ t.hostMem =
        memWrite (memWrite s.hostMem d.addr.toNat
            (s.pmHeader n (decide (n = s.mgt.bank.length)) ++ (s.mgt.bank.take n).flatMap PmRec.bytes))
          ((s.ring 9 0).base.toNat / 4096 * 4096 + 16 * (s.ring 9 0).dev + 8) wb)) ∧
  (∀ (x : Sample) (s : State), s.stp.atSecond = true → Does (.storySecond x) s fun t =>
    t.stp.atSecond = false ∧ t.mgt.second = s.mgt.second + 1 ∧ t.mgt.sweepOn = true ∧ t.mgt.seen = [] ∧
    t.mgt.calSeconds = s.mgt.calSeconds + 1 ∧
    (s.mpIn = true → s.glb.svc = false → t.mgt.sensFrame = s.stp.frame ∧ t.mgt.power = x.power ∧
      ∀ k v, k < 8 → x.temps[k]? = some v → tget 0 t.mgt.temp k = v) ∧
    t.stp.short = false ∧ t.stp.epochIn = false ∧ t.mgt.bankPart = 0 ∧
    (let recs := (tkeys (fun b => b) s.mgt.incl).map (fun k =>
       ({ scope := k / 65536, index := k % 65536, defects := s.pmSeen (k / 65536) (k % 65536),
          cnts := s.pmCounters (k / 65536) (k % 65536) } : PmRec))
     let deliver := s.mpIn = true ∧ s.rb 0xA0000 31 = true ∧ s.ringRun 9 0 = true
     (deliver → t.mgt.bankOpen = true ∧ t.mgt.bank = recs ∧ t.mgt.bankTotal = recs.length ∧ t.mgt.bankFrame = s.stp.frame ∧
       t.mgt.bankFlags = putB (s.mgt.lostBefore || s.mgt.bankOpen) 2 + putB s.stp.epochIn 1 + putB s.stp.short 0 ∧
       t.mgt.lostBefore = false) ∧
     (¬ deliver → t.mgt.bankOpen = false ∧ t.mgt.bank = [] ∧ t.mgt.lostBefore = true) ∧
     (s.mpIn = true → s.flt.queue.length < 56 →
       let lost (n : Word) : Msg := { source := 0x161, kind := Kind.pmLost.code, cls := Kind.pmLost.cls, addr := n, data := 0, at_ := s.now }
       (s.mgt.bankOpen = true → lost s.mgt.second ∈ t.flt.queue) ∧ (¬ deliver → lost (s.mgt.second + 1) ∈ t.flt.queue)))) ∧
  ∀ (x : Sample) (s : State), s.stp.atSecond = false → exec (.storySecond x) s = .next s

/-- O55. The counters: a snapshot copies all 13 with its position; FREEZE stops and restarts them; a preset stores 48 bits; a
counter that advances past its last value (by a row of its own, assumption 88) wraps to 0 and sets its overflow bit; one that
counts no event of Table MG-4 does not advance. The chalk-log registers: MARK moves to a
pointer from the old mark to WR and refuses any other with MARK_ERR; RIDX loads the window with the entry it names, zero
outside the valid ones; MIRROR from 0 to 1 sets MIRR to WR. -/
def Obligations.CountersAndLogRegisters : Prop :=
  ((∀ s : State, exec .pmcSnap s = .next { s with pmc := { s.pmc with shadow := s.pmc.cnt, snap := s.now } }) ∧
  (∀ (on : Bool) (s : State), Does (.pmcFreeze on) s fun t => t.pmcFrozen = on ∧ t.pmc = s.pmc ∧
    t.reg 0x6000 &&& ~~~ 2#32 = s.reg 0x6000 &&& ~~~ 2#32) ∧
  (∀ (j : Fin 13) (v : DWord) (s : State), Does (.pmcPreset j v) s fun t =>
    tget 0 t.pmc.cnt j = v.toNat % 2 ^ 48 ∧ ∀ k, k ≠ j.val → tget 0 t.pmc.cnt k = tget 0 s.pmc.cnt k) ∧
  (∀ (j : Fin 13) (s : State), s.pmcCounts j = false → exec (.pmcOvf j) s = .next s) ∧
  (∀ (j : Fin 13) (s : State), s.pmcFrozen = true → exec (.pmcOvf j) s = .next s ∧ ∀ n, s.pmcAdd j n = s) ∧
  ∀ (j : Fin 13) (s : State), s.pmcCounts j = true → s.pmcFrozen = false → Does (.pmcOvf j) s fun t =>
    tget 0 t.pmc.cnt j = 0 ∧ t.pmc.ovf.getLsbD j = true ∧ ∀ k, k ≠ j.val → tget 0 t.pmc.cnt k = tget 0 s.pmc.cnt k) ∧
  ((∀ (v : Word) (s : State), let m := wfld v 0 14
    exec (.logMarkWrite v) s = .next { s with log := if (m + 16384 - s.log.mark) % 16384 ≤ (s.log.wr + 16384 - s.log.mark) % 16384
      then { s.log with mark := m } else { s.log with markErr := true } }) ∧
  (∀ (v : Word) (s : State), Does (.logRidxWrite v) s fun t => t.log = { s.log with rdata := s.log.at (wfld v 0 14) } ∧
    t.rf 0x5020 0 14 = wfld v 0 14) ∧
  ∀ (v : Word) (s : State), Does (.logCfgWrite v) s fun t => wfld (t.reg 0x5000) 0 3 = wfld v 0 3 ∧
    (wbit v 1 = true → s.rb 0x5000 1 = false → t.log = { s.log with mirr := s.log.wr }) ∧
    (wbit v 1 = false ∨ s.rb 0x5000 1 = true → t.log = s.log))

/-- O56. Scrubbing: the sweep reads a word; a single-bit error it finds is corrected in place and counted; outside a sweep, or
with MP out of service, nothing happens. Calibration starts its 64 seconds again. The legacy commands start their task
while SVC is on and none runs, and else set ERR; a task completes at the end of the next window, F:2304 to F:2429, that begins
after its write (assumption 87), and sets DONE, and SCRUB_REPORT clears the scrub
counts. GLB.MODE is stored and waits for the boundary. -/
def Obligations.ScrubCalLegacy : Prop :=
  (∀ (m : Mem) (s : State), s.mgt.sweepOn = true → s.mpIn = true → s.upsetAt m = none → exec (.scrubWord m none) s =
    .next { s with mgt := { s.mgt with toScrub := s.mgt.toScrub.filter (fun u => decide (u.mem ≠ m)) } }) ∧
  (∀ (k : Fin 64) (s : State), s.mgt.sweepOn = true → s.mpIn = true → s.upsetAt (.key k) = some false →
    Does (.scrubWord (.key k) none) s fun t => t.mgt.scrubCe = s.mgt.scrubCe + 1 ∧ t.upsetAt (.key k) = none ∧ t.key k = s.key k) ∧
  (∀ (m : Mem) (u : Option Bool) (s : State), s.mgt.sweepOn = false ∨ s.mpIn = false → exec (.scrubWord m u) s = .next s) ∧
  (∀ s : State, 64 ≤ s.mgt.calSeconds → s.mpIn = true → s.glb.svc = false →
    exec .calibration s = .next { s with mgt := { s.mgt with calSeconds := 0, cals := s.mgt.cals + 1 } }) ∧
  (∀ (i : Instr) (n : Nat) (s : State), ((i = .legacySense ∧ n = 1) ∨ (i = .legacyCal ∧ n = 2) ∨ (i = .legacyScrubReport ∧ n = 3)) →
    (s.mgt.legacyTask = 0 → s.glb.svc = true → exec i s = .next { s with mgt := { s.mgt with
      legacyTask := n, legacyLeft := if s.stp.phase < 2304 then 1 else 2 } }) ∧
    (s.mgt.legacyTask ≠ 0 ∨ s.glb.svc = false → exec i s = .next { s with mgt := { s.mgt with legacyErr := true } })) ∧
  (∀ (x : Sample) (s : State), s.glb.svc = false ∨ 2 ≤ s.mgt.legacyLeft ∨ s.stp.phase ≠ 2429 → exec (.legacyDone x) s = .next s) ∧
  (∀ (x : Sample) (s : State), s.mgt.legacyTask ≠ 0 → s.mpIn = true → s.glb.svc = true → s.mgt.legacyLeft ≤ 1 → s.stp.phase = 2429 →
    Does (.legacyDone x) s fun t =>
    t.mgt.legacyTask = 0 ∧ t.mgt.legacyDone = true ∧
    (s.mgt.legacyTask = 3 → t.mgt.scrubCe = 0 ∧ t.mgt.scrubUe = 0 ∧ tget 0 t.mgt.legacyData 14 = s.mgt.scrubCe ∧
      tget 0 t.mgt.legacyData 15 = s.mgt.scrubUe)) ∧
  ∀ (v : Word) (s : State), Does (.svcModeWrite v) s fun t => t.glb = s.glb ∧ t.rb 0x000C 0 = wbit v 0

/-! ### Faults, the bus, the frame, the register map -/

/-- O57. The collector takes the oldest message. A fault enters the log at WR with the next SEQ, sets its source's cause bit
and is captured if nothing is; a fatal one enters the fatal state and discards the due table. Then the reactions of its entry
(13 R364, R365): INT writes an EV entry (Table HR-8), NMI traps CP and MP where they are in service and sets its cause, ERR_N
latches the pin for its width, BLK_RST resets the unit that the source names, CHIP_RST asks for the warm reset unless one is
asked for. A NET message is written to EV unless its block masks it, and to the log where LOG.CFG.NET is 1 or it is a record,
masked or not (assumption 91); an entry that finds no room in EV is lost and counted. An empty queue changes nothing. -/
def Obligations.CollectorTakes : Prop :=
  (∀ s : State, s.flt.queue = [] → exec .collectorTake s = .next s) ∧
  (∀ (s : State) (m : Msg) (r : List Msg), s.flt.queue = m :: r → m.cls ≠ 3 → m.source < 512 → s.logStopped = false → s.rb 0x5000 1 = false →
    s.upsets = [] →
    let e : LogEntry := { time := s.now, cls := m.cls, source := m.source, kind := m.kind, seq := s.log.seq, addr := m.addr, data := m.data }
    let x := s.reaction m.source m.cls
    let ring := s.ring 8 0
    Does .collectorTake s fun t =>
      tget {} t.log.entries (s.log.wr % 8192) = e ∧ t.log.wr = (s.log.wr + 1) % 16384 ∧ t.log.seq = s.log.seq + 1 ∧
      t.flt.cause.getLsbD m.source = true ∧ t.flt.first = (if s.flt.first.isSome then s.flt.first else some e) ∧
      t.flt.fatal = (s.flt.fatal || decide (m.cls = 2)) ∧
      (m.cls = 2 → t.flt.firstFatal = (if s.flt.firstFatal.isSome then s.flt.firstFatal else some e)) ∧
      (m.cls = 2 → s.flt.fatal = false → t.ce.due = [] ∧ t.ce.comps = [] ∧ t.hif.fatalCause = true) ∧
      (x = 1#5 → m.cls ≠ 2 → s.evRoom = true → ring.intMode = 0 → (t.ring 8 0).dev = (ring.dev + 1) % ringLen 8 ring ∧
        t.hostMem = memWrite s.hostMem (ring.base.toNat / 4096 * 4096 + 32 * ring.dev)
          (leBytes 2 (putB true 13 + put m.source 0 9) ++ leBytes 1 m.kind ++ leBytes 1 (put m.cls 6 2) ++ leBytes 4 m.addr.toNat ++
            leBytes 8 m.data.toNat ++ leBytes 6 s.now.stamp ++ leBytes 2 s.log.seq.toNat ++ leBytes 2 (min s.hif.evGap 0xFFFF) ++
            leBytes 2 0 ++ leBytes 4 (putB ring.phase 31))) ∧
      (x = 1#5 → m.cls ≠ 2 → s.evRoom = false → t.hif.evLost = satInc 32 s.hif.evLost 1 ∧ t.hostMem = s.hostMem) ∧
      (x.getLsbD 0 = false → (t.ring 8 0).dev = ring.dev ∧ t.hif.evLost = s.hif.evLost) ∧
      (x.getLsbD 1 = true → t.hif.nmiCause = true ∧
        (x.getLsbD 3 = false → t.glb.nmiTrap = s.glb.nmiTrap ||| (0b11#7 &&& s.insvcBits))) ∧
      (x.getLsbD 2 = true → t.flt.errLatch = true ∧ t.flt.errLeft = s.errWidth ∧ t.flt.errWait = false) ∧
      (x.getLsbD 2 = false → t.flt.errLatch = s.flt.errLatch ∧ t.flt.errLeft = s.flt.errLeft ∧ t.flt.errWait = s.flt.errWait) ∧
      t.glb.rstReq = (if x.getLsbD 4 = true ∧ s.glb.rstReq = none then some (true, m.source, m.kind) else s.glb.rstReq) ∧
      (x = 8#5 → m.cls ≠ 2 → ∃ u : State, (t = if blkAccepted m.source then u.blkRst m.source m.addr.toNat else u) ∧ u.log = t.log ∧
        u.flt.queue = r ∧ ∀ p : Part, p ≠ .log → p ≠ .flt → p ≠ .inbox → p.same s u)) ∧
  (∀ (s : State) (m : Msg) (r : List Msg), s.flt.queue = m :: r → m.cls = 3 → s.rb 0x5000 2 = false → isRecord m.kind = false →
    let ring := s.ring 8 0
    Does .collectorTake s fun t => t.log = s.log ∧ t.flt = { s.flt with queue := r } ∧
      (m.masked = true → t = { s with flt := { s.flt with queue := r } }) ∧
      (m.masked = false → s.evRoom = true → ring.intMode = 0 → (t.ring 8 0).dev = (ring.dev + 1) % ringLen 8 ring ∧
        t.hostMem = memWrite s.hostMem (ring.base.toNat / 4096 * 4096 + 32 * ring.dev)
          (leBytes 2 (put m.source 0 9) ++ leBytes 1 m.kind ++ leBytes 1 (put 3 6 2) ++ leBytes 4 m.addr.toNat ++
            leBytes 8 m.data.toNat ++ leBytes 6 s.now.stamp ++ leBytes 2 0 ++ leBytes 2 (min s.hif.evGap 0xFFFF) ++
            leBytes 2 0 ++ leBytes 4 (putB ring.phase 31))) ∧
      (m.masked = false → s.evRoom = false → t.hif.evLost = satInc 32 s.hif.evLost 1 ∧ t.hostMem = s.hostMem)) ∧
  ∀ (s : State) (m : Msg) (r : List Msg), s.flt.queue = m :: r → m.cls = 3 → s.rb 0x5000 2 = true ∨ isRecord m.kind = true →
    s.logStopped = false → s.rb 0x5000 1 = false → Does .collectorTake s fun t =>
      tget {} t.log.entries (s.log.wr % 8192) =
        { time := s.now, cls := 3, source := m.source, kind := m.kind, seq := s.log.seq, addr := m.addr, data := m.data } ∧
      t.log.wr = (s.log.wr + 1) % 16384 ∧ t.log.seq = s.log.seq + 1 ∧ t.flt = { s.flt with queue := r } ∧
      (m.masked = true → t.hif = s.hif ∧ t.hostMem = s.hostMem)

/-- O58. ERR_N: an assert latches it and starts its width again; a release acts once the width has passed, and waits until
then. The first-fault captures are cleared by their bits, the fatal one not in the fatal state. A write of RDATA stores
the reaction of the entry that RIDX names, the reserved bits left out, and of no other. Injection: in mission mode nothing
but the write itself counts; in factory test mode 0x5A3C and then 0xC3A5 open it, and GO then queues the message that
INJ_CTL and INJ_ADDR describe, or arms a flip of the next word written at INJ_ADDR. -/
def Obligations.ErrorPinsAndInjection : Prop :=
  ((∀ s : State, exec .errPinAssert s =
    .next { s with flt := { s.flt with unlock1 := false, errLatch := true, errLeft := s.errWidth, errWait := false } }) ∧
  (∀ s : State, Does .errPinRelease s fun t =>
    (s.flt.errLatch = true → s.flt.errLeft = 0 → t.flt.errLatch = false ∧ t.flt.errWait = false) ∧
    (s.flt.errLatch = true → s.flt.errLeft ≠ 0 → t.flt.errLatch = true ∧ t.flt.errWait = true)) ∧
  (∀ s : State, s.flt.errWait = true → s.flt.errLeft = 0 → exec .errPinWidthExpiry s =
    .next { s with flt := { s.flt with errLatch := false, errWait := false } }) ∧
  (∀ s : State, exec .firstClr s = .next { s with flt := { s.flt with unlock1 := false, first := none } }) ∧
  (∀ s : State, s.flt.fatal = false → exec .firstClrFatal s = .next { s with flt := { s.flt with unlock1 := false, firstFatal := none } }) ∧
  (∀ s : State, s.flt.fatal = true → Does .firstClrFatal s fun t => t.flt.firstFatal = s.flt.firstFatal) ∧
  ∀ (v : Word) (s : State), let src := wfld (s.reg 0x4080) 2 9
    let cls := wfld (s.reg 0x4080) 0 2
    Does (.reactionWrite v) s fun t =>
      (cls ≠ 3 → t.reaction src cls = BitVec.ofNat 5 v.toNat &&& reactMask src) ∧ (cls = 3 → t.flt.react = s.flt.react) ∧
      ∀ a c, 4 * a + c ≠ 4 * src + cls → t.reaction a c = s.reaction a c) ∧
  ((∀ (v : Word) (s : State), s.flt.test = false → exec (.injUnlock v) s = .next s ∧
    exec (.injGo v) s = .next { s with flt := { s.flt with unlock1 := false } }) ∧
  (∀ (v : Word) (s : State), s.flt.test = true → Does (.injUnlock v) s fun t =>
    t.flt.unlock1 = decide (wfld v 0 16 = 0x5A3C) ∧
    t.flt.injOpen = (s.flt.injOpen || (s.flt.unlock1 && decide (wfld v 0 16 = 0xC3A5)))) ∧
  ∀ (v : Word) (s : State), s.flt.test = true → s.flt.injOpen = true → s.flt.queue.length < 64 → Does (.injGo v) s fun t =>
    (wbit v 30 = false → t.flt.queue = insertMsg
      { source := wfld v 18 9, kind := wfld v 0 8, cls := wfld v 27 2, addr := s.reg 0x4188, data := 0, at_ := s.now } s.flt.queue) ∧
    (wbit v 30 = true → t.flt.flip = some (wfld v 18 9, s.reg 0x4188, wbit v 29) ∧ t.flt.queue = s.flt.queue))

/-- O59. What raises a message, and with what else: power failure, at each assertion, with the squelch and, over a link that is up,
the flush of the log where they are set, and its end; a missed
heartbeat, a processor's exception and its address, a PLL that loses lock, a grant not answered. A processor that does not
run its firmware raises nothing. The return from an NMI ends the trap. -/
def Obligations.FaultSources : Prop :=
  (∀ s : State, s.flt.queue.length < 64 → Does .pfail s fun t => t.flt.pfail = true ∧
    t.flt.pfSquelch = (s.flt.pfSquelch || s.rb 0x4010 0) ∧
    t.flt.queue = insertMsg { source := 0x188, kind := Kind.pfail.code, cls := Kind.pfail.cls, addr := 0, data := 1, at_ := s.now } s.flt.queue ∧
    (s.rb 0x4010 1 = false ∨ s.hif.linkUp = false → t.log = s.log ∧ t.hostMem = s.hostMem) ∧
    (s.rb 0x4010 1 = true → s.hif.linkUp = true → t.log = if s.rb 0x5000 1 then { s.log with mirr := s.log.wr } else s.log)) ∧
  (∀ s : State, s.flt.pfail = false → exec .pfailClear s = .next s) ∧
  (∀ s : State, s.flt.pfail = true → s.flt.queue.length < 64 → Does .pfailClear s fun t => t.flt.pfail = false ∧ t.flt.pfSquelch = false ∧
    t.flt.queue = insertMsg { source := 0x188, kind := Kind.pfail.code, cls := Kind.pfail.cls, addr := 0, data := 0, at_ := s.now } s.flt.queue) ∧
  (∀ (p : Fin 7) (s : State), s.procRuns p = true → s.flt.queue.length < 64 → Does (.procWdt p) s fun t => t = { s with flt := { s.flt with
    queue := insertMsg { source := 0x160 + p.val, kind := Kind.procWdt.code, cls := Kind.procWdt.cls, addr := 0, data := 0, at_ := s.now }
      s.flt.queue } }) ∧
  (∀ (p : Fin 7) (a : Word) (s : State), s.procRuns p = true → s.flt.queue.length < 64 → Does (.procExc p a) s fun t =>
    let m : Msg := { source := 0x160 + p.val, kind := Kind.procExc.code, cls := Kind.procExc.cls, addr := a, data := 0, at_ := s.now }
    t = { s with flt := { s.flt with queue := insertMsg m s.flt.queue } }) ∧
  (∀ (p : Fin 7) (a : Word) (s : State), s.procRuns p = false → exec (.procWdt p) s = .next s ∧ exec (.procExc p a) s = .next s) ∧
  (∀ (p : Fin 2) (s : State), s.flt.queue.length < 64 → Does (.clkLol p) s fun t => t.flt.pllLol.getLsbD p = true ∧
    t.flt.queue = insertMsg { source := 0x189, kind := Kind.clkLol.code, cls := Kind.clkLol.cls, addr := BitVec.ofNat 32 p, data := 0,
                              at_ := s.now } s.flt.queue) ∧
  (∀ (a : Fin 16) (m : Fin 9) (s : State), s.flt.queue.length < 64 → Does (.grantWdt a m) s fun t => t = { s with flt := { s.flt with
    queue := insertMsg { source := 0x170 + a.val, kind := Kind.grantWdt.code, cls := Kind.grantWdt.cls, addr := BitVec.ofNat 32 m, data := 0,
                         at_ := s.now } s.flt.queue } }) ∧
  ∀ (b : Bool) (s : State), Does (.nmiReturn b) s fun t =>
    t.glb = { s.glb with nmiTrap := s.glb.nmiTrap &&& ~~~ (1#7 <<< b2n b) }

/-- O60. BUS.COMMIT: all nine ACTIVE values take their SHADOW values; BUS.FREEZE is stored. A register write that is
narrow or not aligned, or where no register stands, is discarded; one to a word whose register has no write effect stores the
bits it writes, and nothing else changes (in the FLT block it breaks off the unlock sequence, R376); a 64-bit write of a counter is
its preset; the words with effects act as the rows of those writes. -/
def Obligations.BusAndRegisters : Prop :=
  (∀ s : State, Does .busCommit s fun t => t = { s with bus := { s.bus with active := t.bus.active } } ∧
    ∀ m, m < 9 → tget 0 t.bus.active m = s.rf (0x8000 + 4 * m) 0 4) ∧
  (∀ (v : Word) (s : State), Does (.busFreezeWrite v) s fun t => t.bus = s.bus ∧
    t.reg 0x8044 = (s.reg 0x8044 &&& 0xFFFF0200) ||| (v &&& 0xFDFF)) ∧
  (∀ (o : Nat) (v : DWord) (s : State), (o % 4 ≠ 0 ∨ regRow o = none → exec (.registerWrite o 4 v) s = .next s) ∧
    (o % 8 ≠ 0 → exec (.registerWrite o 8 v) s = .next s) ∧
    ∀ n, n ≠ 4 → n ≠ 8 → exec (.registerWrite o n v) s = .next s) ∧
  (∀ (o : Nat) (v : DWord) (s : State), o % 4 = 0 → (regRow o).isSome = true → hasWriteEffect o = false →
    Does (.registerWrite o 4 v) s fun t =>
      t.reg o = (s.reg o &&& ~~~ regMask o) ||| (v.extractLsb' 0 32 &&& regMask o) ∧ (∀ w, w ≠ o → t.reg w = s.reg w) ∧
      t = { s with cfg := t.cfg }) ∧
  (∀ (o : Nat) (v : DWord) (s : State), o = 0x4008 ∨ o = 0x4010 ∨ o = 0x4080 → Does (.registerWrite o 4 v) s fun t =>
    t.reg o = (s.reg o &&& ~~~ regMask o) ||| (v.extractLsb' 0 32 &&& regMask o) ∧ (∀ w, w ≠ o → t.reg w = s.reg w) ∧
    t = { s with cfg := t.cfg, flt := { s.flt with unlock1 := false } }) ∧
  (∀ (j : Fin 13) (v : DWord) (s : State), exec (.registerWrite (0x6100 + 8 * j) 8 v) s = exec (.pmcPreset j v) s) ∧
  (∀ (o : Nat) (v : DWord) (s : State), o % 8 = 0 → o < 0x6000 ∨ 0x7000 ≤ o → exec (.registerWrite o 8 v) s =
    .next ((s.writeWord o (v.extractLsb' 0 32)).writeWord (o + 4) (v.extractLsb' 32 32))) ∧
  ∀ (v : DWord) (s : State), let w : Word := v.extractLsb' 0 32
    exec (.registerWrite 0x1018 4 v) s = exec (.epochWrite w) s ∧ exec (.registerWrite 0x1020 4 v) s = exec (.secondOriginWrite w) s ∧
    exec (.registerWrite 0x000C 4 v) s = exec (.svcModeWrite w) s ∧ exec (.registerWrite 0x500C 4 v) s = exec (.logMarkWrite w) s ∧
    exec (.registerWrite 0x5020 4 v) s = exec (.logRidxWrite w) s ∧ exec (.registerWrite 0x5000 4 v) s = exec (.logCfgWrite w) s ∧
    exec (.registerWrite 0x4084 4 v) s = exec (.reactionWrite w) s ∧ exec (.registerWrite 0x8044 4 v) s = exec (.busFreezeWrite w) s
end

