-- ==== Sys2Proof/Laws/Frame.lean ====
section
/-! SUPPORT. Frames: which parts of the state an operation can change. `State.hide W` puts the parts that the mask `W`
names at their defaults, so that `(op s).hide W = s.hide W` says that `op` changes nothing outside `W`. The bits of a mask
are those of `Part.bit`. -/

namespace Sys2Proof.Machine

/-- `x`, or the default `d` where the mask `W` has the bit `m`. -/
def pick {α : Type} (W m : Nat) (d x : α) : α := if W &&& m = 0 then x else d

/-- The parts of `ce` that `W` names, at their defaults. -/
def Ce.hide (W : Nat) (x : Ce) : Ce :=
  { due := pick W 17592186044416 ({} : Ce).due x.due
    comps := pick W 262144 ({} : Ce).comps x.comps
    seq := pick W 262144 ({} : Ce).seq x.seq
    stall := pick W 262144 ({} : Ce).stall x.stall
    refused := pick W 262144 ({} : Ce).refused x.refused
    lastIdx := pick W 262144 ({} : Ce).lastIdx x.lastIdx
    lastRing := pick W 262144 ({} : Ce).lastRing x.lastRing
    lastStat := pick W 262144 ({} : Ce).lastStat x.lastStat
    rrRing := pick W 262144 ({} : Ce).rrRing x.rrRing
    rrLeft := pick W 262144 ({} : Ce).rrLeft x.rrLeft
    visited := pick W 262144 ({} : Ce).visited x.visited
    cycle := pick W 262144 ({} : Ce).cycle x.cycle
    failed := pick W 262144 ({} : Ce).failed x.failed }

/-- The parts of `glb` that `W` names, at their defaults. -/
def Glb.hide (W : Nat) (x : Glb) : Glb :=
  { straps := pick W 128 ({} : Glb).straps x.straps
    ready := pick W 64 ({} : Glb).ready x.ready
    insvc := pick W 64 ({} : Glb).insvc x.insvc
    nmiTrap := pick W 64 ({} : Glb).nmiTrap x.nmiTrap
    heldRst := pick W 64 ({} : Glb).heldRst x.heldRst
    svc := pick W 64 ({} : Glb).svc x.svc
    last := pick W 64 ({} : Glb).last x.last
    remap := pick W 64 ({} : Glb).remap x.remap
    rstReq := pick W 64 ({} : Glb).rstReq x.rstReq }

/-- The parts of `flt` that `W` names, at their defaults. -/
def Flt.hide (W : Nat) (x : Flt) : Flt :=
  { queue := pick W 2048 ({} : Flt).queue x.queue
    lost := pick W 2048 ({} : Flt).lost x.lost
    fatal := pick W 4096 ({} : Flt).fatal x.fatal
    self := pick W 2048 ({} : Flt).self x.self
    pfail := pick W 8192 ({} : Flt).pfail x.pfail
    pfSquelch := pick W 8192 ({} : Flt).pfSquelch x.pfSquelch
    first := pick W 8192 ({} : Flt).first x.first
    firstFatal := pick W 8192 ({} : Flt).firstFatal x.firstFatal
    cause := pick W 8192 ({} : Flt).cause x.cause
    react := pick W 8192 ({} : Flt).react x.react
    errLatch := pick W 8192 ({} : Flt).errLatch x.errLatch
    errLeft := pick W 8192 ({} : Flt).errLeft x.errLeft
    errWait := pick W 8192 ({} : Flt).errWait x.errWait
    unlock1 := pick W 8192 ({} : Flt).unlock1 x.unlock1
    test := pick W 8192 ({} : Flt).test x.test
    injOpen := pick W 8192 ({} : Flt).injOpen x.injOpen
    flip := pick W 8192 ({} : Flt).flip x.flip
    pllLol := pick W 8192 ({} : Flt).pllLol x.pllLol }

/-- The parts of `hif` that `W` names, at their defaults. -/
def Hif.hide (W : Nat) (x : Hif) : Hif :=
  { rings := pick W 32768 ({} : Hif).rings x.rings
    vecs := pick W 65536 ({} : Hif).vecs x.vecs
    pend := pick W 65536 ({} : Hif).pend x.pend
    funcMask := pick W 65536 ({} : Hif).funcMask x.funcMask
    msgs := pick W 65536 ({} : Hif).msgs x.msgs
    bme := pick W 131072 ({} : Hif).bme x.bme
    d3hot := pick W 131072 ({} : Hif).d3hot x.d3hot
    linkUp := pick W 131072 ({} : Hif).linkUp x.linkUp
    linkWidth := pick W 131072 ({} : Hif).linkWidth x.linkWidth
    linkSpeed := pick W 131072 ({} : Hif).linkSpeed x.linkSpeed
    nmiCause := pick W 131072 ({} : Hif).nmiCause x.nmiCause
    fatalCause := pick W 131072 ({} : Hif).fatalCause x.fatalCause
    evLost := pick W 131072 ({} : Hif).evLost x.evLost
    evGap := pick W 131072 ({} : Hif).evGap x.evGap
    dbErr := pick W 131072 ({} : Hif).dbErr x.dbErr
    dbKind := pick W 131072 ({} : Hif).dbKind x.dbKind
    dbRing := pick W 131072 ({} : Hif).dbRing x.dbRing
    rstLast := pick W 131072 ({} : Hif).rstLast x.rstLast
    purged := pick W 131072 ({} : Hif).purged x.purged }

/-- The parts of `sec` that `W` names, at their defaults. -/
def Sec.hide (W : Nat) (x : Sec) : Sec :=
  { keys := pick W 1048576 ({} : Sec).keys x.keys
    ops := pick W 1048576 ({} : Sec).ops x.ops
    ox := pick W 1048576 ({} : Sec).ox x.ox
    opId := pick W 1048576 ({} : Sec).opId x.opId
    locks := pick W 2097152 ({} : Sec).locks x.locks
    res := pick W 4194304 ({} : Sec).res x.res
    cmacPoison := pick W 1048576 ({} : Sec).cmacPoison x.cmacPoison }

/-- The parts of `stp` that `W` names, at their defaults. -/
def Stp.hide (W : Nat) (x : Stp) : Stp :=
  { frame := pick W 33554432 ({} : Stp).frame x.frame
    phase := pick W 33554432 ({} : Stp).phase x.phase
    sub := pick W 33554432 ({} : Stp).sub x.sub
    snap := pick W 268435456 ({} : Stp).snap x.snap
    epoch := pick W 268435456 ({} : Stp).epoch x.epoch
    done := pick W 268435456 ({} : Stp).done x.done
    origin := pick W 33554432 ({} : Stp).origin x.origin
    originNew := pick W 268435456 ({} : Stp).originNew x.originNew
    short := pick W 268435456 ({} : Stp).short x.short
    epochIn := pick W 268435456 ({} : Stp).epochIn x.epochIn
    atSecond := pick W 268435456 ({} : Stp).atSecond x.atSecond
    dpll := pick W 134217728 ({} : Stp).dpll x.dpll
    holdReady := pick W 134217728 ({} : Stp).holdReady x.holdReady
    lockFrames := pick W 134217728 ({} : Stp).lockFrames x.lockFrames
    acqFrames := pick W 134217728 ({} : Stp).acqFrames x.acqFrames
    sel := pick W 134217728 ({} : Stp).sel x.sel
    oscFail := pick W 134217728 ({} : Stp).oscFail x.oscFail
    onXo := pick W 134217728 ({} : Stp).onXo x.onXo
    phaseErr := pick W 134217728 ({} : Stp).phaseErr x.phaseErr
    curQl := pick W 134217728 ({} : Stp).curQl x.curQl
    refs := pick W 134217728 ({} : Stp).refs x.refs
    timers := pick W 67108864 ({} : Stp).timers x.timers
    refouts := pick W 268435456 ({} : Stp).refouts x.refouts
    held := pick W 268435456 ({} : Stp).held x.held
    lgOfs := pick W 268435456 ({} : Stp).lgOfs x.lgOfs }

/-- The state with the parts that `W` names at their defaults. -/
def State.hide (W : Nat) (s : State) : State :=
  { pending := pick W 1 ({} : State).pending s.pending
    powered := pick W 2 ({} : State).powered s.powered
    freeIdx := pick W 4 ({} : State).freeIdx s.freeIdx
    cfg := pick W 8 ({} : State).cfg s.cfg
    hostMem := pick W 16 ({} : State).hostMem s.hostMem
    upsets := pick W 32 ({} : State).upsets s.upsets
    glb := s.glb.hide W
    boot := pick W 256 ({} : State).boot s.boot
    bus := pick W 512 ({} : State).bus s.bus
    i2c := pick W 1024 ({} : State).i2c s.i2c
    flt := s.flt.hide W
    log := pick W 16384 ({} : State).log s.log
    hif := s.hif.hide W
    ce := s.ce.hide W
    pmc := pick W 524288 ({} : State).pmc s.pmc
    sec := s.sec.hide W
    pin := pick W 8388608 ({} : State).pin s.pin
    mgt := pick W 16777216 ({} : State).mgt s.mgt
    stp := s.stp.hide W
    ports := pick W 536870912 ({} : State).ports s.ports
    hop := pick W 1073741824 ({} : State).hop s.hop
    scribe := pick W 2147483648 ({} : State).scribe s.scribe
    vc4s := pick W 4294967296 ({} : State).vc4s s.vc4s
    h4s := pick W 8589934592 ({} : State).h4s s.h4s
    los := pick W 17179869184 ({} : State).los s.los
    tribs := pick W 34359738368 ({} : State).tribs s.tribs
    hwys := pick W 68719476736 ({} : State).hwys s.hwys
    grps := pick W 137438953472 ({} : State).grps s.grps
    tsw := pick W 274877906944 ({} : State).tsw s.tsw
    cnf := pick W 549755813888 ({} : State).cnf s.cnf
    prt := pick W 1099511627776 ({} : State).prt s.prt
    strs := pick W 2199023255552 ({} : State).strs s.strs
    gfps := pick W 4398046511104 ({} : State).gfps s.gfps
    dccs := pick W 8796093022208 ({} : State).dccs s.dccs }

/-- The same, under a name that only the last step of a frame proof unfolds. -/
def State.hideU (W : Nat) (s : State) : State :=
  { pending := pick W 1 ({} : State).pending s.pending
    powered := pick W 2 ({} : State).powered s.powered
    freeIdx := pick W 4 ({} : State).freeIdx s.freeIdx
    cfg := pick W 8 ({} : State).cfg s.cfg
    hostMem := pick W 16 ({} : State).hostMem s.hostMem
    upsets := pick W 32 ({} : State).upsets s.upsets
    glb := s.glb.hide W
    boot := pick W 256 ({} : State).boot s.boot
    bus := pick W 512 ({} : State).bus s.bus
    i2c := pick W 1024 ({} : State).i2c s.i2c
    flt := s.flt.hide W
    log := pick W 16384 ({} : State).log s.log
    hif := s.hif.hide W
    ce := s.ce.hide W
    pmc := pick W 524288 ({} : State).pmc s.pmc
    sec := s.sec.hide W
    pin := pick W 8388608 ({} : State).pin s.pin
    mgt := pick W 16777216 ({} : State).mgt s.mgt
    stp := s.stp.hide W
    ports := pick W 536870912 ({} : State).ports s.ports
    hop := pick W 1073741824 ({} : State).hop s.hop
    scribe := pick W 2147483648 ({} : State).scribe s.scribe
    vc4s := pick W 4294967296 ({} : State).vc4s s.vc4s
    h4s := pick W 8589934592 ({} : State).h4s s.h4s
    los := pick W 17179869184 ({} : State).los s.los
    tribs := pick W 34359738368 ({} : State).tribs s.tribs
    hwys := pick W 68719476736 ({} : State).hwys s.hwys
    grps := pick W 137438953472 ({} : State).grps s.grps
    tsw := pick W 274877906944 ({} : State).tsw s.tsw
    cnf := pick W 549755813888 ({} : State).cnf s.cnf
    prt := pick W 1099511627776 ({} : State).prt s.prt
    strs := pick W 2199023255552 ({} : State).strs s.strs
    gfps := pick W 4398046511104 ({} : State).gfps s.gfps
    dccs := pick W 8796093022208 ({} : State).dccs s.dccs }

theorem pick_pick {α : Type} {a W : Nat} (h : a &&& W = a) (m : Nat) (d x : α) : pick W m d (pick a m d x) = pick W m d x := by
  unfold pick
  split
  · rename_i hW
    have : a &&& m = 0 := by rw [← h, Nat.land_assoc, hW, Nat.and_zero]
    rw [if_pos this]
  · rfl

theorem hide_hide {a W : Nat} (h : a &&& W = a) (s : State) : (s.hide a).hide W = s.hide W := by
  simp only [State.hide, Ce.hide, Glb.hide, Flt.hide, Hif.hide, Sec.hide, Stp.hide, pick_pick h]

/-- What a smaller mask shows unchanged, a larger one does. -/
theorem hide_mono {a W : Nat} (s t : State) (h : a &&& W = a) (e : s.hide a = t.hide a) : s.hide W = t.hide W := by
  rw [← hide_hide h s, ← hide_hide h t, e]

/-- An update of a record over the state `x`. -/
theorem mk_leaf (W : Nat) {a1 a2 a3 a4 a5 a6 a7 a8 a9 a10 a11 a12 a13 a14 a15 a16 a17 a18 a19 a20 a21 a22 a23 a24 a25 a26 a27 a28 a29 a30 a31 a32 a33} (x : State)
    (h : (State.mk x.pending a1 a2 a3 a4 a5 a6 a7 a8 a9 a10 a11 a12 a13 a14 a15 a16 a17 a18 a19 a20 a21 a22 a23 a24 a25 a26 a27 a28 a29 a30 a31 a32 a33).hideU W = x.hideU W) :
    (State.mk x.pending a1 a2 a3 a4 a5 a6 a7 a8 a9 a10 a11 a12 a13 a14 a15 a16 a17 a18 a19 a20 a21 a22 a23 a24 a25 a26 a27 a28 a29 a30 a31 a32 a33).hide W = x.hide W := h

theorem hide_ite (W : Nat) (c : Prop) [Decidable c] (a b : State) : (if c then a else b).hide W = if c then a.hide W else b.hide W := by split <;> rfl

theorem snd_ite {α β : Type} (c : Prop) [Decidable c] (a b : α × β) : (if c then a else b).2 = if c then a.2 else b.2 := by split <;> rfl

theorem foldS_frame (W : Nat) {α : Type} (l : List α) (f : α → State → State) (h : ∀ a s, (f a s).hide W = s.hide W) (s : State) : (foldS l f s).hide W = s.hide W := by
  induction l generalizing s with
  | nil => rfl
  | cons a l ih => exact (ih (f a s)).trans (h a s)

theorem whenS_frame (W : Nat) (c : Bool) (f : State → State) (s : State) (h : ∀ s, (f s).hide W = s.hide W) : (whenS c f s).hide W = s.hide W := by
  unfold whenS; split
  · exact h s
  · rfl

theorem foldl_frame (W : Nat) {α : Type} (l : List α) (f : State → α → State) (h : ∀ s a, (f s a).hide W = s.hide W) (s : State) : (l.foldl f s).hide W = s.hide W := by
  induction l generalizing s with
  | nil => rfl
  | cons a l ih => exact (ih (f s a)).trans (h s a)

theorem foldl_snd_frame (W : Nat) {α β : Type} (l : List α) (f : β × State → α → β × State) (h : ∀ a x, (f a x).2.hide W = a.2.hide W) (a : β × State) : (l.foldl f a).2.hide W = a.2.hide W := by
  induction l generalizing a with
  | nil => rfl
  | cons x l ih => exact (ih (f a x)).trans (h a x)

/-- The bit of a part in a mask. -/
def Part.bit : Part → Nat
  | .pending => 1
  | .powered => 2
  | .freeIdx => 4
  | .cfg => 8
  | .hostMem => 16
  | .upsets => 32
  | .glb => 64
  | .straps => 128
  | .boot => 256
  | .bus => 512
  | .i2c => 1024
  | .inbox => 2048
  | .fatal => 4096
  | .flt => 8192
  | .log => 16384
  | .rings => 32768
  | .vecs => 65536
  | .hif => 131072
  | .ce => 262144
  | .pmc => 524288
  | .keys => 1048576
  | .locks => 2097152
  | .registry => 4194304
  | .pin => 8388608
  | .mgt => 16777216
  | .pole => 33554432
  | .timers => 67108864
  | .clock => 134217728
  | .stp => 268435456
  | .ports => 536870912
  | .hop => 1073741824
  | .scribe => 2147483648
  | .vc4s => 4294967296
  | .h4s => 8589934592
  | .los => 17179869184
  | .tribs => 34359738368
  | .hwys => 68719476736
  | .grps => 137438953472
  | .tsw => 274877906944
  | .cnf => 549755813888
  | .prt => 1099511627776
  | .strs => 2199023255552
  | .gfps => 4398046511104
  | .dccs => 8796093022208
  | .due => 17592186044416

/-- Every part. -/
def Part.all : List Part :=
  [.pending, .powered, .freeIdx, .cfg, .hostMem, .upsets, .glb, .straps, .boot, .bus, .i2c, .inbox, .fatal, .flt,
   .log, .rings, .vecs, .hif, .ce, .pmc, .keys, .locks, .registry, .pin, .mgt, .pole, .timers, .clock, .stp, .ports,
   .hop, .scribe, .vc4s, .h4s, .los, .tribs, .hwys, .grps, .tsw, .cnf, .prt, .strs, .gfps, .dccs, .due]

theorem Part.mem_all (p : Part) : p ∈ Part.all := by cases p <;> decide

theorem Part.bit_disjoint : ∀ p ∈ Part.all, ∀ q ∈ Part.all, p = q ∨ q.bit &&& p.bit = 0 := by decide

/-- The mask of a list of parts. -/
def mask (l : List Part) : Nat := l.foldr (fun p m => p.bit ||| m) 0

theorem pick_eq {α : Type} {W m : Nat} (d x y : α) (hm : W &&& m = 0) (h : pick W m d x = pick W m d y) : x = y := by
  simpa only [pick, hm, if_true] using h

theorem mask_not_mem {l : List Part} {p : Part} (h : p ∉ l) : mask l &&& p.bit = 0 := by
  induction l with
  | nil => exact Nat.zero_and _
  | cons q l ih =>
    simp only [List.mem_cons, not_or] at h
    show (q.bit ||| mask l) &&& p.bit = 0
    rw [Nat.and_or_distrib_right, ih h.2, Nat.or_zero]
    exact (Part.bit_disjoint p p.mem_all q q.mem_all).resolve_left h.1

/-- A state and another that `mask l` hides differ in no part outside `l`. -/
theorem unchanged_of_hide {l : List Part} {s t : State} (h : s.hide (mask l) = t.hide (mask l)) : Unchanged l s t := by
  intro p hp
  have hm := mask_not_mem hp
  cases p
  case pending => exact pick_eq _ _ _ hm (congrArg (fun x => x.pending) h)
  case powered => exact pick_eq _ _ _ hm (congrArg (fun x => x.powered) h)
  case freeIdx => exact pick_eq _ _ _ hm (congrArg (fun x => x.freeIdx) h)
  case cfg => exact pick_eq _ _ _ hm (congrArg (fun x => x.cfg) h)
  case hostMem => exact pick_eq _ _ _ hm (congrArg (fun x => x.hostMem) h)
  case upsets => exact pick_eq _ _ _ hm (congrArg (fun x => x.upsets) h)
  case glb => exact ⟨pick_eq _ _ _ hm (congrArg (fun x => x.glb.ready) h),
      pick_eq _ _ _ hm (congrArg (fun x => x.glb.insvc) h),
      pick_eq _ _ _ hm (congrArg (fun x => x.glb.nmiTrap) h),
      pick_eq _ _ _ hm (congrArg (fun x => x.glb.heldRst) h),
      pick_eq _ _ _ hm (congrArg (fun x => x.glb.svc) h),
      pick_eq _ _ _ hm (congrArg (fun x => x.glb.last) h),
      pick_eq _ _ _ hm (congrArg (fun x => x.glb.remap) h),
      pick_eq _ _ _ hm (congrArg (fun x => x.glb.rstReq) h)⟩
  case straps => exact pick_eq _ _ _ hm (congrArg (fun x => x.glb.straps) h)
  case boot => exact pick_eq _ _ _ hm (congrArg (fun x => x.boot) h)
  case bus => exact pick_eq _ _ _ hm (congrArg (fun x => x.bus) h)
  case i2c => exact pick_eq _ _ _ hm (congrArg (fun x => x.i2c) h)
  case inbox => exact ⟨pick_eq _ _ _ hm (congrArg (fun x => x.flt.queue) h),
      pick_eq _ _ _ hm (congrArg (fun x => x.flt.lost) h),
      pick_eq _ _ _ hm (congrArg (fun x => x.flt.self) h)⟩
  case fatal => exact pick_eq _ _ _ hm (congrArg (fun x => x.flt.fatal) h)
  case flt => exact ⟨pick_eq _ _ _ hm (congrArg (fun x => x.flt.pfail) h),
      pick_eq _ _ _ hm (congrArg (fun x => x.flt.pfSquelch) h),
      pick_eq _ _ _ hm (congrArg (fun x => x.flt.first) h),
      pick_eq _ _ _ hm (congrArg (fun x => x.flt.firstFatal) h),
      pick_eq _ _ _ hm (congrArg (fun x => x.flt.cause) h),
      pick_eq _ _ _ hm (congrArg (fun x => x.flt.react) h),
      pick_eq _ _ _ hm (congrArg (fun x => x.flt.errLatch) h),
      pick_eq _ _ _ hm (congrArg (fun x => x.flt.errLeft) h),
      pick_eq _ _ _ hm (congrArg (fun x => x.flt.errWait) h),
      pick_eq _ _ _ hm (congrArg (fun x => x.flt.unlock1) h),
      pick_eq _ _ _ hm (congrArg (fun x => x.flt.test) h),
      pick_eq _ _ _ hm (congrArg (fun x => x.flt.injOpen) h),
      pick_eq _ _ _ hm (congrArg (fun x => x.flt.flip) h),
      pick_eq _ _ _ hm (congrArg (fun x => x.flt.pllLol) h)⟩
  case log => exact pick_eq _ _ _ hm (congrArg (fun x => x.log) h)
  case rings => exact pick_eq _ _ _ hm (congrArg (fun x => x.hif.rings) h)
  case vecs => exact ⟨pick_eq _ _ _ hm (congrArg (fun x => x.hif.vecs) h),
      pick_eq _ _ _ hm (congrArg (fun x => x.hif.pend) h),
      pick_eq _ _ _ hm (congrArg (fun x => x.hif.funcMask) h),
      pick_eq _ _ _ hm (congrArg (fun x => x.hif.msgs) h)⟩
  case hif => exact ⟨pick_eq _ _ _ hm (congrArg (fun x => x.hif.bme) h),
      pick_eq _ _ _ hm (congrArg (fun x => x.hif.d3hot) h),
      pick_eq _ _ _ hm (congrArg (fun x => x.hif.linkUp) h),
      pick_eq _ _ _ hm (congrArg (fun x => x.hif.linkWidth) h),
      pick_eq _ _ _ hm (congrArg (fun x => x.hif.linkSpeed) h),
      pick_eq _ _ _ hm (congrArg (fun x => x.hif.nmiCause) h),
      pick_eq _ _ _ hm (congrArg (fun x => x.hif.fatalCause) h),
      pick_eq _ _ _ hm (congrArg (fun x => x.hif.evLost) h),
      pick_eq _ _ _ hm (congrArg (fun x => x.hif.evGap) h),
      pick_eq _ _ _ hm (congrArg (fun x => x.hif.dbErr) h),
      pick_eq _ _ _ hm (congrArg (fun x => x.hif.dbKind) h),
      pick_eq _ _ _ hm (congrArg (fun x => x.hif.dbRing) h),
      pick_eq _ _ _ hm (congrArg (fun x => x.hif.rstLast) h),
      pick_eq _ _ _ hm (congrArg (fun x => x.hif.purged) h)⟩
  case ce => exact ⟨pick_eq _ _ _ hm (congrArg (fun x => x.ce.comps) h),
      pick_eq _ _ _ hm (congrArg (fun x => x.ce.seq) h),
      pick_eq _ _ _ hm (congrArg (fun x => x.ce.stall) h),
      pick_eq _ _ _ hm (congrArg (fun x => x.ce.refused) h),
      pick_eq _ _ _ hm (congrArg (fun x => x.ce.lastIdx) h),
      pick_eq _ _ _ hm (congrArg (fun x => x.ce.lastRing) h),
      pick_eq _ _ _ hm (congrArg (fun x => x.ce.lastStat) h),
      pick_eq _ _ _ hm (congrArg (fun x => x.ce.rrRing) h),
      pick_eq _ _ _ hm (congrArg (fun x => x.ce.rrLeft) h),
      pick_eq _ _ _ hm (congrArg (fun x => x.ce.visited) h),
      pick_eq _ _ _ hm (congrArg (fun x => x.ce.cycle) h),
      pick_eq _ _ _ hm (congrArg (fun x => x.ce.failed) h)⟩
  case pmc => exact pick_eq _ _ _ hm (congrArg (fun x => x.pmc) h)
  case keys => exact ⟨pick_eq _ _ _ hm (congrArg (fun x => x.sec.keys) h),
      pick_eq _ _ _ hm (congrArg (fun x => x.sec.ops) h),
      pick_eq _ _ _ hm (congrArg (fun x => x.sec.ox) h),
      pick_eq _ _ _ hm (congrArg (fun x => x.sec.opId) h),
      pick_eq _ _ _ hm (congrArg (fun x => x.sec.cmacPoison) h)⟩
  case locks => exact pick_eq _ _ _ hm (congrArg (fun x => x.sec.locks) h)
  case registry => exact pick_eq _ _ _ hm (congrArg (fun x => x.sec.res) h)
  case pin => exact pick_eq _ _ _ hm (congrArg (fun x => x.pin) h)
  case mgt => exact pick_eq _ _ _ hm (congrArg (fun x => x.mgt) h)
  case pole => exact ⟨pick_eq _ _ _ hm (congrArg (fun x => x.stp.frame) h),
      pick_eq _ _ _ hm (congrArg (fun x => x.stp.phase) h),
      pick_eq _ _ _ hm (congrArg (fun x => x.stp.sub) h),
      pick_eq _ _ _ hm (congrArg (fun x => x.stp.origin) h)⟩
  case timers => exact pick_eq _ _ _ hm (congrArg (fun x => x.stp.timers) h)
  case clock => exact ⟨pick_eq _ _ _ hm (congrArg (fun x => x.stp.refs) h),
      pick_eq _ _ _ hm (congrArg (fun x => x.stp.dpll) h),
      pick_eq _ _ _ hm (congrArg (fun x => x.stp.holdReady) h),
      pick_eq _ _ _ hm (congrArg (fun x => x.stp.lockFrames) h),
      pick_eq _ _ _ hm (congrArg (fun x => x.stp.acqFrames) h),
      pick_eq _ _ _ hm (congrArg (fun x => x.stp.sel) h),
      pick_eq _ _ _ hm (congrArg (fun x => x.stp.oscFail) h),
      pick_eq _ _ _ hm (congrArg (fun x => x.stp.onXo) h),
      pick_eq _ _ _ hm (congrArg (fun x => x.stp.phaseErr) h),
      pick_eq _ _ _ hm (congrArg (fun x => x.stp.curQl) h)⟩
  case stp => exact ⟨pick_eq _ _ _ hm (congrArg (fun x => x.stp.snap) h),
      pick_eq _ _ _ hm (congrArg (fun x => x.stp.epoch) h),
      pick_eq _ _ _ hm (congrArg (fun x => x.stp.done) h),
      pick_eq _ _ _ hm (congrArg (fun x => x.stp.originNew) h),
      pick_eq _ _ _ hm (congrArg (fun x => x.stp.short) h),
      pick_eq _ _ _ hm (congrArg (fun x => x.stp.epochIn) h),
      pick_eq _ _ _ hm (congrArg (fun x => x.stp.atSecond) h),
      pick_eq _ _ _ hm (congrArg (fun x => x.stp.refouts) h),
      pick_eq _ _ _ hm (congrArg (fun x => x.stp.held) h),
      pick_eq _ _ _ hm (congrArg (fun x => x.stp.lgOfs) h)⟩
  case ports => exact pick_eq _ _ _ hm (congrArg (fun x => x.ports) h)
  case hop => exact pick_eq _ _ _ hm (congrArg (fun x => x.hop) h)
  case scribe => exact pick_eq _ _ _ hm (congrArg (fun x => x.scribe) h)
  case vc4s => exact pick_eq _ _ _ hm (congrArg (fun x => x.vc4s) h)
  case h4s => exact pick_eq _ _ _ hm (congrArg (fun x => x.h4s) h)
  case los => exact pick_eq _ _ _ hm (congrArg (fun x => x.los) h)
  case tribs => exact pick_eq _ _ _ hm (congrArg (fun x => x.tribs) h)
  case hwys => exact pick_eq _ _ _ hm (congrArg (fun x => x.hwys) h)
  case grps => exact pick_eq _ _ _ hm (congrArg (fun x => x.grps) h)
  case tsw => exact pick_eq _ _ _ hm (congrArg (fun x => x.tsw) h)
  case cnf => exact pick_eq _ _ _ hm (congrArg (fun x => x.cnf) h)
  case prt => exact pick_eq _ _ _ hm (congrArg (fun x => x.prt) h)
  case strs => exact pick_eq _ _ _ hm (congrArg (fun x => x.strs) h)
  case gfps => exact pick_eq _ _ _ hm (congrArg (fun x => x.gfps) h)
  case dccs => exact pick_eq _ _ _ hm (congrArg (fun x => x.dccs) h)
  case due => exact pick_eq _ _ _ hm (congrArg (fun x => x.ce.due) h)

end Sys2Proof.Machine
end

