-- ==== Sys2Proof/Laws/FrameHost.lean ====
section
/-! SUPPORT. Frames of the shared operations, the resource registry and the clock.
Each lemma says which parts its operation can change: those of the mask in its hypothesis. -/

namespace Sys2Proof.Machine

set_option linter.unusedSimpArgs false
set_option linter.unreachableTactic false
set_option linter.unusedTactic false
set_option linter.unusedVariables false

theorem State.setReg_frame (W : Nat) (hW : 8 &&& W = 8) (s : State) (o : Nat) (v : Word) : (State.setReg s o v).hide W = s.hide W := by
  refine hide_mono _ _ hW ?_
  unfold State.setReg
  repeat' (first | with_reducible rfl | simp only [Nat.reduceAnd, hide_ite, snd_ite, foldS_frame, whenS_frame, foldl_frame, ite_self, implies_true, mk_leaf, State.hideU, Ce.hide, Glb.hide, Flt.hide, Hif.hide, Sec.hide, Stp.hide, pick, Nat.reduceEqDiff, reduceIte] | with_reducible refine (foldS_frame _ _ _ (fun _ _ => ?_) _).trans ?_ | with_reducible refine (whenS_frame _ _ _ _ (fun _ => ?_)).trans ?_ | split)

theorem State.regWrite_frame (W : Nat) (hW : 8 &&& W = 8) (s : State) (o : Nat) (v : Word) : (State.regWrite s o v).hide W = s.hide W := by
  refine hide_mono _ _ hW ?_
  unfold State.regWrite
  repeat' (first | with_reducible rfl | simp only [State.setReg_frame, Nat.reduceAnd, hide_ite, snd_ite, foldS_frame, whenS_frame, foldl_frame, ite_self, implies_true, mk_leaf, State.hideU, Ce.hide, Glb.hide, Flt.hide, Hif.hide, Sec.hide, Stp.hide, pick, Nat.reduceEqDiff, reduceIte] | with_reducible refine (foldS_frame _ _ _ (fun _ _ => ?_) _).trans ?_ | with_reducible refine (whenS_frame _ _ _ _ (fun _ => ?_)).trans ?_ | split)

theorem State.regsReset_frame (W : Nat) (hW : 8 &&& W = 8) (p : Nat → Bool) (s : State) : (State.regsReset p s).hide W = s.hide W := by
  refine hide_mono _ _ hW ?_
  unfold State.regsReset
  repeat' (first | with_reducible rfl | simp only [Nat.reduceAnd, hide_ite, snd_ite, foldS_frame, whenS_frame, foldl_frame, ite_self, implies_true, mk_leaf, State.hideU, Ce.hide, Glb.hide, Flt.hide, Hif.hide, Sec.hide, Stp.hide, pick, Nat.reduceEqDiff, reduceIte] | with_reducible refine (foldS_frame _ _ _ (fun _ _ => ?_) _).trans ?_ | with_reducible refine (whenS_frame _ _ _ _ (fun _ => ?_)).trans ?_ | split)

theorem State.takeFree_frame (W : Nat) (hW : 4 &&& W = 4) (n : Nat) (s : State) : (State.takeFree n s).2.hide W = s.hide W := by
  refine hide_mono _ _ hW ?_
  unfold State.takeFree
  repeat' (first | with_reducible rfl | simp only [Nat.reduceAnd, hide_ite, snd_ite, foldS_frame, whenS_frame, foldl_frame, ite_self, implies_true, mk_leaf, State.hideU, Ce.hide, Glb.hide, Flt.hide, Hif.hide, Sec.hide, Stp.hide, pick, Nat.reduceEqDiff, reduceIte] | with_reducible refine (foldS_frame _ _ _ (fun _ _ => ?_) _).trans ?_ | with_reducible refine (whenS_frame _ _ _ _ (fun _ => ?_)).trans ?_ | split)

theorem State.post_frame (W : Nat) (hW : 2048 &&& W = 2048) (m : Msg) (s : State) : (State.post m s).hide W = s.hide W := by
  refine hide_mono _ _ hW ?_
  unfold State.post
  repeat' (first | with_reducible rfl | simp only [Nat.reduceAnd, hide_ite, snd_ite, foldS_frame, whenS_frame, foldl_frame, ite_self, implies_true, mk_leaf, State.hideU, Ce.hide, Glb.hide, Flt.hide, Hif.hide, Sec.hide, Stp.hide, pick, Nat.reduceEqDiff, reduceIte] | with_reducible refine (foldS_frame _ _ _ (fun _ _ => ?_) _).trans ?_ | with_reducible refine (whenS_frame _ _ _ _ (fun _ => ?_)).trans ?_ | split)

theorem State.raise_frame (W : Nat) (hW : 2048 &&& W = 2048) (k : Kind) (src addr data : Nat) (s : State) : (State.raise k src addr data s).hide W = s.hide W := by
  refine hide_mono _ _ hW ?_
  unfold State.raise
  repeat' (first | with_reducible rfl | simp only [State.post_frame, Nat.reduceAnd, hide_ite, snd_ite, foldS_frame, whenS_frame, foldl_frame, ite_self, implies_true, mk_leaf, State.hideU, Ce.hide, Glb.hide, Flt.hide, Hif.hide, Sec.hide, Stp.hide, pick, Nat.reduceEqDiff, reduceIte] | with_reducible refine (foldS_frame _ _ _ (fun _ _ => ?_) _).trans ?_ | with_reducible refine (whenS_frame _ _ _ _ (fun _ => ?_)).trans ?_ | split)

theorem State.raiseU_frame (W : Nat) (hW : 2048 &&& W = 2048) (masked : Bool) (k : Kind) (src addr data : Nat) (s : State) : (State.raiseU masked k src addr data s).hide W = s.hide W := by
  refine hide_mono _ _ hW ?_
  unfold State.raiseU
  repeat' (first | with_reducible rfl | simp only [State.post_frame, Nat.reduceAnd, hide_ite, snd_ite, foldS_frame, whenS_frame, foldl_frame, ite_self, implies_true, mk_leaf, State.hideU, Ce.hide, Glb.hide, Flt.hide, Hif.hide, Sec.hide, Stp.hide, pick, Nat.reduceEqDiff, reduceIte] | with_reducible refine (foldS_frame _ _ _ (fun _ _ => ?_) _).trans ?_ | with_reducible refine (whenS_frame _ _ _ _ (fun _ => ?_)).trans ?_ | split)

theorem State.dma_frame (W : Nat) (hW : 16 &&& W = 16) (a : Nat) (bs : List Byte) (s : State) : (State.dma a bs s).hide W = s.hide W := by
  refine hide_mono _ _ hW ?_
  unfold State.dma
  repeat' (first | with_reducible rfl | simp only [Nat.reduceAnd, hide_ite, snd_ite, foldS_frame, whenS_frame, foldl_frame, ite_self, implies_true, mk_leaf, State.hideU, Ce.hide, Glb.hide, Flt.hide, Hif.hide, Sec.hide, Stp.hide, pick, Nat.reduceEqDiff, reduceIte] | with_reducible refine (foldS_frame _ _ _ (fun _ _ => ?_) _).trans ?_ | with_reducible refine (whenS_frame _ _ _ _ (fun _ => ?_)).trans ?_ | split)

theorem State.vecMsg_frame (W : Nat) (hW : 65552 &&& W = 65552) (v : Nat) (s : State) : (State.vecMsg v s).hide W = s.hide W := by
  refine hide_mono _ _ hW ?_
  unfold State.vecMsg
  repeat' (first | with_reducible rfl | simp only [State.dma_frame, Nat.reduceAnd, hide_ite, snd_ite, foldS_frame, whenS_frame, foldl_frame, ite_self, implies_true, mk_leaf, State.hideU, Ce.hide, Glb.hide, Flt.hide, Hif.hide, Sec.hide, Stp.hide, pick, Nat.reduceEqDiff, reduceIte] | with_reducible refine (foldS_frame _ _ _ (fun _ _ => ?_) _).trans ?_ | with_reducible refine (whenS_frame _ _ _ _ (fun _ => ?_)).trans ?_ | split)

theorem State.sendVec_frame (W : Nat) (hW : 65552 &&& W = 65552) (v : Nat) (s : State) : (State.sendVec v s).hide W = s.hide W := by
  refine hide_mono _ _ hW ?_
  unfold State.sendVec
  repeat' (first | with_reducible rfl | simp only [State.vecMsg_frame, Nat.reduceAnd, hide_ite, snd_ite, foldS_frame, whenS_frame, foldl_frame, ite_self, implies_true, mk_leaf, State.hideU, Ce.hide, Glb.hide, Flt.hide, Hif.hide, Sec.hide, Stp.hide, pick, Nat.reduceEqDiff, reduceIte] | with_reducible refine (foldS_frame _ _ _ (fun _ _ => ?_) _).trans ?_ | with_reducible refine (whenS_frame _ _ _ _ (fun _ => ?_)).trans ?_ | split)

theorem State.intr_frame (W : Nat) (hW : 65552 &&& W = 65552) (v : Nat) (s : State) : (State.intr v s).hide W = s.hide W := by
  refine hide_mono _ _ hW ?_
  unfold State.intr
  repeat' (first | with_reducible rfl | simp only [State.sendVec_frame, Nat.reduceAnd, hide_ite, snd_ite, foldS_frame, whenS_frame, foldl_frame, ite_self, implies_true, mk_leaf, State.hideU, Ce.hide, Glb.hide, Flt.hide, Hif.hide, Sec.hide, Stp.hide, pick, Nat.reduceEqDiff, reduceIte] | with_reducible refine (foldS_frame _ _ _ (fun _ _ => ?_) _).trans ?_ | with_reducible refine (whenS_frame _ _ _ _ (fun _ => ?_)).trans ?_ | split)

theorem State.flushVecs_frame (W : Nat) (hW : 65552 &&& W = 65552) (s : State) : (State.flushVecs s).hide W = s.hide W := by
  refine hide_mono _ _ hW ?_
  unfold State.flushVecs
  repeat' (first | with_reducible rfl | simp only [State.vecMsg_frame, Nat.reduceAnd, hide_ite, snd_ite, foldS_frame, whenS_frame, foldl_frame, ite_self, implies_true, mk_leaf, State.hideU, Ce.hide, Glb.hide, Flt.hide, Hif.hide, Sec.hide, Stp.hide, pick, Nat.reduceEqDiff, reduceIte] | with_reducible refine (foldS_frame _ _ _ (fun _ _ => ?_) _).trans ?_ | with_reducible refine (whenS_frame _ _ _ _ (fun _ => ?_)).trans ?_ | split)

theorem State.setRing_frame (W : Nat) (hW : 32768 &&& W = 32768) (kind n : Nat) (r : Ring) (s : State) : (State.setRing kind n r s).hide W = s.hide W := by
  refine hide_mono _ _ hW ?_
  unfold State.setRing
  repeat' (first | with_reducible rfl | simp only [Nat.reduceAnd, hide_ite, snd_ite, foldS_frame, whenS_frame, foldl_frame, ite_self, implies_true, mk_leaf, State.hideU, Ce.hide, Glb.hide, Flt.hide, Hif.hide, Sec.hide, Stp.hide, pick, Nat.reduceEqDiff, reduceIte] | with_reducible refine (foldS_frame _ _ _ (fun _ _ => ?_) _).trans ?_ | with_reducible refine (whenS_frame _ _ _ _ (fun _ => ?_)).trans ?_ | split)

theorem State.modRing_frame (W : Nat) (hW : 32768 &&& W = 32768) (kind n : Nat) (f : Ring → Ring) (s : State) : (State.modRing kind n f s).hide W = s.hide W := by
  refine hide_mono _ _ hW ?_
  unfold State.modRing
  repeat' (first | with_reducible rfl | simp only [State.setRing_frame, Nat.reduceAnd, hide_ite, snd_ite, foldS_frame, whenS_frame, foldl_frame, ite_self, implies_true, mk_leaf, State.hideU, Ce.hide, Glb.hide, Flt.hide, Hif.hide, Sec.hide, Stp.hide, pick, Nat.reduceEqDiff, reduceIte] | with_reducible refine (foldS_frame _ _ _ (fun _ _ => ?_) _).trans ?_ | with_reducible refine (whenS_frame _ _ _ _ (fun _ => ?_)).trans ?_ | split)

theorem State.putEntry_frame (W : Nat) (hW : 98320 &&& W = 98320) (kind n esize : Nat) (f : Bool → List Byte) (wanted : Bool) (s : State) : (State.putEntry kind n esize f wanted s).hide W = s.hide W := by
  refine hide_mono _ _ hW ?_
  unfold State.putEntry
  repeat' (first | with_reducible rfl | simp only [State.dma_frame, State.intr_frame, State.setRing_frame, Nat.reduceAnd, hide_ite, snd_ite, foldS_frame, whenS_frame, foldl_frame, ite_self, implies_true, mk_leaf, State.hideU, Ce.hide, Glb.hide, Flt.hide, Hif.hide, Sec.hide, Stp.hide, pick, Nat.reduceEqDiff, reduceIte] | with_reducible refine (foldS_frame _ _ _ (fun _ _ => ?_) _).trans ?_ | with_reducible refine (whenS_frame _ _ _ _ (fun _ => ?_)).trans ?_ | split)

theorem State.writeBack_frame (W : Nat) (hW : 98320 &&& W = 98320) (kind n : Nat) (d : BufDesc) (used stat : Nat) (s : State) : (State.writeBack kind n d used stat s).hide W = s.hide W := by
  refine hide_mono _ _ hW ?_
  unfold State.writeBack
  repeat' (first | with_reducible rfl | simp only [State.dma_frame, State.intr_frame, State.setRing_frame, Nat.reduceAnd, hide_ite, snd_ite, foldS_frame, whenS_frame, foldl_frame, ite_self, implies_true, mk_leaf, State.hideU, Ce.hide, Glb.hide, Flt.hide, Hif.hide, Sec.hide, Stp.hide, pick, Nat.reduceEqDiff, reduceIte] | with_reducible refine (foldS_frame _ _ _ (fun _ _ => ?_) _).trans ?_ | with_reducible refine (whenS_frame _ _ _ _ (fun _ => ?_)).trans ?_ | split)

theorem State.consume_frame (W : Nat) (hW : 32768 &&& W = 32768) (kind n : Nat) (s : State) : (State.consume kind n s).hide W = s.hide W := by
  refine hide_mono _ _ hW ?_
  unfold State.consume
  repeat' (first | with_reducible rfl | simp only [State.modRing_frame, Nat.reduceAnd, hide_ite, snd_ite, foldS_frame, whenS_frame, foldl_frame, ite_self, implies_true, mk_leaf, State.hideU, Ce.hide, Glb.hide, Flt.hide, Hif.hide, Sec.hide, Stp.hide, pick, Nat.reduceEqDiff, reduceIte] | with_reducible refine (foldS_frame _ _ _ (fun _ _ => ?_) _).trans ?_ | with_reducible refine (whenS_frame _ _ _ _ (fun _ => ?_)).trans ?_ | split)

theorem State.readOk_frame (W : Nat) (hW : 32768 &&& W = 32768) (kind n : Nat) (s : State) : (State.readOk kind n s).hide W = s.hide W := by
  refine hide_mono _ _ hW ?_
  unfold State.readOk
  repeat' (first | with_reducible rfl | simp only [State.modRing_frame, Nat.reduceAnd, hide_ite, snd_ite, foldS_frame, whenS_frame, foldl_frame, ite_self, implies_true, mk_leaf, State.hideU, Ce.hide, Glb.hide, Flt.hide, Hif.hide, Sec.hide, Stp.hide, pick, Nat.reduceEqDiff, reduceIte] | with_reducible refine (foldS_frame _ _ _ (fun _ _ => ?_) _).trans ?_ | with_reducible refine (whenS_frame _ _ _ _ (fun _ => ?_)).trans ?_ | split)

theorem State.badDesc_frame (W : Nat) (hW : 100368 &&& W = 100368) (kind n : Nat) (d : BufDesc) (s : State) : (State.badDesc kind n d s).hide W = s.hide W := by
  refine hide_mono _ _ hW ?_
  unfold State.badDesc
  repeat' (first | with_reducible rfl | simp only [State.consume_frame, State.modRing_frame, State.raise_frame, State.writeBack_frame, Nat.reduceAnd, hide_ite, snd_ite, foldS_frame, whenS_frame, foldl_frame, ite_self, implies_true, mk_leaf, State.hideU, Ce.hide, Glb.hide, Flt.hide, Hif.hide, Sec.hide, Stp.hide, pick, Nat.reduceEqDiff, reduceIte] | with_reducible refine (foldS_frame _ _ _ (fun _ _ => ?_) _).trans ?_ | with_reducible refine (whenS_frame _ _ _ _ (fun _ => ?_)).trans ?_ | split)

theorem State.evPut_frame (W : Nat) (hW : 229392 &&& W = 229392) (e : EvEntry) (s : State) : (State.evPut e s).hide W = s.hide W := by
  refine hide_mono _ _ hW ?_
  unfold State.evPut
  repeat' (first | with_reducible rfl | simp only [State.putEntry_frame, Nat.reduceAnd, hide_ite, snd_ite, foldS_frame, whenS_frame, foldl_frame, ite_self, implies_true, mk_leaf, State.hideU, Ce.hide, Glb.hide, Flt.hide, Hif.hide, Sec.hide, Stp.hide, pick, Nat.reduceEqDiff, reduceIte] | with_reducible refine (foldS_frame _ _ _ (fun _ _ => ?_) _).trans ?_ | with_reducible refine (whenS_frame _ _ _ _ (fun _ => ?_)).trans ?_ | split)

theorem State.offerLog_frame (W : Nat) (hW : 229392 &&& W = 229392) (p : Nat) (s : State) : (State.offerLog p s).hide W = s.hide W := by
  refine hide_mono _ _ hW ?_
  unfold State.offerLog
  repeat' (first | with_reducible rfl | simp only [State.evPut_frame, Nat.reduceAnd, hide_ite, snd_ite, foldS_frame, whenS_frame, foldl_frame, ite_self, implies_true, mk_leaf, State.hideU, Ce.hide, Glb.hide, Flt.hide, Hif.hide, Sec.hide, Stp.hide, pick, Nat.reduceEqDiff, reduceIte] | with_reducible refine (foldS_frame _ _ _ (fun _ _ => ?_) _).trans ?_ | with_reducible refine (whenS_frame _ _ _ _ (fun _ => ?_)).trans ?_ | split)

theorem State.flushFrom_frame (W : Nat) (hW : 229392 &&& W = 229392) (l : List Nat) (s : State) : (State.flushFrom l s).hide W = s.hide W := by
  refine hide_mono _ _ hW ?_
  unfold State.flushFrom
  repeat' (first | with_reducible rfl | simp only [State.offerLog_frame, Nat.reduceAnd, hide_ite, snd_ite, foldS_frame, whenS_frame, foldl_frame, ite_self, implies_true, mk_leaf, State.hideU, Ce.hide, Glb.hide, Flt.hide, Hif.hide, Sec.hide, Stp.hide, pick, Nat.reduceEqDiff, reduceIte] | with_reducible refine (foldS_frame _ _ _ (fun _ _ => ?_) _).trans ?_ | with_reducible refine (whenS_frame _ _ _ _ (fun _ => ?_)).trans ?_ | split)

theorem State.mirrorAll_frame (W : Nat) (hW : 245776 &&& W = 245776) (s : State) : (State.mirrorAll s).hide W = s.hide W := by
  refine hide_mono _ _ hW ?_
  unfold State.mirrorAll
  repeat' (first | with_reducible rfl | simp only [State.flushFrom_frame, Nat.reduceAnd, hide_ite, snd_ite, foldS_frame, whenS_frame, foldl_frame, ite_self, implies_true, mk_leaf, State.hideU, Ce.hide, Glb.hide, Flt.hide, Hif.hide, Sec.hide, Stp.hide, pick, Nat.reduceEqDiff, reduceIte] | with_reducible refine (foldS_frame _ _ _ (fun _ _ => ?_) _).trans ?_ | with_reducible refine (whenS_frame _ _ _ _ (fun _ => ?_)).trans ?_ | split)

theorem State.logWrite_frame (W : Nat) (hW : 245776 &&& W = 245776) (m : Msg) (s : State) : (State.logWrite m s).2.hide W = s.hide W := by
  refine hide_mono _ _ hW ?_
  unfold State.logWrite
  repeat' (first | with_reducible rfl | simp only [State.mirrorAll_frame, Nat.reduceAnd, hide_ite, snd_ite, foldS_frame, whenS_frame, foldl_frame, ite_self, implies_true, mk_leaf, State.hideU, Ce.hide, Glb.hide, Flt.hide, Hif.hide, Sec.hide, Stp.hide, pick, Nat.reduceEqDiff, reduceIte] | with_reducible refine (foldS_frame _ _ _ (fun _ _ => ?_) _).trans ?_ | with_reducible refine (whenS_frame _ _ _ _ (fun _ => ?_)).trans ?_ | split)

theorem State.pmcAdd_frame (W : Nat) (hW : 524288 &&& W = 524288) (j n : Nat) (s : State) : (State.pmcAdd j n s).hide W = s.hide W := by
  refine hide_mono _ _ hW ?_
  unfold State.pmcAdd
  repeat' (first | with_reducible rfl | simp only [Nat.reduceAnd, hide_ite, snd_ite, foldS_frame, whenS_frame, foldl_frame, ite_self, implies_true, mk_leaf, State.hideU, Ce.hide, Glb.hide, Flt.hide, Hif.hide, Sec.hide, Stp.hide, pick, Nat.reduceEqDiff, reduceIte] | with_reducible refine (foldS_frame _ _ _ (fun _ _ => ?_) _).trans ?_ | with_reducible refine (whenS_frame _ _ _ _ (fun _ => ?_)).trans ?_ | split)

theorem State.pmcEvent_frame (W : Nat) (hW : 524288 &&& W = 524288) (ev : Nat) (ring : Option Nat) (n : Nat) (s : State) : (State.pmcEvent ev ring n s).hide W = s.hide W := by
  refine hide_mono _ _ hW ?_
  unfold State.pmcEvent
  repeat' (first | with_reducible rfl | simp only [State.pmcAdd_frame, Nat.reduceAnd, hide_ite, snd_ite, foldS_frame, whenS_frame, foldl_frame, ite_self, implies_true, mk_leaf, State.hideU, Ce.hide, Glb.hide, Flt.hide, Hif.hide, Sec.hide, Stp.hide, pick, Nat.reduceEqDiff, reduceIte] | with_reducible refine (foldS_frame _ _ _ (fun _ _ => ?_) _).trans ?_ | with_reducible refine (whenS_frame _ _ _ _ (fun _ => ?_)).trans ?_ | split)

theorem State.putComp_frame (W : Nat) (hW : 622608 &&& W = 622608) (c : Comp) (s : State) : (State.putComp c s).hide W = s.hide W := by
  refine hide_mono _ _ hW ?_
  unfold State.putComp
  repeat' (first | with_reducible rfl | simp only [State.pmcEvent_frame, State.putEntry_frame, Nat.reduceAnd, hide_ite, snd_ite, foldS_frame, whenS_frame, foldl_frame, ite_self, implies_true, mk_leaf, State.hideU, Ce.hide, Glb.hide, Flt.hide, Hif.hide, Sec.hide, Stp.hide, pick, Nat.reduceEqDiff, reduceIte] | with_reducible refine (foldS_frame _ _ _ (fun _ _ => ?_) _).trans ?_ | with_reducible refine (whenS_frame _ _ _ _ (fun _ => ?_)).trans ?_ | split)

theorem State.addComp_frame (W : Nat) (hW : 262144 &&& W = 262144) (c : Comp) (s : State) : (State.addComp c s).hide W = s.hide W := by
  refine hide_mono _ _ hW ?_
  unfold State.addComp
  repeat' (first | with_reducible rfl | simp only [Nat.reduceAnd, hide_ite, snd_ite, foldS_frame, whenS_frame, foldl_frame, ite_self, implies_true, mk_leaf, State.hideU, Ce.hide, Glb.hide, Flt.hide, Hif.hide, Sec.hide, Stp.hide, pick, Nat.reduceEqDiff, reduceIte] | with_reducible refine (foldS_frame _ _ _ (fun _ _ => ?_) _).trans ?_ | with_reducible refine (whenS_frame _ _ _ _ (fun _ => ?_)).trans ?_ | split)

theorem State.clearUpset_frame (W : Nat) (hW : 32 &&& W = 32) (m : Mem) (s : State) : (State.clearUpset m s).hide W = s.hide W := by
  refine hide_mono _ _ hW ?_
  unfold State.clearUpset
  repeat' (first | with_reducible rfl | simp only [Nat.reduceAnd, hide_ite, snd_ite, foldS_frame, whenS_frame, foldl_frame, ite_self, implies_true, mk_leaf, State.hideU, Ce.hide, Glb.hide, Flt.hide, Hif.hide, Sec.hide, Stp.hide, pick, Nat.reduceEqDiff, reduceIte] | with_reducible refine (foldS_frame _ _ _ (fun _ _ => ?_) _).trans ?_ | with_reducible refine (whenS_frame _ _ _ _ (fun _ => ?_)).trans ?_ | split)

theorem State.clearUpsets_frame (W : Nat) (hW : 32 &&& W = 32) (p : Mem → Bool) (s : State) : (State.clearUpsets p s).hide W = s.hide W := by
  refine hide_mono _ _ hW ?_
  unfold State.clearUpsets
  repeat' (first | with_reducible rfl | simp only [Nat.reduceAnd, hide_ite, snd_ite, foldS_frame, whenS_frame, foldl_frame, ite_self, implies_true, mk_leaf, State.hideU, Ce.hide, Glb.hide, Flt.hide, Hif.hide, Sec.hide, Stp.hide, pick, Nat.reduceEqDiff, reduceIte] | with_reducible refine (foldS_frame _ _ _ (fun _ _ => ?_) _).trans ?_ | with_reducible refine (whenS_frame _ _ _ _ (fun _ => ?_)).trans ?_ | split)

theorem State.addUpsets_frame (W : Nat) (hW : 32 &&& W = 32) (l : List Upset) (s : State) : (State.addUpsets l s).hide W = s.hide W := by
  refine hide_mono _ _ hW ?_
  unfold State.addUpsets
  repeat' (first | with_reducible rfl | simp only [Nat.reduceAnd, hide_ite, snd_ite, foldS_frame, whenS_frame, foldl_frame, ite_self, implies_true, mk_leaf, State.hideU, Ce.hide, Glb.hide, Flt.hide, Hif.hide, Sec.hide, Stp.hide, pick, Nat.reduceEqDiff, reduceIte] | with_reducible refine (foldS_frame _ _ _ (fun _ _ => ?_) _).trans ?_ | with_reducible refine (whenS_frame _ _ _ _ (fun _ => ?_)).trans ?_ | split)

theorem State.wordWritten_frame (W : Nat) (hW : 8224 &&& W = 8224) (m : Mem) (s : State) : (State.wordWritten m s).hide W = s.hide W := by
  refine hide_mono _ _ hW ?_
  unfold State.wordWritten
  repeat' (first | with_reducible rfl | simp only [State.addUpsets_frame, State.clearUpset_frame, Nat.reduceAnd, hide_ite, snd_ite, foldS_frame, whenS_frame, foldl_frame, ite_self, implies_true, mk_leaf, State.hideU, Ce.hide, Glb.hide, Flt.hide, Hif.hide, Sec.hide, Stp.hide, pick, Nat.reduceEqDiff, reduceIte] | with_reducible refine (foldS_frame _ _ _ (fun _ _ => ?_) _).trans ?_ | with_reducible refine (whenS_frame _ _ _ _ (fun _ => ?_)).trans ?_ | split)

theorem State.sramErr_frame (W : Nat) (hW : 2048 &&& W = 2048) (src addr : Nat) (double : Bool) (s : State) : (State.sramErr src addr double s).hide W = s.hide W := by
  refine hide_mono _ _ hW ?_
  unfold State.sramErr
  repeat' (first | with_reducible rfl | simp only [State.raise_frame, Nat.reduceAnd, hide_ite, snd_ite, foldS_frame, whenS_frame, foldl_frame, ite_self, implies_true, mk_leaf, State.hideU, Ce.hide, Glb.hide, Flt.hide, Hif.hide, Sec.hide, Stp.hide, pick, Nat.reduceEqDiff, reduceIte] | with_reducible refine (foldS_frame _ _ _ (fun _ _ => ?_) _).trans ?_ | with_reducible refine (whenS_frame _ _ _ _ (fun _ => ?_)).trans ?_ | split)

theorem State.setRes_frame (W : Nat) (hW : 4202528 &&& W = 4202528) (k : Nat) (r : Res) (s : State) : (State.setRes k r s).hide W = s.hide W := by
  refine hide_mono _ _ hW ?_
  unfold State.setRes
  repeat' (first | with_reducible rfl | simp only [State.wordWritten_frame, Nat.reduceAnd, hide_ite, snd_ite, foldS_frame, whenS_frame, foldl_frame, ite_self, implies_true, mk_leaf, State.hideU, Ce.hide, Glb.hide, Flt.hide, Hif.hide, Sec.hide, Stp.hide, pick, Nat.reduceEqDiff, reduceIte] | with_reducible refine (foldS_frame _ _ _ (fun _ _ => ?_) _).trans ?_ | with_reducible refine (whenS_frame _ _ _ _ (fun _ => ?_)).trans ?_ | split)

theorem State.claim_frame (W : Nat) (hW : 4202528 &&& W = 4202528) (owner k : Nat) (s : State) : (State.claim owner k s).hide W = s.hide W := by
  refine hide_mono _ _ hW ?_
  unfold State.claim
  repeat' (first | with_reducible rfl | simp only [State.setRes_frame, Nat.reduceAnd, hide_ite, snd_ite, foldS_frame, whenS_frame, foldl_frame, ite_self, implies_true, mk_leaf, State.hideU, Ce.hide, Glb.hide, Flt.hide, Hif.hide, Sec.hide, Stp.hide, pick, Nat.reduceEqDiff, reduceIte] | with_reducible refine (foldS_frame _ _ _ (fun _ _ => ?_) _).trans ?_ | with_reducible refine (whenS_frame _ _ _ _ (fun _ => ?_)).trans ?_ | split)

theorem State.resRead_frame (W : Nat) (hW : 4204576 &&& W = 4204576) (k : Nat) (s : State) : (State.resRead k s).hide W = s.hide W := by
  refine hide_mono _ _ hW ?_
  unfold State.resRead
  repeat' (first | with_reducible rfl | simp only [State.clearUpset_frame, State.setRes_frame, State.sramErr_frame, Nat.reduceAnd, hide_ite, snd_ite, foldS_frame, whenS_frame, foldl_frame, ite_self, implies_true, mk_leaf, State.hideU, Ce.hide, Glb.hide, Flt.hide, Hif.hide, Sec.hide, Stp.hide, pick, Nat.reduceEqDiff, reduceIte] | with_reducible refine (foldS_frame _ _ _ (fun _ _ => ?_) _).trans ?_ | with_reducible refine (whenS_frame _ _ _ _ (fun _ => ?_)).trans ?_ | split)

theorem State.unclaim_frame (W : Nat) (hW : 4204576 &&& W = 4204576) (owner k : Nat) (s : State) : (State.unclaim owner k s).hide W = s.hide W := by
  refine hide_mono _ _ hW ?_
  unfold State.unclaim
  repeat' (first | with_reducible rfl | simp only [State.resRead_frame, State.setRes_frame, Nat.reduceAnd, hide_ite, snd_ite, foldS_frame, whenS_frame, foldl_frame, ite_self, implies_true, mk_leaf, State.hideU, Ce.hide, Glb.hide, Flt.hide, Hif.hide, Sec.hide, Stp.hide, pick, Nat.reduceEqDiff, reduceIte] | with_reducible refine (foldS_frame _ _ _ (fun _ _ => ?_) _).trans ?_ | with_reducible refine (whenS_frame _ _ _ _ (fun _ => ?_)).trans ?_ | split)

theorem State.claimAll_frame (W : Nat) (hW : 4204576 &&& W = 4204576) (owner : Nat) (ks : List Nat) (s : State) : (State.claimAll owner ks s).2.hide W = s.hide W := by
  refine hide_mono _ _ hW ?_
  unfold State.claimAll
  repeat' (first | with_reducible rfl | simp only [State.claim_frame, State.resRead_frame, Nat.reduceAnd, hide_ite, snd_ite, foldS_frame, whenS_frame, foldl_frame, ite_self, implies_true, mk_leaf, State.hideU, Ce.hide, Glb.hide, Flt.hide, Hif.hide, Sec.hide, Stp.hide, pick, Nat.reduceEqDiff, reduceIte] | with_reducible refine (foldS_frame _ _ _ (fun _ _ => ?_) _).trans ?_ | with_reducible refine (whenS_frame _ _ _ _ (fun _ => ?_)).trans ?_ | split)

theorem State.hostClaim_frame (W : Nat) (hW : 4204576 &&& W = 4204576) (k : Nat) (s : State) : (State.hostClaim k s).2.2.hide W = s.hide W := by
  refine hide_mono _ _ hW ?_
  unfold State.hostClaim
  repeat' (first | with_reducible rfl | simp only [State.resRead_frame, State.setRes_frame, Nat.reduceAnd, hide_ite, snd_ite, foldS_frame, whenS_frame, foldl_frame, ite_self, implies_true, mk_leaf, State.hideU, Ce.hide, Glb.hide, Flt.hide, Hif.hide, Sec.hide, Stp.hide, pick, Nat.reduceEqDiff, reduceIte] | with_reducible refine (foldS_frame _ _ _ (fun _ _ => ?_) _).trans ?_ | with_reducible refine (whenS_frame _ _ _ _ (fun _ => ?_)).trans ?_ | split)

theorem State.hostRelease_frame (W : Nat) (hW : 4204576 &&& W = 4204576) (k : Nat) (s : State) : (State.hostRelease k s).hide W = s.hide W := by
  refine hide_mono _ _ hW ?_
  unfold State.hostRelease
  repeat' (first | with_reducible rfl | simp only [State.resRead_frame, State.setRes_frame, Nat.reduceAnd, hide_ite, snd_ite, foldS_frame, whenS_frame, foldl_frame, ite_self, implies_true, mk_leaf, State.hideU, Ce.hide, Glb.hide, Flt.hide, Hif.hide, Sec.hide, Stp.hide, pick, Nat.reduceEqDiff, reduceIte] | with_reducible refine (foldS_frame _ _ _ (fun _ _ => ?_) _).trans ?_ | with_reducible refine (whenS_frame _ _ _ _ (fun _ => ?_)).trans ?_ | split)

theorem State.setLock_frame (W : Nat) (hW : 2105376 &&& W = 2105376) (i : Nat) (l : Lock) (s : State) : (State.setLock i l s).hide W = s.hide W := by
  refine hide_mono _ _ hW ?_
  unfold State.setLock
  repeat' (first | with_reducible rfl | simp only [State.wordWritten_frame, Nat.reduceAnd, hide_ite, snd_ite, foldS_frame, whenS_frame, foldl_frame, ite_self, implies_true, mk_leaf, State.hideU, Ce.hide, Glb.hide, Flt.hide, Hif.hide, Sec.hide, Stp.hide, pick, Nat.reduceEqDiff, reduceIte] | with_reducible refine (foldS_frame _ _ _ (fun _ _ => ?_) _).trans ?_ | with_reducible refine (whenS_frame _ _ _ _ (fun _ => ?_)).trans ?_ | split)

theorem State.breakLock_frame (W : Nat) (hW : 2107424 &&& W = 2107424) (i cause : Nat) (s : State) : (State.breakLock i cause s).hide W = s.hide W := by
  refine hide_mono _ _ hW ?_
  unfold State.breakLock
  repeat' (first | with_reducible rfl | simp only [State.raiseU_frame, State.setLock_frame, Nat.reduceAnd, hide_ite, snd_ite, foldS_frame, whenS_frame, foldl_frame, ite_self, implies_true, mk_leaf, State.hideU, Ce.hide, Glb.hide, Flt.hide, Hif.hide, Sec.hide, Stp.hide, pick, Nat.reduceEqDiff, reduceIte] | with_reducible refine (foldS_frame _ _ _ (fun _ _ => ?_) _).trans ?_ | with_reducible refine (whenS_frame _ _ _ _ (fun _ => ?_)).trans ?_ | split)

theorem State.lockRead_frame (W : Nat) (hW : 2107424 &&& W = 2107424) (i : Nat) (s : State) : (State.lockRead i s).hide W = s.hide W := by
  refine hide_mono _ _ hW ?_
  unfold State.lockRead
  repeat' (first | with_reducible rfl | simp only [State.breakLock_frame, State.clearUpset_frame, State.sramErr_frame, Nat.reduceAnd, hide_ite, snd_ite, foldS_frame, whenS_frame, foldl_frame, ite_self, implies_true, mk_leaf, State.hideU, Ce.hide, Glb.hide, Flt.hide, Hif.hide, Sec.hide, Stp.hide, pick, Nat.reduceEqDiff, reduceIte] | with_reducible refine (foldS_frame _ _ _ (fun _ _ => ?_) _).trans ?_ | with_reducible refine (whenS_frame _ _ _ _ (fun _ => ?_)).trans ?_ | split)

theorem State.lockClaim_frame (W : Nat) (hW : 2107424 &&& W = 2107424) (i me len : Nat) (s : State) : (State.lockClaim i me len s).2.2.hide W = s.hide W := by
  refine hide_mono _ _ hW ?_
  unfold State.lockClaim
  repeat' (first | with_reducible rfl | simp only [State.lockRead_frame, State.setLock_frame, Nat.reduceAnd, hide_ite, snd_ite, foldS_frame, whenS_frame, foldl_frame, ite_self, implies_true, mk_leaf, State.hideU, Ce.hide, Glb.hide, Flt.hide, Hif.hide, Sec.hide, Stp.hide, pick, Nat.reduceEqDiff, reduceIte] | with_reducible refine (foldS_frame _ _ _ (fun _ _ => ?_) _).trans ?_ | with_reducible refine (whenS_frame _ _ _ _ (fun _ => ?_)).trans ?_ | split)

theorem State.lockRelease_frame (W : Nat) (hW : 2107424 &&& W = 2107424) (i me : Nat) (s : State) : (State.lockRelease i me s).hide W = s.hide W := by
  refine hide_mono _ _ hW ?_
  unfold State.lockRelease
  repeat' (first | with_reducible rfl | simp only [State.lockRead_frame, State.setLock_frame, Nat.reduceAnd, hide_ite, snd_ite, foldS_frame, whenS_frame, foldl_frame, ite_self, implies_true, mk_leaf, State.hideU, Ce.hide, Glb.hide, Flt.hide, Hif.hide, Sec.hide, Stp.hide, pick, Nat.reduceEqDiff, reduceIte] | with_reducible refine (foldS_frame _ _ _ (fun _ _ => ?_) _).trans ?_ | with_reducible refine (whenS_frame _ _ _ _ (fun _ => ?_)).trans ?_ | split)

theorem State.breakOwners_frame (W : Nat) (hW : 2107424 &&& W = 2107424) (p : Nat → Bool) (s : State) : (State.breakOwners p s).hide W = s.hide W := by
  refine hide_mono _ _ hW ?_
  unfold State.breakOwners
  repeat' (first | with_reducible rfl | simp only [State.breakLock_frame, Nat.reduceAnd, hide_ite, snd_ite, foldS_frame, whenS_frame, foldl_frame, ite_self, implies_true, mk_leaf, State.hideU, Ce.hide, Glb.hide, Flt.hide, Hif.hide, Sec.hide, Stp.hide, pick, Nat.reduceEqDiff, reduceIte] | with_reducible refine (foldS_frame _ _ _ (fun _ _ => ?_) _).trans ?_ | with_reducible refine (whenS_frame _ _ _ _ (fun _ => ?_)).trans ?_ | split)

theorem State.setCapt_frame (W : Nat) (hW : 8388608 &&& W = 8388608) (k : Nat) (c : Capt) (s : State) : (State.setCapt k c s).hide W = s.hide W := by
  refine hide_mono _ _ hW ?_
  unfold State.setCapt
  repeat' (first | with_reducible rfl | simp only [Nat.reduceAnd, hide_ite, snd_ite, foldS_frame, whenS_frame, foldl_frame, ite_self, implies_true, mk_leaf, State.hideU, Ce.hide, Glb.hide, Flt.hide, Hif.hide, Sec.hide, Stp.hide, pick, Nat.reduceEqDiff, reduceIte] | with_reducible refine (foldS_frame _ _ _ (fun _ _ => ?_) _).trans ?_ | with_reducible refine (whenS_frame _ _ _ _ (fun _ => ?_)).trans ?_ | split)

theorem State.captEdge_frame (W : Nat) (hW : 8388608 &&& W = 8388608) (k gpio : Nat) (rise : Bool) (s : State) : (State.captEdge k gpio rise s).hide W = s.hide W := by
  refine hide_mono _ _ hW ?_
  unfold State.captEdge
  repeat' (first | with_reducible rfl | simp only [State.setCapt_frame, Nat.reduceAnd, hide_ite, snd_ite, foldS_frame, whenS_frame, foldl_frame, ite_self, implies_true, mk_leaf, State.hideU, Ce.hide, Glb.hide, Flt.hide, Hif.hide, Sec.hide, Stp.hide, pick, Nat.reduceEqDiff, reduceIte] | with_reducible refine (foldS_frame _ _ _ (fun _ _ => ?_) _).trans ?_ | with_reducible refine (whenS_frame _ _ _ _ (fun _ => ?_)).trans ?_ | split)

theorem State.captCfgWrite_frame (W : Nat) (hW : 12593192 &&& W = 12593192) (k : Nat) (v : Word) (s : State) : (State.captCfgWrite k v s).hide W = s.hide W := by
  refine hide_mono _ _ hW ?_
  unfold State.captCfgWrite
  repeat' (first | with_reducible rfl | simp only [State.claimAll_frame, State.regWrite_frame, State.setCapt_frame, State.unclaim_frame, Nat.reduceAnd, hide_ite, snd_ite, foldS_frame, whenS_frame, foldl_frame, ite_self, implies_true, mk_leaf, State.hideU, Ce.hide, Glb.hide, Flt.hide, Hif.hide, Sec.hide, Stp.hide, pick, Nat.reduceEqDiff, reduceIte] | with_reducible refine (foldS_frame _ _ _ (fun _ _ => ?_) _).trans ?_ | with_reducible refine (whenS_frame _ _ _ _ (fun _ => ?_)).trans ?_ | split)

theorem State.altCfgWrite_frame (W : Nat) (hW : 12593192 &&& W = 12593192) (a : Nat) (v : Word) (s : State) : (State.altCfgWrite a v s).hide W = s.hide W := by
  refine hide_mono _ _ hW ?_
  unfold State.altCfgWrite
  repeat' (first | with_reducible rfl | simp only [State.claimAll_frame, State.regWrite_frame, State.unclaim_frame, Nat.reduceAnd, hide_ite, snd_ite, foldS_frame, whenS_frame, foldl_frame, ite_self, implies_true, mk_leaf, State.hideU, Ce.hide, Glb.hide, Flt.hide, Hif.hide, Sec.hide, Stp.hide, pick, Nat.reduceEqDiff, reduceIte] | with_reducible refine (foldS_frame _ _ _ (fun _ _ => ?_) _).trans ?_ | with_reducible refine (whenS_frame _ _ _ _ (fun _ => ?_)).trans ?_ | split)

theorem State.captRead_frame (W : Nat) (hW : 8388608 &&& W = 8388608) (k : Nat) (s : State) : (State.captRead k s).2.hide W = s.hide W := by
  refine hide_mono _ _ hW ?_
  unfold State.captRead
  repeat' (first | with_reducible rfl | simp only [State.setCapt_frame, Nat.reduceAnd, hide_ite, snd_ite, foldS_frame, whenS_frame, foldl_frame, ite_self, implies_true, mk_leaf, State.hideU, Ce.hide, Glb.hide, Flt.hide, Hif.hide, Sec.hide, Stp.hide, pick, Nat.reduceEqDiff, reduceIte] | with_reducible refine (foldS_frame _ _ _ (fun _ _ => ?_) _).trans ?_ | with_reducible refine (whenS_frame _ _ _ _ (fun _ => ?_)).trans ?_ | split)

theorem State.leaseTest_frame (W : Nat) (hW : 2107424 &&& W = 2107424) (i : Nat) (s : State) : (State.leaseTest i s).hide W = s.hide W := by
  refine hide_mono _ _ hW ?_
  unfold State.leaseTest
  repeat' (first | with_reducible rfl | simp only [State.breakLock_frame, State.lockRead_frame, Nat.reduceAnd, hide_ite, snd_ite, foldS_frame, whenS_frame, foldl_frame, ite_self, implies_true, mk_leaf, State.hideU, Ce.hide, Glb.hide, Flt.hide, Hif.hide, Sec.hide, Stp.hide, pick, Nat.reduceEqDiff, reduceIte] | with_reducible refine (foldS_frame _ _ _ (fun _ _ => ?_) _).trans ?_ | with_reducible refine (whenS_frame _ _ _ _ (fun _ => ?_)).trans ?_ | split)

theorem execLeaseExpiry_frame (W : Nat) (hW : 2107424 &&& W = 2107424) (i : Fin 256) (s : State) : (after1 (execLeaseExpiry i) s).hide W = s.hide W := by
  refine hide_mono _ _ hW ?_
  unfold after1 execLeaseExpiry
  repeat' (first | with_reducible rfl | simp only [State.leaseTest_frame, Nat.reduceAnd, hide_ite, snd_ite, foldS_frame, whenS_frame, foldl_frame, ite_self, implies_true, mk_leaf, State.hideU, Ce.hide, Glb.hide, Flt.hide, Hif.hide, Sec.hide, Stp.hide, pick, Nat.reduceEqDiff, reduceIte] | with_reducible refine (foldS_frame _ _ _ (fun _ _ => ?_) _).trans ?_ | with_reducible refine (whenS_frame _ _ _ _ (fun _ => ?_)).trans ?_ | split)

theorem execCaptureEdge_frame (W : Nat) (hW : 8388608 &&& W = 8388608) (gpio : Fin 16) (rise : Bool) (s : State) : (after1 (execCaptureEdge gpio rise) s).hide W = s.hide W := by
  refine hide_mono _ _ hW ?_
  unfold after1 execCaptureEdge
  repeat' (first | with_reducible rfl | simp only [State.captEdge_frame, Nat.reduceAnd, hide_ite, snd_ite, foldS_frame, whenS_frame, foldl_frame, ite_self, implies_true, mk_leaf, State.hideU, Ce.hide, Glb.hide, Flt.hide, Hif.hide, Sec.hide, Stp.hide, pick, Nat.reduceEqDiff, reduceIte] | with_reducible refine (foldS_frame _ _ _ (fun _ _ => ?_) _).trans ?_ | with_reducible refine (whenS_frame _ _ _ _ (fun _ => ?_)).trans ?_ | split)

theorem execCaptDataRead_frame (W : Nat) (hW : 8388608 &&& W = 8388608) (k : Fin 8) (s : State) : (after1 (execCaptDataRead k) s).hide W = s.hide W := by
  refine hide_mono _ _ hW ?_
  unfold after1 execCaptDataRead
  repeat' (first | with_reducible rfl | simp only [State.captRead_frame, Nat.reduceAnd, hide_ite, snd_ite, foldS_frame, whenS_frame, foldl_frame, ite_self, implies_true, mk_leaf, State.hideU, Ce.hide, Glb.hide, Flt.hide, Hif.hide, Sec.hide, Stp.hide, pick, Nat.reduceEqDiff, reduceIte] | with_reducible refine (foldS_frame _ _ _ (fun _ _ => ?_) _).trans ?_ | with_reducible refine (whenS_frame _ _ _ _ (fun _ => ?_)).trans ?_ | split)

theorem State.setPort_frame (W : Nat) (hW : 536870912 &&& W = 536870912) (n : Nat) (p : Port) (s : State) : (State.setPort n p s).hide W = s.hide W := by
  refine hide_mono _ _ hW ?_
  unfold State.setPort
  repeat' (first | with_reducible rfl | simp only [Nat.reduceAnd, hide_ite, snd_ite, foldS_frame, whenS_frame, foldl_frame, ite_self, implies_true, mk_leaf, State.hideU, Ce.hide, Glb.hide, Flt.hide, Hif.hide, Sec.hide, Stp.hide, pick, Nat.reduceEqDiff, reduceIte] | with_reducible refine (foldS_frame _ _ _ (fun _ _ => ?_) _).trans ?_ | with_reducible refine (whenS_frame _ _ _ _ (fun _ => ?_)).trans ?_ | split)

theorem State.modPort_frame (W : Nat) (hW : 536870912 &&& W = 536870912) (n : Nat) (f : Port → Port) (s : State) : (State.modPort n f s).hide W = s.hide W := by
  refine hide_mono _ _ hW ?_
  unfold State.modPort
  repeat' (first | with_reducible rfl | simp only [State.setPort_frame, Nat.reduceAnd, hide_ite, snd_ite, foldS_frame, whenS_frame, foldl_frame, ite_self, implies_true, mk_leaf, State.hideU, Ce.hide, Glb.hide, Flt.hide, Hif.hide, Sec.hide, Stp.hide, pick, Nat.reduceEqDiff, reduceIte] | with_reducible refine (foldS_frame _ _ _ (fun _ _ => ?_) _).trans ?_ | with_reducible refine (whenS_frame _ _ _ _ (fun _ => ?_)).trans ?_ | split)

theorem State.stpHold_frame (W : Nat) (hW : 268435456 &&& W = 268435456) (s : State) : (State.stpHold s).hide W = s.hide W := by
  refine hide_mono _ _ hW ?_
  unfold State.stpHold
  repeat' (first | with_reducible rfl | simp only [Nat.reduceAnd, hide_ite, snd_ite, foldS_frame, whenS_frame, foldl_frame, ite_self, implies_true, mk_leaf, State.hideU, Ce.hide, Glb.hide, Flt.hide, Hif.hide, Sec.hide, Stp.hide, pick, Nat.reduceEqDiff, reduceIte] | with_reducible refine (foldS_frame _ _ _ (fun _ _ => ?_) _).trans ?_ | with_reducible refine (whenS_frame _ _ _ _ (fun _ => ?_)).trans ?_ | split)

theorem State.setRef_frame (W : Nat) (hW : 134217728 &&& W = 134217728) (k : Nat) (r : RefState) (s : State) : (State.setRef k r s).hide W = s.hide W := by
  refine hide_mono _ _ hW ?_
  unfold State.setRef
  repeat' (first | with_reducible rfl | simp only [Nat.reduceAnd, hide_ite, snd_ite, foldS_frame, whenS_frame, foldl_frame, ite_self, implies_true, mk_leaf, State.hideU, Ce.hide, Glb.hide, Flt.hide, Hif.hide, Sec.hide, Stp.hide, pick, Nat.reduceEqDiff, reduceIte] | with_reducible refine (foldS_frame _ _ _ (fun _ _ => ?_) _).trans ?_ | with_reducible refine (whenS_frame _ _ _ _ (fun _ => ?_)).trans ?_ | split)

theorem State.refMeasure_frame (W : Nat) (hW : 134217728 &&& W = 134217728) (k : Nat) (m : RefMeas) (s : State) : (State.refMeasure k m s).hide W = s.hide W := by
  refine hide_mono _ _ hW ?_
  unfold State.refMeasure
  repeat' (first | with_reducible rfl | simp only [State.setRef_frame, Nat.reduceAnd, hide_ite, snd_ite, foldS_frame, whenS_frame, foldl_frame, ite_self, implies_true, mk_leaf, State.hideU, Ce.hide, Glb.hide, Flt.hide, Hif.hide, Sec.hide, Stp.hide, pick, Nat.reduceEqDiff, reduceIte] | with_reducible refine (foldS_frame _ _ _ (fun _ _ => ?_) _).trans ?_ | with_reducible refine (whenS_frame _ _ _ _ (fun _ => ?_)).trans ?_ | split)

theorem State.refLine_frame (W : Nat) (hW : 134217728 &&& W = 134217728) (n : Nat) (s : State) : (State.refLine n s).hide W = s.hide W := by
  refine hide_mono _ _ hW ?_
  unfold State.refLine
  repeat' (first | with_reducible rfl | simp only [State.setRef_frame, Nat.reduceAnd, hide_ite, snd_ite, foldS_frame, whenS_frame, foldl_frame, ite_self, implies_true, mk_leaf, State.hideU, Ce.hide, Glb.hide, Flt.hide, Hif.hide, Sec.hide, Stp.hide, pick, Nat.reduceEqDiff, reduceIte] | with_reducible refine (foldS_frame _ _ _ (fun _ _ => ?_) _).trans ?_ | with_reducible refine (whenS_frame _ _ _ _ (fun _ => ?_)).trans ?_ | split)

theorem State.requalify_frame (W : Nat) (hW : 134219776 &&& W = 134219776) (k : Nat) (s : State) : (State.requalify k s).hide W = s.hide W := by
  refine hide_mono _ _ hW ?_
  unfold State.requalify
  repeat' (first | with_reducible rfl | simp only [State.raise_frame, State.setRef_frame, Nat.reduceAnd, hide_ite, snd_ite, foldS_frame, whenS_frame, foldl_frame, ite_self, implies_true, mk_leaf, State.hideU, Ce.hide, Glb.hide, Flt.hide, Hif.hide, Sec.hide, Stp.hide, pick, Nat.reduceEqDiff, reduceIte] | with_reducible refine (foldS_frame _ _ _ (fun _ _ => ?_) _).trans ?_ | with_reducible refine (whenS_frame _ _ _ _ (fun _ => ?_)).trans ?_ | split)

theorem State.disqualify_frame (W : Nat) (hW : 134219780 &&& W = 134219780) (k : Nat) (s : State) : (State.disqualify k s).hide W = s.hide W := by
  refine hide_mono _ _ hW ?_
  unfold State.disqualify
  repeat' (first | with_reducible rfl | simp only [State.raise_frame, State.setRef_frame, State.takeFree_frame, Nat.reduceAnd, hide_ite, snd_ite, foldS_frame, whenS_frame, foldl_frame, ite_self, implies_true, mk_leaf, State.hideU, Ce.hide, Glb.hide, Flt.hide, Hif.hide, Sec.hide, Stp.hide, pick, Nat.reduceEqDiff, reduceIte] | with_reducible refine (foldS_frame _ _ _ (fun _ _ => ?_) _).trans ?_ | with_reducible refine (whenS_frame _ _ _ _ (fun _ => ?_)).trans ?_ | split)

theorem State.refBoundary_frame (W : Nat) (hW : 134219780 &&& W = 134219780) (k : Nat) (s : State) : (State.refBoundary k s).hide W = s.hide W := by
  refine hide_mono _ _ hW ?_
  unfold State.refBoundary
  repeat' (first | with_reducible rfl | simp only [State.disqualify_frame, State.requalify_frame, State.setRef_frame, Nat.reduceAnd, hide_ite, snd_ite, foldS_frame, whenS_frame, foldl_frame, ite_self, implies_true, mk_leaf, State.hideU, Ce.hide, Glb.hide, Flt.hide, Hif.hide, Sec.hide, Stp.hide, pick, Nat.reduceEqDiff, reduceIte] | with_reducible refine (foldS_frame _ _ _ (fun _ _ => ?_) _).trans ?_ | with_reducible refine (whenS_frame _ _ _ _ (fun _ => ?_)).trans ?_ | split)

theorem State.selBoundary_frame (W : Nat) (hW : 134219776 &&& W = 134219776) (s : State) : (State.selBoundary s).hide W = s.hide W := by
  refine hide_mono _ _ hW ?_
  unfold State.selBoundary
  repeat' (first | with_reducible rfl | simp only [State.raise_frame, Nat.reduceAnd, hide_ite, snd_ite, foldS_frame, whenS_frame, foldl_frame, ite_self, implies_true, mk_leaf, State.hideU, Ce.hide, Glb.hide, Flt.hide, Hif.hide, Sec.hide, Stp.hide, pick, Nat.reduceEqDiff, reduceIte] | with_reducible refine (foldS_frame _ _ _ (fun _ _ => ?_) _).trans ?_ | with_reducible refine (whenS_frame _ _ _ _ (fun _ => ?_)).trans ?_ | split)

theorem State.enterFreerun_frame (W : Nat) (hW : 134219776 &&& W = 134219776) (s : State) : (State.enterFreerun s).hide W = s.hide W := by
  refine hide_mono _ _ hW ?_
  unfold State.enterFreerun
  repeat' (first | with_reducible rfl | simp only [State.raise_frame, Nat.reduceAnd, hide_ite, snd_ite, foldS_frame, whenS_frame, foldl_frame, ite_self, implies_true, mk_leaf, State.hideU, Ce.hide, Glb.hide, Flt.hide, Hif.hide, Sec.hide, Stp.hide, pick, Nat.reduceEqDiff, reduceIte] | with_reducible refine (foldS_frame _ _ _ (fun _ _ => ?_) _).trans ?_ | with_reducible refine (whenS_frame _ _ _ _ (fun _ => ?_)).trans ?_ | split)

theorem State.enterHoldover_frame (W : Nat) (hW : 134219776 &&& W = 134219776) (s : State) : (State.enterHoldover s).hide W = s.hide W := by
  refine hide_mono _ _ hW ?_
  unfold State.enterHoldover
  repeat' (first | with_reducible rfl | simp only [State.raise_frame, Nat.reduceAnd, hide_ite, snd_ite, foldS_frame, whenS_frame, foldl_frame, ite_self, implies_true, mk_leaf, State.hideU, Ce.hide, Glb.hide, Flt.hide, Hif.hide, Sec.hide, Stp.hide, pick, Nat.reduceEqDiff, reduceIte] | with_reducible refine (foldS_frame _ _ _ (fun _ _ => ?_) _).trans ?_ | with_reducible refine (whenS_frame _ _ _ _ (fun _ => ?_)).trans ?_ | split)

theorem State.enterAcquiring_frame (W : Nat) (hW : 134217728 &&& W = 134217728) (s : State) : (State.enterAcquiring s).hide W = s.hide W := by
  refine hide_mono _ _ hW ?_
  unfold State.enterAcquiring
  repeat' (first | with_reducible rfl | simp only [Nat.reduceAnd, hide_ite, snd_ite, foldS_frame, whenS_frame, foldl_frame, ite_self, implies_true, mk_leaf, State.hideU, Ce.hide, Glb.hide, Flt.hide, Hif.hide, Sec.hide, Stp.hide, pick, Nat.reduceEqDiff, reduceIte] | with_reducible refine (foldS_frame _ _ _ (fun _ _ => ?_) _).trans ?_ | with_reducible refine (whenS_frame _ _ _ _ (fun _ => ?_)).trans ?_ | split)

theorem State.dpllBoundary_frame (W : Nat) (hW : 134219776 &&& W = 134219776) (phaseErr : Int) (s : State) : (State.dpllBoundary phaseErr s).hide W = s.hide W := by
  refine hide_mono _ _ hW ?_
  unfold State.dpllBoundary
  repeat' (first | with_reducible rfl | simp only [State.enterAcquiring_frame, State.enterFreerun_frame, State.enterHoldover_frame, Nat.reduceAnd, hide_ite, snd_ite, foldS_frame, whenS_frame, foldl_frame, ite_self, implies_true, mk_leaf, State.hideU, Ce.hide, Glb.hide, Flt.hide, Hif.hide, Sec.hide, Stp.hide, pick, Nat.reduceEqDiff, reduceIte] | with_reducible refine (foldS_frame _ _ _ (fun _ _ => ?_) _).trans ?_ | with_reducible refine (whenS_frame _ _ _ _ (fun _ => ?_)).trans ?_ | split)

theorem State.qlUpdate_frame (W : Nat) (hW : 134219776 &&& W = 134219776) (s : State) : (State.qlUpdate s).hide W = s.hide W := by
  refine hide_mono _ _ hW ?_
  unfold State.qlUpdate
  repeat' (first | with_reducible rfl | simp only [State.raise_frame, Nat.reduceAnd, hide_ite, snd_ite, foldS_frame, whenS_frame, foldl_frame, ite_self, implies_true, mk_leaf, State.hideU, Ce.hide, Glb.hide, Flt.hide, Hif.hide, Sec.hide, Stp.hide, pick, Nat.reduceEqDiff, reduceIte] | with_reducible refine (foldS_frame _ _ _ (fun _ _ => ?_) _).trans ?_ | with_reducible refine (whenS_frame _ _ _ _ (fun _ => ?_)).trans ?_ | split)

theorem State.setRefout_frame (W : Nat) (hW : 268435456 &&& W = 268435456) (m : Nat) (r : RefOut) (s : State) : (State.setRefout m r s).hide W = s.hide W := by
  refine hide_mono _ _ hW ?_
  unfold State.setRefout
  repeat' (first | with_reducible rfl | simp only [Nat.reduceAnd, hide_ite, snd_ite, foldS_frame, whenS_frame, foldl_frame, ite_self, implies_true, mk_leaf, State.hideU, Ce.hide, Glb.hide, Flt.hide, Hif.hide, Sec.hide, Stp.hide, pick, Nat.reduceEqDiff, reduceIte] | with_reducible refine (foldS_frame _ _ _ (fun _ _ => ?_) _).trans ?_ | with_reducible refine (whenS_frame _ _ _ _ (fun _ => ?_)).trans ?_ | split)

theorem State.refoutBoundary_frame (W : Nat) (hW : 268435456 &&& W = 268435456) (m : Nat) (s : State) : (State.refoutBoundary m s).hide W = s.hide W := by
  refine hide_mono _ _ hW ?_
  unfold State.refoutBoundary
  repeat' (first | with_reducible rfl | simp only [State.setRefout_frame, Nat.reduceAnd, hide_ite, snd_ite, foldS_frame, whenS_frame, foldl_frame, ite_self, implies_true, mk_leaf, State.hideU, Ce.hide, Glb.hide, Flt.hide, Hif.hide, Sec.hide, Stp.hide, pick, Nat.reduceEqDiff, reduceIte] | with_reducible refine (foldS_frame _ _ _ (fun _ _ => ?_) _).trans ?_ | with_reducible refine (whenS_frame _ _ _ _ (fun _ => ?_)).trans ?_ | split)

theorem State.refoutWrite_frame (W : Nat) (hW : 272640040 &&& W = 272640040) (m : Nat) (v : Word) (s : State) : (State.refoutWrite m v s).hide W = s.hide W := by
  refine hide_mono _ _ hW ?_
  unfold State.refoutWrite
  repeat' (first | with_reducible rfl | simp only [State.claimAll_frame, State.regWrite_frame, State.setRefout_frame, State.unclaim_frame, Nat.reduceAnd, hide_ite, snd_ite, foldS_frame, whenS_frame, foldl_frame, ite_self, implies_true, mk_leaf, State.hideU, Ce.hide, Glb.hide, Flt.hide, Hif.hide, Sec.hide, Stp.hide, pick, Nat.reduceEqDiff, reduceIte] | with_reducible refine (foldS_frame _ _ _ (fun _ _ => ?_) _).trans ?_ | with_reducible refine (whenS_frame _ _ _ _ (fun _ => ?_)).trans ?_ | split)

theorem State.setTimer_frame (W : Nat) (hW : 67108864 &&& W = 67108864) (n : Nat) (t : Timer) (s : State) : (State.setTimer n t s).hide W = s.hide W := by
  refine hide_mono _ _ hW ?_
  unfold State.setTimer
  repeat' (first | with_reducible rfl | simp only [Nat.reduceAnd, hide_ite, snd_ite, foldS_frame, whenS_frame, foldl_frame, ite_self, implies_true, mk_leaf, State.hideU, Ce.hide, Glb.hide, Flt.hide, Hif.hide, Sec.hide, Stp.hide, pick, Nat.reduceEqDiff, reduceIte] | with_reducible refine (foldS_frame _ _ _ (fun _ _ => ?_) _).trans ?_ | with_reducible refine (whenS_frame _ _ _ _ (fun _ => ?_)).trans ?_ | split)

theorem State.tmrGpioClaim_frame (W : Nat) (hW : 71313440 &&& W = 71313440) (n : Nat) (s : State) : (State.tmrGpioClaim n s).hide W = s.hide W := by
  refine hide_mono _ _ hW ?_
  unfold State.tmrGpioClaim
  repeat' (first | with_reducible rfl | simp only [State.claimAll_frame, State.setTimer_frame, Nat.reduceAnd, hide_ite, snd_ite, foldS_frame, whenS_frame, foldl_frame, ite_self, implies_true, mk_leaf, State.hideU, Ce.hide, Glb.hide, Flt.hide, Hif.hide, Sec.hide, Stp.hide, pick, Nat.reduceEqDiff, reduceIte] | with_reducible refine (foldS_frame _ _ _ (fun _ _ => ?_) _).trans ?_ | with_reducible refine (whenS_frame _ _ _ _ (fun _ => ?_)).trans ?_ | split)

theorem State.tmrGpioFree_frame (W : Nat) (hW : 71313440 &&& W = 71313440) (n : Nat) (s : State) : (State.tmrGpioFree n s).hide W = s.hide W := by
  refine hide_mono _ _ hW ?_
  unfold State.tmrGpioFree
  repeat' (first | with_reducible rfl | simp only [State.setTimer_frame, State.unclaim_frame, Nat.reduceAnd, hide_ite, snd_ite, foldS_frame, whenS_frame, foldl_frame, ite_self, implies_true, mk_leaf, State.hideU, Ce.hide, Glb.hide, Flt.hide, Hif.hide, Sec.hide, Stp.hide, pick, Nat.reduceEqDiff, reduceIte] | with_reducible refine (foldS_frame _ _ _ (fun _ _ => ?_) _).trans ?_ | with_reducible refine (whenS_frame _ _ _ _ (fun _ => ?_)).trans ?_ | split)

theorem State.tmrWrite_frame (W : Nat) (hW : 71313448 &&& W = 71313448) (n : Nat) (v : Word) (s : State) : (State.tmrWrite n v s).hide W = s.hide W := by
  refine hide_mono _ _ hW ?_
  unfold State.tmrWrite
  repeat' (first | with_reducible rfl | simp only [State.claimAll_frame, State.regWrite_frame, State.setTimer_frame, State.tmrGpioClaim_frame, State.tmrGpioFree_frame, State.unclaim_frame, Nat.reduceAnd, hide_ite, snd_ite, foldS_frame, whenS_frame, foldl_frame, ite_self, implies_true, mk_leaf, State.hideU, Ce.hide, Glb.hide, Flt.hide, Hif.hide, Sec.hide, Stp.hide, pick, Nat.reduceEqDiff, reduceIte] | with_reducible refine (foldS_frame _ _ _ (fun _ _ => ?_) _).trans ?_ | with_reducible refine (whenS_frame _ _ _ _ (fun _ => ?_)).trans ?_ | split)

theorem State.tmrArm_frame (W : Nat) (hW : 67108864 &&& W = 67108864) (n : Nat) (s : State) : (State.tmrArm n s).hide W = s.hide W := by
  refine hide_mono _ _ hW ?_
  unfold State.tmrArm
  repeat' (first | with_reducible rfl | simp only [State.setTimer_frame, Nat.reduceAnd, hide_ite, snd_ite, foldS_frame, whenS_frame, foldl_frame, ite_self, implies_true, mk_leaf, State.hideU, Ce.hide, Glb.hide, Flt.hide, Hif.hide, Sec.hide, Stp.hide, pick, Nat.reduceEqDiff, reduceIte] | with_reducible refine (foldS_frame _ _ _ (fun _ _ => ?_) _).trans ?_ | with_reducible refine (whenS_frame _ _ _ _ (fun _ => ?_)).trans ?_ | split)

theorem State.tmrDisarm_frame (W : Nat) (hW : 67108864 &&& W = 67108864) (n : Nat) (s : State) : (State.tmrDisarm n s).hide W = s.hide W := by
  refine hide_mono _ _ hW ?_
  unfold State.tmrDisarm
  repeat' (first | with_reducible rfl | simp only [State.setTimer_frame, Nat.reduceAnd, hide_ite, snd_ite, foldS_frame, whenS_frame, foldl_frame, ite_self, implies_true, mk_leaf, State.hideU, Ce.hide, Glb.hide, Flt.hide, Hif.hide, Sec.hide, Stp.hide, pick, Nat.reduceEqDiff, reduceIte] | with_reducible refine (foldS_frame _ _ _ (fun _ _ => ?_) _).trans ?_ | with_reducible refine (whenS_frame _ _ _ _ (fun _ => ?_)).trans ?_ | split)

theorem State.tmrFire_frame (W : Nat) (hW : 67110912 &&& W = 67110912) (n : Nat) (s : State) : (State.tmrFire n s).hide W = s.hide W := by
  refine hide_mono _ _ hW ?_
  unfold State.tmrFire
  repeat' (first | with_reducible rfl | simp only [State.raise_frame, State.setTimer_frame, Nat.reduceAnd, hide_ite, snd_ite, foldS_frame, whenS_frame, foldl_frame, ite_self, implies_true, mk_leaf, State.hideU, Ce.hide, Glb.hide, Flt.hide, Hif.hide, Sec.hide, Stp.hide, pick, Nat.reduceEqDiff, reduceIte] | with_reducible refine (foldS_frame _ _ _ (fun _ _ => ?_) _).trans ?_ | with_reducible refine (whenS_frame _ _ _ _ (fun _ => ?_)).trans ?_ | split)

theorem State.subTicksPass_frame (W : Nat) (hW : 67641344 &&& W = 67641344) (n : Nat) (s : State) : (State.subTicksPass n s).hide W = s.hide W := by
  refine hide_mono _ _ hW ?_
  unfold State.subTicksPass
  repeat' (first | with_reducible rfl | simp only [Nat.reduceAnd, hide_ite, snd_ite, foldS_frame, whenS_frame, foldl_frame, ite_self, implies_true, mk_leaf, State.hideU, Ce.hide, Glb.hide, Flt.hide, Hif.hide, Sec.hide, Stp.hide, pick, Nat.reduceEqDiff, reduceIte] | with_reducible refine (foldS_frame _ _ _ (fun _ _ => ?_) _).trans ?_ | with_reducible refine (whenS_frame _ _ _ _ (fun _ => ?_)).trans ?_ | split)

theorem execSnapLatch_frame (W : Nat) (hW : 268435456 &&& W = 268435456) (s : State) : (after1 (execSnapLatch ) s).hide W = s.hide W := by
  refine hide_mono _ _ hW ?_
  unfold after1 execSnapLatch
  repeat' (first | with_reducible rfl | simp only [Nat.reduceAnd, hide_ite, snd_ite, foldS_frame, whenS_frame, foldl_frame, ite_self, implies_true, mk_leaf, State.hideU, Ce.hide, Glb.hide, Flt.hide, Hif.hide, Sec.hide, Stp.hide, pick, Nat.reduceEqDiff, reduceIte] | with_reducible refine (foldS_frame _ _ _ (fun _ _ => ?_) _).trans ?_ | with_reducible refine (whenS_frame _ _ _ _ (fun _ => ?_)).trans ?_ | split)

theorem State.epochWrite_frame (W : Nat) (hW : 268435464 &&& W = 268435464) (v : Word) (s : State) : (State.epochWrite v s).hide W = s.hide W := by
  refine hide_mono _ _ hW ?_
  unfold State.epochWrite
  repeat' (first | with_reducible rfl | simp only [State.setReg_frame, Nat.reduceAnd, hide_ite, snd_ite, foldS_frame, whenS_frame, foldl_frame, ite_self, implies_true, mk_leaf, State.hideU, Ce.hide, Glb.hide, Flt.hide, Hif.hide, Sec.hide, Stp.hide, pick, Nat.reduceEqDiff, reduceIte] | with_reducible refine (foldS_frame _ _ _ (fun _ _ => ?_) _).trans ?_ | with_reducible refine (whenS_frame _ _ _ _ (fun _ => ?_)).trans ?_ | split)

theorem execEpochWrite_frame (W : Nat) (hW : 268435464 &&& W = 268435464) (v : Word) (s : State) : (after1 (execEpochWrite v) s).hide W = s.hide W := by
  refine hide_mono _ _ hW ?_
  unfold after1 execEpochWrite
  repeat' (first | with_reducible rfl | simp only [State.epochWrite_frame, Nat.reduceAnd, hide_ite, snd_ite, foldS_frame, whenS_frame, foldl_frame, ite_self, implies_true, mk_leaf, State.hideU, Ce.hide, Glb.hide, Flt.hide, Hif.hide, Sec.hide, Stp.hide, pick, Nat.reduceEqDiff, reduceIte] | with_reducible refine (foldS_frame _ _ _ (fun _ _ => ?_) _).trans ?_ | with_reducible refine (whenS_frame _ _ _ _ (fun _ => ?_)).trans ?_ | split)

theorem State.originWrite_frame (W : Nat) (hW : 268435456 &&& W = 268435456) (v : Word) (s : State) : (State.originWrite v s).hide W = s.hide W := by
  refine hide_mono _ _ hW ?_
  unfold State.originWrite
  repeat' (first | with_reducible rfl | simp only [Nat.reduceAnd, hide_ite, snd_ite, foldS_frame, whenS_frame, foldl_frame, ite_self, implies_true, mk_leaf, State.hideU, Ce.hide, Glb.hide, Flt.hide, Hif.hide, Sec.hide, Stp.hide, pick, Nat.reduceEqDiff, reduceIte] | with_reducible refine (foldS_frame _ _ _ (fun _ _ => ?_) _).trans ?_ | with_reducible refine (whenS_frame _ _ _ _ (fun _ => ?_)).trans ?_ | split)

theorem execSecondOriginWrite_frame (W : Nat) (hW : 268435456 &&& W = 268435456) (v : Word) (s : State) : (after1 (execSecondOriginWrite v) s).hide W = s.hide W := by
  refine hide_mono _ _ hW ?_
  unfold after1 execSecondOriginWrite
  repeat' (first | with_reducible rfl | simp only [State.originWrite_frame, Nat.reduceAnd, hide_ite, snd_ite, foldS_frame, whenS_frame, foldl_frame, ite_self, implies_true, mk_leaf, State.hideU, Ce.hide, Glb.hide, Flt.hide, Hif.hide, Sec.hide, Stp.hide, pick, Nat.reduceEqDiff, reduceIte] | with_reducible refine (foldS_frame _ _ _ (fun _ _ => ?_) _).trans ?_ | with_reducible refine (whenS_frame _ _ _ _ (fun _ => ?_)).trans ?_ | split)

theorem execTimerEnable_frame (W : Nat) (hW : 71313448 &&& W = 71313448) (n : Fin 16) (v : Word) (s : State) : (after1 (execTimerEnable n v) s).hide W = s.hide W := by
  refine hide_mono _ _ hW ?_
  unfold after1 execTimerEnable
  repeat' (first | with_reducible rfl | simp only [State.tmrWrite_frame, Nat.reduceAnd, hide_ite, snd_ite, foldS_frame, whenS_frame, foldl_frame, ite_self, implies_true, mk_leaf, State.hideU, Ce.hide, Glb.hide, Flt.hide, Hif.hide, Sec.hide, Stp.hide, pick, Nat.reduceEqDiff, reduceIte] | with_reducible refine (foldS_frame _ _ _ (fun _ _ => ?_) _).trans ?_ | with_reducible refine (whenS_frame _ _ _ _ (fun _ => ?_)).trans ?_ | split)

theorem execTimerArm_frame (W : Nat) (hW : 67108864 &&& W = 67108864) (n : Fin 16) (s : State) : (after1 (execTimerArm n) s).hide W = s.hide W := by
  refine hide_mono _ _ hW ?_
  unfold after1 execTimerArm
  repeat' (first | with_reducible rfl | simp only [State.tmrArm_frame, Nat.reduceAnd, hide_ite, snd_ite, foldS_frame, whenS_frame, foldl_frame, ite_self, implies_true, mk_leaf, State.hideU, Ce.hide, Glb.hide, Flt.hide, Hif.hide, Sec.hide, Stp.hide, pick, Nat.reduceEqDiff, reduceIte] | with_reducible refine (foldS_frame _ _ _ (fun _ _ => ?_) _).trans ?_ | with_reducible refine (whenS_frame _ _ _ _ (fun _ => ?_)).trans ?_ | split)

theorem execTimerDisarm_frame (W : Nat) (hW : 67108864 &&& W = 67108864) (n : Fin 16) (s : State) : (after1 (execTimerDisarm n) s).hide W = s.hide W := by
  refine hide_mono _ _ hW ?_
  unfold after1 execTimerDisarm
  repeat' (first | with_reducible rfl | simp only [State.tmrDisarm_frame, Nat.reduceAnd, hide_ite, snd_ite, foldS_frame, whenS_frame, foldl_frame, ite_self, implies_true, mk_leaf, State.hideU, Ce.hide, Glb.hide, Flt.hide, Hif.hide, Sec.hide, Stp.hide, pick, Nat.reduceEqDiff, reduceIte] | with_reducible refine (foldS_frame _ _ _ (fun _ _ => ?_) _).trans ?_ | with_reducible refine (whenS_frame _ _ _ _ (fun _ => ?_)).trans ?_ | split)

theorem execTmrFire_frame (W : Nat) (hW : 67110912 &&& W = 67110912) (n : Fin 16) (s : State) : (after1 (execTmrFire n) s).hide W = s.hide W := by
  refine hide_mono _ _ hW ?_
  unfold after1 execTmrFire
  repeat' (first | with_reducible rfl | simp only [State.tmrFire_frame, Nat.reduceAnd, hide_ite, snd_ite, foldS_frame, whenS_frame, foldl_frame, ite_self, implies_true, mk_leaf, State.hideU, Ce.hide, Glb.hide, Flt.hide, Hif.hide, Sec.hide, Stp.hide, pick, Nat.reduceEqDiff, reduceIte] | with_reducible refine (foldS_frame _ _ _ (fun _ _ => ?_) _).trans ?_ | with_reducible refine (whenS_frame _ _ _ _ (fun _ => ?_)).trans ?_ | split)

theorem execRefoutEnable_frame (W : Nat) (hW : 272640040 &&& W = 272640040) (m : Fin 2) (v : Word) (s : State) : (after1 (execRefoutEnable m v) s).hide W = s.hide W := by
  refine hide_mono _ _ hW ?_
  unfold after1 execRefoutEnable
  repeat' (first | with_reducible rfl | simp only [State.refoutWrite_frame, Nat.reduceAnd, hide_ite, snd_ite, foldS_frame, whenS_frame, foldl_frame, ite_self, implies_true, mk_leaf, State.hideU, Ce.hide, Glb.hide, Flt.hide, Hif.hide, Sec.hide, Stp.hide, pick, Nat.reduceEqDiff, reduceIte] | with_reducible refine (foldS_frame _ _ _ (fun _ _ => ?_) _).trans ?_ | with_reducible refine (whenS_frame _ _ _ _ (fun _ => ?_)).trans ?_ | split)

theorem execRefDisq_frame (W : Nat) (hW : 134217728 &&& W = 134217728) (k : Fin 8) (m : RefMeas) (s : State) : (after1 (execRefDisq k m) s).hide W = s.hide W := by
  refine hide_mono _ _ hW ?_
  unfold after1 execRefDisq
  repeat' (first | with_reducible rfl | simp only [State.refMeasure_frame, State.setRef_frame, Nat.reduceAnd, hide_ite, snd_ite, foldS_frame, whenS_frame, foldl_frame, ite_self, implies_true, mk_leaf, State.hideU, Ce.hide, Glb.hide, Flt.hide, Hif.hide, Sec.hide, Stp.hide, pick, Nat.reduceEqDiff, reduceIte] | with_reducible refine (foldS_frame _ _ _ (fun _ _ => ?_) _).trans ?_ | with_reducible refine (whenS_frame _ _ _ _ (fun _ => ?_)).trans ?_ | split)

theorem execRefQual_frame (W : Nat) (hW : 134219776 &&& W = 134219776) (k : Fin 8) (m : RefMeas) (s : State) : (after1 (execRefQual k m) s).hide W = s.hide W := by
  refine hide_mono _ _ hW ?_
  unfold after1 execRefQual
  repeat' (first | with_reducible rfl | simp only [State.refMeasure_frame, State.requalify_frame, State.setRef_frame, Nat.reduceAnd, hide_ite, snd_ite, foldS_frame, whenS_frame, foldl_frame, ite_self, implies_true, mk_leaf, State.hideU, Ce.hide, Glb.hide, Flt.hide, Hif.hide, Sec.hide, Stp.hide, pick, Nat.reduceEqDiff, reduceIte] | with_reducible refine (foldS_frame _ _ _ (fun _ _ => ?_) _).trans ?_ | with_reducible refine (whenS_frame _ _ _ _ (fun _ => ?_)).trans ?_ | split)

theorem execDpllLock_frame (W : Nat) (hW : 134219776 &&& W = 134219776) (s : State) : (after1 (execDpllLock ) s).hide W = s.hide W := by
  refine hide_mono _ _ hW ?_
  unfold after1 execDpllLock
  repeat' (first | with_reducible rfl | simp only [State.raise_frame, Nat.reduceAnd, hide_ite, snd_ite, foldS_frame, whenS_frame, foldl_frame, ite_self, implies_true, mk_leaf, State.hideU, Ce.hide, Glb.hide, Flt.hide, Hif.hide, Sec.hide, Stp.hide, pick, Nat.reduceEqDiff, reduceIte] | with_reducible refine (foldS_frame _ _ _ (fun _ _ => ?_) _).trans ?_ | with_reducible refine (whenS_frame _ _ _ _ (fun _ => ?_)).trans ?_ | split)

theorem execHoldReady_frame (W : Nat) (hW : 402655232 &&& W = 402655232) (s : State) : (after1 (execHoldReady ) s).hide W = s.hide W := by
  refine hide_mono _ _ hW ?_
  unfold after1 execHoldReady
  repeat' (first | with_reducible rfl | simp only [State.enterHoldover_frame, State.qlUpdate_frame, State.refoutBoundary_frame, Nat.reduceAnd, hide_ite, snd_ite, foldS_frame, whenS_frame, foldl_frame, ite_self, implies_true, mk_leaf, State.hideU, Ce.hide, Glb.hide, Flt.hide, Hif.hide, Sec.hide, Stp.hide, pick, Nat.reduceEqDiff, reduceIte] | with_reducible refine (foldS_frame _ _ _ (fun _ _ => ?_) _).trans ?_ | with_reducible refine (whenS_frame _ _ _ _ (fun _ => ?_)).trans ?_ | split)

theorem execOscFail_frame (W : Nat) (hW : 134219776 &&& W = 134219776) (s : State) : (after1 (execOscFail ) s).hide W = s.hide W := by
  refine hide_mono _ _ hW ?_
  unfold after1 execOscFail
  repeat' (first | with_reducible rfl | simp only [State.raise_frame, Nat.reduceAnd, hide_ite, snd_ite, foldS_frame, whenS_frame, foldl_frame, ite_self, implies_true, mk_leaf, State.hideU, Ce.hide, Glb.hide, Flt.hide, Hif.hide, Sec.hide, Stp.hide, pick, Nat.reduceEqDiff, reduceIte] | with_reducible refine (foldS_frame _ _ _ (fun _ _ => ?_) _).trans ?_ | with_reducible refine (whenS_frame _ _ _ _ (fun _ => ?_)).trans ?_ | split)

theorem State.dpllCfgWrite_frame (W : Nat) (hW : 134217736 &&& W = 134217736) (v : Word) (s : State) : (State.dpllCfgWrite v s).hide W = s.hide W := by
  refine hide_mono _ _ hW ?_
  unfold State.dpllCfgWrite
  repeat' (first | with_reducible rfl | simp only [State.regWrite_frame, Nat.reduceAnd, hide_ite, snd_ite, foldS_frame, whenS_frame, foldl_frame, ite_self, implies_true, mk_leaf, State.hideU, Ce.hide, Glb.hide, Flt.hide, Hif.hide, Sec.hide, Stp.hide, pick, Nat.reduceEqDiff, reduceIte] | with_reducible refine (foldS_frame _ _ _ (fun _ _ => ?_) _).trans ?_ | with_reducible refine (whenS_frame _ _ _ _ (fun _ => ?_)).trans ?_ | split)

theorem execOscSelect_frame (W : Nat) (hW : 134217736 &&& W = 134217736) (s : State) : (after1 (execOscSelect ) s).hide W = s.hide W := by
  refine hide_mono _ _ hW ?_
  unfold after1 execOscSelect
  repeat' (first | with_reducible rfl | simp only [State.dpllCfgWrite_frame, Nat.reduceAnd, hide_ite, snd_ite, foldS_frame, whenS_frame, foldl_frame, ite_self, implies_true, mk_leaf, State.hideU, Ce.hide, Glb.hide, Flt.hide, Hif.hide, Sec.hide, Stp.hide, pick, Nat.reduceEqDiff, reduceIte] | with_reducible refine (foldS_frame _ _ _ (fun _ _ => ?_) _).trans ?_ | with_reducible refine (whenS_frame _ _ _ _ (fun _ => ?_)).trans ?_ | split)


end Sys2Proof.Machine
end

