-- ==== Sys2Proof/Laws/FrameLine.lean ====
section
/-! SUPPORT. Frames of line ports, paths, tributaries, highways and the truss.
Each lemma says which parts its operation can change: those of the mask in its hypothesis. -/

namespace Sys2Proof.Machine

set_option linter.unusedSimpArgs false
set_option linter.unreachableTactic false
set_option linter.unusedTactic false
set_option linter.unusedVariables false

theorem State.seeBits_frame (W : Nat) (hW : 16777216 &&& W = 16777216) (scope idx bits : Nat) (s : State) : (State.seeBits scope idx bits s).hide W = s.hide W := by
  refine hide_mono _ _ hW ?_
  unfold State.seeBits
  repeat' (first | with_reducible rfl | simp only [Nat.reduceAnd, hide_ite, snd_ite, foldS_frame, whenS_frame, foldl_frame, ite_self, implies_true, mk_leaf, State.hideU, Ce.hide, Glb.hide, Flt.hide, Hif.hide, Sec.hide, Stp.hide, pick, Nat.reduceEqDiff, reduceIte] | with_reducible refine (foldS_frame _ _ _ (fun _ _ => ?_) _).trans ?_ | with_reducible refine (whenS_frame _ _ _ _ (fun _ => ?_)).trans ?_ | split)

theorem State.seeDef_frame (W : Nat) (hW : 16777216 &&& W = 16777216) (scope idx bit : Nat) (s : State) : (State.seeDef scope idx bit s).hide W = s.hide W := by
  refine hide_mono _ _ hW ?_
  unfold State.seeDef
  repeat' (first | with_reducible rfl | simp only [State.seeBits_frame, Nat.reduceAnd, hide_ite, snd_ite, foldS_frame, whenS_frame, foldl_frame, ite_self, implies_true, mk_leaf, State.hideU, Ce.hide, Glb.hide, Flt.hide, Hif.hide, Sec.hide, Stp.hide, pick, Nat.reduceEqDiff, reduceIte] | with_reducible refine (foldS_frame _ _ _ (fun _ _ => ?_) _).trans ?_ | with_reducible refine (whenS_frame _ _ _ _ (fun _ => ?_)).trans ?_ | split)

theorem State.setGroup_frame (W : Nat) (hW : 1099511627776 &&& W = 1099511627776) (kind g : Nat) (x : Group) (s : State) : (State.setGroup kind g x s).hide W = s.hide W := by
  refine hide_mono _ _ hW ?_
  unfold State.setGroup
  repeat' (first | with_reducible rfl | simp only [Nat.reduceAnd, hide_ite, snd_ite, foldS_frame, whenS_frame, foldl_frame, ite_self, implies_true, mk_leaf, State.hideU, Ce.hide, Glb.hide, Flt.hide, Hif.hide, Sec.hide, Stp.hide, pick, Nat.reduceEqDiff, reduceIte] | with_reducible refine (foldS_frame _ _ _ (fun _ _ => ?_) _).trans ?_ | with_reducible refine (whenS_frame _ _ _ _ (fun _ => ?_)).trans ?_ | split)

theorem State.xcCheck_frame (W : Nat) (hW : 1073743872 &&& W = 1073743872) (s : State) : (State.xcCheck s).hide W = s.hide W := by
  refine hide_mono _ _ hW ?_
  unfold State.xcCheck
  repeat' (first | with_reducible rfl | simp only [State.raise_frame, Nat.reduceAnd, hide_ite, snd_ite, foldS_frame, whenS_frame, foldl_frame, ite_self, implies_true, mk_leaf, State.hideU, Ce.hide, Glb.hide, Flt.hide, Hif.hide, Sec.hide, Stp.hide, pick, Nat.reduceEqDiff, reduceIte] | with_reducible refine (foldS_frame _ _ _ (fun _ _ => ?_) _).trans ?_ | with_reducible refine (whenS_frame _ _ _ _ (fun _ => ?_)).trans ?_ | split)

theorem State.setPath_frame (W : Nat) (hW : 1073741824 &&& W = 1073741824) (k : Nat) (p : HoPath) (s : State) : (State.setPath k p s).hide W = s.hide W := by
  refine hide_mono _ _ hW ?_
  unfold State.setPath
  repeat' (first | with_reducible rfl | simp only [Nat.reduceAnd, hide_ite, snd_ite, foldS_frame, whenS_frame, foldl_frame, ite_self, implies_true, mk_leaf, State.hideU, Ce.hide, Glb.hide, Flt.hide, Hif.hide, Sec.hide, Stp.hide, pick, Nat.reduceEqDiff, reduceIte] | with_reducible refine (foldS_frame _ _ _ (fun _ _ => ?_) _).trans ?_ | with_reducible refine (whenS_frame _ _ _ _ (fun _ => ?_)).trans ?_ | split)

theorem State.setHoSrc_frame (W : Nat) (hW : 1073741824 &&& W = 1073741824) (k : Nat) (p : HoSrc) (s : State) : (State.setHoSrc k p s).hide W = s.hide W := by
  refine hide_mono _ _ hW ?_
  unfold State.setHoSrc
  repeat' (first | with_reducible rfl | simp only [Nat.reduceAnd, hide_ite, snd_ite, foldS_frame, whenS_frame, foldl_frame, ite_self, implies_true, mk_leaf, State.hideU, Ce.hide, Glb.hide, Flt.hide, Hif.hide, Sec.hide, Stp.hide, pick, Nat.reduceEqDiff, reduceIte] | with_reducible refine (foldS_frame _ _ _ (fun _ _ => ?_) _).trans ?_ | with_reducible refine (whenS_frame _ _ _ _ (fun _ => ?_)).trans ?_ | split)

theorem State.setFlow_frame (W : Nat) (hW : 1073741824 &&& W = 1073741824) (k : Nat) (f : Flow) (s : State) : (State.setFlow k f s).hide W = s.hide W := by
  refine hide_mono _ _ hW ?_
  unfold State.setFlow
  repeat' (first | with_reducible rfl | simp only [Nat.reduceAnd, hide_ite, snd_ite, foldS_frame, whenS_frame, foldl_frame, ite_self, implies_true, mk_leaf, State.hideU, Ce.hide, Glb.hide, Flt.hide, Hif.hide, Sec.hide, Stp.hide, pick, Nat.reduceEqDiff, reduceIte] | with_reducible refine (foldS_frame _ _ _ (fun _ _ => ?_) _).trans ?_ | with_reducible refine (whenS_frame _ _ _ _ (fun _ => ?_)).trans ?_ | split)

theorem State.setTrace_frame (W : Nat) (hW : 2147483648 &&& W = 2147483648) (kind i : Nat) (t : Trace) (s : State) : (State.setTrace kind i t s).hide W = s.hide W := by
  refine hide_mono _ _ hW ?_
  unfold State.setTrace
  repeat' (first | with_reducible rfl | simp only [Nat.reduceAnd, hide_ite, snd_ite, foldS_frame, whenS_frame, foldl_frame, ite_self, implies_true, mk_leaf, State.hideU, Ce.hide, Glb.hide, Flt.hide, Hif.hide, Sec.hide, Stp.hide, pick, Nat.reduceEqDiff, reduceIte] | with_reducible refine (foldS_frame _ _ _ (fun _ _ => ?_) _).trans ?_ | with_reducible refine (whenS_frame _ _ _ _ (fun _ => ?_)).trans ?_ | split)

theorem State.setPathDef_frame (W : Nat) (hW : 1090521088 &&& W = 1090521088) (k b : Nat) (kind : Kind) (on : Bool) (s : State) : (State.setPathDef k b kind on s).hide W = s.hide W := by
  refine hide_mono _ _ hW ?_
  unfold State.setPathDef
  repeat' (first | with_reducible rfl | simp only [State.raiseU_frame, State.seeDef_frame, State.setPath_frame, Nat.reduceAnd, hide_ite, snd_ite, foldS_frame, whenS_frame, foldl_frame, ite_self, implies_true, mk_leaf, State.hideU, Ce.hide, Glb.hide, Flt.hide, Hif.hide, Sec.hide, Stp.hide, pick, Nat.reduceEqDiff, reduceIte] | with_reducible refine (foldS_frame _ _ _ (fun _ _ => ?_) _).trans ?_ | with_reducible refine (whenS_frame _ _ _ _ (fun _ => ?_)).trans ?_ | split)

theorem State.setLo_frame (W : Nat) (hW : 17179869184 &&& W = 17179869184) (t : Nat) (p : LoPath) (s : State) : (State.setLo t p s).hide W = s.hide W := by
  refine hide_mono _ _ hW ?_
  unfold State.setLo
  repeat' (first | with_reducible rfl | simp only [Nat.reduceAnd, hide_ite, snd_ite, foldS_frame, whenS_frame, foldl_frame, ite_self, implies_true, mk_leaf, State.hideU, Ce.hide, Glb.hide, Flt.hide, Hif.hide, Sec.hide, Stp.hide, pick, Nat.reduceEqDiff, reduceIte] | with_reducible refine (foldS_frame _ _ _ (fun _ _ => ?_) _).trans ?_ | with_reducible refine (whenS_frame _ _ _ _ (fun _ => ?_)).trans ?_ | split)

theorem State.setLoDef_frame (W : Nat) (hW : 17196648448 &&& W = 17196648448) (t b : Nat) (kind : Kind) (on : Bool) (s : State) : (State.setLoDef t b kind on s).hide W = s.hide W := by
  refine hide_mono _ _ hW ?_
  unfold State.setLoDef
  repeat' (first | with_reducible rfl | simp only [State.raiseU_frame, State.seeDef_frame, State.setLo_frame, Nat.reduceAnd, hide_ite, snd_ite, foldS_frame, whenS_frame, foldl_frame, ite_self, implies_true, mk_leaf, State.hideU, Ce.hide, Glb.hide, Flt.hide, Hif.hide, Sec.hide, Stp.hide, pick, Nat.reduceEqDiff, reduceIte] | with_reducible refine (foldS_frame _ _ _ (fun _ _ => ?_) _).trans ?_ | with_reducible refine (whenS_frame _ _ _ _ (fun _ => ?_)).trans ?_ | split)

theorem State.setDef_frame (W : Nat) (hW : 553650176 &&& W = 553650176) (n b : Nat) (kind : Kind) (on : Bool) (s : State) : (State.setDef n b kind on s).hide W = s.hide W := by
  refine hide_mono _ _ hW ?_
  unfold State.setDef
  repeat' (first | with_reducible rfl | simp only [State.raiseU_frame, State.seeDef_frame, State.setPort_frame, Nat.reduceAnd, hide_ite, snd_ite, foldS_frame, whenS_frame, foldl_frame, ite_self, implies_true, mk_leaf, State.hideU, Ce.hide, Glb.hide, Flt.hide, Hif.hide, Sec.hide, Stp.hide, pick, Nat.reduceEqDiff, reduceIte] | with_reducible refine (foldS_frame _ _ _ (fun _ _ => ?_) _).trans ?_ | with_reducible refine (whenS_frame _ _ _ _ (fun _ => ?_)).trans ?_ | split)

theorem State.setTim_frame (W : Nat) (hW : 20954744832 &&& W = 20954744832) (kind i : Nat) (on : Bool) (s : State) : (State.setTim kind i on s).hide W = s.hide W := by
  refine hide_mono _ _ hW ?_
  unfold State.setTim
  repeat' (first | with_reducible rfl | simp only [State.setDef_frame, State.setLoDef_frame, State.setPathDef_frame, State.setTrace_frame, Nat.reduceAnd, hide_ite, snd_ite, foldS_frame, whenS_frame, foldl_frame, ite_self, implies_true, mk_leaf, State.hideU, Ce.hide, Glb.hide, Flt.hide, Hif.hide, Sec.hide, Stp.hide, pick, Nat.reduceEqDiff, reduceIte] | with_reducible refine (foldS_frame _ _ _ (fun _ _ => ?_) _).trans ?_ | with_reducible refine (whenS_frame _ _ _ _ (fun _ => ?_)).trans ?_ | split)

theorem State.timUpdate_frame (W : Nat) (hW : 20954744832 &&& W = 20954744832) (kind i : Nat) (s : State) : (State.timUpdate kind i s).hide W = s.hide W := by
  refine hide_mono _ _ hW ?_
  unfold State.timUpdate
  repeat' (first | with_reducible rfl | simp only [State.setTim_frame, Nat.reduceAnd, hide_ite, snd_ite, foldS_frame, whenS_frame, foldl_frame, ite_self, implies_true, mk_leaf, State.hideU, Ce.hide, Glb.hide, Flt.hide, Hif.hide, Sec.hide, Stp.hide, pick, Nat.reduceEqDiff, reduceIte] | with_reducible refine (foldS_frame _ _ _ (fun _ _ => ?_) _).trans ?_ | with_reducible refine (whenS_frame _ _ _ _ (fun _ => ?_)).trans ?_ | split)

theorem State.traceLost_frame (W : Nat) (hW : 20954744832 &&& W = 20954744832) (kind i : Nat) (s : State) : (State.traceLost kind i s).hide W = s.hide W := by
  refine hide_mono _ _ hW ?_
  unfold State.traceLost
  repeat' (first | with_reducible rfl | simp only [State.setTim_frame, State.setTrace_frame, Nat.reduceAnd, hide_ite, snd_ite, foldS_frame, whenS_frame, foldl_frame, ite_self, implies_true, mk_leaf, State.hideU, Ce.hide, Glb.hide, Flt.hide, Hif.hide, Sec.hide, Stp.hide, pick, Nat.reduceEqDiff, reduceIte] | with_reducible refine (foldS_frame _ _ _ (fun _ _ => ?_) _).trans ?_ | with_reducible refine (whenS_frame _ _ _ _ (fun _ => ?_)).trans ?_ | split)

theorem State.traceByte_frame (W : Nat) (hW : 20954744832 &&& W = 20954744832) (kind i : Nat) (b : Byte) (s : State) : (State.traceByte kind i b s).hide W = s.hide W := by
  refine hide_mono _ _ hW ?_
  unfold State.traceByte
  repeat' (first | with_reducible rfl | simp only [State.setTrace_frame, State.timUpdate_frame, State.traceLost_frame, Nat.reduceAnd, hide_ite, snd_ite, foldS_frame, whenS_frame, foldl_frame, ite_self, implies_true, mk_leaf, State.hideU, Ce.hide, Glb.hide, Flt.hide, Hif.hide, Sec.hide, Stp.hide, pick, Nat.reduceEqDiff, reduceIte] | with_reducible refine (foldS_frame _ _ _ (fun _ _ => ?_) _).trans ?_ | with_reducible refine (whenS_frame _ _ _ _ (fun _ => ?_)).trans ?_ | split)

theorem State.traceGap_frame (W : Nat) (hW : 2147483648 &&& W = 2147483648) (kind i : Nat) (s : State) : (State.traceGap kind i s).hide W = s.hide W := by
  refine hide_mono _ _ hW ?_
  unfold State.traceGap
  repeat' (first | with_reducible rfl | simp only [State.setTrace_frame, Nat.reduceAnd, hide_ite, snd_ite, foldS_frame, whenS_frame, foldl_frame, ite_self, implies_true, mk_leaf, State.hideU, Ce.hide, Glb.hide, Flt.hide, Hif.hide, Sec.hide, Stp.hide, pick, Nat.reduceEqDiff, reduceIte] | with_reducible refine (foldS_frame _ _ _ (fun _ _ => ?_) _).trans ?_ | with_reducible refine (whenS_frame _ _ _ _ (fun _ => ?_)).trans ?_ | split)

theorem State.traceSend_frame (W : Nat) (hW : 2147483648 &&& W = 2147483648) (kind i : Nat) (s : State) : (State.traceSend kind i s).2.hide W = s.hide W := by
  refine hide_mono _ _ hW ?_
  unfold State.traceSend
  repeat' (first | with_reducible rfl | simp only [State.setTrace_frame, Nat.reduceAnd, hide_ite, snd_ite, foldS_frame, whenS_frame, foldl_frame, ite_self, implies_true, mk_leaf, State.hideU, Ce.hide, Glb.hide, Flt.hide, Hif.hide, Sec.hide, Stp.hide, pick, Nat.reduceEqDiff, reduceIte] | with_reducible refine (foldS_frame _ _ _ (fun _ _ => ?_) _).trans ?_ | with_reducible refine (whenS_frame _ _ _ _ (fun _ => ?_)).trans ?_ | split)

theorem State.traceAccept_frame (W : Nat) (hW : 20954744832 &&& W = 20954744832) (kind i : Nat) (s : State) : (State.traceAccept kind i s).hide W = s.hide W := by
  refine hide_mono _ _ hW ?_
  unfold State.traceAccept
  repeat' (first | with_reducible rfl | simp only [State.raiseU_frame, State.setTrace_frame, State.timUpdate_frame, Nat.reduceAnd, hide_ite, snd_ite, foldS_frame, whenS_frame, foldl_frame, ite_self, implies_true, mk_leaf, State.hideU, Ce.hide, Glb.hide, Flt.hide, Hif.hide, Sec.hide, Stp.hide, pick, Nat.reduceEqDiff, reduceIte] | with_reducible refine (foldS_frame _ _ _ (fun _ _ => ?_) _).trans ?_ | with_reducible refine (whenS_frame _ _ _ _ (fun _ => ?_)).trans ?_ | split)

theorem State.pathOverhead_frame (W : Nat) (hW : 1090521088 &&& W = 1090521088) (k w : Nat) (r : RxPath) (s : State) : (State.pathOverhead k w r s).hide W = s.hide W := by
  refine hide_mono _ _ hW ?_
  unfold State.pathOverhead
  repeat' (first | with_reducible rfl | simp only [State.setPathDef_frame, State.setPath_frame, Nat.reduceAnd, hide_ite, snd_ite, foldS_frame, whenS_frame, foldl_frame, ite_self, implies_true, mk_leaf, State.hideU, Ce.hide, Glb.hide, Flt.hide, Hif.hide, Sec.hide, Stp.hide, pick, Nat.reduceEqDiff, reduceIte] | with_reducible refine (foldS_frame _ _ _ (fun _ _ => ?_) _).trans ?_ | with_reducible refine (whenS_frame _ _ _ _ (fun _ => ?_)).trans ?_ | split)

theorem State.pathServer_frame (W : Nat) (hW : 1090521088 &&& W = 1090521088) (k : Nat) (ais lop : Bool) (s : State) : (State.pathServer k ais lop s).hide W = s.hide W := by
  refine hide_mono _ _ hW ?_
  unfold State.pathServer
  repeat' (first | with_reducible rfl | simp only [State.setPathDef_frame, State.setPath_frame, Nat.reduceAnd, hide_ite, snd_ite, foldS_frame, whenS_frame, foldl_frame, ite_self, implies_true, mk_leaf, State.hideU, Ce.hide, Glb.hide, Flt.hide, Hif.hide, Sec.hide, Stp.hide, pick, Nat.reduceEqDiff, reduceIte] | with_reducible refine (foldS_frame _ _ _ (fun _ _ => ?_) _).trans ?_ | with_reducible refine (whenS_frame _ _ _ _ (fun _ => ?_)).trans ?_ | split)

theorem State.sinkTim_frame (W : Nat) (hW : 1090521088 &&& W = 1090521088) (d : Nat) (s : State) : (State.sinkTim d s).hide W = s.hide W := by
  refine hide_mono _ _ hW ?_
  unfold State.sinkTim
  repeat' (first | with_reducible rfl | simp only [State.setPathDef_frame, Nat.reduceAnd, hide_ite, snd_ite, foldS_frame, whenS_frame, foldl_frame, ite_self, implies_true, mk_leaf, State.hideU, Ce.hide, Glb.hide, Flt.hide, Hif.hide, Sec.hide, Stp.hide, pick, Nat.reduceEqDiff, reduceIte] | with_reducible refine (foldS_frame _ _ _ (fun _ _ => ?_) _).trans ?_ | with_reducible refine (whenS_frame _ _ _ _ (fun _ => ?_)).trans ?_ | split)

theorem State.seeLom_frame (W : Nat) (hW : 16777216 &&& W = 16777216) (k : Nat) (s : State) : (State.seeLom k s).hide W = s.hide W := by
  refine hide_mono _ _ hW ?_
  unfold State.seeLom
  repeat' (first | with_reducible rfl | simp only [State.seeDef_frame, Nat.reduceAnd, hide_ite, snd_ite, foldS_frame, whenS_frame, foldl_frame, ite_self, implies_true, mk_leaf, State.hideU, Ce.hide, Glb.hide, Flt.hide, Hif.hide, Sec.hide, Stp.hide, pick, Nat.reduceEqDiff, reduceIte] | with_reducible refine (foldS_frame _ _ _ (fun _ _ => ?_) _).trans ?_ | with_reducible refine (whenS_frame _ _ _ _ (fun _ => ?_)).trans ?_ | split)

theorem State.h4Frame_frame (W : Nat) (hW : 8606713856 &&& W = 8606713856) (k b : Nat) (s : State) : (State.h4Frame k b s).hide W = s.hide W := by
  refine hide_mono _ _ hW ?_
  unfold State.h4Frame
  repeat' (first | with_reducible rfl | simp only [State.raiseU_frame, State.seeLom_frame, Nat.reduceAnd, hide_ite, snd_ite, foldS_frame, whenS_frame, foldl_frame, ite_self, implies_true, mk_leaf, State.hideU, Ce.hide, Glb.hide, Flt.hide, Hif.hide, Sec.hide, Stp.hide, pick, Nat.reduceEqDiff, reduceIte] | with_reducible refine (foldS_frame _ _ _ (fun _ _ => ?_) _).trans ?_ | with_reducible refine (whenS_frame _ _ _ _ (fun _ => ?_)).trans ?_ | split)

theorem State.setTu_frame (W : Nat) (hW : 1073741824 &&& W = 1073741824) (k : Nat) (x : TuRx) (s : State) : (State.setTu k x s).hide W = s.hide W := by
  refine hide_mono _ _ hW ?_
  unfold State.setTu
  repeat' (first | with_reducible rfl | simp only [Nat.reduceAnd, hide_ite, snd_ite, foldS_frame, whenS_frame, foldl_frame, ite_self, implies_true, mk_leaf, State.hideU, Ce.hide, Glb.hide, Flt.hide, Hif.hide, Sec.hide, Stp.hide, pick, Nat.reduceEqDiff, reduceIte] | with_reducible refine (foldS_frame _ _ _ (fun _ _ => ?_) _).trans ?_ | with_reducible refine (whenS_frame _ _ _ _ (fun _ => ?_)).trans ?_ | split)

theorem State.loServerUpdate_frame (W : Nat) (hW : 17196648448 &&& W = 17196648448) (t : Nat) (ho : Bool) (s : State) : (State.loServerUpdate t ho s).hide W = s.hide W := by
  refine hide_mono _ _ hW ?_
  unfold State.loServerUpdate
  repeat' (first | with_reducible rfl | simp only [State.setLoDef_frame, State.setLo_frame, Nat.reduceAnd, hide_ite, snd_ite, foldS_frame, whenS_frame, foldl_frame, ite_self, implies_true, mk_leaf, State.hideU, Ce.hide, Glb.hide, Flt.hide, Hif.hide, Sec.hide, Stp.hide, pick, Nat.reduceEqDiff, reduceIte] | with_reducible refine (foldS_frame _ _ _ (fun _ _ => ?_) _).trans ?_ | with_reducible refine (whenS_frame _ _ _ _ (fun _ => ?_)).trans ?_ | split)

theorem State.loOverhead_frame (W : Nat) (hW : 17196648448 &&& W = 17196648448) (t label : Nat) (t1 : Bool) (r : RxTu) (s : State) : (State.loOverhead t label t1 r s).hide W = s.hide W := by
  refine hide_mono _ _ hW ?_
  unfold State.loOverhead
  repeat' (first | with_reducible rfl | simp only [State.loServerUpdate_frame, State.setLoDef_frame, State.setLo_frame, Nat.reduceAnd, hide_ite, snd_ite, foldS_frame, whenS_frame, foldl_frame, ite_self, implies_true, mk_leaf, State.hideU, Ce.hide, Glb.hide, Flt.hide, Hif.hide, Sec.hide, Stp.hide, pick, Nat.reduceEqDiff, reduceIte] | with_reducible refine (foldS_frame _ _ _ (fun _ _ => ?_) _).trans ?_ | with_reducible refine (whenS_frame _ _ _ _ (fun _ => ?_)).trans ?_ | split)

theorem State.structWrite_frame (W : Nat) (hW : 8 &&& W = 8) (n w : Nat) (v : Word) (s : State) : (State.structWrite n w v s).hide W = s.hide W := by
  refine hide_mono _ _ hW ?_
  unfold State.structWrite
  repeat' (first | with_reducible rfl | simp only [State.setReg_frame, Nat.reduceAnd, hide_ite, snd_ite, foldS_frame, whenS_frame, foldl_frame, ite_self, implies_true, mk_leaf, State.hideU, Ce.hide, Glb.hide, Flt.hide, Hif.hide, Sec.hide, Stp.hide, pick, Nat.reduceEqDiff, reduceIte] | with_reducible refine (foldS_frame _ _ _ (fun _ _ => ?_) _).trans ?_ | with_reducible refine (whenS_frame _ _ _ _ (fun _ => ?_)).trans ?_ | split)

theorem execHopStructWrite_frame (W : Nat) (hW : 8 &&& W = 8) (n : Fin 32) (w : Fin 4) (v : Word) (s : State) : (after1 (execHopStructWrite n w v) s).hide W = s.hide W := by
  refine hide_mono _ _ hW ?_
  unfold after1 execHopStructWrite
  repeat' (first | with_reducible rfl | simp only [State.structWrite_frame, Nat.reduceAnd, hide_ite, snd_ite, foldS_frame, whenS_frame, foldl_frame, ite_self, implies_true, mk_leaf, State.hideU, Ce.hide, Glb.hide, Flt.hide, Hif.hide, Sec.hide, Stp.hide, pick, Nat.reduceEqDiff, reduceIte] | with_reducible refine (foldS_frame _ _ _ (fun _ _ => ?_) _).trans ?_ | with_reducible refine (whenS_frame _ _ _ _ (fun _ => ?_)).trans ?_ | split)

theorem State.pathEnd_frame (W : Nat) (hW : 1090521088 &&& W = 1090521088) (k : Nat) (s : State) : (State.pathEnd k s).hide W = s.hide W := by
  refine hide_mono _ _ hW ?_
  unfold State.pathEnd
  repeat' (first | with_reducible rfl | simp only [State.setPathDef_frame, State.setPath_frame, Nat.reduceAnd, hide_ite, snd_ite, foldS_frame, whenS_frame, foldl_frame, ite_self, implies_true, mk_leaf, State.hideU, Ce.hide, Glb.hide, Flt.hide, Hif.hide, Sec.hide, Stp.hide, pick, Nat.reduceEqDiff, reduceIte] | with_reducible refine (foldS_frame _ _ _ (fun _ _ => ?_) _).trans ?_ | with_reducible refine (whenS_frame _ _ _ _ (fun _ => ?_)).trans ?_ | split)

theorem State.pathRestart_frame (W : Nat) (hW : 1090521088 &&& W = 1090521088) (x : Nat) (was now : Bool) (s : State) : (State.pathRestart x was now s).hide W = s.hide W := by
  refine hide_mono _ _ hW ?_
  unfold State.pathRestart
  repeat' (first | with_reducible rfl | simp only [State.pathEnd_frame, State.pathServer_frame, State.setPath_frame, Nat.reduceAnd, hide_ite, snd_ite, foldS_frame, whenS_frame, foldl_frame, ite_self, implies_true, mk_leaf, State.hideU, Ce.hide, Glb.hide, Flt.hide, Hif.hide, Sec.hide, Stp.hide, pick, Nat.reduceEqDiff, reduceIte] | with_reducible refine (foldS_frame _ _ _ (fun _ _ => ?_) _).trans ?_ | with_reducible refine (whenS_frame _ _ _ _ (fun _ => ?_)).trans ?_ | split)

theorem State.structBoundary_frame (W : Nat) (hW : 1090521088 &&& W = 1090521088) (s : State) : (State.structBoundary s).2.hide W = s.hide W := by
  refine hide_mono _ _ hW ?_
  unfold State.structBoundary
  repeat' (first | with_reducible rfl | simp only [State.pathRestart_frame, State.setFlow_frame, Nat.reduceAnd, hide_ite, snd_ite, foldS_frame, whenS_frame, foldl_frame, ite_self, implies_true, mk_leaf, State.hideU, Ce.hide, Glb.hide, Flt.hide, Hif.hide, Sec.hide, Stp.hide, pick, Nat.reduceEqDiff, reduceIte] | with_reducible refine (foldS_frame _ _ _ (fun _ _ => ?_) _).trans ?_ | with_reducible refine (whenS_frame _ _ _ _ (fun _ => ?_)).trans ?_ | split)

theorem execTraceNew_frame (W : Nat) (hW : 20954744832 &&& W = 20954744832) (kind : Fin 3) (index : Nat) (s : State) : (after1 (execTraceNew kind index) s).hide W = s.hide W := by
  refine hide_mono _ _ hW ?_
  unfold after1 execTraceNew
  repeat' (first | with_reducible rfl | simp only [State.traceAccept_frame, Nat.reduceAnd, hide_ite, snd_ite, foldS_frame, whenS_frame, foldl_frame, ite_self, implies_true, mk_leaf, State.hideU, Ce.hide, Glb.hide, Flt.hide, Hif.hide, Sec.hide, Stp.hide, pick, Nat.reduceEqDiff, reduceIte] | with_reducible refine (foldS_frame _ _ _ (fun _ _ => ?_) _).trans ?_ | with_reducible refine (whenS_frame _ _ _ _ (fun _ => ?_)).trans ?_ | split)

theorem State.modFlow_frame (W : Nat) (hW : 1073741824 &&& W = 1073741824) (k : Nat) (g : Flow → Flow) (s : State) : (State.modFlow k g s).hide W = s.hide W := by
  refine hide_mono _ _ hW ?_
  unfold State.modFlow
  repeat' (first | with_reducible rfl | simp only [State.setFlow_frame, Nat.reduceAnd, hide_ite, snd_ite, foldS_frame, whenS_frame, foldl_frame, ite_self, implies_true, mk_leaf, State.hideU, Ce.hide, Glb.hide, Flt.hide, Hif.hide, Sec.hide, Stp.hide, pick, Nat.reduceEqDiff, reduceIte] | with_reducible refine (foldS_frame _ _ _ (fun _ _ => ?_) _).trans ?_ | with_reducible refine (whenS_frame _ _ _ _ (fun _ => ?_)).trans ?_ | split)

theorem State.loQuarter_frame (W : Nat) (hW : 55314483200 &&& W = 55314483200) (t : Nat) (c : TribSet) (q : Nat) (l : List Byte) (s : State) : (State.loQuarter t c q l s).hide W = s.hide W := by
  refine hide_mono _ _ hW ?_
  unfold State.loQuarter
  repeat' (first | with_reducible rfl | simp only [State.loOverhead_frame, State.setTu_frame, State.traceByte_frame, Nat.reduceAnd, hide_ite, snd_ite, foldS_frame, whenS_frame, foldl_frame, ite_self, implies_true, mk_leaf, State.hideU, Ce.hide, Glb.hide, Flt.hide, Hif.hide, Sec.hide, Stp.hide, pick, Nat.reduceEqDiff, reduceIte] | with_reducible refine (foldS_frame _ _ _ (fun _ _ => ?_) _).trans ?_ | with_reducible refine (whenS_frame _ _ _ _ (fun _ => ?_)).trans ?_ | split)

theorem State.tuFrame_frame (W : Nat) (hW : 55314483200 &&& W = 55314483200) (p : TuPos) (t1 : Bool) (mf : Nat) (b : List Byte) (s : State) : (State.tuFrame p t1 mf b s).hide W = s.hide W := by
  refine hide_mono _ _ hW ?_
  unfold State.tuFrame
  repeat' (first | with_reducible rfl | simp only [State.loQuarter_frame, State.loServerUpdate_frame, State.setTu_frame, State.traceLost_frame, Nat.reduceAnd, hide_ite, snd_ite, foldS_frame, whenS_frame, foldl_frame, ite_self, implies_true, mk_leaf, State.hideU, Ce.hide, Glb.hide, Flt.hide, Hif.hide, Sec.hide, Stp.hide, pick, Nat.reduceEqDiff, reduceIte] | with_reducible refine (foldS_frame _ _ _ (fun _ _ => ?_) _).trans ?_ | with_reducible refine (whenS_frame _ _ _ _ (fun _ => ?_)).trans ?_ | split)

theorem State.vcTerm_frame (W : Nat) (hW : 4461950928896 &&& W = 4461950928896) (d w h4 : Nat) (l : List Byte) (s : State) : (State.vcTerm d w h4 l s).hide W = s.hide W := by
  refine hide_mono _ _ hW ?_
  unfold State.vcTerm
  repeat' (first | with_reducible rfl | simp only [State.h4Frame_frame, State.tuFrame_frame, Nat.reduceAnd, hide_ite, snd_ite, foldS_frame, whenS_frame, foldl_frame, ite_self, implies_true, mk_leaf, State.hideU, Ce.hide, Glb.hide, Flt.hide, Hif.hide, Sec.hide, Stp.hide, pick, Nat.reduceEqDiff, reduceIte] | with_reducible refine (foldS_frame _ _ _ (fun _ _ => ?_) _).trans ?_ | with_reducible refine (whenS_frame _ _ _ _ (fun _ => ?_)).trans ?_ | split)

theorem State.sinkVc_frame (W : Nat) (hW : 4461950928896 &&& W = 4461950928896) (d w : Nat) (l : List Byte) (s : State) : (State.sinkVc d w l s).hide W = s.hide W := by
  refine hide_mono _ _ hW ?_
  unfold State.sinkVc
  repeat' (first | with_reducible rfl | simp only [State.pathOverhead_frame, State.vcTerm_frame, Nat.reduceAnd, hide_ite, snd_ite, foldS_frame, whenS_frame, foldl_frame, ite_self, implies_true, mk_leaf, State.hideU, Ce.hide, Glb.hide, Flt.hide, Hif.hide, Sec.hide, Stp.hide, pick, Nat.reduceEqDiff, reduceIte] | with_reducible refine (foldS_frame _ _ _ (fun _ _ => ?_) _).trans ?_ | with_reducible refine (whenS_frame _ _ _ _ (fun _ => ?_)).trans ?_ | split)

theorem State.sinkPull_frame (W : Nat) (hW : 4461950928896 &&& W = 4461950928896) (d w : Nat) (s : State) : (State.sinkPull d w s).hide W = s.hide W := by
  refine hide_mono _ _ hW ?_
  unfold State.sinkPull
  repeat' (first | with_reducible rfl | simp only [State.pathServer_frame, State.setPath_frame, State.sinkTim_frame, State.sinkVc_frame, Nat.reduceAnd, hide_ite, snd_ite, foldS_frame, whenS_frame, foldl_frame, ite_self, implies_true, mk_leaf, State.hideU, Ce.hide, Glb.hide, Flt.hide, Hif.hide, Sec.hide, Stp.hide, pick, Nat.reduceEqDiff, reduceIte] | with_reducible refine (foldS_frame _ _ _ (fun _ _ => ?_) _).trans ?_ | with_reducible refine (whenS_frame _ _ _ _ (fun _ => ?_)).trans ?_ | split)

theorem State.sinkFrame_frame (W : Nat) (hW : 4461950928896 &&& W = 4461950928896) (d w : Nat) (s : State) : (State.sinkFrame d w s).hide W = s.hide W := by
  refine hide_mono _ _ hW ?_
  unfold State.sinkFrame
  repeat' (first | with_reducible rfl | simp only [State.pathServer_frame, State.setPath_frame, State.sinkPull_frame, State.sinkTim_frame, State.sinkVc_frame, State.vcTerm_frame, Nat.reduceAnd, hide_ite, snd_ite, foldS_frame, whenS_frame, foldl_frame, ite_self, implies_true, mk_leaf, State.hideU, Ce.hide, Glb.hide, Flt.hide, Hif.hide, Sec.hide, Stp.hide, pick, Nat.reduceEqDiff, reduceIte] | with_reducible refine (foldS_frame _ _ _ (fun _ _ => ?_) _).trans ?_ | with_reducible refine (whenS_frame _ _ _ _ (fun _ => ?_)).trans ?_ | split)

theorem State.loSweep_frame (W : Nat) (hW : 20954744832 &&& W = 20954744832) (s : State) : (State.loSweep s).hide W = s.hide W := by
  refine hide_mono _ _ hW ?_
  unfold State.loSweep
  repeat' (first | with_reducible rfl | simp only [State.loServerUpdate_frame, State.traceLost_frame, Nat.reduceAnd, hide_ite, snd_ite, foldS_frame, whenS_frame, foldl_frame, ite_self, implies_true, mk_leaf, State.hideU, Ce.hide, Glb.hide, Flt.hide, Hif.hide, Sec.hide, Stp.hide, pick, Nat.reduceEqDiff, reduceIte] | with_reducible refine (foldS_frame _ _ _ (fun _ _ => ?_) _).trans ?_ | with_reducible refine (whenS_frame _ _ _ _ (fun _ => ?_)).trans ?_ | split)

theorem State.loopFrame_frame (W : Nat) (hW : 1073741824 &&& W = 1073741824) (s : State) : (State.loopFrame s).hide W = s.hide W := by
  refine hide_mono _ _ hW ?_
  unfold State.loopFrame
  repeat' (first | with_reducible rfl | simp only [State.modFlow_frame, State.setPath_frame, Nat.reduceAnd, hide_ite, snd_ite, foldS_frame, whenS_frame, foldl_frame, ite_self, implies_true, mk_leaf, State.hideU, Ce.hide, Glb.hide, Flt.hide, Hif.hide, Sec.hide, Stp.hide, pick, Nat.reduceEqDiff, reduceIte] | with_reducible refine (foldS_frame _ _ _ (fun _ _ => ?_) _).trans ?_ | with_reducible refine (whenS_frame _ _ _ _ (fun _ => ?_)).trans ?_ | split)

theorem State.setDcc_frame (W : Nat) (hW : 8796093022208 &&& W = 8796093022208) (ch : Nat) (x : Dcc) (s : State) : (State.setDcc ch x s).hide W = s.hide W := by
  refine hide_mono _ _ hW ?_
  unfold State.setDcc
  repeat' (first | with_reducible rfl | simp only [Nat.reduceAnd, hide_ite, snd_ite, foldS_frame, whenS_frame, foldl_frame, ite_self, implies_true, mk_leaf, State.hideU, Ce.hide, Glb.hide, Flt.hide, Hif.hide, Sec.hide, Stp.hide, pick, Nat.reduceEqDiff, reduceIte] | with_reducible refine (foldS_frame _ _ _ (fun _ _ => ?_) _).trans ?_ | with_reducible refine (whenS_frame _ _ _ _ (fun _ => ?_)).trans ?_ | split)

theorem State.modDcc_frame (W : Nat) (hW : 8796093022208 &&& W = 8796093022208) (ch : Nat) (f : Dcc → Dcc) (s : State) : (State.modDcc ch f s).hide W = s.hide W := by
  refine hide_mono _ _ hW ?_
  unfold State.modDcc
  repeat' (first | with_reducible rfl | simp only [State.setDcc_frame, Nat.reduceAnd, hide_ite, snd_ite, foldS_frame, whenS_frame, foldl_frame, ite_self, implies_true, mk_leaf, State.hideU, Ce.hide, Glb.hide, Flt.hide, Hif.hide, Sec.hide, Stp.hide, pick, Nat.reduceEqDiff, reduceIte] | with_reducible refine (foldS_frame _ _ _ (fun _ _ => ?_) _).trans ?_ | with_reducible refine (whenS_frame _ _ _ _ (fun _ => ?_)).trans ?_ | split)

theorem State.oxWrite_frame (W : Nat) (hW : 8796093122576 &&& W = 8796093122576) (x : OxItem) (st : Nat) (s : State) : (State.oxWrite x st s).hide W = s.hide W := by
  refine hide_mono _ _ hW ?_
  unfold State.oxWrite
  repeat' (first | with_reducible rfl | simp only [State.badDesc_frame, State.dma_frame, State.modDcc_frame, State.raiseU_frame, State.writeBack_frame, Nat.reduceAnd, hide_ite, snd_ite, foldS_frame, whenS_frame, foldl_frame, ite_self, implies_true, mk_leaf, State.hideU, Ce.hide, Glb.hide, Flt.hide, Hif.hide, Sec.hide, Stp.hide, pick, Nat.reduceEqDiff, reduceIte] | with_reducible refine (foldS_frame _ _ _ (fun _ _ => ?_) _).trans ?_ | with_reducible refine (whenS_frame _ _ _ _ (fun _ => ?_)).trans ?_ | split)

theorem State.oxFlush_frame (W : Nat) (hW : 8796094171152 &&& W = 8796094171152) (fuel : Nat) (s : State) : (State.oxFlush fuel s).hide W = s.hide W := by
  refine hide_mono _ _ hW ?_
  induction fuel generalizing s with
  | zero => rfl
  | succ n ih =>
    unfold State.oxFlush
    split
    · rfl
    · split
      · rfl
      · simp only [ih, State.oxWrite_frame, Nat.reduceAnd, mk_leaf, State.hideU, Ce.hide, Glb.hide, Flt.hide, Hif.hide, Sec.hide, Stp.hide, pick, Nat.reduceEqDiff, reduceIte]

theorem State.oxDone_frame (W : Nat) (hW : 8796094171152 &&& W = 8796094171152) (s : State) : (State.oxDone s).hide W = s.hide W := by
  refine hide_mono _ _ hW ?_
  exact State.oxFlush_frame _ (by decide) _ s

theorem State.oxPut_frame (W : Nat) (hW : 1048576 &&& W = 1048576) (x : OxItem) (s : State) : (State.oxPut x s).hide W = s.hide W := by
  refine hide_mono _ _ hW ?_
  unfold State.oxPut
  repeat' (first | with_reducible rfl | simp only [Nat.reduceAnd, hide_ite, snd_ite, foldS_frame, whenS_frame, foldl_frame, ite_self, implies_true, mk_leaf, State.hideU, Ce.hide, Glb.hide, Flt.hide, Hif.hide, Sec.hide, Stp.hide, pick, Nat.reduceEqDiff, reduceIte] | with_reducible refine (foldS_frame _ _ _ (fun _ _ => ?_) _).trans ?_ | with_reducible refine (whenS_frame _ _ _ _ (fun _ => ?_)).trans ?_ | split)

theorem State.newId_frame (W : Nat) (hW : 1048576 &&& W = 1048576) (s : State) : (State.newId s).2.hide W = s.hide W := by
  refine hide_mono _ _ hW ?_
  unfold State.newId
  repeat' (first | with_reducible rfl | simp only [Nat.reduceAnd, hide_ite, snd_ite, foldS_frame, whenS_frame, foldl_frame, ite_self, implies_true, mk_leaf, State.hideU, Ce.hide, Glb.hide, Flt.hide, Hif.hide, Sec.hide, Stp.hide, pick, Nat.reduceEqDiff, reduceIte] | with_reducible refine (foldS_frame _ _ _ (fun _ _ => ?_) _).trans ?_ | with_reducible refine (whenS_frame _ _ _ _ (fun _ => ?_)).trans ?_ | split)

theorem State.oxMod_frame (W : Nat) (hW : 1048576 &&& W = 1048576) (id : Nat) (f : OxItem → OxItem) (s : State) : (State.oxMod id f s).hide W = s.hide W := by
  refine hide_mono _ _ hW ?_
  unfold State.oxMod
  repeat' (first | with_reducible rfl | simp only [Nat.reduceAnd, hide_ite, snd_ite, foldS_frame, whenS_frame, foldl_frame, ite_self, implies_true, mk_leaf, State.hideU, Ce.hide, Glb.hide, Flt.hide, Hif.hide, Sec.hide, Stp.hide, pick, Nat.reduceEqDiff, reduceIte] | with_reducible refine (foldS_frame _ _ _ (fun _ _ => ?_) _).trans ?_ | with_reducible refine (whenS_frame _ _ _ _ (fun _ => ?_)).trans ?_ | split)

theorem State.oxStream_frame (W : Nat) (hW : 16 &&& W = 16) (id : Nat) (info : List Byte) (s : State) : (State.oxStream id info s).hide W = s.hide W := by
  refine hide_mono _ _ hW ?_
  unfold State.oxStream
  repeat' (first | with_reducible rfl | simp only [State.dma_frame, Nat.reduceAnd, hide_ite, snd_ite, foldS_frame, whenS_frame, foldl_frame, ite_self, implies_true, mk_leaf, State.hideU, Ce.hide, Glb.hide, Flt.hide, Hif.hide, Sec.hide, Stp.hide, pick, Nat.reduceEqDiff, reduceIte] | with_reducible refine (foldS_frame _ _ _ (fun _ _ => ?_) _).trans ?_ | with_reducible refine (whenS_frame _ _ _ _ (fun _ => ?_)).trans ?_ | split)

theorem State.oxCancel_frame (W : Nat) (hW : 8796094171152 &&& W = 8796094171152) (p : OxItem → Bool) (s : State) : (State.oxCancel p s).hide W = s.hide W := by
  refine hide_mono _ _ hW ?_
  unfold State.oxCancel
  repeat' (first | with_reducible rfl | simp only [State.oxDone_frame, Nat.reduceAnd, hide_ite, snd_ite, foldS_frame, whenS_frame, foldl_frame, ite_self, implies_true, mk_leaf, State.hideU, Ce.hide, Glb.hide, Flt.hide, Hif.hide, Sec.hide, Stp.hide, pick, Nat.reduceEqDiff, reduceIte] | with_reducible refine (foldS_frame _ _ _ (fun _ _ => ?_) _).trans ?_ | with_reducible refine (whenS_frame _ _ _ _ (fun _ => ?_)).trans ?_ | split)

theorem State.oxStops_frame (W : Nat) (hW : 8796094070784 &&& W = 8796094070784) (s : State) : (State.oxStops s).hide W = s.hide W := by
  refine hide_mono _ _ hW ?_
  unfold State.oxStops
  repeat' (first | with_reducible rfl | simp only [State.modDcc_frame, Nat.reduceAnd, hide_ite, snd_ite, foldS_frame, whenS_frame, foldl_frame, ite_self, implies_true, mk_leaf, State.hideU, Ce.hide, Glb.hide, Flt.hide, Hif.hide, Sec.hide, Stp.hide, pick, Nat.reduceEqDiff, reduceIte] | with_reducible refine (foldS_frame _ _ _ (fun _ _ => ?_) _).trans ?_ | with_reducible refine (whenS_frame _ _ _ _ (fun _ => ?_)).trans ?_ | split)

theorem State.dccBuf_frame (W : Nat) (hW : 8796094171152 &&& W = 8796094171152) (ch : Nat) (d : BufDesc) (s : State) : (State.dccBuf ch d s).2.hide W = s.hide W := by
  refine hide_mono _ _ hW ?_
  unfold State.dccBuf
  repeat' (first | with_reducible rfl | simp only [State.newId_frame, State.oxDone_frame, State.oxPut_frame, State.readOk_frame, Nat.reduceAnd, hide_ite, snd_ite, foldS_frame, whenS_frame, foldl_frame, ite_self, implies_true, mk_leaf, State.hideU, Ce.hide, Glb.hide, Flt.hide, Hif.hide, Sec.hide, Stp.hide, pick, Nat.reduceEqDiff, reduceIte] | with_reducible refine (foldS_frame _ _ _ (fun _ _ => ?_) _).trans ?_ | with_reducible refine (whenS_frame _ _ _ _ (fun _ => ?_)).trans ?_ | split)

theorem State.oxArriving_frame (W : Nat) (hW : 16 &&& W = 16) (ch : Nat) (s : State) : (State.oxArriving ch s).hide W = s.hide W := by
  refine hide_mono _ _ hW ?_
  unfold State.oxArriving
  repeat' (first | with_reducible rfl | simp only [State.oxStream_frame, Nat.reduceAnd, hide_ite, snd_ite, foldS_frame, whenS_frame, foldl_frame, ite_self, implies_true, mk_leaf, State.hideU, Ce.hide, Glb.hide, Flt.hide, Hif.hide, Sec.hide, Stp.hide, pick, Nat.reduceEqDiff, reduceIte] | with_reducible refine (foldS_frame _ _ _ (fun _ _ => ?_) _).trans ?_ | with_reducible refine (whenS_frame _ _ _ _ (fun _ => ?_)).trans ?_ | split)

theorem State.dccTake_frame (W : Nat) (hW : 8796093022224 &&& W = 8796093022224) (ch : Nat) (l : List Byte) (s : State) : (State.dccTake ch l s).hide W = s.hide W := by
  refine hide_mono _ _ hW ?_
  unfold State.dccTake
  repeat' (first | with_reducible rfl | simp only [State.oxArriving_frame, State.oxStream_frame, State.setDcc_frame, Nat.reduceAnd, hide_ite, snd_ite, foldS_frame, whenS_frame, foldl_frame, ite_self, implies_true, mk_leaf, State.hideU, Ce.hide, Glb.hide, Flt.hide, Hif.hide, Sec.hide, Stp.hide, pick, Nat.reduceEqDiff, reduceIte] | with_reducible refine (foldS_frame _ _ _ (fun _ _ => ?_) _).trans ?_ | with_reducible refine (whenS_frame _ _ _ _ (fun _ => ?_)).trans ?_ | split)

theorem State.dccCut_frame (W : Nat) (hW : 8796094171152 &&& W = 8796094171152) (ch : Nat) (s : State) : (State.dccCut ch s).hide W = s.hide W := by
  refine hide_mono _ _ hW ?_
  unfold State.dccCut
  repeat' (first | with_reducible rfl | simp only [State.modDcc_frame, State.oxCancel_frame, Nat.reduceAnd, hide_ite, snd_ite, foldS_frame, whenS_frame, foldl_frame, ite_self, implies_true, mk_leaf, State.hideU, Ce.hide, Glb.hide, Flt.hide, Hif.hide, Sec.hide, Stp.hide, pick, Nat.reduceEqDiff, reduceIte] | with_reducible refine (foldS_frame _ _ _ (fun _ _ => ?_) _).trans ?_ | with_reducible refine (whenS_frame _ _ _ _ (fun _ => ?_)).trans ?_ | split)

theorem State.dccBreak_frame (W : Nat) (hW : 8796094171152 &&& W = 8796094171152) (n : Nat) (s : State) : (State.dccBreak n s).hide W = s.hide W := by
  refine hide_mono _ _ hW ?_
  unfold State.dccBreak
  repeat' (first | with_reducible rfl | simp only [State.dccCut_frame, Nat.reduceAnd, hide_ite, snd_ite, foldS_frame, whenS_frame, foldl_frame, ite_self, implies_true, mk_leaf, State.hideU, Ce.hide, Glb.hide, Flt.hide, Hif.hide, Sec.hide, Stp.hide, pick, Nat.reduceEqDiff, reduceIte] | with_reducible refine (foldS_frame _ _ _ (fun _ _ => ?_) _).trans ?_ | with_reducible refine (whenS_frame _ _ _ _ (fun _ => ?_)).trans ?_ | split)

theorem State.rxParity_frame (W : Nat) (hW : 536870912 &&& W = 536870912) (n : Nat) (was : Bool) (raw d : List Byte) (s : State) : (State.rxParity n was raw d s).hide W = s.hide W := by
  refine hide_mono _ _ hW ?_
  unfold State.rxParity
  repeat' (first | with_reducible rfl | simp only [State.setPort_frame, Nat.reduceAnd, hide_ite, snd_ite, foldS_frame, whenS_frame, foldl_frame, ite_self, implies_true, mk_leaf, State.hideU, Ce.hide, Glb.hide, Flt.hide, Hif.hide, Sec.hide, Stp.hide, pick, Nat.reduceEqDiff, reduceIte] | with_reducible refine (foldS_frame _ _ _ (fun _ _ => ?_) _).trans ?_ | with_reducible refine (whenS_frame _ _ _ _ (fun _ => ?_)).trans ?_ | split)

theorem State.rxRei_frame (W : Nat) (hW : 536870912 &&& W = 536870912) (n : Nat) (now : Bool) (d : List Byte) (s : State) : (State.rxRei n now d s).hide W = s.hide W := by
  refine hide_mono _ _ hW ?_
  unfold State.rxRei
  repeat' (first | with_reducible rfl | simp only [State.modPort_frame, Nat.reduceAnd, hide_ite, snd_ite, foldS_frame, whenS_frame, foldl_frame, ite_self, implies_true, mk_leaf, State.hideU, Ce.hide, Glb.hide, Flt.hide, Hif.hide, Sec.hide, Stp.hide, pick, Nat.reduceEqDiff, reduceIte] | with_reducible refine (foldS_frame _ _ _ (fun _ _ => ?_) _).trans ?_ | with_reducible refine (whenS_frame _ _ _ _ (fun _ => ?_)).trans ?_ | split)

theorem State.rxBer_frame (W : Nat) (hW : 553650176 &&& W = 553650176) (n e2 : Nat) (s : State) : (State.rxBer n e2 s).hide W = s.hide W := by
  refine hide_mono _ _ hW ?_
  unfold State.rxBer
  repeat' (first | with_reducible rfl | simp only [State.setDef_frame, State.setPort_frame, Nat.reduceAnd, hide_ite, snd_ite, foldS_frame, whenS_frame, foldl_frame, ite_self, implies_true, mk_leaf, State.hideU, Ce.hide, Glb.hide, Flt.hide, Hif.hide, Sec.hide, Stp.hide, pick, Nat.reduceEqDiff, reduceIte] | with_reducible refine (foldS_frame _ _ _ (fun _ _ => ?_) _).trans ?_ | with_reducible refine (whenS_frame _ _ _ _ (fun _ => ?_)).trans ?_ | split)

theorem State.rxKS_frame (W : Nat) (hW : 20954744832 &&& W = 20954744832) (n : Nat) (d : List Byte) (s : State) : (State.rxKS n d s).hide W = s.hide W := by
  refine hide_mono _ _ hW ?_
  unfold State.rxKS
  repeat' (first | with_reducible rfl | simp only [State.modPort_frame, State.raiseU_frame, State.setDef_frame, State.setPort_frame, State.traceLost_frame, Nat.reduceAnd, hide_ite, snd_ite, foldS_frame, whenS_frame, foldl_frame, ite_self, implies_true, mk_leaf, State.hideU, Ce.hide, Glb.hide, Flt.hide, Hif.hide, Sec.hide, Stp.hide, pick, Nat.reduceEqDiff, reduceIte] | with_reducible refine (foldS_frame _ _ _ (fun _ _ => ?_) _).trans ?_ | with_reducible refine (whenS_frame _ _ _ _ (fun _ => ?_)).trans ?_ | split)

theorem State.rxDcc_frame (W : Nat) (hW : 8796094171152 &&& W = 8796094171152) (n : Nat) (d : List Byte) (s : State) : (State.rxDcc n d s).hide W = s.hide W := by
  refine hide_mono _ _ hW ?_
  unfold State.rxDcc
  repeat' (first | with_reducible rfl | simp only [State.dccBreak_frame, State.dccTake_frame, Nat.reduceAnd, hide_ite, snd_ite, foldS_frame, whenS_frame, foldl_frame, ite_self, implies_true, mk_leaf, State.hideU, Ce.hide, Glb.hide, Flt.hide, Hif.hide, Sec.hide, Stp.hide, pick, Nat.reduceEqDiff, reduceIte] | with_reducible refine (foldS_frame _ _ _ (fun _ _ => ?_) _).trans ?_ | with_reducible refine (whenS_frame _ _ _ _ (fun _ => ?_)).trans ?_ | split)

theorem State.rxPointer_frame (W : Nat) (hW : 1090521088 &&& W = 1090521088) (n : Nat) (d : List Byte) (t w : Nat) (s : State) : (State.rxPointer n d t w s).2.hide W = s.hide W := by
  refine hide_mono _ _ hW ?_
  unfold State.rxPointer
  repeat' (first | with_reducible rfl | simp only [State.pathServer_frame, State.setPath_frame, Nat.reduceAnd, hide_ite, snd_ite, foldS_frame, whenS_frame, foldl_frame, ite_self, implies_true, mk_leaf, State.hideU, Ce.hide, Glb.hide, Flt.hide, Hif.hide, Sec.hide, Stp.hide, pick, Nat.reduceEqDiff, reduceIte] | with_reducible refine (foldS_frame _ _ _ (fun _ _ => ?_) _).trans ?_ | with_reducible refine (whenS_frame _ _ _ _ (fun _ => ?_)).trans ?_ | split)

theorem State.rxJ1_frame (W : Nat) (hW : 20954744832 &&& W = 20954744832) (n t : Nat) (b : Option Byte) (s : State) : (State.rxJ1 n t b s).hide W = s.hide W := by
  refine hide_mono _ _ hW ?_
  unfold State.rxJ1
  repeat' (first | with_reducible rfl | simp only [State.traceByte_frame, State.traceLost_frame, Nat.reduceAnd, hide_ite, snd_ite, foldS_frame, whenS_frame, foldl_frame, ite_self, implies_true, mk_leaf, State.hideU, Ce.hide, Glb.hide, Flt.hide, Hif.hide, Sec.hide, Stp.hide, pick, Nat.reduceEqDiff, reduceIte] | with_reducible refine (foldS_frame _ _ _ (fun _ _ => ?_) _).trans ?_ | with_reducible refine (whenS_frame _ _ _ _ (fun _ => ?_)).trans ?_ | split)

theorem State.rxVc_frame (W : Nat) (hW : 20954744832 &&& W = 20954744832) (n t w : Nat) (l : List Byte) (s : State) : (State.rxVc n t w l s).hide W = s.hide W := by
  refine hide_mono _ _ hW ?_
  unfold State.rxVc
  repeat' (first | with_reducible rfl | simp only [State.pathOverhead_frame, State.rxJ1_frame, Nat.reduceAnd, hide_ite, snd_ite, foldS_frame, whenS_frame, foldl_frame, ite_self, implies_true, mk_leaf, State.hideU, Ce.hide, Glb.hide, Flt.hide, Hif.hide, Sec.hide, Stp.hide, pick, Nat.reduceEqDiff, reduceIte] | with_reducible refine (foldS_frame _ _ _ (fun _ _ => ?_) _).trans ?_ | with_reducible refine (whenS_frame _ _ _ _ (fun _ => ?_)).trans ?_ | split)

theorem State.rxPath_frame (W : Nat) (hW : 20954744832 &&& W = 20954744832) (n : Nat) (d : List Byte) (t w : Nat) (s : State) : (State.rxPath n d t w s).hide W = s.hide W := by
  refine hide_mono _ _ hW ?_
  unfold State.rxPath
  repeat' (first | with_reducible rfl | simp only [State.modFlow_frame, State.rxJ1_frame, State.rxPointer_frame, State.rxVc_frame, State.setPath_frame, Nat.reduceAnd, hide_ite, snd_ite, foldS_frame, whenS_frame, foldl_frame, ite_self, implies_true, mk_leaf, State.hideU, Ce.hide, Glb.hide, Flt.hide, Hif.hide, Sec.hide, Stp.hide, pick, Nat.reduceEqDiff, reduceIte] | with_reducible refine (foldS_frame _ _ _ (fun _ _ => ?_) _).trans ?_ | with_reducible refine (whenS_frame _ _ _ _ (fun _ => ?_)).trans ?_ | split)

theorem State.rxPaths_frame (W : Nat) (hW : 4461950928896 &&& W = 4461950928896) (n : Nat) (d : List Byte) (s : State) : (State.rxPaths n d s).hide W = s.hide W := by
  refine hide_mono _ _ hW ?_
  unfold State.rxPaths
  repeat' (first | with_reducible rfl | simp only [State.loSweep_frame, State.rxPath_frame, State.sinkPull_frame, Nat.reduceAnd, hide_ite, snd_ite, foldS_frame, whenS_frame, foldl_frame, ite_self, implies_true, mk_leaf, State.hideU, Ce.hide, Glb.hide, Flt.hide, Hif.hide, Sec.hide, Stp.hide, pick, Nat.reduceEqDiff, reduceIte] | with_reducible refine (foldS_frame _ _ _ (fun _ _ => ?_) _).trans ?_ | with_reducible refine (whenS_frame _ _ _ _ (fun _ => ?_)).trans ?_ | split)

theorem State.lofTest_frame (W : Nat) (hW : 8817183131664 &&& W = 8817183131664) (n : Nat) (s : State) : (State.lofTest n s).hide W = s.hide W := by
  refine hide_mono _ _ hW ?_
  unfold State.lofTest
  repeat' (first | with_reducible rfl | simp only [State.dccBreak_frame, State.refLine_frame, State.setDef_frame, State.traceLost_frame, Nat.reduceAnd, hide_ite, snd_ite, foldS_frame, whenS_frame, foldl_frame, ite_self, implies_true, mk_leaf, State.hideU, Ce.hide, Glb.hide, Flt.hide, Hif.hide, Sec.hide, Stp.hide, pick, Nat.reduceEqDiff, reduceIte] | with_reducible refine (foldS_frame _ _ _ (fun _ _ => ?_) _).trans ?_ | with_reducible refine (whenS_frame _ _ _ _ (fun _ => ?_)).trans ?_ | split)

theorem State.lostFrame_frame (W : Nat) (hW : 13258045098000 &&& W = 13258045098000) (n : Nat) (s : State) : (State.lostFrame n s).hide W = s.hide W := by
  refine hide_mono _ _ hW ?_
  unfold State.lostFrame
  repeat' (first | with_reducible rfl | simp only [State.dccBreak_frame, State.modPort_frame, State.rxPaths_frame, State.traceLost_frame, Nat.reduceAnd, hide_ite, snd_ite, foldS_frame, whenS_frame, foldl_frame, ite_self, implies_true, mk_leaf, State.hideU, Ce.hide, Glb.hide, Flt.hide, Hif.hide, Sec.hide, Stp.hide, pick, Nat.reduceEqDiff, reduceIte] | with_reducible refine (foldS_frame _ _ _ (fun _ _ => ?_) _).trans ?_ | with_reducible refine (whenS_frame _ _ _ _ (fun _ => ?_)).trans ?_ | split)

theorem State.rxFrame_frame (W : Nat) (hW : 13258179315728 &&& W = 13258179315728) (n : Nat) (b : List Byte) (s : State) : (State.rxFrame n b s).hide W = s.hide W := by
  refine hide_mono _ _ hW ?_
  unfold State.rxFrame
  repeat' (first | with_reducible rfl | simp only [State.dccBreak_frame, State.lofTest_frame, State.modPort_frame, State.rxBer_frame, State.rxDcc_frame, State.rxKS_frame, State.rxParity_frame, State.rxPaths_frame, State.rxRei_frame, State.setDef_frame, State.setPort_frame, State.traceByte_frame, State.traceGap_frame, Nat.reduceAnd, hide_ite, snd_ite, foldS_frame, whenS_frame, foldl_frame, ite_self, implies_true, mk_leaf, State.hideU, Ce.hide, Glb.hide, Flt.hide, Hif.hide, Sec.hide, Stp.hide, pick, Nat.reduceEqDiff, reduceIte] | with_reducible refine (foldS_frame _ _ _ (fun _ _ => ?_) _).trans ?_ | with_reducible refine (whenS_frame _ _ _ _ (fun _ => ?_)).trans ?_ | split)

theorem State.setStore_frame (W : Nat) (hW : 1073741824 &&& W = 1073741824) (d : Nat) (x : Store) (s : State) : (State.setStore d x s).hide W = s.hide W := by
  refine hide_mono _ _ hW ?_
  unfold State.setStore
  repeat' (first | with_reducible rfl | simp only [Nat.reduceAnd, hide_ite, snd_ite, foldS_frame, whenS_frame, foldl_frame, ite_self, implies_true, mk_leaf, State.hideU, Ce.hide, Glb.hide, Flt.hide, Hif.hide, Sec.hide, Stp.hide, pick, Nat.reduceEqDiff, reduceIte] | with_reducible refine (foldS_frame _ _ _ (fun _ _ => ?_) _).trans ?_ | with_reducible refine (whenS_frame _ _ _ _ (fun _ => ?_)).trans ?_ | split)

theorem State.genFixed_frame (W : Nat) (hW : 1073741824 &&& W = 1073741824) (n t w : Nat) (ais hold : Bool) (s : State) : (State.genFixed n t w ais hold s).2.hide W = s.hide W := by
  refine hide_mono _ _ hW ?_
  unfold State.genFixed
  repeat' (first | with_reducible rfl | simp only [State.setStore_frame, Nat.reduceAnd, hide_ite, snd_ite, foldS_frame, whenS_frame, foldl_frame, ite_self, implies_true, mk_leaf, State.hideU, Ce.hide, Glb.hide, Flt.hide, Hif.hide, Sec.hide, Stp.hide, pick, Nat.reduceEqDiff, reduceIte] | with_reducible refine (foldS_frame _ _ _ (fun _ _ => ?_) _).trans ?_ | with_reducible refine (whenS_frame _ _ _ _ (fun _ => ?_)).trans ?_ | split)

theorem State.genFlow_frame (W : Nat) (hW : 1073741828 &&& W = 1073741828) (n t w k : Nat) (f : Flow) (s : State) : (State.genFlow n t w k f s).2.hide W = s.hide W := by
  refine hide_mono _ _ hW ?_
  unfold State.genFlow
  repeat' (first | with_reducible rfl | simp only [State.setPath_frame, State.setStore_frame, State.takeFree_frame, Nat.reduceAnd, hide_ite, snd_ite, foldS_frame, whenS_frame, foldl_frame, ite_self, implies_true, mk_leaf, State.hideU, Ce.hide, Glb.hide, Flt.hide, Hif.hide, Sec.hide, Stp.hide, pick, Nat.reduceEqDiff, reduceIte] | with_reducible refine (foldS_frame _ _ _ (fun _ _ => ?_) _).trans ?_ | with_reducible refine (whenS_frame _ _ _ _ (fun _ => ?_)).trans ?_ | split)

theorem State.genPath_frame (W : Nat) (hW : 1073741828 &&& W = 1073741828) (n t w : Nat) (s : State) : (State.genPath n t w s).2.hide W = s.hide W := by
  refine hide_mono _ _ hW ?_
  unfold State.genPath
  repeat' (first | with_reducible rfl | simp only [State.genFixed_frame, State.genFlow_frame, Nat.reduceAnd, hide_ite, snd_ite, foldS_frame, whenS_frame, foldl_frame, ite_self, implies_true, mk_leaf, State.hideU, Ce.hide, Glb.hide, Flt.hide, Hif.hide, Sec.hide, Stp.hide, pick, Nat.reduceEqDiff, reduceIte] | with_reducible refine (foldS_frame _ _ _ (fun _ _ => ?_) _).trans ?_ | with_reducible refine (whenS_frame _ _ _ _ (fun _ => ?_)).trans ?_ | split)

theorem State.txDcc_frame (W : Nat) (hW : 8796093022208 &&& W = 8796093022208) (c n : Nat) (on : Bool) (s : State) : (State.txDcc c n on s).2.hide W = s.hide W := by
  refine hide_mono _ _ hW ?_
  unfold State.txDcc
  repeat' (first | with_reducible rfl | simp only [Nat.reduceAnd, hide_ite, snd_ite, foldS_frame, whenS_frame, foldl_frame, ite_self, implies_true, mk_leaf, State.hideU, Ce.hide, Glb.hide, Flt.hide, Hif.hide, Sec.hide, Stp.hide, pick, Nat.reduceEqDiff, reduceIte] | with_reducible refine (foldS_frame _ _ _ (fun _ _ => ?_) _).trans ?_ | with_reducible refine (whenS_frame _ _ _ _ (fun _ => ?_)).trans ?_ | split)

theorem State.genPaths_frame (W : Nat) (hW : 1073741828 &&& W = 1073741828) (n : Nat) (l : List (Nat × Nat)) (s : State) : (State.genPaths n l s).2.hide W = s.hide W := by
  refine hide_mono _ _ hW ?_
  induction l generalizing s with
  | nil => rfl
  | cons x l ih =>
    unfold State.genPaths
    exact (ih _).trans (State.genPath_frame _ (by decide) _ _ _ s)

theorem State.txFrame_frame (W : Nat) (hW : 8799851118596 &&& W = 8799851118596) (n : Nat) (s : State) : (State.txFrame n s).hide W = s.hide W := by
  refine hide_mono _ _ hW ?_
  unfold State.txFrame
  repeat' (first | with_reducible rfl | simp only [State.genPaths_frame, State.modPort_frame, State.traceSend_frame, State.txDcc_frame, Nat.reduceAnd, hide_ite, snd_ite, foldS_frame, whenS_frame, foldl_frame, ite_self, implies_true, mk_leaf, State.hideU, Ce.hide, Glb.hide, Flt.hide, Hif.hide, Sec.hide, Stp.hide, pick, Nat.reduceEqDiff, reduceIte] | with_reducible refine (foldS_frame _ _ _ (fun _ _ => ?_) _).trans ?_ | with_reducible refine (whenS_frame _ _ _ _ (fun _ => ?_)).trans ?_ | split)

theorem State.portCfgWrite_frame (W : Nat) (hW : 8 &&& W = 8) (n : Nat) (v : Word) (s : State) : (State.portCfgWrite n v s).hide W = s.hide W := by
  refine hide_mono _ _ hW ?_
  unfold State.portCfgWrite
  repeat' (first | with_reducible rfl | simp only [State.setReg_frame, Nat.reduceAnd, hide_ite, snd_ite, foldS_frame, whenS_frame, foldl_frame, ite_self, implies_true, mk_leaf, State.hideU, Ce.hide, Glb.hide, Flt.hide, Hif.hide, Sec.hide, Stp.hide, pick, Nat.reduceEqDiff, reduceIte] | with_reducible refine (foldS_frame _ _ _ (fun _ _ => ?_) _).trans ?_ | with_reducible refine (whenS_frame _ _ _ _ (fun _ => ?_)).trans ?_ | split)

theorem State.serdesCfgWrite_frame (W : Nat) (hW : 8 &&& W = 8) (n : Nat) (v : Word) (s : State) : (State.serdesCfgWrite n v s).hide W = s.hide W := by
  refine hide_mono _ _ hW ?_
  unfold State.serdesCfgWrite
  repeat' (first | with_reducible rfl | simp only [State.regWrite_frame, Nat.reduceAnd, hide_ite, snd_ite, foldS_frame, whenS_frame, foldl_frame, ite_self, implies_true, mk_leaf, State.hideU, Ce.hide, Glb.hide, Flt.hide, Hif.hide, Sec.hide, Stp.hide, pick, Nat.reduceEqDiff, reduceIte] | with_reducible refine (foldS_frame _ _ _ (fun _ _ => ?_) _).trans ?_ | with_reducible refine (whenS_frame _ _ _ _ (fun _ => ?_)).trans ?_ | split)

theorem State.portStart_frame (W : Nat) (hW : 553650176 &&& W = 553650176) (n : Nat) (s : State) : (State.portStart n s).hide W = s.hide W := by
  refine hide_mono _ _ hW ?_
  unfold State.portStart
  repeat' (first | with_reducible rfl | simp only [State.modPort_frame, State.setDef_frame, State.txFrame_frame, Nat.reduceAnd, hide_ite, snd_ite, foldS_frame, whenS_frame, foldl_frame, ite_self, implies_true, mk_leaf, State.hideU, Ce.hide, Glb.hide, Flt.hide, Hif.hide, Sec.hide, Stp.hide, pick, Nat.reduceEqDiff, reduceIte] | with_reducible refine (foldS_frame _ _ _ (fun _ _ => ?_) _).trans ?_ | with_reducible refine (whenS_frame _ _ _ _ (fun _ => ?_)).trans ?_ | split)

theorem State.enBoundary_frame (W : Nat) (hW : 553650176 &&& W = 553650176) (n : Nat) (s : State) : (State.enBoundary n s).hide W = s.hide W := by
  refine hide_mono _ _ hW ?_
  unfold State.enBoundary
  repeat' (first | with_reducible rfl | simp only [State.modPort_frame, State.portStart_frame, State.txFrame_frame, Nat.reduceAnd, hide_ite, snd_ite, foldS_frame, whenS_frame, foldl_frame, ite_self, implies_true, mk_leaf, State.hideU, Ce.hide, Glb.hide, Flt.hide, Hif.hide, Sec.hide, Stp.hide, pick, Nat.reduceEqDiff, reduceIte] | with_reducible refine (foldS_frame _ _ _ (fun _ _ => ?_) _).trans ?_ | with_reducible refine (whenS_frame _ _ _ _ (fun _ => ?_)).trans ?_ | split)

theorem State.ofsBoundary_frame (W : Nat) (hW : 805306368 &&& W = 805306368) (s : State) : (State.ofsBoundary s).hide W = s.hide W := by
  refine hide_mono _ _ hW ?_
  unfold State.ofsBoundary
  repeat' (first | with_reducible rfl | simp only [State.modPort_frame, State.txFrame_frame, Nat.reduceAnd, hide_ite, snd_ite, foldS_frame, whenS_frame, foldl_frame, ite_self, implies_true, mk_leaf, State.hideU, Ce.hide, Glb.hide, Flt.hide, Hif.hide, Sec.hide, Stp.hide, pick, Nat.reduceEqDiff, reduceIte] | with_reducible refine (foldS_frame _ _ _ (fun _ _ => ?_) _).trans ?_ | with_reducible refine (whenS_frame _ _ _ _ (fun _ => ?_)).trans ?_ | split)

theorem State.offsetWrite_frame (W : Nat) (hW : 8 &&& W = 8) (o : Nat) (v : Word) (s : State) : (State.offsetWrite o v s).hide W = s.hide W := by
  refine hide_mono _ _ hW ?_
  unfold State.offsetWrite
  repeat' (first | with_reducible rfl | simp only [State.regWrite_frame, Nat.reduceAnd, hide_ite, snd_ite, foldS_frame, whenS_frame, foldl_frame, ite_self, implies_true, mk_leaf, State.hideU, Ce.hide, Glb.hide, Flt.hide, Hif.hide, Sec.hide, Stp.hide, pick, Nat.reduceEqDiff, reduceIte] | with_reducible refine (foldS_frame _ _ _ (fun _ _ => ?_) _).trans ?_ | with_reducible refine (whenS_frame _ _ _ _ (fun _ => ?_)).trans ?_ | split)

theorem State.losUpdate_frame (W : Nat) (hW : 8817183131664 &&& W = 8817183131664) (n : Nat) (s : State) : (State.losUpdate n s).hide W = s.hide W := by
  refine hide_mono _ _ hW ?_
  unfold State.losUpdate
  repeat' (first | with_reducible rfl | simp only [State.dccBreak_frame, State.modPort_frame, State.refLine_frame, State.setDef_frame, State.traceLost_frame, Nat.reduceAnd, hide_ite, snd_ite, foldS_frame, whenS_frame, foldl_frame, ite_self, implies_true, mk_leaf, State.hideU, Ce.hide, Glb.hide, Flt.hide, Hif.hide, Sec.hide, Stp.hide, pick, Nat.reduceEqDiff, reduceIte] | with_reducible refine (foldS_frame _ _ _ (fun _ _ => ?_) _).trans ?_ | with_reducible refine (whenS_frame _ _ _ _ (fun _ => ?_)).trans ?_ | split)

theorem execPortCfgWrite_frame (W : Nat) (hW : 8 &&& W = 8) (n : Fin 32) (v : Word) (s : State) : (after1 (execPortCfgWrite n v) s).hide W = s.hide W := by
  refine hide_mono _ _ hW ?_
  unfold after1 execPortCfgWrite
  repeat' (first | with_reducible rfl | simp only [State.portCfgWrite_frame, Nat.reduceAnd, hide_ite, snd_ite, foldS_frame, whenS_frame, foldl_frame, ite_self, implies_true, mk_leaf, State.hideU, Ce.hide, Glb.hide, Flt.hide, Hif.hide, Sec.hide, Stp.hide, pick, Nat.reduceEqDiff, reduceIte] | with_reducible refine (foldS_frame _ _ _ (fun _ _ => ?_) _).trans ?_ | with_reducible refine (whenS_frame _ _ _ _ (fun _ => ?_)).trans ?_ | split)

theorem execTxOffsetWrite_frame (W : Nat) (hW : 8 &&& W = 8) (r : OffsetReg) (v : Word) (s : State) : (after1 (execTxOffsetWrite r v) s).hide W = s.hide W := by
  refine hide_mono _ _ hW ?_
  unfold after1 execTxOffsetWrite
  repeat' (first | with_reducible rfl | simp only [State.offsetWrite_frame, Nat.reduceAnd, hide_ite, snd_ite, foldS_frame, whenS_frame, foldl_frame, ite_self, implies_true, mk_leaf, State.hideU, Ce.hide, Glb.hide, Flt.hide, Hif.hide, Sec.hide, Stp.hide, pick, Nat.reduceEqDiff, reduceIte] | with_reducible refine (foldS_frame _ _ _ (fun _ _ => ?_) _).trans ?_ | with_reducible refine (whenS_frame _ _ _ _ (fun _ => ?_)).trans ?_ | split)

theorem execTxLineFrame_frame (W : Nat) (hW : 8799851118596 &&& W = 8799851118596) (n : Fin 32) (phase : Nat) (s : State) : (after1 (execTxLineFrame n phase) s).hide W = s.hide W := by
  refine hide_mono _ _ hW ?_
  unfold after1 execTxLineFrame
  repeat' (first | with_reducible rfl | simp only [State.txFrame_frame, Nat.reduceAnd, hide_ite, snd_ite, foldS_frame, whenS_frame, foldl_frame, ite_self, implies_true, mk_leaf, State.hideU, Ce.hide, Glb.hide, Flt.hide, Hif.hide, Sec.hide, Stp.hide, pick, Nat.reduceEqDiff, reduceIte] | with_reducible refine (foldS_frame _ _ _ (fun _ _ => ?_) _).trans ?_ | with_reducible refine (whenS_frame _ _ _ _ (fun _ => ?_)).trans ?_ | split)

theorem execLofL_frame (W : Nat) (hW : 8817183131664 &&& W = 8817183131664) (n : Fin 32) (s : State) : (after1 (execLofL n) s).hide W = s.hide W := by
  refine hide_mono _ _ hW ?_
  unfold after1 execLofL
  repeat' (first | with_reducible rfl | simp only [State.lofTest_frame, Nat.reduceAnd, hide_ite, snd_ite, foldS_frame, whenS_frame, foldl_frame, ite_self, implies_true, mk_leaf, State.hideU, Ce.hide, Glb.hide, Flt.hide, Hif.hide, Sec.hide, Stp.hide, pick, Nat.reduceEqDiff, reduceIte] | with_reducible refine (foldS_frame _ _ _ (fun _ _ => ?_) _).trans ?_ | with_reducible refine (whenS_frame _ _ _ _ (fun _ => ?_)).trans ?_ | split)

theorem execLosL_frame (W : Nat) (hW : 8817183131664 &&& W = 8817183131664) (n : Fin 32) (absent : Bool) (s : State) : (after1 (execLosL n absent) s).hide W = s.hide W := by
  refine hide_mono _ _ hW ?_
  unfold after1 execLosL
  repeat' (first | with_reducible rfl | simp only [State.losUpdate_frame, State.modPort_frame, Nat.reduceAnd, hide_ite, snd_ite, foldS_frame, whenS_frame, foldl_frame, ite_self, implies_true, mk_leaf, State.hideU, Ce.hide, Glb.hide, Flt.hide, Hif.hide, Sec.hide, Stp.hide, pick, Nat.reduceEqDiff, reduceIte] | with_reducible refine (foldS_frame _ _ _ (fun _ _ => ?_) _).trans ?_ | with_reducible refine (whenS_frame _ _ _ _ (fun _ => ?_)).trans ?_ | split)

theorem execSerdesLol_frame (W : Nat) (hW : 8817183131664 &&& W = 8817183131664) (n : Fin 32) (rx : Bool) (s : State) : (after1 (execSerdesLol n rx) s).hide W = s.hide W := by
  refine hide_mono _ _ hW ?_
  unfold after1 execSerdesLol
  repeat' (first | with_reducible rfl | simp only [State.losUpdate_frame, State.modPort_frame, State.raise_frame, State.txFrame_frame, Nat.reduceAnd, hide_ite, snd_ite, foldS_frame, whenS_frame, foldl_frame, ite_self, implies_true, mk_leaf, State.hideU, Ce.hide, Glb.hide, Flt.hide, Hif.hide, Sec.hide, Stp.hide, pick, Nat.reduceEqDiff, reduceIte] | with_reducible refine (foldS_frame _ _ _ (fun _ _ => ?_) _).trans ?_ | with_reducible refine (whenS_frame _ _ _ _ (fun _ => ?_)).trans ?_ | split)

theorem execSerdesLock_frame (W : Nat) (hW : 8817183131664 &&& W = 8817183131664) (n : Fin 32) (rx : Bool) (s : State) : (after1 (execSerdesLock n rx) s).hide W = s.hide W := by
  refine hide_mono _ _ hW ?_
  unfold after1 execSerdesLock
  repeat' (first | with_reducible rfl | simp only [State.losUpdate_frame, State.modPort_frame, Nat.reduceAnd, hide_ite, snd_ite, foldS_frame, whenS_frame, foldl_frame, ite_self, implies_true, mk_leaf, State.hideU, Ce.hide, Glb.hide, Flt.hide, Hif.hide, Sec.hide, Stp.hide, pick, Nat.reduceEqDiff, reduceIte] | with_reducible refine (foldS_frame _ _ _ (fun _ _ => ?_) _).trans ?_ | with_reducible refine (whenS_frame _ _ _ _ (fun _ => ?_)).trans ?_ | split)

theorem State.putTrib_frame (W : Nat) (hW : 34376517632 &&& W = 34376517632) (t : Nat) (x : Trib) (s : State) : (State.putTrib t x s).hide W = s.hide W := by
  refine hide_mono _ _ hW ?_
  unfold State.putTrib
  repeat' (first | with_reducible rfl | simp only [State.raiseU_frame, State.seeDef_frame, Nat.reduceAnd, hide_ite, snd_ite, foldS_frame, whenS_frame, foldl_frame, ite_self, implies_true, mk_leaf, State.hideU, Ce.hide, Glb.hide, Flt.hide, Hif.hide, Sec.hide, Stp.hide, pick, Nat.reduceEqDiff, reduceIte] | with_reducible refine (foldS_frame _ _ _ (fun _ _ => ?_) _).trans ?_ | with_reducible refine (whenS_frame _ _ _ _ (fun _ => ?_)).trans ?_ | split)

theorem State.modTrib_frame (W : Nat) (hW : 34376517632 &&& W = 34376517632) (t : Nat) (f : Trib → Trib) (s : State) : (State.modTrib t f s).hide W = s.hide W := by
  refine hide_mono _ _ hW ?_
  unfold State.modTrib
  repeat' (first | with_reducible rfl | simp only [State.putTrib_frame, Nat.reduceAnd, hide_ite, snd_ite, foldS_frame, whenS_frame, foldl_frame, ite_self, implies_true, mk_leaf, State.hideU, Ce.hide, Glb.hide, Flt.hide, Hif.hide, Sec.hide, Stp.hide, pick, Nat.reduceEqDiff, reduceIte] | with_reducible refine (foldS_frame _ _ _ (fun _ _ => ?_) _).trans ?_ | with_reducible refine (whenS_frame _ _ _ _ (fun _ => ?_)).trans ?_ | split)

theorem State.tribCfg_frame (W : Nat) (hW : 51556386816 &&& W = 51556386816) (t : Nat) (c : TribSet) (s : State) : (State.tribCfg t c s).hide W = s.hide W := by
  refine hide_mono _ _ hW ?_
  unfold State.tribCfg
  repeat' (first | with_reducible rfl | simp only [State.putTrib_frame, State.seeBits_frame, State.setLo_frame, Nat.reduceAnd, hide_ite, snd_ite, foldS_frame, whenS_frame, foldl_frame, ite_self, implies_true, mk_leaf, State.hideU, Ce.hide, Glb.hide, Flt.hide, Hif.hide, Sec.hide, Stp.hide, pick, Nat.reduceEqDiff, reduceIte] | with_reducible refine (foldS_frame _ _ _ (fun _ _ => ?_) _).trans ?_ | with_reducible refine (whenS_frame _ _ _ _ (fun _ => ?_)).trans ?_ | split)

theorem State.sigSet_frame (W : Nat) (hW : 34376517632 &&& W = 34376517632) (o : SigOp) (s : State) : (State.sigSet o s).2.hide W = s.hide W := by
  refine hide_mono _ _ hW ?_
  unfold State.sigSet
  repeat' (first | with_reducible rfl | simp only [State.putTrib_frame, Nat.reduceAnd, hide_ite, snd_ite, foldS_frame, whenS_frame, foldl_frame, ite_self, implies_true, mk_leaf, State.hideU, Ce.hide, Glb.hide, Flt.hide, Hif.hide, Sec.hide, Stp.hide, pick, Nat.reduceEqDiff, reduceIte] | with_reducible refine (foldS_frame _ _ _ (fun _ _ => ?_) _).trans ?_ | with_reducible refine (whenS_frame _ _ _ _ (fun _ => ?_)).trans ?_ | split)

theorem State.tribSlip_frame (W : Nat) (hW : 34376517632 &&& W = 34376517632) (t : Nat) (del : Bool) (s : State) : (State.tribSlip t del s).hide W = s.hide W := by
  refine hide_mono _ _ hW ?_
  unfold State.tribSlip
  repeat' (first | with_reducible rfl | simp only [State.putTrib_frame, State.raiseU_frame, Nat.reduceAnd, hide_ite, snd_ite, foldS_frame, whenS_frame, foldl_frame, ite_self, implies_true, mk_leaf, State.hideU, Ce.hide, Glb.hide, Flt.hide, Hif.hide, Sec.hide, Stp.hide, pick, Nat.reduceEqDiff, reduceIte] | with_reducible refine (foldS_frame _ _ _ (fun _ _ => ?_) _).trans ?_ | with_reducible refine (whenS_frame _ _ _ _ (fun _ => ?_)).trans ?_ | split)

theorem State.slipWrite_frame (W : Nat) (hW : 34376517632 &&& W = 34376517632) (t : Nat) (f : List Byte) (s : State) : (State.slipWrite t f s).hide W = s.hide W := by
  refine hide_mono _ _ hW ?_
  unfold State.slipWrite
  repeat' (first | with_reducible rfl | simp only [State.putTrib_frame, State.tribSlip_frame, Nat.reduceAnd, hide_ite, snd_ite, foldS_frame, whenS_frame, foldl_frame, ite_self, implies_true, mk_leaf, State.hideU, Ce.hide, Glb.hide, Flt.hide, Hif.hide, Sec.hide, Stp.hide, pick, Nat.reduceEqDiff, reduceIte] | with_reducible refine (foldS_frame _ _ _ (fun _ _ => ?_) _).trans ?_ | with_reducible refine (whenS_frame _ _ _ _ (fun _ => ?_)).trans ?_ | split)

theorem State.prtEvent_frame (W : Nat) (hW : 2048 &&& W = 2048) (kind g bit : Nat) (k : Kind) (data : Nat) (s : State) : (State.prtEvent kind g bit k data s).hide W = s.hide W := by
  refine hide_mono _ _ hW ?_
  unfold State.prtEvent
  repeat' (first | with_reducible rfl | simp only [State.raiseU_frame, Nat.reduceAnd, hide_ite, snd_ite, foldS_frame, whenS_frame, foldl_frame, ite_self, implies_true, mk_leaf, State.hideU, Ce.hide, Glb.hide, Flt.hide, Hif.hide, Sec.hide, Stp.hide, pick, Nat.reduceEqDiff, reduceIte] | with_reducible refine (foldS_frame _ _ _ (fun _ _ => ?_) _).trans ?_ | with_reducible refine (whenS_frame _ _ _ _ (fun _ => ?_)).trans ?_ | split)

theorem State.mergeBoth_frame (W : Nat) (hW : 1099511629824 &&& W = 1099511629824) (g : Nat) (s : State) : (State.mergeBoth g s).hide W = s.hide W := by
  refine hide_mono _ _ hW ?_
  unfold State.mergeBoth
  repeat' (first | with_reducible rfl | simp only [State.prtEvent_frame, State.setGroup_frame, Nat.reduceAnd, hide_ite, snd_ite, foldS_frame, whenS_frame, foldl_frame, ite_self, implies_true, mk_leaf, State.hideU, Ce.hide, Glb.hide, Flt.hide, Hif.hide, Sec.hide, Stp.hide, pick, Nat.reduceEqDiff, reduceIte] | with_reducible refine (foldS_frame _ _ _ (fun _ _ => ?_) _).trans ?_ | with_reducible refine (whenS_frame _ _ _ _ (fun _ => ?_)).trans ?_ | split)

theorem State.mergeRead_frame (W : Nat) (hW : 1133888145408 &&& W = 1133888145408) (g : Nat) (s : State) : (State.mergeRead g s).hide W = s.hide W := by
  refine hide_mono _ _ hW ?_
  unfold State.mergeRead
  repeat' (first | with_reducible rfl | simp only [State.modTrib_frame, State.setGroup_frame, State.slipWrite_frame, Nat.reduceAnd, hide_ite, snd_ite, foldS_frame, whenS_frame, foldl_frame, ite_self, implies_true, mk_leaf, State.hideU, Ce.hide, Glb.hide, Flt.hide, Hif.hide, Sec.hide, Stp.hide, pick, Nat.reduceEqDiff, reduceIte] | with_reducible refine (foldS_frame _ _ _ (fun _ _ => ?_) _).trans ?_ | with_reducible refine (whenS_frame _ _ _ _ (fun _ => ?_)).trans ?_ | split)

theorem State.mergeOut_frame (W : Nat) (hW : 1099511629824 &&& W = 1099511629824) (g : Nat) (b : Bool) (s : State) : (State.mergeOut g b s).hide W = s.hide W := by
  refine hide_mono _ _ hW ?_
  unfold State.mergeOut
  repeat' (first | with_reducible rfl | simp only [State.mergeBoth_frame, State.setGroup_frame, Nat.reduceAnd, hide_ite, snd_ite, foldS_frame, whenS_frame, foldl_frame, ite_self, implies_true, mk_leaf, State.hideU, Ce.hide, Glb.hide, Flt.hide, Hif.hide, Sec.hide, Stp.hide, pick, Nat.reduceEqDiff, reduceIte] | with_reducible refine (foldS_frame _ _ _ (fun _ _ => ?_) _).trans ?_ | with_reducible refine (whenS_frame _ _ _ _ (fun _ => ?_)).trans ?_ | split)

theorem State.mergeTake_frame (W : Nat) (hW : 1099511629824 &&& W = 1099511629824) (g : Nat) (b : Bool) (s : State) : (State.mergeTake g b s).hide W = s.hide W := by
  refine hide_mono _ _ hW ?_
  unfold State.mergeTake
  repeat' (first | with_reducible rfl | simp only [State.mergeOut_frame, Nat.reduceAnd, hide_ite, snd_ite, foldS_frame, whenS_frame, foldl_frame, ite_self, implies_true, mk_leaf, State.hideU, Ce.hide, Glb.hide, Flt.hide, Hif.hide, Sec.hide, Stp.hide, pick, Nat.reduceEqDiff, reduceIte] | with_reducible refine (foldS_frame _ _ _ (fun _ _ => ?_) _).trans ?_ | with_reducible refine (whenS_frame _ _ _ _ (fun _ => ?_)).trans ?_ | split)

theorem State.mergeNext_frame (W : Nat) (hW : 1133888145408 &&& W = 1133888145408) (g : Nat) (b : Bool) (s : State) : (State.mergeNext g b s).hide W = s.hide W := by
  refine hide_mono _ _ hW ?_
  unfold State.mergeNext
  repeat' (first | with_reducible rfl | simp only [State.mergeOut_frame, State.mergeRead_frame, Nat.reduceAnd, hide_ite, snd_ite, foldS_frame, whenS_frame, foldl_frame, ite_self, implies_true, mk_leaf, State.hideU, Ce.hide, Glb.hide, Flt.hide, Hif.hide, Sec.hide, Stp.hide, pick, Nat.reduceEqDiff, reduceIte] | with_reducible refine (foldS_frame _ _ _ (fun _ _ => ?_) _).trans ?_ | with_reducible refine (whenS_frame _ _ _ _ (fun _ => ?_)).trans ?_ | split)

theorem State.mergeTell_frame (W : Nat) (hW : 2048 &&& W = 2048) (g : Nat) (was : Bool) (s : State) : (State.mergeTell g was s).hide W = s.hide W := by
  refine hide_mono _ _ hW ?_
  unfold State.mergeTell
  repeat' (first | with_reducible rfl | simp only [State.prtEvent_frame, Nat.reduceAnd, hide_ite, snd_ite, foldS_frame, whenS_frame, foldl_frame, ite_self, implies_true, mk_leaf, State.hideU, Ce.hide, Glb.hide, Flt.hide, Hif.hide, Sec.hide, Stp.hide, pick, Nat.reduceEqDiff, reduceIte] | with_reducible refine (foldS_frame _ _ _ (fun _ _ => ?_) _).trans ?_ | with_reducible refine (whenS_frame _ _ _ _ (fun _ => ?_)).trans ?_ | split)

theorem State.mergePace_frame (W : Nat) (hW : 1133888145408 &&& W = 1133888145408) (g : Nat) (b mine other : Bool) (s : State) : (State.mergePace g b mine other s).hide W = s.hide W := by
  refine hide_mono _ _ hW ?_
  unfold State.mergePace
  repeat' (first | with_reducible rfl | simp only [State.mergeNext_frame, State.mergeRead_frame, State.setGroup_frame, Nat.reduceAnd, hide_ite, snd_ite, foldS_frame, whenS_frame, foldl_frame, ite_self, implies_true, mk_leaf, State.hideU, Ce.hide, Glb.hide, Flt.hide, Hif.hide, Sec.hide, Stp.hide, pick, Nat.reduceEqDiff, reduceIte] | with_reducible refine (foldS_frame _ _ _ (fun _ _ => ?_) _).trans ?_ | with_reducible refine (whenS_frame _ _ _ _ (fun _ => ?_)).trans ?_ | split)

theorem State.mergeIn_frame (W : Nat) (hW : 1133888145408 &&& W = 1133888145408) (g : Nat) (b : Bool) (x : Trib) (pos : Nat) (f : List Byte) (hurt : Bool) (s : State) : (State.mergeIn g b x pos f hurt s).hide W = s.hide W := by
  refine hide_mono _ _ hW ?_
  unfold State.mergeIn
  repeat' (first | with_reducible rfl | simp only [State.mergePace_frame, State.mergeTake_frame, State.mergeTell_frame, State.setGroup_frame, Nat.reduceAnd, hide_ite, snd_ite, foldS_frame, whenS_frame, foldl_frame, ite_self, implies_true, mk_leaf, State.hideU, Ce.hide, Glb.hide, Flt.hide, Hif.hide, Sec.hide, Stp.hide, pick, Nat.reduceEqDiff, reduceIte] | with_reducible refine (foldS_frame _ _ _ (fun _ _ => ?_) _).trans ?_ | with_reducible refine (whenS_frame _ _ _ _ (fun _ => ?_)).trans ?_ | split)

theorem State.tribFrame_frame (W : Nat) (hW : 1133888145408 &&& W = 1133888145408) (t : Nat) (l : List Bool) (s : State) : (State.tribFrame t l s).hide W = s.hide W := by
  refine hide_mono _ _ hW ?_
  unfold State.tribFrame
  repeat' (first | with_reducible rfl | simp only [State.mergeIn_frame, State.modTrib_frame, State.putTrib_frame, State.raiseU_frame, State.slipWrite_frame, Nat.reduceAnd, hide_ite, snd_ite, foldS_frame, whenS_frame, foldl_frame, ite_self, implies_true, mk_leaf, State.hideU, Ce.hide, Glb.hide, Flt.hide, Hif.hide, Sec.hide, Stp.hide, pick, Nat.reduceEqDiff, reduceIte] | with_reducible refine (foldS_frame _ _ _ (fun _ _ => ?_) _).trans ?_ | with_reducible refine (whenS_frame _ _ _ _ (fun _ => ?_)).trans ?_ | split)

theorem State.tribBits_frame (W : Nat) (hW : 1133888145408 &&& W = 1133888145408) (t : Nat) (s : State) : (State.tribBits t s).hide W = s.hide W := by
  refine hide_mono _ _ hW ?_
  unfold State.tribBits
  repeat' (first | with_reducible rfl | simp only [State.putTrib_frame, State.tribFrame_frame, Nat.reduceAnd, hide_ite, snd_ite, foldS_frame, whenS_frame, foldl_frame, ite_self, implies_true, mk_leaf, State.hideU, Ce.hide, Glb.hide, Flt.hide, Hif.hide, Sec.hide, Stp.hide, pick, Nat.reduceEqDiff, reduceIte] | with_reducible refine (foldS_frame _ _ _ (fun _ _ => ?_) _).trans ?_ | with_reducible refine (whenS_frame _ _ _ _ (fun _ => ?_)).trans ?_ | split)

theorem State.tribLo_frame (W : Nat) (hW : 1133888145408 &&& W = 1133888145408) (t : Nat) (s : State) : (State.tribLo t s).hide W = s.hide W := by
  refine hide_mono _ _ hW ?_
  unfold State.tribLo
  repeat' (first | with_reducible rfl | simp only [State.modTrib_frame, State.tribFrame_frame, Nat.reduceAnd, hide_ite, snd_ite, foldS_frame, whenS_frame, foldl_frame, ite_self, implies_true, mk_leaf, State.hideU, Ce.hide, Glb.hide, Flt.hide, Hif.hide, Sec.hide, Stp.hide, pick, Nat.reduceEqDiff, reduceIte] | with_reducible refine (foldS_frame _ _ _ (fun _ _ => ?_) _).trans ?_ | with_reducible refine (whenS_frame _ _ _ _ (fun _ => ?_)).trans ?_ | split)

theorem State.tribTake_frame (W : Nat) (hW : 34376517632 &&& W = 34376517632) (t : Nat) (s : State) : (State.tribTake t s).hide W = s.hide W := by
  refine hide_mono _ _ hW ?_
  unfold State.tribTake
  repeat' (first | with_reducible rfl | simp only [State.putTrib_frame, State.tribSlip_frame, Nat.reduceAnd, hide_ite, snd_ite, foldS_frame, whenS_frame, foldl_frame, ite_self, implies_true, mk_leaf, State.hideU, Ce.hide, Glb.hide, Flt.hide, Hif.hide, Sec.hide, Stp.hide, pick, Nat.reduceEqDiff, reduceIte] | with_reducible refine (foldS_frame _ _ _ (fun _ _ => ?_) _).trans ?_ | with_reducible refine (whenS_frame _ _ _ _ (fun _ => ?_)).trans ?_ | split)

theorem State.tribSig_frame (W : Nat) (hW : 34376517632 &&& W = 34376517632) (t : Nat) (s : State) : (State.tribSig t s).hide W = s.hide W := by
  refine hide_mono _ _ hW ?_
  unfold State.tribSig
  repeat' (first | with_reducible rfl | simp only [State.putTrib_frame, State.raiseU_frame, Nat.reduceAnd, hide_ite, snd_ite, foldS_frame, whenS_frame, foldl_frame, ite_self, implies_true, mk_leaf, State.hideU, Ce.hide, Glb.hide, Flt.hide, Hif.hide, Sec.hide, Stp.hide, pick, Nat.reduceEqDiff, reduceIte] | with_reducible refine (foldS_frame _ _ _ (fun _ _ => ?_) _).trans ?_ | with_reducible refine (whenS_frame _ _ _ _ (fun _ => ?_)).trans ?_ | split)

theorem State.tribTx_frame (W : Nat) (hW : 34376517632 &&& W = 34376517632) (out : Nat → SByte) (t : Nat) (s : State) : (State.tribTx out t s).hide W = s.hide W := by
  refine hide_mono _ _ hW ?_
  unfold State.tribTx
  repeat' (first | with_reducible rfl | simp only [State.modTrib_frame, Nat.reduceAnd, hide_ite, snd_ite, foldS_frame, whenS_frame, foldl_frame, ite_self, implies_true, mk_leaf, State.hideU, Ce.hide, Glb.hide, Flt.hide, Hif.hide, Sec.hide, Stp.hide, pick, Nat.reduceEqDiff, reduceIte] | with_reducible refine (foldS_frame _ _ _ (fun _ _ => ?_) _).trans ?_ | with_reducible refine (whenS_frame _ _ _ _ (fun _ => ?_)).trans ?_ | split)

theorem State.tribBridge_frame (W : Nat) (hW : 34376517632 &&& W = 34376517632) (s : State) : (State.tribBridge s).hide W = s.hide W := by
  refine hide_mono _ _ hW ?_
  unfold State.tribBridge
  repeat' (first | with_reducible rfl | simp only [State.modTrib_frame, State.txFrame_frame, Nat.reduceAnd, hide_ite, snd_ite, foldS_frame, whenS_frame, foldl_frame, ite_self, implies_true, mk_leaf, State.hideU, Ce.hide, Glb.hide, Flt.hide, Hif.hide, Sec.hide, Stp.hide, pick, Nat.reduceEqDiff, reduceIte] | with_reducible refine (foldS_frame _ _ _ (fun _ _ => ?_) _).trans ?_ | with_reducible refine (whenS_frame _ _ _ _ (fun _ => ?_)).trans ?_ | split)

theorem State.loQuarterTx_frame (W : Nat) (hW : 19327352832 &&& W = 19327352832) (t : Nat) (s : State) : (State.loQuarterTx t s).hide W = s.hide W := by
  refine hide_mono _ _ hW ?_
  unfold State.loQuarterTx
  repeat' (first | with_reducible rfl | simp only [State.setLo_frame, State.traceSend_frame, State.txFrame_frame, Nat.reduceAnd, hide_ite, snd_ite, foldS_frame, whenS_frame, foldl_frame, ite_self, implies_true, mk_leaf, State.hideU, Ce.hide, Glb.hide, Flt.hide, Hif.hide, Sec.hide, Stp.hide, pick, Nat.reduceEqDiff, reduceIte] | with_reducible refine (foldS_frame _ _ _ (fun _ _ => ?_) _).trans ?_ | with_reducible refine (whenS_frame _ _ _ _ (fun _ => ?_)).trans ?_ | split)

theorem State.loTx_frame (W : Nat) (hW : 19327352832 &&& W = 19327352832) (t : Nat) (s : State) : (State.loTx t s).hide W = s.hide W := by
  refine hide_mono _ _ hW ?_
  unfold State.loTx
  repeat' (first | with_reducible rfl | simp only [State.loQuarterTx_frame, State.setLo_frame, Nat.reduceAnd, hide_ite, snd_ite, foldS_frame, whenS_frame, foldl_frame, ite_self, implies_true, mk_leaf, State.hideU, Ce.hide, Glb.hide, Flt.hide, Hif.hide, Sec.hide, Stp.hide, pick, Nat.reduceEqDiff, reduceIte] | with_reducible refine (foldS_frame _ _ _ (fun _ _ => ?_) _).trans ?_ | with_reducible refine (whenS_frame _ _ _ _ (fun _ => ?_)).trans ?_ | split)

theorem State.setHwy_frame (W : Nat) (hW : 68719476736 &&& W = 68719476736) (n : Nat) (h : Hwy) (s : State) : (State.setHwy n h s).hide W = s.hide W := by
  refine hide_mono _ _ hW ?_
  unfold State.setHwy
  repeat' (first | with_reducible rfl | simp only [Nat.reduceAnd, hide_ite, snd_ite, foldS_frame, whenS_frame, foldl_frame, ite_self, implies_true, mk_leaf, State.hideU, Ce.hide, Glb.hide, Flt.hide, Hif.hide, Sec.hide, Stp.hide, pick, Nat.reduceEqDiff, reduceIte] | with_reducible refine (foldS_frame _ _ _ (fun _ _ => ?_) _).trans ?_ | with_reducible refine (whenS_frame _ _ _ _ (fun _ => ?_)).trans ?_ | split)

theorem State.modHwy_frame (W : Nat) (hW : 68719476736 &&& W = 68719476736) (n : Nat) (f : Hwy → Hwy) (s : State) : (State.modHwy n f s).hide W = s.hide W := by
  refine hide_mono _ _ hW ?_
  unfold State.modHwy
  repeat' (first | with_reducible rfl | simp only [State.setHwy_frame, Nat.reduceAnd, hide_ite, snd_ite, foldS_frame, whenS_frame, foldl_frame, ite_self, implies_true, mk_leaf, State.hideU, Ce.hide, Glb.hide, Flt.hide, Hif.hide, Sec.hide, Stp.hide, pick, Nat.reduceEqDiff, reduceIte] | with_reducible refine (foldS_frame _ _ _ (fun _ _ => ?_) _).trans ?_ | with_reducible refine (whenS_frame _ _ _ _ (fun _ => ?_)).trans ?_ | split)

theorem State.setHwyGrp_frame (W : Nat) (hW : 137438953472 &&& W = 137438953472) (g : Nat) (x : HwyGrp) (s : State) : (State.setHwyGrp g x s).hide W = s.hide W := by
  refine hide_mono _ _ hW ?_
  unfold State.setHwyGrp
  repeat' (first | with_reducible rfl | simp only [Nat.reduceAnd, hide_ite, snd_ite, foldS_frame, whenS_frame, foldl_frame, ite_self, implies_true, mk_leaf, State.hideU, Ce.hide, Glb.hide, Flt.hide, Hif.hide, Sec.hide, Stp.hide, pick, Nat.reduceEqDiff, reduceIte] | with_reducible refine (foldS_frame _ _ _ (fun _ _ => ?_) _).trans ?_ | with_reducible refine (whenS_frame _ _ _ _ (fun _ => ?_)).trans ?_ | split)

theorem State.hwySlip_frame (W : Nat) (hW : 68719478784 &&& W = 68719478784) (n : Nat) (del tx : Bool) (s : State) : (State.hwySlip n del tx s).hide W = s.hide W := by
  refine hide_mono _ _ hW ?_
  unfold State.hwySlip
  repeat' (first | with_reducible rfl | simp only [State.raiseU_frame, State.setHwy_frame, Nat.reduceAnd, hide_ite, snd_ite, foldS_frame, whenS_frame, foldl_frame, ite_self, implies_true, mk_leaf, State.hideU, Ce.hide, Glb.hide, Flt.hide, Hif.hide, Sec.hide, Stp.hide, pick, Nat.reduceEqDiff, reduceIte] | with_reducible refine (foldS_frame _ _ _ (fun _ _ => ?_) _).trans ?_ | with_reducible refine (whenS_frame _ _ _ _ (fun _ => ?_)).trans ?_ | split)

theorem State.hwyLoss_frame (W : Nat) (hW : 68719478784 &&& W = 68719478784) (n : Nat) (on : Bool) (s : State) : (State.hwyLoss n on s).hide W = s.hide W := by
  refine hide_mono _ _ hW ?_
  unfold State.hwyLoss
  repeat' (first | with_reducible rfl | simp only [State.raiseU_frame, State.setHwy_frame, Nat.reduceAnd, hide_ite, snd_ite, foldS_frame, whenS_frame, foldl_frame, ite_self, implies_true, mk_leaf, State.hideU, Ce.hide, Glb.hide, Flt.hide, Hif.hide, Sec.hide, Stp.hide, pick, Nat.reduceEqDiff, reduceIte] | with_reducible refine (foldS_frame _ _ _ (fun _ _ => ?_) _).trans ?_ | with_reducible refine (whenS_frame _ _ _ _ (fun _ => ?_)).trans ?_ | split)

theorem State.hwyGroupLoss_frame (W : Nat) (hW : 68719478784 &&& W = 68719478784) (n : Nat) (s : State) : (State.hwyGroupLoss n s).hide W = s.hide W := by
  refine hide_mono _ _ hW ?_
  unfold State.hwyGroupLoss
  repeat' (first | with_reducible rfl | simp only [State.hwyLoss_frame, Nat.reduceAnd, hide_ite, snd_ite, foldS_frame, whenS_frame, foldl_frame, ite_self, implies_true, mk_leaf, State.hideU, Ce.hide, Glb.hide, Flt.hide, Hif.hide, Sec.hide, Stp.hide, pick, Nat.reduceEqDiff, reduceIte] | with_reducible refine (foldS_frame _ _ _ (fun _ _ => ?_) _).trans ?_ | with_reducible refine (whenS_frame _ _ _ _ (fun _ => ?_)).trans ?_ | split)

theorem State.hwySend_frame (W : Nat) (hW : 68719476736 &&& W = 68719476736) (n : Nat) (f : List Byte) (s : State) : (State.hwySend n f s).hide W = s.hide W := by
  refine hide_mono _ _ hW ?_
  unfold State.hwySend
  repeat' (first | with_reducible rfl | simp only [State.modHwy_frame, Nat.reduceAnd, hide_ite, snd_ite, foldS_frame, whenS_frame, foldl_frame, ite_self, implies_true, mk_leaf, State.hideU, Ce.hide, Glb.hide, Flt.hide, Hif.hide, Sec.hide, Stp.hide, pick, Nat.reduceEqDiff, reduceIte] | with_reducible refine (foldS_frame _ _ _ (fun _ _ => ?_) _).trans ?_ | with_reducible refine (whenS_frame _ _ _ _ (fun _ => ?_)).trans ?_ | split)

theorem State.hwySlipIn_frame (W : Nat) (hW : 68719478784 &&& W = 68719478784) (n : Nat) (f : List Byte) (s : State) : (State.hwySlipIn n f s).hide W = s.hide W := by
  refine hide_mono _ _ hW ?_
  unfold State.hwySlipIn
  repeat' (first | with_reducible rfl | simp only [State.hwySlip_frame, State.setHwy_frame, Nat.reduceAnd, hide_ite, snd_ite, foldS_frame, whenS_frame, foldl_frame, ite_self, implies_true, mk_leaf, State.hideU, Ce.hide, Glb.hide, Flt.hide, Hif.hide, Sec.hide, Stp.hide, pick, Nat.reduceEqDiff, reduceIte] | with_reducible refine (foldS_frame _ _ _ (fun _ _ => ?_) _).trans ?_ | with_reducible refine (whenS_frame _ _ _ _ (fun _ => ?_)).trans ?_ | split)

theorem State.hwySlave_frame (W : Nat) (hW : 68719478784 &&& W = 68719478784) (n : Nat) (bytes : List Byte) (s : State) : (State.hwySlave n bytes s).hide W = s.hide W := by
  refine hide_mono _ _ hW ?_
  unfold State.hwySlave
  repeat' (first | with_reducible rfl | simp only [State.hwySend_frame, State.hwySlipIn_frame, State.hwySlip_frame, State.modHwy_frame, State.setHwy_frame, Nat.reduceAnd, hide_ite, snd_ite, foldS_frame, whenS_frame, foldl_frame, ite_self, implies_true, mk_leaf, State.hideU, Ce.hide, Glb.hide, Flt.hide, Hif.hide, Sec.hide, Stp.hide, pick, Nat.reduceEqDiff, reduceIte] | with_reducible refine (foldS_frame _ _ _ (fun _ _ => ?_) _).trans ?_ | with_reducible refine (whenS_frame _ _ _ _ (fun _ => ?_)).trans ?_ | split)

theorem State.hwyTx_frame (W : Nat) (hW : 68719478784 &&& W = 68719478784) (out : Nat → SByte) (n : Nat) (s : State) : (State.hwyTx out n s).hide W = s.hide W := by
  refine hide_mono _ _ hW ?_
  unfold State.hwyTx
  repeat' (first | with_reducible rfl | simp only [State.hwySend_frame, State.hwySlip_frame, State.setHwy_frame, Nat.reduceAnd, hide_ite, snd_ite, foldS_frame, whenS_frame, foldl_frame, ite_self, implies_true, mk_leaf, State.hideU, Ce.hide, Glb.hide, Flt.hide, Hif.hide, Sec.hide, Stp.hide, pick, Nat.reduceEqDiff, reduceIte] | with_reducible refine (foldS_frame _ _ _ (fun _ _ => ?_) _).trans ?_ | with_reducible refine (whenS_frame _ _ _ _ (fun _ => ?_)).trans ?_ | split)

theorem State.hwyTake_frame (W : Nat) (hW : 68719478784 &&& W = 68719478784) (n : Nat) (s : State) : (State.hwyTake n s).hide W = s.hide W := by
  refine hide_mono _ _ hW ?_
  unfold State.hwyTake
  repeat' (first | with_reducible rfl | simp only [State.hwySlip_frame, State.setHwy_frame, Nat.reduceAnd, hide_ite, snd_ite, foldS_frame, whenS_frame, foldl_frame, ite_self, implies_true, mk_leaf, State.hideU, Ce.hide, Glb.hide, Flt.hide, Hif.hide, Sec.hide, Stp.hide, pick, Nat.reduceEqDiff, reduceIte] | with_reducible refine (foldS_frame _ _ _ (fun _ _ => ?_) _).trans ?_ | with_reducible refine (whenS_frame _ _ _ _ (fun _ => ?_)).trans ?_ | split)

theorem State.hwyApply_frame (W : Nat) (hW : 68719476736 &&& W = 68719476736) (n : Nat) (s : State) : (State.hwyApply n s).hide W = s.hide W := by
  refine hide_mono _ _ hW ?_
  unfold State.hwyApply
  repeat' (first | with_reducible rfl | simp only [State.setHwy_frame, Nat.reduceAnd, hide_ite, snd_ite, foldS_frame, whenS_frame, foldl_frame, ite_self, implies_true, mk_leaf, State.hideU, Ce.hide, Glb.hide, Flt.hide, Hif.hide, Sec.hide, Stp.hide, pick, Nat.reduceEqDiff, reduceIte] | with_reducible refine (foldS_frame _ _ _ (fun _ _ => ?_) _).trans ?_ | with_reducible refine (whenS_frame _ _ _ _ (fun _ => ?_)).trans ?_ | split)

theorem State.hwySyncFree_frame (W : Nat) (hW : 137443158048 &&& W = 137443158048) (g : Nat) (s : State) : (State.hwySyncFree g s).hide W = s.hide W := by
  refine hide_mono _ _ hW ?_
  unfold State.hwySyncFree
  repeat' (first | with_reducible rfl | simp only [State.setHwyGrp_frame, State.unclaim_frame, Nat.reduceAnd, hide_ite, snd_ite, foldS_frame, whenS_frame, foldl_frame, ite_self, implies_true, mk_leaf, State.hideU, Ce.hide, Glb.hide, Flt.hide, Hif.hide, Sec.hide, Stp.hide, pick, Nat.reduceEqDiff, reduceIte] | with_reducible refine (foldS_frame _ _ _ (fun _ _ => ?_) _).trans ?_ | with_reducible refine (whenS_frame _ _ _ _ (fun _ => ?_)).trans ?_ | split)

theorem State.hwySyncClaim_frame (W : Nat) (hW : 137443158048 &&& W = 137443158048) (g gp : Nat) (s : State) : (State.hwySyncClaim g gp s).hide W = s.hide W := by
  refine hide_mono _ _ hW ?_
  unfold State.hwySyncClaim
  repeat' (first | with_reducible rfl | simp only [State.claimAll_frame, State.setHwyGrp_frame, Nat.reduceAnd, hide_ite, snd_ite, foldS_frame, whenS_frame, foldl_frame, ite_self, implies_true, mk_leaf, State.hideU, Ce.hide, Glb.hide, Flt.hide, Hif.hide, Sec.hide, Stp.hide, pick, Nat.reduceEqDiff, reduceIte] | with_reducible refine (foldS_frame _ _ _ (fun _ _ => ?_) _).trans ?_ | with_reducible refine (whenS_frame _ _ _ _ (fun _ => ?_)).trans ?_ | split)

theorem State.hwyGroupWrite_frame (W : Nat) (hW : 137443158056 &&& W = 137443158056) (g : Nat) (v : Word) (s : State) : (State.hwyGroupWrite g v s).hide W = s.hide W := by
  refine hide_mono _ _ hW ?_
  unfold State.hwyGroupWrite
  repeat' (first | with_reducible rfl | simp only [State.hwySyncClaim_frame, State.hwySyncFree_frame, State.regWrite_frame, Nat.reduceAnd, hide_ite, snd_ite, foldS_frame, whenS_frame, foldl_frame, ite_self, implies_true, mk_leaf, State.hideU, Ce.hide, Glb.hide, Flt.hide, Hif.hide, Sec.hide, Stp.hide, pick, Nat.reduceEqDiff, reduceIte] | with_reducible refine (foldS_frame _ _ _ (fun _ _ => ?_) _).trans ?_ | with_reducible refine (whenS_frame _ _ _ _ (fun _ => ?_)).trans ?_ | split)

theorem State.hwyWrite_frame (W : Nat) (hW : 137443158056 &&& W = 137443158056) (r : HwyReg) (v : Word) (s : State) : (State.hwyWrite r v s).hide W = s.hide W := by
  refine hide_mono _ _ hW ?_
  unfold State.hwyWrite
  repeat' (first | with_reducible rfl | simp only [State.hwyGroupWrite_frame, State.regWrite_frame, Nat.reduceAnd, hide_ite, snd_ite, foldS_frame, whenS_frame, foldl_frame, ite_self, implies_true, mk_leaf, State.hideU, Ce.hide, Glb.hide, Flt.hide, Hif.hide, Sec.hide, Stp.hide, pick, Nat.reduceEqDiff, reduceIte] | with_reducible refine (foldS_frame _ _ _ (fun _ _ => ?_) _).trans ?_ | with_reducible refine (whenS_frame _ _ _ _ (fun _ => ?_)).trans ?_ | split)

theorem execRxTribFrame_frame (W : Nat) (hW : 1133888145408 &&& W = 1133888145408) (t : Fin 16384) (t1 : Bool) (s : State) : (after1 (execRxTribFrame t t1) s).hide W = s.hide W := by
  refine hide_mono _ _ hW ?_
  unfold after1 execRxTribFrame
  repeat' (first | with_reducible rfl | simp only [State.tribBits_frame, Nat.reduceAnd, hide_ite, snd_ite, foldS_frame, whenS_frame, foldl_frame, ite_self, implies_true, mk_leaf, State.hideU, Ce.hide, Glb.hide, Flt.hide, Hif.hide, Sec.hide, Stp.hide, pick, Nat.reduceEqDiff, reduceIte] | with_reducible refine (foldS_frame _ _ _ (fun _ _ => ?_) _).trans ?_ | with_reducible refine (whenS_frame _ _ _ _ (fun _ => ?_)).trans ?_ | split)

theorem execCrc4None_frame (W : Nat) (hW : 34376517632 &&& W = 34376517632) (t : Fin 16384) (s : State) : (after1 (execCrc4None t) s).hide W = s.hide W := by
  refine hide_mono _ _ hW ?_
  unfold after1 execCrc4None
  repeat' (first | with_reducible rfl | simp only [State.putTrib_frame, State.raiseU_frame, Nat.reduceAnd, hide_ite, snd_ite, foldS_frame, whenS_frame, foldl_frame, ite_self, implies_true, mk_leaf, State.hideU, Ce.hide, Glb.hide, Flt.hide, Hif.hide, Sec.hide, Stp.hide, pick, Nat.reduceEqDiff, reduceIte] | with_reducible refine (foldS_frame _ _ _ (fun _ _ => ?_) _).trans ?_ | with_reducible refine (whenS_frame _ _ _ _ (fun _ => ?_)).trans ?_ | split)

theorem execSigHoldoffExpiry_frame (W : Nat) (hW : 34376517632 &&& W = 34376517632) (t : Fin 16384) (s : State) : (after1 (execSigHoldoffExpiry t) s).hide W = s.hide W := by
  refine hide_mono _ _ hW ?_
  unfold after1 execSigHoldoffExpiry
  repeat' (first | with_reducible rfl | simp only [State.putTrib_frame, State.raiseU_frame, Nat.reduceAnd, hide_ite, snd_ite, foldS_frame, whenS_frame, foldl_frame, ite_self, implies_true, mk_leaf, State.hideU, Ce.hide, Glb.hide, Flt.hide, Hif.hide, Sec.hide, Stp.hide, pick, Nat.reduceEqDiff, reduceIte] | with_reducible refine (foldS_frame _ _ _ (fun _ _ => ?_) _).trans ?_ | with_reducible refine (whenS_frame _ _ _ _ (fun _ => ?_)).trans ?_ | split)

theorem execHwyCfgWrite_frame (W : Nat) (hW : 137443158056 &&& W = 137443158056) (r : HwyReg) (v : Word) (s : State) : (after1 (execHwyCfgWrite r v) s).hide W = s.hide W := by
  refine hide_mono _ _ hW ?_
  unfold after1 execHwyCfgWrite
  repeat' (first | with_reducible rfl | simp only [State.hwyWrite_frame, Nat.reduceAnd, hide_ite, snd_ite, foldS_frame, whenS_frame, foldl_frame, ite_self, implies_true, mk_leaf, State.hideU, Ce.hide, Glb.hide, Flt.hide, Hif.hide, Sec.hide, Stp.hide, pick, Nat.reduceEqDiff, reduceIte] | with_reducible refine (foldS_frame _ _ _ (fun _ _ => ?_) _).trans ?_ | with_reducible refine (whenS_frame _ _ _ _ (fun _ => ?_)).trans ?_ | split)

theorem execHwyFrameSync_frame (W : Nat) (hW : 68719478784 &&& W = 68719478784) (n : Fin 64) (rise fall : HwySeen) (s : State) : (after1 (execHwyFrameSync n rise fall) s).hide W = s.hide W := by
  refine hide_mono _ _ hW ?_
  unfold after1 execHwyFrameSync
  repeat' (first | with_reducible rfl | simp only [State.hwyGroupLoss_frame, State.hwyLoss_frame, State.hwySlave_frame, State.setHwy_frame, Nat.reduceAnd, hide_ite, snd_ite, foldS_frame, whenS_frame, foldl_frame, ite_self, implies_true, mk_leaf, State.hideU, Ce.hide, Glb.hide, Flt.hide, Hif.hide, Sec.hide, Stp.hide, pick, Nat.reduceEqDiff, reduceIte] | with_reducible refine (foldS_frame _ _ _ (fun _ _ => ?_) _).trans ?_ | with_reducible refine (whenS_frame _ _ _ _ (fun _ => ?_)).trans ?_ | split)

theorem execHwyFsLoss_frame (W : Nat) (hW : 68719478784 &&& W = 68719478784) (n : Fin 64) (s : State) : (after1 (execHwyFsLoss n) s).hide W = s.hide W := by
  refine hide_mono _ _ hW ?_
  unfold after1 execHwyFsLoss
  repeat' (first | with_reducible rfl | simp only [State.hwyGroupLoss_frame, Nat.reduceAnd, hide_ite, snd_ite, foldS_frame, whenS_frame, foldl_frame, ite_self, implies_true, mk_leaf, State.hideU, Ce.hide, Glb.hide, Flt.hide, Hif.hide, Sec.hide, Stp.hide, pick, Nat.reduceEqDiff, reduceIte] | with_reducible refine (foldS_frame _ _ _ (fun _ _ => ?_) _).trans ?_ | with_reducible refine (whenS_frame _ _ _ _ (fun _ => ?_)).trans ?_ | split)

theorem State.setTswPage_frame (W : Nat) (hW : 274877906944 &&& W = 274877906944) (b : Bool) (t : Tab Word) (s : State) : (State.setTswPage b t s).hide W = s.hide W := by
  refine hide_mono _ _ hW ?_
  unfold State.setTswPage
  repeat' (first | with_reducible rfl | simp only [Nat.reduceAnd, hide_ite, snd_ite, foldS_frame, whenS_frame, foldl_frame, ite_self, implies_true, mk_leaf, State.hideU, Ce.hide, Glb.hide, Flt.hide, Hif.hide, Sec.hide, Stp.hide, pick, Nat.reduceEqDiff, reduceIte] | with_reducible refine (foldS_frame _ _ _ (fun _ _ => ?_) _).trans ?_ | with_reducible refine (whenS_frame _ _ _ _ (fun _ => ?_)).trans ?_ | split)

theorem State.setTswPoison_frame (W : Nat) (hW : 274877906944 &&& W = 274877906944) (b : Bool) (k : Nat) (v : Bool) (s : State) : (State.setTswPoison b k v s).hide W = s.hide W := by
  refine hide_mono _ _ hW ?_
  unfold State.setTswPoison
  repeat' (first | with_reducible rfl | simp only [Nat.reduceAnd, hide_ite, snd_ite, foldS_frame, whenS_frame, foldl_frame, ite_self, implies_true, mk_leaf, State.hideU, Ce.hide, Glb.hide, Flt.hide, Hif.hide, Sec.hide, Stp.hide, pick, Nat.reduceEqDiff, reduceIte] | with_reducible refine (foldS_frame _ _ _ (fun _ _ => ?_) _).trans ?_ | with_reducible refine (whenS_frame _ _ _ _ (fun _ => ?_)).trans ?_ | split)

theorem State.tswPut_frame (W : Nat) (hW : 274877915168 &&& W = 274877915168) (b : Bool) (k : Nat) (e : Word) (s : State) : (State.tswPut b k e s).hide W = s.hide W := by
  refine hide_mono _ _ hW ?_
  unfold State.tswPut
  repeat' (first | with_reducible rfl | simp only [State.setTswPage_frame, State.setTswPoison_frame, State.wordWritten_frame, Nat.reduceAnd, hide_ite, snd_ite, foldS_frame, whenS_frame, foldl_frame, ite_self, implies_true, mk_leaf, State.hideU, Ce.hide, Glb.hide, Flt.hide, Hif.hide, Sec.hide, Stp.hide, pick, Nat.reduceEqDiff, reduceIte] | with_reducible refine (foldS_frame _ _ _ (fun _ _ => ?_) _).trans ?_ | with_reducible refine (whenS_frame _ _ _ _ (fun _ => ?_)).trans ?_ | split)

theorem State.tswRun_frame (W : Nat) (hW : 274877915168 &&& W = 274877915168) (o : TswRun) (s : State) : (State.tswRun o s).hide W = s.hide W := by
  refine hide_mono _ _ hW ?_
  unfold State.tswRun
  repeat' (first | with_reducible rfl | simp only [State.tswPut_frame, Nat.reduceAnd, hide_ite, snd_ite, foldS_frame, whenS_frame, foldl_frame, ite_self, implies_true, mk_leaf, State.hideU, Ce.hide, Glb.hide, Flt.hide, Hif.hide, Sec.hide, Stp.hide, pick, Nat.reduceEqDiff, reduceIte] | with_reducible refine (foldS_frame _ _ _ (fun _ _ => ?_) _).trans ?_ | with_reducible refine (whenS_frame _ _ _ _ (fun _ => ?_)).trans ?_ | split)

theorem State.tswCount_frame (W : Nat) (hW : 274877906944 &&& W = 274877906944) (chg pat : Nat) (s : State) : (State.tswCount chg pat s).hide W = s.hide W := by
  refine hide_mono _ _ hW ?_
  unfold State.tswCount
  repeat' (first | with_reducible rfl | simp only [Nat.reduceAnd, hide_ite, snd_ite, foldS_frame, whenS_frame, foldl_frame, ite_self, implies_true, mk_leaf, State.hideU, Ce.hide, Glb.hide, Flt.hide, Hif.hide, Sec.hide, Stp.hide, pick, Nat.reduceEqDiff, reduceIte] | with_reducible refine (foldS_frame _ _ _ (fun _ _ => ?_) _).trans ?_ | with_reducible refine (whenS_frame _ _ _ _ (fun _ => ?_)).trans ?_ | split)

theorem State.tswSet_frame (W : Nat) (hW : 274877915168 &&& W = 274877915168) (o : TswRun) (s : State) : (State.tswSet o s).hide W = s.hide W := by
  refine hide_mono _ _ hW ?_
  unfold State.tswSet
  repeat' (first | with_reducible rfl | simp only [State.tswCount_frame, State.tswRun_frame, Nat.reduceAnd, hide_ite, snd_ite, foldS_frame, whenS_frame, foldl_frame, ite_self, implies_true, mk_leaf, State.hideU, Ce.hide, Glb.hide, Flt.hide, Hif.hide, Sec.hide, Stp.hide, pick, Nat.reduceEqDiff, reduceIte] | with_reducible refine (foldS_frame _ _ _ (fun _ _ => ?_) _).trans ?_ | with_reducible refine (whenS_frame _ _ _ _ (fun _ => ?_)).trans ?_ | split)

theorem State.tswFill_frame (W : Nat) (hW : 274877915168 &&& W = 274877915168) (o : TswRun) (s : State) : (State.tswFill o s).hide W = s.hide W := by
  refine hide_mono _ _ hW ?_
  unfold State.tswFill
  repeat' (first | with_reducible rfl | simp only [State.tswCount_frame, State.tswRun_frame, Nat.reduceAnd, hide_ite, snd_ite, foldS_frame, whenS_frame, foldl_frame, ite_self, implies_true, mk_leaf, State.hideU, Ce.hide, Glb.hide, Flt.hide, Hif.hide, Sec.hide, Stp.hide, pick, Nat.reduceEqDiff, reduceIte] | with_reducible refine (foldS_frame _ _ _ (fun _ _ => ?_) _).trans ?_ | with_reducible refine (whenS_frame _ _ _ _ (fun _ => ?_)).trans ?_ | split)

theorem State.tswPatch_frame (W : Nat) (hW : 274877915168 &&& W = 274877915168) (o : TswRun) (s : State) : (State.tswPatch o s).hide W = s.hide W := by
  refine hide_mono _ _ hW ?_
  unfold State.tswPatch
  repeat' (first | with_reducible rfl | simp only [State.tswCount_frame, State.tswPut_frame, Nat.reduceAnd, hide_ite, snd_ite, foldS_frame, whenS_frame, foldl_frame, ite_self, implies_true, mk_leaf, State.hideU, Ce.hide, Glb.hide, Flt.hide, Hif.hide, Sec.hide, Stp.hide, pick, Nat.reduceEqDiff, reduceIte] | with_reducible refine (foldS_frame _ _ _ (fun _ _ => ?_) _).trans ?_ | with_reducible refine (whenS_frame _ _ _ _ (fun _ => ?_)).trans ?_ | split)

theorem State.tswSwap_frame (W : Nat) (hW : 274877906944 &&& W = 274877906944) (s : State) : (State.tswSwap s).hide W = s.hide W := by
  refine hide_mono _ _ hW ?_
  unfold State.tswSwap
  repeat' (first | with_reducible rfl | simp only [Nat.reduceAnd, hide_ite, snd_ite, foldS_frame, whenS_frame, foldl_frame, ite_self, implies_true, mk_leaf, State.hideU, Ce.hide, Glb.hide, Flt.hide, Hif.hide, Sec.hide, Stp.hide, pick, Nat.reduceEqDiff, reduceIte] | with_reducible refine (foldS_frame _ _ _ (fun _ _ => ?_) _).trans ?_ | with_reducible refine (whenS_frame _ _ _ _ (fun _ => ?_)).trans ?_ | split)

theorem State.tswOnce_frame (W : Nat) (hW : 274877908992 &&& W = 274877908992) (k : Kind) (src addr data : Nat) (s : State) : (State.tswOnce k src addr data s).hide W = s.hide W := by
  refine hide_mono _ _ hW ?_
  unfold State.tswOnce
  repeat' (first | with_reducible rfl | simp only [State.raise_frame, Nat.reduceAnd, hide_ite, snd_ite, foldS_frame, whenS_frame, foldl_frame, ite_self, implies_true, mk_leaf, State.hideU, Ce.hide, Glb.hide, Flt.hide, Hif.hide, Sec.hide, Stp.hide, pick, Nat.reduceEqDiff, reduceIte] | with_reducible refine (foldS_frame _ _ _ (fun _ _ => ?_) _).trans ?_ | with_reducible refine (whenS_frame _ _ _ _ (fun _ => ?_)).trans ?_ | split)

theorem State.cmRead_frame (W : Nat) (hW : 274877909024 &&& W = 274877909024) (b : Bool) (k : Nat) (s : State) : (State.cmRead b k s).hide W = s.hide W := by
  refine hide_mono _ _ hW ?_
  unfold State.cmRead
  repeat' (first | with_reducible rfl | simp only [State.clearUpset_frame, State.setTswPoison_frame, State.tswOnce_frame, Nat.reduceAnd, hide_ite, snd_ite, foldS_frame, whenS_frame, foldl_frame, ite_self, implies_true, mk_leaf, State.hideU, Ce.hide, Glb.hide, Flt.hide, Hif.hide, Sec.hide, Stp.hide, pick, Nat.reduceEqDiff, reduceIte] | with_reducible refine (foldS_frame _ _ _ (fun _ _ => ?_) _).trans ?_ | with_reducible refine (whenS_frame _ _ _ _ (fun _ => ?_)).trans ?_ | split)

theorem State.cmReadAll_frame (W : Nat) (hW : 274877909024 &&& W = 274877909024) (b : Bool) (p : Nat → Bool) (s : State) : (State.cmReadAll b p s).hide W = s.hide W := by
  refine hide_mono _ _ hW ?_
  unfold State.cmReadAll
  refine foldS_frame _ _ _ (fun u s => ?_) s
  split
  · split
    · exact State.cmRead_frame _ (by decide) _ _ s
    · rfl
  · rfl

theorem State.tswCopyDone_frame (W : Nat) (hW : 274877909024 &&& W = 274877909024) (s : State) : (State.tswCopyDone s).hide W = s.hide W := by
  refine hide_mono _ _ hW ?_
  unfold State.tswCopyDone
  repeat' (first | with_reducible rfl | simp only [State.clearUpsets_frame, State.cmReadAll_frame, State.setTswPage_frame, Nat.reduceAnd, hide_ite, snd_ite, foldS_frame, whenS_frame, foldl_frame, ite_self, implies_true, mk_leaf, State.hideU, Ce.hide, Glb.hide, Flt.hide, Hif.hide, Sec.hide, Stp.hide, pick, Nat.reduceEqDiff, reduceIte] | with_reducible refine (foldS_frame _ _ _ (fun _ _ => ?_) _).trans ?_ | with_reducible refine (whenS_frame _ _ _ _ (fun _ => ?_)).trans ?_ | split)

theorem State.tswCopyTick_frame (W : Nat) (hW : 274877909024 &&& W = 274877909024) (s : State) : (State.tswCopyTick s).hide W = s.hide W := by
  refine hide_mono _ _ hW ?_
  unfold State.tswCopyTick
  repeat' (first | with_reducible rfl | simp only [State.tswCopyDone_frame, Nat.reduceAnd, hide_ite, snd_ite, foldS_frame, whenS_frame, foldl_frame, ite_self, implies_true, mk_leaf, State.hideU, Ce.hide, Glb.hide, Flt.hide, Hif.hide, Sec.hide, Stp.hide, pick, Nat.reduceEqDiff, reduceIte] | with_reducible refine (foldS_frame _ _ _ (fun _ _ => ?_) _).trans ?_ | with_reducible refine (whenS_frame _ _ _ _ (fun _ => ?_)).trans ?_ | split)

theorem State.dmRead_frame (W : Nat) (hW : 274877909024 &&& W = 274877909024) (r : Fin 8) (half : Bool) (w : Nat) (s : State) : (State.dmRead r half w s).hide W = s.hide W := by
  refine hide_mono _ _ hW ?_
  unfold State.dmRead
  repeat' (first | with_reducible rfl | simp only [State.clearUpset_frame, State.tswOnce_frame, Nat.reduceAnd, hide_ite, snd_ite, foldS_frame, whenS_frame, foldl_frame, ite_self, implies_true, mk_leaf, State.hideU, Ce.hide, Glb.hide, Flt.hide, Hif.hide, Sec.hide, Stp.hide, pick, Nat.reduceEqDiff, reduceIte] | with_reducible refine (foldS_frame _ _ _ (fun _ _ => ?_) _).trans ?_ | with_reducible refine (whenS_frame _ _ _ _ (fun _ => ?_)).trans ?_ | split)

theorem State.tswTurn_frame (W : Nat) (hW : 274877906944 &&& W = 274877906944) (s : State) : (State.tswTurn s).hide W = s.hide W := by
  refine hide_mono _ _ hW ?_
  unfold State.tswTurn
  repeat' (first | with_reducible rfl | simp only [Nat.reduceAnd, hide_ite, snd_ite, foldS_frame, whenS_frame, foldl_frame, ite_self, implies_true, mk_leaf, State.hideU, Ce.hide, Glb.hide, Flt.hide, Hif.hide, Sec.hide, Stp.hide, pick, Nat.reduceEqDiff, reduceIte] | with_reducible refine (foldS_frame _ _ _ (fun _ _ => ?_) _).trans ?_ | with_reducible refine (whenS_frame _ _ _ _ (fun _ => ?_)).trans ?_ | split)

theorem State.dmReadAll_frame (W : Nat) (hW : 274877909024 &&& W = 274877909024) (s : State) : (State.dmReadAll s).hide W = s.hide W := by
  refine hide_mono _ _ hW ?_
  unfold State.dmReadAll
  refine foldS_frame _ _ _ (fun u s => ?_) s
  split
  · split
    · exact State.dmRead_frame _ (by decide) _ _ _ s
    · rfl
  · rfl

theorem State.readPass_frame (W : Nat) (hW : 274877909024 &&& W = 274877909024) (s : State) : (State.readPass s).hide W = s.hide W := by
  refine hide_mono _ _ hW ?_
  unfold State.readPass
  repeat' (first | with_reducible rfl | simp only [State.clearUpsets_frame, State.cmReadAll_frame, State.dmReadAll_frame, Nat.reduceAnd, hide_ite, snd_ite, foldS_frame, whenS_frame, foldl_frame, ite_self, implies_true, mk_leaf, State.hideU, Ce.hide, Glb.hide, Flt.hide, Hif.hide, Sec.hide, Stp.hide, pick, Nat.reduceEqDiff, reduceIte] | with_reducible refine (foldS_frame _ _ _ (fun _ _ => ?_) _).trans ?_ | with_reducible refine (whenS_frame _ _ _ _ (fun _ => ?_)).trans ?_ | split)

theorem State.wipeSlots_frame (W : Nat) (hW : 4 &&& W = 4) {α : Type} (r : Nat) (t : Tab α) (s : State) : (State.wipeSlots r t s).2.hide W = s.hide W := by
  refine hide_mono _ _ hW ?_
  unfold State.wipeSlots
  exact foldl_snd_frame _ _ _ (fun a e => by
    dsimp only
    split
    · exact State.takeFree_frame _ (by decide) 1 a.2
    · rfl) _

theorem State.wipeConf_frame (W : Nat) (hW : 274877906948 &&& W = 274877906948) (r : Nat) (s : State) : (State.wipeConf r s).2.hide W = s.hide W := by
  refine hide_mono _ _ hW ?_
  unfold State.wipeConf
  repeat' (first | with_reducible rfl | simp only [State.takeFree_frame, State.wipeSlots_frame, Nat.reduceAnd, hide_ite, snd_ite, foldS_frame, whenS_frame, foldl_frame, ite_self, implies_true, mk_leaf, State.hideU, Ce.hide, Glb.hide, Flt.hide, Hif.hide, Sec.hide, Stp.hide, pick, Nat.reduceEqDiff, reduceIte] | with_reducible refine (foldS_frame _ _ _ (fun _ _ => ?_) _).trans ?_ | with_reducible refine (whenS_frame _ _ _ _ (fun _ => ?_)).trans ?_ | split)

theorem State.wipeRest_frame (W : Nat) (hW : 274877906948 &&& W = 274877906948) (r : Nat) (begun : Bool) (s : State) : (State.wipeRest r begun s).hide W = s.hide W := by
  refine hide_mono _ _ hW ?_
  unfold State.wipeRest
  repeat' (first | with_reducible rfl | simp only [State.wipeSlots_frame, Nat.reduceAnd, hide_ite, snd_ite, foldS_frame, whenS_frame, foldl_frame, ite_self, implies_true, mk_leaf, State.hideU, Ce.hide, Glb.hide, Flt.hide, Hif.hide, Sec.hide, Stp.hide, pick, Nat.reduceEqDiff, reduceIte] | with_reducible refine (foldS_frame _ _ _ (fun _ _ => ?_) _).trans ?_ | with_reducible refine (whenS_frame _ _ _ _ (fun _ => ?_)).trans ?_ | split)

theorem State.replicaReset_frame (W : Nat) (hW : 274877906980 &&& W = 274877906980) (r : Nat) (s : State) : (State.replicaReset r s).hide W = s.hide W := by
  refine hide_mono _ _ hW ?_
  unfold State.replicaReset
  repeat' (first | with_reducible rfl | simp only [State.clearUpsets_frame, State.wipeConf_frame, State.wipeRest_frame, Nat.reduceAnd, hide_ite, snd_ite, foldS_frame, whenS_frame, foldl_frame, ite_self, implies_true, mk_leaf, State.hideU, Ce.hide, Glb.hide, Flt.hide, Hif.hide, Sec.hide, Stp.hide, pick, Nat.reduceEqDiff, reduceIte] | with_reducible refine (foldS_frame _ _ _ (fun _ _ => ?_) _).trans ?_ | with_reducible refine (whenS_frame _ _ _ _ (fun _ => ?_)).trans ?_ | split)

theorem State.lateOf_frame (W : Nat) (hW : 4 &&& W = 4) (l : List Nat) (s : State) : (State.lateOf l s).2.hide W = s.hide W := by
  refine hide_mono _ _ hW ?_
  unfold State.lateOf
  refine foldl_snd_frame _ _ _ (fun a k => ?_) _
  exact State.takeFree_frame _ (by decide) 1 a.2

theorem State.lateSlots_frame (W : Nat) (hW : 4 &&& W = 4) (r w : Nat) (s : State) : (State.lateSlots r w s).2.hide W = s.hide W := by
  refine hide_mono _ _ hW ?_
  unfold State.lateSlots
  repeat' (first | with_reducible rfl | simp only [State.lateOf_frame, Nat.reduceAnd, hide_ite, snd_ite, foldS_frame, whenS_frame, foldl_frame, ite_self, implies_true, mk_leaf, State.hideU, Ce.hide, Glb.hide, Flt.hide, Hif.hide, Sec.hide, Stp.hide, pick, Nat.reduceEqDiff, reduceIte] | with_reducible refine (foldS_frame _ _ _ (fun _ _ => ?_) _).trans ?_ | with_reducible refine (whenS_frame _ _ _ _ (fun _ => ?_)).trans ?_ | split)

theorem State.lateFind_frame (W : Nat) (hW : 274877909024 &&& W = 274877909024) (r : Fin 8) (half : Bool) (w : Nat) (double : Bool) (hit : List Nat) (s : State) : (State.lateFind r half w double hit s).hide W = s.hide W := by
  refine hide_mono _ _ hW ?_
  unfold State.lateFind
  repeat' (first | with_reducible rfl | simp only [State.dmRead_frame, Nat.reduceAnd, hide_ite, snd_ite, foldS_frame, whenS_frame, foldl_frame, ite_self, implies_true, mk_leaf, State.hideU, Ce.hide, Glb.hide, Flt.hide, Hif.hide, Sec.hide, Stp.hide, pick, Nat.reduceEqDiff, reduceIte] | with_reducible refine (foldS_frame _ _ _ (fun _ _ => ?_) _).trans ?_ | with_reducible refine (whenS_frame _ _ _ _ (fun _ => ?_)).trans ?_ | split)

theorem State.lateErrors_frame (W : Nat) (hW : 274877909028 &&& W = 274877909028) (l : List Upset) (s : State) : (State.lateErrors l s).hide W = s.hide W := by
  refine hide_mono _ _ hW ?_
  unfold State.lateErrors
  repeat' (first | with_reducible rfl | simp only [State.lateFind_frame, State.lateSlots_frame, Nat.reduceAnd, hide_ite, snd_ite, foldS_frame, whenS_frame, foldl_frame, ite_self, implies_true, mk_leaf, State.hideU, Ce.hide, Glb.hide, Flt.hide, Hif.hide, Sec.hide, Stp.hide, pick, Nat.reduceEqDiff, reduceIte] | with_reducible refine (foldS_frame _ _ _ (fun _ _ => ?_) _).trans ?_ | with_reducible refine (whenS_frame _ _ _ _ (fun _ => ?_)).trans ?_ | split)

theorem State.tswReadRec_frame (W : Nat) (hW : 274877909024 &&& W = 274877909024) (o : TswReadOp) (s : State) : (State.tswReadRec o s).2.hide W = s.hide W := by
  refine hide_mono _ _ hW ?_
  unfold State.tswReadRec
  repeat' (first | with_reducible rfl | simp only [State.cmRead_frame, Nat.reduceAnd, hide_ite, snd_ite, foldS_frame, whenS_frame, foldl_frame, ite_self, implies_true, mk_leaf, State.hideU, Ce.hide, Glb.hide, Flt.hide, Hif.hide, Sec.hide, Stp.hide, pick, Nat.reduceEqDiff, reduceIte] | with_reducible refine (foldS_frame _ _ _ (fun _ _ => ?_) _).trans ?_ | with_reducible refine (whenS_frame _ _ _ _ (fun _ => ?_)).trans ?_ | split)


end Sys2Proof.Machine
end

