-- ==== Sys2Proof/Laws/FrameUnits.lean ====
section
/-! SUPPORT. Frames of conferences, protection, streams, GFP and DCC.
Each lemma says which parts its operation can change: those of the mask in its hypothesis. -/

namespace Sys2Proof.Machine

set_option linter.unusedSimpArgs false
set_option linter.unreachableTactic false
set_option linter.unusedTactic false
set_option linter.unusedVariables false

theorem State.setCnfParts_frame (W : Nat) (hW : 549755813888 &&& W = 549755813888) (b : Bool) (t : Tab PEntry) (s : State) : (State.setCnfParts b t s).hide W = s.hide W := by
  refine hide_mono _ _ hW ?_
  unfold State.setCnfParts
  repeat' (first | with_reducible rfl | simp only [Nat.reduceAnd, hide_ite, snd_ite, foldS_frame, whenS_frame, foldl_frame, ite_self, implies_true, mk_leaf, State.hideU, Ce.hide, Glb.hide, Flt.hide, Hif.hide, Sec.hide, Stp.hide, pick, Nat.reduceEqDiff, reduceIte] | with_reducible refine (foldS_frame _ _ _ (fun _ _ => ?_) _).trans ?_ | with_reducible refine (whenS_frame _ _ _ _ (fun _ => ?_)).trans ?_ | split)

theorem State.setCnfConfs_frame (W : Nat) (hW : 549755813888 &&& W = 549755813888) (b : Bool) (t : Tab CEntry) (s : State) : (State.setCnfConfs b t s).hide W = s.hide W := by
  refine hide_mono _ _ hW ?_
  unfold State.setCnfConfs
  repeat' (first | with_reducible rfl | simp only [Nat.reduceAnd, hide_ite, snd_ite, foldS_frame, whenS_frame, foldl_frame, ite_self, implies_true, mk_leaf, State.hideU, Ce.hide, Glb.hide, Flt.hide, Hif.hide, Sec.hide, Stp.hide, pick, Nat.reduceEqDiff, reduceIte] | with_reducible refine (foldS_frame _ _ _ (fun _ _ => ?_) _).trans ?_ | with_reducible refine (whenS_frame _ _ _ _ (fun _ => ?_)).trans ?_ | split)

theorem State.setCnfPoisP_frame (W : Nat) (hW : 549755813888 &&& W = 549755813888) (b : Bool) (t : Tab Bool) (s : State) : (State.setCnfPoisP b t s).hide W = s.hide W := by
  refine hide_mono _ _ hW ?_
  unfold State.setCnfPoisP
  repeat' (first | with_reducible rfl | simp only [Nat.reduceAnd, hide_ite, snd_ite, foldS_frame, whenS_frame, foldl_frame, ite_self, implies_true, mk_leaf, State.hideU, Ce.hide, Glb.hide, Flt.hide, Hif.hide, Sec.hide, Stp.hide, pick, Nat.reduceEqDiff, reduceIte] | with_reducible refine (foldS_frame _ _ _ (fun _ _ => ?_) _).trans ?_ | with_reducible refine (whenS_frame _ _ _ _ (fun _ => ?_)).trans ?_ | split)

theorem State.setCnfPoisC_frame (W : Nat) (hW : 549755813888 &&& W = 549755813888) (b : Bool) (t : Tab Bool) (s : State) : (State.setCnfPoisC b t s).hide W = s.hide W := by
  refine hide_mono _ _ hW ?_
  unfold State.setCnfPoisC
  repeat' (first | with_reducible rfl | simp only [Nat.reduceAnd, hide_ite, snd_ite, foldS_frame, whenS_frame, foldl_frame, ite_self, implies_true, mk_leaf, State.hideU, Ce.hide, Glb.hide, Flt.hide, Hif.hide, Sec.hide, Stp.hide, pick, Nat.reduceEqDiff, reduceIte] | with_reducible refine (foldS_frame _ _ _ (fun _ _ => ?_) _).trans ?_ | with_reducible refine (whenS_frame _ _ _ _ (fun _ => ?_)).trans ?_ | split)

theorem State.putPart_frame (W : Nat) (hW : 549755822112 &&& W = 549755822112) (b : Bool) (p : Nat) (e : PEntry) (s : State) : (State.putPart b p e s).hide W = s.hide W := by
  refine hide_mono _ _ hW ?_
  unfold State.putPart
  repeat' (first | with_reducible rfl | simp only [State.setCnfParts_frame, State.setCnfPoisP_frame, State.wordWritten_frame, Nat.reduceAnd, hide_ite, snd_ite, foldS_frame, whenS_frame, foldl_frame, ite_self, implies_true, mk_leaf, State.hideU, Ce.hide, Glb.hide, Flt.hide, Hif.hide, Sec.hide, Stp.hide, pick, Nat.reduceEqDiff, reduceIte] | with_reducible refine (foldS_frame _ _ _ (fun _ _ => ?_) _).trans ?_ | with_reducible refine (whenS_frame _ _ _ _ (fun _ => ?_)).trans ?_ | split)

theorem State.putConf_frame (W : Nat) (hW : 549755822112 &&& W = 549755822112) (b : Bool) (c : Nat) (e : CEntry) (s : State) : (State.putConf b c e s).hide W = s.hide W := by
  refine hide_mono _ _ hW ?_
  unfold State.putConf
  repeat' (first | with_reducible rfl | simp only [State.setCnfConfs_frame, State.setCnfPoisC_frame, State.wordWritten_frame, Nat.reduceAnd, hide_ite, snd_ite, foldS_frame, whenS_frame, foldl_frame, ite_self, implies_true, mk_leaf, State.hideU, Ce.hide, Glb.hide, Flt.hide, Hif.hide, Sec.hide, Stp.hide, pick, Nat.reduceEqDiff, reduceIte] | with_reducible refine (foldS_frame _ _ _ (fun _ _ => ?_) _).trans ?_ | with_reducible refine (whenS_frame _ _ _ _ (fun _ => ?_)).trans ?_ | split)

theorem State.standbyPart_frame (W : Nat) (hW : 549755822112 &&& W = 549755822112) (p : Nat) (e : PEntry) (s : State) : (State.standbyPart p e s).hide W = s.hide W := by
  refine hide_mono _ _ hW ?_
  unfold State.standbyPart
  repeat' (first | with_reducible rfl | simp only [State.putPart_frame, Nat.reduceAnd, hide_ite, snd_ite, foldS_frame, whenS_frame, foldl_frame, ite_self, implies_true, mk_leaf, State.hideU, Ce.hide, Glb.hide, Flt.hide, Hif.hide, Sec.hide, Stp.hide, pick, Nat.reduceEqDiff, reduceIte] | with_reducible refine (foldS_frame _ _ _ (fun _ _ => ?_) _).trans ?_ | with_reducible refine (whenS_frame _ _ _ _ (fun _ => ?_)).trans ?_ | split)

theorem State.standbyConf_frame (W : Nat) (hW : 549755822112 &&& W = 549755822112) (c : Nat) (e : CEntry) (s : State) : (State.standbyConf c e s).hide W = s.hide W := by
  refine hide_mono _ _ hW ?_
  unfold State.standbyConf
  repeat' (first | with_reducible rfl | simp only [State.putConf_frame, Nat.reduceAnd, hide_ite, snd_ite, foldS_frame, whenS_frame, foldl_frame, ite_self, implies_true, mk_leaf, State.hideU, Ce.hide, Glb.hide, Flt.hide, Hif.hide, Sec.hide, Stp.hide, pick, Nat.reduceEqDiff, reduceIte] | with_reducible refine (foldS_frame _ _ _ (fun _ _ => ?_) _).trans ?_ | with_reducible refine (whenS_frame _ _ _ _ (fun _ => ?_)).trans ?_ | split)

theorem State.cnfCreate_frame (W : Nat) (hW : 549755822112 &&& W = 549755822112) (c : Nat) (o : ConfSet) (s : State) : (State.cnfCreate c o s).hide W = s.hide W := by
  refine hide_mono _ _ hW ?_
  unfold State.cnfCreate
  repeat' (first | with_reducible rfl | simp only [State.standbyConf_frame, Nat.reduceAnd, hide_ite, snd_ite, foldS_frame, whenS_frame, foldl_frame, ite_self, implies_true, mk_leaf, State.hideU, Ce.hide, Glb.hide, Flt.hide, Hif.hide, Sec.hide, Stp.hide, pick, Nat.reduceEqDiff, reduceIte] | with_reducible refine (foldS_frame _ _ _ (fun _ _ => ?_) _).trans ?_ | with_reducible refine (whenS_frame _ _ _ _ (fun _ => ?_)).trans ?_ | split)

theorem State.cnfJoin_frame (W : Nat) (hW : 549755822112 &&& W = 549755822112) (p : Nat) (o : PartSet) (s : State) : (State.cnfJoin p o s).hide W = s.hide W := by
  refine hide_mono _ _ hW ?_
  unfold State.cnfJoin
  repeat' (first | with_reducible rfl | simp only [State.standbyPart_frame, Nat.reduceAnd, hide_ite, snd_ite, foldS_frame, whenS_frame, foldl_frame, ite_self, implies_true, mk_leaf, State.hideU, Ce.hide, Glb.hide, Flt.hide, Hif.hide, Sec.hide, Stp.hide, pick, Nat.reduceEqDiff, reduceIte] | with_reducible refine (foldS_frame _ _ _ (fun _ _ => ?_) _).trans ?_ | with_reducible refine (whenS_frame _ _ _ _ (fun _ => ?_)).trans ?_ | split)

theorem State.cnfLeave_frame (W : Nat) (hW : 549755822112 &&& W = 549755822112) (p : Nat) (s : State) : (State.cnfLeave p s).hide W = s.hide W := by
  refine hide_mono _ _ hW ?_
  unfold State.cnfLeave
  repeat' (first | with_reducible rfl | simp only [State.standbyPart_frame, Nat.reduceAnd, hide_ite, snd_ite, foldS_frame, whenS_frame, foldl_frame, ite_self, implies_true, mk_leaf, State.hideU, Ce.hide, Glb.hide, Flt.hide, Hif.hide, Sec.hide, Stp.hide, pick, Nat.reduceEqDiff, reduceIte] | with_reducible refine (foldS_frame _ _ _ (fun _ _ => ?_) _).trans ?_ | with_reducible refine (whenS_frame _ _ _ _ (fun _ => ?_)).trans ?_ | split)

theorem State.cnfDestroy_frame (W : Nat) (hW : 549755822112 &&& W = 549755822112) (c : Nat) (s : State) : (State.cnfDestroy c s).2.hide W = s.hide W := by
  refine hide_mono _ _ hW ?_
  unfold State.cnfDestroy
  repeat' (first | with_reducible rfl | simp only [State.standbyConf_frame, State.standbyPart_frame, Nat.reduceAnd, hide_ite, snd_ite, foldS_frame, whenS_frame, foldl_frame, ite_self, implies_true, mk_leaf, State.hideU, Ce.hide, Glb.hide, Flt.hide, Hif.hide, Sec.hide, Stp.hide, pick, Nat.reduceEqDiff, reduceIte] | with_reducible refine (foldS_frame _ _ _ (fun _ _ => ?_) _).trans ?_ | with_reducible refine (whenS_frame _ _ _ _ (fun _ => ?_)).trans ?_ | split)

theorem State.cnfModify_frame (W : Nat) (hW : 549755822112 &&& W = 549755822112) (o : CnfMod) (s : State) : (State.cnfModify o s).2.hide W = s.hide W := by
  refine hide_mono _ _ hW ?_
  unfold State.cnfModify
  repeat' (first | with_reducible rfl | simp only [State.putPart_frame, State.standbyConf_frame, State.standbyPart_frame, Nat.reduceAnd, hide_ite, snd_ite, foldS_frame, whenS_frame, foldl_frame, ite_self, implies_true, mk_leaf, State.hideU, Ce.hide, Glb.hide, Flt.hide, Hif.hide, Sec.hide, Stp.hide, pick, Nat.reduceEqDiff, reduceIte] | with_reducible refine (foldS_frame _ _ _ (fun _ _ => ?_) _).trans ?_ | with_reducible refine (whenS_frame _ _ _ _ (fun _ => ?_)).trans ?_ | split)

theorem State.cnfOnce_frame (W : Nat) (hW : 549755815936 &&& W = 549755815936) (k : Kind) (src addr data : Nat) (s : State) : (State.cnfOnce k src addr data s).hide W = s.hide W := by
  refine hide_mono _ _ hW ?_
  unfold State.cnfOnce
  repeat' (first | with_reducible rfl | simp only [State.raise_frame, Nat.reduceAnd, hide_ite, snd_ite, foldS_frame, whenS_frame, foldl_frame, ite_self, implies_true, mk_leaf, State.hideU, Ce.hide, Glb.hide, Flt.hide, Hif.hide, Sec.hide, Stp.hide, pick, Nat.reduceEqDiff, reduceIte] | with_reducible refine (foldS_frame _ _ _ (fun _ _ => ?_) _).trans ?_ | with_reducible refine (whenS_frame _ _ _ _ (fun _ => ?_)).trans ?_ | split)

theorem State.cnfEcc_frame (W : Nat) (hW : 549755813888 &&& W = 549755813888) (double : Bool) (unit addr : Nat) (s : State) : (State.cnfEcc double unit addr s).hide W = s.hide W := by
  refine hide_mono _ _ hW ?_
  unfold State.cnfEcc
  repeat' (first | with_reducible rfl | simp only [Nat.reduceAnd, hide_ite, snd_ite, foldS_frame, whenS_frame, foldl_frame, ite_self, implies_true, mk_leaf, State.hideU, Ce.hide, Glb.hide, Flt.hide, Hif.hide, Sec.hide, Stp.hide, pick, Nat.reduceEqDiff, reduceIte] | with_reducible refine (foldS_frame _ _ _ (fun _ _ => ?_) _).trans ?_ | with_reducible refine (whenS_frame _ _ _ _ (fun _ => ?_)).trans ?_ | split)

theorem State.rsRead_frame (W : Nat) (hW : 549755815968 &&& W = 549755815968) (isConf b : Bool) (i : Nat) (s : State) : (State.rsRead isConf b i s).hide W = s.hide W := by
  refine hide_mono _ _ hW ?_
  unfold State.rsRead
  repeat' (first | with_reducible rfl | simp only [State.clearUpset_frame, State.cnfEcc_frame, State.cnfOnce_frame, State.setCnfPoisC_frame, State.setCnfPoisP_frame, Nat.reduceAnd, hide_ite, snd_ite, foldS_frame, whenS_frame, foldl_frame, ite_self, implies_true, mk_leaf, State.hideU, Ce.hide, Glb.hide, Flt.hide, Hif.hide, Sec.hide, Stp.hide, pick, Nat.reduceEqDiff, reduceIte] | with_reducible refine (foldS_frame _ _ _ (fun _ _ => ?_) _).trans ?_ | with_reducible refine (whenS_frame _ _ _ _ (fun _ => ?_)).trans ?_ | split)

theorem State.rsReadAll_frame (W : Nat) (hW : 549755815968 &&& W = 549755815968) (isConf b : Bool) (s : State) : (State.rsReadAll isConf b s).hide W = s.hide W := by
  refine hide_mono _ _ hW ?_
  unfold State.rsReadAll
  refine foldS_frame _ _ _ (fun u s => ?_) s
  split
  · split
    · exact State.rsRead_frame _ (by decide) _ _ _ s
    · rfl
  · split
    · exact State.rsRead_frame _ (by decide) _ _ _ s
    · rfl
  · rfl

theorem State.cnfCopyDone_frame (W : Nat) (hW : 549755815968 &&& W = 549755815968) (s : State) : (State.cnfCopyDone s).hide W = s.hide W := by
  refine hide_mono _ _ hW ?_
  unfold State.cnfCopyDone
  repeat' (first | with_reducible rfl | simp only [State.rsReadAll_frame, State.setCnfConfs_frame, State.setCnfParts_frame, State.setCnfPoisC_frame, State.setCnfPoisP_frame, Nat.reduceAnd, hide_ite, snd_ite, foldS_frame, whenS_frame, foldl_frame, ite_self, implies_true, mk_leaf, State.hideU, Ce.hide, Glb.hide, Flt.hide, Hif.hide, Sec.hide, Stp.hide, pick, Nat.reduceEqDiff, reduceIte] | with_reducible refine (foldS_frame _ _ _ (fun _ _ => ?_) _).trans ?_ | with_reducible refine (whenS_frame _ _ _ _ (fun _ => ?_)).trans ?_ | split)

theorem State.cnfCopyTick_frame (W : Nat) (hW : 549755815968 &&& W = 549755815968) (s : State) : (State.cnfCopyTick s).hide W = s.hide W := by
  refine hide_mono _ _ hW ?_
  unfold State.cnfCopyTick
  repeat' (first | with_reducible rfl | simp only [State.cnfCopyDone_frame, Nat.reduceAnd, hide_ite, snd_ite, foldS_frame, whenS_frame, foldl_frame, ite_self, implies_true, mk_leaf, State.hideU, Ce.hide, Glb.hide, Flt.hide, Hif.hide, Sec.hide, Stp.hide, pick, Nat.reduceEqDiff, reduceIte] | with_reducible refine (foldS_frame _ _ _ (fun _ _ => ?_) _).trans ?_ | with_reducible refine (whenS_frame _ _ _ _ (fun _ => ?_)).trans ?_ | split)

theorem State.cnfSwap_frame (W : Nat) (hW : 549755813888 &&& W = 549755813888) (s : State) : (State.cnfSwap s).hide W = s.hide W := by
  refine hide_mono _ _ hW ?_
  unfold State.cnfSwap
  repeat' (first | with_reducible rfl | simp only [Nat.reduceAnd, hide_ite, snd_ite, foldS_frame, whenS_frame, foldl_frame, ite_self, implies_true, mk_leaf, State.hideU, Ce.hide, Glb.hide, Flt.hide, Hif.hide, Sec.hide, Stp.hide, pick, Nat.reduceEqDiff, reduceIte] | with_reducible refine (foldS_frame _ _ _ (fun _ _ => ?_) _).trans ?_ | with_reducible refine (whenS_frame _ _ _ _ (fun _ => ?_)).trans ?_ | split)

theorem State.setLaneSt_frame (W : Nat) (hW : 549755813888 &&& W = 549755813888) (p : Nat) (x : LaneSt) (s : State) : (State.setLaneSt p x s).hide W = s.hide W := by
  refine hide_mono _ _ hW ?_
  unfold State.setLaneSt
  repeat' (first | with_reducible rfl | simp only [Nat.reduceAnd, hide_ite, snd_ite, foldS_frame, whenS_frame, foldl_frame, ite_self, implies_true, mk_leaf, State.hideU, Ce.hide, Glb.hide, Flt.hide, Hif.hide, Sec.hide, Stp.hide, pick, Nat.reduceEqDiff, reduceIte] | with_reducible refine (foldS_frame _ _ _ (fun _ _ => ?_) _).trans ?_ | with_reducible refine (whenS_frame _ _ _ _ (fun _ => ?_)).trans ?_ | split)

theorem State.setSpk_frame (W : Nat) (hW : 549755813888 &&& W = 549755813888) (c : Nat) (x : Spk) (s : State) : (State.setSpk c x s).hide W = s.hide W := by
  refine hide_mono _ _ hW ?_
  unfold State.setSpk
  repeat' (first | with_reducible rfl | simp only [Nat.reduceAnd, hide_ite, snd_ite, foldS_frame, whenS_frame, foldl_frame, ite_self, implies_true, mk_leaf, State.hideU, Ce.hide, Glb.hide, Flt.hide, Hif.hide, Sec.hide, Stp.hide, pick, Nat.reduceEqDiff, reduceIte] | with_reducible refine (foldS_frame _ _ _ (fun _ _ => ?_) _).trans ?_ | with_reducible refine (whenS_frame _ _ _ _ (fun _ => ?_)).trans ?_ | split)

theorem State.cnfChanges_frame (W : Nat) (hW : 549755813888 &&& W = 549755813888) (o s : State) : (State.cnfChanges o s).hide W = s.hide W := by
  refine hide_mono _ _ hW ?_
  unfold State.cnfChanges
  repeat' (first | with_reducible rfl | simp only [State.setLaneSt_frame, State.setSpk_frame, Nat.reduceAnd, hide_ite, snd_ite, foldS_frame, whenS_frame, foldl_frame, ite_self, implies_true, mk_leaf, State.hideU, Ce.hide, Glb.hide, Flt.hide, Hif.hide, Sec.hide, Stp.hide, pick, Nat.reduceEqDiff, reduceIte] | with_reducible refine (foldS_frame _ _ _ (fun _ _ => ?_) _).trans ?_ | with_reducible refine (whenS_frame _ _ _ _ (fun _ => ?_)).trans ?_ | split)

theorem State.laneErrors_frame (W : Nat) (hW : 549755815968 &&& W = 549755815968) (s : State) : (State.laneErrors s).2.hide W = s.hide W := by
  refine hide_mono _ _ hW ?_
  unfold State.laneErrors
  refine foldl_snd_frame _ _ _ (fun a u => ?_) _
  split
  · split
    · rfl
    · dsimp only
      split
      · exact (State.setLaneSt_frame _ (by decide) _ _ _).trans ((State.cnfOnce_frame _ (by decide) _ _ _ _ _).trans ((State.cnfEcc_frame _ (by decide) _ _ _ _).trans (State.clearUpset_frame _ (by decide) _ _)))
      · exact (State.cnfOnce_frame _ (by decide) _ _ _ _ _).trans ((State.cnfEcc_frame _ (by decide) _ _ _ _).trans (State.clearUpset_frame _ (by decide) _ _))
  · rfl

theorem State.lanePart_frame (W : Nat) (hW : 549755813888 &&& W = 549755813888) (struck : List Nat) (p : Nat) (s : State) : (State.lanePart struck p s).hide W = s.hide W := by
  refine hide_mono _ _ hW ?_
  unfold State.lanePart
  repeat' (first | with_reducible rfl | simp only [State.setLaneSt_frame, Nat.reduceAnd, hide_ite, snd_ite, foldS_frame, whenS_frame, foldl_frame, ite_self, implies_true, mk_leaf, State.hideU, Ce.hide, Glb.hide, Flt.hide, Hif.hide, Sec.hide, Stp.hide, pick, Nat.reduceEqDiff, reduceIte] | with_reducible refine (foldS_frame _ _ _ (fun _ _ => ?_) _).trans ?_ | with_reducible refine (whenS_frame _ _ _ _ (fun _ => ?_)).trans ?_ | split)

theorem State.lanePass_frame (W : Nat) (hW : 549755815968 &&& W = 549755815968) (s : State) : (State.lanePass s).hide W = s.hide W := by
  refine hide_mono _ _ hW ?_
  unfold State.lanePass
  repeat' (first | with_reducible rfl | simp only [State.laneErrors_frame, State.lanePart_frame, State.rsReadAll_frame, Nat.reduceAnd, hide_ite, snd_ite, foldS_frame, whenS_frame, foldl_frame, ite_self, implies_true, mk_leaf, State.hideU, Ce.hide, Glb.hide, Flt.hide, Hif.hide, Sec.hide, Stp.hide, pick, Nat.reduceEqDiff, reduceIte] | with_reducible refine (foldS_frame _ _ _ (fun _ _ => ?_) _).trans ?_ | with_reducible refine (whenS_frame _ _ _ _ (fun _ => ?_)).trans ?_ | split)

theorem State.decideConf_frame (W : Nat) (hW : 549755813888 &&& W = 549755813888) (c : Nat) (s : State) : (State.decideConf c s).hide W = s.hide W := by
  refine hide_mono _ _ hW ?_
  unfold State.decideConf
  repeat' (first | with_reducible rfl | simp only [State.setLaneSt_frame, State.setSpk_frame, Nat.reduceAnd, hide_ite, snd_ite, foldS_frame, whenS_frame, foldl_frame, ite_self, implies_true, mk_leaf, State.hideU, Ce.hide, Glb.hide, Flt.hide, Hif.hide, Sec.hide, Stp.hide, pick, Nat.reduceEqDiff, reduceIte] | with_reducible refine (foldS_frame _ _ _ (fun _ _ => ?_) _).trans ?_ | with_reducible refine (whenS_frame _ _ _ _ (fun _ => ?_)).trans ?_ | split)

theorem State.putInput_frame (W : Nat) (hW : 274877906944 &&& W = 274877906944) (k : Nat) (b : Byte) (s : State) : (State.putInput k b s).hide W = s.hide W := by
  refine hide_mono _ _ hW ?_
  unfold State.putInput
  repeat' (first | with_reducible rfl | simp only [Nat.reduceAnd, hide_ite, snd_ite, foldS_frame, whenS_frame, foldl_frame, ite_self, implies_true, mk_leaf, State.hideU, Ce.hide, Glb.hide, Flt.hide, Hif.hide, Sec.hide, Stp.hide, pick, Nat.reduceEqDiff, reduceIte] | with_reducible refine (foldS_frame _ _ _ (fun _ _ => ?_) _).trans ?_ | with_reducible refine (whenS_frame _ _ _ _ (fun _ => ?_)).trans ?_ | split)

theorem State.colErrors_frame (W : Nat) (hW : 549755815968 &&& W = 549755815968) (s : State) : (State.colErrors s).2.hide W = s.hide W := by
  refine hide_mono _ _ hW ?_
  unfold State.colErrors
  refine foldl_snd_frame _ _ _ (fun a u => ?_) _
  split
  · split
    · rfl
    · dsimp only
      split <;> exact (State.cnfOnce_frame _ (by decide) _ _ _ _ _).trans ((State.cnfEcc_frame _ (by decide) _ _ _ _).trans (State.clearUpset_frame _ (by decide) _ _))
  · rfl

theorem State.collectConf_frame (W : Nat) (hW : 824633720832 &&& W = 824633720832) (muted : List Nat) (c : Nat) (s : State) : (State.collectConf muted c s).hide W = s.hide W := by
  refine hide_mono _ _ hW ?_
  unfold State.collectConf
  repeat' (first | with_reducible rfl | simp only [State.decideConf_frame, State.putInput_frame, Nat.reduceAnd, hide_ite, snd_ite, foldS_frame, whenS_frame, foldl_frame, ite_self, implies_true, mk_leaf, State.hideU, Ce.hide, Glb.hide, Flt.hide, Hif.hide, Sec.hide, Stp.hide, pick, Nat.reduceEqDiff, reduceIte] | with_reducible refine (foldS_frame _ _ _ (fun _ _ => ?_) _).trans ?_ | with_reducible refine (whenS_frame _ _ _ _ (fun _ => ?_)).trans ?_ | split)

theorem State.collect_frame (W : Nat) (hW : 824633722912 &&& W = 824633722912) (s : State) : (State.collect s).hide W = s.hide W := by
  refine hide_mono _ _ hW ?_
  unfold State.collect
  repeat' (first | with_reducible rfl | simp only [State.colErrors_frame, State.collectConf_frame, State.rsReadAll_frame, Nat.reduceAnd, hide_ite, snd_ite, foldS_frame, whenS_frame, foldl_frame, ite_self, implies_true, mk_leaf, State.hideU, Ce.hide, Glb.hide, Flt.hide, Hif.hide, Sec.hide, Stp.hide, pick, Nat.reduceEqDiff, reduceIte] | with_reducible refine (foldS_frame _ _ _ (fun _ _ => ?_) _).trans ?_ | with_reducible refine (whenS_frame _ _ _ _ (fun _ => ?_)).trans ?_ | split)

theorem State.collectLate_frame (W : Nat) (hW : 824633722916 &&& W = 824633722916) (s : State) : (State.collectLate s).hide W = s.hide W := by
  refine hide_mono _ _ hW ?_
  unfold State.collectLate
  repeat' (first | with_reducible rfl | simp only [State.cnfOnce_frame, State.collect_frame, State.putInput_frame, State.takeFree_frame, Nat.reduceAnd, hide_ite, snd_ite, foldS_frame, whenS_frame, foldl_frame, ite_self, implies_true, mk_leaf, State.hideU, Ce.hide, Glb.hide, Flt.hide, Hif.hide, Sec.hide, Stp.hide, pick, Nat.reduceEqDiff, reduceIte] | with_reducible refine (foldS_frame _ _ _ (fun _ _ => ?_) _).trans ?_ | with_reducible refine (whenS_frame _ _ _ _ (fun _ => ?_)).trans ?_ | split)

theorem State.confFinish_frame (W : Nat) (hW : 824633722912 &&& W = 824633722912) (s : State) : (State.confFinish s).hide W = s.hide W := by
  refine hide_mono _ _ hW ?_
  unfold State.confFinish
  repeat' (first | with_reducible rfl | simp only [State.collect_frame, State.lanePass_frame, Nat.reduceAnd, hide_ite, snd_ite, foldS_frame, whenS_frame, foldl_frame, ite_self, implies_true, mk_leaf, State.hideU, Ce.hide, Glb.hide, Flt.hide, Hif.hide, Sec.hide, Stp.hide, pick, Nat.reduceEqDiff, reduceIte] | with_reducible refine (foldS_frame _ _ _ (fun _ _ => ?_) _).trans ?_ | with_reducible refine (whenS_frame _ _ _ _ (fun _ => ?_)).trans ?_ | split)

theorem State.confTurn_frame (W : Nat) (hW : 549755813920 &&& W = 549755813920) (s : State) : (State.confTurn s).hide W = s.hide W := by
  refine hide_mono _ _ hW ?_
  unfold State.confTurn
  repeat' (first | with_reducible rfl | simp only [State.clearUpsets_frame, Nat.reduceAnd, hide_ite, snd_ite, foldS_frame, whenS_frame, foldl_frame, ite_self, implies_true, mk_leaf, State.hideU, Ce.hide, Glb.hide, Flt.hide, Hif.hide, Sec.hide, Stp.hide, pick, Nat.reduceEqDiff, reduceIte] | with_reducible refine (foldS_frame _ _ _ (fun _ _ => ?_) _).trans ?_ | with_reducible refine (whenS_frame _ _ _ _ (fun _ => ?_)).trans ?_ | split)

theorem State.laneReset_frame (W : Nat) (hW : 549755815968 &&& W = 549755815968) (l : Nat) (s : State) : (State.laneReset l s).hide W = s.hide W := by
  refine hide_mono _ _ hW ?_
  unfold State.laneReset
  repeat' (first | with_reducible rfl | simp only [State.lanePass_frame, Nat.reduceAnd, hide_ite, snd_ite, foldS_frame, whenS_frame, foldl_frame, ite_self, implies_true, mk_leaf, State.hideU, Ce.hide, Glb.hide, Flt.hide, Hif.hide, Sec.hide, Stp.hide, pick, Nat.reduceEqDiff, reduceIte] | with_reducible refine (foldS_frame _ _ _ (fun _ _ => ?_) _).trans ?_ | with_reducible refine (whenS_frame _ _ _ _ (fun _ => ?_)).trans ?_ | split)

theorem State.speakerRaise_frame (W : Nat) (hW : 549755815936 &&& W = 549755815936) (c : Nat) (s : State) : (State.speakerRaise c s).hide W = s.hide W := by
  refine hide_mono _ _ hW ?_
  unfold State.speakerRaise
  repeat' (first | with_reducible rfl | simp only [State.raiseU_frame, State.setSpk_frame, Nat.reduceAnd, hide_ite, snd_ite, foldS_frame, whenS_frame, foldl_frame, ite_self, implies_true, mk_leaf, State.hideU, Ce.hide, Glb.hide, Flt.hide, Hif.hide, Sec.hide, Stp.hide, pick, Nat.reduceEqDiff, reduceIte] | with_reducible refine (foldS_frame _ _ _ (fun _ _ => ?_) _).trans ?_ | with_reducible refine (whenS_frame _ _ _ _ (fun _ => ?_)).trans ?_ | split)

theorem State.speakerBoundary_frame (W : Nat) (hW : 549755815936 &&& W = 549755815936) (s : State) : (State.speakerBoundary s).hide W = s.hide W := by
  refine hide_mono _ _ hW ?_
  unfold State.speakerBoundary
  repeat' (first | with_reducible rfl | simp only [State.setSpk_frame, State.speakerRaise_frame, Nat.reduceAnd, hide_ite, snd_ite, foldS_frame, whenS_frame, foldl_frame, ite_self, implies_true, mk_leaf, State.hideU, Ce.hide, Glb.hide, Flt.hide, Hif.hide, Sec.hide, Stp.hide, pick, Nat.reduceEqDiff, reduceIte] | with_reducible refine (foldS_frame _ _ _ (fun _ _ => ?_) _).trans ?_ | with_reducible refine (whenS_frame _ _ _ _ (fun _ => ?_)).trans ?_ | split)

theorem State.toneLoad_frame (W : Nat) (hW : 549755813888 &&& W = 549755813888) (d : Nat) (t : ToneDef) (s : State) : (State.toneLoad d t s).hide W = s.hide W := by
  refine hide_mono _ _ hW ?_
  unfold State.toneLoad
  repeat' (first | with_reducible rfl | simp only [Nat.reduceAnd, hide_ite, snd_ite, foldS_frame, whenS_frame, foldl_frame, ite_self, implies_true, mk_leaf, State.hideU, Ce.hide, Glb.hide, Flt.hide, Hif.hide, Sec.hide, Stp.hide, pick, Nat.reduceEqDiff, reduceIte] | with_reducible refine (foldS_frame _ _ _ (fun _ _ => ?_) _).trans ?_ | with_reducible refine (whenS_frame _ _ _ _ (fun _ => ?_)).trans ?_ | split)

theorem State.readFinds_frame (W : Nat) (hW : 824633722912 &&& W = 824633722912) (o : Nat) (s : State) : (State.readFinds o s).hide W = s.hide W := by
  refine hide_mono _ _ hW ?_
  unfold State.readFinds
  repeat' (first | with_reducible rfl | simp only [State.cmRead_frame, State.rsRead_frame, Nat.reduceAnd, hide_ite, snd_ite, foldS_frame, whenS_frame, foldl_frame, ite_self, implies_true, mk_leaf, State.hideU, Ce.hide, Glb.hide, Flt.hide, Hif.hide, Sec.hide, Stp.hide, pick, Nat.reduceEqDiff, reduceIte] | with_reducible refine (foldS_frame _ _ _ (fun _ _ => ?_) _).trans ?_ | with_reducible refine (whenS_frame _ _ _ _ (fun _ => ?_)).trans ?_ | split)

theorem execLanePass_frame (W : Nat) (hW : 549755815968 &&& W = 549755815968) (s : State) : (after1 (execLanePass ) s).hide W = s.hide W := by
  refine hide_mono _ _ hW ?_
  unfold after1 execLanePass
  repeat' (first | with_reducible rfl | simp only [State.lanePass_frame, Nat.reduceAnd, hide_ite, snd_ite, foldS_frame, whenS_frame, foldl_frame, ite_self, implies_true, mk_leaf, State.hideU, Ce.hide, Glb.hide, Flt.hide, Hif.hide, Sec.hide, Stp.hide, pick, Nat.reduceEqDiff, reduceIte] | with_reducible refine (foldS_frame _ _ _ (fun _ _ => ?_) _).trans ?_ | with_reducible refine (whenS_frame _ _ _ _ (fun _ => ?_)).trans ?_ | split)

theorem execCollectorWindow_frame (W : Nat) (hW : 824633722916 &&& W = 824633722916) (late : Bool) (s : State) : (after1 (execCollectorWindow late) s).hide W = s.hide W := by
  refine hide_mono _ _ hW ?_
  unfold after1 execCollectorWindow
  repeat' (first | with_reducible rfl | simp only [State.collectLate_frame, State.collect_frame, State.lanePass_frame, Nat.reduceAnd, hide_ite, snd_ite, foldS_frame, whenS_frame, foldl_frame, ite_self, implies_true, mk_leaf, State.hideU, Ce.hide, Glb.hide, Flt.hide, Hif.hide, Sec.hide, Stp.hide, pick, Nat.reduceEqDiff, reduceIte] | with_reducible refine (foldS_frame _ _ _ (fun _ _ => ?_) _).trans ?_ | with_reducible refine (whenS_frame _ _ _ _ (fun _ => ?_)).trans ?_ | split)

theorem execSpeakerHoldoffExpiry_frame (W : Nat) (hW : 549755815936 &&& W = 549755815936) (c : Fin 16384) (s : State) : (after1 (execSpeakerHoldoffExpiry c) s).hide W = s.hide W := by
  refine hide_mono _ _ hW ?_
  unfold after1 execSpeakerHoldoffExpiry
  repeat' (first | with_reducible rfl | simp only [State.setSpk_frame, State.speakerRaise_frame, Nat.reduceAnd, hide_ite, snd_ite, foldS_frame, whenS_frame, foldl_frame, ite_self, implies_true, mk_leaf, State.hideU, Ce.hide, Glb.hide, Flt.hide, Hif.hide, Sec.hide, Stp.hide, pick, Nat.reduceEqDiff, reduceIte] | with_reducible refine (foldS_frame _ _ _ (fun _ _ => ?_) _).trans ?_ | with_reducible refine (whenS_frame _ _ _ _ (fun _ => ?_)).trans ?_ | split)

theorem State.protDrop_frame (W : Nat) (hW : 2048 &&& W = 2048) (kind g : Nat) (x : Group) (far : Option Nat) (s : State) : (State.protDrop kind g x far s).2.hide W = s.hide W := by
  refine hide_mono _ _ hW ?_
  unfold State.protDrop
  repeat' (first | with_reducible rfl | simp only [State.prtEvent_frame, Nat.reduceAnd, hide_ite, snd_ite, foldS_frame, whenS_frame, foldl_frame, ite_self, implies_true, mk_leaf, State.hideU, Ce.hide, Glb.hide, Flt.hide, Hif.hide, Sec.hide, Stp.hide, pick, Nat.reduceEqDiff, reduceIte] | with_reducible refine (foldS_frame _ _ _ (fun _ _ => ?_) _).trans ?_ | with_reducible refine (whenS_frame _ _ _ _ (fun _ => ?_)).trans ?_ | split)

theorem State.groupRead_frame (W : Nat) (hW : 1099511629856 &&& W = 1099511629856) (kind : Fin 4) (g : Nat) (s : State) : (State.groupRead kind g s).hide W = s.hide W := by
  refine hide_mono _ _ hW ?_
  unfold State.groupRead
  repeat' (first | with_reducible rfl | simp only [State.clearUpset_frame, State.raise_frame, State.setGroup_frame, Nat.reduceAnd, hide_ite, snd_ite, foldS_frame, whenS_frame, foldl_frame, ite_self, implies_true, mk_leaf, State.hideU, Ce.hide, Glb.hide, Flt.hide, Hif.hide, Sec.hide, Stp.hide, pick, Nat.reduceEqDiff, reduceIte] | with_reducible refine (foldS_frame _ _ _ (fun _ _ => ?_) _).trans ?_ | with_reducible refine (whenS_frame _ _ _ _ (fun _ => ?_)).trans ?_ | split)

theorem State.protEval_frame (W : Nat) (hW : 1099511629824 &&& W = 1099511629824) (kind g : Nat) (x : Group) (s : State) : (State.protEval kind g x s).hide W = s.hide W := by
  refine hide_mono _ _ hW ?_
  unfold State.protEval
  repeat' (first | with_reducible rfl | simp only [State.protDrop_frame, State.setGroup_frame, Nat.reduceAnd, hide_ite, snd_ite, foldS_frame, whenS_frame, foldl_frame, ite_self, implies_true, mk_leaf, State.hideU, Ce.hide, Glb.hide, Flt.hide, Hif.hide, Sec.hide, Stp.hide, pick, Nat.reduceEqDiff, reduceIte] | with_reducible refine (foldS_frame _ _ _ (fun _ _ => ?_) _).trans ?_ | with_reducible refine (whenS_frame _ _ _ _ (fun _ => ?_)).trans ?_ | split)

theorem State.protDecide_frame (W : Nat) (hW : 1099511629856 &&& W = 1099511629856) (kind : Fin 4) (g : Nat) (s : State) : (State.protDecide kind g s).hide W = s.hide W := by
  refine hide_mono _ _ hW ?_
  unfold State.protDecide
  repeat' (first | with_reducible rfl | simp only [State.groupRead_frame, State.protEval_frame, Nat.reduceAnd, hide_ite, snd_ite, foldS_frame, whenS_frame, foldl_frame, ite_self, implies_true, mk_leaf, State.hideU, Ce.hide, Glb.hide, Flt.hide, Hif.hide, Sec.hide, Stp.hide, pick, Nat.reduceEqDiff, reduceIte] | with_reducible refine (foldS_frame _ _ _ (fun _ _ => ?_) _).trans ?_ | with_reducible refine (whenS_frame _ _ _ _ (fun _ => ?_)).trans ?_ | split)

theorem State.protMove_frame (W : Nat) (hW : 1099511629824 &&& W = 1099511629824) (kind g : Nat) (s : State) : (State.protMove kind g s).hide W = s.hide W := by
  refine hide_mono _ _ hW ?_
  unfold State.protMove
  repeat' (first | with_reducible rfl | simp only [State.prtEvent_frame, State.setGroup_frame, Nat.reduceAnd, hide_ite, snd_ite, foldS_frame, whenS_frame, foldl_frame, ite_self, implies_true, mk_leaf, State.hideU, Ce.hide, Glb.hide, Flt.hide, Hif.hide, Sec.hide, Stp.hide, pick, Nat.reduceEqDiff, reduceIte] | with_reducible refine (foldS_frame _ _ _ (fun _ _ => ?_) _).trans ?_ | with_reducible refine (whenS_frame _ _ _ _ (fun _ => ?_)).trans ?_ | split)

theorem State.protMoves_frame (W : Nat) (hW : 1099511629824 &&& W = 1099511629824) (n : Nat) (s : State) : (State.protMoves n s).hide W = s.hide W := by
  refine hide_mono _ _ hW ?_
  unfold State.protMoves
  repeat' (first | with_reducible rfl | simp only [State.protMove_frame, State.setGroup_frame, Nat.reduceAnd, hide_ite, snd_ite, foldS_frame, whenS_frame, foldl_frame, ite_self, implies_true, mk_leaf, State.hideU, Ce.hide, Glb.hide, Flt.hide, Hif.hide, Sec.hide, Stp.hide, pick, Nat.reduceEqDiff, reduceIte] | with_reducible refine (foldS_frame _ _ _ (fun _ _ => ?_) _).trans ?_ | with_reducible refine (whenS_frame _ _ _ _ (fun _ => ?_)).trans ?_ | split)

theorem State.setFop_frame (W : Nat) (hW : 1099511629824 &&& W = 1099511629824) (g : Nat) (on mis : Bool) (s : State) : (State.setFop g on mis s).hide W = s.hide W := by
  refine hide_mono _ _ hW ?_
  unfold State.setFop
  repeat' (first | with_reducible rfl | simp only [State.prtEvent_frame, State.setGroup_frame, Nat.reduceAnd, hide_ite, snd_ite, foldS_frame, whenS_frame, foldl_frame, ite_self, implies_true, mk_leaf, State.hideU, Ce.hide, Glb.hide, Flt.hide, Hif.hide, Sec.hide, Stp.hide, pick, Nat.reduceEqDiff, reduceIte] | with_reducible refine (foldS_frame _ _ _ (fun _ _ => ?_) _).trans ?_ | with_reducible refine (whenS_frame _ _ _ _ (fun _ => ?_)).trans ?_ | split)

theorem State.setModeMm_frame (W : Nat) (hW : 1099511629824 &&& W = 1099511629824) (g : Nat) (on : Bool) (s : State) : (State.setModeMm g on s).hide W = s.hide W := by
  refine hide_mono _ _ hW ?_
  unfold State.setModeMm
  repeat' (first | with_reducible rfl | simp only [State.prtEvent_frame, State.setGroup_frame, Nat.reduceAnd, hide_ite, snd_ite, foldS_frame, whenS_frame, foldl_frame, ite_self, implies_true, mk_leaf, State.hideU, Ce.hide, Glb.hide, Flt.hide, Hif.hide, Sec.hide, Stp.hide, pick, Nat.reduceEqDiff, reduceIte] | with_reducible refine (foldS_frame _ _ _ (fun _ _ => ?_) _).trans ?_ | with_reducible refine (whenS_frame _ _ _ _ (fun _ => ?_)).trans ?_ | split)

theorem State.kWatch_frame (W : Nat) (hW : 1099511629824 &&& W = 1099511629824) (g : Nat) (frame : Bool) (s : State) : (State.kWatch g frame s).hide W = s.hide W := by
  refine hide_mono _ _ hW ?_
  unfold State.kWatch
  repeat' (first | with_reducible rfl | simp only [State.setFop_frame, State.setGroup_frame, State.setModeMm_frame, Nat.reduceAnd, hide_ite, snd_ite, foldS_frame, whenS_frame, foldl_frame, ite_self, implies_true, mk_leaf, State.hideU, Ce.hide, Glb.hide, Flt.hide, Hif.hide, Sec.hide, Stp.hide, pick, Nat.reduceEqDiff, reduceIte] | with_reducible refine (foldS_frame _ _ _ (fun _ _ => ?_) _).trans ?_ | with_reducible refine (whenS_frame _ _ _ _ (fun _ => ?_)).trans ?_ | split)

theorem State.exerAnswer_frame (W : Nat) (hW : 1099511627776 &&& W = 1099511627776) (g k1 : Nat) (s : State) : (State.exerAnswer g k1 s).hide W = s.hide W := by
  refine hide_mono _ _ hW ?_
  unfold State.exerAnswer
  repeat' (first | with_reducible rfl | simp only [State.setGroup_frame, Nat.reduceAnd, hide_ite, snd_ite, foldS_frame, whenS_frame, foldl_frame, ite_self, implies_true, mk_leaf, State.hideU, Ce.hide, Glb.hide, Flt.hide, Hif.hide, Sec.hide, Stp.hide, pick, Nat.reduceEqDiff, reduceIte] | with_reducible refine (foldS_frame _ _ _ (fun _ _ => ?_) _).trans ?_ | with_reducible refine (whenS_frame _ _ _ _ (fun _ => ?_)).trans ?_ | split)

theorem State.exerEnd_frame (W : Nat) (hW : 1099511629856 &&& W = 1099511629856) (g : Nat) (s : State) : (State.exerEnd g s).hide W = s.hide W := by
  refine hide_mono _ _ hW ?_
  unfold State.exerEnd
  repeat' (first | with_reducible rfl | simp only [State.protDecide_frame, State.prtEvent_frame, State.setGroup_frame, Nat.reduceAnd, hide_ite, snd_ite, foldS_frame, whenS_frame, foldl_frame, ite_self, implies_true, mk_leaf, State.hideU, Ce.hide, Glb.hide, Flt.hide, Hif.hide, Sec.hide, Stp.hide, pick, Nat.reduceEqDiff, reduceIte] | with_reducible refine (foldS_frame _ _ _ (fun _ _ => ?_) _).trans ?_ | with_reducible refine (whenS_frame _ _ _ _ (fun _ => ?_)).trans ?_ | split)

theorem State.kProtocol_frame (W : Nat) (hW : 1099511629856 &&& W = 1099511629856) (g : Nat) (s : State) : (State.kProtocol g s).hide W = s.hide W := by
  refine hide_mono _ _ hW ?_
  unfold State.kProtocol
  repeat' (first | with_reducible rfl | simp only [State.kWatch_frame, State.protDecide_frame, State.setGroup_frame, Nat.reduceAnd, hide_ite, snd_ite, foldS_frame, whenS_frame, foldl_frame, ite_self, implies_true, mk_leaf, State.hideU, Ce.hide, Glb.hide, Flt.hide, Hif.hide, Sec.hide, Stp.hide, pick, Nat.reduceEqDiff, reduceIte] | with_reducible refine (foldS_frame _ _ _ (fun _ _ => ?_) _).trans ?_ | with_reducible refine (whenS_frame _ _ _ _ (fun _ => ?_)).trans ?_ | split)

theorem State.rxLine_frame (W : Nat) (hW : 14357690943504 &&& W = 14357690943504) (n : Nat) (b : List Byte) (s : State) : (State.rxLine n b s).hide W = s.hide W := by
  refine hide_mono _ _ hW ?_
  unfold State.rxLine
  repeat' (first | with_reducible rfl | simp only [State.exerAnswer_frame, State.kWatch_frame, State.protMoves_frame, State.rxFrame_frame, Nat.reduceAnd, hide_ite, snd_ite, foldS_frame, whenS_frame, foldl_frame, ite_self, implies_true, mk_leaf, State.hideU, Ce.hide, Glb.hide, Flt.hide, Hif.hide, Sec.hide, Stp.hide, pick, Nat.reduceEqDiff, reduceIte] | with_reducible refine (foldS_frame _ _ _ (fun _ _ => ?_) _).trans ?_ | with_reducible refine (whenS_frame _ _ _ _ (fun _ => ?_)).trans ?_ | split)

theorem State.timersOver_frame (W : Nat) (hW : 1099511627776 &&& W = 1099511627776) (kind : Fin 4) (g : Nat) (s : State) : (State.timersOver kind g s).hide W = s.hide W := by
  refine hide_mono _ _ hW ?_
  unfold State.timersOver
  repeat' (first | with_reducible rfl | simp only [State.setGroup_frame, Nat.reduceAnd, hide_ite, snd_ite, foldS_frame, whenS_frame, foldl_frame, ite_self, implies_true, mk_leaf, State.hideU, Ce.hide, Glb.hide, Flt.hide, Hif.hide, Sec.hide, Stp.hide, pick, Nat.reduceEqDiff, reduceIte] | with_reducible refine (foldS_frame _ _ _ (fun _ _ => ?_) _).trans ?_ | with_reducible refine (whenS_frame _ _ _ _ (fun _ => ?_)).trans ?_ | split)

theorem State.mergeStart_frame (W : Nat) (hW : 34376517632 &&& W = 34376517632) (o : ProtOp) (s : State) : (State.mergeStart o s).hide W = s.hide W := by
  refine hide_mono _ _ hW ?_
  unfold State.mergeStart
  repeat' (first | with_reducible rfl | simp only [State.modTrib_frame, Nat.reduceAnd, hide_ite, snd_ite, foldS_frame, whenS_frame, foldl_frame, ite_self, implies_true, mk_leaf, State.hideU, Ce.hide, Glb.hide, Flt.hide, Hif.hide, Sec.hide, Stp.hide, pick, Nat.reduceEqDiff, reduceIte] | with_reducible refine (foldS_frame _ _ _ (fun _ _ => ?_) _).trans ?_ | with_reducible refine (whenS_frame _ _ _ _ (fun _ => ?_)).trans ?_ | split)

theorem State.groupDelete_frame (W : Nat) (hW : 1133888145408 &&& W = 1133888145408) (kind g : Nat) (s : State) : (State.groupDelete kind g s).hide W = s.hide W := by
  refine hide_mono _ _ hW ?_
  unfold State.groupDelete
  repeat' (first | with_reducible rfl | simp only [State.modTrib_frame, State.setGroup_frame, Nat.reduceAnd, hide_ite, snd_ite, foldS_frame, whenS_frame, foldl_frame, ite_self, implies_true, mk_leaf, State.hideU, Ce.hide, Glb.hide, Flt.hide, Hif.hide, Sec.hide, Stp.hide, pick, Nat.reduceEqDiff, reduceIte] | with_reducible refine (foldS_frame _ _ _ (fun _ _ => ?_) _).trans ?_ | with_reducible refine (whenS_frame _ _ _ _ (fun _ => ?_)).trans ?_ | split)

theorem State.protGroup_frame (W : Nat) (hW : 1133888153632 &&& W = 1133888153632) (o : ProtOp) (s : State) : (State.protGroup o s).hide W = s.hide W := by
  refine hide_mono _ _ hW ?_
  unfold State.protGroup
  repeat' (first | with_reducible rfl | simp only [State.groupDelete_frame, State.mergeStart_frame, State.protDecide_frame, State.setGroup_frame, State.timersOver_frame, State.wordWritten_frame, Nat.reduceAnd, hide_ite, snd_ite, foldS_frame, whenS_frame, foldl_frame, ite_self, implies_true, mk_leaf, State.hideU, Ce.hide, Glb.hide, Flt.hide, Hif.hide, Sec.hide, Stp.hide, pick, Nat.reduceEqDiff, reduceIte] | with_reducible refine (foldS_frame _ _ _ (fun _ _ => ?_) _).trans ?_ | with_reducible refine (whenS_frame _ _ _ _ (fun _ => ?_)).trans ?_ | split)

theorem State.protCmd_frame (W : Nat) (hW : 1099511629856 &&& W = 1099511629856) (kind : Fin 4) (g code : Nat) (s : State) : (State.protCmd kind g code s).2.hide W = s.hide W := by
  refine hide_mono _ _ hW ?_
  unfold State.protCmd
  repeat' (first | with_reducible rfl | simp only [State.groupRead_frame, State.protDecide_frame, State.setGroup_frame, Nat.reduceAnd, hide_ite, snd_ite, foldS_frame, whenS_frame, foldl_frame, ite_self, implies_true, mk_leaf, State.hideU, Ce.hide, Glb.hide, Flt.hide, Hif.hide, Sec.hide, Stp.hide, pick, Nat.reduceEqDiff, reduceIte] | with_reducible refine (foldS_frame _ _ _ (fun _ _ => ?_) _).trans ?_ | with_reducible refine (whenS_frame _ _ _ _ (fun _ => ?_)).trans ?_ | split)

theorem State.protTick_frame (W : Nat) (hW : 1099511629824 &&& W = 1099511629824) (s : State) : (State.protTick s).hide W = s.hide W := by
  refine hide_mono _ _ hW ?_
  unfold State.protTick
  repeat' (first | with_reducible rfl | simp only [State.protMove_frame, Nat.reduceAnd, hide_ite, snd_ite, foldS_frame, whenS_frame, foldl_frame, ite_self, implies_true, mk_leaf, State.hideU, Ce.hide, Glb.hide, Flt.hide, Hif.hide, Sec.hide, Stp.hide, pick, Nat.reduceEqDiff, reduceIte] | with_reducible refine (foldS_frame _ _ _ (fun _ _ => ?_) _).trans ?_ | with_reducible refine (whenS_frame _ _ _ _ (fun _ => ?_)).trans ?_ | split)

theorem State.protJudge_frame (W : Nat) (hW : 1099511629856 &&& W = 1099511629856) (s : State) : (State.protJudge s).hide W = s.hide W := by
  refine hide_mono _ _ hW ?_
  unfold State.protJudge
  repeat' (first | with_reducible rfl | simp only [State.protDecide_frame, Nat.reduceAnd, hide_ite, snd_ite, foldS_frame, whenS_frame, foldl_frame, ite_self, implies_true, mk_leaf, State.hideU, Ce.hide, Glb.hide, Flt.hide, Hif.hide, Sec.hide, Stp.hide, pick, Nat.reduceEqDiff, reduceIte] | with_reducible refine (foldS_frame _ _ _ (fun _ _ => ?_) _).trans ?_ | with_reducible refine (whenS_frame _ _ _ _ (fun _ => ?_)).trans ?_ | split)

theorem State.unitReset_frame (W : Nat) (hW : 1099511627776 &&& W = 1099511627776) (q : Nat) (s : State) : (State.unitReset q s).hide W = s.hide W := by
  refine hide_mono _ _ hW ?_
  unfold State.unitReset
  repeat' (first | with_reducible rfl | simp only [Nat.reduceAnd, hide_ite, snd_ite, foldS_frame, whenS_frame, foldl_frame, ite_self, implies_true, mk_leaf, State.hideU, Ce.hide, Glb.hide, Flt.hide, Hif.hide, Sec.hide, Stp.hide, pick, Nat.reduceEqDiff, reduceIte] | with_reducible refine (foldS_frame _ _ _ (fun _ _ => ?_) _).trans ?_ | with_reducible refine (whenS_frame _ _ _ _ (fun _ => ?_)).trans ?_ | split)

theorem execRxLineFrame_frame (W : Nat) (hW : 14357690943504 &&& W = 14357690943504) (n : Fin 32) (b : List Byte) (s : State) : (after1 (execRxLineFrame n b) s).hide W = s.hide W := by
  refine hide_mono _ _ hW ?_
  unfold after1 execRxLineFrame
  repeat' (first | with_reducible rfl | simp only [State.rxLine_frame, Nat.reduceAnd, hide_ite, snd_ite, foldS_frame, whenS_frame, foldl_frame, ite_self, implies_true, mk_leaf, State.hideU, Ce.hide, Glb.hide, Flt.hide, Hif.hide, Sec.hide, Stp.hide, pick, Nat.reduceEqDiff, reduceIte] | with_reducible refine (foldS_frame _ _ _ (fun _ _ => ?_) _).trans ?_ | with_reducible refine (whenS_frame _ _ _ _ (fun _ => ?_)).trans ?_ | split)

theorem execSelectorDecision_frame (W : Nat) (hW : 1099511629856 &&& W = 1099511629856) (kind : Fin 4) (g : Nat) (s : State) : (after1 (execSelectorDecision kind g) s).hide W = s.hide W := by
  refine hide_mono _ _ hW ?_
  unfold after1 execSelectorDecision
  repeat' (first | with_reducible rfl | simp only [State.protDecide_frame, Nat.reduceAnd, hide_ite, snd_ite, foldS_frame, whenS_frame, foldl_frame, ite_self, implies_true, mk_leaf, State.hideU, Ce.hide, Glb.hide, Flt.hide, Hif.hide, Sec.hide, Stp.hide, pick, Nat.reduceEqDiff, reduceIte] | with_reducible refine (foldS_frame _ _ _ (fun _ _ => ?_) _).trans ?_ | with_reducible refine (whenS_frame _ _ _ _ (fun _ => ?_)).trans ?_ | split)

theorem execHoldoffExpiry_frame (W : Nat) (hW : 1099511629824 &&& W = 1099511629824) (kind : Fin 4) (g : Nat) (side : Bool) (s : State) : (after1 (execHoldoffExpiry kind g side) s).hide W = s.hide W := by
  refine hide_mono _ _ hW ?_
  unfold after1 execHoldoffExpiry
  repeat' (first | with_reducible rfl | simp only [State.protEval_frame, Nat.reduceAnd, hide_ite, snd_ite, foldS_frame, whenS_frame, foldl_frame, ite_self, implies_true, mk_leaf, State.hideU, Ce.hide, Glb.hide, Flt.hide, Hif.hide, Sec.hide, Stp.hide, pick, Nat.reduceEqDiff, reduceIte] | with_reducible refine (foldS_frame _ _ _ (fun _ _ => ?_) _).trans ?_ | with_reducible refine (whenS_frame _ _ _ _ (fun _ => ?_)).trans ?_ | split)

theorem execWtrExpiry_frame (W : Nat) (hW : 1099511629824 &&& W = 1099511629824) (kind : Fin 4) (g : Nat) (s : State) : (after1 (execWtrExpiry kind g) s).hide W = s.hide W := by
  refine hide_mono _ _ hW ?_
  unfold after1 execWtrExpiry
  repeat' (first | with_reducible rfl | simp only [State.protEval_frame, Nat.reduceAnd, hide_ite, snd_ite, foldS_frame, whenS_frame, foldl_frame, ite_self, implies_true, mk_leaf, State.hideU, Ce.hide, Glb.hide, Flt.hide, Hif.hide, Sec.hide, Stp.hide, pick, Nat.reduceEqDiff, reduceIte] | with_reducible refine (foldS_frame _ _ _ (fun _ _ => ?_) _).trans ?_ | with_reducible refine (whenS_frame _ _ _ _ (fun _ => ?_)).trans ?_ | split)

theorem execProtSw_frame (W : Nat) (hW : 1099511629824 &&& W = 1099511629824) (kind : Fin 4) (g : Nat) (s : State) : (after1 (execProtSw kind g) s).hide W = s.hide W := by
  refine hide_mono _ _ hW ?_
  unfold after1 execProtSw
  repeat' (first | with_reducible rfl | simp only [State.protMove_frame, Nat.reduceAnd, hide_ite, snd_ite, foldS_frame, whenS_frame, foldl_frame, ite_self, implies_true, mk_leaf, State.hideU, Ce.hide, Glb.hide, Flt.hide, Hif.hide, Sec.hide, Stp.hide, pick, Nat.reduceEqDiff, reduceIte] | with_reducible refine (foldS_frame _ _ _ (fun _ _ => ?_) _).trans ?_ | with_reducible refine (whenS_frame _ _ _ _ (fun _ => ?_)).trans ?_ | split)

theorem execK1Protocol_frame (W : Nat) (hW : 1099511629856 &&& W = 1099511629856) (i : Fin 16) (s : State) : (after1 (execK1Protocol i) s).hide W = s.hide W := by
  refine hide_mono _ _ hW ?_
  unfold after1 execK1Protocol
  repeat' (first | with_reducible rfl | simp only [State.kProtocol_frame, Nat.reduceAnd, hide_ite, snd_ite, foldS_frame, whenS_frame, foldl_frame, ite_self, implies_true, mk_leaf, State.hideU, Ce.hide, Glb.hide, Flt.hide, Hif.hide, Sec.hide, Stp.hide, pick, Nat.reduceEqDiff, reduceIte] | with_reducible refine (foldS_frame _ _ _ (fun _ _ => ?_) _).trans ?_ | with_reducible refine (whenS_frame _ _ _ _ (fun _ => ?_)).trans ?_ | split)

theorem execProtExer_frame (W : Nat) (hW : 1099511629856 &&& W = 1099511629856) (i : Fin 16) (s : State) : (after1 (execProtExer i) s).hide W = s.hide W := by
  refine hide_mono _ _ hW ?_
  unfold after1 execProtExer
  repeat' (first | with_reducible rfl | simp only [State.exerEnd_frame, Nat.reduceAnd, hide_ite, snd_ite, foldS_frame, whenS_frame, foldl_frame, ite_self, implies_true, mk_leaf, State.hideU, Ce.hide, Glb.hide, Flt.hide, Hif.hide, Sec.hide, Stp.hide, pick, Nat.reduceEqDiff, reduceIte] | with_reducible refine (foldS_frame _ _ _ (fun _ _ => ?_) _).trans ?_ | with_reducible refine (whenS_frame _ _ _ _ (fun _ => ?_)).trans ?_ | split)

theorem State.setStrm_frame (W : Nat) (hW : 2199023255552 &&& W = 2199023255552) (g : Nat) (x : Stream) (s : State) : (State.setStrm g x s).hide W = s.hide W := by
  refine hide_mono _ _ hW ?_
  unfold State.setStrm
  repeat' (first | with_reducible rfl | simp only [Nat.reduceAnd, hide_ite, snd_ite, foldS_frame, whenS_frame, foldl_frame, ite_self, implies_true, mk_leaf, State.hideU, Ce.hide, Glb.hide, Flt.hide, Hif.hide, Sec.hide, Stp.hide, pick, Nat.reduceEqDiff, reduceIte] | with_reducible refine (foldS_frame _ _ _ (fun _ _ => ?_) _).trans ?_ | with_reducible refine (whenS_frame _ _ _ _ (fun _ => ?_)).trans ?_ | split)

theorem State.modStrm_frame (W : Nat) (hW : 2199023255552 &&& W = 2199023255552) (g : Nat) (f : Stream → Stream) (s : State) : (State.modStrm g f s).hide W = s.hide W := by
  refine hide_mono _ _ hW ?_
  unfold State.modStrm
  repeat' (first | with_reducible rfl | simp only [State.setStrm_frame, Nat.reduceAnd, hide_ite, snd_ite, foldS_frame, whenS_frame, foldl_frame, ite_self, implies_true, mk_leaf, State.hideU, Ce.hide, Glb.hide, Flt.hide, Hif.hide, Sec.hide, Stp.hide, pick, Nat.reduceEqDiff, reduceIte] | with_reducible refine (foldS_frame _ _ _ (fun _ _ => ?_) _).trans ?_ | with_reducible refine (whenS_frame _ _ _ _ (fun _ => ?_)).trans ?_ | split)

theorem State.strEvent_frame (W : Nat) (hW : 2048 &&& W = 2048) (seen : Bool) (bit : Nat) (k : Kind) (g : Nat) (s : State) : (State.strEvent seen bit k g s).hide W = s.hide W := by
  refine hide_mono _ _ hW ?_
  unfold State.strEvent
  repeat' (first | with_reducible rfl | simp only [State.raiseU_frame, Nat.reduceAnd, hide_ite, snd_ite, foldS_frame, whenS_frame, foldl_frame, ite_self, implies_true, mk_leaf, State.hideU, Ce.hide, Glb.hide, Flt.hide, Hif.hide, Sec.hide, Stp.hide, pick, Nat.reduceEqDiff, reduceIte] | with_reducible refine (foldS_frame _ _ _ (fun _ _ => ?_) _).trans ?_ | with_reducible refine (whenS_frame _ _ _ _ (fun _ => ?_)).trans ?_ | split)

theorem State.strLate_frame (W : Nat) (hW : 2199023257600 &&& W = 2199023257600) (g : Nat) (s : State) : (State.strLate g s).hide W = s.hide W := by
  refine hide_mono _ _ hW ?_
  unfold State.strLate
  repeat' (first | with_reducible rfl | simp only [State.modStrm_frame, State.strEvent_frame, Nat.reduceAnd, hide_ite, snd_ite, foldS_frame, whenS_frame, foldl_frame, ite_self, implies_true, mk_leaf, State.hideU, Ce.hide, Glb.hide, Flt.hide, Hif.hide, Sec.hide, Stp.hide, pick, Nat.reduceEqDiff, reduceIte] | with_reducible refine (foldS_frame _ _ _ (fun _ _ => ?_) _).trans ?_ | with_reducible refine (whenS_frame _ _ _ _ (fun _ => ?_)).trans ?_ | split)

theorem State.strCku_frame (W : Nat) (hW : 2199023257600 &&& W = 2199023257600) (g : Nat) (s : State) : (State.strCku g s).hide W = s.hide W := by
  refine hide_mono _ _ hW ?_
  unfold State.strCku
  repeat' (first | with_reducible rfl | simp only [State.modStrm_frame, State.strEvent_frame, Nat.reduceAnd, hide_ite, snd_ite, foldS_frame, whenS_frame, foldl_frame, ite_self, implies_true, mk_leaf, State.hideU, Ce.hide, Glb.hide, Flt.hide, Hif.hide, Sec.hide, Stp.hide, pick, Nat.reduceEqDiff, reduceIte] | with_reducible refine (foldS_frame _ _ _ (fun _ _ => ?_) _).trans ?_ | with_reducible refine (whenS_frame _ _ _ _ (fun _ => ?_)).trans ?_ | split)

theorem State.blockLate_frame (W : Nat) (hW : 2199023257600 &&& W = 2199023257600) (g : Nat) (o : StreamOp) (b : List Byte) (s : State) : (State.blockLate g o b s).2.hide W = s.hide W := by
  refine hide_mono _ _ hW ?_
  unfold State.blockLate
  repeat' (first | with_reducible rfl | simp only [State.modStrm_frame, State.strLate_frame, Nat.reduceAnd, hide_ite, snd_ite, foldS_frame, whenS_frame, foldl_frame, ite_self, implies_true, mk_leaf, State.hideU, Ce.hide, Glb.hide, Flt.hide, Hif.hide, Sec.hide, Stp.hide, pick, Nat.reduceEqDiff, reduceIte] | with_reducible refine (foldS_frame _ _ _ (fun _ _ => ?_) _).trans ?_ | with_reducible refine (whenS_frame _ _ _ _ (fun _ => ?_)).trans ?_ | split)

theorem State.blockJudge_frame (W : Nat) (hW : 2199023257600 &&& W = 2199023257600) (g : Nat) (len : Nat) (b : List Byte) (s : State) : (State.blockJudge g len b s).hide W = s.hide W := by
  refine hide_mono _ _ hW ?_
  unfold State.blockJudge
  repeat' (first | with_reducible rfl | simp only [State.blockLate_frame, State.modStrm_frame, State.strCku_frame, Nat.reduceAnd, hide_ite, snd_ite, foldS_frame, whenS_frame, foldl_frame, ite_self, implies_true, mk_leaf, State.hideU, Ce.hide, Glb.hide, Flt.hide, Hif.hide, Sec.hide, Stp.hide, pick, Nat.reduceEqDiff, reduceIte] | with_reducible refine (foldS_frame _ _ _ (fun _ _ => ?_) _).trans ?_ | with_reducible refine (whenS_frame _ _ _ _ (fun _ => ?_)).trans ?_ | split)

theorem State.seqCheck_frame (W : Nat) (hW : 2199023255552 &&& W = 2199023255552) (g : Nat) (b : List Byte) (s : State) : (State.seqCheck g b s).hide W = s.hide W := by
  refine hide_mono _ _ hW ?_
  unfold State.seqCheck
  repeat' (first | with_reducible rfl | simp only [State.setStrm_frame, Nat.reduceAnd, hide_ite, snd_ite, foldS_frame, whenS_frame, foldl_frame, ite_self, implies_true, mk_leaf, State.hideU, Ce.hide, Glb.hide, Flt.hide, Hif.hide, Sec.hide, Stp.hide, pick, Nat.reduceEqDiff, reduceIte] | with_reducible refine (foldS_frame _ _ _ (fun _ _ => ?_) _).trans ?_ | with_reducible refine (whenS_frame _ _ _ _ (fun _ => ?_)).trans ?_ | split)

theorem State.stageRead_frame (W : Nat) (hW : 2199023257632 &&& W = 2199023257632) (g : Nat) (f : Word) (s : State) : (State.stageRead g f s).hide W = s.hide W := by
  refine hide_mono _ _ hW ?_
  unfold State.stageRead
  repeat' (first | with_reducible rfl | simp only [State.clearUpset_frame, State.modStrm_frame, State.sramErr_frame, Nat.reduceAnd, hide_ite, snd_ite, foldS_frame, whenS_frame, foldl_frame, ite_self, implies_true, mk_leaf, State.hideU, Ce.hide, Glb.hide, Flt.hide, Hif.hide, Sec.hide, Stp.hide, pick, Nat.reduceEqDiff, reduceIte] | with_reducible refine (foldS_frame _ _ _ (fun _ _ => ?_) _).trans ?_ | with_reducible refine (whenS_frame _ _ _ _ (fun _ => ?_)).trans ?_ | split)

theorem State.outDrop_frame (W : Nat) (hW : 2199023257600 &&& W = 2199023257600) (g : Nat) (s : State) : (State.outDrop g s).hide W = s.hide W := by
  refine hide_mono _ _ hW ?_
  unfold State.outDrop
  repeat' (first | with_reducible rfl | simp only [State.modStrm_frame, State.strEvent_frame, Nat.reduceAnd, hide_ite, snd_ite, foldS_frame, whenS_frame, foldl_frame, ite_self, implies_true, mk_leaf, State.hideU, Ce.hide, Glb.hide, Flt.hide, Hif.hide, Sec.hide, Stp.hide, pick, Nat.reduceEqDiff, reduceIte] | with_reducible refine (foldS_frame _ _ _ (fun _ _ => ?_) _).trans ?_ | with_reducible refine (whenS_frame _ _ _ _ (fun _ => ?_)).trans ?_ | split)

theorem State.outWrite_frame (W : Nat) (hW : 98320 &&& W = 98320) (g : Nat) (o : StreamOp) (b : OutBlock) (d : BufDesc) (s : State) : (State.outWrite g o b d s).hide W = s.hide W := by
  refine hide_mono _ _ hW ?_
  unfold State.outWrite
  repeat' (first | with_reducible rfl | simp only [State.dma_frame, State.writeBack_frame, Nat.reduceAnd, hide_ite, snd_ite, foldS_frame, whenS_frame, foldl_frame, ite_self, implies_true, mk_leaf, State.hideU, Ce.hide, Glb.hide, Flt.hide, Hif.hide, Sec.hide, Stp.hide, pick, Nat.reduceEqDiff, reduceIte] | with_reducible refine (foldS_frame _ _ _ (fun _ _ => ?_) _).trans ?_ | with_reducible refine (whenS_frame _ _ _ _ (fun _ => ?_)).trans ?_ | split)

theorem State.outRow_frame (W : Nat) (hW : 2199023257632 &&& W = 2199023257632) (g : Nat) (s : State) : (State.outRow g s).hide W = s.hide W := by
  refine hide_mono _ _ hW ?_
  unfold State.outRow
  repeat' (first | with_reducible rfl | simp only [State.clearUpset_frame, State.modStrm_frame, State.sramErr_frame, Nat.reduceAnd, hide_ite, snd_ite, foldS_frame, whenS_frame, foldl_frame, ite_self, implies_true, mk_leaf, State.hideU, Ce.hide, Glb.hide, Flt.hide, Hif.hide, Sec.hide, Stp.hide, pick, Nat.reduceEqDiff, reduceIte] | with_reducible refine (foldS_frame _ _ _ (fun _ _ => ?_) _).trans ?_ | with_reducible refine (whenS_frame _ _ _ _ (fun _ => ?_)).trans ?_ | split)

theorem State.outSend_frame (W : Nat) (hW : 2199023355920 &&& W = 2199023355920) (g : Nat) (s : State) : (State.outSend g s).hide W = s.hide W := by
  refine hide_mono _ _ hW ?_
  unfold State.outSend
  repeat' (first | with_reducible rfl | simp only [State.dma_frame, State.modStrm_frame, State.outDrop_frame, State.outWrite_frame, Nat.reduceAnd, hide_ite, snd_ite, foldS_frame, whenS_frame, foldl_frame, ite_self, implies_true, mk_leaf, State.hideU, Ce.hide, Glb.hide, Flt.hide, Hif.hide, Sec.hide, Stp.hide, pick, Nat.reduceEqDiff, reduceIte] | with_reducible refine (foldS_frame _ _ _ (fun _ _ => ?_) _).trans ?_ | with_reducible refine (whenS_frame _ _ _ _ (fun _ => ?_)).trans ?_ | split)

theorem State.outShort_frame (W : Nat) (hW : 2199023355920 &&& W = 2199023355920) (g : Nat) (d : BufDesc) (s : State) : (State.outShort g d s).hide W = s.hide W := by
  refine hide_mono _ _ hW ?_
  unfold State.outShort
  repeat' (first | with_reducible rfl | simp only [State.outDrop_frame, State.writeBack_frame, Nat.reduceAnd, hide_ite, snd_ite, foldS_frame, whenS_frame, foldl_frame, ite_self, implies_true, mk_leaf, State.hideU, Ce.hide, Glb.hide, Flt.hide, Hif.hide, Sec.hide, Stp.hide, pick, Nat.reduceEqDiff, reduceIte] | with_reducible refine (foldS_frame _ _ _ (fun _ _ => ?_) _).trans ?_ | with_reducible refine (whenS_frame _ _ _ _ (fun _ => ?_)).trans ?_ | split)

theorem State.outTake_frame (W : Nat) (hW : 2199023355920 &&& W = 2199023355920) (g : Nat) (d : BufDesc) (s : State) : (State.outTake g d s).hide W = s.hide W := by
  refine hide_mono _ _ hW ?_
  unfold State.outTake
  repeat' (first | with_reducible rfl | simp only [State.badDesc_frame, State.dma_frame, State.outShort_frame, State.outWrite_frame, State.readOk_frame, State.setStrm_frame, Nat.reduceAnd, hide_ite, snd_ite, foldS_frame, whenS_frame, foldl_frame, ite_self, implies_true, mk_leaf, State.hideU, Ce.hide, Glb.hide, Flt.hide, Hif.hide, Sec.hide, Stp.hide, pick, Nat.reduceEqDiff, reduceIte] | with_reducible refine (foldS_frame _ _ _ (fun _ _ => ?_) _).trans ?_ | with_reducible refine (whenS_frame _ _ _ _ (fun _ => ?_)).trans ?_ | split)

theorem State.outDiscard_frame (W : Nat) (hW : 2199023353872 &&& W = 2199023353872) (g : Nat) (begun : Bool) (f : Word) (s : State) : (State.outDiscard g begun f s).hide W = s.hide W := by
  refine hide_mono _ _ hW ?_
  unfold State.outDiscard
  repeat' (first | with_reducible rfl | simp only [State.modStrm_frame, State.writeBack_frame, Nat.reduceAnd, hide_ite, snd_ite, foldS_frame, whenS_frame, foldl_frame, ite_self, implies_true, mk_leaf, State.hideU, Ce.hide, Glb.hide, Flt.hide, Hif.hide, Sec.hide, Stp.hide, pick, Nat.reduceEqDiff, reduceIte] | with_reducible refine (foldS_frame _ _ _ (fun _ _ => ?_) _).trans ?_ | with_reducible refine (whenS_frame _ _ _ _ (fun _ => ?_)).trans ?_ | split)

theorem State.outLost_frame (W : Nat) (hW : 2199023257600 &&& W = 2199023257600) (g : Nat) (s : State) : (State.outLost g s).hide W = s.hide W := by
  refine hide_mono _ _ hW ?_
  unfold State.outLost
  repeat' (first | with_reducible rfl | simp only [State.outDrop_frame, State.setStrm_frame, Nat.reduceAnd, hide_ite, snd_ite, foldS_frame, whenS_frame, foldl_frame, ite_self, implies_true, mk_leaf, State.hideU, Ce.hide, Glb.hide, Flt.hide, Hif.hide, Sec.hide, Stp.hide, pick, Nat.reduceEqDiff, reduceIte] | with_reducible refine (foldS_frame _ _ _ (fun _ _ => ?_) _).trans ?_ | with_reducible refine (whenS_frame _ _ _ _ (fun _ => ?_)).trans ?_ | split)

theorem State.outStops_frame (W : Nat) (hW : 2199023257600 &&& W = 2199023257600) (s : State) : (State.outStops s).hide W = s.hide W := by
  refine hide_mono _ _ hW ?_
  unfold State.outStops
  repeat' (first | with_reducible rfl | simp only [State.outLost_frame, Nat.reduceAnd, hide_ite, snd_ite, foldS_frame, whenS_frame, foldl_frame, ite_self, implies_true, mk_leaf, State.hideU, Ce.hide, Glb.hide, Flt.hide, Hif.hide, Sec.hide, Stp.hide, pick, Nat.reduceEqDiff, reduceIte] | with_reducible refine (foldS_frame _ _ _ (fun _ _ => ?_) _).trans ?_ | with_reducible refine (whenS_frame _ _ _ _ (fun _ => ?_)).trans ?_ | split)

theorem State.streamOpen_frame (W : Nat) (hW : 2199023255552 &&& W = 2199023255552) (o : StreamOp) (s : State) : (State.streamOpen o s).hide W = s.hide W := by
  refine hide_mono _ _ hW ?_
  unfold State.streamOpen
  repeat' (first | with_reducible rfl | simp only [State.modStrm_frame, Nat.reduceAnd, hide_ite, snd_ite, foldS_frame, whenS_frame, foldl_frame, ite_self, implies_true, mk_leaf, State.hideU, Ce.hide, Glb.hide, Flt.hide, Hif.hide, Sec.hide, Stp.hide, pick, Nat.reduceEqDiff, reduceIte] | with_reducible refine (foldS_frame _ _ _ (fun _ _ => ?_) _).trans ?_ | with_reducible refine (whenS_frame _ _ _ _ (fun _ => ?_)).trans ?_ | split)

theorem State.readCut_frame (W : Nat) (hW : 2199023288324 &&& W = 2199023288324) (g : Nat) (s : State) : (State.readCut g s).hide W = s.hide W := by
  refine hide_mono _ _ hW ?_
  unfold State.readCut
  repeat' (first | with_reducible rfl | simp only [State.consume_frame, State.modStrm_frame, State.takeFree_frame, Nat.reduceAnd, hide_ite, snd_ite, foldS_frame, whenS_frame, foldl_frame, ite_self, implies_true, mk_leaf, State.hideU, Ce.hide, Glb.hide, Flt.hide, Hif.hide, Sec.hide, Stp.hide, pick, Nat.reduceEqDiff, reduceIte] | with_reducible refine (foldS_frame _ _ _ (fun _ _ => ?_) _).trans ?_ | with_reducible refine (whenS_frame _ _ _ _ (fun _ => ?_)).trans ?_ | split)

theorem State.streamClose_frame (W : Nat) (hW : 2199023353876 &&& W = 2199023353876) (g : Nat) (i o : Bool) (s : State) : (State.streamClose g i o s).hide W = s.hide W := by
  refine hide_mono _ _ hW ?_
  unfold State.streamClose
  repeat' (first | with_reducible rfl | simp only [State.modStrm_frame, State.outDiscard_frame, State.readCut_frame, Nat.reduceAnd, hide_ite, snd_ite, foldS_frame, whenS_frame, foldl_frame, ite_self, implies_true, mk_leaf, State.hideU, Ce.hide, Glb.hide, Flt.hide, Hif.hide, Sec.hide, Stp.hide, pick, Nat.reduceEqDiff, reduceIte] | with_reducible refine (foldS_frame _ _ _ (fun _ _ => ?_) _).trans ?_ | with_reducible refine (whenS_frame _ _ _ _ (fun _ => ?_)).trans ?_ | split)

theorem State.consumeAll_frame (W : Nat) (hW : 32768 &&& W = 32768) (kind n : Nat) (s : State) : (State.consumeAll kind n s).2.hide W = s.hide W := by
  refine hide_mono _ _ hW ?_
  unfold State.consumeAll
  repeat' (first | with_reducible rfl | simp only [State.consume_frame, Nat.reduceAnd, hide_ite, snd_ite, foldS_frame, whenS_frame, foldl_frame, ite_self, implies_true, mk_leaf, State.hideU, Ce.hide, Glb.hide, Flt.hide, Hif.hide, Sec.hide, Stp.hide, pick, Nat.reduceEqDiff, reduceIte] | with_reducible refine (foldS_frame _ _ _ (fun _ _ => ?_) _).trans ?_ | with_reducible refine (whenS_frame _ _ _ _ (fun _ => ?_)).trans ?_ | split)

theorem State.streamFlush_frame (W : Nat) (hW : 2199023353872 &&& W = 2199023353872) (g : Nat) (i o : Bool) (s : State) : (State.streamFlush g i o s).hide W = s.hide W := by
  refine hide_mono _ _ hW ?_
  unfold State.streamFlush
  repeat' (first | with_reducible rfl | simp only [State.consumeAll_frame, State.modStrm_frame, State.outDiscard_frame, Nat.reduceAnd, hide_ite, snd_ite, foldS_frame, whenS_frame, foldl_frame, ite_self, implies_true, mk_leaf, State.hideU, Ce.hide, Glb.hide, Flt.hide, Hif.hide, Sec.hide, Stp.hide, pick, Nat.reduceEqDiff, reduceIte] | with_reducible refine (foldS_frame _ _ _ (fun _ _ => ?_) _).trans ?_ | with_reducible refine (whenS_frame _ _ _ _ (fun _ => ?_)).trans ?_ | split)

theorem State.streamReset_frame (W : Nat) (hW : 2199023353872 &&& W = 2199023353872) (g : Nat) (s : State) : (State.streamReset g s).hide W = s.hide W := by
  refine hide_mono _ _ hW ?_
  unfold State.streamReset
  repeat' (first | with_reducible rfl | simp only [State.modStrm_frame, State.outDiscard_frame, Nat.reduceAnd, hide_ite, snd_ite, foldS_frame, whenS_frame, foldl_frame, ite_self, implies_true, mk_leaf, State.hideU, Ce.hide, Glb.hide, Flt.hide, Hif.hide, Sec.hide, Stp.hide, pick, Nat.reduceEqDiff, reduceIte] | with_reducible refine (foldS_frame _ _ _ (fun _ _ => ?_) _).trans ?_ | with_reducible refine (whenS_frame _ _ _ _ (fun _ => ?_)).trans ?_ | split)

theorem execVoiceBlockArrival_frame (W : Nat) (hW : 2199023355920 &&& W = 2199023355920) (g : Fin 256) (d : BufDesc) (b : List Byte) (s : State) : (after1 (execVoiceBlockArrival g d b) s).hide W = s.hide W := by
  refine hide_mono _ _ hW ?_
  unfold after1 execVoiceBlockArrival
  repeat' (first | with_reducible rfl | simp only [State.badDesc_frame, State.blockJudge_frame, State.consume_frame, State.seqCheck_frame, Nat.reduceAnd, hide_ite, snd_ite, foldS_frame, whenS_frame, foldl_frame, ite_self, implies_true, mk_leaf, State.hideU, Ce.hide, Glb.hide, Flt.hide, Hif.hide, Sec.hide, Stp.hide, pick, Nat.reduceEqDiff, reduceIte] | with_reducible refine (foldS_frame _ _ _ (fun _ _ => ?_) _).trans ?_ | with_reducible refine (whenS_frame _ _ _ _ (fun _ => ?_)).trans ?_ | split)

theorem execVoiceBlockWrite_frame (W : Nat) (hW : 2199023355920 &&& W = 2199023355920) (g : Fin 256) (d : BufDesc) (s : State) : (after1 (execVoiceBlockWrite g d) s).hide W = s.hide W := by
  refine hide_mono _ _ hW ?_
  unfold after1 execVoiceBlockWrite
  repeat' (first | with_reducible rfl | simp only [State.outTake_frame, Nat.reduceAnd, hide_ite, snd_ite, foldS_frame, whenS_frame, foldl_frame, ite_self, implies_true, mk_leaf, State.hideU, Ce.hide, Glb.hide, Flt.hide, Hif.hide, Sec.hide, Stp.hide, pick, Nat.reduceEqDiff, reduceIte] | with_reducible refine (foldS_frame _ _ _ (fun _ _ => ?_) _).trans ?_ | with_reducible refine (whenS_frame _ _ _ _ (fun _ => ?_)).trans ?_ | split)

theorem State.setGfp_frame (W : Nat) (hW : 4398046511104 &&& W = 4398046511104) (ch : Nat) (x : Gfp) (s : State) : (State.setGfp ch x s).hide W = s.hide W := by
  refine hide_mono _ _ hW ?_
  unfold State.setGfp
  repeat' (first | with_reducible rfl | simp only [Nat.reduceAnd, hide_ite, snd_ite, foldS_frame, whenS_frame, foldl_frame, ite_self, implies_true, mk_leaf, State.hideU, Ce.hide, Glb.hide, Flt.hide, Hif.hide, Sec.hide, Stp.hide, pick, Nat.reduceEqDiff, reduceIte] | with_reducible refine (foldS_frame _ _ _ (fun _ _ => ?_) _).trans ?_ | with_reducible refine (whenS_frame _ _ _ _ (fun _ => ?_)).trans ?_ | split)

theorem State.modGfp_frame (W : Nat) (hW : 4398046511104 &&& W = 4398046511104) (ch : Nat) (f : Gfp → Gfp) (s : State) : (State.modGfp ch f s).hide W = s.hide W := by
  refine hide_mono _ _ hW ?_
  unfold State.modGfp
  repeat' (first | with_reducible rfl | simp only [State.setGfp_frame, Nat.reduceAnd, hide_ite, snd_ite, foldS_frame, whenS_frame, foldl_frame, ite_self, implies_true, mk_leaf, State.hideU, Ce.hide, Glb.hide, Flt.hide, Hif.hide, Sec.hide, Stp.hide, pick, Nat.reduceEqDiff, reduceIte] | with_reducible refine (foldS_frame _ _ _ (fun _ _ => ?_) _).trans ?_ | with_reducible refine (whenS_frame _ _ _ _ (fun _ => ?_)).trans ?_ | split)

theorem State.setLfd_frame (W : Nat) (hW : 4398063290368 &&& W = 4398063290368) (ch : Nat) (on : Bool) (s : State) : (State.setLfd ch on s).hide W = s.hide W := by
  refine hide_mono _ _ hW ?_
  unfold State.setLfd
  repeat' (first | with_reducible rfl | simp only [State.raiseU_frame, State.seeDef_frame, State.setGfp_frame, Nat.reduceAnd, hide_ite, snd_ite, foldS_frame, whenS_frame, foldl_frame, ite_self, implies_true, mk_leaf, State.hideU, Ce.hide, Glb.hide, Flt.hide, Hif.hide, Sec.hide, Stp.hide, pick, Nat.reduceEqDiff, reduceIte] | with_reducible refine (foldS_frame _ _ _ (fun _ _ => ?_) _).trans ?_ | with_reducible refine (whenS_frame _ _ _ _ (fun _ => ?_)).trans ?_ | split)

theorem State.gfpDeliver_frame (W : Nat) (hW : 4398046611472 &&& W = 4398046611472) (ch : Nat) (o : GfpOp) (d : BufDesc) (info : List Byte) (badFcs : Bool) (s : State) : (State.gfpDeliver ch o d info badFcs s).hide W = s.hide W := by
  refine hide_mono _ _ hW ?_
  unfold State.gfpDeliver
  repeat' (first | with_reducible rfl | simp only [State.badDesc_frame, State.dma_frame, State.modGfp_frame, State.writeBack_frame, Nat.reduceAnd, hide_ite, snd_ite, foldS_frame, whenS_frame, foldl_frame, ite_self, implies_true, mk_leaf, State.hideU, Ce.hide, Glb.hide, Flt.hide, Hif.hide, Sec.hide, Stp.hide, pick, Nat.reduceEqDiff, reduceIte] | with_reducible refine (foldS_frame _ _ _ (fun _ _ => ?_) _).trans ?_ | with_reducible refine (whenS_frame _ _ _ _ (fun _ => ?_)).trans ?_ | split)

theorem State.gfpFrameIn_frame (W : Nat) (hW : 4398046611472 &&& W = 4398046611472) (ch : Nat) (o : GfpOp) (d : BufDesc) (pli : Nat) (body : List Byte) (s : State) : (State.gfpFrameIn ch o d pli body s).hide W = s.hide W := by
  refine hide_mono _ _ hW ?_
  unfold State.gfpFrameIn
  repeat' (first | with_reducible rfl | simp only [State.gfpDeliver_frame, State.modGfp_frame, State.setGfp_frame, Nat.reduceAnd, hide_ite, snd_ite, foldS_frame, whenS_frame, foldl_frame, ite_self, implies_true, mk_leaf, State.hideU, Ce.hide, Glb.hide, Flt.hide, Hif.hide, Sec.hide, Stp.hide, pick, Nat.reduceEqDiff, reduceIte] | with_reducible refine (foldS_frame _ _ _ (fun _ _ => ?_) _).trans ?_ | with_reducible refine (whenS_frame _ _ _ _ (fun _ => ?_)).trans ?_ | split)

theorem State.gfpHeader_frame (W : Nat) (hW : 4398063388688 &&& W = 4398063388688) (ch : Nat) (o : GfpOp) (d : BufDesc) (s : State) : (State.gfpHeader ch o d s).hide W = s.hide W := by
  refine hide_mono _ _ hW ?_
  unfold State.gfpHeader
  repeat' (first | with_reducible rfl | simp only [State.gfpFrameIn_frame, State.setGfp_frame, State.setLfd_frame, Nat.reduceAnd, hide_ite, snd_ite, foldS_frame, whenS_frame, foldl_frame, ite_self, implies_true, mk_leaf, State.hideU, Ce.hide, Glb.hide, Flt.hide, Hif.hide, Sec.hide, Stp.hide, pick, Nat.reduceEqDiff, reduceIte] | with_reducible refine (foldS_frame _ _ _ (fun _ _ => ?_) _).trans ?_ | with_reducible refine (whenS_frame _ _ _ _ (fun _ => ?_)).trans ?_ | split)

theorem State.gfpOpen_frame (W : Nat) (hW : 4398063290368 &&& W = 4398063290368) (o : GfpOp) (s : State) : (State.gfpOpen o s).hide W = s.hide W := by
  refine hide_mono _ _ hW ?_
  unfold State.gfpOpen
  repeat' (first | with_reducible rfl | simp only [State.modGfp_frame, State.setLfd_frame, Nat.reduceAnd, hide_ite, snd_ite, foldS_frame, whenS_frame, foldl_frame, ite_self, implies_true, mk_leaf, State.hideU, Ce.hide, Glb.hide, Flt.hide, Hif.hide, Sec.hide, Stp.hide, pick, Nat.reduceEqDiff, reduceIte] | with_reducible refine (foldS_frame _ _ _ (fun _ _ => ?_) _).trans ?_ | with_reducible refine (whenS_frame _ _ _ _ (fun _ => ?_)).trans ?_ | split)

theorem State.gfpClose_frame (W : Nat) (hW : 4398063288320 &&& W = 4398063288320) (ch : Nat) (tx rx : Bool) (s : State) : (State.gfpClose ch tx rx s).hide W = s.hide W := by
  refine hide_mono _ _ hW ?_
  unfold State.gfpClose
  repeat' (first | with_reducible rfl | simp only [State.modGfp_frame, State.seeBits_frame, Nat.reduceAnd, hide_ite, snd_ite, foldS_frame, whenS_frame, foldl_frame, ite_self, implies_true, mk_leaf, State.hideU, Ce.hide, Glb.hide, Flt.hide, Hif.hide, Sec.hide, Stp.hide, pick, Nat.reduceEqDiff, reduceIte] | with_reducible refine (foldS_frame _ _ _ (fun _ _ => ?_) _).trans ?_ | with_reducible refine (whenS_frame _ _ _ _ (fun _ => ?_)).trans ?_ | split)

theorem State.gfpFlush_frame (W : Nat) (hW : 4398063323136 &&& W = 4398063323136) (ch : Nat) (tx rx : Bool) (s : State) : (State.gfpFlush ch tx rx s).hide W = s.hide W := by
  refine hide_mono _ _ hW ?_
  unfold State.gfpFlush
  repeat' (first | with_reducible rfl | simp only [State.consumeAll_frame, State.modGfp_frame, State.setLfd_frame, Nat.reduceAnd, hide_ite, snd_ite, foldS_frame, whenS_frame, foldl_frame, ite_self, implies_true, mk_leaf, State.hideU, Ce.hide, Glb.hide, Flt.hide, Hif.hide, Sec.hide, Stp.hide, pick, Nat.reduceEqDiff, reduceIte] | with_reducible refine (foldS_frame _ _ _ (fun _ _ => ?_) _).trans ?_ | with_reducible refine (whenS_frame _ _ _ _ (fun _ => ?_)).trans ?_ | split)

theorem State.gfpQptr_frame (W : Nat) (hW : 4398063323136 &&& W = 4398063323136) (ch : Nat) (rx : Bool) (s : State) : (State.gfpQptr ch rx s).hide W = s.hide W := by
  refine hide_mono _ _ hW ?_
  unfold State.gfpQptr
  repeat' (first | with_reducible rfl | simp only [State.consume_frame, State.modGfp_frame, State.setLfd_frame, Nat.reduceAnd, hide_ite, snd_ite, foldS_frame, whenS_frame, foldl_frame, ite_self, implies_true, mk_leaf, State.hideU, Ce.hide, Glb.hide, Flt.hide, Hif.hide, Sec.hide, Stp.hide, pick, Nat.reduceEqDiff, reduceIte] | with_reducible refine (foldS_frame _ _ _ (fun _ _ => ?_) _).trans ?_ | with_reducible refine (whenS_frame _ _ _ _ (fun _ => ?_)).trans ?_ | split)

theorem State.gfpTick_frame (W : Nat) (hW : 4398046543872 &&& W = 4398046543872) (ch : Nat) (s : State) : (State.gfpTick ch s).hide W = s.hide W := by
  refine hide_mono _ _ hW ?_
  unfold State.gfpTick
  repeat' (first | with_reducible rfl | simp only [State.consume_frame, State.modGfp_frame, Nat.reduceAnd, hide_ite, snd_ite, foldS_frame, whenS_frame, foldl_frame, ite_self, implies_true, mk_leaf, State.hideU, Ce.hide, Glb.hide, Flt.hide, Hif.hide, Sec.hide, Stp.hide, pick, Nat.reduceEqDiff, reduceIte] | with_reducible refine (foldS_frame _ _ _ (fun _ _ => ?_) _).trans ?_ | with_reducible refine (whenS_frame _ _ _ _ (fun _ => ?_)).trans ?_ | split)

theorem State.gfpFetch_frame (W : Nat) (hW : 4398046611472 &&& W = 4398046611472) (ch : Nat) (o : GfpOp) (d : BufDesc) (data : List Byte) (s : State) : (State.gfpFetch ch o d data s).hide W = s.hide W := by
  refine hide_mono _ _ hW ?_
  unfold State.gfpFetch
  repeat' (first | with_reducible rfl | simp only [State.badDesc_frame, State.consume_frame, State.modGfp_frame, State.readOk_frame, Nat.reduceAnd, hide_ite, snd_ite, foldS_frame, whenS_frame, foldl_frame, ite_self, implies_true, mk_leaf, State.hideU, Ce.hide, Glb.hide, Flt.hide, Hif.hide, Sec.hide, Stp.hide, pick, Nat.reduceEqDiff, reduceIte] | with_reducible refine (foldS_frame _ _ _ (fun _ _ => ?_) _).trans ?_ | with_reducible refine (whenS_frame _ _ _ _ (fun _ => ?_)).trans ?_ | split)

theorem execGfpTxFrame_frame (W : Nat) (hW : 4398046611472 &&& W = 4398046611472) (ch : Fin 64) (d : BufDesc) (data : List Byte) (s : State) : (after1 (execGfpTxFrame ch d data) s).hide W = s.hide W := by
  refine hide_mono _ _ hW ?_
  unfold after1 execGfpTxFrame
  repeat' (first | with_reducible rfl | simp only [State.gfpFetch_frame, Nat.reduceAnd, hide_ite, snd_ite, foldS_frame, whenS_frame, foldl_frame, ite_self, implies_true, mk_leaf, State.hideU, Ce.hide, Glb.hide, Flt.hide, Hif.hide, Sec.hide, Stp.hide, pick, Nat.reduceEqDiff, reduceIte] | with_reducible refine (foldS_frame _ _ _ (fun _ _ => ?_) _).trans ?_ | with_reducible refine (whenS_frame _ _ _ _ (fun _ => ?_)).trans ?_ | split)

theorem execGfpRxHeader_frame (W : Nat) (hW : 4398063388688 &&& W = 4398063388688) (ch : Fin 64) (addr : DWord) (c : BufCtl) (s : State) : (after1 (execGfpRxHeader ch addr c) s).hide W = s.hide W := by
  refine hide_mono _ _ hW ?_
  unfold after1 execGfpRxHeader
  repeat' (first | with_reducible rfl | simp only [State.gfpHeader_frame, Nat.reduceAnd, hide_ite, snd_ite, foldS_frame, whenS_frame, foldl_frame, ite_self, implies_true, mk_leaf, State.hideU, Ce.hide, Glb.hide, Flt.hide, Hif.hide, Sec.hide, Stp.hide, pick, Nat.reduceEqDiff, reduceIte] | with_reducible refine (foldS_frame _ _ _ (fun _ _ => ?_) _).trans ?_ | with_reducible refine (whenS_frame _ _ _ _ (fun _ => ?_)).trans ?_ | split)

theorem State.sendJ1_frame (W : Nat) (hW : 2147483648 &&& W = 2147483648) (k : Nat) (s : State) : (State.sendJ1 k s).2.hide W = s.hide W := by
  refine hide_mono _ _ hW ?_
  unfold State.sendJ1
  repeat' (first | with_reducible rfl | simp only [State.traceSend_frame, Nat.reduceAnd, hide_ite, snd_ite, foldS_frame, whenS_frame, foldl_frame, ite_self, implies_true, mk_leaf, State.hideU, Ce.hide, Glb.hide, Flt.hide, Hif.hide, Sec.hide, Stp.hide, pick, Nat.reduceEqDiff, reduceIte] | with_reducible refine (foldS_frame _ _ _ (fun _ _ => ?_) _).trans ?_ | with_reducible refine (whenS_frame _ _ _ _ (fun _ => ?_)).trans ?_ | split)

theorem State.sendVc_frame (W : Nat) (hW : 3221225472 &&& W = 3221225472) (k w : Nat) (h4 : Byte) (row : Nat → List Byte) (s : State) : (State.sendVc k w h4 row s).hide W = s.hide W := by
  refine hide_mono _ _ hW ?_
  unfold State.sendVc
  repeat' (first | with_reducible rfl | simp only [State.modFlow_frame, State.sendJ1_frame, State.setHoSrc_frame, Nat.reduceAnd, hide_ite, snd_ite, foldS_frame, whenS_frame, foldl_frame, ite_self, implies_true, mk_leaf, State.hideU, Ce.hide, Glb.hide, Flt.hide, Hif.hide, Sec.hide, Stp.hide, pick, Nat.reduceEqDiff, reduceIte] | with_reducible refine (foldS_frame _ _ _ (fun _ _ => ?_) _).trans ?_ | with_reducible refine (whenS_frame _ _ _ _ (fun _ => ?_)).trans ?_ | split)

theorem State.loSend_frame (W : Nat) (hW : 3221225472 &&& W = 3221225472) (m : Nat) (v : Vc4) (k w : Nat) (gs : List Nat) (s : State) : (State.loSend m v k w gs s).hide W = s.hide W := by
  refine hide_mono _ _ hW ?_
  unfold State.loSend
  repeat' (first | with_reducible rfl | simp only [State.sendVc_frame, Nat.reduceAnd, hide_ite, snd_ite, foldS_frame, whenS_frame, foldl_frame, ite_self, implies_true, mk_leaf, State.hideU, Ce.hide, Glb.hide, Flt.hide, Hif.hide, Sec.hide, Stp.hide, pick, Nat.reduceEqDiff, reduceIte] | with_reducible refine (foldS_frame _ _ _ (fun _ _ => ?_) _).trans ?_ | with_reducible refine (whenS_frame _ _ _ _ (fun _ => ?_)).trans ?_ | split)

theorem State.loVcs_frame (W : Nat) (hW : 3221225472 &&& W = 3221225472) (s : State) : (State.loVcs s).hide W = s.hide W := by
  refine hide_mono _ _ hW ?_
  unfold State.loVcs
  repeat' (first | with_reducible rfl | simp only [State.loSend_frame, Nat.reduceAnd, hide_ite, snd_ite, foldS_frame, whenS_frame, foldl_frame, ite_self, implies_true, mk_leaf, State.hideU, Ce.hide, Glb.hide, Flt.hide, Hif.hide, Sec.hide, Stp.hide, pick, Nat.reduceEqDiff, reduceIte] | with_reducible refine (foldS_frame _ _ _ (fun _ _ => ?_) _).trans ?_ | with_reducible refine (whenS_frame _ _ _ _ (fun _ => ?_)).trans ?_ | split)

theorem State.gfpVcs_frame (W : Nat) (hW : 4401267769344 &&& W = 4401267769344) (s : State) : (State.gfpVcs s).hide W = s.hide W := by
  refine hide_mono _ _ hW ?_
  unfold State.gfpVcs
  repeat' (first | with_reducible rfl | simp only [State.gfpTick_frame, State.sendVc_frame, Nat.reduceAnd, hide_ite, snd_ite, foldS_frame, whenS_frame, foldl_frame, ite_self, implies_true, mk_leaf, State.hideU, Ce.hide, Glb.hide, Flt.hide, Hif.hide, Sec.hide, Stp.hide, pick, Nat.reduceEqDiff, reduceIte] | with_reducible refine (foldS_frame _ _ _ (fun _ _ => ?_) _).trans ?_ | with_reducible refine (whenS_frame _ _ _ _ (fun _ => ?_)).trans ?_ | split)

theorem State.mapperFrame_frame (W : Nat) (hW : 4461950961664 &&& W = 4461950961664) (s : State) : (State.mapperFrame s).hide W = s.hide W := by
  refine hide_mono _ _ hW ?_
  unfold State.mapperFrame
  repeat' (first | with_reducible rfl | simp only [State.gfpVcs_frame, State.loVcs_frame, State.loopFrame_frame, State.sinkFrame_frame, Nat.reduceAnd, hide_ite, snd_ite, foldS_frame, whenS_frame, foldl_frame, ite_self, implies_true, mk_leaf, State.hideU, Ce.hide, Glb.hide, Flt.hide, Hif.hide, Sec.hide, Stp.hide, pick, Nat.reduceEqDiff, reduceIte] | with_reducible refine (foldS_frame _ _ _ (fun _ _ => ?_) _).trans ?_ | with_reducible refine (whenS_frame _ _ _ _ (fun _ => ?_)).trans ?_ | split)

theorem State.mapperSinks_frame (W : Nat) (hW : 4461950928896 &&& W = 4461950928896) (s : State) : (State.mapperSinks s).hide W = s.hide W := by
  refine hide_mono _ _ hW ?_
  unfold State.mapperSinks
  repeat' (first | with_reducible rfl | simp only [State.sinkPull_frame, Nat.reduceAnd, hide_ite, snd_ite, foldS_frame, whenS_frame, foldl_frame, ite_self, implies_true, mk_leaf, State.hideU, Ce.hide, Glb.hide, Flt.hide, Hif.hide, Sec.hide, Stp.hide, pick, Nat.reduceEqDiff, reduceIte] | with_reducible refine (foldS_frame _ _ _ (fun _ _ => ?_) _).trans ?_ | with_reducible refine (whenS_frame _ _ _ _ (fun _ => ?_)).trans ?_ | split)

theorem State.setKey_frame (W : Nat) (hW : 1048576 &&& W = 1048576) (i : Nat) (x : KeySlot) (s : State) : (State.setKey i x s).hide W = s.hide W := by
  refine hide_mono _ _ hW ?_
  unfold State.setKey
  repeat' (first | with_reducible rfl | simp only [Nat.reduceAnd, hide_ite, snd_ite, foldS_frame, whenS_frame, foldl_frame, ite_self, implies_true, mk_leaf, State.hideU, Ce.hide, Glb.hide, Flt.hide, Hif.hide, Sec.hide, Stp.hide, pick, Nat.reduceEqDiff, reduceIte] | with_reducible refine (foldS_frame _ _ _ (fun _ _ => ?_) _).trans ?_ | with_reducible refine (whenS_frame _ _ _ _ (fun _ => ?_)).trans ?_ | split)

theorem State.staleOps_frame (W : Nat) (hW : 1048576 &&& W = 1048576) (slot : Nat) (s : State) : (State.staleOps slot s).hide W = s.hide W := by
  refine hide_mono _ _ hW ?_
  unfold State.staleOps
  repeat' (first | with_reducible rfl | simp only [Nat.reduceAnd, hide_ite, snd_ite, foldS_frame, whenS_frame, foldl_frame, ite_self, implies_true, mk_leaf, State.hideU, Ce.hide, Glb.hide, Flt.hide, Hif.hide, Sec.hide, Stp.hide, pick, Nat.reduceEqDiff, reduceIte] | with_reducible refine (foldS_frame _ _ _ (fun _ _ => ?_) _).trans ?_ | with_reducible refine (whenS_frame _ _ _ _ (fun _ => ?_)).trans ?_ | split)

theorem State.emptyWindows_frame (W : Nat) (hW : 8796093022208 &&& W = 8796093022208) (slot : Nat) (s : State) : (State.emptyWindows slot s).hide W = s.hide W := by
  refine hide_mono _ _ hW ?_
  unfold State.emptyWindows
  repeat' (first | with_reducible rfl | simp only [Nat.reduceAnd, hide_ite, snd_ite, foldS_frame, whenS_frame, foldl_frame, ite_self, implies_true, mk_leaf, State.hideU, Ce.hide, Glb.hide, Flt.hide, Hif.hide, Sec.hide, Stp.hide, pick, Nat.reduceEqDiff, reduceIte] | with_reducible refine (foldS_frame _ _ _ (fun _ _ => ?_) _).trans ?_ | with_reducible refine (whenS_frame _ _ _ _ (fun _ => ?_)).trans ?_ | split)

theorem State.keyLoad_frame (W : Nat) (hW : 8796094079008 &&& W = 8796094079008) (slot : Nat) (aes256 : Bool) (key : List Byte) (s : State) : (State.keyLoad slot aes256 key s).hide W = s.hide W := by
  refine hide_mono _ _ hW ?_
  unfold State.keyLoad
  repeat' (first | with_reducible rfl | simp only [State.emptyWindows_frame, State.setKey_frame, State.staleOps_frame, State.wordWritten_frame, Nat.reduceAnd, hide_ite, snd_ite, foldS_frame, whenS_frame, foldl_frame, ite_self, implies_true, mk_leaf, State.hideU, Ce.hide, Glb.hide, Flt.hide, Hif.hide, Sec.hide, Stp.hide, pick, Nat.reduceEqDiff, reduceIte] | with_reducible refine (foldS_frame _ _ _ (fun _ _ => ?_) _).trans ?_ | with_reducible refine (whenS_frame _ _ _ _ (fun _ => ?_)).trans ?_ | split)

theorem State.keyErase_frame (W : Nat) (hW : 1048576 &&& W = 1048576) (slot : Nat) (s : State) : (State.keyErase slot s).hide W = s.hide W := by
  refine hide_mono _ _ hW ?_
  unfold State.keyErase
  repeat' (first | with_reducible rfl | simp only [State.setKey_frame, State.staleOps_frame, Nat.reduceAnd, hide_ite, snd_ite, foldS_frame, whenS_frame, foldl_frame, ite_self, implies_true, mk_leaf, State.hideU, Ce.hide, Glb.hide, Flt.hide, Hif.hide, Sec.hide, Stp.hide, pick, Nat.reduceEqDiff, reduceIte] | with_reducible refine (foldS_frame _ _ _ (fun _ _ => ?_) _).trans ?_ | with_reducible refine (whenS_frame _ _ _ _ (fun _ => ?_)).trans ?_ | split)

theorem State.keyRead_frame (W : Nat) (hW : 1050656 &&& W = 1050656) (slot : Nat) (s : State) : (State.keyRead slot s).hide W = s.hide W := by
  refine hide_mono _ _ hW ?_
  unfold State.keyRead
  repeat' (first | with_reducible rfl | simp only [State.clearUpset_frame, State.setKey_frame, State.sramErr_frame, Nat.reduceAnd, hide_ite, snd_ite, foldS_frame, whenS_frame, foldl_frame, ite_self, implies_true, mk_leaf, State.hideU, Ce.hide, Glb.hide, Flt.hide, Hif.hide, Sec.hide, Stp.hide, pick, Nat.reduceEqDiff, reduceIte] | with_reducible refine (foldS_frame _ _ _ (fun _ _ => ?_) _).trans ?_ | with_reducible refine (whenS_frame _ _ _ _ (fun _ => ?_)).trans ?_ | split)

theorem State.oxVerdict_frame (W : Nat) (hW : 1048576 &&& W = 1048576) (id : Nat) (ok : Bool) (s : State) : (State.oxVerdict id ok s).hide W = s.hide W := by
  refine hide_mono _ _ hW ?_
  unfold State.oxVerdict
  repeat' (first | with_reducible rfl | simp only [Nat.reduceAnd, hide_ite, snd_ite, foldS_frame, whenS_frame, foldl_frame, ite_self, implies_true, mk_leaf, State.hideU, Ce.hide, Glb.hide, Flt.hide, Hif.hide, Sec.hide, Stp.hide, pick, Nat.reduceEqDiff, reduceIte] | with_reducible refine (foldS_frame _ _ _ (fun _ _ => ?_) _).trans ?_ | with_reducible refine (whenS_frame _ _ _ _ (fun _ => ?_)).trans ?_ | split)

theorem State.dropOp_frame (W : Nat) (hW : 1048576 &&& W = 1048576) (id : Nat) (s : State) : (State.dropOp id s).hide W = s.hide W := by
  refine hide_mono _ _ hW ?_
  unfold State.dropOp
  repeat' (first | with_reducible rfl | simp only [Nat.reduceAnd, hide_ite, snd_ite, foldS_frame, whenS_frame, foldl_frame, ite_self, implies_true, mk_leaf, State.hideU, Ce.hide, Glb.hide, Flt.hide, Hif.hide, Sec.hide, Stp.hide, pick, Nat.reduceEqDiff, reduceIte] | with_reducible refine (foldS_frame _ _ _ (fun _ _ => ?_) _).trans ?_ | with_reducible refine (whenS_frame _ _ _ _ (fun _ => ?_)).trans ?_ | split)

theorem State.cmacStart_frame (W : Nat) (hW : 8796094171184 &&& W = 8796094171184) (o : CmacOp) (s : State) : (State.cmacStart o s).hide W = s.hide W := by
  refine hide_mono _ _ hW ?_
  unfold State.cmacStart
  repeat' (first | with_reducible rfl | simp only [State.dropOp_frame, State.keyRead_frame, State.modDcc_frame, State.oxDone_frame, State.oxVerdict_frame, State.raise_frame, State.setKey_frame, Nat.reduceAnd, hide_ite, snd_ite, foldS_frame, whenS_frame, foldl_frame, ite_self, implies_true, mk_leaf, State.hideU, Ce.hide, Glb.hide, Flt.hide, Hif.hide, Sec.hide, Stp.hide, pick, Nat.reduceEqDiff, reduceIte] | with_reducible refine (foldS_frame _ _ _ (fun _ _ => ?_) _).trans ?_ | with_reducible refine (whenS_frame _ _ _ _ (fun _ => ?_)).trans ?_ | split)

theorem State.cmacPump_frame (W : Nat) (hW : 8796094171184 &&& W = 8796094171184) (s : State) : (State.cmacPump s).hide W = s.hide W := by
  refine hide_mono _ _ hW ?_
  unfold State.cmacPump
  repeat' (first | with_reducible rfl | simp only [State.cmacStart_frame, Nat.reduceAnd, hide_ite, snd_ite, foldS_frame, whenS_frame, foldl_frame, ite_self, implies_true, mk_leaf, State.hideU, Ce.hide, Glb.hide, Flt.hide, Hif.hide, Sec.hide, Stp.hide, pick, Nat.reduceEqDiff, reduceIte] | with_reducible refine (foldS_frame _ _ _ (fun _ _ => ?_) _).trans ?_ | with_reducible refine (whenS_frame _ _ _ _ (fun _ => ?_)).trans ?_ | split)

theorem State.cmacEnd_frame (W : Nat) (hW : 8796094171184 &&& W = 8796094171184) (o : CmacOp) (s : State) : (State.cmacEnd o s).hide W = s.hide W := by
  refine hide_mono _ _ hW ?_
  unfold State.cmacEnd
  repeat' (first | with_reducible rfl | simp only [State.clearUpset_frame, State.cmacPump_frame, State.dropOp_frame, State.modDcc_frame, State.oxDone_frame, State.oxVerdict_frame, State.sramErr_frame, Nat.reduceAnd, hide_ite, snd_ite, foldS_frame, whenS_frame, foldl_frame, ite_self, implies_true, mk_leaf, State.hideU, Ce.hide, Glb.hide, Flt.hide, Hif.hide, Sec.hide, Stp.hide, pick, Nat.reduceEqDiff, reduceIte] | with_reducible refine (foldS_frame _ _ _ (fun _ _ => ?_) _).trans ?_ | with_reducible refine (whenS_frame _ _ _ _ (fun _ => ?_)).trans ?_ | split)

theorem State.signOp_frame (W : Nat) (hW : 1048576 &&& W = 1048576) (ch id : Nat) (info : List Byte) (s : State) : (State.signOp ch id info s).hide W = s.hide W := by
  refine hide_mono _ _ hW ?_
  unfold State.signOp
  repeat' (first | with_reducible rfl | simp only [Nat.reduceAnd, hide_ite, snd_ite, foldS_frame, whenS_frame, foldl_frame, ite_self, implies_true, mk_leaf, State.hideU, Ce.hide, Glb.hide, Flt.hide, Hif.hide, Sec.hide, Stp.hide, pick, Nat.reduceEqDiff, reduceIte] | with_reducible refine (foldS_frame _ _ _ (fun _ _ => ?_) _).trans ?_ | with_reducible refine (whenS_frame _ _ _ _ (fun _ => ?_)).trans ?_ | split)

theorem State.dccQueue_frame (W : Nat) (hW : 8796094171184 &&& W = 8796094171184) (ch : Nat) (info : List Byte) (s : State) : (State.dccQueue ch info s).hide W = s.hide W := by
  refine hide_mono _ _ hW ?_
  unfold State.dccQueue
  repeat' (first | with_reducible rfl | simp only [State.cmacPump_frame, State.newId_frame, State.setDcc_frame, State.signOp_frame, Nat.reduceAnd, hide_ite, snd_ite, foldS_frame, whenS_frame, foldl_frame, ite_self, implies_true, mk_leaf, State.hideU, Ce.hide, Glb.hide, Flt.hide, Hif.hide, Sec.hide, Stp.hide, pick, Nat.reduceEqDiff, reduceIte] | with_reducible refine (foldS_frame _ _ _ (fun _ _ => ?_) _).trans ?_ | with_reducible refine (whenS_frame _ _ _ _ (fun _ => ?_)).trans ?_ | split)

theorem State.resign_frame (W : Nat) (hW : 8796094171184 &&& W = 8796094171184) (ch : Nat) (s : State) : (State.resign ch s).hide W = s.hide W := by
  refine hide_mono _ _ hW ?_
  unfold State.resign
  repeat' (first | with_reducible rfl | simp only [State.cmacPump_frame, State.setDcc_frame, State.signOp_frame, Nat.reduceAnd, hide_ite, snd_ite, foldS_frame, whenS_frame, foldl_frame, ite_self, implies_true, mk_leaf, State.hideU, Ce.hide, Glb.hide, Flt.hide, Hif.hide, Sec.hide, Stp.hide, pick, Nat.reduceEqDiff, reduceIte] | with_reducible refine (foldS_frame _ _ _ (fun _ _ => ?_) _).trans ?_ | with_reducible refine (whenS_frame _ _ _ _ (fun _ => ?_)).trans ?_ | split)

theorem State.dccDeliver_frame (W : Nat) (hW : 8796094171184 &&& W = 8796094171184) (id ch : Nat) (f : DccFrame) (badFcs : Bool) (s : State) : (State.dccDeliver id ch f badFcs s).hide W = s.hide W := by
  refine hide_mono _ _ hW ?_
  unfold State.dccDeliver
  repeat' (first | with_reducible rfl | simp only [State.cmacPump_frame, State.oxDone_frame, State.oxMod_frame, State.oxStream_frame, Nat.reduceAnd, hide_ite, snd_ite, foldS_frame, whenS_frame, foldl_frame, ite_self, implies_true, mk_leaf, State.hideU, Ce.hide, Glb.hide, Flt.hide, Hif.hide, Sec.hide, Stp.hide, pick, Nat.reduceEqDiff, reduceIte] | with_reducible refine (foldS_frame _ _ _ (fun _ _ => ?_) _).trans ?_ | with_reducible refine (whenS_frame _ _ _ _ (fun _ => ?_)).trans ?_ | split)

theorem State.dccDrop_frame (W : Nat) (hW : 8796094171152 &&& W = 8796094171152) (ch c : Nat) (f : DccFrame) (s : State) : (State.dccDrop ch c f s).hide W = s.hide W := by
  refine hide_mono _ _ hW ?_
  unfold State.dccDrop
  repeat' (first | with_reducible rfl | simp only [State.modDcc_frame, State.oxCancel_frame, Nat.reduceAnd, hide_ite, snd_ite, foldS_frame, whenS_frame, foldl_frame, ite_self, implies_true, mk_leaf, State.hideU, Ce.hide, Glb.hide, Flt.hide, Hif.hide, Sec.hide, Stp.hide, pick, Nat.reduceEqDiff, reduceIte] | with_reducible refine (foldS_frame _ _ _ (fun _ _ => ?_) _).trans ?_ | with_reducible refine (whenS_frame _ _ _ _ (fun _ => ?_)).trans ?_ | split)

theorem State.dccJudge_frame (W : Nat) (hW : 8796094171184 &&& W = 8796094171184) (ch : Nat) (f : DccFrame) (s : State) : (State.dccJudge ch f s).hide W = s.hide W := by
  refine hide_mono _ _ hW ?_
  unfold State.dccJudge
  repeat' (first | with_reducible rfl | simp only [State.dccDeliver_frame, State.dccDrop_frame, Nat.reduceAnd, hide_ite, snd_ite, foldS_frame, whenS_frame, foldl_frame, ite_self, implies_true, mk_leaf, State.hideU, Ce.hide, Glb.hide, Flt.hide, Hif.hide, Sec.hide, Stp.hide, pick, Nat.reduceEqDiff, reduceIte] | with_reducible refine (foldS_frame _ _ _ (fun _ _ => ?_) _).trans ?_ | with_reducible refine (whenS_frame _ _ _ _ (fun _ => ?_)).trans ?_ | split)

theorem State.dccIn_frame (W : Nat) (hW : 8796094171184 &&& W = 8796094171184) (ch : Nat) (d : BufDesc) (f : DccFrame) (s : State) : (State.dccIn ch d f s).hide W = s.hide W := by
  refine hide_mono _ _ hW ?_
  unfold State.dccIn
  repeat' (first | with_reducible rfl | simp only [State.dccBuf_frame, State.dccJudge_frame, State.oxStream_frame, Nat.reduceAnd, hide_ite, snd_ite, foldS_frame, whenS_frame, foldl_frame, ite_self, implies_true, mk_leaf, State.hideU, Ce.hide, Glb.hide, Flt.hide, Hif.hide, Sec.hide, Stp.hide, pick, Nat.reduceEqDiff, reduceIte] | with_reducible refine (foldS_frame _ _ _ (fun _ _ => ?_) _).trans ?_ | with_reducible refine (whenS_frame _ _ _ _ (fun _ => ?_)).trans ?_ | split)

theorem State.dccOpen_frame (W : Nat) (hW : 8796094171152 &&& W = 8796094171152) (ch : Nat) (d : BufDesc) (s : State) : (State.dccOpen ch d s).hide W = s.hide W := by
  refine hide_mono _ _ hW ?_
  unfold State.dccOpen
  repeat' (first | with_reducible rfl | simp only [State.dccBuf_frame, State.modDcc_frame, State.oxArriving_frame, Nat.reduceAnd, hide_ite, snd_ite, foldS_frame, whenS_frame, foldl_frame, ite_self, implies_true, mk_leaf, State.hideU, Ce.hide, Glb.hide, Flt.hide, Hif.hide, Sec.hide, Stp.hide, pick, Nat.reduceEqDiff, reduceIte] | with_reducible refine (foldS_frame _ _ _ (fun _ _ => ?_) _).trans ?_ | with_reducible refine (whenS_frame _ _ _ _ (fun _ => ?_)).trans ?_ | split)

theorem State.dccAuthCfg_frame (W : Nat) (hW : 8796094171184 &&& W = 8796094171184) (o : DccAuthOp) (s : State) : (State.dccAuthCfg o s).hide W = s.hide W := by
  refine hide_mono _ _ hW ?_
  unfold State.dccAuthCfg
  repeat' (first | with_reducible rfl | simp only [State.resign_frame, State.setDcc_frame, Nat.reduceAnd, hide_ite, snd_ite, foldS_frame, whenS_frame, foldl_frame, ite_self, implies_true, mk_leaf, State.hideU, Ce.hide, Glb.hide, Flt.hide, Hif.hide, Sec.hide, Stp.hide, pick, Nat.reduceEqDiff, reduceIte] | with_reducible refine (foldS_frame _ _ _ (fun _ _ => ?_) _).trans ?_ | with_reducible refine (whenS_frame _ _ _ _ (fun _ => ?_)).trans ?_ | split)

theorem State.dccClear_frame (W : Nat) (hW : 8796094171152 &&& W = 8796094171152) (ch : Nat) (s : State) : (State.dccClear ch s).hide W = s.hide W := by
  refine hide_mono _ _ hW ?_
  unfold State.dccClear
  repeat' (first | with_reducible rfl | simp only [State.modDcc_frame, State.oxCancel_frame, Nat.reduceAnd, hide_ite, snd_ite, foldS_frame, whenS_frame, foldl_frame, ite_self, implies_true, mk_leaf, State.hideU, Ce.hide, Glb.hide, Flt.hide, Hif.hide, Sec.hide, Stp.hide, pick, Nat.reduceEqDiff, reduceIte] | with_reducible refine (foldS_frame _ _ _ (fun _ _ => ?_) _).trans ?_ | with_reducible refine (whenS_frame _ _ _ _ (fun _ => ?_)).trans ?_ | split)

theorem State.dccQptr_frame (W : Nat) (hW : 8796094171184 &&& W = 8796094171184) (ch : Nat) (s : State) : (State.dccQptr ch s).hide W = s.hide W := by
  refine hide_mono _ _ hW ?_
  unfold State.dccQptr
  repeat' (first | with_reducible rfl | simp only [State.cmacPump_frame, State.dccClear_frame, Nat.reduceAnd, hide_ite, snd_ite, foldS_frame, whenS_frame, foldl_frame, ite_self, implies_true, mk_leaf, State.hideU, Ce.hide, Glb.hide, Flt.hide, Hif.hide, Sec.hide, Stp.hide, pick, Nat.reduceEqDiff, reduceIte] | with_reducible refine (foldS_frame _ _ _ (fun _ _ => ?_) _).trans ?_ | with_reducible refine (whenS_frame _ _ _ _ (fun _ => ?_)).trans ?_ | split)

theorem execDccTxFrame_frame (W : Nat) (hW : 8796094171184 &&& W = 8796094171184) (d : BufDesc) (buf : List Byte) (s : State) : (after1 (execDccTxFrame d buf) s).hide W = s.hide W := by
  refine hide_mono _ _ hW ?_
  unfold after1 execDccTxFrame
  repeat' (first | with_reducible rfl | simp only [State.badDesc_frame, State.consume_frame, State.dccQueue_frame, State.modDcc_frame, Nat.reduceAnd, hide_ite, snd_ite, foldS_frame, whenS_frame, foldl_frame, ite_self, implies_true, mk_leaf, State.hideU, Ce.hide, Glb.hide, Flt.hide, Hif.hide, Sec.hide, Stp.hide, pick, Nat.reduceEqDiff, reduceIte] | with_reducible refine (foldS_frame _ _ _ (fun _ _ => ?_) _).trans ?_ | with_reducible refine (whenS_frame _ _ _ _ (fun _ => ?_)).trans ?_ | split)

theorem execDccRxFrame_frame (W : Nat) (hW : 8796094171184 &&& W = 8796094171184) (ch : Fin 64) (addr : DWord) (c : BufCtl) (s : State) : (after1 (execDccRxFrame ch addr c) s).hide W = s.hide W := by
  refine hide_mono _ _ hW ?_
  unfold after1 execDccRxFrame
  repeat' (first | with_reducible rfl | simp only [State.dccDrop_frame, State.dccIn_frame, State.dccOpen_frame, State.modDcc_frame, Nat.reduceAnd, hide_ite, snd_ite, foldS_frame, whenS_frame, foldl_frame, ite_self, implies_true, mk_leaf, State.hideU, Ce.hide, Glb.hide, Flt.hide, Hif.hide, Sec.hide, Stp.hide, pick, Nat.reduceEqDiff, reduceIte] | with_reducible refine (foldS_frame _ _ _ (fun _ _ => ?_) _).trans ?_ | with_reducible refine (whenS_frame _ _ _ _ (fun _ => ?_)).trans ?_ | split)

theorem execCmacDone_frame (W : Nat) (hW : 8796094171184 &&& W = 8796094171184) (slot : Fin 64) (s : State) : (after1 (execCmacDone slot) s).hide W = s.hide W := by
  refine hide_mono _ _ hW ?_
  unfold after1 execCmacDone
  repeat' (first | with_reducible rfl | simp only [State.cmacEnd_frame, Nat.reduceAnd, hide_ite, snd_ite, foldS_frame, whenS_frame, foldl_frame, ite_self, implies_true, mk_leaf, State.hideU, Ce.hide, Glb.hide, Flt.hide, Hif.hide, Sec.hide, Stp.hide, pick, Nat.reduceEqDiff, reduceIte] | with_reducible refine (foldS_frame _ _ _ (fun _ _ => ?_) _).trans ?_ | with_reducible refine (whenS_frame _ _ _ _ (fun _ => ?_)).trans ?_ | split)

theorem execQptr_frame (W : Nat) (hW : 15393180715056 &&& W = 15393180715056) (q : QOwner) (s : State) : (after1 (execQptr q) s).hide W = s.hide W := by
  refine hide_mono _ _ hW ?_
  unfold after1 execQptr
  repeat' (first | with_reducible rfl | simp only [State.dccQptr_frame, State.gfpQptr_frame, State.raise_frame, State.streamReset_frame, Nat.reduceAnd, hide_ite, snd_ite, foldS_frame, whenS_frame, foldl_frame, ite_self, implies_true, mk_leaf, State.hideU, Ce.hide, Glb.hide, Flt.hide, Hif.hide, Sec.hide, Stp.hide, pick, Nat.reduceEqDiff, reduceIte] | with_reducible refine (foldS_frame _ _ _ (fun _ _ => ?_) _).trans ?_ | with_reducible refine (whenS_frame _ _ _ _ (fun _ => ?_)).trans ?_ | split)


end Sys2Proof.Machine
end

