-- ==== Sys2Proof/Laws/FrameEngine.lean ====
section
/-! SUPPORT. Frames of the command engine, the host interface and the management plane.
Each lemma says which parts its operation can change: those of the mask in its hypothesis. -/

namespace Sys2Proof.Machine

set_option linter.unusedSimpArgs false
set_option linter.unreachableTactic false
set_option linter.unusedTactic false
set_option linter.unusedVariables false

theorem State.setXcPage_frame (W : Nat) (hW : 1073741824 &&& W = 1073741824) (b : Bool) (t : Tab Word) (s : State) : (State.setXcPage b t s).hide W = s.hide W := by
  refine hide_mono _ _ hW ?_
  unfold State.setXcPage
  repeat' (first | with_reducible rfl | simp only [Nat.reduceAnd, hide_ite, snd_ite, foldS_frame, whenS_frame, foldl_frame, ite_self, implies_true, mk_leaf, State.hideU, Ce.hide, Glb.hide, Flt.hide, Hif.hide, Sec.hide, Stp.hide, pick, Nat.reduceEqDiff, reduceIte] | with_reducible refine (foldS_frame _ _ _ (fun _ _ => ?_) _).trans ?_ | with_reducible refine (whenS_frame _ _ _ _ (fun _ => ?_)).trans ?_ | split)

theorem State.xcSet_frame (W : Nat) (hW : 1073741824 &&& W = 1073741824) (o : XcOp) (s : State) : (State.xcSet o s).hide W = s.hide W := by
  refine hide_mono _ _ hW ?_
  unfold State.xcSet
  repeat' (first | with_reducible rfl | simp only [State.setXcPage_frame, Nat.reduceAnd, hide_ite, snd_ite, foldS_frame, whenS_frame, foldl_frame, ite_self, implies_true, mk_leaf, State.hideU, Ce.hide, Glb.hide, Flt.hide, Hif.hide, Sec.hide, Stp.hide, pick, Nat.reduceEqDiff, reduceIte] | with_reducible refine (foldS_frame _ _ _ (fun _ _ => ?_) _).trans ?_ | with_reducible refine (whenS_frame _ _ _ _ (fun _ => ?_)).trans ?_ | split)

theorem State.xcSwap_frame (W : Nat) (hW : 1073741824 &&& W = 1073741824) (s : State) : (State.xcSwap s).hide W = s.hide W := by
  refine hide_mono _ _ hW ?_
  unfold State.xcSwap
  repeat' (first | with_reducible rfl | simp only [Nat.reduceAnd, hide_ite, snd_ite, foldS_frame, whenS_frame, foldl_frame, ite_self, implies_true, mk_leaf, State.hideU, Ce.hide, Glb.hide, Flt.hide, Hif.hide, Sec.hide, Stp.hide, pick, Nat.reduceEqDiff, reduceIte] | with_reducible refine (foldS_frame _ _ _ (fun _ _ => ?_) _).trans ?_ | with_reducible refine (whenS_frame _ _ _ _ (fun _ => ?_)).trans ?_ | split)

theorem State.xcCopyDone_frame (W : Nat) (hW : 1073741824 &&& W = 1073741824) (s : State) : (State.xcCopyDone s).hide W = s.hide W := by
  refine hide_mono _ _ hW ?_
  unfold State.xcCopyDone
  repeat' (first | with_reducible rfl | simp only [State.setXcPage_frame, Nat.reduceAnd, hide_ite, snd_ite, foldS_frame, whenS_frame, foldl_frame, ite_self, implies_true, mk_leaf, State.hideU, Ce.hide, Glb.hide, Flt.hide, Hif.hide, Sec.hide, Stp.hide, pick, Nat.reduceEqDiff, reduceIte] | with_reducible refine (foldS_frame _ _ _ (fun _ _ => ?_) _).trans ?_ | with_reducible refine (whenS_frame _ _ _ _ (fun _ => ?_)).trans ?_ | split)

theorem State.fabricCommit_frame (W : Nat) (hW : 825707462656 &&& W = 825707462656) (s : State) : (State.fabricCommit s).hide W = s.hide W := by
  refine hide_mono _ _ hW ?_
  unfold State.fabricCommit
  repeat' (first | with_reducible rfl | simp only [State.cnfSwap_frame, State.tswSwap_frame, State.xcSwap_frame, Nat.reduceAnd, hide_ite, snd_ite, foldS_frame, whenS_frame, foldl_frame, ite_self, implies_true, mk_leaf, State.hideU, Ce.hide, Glb.hide, Flt.hide, Hif.hide, Sec.hide, Stp.hide, pick, Nat.reduceEqDiff, reduceIte] | with_reducible refine (foldS_frame _ _ _ (fun _ _ => ?_) _).trans ?_ | with_reducible refine (whenS_frame _ _ _ _ (fun _ => ?_)).trans ?_ | split)

theorem execCopybackDone_frame (W : Nat) (hW : 825707464736 &&& W = 825707464736) (p : Paged) (s : State) : (after1 (execCopybackDone p) s).hide W = s.hide W := by
  refine hide_mono _ _ hW ?_
  unfold after1 execCopybackDone
  repeat' (first | with_reducible rfl | simp only [State.cnfCopyDone_frame, State.tswCopyDone_frame, State.xcCopyDone_frame, Nat.reduceAnd, hide_ite, snd_ite, foldS_frame, whenS_frame, foldl_frame, ite_self, implies_true, mk_leaf, State.hideU, Ce.hide, Glb.hide, Flt.hide, Hif.hide, Sec.hide, Stp.hide, pick, Nat.reduceEqDiff, reduceIte] | with_reducible refine (foldS_frame _ _ _ (fun _ _ => ?_) _).trans ?_ | with_reducible refine (whenS_frame _ _ _ _ (fun _ => ?_)).trans ?_ | split)

theorem State.dropTus_frame (W : Nat) (hW : 1073741824 &&& W = 1073741824) (m g k : Nat) (s : State) : (State.dropTus m g k s).hide W = s.hide W := by
  refine hide_mono _ _ hW ?_
  unfold State.dropTus
  repeat' (first | with_reducible rfl | simp only [Nat.reduceAnd, hide_ite, snd_ite, foldS_frame, whenS_frame, foldl_frame, ite_self, implies_true, mk_leaf, State.hideU, Ce.hide, Glb.hide, Flt.hide, Hif.hide, Sec.hide, Stp.hide, pick, Nat.reduceEqDiff, reduceIte] | with_reducible refine (foldS_frame _ _ _ (fun _ _ => ?_) _).trans ?_ | with_reducible refine (whenS_frame _ _ _ _ (fun _ => ?_)).trans ?_ | split)

theorem State.lomapSet_frame (W : Nat) (hW : 13958643712 &&& W = 13958643712) (m st tu11 : Nat) (s : State) : (State.lomapSet m st tu11 s).hide W = s.hide W := by
  refine hide_mono _ _ hW ?_
  unfold State.lomapSet
  repeat' (first | with_reducible rfl | simp only [State.dropTus_frame, Nat.reduceAnd, hide_ite, snd_ite, foldS_frame, whenS_frame, foldl_frame, ite_self, implies_true, mk_leaf, State.hideU, Ce.hide, Glb.hide, Flt.hide, Hif.hide, Sec.hide, Stp.hide, pick, Nat.reduceEqDiff, reduceIte] | with_reducible refine (foldS_frame _ _ _ (fun _ _ => ?_) _).trans ?_ | with_reducible refine (whenS_frame _ _ _ _ (fun _ => ?_)).trans ?_ | split)

theorem State.ohSet_frame (W : Nat) (hW : 18790481920 &&& W = 18790481920) (code : Nat) (t : Word) (v : Nat) (s : State) : (State.ohSet code t v s).hide W = s.hide W := by
  refine hide_mono _ _ hW ?_
  unfold State.ohSet
  repeat' (first | with_reducible rfl | simp only [State.modPort_frame, State.setHoSrc_frame, State.setLo_frame, State.setPath_frame, Nat.reduceAnd, hide_ite, snd_ite, foldS_frame, whenS_frame, foldl_frame, ite_self, implies_true, mk_leaf, State.hideU, Ce.hide, Glb.hide, Flt.hide, Hif.hide, Sec.hide, Stp.hide, pick, Nat.reduceEqDiff, reduceIte] | with_reducible refine (foldS_frame _ _ _ (fun _ _ => ?_) _).trans ?_ | with_reducible refine (whenS_frame _ _ _ _ (fun _ => ?_)).trans ?_ | split)

theorem State.traceSet_frame (W : Nat) (hW : 20954744832 &&& W = 20954744832) (o : TraceOp) (s : State) : (State.traceSet o s).hide W = s.hide W := by
  refine hide_mono _ _ hW ?_
  unfold State.traceSet
  repeat' (first | with_reducible rfl | simp only [State.setTim_frame, State.setTrace_frame, State.timUpdate_frame, Nat.reduceAnd, hide_ite, snd_ite, foldS_frame, whenS_frame, foldl_frame, ite_self, implies_true, mk_leaf, State.hideU, Ce.hide, Glb.hide, Flt.hide, Hif.hide, Sec.hide, Stp.hide, pick, Nat.reduceEqDiff, reduceIte] | with_reducible refine (foldS_frame _ _ _ (fun _ _ => ?_) _).trans ?_ | with_reducible refine (whenS_frame _ _ _ _ (fun _ => ?_)).trans ?_ | split)

theorem State.pmCfg_frame (W : Nat) (hW : 16777216 &&& W = 16777216) (scope i : Nat) (on : Bool) (s : State) : (State.pmCfg scope i on s).hide W = s.hide W := by
  refine hide_mono _ _ hW ?_
  unfold State.pmCfg
  repeat' (first | with_reducible rfl | simp only [Nat.reduceAnd, hide_ite, snd_ite, foldS_frame, whenS_frame, foldl_frame, ite_self, implies_true, mk_leaf, State.hideU, Ce.hide, Glb.hide, Flt.hide, Hif.hide, Sec.hide, Stp.hide, pick, Nat.reduceEqDiff, reduceIte] | with_reducible refine (foldS_frame _ _ _ (fun _ _ => ?_) _).trans ?_ | with_reducible refine (whenS_frame _ _ _ _ (fun _ => ?_)).trans ?_ | split)

theorem State.putRecord_frame (W : Nat) (hW : 16 &&& W = 16) (a : DWord) (b : List Byte) (s : State) : (State.putRecord a b s).2.hide W = s.hide W := by
  refine hide_mono _ _ hW ?_
  unfold State.putRecord
  repeat' (first | with_reducible rfl | simp only [State.dma_frame, Nat.reduceAnd, hide_ite, snd_ite, foldS_frame, whenS_frame, foldl_frame, ite_self, implies_true, mk_leaf, State.hideU, Ce.hide, Glb.hide, Flt.hide, Hif.hide, Sec.hide, Stp.hide, pick, Nat.reduceEqDiff, reduceIte] | with_reducible refine (foldS_frame _ _ _ (fun _ _ => ?_) _).trans ?_ | with_reducible refine (whenS_frame _ _ _ _ (fun _ => ?_)).trans ?_ | split)

theorem State.resClaim_frame (W : Nat) (hW : 6301728 &&& W = 6301728) (ring rtype i lease : Nat) (s : State) : (State.resClaim ring rtype i lease s).2.hide W = s.hide W := by
  refine hide_mono _ _ hW ?_
  unfold State.resClaim
  repeat' (first | with_reducible rfl | simp only [State.hostClaim_frame, State.lockClaim_frame, Nat.reduceAnd, hide_ite, snd_ite, foldS_frame, whenS_frame, foldl_frame, ite_self, implies_true, mk_leaf, State.hideU, Ce.hide, Glb.hide, Flt.hide, Hif.hide, Sec.hide, Stp.hide, pick, Nat.reduceEqDiff, reduceIte] | with_reducible refine (foldS_frame _ _ _ (fun _ _ => ?_) _).trans ?_ | with_reducible refine (whenS_frame _ _ _ _ (fun _ => ?_)).trans ?_ | split)

theorem State.resRelease_frame (W : Nat) (hW : 6301728 &&& W = 6301728) (ring rtype i : Nat) (s : State) : (State.resRelease ring rtype i s).hide W = s.hide W := by
  refine hide_mono _ _ hW ?_
  unfold State.resRelease
  repeat' (first | with_reducible rfl | simp only [State.hostRelease_frame, State.lockRelease_frame, Nat.reduceAnd, hide_ite, snd_ite, foldS_frame, whenS_frame, foldl_frame, ite_self, implies_true, mk_leaf, State.hideU, Ce.hide, Glb.hide, Flt.hide, Hif.hide, Sec.hide, Stp.hide, pick, Nat.reduceEqDiff, reduceIte] | with_reducible refine (foldS_frame _ _ _ (fun _ _ => ?_) _).trans ?_ | with_reducible refine (whenS_frame _ _ _ _ (fun _ => ?_)).trans ?_ | split)

theorem State.apply_frame (W : Nat) (hW : 17385514969140 &&& W = 17385514969140) (ring : Nat) (c : Cmd) (s : State) : (State.apply ring c s).2.hide W = s.hide W := by
  refine hide_mono _ _ hW ?_
  unfold State.apply
  repeat' (first | with_reducible rfl | simp only [State.cnfCreate_frame, State.cnfDestroy_frame, State.cnfJoin_frame, State.cnfLeave_frame, State.cnfModify_frame, State.dccAuthCfg_frame, State.fabricCommit_frame, State.gfpClose_frame, State.gfpFlush_frame, State.gfpOpen_frame, State.keyErase_frame, State.keyLoad_frame, State.lomapSet_frame, State.ohSet_frame, State.pmCfg_frame, State.protCmd_frame, State.protGroup_frame, State.putRecord_frame, State.resClaim_frame, State.resRelease_frame, State.setTrace_frame, State.sigSet_frame, State.streamClose_frame, State.streamFlush_frame, State.streamOpen_frame, State.toneLoad_frame, State.traceSet_frame, State.tribCfg_frame, State.tswFill_frame, State.tswPatch_frame, State.tswReadRec_frame, State.tswSet_frame, State.xcSet_frame, Nat.reduceAnd, hide_ite, snd_ite, foldS_frame, whenS_frame, foldl_frame, ite_self, implies_true, mk_leaf, State.hideU, Ce.hide, Glb.hide, Flt.hide, Hif.hide, Sec.hide, Stp.hide, pick, Nat.reduceEqDiff, reduceIte] | with_reducible refine (foldS_frame _ _ _ (fun _ _ => ?_) _).trans ?_ | with_reducible refine (whenS_frame _ _ _ _ (fun _ => ?_)).trans ?_ | split)

theorem State.project_frame (W : Nat) (hW : 8296804132896 &&& W = 8296804132896) (c : Cmd) (s : State) : (State.project c s).hide W = s.hide W := by
  refine hide_mono _ _ hW ?_
  unfold State.project
  repeat' (first | with_reducible rfl | simp only [State.cnfCopyDone_frame, State.cnfCreate_frame, State.cnfDestroy_frame, State.cnfJoin_frame, State.cnfLeave_frame, State.cnfModify_frame, State.cnfSwap_frame, State.fabricCommit_frame, State.gfpClose_frame, State.gfpOpen_frame, State.keyLoad_frame, State.lomapSet_frame, State.modGfp_frame, State.modStrm_frame, State.protGroup_frame, State.setGroup_frame, State.setKey_frame, State.setTrace_frame, State.streamClose_frame, State.streamOpen_frame, State.traceSet_frame, State.tribCfg_frame, State.xcCopyDone_frame, State.xcSet_frame, State.xcSwap_frame, Nat.reduceAnd, hide_ite, snd_ite, foldS_frame, whenS_frame, foldl_frame, ite_self, implies_true, mk_leaf, State.hideU, Ce.hide, Glb.hide, Flt.hide, Hif.hide, Sec.hide, Stp.hide, pick, Nat.reduceEqDiff, reduceIte] | with_reducible refine (foldS_frame _ _ _ (fun _ _ => ?_) _).trans ?_ | with_reducible refine (whenS_frame _ _ _ _ (fun _ => ?_)).trans ?_ | split)

theorem State.projectAll_frame (W : Nat) (hW : 8296804132896 &&& W = 8296804132896) (l : List Due) (s : State) : (State.projectAll l s).hide W = s.hide W := by
  refine hide_mono _ _ hW ?_
  unfold State.projectAll
  repeat' (first | with_reducible rfl | simp only [State.project_frame, Nat.reduceAnd, hide_ite, snd_ite, foldS_frame, whenS_frame, foldl_frame, ite_self, implies_true, mk_leaf, State.hideU, Ce.hide, Glb.hide, Flt.hide, Hif.hide, Sec.hide, Stp.hide, pick, Nat.reduceEqDiff, reduceIte] | with_reducible refine (foldS_frame _ _ _ (fun _ _ => ?_) _).trans ?_ | with_reducible refine (whenS_frame _ _ _ _ (fun _ => ?_)).trans ?_ | split)

theorem State.passHead_frame (W : Nat) (hW : 294912 &&& W = 294912) (n : Nat) (s : State) : (State.passHead n s).hide W = s.hide W := by
  refine hide_mono _ _ hW ?_
  unfold State.passHead
  repeat' (first | with_reducible rfl | simp only [State.modRing_frame, Nat.reduceAnd, hide_ite, snd_ite, foldS_frame, whenS_frame, foldl_frame, ite_self, implies_true, mk_leaf, State.hideU, Ce.hide, Glb.hide, Flt.hide, Hif.hide, Sec.hide, Stp.hide, pick, Nat.reduceEqDiff, reduceIte] | with_reducible refine (foldS_frame _ _ _ (fun _ _ => ?_) _).trans ?_ | with_reducible refine (whenS_frame _ _ _ _ (fun _ => ?_)).trans ?_ | split)

theorem State.grant_frame (W : Nat) (hW : 262144 &&& W = 262144) (n : Nat) (s : State) : (State.grant n s).hide W = s.hide W := by
  refine hide_mono _ _ hW ?_
  unfold State.grant
  repeat' (first | with_reducible rfl | simp only [Nat.reduceAnd, hide_ite, snd_ite, foldS_frame, whenS_frame, foldl_frame, ite_self, implies_true, mk_leaf, State.hideU, Ce.hide, Glb.hide, Flt.hide, Hif.hide, Sec.hide, Stp.hide, pick, Nat.reduceEqDiff, reduceIte] | with_reducible refine (foldS_frame _ _ _ (fun _ _ => ?_) _).trans ?_ | with_reducible refine (whenS_frame _ _ _ _ (fun _ => ?_)).trans ?_ | split)

theorem State.useSlot_frame (W : Nat) (hW : 786432 &&& W = 786432) (n : Nat) (x : Option (Word × Cmd)) (s : State) : (State.useSlot n x s).hide W = s.hide W := by
  refine hide_mono _ _ hW ?_
  unfold State.useSlot
  repeat' (first | with_reducible rfl | simp only [State.pmcAdd_frame, State.pmcEvent_frame, Nat.reduceAnd, hide_ite, snd_ite, foldS_frame, whenS_frame, foldl_frame, ite_self, implies_true, mk_leaf, State.hideU, Ce.hide, Glb.hide, Flt.hide, Hif.hide, Sec.hide, Stp.hide, pick, Nat.reduceEqDiff, reduceIte] | with_reducible refine (foldS_frame _ _ _ (fun _ _ => ?_) _).trans ?_ | with_reducible refine (whenS_frame _ _ _ _ (fun _ => ?_)).trans ?_ | split)

theorem State.refuse_frame (W : Nat) (hW : 884752 &&& W = 884752) (n : Nat) (d : Desc) (status result : Nat) (s : State) : (State.refuse n d status result s).hide W = s.hide W := by
  refine hide_mono _ _ hW ?_
  unfold State.refuse
  repeat' (first | with_reducible rfl | simp only [State.addComp_frame, State.passHead_frame, State.pmcAdd_frame, State.pmcEvent_frame, State.putComp_frame, Nat.reduceAnd, hide_ite, snd_ite, foldS_frame, whenS_frame, foldl_frame, ite_self, implies_true, mk_leaf, State.hideU, Ce.hide, Glb.hide, Flt.hide, Hif.hide, Sec.hide, Stp.hide, pick, Nat.reduceEqDiff, reduceIte] | with_reducible refine (foldS_frame _ _ _ (fun _ _ => ?_) _).trans ?_ | with_reducible refine (whenS_frame _ _ _ _ (fun _ => ?_)).trans ?_ | split)

theorem State.pmcSamples_frame (W : Nat) (hW : 526336 &&& W = 526336) (d : Option Due) (l : List Nat) (s : State) : (State.pmcSamples d l s).hide W = s.hide W := by
  refine hide_mono _ _ hW ?_
  unfold State.pmcSamples
  repeat' (first | with_reducible rfl | simp only [State.raise_frame, Nat.reduceAnd, hide_ite, snd_ite, foldS_frame, whenS_frame, foldl_frame, ite_self, implies_true, mk_leaf, State.hideU, Ce.hide, Glb.hide, Flt.hide, Hif.hide, Sec.hide, Stp.hide, pick, Nat.reduceEqDiff, reduceIte] | with_reducible refine (foldS_frame _ _ _ (fun _ _ => ?_) _).trans ?_ | with_reducible refine (whenS_frame _ _ _ _ (fun _ => ?_)).trans ?_ | split)

theorem State.pmcTake_frame (W : Nat) (hW : 526336 &&& W = 526336) (d : Due) (s : State) : (State.pmcTake d s).hide W = s.hide W := by
  refine hide_mono _ _ hW ?_
  unfold State.pmcTake
  repeat' (first | with_reducible rfl | simp only [State.pmcSamples_frame, Nat.reduceAnd, hide_ite, snd_ite, foldS_frame, whenS_frame, foldl_frame, ite_self, implies_true, mk_leaf, State.hideU, Ce.hide, Glb.hide, Flt.hide, Hif.hide, Sec.hide, Stp.hide, pick, Nat.reduceEqDiff, reduceIte] | with_reducible refine (foldS_frame _ _ _ (fun _ _ => ?_) _).trans ?_ | with_reducible refine (whenS_frame _ _ _ _ (fun _ => ?_)).trans ?_ | split)

theorem State.finish_frame (W : Nat) (hW : 262144 &&& W = 262144) (d : Due) (e : Eff) (s : State) : (State.finish d e s).hide W = s.hide W := by
  refine hide_mono _ _ hW ?_
  unfold State.finish
  repeat' (first | with_reducible rfl | simp only [State.addComp_frame, Nat.reduceAnd, hide_ite, snd_ite, foldS_frame, whenS_frame, foldl_frame, ite_self, implies_true, mk_leaf, State.hideU, Ce.hide, Glb.hide, Flt.hide, Hif.hide, Sec.hide, Stp.hide, pick, Nat.reduceEqDiff, reduceIte] | with_reducible refine (foldS_frame _ _ _ (fun _ _ => ?_) _).trans ?_ | with_reducible refine (whenS_frame _ _ _ _ (fun _ => ?_)).trans ?_ | split)

theorem State.readDue_frame (W : Nat) (hW : 2080 &&& W = 2080) (e : Nat) (s : State) : (State.readDue e s).2.hide W = s.hide W := by
  refine hide_mono _ _ hW ?_
  unfold State.readDue
  repeat' (first | with_reducible rfl | simp only [State.clearUpset_frame, State.raise_frame, Nat.reduceAnd, hide_ite, snd_ite, foldS_frame, whenS_frame, foldl_frame, ite_self, implies_true, mk_leaf, State.hideU, Ce.hide, Glb.hide, Flt.hide, Hif.hide, Sec.hide, Stp.hide, pick, Nat.reduceEqDiff, reduceIte] | with_reducible refine (foldS_frame _ _ _ (fun _ _ => ?_) _).trans ?_ | with_reducible refine (whenS_frame _ _ _ _ (fun _ => ?_)).trans ?_ | split)

theorem State.fenceDone_frame (W : Nat) (hW : 17592186341408 &&& W = 17592186341408) (d : Due) (s : State) : (State.fenceDone d s).hide W = s.hide W := by
  refine hide_mono _ _ hW ?_
  unfold State.fenceDone
  repeat' (first | with_reducible rfl | simp only [State.addComp_frame, State.finish_frame, State.modRing_frame, State.readDue_frame, Nat.reduceAnd, hide_ite, snd_ite, foldS_frame, whenS_frame, foldl_frame, ite_self, implies_true, mk_leaf, State.hideU, Ce.hide, Glb.hide, Flt.hide, Hif.hide, Sec.hide, Stp.hide, pick, Nat.reduceEqDiff, reduceIte] | with_reducible refine (foldS_frame _ _ _ (fun _ _ => ?_) _).trans ?_ | with_reducible refine (whenS_frame _ _ _ _ (fun _ => ?_)).trans ?_ | split)

theorem State.fencesMet_frame (W : Nat) (hW : 17592186341408 &&& W = 17592186341408) (s : State) : (State.fencesMet s).hide W = s.hide W := by
  refine hide_mono _ _ hW ?_
  unfold State.fencesMet
  repeat' (first | with_reducible rfl | simp only [State.fenceDone_frame, Nat.reduceAnd, hide_ite, snd_ite, foldS_frame, whenS_frame, foldl_frame, ite_self, implies_true, mk_leaf, State.hideU, Ce.hide, Glb.hide, Flt.hide, Hif.hide, Sec.hide, Stp.hide, pick, Nat.reduceEqDiff, reduceIte] | with_reducible refine (foldS_frame _ _ _ (fun _ _ => ?_) _).trans ?_ | with_reducible refine (whenS_frame _ _ _ _ (fun _ => ?_)).trans ?_ | split)

theorem State.enter_frame (W : Nat) (hW : 17592186349600 &&& W = 17592186349600) (d : Due) (s : State) : (State.enter d s).hide W = s.hide W := by
  refine hide_mono _ _ hW ?_
  unfold State.enter
  repeat' (first | with_reducible rfl | simp only [State.fencesMet_frame, State.modRing_frame, State.wordWritten_frame, Nat.reduceAnd, hide_ite, snd_ite, foldS_frame, whenS_frame, foldl_frame, ite_self, implies_true, mk_leaf, State.hideU, Ce.hide, Glb.hide, Flt.hide, Hif.hide, Sec.hide, Stp.hide, pick, Nat.reduceEqDiff, reduceIte] | with_reducible refine (foldS_frame _ _ _ (fun _ _ => ?_) _).trans ?_ | with_reducible refine (whenS_frame _ _ _ _ (fun _ => ?_)).trans ?_ | split)

theorem State.admitHead_frame (W : Nat) (hW : 17592186873888 &&& W = 17592186873888) (n : Nat) (d : Desc) (b : Word) (c : Cmd) (s : State) : (State.admitHead n d b c s).hide W = s.hide W := by
  refine hide_mono _ _ hW ?_
  unfold State.admitHead
  repeat' (first | with_reducible rfl | simp only [State.enter_frame, State.passHead_frame, State.pmcAdd_frame, State.pmcEvent_frame, State.pmcTake_frame, Nat.reduceAnd, hide_ite, snd_ite, foldS_frame, whenS_frame, foldl_frame, ite_self, implies_true, mk_leaf, State.hideU, Ce.hide, Glb.hide, Flt.hide, Hif.hide, Sec.hide, Stp.hide, pick, Nat.reduceEqDiff, reduceIte] | with_reducible refine (foldS_frame _ _ _ (fun _ _ => ?_) _).trans ?_ | with_reducible refine (whenS_frame _ _ _ _ (fun _ => ?_)).trans ?_ | split)

theorem State.judgeHead_frame (W : Nat) (hW : 17592186939440 &&& W = 17592186939440) (n : Nat) (s : State) : (State.judgeHead n s).hide W = s.hide W := by
  refine hide_mono _ _ hW ?_
  unfold State.judgeHead
  repeat' (first | with_reducible rfl | simp only [State.admitHead_frame, State.grant_frame, State.modRing_frame, State.refuse_frame, State.useSlot_frame, Nat.reduceAnd, hide_ite, snd_ite, foldS_frame, whenS_frame, foldl_frame, ite_self, implies_true, mk_leaf, State.hideU, Ce.hide, Glb.hide, Flt.hide, Hif.hide, Sec.hide, Stp.hide, pick, Nat.reduceEqDiff, reduceIte] | with_reducible refine (foldS_frame _ _ _ (fun _ _ => ?_) _).trans ?_ | with_reducible refine (whenS_frame _ _ _ _ (fun _ => ?_)).trans ?_ | split)

theorem State.visitEnds_frame (W : Nat) (hW : 262144 &&& W = 262144) (s : State) : (State.visitEnds s).hide W = s.hide W := by
  refine hide_mono _ _ hW ?_
  unfold State.visitEnds
  repeat' (first | with_reducible rfl | simp only [Nat.reduceAnd, hide_ite, snd_ite, foldS_frame, whenS_frame, foldl_frame, ite_self, implies_true, mk_leaf, State.hideU, Ce.hide, Glb.hide, Flt.hide, Hif.hide, Sec.hide, Stp.hide, pick, Nat.reduceEqDiff, reduceIte] | with_reducible refine (foldS_frame _ _ _ (fun _ _ => ?_) _).trans ?_ | with_reducible refine (whenS_frame _ _ _ _ (fun _ => ?_)).trans ?_ | split)

theorem State.serveTurns_frame (W : Nat) (hW : 17592186939440 &&& W = 17592186939440) (fuel : Nat) (s : State) : (State.serveTurns fuel s).hide W = s.hide W := by
  refine hide_mono _ _ hW ?_
  induction fuel generalizing s with
  | zero => exact State.visitEnds_frame _ (by decide) s
  | succ n ih =>
    unfold State.serveTurns
    split
    · exact State.visitEnds_frame _ (by decide) s
    · split
      · exact (ih _).trans ((State.judgeHead_frame _ (by decide) _ _).trans (State.visitEnds_frame _ (by decide) s))
      · exact State.visitEnds_frame _ (by decide) s

theorem State.serve_frame (W : Nat) (hW : 17592186939440 &&& W = 17592186939440) (s : State) : (State.serve s).hide W = s.hide W := by
  refine hide_mono _ _ hW ?_
  unfold State.serve
  repeat' (first | with_reducible rfl | simp only [State.serveTurns_frame, Nat.reduceAnd, hide_ite, snd_ite, foldS_frame, whenS_frame, foldl_frame, ite_self, implies_true, mk_leaf, State.hideU, Ce.hide, Glb.hide, Flt.hide, Hif.hide, Sec.hide, Stp.hide, pick, Nat.reduceEqDiff, reduceIte] | with_reducible refine (foldS_frame _ _ _ (fun _ _ => ?_) _).trans ?_ | with_reducible refine (whenS_frame _ _ _ _ (fun _ => ?_)).trans ?_ | split)

theorem State.serveHeads_frame (W : Nat) (hW : 17592186939440 &&& W = 17592186939440) (s : State) : (State.serveHeads s).hide W = s.hide W := by
  refine hide_mono _ _ hW ?_
  unfold State.serveHeads
  repeat' (first | with_reducible rfl | simp only [State.modRing_frame, State.serve_frame, Nat.reduceAnd, hide_ite, snd_ite, foldS_frame, whenS_frame, foldl_frame, ite_self, implies_true, mk_leaf, State.hideU, Ce.hide, Glb.hide, Flt.hide, Hif.hide, Sec.hide, Stp.hide, pick, Nat.reduceEqDiff, reduceIte] | with_reducible refine (foldS_frame _ _ _ (fun _ _ => ?_) _).trans ?_ | with_reducible refine (whenS_frame _ _ _ _ (fun _ => ?_)).trans ?_ | split)

theorem State.fetchHead_frame (W : Nat) (hW : 557056 &&& W = 557056) (n : Nat) (d : Desc) (blk : Option (List Byte)) (s : State) : (State.fetchHead n d blk s).hide W = s.hide W := by
  refine hide_mono _ _ hW ?_
  unfold State.fetchHead
  repeat' (first | with_reducible rfl | simp only [State.modRing_frame, State.pmcEvent_frame, Nat.reduceAnd, hide_ite, snd_ite, foldS_frame, whenS_frame, foldl_frame, ite_self, implies_true, mk_leaf, State.hideU, Ce.hide, Glb.hide, Flt.hide, Hif.hide, Sec.hide, Stp.hide, pick, Nat.reduceEqDiff, reduceIte] | with_reducible refine (foldS_frame _ _ _ (fun _ _ => ?_) _).trans ?_ | with_reducible refine (whenS_frame _ _ _ _ (fun _ => ?_)).trans ?_ | split)

theorem execDescriptorAdmission_frame (W : Nat) (hW : 17592186939440 &&& W = 17592186939440) (ring : Fin 64) (d : Desc) (blk : Option (List Byte)) (s : State) : (after1 (execDescriptorAdmission ring d blk) s).hide W = s.hide W := by
  refine hide_mono _ _ hW ?_
  unfold after1 execDescriptorAdmission
  repeat' (first | with_reducible rfl | simp only [State.fetchHead_frame, State.serve_frame, Nat.reduceAnd, hide_ite, snd_ite, foldS_frame, whenS_frame, foldl_frame, ite_self, implies_true, mk_leaf, State.hideU, Ce.hide, Glb.hide, Flt.hide, Hif.hide, Sec.hide, Stp.hide, pick, Nat.reduceEqDiff, reduceIte] | with_reducible refine (foldS_frame _ _ _ (fun _ _ => ?_) _).trans ?_ | with_reducible refine (whenS_frame _ _ _ _ (fun _ => ?_)).trans ?_ | split)

theorem State.pmcRan_frame (W : Nat) (hW : 524288 &&& W = 524288) (c : Cmd) (s : State) : (State.pmcRan c s).hide W = s.hide W := by
  refine hide_mono _ _ hW ?_
  unfold State.pmcRan
  repeat' (first | with_reducible rfl | simp only [State.pmcEvent_frame, Nat.reduceAnd, hide_ite, snd_ite, foldS_frame, whenS_frame, foldl_frame, ite_self, implies_true, mk_leaf, State.hideU, Ce.hide, Glb.hide, Flt.hide, Hif.hide, Sec.hide, Stp.hide, pick, Nat.reduceEqDiff, reduceIte] | with_reducible refine (foldS_frame _ _ _ (fun _ _ => ?_) _).trans ?_ | with_reducible refine (whenS_frame _ _ _ _ (fun _ => ?_)).trans ?_ | split)

theorem State.runDue_frame (W : Nat) (hW : 34977701799988 &&& W = 34977701799988) (d : Due) (s : State) : (State.runDue d s).hide W = s.hide W := by
  refine hide_mono _ _ hW ?_
  unfold State.runDue
  repeat' (first | with_reducible rfl | simp only [State.addComp_frame, State.apply_frame, State.finish_frame, State.pmcRan_frame, State.readDue_frame, Nat.reduceAnd, hide_ite, snd_ite, foldS_frame, whenS_frame, foldl_frame, ite_self, implies_true, mk_leaf, State.hideU, Ce.hide, Glb.hide, Flt.hide, Hif.hide, Sec.hide, Stp.hide, pick, Nat.reduceEqDiff, reduceIte] | with_reducible refine (foldS_frame _ _ _ (fun _ _ => ?_) _).trans ?_ | with_reducible refine (whenS_frame _ _ _ _ (fun _ => ?_)).trans ?_ | split)

theorem State.runSteps_frame (W : Nat) (hW : 34977701799988 &&& W = 34977701799988) (lo hi : Nat) (s : State) : (State.runSteps lo hi s).hide W = s.hide W := by
  refine hide_mono _ _ hW ?_
  unfold State.runSteps
  repeat' (first | with_reducible rfl | simp only [State.runDue_frame, Nat.reduceAnd, hide_ite, snd_ite, foldS_frame, whenS_frame, foldl_frame, ite_self, implies_true, mk_leaf, State.hideU, Ce.hide, Glb.hide, Flt.hide, Hif.hide, Sec.hide, Stp.hide, pick, Nat.reduceEqDiff, reduceIte] | with_reducible refine (foldS_frame _ _ _ (fun _ _ => ?_) _).trans ?_ | with_reducible refine (whenS_frame _ _ _ _ (fun _ => ?_)).trans ?_ | split)

theorem State.pruneFailed_frame (W : Nat) (hW : 262144 &&& W = 262144) (s : State) : (State.pruneFailed s).hide W = s.hide W := by
  refine hide_mono _ _ hW ?_
  unfold State.pruneFailed
  repeat' (first | with_reducible rfl | simp only [Nat.reduceAnd, hide_ite, snd_ite, foldS_frame, whenS_frame, foldl_frame, ite_self, implies_true, mk_leaf, State.hideU, Ce.hide, Glb.hide, Flt.hide, Hif.hide, Sec.hide, Stp.hide, pick, Nat.reduceEqDiff, reduceIte] | with_reducible refine (foldS_frame _ _ _ (fun _ _ => ?_) _).trans ?_ | with_reducible refine (whenS_frame _ _ _ _ (fun _ => ?_)).trans ?_ | split)

theorem State.follow_frame (W : Nat) (hW : 550829557760 &&& W = 550829557760) (c : Cmd) (old s : State) : (State.follow c old s).hide W = s.hide W := by
  refine hide_mono _ _ hW ?_
  unfold State.follow
  repeat' (first | with_reducible rfl | simp only [State.cnfChanges_frame, State.cnfModify_frame, State.fabricCommit_frame, State.lomapSet_frame, State.xcCheck_frame, Nat.reduceAnd, hide_ite, snd_ite, foldS_frame, whenS_frame, foldl_frame, ite_self, implies_true, mk_leaf, State.hideU, Ce.hide, Glb.hide, Flt.hide, Hif.hide, Sec.hide, Stp.hide, pick, Nat.reduceEqDiff, reduceIte] | with_reducible refine (foldS_frame _ _ _ (fun _ _ => ?_) _).trans ?_ | with_reducible refine (whenS_frame _ _ _ _ (fun _ => ?_)).trans ?_ | split)

theorem State.runNow_frame (W : Nat) (hW : 17385515755572 &&& W = 17385515755572) (h : Hdr) (c : Cmd) (s : State) : (State.runNow h c s).hide W = s.hide W := by
  refine hide_mono _ _ hW ?_
  unfold State.runNow
  repeat' (first | with_reducible rfl | simp only [State.addComp_frame, State.apply_frame, State.finish_frame, State.follow_frame, State.pmcRan_frame, Nat.reduceAnd, hide_ite, snd_ite, foldS_frame, whenS_frame, foldl_frame, ite_self, implies_true, mk_leaf, State.hideU, Ce.hide, Glb.hide, Flt.hide, Hif.hide, Sec.hide, Stp.hide, pick, Nat.reduceEqDiff, reduceIte] | with_reducible refine (foldS_frame _ _ _ (fun _ _ => ?_) _).trans ?_ | with_reducible refine (whenS_frame _ _ _ _ (fun _ => ?_)).trans ?_ | split)

theorem State.fenceNow_frame (W : Nat) (hW : 17592186349600 &&& W = 17592186349600) (h : Hdr) (c : Cmd) (s : State) : (State.fenceNow h c s).hide W = s.hide W := by
  refine hide_mono _ _ hW ?_
  unfold State.fenceNow
  repeat' (first | with_reducible rfl | simp only [State.enter_frame, Nat.reduceAnd, hide_ite, snd_ite, foldS_frame, whenS_frame, foldl_frame, ite_self, implies_true, mk_leaf, State.hideU, Ce.hide, Glb.hide, Flt.hide, Hif.hide, Sec.hide, Stp.hide, pick, Nat.reduceEqDiff, reduceIte] | with_reducible refine (foldS_frame _ _ _ (fun _ _ => ?_) _).trans ?_ | with_reducible refine (whenS_frame _ _ _ _ (fun _ => ?_)).trans ?_ | split)

theorem execNop_frame (W : Nat) (hW : 786432 &&& W = 786432) (h : Hdr) (s : State) : (after1 (execNop h) s).hide W = s.hide W := by
  refine hide_mono _ _ hW ?_
  unfold after1 execNop State.runNow State.apply State.follow
  repeat' (first | with_reducible rfl | simp only [State.addComp_frame, State.cnfChanges_frame, State.finish_frame, State.pmcRan_frame, State.xcCheck_frame, Nat.reduceAnd, hide_ite, snd_ite, foldS_frame, whenS_frame, foldl_frame, ite_self, implies_true, mk_leaf, State.hideU, Ce.hide, Glb.hide, Flt.hide, Hif.hide, Sec.hide, Stp.hide, pick, Nat.reduceEqDiff, reduceIte] | with_reducible refine (foldS_frame _ _ _ (fun _ _ => ?_) _).trans ?_ | with_reducible refine (whenS_frame _ _ _ _ (fun _ => ?_)).trans ?_ | split)

theorem execFence_frame (W : Nat) (hW : 17592186349600 &&& W = 17592186349600) (h : Hdr) (s : State) : (after1 (execFence h) s).hide W = s.hide W := by
  refine hide_mono _ _ hW ?_
  unfold after1 execFence
  repeat' (first | with_reducible rfl | simp only [State.fenceNow_frame, Nat.reduceAnd, hide_ite, snd_ite, foldS_frame, whenS_frame, foldl_frame, ite_self, implies_true, mk_leaf, State.hideU, Ce.hide, Glb.hide, Flt.hide, Hif.hide, Sec.hide, Stp.hide, pick, Nat.reduceEqDiff, reduceIte] | with_reducible refine (foldS_frame _ _ _ (fun _ _ => ?_) _).trans ?_ | with_reducible refine (whenS_frame _ _ _ _ (fun _ => ?_)).trans ?_ | split)

theorem execFenceAll_frame (W : Nat) (hW : 17592186349600 &&& W = 17592186349600) (h : Hdr) (s : State) : (after1 (execFenceAll h) s).hide W = s.hide W := by
  refine hide_mono _ _ hW ?_
  unfold after1 execFenceAll
  repeat' (first | with_reducible rfl | simp only [State.fenceNow_frame, Nat.reduceAnd, hide_ite, snd_ite, foldS_frame, whenS_frame, foldl_frame, ite_self, implies_true, mk_leaf, State.hideU, Ce.hide, Glb.hide, Flt.hide, Hif.hide, Sec.hide, Stp.hide, pick, Nat.reduceEqDiff, reduceIte] | with_reducible refine (foldS_frame _ _ _ (fun _ _ => ?_) _).trans ?_ | with_reducible refine (whenS_frame _ _ _ _ (fun _ => ?_)).trans ?_ | split)

theorem execEcho_frame (W : Nat) (hW : 786432 &&& W = 786432) (h : Hdr) (v : Word) (s : State) : (after1 (execEcho h v) s).hide W = s.hide W := by
  refine hide_mono _ _ hW ?_
  unfold after1 execEcho State.runNow State.apply State.follow
  repeat' (first | with_reducible rfl | simp only [State.addComp_frame, State.cnfChanges_frame, State.finish_frame, State.pmcRan_frame, State.xcCheck_frame, Nat.reduceAnd, hide_ite, snd_ite, foldS_frame, whenS_frame, foldl_frame, ite_self, implies_true, mk_leaf, State.hideU, Ce.hide, Glb.hide, Flt.hide, Hif.hide, Sec.hide, Stp.hide, pick, Nat.reduceEqDiff, reduceIte] | with_reducible refine (foldS_frame _ _ _ (fun _ _ => ?_) _).trans ?_ | with_reducible refine (whenS_frame _ _ _ _ (fun _ => ?_)).trans ?_ | split)

theorem execTswSet_frame (W : Nat) (hW : 274878701600 &&& W = 274878701600) (h : Hdr) (o : TswRun) (s : State) : (after1 (execTswSet h o) s).hide W = s.hide W := by
  refine hide_mono _ _ hW ?_
  unfold after1 execTswSet State.runNow State.apply State.follow
  repeat' (first | with_reducible rfl | simp only [State.addComp_frame, State.cnfChanges_frame, State.finish_frame, State.pmcRan_frame, State.tswSet_frame, State.xcCheck_frame, Nat.reduceAnd, hide_ite, snd_ite, foldS_frame, whenS_frame, foldl_frame, ite_self, implies_true, mk_leaf, State.hideU, Ce.hide, Glb.hide, Flt.hide, Hif.hide, Sec.hide, Stp.hide, pick, Nat.reduceEqDiff, reduceIte] | with_reducible refine (foldS_frame _ _ _ (fun _ _ => ?_) _).trans ?_ | with_reducible refine (whenS_frame _ _ _ _ (fun _ => ?_)).trans ?_ | split)

theorem execTswFill_frame (W : Nat) (hW : 274878701600 &&& W = 274878701600) (h : Hdr) (o : TswRun) (s : State) : (after1 (execTswFill h o) s).hide W = s.hide W := by
  refine hide_mono _ _ hW ?_
  unfold after1 execTswFill State.runNow State.apply State.follow
  repeat' (first | with_reducible rfl | simp only [State.addComp_frame, State.cnfChanges_frame, State.finish_frame, State.pmcRan_frame, State.tswFill_frame, State.xcCheck_frame, Nat.reduceAnd, hide_ite, snd_ite, foldS_frame, whenS_frame, foldl_frame, ite_self, implies_true, mk_leaf, State.hideU, Ce.hide, Glb.hide, Flt.hide, Hif.hide, Sec.hide, Stp.hide, pick, Nat.reduceEqDiff, reduceIte] | with_reducible refine (foldS_frame _ _ _ (fun _ _ => ?_) _).trans ?_ | with_reducible refine (whenS_frame _ _ _ _ (fun _ => ?_)).trans ?_ | split)

theorem execTswPatch_frame (W : Nat) (hW : 274878701600 &&& W = 274878701600) (h : Hdr) (o : TswRun) (s : State) : (after1 (execTswPatch h o) s).hide W = s.hide W := by
  refine hide_mono _ _ hW ?_
  unfold after1 execTswPatch State.runNow State.apply State.follow
  repeat' (first | with_reducible rfl | simp only [State.addComp_frame, State.cnfChanges_frame, State.finish_frame, State.pmcRan_frame, State.tswPatch_frame, State.xcCheck_frame, Nat.reduceAnd, hide_ite, snd_ite, foldS_frame, whenS_frame, foldl_frame, ite_self, implies_true, mk_leaf, State.hideU, Ce.hide, Glb.hide, Flt.hide, Hif.hide, Sec.hide, Stp.hide, pick, Nat.reduceEqDiff, reduceIte] | with_reducible refine (foldS_frame _ _ _ (fun _ _ => ?_) _).trans ?_ | with_reducible refine (whenS_frame _ _ _ _ (fun _ => ?_)).trans ?_ | split)

theorem execTswRead_frame (W : Nat) (hW : 274878695472 &&& W = 274878695472) (h : Hdr) (o : TswReadOp) (s : State) : (after1 (execTswRead h o) s).hide W = s.hide W := by
  refine hide_mono _ _ hW ?_
  unfold after1 execTswRead State.runNow State.apply State.follow
  repeat' (first | with_reducible rfl | simp only [State.addComp_frame, State.cnfChanges_frame, State.finish_frame, State.pmcRan_frame, State.putRecord_frame, State.tswReadRec_frame, State.xcCheck_frame, Nat.reduceAnd, hide_ite, snd_ite, foldS_frame, whenS_frame, foldl_frame, ite_self, implies_true, mk_leaf, State.hideU, Ce.hide, Glb.hide, Flt.hide, Hif.hide, Sec.hide, Stp.hide, pick, Nat.reduceEqDiff, reduceIte] | with_reducible refine (foldS_frame _ _ _ (fun _ _ => ?_) _).trans ?_ | with_reducible refine (whenS_frame _ _ _ _ (fun _ => ?_)).trans ?_ | split)

theorem execFabricCommit_frame (W : Nat) (hW : 825708251136 &&& W = 825708251136) (h : Hdr) (s : State) : (after1 (execFabricCommit h) s).hide W = s.hide W := by
  refine hide_mono _ _ hW ?_
  unfold after1 execFabricCommit State.runNow State.apply State.follow
  repeat' (first | with_reducible rfl | simp only [State.addComp_frame, State.cnfChanges_frame, State.fabricCommit_frame, State.finish_frame, State.pmcRan_frame, State.xcCheck_frame, Nat.reduceAnd, hide_ite, snd_ite, foldS_frame, whenS_frame, foldl_frame, ite_self, implies_true, mk_leaf, State.hideU, Ce.hide, Glb.hide, Flt.hide, Hif.hide, Sec.hide, Stp.hide, pick, Nat.reduceEqDiff, reduceIte] | with_reducible refine (foldS_frame _ _ _ (fun _ _ => ?_) _).trans ?_ | with_reducible refine (whenS_frame _ _ _ _ (fun _ => ?_)).trans ?_ | split)

theorem execXcSet_frame (W : Nat) (hW : 1074528256 &&& W = 1074528256) (h : Hdr) (o : XcOp) (s : State) : (after1 (execXcSet h o) s).hide W = s.hide W := by
  refine hide_mono _ _ hW ?_
  unfold after1 execXcSet State.runNow State.apply State.follow
  repeat' (first | with_reducible rfl | simp only [State.addComp_frame, State.cnfChanges_frame, State.finish_frame, State.pmcRan_frame, State.xcCheck_frame, State.xcSet_frame, Nat.reduceAnd, hide_ite, snd_ite, foldS_frame, whenS_frame, foldl_frame, ite_self, implies_true, mk_leaf, State.hideU, Ce.hide, Glb.hide, Flt.hide, Hif.hide, Sec.hide, Stp.hide, pick, Nat.reduceEqDiff, reduceIte] | with_reducible refine (foldS_frame _ _ _ (fun _ _ => ?_) _).trans ?_ | with_reducible refine (whenS_frame _ _ _ _ (fun _ => ?_)).trans ?_ | split)

theorem execLomapSet_frame (W : Nat) (hW : 13959432192 &&& W = 13959432192) (h : Hdr) (m struct tu11 : Nat) (s : State) : (after1 (execLomapSet h m struct tu11) s).hide W = s.hide W := by
  refine hide_mono _ _ hW ?_
  unfold after1 execLomapSet State.runNow State.apply State.follow
  repeat' (first | with_reducible rfl | simp only [State.addComp_frame, State.cnfChanges_frame, State.finish_frame, State.lomapSet_frame, State.pmcRan_frame, State.xcCheck_frame, Nat.reduceAnd, hide_ite, snd_ite, foldS_frame, whenS_frame, foldl_frame, ite_self, implies_true, mk_leaf, State.hideU, Ce.hide, Glb.hide, Flt.hide, Hif.hide, Sec.hide, Stp.hide, pick, Nat.reduceEqDiff, reduceIte] | with_reducible refine (foldS_frame _ _ _ (fun _ _ => ?_) _).trans ?_ | with_reducible refine (whenS_frame _ _ _ _ (fun _ => ?_)).trans ?_ | split)

theorem execTribCfg_frame (W : Nat) (hW : 51557173248 &&& W = 51557173248) (h : Hdr) (t : Nat) (c : TribSet) (s : State) : (after1 (execTribCfg h t c) s).hide W = s.hide W := by
  refine hide_mono _ _ hW ?_
  unfold after1 execTribCfg State.runNow State.apply State.follow
  repeat' (first | with_reducible rfl | simp only [State.addComp_frame, State.cnfChanges_frame, State.finish_frame, State.pmcRan_frame, State.tribCfg_frame, State.xcCheck_frame, Nat.reduceAnd, hide_ite, snd_ite, foldS_frame, whenS_frame, foldl_frame, ite_self, implies_true, mk_leaf, State.hideU, Ce.hide, Glb.hide, Flt.hide, Hif.hide, Sec.hide, Stp.hide, pick, Nat.reduceEqDiff, reduceIte] | with_reducible refine (foldS_frame _ _ _ (fun _ _ => ?_) _).trans ?_ | with_reducible refine (whenS_frame _ _ _ _ (fun _ => ?_)).trans ?_ | split)

theorem execSigSet_frame (W : Nat) (hW : 34377304064 &&& W = 34377304064) (h : Hdr) (o : SigOp) (s : State) : (after1 (execSigSet h o) s).hide W = s.hide W := by
  refine hide_mono _ _ hW ?_
  unfold after1 execSigSet State.runNow State.apply State.follow
  repeat' (first | with_reducible rfl | simp only [State.addComp_frame, State.cnfChanges_frame, State.finish_frame, State.pmcRan_frame, State.sigSet_frame, State.xcCheck_frame, Nat.reduceAnd, hide_ite, snd_ite, foldS_frame, whenS_frame, foldl_frame, ite_self, implies_true, mk_leaf, State.hideU, Ce.hide, Glb.hide, Flt.hide, Hif.hide, Sec.hide, Stp.hide, pick, Nat.reduceEqDiff, reduceIte] | with_reducible refine (foldS_frame _ _ _ (fun _ _ => ?_) _).trans ?_ | with_reducible refine (whenS_frame _ _ _ _ (fun _ => ?_)).trans ?_ | split)

theorem execCnfCreate_frame (W : Nat) (hW : 549756608544 &&& W = 549756608544) (h : Hdr) (n : Nat) (o : ConfSet) (s : State) : (after1 (execCnfCreate h n o) s).hide W = s.hide W := by
  refine hide_mono _ _ hW ?_
  unfold after1 execCnfCreate State.runNow State.apply State.follow
  repeat' (first | with_reducible rfl | simp only [State.addComp_frame, State.cnfChanges_frame, State.cnfCreate_frame, State.finish_frame, State.pmcRan_frame, State.xcCheck_frame, Nat.reduceAnd, hide_ite, snd_ite, foldS_frame, whenS_frame, foldl_frame, ite_self, implies_true, mk_leaf, State.hideU, Ce.hide, Glb.hide, Flt.hide, Hif.hide, Sec.hide, Stp.hide, pick, Nat.reduceEqDiff, reduceIte] | with_reducible refine (foldS_frame _ _ _ (fun _ _ => ?_) _).trans ?_ | with_reducible refine (whenS_frame _ _ _ _ (fun _ => ?_)).trans ?_ | split)

theorem execCnfJoin_frame (W : Nat) (hW : 549756608544 &&& W = 549756608544) (h : Hdr) (p : Nat) (o : PartSet) (s : State) : (after1 (execCnfJoin h p o) s).hide W = s.hide W := by
  refine hide_mono _ _ hW ?_
  unfold after1 execCnfJoin State.runNow State.apply State.follow
  repeat' (first | with_reducible rfl | simp only [State.addComp_frame, State.cnfChanges_frame, State.cnfJoin_frame, State.finish_frame, State.pmcRan_frame, State.xcCheck_frame, Nat.reduceAnd, hide_ite, snd_ite, foldS_frame, whenS_frame, foldl_frame, ite_self, implies_true, mk_leaf, State.hideU, Ce.hide, Glb.hide, Flt.hide, Hif.hide, Sec.hide, Stp.hide, pick, Nat.reduceEqDiff, reduceIte] | with_reducible refine (foldS_frame _ _ _ (fun _ _ => ?_) _).trans ?_ | with_reducible refine (whenS_frame _ _ _ _ (fun _ => ?_)).trans ?_ | split)

theorem execCnfLeave_frame (W : Nat) (hW : 549756608544 &&& W = 549756608544) (h : Hdr) (p : Nat) (s : State) : (after1 (execCnfLeave h p) s).hide W = s.hide W := by
  refine hide_mono _ _ hW ?_
  unfold after1 execCnfLeave State.runNow State.apply State.follow
  repeat' (first | with_reducible rfl | simp only [State.addComp_frame, State.cnfChanges_frame, State.cnfLeave_frame, State.finish_frame, State.pmcRan_frame, State.xcCheck_frame, Nat.reduceAnd, hide_ite, snd_ite, foldS_frame, whenS_frame, foldl_frame, ite_self, implies_true, mk_leaf, State.hideU, Ce.hide, Glb.hide, Flt.hide, Hif.hide, Sec.hide, Stp.hide, pick, Nat.reduceEqDiff, reduceIte] | with_reducible refine (foldS_frame _ _ _ (fun _ _ => ?_) _).trans ?_ | with_reducible refine (whenS_frame _ _ _ _ (fun _ => ?_)).trans ?_ | split)

theorem execCnfModify_frame (W : Nat) (hW : 549756608544 &&& W = 549756608544) (h : Hdr) (o : CnfMod) (s : State) : (after1 (execCnfModify h o) s).hide W = s.hide W := by
  refine hide_mono _ _ hW ?_
  unfold after1 execCnfModify State.runNow State.apply State.follow
  repeat' (first | with_reducible rfl | simp only [State.addComp_frame, State.cnfChanges_frame, State.cnfModify_frame, State.finish_frame, State.pmcRan_frame, State.xcCheck_frame, Nat.reduceAnd, hide_ite, snd_ite, foldS_frame, whenS_frame, foldl_frame, ite_self, implies_true, mk_leaf, State.hideU, Ce.hide, Glb.hide, Flt.hide, Hif.hide, Sec.hide, Stp.hide, pick, Nat.reduceEqDiff, reduceIte] | with_reducible refine (foldS_frame _ _ _ (fun _ _ => ?_) _).trans ?_ | with_reducible refine (whenS_frame _ _ _ _ (fun _ => ?_)).trans ?_ | split)

theorem execCnfDestroy_frame (W : Nat) (hW : 549756608544 &&& W = 549756608544) (h : Hdr) (n : Nat) (s : State) : (after1 (execCnfDestroy h n) s).hide W = s.hide W := by
  refine hide_mono _ _ hW ?_
  unfold after1 execCnfDestroy State.runNow State.apply State.follow
  repeat' (first | with_reducible rfl | simp only [State.addComp_frame, State.cnfChanges_frame, State.cnfDestroy_frame, State.finish_frame, State.pmcRan_frame, State.xcCheck_frame, Nat.reduceAnd, hide_ite, snd_ite, foldS_frame, whenS_frame, foldl_frame, ite_self, implies_true, mk_leaf, State.hideU, Ce.hide, Glb.hide, Flt.hide, Hif.hide, Sec.hide, Stp.hide, pick, Nat.reduceEqDiff, reduceIte] | with_reducible refine (foldS_frame _ _ _ (fun _ _ => ?_) _).trans ?_ | with_reducible refine (whenS_frame _ _ _ _ (fun _ => ?_)).trans ?_ | split)

theorem execCnfQuery_frame (W : Nat) (hW : 786448 &&& W = 786448) (h : Hdr) (a : DWord) (n : Nat) (s : State) : (after1 (execCnfQuery h a n) s).hide W = s.hide W := by
  refine hide_mono _ _ hW ?_
  unfold after1 execCnfQuery State.runNow State.apply State.follow
  repeat' (first | with_reducible rfl | simp only [State.addComp_frame, State.cnfChanges_frame, State.finish_frame, State.pmcRan_frame, State.putRecord_frame, State.xcCheck_frame, Nat.reduceAnd, hide_ite, snd_ite, foldS_frame, whenS_frame, foldl_frame, ite_self, implies_true, mk_leaf, State.hideU, Ce.hide, Glb.hide, Flt.hide, Hif.hide, Sec.hide, Stp.hide, pick, Nat.reduceEqDiff, reduceIte] | with_reducible refine (foldS_frame _ _ _ (fun _ _ => ?_) _).trans ?_ | with_reducible refine (whenS_frame _ _ _ _ (fun _ => ?_)).trans ?_ | split)

theorem execToneLoad_frame (W : Nat) (hW : 549756600320 &&& W = 549756600320) (h : Hdr) (d : Nat) (t : ToneDef) (s : State) : (after1 (execToneLoad h d t) s).hide W = s.hide W := by
  refine hide_mono _ _ hW ?_
  unfold after1 execToneLoad State.runNow State.apply State.follow
  repeat' (first | with_reducible rfl | simp only [State.addComp_frame, State.cnfChanges_frame, State.finish_frame, State.pmcRan_frame, State.toneLoad_frame, State.xcCheck_frame, Nat.reduceAnd, hide_ite, snd_ite, foldS_frame, whenS_frame, foldl_frame, ite_self, implies_true, mk_leaf, State.hideU, Ce.hide, Glb.hide, Flt.hide, Hif.hide, Sec.hide, Stp.hide, pick, Nat.reduceEqDiff, reduceIte] | with_reducible refine (foldS_frame _ _ _ (fun _ _ => ?_) _).trans ?_ | with_reducible refine (whenS_frame _ _ _ _ (fun _ => ?_)).trans ?_ | split)

theorem execProtGroup_frame (W : Nat) (hW : 1133888940064 &&& W = 1133888940064) (h : Hdr) (o : ProtOp) (s : State) : (after1 (execProtGroup h o) s).hide W = s.hide W := by
  refine hide_mono _ _ hW ?_
  unfold after1 execProtGroup State.runNow State.apply State.follow
  repeat' (first | with_reducible rfl | simp only [State.addComp_frame, State.cnfChanges_frame, State.finish_frame, State.pmcRan_frame, State.protGroup_frame, State.xcCheck_frame, Nat.reduceAnd, hide_ite, snd_ite, foldS_frame, whenS_frame, foldl_frame, ite_self, implies_true, mk_leaf, State.hideU, Ce.hide, Glb.hide, Flt.hide, Hif.hide, Sec.hide, Stp.hide, pick, Nat.reduceEqDiff, reduceIte] | with_reducible refine (foldS_frame _ _ _ (fun _ _ => ?_) _).trans ?_ | with_reducible refine (whenS_frame _ _ _ _ (fun _ => ?_)).trans ?_ | split)

theorem execProtCmd_frame (W : Nat) (hW : 1099512416288 &&& W = 1099512416288) (h : Hdr) (k : Fin 4) (g code : Nat) (s : State) : (after1 (execProtCmd h k g code) s).hide W = s.hide W := by
  refine hide_mono _ _ hW ?_
  unfold after1 execProtCmd State.runNow State.apply State.follow
  repeat' (first | with_reducible rfl | simp only [State.addComp_frame, State.cnfChanges_frame, State.finish_frame, State.pmcRan_frame, State.protCmd_frame, State.xcCheck_frame, Nat.reduceAnd, hide_ite, snd_ite, foldS_frame, whenS_frame, foldl_frame, ite_self, implies_true, mk_leaf, State.hideU, Ce.hide, Glb.hide, Flt.hide, Hif.hide, Sec.hide, Stp.hide, pick, Nat.reduceEqDiff, reduceIte] | with_reducible refine (foldS_frame _ _ _ (fun _ _ => ?_) _).trans ?_ | with_reducible refine (whenS_frame _ _ _ _ (fun _ => ?_)).trans ?_ | split)

theorem execProtQuery_frame (W : Nat) (hW : 786448 &&& W = 786448) (h : Hdr) (a : DWord) (k : Fin 4) (g : Nat) (s : State) : (after1 (execProtQuery h a k g) s).hide W = s.hide W := by
  refine hide_mono _ _ hW ?_
  unfold after1 execProtQuery State.runNow State.apply State.follow
  repeat' (first | with_reducible rfl | simp only [State.addComp_frame, State.cnfChanges_frame, State.finish_frame, State.pmcRan_frame, State.putRecord_frame, State.xcCheck_frame, Nat.reduceAnd, hide_ite, snd_ite, foldS_frame, whenS_frame, foldl_frame, ite_self, implies_true, mk_leaf, State.hideU, Ce.hide, Glb.hide, Flt.hide, Hif.hide, Sec.hide, Stp.hide, pick, Nat.reduceEqDiff, reduceIte] | with_reducible refine (foldS_frame _ _ _ (fun _ _ => ?_) _).trans ?_ | with_reducible refine (whenS_frame _ _ _ _ (fun _ => ?_)).trans ?_ | split)

theorem execTraceSet_frame (W : Nat) (hW : 20955531264 &&& W = 20955531264) (h : Hdr) (o : TraceOp) (s : State) : (after1 (execTraceSet h o) s).hide W = s.hide W := by
  refine hide_mono _ _ hW ?_
  unfold after1 execTraceSet State.runNow State.apply State.follow
  repeat' (first | with_reducible rfl | simp only [State.addComp_frame, State.cnfChanges_frame, State.finish_frame, State.pmcRan_frame, State.traceSet_frame, State.xcCheck_frame, Nat.reduceAnd, hide_ite, snd_ite, foldS_frame, whenS_frame, foldl_frame, ite_self, implies_true, mk_leaf, State.hideU, Ce.hide, Glb.hide, Flt.hide, Hif.hide, Sec.hide, Stp.hide, pick, Nat.reduceEqDiff, reduceIte] | with_reducible refine (foldS_frame _ _ _ (fun _ _ => ?_) _).trans ?_ | with_reducible refine (whenS_frame _ _ _ _ (fun _ => ?_)).trans ?_ | split)

theorem execTraceRead_frame (W : Nat) (hW : 2148270096 &&& W = 2148270096) (h : Hdr) (a : DWord) (k i : Nat) (s : State) : (after1 (execTraceRead h a k i) s).hide W = s.hide W := by
  refine hide_mono _ _ hW ?_
  unfold after1 execTraceRead State.runNow State.apply State.follow
  repeat' (first | with_reducible rfl | simp only [State.addComp_frame, State.cnfChanges_frame, State.finish_frame, State.pmcRan_frame, State.putRecord_frame, State.setTrace_frame, State.xcCheck_frame, Nat.reduceAnd, hide_ite, snd_ite, foldS_frame, whenS_frame, foldl_frame, ite_self, implies_true, mk_leaf, State.hideU, Ce.hide, Glb.hide, Flt.hide, Hif.hide, Sec.hide, Stp.hide, pick, Nat.reduceEqDiff, reduceIte] | with_reducible refine (foldS_frame _ _ _ (fun _ _ => ?_) _).trans ?_ | with_reducible refine (whenS_frame _ _ _ _ (fun _ => ?_)).trans ?_ | split)

theorem execOhSet_frame (W : Nat) (hW : 18791268352 &&& W = 18791268352) (h : Hdr) (code : Nat) (t : Word) (v : Nat) (s : State) : (after1 (execOhSet h code t v) s).hide W = s.hide W := by
  refine hide_mono _ _ hW ?_
  unfold after1 execOhSet State.runNow State.apply State.follow
  repeat' (first | with_reducible rfl | simp only [State.addComp_frame, State.cnfChanges_frame, State.finish_frame, State.ohSet_frame, State.pmcRan_frame, State.xcCheck_frame, Nat.reduceAnd, hide_ite, snd_ite, foldS_frame, whenS_frame, foldl_frame, ite_self, implies_true, mk_leaf, State.hideU, Ce.hide, Glb.hide, Flt.hide, Hif.hide, Sec.hide, Stp.hide, pick, Nat.reduceEqDiff, reduceIte] | with_reducible refine (foldS_frame _ _ _ (fun _ _ => ?_) _).trans ?_ | with_reducible refine (whenS_frame _ _ _ _ (fun _ => ?_)).trans ?_ | split)

theorem execStreamOpen_frame (W : Nat) (hW : 2199024041984 &&& W = 2199024041984) (h : Hdr) (o : StreamOp) (s : State) : (after1 (execStreamOpen h o) s).hide W = s.hide W := by
  refine hide_mono _ _ hW ?_
  unfold after1 execStreamOpen State.runNow State.apply State.follow
  repeat' (first | with_reducible rfl | simp only [State.addComp_frame, State.cnfChanges_frame, State.finish_frame, State.pmcRan_frame, State.streamOpen_frame, State.xcCheck_frame, Nat.reduceAnd, hide_ite, snd_ite, foldS_frame, whenS_frame, foldl_frame, ite_self, implies_true, mk_leaf, State.hideU, Ce.hide, Glb.hide, Flt.hide, Hif.hide, Sec.hide, Stp.hide, pick, Nat.reduceEqDiff, reduceIte] | with_reducible refine (foldS_frame _ _ _ (fun _ _ => ?_) _).trans ?_ | with_reducible refine (whenS_frame _ _ _ _ (fun _ => ?_)).trans ?_ | split)

theorem execStreamClose_frame (W : Nat) (hW : 2199024140308 &&& W = 2199024140308) (h : Hdr) (g : Nat) (i o : Bool) (s : State) : (after1 (execStreamClose h g i o) s).hide W = s.hide W := by
  refine hide_mono _ _ hW ?_
  unfold after1 execStreamClose State.runNow State.apply State.follow
  repeat' (first | with_reducible rfl | simp only [State.addComp_frame, State.cnfChanges_frame, State.finish_frame, State.pmcRan_frame, State.streamClose_frame, State.xcCheck_frame, Nat.reduceAnd, hide_ite, snd_ite, foldS_frame, whenS_frame, foldl_frame, ite_self, implies_true, mk_leaf, State.hideU, Ce.hide, Glb.hide, Flt.hide, Hif.hide, Sec.hide, Stp.hide, pick, Nat.reduceEqDiff, reduceIte] | with_reducible refine (foldS_frame _ _ _ (fun _ _ => ?_) _).trans ?_ | with_reducible refine (whenS_frame _ _ _ _ (fun _ => ?_)).trans ?_ | split)

theorem execStreamFlush_frame (W : Nat) (hW : 2199024140304 &&& W = 2199024140304) (h : Hdr) (g : Nat) (i o : Bool) (s : State) : (after1 (execStreamFlush h g i o) s).hide W = s.hide W := by
  refine hide_mono _ _ hW ?_
  unfold after1 execStreamFlush State.runNow State.apply State.follow
  repeat' (first | with_reducible rfl | simp only [State.addComp_frame, State.cnfChanges_frame, State.finish_frame, State.pmcRan_frame, State.streamFlush_frame, State.xcCheck_frame, Nat.reduceAnd, hide_ite, snd_ite, foldS_frame, whenS_frame, foldl_frame, ite_self, implies_true, mk_leaf, State.hideU, Ce.hide, Glb.hide, Flt.hide, Hif.hide, Sec.hide, Stp.hide, pick, Nat.reduceEqDiff, reduceIte] | with_reducible refine (foldS_frame _ _ _ (fun _ _ => ?_) _).trans ?_ | with_reducible refine (whenS_frame _ _ _ _ (fun _ => ?_)).trans ?_ | split)

theorem execGfpOpen_frame (W : Nat) (hW : 4398064076800 &&& W = 4398064076800) (h : Hdr) (o : GfpOp) (s : State) : (after1 (execGfpOpen h o) s).hide W = s.hide W := by
  refine hide_mono _ _ hW ?_
  unfold after1 execGfpOpen State.runNow State.apply State.follow
  repeat' (first | with_reducible rfl | simp only [State.addComp_frame, State.cnfChanges_frame, State.finish_frame, State.gfpOpen_frame, State.pmcRan_frame, State.xcCheck_frame, Nat.reduceAnd, hide_ite, snd_ite, foldS_frame, whenS_frame, foldl_frame, ite_self, implies_true, mk_leaf, State.hideU, Ce.hide, Glb.hide, Flt.hide, Hif.hide, Sec.hide, Stp.hide, pick, Nat.reduceEqDiff, reduceIte] | with_reducible refine (foldS_frame _ _ _ (fun _ _ => ?_) _).trans ?_ | with_reducible refine (whenS_frame _ _ _ _ (fun _ => ?_)).trans ?_ | split)

theorem execGfpClose_frame (W : Nat) (hW : 4398064074752 &&& W = 4398064074752) (h : Hdr) (ch : Nat) (t r : Bool) (s : State) : (after1 (execGfpClose h ch t r) s).hide W = s.hide W := by
  refine hide_mono _ _ hW ?_
  unfold after1 execGfpClose State.runNow State.apply State.follow
  repeat' (first | with_reducible rfl | simp only [State.addComp_frame, State.cnfChanges_frame, State.finish_frame, State.gfpClose_frame, State.pmcRan_frame, State.xcCheck_frame, Nat.reduceAnd, hide_ite, snd_ite, foldS_frame, whenS_frame, foldl_frame, ite_self, implies_true, mk_leaf, State.hideU, Ce.hide, Glb.hide, Flt.hide, Hif.hide, Sec.hide, Stp.hide, pick, Nat.reduceEqDiff, reduceIte] | with_reducible refine (foldS_frame _ _ _ (fun _ _ => ?_) _).trans ?_ | with_reducible refine (whenS_frame _ _ _ _ (fun _ => ?_)).trans ?_ | split)

theorem execGfpFlush_frame (W : Nat) (hW : 4398064109568 &&& W = 4398064109568) (h : Hdr) (ch : Nat) (t r : Bool) (s : State) : (after1 (execGfpFlush h ch t r) s).hide W = s.hide W := by
  refine hide_mono _ _ hW ?_
  unfold after1 execGfpFlush State.runNow State.apply State.follow
  repeat' (first | with_reducible rfl | simp only [State.addComp_frame, State.cnfChanges_frame, State.finish_frame, State.gfpFlush_frame, State.pmcRan_frame, State.xcCheck_frame, Nat.reduceAnd, hide_ite, snd_ite, foldS_frame, whenS_frame, foldl_frame, ite_self, implies_true, mk_leaf, State.hideU, Ce.hide, Glb.hide, Flt.hide, Hif.hide, Sec.hide, Stp.hide, pick, Nat.reduceEqDiff, reduceIte] | with_reducible refine (foldS_frame _ _ _ (fun _ _ => ?_) _).trans ?_ | with_reducible refine (whenS_frame _ _ _ _ (fun _ => ?_)).trans ?_ | split)

theorem execKeyLoad_frame (W : Nat) (hW : 8796094865440 &&& W = 8796094865440) (h : Hdr) (slot : Nat) (w : Bool) (key : List Byte) (s : State) : (after1 (execKeyLoad h slot w key) s).hide W = s.hide W := by
  refine hide_mono _ _ hW ?_
  unfold after1 execKeyLoad State.runNow State.apply State.follow
  repeat' (first | with_reducible rfl | simp only [State.addComp_frame, State.cnfChanges_frame, State.finish_frame, State.keyLoad_frame, State.pmcRan_frame, State.xcCheck_frame, Nat.reduceAnd, hide_ite, snd_ite, foldS_frame, whenS_frame, foldl_frame, ite_self, implies_true, mk_leaf, State.hideU, Ce.hide, Glb.hide, Flt.hide, Hif.hide, Sec.hide, Stp.hide, pick, Nat.reduceEqDiff, reduceIte] | with_reducible refine (foldS_frame _ _ _ (fun _ _ => ?_) _).trans ?_ | with_reducible refine (whenS_frame _ _ _ _ (fun _ => ?_)).trans ?_ | split)

theorem execKeyErase_frame (W : Nat) (hW : 1835008 &&& W = 1835008) (h : Hdr) (slot : Nat) (s : State) : (after1 (execKeyErase h slot) s).hide W = s.hide W := by
  refine hide_mono _ _ hW ?_
  unfold after1 execKeyErase State.runNow State.apply State.follow
  repeat' (first | with_reducible rfl | simp only [State.addComp_frame, State.cnfChanges_frame, State.finish_frame, State.keyErase_frame, State.pmcRan_frame, State.xcCheck_frame, Nat.reduceAnd, hide_ite, snd_ite, foldS_frame, whenS_frame, foldl_frame, ite_self, implies_true, mk_leaf, State.hideU, Ce.hide, Glb.hide, Flt.hide, Hif.hide, Sec.hide, Stp.hide, pick, Nat.reduceEqDiff, reduceIte] | with_reducible refine (foldS_frame _ _ _ (fun _ _ => ?_) _).trans ?_ | with_reducible refine (whenS_frame _ _ _ _ (fun _ => ?_)).trans ?_ | split)

theorem execDccAuthCfg_frame (W : Nat) (hW : 8796094957616 &&& W = 8796094957616) (h : Hdr) (o : DccAuthOp) (s : State) : (after1 (execDccAuthCfg h o) s).hide W = s.hide W := by
  refine hide_mono _ _ hW ?_
  unfold after1 execDccAuthCfg State.runNow State.apply State.follow
  repeat' (first | with_reducible rfl | simp only [State.addComp_frame, State.cnfChanges_frame, State.dccAuthCfg_frame, State.finish_frame, State.pmcRan_frame, State.xcCheck_frame, Nat.reduceAnd, hide_ite, snd_ite, foldS_frame, whenS_frame, foldl_frame, ite_self, implies_true, mk_leaf, State.hideU, Ce.hide, Glb.hide, Flt.hide, Hif.hide, Sec.hide, Stp.hide, pick, Nat.reduceEqDiff, reduceIte] | with_reducible refine (foldS_frame _ _ _ (fun _ _ => ?_) _).trans ?_ | with_reducible refine (whenS_frame _ _ _ _ (fun _ => ?_)).trans ?_ | split)

theorem execResClaim_frame (W : Nat) (hW : 7088160 &&& W = 7088160) (h : Hdr) (rtype i lease : Nat) (s : State) : (after1 (execResClaim h rtype i lease) s).hide W = s.hide W := by
  refine hide_mono _ _ hW ?_
  unfold after1 execResClaim State.runNow State.apply State.follow
  repeat' (first | with_reducible rfl | simp only [State.addComp_frame, State.cnfChanges_frame, State.finish_frame, State.pmcRan_frame, State.resClaim_frame, State.xcCheck_frame, Nat.reduceAnd, hide_ite, snd_ite, foldS_frame, whenS_frame, foldl_frame, ite_self, implies_true, mk_leaf, State.hideU, Ce.hide, Glb.hide, Flt.hide, Hif.hide, Sec.hide, Stp.hide, pick, Nat.reduceEqDiff, reduceIte] | with_reducible refine (foldS_frame _ _ _ (fun _ _ => ?_) _).trans ?_ | with_reducible refine (whenS_frame _ _ _ _ (fun _ => ?_)).trans ?_ | split)

theorem execResRelease_frame (W : Nat) (hW : 7088160 &&& W = 7088160) (h : Hdr) (rtype i : Nat) (s : State) : (after1 (execResRelease h rtype i) s).hide W = s.hide W := by
  refine hide_mono _ _ hW ?_
  unfold after1 execResRelease State.runNow State.apply State.follow
  repeat' (first | with_reducible rfl | simp only [State.addComp_frame, State.cnfChanges_frame, State.finish_frame, State.pmcRan_frame, State.resRelease_frame, State.xcCheck_frame, Nat.reduceAnd, hide_ite, snd_ite, foldS_frame, whenS_frame, foldl_frame, ite_self, implies_true, mk_leaf, State.hideU, Ce.hide, Glb.hide, Flt.hide, Hif.hide, Sec.hide, Stp.hide, pick, Nat.reduceEqDiff, reduceIte] | with_reducible refine (foldS_frame _ _ _ (fun _ _ => ?_) _).trans ?_ | with_reducible refine (whenS_frame _ _ _ _ (fun _ => ?_)).trans ?_ | split)

theorem execPmCfg_frame (W : Nat) (hW : 17563648 &&& W = 17563648) (h : Hdr) (sc i : Nat) (on : Bool) (s : State) : (after1 (execPmCfg h sc i on) s).hide W = s.hide W := by
  refine hide_mono _ _ hW ?_
  unfold after1 execPmCfg State.runNow State.apply State.follow
  repeat' (first | with_reducible rfl | simp only [State.addComp_frame, State.cnfChanges_frame, State.finish_frame, State.pmCfg_frame, State.pmcRan_frame, State.xcCheck_frame, Nat.reduceAnd, hide_ite, snd_ite, foldS_frame, whenS_frame, foldl_frame, ite_self, implies_true, mk_leaf, State.hideU, Ce.hide, Glb.hide, Flt.hide, Hif.hide, Sec.hide, Stp.hide, pick, Nat.reduceEqDiff, reduceIte] | with_reducible refine (foldS_frame _ _ _ (fun _ _ => ?_) _).trans ?_ | with_reducible refine (whenS_frame _ _ _ _ (fun _ => ?_)).trans ?_ | split)

theorem State.doorbell_frame (W : Nat) (hW : 690176 &&& W = 690176) (kind n : Nat) (v : Word) (s : State) : (State.doorbell kind n v s).hide W = s.hide W := by
  refine hide_mono _ _ hW ?_
  unfold State.doorbell
  repeat' (first | with_reducible rfl | simp only [State.modRing_frame, State.pmcEvent_frame, State.raise_frame, Nat.reduceAnd, hide_ite, snd_ite, foldS_frame, whenS_frame, foldl_frame, ite_self, implies_true, mk_leaf, State.hideU, Ce.hide, Glb.hide, Flt.hide, Hif.hide, Sec.hide, Stp.hide, pick, Nat.reduceEqDiff, reduceIte] | with_reducible refine (foldS_frame _ _ _ (fun _ _ => ?_) _).trans ?_ | with_reducible refine (whenS_frame _ _ _ _ (fun _ => ?_)).trans ?_ | split)

theorem State.writeBar2_frame (W : Nat) (hW : 690176 &&& W = 690176) (o bytes : Nat) (v : DWord) (s : State) : (State.writeBar2 o bytes v s).hide W = s.hide W := by
  refine hide_mono _ _ hW ?_
  unfold State.writeBar2
  repeat' (first | with_reducible rfl | simp only [State.doorbell_frame, Nat.reduceAnd, hide_ite, snd_ite, foldS_frame, whenS_frame, foldl_frame, ite_self, implies_true, mk_leaf, State.hideU, Ce.hide, Glb.hide, Flt.hide, Hif.hide, Sec.hide, Stp.hide, pick, Nat.reduceEqDiff, reduceIte] | with_reducible refine (foldS_frame _ _ _ (fun _ _ => ?_) _).trans ?_ | with_reducible refine (whenS_frame _ _ _ _ (fun _ => ?_)).trans ?_ | split)

theorem execDoorbellWrite_frame (W : Nat) (hW : 690176 &&& W = 690176) (o bytes : Nat) (v : DWord) (s : State) : (after1 (execDoorbellWrite o bytes v) s).hide W = s.hide W := by
  refine hide_mono _ _ hW ?_
  unfold after1 execDoorbellWrite
  repeat' (first | with_reducible rfl | simp only [State.writeBar2_frame, Nat.reduceAnd, hide_ite, snd_ite, foldS_frame, whenS_frame, foldl_frame, ite_self, implies_true, mk_leaf, State.hideU, Ce.hide, Glb.hide, Flt.hide, Hif.hide, Sec.hide, Stp.hide, pick, Nat.reduceEqDiff, reduceIte] | with_reducible refine (foldS_frame _ _ _ (fun _ _ => ?_) _).trans ?_ | with_reducible refine (whenS_frame _ _ _ _ (fun _ => ?_)).trans ?_ | split)

theorem State.indexWriteback_frame (W : Nat) (hW : 98320 &&& W = 98320) (kind n : Nat) (s : State) : (State.indexWriteback kind n s).hide W = s.hide W := by
  refine hide_mono _ _ hW ?_
  unfold State.indexWriteback
  repeat' (first | with_reducible rfl | simp only [State.dma_frame, State.intr_frame, State.modRing_frame, Nat.reduceAnd, hide_ite, snd_ite, foldS_frame, whenS_frame, foldl_frame, ite_self, implies_true, mk_leaf, State.hideU, Ce.hide, Glb.hide, Flt.hide, Hif.hide, Sec.hide, Stp.hide, pick, Nat.reduceEqDiff, reduceIte] | with_reducible refine (foldS_frame _ _ _ (fun _ _ => ?_) _).trans ?_ | with_reducible refine (whenS_frame _ _ _ _ (fun _ => ?_)).trans ?_ | split)

theorem execConsumerIndexWriteback_frame (W : Nat) (hW : 98320 &&& W = 98320) (kind : Fin 10) (n : Nat) (s : State) : (after1 (execConsumerIndexWriteback kind n) s).hide W = s.hide W := by
  refine hide_mono _ _ hW ?_
  unfold after1 execConsumerIndexWriteback
  repeat' (first | with_reducible rfl | simp only [State.indexWriteback_frame, Nat.reduceAnd, hide_ite, snd_ite, foldS_frame, whenS_frame, foldl_frame, ite_self, implies_true, mk_leaf, State.hideU, Ce.hide, Glb.hide, Flt.hide, Hif.hide, Sec.hide, Stp.hide, pick, Nat.reduceEqDiff, reduceIte] | with_reducible refine (foldS_frame _ _ _ (fun _ _ => ?_) _).trans ?_ | with_reducible refine (whenS_frame _ _ _ _ (fun _ => ?_)).trans ?_ | split)

theorem State.writeComp_frame (W : Nat) (hW : 884752 &&& W = 884752) (cc : Nat) (s : State) : (State.writeComp cc s).hide W = s.hide W := by
  refine hide_mono _ _ hW ?_
  unfold State.writeComp
  repeat' (first | with_reducible rfl | simp only [State.modRing_frame, State.putComp_frame, Nat.reduceAnd, hide_ite, snd_ite, foldS_frame, whenS_frame, foldl_frame, ite_self, implies_true, mk_leaf, State.hideU, Ce.hide, Glb.hide, Flt.hide, Hif.hide, Sec.hide, Stp.hide, pick, Nat.reduceEqDiff, reduceIte] | with_reducible refine (foldS_frame _ _ _ (fun _ _ => ?_) _).trans ?_ | with_reducible refine (whenS_frame _ _ _ _ (fun _ => ?_)).trans ?_ | split)

theorem execCompletionWrite_frame (W : Nat) (hW : 17592186939440 &&& W = 17592186939440) (cc : Fin 64) (s : State) : (after1 (execCompletionWrite cc) s).hide W = s.hide W := by
  refine hide_mono _ _ hW ?_
  unfold after1 execCompletionWrite
  repeat' (first | with_reducible rfl | simp only [State.serveHeads_frame, State.writeComp_frame, Nat.reduceAnd, hide_ite, snd_ite, foldS_frame, whenS_frame, foldl_frame, ite_self, implies_true, mk_leaf, State.hideU, Ce.hide, Glb.hide, Flt.hide, Hif.hide, Sec.hide, Stp.hide, pick, Nat.reduceEqDiff, reduceIte] | with_reducible refine (foldS_frame _ _ _ (fun _ _ => ?_) _).trans ?_ | with_reducible refine (whenS_frame _ _ _ _ (fun _ => ?_)).trans ?_ | split)

theorem State.drainHeld_frame (W : Nat) (hW : 884752 &&& W = 884752) (cc : Nat) (s : State) : (State.drainHeld cc s).hide W = s.hide W := by
  refine hide_mono _ _ hW ?_
  unfold State.drainHeld
  repeat' (first | with_reducible rfl | simp only [State.writeComp_frame, Nat.reduceAnd, hide_ite, snd_ite, foldS_frame, whenS_frame, foldl_frame, ite_self, implies_true, mk_leaf, State.hideU, Ce.hide, Glb.hide, Flt.hide, Hif.hide, Sec.hide, Stp.hide, pick, Nat.reduceEqDiff, reduceIte] | with_reducible refine (foldS_frame _ _ _ (fun _ _ => ?_) _).trans ?_ | with_reducible refine (whenS_frame _ _ _ _ (fun _ => ?_)).trans ?_ | split)

theorem State.holdComps_frame (W : Nat) (hW : 262144 &&& W = 262144) (s : State) : (State.holdComps s).hide W = s.hide W := by
  refine hide_mono _ _ hW ?_
  unfold State.holdComps
  repeat' (first | with_reducible rfl | simp only [Nat.reduceAnd, hide_ite, snd_ite, foldS_frame, whenS_frame, foldl_frame, ite_self, implies_true, mk_leaf, State.hideU, Ce.hide, Glb.hide, Flt.hide, Hif.hide, Sec.hide, Stp.hide, pick, Nat.reduceEqDiff, reduceIte] | with_reducible refine (foldS_frame _ _ _ (fun _ _ => ?_) _).trans ?_ | with_reducible refine (whenS_frame _ _ _ _ (fun _ => ?_)).trans ?_ | split)

theorem State.ceStalled_frame (W : Nat) (hW : 262144 &&& W = 262144) (s : State) : (State.ceStalled s).hide W = s.hide W := by
  refine hide_mono _ _ hW ?_
  unfold State.ceStalled
  repeat' (first | with_reducible rfl | simp only [Nat.reduceAnd, hide_ite, snd_ite, foldS_frame, whenS_frame, foldl_frame, ite_self, implies_true, mk_leaf, State.hideU, Ce.hide, Glb.hide, Flt.hide, Hif.hide, Sec.hide, Stp.hide, pick, Nat.reduceEqDiff, reduceIte] | with_reducible refine (foldS_frame _ _ _ (fun _ _ => ?_) _).trans ?_ | with_reducible refine (whenS_frame _ _ _ _ (fun _ => ?_)).trans ?_ | split)

theorem execCeStall_frame (W : Nat) (hW : 296960 &&& W = 296960) (ring : Fin 64) (s : State) : (after1 (execCeStall ring) s).hide W = s.hide W := by
  refine hide_mono _ _ hW ?_
  unfold after1 execCeStall
  repeat' (first | with_reducible rfl | simp only [State.ceStalled_frame, State.raise_frame, State.setRing_frame, Nat.reduceAnd, hide_ite, snd_ite, foldS_frame, whenS_frame, foldl_frame, ite_self, implies_true, mk_leaf, State.hideU, Ce.hide, Glb.hide, Flt.hide, Hif.hide, Sec.hide, Stp.hide, pick, Nat.reduceEqDiff, reduceIte] | with_reducible refine (foldS_frame _ _ _ (fun _ _ => ?_) _).trans ?_ | with_reducible refine (whenS_frame _ _ _ _ (fun _ => ?_)).trans ?_ | split)

theorem State.ringOff_frame (W : Nat) (hW : 10995118213136 &&& W = 10995118213136) (kind n : Nat) (s : State) : (State.ringOff kind n s).hide W = s.hide W := by
  refine hide_mono _ _ hW ?_
  unfold State.ringOff
  repeat' (first | with_reducible rfl | simp only [State.holdComps_frame, State.outStops_frame, State.oxStops_frame, State.refuse_frame, State.setRing_frame, Nat.reduceAnd, hide_ite, snd_ite, foldS_frame, whenS_frame, foldl_frame, ite_self, implies_true, mk_leaf, State.hideU, Ce.hide, Glb.hide, Flt.hide, Hif.hide, Sec.hide, Stp.hide, pick, Nat.reduceEqDiff, reduceIte] | with_reducible refine (foldS_frame _ _ _ (fun _ _ => ?_) _).trans ?_ | with_reducible refine (whenS_frame _ _ _ _ (fun _ => ?_)).trans ?_ | split)

theorem State.ringOn_frame (W : Nat) (hW : 17592186939440 &&& W = 17592186939440) (kind n : Nat) (s : State) : (State.ringOn kind n s).hide W = s.hide W := by
  refine hide_mono _ _ hW ?_
  unfold State.ringOn
  repeat' (first | with_reducible rfl | simp only [State.drainHeld_frame, State.serveHeads_frame, State.setRing_frame, Nat.reduceAnd, hide_ite, snd_ite, foldS_frame, whenS_frame, foldl_frame, ite_self, implies_true, mk_leaf, State.hideU, Ce.hide, Glb.hide, Flt.hide, Hif.hide, Sec.hide, Stp.hide, pick, Nat.reduceEqDiff, reduceIte] | with_reducible refine (foldS_frame _ _ _ (fun _ _ => ?_) _).trans ?_ | with_reducible refine (whenS_frame _ _ _ _ (fun _ => ?_)).trans ?_ | split)

theorem State.rcfgWrite_frame (W : Nat) (hW : 28587304265776 &&& W = 28587304265776) (kind n : Nat) (v : Word) (s : State) : (State.rcfgWrite kind n v s).hide W = s.hide W := by
  refine hide_mono _ _ hW ?_
  unfold State.rcfgWrite
  repeat' (first | with_reducible rfl | simp only [State.ringOff_frame, State.ringOn_frame, State.setRing_frame, Nat.reduceAnd, hide_ite, snd_ite, foldS_frame, whenS_frame, foldl_frame, ite_self, implies_true, mk_leaf, State.hideU, Ce.hide, Glb.hide, Flt.hide, Hif.hide, Sec.hide, Stp.hide, pick, Nat.reduceEqDiff, reduceIte] | with_reducible refine (foldS_frame _ _ _ (fun _ _ => ?_) _).trans ?_ | with_reducible refine (whenS_frame _ _ _ _ (fun _ => ?_)).trans ?_ | split)

theorem execRingEnable_frame (W : Nat) (hW : 28587304265776 &&& W = 28587304265776) (kind : Fin 10) (n : Nat) (v : Word) (s : State) : (after1 (execRingEnable kind n v) s).hide W = s.hide W := by
  refine hide_mono _ _ hW ?_
  unfold after1 execRingEnable
  repeat' (first | with_reducible rfl | simp only [State.rcfgWrite_frame, Nat.reduceAnd, hide_ite, snd_ite, foldS_frame, whenS_frame, foldl_frame, ite_self, implies_true, mk_leaf, State.hideU, Ce.hide, Glb.hide, Flt.hide, Hif.hide, Sec.hide, Stp.hide, pick, Nat.reduceEqDiff, reduceIte] | with_reducible refine (foldS_frame _ _ _ (fun _ _ => ?_) _).trans ?_ | with_reducible refine (whenS_frame _ _ _ _ (fun _ => ?_)).trans ?_ | split)

theorem execRingDisable_frame (W : Nat) (hW : 10995118213136 &&& W = 10995118213136) (kind : Fin 10) (n : Nat) (s : State) : (after1 (execRingDisable kind n) s).hide W = s.hide W := by
  refine hide_mono _ _ hW ?_
  unfold after1 execRingDisable
  repeat' (first | with_reducible rfl | simp only [State.ringOff_frame, Nat.reduceAnd, hide_ite, snd_ite, foldS_frame, whenS_frame, foldl_frame, ite_self, implies_true, mk_leaf, State.hideU, Ce.hide, Glb.hide, Flt.hide, Hif.hide, Sec.hide, Stp.hide, pick, Nat.reduceEqDiff, reduceIte] | with_reducible refine (foldS_frame _ _ _ (fun _ _ => ?_) _).trans ?_ | with_reducible refine (whenS_frame _ _ _ _ (fun _ => ?_)).trans ?_ | split)

theorem State.ringReset_frame (W : Nat) (hW : 2140192 &&& W = 2140192) (kind n : Nat) (s : State) : (State.ringReset kind n s).hide W = s.hide W := by
  refine hide_mono _ _ hW ?_
  unfold State.ringReset
  repeat' (first | with_reducible rfl | simp only [State.breakOwners_frame, State.setRing_frame, Nat.reduceAnd, hide_ite, snd_ite, foldS_frame, whenS_frame, foldl_frame, ite_self, implies_true, mk_leaf, State.hideU, Ce.hide, Glb.hide, Flt.hide, Hif.hide, Sec.hide, Stp.hide, pick, Nat.reduceEqDiff, reduceIte] | with_reducible refine (foldS_frame _ _ _ (fun _ _ => ?_) _).trans ?_ | with_reducible refine (whenS_frame _ _ _ _ (fun _ => ?_)).trans ?_ | split)

theorem execRingReset_frame (W : Nat) (hW : 2140192 &&& W = 2140192) (kind : Fin 10) (n : Nat) (s : State) : (after1 (execRingReset kind n) s).hide W = s.hide W := by
  refine hide_mono _ _ hW ?_
  unfold after1 execRingReset
  repeat' (first | with_reducible rfl | simp only [State.ringReset_frame, Nat.reduceAnd, hide_ite, snd_ite, foldS_frame, whenS_frame, foldl_frame, ite_self, implies_true, mk_leaf, State.hideU, Ce.hide, Glb.hide, Flt.hide, Hif.hide, Sec.hide, Stp.hide, pick, Nat.reduceEqDiff, reduceIte] | with_reducible refine (foldS_frame _ _ _ (fun _ _ => ?_) _).trans ?_ | with_reducible refine (whenS_frame _ _ _ _ (fun _ => ?_)).trans ?_ | split)

theorem execHifCplTo_frame (W : Nat) (hW : 10995118213136 &&& W = 10995118213136) (kind : Fin 10) (n : Nat) (second : Bool) (s : State) : (after1 (execHifCplTo kind n second) s).hide W = s.hide W := by
  refine hide_mono _ _ hW ?_
  unfold after1 execHifCplTo
  repeat' (first | with_reducible rfl | simp only [State.raise_frame, State.ringOff_frame, State.setRing_frame, Nat.reduceAnd, hide_ite, snd_ite, foldS_frame, whenS_frame, foldl_frame, ite_self, implies_true, mk_leaf, State.hideU, Ce.hide, Glb.hide, Flt.hide, Hif.hide, Sec.hide, Stp.hide, pick, Nat.reduceEqDiff, reduceIte] | with_reducible refine (foldS_frame _ _ _ (fun _ _ => ?_) _).trans ?_ | with_reducible refine (whenS_frame _ _ _ _ (fun _ => ?_)).trans ?_ | split)

theorem State.dmaResumes_frame (W : Nat) (hW : 17592186939440 &&& W = 17592186939440) (s : State) : (State.dmaResumes s).hide W = s.hide W := by
  refine hide_mono _ _ hW ?_
  unfold State.dmaResumes
  repeat' (first | with_reducible rfl | simp only [State.drainHeld_frame, State.flushVecs_frame, State.serveHeads_frame, Nat.reduceAnd, hide_ite, snd_ite, foldS_frame, whenS_frame, foldl_frame, ite_self, implies_true, mk_leaf, State.hideU, Ce.hide, Glb.hide, Flt.hide, Hif.hide, Sec.hide, Stp.hide, pick, Nat.reduceEqDiff, reduceIte] | with_reducible refine (foldS_frame _ _ _ (fun _ _ => ?_) _).trans ?_ | with_reducible refine (whenS_frame _ _ _ _ (fun _ => ?_)).trans ?_ | split)

theorem execBusMasterEnable_frame (W : Nat) (hW : 17592187070512 &&& W = 17592187070512) (s : State) : (after1 (execBusMasterEnable ) s).hide W = s.hide W := by
  refine hide_mono _ _ hW ?_
  unfold after1 execBusMasterEnable
  repeat' (first | with_reducible rfl | simp only [State.dmaResumes_frame, Nat.reduceAnd, hide_ite, snd_ite, foldS_frame, whenS_frame, foldl_frame, ite_self, implies_true, mk_leaf, State.hideU, Ce.hide, Glb.hide, Flt.hide, Hif.hide, Sec.hide, Stp.hide, pick, Nat.reduceEqDiff, reduceIte] | with_reducible refine (foldS_frame _ _ _ (fun _ _ => ?_) _).trans ?_ | with_reducible refine (whenS_frame _ _ _ _ (fun _ => ?_)).trans ?_ | split)

theorem execBusMasterDisable_frame (W : Nat) (hW : 10995117721600 &&& W = 10995117721600) (s : State) : (after1 (execBusMasterDisable ) s).hide W = s.hide W := by
  refine hide_mono _ _ hW ?_
  unfold after1 execBusMasterDisable
  repeat' (first | with_reducible rfl | simp only [State.holdComps_frame, State.outStops_frame, State.oxStops_frame, Nat.reduceAnd, hide_ite, snd_ite, foldS_frame, whenS_frame, foldl_frame, ite_self, implies_true, mk_leaf, State.hideU, Ce.hide, Glb.hide, Flt.hide, Hif.hide, Sec.hide, Stp.hide, pick, Nat.reduceEqDiff, reduceIte] | with_reducible refine (foldS_frame _ _ _ (fun _ _ => ?_) _).trans ?_ | with_reducible refine (whenS_frame _ _ _ _ (fun _ => ?_)).trans ?_ | split)

theorem execD3hotEntry_frame (W : Nat) (hW : 10995117721600 &&& W = 10995117721600) (s : State) : (after1 (execD3hotEntry ) s).hide W = s.hide W := by
  refine hide_mono _ _ hW ?_
  unfold after1 execD3hotEntry
  repeat' (first | with_reducible rfl | simp only [State.holdComps_frame, State.outStops_frame, State.oxStops_frame, Nat.reduceAnd, hide_ite, snd_ite, foldS_frame, whenS_frame, foldl_frame, ite_self, implies_true, mk_leaf, State.hideU, Ce.hide, Glb.hide, Flt.hide, Hif.hide, Sec.hide, Stp.hide, pick, Nat.reduceEqDiff, reduceIte] | with_reducible refine (foldS_frame _ _ _ (fun _ _ => ?_) _).trans ?_ | with_reducible refine (whenS_frame _ _ _ _ (fun _ => ?_)).trans ?_ | split)

theorem execD0Entry_frame (W : Nat) (hW : 17592187070512 &&& W = 17592187070512) (s : State) : (after1 (execD0Entry ) s).hide W = s.hide W := by
  refine hide_mono _ _ hW ?_
  unfold after1 execD0Entry
  repeat' (first | with_reducible rfl | simp only [State.dmaResumes_frame, Nat.reduceAnd, hide_ite, snd_ite, foldS_frame, whenS_frame, foldl_frame, ite_self, implies_true, mk_leaf, State.hideU, Ce.hide, Glb.hide, Flt.hide, Hif.hide, Sec.hide, Stp.hide, pick, Nat.reduceEqDiff, reduceIte] | with_reducible refine (foldS_frame _ _ _ (fun _ _ => ?_) _).trans ?_ | with_reducible refine (whenS_frame _ _ _ _ (fun _ => ?_)).trans ?_ | split)

theorem execMsixUnmask_frame (W : Nat) (hW : 65552 &&& W = 65552) (v : Option (Fin 64)) (s : State) : (after1 (execMsixUnmask v) s).hide W = s.hide W := by
  refine hide_mono _ _ hW ?_
  unfold after1 execMsixUnmask
  repeat' (first | with_reducible rfl | simp only [State.flushVecs_frame, Nat.reduceAnd, hide_ite, snd_ite, foldS_frame, whenS_frame, foldl_frame, ite_self, implies_true, mk_leaf, State.hideU, Ce.hide, Glb.hide, Flt.hide, Hif.hide, Sec.hide, Stp.hide, pick, Nat.reduceEqDiff, reduceIte] | with_reducible refine (foldS_frame _ _ _ (fun _ _ => ?_) _).trans ?_ | with_reducible refine (whenS_frame _ _ _ _ (fun _ => ?_)).trans ?_ | split)

theorem execLinkUp_frame (W : Nat) (hW : 131072 &&& W = 131072) (up : Bool) (width speed : Nat) (s : State) : (after1 (execLinkUp up width speed) s).hide W = s.hide W := by
  refine hide_mono _ _ hW ?_
  unfold after1 execLinkUp
  repeat' (first | with_reducible rfl | simp only [Nat.reduceAnd, hide_ite, snd_ite, foldS_frame, whenS_frame, foldl_frame, ite_self, implies_true, mk_leaf, State.hideU, Ce.hide, Glb.hide, Flt.hide, Hif.hide, Sec.hide, Stp.hide, pick, Nat.reduceEqDiff, reduceIte] | with_reducible refine (foldS_frame _ _ _ (fun _ _ => ?_) _).trans ?_ | with_reducible refine (whenS_frame _ _ _ _ (fun _ => ?_)).trans ?_ | split)

theorem State.purge_frame (W : Nat) (hW : 17592186470400 &&& W = 17592186470400) (s : State) : (State.purge s).hide W = s.hide W := by
  refine hide_mono _ _ hW ?_
  unfold State.purge
  repeat' (first | with_reducible rfl | simp only [State.modRing_frame, Nat.reduceAnd, hide_ite, snd_ite, foldS_frame, whenS_frame, foldl_frame, ite_self, implies_true, mk_leaf, State.hideU, Ce.hide, Glb.hide, Flt.hide, Hif.hide, Sec.hide, Stp.hide, pick, Nat.reduceEqDiff, reduceIte] | with_reducible refine (foldS_frame _ _ _ (fun _ _ => ?_) _).trans ?_ | with_reducible refine (whenS_frame _ _ _ _ (fun _ => ?_)).trans ?_ | split)

theorem State.hostReset_frame (W : Nat) (hW : 28587306494256 &&& W = 28587306494256) (last : Nat) (s : State) : (State.hostReset last s).hide W = s.hide W := by
  refine hide_mono _ _ hW ?_
  unfold State.hostReset
  repeat' (first | with_reducible rfl | simp only [State.breakOwners_frame, State.holdComps_frame, State.outStops_frame, State.oxStops_frame, State.purge_frame, State.ringOff_frame, Nat.reduceAnd, hide_ite, snd_ite, foldS_frame, whenS_frame, foldl_frame, ite_self, implies_true, mk_leaf, State.hideU, Ce.hide, Glb.hide, Flt.hide, Hif.hide, Sec.hide, Stp.hide, pick, Nat.reduceEqDiff, reduceIte] | with_reducible refine (foldS_frame _ _ _ (fun _ _ => ?_) _).trans ?_ | with_reducible refine (whenS_frame _ _ _ _ (fun _ => ?_)).trans ?_ | split)

theorem execPerstN_frame (W : Nat) (hW : 28587306494256 &&& W = 28587306494256) (s : State) : (after1 (execPerstN ) s).hide W = s.hide W := by
  refine hide_mono _ _ hW ?_
  unfold after1 execPerstN
  repeat' (first | with_reducible rfl | simp only [State.hostReset_frame, Nat.reduceAnd, hide_ite, snd_ite, foldS_frame, whenS_frame, foldl_frame, ite_self, implies_true, mk_leaf, State.hideU, Ce.hide, Glb.hide, Flt.hide, Hif.hide, Sec.hide, Stp.hide, pick, Nat.reduceEqDiff, reduceIte] | with_reducible refine (foldS_frame _ _ _ (fun _ _ => ?_) _).trans ?_ | with_reducible refine (whenS_frame _ _ _ _ (fun _ => ?_)).trans ?_ | split)

theorem execFlr_frame (W : Nat) (hW : 28587306494256 &&& W = 28587306494256) (s : State) : (after1 (execFlr ) s).hide W = s.hide W := by
  refine hide_mono _ _ hW ?_
  unfold after1 execFlr
  repeat' (first | with_reducible rfl | simp only [State.hostReset_frame, Nat.reduceAnd, hide_ite, snd_ite, foldS_frame, whenS_frame, foldl_frame, ite_self, implies_true, mk_leaf, State.hideU, Ce.hide, Glb.hide, Flt.hide, Hif.hide, Sec.hide, Stp.hide, pick, Nat.reduceEqDiff, reduceIte] | with_reducible refine (foldS_frame _ _ _ (fun _ _ => ?_) _).trans ?_ | with_reducible refine (whenS_frame _ _ _ _ (fun _ => ?_)).trans ?_ | split)

theorem State.pmLose_frame (W : Nat) (hW : 16779264 &&& W = 16779264) (second : Word) (s : State) : (State.pmLose second s).hide W = s.hide W := by
  refine hide_mono _ _ hW ?_
  unfold State.pmLose
  repeat' (first | with_reducible rfl | simp only [State.raise_frame, Nat.reduceAnd, hide_ite, snd_ite, foldS_frame, whenS_frame, foldl_frame, ite_self, implies_true, mk_leaf, State.hideU, Ce.hide, Glb.hide, Flt.hide, Hif.hide, Sec.hide, Stp.hide, pick, Nat.reduceEqDiff, reduceIte] | with_reducible refine (foldS_frame _ _ _ (fun _ _ => ?_) _).trans ?_ | with_reducible refine (whenS_frame _ _ _ _ (fun _ => ?_)).trans ?_ | split)

theorem State.pmLatch_frame (W : Nat) (hW : 16779264 &&& W = 16779264) (s : State) : (State.pmLatch s).hide W = s.hide W := by
  refine hide_mono _ _ hW ?_
  unfold State.pmLatch
  repeat' (first | with_reducible rfl | simp only [State.pmLose_frame, Nat.reduceAnd, hide_ite, snd_ite, foldS_frame, whenS_frame, foldl_frame, ite_self, implies_true, mk_leaf, State.hideU, Ce.hide, Glb.hide, Flt.hide, Hif.hide, Sec.hide, Stp.hide, pick, Nat.reduceEqDiff, reduceIte] | with_reducible refine (foldS_frame _ _ _ (fun _ _ => ?_) _).trans ?_ | with_reducible refine (whenS_frame _ _ _ _ (fun _ => ?_)).trans ?_ | split)

theorem State.pmPart_frame (W : Nat) (hW : 16877584 &&& W = 16877584) (d : BufDesc) (s : State) : (State.pmPart d s).hide W = s.hide W := by
  refine hide_mono _ _ hW ?_
  unfold State.pmPart
  repeat' (first | with_reducible rfl | simp only [State.badDesc_frame, State.dma_frame, State.writeBack_frame, Nat.reduceAnd, hide_ite, snd_ite, foldS_frame, whenS_frame, foldl_frame, ite_self, implies_true, mk_leaf, State.hideU, Ce.hide, Glb.hide, Flt.hide, Hif.hide, Sec.hide, Stp.hide, pick, Nat.reduceEqDiff, reduceIte] | with_reducible refine (foldS_frame _ _ _ (fun _ _ => ?_) _).trans ?_ | with_reducible refine (whenS_frame _ _ _ _ (fun _ => ?_)).trans ?_ | split)

theorem execPmPartWrite_frame (W : Nat) (hW : 16877584 &&& W = 16877584) (d : BufDesc) (s : State) : (after1 (execPmPartWrite d) s).hide W = s.hide W := by
  refine hide_mono _ _ hW ?_
  unfold after1 execPmPartWrite
  repeat' (first | with_reducible rfl | simp only [State.pmPart_frame, Nat.reduceAnd, hide_ite, snd_ite, foldS_frame, whenS_frame, foldl_frame, ite_self, implies_true, mk_leaf, State.hideU, Ce.hide, Glb.hide, Flt.hide, Hif.hide, Sec.hide, Stp.hide, pick, Nat.reduceEqDiff, reduceIte] | with_reducible refine (foldS_frame _ _ _ (fun _ _ => ?_) _).trans ?_ | with_reducible refine (whenS_frame _ _ _ _ (fun _ => ?_)).trans ?_ | split)

theorem State.pmcSnap_frame (W : Nat) (hW : 524288 &&& W = 524288) (s : State) : (State.pmcSnap s).hide W = s.hide W := by
  refine hide_mono _ _ hW ?_
  unfold State.pmcSnap
  repeat' (first | with_reducible rfl | simp only [Nat.reduceAnd, hide_ite, snd_ite, foldS_frame, whenS_frame, foldl_frame, ite_self, implies_true, mk_leaf, State.hideU, Ce.hide, Glb.hide, Flt.hide, Hif.hide, Sec.hide, Stp.hide, pick, Nat.reduceEqDiff, reduceIte] | with_reducible refine (foldS_frame _ _ _ (fun _ _ => ?_) _).trans ?_ | with_reducible refine (whenS_frame _ _ _ _ (fun _ => ?_)).trans ?_ | split)

theorem execPmcSnap_frame (W : Nat) (hW : 524288 &&& W = 524288) (s : State) : (after1 (execPmcSnap ) s).hide W = s.hide W := by
  refine hide_mono _ _ hW ?_
  unfold after1 execPmcSnap
  repeat' (first | with_reducible rfl | simp only [State.pmcSnap_frame, Nat.reduceAnd, hide_ite, snd_ite, foldS_frame, whenS_frame, foldl_frame, ite_self, implies_true, mk_leaf, State.hideU, Ce.hide, Glb.hide, Flt.hide, Hif.hide, Sec.hide, Stp.hide, pick, Nat.reduceEqDiff, reduceIte] | with_reducible refine (foldS_frame _ _ _ (fun _ _ => ?_) _).trans ?_ | with_reducible refine (whenS_frame _ _ _ _ (fun _ => ?_)).trans ?_ | split)

theorem execPmcFreeze_frame (W : Nat) (hW : 8 &&& W = 8) (on : Bool) (s : State) : (after1 (execPmcFreeze on) s).hide W = s.hide W := by
  refine hide_mono _ _ hW ?_
  unfold after1 execPmcFreeze
  repeat' (first | with_reducible rfl | simp only [State.setReg_frame, Nat.reduceAnd, hide_ite, snd_ite, foldS_frame, whenS_frame, foldl_frame, ite_self, implies_true, mk_leaf, State.hideU, Ce.hide, Glb.hide, Flt.hide, Hif.hide, Sec.hide, Stp.hide, pick, Nat.reduceEqDiff, reduceIte] | with_reducible refine (foldS_frame _ _ _ (fun _ _ => ?_) _).trans ?_ | with_reducible refine (whenS_frame _ _ _ _ (fun _ => ?_)).trans ?_ | split)

theorem State.pmcPreset_frame (W : Nat) (hW : 524288 &&& W = 524288) (j : Nat) (v : DWord) (s : State) : (State.pmcPreset j v s).hide W = s.hide W := by
  refine hide_mono _ _ hW ?_
  unfold State.pmcPreset
  repeat' (first | with_reducible rfl | simp only [Nat.reduceAnd, hide_ite, snd_ite, foldS_frame, whenS_frame, foldl_frame, ite_self, implies_true, mk_leaf, State.hideU, Ce.hide, Glb.hide, Flt.hide, Hif.hide, Sec.hide, Stp.hide, pick, Nat.reduceEqDiff, reduceIte] | with_reducible refine (foldS_frame _ _ _ (fun _ _ => ?_) _).trans ?_ | with_reducible refine (whenS_frame _ _ _ _ (fun _ => ?_)).trans ?_ | split)

theorem execPmcPreset_frame (W : Nat) (hW : 524288 &&& W = 524288) (j : Fin 13) (v : DWord) (s : State) : (after1 (execPmcPreset j v) s).hide W = s.hide W := by
  refine hide_mono _ _ hW ?_
  unfold after1 execPmcPreset
  repeat' (first | with_reducible rfl | simp only [State.pmcPreset_frame, Nat.reduceAnd, hide_ite, snd_ite, foldS_frame, whenS_frame, foldl_frame, ite_self, implies_true, mk_leaf, State.hideU, Ce.hide, Glb.hide, Flt.hide, Hif.hide, Sec.hide, Stp.hide, pick, Nat.reduceEqDiff, reduceIte] | with_reducible refine (foldS_frame _ _ _ (fun _ _ => ?_) _).trans ?_ | with_reducible refine (whenS_frame _ _ _ _ (fun _ => ?_)).trans ?_ | split)

theorem execPmcOvf_frame (W : Nat) (hW : 524288 &&& W = 524288) (j : Fin 13) (s : State) : (after1 (execPmcOvf j) s).hide W = s.hide W := by
  refine hide_mono _ _ hW ?_
  unfold after1 execPmcOvf
  repeat' (first | with_reducible rfl | simp only [State.pmcAdd_frame, Nat.reduceAnd, hide_ite, snd_ite, foldS_frame, whenS_frame, foldl_frame, ite_self, implies_true, mk_leaf, State.hideU, Ce.hide, Glb.hide, Flt.hide, Hif.hide, Sec.hide, Stp.hide, pick, Nat.reduceEqDiff, reduceIte] | with_reducible refine (foldS_frame _ _ _ (fun _ _ => ?_) _).trans ?_ | with_reducible refine (whenS_frame _ _ _ _ (fun _ => ?_)).trans ?_ | split)

theorem State.takeSample_frame (W : Nat) (hW : 16779264 &&& W = 16779264) (x : Sample) (s : State) : (State.takeSample x s).hide W = s.hide W := by
  refine hide_mono _ _ hW ?_
  unfold State.takeSample
  repeat' (first | with_reducible rfl | simp only [State.raise_frame, Nat.reduceAnd, hide_ite, snd_ite, foldS_frame, whenS_frame, foldl_frame, ite_self, implies_true, mk_leaf, State.hideU, Ce.hide, Glb.hide, Flt.hide, Hif.hide, Sec.hide, Stp.hide, pick, Nat.reduceEqDiff, reduceIte] | with_reducible refine (foldS_frame _ _ _ (fun _ _ => ?_) _).trans ?_ | with_reducible refine (whenS_frame _ _ _ _ (fun _ => ?_)).trans ?_ | split)

theorem State.scrubPlain_frame (W : Nat) (hW : 32 &&& W = 32) (m : Mem) (d : Bool) (s : State) : (State.scrubPlain m d s).hide W = s.hide W := by
  refine hide_mono _ _ hW ?_
  unfold State.scrubPlain
  repeat' (first | with_reducible rfl | simp only [State.clearUpset_frame, Nat.reduceAnd, hide_ite, snd_ite, foldS_frame, whenS_frame, foldl_frame, ite_self, implies_true, mk_leaf, State.hideU, Ce.hide, Glb.hide, Flt.hide, Hif.hide, Sec.hide, Stp.hide, pick, Nat.reduceEqDiff, reduceIte] | with_reducible refine (foldS_frame _ _ _ (fun _ _ => ?_) _).trans ?_ | with_reducible refine (whenS_frame _ _ _ _ (fun _ => ?_)).trans ?_ | split)

theorem State.scrubRead_frame (W : Nat) (hW : 19516348172320 &&& W = 19516348172320) (m : Mem) (s : State) : (State.scrubRead m s).hide W = s.hide W := by
  refine hide_mono _ _ hW ?_
  unfold State.scrubRead
  repeat' (first | with_reducible rfl | simp only [State.cmRead_frame, State.cnfEcc_frame, State.cnfOnce_frame, State.dmRead_frame, State.groupRead_frame, State.readDue_frame, State.rsRead_frame, State.scrubPlain_frame, State.sramErr_frame, Nat.reduceAnd, hide_ite, snd_ite, foldS_frame, whenS_frame, foldl_frame, ite_self, implies_true, mk_leaf, State.hideU, Ce.hide, Glb.hide, Flt.hide, Hif.hide, Sec.hide, Stp.hide, pick, Nat.reduceEqDiff, reduceIte] | with_reducible refine (foldS_frame _ _ _ (fun _ _ => ?_) _).trans ?_ | with_reducible refine (whenS_frame _ _ _ _ (fun _ => ?_)).trans ?_ | split)

theorem State.scrubWord_frame (W : Nat) (hW : 19516348172320 &&& W = 19516348172320) (m : Mem) (s : State) : (State.scrubWord m s).hide W = s.hide W := by
  refine hide_mono _ _ hW ?_
  unfold State.scrubWord
  repeat' (first | with_reducible rfl | simp only [State.scrubRead_frame, Nat.reduceAnd, hide_ite, snd_ite, foldS_frame, whenS_frame, foldl_frame, ite_self, implies_true, mk_leaf, State.hideU, Ce.hide, Glb.hide, Flt.hide, Hif.hide, Sec.hide, Stp.hide, pick, Nat.reduceEqDiff, reduceIte] | with_reducible refine (foldS_frame _ _ _ (fun _ _ => ?_) _).trans ?_ | with_reducible refine (whenS_frame _ _ _ _ (fun _ => ?_)).trans ?_ | split)

theorem execScrubWord_frame (W : Nat) (hW : 19516348172320 &&& W = 19516348172320) (m : Mem) (hit : Option Bool) (s : State) : (after1 (execScrubWord m hit) s).hide W = s.hide W := by
  refine hide_mono _ _ hW ?_
  unfold after1 execScrubWord
  repeat' (first | with_reducible rfl | simp only [State.addUpsets_frame, State.scrubWord_frame, Nat.reduceAnd, hide_ite, snd_ite, foldS_frame, whenS_frame, foldl_frame, ite_self, implies_true, mk_leaf, State.hideU, Ce.hide, Glb.hide, Flt.hide, Hif.hide, Sec.hide, Stp.hide, pick, Nat.reduceEqDiff, reduceIte] | with_reducible refine (foldS_frame _ _ _ (fun _ _ => ?_) _).trans ?_ | with_reducible refine (whenS_frame _ _ _ _ (fun _ => ?_)).trans ?_ | split)

theorem State.sweepStart_frame (W : Nat) (hW : 16777216 &&& W = 16777216) (s : State) : (State.sweepStart s).hide W = s.hide W := by
  refine hide_mono _ _ hW ?_
  unfold State.sweepStart
  repeat' (first | with_reducible rfl | simp only [Nat.reduceAnd, hide_ite, snd_ite, foldS_frame, whenS_frame, foldl_frame, ite_self, implies_true, mk_leaf, State.hideU, Ce.hide, Glb.hide, Flt.hide, Hif.hide, Sec.hide, Stp.hide, pick, Nat.reduceEqDiff, reduceIte] | with_reducible refine (foldS_frame _ _ _ (fun _ _ => ?_) _).trans ?_ | with_reducible refine (whenS_frame _ _ _ _ (fun _ => ?_)).trans ?_ | split)

theorem State.sweepEnd_frame (W : Nat) (hW : 19516348172320 &&& W = 19516348172320) (s : State) : (State.sweepEnd s).hide W = s.hide W := by
  refine hide_mono _ _ hW ?_
  unfold State.sweepEnd
  repeat' (first | with_reducible rfl | simp only [State.scrubWord_frame, Nat.reduceAnd, hide_ite, snd_ite, foldS_frame, whenS_frame, foldl_frame, ite_self, implies_true, mk_leaf, State.hideU, Ce.hide, Glb.hide, Flt.hide, Hif.hide, Sec.hide, Stp.hide, pick, Nat.reduceEqDiff, reduceIte] | with_reducible refine (foldS_frame _ _ _ (fun _ _ => ?_) _).trans ?_ | with_reducible refine (whenS_frame _ _ _ _ (fun _ => ?_)).trans ?_ | split)

theorem State.calibrate_frame (W : Nat) (hW : 16777216 &&& W = 16777216) (s : State) : (State.calibrate s).hide W = s.hide W := by
  refine hide_mono _ _ hW ?_
  unfold State.calibrate
  repeat' (first | with_reducible rfl | simp only [Nat.reduceAnd, hide_ite, snd_ite, foldS_frame, whenS_frame, foldl_frame, ite_self, implies_true, mk_leaf, State.hideU, Ce.hide, Glb.hide, Flt.hide, Hif.hide, Sec.hide, Stp.hide, pick, Nat.reduceEqDiff, reduceIte] | with_reducible refine (foldS_frame _ _ _ (fun _ _ => ?_) _).trans ?_ | with_reducible refine (whenS_frame _ _ _ _ (fun _ => ?_)).trans ?_ | split)

theorem execCalibration_frame (W : Nat) (hW : 16777216 &&& W = 16777216) (s : State) : (after1 (execCalibration ) s).hide W = s.hide W := by
  refine hide_mono _ _ hW ?_
  unfold after1 execCalibration
  repeat' (first | with_reducible rfl | simp only [State.calibrate_frame, Nat.reduceAnd, hide_ite, snd_ite, foldS_frame, whenS_frame, foldl_frame, ite_self, implies_true, mk_leaf, State.hideU, Ce.hide, Glb.hide, Flt.hide, Hif.hide, Sec.hide, Stp.hide, pick, Nat.reduceEqDiff, reduceIte] | with_reducible refine (foldS_frame _ _ _ (fun _ _ => ?_) _).trans ?_ | with_reducible refine (whenS_frame _ _ _ _ (fun _ => ?_)).trans ?_ | split)

theorem State.newSecond_frame (W : Nat) (hW : 13022340841472 &&& W = 13022340841472) (s : State) : (State.newSecond s).hide W = s.hide W := by
  refine hide_mono _ _ hW ?_
  unfold State.newSecond
  repeat' (first | with_reducible rfl | simp only [Nat.reduceAnd, hide_ite, snd_ite, foldS_frame, whenS_frame, foldl_frame, ite_self, implies_true, mk_leaf, State.hideU, Ce.hide, Glb.hide, Flt.hide, Hif.hide, Sec.hide, Stp.hide, pick, Nat.reduceEqDiff, reduceIte] | with_reducible refine (foldS_frame _ _ _ (fun _ _ => ?_) _).trans ?_ | with_reducible refine (whenS_frame _ _ _ _ (fun _ => ?_)).trans ?_ | split)

theorem State.storySecond_frame (W : Nat) (hW : 285214720 &&& W = 285214720) (x : Sample) (s : State) : (State.storySecond x s).hide W = s.hide W := by
  refine hide_mono _ _ hW ?_
  unfold State.storySecond
  repeat' (first | with_reducible rfl | simp only [State.pmLatch_frame, State.sweepStart_frame, State.takeSample_frame, Nat.reduceAnd, hide_ite, snd_ite, foldS_frame, whenS_frame, foldl_frame, ite_self, implies_true, mk_leaf, State.hideU, Ce.hide, Glb.hide, Flt.hide, Hif.hide, Sec.hide, Stp.hide, pick, Nat.reduceEqDiff, reduceIte] | with_reducible refine (foldS_frame _ _ _ (fun _ _ => ?_) _).trans ?_ | with_reducible refine (whenS_frame _ _ _ _ (fun _ => ?_)).trans ?_ | split)

theorem execStorySecond_frame (W : Nat) (hW : 285214720 &&& W = 285214720) (x : Sample) (s : State) : (after1 (execStorySecond x) s).hide W = s.hide W := by
  refine hide_mono _ _ hW ?_
  unfold after1 execStorySecond
  repeat' (first | with_reducible rfl | simp only [State.storySecond_frame, Nat.reduceAnd, hide_ite, snd_ite, foldS_frame, whenS_frame, foldl_frame, ite_self, implies_true, mk_leaf, State.hideU, Ce.hide, Glb.hide, Flt.hide, Hif.hide, Sec.hide, Stp.hide, pick, Nat.reduceEqDiff, reduceIte] | with_reducible refine (foldS_frame _ _ _ (fun _ _ => ?_) _).trans ?_ | with_reducible refine (whenS_frame _ _ _ _ (fun _ => ?_)).trans ?_ | split)

theorem State.legacyCmd_frame (W : Nat) (hW : 16777216 &&& W = 16777216) (op : Nat) (s : State) : (State.legacyCmd op s).hide W = s.hide W := by
  refine hide_mono _ _ hW ?_
  unfold State.legacyCmd
  repeat' (first | with_reducible rfl | simp only [Nat.reduceAnd, hide_ite, snd_ite, foldS_frame, whenS_frame, foldl_frame, ite_self, implies_true, mk_leaf, State.hideU, Ce.hide, Glb.hide, Flt.hide, Hif.hide, Sec.hide, Stp.hide, pick, Nat.reduceEqDiff, reduceIte] | with_reducible refine (foldS_frame _ _ _ (fun _ _ => ?_) _).trans ?_ | with_reducible refine (whenS_frame _ _ _ _ (fun _ => ?_)).trans ?_ | split)

theorem execLegacySense_frame (W : Nat) (hW : 16777216 &&& W = 16777216) (s : State) : (after1 (execLegacySense ) s).hide W = s.hide W := by
  refine hide_mono _ _ hW ?_
  unfold after1 execLegacySense
  repeat' (first | with_reducible rfl | simp only [State.legacyCmd_frame, Nat.reduceAnd, hide_ite, snd_ite, foldS_frame, whenS_frame, foldl_frame, ite_self, implies_true, mk_leaf, State.hideU, Ce.hide, Glb.hide, Flt.hide, Hif.hide, Sec.hide, Stp.hide, pick, Nat.reduceEqDiff, reduceIte] | with_reducible refine (foldS_frame _ _ _ (fun _ _ => ?_) _).trans ?_ | with_reducible refine (whenS_frame _ _ _ _ (fun _ => ?_)).trans ?_ | split)

theorem execLegacyCal_frame (W : Nat) (hW : 16777216 &&& W = 16777216) (s : State) : (after1 (execLegacyCal ) s).hide W = s.hide W := by
  refine hide_mono _ _ hW ?_
  unfold after1 execLegacyCal
  repeat' (first | with_reducible rfl | simp only [State.legacyCmd_frame, Nat.reduceAnd, hide_ite, snd_ite, foldS_frame, whenS_frame, foldl_frame, ite_self, implies_true, mk_leaf, State.hideU, Ce.hide, Glb.hide, Flt.hide, Hif.hide, Sec.hide, Stp.hide, pick, Nat.reduceEqDiff, reduceIte] | with_reducible refine (foldS_frame _ _ _ (fun _ _ => ?_) _).trans ?_ | with_reducible refine (whenS_frame _ _ _ _ (fun _ => ?_)).trans ?_ | split)

theorem execLegacyScrubReport_frame (W : Nat) (hW : 16777216 &&& W = 16777216) (s : State) : (after1 (execLegacyScrubReport ) s).hide W = s.hide W := by
  refine hide_mono _ _ hW ?_
  unfold after1 execLegacyScrubReport
  repeat' (first | with_reducible rfl | simp only [State.legacyCmd_frame, Nat.reduceAnd, hide_ite, snd_ite, foldS_frame, whenS_frame, foldl_frame, ite_self, implies_true, mk_leaf, State.hideU, Ce.hide, Glb.hide, Flt.hide, Hif.hide, Sec.hide, Stp.hide, pick, Nat.reduceEqDiff, reduceIte] | with_reducible refine (foldS_frame _ _ _ (fun _ _ => ?_) _).trans ?_ | with_reducible refine (whenS_frame _ _ _ _ (fun _ => ?_)).trans ?_ | split)

theorem State.legacyEffect_frame (W : Nat) (hW : 16779264 &&& W = 16779264) (x : Sample) (s : State) : (State.legacyEffect x s).hide W = s.hide W := by
  refine hide_mono _ _ hW ?_
  unfold State.legacyEffect
  repeat' (first | with_reducible rfl | simp only [State.calibrate_frame, State.takeSample_frame, Nat.reduceAnd, hide_ite, snd_ite, foldS_frame, whenS_frame, foldl_frame, ite_self, implies_true, mk_leaf, State.hideU, Ce.hide, Glb.hide, Flt.hide, Hif.hide, Sec.hide, Stp.hide, pick, Nat.reduceEqDiff, reduceIte] | with_reducible refine (foldS_frame _ _ _ (fun _ _ => ?_) _).trans ?_ | with_reducible refine (whenS_frame _ _ _ _ (fun _ => ?_)).trans ?_ | split)

theorem State.legacyEnd_frame (W : Nat) (hW : 16779264 &&& W = 16779264) (x : Sample) (s : State) : (State.legacyEnd x s).hide W = s.hide W := by
  refine hide_mono _ _ hW ?_
  unfold State.legacyEnd
  repeat' (first | with_reducible rfl | simp only [State.legacyEffect_frame, Nat.reduceAnd, hide_ite, snd_ite, foldS_frame, whenS_frame, foldl_frame, ite_self, implies_true, mk_leaf, State.hideU, Ce.hide, Glb.hide, Flt.hide, Hif.hide, Sec.hide, Stp.hide, pick, Nat.reduceEqDiff, reduceIte] | with_reducible refine (foldS_frame _ _ _ (fun _ _ => ?_) _).trans ?_ | with_reducible refine (whenS_frame _ _ _ _ (fun _ => ?_)).trans ?_ | split)

theorem execLegacyDone_frame (W : Nat) (hW : 16779264 &&& W = 16779264) (x : Sample) (s : State) : (after1 (execLegacyDone x) s).hide W = s.hide W := by
  refine hide_mono _ _ hW ?_
  unfold after1 execLegacyDone
  repeat' (first | with_reducible rfl | simp only [State.legacyEnd_frame, Nat.reduceAnd, hide_ite, snd_ite, foldS_frame, whenS_frame, foldl_frame, ite_self, implies_true, mk_leaf, State.hideU, Ce.hide, Glb.hide, Flt.hide, Hif.hide, Sec.hide, Stp.hide, pick, Nat.reduceEqDiff, reduceIte] | with_reducible refine (foldS_frame _ _ _ (fun _ _ => ?_) _).trans ?_ | with_reducible refine (whenS_frame _ _ _ _ (fun _ => ?_)).trans ?_ | split)

theorem execSvcModeWrite_frame (W : Nat) (hW : 8 &&& W = 8) (v : Word) (s : State) : (after1 (execSvcModeWrite v) s).hide W = s.hide W := by
  refine hide_mono _ _ hW ?_
  unfold after1 execSvcModeWrite
  repeat' (first | with_reducible rfl | simp only [State.regWrite_frame, Nat.reduceAnd, hide_ite, snd_ite, foldS_frame, whenS_frame, foldl_frame, ite_self, implies_true, mk_leaf, State.hideU, Ce.hide, Glb.hide, Flt.hide, Hif.hide, Sec.hide, Stp.hide, pick, Nat.reduceEqDiff, reduceIte] | with_reducible refine (foldS_frame _ _ _ (fun _ _ => ?_) _).trans ?_ | with_reducible refine (whenS_frame _ _ _ _ (fun _ => ?_)).trans ?_ | split)

theorem State.logMark_frame (W : Nat) (hW : 16384 &&& W = 16384) (v : Word) (s : State) : (State.logMark v s).hide W = s.hide W := by
  refine hide_mono _ _ hW ?_
  unfold State.logMark
  repeat' (first | with_reducible rfl | simp only [Nat.reduceAnd, hide_ite, snd_ite, foldS_frame, whenS_frame, foldl_frame, ite_self, implies_true, mk_leaf, State.hideU, Ce.hide, Glb.hide, Flt.hide, Hif.hide, Sec.hide, Stp.hide, pick, Nat.reduceEqDiff, reduceIte] | with_reducible refine (foldS_frame _ _ _ (fun _ _ => ?_) _).trans ?_ | with_reducible refine (whenS_frame _ _ _ _ (fun _ => ?_)).trans ?_ | split)

theorem execLogMarkWrite_frame (W : Nat) (hW : 16384 &&& W = 16384) (v : Word) (s : State) : (after1 (execLogMarkWrite v) s).hide W = s.hide W := by
  refine hide_mono _ _ hW ?_
  unfold after1 execLogMarkWrite
  repeat' (first | with_reducible rfl | simp only [State.logMark_frame, Nat.reduceAnd, hide_ite, snd_ite, foldS_frame, whenS_frame, foldl_frame, ite_self, implies_true, mk_leaf, State.hideU, Ce.hide, Glb.hide, Flt.hide, Hif.hide, Sec.hide, Stp.hide, pick, Nat.reduceEqDiff, reduceIte] | with_reducible refine (foldS_frame _ _ _ (fun _ _ => ?_) _).trans ?_ | with_reducible refine (whenS_frame _ _ _ _ (fun _ => ?_)).trans ?_ | split)

theorem State.logRidx_frame (W : Nat) (hW : 16392 &&& W = 16392) (v : Word) (s : State) : (State.logRidx v s).hide W = s.hide W := by
  refine hide_mono _ _ hW ?_
  unfold State.logRidx
  repeat' (first | with_reducible rfl | simp only [State.regWrite_frame, Nat.reduceAnd, hide_ite, snd_ite, foldS_frame, whenS_frame, foldl_frame, ite_self, implies_true, mk_leaf, State.hideU, Ce.hide, Glb.hide, Flt.hide, Hif.hide, Sec.hide, Stp.hide, pick, Nat.reduceEqDiff, reduceIte] | with_reducible refine (foldS_frame _ _ _ (fun _ _ => ?_) _).trans ?_ | with_reducible refine (whenS_frame _ _ _ _ (fun _ => ?_)).trans ?_ | split)

theorem execLogRidxWrite_frame (W : Nat) (hW : 16392 &&& W = 16392) (v : Word) (s : State) : (after1 (execLogRidxWrite v) s).hide W = s.hide W := by
  refine hide_mono _ _ hW ?_
  unfold after1 execLogRidxWrite
  repeat' (first | with_reducible rfl | simp only [State.logRidx_frame, Nat.reduceAnd, hide_ite, snd_ite, foldS_frame, whenS_frame, foldl_frame, ite_self, implies_true, mk_leaf, State.hideU, Ce.hide, Glb.hide, Flt.hide, Hif.hide, Sec.hide, Stp.hide, pick, Nat.reduceEqDiff, reduceIte] | with_reducible refine (foldS_frame _ _ _ (fun _ _ => ?_) _).trans ?_ | with_reducible refine (whenS_frame _ _ _ _ (fun _ => ?_)).trans ?_ | split)

theorem State.logCfg_frame (W : Nat) (hW : 16392 &&& W = 16392) (v : Word) (s : State) : (State.logCfg v s).hide W = s.hide W := by
  refine hide_mono _ _ hW ?_
  unfold State.logCfg
  repeat' (first | with_reducible rfl | simp only [State.regWrite_frame, Nat.reduceAnd, hide_ite, snd_ite, foldS_frame, whenS_frame, foldl_frame, ite_self, implies_true, mk_leaf, State.hideU, Ce.hide, Glb.hide, Flt.hide, Hif.hide, Sec.hide, Stp.hide, pick, Nat.reduceEqDiff, reduceIte] | with_reducible refine (foldS_frame _ _ _ (fun _ _ => ?_) _).trans ?_ | with_reducible refine (whenS_frame _ _ _ _ (fun _ => ?_)).trans ?_ | split)

theorem execLogCfgWrite_frame (W : Nat) (hW : 16392 &&& W = 16392) (v : Word) (s : State) : (after1 (execLogCfgWrite v) s).hide W = s.hide W := by
  refine hide_mono _ _ hW ?_
  unfold after1 execLogCfgWrite
  repeat' (first | with_reducible rfl | simp only [State.logCfg_frame, Nat.reduceAnd, hide_ite, snd_ite, foldS_frame, whenS_frame, foldl_frame, ite_self, implies_true, mk_leaf, State.hideU, Ce.hide, Glb.hide, Flt.hide, Hif.hide, Sec.hide, Stp.hide, pick, Nat.reduceEqDiff, reduceIte] | with_reducible refine (foldS_frame _ _ _ (fun _ _ => ?_) _).trans ?_ | with_reducible refine (whenS_frame _ _ _ _ (fun _ => ?_)).trans ?_ | split)


end Sys2Proof.Machine
end

