-- ==== Sys2Proof/Laws/Parts.lean ====
section
/-! SUPPORT. What a frame says of one field: an operation whose frame leaves the part of a field alone leaves the field. -/

namespace Sys2Proof.Machine

/-- A part outside the mask is equal where the hidden states are. -/
theorem pick_inj {α : Type} {W m : Nat} {d x y : α} (hm : W &&& m = 0) (h : pick W m d x = pick W m d y) : x = y := by
  unfold pick at h
  rwa [if_pos hm, if_pos hm] at h

theorem pending_of_hide {s t : State} (h : t.hide 35184372088830 = s.hide 35184372088830) : t.pending = s.pending :=
  pick_inj (d := ({} : State).pending) (W := 35184372088830) (m := 1) (by decide) (congrArg (fun x => x.pending) h)
theorem powered_of_hide {s t : State} (h : t.hide 35184372088829 = s.hide 35184372088829) : t.powered = s.powered :=
  pick_inj (d := ({} : State).powered) (W := 35184372088829) (m := 2) (by decide) (congrArg (fun x => x.powered) h)
theorem freeIdx_of_hide {s t : State} (h : t.hide 35184372088827 = s.hide 35184372088827) : t.freeIdx = s.freeIdx :=
  pick_inj (d := ({} : State).freeIdx) (W := 35184372088827) (m := 4) (by decide) (congrArg (fun x => x.freeIdx) h)
theorem cfg_of_hide {s t : State} (h : t.hide 35184372088823 = s.hide 35184372088823) : t.cfg = s.cfg :=
  pick_inj (d := ({} : State).cfg) (W := 35184372088823) (m := 8) (by decide) (congrArg (fun x => x.cfg) h)
theorem hostMem_of_hide {s t : State} (h : t.hide 35184372088815 = s.hide 35184372088815) : t.hostMem = s.hostMem :=
  pick_inj (d := ({} : State).hostMem) (W := 35184372088815) (m := 16) (by decide) (congrArg (fun x => x.hostMem) h)
theorem upsets_of_hide {s t : State} (h : t.hide 35184372088799 = s.hide 35184372088799) : t.upsets = s.upsets :=
  pick_inj (d := ({} : State).upsets) (W := 35184372088799) (m := 32) (by decide) (congrArg (fun x => x.upsets) h)
theorem glb_straps_of_hide {s t : State} (h : t.hide 35184372088703 = s.hide 35184372088703) : t.glb.straps = s.glb.straps :=
  pick_inj (d := ({} : Glb).straps) (W := 35184372088703) (m := 128) (by decide) (congrArg (fun x => x.glb.straps) h)
theorem glb_ready_of_hide {s t : State} (h : t.hide 35184372088767 = s.hide 35184372088767) : t.glb.ready = s.glb.ready :=
  pick_inj (d := ({} : Glb).ready) (W := 35184372088767) (m := 64) (by decide) (congrArg (fun x => x.glb.ready) h)
theorem glb_insvc_of_hide {s t : State} (h : t.hide 35184372088767 = s.hide 35184372088767) : t.glb.insvc = s.glb.insvc :=
  pick_inj (d := ({} : Glb).insvc) (W := 35184372088767) (m := 64) (by decide) (congrArg (fun x => x.glb.insvc) h)
theorem glb_nmiTrap_of_hide {s t : State} (h : t.hide 35184372088767 = s.hide 35184372088767) : t.glb.nmiTrap = s.glb.nmiTrap :=
  pick_inj (d := ({} : Glb).nmiTrap) (W := 35184372088767) (m := 64) (by decide) (congrArg (fun x => x.glb.nmiTrap) h)
theorem glb_heldRst_of_hide {s t : State} (h : t.hide 35184372088767 = s.hide 35184372088767) : t.glb.heldRst = s.glb.heldRst :=
  pick_inj (d := ({} : Glb).heldRst) (W := 35184372088767) (m := 64) (by decide) (congrArg (fun x => x.glb.heldRst) h)
theorem glb_svc_of_hide {s t : State} (h : t.hide 35184372088767 = s.hide 35184372088767) : t.glb.svc = s.glb.svc :=
  pick_inj (d := ({} : Glb).svc) (W := 35184372088767) (m := 64) (by decide) (congrArg (fun x => x.glb.svc) h)
theorem glb_last_of_hide {s t : State} (h : t.hide 35184372088767 = s.hide 35184372088767) : t.glb.last = s.glb.last :=
  pick_inj (d := ({} : Glb).last) (W := 35184372088767) (m := 64) (by decide) (congrArg (fun x => x.glb.last) h)
theorem glb_remap_of_hide {s t : State} (h : t.hide 35184372088767 = s.hide 35184372088767) : t.glb.remap = s.glb.remap :=
  pick_inj (d := ({} : Glb).remap) (W := 35184372088767) (m := 64) (by decide) (congrArg (fun x => x.glb.remap) h)
theorem glb_rstReq_of_hide {s t : State} (h : t.hide 35184372088767 = s.hide 35184372088767) : t.glb.rstReq = s.glb.rstReq :=
  pick_inj (d := ({} : Glb).rstReq) (W := 35184372088767) (m := 64) (by decide) (congrArg (fun x => x.glb.rstReq) h)
theorem boot_of_hide {s t : State} (h : t.hide 35184372088575 = s.hide 35184372088575) : t.boot = s.boot :=
  pick_inj (d := ({} : State).boot) (W := 35184372088575) (m := 256) (by decide) (congrArg (fun x => x.boot) h)
theorem bus_of_hide {s t : State} (h : t.hide 35184372088319 = s.hide 35184372088319) : t.bus = s.bus :=
  pick_inj (d := ({} : State).bus) (W := 35184372088319) (m := 512) (by decide) (congrArg (fun x => x.bus) h)
theorem i2c_of_hide {s t : State} (h : t.hide 35184372087807 = s.hide 35184372087807) : t.i2c = s.i2c :=
  pick_inj (d := ({} : State).i2c) (W := 35184372087807) (m := 1024) (by decide) (congrArg (fun x => x.i2c) h)
theorem flt_queue_of_hide {s t : State} (h : t.hide 35184372086783 = s.hide 35184372086783) : t.flt.queue = s.flt.queue :=
  pick_inj (d := ({} : Flt).queue) (W := 35184372086783) (m := 2048) (by decide) (congrArg (fun x => x.flt.queue) h)
theorem flt_lost_of_hide {s t : State} (h : t.hide 35184372086783 = s.hide 35184372086783) : t.flt.lost = s.flt.lost :=
  pick_inj (d := ({} : Flt).lost) (W := 35184372086783) (m := 2048) (by decide) (congrArg (fun x => x.flt.lost) h)
theorem flt_fatal_of_hide {s t : State} (h : t.hide 35184372084735 = s.hide 35184372084735) : t.flt.fatal = s.flt.fatal :=
  pick_inj (d := ({} : Flt).fatal) (W := 35184372084735) (m := 4096) (by decide) (congrArg (fun x => x.flt.fatal) h)
theorem flt_self_of_hide {s t : State} (h : t.hide 35184372086783 = s.hide 35184372086783) : t.flt.self = s.flt.self :=
  pick_inj (d := ({} : Flt).self) (W := 35184372086783) (m := 2048) (by decide) (congrArg (fun x => x.flt.self) h)
theorem flt_pfail_of_hide {s t : State} (h : t.hide 35184372080639 = s.hide 35184372080639) : t.flt.pfail = s.flt.pfail :=
  pick_inj (d := ({} : Flt).pfail) (W := 35184372080639) (m := 8192) (by decide) (congrArg (fun x => x.flt.pfail) h)
theorem flt_pfSquelch_of_hide {s t : State} (h : t.hide 35184372080639 = s.hide 35184372080639) : t.flt.pfSquelch = s.flt.pfSquelch :=
  pick_inj (d := ({} : Flt).pfSquelch) (W := 35184372080639) (m := 8192) (by decide) (congrArg (fun x => x.flt.pfSquelch) h)
theorem flt_first_of_hide {s t : State} (h : t.hide 35184372080639 = s.hide 35184372080639) : t.flt.first = s.flt.first :=
  pick_inj (d := ({} : Flt).first) (W := 35184372080639) (m := 8192) (by decide) (congrArg (fun x => x.flt.first) h)
theorem flt_firstFatal_of_hide {s t : State} (h : t.hide 35184372080639 = s.hide 35184372080639) : t.flt.firstFatal = s.flt.firstFatal :=
  pick_inj (d := ({} : Flt).firstFatal) (W := 35184372080639) (m := 8192) (by decide) (congrArg (fun x => x.flt.firstFatal) h)
theorem flt_cause_of_hide {s t : State} (h : t.hide 35184372080639 = s.hide 35184372080639) : t.flt.cause = s.flt.cause :=
  pick_inj (d := ({} : Flt).cause) (W := 35184372080639) (m := 8192) (by decide) (congrArg (fun x => x.flt.cause) h)
theorem flt_react_of_hide {s t : State} (h : t.hide 35184372080639 = s.hide 35184372080639) : t.flt.react = s.flt.react :=
  pick_inj (d := ({} : Flt).react) (W := 35184372080639) (m := 8192) (by decide) (congrArg (fun x => x.flt.react) h)
theorem flt_errLatch_of_hide {s t : State} (h : t.hide 35184372080639 = s.hide 35184372080639) : t.flt.errLatch = s.flt.errLatch :=
  pick_inj (d := ({} : Flt).errLatch) (W := 35184372080639) (m := 8192) (by decide) (congrArg (fun x => x.flt.errLatch) h)
theorem flt_errLeft_of_hide {s t : State} (h : t.hide 35184372080639 = s.hide 35184372080639) : t.flt.errLeft = s.flt.errLeft :=
  pick_inj (d := ({} : Flt).errLeft) (W := 35184372080639) (m := 8192) (by decide) (congrArg (fun x => x.flt.errLeft) h)
theorem flt_errWait_of_hide {s t : State} (h : t.hide 35184372080639 = s.hide 35184372080639) : t.flt.errWait = s.flt.errWait :=
  pick_inj (d := ({} : Flt).errWait) (W := 35184372080639) (m := 8192) (by decide) (congrArg (fun x => x.flt.errWait) h)
theorem flt_unlock1_of_hide {s t : State} (h : t.hide 35184372080639 = s.hide 35184372080639) : t.flt.unlock1 = s.flt.unlock1 :=
  pick_inj (d := ({} : Flt).unlock1) (W := 35184372080639) (m := 8192) (by decide) (congrArg (fun x => x.flt.unlock1) h)
theorem flt_test_of_hide {s t : State} (h : t.hide 35184372080639 = s.hide 35184372080639) : t.flt.test = s.flt.test :=
  pick_inj (d := ({} : Flt).test) (W := 35184372080639) (m := 8192) (by decide) (congrArg (fun x => x.flt.test) h)
theorem flt_injOpen_of_hide {s t : State} (h : t.hide 35184372080639 = s.hide 35184372080639) : t.flt.injOpen = s.flt.injOpen :=
  pick_inj (d := ({} : Flt).injOpen) (W := 35184372080639) (m := 8192) (by decide) (congrArg (fun x => x.flt.injOpen) h)
theorem flt_flip_of_hide {s t : State} (h : t.hide 35184372080639 = s.hide 35184372080639) : t.flt.flip = s.flt.flip :=
  pick_inj (d := ({} : Flt).flip) (W := 35184372080639) (m := 8192) (by decide) (congrArg (fun x => x.flt.flip) h)
theorem flt_pllLol_of_hide {s t : State} (h : t.hide 35184372080639 = s.hide 35184372080639) : t.flt.pllLol = s.flt.pllLol :=
  pick_inj (d := ({} : Flt).pllLol) (W := 35184372080639) (m := 8192) (by decide) (congrArg (fun x => x.flt.pllLol) h)
theorem log_of_hide {s t : State} (h : t.hide 35184372072447 = s.hide 35184372072447) : t.log = s.log :=
  pick_inj (d := ({} : State).log) (W := 35184372072447) (m := 16384) (by decide) (congrArg (fun x => x.log) h)
theorem hif_rings_of_hide {s t : State} (h : t.hide 35184372056063 = s.hide 35184372056063) : t.hif.rings = s.hif.rings :=
  pick_inj (d := ({} : Hif).rings) (W := 35184372056063) (m := 32768) (by decide) (congrArg (fun x => x.hif.rings) h)
theorem hif_vecs_of_hide {s t : State} (h : t.hide 35184372023295 = s.hide 35184372023295) : t.hif.vecs = s.hif.vecs :=
  pick_inj (d := ({} : Hif).vecs) (W := 35184372023295) (m := 65536) (by decide) (congrArg (fun x => x.hif.vecs) h)
theorem hif_pend_of_hide {s t : State} (h : t.hide 35184372023295 = s.hide 35184372023295) : t.hif.pend = s.hif.pend :=
  pick_inj (d := ({} : Hif).pend) (W := 35184372023295) (m := 65536) (by decide) (congrArg (fun x => x.hif.pend) h)
theorem hif_funcMask_of_hide {s t : State} (h : t.hide 35184372023295 = s.hide 35184372023295) : t.hif.funcMask = s.hif.funcMask :=
  pick_inj (d := ({} : Hif).funcMask) (W := 35184372023295) (m := 65536) (by decide) (congrArg (fun x => x.hif.funcMask) h)
theorem hif_msgs_of_hide {s t : State} (h : t.hide 35184372023295 = s.hide 35184372023295) : t.hif.msgs = s.hif.msgs :=
  pick_inj (d := ({} : Hif).msgs) (W := 35184372023295) (m := 65536) (by decide) (congrArg (fun x => x.hif.msgs) h)
theorem hif_bme_of_hide {s t : State} (h : t.hide 35184371957759 = s.hide 35184371957759) : t.hif.bme = s.hif.bme :=
  pick_inj (d := ({} : Hif).bme) (W := 35184371957759) (m := 131072) (by decide) (congrArg (fun x => x.hif.bme) h)
theorem hif_d3hot_of_hide {s t : State} (h : t.hide 35184371957759 = s.hide 35184371957759) : t.hif.d3hot = s.hif.d3hot :=
  pick_inj (d := ({} : Hif).d3hot) (W := 35184371957759) (m := 131072) (by decide) (congrArg (fun x => x.hif.d3hot) h)
theorem hif_linkUp_of_hide {s t : State} (h : t.hide 35184371957759 = s.hide 35184371957759) : t.hif.linkUp = s.hif.linkUp :=
  pick_inj (d := ({} : Hif).linkUp) (W := 35184371957759) (m := 131072) (by decide) (congrArg (fun x => x.hif.linkUp) h)
theorem hif_linkWidth_of_hide {s t : State} (h : t.hide 35184371957759 = s.hide 35184371957759) : t.hif.linkWidth = s.hif.linkWidth :=
  pick_inj (d := ({} : Hif).linkWidth) (W := 35184371957759) (m := 131072) (by decide) (congrArg (fun x => x.hif.linkWidth) h)
theorem hif_linkSpeed_of_hide {s t : State} (h : t.hide 35184371957759 = s.hide 35184371957759) : t.hif.linkSpeed = s.hif.linkSpeed :=
  pick_inj (d := ({} : Hif).linkSpeed) (W := 35184371957759) (m := 131072) (by decide) (congrArg (fun x => x.hif.linkSpeed) h)
theorem hif_nmiCause_of_hide {s t : State} (h : t.hide 35184371957759 = s.hide 35184371957759) : t.hif.nmiCause = s.hif.nmiCause :=
  pick_inj (d := ({} : Hif).nmiCause) (W := 35184371957759) (m := 131072) (by decide) (congrArg (fun x => x.hif.nmiCause) h)
theorem hif_fatalCause_of_hide {s t : State} (h : t.hide 35184371957759 = s.hide 35184371957759) : t.hif.fatalCause = s.hif.fatalCause :=
  pick_inj (d := ({} : Hif).fatalCause) (W := 35184371957759) (m := 131072) (by decide) (congrArg (fun x => x.hif.fatalCause) h)
theorem hif_evLost_of_hide {s t : State} (h : t.hide 35184371957759 = s.hide 35184371957759) : t.hif.evLost = s.hif.evLost :=
  pick_inj (d := ({} : Hif).evLost) (W := 35184371957759) (m := 131072) (by decide) (congrArg (fun x => x.hif.evLost) h)
theorem hif_evGap_of_hide {s t : State} (h : t.hide 35184371957759 = s.hide 35184371957759) : t.hif.evGap = s.hif.evGap :=
  pick_inj (d := ({} : Hif).evGap) (W := 35184371957759) (m := 131072) (by decide) (congrArg (fun x => x.hif.evGap) h)
theorem hif_dbErr_of_hide {s t : State} (h : t.hide 35184371957759 = s.hide 35184371957759) : t.hif.dbErr = s.hif.dbErr :=
  pick_inj (d := ({} : Hif).dbErr) (W := 35184371957759) (m := 131072) (by decide) (congrArg (fun x => x.hif.dbErr) h)
theorem hif_dbKind_of_hide {s t : State} (h : t.hide 35184371957759 = s.hide 35184371957759) : t.hif.dbKind = s.hif.dbKind :=
  pick_inj (d := ({} : Hif).dbKind) (W := 35184371957759) (m := 131072) (by decide) (congrArg (fun x => x.hif.dbKind) h)
theorem hif_dbRing_of_hide {s t : State} (h : t.hide 35184371957759 = s.hide 35184371957759) : t.hif.dbRing = s.hif.dbRing :=
  pick_inj (d := ({} : Hif).dbRing) (W := 35184371957759) (m := 131072) (by decide) (congrArg (fun x => x.hif.dbRing) h)
theorem hif_rstLast_of_hide {s t : State} (h : t.hide 35184371957759 = s.hide 35184371957759) : t.hif.rstLast = s.hif.rstLast :=
  pick_inj (d := ({} : Hif).rstLast) (W := 35184371957759) (m := 131072) (by decide) (congrArg (fun x => x.hif.rstLast) h)
theorem hif_purged_of_hide {s t : State} (h : t.hide 35184371957759 = s.hide 35184371957759) : t.hif.purged = s.hif.purged :=
  pick_inj (d := ({} : Hif).purged) (W := 35184371957759) (m := 131072) (by decide) (congrArg (fun x => x.hif.purged) h)
theorem ce_due_of_hide {s t : State} (h : t.hide 17592186044415 = s.hide 17592186044415) : t.ce.due = s.ce.due :=
  pick_inj (d := ({} : Ce).due) (W := 17592186044415) (m := 17592186044416) (by decide) (congrArg (fun x => x.ce.due) h)
theorem ce_comps_of_hide {s t : State} (h : t.hide 35184371826687 = s.hide 35184371826687) : t.ce.comps = s.ce.comps :=
  pick_inj (d := ({} : Ce).comps) (W := 35184371826687) (m := 262144) (by decide) (congrArg (fun x => x.ce.comps) h)
theorem ce_seq_of_hide {s t : State} (h : t.hide 35184371826687 = s.hide 35184371826687) : t.ce.seq = s.ce.seq :=
  pick_inj (d := ({} : Ce).seq) (W := 35184371826687) (m := 262144) (by decide) (congrArg (fun x => x.ce.seq) h)
theorem ce_stall_of_hide {s t : State} (h : t.hide 35184371826687 = s.hide 35184371826687) : t.ce.stall = s.ce.stall :=
  pick_inj (d := ({} : Ce).stall) (W := 35184371826687) (m := 262144) (by decide) (congrArg (fun x => x.ce.stall) h)
theorem ce_refused_of_hide {s t : State} (h : t.hide 35184371826687 = s.hide 35184371826687) : t.ce.refused = s.ce.refused :=
  pick_inj (d := ({} : Ce).refused) (W := 35184371826687) (m := 262144) (by decide) (congrArg (fun x => x.ce.refused) h)
theorem ce_lastIdx_of_hide {s t : State} (h : t.hide 35184371826687 = s.hide 35184371826687) : t.ce.lastIdx = s.ce.lastIdx :=
  pick_inj (d := ({} : Ce).lastIdx) (W := 35184371826687) (m := 262144) (by decide) (congrArg (fun x => x.ce.lastIdx) h)
theorem ce_lastRing_of_hide {s t : State} (h : t.hide 35184371826687 = s.hide 35184371826687) : t.ce.lastRing = s.ce.lastRing :=
  pick_inj (d := ({} : Ce).lastRing) (W := 35184371826687) (m := 262144) (by decide) (congrArg (fun x => x.ce.lastRing) h)
theorem ce_lastStat_of_hide {s t : State} (h : t.hide 35184371826687 = s.hide 35184371826687) : t.ce.lastStat = s.ce.lastStat :=
  pick_inj (d := ({} : Ce).lastStat) (W := 35184371826687) (m := 262144) (by decide) (congrArg (fun x => x.ce.lastStat) h)
theorem ce_rrRing_of_hide {s t : State} (h : t.hide 35184371826687 = s.hide 35184371826687) : t.ce.rrRing = s.ce.rrRing :=
  pick_inj (d := ({} : Ce).rrRing) (W := 35184371826687) (m := 262144) (by decide) (congrArg (fun x => x.ce.rrRing) h)
theorem ce_rrLeft_of_hide {s t : State} (h : t.hide 35184371826687 = s.hide 35184371826687) : t.ce.rrLeft = s.ce.rrLeft :=
  pick_inj (d := ({} : Ce).rrLeft) (W := 35184371826687) (m := 262144) (by decide) (congrArg (fun x => x.ce.rrLeft) h)
theorem ce_visited_of_hide {s t : State} (h : t.hide 35184371826687 = s.hide 35184371826687) : t.ce.visited = s.ce.visited :=
  pick_inj (d := ({} : Ce).visited) (W := 35184371826687) (m := 262144) (by decide) (congrArg (fun x => x.ce.visited) h)
theorem ce_cycle_of_hide {s t : State} (h : t.hide 35184371826687 = s.hide 35184371826687) : t.ce.cycle = s.ce.cycle :=
  pick_inj (d := ({} : Ce).cycle) (W := 35184371826687) (m := 262144) (by decide) (congrArg (fun x => x.ce.cycle) h)
theorem ce_failed_of_hide {s t : State} (h : t.hide 35184371826687 = s.hide 35184371826687) : t.ce.failed = s.ce.failed :=
  pick_inj (d := ({} : Ce).failed) (W := 35184371826687) (m := 262144) (by decide) (congrArg (fun x => x.ce.failed) h)
theorem pmc_of_hide {s t : State} (h : t.hide 35184371564543 = s.hide 35184371564543) : t.pmc = s.pmc :=
  pick_inj (d := ({} : State).pmc) (W := 35184371564543) (m := 524288) (by decide) (congrArg (fun x => x.pmc) h)
theorem sec_keys_of_hide {s t : State} (h : t.hide 35184371040255 = s.hide 35184371040255) : t.sec.keys = s.sec.keys :=
  pick_inj (d := ({} : Sec).keys) (W := 35184371040255) (m := 1048576) (by decide) (congrArg (fun x => x.sec.keys) h)
theorem sec_ops_of_hide {s t : State} (h : t.hide 35184371040255 = s.hide 35184371040255) : t.sec.ops = s.sec.ops :=
  pick_inj (d := ({} : Sec).ops) (W := 35184371040255) (m := 1048576) (by decide) (congrArg (fun x => x.sec.ops) h)
theorem sec_ox_of_hide {s t : State} (h : t.hide 35184371040255 = s.hide 35184371040255) : t.sec.ox = s.sec.ox :=
  pick_inj (d := ({} : Sec).ox) (W := 35184371040255) (m := 1048576) (by decide) (congrArg (fun x => x.sec.ox) h)
theorem sec_opId_of_hide {s t : State} (h : t.hide 35184371040255 = s.hide 35184371040255) : t.sec.opId = s.sec.opId :=
  pick_inj (d := ({} : Sec).opId) (W := 35184371040255) (m := 1048576) (by decide) (congrArg (fun x => x.sec.opId) h)
theorem sec_locks_of_hide {s t : State} (h : t.hide 35184369991679 = s.hide 35184369991679) : t.sec.locks = s.sec.locks :=
  pick_inj (d := ({} : Sec).locks) (W := 35184369991679) (m := 2097152) (by decide) (congrArg (fun x => x.sec.locks) h)
theorem sec_res_of_hide {s t : State} (h : t.hide 35184367894527 = s.hide 35184367894527) : t.sec.res = s.sec.res :=
  pick_inj (d := ({} : Sec).res) (W := 35184367894527) (m := 4194304) (by decide) (congrArg (fun x => x.sec.res) h)
theorem sec_cmacPoison_of_hide {s t : State} (h : t.hide 35184371040255 = s.hide 35184371040255) : t.sec.cmacPoison = s.sec.cmacPoison :=
  pick_inj (d := ({} : Sec).cmacPoison) (W := 35184371040255) (m := 1048576) (by decide) (congrArg (fun x => x.sec.cmacPoison) h)
theorem pin_of_hide {s t : State} (h : t.hide 35184363700223 = s.hide 35184363700223) : t.pin = s.pin :=
  pick_inj (d := ({} : State).pin) (W := 35184363700223) (m := 8388608) (by decide) (congrArg (fun x => x.pin) h)
theorem mgt_of_hide {s t : State} (h : t.hide 35184355311615 = s.hide 35184355311615) : t.mgt = s.mgt :=
  pick_inj (d := ({} : State).mgt) (W := 35184355311615) (m := 16777216) (by decide) (congrArg (fun x => x.mgt) h)
theorem stp_frame_of_hide {s t : State} (h : t.hide 35184338534399 = s.hide 35184338534399) : t.stp.frame = s.stp.frame :=
  pick_inj (d := ({} : Stp).frame) (W := 35184338534399) (m := 33554432) (by decide) (congrArg (fun x => x.stp.frame) h)
theorem stp_phase_of_hide {s t : State} (h : t.hide 35184338534399 = s.hide 35184338534399) : t.stp.phase = s.stp.phase :=
  pick_inj (d := ({} : Stp).phase) (W := 35184338534399) (m := 33554432) (by decide) (congrArg (fun x => x.stp.phase) h)
theorem stp_sub_of_hide {s t : State} (h : t.hide 35184338534399 = s.hide 35184338534399) : t.stp.sub = s.stp.sub :=
  pick_inj (d := ({} : Stp).sub) (W := 35184338534399) (m := 33554432) (by decide) (congrArg (fun x => x.stp.sub) h)
theorem stp_snap_of_hide {s t : State} (h : t.hide 35184103653375 = s.hide 35184103653375) : t.stp.snap = s.stp.snap :=
  pick_inj (d := ({} : Stp).snap) (W := 35184103653375) (m := 268435456) (by decide) (congrArg (fun x => x.stp.snap) h)
theorem stp_epoch_of_hide {s t : State} (h : t.hide 35184103653375 = s.hide 35184103653375) : t.stp.epoch = s.stp.epoch :=
  pick_inj (d := ({} : Stp).epoch) (W := 35184103653375) (m := 268435456) (by decide) (congrArg (fun x => x.stp.epoch) h)
theorem stp_done_of_hide {s t : State} (h : t.hide 35184103653375 = s.hide 35184103653375) : t.stp.done = s.stp.done :=
  pick_inj (d := ({} : Stp).done) (W := 35184103653375) (m := 268435456) (by decide) (congrArg (fun x => x.stp.done) h)
theorem stp_origin_of_hide {s t : State} (h : t.hide 35184338534399 = s.hide 35184338534399) : t.stp.origin = s.stp.origin :=
  pick_inj (d := ({} : Stp).origin) (W := 35184338534399) (m := 33554432) (by decide) (congrArg (fun x => x.stp.origin) h)
theorem stp_originNew_of_hide {s t : State} (h : t.hide 35184103653375 = s.hide 35184103653375) : t.stp.originNew = s.stp.originNew :=
  pick_inj (d := ({} : Stp).originNew) (W := 35184103653375) (m := 268435456) (by decide) (congrArg (fun x => x.stp.originNew) h)
theorem stp_short_of_hide {s t : State} (h : t.hide 35184103653375 = s.hide 35184103653375) : t.stp.short = s.stp.short :=
  pick_inj (d := ({} : Stp).short) (W := 35184103653375) (m := 268435456) (by decide) (congrArg (fun x => x.stp.short) h)
theorem stp_epochIn_of_hide {s t : State} (h : t.hide 35184103653375 = s.hide 35184103653375) : t.stp.epochIn = s.stp.epochIn :=
  pick_inj (d := ({} : Stp).epochIn) (W := 35184103653375) (m := 268435456) (by decide) (congrArg (fun x => x.stp.epochIn) h)
theorem stp_atSecond_of_hide {s t : State} (h : t.hide 35184103653375 = s.hide 35184103653375) : t.stp.atSecond = s.stp.atSecond :=
  pick_inj (d := ({} : Stp).atSecond) (W := 35184103653375) (m := 268435456) (by decide) (congrArg (fun x => x.stp.atSecond) h)
theorem stp_dpll_of_hide {s t : State} (h : t.hide 35184237871103 = s.hide 35184237871103) : t.stp.dpll = s.stp.dpll :=
  pick_inj (d := ({} : Stp).dpll) (W := 35184237871103) (m := 134217728) (by decide) (congrArg (fun x => x.stp.dpll) h)
theorem stp_holdReady_of_hide {s t : State} (h : t.hide 35184237871103 = s.hide 35184237871103) : t.stp.holdReady = s.stp.holdReady :=
  pick_inj (d := ({} : Stp).holdReady) (W := 35184237871103) (m := 134217728) (by decide) (congrArg (fun x => x.stp.holdReady) h)
theorem stp_lockFrames_of_hide {s t : State} (h : t.hide 35184237871103 = s.hide 35184237871103) : t.stp.lockFrames = s.stp.lockFrames :=
  pick_inj (d := ({} : Stp).lockFrames) (W := 35184237871103) (m := 134217728) (by decide) (congrArg (fun x => x.stp.lockFrames) h)
theorem stp_acqFrames_of_hide {s t : State} (h : t.hide 35184237871103 = s.hide 35184237871103) : t.stp.acqFrames = s.stp.acqFrames :=
  pick_inj (d := ({} : Stp).acqFrames) (W := 35184237871103) (m := 134217728) (by decide) (congrArg (fun x => x.stp.acqFrames) h)
theorem stp_sel_of_hide {s t : State} (h : t.hide 35184237871103 = s.hide 35184237871103) : t.stp.sel = s.stp.sel :=
  pick_inj (d := ({} : Stp).sel) (W := 35184237871103) (m := 134217728) (by decide) (congrArg (fun x => x.stp.sel) h)
theorem stp_oscFail_of_hide {s t : State} (h : t.hide 35184237871103 = s.hide 35184237871103) : t.stp.oscFail = s.stp.oscFail :=
  pick_inj (d := ({} : Stp).oscFail) (W := 35184237871103) (m := 134217728) (by decide) (congrArg (fun x => x.stp.oscFail) h)
theorem stp_onXo_of_hide {s t : State} (h : t.hide 35184237871103 = s.hide 35184237871103) : t.stp.onXo = s.stp.onXo :=
  pick_inj (d := ({} : Stp).onXo) (W := 35184237871103) (m := 134217728) (by decide) (congrArg (fun x => x.stp.onXo) h)
theorem stp_phaseErr_of_hide {s t : State} (h : t.hide 35184237871103 = s.hide 35184237871103) : t.stp.phaseErr = s.stp.phaseErr :=
  pick_inj (d := ({} : Stp).phaseErr) (W := 35184237871103) (m := 134217728) (by decide) (congrArg (fun x => x.stp.phaseErr) h)
theorem stp_curQl_of_hide {s t : State} (h : t.hide 35184237871103 = s.hide 35184237871103) : t.stp.curQl = s.stp.curQl :=
  pick_inj (d := ({} : Stp).curQl) (W := 35184237871103) (m := 134217728) (by decide) (congrArg (fun x => x.stp.curQl) h)
theorem stp_refs_of_hide {s t : State} (h : t.hide 35184237871103 = s.hide 35184237871103) : t.stp.refs = s.stp.refs :=
  pick_inj (d := ({} : Stp).refs) (W := 35184237871103) (m := 134217728) (by decide) (congrArg (fun x => x.stp.refs) h)
theorem stp_timers_of_hide {s t : State} (h : t.hide 35184304979967 = s.hide 35184304979967) : t.stp.timers = s.stp.timers :=
  pick_inj (d := ({} : Stp).timers) (W := 35184304979967) (m := 67108864) (by decide) (congrArg (fun x => x.stp.timers) h)
theorem stp_refouts_of_hide {s t : State} (h : t.hide 35184103653375 = s.hide 35184103653375) : t.stp.refouts = s.stp.refouts :=
  pick_inj (d := ({} : Stp).refouts) (W := 35184103653375) (m := 268435456) (by decide) (congrArg (fun x => x.stp.refouts) h)
theorem stp_held_of_hide {s t : State} (h : t.hide 35184103653375 = s.hide 35184103653375) : t.stp.held = s.stp.held :=
  pick_inj (d := ({} : Stp).held) (W := 35184103653375) (m := 268435456) (by decide) (congrArg (fun x => x.stp.held) h)
theorem stp_lgOfs_of_hide {s t : State} (h : t.hide 35184103653375 = s.hide 35184103653375) : t.stp.lgOfs = s.stp.lgOfs :=
  pick_inj (d := ({} : Stp).lgOfs) (W := 35184103653375) (m := 268435456) (by decide) (congrArg (fun x => x.stp.lgOfs) h)
theorem ports_of_hide {s t : State} (h : t.hide 35183835217919 = s.hide 35183835217919) : t.ports = s.ports :=
  pick_inj (d := ({} : State).ports) (W := 35183835217919) (m := 536870912) (by decide) (congrArg (fun x => x.ports) h)
theorem hop_of_hide {s t : State} (h : t.hide 35183298347007 = s.hide 35183298347007) : t.hop = s.hop :=
  pick_inj (d := ({} : State).hop) (W := 35183298347007) (m := 1073741824) (by decide) (congrArg (fun x => x.hop) h)
theorem scribe_of_hide {s t : State} (h : t.hide 35182224605183 = s.hide 35182224605183) : t.scribe = s.scribe :=
  pick_inj (d := ({} : State).scribe) (W := 35182224605183) (m := 2147483648) (by decide) (congrArg (fun x => x.scribe) h)
theorem vc4s_of_hide {s t : State} (h : t.hide 35180077121535 = s.hide 35180077121535) : t.vc4s = s.vc4s :=
  pick_inj (d := ({} : State).vc4s) (W := 35180077121535) (m := 4294967296) (by decide) (congrArg (fun x => x.vc4s) h)
theorem h4s_of_hide {s t : State} (h : t.hide 35175782154239 = s.hide 35175782154239) : t.h4s = s.h4s :=
  pick_inj (d := ({} : State).h4s) (W := 35175782154239) (m := 8589934592) (by decide) (congrArg (fun x => x.h4s) h)
theorem los_of_hide {s t : State} (h : t.hide 35167192219647 = s.hide 35167192219647) : t.los = s.los :=
  pick_inj (d := ({} : State).los) (W := 35167192219647) (m := 17179869184) (by decide) (congrArg (fun x => x.los) h)
theorem tribs_of_hide {s t : State} (h : t.hide 35150012350463 = s.hide 35150012350463) : t.tribs = s.tribs :=
  pick_inj (d := ({} : State).tribs) (W := 35150012350463) (m := 34359738368) (by decide) (congrArg (fun x => x.tribs) h)
theorem hwys_of_hide {s t : State} (h : t.hide 35115652612095 = s.hide 35115652612095) : t.hwys = s.hwys :=
  pick_inj (d := ({} : State).hwys) (W := 35115652612095) (m := 68719476736) (by decide) (congrArg (fun x => x.hwys) h)
theorem grps_of_hide {s t : State} (h : t.hide 35046933135359 = s.hide 35046933135359) : t.grps = s.grps :=
  pick_inj (d := ({} : State).grps) (W := 35046933135359) (m := 137438953472) (by decide) (congrArg (fun x => x.grps) h)
theorem tsw_of_hide {s t : State} (h : t.hide 34909494181887 = s.hide 34909494181887) : t.tsw = s.tsw :=
  pick_inj (d := ({} : State).tsw) (W := 34909494181887) (m := 274877906944) (by decide) (congrArg (fun x => x.tsw) h)
theorem cnf_of_hide {s t : State} (h : t.hide 34634616274943 = s.hide 34634616274943) : t.cnf = s.cnf :=
  pick_inj (d := ({} : State).cnf) (W := 34634616274943) (m := 549755813888) (by decide) (congrArg (fun x => x.cnf) h)
theorem prt_of_hide {s t : State} (h : t.hide 34084860461055 = s.hide 34084860461055) : t.prt = s.prt :=
  pick_inj (d := ({} : State).prt) (W := 34084860461055) (m := 1099511627776) (by decide) (congrArg (fun x => x.prt) h)
theorem strs_of_hide {s t : State} (h : t.hide 32985348833279 = s.hide 32985348833279) : t.strs = s.strs :=
  pick_inj (d := ({} : State).strs) (W := 32985348833279) (m := 2199023255552) (by decide) (congrArg (fun x => x.strs) h)
theorem gfps_of_hide {s t : State} (h : t.hide 30786325577727 = s.hide 30786325577727) : t.gfps = s.gfps :=
  pick_inj (d := ({} : State).gfps) (W := 30786325577727) (m := 4398046511104) (by decide) (congrArg (fun x => x.gfps) h)
theorem dccs_of_hide {s t : State} (h : t.hide 26388279066623 = s.hide 26388279066623) : t.dccs = s.dccs :=
  pick_inj (d := ({} : State).dccs) (W := 26388279066623) (m := 8796093022208) (by decide) (congrArg (fun x => x.dccs) h)

end Sys2Proof.Machine
end

