-- ==== Sys2Proof/Laws/Engine.lean ====
section
/-! SUPPORT. What the command engine makes of a command of Table CM-2 carried out at once: its effect, and the completion. -/

namespace Sys2Proof.Machine

theorem frame_of_hide {s t : State} (h : t.hide 35184338534399 = s.hide 35184338534399) : t.stp.frame = s.stp.frame :=
  pick_eq (W := 35184338534399) (m := 33554432) (0 : Word) _ _ (by decide) (congrArg (fun x => x.stp.frame) h)

/-- What neither the engine's part nor its due table sees changed leaves the engine. -/
theorem ce_of_hide {s t : State} (h : t.hide 17592185782271 = s.hide 17592185782271) : t.ce = s.ce := by
  have key : ∀ x : Ce, x.hide 17592185782271 = x := fun x => by simp [Ce.hide, pick]
  have h0 : t.ce.hide 17592185782271 = s.ce.hide 17592185782271 := congrArg (fun x => x.ce) h
  rwa [key, key] at h0

/-- No command's effect touches the engine's own state: the due table, the completions that wait, the fences. -/
theorem State.apply_ce (r : Nat) (c : Cmd) (s : State) : (s.apply r c).2.ce = s.ce :=
  ce_of_hide (State.apply_frame _ (by decide) _ _ _)

/-- Nor does it move the frame count. -/
theorem State.apply_frameCount (r : Nat) (c : Cmd) (s : State) : (s.apply r c).2.stp.frame = s.stp.frame :=
  frame_of_hide (State.apply_frame _ (by decide) _ _ _)

/-- The state with other completions waiting. -/
def State.withComps (l : List Comp) (s : State) : State := { s with ce := { s.ce with comps := l } }

/-! Nothing but the completions that wait can tell the two states apart. -/

@[simp] theorem withComps_pending (l : List Comp) (s : State) : (s.withComps l).pending = s.pending := rfl
@[simp] theorem withComps_powered (l : List Comp) (s : State) : (s.withComps l).powered = s.powered := rfl
@[simp] theorem withComps_freeIdx (l : List Comp) (s : State) : (s.withComps l).freeIdx = s.freeIdx := rfl
@[simp] theorem withComps_cfg (l : List Comp) (s : State) : (s.withComps l).cfg = s.cfg := rfl
@[simp] theorem withComps_hostMem (l : List Comp) (s : State) : (s.withComps l).hostMem = s.hostMem := rfl
@[simp] theorem withComps_upsets (l : List Comp) (s : State) : (s.withComps l).upsets = s.upsets := rfl
@[simp] theorem withComps_glb (l : List Comp) (s : State) : (s.withComps l).glb = s.glb := rfl
@[simp] theorem withComps_boot (l : List Comp) (s : State) : (s.withComps l).boot = s.boot := rfl
@[simp] theorem withComps_bus (l : List Comp) (s : State) : (s.withComps l).bus = s.bus := rfl
@[simp] theorem withComps_i2c (l : List Comp) (s : State) : (s.withComps l).i2c = s.i2c := rfl
@[simp] theorem withComps_flt (l : List Comp) (s : State) : (s.withComps l).flt = s.flt := rfl
@[simp] theorem withComps_log (l : List Comp) (s : State) : (s.withComps l).log = s.log := rfl
@[simp] theorem withComps_hif (l : List Comp) (s : State) : (s.withComps l).hif = s.hif := rfl
@[simp] theorem withComps_pmc (l : List Comp) (s : State) : (s.withComps l).pmc = s.pmc := rfl
@[simp] theorem withComps_sec (l : List Comp) (s : State) : (s.withComps l).sec = s.sec := rfl
@[simp] theorem withComps_pin (l : List Comp) (s : State) : (s.withComps l).pin = s.pin := rfl
@[simp] theorem withComps_mgt (l : List Comp) (s : State) : (s.withComps l).mgt = s.mgt := rfl
@[simp] theorem withComps_stp (l : List Comp) (s : State) : (s.withComps l).stp = s.stp := rfl
@[simp] theorem withComps_ports (l : List Comp) (s : State) : (s.withComps l).ports = s.ports := rfl
@[simp] theorem withComps_hop (l : List Comp) (s : State) : (s.withComps l).hop = s.hop := rfl
@[simp] theorem withComps_scribe (l : List Comp) (s : State) : (s.withComps l).scribe = s.scribe := rfl
@[simp] theorem withComps_vc4s (l : List Comp) (s : State) : (s.withComps l).vc4s = s.vc4s := rfl
@[simp] theorem withComps_h4s (l : List Comp) (s : State) : (s.withComps l).h4s = s.h4s := rfl
@[simp] theorem withComps_los (l : List Comp) (s : State) : (s.withComps l).los = s.los := rfl
@[simp] theorem withComps_tribs (l : List Comp) (s : State) : (s.withComps l).tribs = s.tribs := rfl
@[simp] theorem withComps_hwys (l : List Comp) (s : State) : (s.withComps l).hwys = s.hwys := rfl
@[simp] theorem withComps_grps (l : List Comp) (s : State) : (s.withComps l).grps = s.grps := rfl
@[simp] theorem withComps_tsw (l : List Comp) (s : State) : (s.withComps l).tsw = s.tsw := rfl
@[simp] theorem withComps_cnf (l : List Comp) (s : State) : (s.withComps l).cnf = s.cnf := rfl
@[simp] theorem withComps_prt (l : List Comp) (s : State) : (s.withComps l).prt = s.prt := rfl
@[simp] theorem withComps_strs (l : List Comp) (s : State) : (s.withComps l).strs = s.strs := rfl
@[simp] theorem withComps_gfps (l : List Comp) (s : State) : (s.withComps l).gfps = s.gfps := rfl
@[simp] theorem withComps_dccs (l : List Comp) (s : State) : (s.withComps l).dccs = s.dccs := rfl
@[simp] theorem withComps_reg_eq (l : List Comp) (s : State) (o : Nat) : (s.withComps l).reg o = s.reg o := rfl
@[simp] theorem withComps_port_eq (l : List Comp) (s : State) (n : Nat) : (s.withComps l).port n = s.port n := rfl
@[simp] theorem withComps_timer_eq (l : List Comp) (s : State) (n : Nat) : (s.withComps l).timer n = s.timer n := rfl
@[simp] theorem withComps_ref_eq (l : List Comp) (s : State) (n : Nat) : (s.withComps l).ref n = s.ref n := rfl
@[simp] theorem withComps_path_eq (l : List Comp) (s : State) (n : Nat) : (s.withComps l).path n = s.path n := rfl
@[simp] theorem withComps_hoSrc_eq (l : List Comp) (s : State) (n : Nat) : (s.withComps l).hoSrc n = s.hoSrc n := rfl
@[simp] theorem withComps_lo_eq (l : List Comp) (s : State) (n : Nat) : (s.withComps l).lo n = s.lo n := rfl
@[simp] theorem withComps_vc4_eq (l : List Comp) (s : State) (n : Nat) : (s.withComps l).vc4 n = s.vc4 n := rfl
@[simp] theorem withComps_h4_eq (l : List Comp) (s : State) (n : Nat) : (s.withComps l).h4 n = s.h4 n := rfl
@[simp] theorem withComps_trace_eq (l : List Comp) (s : State) (k i : Nat) : (s.withComps l).trace k i = s.trace k i := rfl
@[simp] theorem withComps_trib_eq (l : List Comp) (s : State) (n : Nat) : (s.withComps l).trib n = s.trib n := rfl
@[simp] theorem withComps_hwy_eq (l : List Comp) (s : State) (n : Nat) : (s.withComps l).hwy n = s.hwy n := rfl
@[simp] theorem withComps_hwyGrp_eq (l : List Comp) (s : State) (n : Nat) : (s.withComps l).hwyGrp n = s.hwyGrp n := rfl
@[simp] theorem withComps_ring_eq (l : List Comp) (s : State) (k n : Nat) : (s.withComps l).ring k n = s.ring k n := rfl
@[simp] theorem withComps_strm_eq (l : List Comp) (s : State) (n : Nat) : (s.withComps l).strm n = s.strm n := rfl
@[simp] theorem withComps_gfp_eq (l : List Comp) (s : State) (n : Nat) : (s.withComps l).gfp n = s.gfp n := rfl
@[simp] theorem withComps_dcc_eq (l : List Comp) (s : State) (n : Nat) : (s.withComps l).dcc n = s.dcc n := rfl
@[simp] theorem withComps_key_eq (l : List Comp) (s : State) (n : Nat) : (s.withComps l).key n = s.key n := rfl
@[simp] theorem withComps_lock_eq (l : List Comp) (s : State) (n : Nat) : (s.withComps l).lock n = s.lock n := rfl
@[simp] theorem withComps_res_eq (l : List Comp) (s : State) (n : Nat) : (s.withComps l).res n = s.res n := rfl
@[simp] theorem withComps_group_eq (l : List Comp) (s : State) (k n : Nat) : (s.withComps l).group k n = s.group k n := rfl
@[simp] theorem withComps_tswPage_eq (l : List Comp) (s : State) (b : Bool) : (s.withComps l).tswPage b = s.tswPage b := rfl
@[simp] theorem withComps_cnfParts_eq (l : List Comp) (s : State) (b : Bool) : (s.withComps l).cnfParts b = s.cnfParts b := rfl
@[simp] theorem withComps_cnfConfs_eq (l : List Comp) (s : State) (b : Bool) : (s.withComps l).cnfConfs b = s.cnfConfs b := rfl
@[simp] theorem withComps_sbPart_eq (l : List Comp) (s : State) (n : Nat) : (s.withComps l).sbPart n = s.sbPart n := rfl
@[simp] theorem withComps_sbConf_eq (l : List Comp) (s : State) (n : Nat) : (s.withComps l).sbConf n = s.sbConf n := rfl
@[simp] theorem withComps_xcPage_eq (l : List Comp) (s : State) (b : Bool) (n : Nat) : (s.withComps l).xcPage b n = s.xcPage b n := rfl
@[simp] theorem withComps_xcTab_eq (l : List Comp) (s : State) (b : Bool) : (s.withComps l).xcTab b = s.xcTab b := rfl
@[simp] theorem withComps_spkOf_eq (l : List Comp) (s : State) (n : Nat) : (s.withComps l).spkOf n = s.spkOf n := rfl
@[simp] theorem withComps_laneSt_eq (l : List Comp) (s : State) (n : Nat) : (s.withComps l).laneSt n = s.laneSt n := rfl
@[simp] theorem withComps_capt_eq (l : List Comp) (s : State) (n : Nat) : (s.withComps l).capt n = s.capt n := rfl
@[simp] theorem withComps_tswDirty_eq (l : List Comp) (s : State) (n : Nat) : (s.withComps l).tswDirty n = s.tswDirty n := rfl
@[simp] theorem withComps_tswPoison_eq (l : List Comp) (s : State) (b : Bool) (n : Nat) : (s.withComps l).tswPoison b n = s.tswPoison b n := rfl
@[simp] theorem withComps_upsetAt_eq (l : List Comp) (s : State) (m : Mem) : (s.withComps l).upsetAt m = s.upsetAt m := rfl
@[simp] theorem withComps_layerLost_eq (l : List Comp) (s : State) (k i : Nat) : (s.withComps l).layerLost k i = s.layerLost k i := rfl
@[simp] theorem withComps_inSvc_eq (l : List Comp) (s : State) (p : Nat) : (s.withComps l).inSvc p = s.inSvc p := rfl

/-- The state with other performance counters. -/
def State.withPmc (p : Pmc) (s : State) : State := { s with pmc := p }

/-! Nothing but the performance counters can tell the two states apart. -/

@[simp] theorem withPmc_pending (p : Pmc) (s : State) : (s.withPmc p).pending = s.pending := rfl
@[simp] theorem withPmc_powered (p : Pmc) (s : State) : (s.withPmc p).powered = s.powered := rfl
@[simp] theorem withPmc_freeIdx (p : Pmc) (s : State) : (s.withPmc p).freeIdx = s.freeIdx := rfl
@[simp] theorem withPmc_cfg (p : Pmc) (s : State) : (s.withPmc p).cfg = s.cfg := rfl
@[simp] theorem withPmc_hostMem (p : Pmc) (s : State) : (s.withPmc p).hostMem = s.hostMem := rfl
@[simp] theorem withPmc_upsets (p : Pmc) (s : State) : (s.withPmc p).upsets = s.upsets := rfl
@[simp] theorem withPmc_glb (p : Pmc) (s : State) : (s.withPmc p).glb = s.glb := rfl
@[simp] theorem withPmc_boot (p : Pmc) (s : State) : (s.withPmc p).boot = s.boot := rfl
@[simp] theorem withPmc_bus (p : Pmc) (s : State) : (s.withPmc p).bus = s.bus := rfl
@[simp] theorem withPmc_i2c (p : Pmc) (s : State) : (s.withPmc p).i2c = s.i2c := rfl
@[simp] theorem withPmc_flt (p : Pmc) (s : State) : (s.withPmc p).flt = s.flt := rfl
@[simp] theorem withPmc_log (p : Pmc) (s : State) : (s.withPmc p).log = s.log := rfl
@[simp] theorem withPmc_hif (p : Pmc) (s : State) : (s.withPmc p).hif = s.hif := rfl
@[simp] theorem withPmc_ce (p : Pmc) (s : State) : (s.withPmc p).ce = s.ce := rfl
@[simp] theorem withPmc_sec (p : Pmc) (s : State) : (s.withPmc p).sec = s.sec := rfl
@[simp] theorem withPmc_pin (p : Pmc) (s : State) : (s.withPmc p).pin = s.pin := rfl
@[simp] theorem withPmc_mgt (p : Pmc) (s : State) : (s.withPmc p).mgt = s.mgt := rfl
@[simp] theorem withPmc_stp (p : Pmc) (s : State) : (s.withPmc p).stp = s.stp := rfl
@[simp] theorem withPmc_ports (p : Pmc) (s : State) : (s.withPmc p).ports = s.ports := rfl
@[simp] theorem withPmc_hop (p : Pmc) (s : State) : (s.withPmc p).hop = s.hop := rfl
@[simp] theorem withPmc_scribe (p : Pmc) (s : State) : (s.withPmc p).scribe = s.scribe := rfl
@[simp] theorem withPmc_vc4s (p : Pmc) (s : State) : (s.withPmc p).vc4s = s.vc4s := rfl
@[simp] theorem withPmc_h4s (p : Pmc) (s : State) : (s.withPmc p).h4s = s.h4s := rfl
@[simp] theorem withPmc_los (p : Pmc) (s : State) : (s.withPmc p).los = s.los := rfl
@[simp] theorem withPmc_tribs (p : Pmc) (s : State) : (s.withPmc p).tribs = s.tribs := rfl
@[simp] theorem withPmc_hwys (p : Pmc) (s : State) : (s.withPmc p).hwys = s.hwys := rfl
@[simp] theorem withPmc_grps (p : Pmc) (s : State) : (s.withPmc p).grps = s.grps := rfl
@[simp] theorem withPmc_tsw (p : Pmc) (s : State) : (s.withPmc p).tsw = s.tsw := rfl
@[simp] theorem withPmc_cnf (p : Pmc) (s : State) : (s.withPmc p).cnf = s.cnf := rfl
@[simp] theorem withPmc_prt (p : Pmc) (s : State) : (s.withPmc p).prt = s.prt := rfl
@[simp] theorem withPmc_strs (p : Pmc) (s : State) : (s.withPmc p).strs = s.strs := rfl
@[simp] theorem withPmc_gfps (p : Pmc) (s : State) : (s.withPmc p).gfps = s.gfps := rfl
@[simp] theorem withPmc_dccs (p : Pmc) (s : State) : (s.withPmc p).dccs = s.dccs := rfl
@[simp] theorem withPmc_reg_eq (p : Pmc) (s : State) (o : Nat) : (s.withPmc p).reg o = s.reg o := rfl
@[simp] theorem withPmc_port_eq (p : Pmc) (s : State) (n : Nat) : (s.withPmc p).port n = s.port n := rfl
@[simp] theorem withPmc_timer_eq (p : Pmc) (s : State) (n : Nat) : (s.withPmc p).timer n = s.timer n := rfl
@[simp] theorem withPmc_ref_eq (p : Pmc) (s : State) (n : Nat) : (s.withPmc p).ref n = s.ref n := rfl
@[simp] theorem withPmc_path_eq (p : Pmc) (s : State) (n : Nat) : (s.withPmc p).path n = s.path n := rfl
@[simp] theorem withPmc_hoSrc_eq (p : Pmc) (s : State) (n : Nat) : (s.withPmc p).hoSrc n = s.hoSrc n := rfl
@[simp] theorem withPmc_lo_eq (p : Pmc) (s : State) (n : Nat) : (s.withPmc p).lo n = s.lo n := rfl
@[simp] theorem withPmc_vc4_eq (p : Pmc) (s : State) (n : Nat) : (s.withPmc p).vc4 n = s.vc4 n := rfl
@[simp] theorem withPmc_h4_eq (p : Pmc) (s : State) (n : Nat) : (s.withPmc p).h4 n = s.h4 n := rfl
@[simp] theorem withPmc_trace_eq (p : Pmc) (s : State) (k i : Nat) : (s.withPmc p).trace k i = s.trace k i := rfl
@[simp] theorem withPmc_trib_eq (p : Pmc) (s : State) (n : Nat) : (s.withPmc p).trib n = s.trib n := rfl
@[simp] theorem withPmc_hwy_eq (p : Pmc) (s : State) (n : Nat) : (s.withPmc p).hwy n = s.hwy n := rfl
@[simp] theorem withPmc_hwyGrp_eq (p : Pmc) (s : State) (n : Nat) : (s.withPmc p).hwyGrp n = s.hwyGrp n := rfl
@[simp] theorem withPmc_ring_eq (p : Pmc) (s : State) (k n : Nat) : (s.withPmc p).ring k n = s.ring k n := rfl
@[simp] theorem withPmc_strm_eq (p : Pmc) (s : State) (n : Nat) : (s.withPmc p).strm n = s.strm n := rfl
@[simp] theorem withPmc_gfp_eq (p : Pmc) (s : State) (n : Nat) : (s.withPmc p).gfp n = s.gfp n := rfl
@[simp] theorem withPmc_dcc_eq (p : Pmc) (s : State) (n : Nat) : (s.withPmc p).dcc n = s.dcc n := rfl
@[simp] theorem withPmc_key_eq (p : Pmc) (s : State) (n : Nat) : (s.withPmc p).key n = s.key n := rfl
@[simp] theorem withPmc_lock_eq (p : Pmc) (s : State) (n : Nat) : (s.withPmc p).lock n = s.lock n := rfl
@[simp] theorem withPmc_res_eq (p : Pmc) (s : State) (n : Nat) : (s.withPmc p).res n = s.res n := rfl
@[simp] theorem withPmc_group_eq (p : Pmc) (s : State) (k n : Nat) : (s.withPmc p).group k n = s.group k n := rfl
@[simp] theorem withPmc_tswPage_eq (p : Pmc) (s : State) (b : Bool) : (s.withPmc p).tswPage b = s.tswPage b := rfl
@[simp] theorem withPmc_cnfParts_eq (p : Pmc) (s : State) (b : Bool) : (s.withPmc p).cnfParts b = s.cnfParts b := rfl
@[simp] theorem withPmc_cnfConfs_eq (p : Pmc) (s : State) (b : Bool) : (s.withPmc p).cnfConfs b = s.cnfConfs b := rfl
@[simp] theorem withPmc_sbPart_eq (p : Pmc) (s : State) (n : Nat) : (s.withPmc p).sbPart n = s.sbPart n := rfl
@[simp] theorem withPmc_sbConf_eq (p : Pmc) (s : State) (n : Nat) : (s.withPmc p).sbConf n = s.sbConf n := rfl
@[simp] theorem withPmc_xcPage_eq (p : Pmc) (s : State) (b : Bool) (n : Nat) : (s.withPmc p).xcPage b n = s.xcPage b n := rfl
@[simp] theorem withPmc_xcTab_eq (p : Pmc) (s : State) (b : Bool) : (s.withPmc p).xcTab b = s.xcTab b := rfl
@[simp] theorem withPmc_spkOf_eq (p : Pmc) (s : State) (n : Nat) : (s.withPmc p).spkOf n = s.spkOf n := rfl
@[simp] theorem withPmc_laneSt_eq (p : Pmc) (s : State) (n : Nat) : (s.withPmc p).laneSt n = s.laneSt n := rfl
@[simp] theorem withPmc_capt_eq (p : Pmc) (s : State) (n : Nat) : (s.withPmc p).capt n = s.capt n := rfl
@[simp] theorem withPmc_tswDirty_eq (p : Pmc) (s : State) (n : Nat) : (s.withPmc p).tswDirty n = s.tswDirty n := rfl
@[simp] theorem withPmc_tswPoison_eq (p : Pmc) (s : State) (b : Bool) (n : Nat) : (s.withPmc p).tswPoison b n = s.tswPoison b n := rfl
@[simp] theorem withPmc_upsetAt_eq (p : Pmc) (s : State) (m : Mem) : (s.withPmc p).upsetAt m = s.upsetAt m := rfl
@[simp] theorem withPmc_layerLost_eq (p : Pmc) (s : State) (k i : Nat) : (s.withPmc p).layerLost k i = s.layerLost k i := rfl
@[simp] theorem withPmc_inSvc_eq (p : Pmc) (s : State) (k : Nat) : (s.withPmc p).inSvc k = s.inSvc k := rfl

@[simp] theorem withPmc_pmc (p : Pmc) (s : State) : (s.withPmc p).pmc = p := rfl

theorem pmcAdd_eq (j n : Nat) (s : State) : s.pmcAdd j n = s.withPmc (s.pmcAdd j n).pmc := by
  have h : ∃ p, s.pmcAdd j n = s.withPmc p := by
    unfold State.pmcAdd
    dsimp only
    repeat' split
    all_goals exact ⟨_, rfl⟩
  obtain ⟨p, hp⟩ := h
  rw [hp]
  rfl

theorem foldS_withPmc {α : Type} (g : α → State → State) (hg : ∀ a s, ∃ p, g a s = s.withPmc p) (l : List α) (s : State) :
    ∃ p, foldS l g s = s.withPmc p := by
  induction l generalizing s with
  | nil => exact ⟨s.pmc, rfl⟩
  | cons a l ih =>
    obtain ⟨p, hp⟩ := hg a s
    obtain ⟨q, hq⟩ := ih (s.withPmc p)
    exact ⟨q, (congrArg (foldS l g) hp).trans hq⟩

theorem eq_withPmc {s t : State} (h : ∃ p, t = s.withPmc p) : t = s.withPmc t.pmc := by
  obtain ⟨p, rfl⟩ := h
  rfl

/-- An event that the counters count changes nothing else. -/
theorem pmcEvent_eq (ev : Nat) (r : Option Nat) (n : Nat) (s : State) : s.pmcEvent ev r n = s.withPmc (s.pmcEvent ev r n).pmc := by
  refine eq_withPmc (foldS_withPmc _ (fun i u => ?_) _ s)
  have h1 : ∀ b : Bool, ∃ p, whenS b (fun s => s.pmcAdd (5 + i) n) u = u.withPmc p := by
    intro b
    cases b
    · exact ⟨u.pmc, rfl⟩
    · exact ⟨_, pmcAdd_eq _ _ _⟩
  exact h1 _

/-- An event that happened no time is not counted. -/
@[simp] theorem pmcEvent_zero (ev : Nat) (r : Option Nat) (s : State) : s.pmcEvent ev r 0 = s := by
  unfold State.pmcEvent
  generalize List.range 8 = l
  induction l generalizing s with
  | nil => rfl
  | cons i l ih =>
    have h : ∀ b : Bool, whenS b (fun s => s.pmcAdd (5 + i) 0) s = s := by
      intro b
      cases b
      · rfl
      · simp [whenS, State.pmcAdd]
    exact (congrArg (foldS l _) (h _)).trans (ih s)

/-- What is counted of a command changes the counters alone. -/
theorem pmcRan_eq (c : Cmd) (s : State) : s.pmcRan c = s.withPmc (s.pmcRan c).pmc := by
  have h : ∃ p, s.pmcRan c = s.withPmc p := by
    unfold State.pmcRan
    rw [pmcEvent_eq, pmcEvent_eq 0x0E, pmcEvent_eq 0x0D]
    exact ⟨_, rfl⟩
  obtain ⟨p, hp⟩ := h
  rw [hp]
  rfl

theorem pmcRan_nop (s : State) : s.pmcRan .nop = s := by
  unfold State.pmcRan
  rw [show changesOf .nop = 0 from rfl, show patchesOf .nop = 0 from rfl, show b2n (executorOf .nop).isSome = 0 from rfl]
  simp only [pmcEvent_zero]
theorem pmcRan_echo (v : Word) (s : State) : s.pmcRan (.echo v) = s := by
  unfold State.pmcRan
  rw [show changesOf (.echo v) = 0 from rfl, show patchesOf (.echo v) = 0 from rfl,
    show b2n (executorOf (.echo v)).isSome = 0 from rfl]
  simp only [pmcEvent_zero]

/-- A command that nothing stops: its effect, what follows of it, then its completion. -/
theorem runNow_of_carries {c : Cmd} {s : State} (h : Hdr) (hc : Carries c s) :
    s.runNow h c = ((s.follow c (s.apply h.ring.val c).2).pmcRan c).finish (s.entryOf h c) (s.apply h.ring.val c).1 := by
  unfold State.runNow
  simp [hc.1, hc.2]

/-- What follows of a command leaves the engine's own state and the frame count alone. -/
theorem State.follow_ce (c : Cmd) (old s : State) : (old.follow c s).ce = s.ce := ce_of_hide (State.follow_frame _ (by decide) _ _ _)
theorem State.follow_frameCount (c : Cmd) (old s : State) : (old.follow c s).stp.frame = s.stp.frame :=
  frame_of_hide (State.follow_frame _ (by decide) _ _ _)

/-- A command that nothing stops answers its effect `u` and what follows of it, with its completion among those that wait, and no
other change but of the performance counters. -/
theorem Carries.follows {c : Cmd} {s u : State} {h : Hdr} {r : Nat} {e : Eff} {P : State → Prop} (hc : Carries c s)
    (he : s.apply h.ring.val c = (e, u)) (hs : e.status = 0) (hr : e.result = r)
    (hP : ∀ (l : List Comp) (p : Pmc), DoneWith h r s (((s.follow c u).withPmc p).withComps l) → P (((s.follow c u).withPmc p).withComps l)) :
    ∃ t, Host.Outcome.next (ρ := Refusal) (φ := Fault) (s.runNow h c) = .next t ∧ P t := by
  refine ⟨_, rfl, ?_⟩
  have hce : (s.follow c u).ce = s.ce := by
    have := State.apply_ce h.ring.val c s
    rw [he] at this
    exact (State.follow_ce c s u).trans this
  have hf : (s.follow c u).stp.frame = s.stp.frame := by
    have := State.apply_frameCount h.ring.val c s
    rw [he] at this
    exact (State.follow_frameCount c s u).trans this
  rw [runNow_of_carries h hc, he]
  dsimp only
  generalize s.follow c u = v at hce hf hP ⊢
  rw [pmcRan_eq c v]
  generalize (v.pmcRan c).pmc = p
  unfold State.finish
  subst hr
  by_cases hn : h.nocomp = true
  · rw [if_pos (by simp [State.entryOf, hn, hs])]
    exact hP v.ce.comps p ⟨fun _ => congrArg (fun x => x.comps) hce, fun h0 => by rw [hn] at h0; cases h0⟩
  · rw [if_neg (by simp [State.entryOf, hn])]
    refine hP _ p ⟨fun h0 => absurd h0 hn, fun _ => ?_⟩
    refine ⟨_, congrArg (fun x => x.comps ++ _) hce, hs, rfl, rfl, rfl, rfl, rfl, hf⟩

/-- The same for a command that nothing follows of. -/
theorem Carries.does {c : Cmd} {s u : State} {h : Hdr} {r : Nat} {e : Eff} {P : State → Prop} (hc : Carries c s)
    (he : s.apply h.ring.val c = (e, u)) (hu : s.follow c u = u) (hs : e.status = 0) (hr : e.result = r)
    (hP : ∀ (l : List Comp) (p : Pmc), DoneWith h r s ((u.withPmc p).withComps l) → P ((u.withPmc p).withComps l)) :
    ∃ t, Host.Outcome.next (ρ := Refusal) (φ := Fault) (s.runNow h c) = .next t ∧ P t :=
  hc.follows he hs hr (by rw [hu]; exact hP)

end Sys2Proof.Machine
end

