-- ==== Sys2Proof/Laws/Tab.lean ====
section
/-! SUPPORT. Tables and host memory: what a read after a write gives, and that writes keep the canonical form. -/

namespace Sys2Proof.Machine

theorem tget_tput_same {α : Type} (d : α) (t : Tab α) (k : Nat) (v : α) : tget d (tput t k v) k = v := by
  induction t with
  | nil => simp [tput, tget]
  | cons e t ih =>
    unfold tput
    split
    · simp [tget]
    · split
      · simp [tget]
      · rename_i h
        simp only [tget, if_neg h, ih]

theorem tget_tput_other {α : Type} (d : α) (t : Tab α) (k j : Nat) (v : α) (h : j ≠ k) : tget d (tput t k v) j = tget d t j := by
  induction t with
  | nil => simp [tput, tget, h]
  | cons e t ih =>
    unfold tput
    split
    · simp only [tget, if_neg h]
    · split
      · rename_i hk
        simp only [tget, if_neg h, ← hk]
      · simp only [tget, ih]

theorem tget_tdel_same {α : Type} (d : α) (t : Tab α) (k : Nat) : tget d (tdel t k) k = d := by
  induction t with
  | nil => rfl
  | cons e t ih =>
    unfold tdel
    split
    · exact ih
    · rename_i h
      simp only [tget, if_neg h, ih]

theorem tget_tdel_other {α : Type} (d : α) (t : Tab α) (k j : Nat) (h : j ≠ k) : tget d (tdel t k) j = tget d t j := by
  induction t with
  | nil => rfl
  | cons e t ih =>
    unfold tdel
    split
    · rename_i hk
      simp only [tget, ← hk, if_neg h, ih]
    · simp only [tget, ih]

/-- The entry written is read back. -/
@[simp] theorem tget_tset_same {α : Type} [DecidableEq α] (d : α) (t : Tab α) (k : Nat) (v : α) : tget d (tset d t k v) k = v := by
  unfold tset
  split
  · rename_i h
    rw [h]
    exact tget_tdel_same d t k
  · exact tget_tput_same d t k v

/-- Every other entry stays. -/
theorem tget_tset_other {α : Type} [DecidableEq α] (d : α) (t : Tab α) (k j : Nat) (v : α) (h : j ≠ k) :
    tget d (tset d t k v) j = tget d t j := by
  unfold tset
  split
  · exact tget_tdel_other d t k j h
  · exact tget_tput_other d t k j v h

theorem tget_tsetRun {α : Type} [DecidableEq α] (d : α) (t : Tab α) (k n : Nat) (f : Nat → α) (j : Nat) :
    tget d (tsetRun d t k n f) j = if k ≤ j ∧ j < k + n then f (j - k) else tget d t j := by
  induction n with
  | zero => rw [if_neg (by omega)]; rfl
  | succ n ih =>
    unfold tsetRun
    by_cases h : j = k + n
    · subst h
      rw [tget_tset_same, if_pos (by omega), Nat.add_sub_cancel_left]
    · rw [tget_tset_other _ _ _ _ _ h, ih]
      by_cases h2 : k ≤ j ∧ j < k + n
      · rw [if_pos h2, if_pos (by omega)]
      · rw [if_neg h2, if_neg (by omega)]

/-! ### Canonical form -/

theorem tcanonAbove_weaken {α : Type} [DecidableEq α] (d : α) {lo lo' : Option Nat} (t : Tab α)
    (hl : ∀ a ∈ lo', ∃ b ∈ lo, a ≤ b) (h : tcanonAbove d lo t = true) : tcanonAbove d lo' t = true := by
  cases t with
  | nil => rfl
  | cons e t =>
    simp only [tcanonAbove, Bool.and_eq_true] at h ⊢
    refine ⟨⟨?_, h.1.2⟩, h.2⟩
    cases lo' with
    | none => rfl
    | some a =>
      obtain ⟨b, hb, hab⟩ := hl a rfl
      cases hb
      have := of_decide_eq_true h.1.1
      exact decide_eq_true (by omega)

theorem tcanonAbove_cons {α : Type} [DecidableEq α] (d : α) (lo : Option Nat) (e : Nat × α) (t : Tab α) :
    tcanonAbove d lo (e :: t) = true ↔ (∀ a ∈ lo, a < e.1) ∧ e.2 ≠ d ∧ tcanonAbove d (some e.1) t = true := by
  cases lo with
  | none => simp [tcanonAbove]
  | some a => simp [tcanonAbove, and_assoc]

theorem tput_canonAbove {α : Type} [DecidableEq α] (d : α) (lo : Option Nat) (t : Tab α) (k : Nat) (v : α) (hv : v ≠ d)
    (hk : ∀ a ∈ lo, a < k) (h : tcanonAbove d lo t = true) : tcanonAbove d lo (tput t k v) = true := by
  induction t generalizing lo with
  | nil => exact (tcanonAbove_cons ..).2 ⟨hk, hv, rfl⟩
  | cons e t ih =>
    have h' := (tcanonAbove_cons ..).1 h
    unfold tput
    split
    · rename_i hlt
      exact (tcanonAbove_cons ..).2 ⟨hk, hv, (tcanonAbove_cons ..).2 ⟨fun a ha => by cases ha; exact hlt, h'.2⟩⟩
    · split
      · rename_i heq
        exact (tcanonAbove_cons ..).2 ⟨hk, hv, heq ▸ h'.2.2⟩
      · rename_i hlt heq
        exact (tcanonAbove_cons ..).2 ⟨h'.1, h'.2.1, ih (some e.1) (fun a ha => by cases ha; omega) h'.2.2⟩

theorem tdel_canonAbove {α : Type} [DecidableEq α] (d : α) (lo : Option Nat) (t : Tab α) (k : Nat)
    (h : tcanonAbove d lo t = true) : tcanonAbove d lo (tdel t k) = true := by
  induction t generalizing lo with
  | nil => rfl
  | cons e t ih =>
    simp only [tcanonAbove, Bool.and_eq_true] at h
    unfold tdel
    split
    · refine ih lo (tcanonAbove_weaken d t ?_ h.2)
      intro a ha
      cases lo with
      | none => cases ha
      | some b =>
        cases ha
        exact ⟨e.1, rfl, Nat.le_of_lt (of_decide_eq_true h.1.1)⟩
    · simp only [tcanonAbove, Bool.and_eq_true]
      exact ⟨h.1, ih _ h.2⟩

/-- A write keeps a table canonical. -/
theorem tset_canon {α : Type} [DecidableEq α] (d : α) (t : Tab α) (k : Nat) (v : α) (h : tcanon d t = true) :
    tcanon d (tset d t k v) = true := by
  unfold tset tcanon
  split
  · exact tdel_canonAbove d none t k h
  · rename_i hv
    exact tput_canonAbove d none t k v hv (fun _ ha => by cases ha) h

/-! ### Host memory -/

theorem Memory.wf_cons (c : Host.Cell) (m : List Host.Cell) :
    Memory.wf (c :: m) = true ↔ (∀ e ∈ m.head?, c.1 < e.1) ∧ Memory.wf m = true := by
  cases m with
  | nil => simp [Memory.wf]
  | cons e m => simp [Memory.wf]

theorem tput_head (m : List Host.Cell) (a : Nat) (b : Byte) (e : Host.Cell) (h : e ∈ (tput m a b).head?) :
    e.1 = a ∨ e ∈ m.head? := by
  cases m with
  | nil => simp only [tput, List.head?_cons, Option.mem_def, Option.some.injEq] at h; subst h; exact .inl rfl
  | cons c m =>
    unfold tput at h
    split at h
    · cases h; exact .inl rfl
    · split at h
      · cases h; exact .inl rfl
      · cases h; exact .inr rfl

theorem tput_wf (m : List Host.Cell) (a : Nat) (b : Byte) (h : Memory.wf m = true) : Memory.wf (tput m a b) = true := by
  induction m with
  | nil => rfl
  | cons c m ih =>
    have hc := (Memory.wf_cons c m).1 h
    unfold tput
    split
    · rename_i hlt
      exact (Memory.wf_cons _ _).2 ⟨fun e he => by cases he; exact hlt, h⟩
    · split
      · rename_i heq
        exact (Memory.wf_cons _ _).2 ⟨fun e he => by rw [heq]; exact hc.1 e he, hc.2⟩
      · rename_i hlt heq
        refine (Memory.wf_cons _ _).2 ⟨fun e he => ?_, ih hc.2⟩
        rcases tput_head m a b e he with h1 | h1
        · rw [h1]; omega
        · exact hc.1 e h1

/-- A DMA write keeps host memory canonical. -/
theorem memWrite_wf (m : List Host.Cell) (a : Nat) (bs : List Byte) (h : Memory.wf m = true) : Memory.wf (memWrite m a bs) = true := by
  induction bs generalizing m a with
  | nil => exact h
  | cons b r ih => exact ih _ _ (tput_wf _ _ _ h)

theorem map_tput {α β : Type} (f : α → β) (m : Tab α) (a : Nat) (b : α) :
    (tput m a b).map (fun c => (c.1, f c.2)) = tput (m.map (fun c => (c.1, f c.2))) a (f b) := by
  induction m with
  | nil => rfl
  | cons c m ih =>
    simp only [tput, List.map_cons]
    split
    · rfl
    · split
      · rfl
      · simp only [List.map_cons, ih]

/-- A byte written is read back, below the top of the address space. -/
theorem memRead_tput_same (m : List Host.Cell) (a : Nat) (b : Byte) : memRead (tput m a b) a = some b := by
  unfold memRead
  rw [map_tput (fun x : Byte => some x)]
  exact tget_tput_same none _ a (some b)

theorem memRead_tput_other (m : List Host.Cell) (a j : Nat) (b : Byte) (h : j ≠ a) : memRead (tput m a b) j = memRead m j := by
  unfold memRead
  rw [map_tput (fun x : Byte => some x)]
  exact tget_tput_other none _ a j (some b) h

/-- A write leaves every byte outside its run. -/
theorem memRead_memWrite_other (m : List Host.Cell) (a j : Nat) (bs : List Byte)
    (h : ∀ i < bs.length, j ≠ (a + i) % 2 ^ 64) : memRead (memWrite m a bs) j = memRead m j := by
  induction bs generalizing m a with
  | nil => rfl
  | cons b r ih =>
    unfold memWrite
    rw [ih]
    · exact memRead_tput_other _ _ _ _ (by simpa using h 0 (by simp))
    · intro i hi
      have := h (i + 1) (by simpa using hi)
      rwa [show a + (i + 1) = a + 1 + i by omega] at this

/-- Every byte of a write that ends below the top of the address space is read back. -/
theorem memRead_memWrite (m : List Host.Cell) (a i : Nat) (bs : List Byte) (hi : i < bs.length) (ht : a + bs.length ≤ 2 ^ 64) :
    memRead (memWrite m a bs) (a + i) = bs[i]? := by
  induction bs generalizing m a i with
  | nil => simp at hi
  | cons b r ih =>
    unfold memWrite
    simp only [List.length_cons] at hi ht
    cases i with
    | zero =>
      rw [memRead_memWrite_other, Nat.add_zero, Nat.mod_eq_of_lt (by omega), memRead_tput_same]
      · rfl
      · intro j hj
        rw [Nat.mod_eq_of_lt (by omega)]
        omega
    | succ i =>
      rw [show a + (i + 1) = a + 1 + i by omega, ih _ (a + 1) i (by omega) (by omega)]
      rfl

end Sys2Proof.Machine
end

