-- ==== Sys2Proof/Laws/Fit.lean ====
section
/-! SUPPORT. How `State.Fit` (canonical host memory, at most 64 messages queued) passes through updates, folds and cases. -/

namespace Sys2Proof.Machine

theorem fit_mk (a0 a1 a2 a3 a4 a5 a6 a7 a8 a9 a10 a11 a12 a13 a14 a15 a16 a17 a18 a19 a20 a21 a22 a23 a24 a25 a26 a27 a28 a29 a30 a31 a32 a33) : (State.mk a0 a1 a2 a3 a4 a5 a6 a7 a8 a9 a10 a11 a12 a13 a14 a15 a16 a17 a18 a19 a20 a21 a22 a23 a24 a25 a26 a27 a28 a29 a30 a31 a32 a33).Fit = (Memory.wf a4 = true ∧ a10.queue.length ≤ 64) := rfl

theorem fit_eta (s : State) : (Memory.wf s.hostMem = true ∧ s.flt.queue.length ≤ 64) = s.Fit := rfl

/-- What neither host memory nor the collector's queue sees changed keeps `Fit`. -/
theorem fit_of_hide {s t : State} (h : s.hide 35184372086767 = t.hide 35184372086767) (hF : s.Fit) : t.Fit := by
  have h1 : s.hostMem = t.hostMem := pick_eq (W := 35184372086767) (m := 16) ([] : List Host.Cell) _ _ (by decide) (congrArg (fun x => x.hostMem) h)
  have h2 : s.flt.queue = t.flt.queue := pick_eq (W := 35184372086767) (m := 2048) ([] : List Msg) _ _ (by decide) (congrArg (fun x => x.flt.queue) h)
  unfold State.Fit
  rw [← h1, ← h2]
  exact hF

theorem foldS_fit {α : Type} (l : List α) (f : α → State → State) (h : ∀ a s, s.Fit → (f a s).Fit) (s : State) (hF : s.Fit) : (foldS l f s).Fit := by
  induction l generalizing s with
  | nil => exact hF
  | cons a l ih => exact ih (f a s) (h a s hF)

theorem whenS_fit (c : Bool) (f : State → State) (s : State) (h : ∀ s, s.Fit → (f s).Fit) (hF : s.Fit) : (whenS c f s).Fit := by
  unfold whenS; split
  · exact h s hF
  · exact hF

theorem foldl_snd_fit {α β : Type} (l : List α) (f : β × State → α → β × State) (h : ∀ a x, a.2.Fit → (f a x).2.Fit) (a : β × State) (hF : a.2.Fit) : (l.foldl f a).2.Fit := by
  induction l generalizing a with
  | nil => exact hF
  | cons x l ih => exact ih (f a x) (h a x hF)

theorem foldl_fit {α : Type} (l : List α) (f : State → α → State) (h : ∀ s a, s.Fit → (f s a).Fit) (s : State) (hF : s.Fit) : (l.foldl f s).Fit := by
  induction l generalizing s with
  | nil => exact hF
  | cons a l ih => exact ih (f s a) (h s a hF)

theorem ite_fit {c : Prop} [Decidable c] {a b : State} (ha : c → a.Fit) (hb : ¬c → b.Fit) : (if c then a else b).Fit := by
  split
  · exact ha ‹_›
  · exact hb ‹_›

end Sys2Proof.Machine
end

