-- ==== Sys2Proof/Laws/FitHost.lean ====
section
/-! SUPPORT. `State.Fit` through the shared operations, the resource registry and the clock. -/

namespace Sys2Proof.Machine

set_option linter.unusedSimpArgs false
set_option linter.unreachableTactic false
set_option linter.unusedTactic false
set_option linter.unusedVariables false

theorem State.setReg_fit (s : State) (o : Nat) (v : Word) (hF : s.Fit) : (State.setReg s o v).Fit := 
  fit_of_hide (State.setReg_frame 35184372086767 (by decide) _ _ _).symm hF

theorem State.regWrite_fit (s : State) (o : Nat) (v : Word) (hF : s.Fit) : (State.regWrite s o v).Fit := 
  fit_of_hide (State.regWrite_frame 35184372086767 (by decide) _ _ _).symm hF

theorem State.regsReset_fit (p : Nat → Bool) (s : State) (hF : s.Fit) : (State.regsReset p s).Fit := 
  fit_of_hide (State.regsReset_frame 35184372086767 (by decide) _ _).symm hF

theorem State.takeFree_fit (n : Nat) (s : State) (hF : s.Fit) : (State.takeFree n s).2.Fit := 
  fit_of_hide (State.takeFree_frame 35184372086767 (by decide) _ _).symm hF

theorem insertMsg_length (m : Msg) (l : List Msg) : (insertMsg m l).length = l.length + 1 := by
  induction l with
  | nil => rfl
  | cons x r ih =>
    unfold insertMsg
    split
    · rfl
    · simp only [List.length_cons, ih]

theorem State.post_fit (m : Msg) (s : State) (hF : s.Fit) : (State.post m s).Fit := by
  unfold State.post
  simp only []
  split
  · refine ⟨hF.1, ?_⟩
    show (insertMsg _ s.flt.queue).length ≤ 64
    rw [insertMsg_length]
    omega
  · exact ⟨hF.1, List.length_take_le _ _⟩

theorem State.raise_fit (k : Kind) (src addr data : Nat) (s : State) (hF : s.Fit) : (State.raise k src addr data s).Fit := by
  unfold State.raise
  repeat' (first | with_reducible assumption | simp only [fit_mk, fit_eta] | with_reducible refine foldS_fit _ _ (fun _ _ _ => ?_) _ ?_ | with_reducible refine foldl_fit _ _ (fun _ _ _ => ?_) _ ?_ | with_reducible refine ite_fit (fun _ => ?_) (fun _ => ?_) | with_reducible refine whenS_fit _ _ _ (fun _ _ => ?_) ?_ | with_reducible refine State.post_fit _ _ ?_ | split)

theorem State.raiseU_fit (masked : Bool) (k : Kind) (src addr data : Nat) (s : State) (hF : s.Fit) : (State.raiseU masked k src addr data s).Fit := by
  unfold State.raiseU
  repeat' (first | with_reducible assumption | simp only [fit_mk, fit_eta] | with_reducible refine foldS_fit _ _ (fun _ _ _ => ?_) _ ?_ | with_reducible refine foldl_fit _ _ (fun _ _ _ => ?_) _ ?_ | with_reducible refine ite_fit (fun _ => ?_) (fun _ => ?_) | with_reducible refine whenS_fit _ _ _ (fun _ _ => ?_) ?_ | with_reducible refine State.post_fit _ _ ?_ | split)

theorem State.dma_fit (a : Nat) (bs : List Byte) (s : State) (hF : s.Fit) : (State.dma a bs s).Fit := by
  unfold State.dma
  split
  · exact ⟨memWrite_wf _ _ _ hF.1, hF.2⟩
  · exact hF

theorem State.vecMsg_fit (v : Nat) (s : State) (hF : s.Fit) : (State.vecMsg v s).Fit := by
  unfold State.vecMsg
  repeat' (first | with_reducible assumption | simp only [fit_mk, fit_eta] | with_reducible refine foldS_fit _ _ (fun _ _ _ => ?_) _ ?_ | with_reducible refine foldl_fit _ _ (fun _ _ _ => ?_) _ ?_ | with_reducible refine ite_fit (fun _ => ?_) (fun _ => ?_) | with_reducible refine whenS_fit _ _ _ (fun _ _ => ?_) ?_ | with_reducible refine State.dma_fit _ _ _ ?_ | split)

theorem State.sendVec_fit (v : Nat) (s : State) (hF : s.Fit) : (State.sendVec v s).Fit := by
  unfold State.sendVec
  repeat' (first | with_reducible assumption | simp only [fit_mk, fit_eta] | with_reducible refine foldS_fit _ _ (fun _ _ _ => ?_) _ ?_ | with_reducible refine foldl_fit _ _ (fun _ _ _ => ?_) _ ?_ | with_reducible refine ite_fit (fun _ => ?_) (fun _ => ?_) | with_reducible refine whenS_fit _ _ _ (fun _ _ => ?_) ?_ | with_reducible refine State.vecMsg_fit _ _ ?_ | split)

theorem State.intr_fit (v : Nat) (s : State) (hF : s.Fit) : (State.intr v s).Fit := by
  unfold State.intr
  repeat' (first | with_reducible assumption | simp only [fit_mk, fit_eta] | with_reducible refine foldS_fit _ _ (fun _ _ _ => ?_) _ ?_ | with_reducible refine foldl_fit _ _ (fun _ _ _ => ?_) _ ?_ | with_reducible refine ite_fit (fun _ => ?_) (fun _ => ?_) | with_reducible refine whenS_fit _ _ _ (fun _ _ => ?_) ?_ | with_reducible refine State.sendVec_fit _ _ ?_ | split)

theorem State.flushVecs_fit (s : State) (hF : s.Fit) : (State.flushVecs s).Fit := by
  unfold State.flushVecs
  repeat' (first | with_reducible assumption | simp only [fit_mk, fit_eta] | with_reducible refine foldS_fit _ _ (fun _ _ _ => ?_) _ ?_ | with_reducible refine foldl_fit _ _ (fun _ _ _ => ?_) _ ?_ | with_reducible refine ite_fit (fun _ => ?_) (fun _ => ?_) | with_reducible refine whenS_fit _ _ _ (fun _ _ => ?_) ?_ | with_reducible refine State.vecMsg_fit _ _ ?_ | split)

theorem State.setRing_fit (kind n : Nat) (r : Ring) (s : State) (hF : s.Fit) : (State.setRing kind n r s).Fit := 
  fit_of_hide (State.setRing_frame 35184372086767 (by decide) _ _ _ _).symm hF

theorem State.modRing_fit (kind n : Nat) (f : Ring → Ring) (s : State) (hF : s.Fit) : (State.modRing kind n f s).Fit := 
  fit_of_hide (State.modRing_frame 35184372086767 (by decide) _ _ _ _).symm hF

theorem State.putEntry_fit (kind n esize : Nat) (f : Bool → List Byte) (wanted : Bool) (s : State) (hF : s.Fit) : (State.putEntry kind n esize f wanted s).Fit := by
  unfold State.putEntry
  repeat' (first | with_reducible assumption | simp only [fit_mk, fit_eta] | with_reducible refine foldS_fit _ _ (fun _ _ _ => ?_) _ ?_ | with_reducible refine foldl_fit _ _ (fun _ _ _ => ?_) _ ?_ | with_reducible refine ite_fit (fun _ => ?_) (fun _ => ?_) | with_reducible refine whenS_fit _ _ _ (fun _ _ => ?_) ?_ | with_reducible refine State.dma_fit _ _ _ ?_ | with_reducible refine State.intr_fit _ _ ?_ | with_reducible refine State.setRing_fit _ _ _ _ ?_ | split)

theorem State.writeBack_fit (kind n : Nat) (d : BufDesc) (used stat : Nat) (s : State) (hF : s.Fit) : (State.writeBack kind n d used stat s).Fit := by
  unfold State.writeBack
  repeat' (first | with_reducible assumption | simp only [fit_mk, fit_eta] | with_reducible refine foldS_fit _ _ (fun _ _ _ => ?_) _ ?_ | with_reducible refine foldl_fit _ _ (fun _ _ _ => ?_) _ ?_ | with_reducible refine ite_fit (fun _ => ?_) (fun _ => ?_) | with_reducible refine whenS_fit _ _ _ (fun _ _ => ?_) ?_ | with_reducible refine State.dma_fit _ _ _ ?_ | with_reducible refine State.intr_fit _ _ ?_ | with_reducible refine State.setRing_fit _ _ _ _ ?_ | split)

theorem State.consume_fit (kind n : Nat) (s : State) (hF : s.Fit) : (State.consume kind n s).Fit := 
  fit_of_hide (State.consume_frame 35184372086767 (by decide) _ _ _).symm hF

theorem State.readOk_fit (kind n : Nat) (s : State) (hF : s.Fit) : (State.readOk kind n s).Fit := 
  fit_of_hide (State.readOk_frame 35184372086767 (by decide) _ _ _).symm hF

theorem State.badDesc_fit (kind n : Nat) (d : BufDesc) (s : State) (hF : s.Fit) : (State.badDesc kind n d s).Fit := by
  unfold State.badDesc
  repeat' (first | with_reducible assumption | simp only [fit_mk, fit_eta] | with_reducible refine foldS_fit _ _ (fun _ _ _ => ?_) _ ?_ | with_reducible refine foldl_fit _ _ (fun _ _ _ => ?_) _ ?_ | with_reducible refine ite_fit (fun _ => ?_) (fun _ => ?_) | with_reducible refine whenS_fit _ _ _ (fun _ _ => ?_) ?_ | with_reducible refine State.consume_fit _ _ _ ?_ | with_reducible refine State.modRing_fit _ _ _ _ ?_ | with_reducible refine State.raise_fit _ _ _ _ _ ?_ | with_reducible refine State.writeBack_fit _ _ _ _ _ _ ?_ | split)

theorem State.evPut_fit (e : EvEntry) (s : State) (hF : s.Fit) : (State.evPut e s).Fit := by
  unfold State.evPut
  repeat' (first | with_reducible assumption | simp only [fit_mk, fit_eta] | with_reducible refine foldS_fit _ _ (fun _ _ _ => ?_) _ ?_ | with_reducible refine foldl_fit _ _ (fun _ _ _ => ?_) _ ?_ | with_reducible refine ite_fit (fun _ => ?_) (fun _ => ?_) | with_reducible refine whenS_fit _ _ _ (fun _ _ => ?_) ?_ | with_reducible refine State.putEntry_fit _ _ _ _ _ _ ?_ | split)

theorem State.offerLog_fit (p : Nat) (s : State) (hF : s.Fit) : (State.offerLog p s).Fit := by
  unfold State.offerLog
  repeat' (first | with_reducible assumption | simp only [fit_mk, fit_eta] | with_reducible refine foldS_fit _ _ (fun _ _ _ => ?_) _ ?_ | with_reducible refine foldl_fit _ _ (fun _ _ _ => ?_) _ ?_ | with_reducible refine ite_fit (fun _ => ?_) (fun _ => ?_) | with_reducible refine whenS_fit _ _ _ (fun _ _ => ?_) ?_ | with_reducible refine State.evPut_fit _ _ ?_ | split)

theorem State.flushFrom_fit (l : List Nat) (s : State) (hF : s.Fit) : (State.flushFrom l s).Fit := by
  unfold State.flushFrom
  repeat' (first | with_reducible assumption | simp only [fit_mk, fit_eta] | with_reducible refine foldS_fit _ _ (fun _ _ _ => ?_) _ ?_ | with_reducible refine foldl_fit _ _ (fun _ _ _ => ?_) _ ?_ | with_reducible refine ite_fit (fun _ => ?_) (fun _ => ?_) | with_reducible refine whenS_fit _ _ _ (fun _ _ => ?_) ?_ | with_reducible refine State.offerLog_fit _ _ ?_ | split)

theorem State.mirrorAll_fit (s : State) (hF : s.Fit) : (State.mirrorAll s).Fit := by
  unfold State.mirrorAll
  repeat' (first | with_reducible assumption | simp only [fit_mk, fit_eta] | with_reducible refine foldS_fit _ _ (fun _ _ _ => ?_) _ ?_ | with_reducible refine foldl_fit _ _ (fun _ _ _ => ?_) _ ?_ | with_reducible refine ite_fit (fun _ => ?_) (fun _ => ?_) | with_reducible refine whenS_fit _ _ _ (fun _ _ => ?_) ?_ | with_reducible refine State.flushFrom_fit _ _ ?_ | split)

theorem State.logWrite_fit (m : Msg) (s : State) (hF : s.Fit) : (State.logWrite m s).2.Fit := by
  unfold State.logWrite
  repeat' (first | with_reducible assumption | simp only [fit_mk, fit_eta] | with_reducible refine foldS_fit _ _ (fun _ _ _ => ?_) _ ?_ | with_reducible refine foldl_fit _ _ (fun _ _ _ => ?_) _ ?_ | with_reducible refine ite_fit (fun _ => ?_) (fun _ => ?_) | with_reducible refine whenS_fit _ _ _ (fun _ _ => ?_) ?_ | with_reducible refine State.mirrorAll_fit _ ?_ | split)

theorem State.pmcAdd_fit (j n : Nat) (s : State) (hF : s.Fit) : (State.pmcAdd j n s).Fit := 
  fit_of_hide (State.pmcAdd_frame 35184372086767 (by decide) _ _ _).symm hF

theorem State.pmcEvent_fit (ev : Nat) (ring : Option Nat) (n : Nat) (s : State) (hF : s.Fit) : (State.pmcEvent ev ring n s).Fit := 
  fit_of_hide (State.pmcEvent_frame 35184372086767 (by decide) _ _ _ _).symm hF

theorem State.putComp_fit (c : Comp) (s : State) (hF : s.Fit) : (State.putComp c s).Fit := by
  unfold State.putComp
  repeat' (first | with_reducible assumption | simp only [fit_mk, fit_eta] | with_reducible refine foldS_fit _ _ (fun _ _ _ => ?_) _ ?_ | with_reducible refine foldl_fit _ _ (fun _ _ _ => ?_) _ ?_ | with_reducible refine ite_fit (fun _ => ?_) (fun _ => ?_) | with_reducible refine whenS_fit _ _ _ (fun _ _ => ?_) ?_ | with_reducible refine State.pmcEvent_fit _ _ _ _ ?_ | with_reducible refine State.putEntry_fit _ _ _ _ _ _ ?_ | split)

theorem State.addComp_fit (c : Comp) (s : State) (hF : s.Fit) : (State.addComp c s).Fit := 
  fit_of_hide (State.addComp_frame 35184372086767 (by decide) _ _).symm hF

theorem State.clearUpset_fit (m : Mem) (s : State) (hF : s.Fit) : (State.clearUpset m s).Fit := 
  fit_of_hide (State.clearUpset_frame 35184372086767 (by decide) _ _).symm hF

theorem State.clearUpsets_fit (p : Mem → Bool) (s : State) (hF : s.Fit) : (State.clearUpsets p s).Fit := 
  fit_of_hide (State.clearUpsets_frame 35184372086767 (by decide) _ _).symm hF

theorem State.addUpsets_fit (l : List Upset) (s : State) (hF : s.Fit) : (State.addUpsets l s).Fit := 
  fit_of_hide (State.addUpsets_frame 35184372086767 (by decide) _ _).symm hF

theorem State.wordWritten_fit (m : Mem) (s : State) (hF : s.Fit) : (State.wordWritten m s).Fit := 
  fit_of_hide (State.wordWritten_frame 35184372086767 (by decide) _ _).symm hF

theorem State.sramErr_fit (src addr : Nat) (double : Bool) (s : State) (hF : s.Fit) : (State.sramErr src addr double s).Fit := by
  unfold State.sramErr
  repeat' (first | with_reducible assumption | simp only [fit_mk, fit_eta] | with_reducible refine foldS_fit _ _ (fun _ _ _ => ?_) _ ?_ | with_reducible refine foldl_fit _ _ (fun _ _ _ => ?_) _ ?_ | with_reducible refine ite_fit (fun _ => ?_) (fun _ => ?_) | with_reducible refine whenS_fit _ _ _ (fun _ _ => ?_) ?_ | with_reducible refine State.raise_fit _ _ _ _ _ ?_ | split)

theorem State.setRes_fit (k : Nat) (r : Res) (s : State) (hF : s.Fit) : (State.setRes k r s).Fit := 
  fit_of_hide (State.setRes_frame 35184372086767 (by decide) _ _ _).symm hF

theorem State.claim_fit (owner k : Nat) (s : State) (hF : s.Fit) : (State.claim owner k s).Fit := 
  fit_of_hide (State.claim_frame 35184372086767 (by decide) _ _ _).symm hF

theorem State.resRead_fit (k : Nat) (s : State) (hF : s.Fit) : (State.resRead k s).Fit := by
  unfold State.resRead
  repeat' (first | with_reducible assumption | simp only [fit_mk, fit_eta] | with_reducible refine foldS_fit _ _ (fun _ _ _ => ?_) _ ?_ | with_reducible refine foldl_fit _ _ (fun _ _ _ => ?_) _ ?_ | with_reducible refine ite_fit (fun _ => ?_) (fun _ => ?_) | with_reducible refine whenS_fit _ _ _ (fun _ _ => ?_) ?_ | with_reducible refine State.clearUpset_fit _ _ ?_ | with_reducible refine State.setRes_fit _ _ _ ?_ | with_reducible refine State.sramErr_fit _ _ _ _ ?_ | split)

theorem State.unclaim_fit (owner k : Nat) (s : State) (hF : s.Fit) : (State.unclaim owner k s).Fit := by
  unfold State.unclaim
  repeat' (first | with_reducible assumption | simp only [fit_mk, fit_eta] | with_reducible refine foldS_fit _ _ (fun _ _ _ => ?_) _ ?_ | with_reducible refine foldl_fit _ _ (fun _ _ _ => ?_) _ ?_ | with_reducible refine ite_fit (fun _ => ?_) (fun _ => ?_) | with_reducible refine whenS_fit _ _ _ (fun _ _ => ?_) ?_ | with_reducible refine State.resRead_fit _ _ ?_ | with_reducible refine State.setRes_fit _ _ _ ?_ | split)

theorem State.claimAll_fit (owner : Nat) (ks : List Nat) (s : State) (hF : s.Fit) : (State.claimAll owner ks s).2.Fit := by
  unfold State.claimAll
  repeat' (first | with_reducible assumption | simp only [fit_mk, fit_eta] | with_reducible refine foldS_fit _ _ (fun _ _ _ => ?_) _ ?_ | with_reducible refine foldl_fit _ _ (fun _ _ _ => ?_) _ ?_ | with_reducible refine ite_fit (fun _ => ?_) (fun _ => ?_) | with_reducible refine whenS_fit _ _ _ (fun _ _ => ?_) ?_ | with_reducible refine State.claim_fit _ _ _ ?_ | with_reducible refine State.resRead_fit _ _ ?_ | split)

theorem State.hostClaim_fit (k : Nat) (s : State) (hF : s.Fit) : (State.hostClaim k s).2.2.Fit := by
  unfold State.hostClaim
  repeat' (first | with_reducible assumption | simp only [fit_mk, fit_eta] | with_reducible refine foldS_fit _ _ (fun _ _ _ => ?_) _ ?_ | with_reducible refine foldl_fit _ _ (fun _ _ _ => ?_) _ ?_ | with_reducible refine ite_fit (fun _ => ?_) (fun _ => ?_) | with_reducible refine whenS_fit _ _ _ (fun _ _ => ?_) ?_ | with_reducible refine State.resRead_fit _ _ ?_ | with_reducible refine State.setRes_fit _ _ _ ?_ | split)

theorem State.hostRelease_fit (k : Nat) (s : State) (hF : s.Fit) : (State.hostRelease k s).Fit := by
  unfold State.hostRelease
  repeat' (first | with_reducible assumption | simp only [fit_mk, fit_eta] | with_reducible refine foldS_fit _ _ (fun _ _ _ => ?_) _ ?_ | with_reducible refine foldl_fit _ _ (fun _ _ _ => ?_) _ ?_ | with_reducible refine ite_fit (fun _ => ?_) (fun _ => ?_) | with_reducible refine whenS_fit _ _ _ (fun _ _ => ?_) ?_ | with_reducible refine State.resRead_fit _ _ ?_ | with_reducible refine State.setRes_fit _ _ _ ?_ | split)

theorem State.setLock_fit (i : Nat) (l : Lock) (s : State) (hF : s.Fit) : (State.setLock i l s).Fit := 
  fit_of_hide (State.setLock_frame 35184372086767 (by decide) _ _ _).symm hF

theorem State.breakLock_fit (i cause : Nat) (s : State) (hF : s.Fit) : (State.breakLock i cause s).Fit := by
  unfold State.breakLock
  repeat' (first | with_reducible assumption | simp only [fit_mk, fit_eta] | with_reducible refine foldS_fit _ _ (fun _ _ _ => ?_) _ ?_ | with_reducible refine foldl_fit _ _ (fun _ _ _ => ?_) _ ?_ | with_reducible refine ite_fit (fun _ => ?_) (fun _ => ?_) | with_reducible refine whenS_fit _ _ _ (fun _ _ => ?_) ?_ | with_reducible refine State.raiseU_fit _ _ _ _ _ _ ?_ | with_reducible refine State.setLock_fit _ _ _ ?_ | split)

theorem State.lockRead_fit (i : Nat) (s : State) (hF : s.Fit) : (State.lockRead i s).Fit := by
  unfold State.lockRead
  repeat' (first | with_reducible assumption | simp only [fit_mk, fit_eta] | with_reducible refine foldS_fit _ _ (fun _ _ _ => ?_) _ ?_ | with_reducible refine foldl_fit _ _ (fun _ _ _ => ?_) _ ?_ | with_reducible refine ite_fit (fun _ => ?_) (fun _ => ?_) | with_reducible refine whenS_fit _ _ _ (fun _ _ => ?_) ?_ | with_reducible refine State.breakLock_fit _ _ _ ?_ | with_reducible refine State.clearUpset_fit _ _ ?_ | with_reducible refine State.sramErr_fit _ _ _ _ ?_ | split)

theorem State.lockClaim_fit (i me len : Nat) (s : State) (hF : s.Fit) : (State.lockClaim i me len s).2.2.Fit := by
  unfold State.lockClaim
  repeat' (first | with_reducible assumption | simp only [fit_mk, fit_eta] | with_reducible refine foldS_fit _ _ (fun _ _ _ => ?_) _ ?_ | with_reducible refine foldl_fit _ _ (fun _ _ _ => ?_) _ ?_ | with_reducible refine ite_fit (fun _ => ?_) (fun _ => ?_) | with_reducible refine whenS_fit _ _ _ (fun _ _ => ?_) ?_ | with_reducible refine State.lockRead_fit _ _ ?_ | with_reducible refine State.setLock_fit _ _ _ ?_ | split)

theorem State.lockRelease_fit (i me : Nat) (s : State) (hF : s.Fit) : (State.lockRelease i me s).Fit := by
  unfold State.lockRelease
  repeat' (first | with_reducible assumption | simp only [fit_mk, fit_eta] | with_reducible refine foldS_fit _ _ (fun _ _ _ => ?_) _ ?_ | with_reducible refine foldl_fit _ _ (fun _ _ _ => ?_) _ ?_ | with_reducible refine ite_fit (fun _ => ?_) (fun _ => ?_) | with_reducible refine whenS_fit _ _ _ (fun _ _ => ?_) ?_ | with_reducible refine State.lockRead_fit _ _ ?_ | with_reducible refine State.setLock_fit _ _ _ ?_ | split)

theorem State.breakOwners_fit (p : Nat → Bool) (s : State) (hF : s.Fit) : (State.breakOwners p s).Fit := by
  unfold State.breakOwners
  repeat' (first | with_reducible assumption | simp only [fit_mk, fit_eta] | with_reducible refine foldS_fit _ _ (fun _ _ _ => ?_) _ ?_ | with_reducible refine foldl_fit _ _ (fun _ _ _ => ?_) _ ?_ | with_reducible refine ite_fit (fun _ => ?_) (fun _ => ?_) | with_reducible refine whenS_fit _ _ _ (fun _ _ => ?_) ?_ | with_reducible refine State.breakLock_fit _ _ _ ?_ | split)

theorem State.setCapt_fit (k : Nat) (c : Capt) (s : State) (hF : s.Fit) : (State.setCapt k c s).Fit := 
  fit_of_hide (State.setCapt_frame 35184372086767 (by decide) _ _ _).symm hF

theorem State.captEdge_fit (k gpio : Nat) (rise : Bool) (s : State) (hF : s.Fit) : (State.captEdge k gpio rise s).Fit := 
  fit_of_hide (State.captEdge_frame 35184372086767 (by decide) _ _ _ _).symm hF

theorem State.captCfgWrite_fit (k : Nat) (v : Word) (s : State) (hF : s.Fit) : (State.captCfgWrite k v s).Fit := by
  unfold State.captCfgWrite
  repeat' (first | with_reducible assumption | simp only [fit_mk, fit_eta] | with_reducible refine foldS_fit _ _ (fun _ _ _ => ?_) _ ?_ | with_reducible refine foldl_fit _ _ (fun _ _ _ => ?_) _ ?_ | with_reducible refine ite_fit (fun _ => ?_) (fun _ => ?_) | with_reducible refine whenS_fit _ _ _ (fun _ _ => ?_) ?_ | with_reducible refine State.claimAll_fit _ _ _ ?_ | with_reducible refine State.regWrite_fit _ _ _ ?_ | with_reducible refine State.setCapt_fit _ _ _ ?_ | with_reducible refine State.unclaim_fit _ _ _ ?_ | split)

theorem State.altCfgWrite_fit (a : Nat) (v : Word) (s : State) (hF : s.Fit) : (State.altCfgWrite a v s).Fit := by
  unfold State.altCfgWrite
  repeat' (first | with_reducible assumption | simp only [fit_mk, fit_eta] | with_reducible refine foldS_fit _ _ (fun _ _ _ => ?_) _ ?_ | with_reducible refine foldl_fit _ _ (fun _ _ _ => ?_) _ ?_ | with_reducible refine ite_fit (fun _ => ?_) (fun _ => ?_) | with_reducible refine whenS_fit _ _ _ (fun _ _ => ?_) ?_ | with_reducible refine State.claimAll_fit _ _ _ ?_ | with_reducible refine State.regWrite_fit _ _ _ ?_ | with_reducible refine State.unclaim_fit _ _ _ ?_ | split)

theorem State.captRead_fit (k : Nat) (s : State) (hF : s.Fit) : (State.captRead k s).2.Fit := 
  fit_of_hide (State.captRead_frame 35184372086767 (by decide) _ _).symm hF

theorem State.leaseTest_fit (i : Nat) (s : State) (hF : s.Fit) : (State.leaseTest i s).Fit := by
  unfold State.leaseTest
  repeat' (first | with_reducible assumption | simp only [fit_mk, fit_eta] | with_reducible refine foldS_fit _ _ (fun _ _ _ => ?_) _ ?_ | with_reducible refine foldl_fit _ _ (fun _ _ _ => ?_) _ ?_ | with_reducible refine ite_fit (fun _ => ?_) (fun _ => ?_) | with_reducible refine whenS_fit _ _ _ (fun _ _ => ?_) ?_ | with_reducible refine State.breakLock_fit _ _ _ ?_ | with_reducible refine State.lockRead_fit _ _ ?_ | split)

theorem execLeaseExpiry_fit (i : Fin 256) (s : State) (hF : s.Fit) : (after1 (execLeaseExpiry i) s).Fit := by
  unfold after1 execLeaseExpiry
  repeat' (first | with_reducible assumption | simp only [fit_mk, fit_eta] | with_reducible refine foldS_fit _ _ (fun _ _ _ => ?_) _ ?_ | with_reducible refine foldl_fit _ _ (fun _ _ _ => ?_) _ ?_ | with_reducible refine ite_fit (fun _ => ?_) (fun _ => ?_) | with_reducible refine whenS_fit _ _ _ (fun _ _ => ?_) ?_ | with_reducible refine State.leaseTest_fit _ _ ?_ | split)

theorem execCaptureEdge_fit (gpio : Fin 16) (rise : Bool) (s : State) (hF : s.Fit) : (after1 (execCaptureEdge gpio rise) s).Fit := 
  fit_of_hide (execCaptureEdge_frame 35184372086767 (by decide) _ _ _).symm hF

theorem execCaptDataRead_fit (k : Fin 8) (s : State) (hF : s.Fit) : (after1 (execCaptDataRead k) s).Fit := 
  fit_of_hide (execCaptDataRead_frame 35184372086767 (by decide) _ _).symm hF

theorem State.setPort_fit (n : Nat) (p : Port) (s : State) (hF : s.Fit) : (State.setPort n p s).Fit := 
  fit_of_hide (State.setPort_frame 35184372086767 (by decide) _ _ _).symm hF

theorem State.modPort_fit (n : Nat) (f : Port → Port) (s : State) (hF : s.Fit) : (State.modPort n f s).Fit := 
  fit_of_hide (State.modPort_frame 35184372086767 (by decide) _ _ _).symm hF

theorem State.stpHold_fit (s : State) (hF : s.Fit) : (State.stpHold s).Fit := 
  fit_of_hide (State.stpHold_frame 35184372086767 (by decide) _).symm hF

theorem State.setRef_fit (k : Nat) (r : RefState) (s : State) (hF : s.Fit) : (State.setRef k r s).Fit := 
  fit_of_hide (State.setRef_frame 35184372086767 (by decide) _ _ _).symm hF

theorem State.refMeasure_fit (k : Nat) (m : RefMeas) (s : State) (hF : s.Fit) : (State.refMeasure k m s).Fit := 
  fit_of_hide (State.refMeasure_frame 35184372086767 (by decide) _ _ _).symm hF

theorem State.refLine_fit (n : Nat) (s : State) (hF : s.Fit) : (State.refLine n s).Fit := 
  fit_of_hide (State.refLine_frame 35184372086767 (by decide) _ _).symm hF

theorem State.requalify_fit (k : Nat) (s : State) (hF : s.Fit) : (State.requalify k s).Fit := by
  unfold State.requalify
  repeat' (first | with_reducible assumption | simp only [fit_mk, fit_eta] | with_reducible refine foldS_fit _ _ (fun _ _ _ => ?_) _ ?_ | with_reducible refine foldl_fit _ _ (fun _ _ _ => ?_) _ ?_ | with_reducible refine ite_fit (fun _ => ?_) (fun _ => ?_) | with_reducible refine whenS_fit _ _ _ (fun _ _ => ?_) ?_ | with_reducible refine State.raise_fit _ _ _ _ _ ?_ | with_reducible refine State.setRef_fit _ _ _ ?_ | split)

theorem State.disqualify_fit (k : Nat) (s : State) (hF : s.Fit) : (State.disqualify k s).Fit := by
  unfold State.disqualify
  repeat' (first | with_reducible assumption | simp only [fit_mk, fit_eta] | with_reducible refine foldS_fit _ _ (fun _ _ _ => ?_) _ ?_ | with_reducible refine foldl_fit _ _ (fun _ _ _ => ?_) _ ?_ | with_reducible refine ite_fit (fun _ => ?_) (fun _ => ?_) | with_reducible refine whenS_fit _ _ _ (fun _ _ => ?_) ?_ | with_reducible refine State.raise_fit _ _ _ _ _ ?_ | with_reducible refine State.setRef_fit _ _ _ ?_ | with_reducible refine State.takeFree_fit _ _ ?_ | split)

theorem State.refBoundary_fit (k : Nat) (s : State) (hF : s.Fit) : (State.refBoundary k s).Fit := by
  unfold State.refBoundary
  repeat' (first | with_reducible assumption | simp only [fit_mk, fit_eta] | with_reducible refine foldS_fit _ _ (fun _ _ _ => ?_) _ ?_ | with_reducible refine foldl_fit _ _ (fun _ _ _ => ?_) _ ?_ | with_reducible refine ite_fit (fun _ => ?_) (fun _ => ?_) | with_reducible refine whenS_fit _ _ _ (fun _ _ => ?_) ?_ | with_reducible refine State.disqualify_fit _ _ ?_ | with_reducible refine State.requalify_fit _ _ ?_ | with_reducible refine State.setRef_fit _ _ _ ?_ | split)

theorem State.selBoundary_fit (s : State) (hF : s.Fit) : (State.selBoundary s).Fit := by
  unfold State.selBoundary
  repeat' (first | with_reducible assumption | simp only [fit_mk, fit_eta] | with_reducible refine foldS_fit _ _ (fun _ _ _ => ?_) _ ?_ | with_reducible refine foldl_fit _ _ (fun _ _ _ => ?_) _ ?_ | with_reducible refine ite_fit (fun _ => ?_) (fun _ => ?_) | with_reducible refine whenS_fit _ _ _ (fun _ _ => ?_) ?_ | with_reducible refine State.raise_fit _ _ _ _ _ ?_ | split)

theorem State.enterFreerun_fit (s : State) (hF : s.Fit) : (State.enterFreerun s).Fit := by
  unfold State.enterFreerun
  repeat' (first | with_reducible assumption | simp only [fit_mk, fit_eta] | with_reducible refine foldS_fit _ _ (fun _ _ _ => ?_) _ ?_ | with_reducible refine foldl_fit _ _ (fun _ _ _ => ?_) _ ?_ | with_reducible refine ite_fit (fun _ => ?_) (fun _ => ?_) | with_reducible refine whenS_fit _ _ _ (fun _ _ => ?_) ?_ | with_reducible refine State.raise_fit _ _ _ _ _ ?_ | split)

theorem State.enterHoldover_fit (s : State) (hF : s.Fit) : (State.enterHoldover s).Fit := by
  unfold State.enterHoldover
  repeat' (first | with_reducible assumption | simp only [fit_mk, fit_eta] | with_reducible refine foldS_fit _ _ (fun _ _ _ => ?_) _ ?_ | with_reducible refine foldl_fit _ _ (fun _ _ _ => ?_) _ ?_ | with_reducible refine ite_fit (fun _ => ?_) (fun _ => ?_) | with_reducible refine whenS_fit _ _ _ (fun _ _ => ?_) ?_ | with_reducible refine State.raise_fit _ _ _ _ _ ?_ | split)

theorem State.enterAcquiring_fit (s : State) (hF : s.Fit) : (State.enterAcquiring s).Fit := 
  fit_of_hide (State.enterAcquiring_frame 35184372086767 (by decide) _).symm hF

theorem State.dpllBoundary_fit (phaseErr : Int) (s : State) (hF : s.Fit) : (State.dpllBoundary phaseErr s).Fit := by
  unfold State.dpllBoundary
  repeat' (first | with_reducible assumption | simp only [fit_mk, fit_eta] | with_reducible refine foldS_fit _ _ (fun _ _ _ => ?_) _ ?_ | with_reducible refine foldl_fit _ _ (fun _ _ _ => ?_) _ ?_ | with_reducible refine ite_fit (fun _ => ?_) (fun _ => ?_) | with_reducible refine whenS_fit _ _ _ (fun _ _ => ?_) ?_ | with_reducible refine State.enterAcquiring_fit _ ?_ | with_reducible refine State.enterFreerun_fit _ ?_ | with_reducible refine State.enterHoldover_fit _ ?_ | split)

theorem State.qlUpdate_fit (s : State) (hF : s.Fit) : (State.qlUpdate s).Fit := by
  unfold State.qlUpdate
  repeat' (first | with_reducible assumption | simp only [fit_mk, fit_eta] | with_reducible refine foldS_fit _ _ (fun _ _ _ => ?_) _ ?_ | with_reducible refine foldl_fit _ _ (fun _ _ _ => ?_) _ ?_ | with_reducible refine ite_fit (fun _ => ?_) (fun _ => ?_) | with_reducible refine whenS_fit _ _ _ (fun _ _ => ?_) ?_ | with_reducible refine State.raise_fit _ _ _ _ _ ?_ | split)

theorem State.setRefout_fit (m : Nat) (r : RefOut) (s : State) (hF : s.Fit) : (State.setRefout m r s).Fit := 
  fit_of_hide (State.setRefout_frame 35184372086767 (by decide) _ _ _).symm hF

theorem State.refoutBoundary_fit (m : Nat) (s : State) (hF : s.Fit) : (State.refoutBoundary m s).Fit := 
  fit_of_hide (State.refoutBoundary_frame 35184372086767 (by decide) _ _).symm hF

theorem State.refoutWrite_fit (m : Nat) (v : Word) (s : State) (hF : s.Fit) : (State.refoutWrite m v s).Fit := by
  unfold State.refoutWrite
  repeat' (first | with_reducible assumption | simp only [fit_mk, fit_eta] | with_reducible refine foldS_fit _ _ (fun _ _ _ => ?_) _ ?_ | with_reducible refine foldl_fit _ _ (fun _ _ _ => ?_) _ ?_ | with_reducible refine ite_fit (fun _ => ?_) (fun _ => ?_) | with_reducible refine whenS_fit _ _ _ (fun _ _ => ?_) ?_ | with_reducible refine State.claimAll_fit _ _ _ ?_ | with_reducible refine State.regWrite_fit _ _ _ ?_ | with_reducible refine State.setRefout_fit _ _ _ ?_ | with_reducible refine State.unclaim_fit _ _ _ ?_ | split)

theorem State.setTimer_fit (n : Nat) (t : Timer) (s : State) (hF : s.Fit) : (State.setTimer n t s).Fit := 
  fit_of_hide (State.setTimer_frame 35184372086767 (by decide) _ _ _).symm hF

theorem State.tmrGpioClaim_fit (n : Nat) (s : State) (hF : s.Fit) : (State.tmrGpioClaim n s).Fit := by
  unfold State.tmrGpioClaim
  repeat' (first | with_reducible assumption | simp only [fit_mk, fit_eta] | with_reducible refine foldS_fit _ _ (fun _ _ _ => ?_) _ ?_ | with_reducible refine foldl_fit _ _ (fun _ _ _ => ?_) _ ?_ | with_reducible refine ite_fit (fun _ => ?_) (fun _ => ?_) | with_reducible refine whenS_fit _ _ _ (fun _ _ => ?_) ?_ | with_reducible refine State.claimAll_fit _ _ _ ?_ | with_reducible refine State.setTimer_fit _ _ _ ?_ | split)

theorem State.tmrGpioFree_fit (n : Nat) (s : State) (hF : s.Fit) : (State.tmrGpioFree n s).Fit := by
  unfold State.tmrGpioFree
  repeat' (first | with_reducible assumption | simp only [fit_mk, fit_eta] | with_reducible refine foldS_fit _ _ (fun _ _ _ => ?_) _ ?_ | with_reducible refine foldl_fit _ _ (fun _ _ _ => ?_) _ ?_ | with_reducible refine ite_fit (fun _ => ?_) (fun _ => ?_) | with_reducible refine whenS_fit _ _ _ (fun _ _ => ?_) ?_ | with_reducible refine State.setTimer_fit _ _ _ ?_ | with_reducible refine State.unclaim_fit _ _ _ ?_ | split)

theorem State.tmrWrite_fit (n : Nat) (v : Word) (s : State) (hF : s.Fit) : (State.tmrWrite n v s).Fit := by
  unfold State.tmrWrite
  repeat' (first | with_reducible assumption | simp only [fit_mk, fit_eta] | with_reducible refine foldS_fit _ _ (fun _ _ _ => ?_) _ ?_ | with_reducible refine foldl_fit _ _ (fun _ _ _ => ?_) _ ?_ | with_reducible refine ite_fit (fun _ => ?_) (fun _ => ?_) | with_reducible refine whenS_fit _ _ _ (fun _ _ => ?_) ?_ | with_reducible refine State.claimAll_fit _ _ _ ?_ | with_reducible refine State.regWrite_fit _ _ _ ?_ | with_reducible refine State.setTimer_fit _ _ _ ?_ | with_reducible refine State.tmrGpioClaim_fit _ _ ?_ | with_reducible refine State.tmrGpioFree_fit _ _ ?_ | with_reducible refine State.unclaim_fit _ _ _ ?_ | split)

theorem State.tmrArm_fit (n : Nat) (s : State) (hF : s.Fit) : (State.tmrArm n s).Fit := 
  fit_of_hide (State.tmrArm_frame 35184372086767 (by decide) _ _).symm hF

theorem State.tmrDisarm_fit (n : Nat) (s : State) (hF : s.Fit) : (State.tmrDisarm n s).Fit := 
  fit_of_hide (State.tmrDisarm_frame 35184372086767 (by decide) _ _).symm hF

theorem State.tmrFire_fit (n : Nat) (s : State) (hF : s.Fit) : (State.tmrFire n s).Fit := by
  unfold State.tmrFire
  repeat' (first | with_reducible assumption | simp only [fit_mk, fit_eta] | with_reducible refine foldS_fit _ _ (fun _ _ _ => ?_) _ ?_ | with_reducible refine foldl_fit _ _ (fun _ _ _ => ?_) _ ?_ | with_reducible refine ite_fit (fun _ => ?_) (fun _ => ?_) | with_reducible refine whenS_fit _ _ _ (fun _ _ => ?_) ?_ | with_reducible refine State.raise_fit _ _ _ _ _ ?_ | with_reducible refine State.setTimer_fit _ _ _ ?_ | split)

theorem State.subTicksPass_fit (n : Nat) (s : State) (hF : s.Fit) : (State.subTicksPass n s).Fit := 
  fit_of_hide (State.subTicksPass_frame 35184372086767 (by decide) _ _).symm hF

theorem execSnapLatch_fit (s : State) (hF : s.Fit) : (after1 (execSnapLatch ) s).Fit := 
  fit_of_hide (execSnapLatch_frame 35184372086767 (by decide) _).symm hF

theorem State.epochWrite_fit (v : Word) (s : State) (hF : s.Fit) : (State.epochWrite v s).Fit := 
  fit_of_hide (State.epochWrite_frame 35184372086767 (by decide) _ _).symm hF

theorem execEpochWrite_fit (v : Word) (s : State) (hF : s.Fit) : (after1 (execEpochWrite v) s).Fit := 
  fit_of_hide (execEpochWrite_frame 35184372086767 (by decide) _ _).symm hF

theorem State.originWrite_fit (v : Word) (s : State) (hF : s.Fit) : (State.originWrite v s).Fit := 
  fit_of_hide (State.originWrite_frame 35184372086767 (by decide) _ _).symm hF

theorem execSecondOriginWrite_fit (v : Word) (s : State) (hF : s.Fit) : (after1 (execSecondOriginWrite v) s).Fit := 
  fit_of_hide (execSecondOriginWrite_frame 35184372086767 (by decide) _ _).symm hF

theorem execTimerEnable_fit (n : Fin 16) (v : Word) (s : State) (hF : s.Fit) : (after1 (execTimerEnable n v) s).Fit := by
  unfold after1 execTimerEnable
  repeat' (first | with_reducible assumption | simp only [fit_mk, fit_eta] | with_reducible refine foldS_fit _ _ (fun _ _ _ => ?_) _ ?_ | with_reducible refine foldl_fit _ _ (fun _ _ _ => ?_) _ ?_ | with_reducible refine ite_fit (fun _ => ?_) (fun _ => ?_) | with_reducible refine whenS_fit _ _ _ (fun _ _ => ?_) ?_ | with_reducible refine State.tmrWrite_fit _ _ _ ?_ | split)

theorem execTimerArm_fit (n : Fin 16) (s : State) (hF : s.Fit) : (after1 (execTimerArm n) s).Fit := 
  fit_of_hide (execTimerArm_frame 35184372086767 (by decide) _ _).symm hF

theorem execTimerDisarm_fit (n : Fin 16) (s : State) (hF : s.Fit) : (after1 (execTimerDisarm n) s).Fit := 
  fit_of_hide (execTimerDisarm_frame 35184372086767 (by decide) _ _).symm hF

theorem execTmrFire_fit (n : Fin 16) (s : State) (hF : s.Fit) : (after1 (execTmrFire n) s).Fit := by
  unfold after1 execTmrFire
  repeat' (first | with_reducible assumption | simp only [fit_mk, fit_eta] | with_reducible refine foldS_fit _ _ (fun _ _ _ => ?_) _ ?_ | with_reducible refine foldl_fit _ _ (fun _ _ _ => ?_) _ ?_ | with_reducible refine ite_fit (fun _ => ?_) (fun _ => ?_) | with_reducible refine whenS_fit _ _ _ (fun _ _ => ?_) ?_ | with_reducible refine State.tmrFire_fit _ _ ?_ | split)

theorem execRefoutEnable_fit (m : Fin 2) (v : Word) (s : State) (hF : s.Fit) : (after1 (execRefoutEnable m v) s).Fit := by
  unfold after1 execRefoutEnable
  repeat' (first | with_reducible assumption | simp only [fit_mk, fit_eta] | with_reducible refine foldS_fit _ _ (fun _ _ _ => ?_) _ ?_ | with_reducible refine foldl_fit _ _ (fun _ _ _ => ?_) _ ?_ | with_reducible refine ite_fit (fun _ => ?_) (fun _ => ?_) | with_reducible refine whenS_fit _ _ _ (fun _ _ => ?_) ?_ | with_reducible refine State.refoutWrite_fit _ _ _ ?_ | split)

theorem execRefDisq_fit (k : Fin 8) (m : RefMeas) (s : State) (hF : s.Fit) : (after1 (execRefDisq k m) s).Fit := 
  fit_of_hide (execRefDisq_frame 35184372086767 (by decide) _ _ _).symm hF

theorem execRefQual_fit (k : Fin 8) (m : RefMeas) (s : State) (hF : s.Fit) : (after1 (execRefQual k m) s).Fit := by
  unfold after1 execRefQual
  repeat' (first | with_reducible assumption | simp only [fit_mk, fit_eta] | with_reducible refine foldS_fit _ _ (fun _ _ _ => ?_) _ ?_ | with_reducible refine foldl_fit _ _ (fun _ _ _ => ?_) _ ?_ | with_reducible refine ite_fit (fun _ => ?_) (fun _ => ?_) | with_reducible refine whenS_fit _ _ _ (fun _ _ => ?_) ?_ | with_reducible refine State.refMeasure_fit _ _ _ ?_ | with_reducible refine State.requalify_fit _ _ ?_ | with_reducible refine State.setRef_fit _ _ _ ?_ | split)

theorem execDpllLock_fit (s : State) (hF : s.Fit) : (after1 (execDpllLock ) s).Fit := by
  unfold after1 execDpllLock
  repeat' (first | with_reducible assumption | simp only [fit_mk, fit_eta] | with_reducible refine foldS_fit _ _ (fun _ _ _ => ?_) _ ?_ | with_reducible refine foldl_fit _ _ (fun _ _ _ => ?_) _ ?_ | with_reducible refine ite_fit (fun _ => ?_) (fun _ => ?_) | with_reducible refine whenS_fit _ _ _ (fun _ _ => ?_) ?_ | with_reducible refine State.raise_fit _ _ _ _ _ ?_ | split)

theorem execHoldReady_fit (s : State) (hF : s.Fit) : (after1 (execHoldReady ) s).Fit := by
  unfold after1 execHoldReady
  repeat' (first | with_reducible assumption | simp only [fit_mk, fit_eta] | with_reducible refine foldS_fit _ _ (fun _ _ _ => ?_) _ ?_ | with_reducible refine foldl_fit _ _ (fun _ _ _ => ?_) _ ?_ | with_reducible refine ite_fit (fun _ => ?_) (fun _ => ?_) | with_reducible refine whenS_fit _ _ _ (fun _ _ => ?_) ?_ | with_reducible refine State.enterHoldover_fit _ ?_ | with_reducible refine State.qlUpdate_fit _ ?_ | with_reducible refine State.refoutBoundary_fit _ _ ?_ | split)

theorem execOscFail_fit (s : State) (hF : s.Fit) : (after1 (execOscFail ) s).Fit := by
  unfold after1 execOscFail
  repeat' (first | with_reducible assumption | simp only [fit_mk, fit_eta] | with_reducible refine foldS_fit _ _ (fun _ _ _ => ?_) _ ?_ | with_reducible refine foldl_fit _ _ (fun _ _ _ => ?_) _ ?_ | with_reducible refine ite_fit (fun _ => ?_) (fun _ => ?_) | with_reducible refine whenS_fit _ _ _ (fun _ _ => ?_) ?_ | with_reducible refine State.raise_fit _ _ _ _ _ ?_ | split)

theorem State.dpllCfgWrite_fit (v : Word) (s : State) (hF : s.Fit) : (State.dpllCfgWrite v s).Fit := 
  fit_of_hide (State.dpllCfgWrite_frame 35184372086767 (by decide) _ _).symm hF

theorem execOscSelect_fit (s : State) (hF : s.Fit) : (after1 (execOscSelect ) s).Fit := 
  fit_of_hide (execOscSelect_frame 35184372086767 (by decide) _).symm hF

end Sys2Proof.Machine
end

