-- ==== Sys2Proof/Laws/FitLine.lean ====
section
/-! SUPPORT. `State.Fit` through line ports, paths, tributaries, highways and the truss. -/

namespace Sys2Proof.Machine

set_option linter.unusedSimpArgs false
set_option linter.unreachableTactic false
set_option linter.unusedTactic false
set_option linter.unusedVariables false

theorem State.seeBits_fit (scope idx bits : Nat) (s : State) (hF : s.Fit) : (State.seeBits scope idx bits s).Fit := 
  fit_of_hide (State.seeBits_frame 35184372086767 (by decide) _ _ _ _).symm hF

theorem State.seeDef_fit (scope idx bit : Nat) (s : State) (hF : s.Fit) : (State.seeDef scope idx bit s).Fit := 
  fit_of_hide (State.seeDef_frame 35184372086767 (by decide) _ _ _ _).symm hF

theorem State.setGroup_fit (kind g : Nat) (x : Group) (s : State) (hF : s.Fit) : (State.setGroup kind g x s).Fit := 
  fit_of_hide (State.setGroup_frame 35184372086767 (by decide) _ _ _ _).symm hF

theorem State.xcCheck_fit (s : State) (hF : s.Fit) : (State.xcCheck s).Fit := by
  unfold State.xcCheck
  repeat' (first | with_reducible assumption | simp only [fit_mk, fit_eta] | with_reducible refine foldS_fit _ _ (fun _ _ _ => ?_) _ ?_ | with_reducible refine foldl_fit _ _ (fun _ _ _ => ?_) _ ?_ | with_reducible refine ite_fit (fun _ => ?_) (fun _ => ?_) | with_reducible refine whenS_fit _ _ _ (fun _ _ => ?_) ?_ | with_reducible refine State.raise_fit _ _ _ _ _ ?_ | split)

theorem State.setPath_fit (k : Nat) (p : HoPath) (s : State) (hF : s.Fit) : (State.setPath k p s).Fit := 
  fit_of_hide (State.setPath_frame 35184372086767 (by decide) _ _ _).symm hF

theorem State.setHoSrc_fit (k : Nat) (p : HoSrc) (s : State) (hF : s.Fit) : (State.setHoSrc k p s).Fit := 
  fit_of_hide (State.setHoSrc_frame 35184372086767 (by decide) _ _ _).symm hF

theorem State.setFlow_fit (k : Nat) (f : Flow) (s : State) (hF : s.Fit) : (State.setFlow k f s).Fit := 
  fit_of_hide (State.setFlow_frame 35184372086767 (by decide) _ _ _).symm hF

theorem State.setTrace_fit (kind i : Nat) (t : Trace) (s : State) (hF : s.Fit) : (State.setTrace kind i t s).Fit := 
  fit_of_hide (State.setTrace_frame 35184372086767 (by decide) _ _ _ _).symm hF

theorem State.setPathDef_fit (k b : Nat) (kind : Kind) (on : Bool) (s : State) (hF : s.Fit) : (State.setPathDef k b kind on s).Fit := by
  unfold State.setPathDef
  repeat' (first | with_reducible assumption | simp only [fit_mk, fit_eta] | with_reducible refine foldS_fit _ _ (fun _ _ _ => ?_) _ ?_ | with_reducible refine foldl_fit _ _ (fun _ _ _ => ?_) _ ?_ | with_reducible refine ite_fit (fun _ => ?_) (fun _ => ?_) | with_reducible refine whenS_fit _ _ _ (fun _ _ => ?_) ?_ | with_reducible refine State.raiseU_fit _ _ _ _ _ _ ?_ | with_reducible refine State.seeDef_fit _ _ _ _ ?_ | with_reducible refine State.setPath_fit _ _ _ ?_ | split)

theorem State.setLo_fit (t : Nat) (p : LoPath) (s : State) (hF : s.Fit) : (State.setLo t p s).Fit := 
  fit_of_hide (State.setLo_frame 35184372086767 (by decide) _ _ _).symm hF

theorem State.setLoDef_fit (t b : Nat) (kind : Kind) (on : Bool) (s : State) (hF : s.Fit) : (State.setLoDef t b kind on s).Fit := by
  unfold State.setLoDef
  repeat' (first | with_reducible assumption | simp only [fit_mk, fit_eta] | with_reducible refine foldS_fit _ _ (fun _ _ _ => ?_) _ ?_ | with_reducible refine foldl_fit _ _ (fun _ _ _ => ?_) _ ?_ | with_reducible refine ite_fit (fun _ => ?_) (fun _ => ?_) | with_reducible refine whenS_fit _ _ _ (fun _ _ => ?_) ?_ | with_reducible refine State.raiseU_fit _ _ _ _ _ _ ?_ | with_reducible refine State.seeDef_fit _ _ _ _ ?_ | with_reducible refine State.setLo_fit _ _ _ ?_ | split)

theorem State.setDef_fit (n b : Nat) (kind : Kind) (on : Bool) (s : State) (hF : s.Fit) : (State.setDef n b kind on s).Fit := by
  unfold State.setDef
  repeat' (first | with_reducible assumption | simp only [fit_mk, fit_eta] | with_reducible refine foldS_fit _ _ (fun _ _ _ => ?_) _ ?_ | with_reducible refine foldl_fit _ _ (fun _ _ _ => ?_) _ ?_ | with_reducible refine ite_fit (fun _ => ?_) (fun _ => ?_) | with_reducible refine whenS_fit _ _ _ (fun _ _ => ?_) ?_ | with_reducible refine State.raiseU_fit _ _ _ _ _ _ ?_ | with_reducible refine State.seeDef_fit _ _ _ _ ?_ | with_reducible refine State.setPort_fit _ _ _ ?_ | split)

theorem State.setTim_fit (kind i : Nat) (on : Bool) (s : State) (hF : s.Fit) : (State.setTim kind i on s).Fit := by
  unfold State.setTim
  repeat' (first | with_reducible assumption | simp only [fit_mk, fit_eta] | with_reducible refine foldS_fit _ _ (fun _ _ _ => ?_) _ ?_ | with_reducible refine foldl_fit _ _ (fun _ _ _ => ?_) _ ?_ | with_reducible refine ite_fit (fun _ => ?_) (fun _ => ?_) | with_reducible refine whenS_fit _ _ _ (fun _ _ => ?_) ?_ | with_reducible refine State.setDef_fit _ _ _ _ _ ?_ | with_reducible refine State.setLoDef_fit _ _ _ _ _ ?_ | with_reducible refine State.setPathDef_fit _ _ _ _ _ ?_ | with_reducible refine State.setTrace_fit _ _ _ _ ?_ | split)

theorem State.timUpdate_fit (kind i : Nat) (s : State) (hF : s.Fit) : (State.timUpdate kind i s).Fit := by
  unfold State.timUpdate
  repeat' (first | with_reducible assumption | simp only [fit_mk, fit_eta] | with_reducible refine foldS_fit _ _ (fun _ _ _ => ?_) _ ?_ | with_reducible refine foldl_fit _ _ (fun _ _ _ => ?_) _ ?_ | with_reducible refine ite_fit (fun _ => ?_) (fun _ => ?_) | with_reducible refine whenS_fit _ _ _ (fun _ _ => ?_) ?_ | with_reducible refine State.setTim_fit _ _ _ _ ?_ | split)

theorem State.traceLost_fit (kind i : Nat) (s : State) (hF : s.Fit) : (State.traceLost kind i s).Fit := by
  unfold State.traceLost
  repeat' (first | with_reducible assumption | simp only [fit_mk, fit_eta] | with_reducible refine foldS_fit _ _ (fun _ _ _ => ?_) _ ?_ | with_reducible refine foldl_fit _ _ (fun _ _ _ => ?_) _ ?_ | with_reducible refine ite_fit (fun _ => ?_) (fun _ => ?_) | with_reducible refine whenS_fit _ _ _ (fun _ _ => ?_) ?_ | with_reducible refine State.setTim_fit _ _ _ _ ?_ | with_reducible refine State.setTrace_fit _ _ _ _ ?_ | split)

theorem State.traceByte_fit (kind i : Nat) (b : Byte) (s : State) (hF : s.Fit) : (State.traceByte kind i b s).Fit := by
  unfold State.traceByte
  repeat' (first | with_reducible assumption | simp only [fit_mk, fit_eta] | with_reducible refine foldS_fit _ _ (fun _ _ _ => ?_) _ ?_ | with_reducible refine foldl_fit _ _ (fun _ _ _ => ?_) _ ?_ | with_reducible refine ite_fit (fun _ => ?_) (fun _ => ?_) | with_reducible refine whenS_fit _ _ _ (fun _ _ => ?_) ?_ | with_reducible refine State.setTrace_fit _ _ _ _ ?_ | with_reducible refine State.timUpdate_fit _ _ _ ?_ | with_reducible refine State.traceLost_fit _ _ _ ?_ | split)

theorem State.traceGap_fit (kind i : Nat) (s : State) (hF : s.Fit) : (State.traceGap kind i s).Fit := 
  fit_of_hide (State.traceGap_frame 35184372086767 (by decide) _ _ _).symm hF

theorem State.traceSend_fit (kind i : Nat) (s : State) (hF : s.Fit) : (State.traceSend kind i s).2.Fit := 
  fit_of_hide (State.traceSend_frame 35184372086767 (by decide) _ _ _).symm hF

theorem State.traceAccept_fit (kind i : Nat) (s : State) (hF : s.Fit) : (State.traceAccept kind i s).Fit := by
  unfold State.traceAccept
  repeat' (first | with_reducible assumption | simp only [fit_mk, fit_eta] | with_reducible refine foldS_fit _ _ (fun _ _ _ => ?_) _ ?_ | with_reducible refine foldl_fit _ _ (fun _ _ _ => ?_) _ ?_ | with_reducible refine ite_fit (fun _ => ?_) (fun _ => ?_) | with_reducible refine whenS_fit _ _ _ (fun _ _ => ?_) ?_ | with_reducible refine State.raiseU_fit _ _ _ _ _ _ ?_ | with_reducible refine State.setTrace_fit _ _ _ _ ?_ | with_reducible refine State.timUpdate_fit _ _ _ ?_ | split)

theorem State.pathOverhead_fit (k w : Nat) (r : RxPath) (s : State) (hF : s.Fit) : (State.pathOverhead k w r s).Fit := by
  unfold State.pathOverhead
  repeat' (first | with_reducible assumption | simp only [fit_mk, fit_eta] | with_reducible refine foldS_fit _ _ (fun _ _ _ => ?_) _ ?_ | with_reducible refine foldl_fit _ _ (fun _ _ _ => ?_) _ ?_ | with_reducible refine ite_fit (fun _ => ?_) (fun _ => ?_) | with_reducible refine whenS_fit _ _ _ (fun _ _ => ?_) ?_ | with_reducible refine State.setPathDef_fit _ _ _ _ _ ?_ | with_reducible refine State.setPath_fit _ _ _ ?_ | split)

theorem State.pathServer_fit (k : Nat) (ais lop : Bool) (s : State) (hF : s.Fit) : (State.pathServer k ais lop s).Fit := by
  unfold State.pathServer
  repeat' (first | with_reducible assumption | simp only [fit_mk, fit_eta] | with_reducible refine foldS_fit _ _ (fun _ _ _ => ?_) _ ?_ | with_reducible refine foldl_fit _ _ (fun _ _ _ => ?_) _ ?_ | with_reducible refine ite_fit (fun _ => ?_) (fun _ => ?_) | with_reducible refine whenS_fit _ _ _ (fun _ _ => ?_) ?_ | with_reducible refine State.setPathDef_fit _ _ _ _ _ ?_ | with_reducible refine State.setPath_fit _ _ _ ?_ | split)

theorem State.sinkTim_fit (d : Nat) (s : State) (hF : s.Fit) : (State.sinkTim d s).Fit := by
  unfold State.sinkTim
  repeat' (first | with_reducible assumption | simp only [fit_mk, fit_eta] | with_reducible refine foldS_fit _ _ (fun _ _ _ => ?_) _ ?_ | with_reducible refine foldl_fit _ _ (fun _ _ _ => ?_) _ ?_ | with_reducible refine ite_fit (fun _ => ?_) (fun _ => ?_) | with_reducible refine whenS_fit _ _ _ (fun _ _ => ?_) ?_ | with_reducible refine State.setPathDef_fit _ _ _ _ _ ?_ | split)

theorem State.seeLom_fit (k : Nat) (s : State) (hF : s.Fit) : (State.seeLom k s).Fit := 
  fit_of_hide (State.seeLom_frame 35184372086767 (by decide) _ _).symm hF

theorem State.h4Frame_fit (k b : Nat) (s : State) (hF : s.Fit) : (State.h4Frame k b s).Fit := by
  unfold State.h4Frame
  repeat' (first | with_reducible assumption | simp only [fit_mk, fit_eta] | with_reducible refine foldS_fit _ _ (fun _ _ _ => ?_) _ ?_ | with_reducible refine foldl_fit _ _ (fun _ _ _ => ?_) _ ?_ | with_reducible refine ite_fit (fun _ => ?_) (fun _ => ?_) | with_reducible refine whenS_fit _ _ _ (fun _ _ => ?_) ?_ | with_reducible refine State.raiseU_fit _ _ _ _ _ _ ?_ | with_reducible refine State.seeLom_fit _ _ ?_ | split)

theorem State.setTu_fit (k : Nat) (x : TuRx) (s : State) (hF : s.Fit) : (State.setTu k x s).Fit := 
  fit_of_hide (State.setTu_frame 35184372086767 (by decide) _ _ _).symm hF

theorem State.loServerUpdate_fit (t : Nat) (ho : Bool) (s : State) (hF : s.Fit) : (State.loServerUpdate t ho s).Fit := by
  unfold State.loServerUpdate
  repeat' (first | with_reducible assumption | simp only [fit_mk, fit_eta] | with_reducible refine foldS_fit _ _ (fun _ _ _ => ?_) _ ?_ | with_reducible refine foldl_fit _ _ (fun _ _ _ => ?_) _ ?_ | with_reducible refine ite_fit (fun _ => ?_) (fun _ => ?_) | with_reducible refine whenS_fit _ _ _ (fun _ _ => ?_) ?_ | with_reducible refine State.setLoDef_fit _ _ _ _ _ ?_ | with_reducible refine State.setLo_fit _ _ _ ?_ | split)

theorem State.loOverhead_fit (t label : Nat) (t1 : Bool) (r : RxTu) (s : State) (hF : s.Fit) : (State.loOverhead t label t1 r s).Fit := by
  unfold State.loOverhead
  repeat' (first | with_reducible assumption | simp only [fit_mk, fit_eta] | with_reducible refine foldS_fit _ _ (fun _ _ _ => ?_) _ ?_ | with_reducible refine foldl_fit _ _ (fun _ _ _ => ?_) _ ?_ | with_reducible refine ite_fit (fun _ => ?_) (fun _ => ?_) | with_reducible refine whenS_fit _ _ _ (fun _ _ => ?_) ?_ | with_reducible refine State.loServerUpdate_fit _ _ _ ?_ | with_reducible refine State.setLoDef_fit _ _ _ _ _ ?_ | with_reducible refine State.setLo_fit _ _ _ ?_ | split)

theorem State.structWrite_fit (n w : Nat) (v : Word) (s : State) (hF : s.Fit) : (State.structWrite n w v s).Fit := 
  fit_of_hide (State.structWrite_frame 35184372086767 (by decide) _ _ _ _).symm hF

theorem execHopStructWrite_fit (n : Fin 32) (w : Fin 4) (v : Word) (s : State) (hF : s.Fit) : (after1 (execHopStructWrite n w v) s).Fit := 
  fit_of_hide (execHopStructWrite_frame 35184372086767 (by decide) _ _ _ _).symm hF

theorem State.pathEnd_fit (k : Nat) (s : State) (hF : s.Fit) : (State.pathEnd k s).Fit := by
  unfold State.pathEnd
  repeat' (first | with_reducible assumption | simp only [fit_mk, fit_eta] | with_reducible refine foldS_fit _ _ (fun _ _ _ => ?_) _ ?_ | with_reducible refine foldl_fit _ _ (fun _ _ _ => ?_) _ ?_ | with_reducible refine ite_fit (fun _ => ?_) (fun _ => ?_) | with_reducible refine whenS_fit _ _ _ (fun _ _ => ?_) ?_ | with_reducible refine State.setPathDef_fit _ _ _ _ _ ?_ | with_reducible refine State.setPath_fit _ _ _ ?_ | split)

theorem State.pathRestart_fit (x : Nat) (was now : Bool) (s : State) (hF : s.Fit) : (State.pathRestart x was now s).Fit := by
  unfold State.pathRestart
  repeat' (first | with_reducible assumption | simp only [fit_mk, fit_eta] | with_reducible refine foldS_fit _ _ (fun _ _ _ => ?_) _ ?_ | with_reducible refine foldl_fit _ _ (fun _ _ _ => ?_) _ ?_ | with_reducible refine ite_fit (fun _ => ?_) (fun _ => ?_) | with_reducible refine whenS_fit _ _ _ (fun _ _ => ?_) ?_ | with_reducible refine State.pathEnd_fit _ _ ?_ | with_reducible refine State.pathServer_fit _ _ _ _ ?_ | with_reducible refine State.setPath_fit _ _ _ ?_ | split)

theorem State.structBoundary_fit (s : State) (hF : s.Fit) : (State.structBoundary s).2.Fit := by
  unfold State.structBoundary
  repeat' (first | with_reducible assumption | simp only [fit_mk, fit_eta] | with_reducible refine foldS_fit _ _ (fun _ _ _ => ?_) _ ?_ | with_reducible refine foldl_fit _ _ (fun _ _ _ => ?_) _ ?_ | with_reducible refine ite_fit (fun _ => ?_) (fun _ => ?_) | with_reducible refine whenS_fit _ _ _ (fun _ _ => ?_) ?_ | with_reducible refine State.pathRestart_fit _ _ _ _ ?_ | with_reducible refine State.setFlow_fit _ _ _ ?_ | split)

theorem execTraceNew_fit (kind : Fin 3) (index : Nat) (s : State) (hF : s.Fit) : (after1 (execTraceNew kind index) s).Fit := by
  unfold after1 execTraceNew
  repeat' (first | with_reducible assumption | simp only [fit_mk, fit_eta] | with_reducible refine foldS_fit _ _ (fun _ _ _ => ?_) _ ?_ | with_reducible refine foldl_fit _ _ (fun _ _ _ => ?_) _ ?_ | with_reducible refine ite_fit (fun _ => ?_) (fun _ => ?_) | with_reducible refine whenS_fit _ _ _ (fun _ _ => ?_) ?_ | with_reducible refine State.traceAccept_fit _ _ _ ?_ | split)

theorem State.modFlow_fit (k : Nat) (g : Flow → Flow) (s : State) (hF : s.Fit) : (State.modFlow k g s).Fit := 
  fit_of_hide (State.modFlow_frame 35184372086767 (by decide) _ _ _).symm hF

theorem State.loQuarter_fit (t : Nat) (c : TribSet) (q : Nat) (l : List Byte) (s : State) (hF : s.Fit) : (State.loQuarter t c q l s).Fit := by
  unfold State.loQuarter
  repeat' (first | with_reducible assumption | simp only [fit_mk, fit_eta] | with_reducible refine foldS_fit _ _ (fun _ _ _ => ?_) _ ?_ | with_reducible refine foldl_fit _ _ (fun _ _ _ => ?_) _ ?_ | with_reducible refine ite_fit (fun _ => ?_) (fun _ => ?_) | with_reducible refine whenS_fit _ _ _ (fun _ _ => ?_) ?_ | with_reducible refine State.loOverhead_fit _ _ _ _ _ ?_ | with_reducible refine State.setTu_fit _ _ _ ?_ | with_reducible refine State.traceByte_fit _ _ _ _ ?_ | split)

theorem State.tuFrame_fit (p : TuPos) (t1 : Bool) (mf : Nat) (b : List Byte) (s : State) (hF : s.Fit) : (State.tuFrame p t1 mf b s).Fit := by
  unfold State.tuFrame
  repeat' (first | with_reducible assumption | simp only [fit_mk, fit_eta] | with_reducible refine foldS_fit _ _ (fun _ _ _ => ?_) _ ?_ | with_reducible refine foldl_fit _ _ (fun _ _ _ => ?_) _ ?_ | with_reducible refine ite_fit (fun _ => ?_) (fun _ => ?_) | with_reducible refine whenS_fit _ _ _ (fun _ _ => ?_) ?_ | with_reducible refine State.loQuarter_fit _ _ _ _ _ ?_ | with_reducible refine State.loServerUpdate_fit _ _ _ ?_ | with_reducible refine State.setTu_fit _ _ _ ?_ | with_reducible refine State.traceLost_fit _ _ _ ?_ | split)

theorem State.vcTerm_fit (d w h4 : Nat) (l : List Byte) (s : State) (hF : s.Fit) : (State.vcTerm d w h4 l s).Fit := by
  unfold State.vcTerm
  repeat' (first | with_reducible assumption | simp only [fit_mk, fit_eta] | with_reducible refine foldS_fit _ _ (fun _ _ _ => ?_) _ ?_ | with_reducible refine foldl_fit _ _ (fun _ _ _ => ?_) _ ?_ | with_reducible refine ite_fit (fun _ => ?_) (fun _ => ?_) | with_reducible refine whenS_fit _ _ _ (fun _ _ => ?_) ?_ | with_reducible refine State.h4Frame_fit _ _ _ ?_ | with_reducible refine State.tuFrame_fit _ _ _ _ _ ?_ | split)

theorem State.sinkVc_fit (d w : Nat) (l : List Byte) (s : State) (hF : s.Fit) : (State.sinkVc d w l s).Fit := by
  unfold State.sinkVc
  repeat' (first | with_reducible assumption | simp only [fit_mk, fit_eta] | with_reducible refine foldS_fit _ _ (fun _ _ _ => ?_) _ ?_ | with_reducible refine foldl_fit _ _ (fun _ _ _ => ?_) _ ?_ | with_reducible refine ite_fit (fun _ => ?_) (fun _ => ?_) | with_reducible refine whenS_fit _ _ _ (fun _ _ => ?_) ?_ | with_reducible refine State.pathOverhead_fit _ _ _ _ ?_ | with_reducible refine State.vcTerm_fit _ _ _ _ _ ?_ | split)

theorem State.sinkPull_fit (d w : Nat) (s : State) (hF : s.Fit) : (State.sinkPull d w s).Fit := by
  unfold State.sinkPull
  repeat' (first | with_reducible assumption | simp only [fit_mk, fit_eta] | with_reducible refine foldS_fit _ _ (fun _ _ _ => ?_) _ ?_ | with_reducible refine foldl_fit _ _ (fun _ _ _ => ?_) _ ?_ | with_reducible refine ite_fit (fun _ => ?_) (fun _ => ?_) | with_reducible refine whenS_fit _ _ _ (fun _ _ => ?_) ?_ | with_reducible refine State.pathServer_fit _ _ _ _ ?_ | with_reducible refine State.setPath_fit _ _ _ ?_ | with_reducible refine State.sinkTim_fit _ _ ?_ | with_reducible refine State.sinkVc_fit _ _ _ _ ?_ | split)

theorem State.sinkFrame_fit (d w : Nat) (s : State) (hF : s.Fit) : (State.sinkFrame d w s).Fit := by
  unfold State.sinkFrame
  repeat' (first | with_reducible assumption | simp only [fit_mk, fit_eta] | with_reducible refine foldS_fit _ _ (fun _ _ _ => ?_) _ ?_ | with_reducible refine foldl_fit _ _ (fun _ _ _ => ?_) _ ?_ | with_reducible refine ite_fit (fun _ => ?_) (fun _ => ?_) | with_reducible refine whenS_fit _ _ _ (fun _ _ => ?_) ?_ | with_reducible refine State.pathServer_fit _ _ _ _ ?_ | with_reducible refine State.setPath_fit _ _ _ ?_ | with_reducible refine State.sinkPull_fit _ _ _ ?_ | with_reducible refine State.sinkTim_fit _ _ ?_ | with_reducible refine State.sinkVc_fit _ _ _ _ ?_ | with_reducible refine State.vcTerm_fit _ _ _ _ _ ?_ | split)

theorem State.loSweep_fit (s : State) (hF : s.Fit) : (State.loSweep s).Fit := by
  unfold State.loSweep
  repeat' (first | with_reducible assumption | simp only [fit_mk, fit_eta] | with_reducible refine foldS_fit _ _ (fun _ _ _ => ?_) _ ?_ | with_reducible refine foldl_fit _ _ (fun _ _ _ => ?_) _ ?_ | with_reducible refine ite_fit (fun _ => ?_) (fun _ => ?_) | with_reducible refine whenS_fit _ _ _ (fun _ _ => ?_) ?_ | with_reducible refine State.loServerUpdate_fit _ _ _ ?_ | with_reducible refine State.traceLost_fit _ _ _ ?_ | split)

theorem State.loopFrame_fit (s : State) (hF : s.Fit) : (State.loopFrame s).Fit := 
  fit_of_hide (State.loopFrame_frame 35184372086767 (by decide) _).symm hF

theorem State.setDcc_fit (ch : Nat) (x : Dcc) (s : State) (hF : s.Fit) : (State.setDcc ch x s).Fit := 
  fit_of_hide (State.setDcc_frame 35184372086767 (by decide) _ _ _).symm hF

theorem State.modDcc_fit (ch : Nat) (f : Dcc → Dcc) (s : State) (hF : s.Fit) : (State.modDcc ch f s).Fit := 
  fit_of_hide (State.modDcc_frame 35184372086767 (by decide) _ _ _).symm hF

theorem State.oxWrite_fit (x : OxItem) (st : Nat) (s : State) (hF : s.Fit) : (State.oxWrite x st s).Fit := by
  unfold State.oxWrite
  repeat' (first | with_reducible assumption | simp only [fit_mk, fit_eta] | with_reducible refine foldS_fit _ _ (fun _ _ _ => ?_) _ ?_ | with_reducible refine foldl_fit _ _ (fun _ _ _ => ?_) _ ?_ | with_reducible refine ite_fit (fun _ => ?_) (fun _ => ?_) | with_reducible refine whenS_fit _ _ _ (fun _ _ => ?_) ?_ | with_reducible refine State.badDesc_fit _ _ _ _ ?_ | with_reducible refine State.dma_fit _ _ _ ?_ | with_reducible refine State.modDcc_fit _ _ _ ?_ | with_reducible refine State.raiseU_fit _ _ _ _ _ _ ?_ | with_reducible refine State.writeBack_fit _ _ _ _ _ _ ?_ | split)

theorem State.oxFlush_fit (fuel : Nat) (s : State) (hF : s.Fit) : (State.oxFlush fuel s).Fit := by
  induction fuel generalizing s with
  | zero => exact hF
  | succ n ih =>
    unfold State.oxFlush
    split
    · exact hF
    · split
      · exact hF
      · exact ih _ (State.oxWrite_fit _ _ _ hF)

theorem State.oxDone_fit (s : State) (hF : s.Fit) : (State.oxDone s).Fit := by
  exact State.oxFlush_fit _ _ hF

theorem State.oxPut_fit (x : OxItem) (s : State) (hF : s.Fit) : (State.oxPut x s).Fit := 
  fit_of_hide (State.oxPut_frame 35184372086767 (by decide) _ _).symm hF

theorem State.newId_fit (s : State) (hF : s.Fit) : (State.newId s).2.Fit := 
  fit_of_hide (State.newId_frame 35184372086767 (by decide) _).symm hF

theorem State.oxMod_fit (id : Nat) (f : OxItem → OxItem) (s : State) (hF : s.Fit) : (State.oxMod id f s).Fit := 
  fit_of_hide (State.oxMod_frame 35184372086767 (by decide) _ _ _).symm hF

theorem State.oxStream_fit (id : Nat) (info : List Byte) (s : State) (hF : s.Fit) : (State.oxStream id info s).Fit := by
  unfold State.oxStream
  repeat' (first | with_reducible assumption | simp only [fit_mk, fit_eta] | with_reducible refine foldS_fit _ _ (fun _ _ _ => ?_) _ ?_ | with_reducible refine foldl_fit _ _ (fun _ _ _ => ?_) _ ?_ | with_reducible refine ite_fit (fun _ => ?_) (fun _ => ?_) | with_reducible refine whenS_fit _ _ _ (fun _ _ => ?_) ?_ | with_reducible refine State.dma_fit _ _ _ ?_ | split)

theorem State.oxCancel_fit (p : OxItem → Bool) (s : State) (hF : s.Fit) : (State.oxCancel p s).Fit := by
  unfold State.oxCancel
  repeat' (first | with_reducible assumption | simp only [fit_mk, fit_eta] | with_reducible refine foldS_fit _ _ (fun _ _ _ => ?_) _ ?_ | with_reducible refine foldl_fit _ _ (fun _ _ _ => ?_) _ ?_ | with_reducible refine ite_fit (fun _ => ?_) (fun _ => ?_) | with_reducible refine whenS_fit _ _ _ (fun _ _ => ?_) ?_ | with_reducible refine State.oxDone_fit _ ?_ | split)

theorem State.oxStops_fit (s : State) (hF : s.Fit) : (State.oxStops s).Fit := 
  fit_of_hide (State.oxStops_frame 35184372086767 (by decide) _).symm hF

theorem State.dccBuf_fit (ch : Nat) (d : BufDesc) (s : State) (hF : s.Fit) : (State.dccBuf ch d s).2.Fit := by
  unfold State.dccBuf
  repeat' (first | with_reducible assumption | simp only [fit_mk, fit_eta] | with_reducible refine foldS_fit _ _ (fun _ _ _ => ?_) _ ?_ | with_reducible refine foldl_fit _ _ (fun _ _ _ => ?_) _ ?_ | with_reducible refine ite_fit (fun _ => ?_) (fun _ => ?_) | with_reducible refine whenS_fit _ _ _ (fun _ _ => ?_) ?_ | with_reducible refine State.newId_fit _ ?_ | with_reducible refine State.oxDone_fit _ ?_ | with_reducible refine State.oxPut_fit _ _ ?_ | with_reducible refine State.readOk_fit _ _ _ ?_ | split)

theorem State.oxArriving_fit (ch : Nat) (s : State) (hF : s.Fit) : (State.oxArriving ch s).Fit := by
  unfold State.oxArriving
  repeat' (first | with_reducible assumption | simp only [fit_mk, fit_eta] | with_reducible refine foldS_fit _ _ (fun _ _ _ => ?_) _ ?_ | with_reducible refine foldl_fit _ _ (fun _ _ _ => ?_) _ ?_ | with_reducible refine ite_fit (fun _ => ?_) (fun _ => ?_) | with_reducible refine whenS_fit _ _ _ (fun _ _ => ?_) ?_ | with_reducible refine State.oxStream_fit _ _ _ ?_ | split)

theorem State.dccTake_fit (ch : Nat) (l : List Byte) (s : State) (hF : s.Fit) : (State.dccTake ch l s).Fit := by
  unfold State.dccTake
  repeat' (first | with_reducible assumption | simp only [fit_mk, fit_eta] | with_reducible refine foldS_fit _ _ (fun _ _ _ => ?_) _ ?_ | with_reducible refine foldl_fit _ _ (fun _ _ _ => ?_) _ ?_ | with_reducible refine ite_fit (fun _ => ?_) (fun _ => ?_) | with_reducible refine whenS_fit _ _ _ (fun _ _ => ?_) ?_ | with_reducible refine State.oxArriving_fit _ _ ?_ | with_reducible refine State.oxStream_fit _ _ _ ?_ | with_reducible refine State.setDcc_fit _ _ _ ?_ | split)

theorem State.dccCut_fit (ch : Nat) (s : State) (hF : s.Fit) : (State.dccCut ch s).Fit := by
  unfold State.dccCut
  repeat' (first | with_reducible assumption | simp only [fit_mk, fit_eta] | with_reducible refine foldS_fit _ _ (fun _ _ _ => ?_) _ ?_ | with_reducible refine foldl_fit _ _ (fun _ _ _ => ?_) _ ?_ | with_reducible refine ite_fit (fun _ => ?_) (fun _ => ?_) | with_reducible refine whenS_fit _ _ _ (fun _ _ => ?_) ?_ | with_reducible refine State.modDcc_fit _ _ _ ?_ | with_reducible refine State.oxCancel_fit _ _ ?_ | split)

theorem State.dccBreak_fit (n : Nat) (s : State) (hF : s.Fit) : (State.dccBreak n s).Fit := by
  unfold State.dccBreak
  repeat' (first | with_reducible assumption | simp only [fit_mk, fit_eta] | with_reducible refine foldS_fit _ _ (fun _ _ _ => ?_) _ ?_ | with_reducible refine foldl_fit _ _ (fun _ _ _ => ?_) _ ?_ | with_reducible refine ite_fit (fun _ => ?_) (fun _ => ?_) | with_reducible refine whenS_fit _ _ _ (fun _ _ => ?_) ?_ | with_reducible refine State.dccCut_fit _ _ ?_ | split)

theorem State.rxParity_fit (n : Nat) (was : Bool) (raw d : List Byte) (s : State) (hF : s.Fit) : (State.rxParity n was raw d s).Fit := 
  fit_of_hide (State.rxParity_frame 35184372086767 (by decide) _ _ _ _ _).symm hF

theorem State.rxRei_fit (n : Nat) (now : Bool) (d : List Byte) (s : State) (hF : s.Fit) : (State.rxRei n now d s).Fit := 
  fit_of_hide (State.rxRei_frame 35184372086767 (by decide) _ _ _ _).symm hF

theorem State.rxBer_fit (n e2 : Nat) (s : State) (hF : s.Fit) : (State.rxBer n e2 s).Fit := by
  unfold State.rxBer
  repeat' (first | with_reducible assumption | simp only [fit_mk, fit_eta] | with_reducible refine foldS_fit _ _ (fun _ _ _ => ?_) _ ?_ | with_reducible refine foldl_fit _ _ (fun _ _ _ => ?_) _ ?_ | with_reducible refine ite_fit (fun _ => ?_) (fun _ => ?_) | with_reducible refine whenS_fit _ _ _ (fun _ _ => ?_) ?_ | with_reducible refine State.setDef_fit _ _ _ _ _ ?_ | with_reducible refine State.setPort_fit _ _ _ ?_ | split)

theorem State.rxKS_fit (n : Nat) (d : List Byte) (s : State) (hF : s.Fit) : (State.rxKS n d s).Fit := by
  unfold State.rxKS
  repeat' (first | with_reducible assumption | simp only [fit_mk, fit_eta] | with_reducible refine foldS_fit _ _ (fun _ _ _ => ?_) _ ?_ | with_reducible refine foldl_fit _ _ (fun _ _ _ => ?_) _ ?_ | with_reducible refine ite_fit (fun _ => ?_) (fun _ => ?_) | with_reducible refine whenS_fit _ _ _ (fun _ _ => ?_) ?_ | with_reducible refine State.modPort_fit _ _ _ ?_ | with_reducible refine State.raiseU_fit _ _ _ _ _ _ ?_ | with_reducible refine State.setDef_fit _ _ _ _ _ ?_ | with_reducible refine State.setPort_fit _ _ _ ?_ | with_reducible refine State.traceLost_fit _ _ _ ?_ | split)

theorem State.rxDcc_fit (n : Nat) (d : List Byte) (s : State) (hF : s.Fit) : (State.rxDcc n d s).Fit := by
  unfold State.rxDcc
  repeat' (first | with_reducible assumption | simp only [fit_mk, fit_eta] | with_reducible refine foldS_fit _ _ (fun _ _ _ => ?_) _ ?_ | with_reducible refine foldl_fit _ _ (fun _ _ _ => ?_) _ ?_ | with_reducible refine ite_fit (fun _ => ?_) (fun _ => ?_) | with_reducible refine whenS_fit _ _ _ (fun _ _ => ?_) ?_ | with_reducible refine State.dccBreak_fit _ _ ?_ | with_reducible refine State.dccTake_fit _ _ _ ?_ | split)

theorem State.rxPointer_fit (n : Nat) (d : List Byte) (t w : Nat) (s : State) (hF : s.Fit) : (State.rxPointer n d t w s).2.Fit := by
  unfold State.rxPointer
  repeat' (first | with_reducible assumption | simp only [fit_mk, fit_eta] | with_reducible refine foldS_fit _ _ (fun _ _ _ => ?_) _ ?_ | with_reducible refine foldl_fit _ _ (fun _ _ _ => ?_) _ ?_ | with_reducible refine ite_fit (fun _ => ?_) (fun _ => ?_) | with_reducible refine whenS_fit _ _ _ (fun _ _ => ?_) ?_ | with_reducible refine State.pathServer_fit _ _ _ _ ?_ | with_reducible refine State.setPath_fit _ _ _ ?_ | split)

theorem State.rxJ1_fit (n t : Nat) (b : Option Byte) (s : State) (hF : s.Fit) : (State.rxJ1 n t b s).Fit := by
  unfold State.rxJ1
  repeat' (first | with_reducible assumption | simp only [fit_mk, fit_eta] | with_reducible refine foldS_fit _ _ (fun _ _ _ => ?_) _ ?_ | with_reducible refine foldl_fit _ _ (fun _ _ _ => ?_) _ ?_ | with_reducible refine ite_fit (fun _ => ?_) (fun _ => ?_) | with_reducible refine whenS_fit _ _ _ (fun _ _ => ?_) ?_ | with_reducible refine State.traceByte_fit _ _ _ _ ?_ | with_reducible refine State.traceLost_fit _ _ _ ?_ | split)

theorem State.rxVc_fit (n t w : Nat) (l : List Byte) (s : State) (hF : s.Fit) : (State.rxVc n t w l s).Fit := by
  unfold State.rxVc
  repeat' (first | with_reducible assumption | simp only [fit_mk, fit_eta] | with_reducible refine foldS_fit _ _ (fun _ _ _ => ?_) _ ?_ | with_reducible refine foldl_fit _ _ (fun _ _ _ => ?_) _ ?_ | with_reducible refine ite_fit (fun _ => ?_) (fun _ => ?_) | with_reducible refine whenS_fit _ _ _ (fun _ _ => ?_) ?_ | with_reducible refine State.pathOverhead_fit _ _ _ _ ?_ | with_reducible refine State.rxJ1_fit _ _ _ _ ?_ | split)

theorem State.rxPath_fit (n : Nat) (d : List Byte) (t w : Nat) (s : State) (hF : s.Fit) : (State.rxPath n d t w s).Fit := by
  unfold State.rxPath
  repeat' (first | with_reducible assumption | simp only [fit_mk, fit_eta] | with_reducible refine foldS_fit _ _ (fun _ _ _ => ?_) _ ?_ | with_reducible refine foldl_fit _ _ (fun _ _ _ => ?_) _ ?_ | with_reducible refine ite_fit (fun _ => ?_) (fun _ => ?_) | with_reducible refine whenS_fit _ _ _ (fun _ _ => ?_) ?_ | with_reducible refine State.modFlow_fit _ _ _ ?_ | with_reducible refine State.rxJ1_fit _ _ _ _ ?_ | with_reducible refine State.rxPointer_fit _ _ _ _ _ ?_ | with_reducible refine State.rxVc_fit _ _ _ _ _ ?_ | with_reducible refine State.setPath_fit _ _ _ ?_ | split)

theorem State.rxPaths_fit (n : Nat) (d : List Byte) (s : State) (hF : s.Fit) : (State.rxPaths n d s).Fit := by
  unfold State.rxPaths
  repeat' (first | with_reducible assumption | simp only [fit_mk, fit_eta] | with_reducible refine foldS_fit _ _ (fun _ _ _ => ?_) _ ?_ | with_reducible refine foldl_fit _ _ (fun _ _ _ => ?_) _ ?_ | with_reducible refine ite_fit (fun _ => ?_) (fun _ => ?_) | with_reducible refine whenS_fit _ _ _ (fun _ _ => ?_) ?_ | with_reducible refine State.loSweep_fit _ ?_ | with_reducible refine State.rxPath_fit _ _ _ _ _ ?_ | with_reducible refine State.sinkPull_fit _ _ _ ?_ | split)

theorem State.lofTest_fit (n : Nat) (s : State) (hF : s.Fit) : (State.lofTest n s).Fit := by
  unfold State.lofTest
  repeat' (first | with_reducible assumption | simp only [fit_mk, fit_eta] | with_reducible refine foldS_fit _ _ (fun _ _ _ => ?_) _ ?_ | with_reducible refine foldl_fit _ _ (fun _ _ _ => ?_) _ ?_ | with_reducible refine ite_fit (fun _ => ?_) (fun _ => ?_) | with_reducible refine whenS_fit _ _ _ (fun _ _ => ?_) ?_ | with_reducible refine State.dccBreak_fit _ _ ?_ | with_reducible refine State.refLine_fit _ _ ?_ | with_reducible refine State.setDef_fit _ _ _ _ _ ?_ | with_reducible refine State.traceLost_fit _ _ _ ?_ | split)

theorem State.lostFrame_fit (n : Nat) (s : State) (hF : s.Fit) : (State.lostFrame n s).Fit := by
  unfold State.lostFrame
  repeat' (first | with_reducible assumption | simp only [fit_mk, fit_eta] | with_reducible refine foldS_fit _ _ (fun _ _ _ => ?_) _ ?_ | with_reducible refine foldl_fit _ _ (fun _ _ _ => ?_) _ ?_ | with_reducible refine ite_fit (fun _ => ?_) (fun _ => ?_) | with_reducible refine whenS_fit _ _ _ (fun _ _ => ?_) ?_ | with_reducible refine State.dccBreak_fit _ _ ?_ | with_reducible refine State.modPort_fit _ _ _ ?_ | with_reducible refine State.rxPaths_fit _ _ _ ?_ | with_reducible refine State.traceLost_fit _ _ _ ?_ | split)

theorem State.rxFrame_fit (n : Nat) (b : List Byte) (s : State) (hF : s.Fit) : (State.rxFrame n b s).Fit := by
  unfold State.rxFrame
  repeat' (first | with_reducible assumption | simp only [fit_mk, fit_eta] | with_reducible refine foldS_fit _ _ (fun _ _ _ => ?_) _ ?_ | with_reducible refine foldl_fit _ _ (fun _ _ _ => ?_) _ ?_ | with_reducible refine ite_fit (fun _ => ?_) (fun _ => ?_) | with_reducible refine whenS_fit _ _ _ (fun _ _ => ?_) ?_ | with_reducible refine State.dccBreak_fit _ _ ?_ | with_reducible refine State.lofTest_fit _ _ ?_ | with_reducible refine State.modPort_fit _ _ _ ?_ | with_reducible refine State.rxBer_fit _ _ _ ?_ | with_reducible refine State.rxDcc_fit _ _ _ ?_ | with_reducible refine State.rxKS_fit _ _ _ ?_ | with_reducible refine State.rxParity_fit _ _ _ _ _ ?_ | with_reducible refine State.rxPaths_fit _ _ _ ?_ | with_reducible refine State.rxRei_fit _ _ _ _ ?_ | with_reducible refine State.setDef_fit _ _ _ _ _ ?_ | with_reducible refine State.setPort_fit _ _ _ ?_ | with_reducible refine State.traceByte_fit _ _ _ _ ?_ | with_reducible refine State.traceGap_fit _ _ _ ?_ | split)

theorem State.setStore_fit (d : Nat) (x : Store) (s : State) (hF : s.Fit) : (State.setStore d x s).Fit := 
  fit_of_hide (State.setStore_frame 35184372086767 (by decide) _ _ _).symm hF

theorem State.genFixed_fit (n t w : Nat) (ais hold : Bool) (s : State) (hF : s.Fit) : (State.genFixed n t w ais hold s).2.Fit := 
  fit_of_hide (State.genFixed_frame 35184372086767 (by decide) _ _ _ _ _ _).symm hF

theorem State.genFlow_fit (n t w k : Nat) (f : Flow) (s : State) (hF : s.Fit) : (State.genFlow n t w k f s).2.Fit := 
  fit_of_hide (State.genFlow_frame 35184372086767 (by decide) _ _ _ _ _ _).symm hF

theorem State.genPath_fit (n t w : Nat) (s : State) (hF : s.Fit) : (State.genPath n t w s).2.Fit := 
  fit_of_hide (State.genPath_frame 35184372086767 (by decide) _ _ _ _).symm hF

theorem State.txDcc_fit (c n : Nat) (on : Bool) (s : State) (hF : s.Fit) : (State.txDcc c n on s).2.Fit := 
  fit_of_hide (State.txDcc_frame 35184372086767 (by decide) _ _ _ _).symm hF

theorem State.txFrame_fit (n : Nat) (s : State) (hF : s.Fit) : (State.txFrame n s).Fit := 
  fit_of_hide (State.txFrame_frame 35184372086767 (by decide) _ _).symm hF

theorem State.portCfgWrite_fit (n : Nat) (v : Word) (s : State) (hF : s.Fit) : (State.portCfgWrite n v s).Fit := 
  fit_of_hide (State.portCfgWrite_frame 35184372086767 (by decide) _ _ _).symm hF

theorem State.serdesCfgWrite_fit (n : Nat) (v : Word) (s : State) (hF : s.Fit) : (State.serdesCfgWrite n v s).Fit := 
  fit_of_hide (State.serdesCfgWrite_frame 35184372086767 (by decide) _ _ _).symm hF

theorem State.portStart_fit (n : Nat) (s : State) (hF : s.Fit) : (State.portStart n s).Fit := by
  unfold State.portStart
  repeat' (first | with_reducible assumption | simp only [fit_mk, fit_eta] | with_reducible refine foldS_fit _ _ (fun _ _ _ => ?_) _ ?_ | with_reducible refine foldl_fit _ _ (fun _ _ _ => ?_) _ ?_ | with_reducible refine ite_fit (fun _ => ?_) (fun _ => ?_) | with_reducible refine whenS_fit _ _ _ (fun _ _ => ?_) ?_ | with_reducible refine State.modPort_fit _ _ _ ?_ | with_reducible refine State.setDef_fit _ _ _ _ _ ?_ | with_reducible refine State.txFrame_fit _ _ ?_ | split)

theorem State.enBoundary_fit (n : Nat) (s : State) (hF : s.Fit) : (State.enBoundary n s).Fit := by
  unfold State.enBoundary
  repeat' (first | with_reducible assumption | simp only [fit_mk, fit_eta] | with_reducible refine foldS_fit _ _ (fun _ _ _ => ?_) _ ?_ | with_reducible refine foldl_fit _ _ (fun _ _ _ => ?_) _ ?_ | with_reducible refine ite_fit (fun _ => ?_) (fun _ => ?_) | with_reducible refine whenS_fit _ _ _ (fun _ _ => ?_) ?_ | with_reducible refine State.modPort_fit _ _ _ ?_ | with_reducible refine State.portStart_fit _ _ ?_ | with_reducible refine State.txFrame_fit _ _ ?_ | split)

theorem State.ofsBoundary_fit (s : State) (hF : s.Fit) : (State.ofsBoundary s).Fit := 
  fit_of_hide (State.ofsBoundary_frame 35184372086767 (by decide) _).symm hF

theorem State.offsetWrite_fit (o : Nat) (v : Word) (s : State) (hF : s.Fit) : (State.offsetWrite o v s).Fit := 
  fit_of_hide (State.offsetWrite_frame 35184372086767 (by decide) _ _ _).symm hF

theorem State.losUpdate_fit (n : Nat) (s : State) (hF : s.Fit) : (State.losUpdate n s).Fit := by
  unfold State.losUpdate
  repeat' (first | with_reducible assumption | simp only [fit_mk, fit_eta] | with_reducible refine foldS_fit _ _ (fun _ _ _ => ?_) _ ?_ | with_reducible refine foldl_fit _ _ (fun _ _ _ => ?_) _ ?_ | with_reducible refine ite_fit (fun _ => ?_) (fun _ => ?_) | with_reducible refine whenS_fit _ _ _ (fun _ _ => ?_) ?_ | with_reducible refine State.dccBreak_fit _ _ ?_ | with_reducible refine State.modPort_fit _ _ _ ?_ | with_reducible refine State.refLine_fit _ _ ?_ | with_reducible refine State.setDef_fit _ _ _ _ _ ?_ | with_reducible refine State.traceLost_fit _ _ _ ?_ | split)

theorem execPortCfgWrite_fit (n : Fin 32) (v : Word) (s : State) (hF : s.Fit) : (after1 (execPortCfgWrite n v) s).Fit := 
  fit_of_hide (execPortCfgWrite_frame 35184372086767 (by decide) _ _ _).symm hF

theorem execTxOffsetWrite_fit (r : OffsetReg) (v : Word) (s : State) (hF : s.Fit) : (after1 (execTxOffsetWrite r v) s).Fit := 
  fit_of_hide (execTxOffsetWrite_frame 35184372086767 (by decide) _ _ _).symm hF

theorem execTxLineFrame_fit (n : Fin 32) (phase : Nat) (s : State) (hF : s.Fit) : (after1 (execTxLineFrame n phase) s).Fit := 
  fit_of_hide (execTxLineFrame_frame 35184372086767 (by decide) _ _ _).symm hF

theorem execLofL_fit (n : Fin 32) (s : State) (hF : s.Fit) : (after1 (execLofL n) s).Fit := by
  unfold after1 execLofL
  repeat' (first | with_reducible assumption | simp only [fit_mk, fit_eta] | with_reducible refine foldS_fit _ _ (fun _ _ _ => ?_) _ ?_ | with_reducible refine foldl_fit _ _ (fun _ _ _ => ?_) _ ?_ | with_reducible refine ite_fit (fun _ => ?_) (fun _ => ?_) | with_reducible refine whenS_fit _ _ _ (fun _ _ => ?_) ?_ | with_reducible refine State.lofTest_fit _ _ ?_ | split)

theorem execLosL_fit (n : Fin 32) (absent : Bool) (s : State) (hF : s.Fit) : (after1 (execLosL n absent) s).Fit := by
  unfold after1 execLosL
  repeat' (first | with_reducible assumption | simp only [fit_mk, fit_eta] | with_reducible refine foldS_fit _ _ (fun _ _ _ => ?_) _ ?_ | with_reducible refine foldl_fit _ _ (fun _ _ _ => ?_) _ ?_ | with_reducible refine ite_fit (fun _ => ?_) (fun _ => ?_) | with_reducible refine whenS_fit _ _ _ (fun _ _ => ?_) ?_ | with_reducible refine State.losUpdate_fit _ _ ?_ | with_reducible refine State.modPort_fit _ _ _ ?_ | split)

theorem execSerdesLol_fit (n : Fin 32) (rx : Bool) (s : State) (hF : s.Fit) : (after1 (execSerdesLol n rx) s).Fit := by
  unfold after1 execSerdesLol
  repeat' (first | with_reducible assumption | simp only [fit_mk, fit_eta] | with_reducible refine foldS_fit _ _ (fun _ _ _ => ?_) _ ?_ | with_reducible refine foldl_fit _ _ (fun _ _ _ => ?_) _ ?_ | with_reducible refine ite_fit (fun _ => ?_) (fun _ => ?_) | with_reducible refine whenS_fit _ _ _ (fun _ _ => ?_) ?_ | with_reducible refine State.losUpdate_fit _ _ ?_ | with_reducible refine State.modPort_fit _ _ _ ?_ | with_reducible refine State.raise_fit _ _ _ _ _ ?_ | with_reducible refine State.txFrame_fit _ _ ?_ | split)

theorem execSerdesLock_fit (n : Fin 32) (rx : Bool) (s : State) (hF : s.Fit) : (after1 (execSerdesLock n rx) s).Fit := by
  unfold after1 execSerdesLock
  repeat' (first | with_reducible assumption | simp only [fit_mk, fit_eta] | with_reducible refine foldS_fit _ _ (fun _ _ _ => ?_) _ ?_ | with_reducible refine foldl_fit _ _ (fun _ _ _ => ?_) _ ?_ | with_reducible refine ite_fit (fun _ => ?_) (fun _ => ?_) | with_reducible refine whenS_fit _ _ _ (fun _ _ => ?_) ?_ | with_reducible refine State.losUpdate_fit _ _ ?_ | with_reducible refine State.modPort_fit _ _ _ ?_ | split)

theorem State.putTrib_fit (t : Nat) (x : Trib) (s : State) (hF : s.Fit) : (State.putTrib t x s).Fit := by
  unfold State.putTrib
  repeat' (first | with_reducible assumption | simp only [fit_mk, fit_eta] | with_reducible refine foldS_fit _ _ (fun _ _ _ => ?_) _ ?_ | with_reducible refine foldl_fit _ _ (fun _ _ _ => ?_) _ ?_ | with_reducible refine ite_fit (fun _ => ?_) (fun _ => ?_) | with_reducible refine whenS_fit _ _ _ (fun _ _ => ?_) ?_ | with_reducible refine State.raiseU_fit _ _ _ _ _ _ ?_ | with_reducible refine State.seeDef_fit _ _ _ _ ?_ | split)

theorem State.modTrib_fit (t : Nat) (f : Trib → Trib) (s : State) (hF : s.Fit) : (State.modTrib t f s).Fit := by
  unfold State.modTrib
  repeat' (first | with_reducible assumption | simp only [fit_mk, fit_eta] | with_reducible refine foldS_fit _ _ (fun _ _ _ => ?_) _ ?_ | with_reducible refine foldl_fit _ _ (fun _ _ _ => ?_) _ ?_ | with_reducible refine ite_fit (fun _ => ?_) (fun _ => ?_) | with_reducible refine whenS_fit _ _ _ (fun _ _ => ?_) ?_ | with_reducible refine State.putTrib_fit _ _ _ ?_ | split)

theorem State.tribCfg_fit (t : Nat) (c : TribSet) (s : State) (hF : s.Fit) : (State.tribCfg t c s).Fit := by
  unfold State.tribCfg
  repeat' (first | with_reducible assumption | simp only [fit_mk, fit_eta] | with_reducible refine foldS_fit _ _ (fun _ _ _ => ?_) _ ?_ | with_reducible refine foldl_fit _ _ (fun _ _ _ => ?_) _ ?_ | with_reducible refine ite_fit (fun _ => ?_) (fun _ => ?_) | with_reducible refine whenS_fit _ _ _ (fun _ _ => ?_) ?_ | with_reducible refine State.putTrib_fit _ _ _ ?_ | with_reducible refine State.seeBits_fit _ _ _ _ ?_ | with_reducible refine State.setLo_fit _ _ _ ?_ | split)

theorem State.sigSet_fit (o : SigOp) (s : State) (hF : s.Fit) : (State.sigSet o s).2.Fit := by
  unfold State.sigSet
  repeat' (first | with_reducible assumption | simp only [fit_mk, fit_eta] | with_reducible refine foldS_fit _ _ (fun _ _ _ => ?_) _ ?_ | with_reducible refine foldl_fit _ _ (fun _ _ _ => ?_) _ ?_ | with_reducible refine ite_fit (fun _ => ?_) (fun _ => ?_) | with_reducible refine whenS_fit _ _ _ (fun _ _ => ?_) ?_ | with_reducible refine State.putTrib_fit _ _ _ ?_ | split)

theorem State.tribSlip_fit (t : Nat) (del : Bool) (s : State) (hF : s.Fit) : (State.tribSlip t del s).Fit := by
  unfold State.tribSlip
  repeat' (first | with_reducible assumption | simp only [fit_mk, fit_eta] | with_reducible refine foldS_fit _ _ (fun _ _ _ => ?_) _ ?_ | with_reducible refine foldl_fit _ _ (fun _ _ _ => ?_) _ ?_ | with_reducible refine ite_fit (fun _ => ?_) (fun _ => ?_) | with_reducible refine whenS_fit _ _ _ (fun _ _ => ?_) ?_ | with_reducible refine State.putTrib_fit _ _ _ ?_ | with_reducible refine State.raiseU_fit _ _ _ _ _ _ ?_ | split)

theorem State.slipWrite_fit (t : Nat) (f : List Byte) (s : State) (hF : s.Fit) : (State.slipWrite t f s).Fit := by
  unfold State.slipWrite
  repeat' (first | with_reducible assumption | simp only [fit_mk, fit_eta] | with_reducible refine foldS_fit _ _ (fun _ _ _ => ?_) _ ?_ | with_reducible refine foldl_fit _ _ (fun _ _ _ => ?_) _ ?_ | with_reducible refine ite_fit (fun _ => ?_) (fun _ => ?_) | with_reducible refine whenS_fit _ _ _ (fun _ _ => ?_) ?_ | with_reducible refine State.putTrib_fit _ _ _ ?_ | with_reducible refine State.tribSlip_fit _ _ _ ?_ | split)

theorem State.prtEvent_fit (kind g bit : Nat) (k : Kind) (data : Nat) (s : State) (hF : s.Fit) : (State.prtEvent kind g bit k data s).Fit := by
  unfold State.prtEvent
  repeat' (first | with_reducible assumption | simp only [fit_mk, fit_eta] | with_reducible refine foldS_fit _ _ (fun _ _ _ => ?_) _ ?_ | with_reducible refine foldl_fit _ _ (fun _ _ _ => ?_) _ ?_ | with_reducible refine ite_fit (fun _ => ?_) (fun _ => ?_) | with_reducible refine whenS_fit _ _ _ (fun _ _ => ?_) ?_ | with_reducible refine State.raiseU_fit _ _ _ _ _ _ ?_ | split)

theorem State.mergeBoth_fit (g : Nat) (s : State) (hF : s.Fit) : (State.mergeBoth g s).Fit := by
  unfold State.mergeBoth
  repeat' (first | with_reducible assumption | simp only [fit_mk, fit_eta] | with_reducible refine foldS_fit _ _ (fun _ _ _ => ?_) _ ?_ | with_reducible refine foldl_fit _ _ (fun _ _ _ => ?_) _ ?_ | with_reducible refine ite_fit (fun _ => ?_) (fun _ => ?_) | with_reducible refine whenS_fit _ _ _ (fun _ _ => ?_) ?_ | with_reducible refine State.prtEvent_fit _ _ _ _ _ _ ?_ | with_reducible refine State.setGroup_fit _ _ _ _ ?_ | split)

theorem State.mergeRead_fit (g : Nat) (s : State) (hF : s.Fit) : (State.mergeRead g s).Fit := by
  unfold State.mergeRead
  repeat' (first | with_reducible assumption | simp only [fit_mk, fit_eta] | with_reducible refine foldS_fit _ _ (fun _ _ _ => ?_) _ ?_ | with_reducible refine foldl_fit _ _ (fun _ _ _ => ?_) _ ?_ | with_reducible refine ite_fit (fun _ => ?_) (fun _ => ?_) | with_reducible refine whenS_fit _ _ _ (fun _ _ => ?_) ?_ | with_reducible refine State.modTrib_fit _ _ _ ?_ | with_reducible refine State.setGroup_fit _ _ _ _ ?_ | with_reducible refine State.slipWrite_fit _ _ _ ?_ | split)

theorem State.mergeOut_fit (g : Nat) (b : Bool) (s : State) (hF : s.Fit) : (State.mergeOut g b s).Fit := by
  unfold State.mergeOut
  repeat' (first | with_reducible assumption | simp only [fit_mk, fit_eta] | with_reducible refine foldS_fit _ _ (fun _ _ _ => ?_) _ ?_ | with_reducible refine foldl_fit _ _ (fun _ _ _ => ?_) _ ?_ | with_reducible refine ite_fit (fun _ => ?_) (fun _ => ?_) | with_reducible refine whenS_fit _ _ _ (fun _ _ => ?_) ?_ | with_reducible refine State.mergeBoth_fit _ _ ?_ | with_reducible refine State.setGroup_fit _ _ _ _ ?_ | split)

theorem State.mergeTake_fit (g : Nat) (b : Bool) (s : State) (hF : s.Fit) : (State.mergeTake g b s).Fit := by
  unfold State.mergeTake
  repeat' (first | with_reducible assumption | simp only [fit_mk, fit_eta] | with_reducible refine foldS_fit _ _ (fun _ _ _ => ?_) _ ?_ | with_reducible refine foldl_fit _ _ (fun _ _ _ => ?_) _ ?_ | with_reducible refine ite_fit (fun _ => ?_) (fun _ => ?_) | with_reducible refine whenS_fit _ _ _ (fun _ _ => ?_) ?_ | with_reducible refine State.mergeOut_fit _ _ _ ?_ | split)

theorem State.mergeNext_fit (g : Nat) (b : Bool) (s : State) (hF : s.Fit) : (State.mergeNext g b s).Fit := by
  unfold State.mergeNext
  repeat' (first | with_reducible assumption | simp only [fit_mk, fit_eta] | with_reducible refine foldS_fit _ _ (fun _ _ _ => ?_) _ ?_ | with_reducible refine foldl_fit _ _ (fun _ _ _ => ?_) _ ?_ | with_reducible refine ite_fit (fun _ => ?_) (fun _ => ?_) | with_reducible refine whenS_fit _ _ _ (fun _ _ => ?_) ?_ | with_reducible refine State.mergeOut_fit _ _ _ ?_ | with_reducible refine State.mergeRead_fit _ _ ?_ | split)

theorem State.mergeTell_fit (g : Nat) (was : Bool) (s : State) (hF : s.Fit) : (State.mergeTell g was s).Fit := by
  unfold State.mergeTell
  repeat' (first | with_reducible assumption | simp only [fit_mk, fit_eta] | with_reducible refine foldS_fit _ _ (fun _ _ _ => ?_) _ ?_ | with_reducible refine foldl_fit _ _ (fun _ _ _ => ?_) _ ?_ | with_reducible refine ite_fit (fun _ => ?_) (fun _ => ?_) | with_reducible refine whenS_fit _ _ _ (fun _ _ => ?_) ?_ | with_reducible refine State.prtEvent_fit _ _ _ _ _ _ ?_ | split)

theorem State.mergePace_fit (g : Nat) (b mine other : Bool) (s : State) (hF : s.Fit) : (State.mergePace g b mine other s).Fit := by
  unfold State.mergePace
  repeat' (first | with_reducible assumption | simp only [fit_mk, fit_eta] | with_reducible refine foldS_fit _ _ (fun _ _ _ => ?_) _ ?_ | with_reducible refine foldl_fit _ _ (fun _ _ _ => ?_) _ ?_ | with_reducible refine ite_fit (fun _ => ?_) (fun _ => ?_) | with_reducible refine whenS_fit _ _ _ (fun _ _ => ?_) ?_ | with_reducible refine State.mergeNext_fit _ _ _ ?_ | with_reducible refine State.mergeRead_fit _ _ ?_ | with_reducible refine State.setGroup_fit _ _ _ _ ?_ | split)

theorem State.mergeIn_fit (g : Nat) (b : Bool) (x : Trib) (pos : Nat) (f : List Byte) (hurt : Bool) (s : State) (hF : s.Fit) : (State.mergeIn g b x pos f hurt s).Fit := by
  unfold State.mergeIn
  repeat' (first | with_reducible assumption | simp only [fit_mk, fit_eta] | with_reducible refine foldS_fit _ _ (fun _ _ _ => ?_) _ ?_ | with_reducible refine foldl_fit _ _ (fun _ _ _ => ?_) _ ?_ | with_reducible refine ite_fit (fun _ => ?_) (fun _ => ?_) | with_reducible refine whenS_fit _ _ _ (fun _ _ => ?_) ?_ | with_reducible refine State.mergePace_fit _ _ _ _ _ ?_ | with_reducible refine State.mergeTake_fit _ _ _ ?_ | with_reducible refine State.mergeTell_fit _ _ _ ?_ | with_reducible refine State.setGroup_fit _ _ _ _ ?_ | split)

theorem State.tribFrame_fit (t : Nat) (l : List Bool) (s : State) (hF : s.Fit) : (State.tribFrame t l s).Fit := by
  unfold State.tribFrame
  repeat' (first | with_reducible assumption | simp only [fit_mk, fit_eta] | with_reducible refine foldS_fit _ _ (fun _ _ _ => ?_) _ ?_ | with_reducible refine foldl_fit _ _ (fun _ _ _ => ?_) _ ?_ | with_reducible refine ite_fit (fun _ => ?_) (fun _ => ?_) | with_reducible refine whenS_fit _ _ _ (fun _ _ => ?_) ?_ | with_reducible refine State.mergeIn_fit _ _ _ _ _ _ _ ?_ | with_reducible refine State.modTrib_fit _ _ _ ?_ | with_reducible refine State.putTrib_fit _ _ _ ?_ | with_reducible refine State.raiseU_fit _ _ _ _ _ _ ?_ | with_reducible refine State.slipWrite_fit _ _ _ ?_ | split)

theorem State.tribBits_fit (t : Nat) (s : State) (hF : s.Fit) : (State.tribBits t s).Fit := by
  unfold State.tribBits
  repeat' (first | with_reducible assumption | simp only [fit_mk, fit_eta] | with_reducible refine foldS_fit _ _ (fun _ _ _ => ?_) _ ?_ | with_reducible refine foldl_fit _ _ (fun _ _ _ => ?_) _ ?_ | with_reducible refine ite_fit (fun _ => ?_) (fun _ => ?_) | with_reducible refine whenS_fit _ _ _ (fun _ _ => ?_) ?_ | with_reducible refine State.putTrib_fit _ _ _ ?_ | with_reducible refine State.tribFrame_fit _ _ _ ?_ | split)

theorem State.tribLo_fit (t : Nat) (s : State) (hF : s.Fit) : (State.tribLo t s).Fit := by
  unfold State.tribLo
  repeat' (first | with_reducible assumption | simp only [fit_mk, fit_eta] | with_reducible refine foldS_fit _ _ (fun _ _ _ => ?_) _ ?_ | with_reducible refine foldl_fit _ _ (fun _ _ _ => ?_) _ ?_ | with_reducible refine ite_fit (fun _ => ?_) (fun _ => ?_) | with_reducible refine whenS_fit _ _ _ (fun _ _ => ?_) ?_ | with_reducible refine State.modTrib_fit _ _ _ ?_ | with_reducible refine State.tribFrame_fit _ _ _ ?_ | split)

theorem State.tribTake_fit (t : Nat) (s : State) (hF : s.Fit) : (State.tribTake t s).Fit := by
  unfold State.tribTake
  repeat' (first | with_reducible assumption | simp only [fit_mk, fit_eta] | with_reducible refine foldS_fit _ _ (fun _ _ _ => ?_) _ ?_ | with_reducible refine foldl_fit _ _ (fun _ _ _ => ?_) _ ?_ | with_reducible refine ite_fit (fun _ => ?_) (fun _ => ?_) | with_reducible refine whenS_fit _ _ _ (fun _ _ => ?_) ?_ | with_reducible refine State.putTrib_fit _ _ _ ?_ | with_reducible refine State.tribSlip_fit _ _ _ ?_ | split)

theorem State.tribSig_fit (t : Nat) (s : State) (hF : s.Fit) : (State.tribSig t s).Fit := by
  unfold State.tribSig
  repeat' (first | with_reducible assumption | simp only [fit_mk, fit_eta] | with_reducible refine foldS_fit _ _ (fun _ _ _ => ?_) _ ?_ | with_reducible refine foldl_fit _ _ (fun _ _ _ => ?_) _ ?_ | with_reducible refine ite_fit (fun _ => ?_) (fun _ => ?_) | with_reducible refine whenS_fit _ _ _ (fun _ _ => ?_) ?_ | with_reducible refine State.putTrib_fit _ _ _ ?_ | with_reducible refine State.raiseU_fit _ _ _ _ _ _ ?_ | split)

theorem State.tribTx_fit (out : Nat → SByte) (t : Nat) (s : State) (hF : s.Fit) : (State.tribTx out t s).Fit := by
  unfold State.tribTx
  repeat' (first | with_reducible assumption | simp only [fit_mk, fit_eta] | with_reducible refine foldS_fit _ _ (fun _ _ _ => ?_) _ ?_ | with_reducible refine foldl_fit _ _ (fun _ _ _ => ?_) _ ?_ | with_reducible refine ite_fit (fun _ => ?_) (fun _ => ?_) | with_reducible refine whenS_fit _ _ _ (fun _ _ => ?_) ?_ | with_reducible refine State.modTrib_fit _ _ _ ?_ | split)

theorem State.tribBridge_fit (s : State) (hF : s.Fit) : (State.tribBridge s).Fit := by
  unfold State.tribBridge
  repeat' (first | with_reducible assumption | simp only [fit_mk, fit_eta] | with_reducible refine foldS_fit _ _ (fun _ _ _ => ?_) _ ?_ | with_reducible refine foldl_fit _ _ (fun _ _ _ => ?_) _ ?_ | with_reducible refine ite_fit (fun _ => ?_) (fun _ => ?_) | with_reducible refine whenS_fit _ _ _ (fun _ _ => ?_) ?_ | with_reducible refine State.modTrib_fit _ _ _ ?_ | with_reducible refine State.txFrame_fit _ _ ?_ | split)

theorem State.loQuarterTx_fit (t : Nat) (s : State) (hF : s.Fit) : (State.loQuarterTx t s).Fit := 
  fit_of_hide (State.loQuarterTx_frame 35184372086767 (by decide) _ _).symm hF

theorem State.loTx_fit (t : Nat) (s : State) (hF : s.Fit) : (State.loTx t s).Fit := 
  fit_of_hide (State.loTx_frame 35184372086767 (by decide) _ _).symm hF

theorem State.setHwy_fit (n : Nat) (h : Hwy) (s : State) (hF : s.Fit) : (State.setHwy n h s).Fit := 
  fit_of_hide (State.setHwy_frame 35184372086767 (by decide) _ _ _).symm hF

theorem State.modHwy_fit (n : Nat) (f : Hwy → Hwy) (s : State) (hF : s.Fit) : (State.modHwy n f s).Fit := 
  fit_of_hide (State.modHwy_frame 35184372086767 (by decide) _ _ _).symm hF

theorem State.setHwyGrp_fit (g : Nat) (x : HwyGrp) (s : State) (hF : s.Fit) : (State.setHwyGrp g x s).Fit := 
  fit_of_hide (State.setHwyGrp_frame 35184372086767 (by decide) _ _ _).symm hF

theorem State.hwySlip_fit (n : Nat) (del tx : Bool) (s : State) (hF : s.Fit) : (State.hwySlip n del tx s).Fit := by
  unfold State.hwySlip
  repeat' (first | with_reducible assumption | simp only [fit_mk, fit_eta] | with_reducible refine foldS_fit _ _ (fun _ _ _ => ?_) _ ?_ | with_reducible refine foldl_fit _ _ (fun _ _ _ => ?_) _ ?_ | with_reducible refine ite_fit (fun _ => ?_) (fun _ => ?_) | with_reducible refine whenS_fit _ _ _ (fun _ _ => ?_) ?_ | with_reducible refine State.raiseU_fit _ _ _ _ _ _ ?_ | with_reducible refine State.setHwy_fit _ _ _ ?_ | split)

theorem State.hwyLoss_fit (n : Nat) (on : Bool) (s : State) (hF : s.Fit) : (State.hwyLoss n on s).Fit := by
  unfold State.hwyLoss
  repeat' (first | with_reducible assumption | simp only [fit_mk, fit_eta] | with_reducible refine foldS_fit _ _ (fun _ _ _ => ?_) _ ?_ | with_reducible refine foldl_fit _ _ (fun _ _ _ => ?_) _ ?_ | with_reducible refine ite_fit (fun _ => ?_) (fun _ => ?_) | with_reducible refine whenS_fit _ _ _ (fun _ _ => ?_) ?_ | with_reducible refine State.raiseU_fit _ _ _ _ _ _ ?_ | with_reducible refine State.setHwy_fit _ _ _ ?_ | split)

theorem State.hwyGroupLoss_fit (n : Nat) (s : State) (hF : s.Fit) : (State.hwyGroupLoss n s).Fit := by
  unfold State.hwyGroupLoss
  repeat' (first | with_reducible assumption | simp only [fit_mk, fit_eta] | with_reducible refine foldS_fit _ _ (fun _ _ _ => ?_) _ ?_ | with_reducible refine foldl_fit _ _ (fun _ _ _ => ?_) _ ?_ | with_reducible refine ite_fit (fun _ => ?_) (fun _ => ?_) | with_reducible refine whenS_fit _ _ _ (fun _ _ => ?_) ?_ | with_reducible refine State.hwyLoss_fit _ _ _ ?_ | split)

theorem State.hwySend_fit (n : Nat) (f : List Byte) (s : State) (hF : s.Fit) : (State.hwySend n f s).Fit := 
  fit_of_hide (State.hwySend_frame 35184372086767 (by decide) _ _ _).symm hF

theorem State.hwySlipIn_fit (n : Nat) (f : List Byte) (s : State) (hF : s.Fit) : (State.hwySlipIn n f s).Fit := by
  unfold State.hwySlipIn
  repeat' (first | with_reducible assumption | simp only [fit_mk, fit_eta] | with_reducible refine foldS_fit _ _ (fun _ _ _ => ?_) _ ?_ | with_reducible refine foldl_fit _ _ (fun _ _ _ => ?_) _ ?_ | with_reducible refine ite_fit (fun _ => ?_) (fun _ => ?_) | with_reducible refine whenS_fit _ _ _ (fun _ _ => ?_) ?_ | with_reducible refine State.hwySlip_fit _ _ _ _ ?_ | with_reducible refine State.setHwy_fit _ _ _ ?_ | split)

theorem State.hwySlave_fit (n : Nat) (bytes : List Byte) (s : State) (hF : s.Fit) : (State.hwySlave n bytes s).Fit := by
  unfold State.hwySlave
  repeat' (first | with_reducible assumption | simp only [fit_mk, fit_eta] | with_reducible refine foldS_fit _ _ (fun _ _ _ => ?_) _ ?_ | with_reducible refine foldl_fit _ _ (fun _ _ _ => ?_) _ ?_ | with_reducible refine ite_fit (fun _ => ?_) (fun _ => ?_) | with_reducible refine whenS_fit _ _ _ (fun _ _ => ?_) ?_ | with_reducible refine State.hwySend_fit _ _ _ ?_ | with_reducible refine State.hwySlipIn_fit _ _ _ ?_ | with_reducible refine State.hwySlip_fit _ _ _ _ ?_ | with_reducible refine State.modHwy_fit _ _ _ ?_ | with_reducible refine State.setHwy_fit _ _ _ ?_ | split)

theorem State.hwyTx_fit (out : Nat → SByte) (n : Nat) (s : State) (hF : s.Fit) : (State.hwyTx out n s).Fit := by
  unfold State.hwyTx
  repeat' (first | with_reducible assumption | simp only [fit_mk, fit_eta] | with_reducible refine foldS_fit _ _ (fun _ _ _ => ?_) _ ?_ | with_reducible refine foldl_fit _ _ (fun _ _ _ => ?_) _ ?_ | with_reducible refine ite_fit (fun _ => ?_) (fun _ => ?_) | with_reducible refine whenS_fit _ _ _ (fun _ _ => ?_) ?_ | with_reducible refine State.hwySend_fit _ _ _ ?_ | with_reducible refine State.hwySlip_fit _ _ _ _ ?_ | with_reducible refine State.setHwy_fit _ _ _ ?_ | split)

theorem State.hwyTake_fit (n : Nat) (s : State) (hF : s.Fit) : (State.hwyTake n s).Fit := by
  unfold State.hwyTake
  repeat' (first | with_reducible assumption | simp only [fit_mk, fit_eta] | with_reducible refine foldS_fit _ _ (fun _ _ _ => ?_) _ ?_ | with_reducible refine foldl_fit _ _ (fun _ _ _ => ?_) _ ?_ | with_reducible refine ite_fit (fun _ => ?_) (fun _ => ?_) | with_reducible refine whenS_fit _ _ _ (fun _ _ => ?_) ?_ | with_reducible refine State.hwySlip_fit _ _ _ _ ?_ | with_reducible refine State.setHwy_fit _ _ _ ?_ | split)

theorem State.hwyApply_fit (n : Nat) (s : State) (hF : s.Fit) : (State.hwyApply n s).Fit := 
  fit_of_hide (State.hwyApply_frame 35184372086767 (by decide) _ _).symm hF

theorem State.hwySyncFree_fit (g : Nat) (s : State) (hF : s.Fit) : (State.hwySyncFree g s).Fit := by
  unfold State.hwySyncFree
  repeat' (first | with_reducible assumption | simp only [fit_mk, fit_eta] | with_reducible refine foldS_fit _ _ (fun _ _ _ => ?_) _ ?_ | with_reducible refine foldl_fit _ _ (fun _ _ _ => ?_) _ ?_ | with_reducible refine ite_fit (fun _ => ?_) (fun _ => ?_) | with_reducible refine whenS_fit _ _ _ (fun _ _ => ?_) ?_ | with_reducible refine State.setHwyGrp_fit _ _ _ ?_ | with_reducible refine State.unclaim_fit _ _ _ ?_ | split)

theorem State.hwySyncClaim_fit (g gp : Nat) (s : State) (hF : s.Fit) : (State.hwySyncClaim g gp s).Fit := by
  unfold State.hwySyncClaim
  repeat' (first | with_reducible assumption | simp only [fit_mk, fit_eta] | with_reducible refine foldS_fit _ _ (fun _ _ _ => ?_) _ ?_ | with_reducible refine foldl_fit _ _ (fun _ _ _ => ?_) _ ?_ | with_reducible refine ite_fit (fun _ => ?_) (fun _ => ?_) | with_reducible refine whenS_fit _ _ _ (fun _ _ => ?_) ?_ | with_reducible refine State.claimAll_fit _ _ _ ?_ | with_reducible refine State.setHwyGrp_fit _ _ _ ?_ | split)

theorem State.hwyGroupWrite_fit (g : Nat) (v : Word) (s : State) (hF : s.Fit) : (State.hwyGroupWrite g v s).Fit := by
  unfold State.hwyGroupWrite
  repeat' (first | with_reducible assumption | simp only [fit_mk, fit_eta] | with_reducible refine foldS_fit _ _ (fun _ _ _ => ?_) _ ?_ | with_reducible refine foldl_fit _ _ (fun _ _ _ => ?_) _ ?_ | with_reducible refine ite_fit (fun _ => ?_) (fun _ => ?_) | with_reducible refine whenS_fit _ _ _ (fun _ _ => ?_) ?_ | with_reducible refine State.hwySyncClaim_fit _ _ _ ?_ | with_reducible refine State.hwySyncFree_fit _ _ ?_ | with_reducible refine State.regWrite_fit _ _ _ ?_ | split)

theorem State.hwyWrite_fit (r : HwyReg) (v : Word) (s : State) (hF : s.Fit) : (State.hwyWrite r v s).Fit := by
  unfold State.hwyWrite
  repeat' (first | with_reducible assumption | simp only [fit_mk, fit_eta] | with_reducible refine foldS_fit _ _ (fun _ _ _ => ?_) _ ?_ | with_reducible refine foldl_fit _ _ (fun _ _ _ => ?_) _ ?_ | with_reducible refine ite_fit (fun _ => ?_) (fun _ => ?_) | with_reducible refine whenS_fit _ _ _ (fun _ _ => ?_) ?_ | with_reducible refine State.hwyGroupWrite_fit _ _ _ ?_ | with_reducible refine State.regWrite_fit _ _ _ ?_ | split)

theorem execRxTribFrame_fit (t : Fin 16384) (t1 : Bool) (s : State) (hF : s.Fit) : (after1 (execRxTribFrame t t1) s).Fit := by
  unfold after1 execRxTribFrame
  repeat' (first | with_reducible assumption | simp only [fit_mk, fit_eta] | with_reducible refine foldS_fit _ _ (fun _ _ _ => ?_) _ ?_ | with_reducible refine foldl_fit _ _ (fun _ _ _ => ?_) _ ?_ | with_reducible refine ite_fit (fun _ => ?_) (fun _ => ?_) | with_reducible refine whenS_fit _ _ _ (fun _ _ => ?_) ?_ | with_reducible refine State.tribBits_fit _ _ ?_ | split)

theorem execCrc4None_fit (t : Fin 16384) (s : State) (hF : s.Fit) : (after1 (execCrc4None t) s).Fit := by
  unfold after1 execCrc4None
  repeat' (first | with_reducible assumption | simp only [fit_mk, fit_eta] | with_reducible refine foldS_fit _ _ (fun _ _ _ => ?_) _ ?_ | with_reducible refine foldl_fit _ _ (fun _ _ _ => ?_) _ ?_ | with_reducible refine ite_fit (fun _ => ?_) (fun _ => ?_) | with_reducible refine whenS_fit _ _ _ (fun _ _ => ?_) ?_ | with_reducible refine State.putTrib_fit _ _ _ ?_ | with_reducible refine State.raiseU_fit _ _ _ _ _ _ ?_ | split)

theorem execSigHoldoffExpiry_fit (t : Fin 16384) (s : State) (hF : s.Fit) : (after1 (execSigHoldoffExpiry t) s).Fit := by
  unfold after1 execSigHoldoffExpiry
  repeat' (first | with_reducible assumption | simp only [fit_mk, fit_eta] | with_reducible refine foldS_fit _ _ (fun _ _ _ => ?_) _ ?_ | with_reducible refine foldl_fit _ _ (fun _ _ _ => ?_) _ ?_ | with_reducible refine ite_fit (fun _ => ?_) (fun _ => ?_) | with_reducible refine whenS_fit _ _ _ (fun _ _ => ?_) ?_ | with_reducible refine State.putTrib_fit _ _ _ ?_ | with_reducible refine State.raiseU_fit _ _ _ _ _ _ ?_ | split)

theorem execHwyCfgWrite_fit (r : HwyReg) (v : Word) (s : State) (hF : s.Fit) : (after1 (execHwyCfgWrite r v) s).Fit := by
  unfold after1 execHwyCfgWrite
  repeat' (first | with_reducible assumption | simp only [fit_mk, fit_eta] | with_reducible refine foldS_fit _ _ (fun _ _ _ => ?_) _ ?_ | with_reducible refine foldl_fit _ _ (fun _ _ _ => ?_) _ ?_ | with_reducible refine ite_fit (fun _ => ?_) (fun _ => ?_) | with_reducible refine whenS_fit _ _ _ (fun _ _ => ?_) ?_ | with_reducible refine State.hwyWrite_fit _ _ _ ?_ | split)

theorem execHwyFrameSync_fit (n : Fin 64) (rise fall : HwySeen) (s : State) (hF : s.Fit) : (after1 (execHwyFrameSync n rise fall) s).Fit := by
  unfold after1 execHwyFrameSync
  repeat' (first | with_reducible assumption | simp only [fit_mk, fit_eta] | with_reducible refine foldS_fit _ _ (fun _ _ _ => ?_) _ ?_ | with_reducible refine foldl_fit _ _ (fun _ _ _ => ?_) _ ?_ | with_reducible refine ite_fit (fun _ => ?_) (fun _ => ?_) | with_reducible refine whenS_fit _ _ _ (fun _ _ => ?_) ?_ | with_reducible refine State.hwyGroupLoss_fit _ _ ?_ | with_reducible refine State.hwyLoss_fit _ _ _ ?_ | with_reducible refine State.hwySlave_fit _ _ _ ?_ | with_reducible refine State.setHwy_fit _ _ _ ?_ | split)

theorem execHwyFsLoss_fit (n : Fin 64) (s : State) (hF : s.Fit) : (after1 (execHwyFsLoss n) s).Fit := by
  unfold after1 execHwyFsLoss
  repeat' (first | with_reducible assumption | simp only [fit_mk, fit_eta] | with_reducible refine foldS_fit _ _ (fun _ _ _ => ?_) _ ?_ | with_reducible refine foldl_fit _ _ (fun _ _ _ => ?_) _ ?_ | with_reducible refine ite_fit (fun _ => ?_) (fun _ => ?_) | with_reducible refine whenS_fit _ _ _ (fun _ _ => ?_) ?_ | with_reducible refine State.hwyGroupLoss_fit _ _ ?_ | split)

theorem State.setTswPage_fit (b : Bool) (t : Tab Word) (s : State) (hF : s.Fit) : (State.setTswPage b t s).Fit := 
  fit_of_hide (State.setTswPage_frame 35184372086767 (by decide) _ _ _).symm hF

theorem State.setTswPoison_fit (b : Bool) (k : Nat) (v : Bool) (s : State) (hF : s.Fit) : (State.setTswPoison b k v s).Fit := 
  fit_of_hide (State.setTswPoison_frame 35184372086767 (by decide) _ _ _ _).symm hF

theorem State.tswPut_fit (b : Bool) (k : Nat) (e : Word) (s : State) (hF : s.Fit) : (State.tswPut b k e s).Fit := 
  fit_of_hide (State.tswPut_frame 35184372086767 (by decide) _ _ _ _).symm hF

theorem State.tswRun_fit (o : TswRun) (s : State) (hF : s.Fit) : (State.tswRun o s).Fit := 
  fit_of_hide (State.tswRun_frame 35184372086767 (by decide) _ _).symm hF

theorem State.tswCount_fit (chg pat : Nat) (s : State) (hF : s.Fit) : (State.tswCount chg pat s).Fit := 
  fit_of_hide (State.tswCount_frame 35184372086767 (by decide) _ _ _).symm hF

theorem State.tswSet_fit (o : TswRun) (s : State) (hF : s.Fit) : (State.tswSet o s).Fit := 
  fit_of_hide (State.tswSet_frame 35184372086767 (by decide) _ _).symm hF

theorem State.tswFill_fit (o : TswRun) (s : State) (hF : s.Fit) : (State.tswFill o s).Fit := 
  fit_of_hide (State.tswFill_frame 35184372086767 (by decide) _ _).symm hF

theorem State.tswPatch_fit (o : TswRun) (s : State) (hF : s.Fit) : (State.tswPatch o s).Fit := 
  fit_of_hide (State.tswPatch_frame 35184372086767 (by decide) _ _).symm hF

theorem State.tswSwap_fit (s : State) (hF : s.Fit) : (State.tswSwap s).Fit := 
  fit_of_hide (State.tswSwap_frame 35184372086767 (by decide) _).symm hF

theorem State.tswOnce_fit (k : Kind) (src addr data : Nat) (s : State) (hF : s.Fit) : (State.tswOnce k src addr data s).Fit := by
  unfold State.tswOnce
  repeat' (first | with_reducible assumption | simp only [fit_mk, fit_eta] | with_reducible refine foldS_fit _ _ (fun _ _ _ => ?_) _ ?_ | with_reducible refine foldl_fit _ _ (fun _ _ _ => ?_) _ ?_ | with_reducible refine ite_fit (fun _ => ?_) (fun _ => ?_) | with_reducible refine whenS_fit _ _ _ (fun _ _ => ?_) ?_ | with_reducible refine State.raise_fit _ _ _ _ _ ?_ | split)

theorem State.cmRead_fit (b : Bool) (k : Nat) (s : State) (hF : s.Fit) : (State.cmRead b k s).Fit := by
  unfold State.cmRead
  repeat' (first | with_reducible assumption | simp only [fit_mk, fit_eta] | with_reducible refine foldS_fit _ _ (fun _ _ _ => ?_) _ ?_ | with_reducible refine foldl_fit _ _ (fun _ _ _ => ?_) _ ?_ | with_reducible refine ite_fit (fun _ => ?_) (fun _ => ?_) | with_reducible refine whenS_fit _ _ _ (fun _ _ => ?_) ?_ | with_reducible refine State.clearUpset_fit _ _ ?_ | with_reducible refine State.setTswPoison_fit _ _ _ _ ?_ | with_reducible refine State.tswOnce_fit _ _ _ _ _ ?_ | split)

theorem State.cmReadAll_fit (b : Bool) (p : Nat → Bool) (s : State) (hF : s.Fit) : (State.cmReadAll b p s).Fit := by
  unfold State.cmReadAll
  repeat' (first | with_reducible assumption | simp only [fit_mk, fit_eta] | with_reducible refine foldS_fit _ _ (fun _ _ _ => ?_) _ ?_ | with_reducible refine foldl_fit _ _ (fun _ _ _ => ?_) _ ?_ | with_reducible refine ite_fit (fun _ => ?_) (fun _ => ?_) | with_reducible refine whenS_fit _ _ _ (fun _ _ => ?_) ?_ | with_reducible refine State.cmRead_fit _ _ _ ?_ | split)

theorem State.tswCopyDone_fit (s : State) (hF : s.Fit) : (State.tswCopyDone s).Fit := by
  unfold State.tswCopyDone
  repeat' (first | with_reducible assumption | simp only [fit_mk, fit_eta] | with_reducible refine foldS_fit _ _ (fun _ _ _ => ?_) _ ?_ | with_reducible refine foldl_fit _ _ (fun _ _ _ => ?_) _ ?_ | with_reducible refine ite_fit (fun _ => ?_) (fun _ => ?_) | with_reducible refine whenS_fit _ _ _ (fun _ _ => ?_) ?_ | with_reducible refine State.clearUpsets_fit _ _ ?_ | with_reducible refine State.cmReadAll_fit _ _ _ ?_ | with_reducible refine State.setTswPage_fit _ _ _ ?_ | split)

theorem State.tswCopyTick_fit (s : State) (hF : s.Fit) : (State.tswCopyTick s).Fit := by
  unfold State.tswCopyTick
  repeat' (first | with_reducible assumption | simp only [fit_mk, fit_eta] | with_reducible refine foldS_fit _ _ (fun _ _ _ => ?_) _ ?_ | with_reducible refine foldl_fit _ _ (fun _ _ _ => ?_) _ ?_ | with_reducible refine ite_fit (fun _ => ?_) (fun _ => ?_) | with_reducible refine whenS_fit _ _ _ (fun _ _ => ?_) ?_ | with_reducible refine State.tswCopyDone_fit _ ?_ | split)

theorem State.dmRead_fit (r : Fin 8) (half : Bool) (w : Nat) (s : State) (hF : s.Fit) : (State.dmRead r half w s).Fit := by
  unfold State.dmRead
  repeat' (first | with_reducible assumption | simp only [fit_mk, fit_eta] | with_reducible refine foldS_fit _ _ (fun _ _ _ => ?_) _ ?_ | with_reducible refine foldl_fit _ _ (fun _ _ _ => ?_) _ ?_ | with_reducible refine ite_fit (fun _ => ?_) (fun _ => ?_) | with_reducible refine whenS_fit _ _ _ (fun _ _ => ?_) ?_ | with_reducible refine State.clearUpset_fit _ _ ?_ | with_reducible refine State.tswOnce_fit _ _ _ _ _ ?_ | split)

theorem State.tswTurn_fit (s : State) (hF : s.Fit) : (State.tswTurn s).Fit := 
  fit_of_hide (State.tswTurn_frame 35184372086767 (by decide) _).symm hF

theorem State.dmReadAll_fit (s : State) (hF : s.Fit) : (State.dmReadAll s).Fit := by
  unfold State.dmReadAll
  repeat' (first | with_reducible assumption | simp only [fit_mk, fit_eta] | with_reducible refine foldS_fit _ _ (fun _ _ _ => ?_) _ ?_ | with_reducible refine foldl_fit _ _ (fun _ _ _ => ?_) _ ?_ | with_reducible refine ite_fit (fun _ => ?_) (fun _ => ?_) | with_reducible refine whenS_fit _ _ _ (fun _ _ => ?_) ?_ | with_reducible refine State.dmRead_fit _ _ _ _ ?_ | split)

theorem State.readPass_fit (s : State) (hF : s.Fit) : (State.readPass s).Fit := by
  unfold State.readPass
  repeat' (first | with_reducible assumption | simp only [fit_mk, fit_eta] | with_reducible refine foldS_fit _ _ (fun _ _ _ => ?_) _ ?_ | with_reducible refine foldl_fit _ _ (fun _ _ _ => ?_) _ ?_ | with_reducible refine ite_fit (fun _ => ?_) (fun _ => ?_) | with_reducible refine whenS_fit _ _ _ (fun _ _ => ?_) ?_ | with_reducible refine State.clearUpsets_fit _ _ ?_ | with_reducible refine State.cmReadAll_fit _ _ _ ?_ | with_reducible refine State.dmReadAll_fit _ ?_ | split)

theorem State.wipeSlots_fit {α : Type} (r : Nat) (t : Tab α) (s : State) (hF : s.Fit) : (State.wipeSlots r t s).2.Fit := 
  fit_of_hide (State.wipeSlots_frame 35184372086767 (by decide) _ _ _).symm hF

theorem State.wipeConf_fit (r : Nat) (s : State) (hF : s.Fit) : (State.wipeConf r s).2.Fit := 
  fit_of_hide (State.wipeConf_frame 35184372086767 (by decide) _ _).symm hF

theorem State.wipeRest_fit (r : Nat) (begun : Bool) (s : State) (hF : s.Fit) : (State.wipeRest r begun s).Fit := 
  fit_of_hide (State.wipeRest_frame 35184372086767 (by decide) _ _ _).symm hF

theorem State.replicaReset_fit (r : Nat) (s : State) (hF : s.Fit) : (State.replicaReset r s).Fit := 
  fit_of_hide (State.replicaReset_frame 35184372086767 (by decide) _ _).symm hF

theorem State.lateOf_fit (l : List Nat) (s : State) (hF : s.Fit) : (State.lateOf l s).2.Fit := 
  fit_of_hide (State.lateOf_frame 35184372086767 (by decide) _ _).symm hF

theorem State.lateSlots_fit (r w : Nat) (s : State) (hF : s.Fit) : (State.lateSlots r w s).2.Fit := 
  fit_of_hide (State.lateSlots_frame 35184372086767 (by decide) _ _ _).symm hF

theorem State.lateFind_fit (r : Fin 8) (half : Bool) (w : Nat) (double : Bool) (hit : List Nat) (s : State) (hF : s.Fit) : (State.lateFind r half w double hit s).Fit := by
  unfold State.lateFind
  repeat' (first | with_reducible assumption | simp only [fit_mk, fit_eta] | with_reducible refine foldS_fit _ _ (fun _ _ _ => ?_) _ ?_ | with_reducible refine foldl_fit _ _ (fun _ _ _ => ?_) _ ?_ | with_reducible refine ite_fit (fun _ => ?_) (fun _ => ?_) | with_reducible refine whenS_fit _ _ _ (fun _ _ => ?_) ?_ | with_reducible refine State.dmRead_fit _ _ _ _ ?_ | split)

theorem State.lateErrors_fit (l : List Upset) (s : State) (hF : s.Fit) : (State.lateErrors l s).Fit := by
  unfold State.lateErrors
  repeat' (first | with_reducible assumption | simp only [fit_mk, fit_eta] | with_reducible refine foldS_fit _ _ (fun _ _ _ => ?_) _ ?_ | with_reducible refine foldl_fit _ _ (fun _ _ _ => ?_) _ ?_ | with_reducible refine ite_fit (fun _ => ?_) (fun _ => ?_) | with_reducible refine whenS_fit _ _ _ (fun _ _ => ?_) ?_ | with_reducible refine State.lateFind_fit _ _ _ _ _ _ ?_ | with_reducible refine State.lateSlots_fit _ _ _ ?_ | split)

theorem State.tswReadRec_fit (o : TswReadOp) (s : State) (hF : s.Fit) : (State.tswReadRec o s).2.Fit := by
  unfold State.tswReadRec
  repeat' (first | with_reducible assumption | simp only [fit_mk, fit_eta] | with_reducible refine foldS_fit _ _ (fun _ _ _ => ?_) _ ?_ | with_reducible refine foldl_fit _ _ (fun _ _ _ => ?_) _ ?_ | with_reducible refine ite_fit (fun _ => ?_) (fun _ => ?_) | with_reducible refine whenS_fit _ _ _ (fun _ _ => ?_) ?_ | with_reducible refine State.cmRead_fit _ _ _ ?_ | split)

end Sys2Proof.Machine
end

