-- ==== Sys2Proof/Laws/FitUnits.lean ====
section
/-! SUPPORT. `State.Fit` through conferences, protection, streams, GFP and DCC. -/

namespace Sys2Proof.Machine

set_option linter.unusedSimpArgs false
set_option linter.unreachableTactic false
set_option linter.unusedTactic false
set_option linter.unusedVariables false

theorem State.setCnfParts_fit (b : Bool) (t : Tab PEntry) (s : State) (hF : s.Fit) : (State.setCnfParts b t s).Fit := 
  fit_of_hide (State.setCnfParts_frame 35184372086767 (by decide) _ _ _).symm hF

theorem State.setCnfConfs_fit (b : Bool) (t : Tab CEntry) (s : State) (hF : s.Fit) : (State.setCnfConfs b t s).Fit := 
  fit_of_hide (State.setCnfConfs_frame 35184372086767 (by decide) _ _ _).symm hF

theorem State.setCnfPoisP_fit (b : Bool) (t : Tab Bool) (s : State) (hF : s.Fit) : (State.setCnfPoisP b t s).Fit := 
  fit_of_hide (State.setCnfPoisP_frame 35184372086767 (by decide) _ _ _).symm hF

theorem State.setCnfPoisC_fit (b : Bool) (t : Tab Bool) (s : State) (hF : s.Fit) : (State.setCnfPoisC b t s).Fit := 
  fit_of_hide (State.setCnfPoisC_frame 35184372086767 (by decide) _ _ _).symm hF

theorem State.putPart_fit (b : Bool) (p : Nat) (e : PEntry) (s : State) (hF : s.Fit) : (State.putPart b p e s).Fit := 
  fit_of_hide (State.putPart_frame 35184372086767 (by decide) _ _ _ _).symm hF

theorem State.putConf_fit (b : Bool) (c : Nat) (e : CEntry) (s : State) (hF : s.Fit) : (State.putConf b c e s).Fit := 
  fit_of_hide (State.putConf_frame 35184372086767 (by decide) _ _ _ _).symm hF

theorem State.standbyPart_fit (p : Nat) (e : PEntry) (s : State) (hF : s.Fit) : (State.standbyPart p e s).Fit := 
  fit_of_hide (State.standbyPart_frame 35184372086767 (by decide) _ _ _).symm hF

theorem State.standbyConf_fit (c : Nat) (e : CEntry) (s : State) (hF : s.Fit) : (State.standbyConf c e s).Fit := 
  fit_of_hide (State.standbyConf_frame 35184372086767 (by decide) _ _ _).symm hF

theorem State.cnfCreate_fit (c : Nat) (o : ConfSet) (s : State) (hF : s.Fit) : (State.cnfCreate c o s).Fit := 
  fit_of_hide (State.cnfCreate_frame 35184372086767 (by decide) _ _ _).symm hF

theorem State.cnfJoin_fit (p : Nat) (o : PartSet) (s : State) (hF : s.Fit) : (State.cnfJoin p o s).Fit := 
  fit_of_hide (State.cnfJoin_frame 35184372086767 (by decide) _ _ _).symm hF

theorem State.cnfLeave_fit (p : Nat) (s : State) (hF : s.Fit) : (State.cnfLeave p s).Fit := 
  fit_of_hide (State.cnfLeave_frame 35184372086767 (by decide) _ _).symm hF

theorem State.cnfDestroy_fit (c : Nat) (s : State) (hF : s.Fit) : (State.cnfDestroy c s).2.Fit := 
  fit_of_hide (State.cnfDestroy_frame 35184372086767 (by decide) _ _).symm hF

theorem State.cnfModify_fit (o : CnfMod) (s : State) (hF : s.Fit) : (State.cnfModify o s).2.Fit := 
  fit_of_hide (State.cnfModify_frame 35184372086767 (by decide) _ _).symm hF

theorem State.cnfOnce_fit (k : Kind) (src addr data : Nat) (s : State) (hF : s.Fit) : (State.cnfOnce k src addr data s).Fit := by
  unfold State.cnfOnce
  repeat' (first | with_reducible assumption | simp only [fit_mk, fit_eta] | with_reducible refine foldS_fit _ _ (fun _ _ _ => ?_) _ ?_ | with_reducible refine foldl_fit _ _ (fun _ _ _ => ?_) _ ?_ | with_reducible refine ite_fit (fun _ => ?_) (fun _ => ?_) | with_reducible refine whenS_fit _ _ _ (fun _ _ => ?_) ?_ | with_reducible refine State.raise_fit _ _ _ _ _ ?_ | split)

theorem State.cnfEcc_fit (double : Bool) (unit addr : Nat) (s : State) (hF : s.Fit) : (State.cnfEcc double unit addr s).Fit := 
  fit_of_hide (State.cnfEcc_frame 35184372086767 (by decide) _ _ _ _).symm hF

theorem State.rsRead_fit (isConf b : Bool) (i : Nat) (s : State) (hF : s.Fit) : (State.rsRead isConf b i s).Fit := by
  unfold State.rsRead
  repeat' (first | with_reducible assumption | simp only [fit_mk, fit_eta] | with_reducible refine foldS_fit _ _ (fun _ _ _ => ?_) _ ?_ | with_reducible refine foldl_fit _ _ (fun _ _ _ => ?_) _ ?_ | with_reducible refine ite_fit (fun _ => ?_) (fun _ => ?_) | with_reducible refine whenS_fit _ _ _ (fun _ _ => ?_) ?_ | with_reducible refine State.clearUpset_fit _ _ ?_ | with_reducible refine State.cnfEcc_fit _ _ _ _ ?_ | with_reducible refine State.cnfOnce_fit _ _ _ _ _ ?_ | with_reducible refine State.setCnfPoisC_fit _ _ _ ?_ | with_reducible refine State.setCnfPoisP_fit _ _ _ ?_ | split)

theorem State.rsReadAll_fit (isConf b : Bool) (s : State) (hF : s.Fit) : (State.rsReadAll isConf b s).Fit := by
  unfold State.rsReadAll
  repeat' (first | with_reducible assumption | simp only [fit_mk, fit_eta] | with_reducible refine foldS_fit _ _ (fun _ _ _ => ?_) _ ?_ | with_reducible refine foldl_fit _ _ (fun _ _ _ => ?_) _ ?_ | with_reducible refine ite_fit (fun _ => ?_) (fun _ => ?_) | with_reducible refine whenS_fit _ _ _ (fun _ _ => ?_) ?_ | with_reducible refine State.rsRead_fit _ _ _ _ ?_ | split)

theorem State.cnfCopyDone_fit (s : State) (hF : s.Fit) : (State.cnfCopyDone s).Fit := by
  unfold State.cnfCopyDone
  repeat' (first | with_reducible assumption | simp only [fit_mk, fit_eta] | with_reducible refine foldS_fit _ _ (fun _ _ _ => ?_) _ ?_ | with_reducible refine foldl_fit _ _ (fun _ _ _ => ?_) _ ?_ | with_reducible refine ite_fit (fun _ => ?_) (fun _ => ?_) | with_reducible refine whenS_fit _ _ _ (fun _ _ => ?_) ?_ | with_reducible refine State.rsReadAll_fit _ _ _ ?_ | with_reducible refine State.setCnfConfs_fit _ _ _ ?_ | with_reducible refine State.setCnfParts_fit _ _ _ ?_ | with_reducible refine State.setCnfPoisC_fit _ _ _ ?_ | with_reducible refine State.setCnfPoisP_fit _ _ _ ?_ | split)

theorem State.cnfCopyTick_fit (s : State) (hF : s.Fit) : (State.cnfCopyTick s).Fit := by
  unfold State.cnfCopyTick
  repeat' (first | with_reducible assumption | simp only [fit_mk, fit_eta] | with_reducible refine foldS_fit _ _ (fun _ _ _ => ?_) _ ?_ | with_reducible refine foldl_fit _ _ (fun _ _ _ => ?_) _ ?_ | with_reducible refine ite_fit (fun _ => ?_) (fun _ => ?_) | with_reducible refine whenS_fit _ _ _ (fun _ _ => ?_) ?_ | with_reducible refine State.cnfCopyDone_fit _ ?_ | split)

theorem State.cnfSwap_fit (s : State) (hF : s.Fit) : (State.cnfSwap s).Fit := 
  fit_of_hide (State.cnfSwap_frame 35184372086767 (by decide) _).symm hF

theorem State.setLaneSt_fit (p : Nat) (x : LaneSt) (s : State) (hF : s.Fit) : (State.setLaneSt p x s).Fit := 
  fit_of_hide (State.setLaneSt_frame 35184372086767 (by decide) _ _ _).symm hF

theorem State.setSpk_fit (c : Nat) (x : Spk) (s : State) (hF : s.Fit) : (State.setSpk c x s).Fit := 
  fit_of_hide (State.setSpk_frame 35184372086767 (by decide) _ _ _).symm hF

theorem State.cnfChanges_fit (o s : State) (hF : s.Fit) : (State.cnfChanges o s).Fit := 
  fit_of_hide (State.cnfChanges_frame 35184372086767 (by decide) _ _).symm hF

theorem State.laneErrors_fit (s : State) (hF : s.Fit) : (State.laneErrors s).2.Fit := by
  unfold State.laneErrors
  refine foldl_snd_fit _ _ (fun a u ha => ?_) _ hF
  split
  · split
    · exact ha
    · dsimp only
      split
      · exact State.setLaneSt_fit _ _ _ (State.cnfOnce_fit _ _ _ _ _ (State.cnfEcc_fit _ _ _ _ (State.clearUpset_fit _ _ ha)))
      · exact State.cnfOnce_fit _ _ _ _ _ (State.cnfEcc_fit _ _ _ _ (State.clearUpset_fit _ _ ha))
  · exact ha

theorem State.lanePart_fit (struck : List Nat) (p : Nat) (s : State) (hF : s.Fit) : (State.lanePart struck p s).Fit := 
  fit_of_hide (State.lanePart_frame 35184372086767 (by decide) _ _ _).symm hF

theorem State.lanePass_fit (s : State) (hF : s.Fit) : (State.lanePass s).Fit := by
  unfold State.lanePass
  repeat' (first | with_reducible assumption | simp only [fit_mk, fit_eta] | with_reducible refine foldS_fit _ _ (fun _ _ _ => ?_) _ ?_ | with_reducible refine foldl_fit _ _ (fun _ _ _ => ?_) _ ?_ | with_reducible refine ite_fit (fun _ => ?_) (fun _ => ?_) | with_reducible refine whenS_fit _ _ _ (fun _ _ => ?_) ?_ | with_reducible refine State.laneErrors_fit _ ?_ | with_reducible refine State.lanePart_fit _ _ _ ?_ | with_reducible refine State.rsReadAll_fit _ _ _ ?_ | split)

theorem State.decideConf_fit (c : Nat) (s : State) (hF : s.Fit) : (State.decideConf c s).Fit := 
  fit_of_hide (State.decideConf_frame 35184372086767 (by decide) _ _).symm hF

theorem State.putInput_fit (k : Nat) (b : Byte) (s : State) (hF : s.Fit) : (State.putInput k b s).Fit := 
  fit_of_hide (State.putInput_frame 35184372086767 (by decide) _ _ _).symm hF

theorem State.colErrors_fit (s : State) (hF : s.Fit) : (State.colErrors s).2.Fit := by
  unfold State.colErrors
  refine foldl_snd_fit _ _ (fun a u ha => ?_) _ hF
  split
  · split
    · exact ha
    · dsimp only
      split <;> exact State.cnfOnce_fit _ _ _ _ _ (State.cnfEcc_fit _ _ _ _ (State.clearUpset_fit _ _ ha))
  · exact ha

theorem State.collectConf_fit (muted : List Nat) (c : Nat) (s : State) (hF : s.Fit) : (State.collectConf muted c s).Fit := 
  fit_of_hide (State.collectConf_frame 35184372086767 (by decide) _ _ _).symm hF

theorem State.collect_fit (s : State) (hF : s.Fit) : (State.collect s).Fit := by
  unfold State.collect
  repeat' (first | with_reducible assumption | simp only [fit_mk, fit_eta] | with_reducible refine foldS_fit _ _ (fun _ _ _ => ?_) _ ?_ | with_reducible refine foldl_fit _ _ (fun _ _ _ => ?_) _ ?_ | with_reducible refine ite_fit (fun _ => ?_) (fun _ => ?_) | with_reducible refine whenS_fit _ _ _ (fun _ _ => ?_) ?_ | with_reducible refine State.colErrors_fit _ ?_ | with_reducible refine State.collectConf_fit _ _ _ ?_ | with_reducible refine State.rsReadAll_fit _ _ _ ?_ | split)

theorem State.collectLate_fit (s : State) (hF : s.Fit) : (State.collectLate s).Fit := by
  unfold State.collectLate
  repeat' (first | with_reducible assumption | simp only [fit_mk, fit_eta] | with_reducible refine foldS_fit _ _ (fun _ _ _ => ?_) _ ?_ | with_reducible refine foldl_fit _ _ (fun _ _ _ => ?_) _ ?_ | with_reducible refine ite_fit (fun _ => ?_) (fun _ => ?_) | with_reducible refine whenS_fit _ _ _ (fun _ _ => ?_) ?_ | with_reducible refine State.cnfOnce_fit _ _ _ _ _ ?_ | with_reducible refine State.collect_fit _ ?_ | with_reducible refine State.putInput_fit _ _ _ ?_ | with_reducible refine State.takeFree_fit _ _ ?_ | split)

theorem State.confFinish_fit (s : State) (hF : s.Fit) : (State.confFinish s).Fit := by
  unfold State.confFinish
  repeat' (first | with_reducible assumption | simp only [fit_mk, fit_eta] | with_reducible refine foldS_fit _ _ (fun _ _ _ => ?_) _ ?_ | with_reducible refine foldl_fit _ _ (fun _ _ _ => ?_) _ ?_ | with_reducible refine ite_fit (fun _ => ?_) (fun _ => ?_) | with_reducible refine whenS_fit _ _ _ (fun _ _ => ?_) ?_ | with_reducible refine State.collect_fit _ ?_ | with_reducible refine State.lanePass_fit _ ?_ | split)

theorem State.confTurn_fit (s : State) (hF : s.Fit) : (State.confTurn s).Fit := 
  fit_of_hide (State.confTurn_frame 35184372086767 (by decide) _).symm hF

theorem State.laneReset_fit (l : Nat) (s : State) (hF : s.Fit) : (State.laneReset l s).Fit := by
  unfold State.laneReset
  repeat' (first | with_reducible assumption | simp only [fit_mk, fit_eta] | with_reducible refine foldS_fit _ _ (fun _ _ _ => ?_) _ ?_ | with_reducible refine foldl_fit _ _ (fun _ _ _ => ?_) _ ?_ | with_reducible refine ite_fit (fun _ => ?_) (fun _ => ?_) | with_reducible refine whenS_fit _ _ _ (fun _ _ => ?_) ?_ | with_reducible refine State.lanePass_fit _ ?_ | split)

theorem State.speakerRaise_fit (c : Nat) (s : State) (hF : s.Fit) : (State.speakerRaise c s).Fit := by
  unfold State.speakerRaise
  repeat' (first | with_reducible assumption | simp only [fit_mk, fit_eta] | with_reducible refine foldS_fit _ _ (fun _ _ _ => ?_) _ ?_ | with_reducible refine foldl_fit _ _ (fun _ _ _ => ?_) _ ?_ | with_reducible refine ite_fit (fun _ => ?_) (fun _ => ?_) | with_reducible refine whenS_fit _ _ _ (fun _ _ => ?_) ?_ | with_reducible refine State.raiseU_fit _ _ _ _ _ _ ?_ | with_reducible refine State.setSpk_fit _ _ _ ?_ | split)

theorem State.speakerBoundary_fit (s : State) (hF : s.Fit) : (State.speakerBoundary s).Fit := by
  unfold State.speakerBoundary
  repeat' (first | with_reducible assumption | simp only [fit_mk, fit_eta] | with_reducible refine foldS_fit _ _ (fun _ _ _ => ?_) _ ?_ | with_reducible refine foldl_fit _ _ (fun _ _ _ => ?_) _ ?_ | with_reducible refine ite_fit (fun _ => ?_) (fun _ => ?_) | with_reducible refine whenS_fit _ _ _ (fun _ _ => ?_) ?_ | with_reducible refine State.setSpk_fit _ _ _ ?_ | with_reducible refine State.speakerRaise_fit _ _ ?_ | split)

theorem State.toneLoad_fit (d : Nat) (t : ToneDef) (s : State) (hF : s.Fit) : (State.toneLoad d t s).Fit := 
  fit_of_hide (State.toneLoad_frame 35184372086767 (by decide) _ _ _).symm hF

theorem State.readFinds_fit (o : Nat) (s : State) (hF : s.Fit) : (State.readFinds o s).Fit := by
  unfold State.readFinds
  repeat' (first | with_reducible assumption | simp only [fit_mk, fit_eta] | with_reducible refine foldS_fit _ _ (fun _ _ _ => ?_) _ ?_ | with_reducible refine foldl_fit _ _ (fun _ _ _ => ?_) _ ?_ | with_reducible refine ite_fit (fun _ => ?_) (fun _ => ?_) | with_reducible refine whenS_fit _ _ _ (fun _ _ => ?_) ?_ | with_reducible refine State.cmRead_fit _ _ _ ?_ | with_reducible refine State.rsRead_fit _ _ _ _ ?_ | split)

theorem execLanePass_fit (s : State) (hF : s.Fit) : (after1 (execLanePass ) s).Fit := by
  unfold after1 execLanePass
  repeat' (first | with_reducible assumption | simp only [fit_mk, fit_eta] | with_reducible refine foldS_fit _ _ (fun _ _ _ => ?_) _ ?_ | with_reducible refine foldl_fit _ _ (fun _ _ _ => ?_) _ ?_ | with_reducible refine ite_fit (fun _ => ?_) (fun _ => ?_) | with_reducible refine whenS_fit _ _ _ (fun _ _ => ?_) ?_ | with_reducible refine State.lanePass_fit _ ?_ | split)

theorem execCollectorWindow_fit (late : Bool) (s : State) (hF : s.Fit) : (after1 (execCollectorWindow late) s).Fit := by
  unfold after1 execCollectorWindow
  repeat' (first | with_reducible assumption | simp only [fit_mk, fit_eta] | with_reducible refine foldS_fit _ _ (fun _ _ _ => ?_) _ ?_ | with_reducible refine foldl_fit _ _ (fun _ _ _ => ?_) _ ?_ | with_reducible refine ite_fit (fun _ => ?_) (fun _ => ?_) | with_reducible refine whenS_fit _ _ _ (fun _ _ => ?_) ?_ | with_reducible refine State.collectLate_fit _ ?_ | with_reducible refine State.collect_fit _ ?_ | with_reducible refine State.lanePass_fit _ ?_ | split)

theorem execSpeakerHoldoffExpiry_fit (c : Fin 16384) (s : State) (hF : s.Fit) : (after1 (execSpeakerHoldoffExpiry c) s).Fit := by
  unfold after1 execSpeakerHoldoffExpiry
  repeat' (first | with_reducible assumption | simp only [fit_mk, fit_eta] | with_reducible refine foldS_fit _ _ (fun _ _ _ => ?_) _ ?_ | with_reducible refine foldl_fit _ _ (fun _ _ _ => ?_) _ ?_ | with_reducible refine ite_fit (fun _ => ?_) (fun _ => ?_) | with_reducible refine whenS_fit _ _ _ (fun _ _ => ?_) ?_ | with_reducible refine State.setSpk_fit _ _ _ ?_ | with_reducible refine State.speakerRaise_fit _ _ ?_ | split)

theorem State.protDrop_fit (kind g : Nat) (x : Group) (far : Option Nat) (s : State) (hF : s.Fit) : (State.protDrop kind g x far s).2.Fit := by
  unfold State.protDrop
  repeat' (first | with_reducible assumption | simp only [fit_mk, fit_eta] | with_reducible refine foldS_fit _ _ (fun _ _ _ => ?_) _ ?_ | with_reducible refine foldl_fit _ _ (fun _ _ _ => ?_) _ ?_ | with_reducible refine ite_fit (fun _ => ?_) (fun _ => ?_) | with_reducible refine whenS_fit _ _ _ (fun _ _ => ?_) ?_ | with_reducible refine State.prtEvent_fit _ _ _ _ _ _ ?_ | split)

theorem State.groupRead_fit (kind : Fin 4) (g : Nat) (s : State) (hF : s.Fit) : (State.groupRead kind g s).Fit := by
  unfold State.groupRead
  repeat' (first | with_reducible assumption | simp only [fit_mk, fit_eta] | with_reducible refine foldS_fit _ _ (fun _ _ _ => ?_) _ ?_ | with_reducible refine foldl_fit _ _ (fun _ _ _ => ?_) _ ?_ | with_reducible refine ite_fit (fun _ => ?_) (fun _ => ?_) | with_reducible refine whenS_fit _ _ _ (fun _ _ => ?_) ?_ | with_reducible refine State.clearUpset_fit _ _ ?_ | with_reducible refine State.raise_fit _ _ _ _ _ ?_ | with_reducible refine State.setGroup_fit _ _ _ _ ?_ | split)

theorem State.protEval_fit (kind g : Nat) (x : Group) (s : State) (hF : s.Fit) : (State.protEval kind g x s).Fit := by
  unfold State.protEval
  repeat' (first | with_reducible assumption | simp only [fit_mk, fit_eta] | with_reducible refine foldS_fit _ _ (fun _ _ _ => ?_) _ ?_ | with_reducible refine foldl_fit _ _ (fun _ _ _ => ?_) _ ?_ | with_reducible refine ite_fit (fun _ => ?_) (fun _ => ?_) | with_reducible refine whenS_fit _ _ _ (fun _ _ => ?_) ?_ | with_reducible refine State.protDrop_fit _ _ _ _ _ ?_ | with_reducible refine State.setGroup_fit _ _ _ _ ?_ | split)

theorem State.protDecide_fit (kind : Fin 4) (g : Nat) (s : State) (hF : s.Fit) : (State.protDecide kind g s).Fit := by
  unfold State.protDecide
  repeat' (first | with_reducible assumption | simp only [fit_mk, fit_eta] | with_reducible refine foldS_fit _ _ (fun _ _ _ => ?_) _ ?_ | with_reducible refine foldl_fit _ _ (fun _ _ _ => ?_) _ ?_ | with_reducible refine ite_fit (fun _ => ?_) (fun _ => ?_) | with_reducible refine whenS_fit _ _ _ (fun _ _ => ?_) ?_ | with_reducible refine State.groupRead_fit _ _ _ ?_ | with_reducible refine State.protEval_fit _ _ _ _ ?_ | split)

theorem State.protMove_fit (kind g : Nat) (s : State) (hF : s.Fit) : (State.protMove kind g s).Fit := by
  unfold State.protMove
  repeat' (first | with_reducible assumption | simp only [fit_mk, fit_eta] | with_reducible refine foldS_fit _ _ (fun _ _ _ => ?_) _ ?_ | with_reducible refine foldl_fit _ _ (fun _ _ _ => ?_) _ ?_ | with_reducible refine ite_fit (fun _ => ?_) (fun _ => ?_) | with_reducible refine whenS_fit _ _ _ (fun _ _ => ?_) ?_ | with_reducible refine State.prtEvent_fit _ _ _ _ _ _ ?_ | with_reducible refine State.setGroup_fit _ _ _ _ ?_ | split)

theorem State.protMoves_fit (n : Nat) (s : State) (hF : s.Fit) : (State.protMoves n s).Fit := by
  unfold State.protMoves
  repeat' (first | with_reducible assumption | simp only [fit_mk, fit_eta] | with_reducible refine foldS_fit _ _ (fun _ _ _ => ?_) _ ?_ | with_reducible refine foldl_fit _ _ (fun _ _ _ => ?_) _ ?_ | with_reducible refine ite_fit (fun _ => ?_) (fun _ => ?_) | with_reducible refine whenS_fit _ _ _ (fun _ _ => ?_) ?_ | with_reducible refine State.protMove_fit _ _ _ ?_ | with_reducible refine State.setGroup_fit _ _ _ _ ?_ | split)

theorem State.setFop_fit (g : Nat) (on mis : Bool) (s : State) (hF : s.Fit) : (State.setFop g on mis s).Fit := by
  unfold State.setFop
  repeat' (first | with_reducible assumption | simp only [fit_mk, fit_eta] | with_reducible refine foldS_fit _ _ (fun _ _ _ => ?_) _ ?_ | with_reducible refine foldl_fit _ _ (fun _ _ _ => ?_) _ ?_ | with_reducible refine ite_fit (fun _ => ?_) (fun _ => ?_) | with_reducible refine whenS_fit _ _ _ (fun _ _ => ?_) ?_ | with_reducible refine State.prtEvent_fit _ _ _ _ _ _ ?_ | with_reducible refine State.setGroup_fit _ _ _ _ ?_ | split)

theorem State.setModeMm_fit (g : Nat) (on : Bool) (s : State) (hF : s.Fit) : (State.setModeMm g on s).Fit := by
  unfold State.setModeMm
  repeat' (first | with_reducible assumption | simp only [fit_mk, fit_eta] | with_reducible refine foldS_fit _ _ (fun _ _ _ => ?_) _ ?_ | with_reducible refine foldl_fit _ _ (fun _ _ _ => ?_) _ ?_ | with_reducible refine ite_fit (fun _ => ?_) (fun _ => ?_) | with_reducible refine whenS_fit _ _ _ (fun _ _ => ?_) ?_ | with_reducible refine State.prtEvent_fit _ _ _ _ _ _ ?_ | with_reducible refine State.setGroup_fit _ _ _ _ ?_ | split)

theorem State.kWatch_fit (g : Nat) (frame : Bool) (s : State) (hF : s.Fit) : (State.kWatch g frame s).Fit := by
  unfold State.kWatch
  repeat' (first | with_reducible assumption | simp only [fit_mk, fit_eta] | with_reducible refine foldS_fit _ _ (fun _ _ _ => ?_) _ ?_ | with_reducible refine foldl_fit _ _ (fun _ _ _ => ?_) _ ?_ | with_reducible refine ite_fit (fun _ => ?_) (fun _ => ?_) | with_reducible refine whenS_fit _ _ _ (fun _ _ => ?_) ?_ | with_reducible refine State.setFop_fit _ _ _ _ ?_ | with_reducible refine State.setGroup_fit _ _ _ _ ?_ | with_reducible refine State.setModeMm_fit _ _ _ ?_ | split)

theorem State.exerAnswer_fit (g k1 : Nat) (s : State) (hF : s.Fit) : (State.exerAnswer g k1 s).Fit := 
  fit_of_hide (State.exerAnswer_frame 35184372086767 (by decide) _ _ _).symm hF

theorem State.exerEnd_fit (g : Nat) (s : State) (hF : s.Fit) : (State.exerEnd g s).Fit := by
  unfold State.exerEnd
  repeat' (first | with_reducible assumption | simp only [fit_mk, fit_eta] | with_reducible refine foldS_fit _ _ (fun _ _ _ => ?_) _ ?_ | with_reducible refine foldl_fit _ _ (fun _ _ _ => ?_) _ ?_ | with_reducible refine ite_fit (fun _ => ?_) (fun _ => ?_) | with_reducible refine whenS_fit _ _ _ (fun _ _ => ?_) ?_ | with_reducible refine State.protDecide_fit _ _ _ ?_ | with_reducible refine State.prtEvent_fit _ _ _ _ _ _ ?_ | with_reducible refine State.setGroup_fit _ _ _ _ ?_ | split)

theorem State.kProtocol_fit (g : Nat) (s : State) (hF : s.Fit) : (State.kProtocol g s).Fit := by
  unfold State.kProtocol
  repeat' (first | with_reducible assumption | simp only [fit_mk, fit_eta] | with_reducible refine foldS_fit _ _ (fun _ _ _ => ?_) _ ?_ | with_reducible refine foldl_fit _ _ (fun _ _ _ => ?_) _ ?_ | with_reducible refine ite_fit (fun _ => ?_) (fun _ => ?_) | with_reducible refine whenS_fit _ _ _ (fun _ _ => ?_) ?_ | with_reducible refine State.kWatch_fit _ _ _ ?_ | with_reducible refine State.protDecide_fit _ _ _ ?_ | with_reducible refine State.setGroup_fit _ _ _ _ ?_ | split)

theorem State.rxLine_fit (n : Nat) (b : List Byte) (s : State) (hF : s.Fit) : (State.rxLine n b s).Fit := by
  unfold State.rxLine
  repeat' (first | with_reducible assumption | simp only [fit_mk, fit_eta] | with_reducible refine foldS_fit _ _ (fun _ _ _ => ?_) _ ?_ | with_reducible refine foldl_fit _ _ (fun _ _ _ => ?_) _ ?_ | with_reducible refine ite_fit (fun _ => ?_) (fun _ => ?_) | with_reducible refine whenS_fit _ _ _ (fun _ _ => ?_) ?_ | with_reducible refine State.exerAnswer_fit _ _ _ ?_ | with_reducible refine State.kWatch_fit _ _ _ ?_ | with_reducible refine State.protMoves_fit _ _ ?_ | with_reducible refine State.rxFrame_fit _ _ _ ?_ | split)

theorem State.timersOver_fit (kind : Fin 4) (g : Nat) (s : State) (hF : s.Fit) : (State.timersOver kind g s).Fit := 
  fit_of_hide (State.timersOver_frame 35184372086767 (by decide) _ _ _).symm hF

theorem State.mergeStart_fit (o : ProtOp) (s : State) (hF : s.Fit) : (State.mergeStart o s).Fit := by
  unfold State.mergeStart
  repeat' (first | with_reducible assumption | simp only [fit_mk, fit_eta] | with_reducible refine foldS_fit _ _ (fun _ _ _ => ?_) _ ?_ | with_reducible refine foldl_fit _ _ (fun _ _ _ => ?_) _ ?_ | with_reducible refine ite_fit (fun _ => ?_) (fun _ => ?_) | with_reducible refine whenS_fit _ _ _ (fun _ _ => ?_) ?_ | with_reducible refine State.modTrib_fit _ _ _ ?_ | split)

theorem State.groupDelete_fit (kind g : Nat) (s : State) (hF : s.Fit) : (State.groupDelete kind g s).Fit := by
  unfold State.groupDelete
  repeat' (first | with_reducible assumption | simp only [fit_mk, fit_eta] | with_reducible refine foldS_fit _ _ (fun _ _ _ => ?_) _ ?_ | with_reducible refine foldl_fit _ _ (fun _ _ _ => ?_) _ ?_ | with_reducible refine ite_fit (fun _ => ?_) (fun _ => ?_) | with_reducible refine whenS_fit _ _ _ (fun _ _ => ?_) ?_ | with_reducible refine State.modTrib_fit _ _ _ ?_ | with_reducible refine State.setGroup_fit _ _ _ _ ?_ | split)

theorem State.protGroup_fit (o : ProtOp) (s : State) (hF : s.Fit) : (State.protGroup o s).Fit := by
  unfold State.protGroup
  repeat' (first | with_reducible assumption | simp only [fit_mk, fit_eta] | with_reducible refine foldS_fit _ _ (fun _ _ _ => ?_) _ ?_ | with_reducible refine foldl_fit _ _ (fun _ _ _ => ?_) _ ?_ | with_reducible refine ite_fit (fun _ => ?_) (fun _ => ?_) | with_reducible refine whenS_fit _ _ _ (fun _ _ => ?_) ?_ | with_reducible refine State.groupDelete_fit _ _ _ ?_ | with_reducible refine State.mergeStart_fit _ _ ?_ | with_reducible refine State.protDecide_fit _ _ _ ?_ | with_reducible refine State.setGroup_fit _ _ _ _ ?_ | with_reducible refine State.timersOver_fit _ _ _ ?_ | with_reducible refine State.wordWritten_fit _ _ ?_ | split)

theorem State.protCmd_fit (kind : Fin 4) (g code : Nat) (s : State) (hF : s.Fit) : (State.protCmd kind g code s).2.Fit := by
  unfold State.protCmd
  repeat' (first | with_reducible assumption | simp only [fit_mk, fit_eta] | with_reducible refine foldS_fit _ _ (fun _ _ _ => ?_) _ ?_ | with_reducible refine foldl_fit _ _ (fun _ _ _ => ?_) _ ?_ | with_reducible refine ite_fit (fun _ => ?_) (fun _ => ?_) | with_reducible refine whenS_fit _ _ _ (fun _ _ => ?_) ?_ | with_reducible refine State.groupRead_fit _ _ _ ?_ | with_reducible refine State.protDecide_fit _ _ _ ?_ | with_reducible refine State.setGroup_fit _ _ _ _ ?_ | split)

theorem State.protTick_fit (s : State) (hF : s.Fit) : (State.protTick s).Fit := by
  unfold State.protTick
  repeat' (first | with_reducible assumption | simp only [fit_mk, fit_eta] | with_reducible refine foldS_fit _ _ (fun _ _ _ => ?_) _ ?_ | with_reducible refine foldl_fit _ _ (fun _ _ _ => ?_) _ ?_ | with_reducible refine ite_fit (fun _ => ?_) (fun _ => ?_) | with_reducible refine whenS_fit _ _ _ (fun _ _ => ?_) ?_ | with_reducible refine State.protMove_fit _ _ _ ?_ | split)

theorem State.protJudge_fit (s : State) (hF : s.Fit) : (State.protJudge s).Fit := by
  unfold State.protJudge
  repeat' (first | with_reducible assumption | simp only [fit_mk, fit_eta] | with_reducible refine foldS_fit _ _ (fun _ _ _ => ?_) _ ?_ | with_reducible refine foldl_fit _ _ (fun _ _ _ => ?_) _ ?_ | with_reducible refine ite_fit (fun _ => ?_) (fun _ => ?_) | with_reducible refine whenS_fit _ _ _ (fun _ _ => ?_) ?_ | with_reducible refine State.protDecide_fit _ _ _ ?_ | split)

theorem State.unitReset_fit (q : Nat) (s : State) (hF : s.Fit) : (State.unitReset q s).Fit := 
  fit_of_hide (State.unitReset_frame 35184372086767 (by decide) _ _).symm hF

theorem execRxLineFrame_fit (n : Fin 32) (b : List Byte) (s : State) (hF : s.Fit) : (after1 (execRxLineFrame n b) s).Fit := by
  unfold after1 execRxLineFrame
  repeat' (first | with_reducible assumption | simp only [fit_mk, fit_eta] | with_reducible refine foldS_fit _ _ (fun _ _ _ => ?_) _ ?_ | with_reducible refine foldl_fit _ _ (fun _ _ _ => ?_) _ ?_ | with_reducible refine ite_fit (fun _ => ?_) (fun _ => ?_) | with_reducible refine whenS_fit _ _ _ (fun _ _ => ?_) ?_ | with_reducible refine State.rxLine_fit _ _ _ ?_ | split)

theorem execSelectorDecision_fit (kind : Fin 4) (g : Nat) (s : State) (hF : s.Fit) : (after1 (execSelectorDecision kind g) s).Fit := by
  unfold after1 execSelectorDecision
  repeat' (first | with_reducible assumption | simp only [fit_mk, fit_eta] | with_reducible refine foldS_fit _ _ (fun _ _ _ => ?_) _ ?_ | with_reducible refine foldl_fit _ _ (fun _ _ _ => ?_) _ ?_ | with_reducible refine ite_fit (fun _ => ?_) (fun _ => ?_) | with_reducible refine whenS_fit _ _ _ (fun _ _ => ?_) ?_ | with_reducible refine State.protDecide_fit _ _ _ ?_ | split)

theorem execHoldoffExpiry_fit (kind : Fin 4) (g : Nat) (side : Bool) (s : State) (hF : s.Fit) : (after1 (execHoldoffExpiry kind g side) s).Fit := by
  unfold after1 execHoldoffExpiry
  repeat' (first | with_reducible assumption | simp only [fit_mk, fit_eta] | with_reducible refine foldS_fit _ _ (fun _ _ _ => ?_) _ ?_ | with_reducible refine foldl_fit _ _ (fun _ _ _ => ?_) _ ?_ | with_reducible refine ite_fit (fun _ => ?_) (fun _ => ?_) | with_reducible refine whenS_fit _ _ _ (fun _ _ => ?_) ?_ | with_reducible refine State.protEval_fit _ _ _ _ ?_ | split)

theorem execWtrExpiry_fit (kind : Fin 4) (g : Nat) (s : State) (hF : s.Fit) : (after1 (execWtrExpiry kind g) s).Fit := by
  unfold after1 execWtrExpiry
  repeat' (first | with_reducible assumption | simp only [fit_mk, fit_eta] | with_reducible refine foldS_fit _ _ (fun _ _ _ => ?_) _ ?_ | with_reducible refine foldl_fit _ _ (fun _ _ _ => ?_) _ ?_ | with_reducible refine ite_fit (fun _ => ?_) (fun _ => ?_) | with_reducible refine whenS_fit _ _ _ (fun _ _ => ?_) ?_ | with_reducible refine State.protEval_fit _ _ _ _ ?_ | split)

theorem execProtSw_fit (kind : Fin 4) (g : Nat) (s : State) (hF : s.Fit) : (after1 (execProtSw kind g) s).Fit := by
  unfold after1 execProtSw
  repeat' (first | with_reducible assumption | simp only [fit_mk, fit_eta] | with_reducible refine foldS_fit _ _ (fun _ _ _ => ?_) _ ?_ | with_reducible refine foldl_fit _ _ (fun _ _ _ => ?_) _ ?_ | with_reducible refine ite_fit (fun _ => ?_) (fun _ => ?_) | with_reducible refine whenS_fit _ _ _ (fun _ _ => ?_) ?_ | with_reducible refine State.protMove_fit _ _ _ ?_ | split)

theorem execK1Protocol_fit (i : Fin 16) (s : State) (hF : s.Fit) : (after1 (execK1Protocol i) s).Fit := by
  unfold after1 execK1Protocol
  repeat' (first | with_reducible assumption | simp only [fit_mk, fit_eta] | with_reducible refine foldS_fit _ _ (fun _ _ _ => ?_) _ ?_ | with_reducible refine foldl_fit _ _ (fun _ _ _ => ?_) _ ?_ | with_reducible refine ite_fit (fun _ => ?_) (fun _ => ?_) | with_reducible refine whenS_fit _ _ _ (fun _ _ => ?_) ?_ | with_reducible refine State.kProtocol_fit _ _ ?_ | split)

theorem execProtExer_fit (i : Fin 16) (s : State) (hF : s.Fit) : (after1 (execProtExer i) s).Fit := by
  unfold after1 execProtExer
  repeat' (first | with_reducible assumption | simp only [fit_mk, fit_eta] | with_reducible refine foldS_fit _ _ (fun _ _ _ => ?_) _ ?_ | with_reducible refine foldl_fit _ _ (fun _ _ _ => ?_) _ ?_ | with_reducible refine ite_fit (fun _ => ?_) (fun _ => ?_) | with_reducible refine whenS_fit _ _ _ (fun _ _ => ?_) ?_ | with_reducible refine State.exerEnd_fit _ _ ?_ | split)

theorem State.setStrm_fit (g : Nat) (x : Stream) (s : State) (hF : s.Fit) : (State.setStrm g x s).Fit := 
  fit_of_hide (State.setStrm_frame 35184372086767 (by decide) _ _ _).symm hF

theorem State.modStrm_fit (g : Nat) (f : Stream → Stream) (s : State) (hF : s.Fit) : (State.modStrm g f s).Fit := 
  fit_of_hide (State.modStrm_frame 35184372086767 (by decide) _ _ _).symm hF

theorem State.strEvent_fit (seen : Bool) (bit : Nat) (k : Kind) (g : Nat) (s : State) (hF : s.Fit) : (State.strEvent seen bit k g s).Fit := by
  unfold State.strEvent
  repeat' (first | with_reducible assumption | simp only [fit_mk, fit_eta] | with_reducible refine foldS_fit _ _ (fun _ _ _ => ?_) _ ?_ | with_reducible refine foldl_fit _ _ (fun _ _ _ => ?_) _ ?_ | with_reducible refine ite_fit (fun _ => ?_) (fun _ => ?_) | with_reducible refine whenS_fit _ _ _ (fun _ _ => ?_) ?_ | with_reducible refine State.raiseU_fit _ _ _ _ _ _ ?_ | split)

theorem State.strLate_fit (g : Nat) (s : State) (hF : s.Fit) : (State.strLate g s).Fit := by
  unfold State.strLate
  repeat' (first | with_reducible assumption | simp only [fit_mk, fit_eta] | with_reducible refine foldS_fit _ _ (fun _ _ _ => ?_) _ ?_ | with_reducible refine foldl_fit _ _ (fun _ _ _ => ?_) _ ?_ | with_reducible refine ite_fit (fun _ => ?_) (fun _ => ?_) | with_reducible refine whenS_fit _ _ _ (fun _ _ => ?_) ?_ | with_reducible refine State.modStrm_fit _ _ _ ?_ | with_reducible refine State.strEvent_fit _ _ _ _ _ ?_ | split)

theorem State.strCku_fit (g : Nat) (s : State) (hF : s.Fit) : (State.strCku g s).Fit := by
  unfold State.strCku
  repeat' (first | with_reducible assumption | simp only [fit_mk, fit_eta] | with_reducible refine foldS_fit _ _ (fun _ _ _ => ?_) _ ?_ | with_reducible refine foldl_fit _ _ (fun _ _ _ => ?_) _ ?_ | with_reducible refine ite_fit (fun _ => ?_) (fun _ => ?_) | with_reducible refine whenS_fit _ _ _ (fun _ _ => ?_) ?_ | with_reducible refine State.modStrm_fit _ _ _ ?_ | with_reducible refine State.strEvent_fit _ _ _ _ _ ?_ | split)

theorem State.blockLate_fit (g : Nat) (o : StreamOp) (b : List Byte) (s : State) (hF : s.Fit) : (State.blockLate g o b s).2.Fit := by
  unfold State.blockLate
  repeat' (first | with_reducible assumption | simp only [fit_mk, fit_eta] | with_reducible refine foldS_fit _ _ (fun _ _ _ => ?_) _ ?_ | with_reducible refine foldl_fit _ _ (fun _ _ _ => ?_) _ ?_ | with_reducible refine ite_fit (fun _ => ?_) (fun _ => ?_) | with_reducible refine whenS_fit _ _ _ (fun _ _ => ?_) ?_ | with_reducible refine State.modStrm_fit _ _ _ ?_ | with_reducible refine State.strLate_fit _ _ ?_ | split)

theorem State.blockJudge_fit (g : Nat) (len : Nat) (b : List Byte) (s : State) (hF : s.Fit) : (State.blockJudge g len b s).Fit := by
  unfold State.blockJudge
  repeat' (first | with_reducible assumption | simp only [fit_mk, fit_eta] | with_reducible refine foldS_fit _ _ (fun _ _ _ => ?_) _ ?_ | with_reducible refine foldl_fit _ _ (fun _ _ _ => ?_) _ ?_ | with_reducible refine ite_fit (fun _ => ?_) (fun _ => ?_) | with_reducible refine whenS_fit _ _ _ (fun _ _ => ?_) ?_ | with_reducible refine State.blockLate_fit _ _ _ _ ?_ | with_reducible refine State.modStrm_fit _ _ _ ?_ | with_reducible refine State.strCku_fit _ _ ?_ | split)

theorem State.seqCheck_fit (g : Nat) (b : List Byte) (s : State) (hF : s.Fit) : (State.seqCheck g b s).Fit := 
  fit_of_hide (State.seqCheck_frame 35184372086767 (by decide) _ _ _).symm hF

theorem State.stageRead_fit (g : Nat) (f : Word) (s : State) (hF : s.Fit) : (State.stageRead g f s).Fit := by
  unfold State.stageRead
  repeat' (first | with_reducible assumption | simp only [fit_mk, fit_eta] | with_reducible refine foldS_fit _ _ (fun _ _ _ => ?_) _ ?_ | with_reducible refine foldl_fit _ _ (fun _ _ _ => ?_) _ ?_ | with_reducible refine ite_fit (fun _ => ?_) (fun _ => ?_) | with_reducible refine whenS_fit _ _ _ (fun _ _ => ?_) ?_ | with_reducible refine State.clearUpset_fit _ _ ?_ | with_reducible refine State.modStrm_fit _ _ _ ?_ | with_reducible refine State.sramErr_fit _ _ _ _ ?_ | split)

theorem State.outDrop_fit (g : Nat) (s : State) (hF : s.Fit) : (State.outDrop g s).Fit := by
  unfold State.outDrop
  repeat' (first | with_reducible assumption | simp only [fit_mk, fit_eta] | with_reducible refine foldS_fit _ _ (fun _ _ _ => ?_) _ ?_ | with_reducible refine foldl_fit _ _ (fun _ _ _ => ?_) _ ?_ | with_reducible refine ite_fit (fun _ => ?_) (fun _ => ?_) | with_reducible refine whenS_fit _ _ _ (fun _ _ => ?_) ?_ | with_reducible refine State.modStrm_fit _ _ _ ?_ | with_reducible refine State.strEvent_fit _ _ _ _ _ ?_ | split)

theorem State.outWrite_fit (g : Nat) (o : StreamOp) (b : OutBlock) (d : BufDesc) (s : State) (hF : s.Fit) : (State.outWrite g o b d s).Fit := by
  unfold State.outWrite
  repeat' (first | with_reducible assumption | simp only [fit_mk, fit_eta] | with_reducible refine foldS_fit _ _ (fun _ _ _ => ?_) _ ?_ | with_reducible refine foldl_fit _ _ (fun _ _ _ => ?_) _ ?_ | with_reducible refine ite_fit (fun _ => ?_) (fun _ => ?_) | with_reducible refine whenS_fit _ _ _ (fun _ _ => ?_) ?_ | with_reducible refine State.dma_fit _ _ _ ?_ | with_reducible refine State.writeBack_fit _ _ _ _ _ _ ?_ | split)

theorem State.outRow_fit (g : Nat) (s : State) (hF : s.Fit) : (State.outRow g s).Fit := by
  unfold State.outRow
  repeat' (first | with_reducible assumption | simp only [fit_mk, fit_eta] | with_reducible refine foldS_fit _ _ (fun _ _ _ => ?_) _ ?_ | with_reducible refine foldl_fit _ _ (fun _ _ _ => ?_) _ ?_ | with_reducible refine ite_fit (fun _ => ?_) (fun _ => ?_) | with_reducible refine whenS_fit _ _ _ (fun _ _ => ?_) ?_ | with_reducible refine State.clearUpset_fit _ _ ?_ | with_reducible refine State.modStrm_fit _ _ _ ?_ | with_reducible refine State.sramErr_fit _ _ _ _ ?_ | split)

theorem State.outSend_fit (g : Nat) (s : State) (hF : s.Fit) : (State.outSend g s).Fit := by
  unfold State.outSend
  repeat' (first | with_reducible assumption | simp only [fit_mk, fit_eta] | with_reducible refine foldS_fit _ _ (fun _ _ _ => ?_) _ ?_ | with_reducible refine foldl_fit _ _ (fun _ _ _ => ?_) _ ?_ | with_reducible refine ite_fit (fun _ => ?_) (fun _ => ?_) | with_reducible refine whenS_fit _ _ _ (fun _ _ => ?_) ?_ | with_reducible refine State.dma_fit _ _ _ ?_ | with_reducible refine State.modStrm_fit _ _ _ ?_ | with_reducible refine State.outDrop_fit _ _ ?_ | with_reducible refine State.outWrite_fit _ _ _ _ _ ?_ | split)

theorem State.outShort_fit (g : Nat) (d : BufDesc) (s : State) (hF : s.Fit) : (State.outShort g d s).Fit := by
  unfold State.outShort
  repeat' (first | with_reducible assumption | simp only [fit_mk, fit_eta] | with_reducible refine foldS_fit _ _ (fun _ _ _ => ?_) _ ?_ | with_reducible refine foldl_fit _ _ (fun _ _ _ => ?_) _ ?_ | with_reducible refine ite_fit (fun _ => ?_) (fun _ => ?_) | with_reducible refine whenS_fit _ _ _ (fun _ _ => ?_) ?_ | with_reducible refine State.outDrop_fit _ _ ?_ | with_reducible refine State.writeBack_fit _ _ _ _ _ _ ?_ | split)

theorem State.outTake_fit (g : Nat) (d : BufDesc) (s : State) (hF : s.Fit) : (State.outTake g d s).Fit := by
  unfold State.outTake
  repeat' (first | with_reducible assumption | simp only [fit_mk, fit_eta] | with_reducible refine foldS_fit _ _ (fun _ _ _ => ?_) _ ?_ | with_reducible refine foldl_fit _ _ (fun _ _ _ => ?_) _ ?_ | with_reducible refine ite_fit (fun _ => ?_) (fun _ => ?_) | with_reducible refine whenS_fit _ _ _ (fun _ _ => ?_) ?_ | with_reducible refine State.badDesc_fit _ _ _ _ ?_ | with_reducible refine State.dma_fit _ _ _ ?_ | with_reducible refine State.outShort_fit _ _ _ ?_ | with_reducible refine State.outWrite_fit _ _ _ _ _ ?_ | with_reducible refine State.readOk_fit _ _ _ ?_ | with_reducible refine State.setStrm_fit _ _ _ ?_ | split)

theorem State.outDiscard_fit (g : Nat) (begun : Bool) (f : Word) (s : State) (hF : s.Fit) : (State.outDiscard g begun f s).Fit := by
  unfold State.outDiscard
  repeat' (first | with_reducible assumption | simp only [fit_mk, fit_eta] | with_reducible refine foldS_fit _ _ (fun _ _ _ => ?_) _ ?_ | with_reducible refine foldl_fit _ _ (fun _ _ _ => ?_) _ ?_ | with_reducible refine ite_fit (fun _ => ?_) (fun _ => ?_) | with_reducible refine whenS_fit _ _ _ (fun _ _ => ?_) ?_ | with_reducible refine State.modStrm_fit _ _ _ ?_ | with_reducible refine State.writeBack_fit _ _ _ _ _ _ ?_ | split)

theorem State.outLost_fit (g : Nat) (s : State) (hF : s.Fit) : (State.outLost g s).Fit := by
  unfold State.outLost
  repeat' (first | with_reducible assumption | simp only [fit_mk, fit_eta] | with_reducible refine foldS_fit _ _ (fun _ _ _ => ?_) _ ?_ | with_reducible refine foldl_fit _ _ (fun _ _ _ => ?_) _ ?_ | with_reducible refine ite_fit (fun _ => ?_) (fun _ => ?_) | with_reducible refine whenS_fit _ _ _ (fun _ _ => ?_) ?_ | with_reducible refine State.outDrop_fit _ _ ?_ | with_reducible refine State.setStrm_fit _ _ _ ?_ | split)

theorem State.outStops_fit (s : State) (hF : s.Fit) : (State.outStops s).Fit := by
  unfold State.outStops
  repeat' (first | with_reducible assumption | simp only [fit_mk, fit_eta] | with_reducible refine foldS_fit _ _ (fun _ _ _ => ?_) _ ?_ | with_reducible refine foldl_fit _ _ (fun _ _ _ => ?_) _ ?_ | with_reducible refine ite_fit (fun _ => ?_) (fun _ => ?_) | with_reducible refine whenS_fit _ _ _ (fun _ _ => ?_) ?_ | with_reducible refine State.outLost_fit _ _ ?_ | split)

theorem State.streamOpen_fit (o : StreamOp) (s : State) (hF : s.Fit) : (State.streamOpen o s).Fit := 
  fit_of_hide (State.streamOpen_frame 35184372086767 (by decide) _ _).symm hF

theorem State.readCut_fit (g : Nat) (s : State) (hF : s.Fit) : (State.readCut g s).Fit := 
  fit_of_hide (State.readCut_frame 35184372086767 (by decide) _ _).symm hF

theorem State.streamClose_fit (g : Nat) (i o : Bool) (s : State) (hF : s.Fit) : (State.streamClose g i o s).Fit := by
  unfold State.streamClose
  repeat' (first | with_reducible assumption | simp only [fit_mk, fit_eta] | with_reducible refine foldS_fit _ _ (fun _ _ _ => ?_) _ ?_ | with_reducible refine foldl_fit _ _ (fun _ _ _ => ?_) _ ?_ | with_reducible refine ite_fit (fun _ => ?_) (fun _ => ?_) | with_reducible refine whenS_fit _ _ _ (fun _ _ => ?_) ?_ | with_reducible refine State.modStrm_fit _ _ _ ?_ | with_reducible refine State.outDiscard_fit _ _ _ _ ?_ | with_reducible refine State.readCut_fit _ _ ?_ | split)

theorem State.consumeAll_fit (kind n : Nat) (s : State) (hF : s.Fit) : (State.consumeAll kind n s).2.Fit := 
  fit_of_hide (State.consumeAll_frame 35184372086767 (by decide) _ _ _).symm hF

theorem State.streamFlush_fit (g : Nat) (i o : Bool) (s : State) (hF : s.Fit) : (State.streamFlush g i o s).Fit := by
  unfold State.streamFlush
  repeat' (first | with_reducible assumption | simp only [fit_mk, fit_eta] | with_reducible refine foldS_fit _ _ (fun _ _ _ => ?_) _ ?_ | with_reducible refine foldl_fit _ _ (fun _ _ _ => ?_) _ ?_ | with_reducible refine ite_fit (fun _ => ?_) (fun _ => ?_) | with_reducible refine whenS_fit _ _ _ (fun _ _ => ?_) ?_ | with_reducible refine State.consumeAll_fit _ _ _ ?_ | with_reducible refine State.modStrm_fit _ _ _ ?_ | with_reducible refine State.outDiscard_fit _ _ _ _ ?_ | split)

theorem State.streamReset_fit (g : Nat) (s : State) (hF : s.Fit) : (State.streamReset g s).Fit := by
  unfold State.streamReset
  repeat' (first | with_reducible assumption | simp only [fit_mk, fit_eta] | with_reducible refine foldS_fit _ _ (fun _ _ _ => ?_) _ ?_ | with_reducible refine foldl_fit _ _ (fun _ _ _ => ?_) _ ?_ | with_reducible refine ite_fit (fun _ => ?_) (fun _ => ?_) | with_reducible refine whenS_fit _ _ _ (fun _ _ => ?_) ?_ | with_reducible refine State.modStrm_fit _ _ _ ?_ | with_reducible refine State.outDiscard_fit _ _ _ _ ?_ | split)

theorem execVoiceBlockArrival_fit (g : Fin 256) (d : BufDesc) (b : List Byte) (s : State) (hF : s.Fit) : (after1 (execVoiceBlockArrival g d b) s).Fit := by
  unfold after1 execVoiceBlockArrival
  repeat' (first | with_reducible assumption | simp only [fit_mk, fit_eta] | with_reducible refine foldS_fit _ _ (fun _ _ _ => ?_) _ ?_ | with_reducible refine foldl_fit _ _ (fun _ _ _ => ?_) _ ?_ | with_reducible refine ite_fit (fun _ => ?_) (fun _ => ?_) | with_reducible refine whenS_fit _ _ _ (fun _ _ => ?_) ?_ | with_reducible refine State.badDesc_fit _ _ _ _ ?_ | with_reducible refine State.blockJudge_fit _ _ _ _ ?_ | with_reducible refine State.consume_fit _ _ _ ?_ | with_reducible refine State.seqCheck_fit _ _ _ ?_ | split)

theorem execVoiceBlockWrite_fit (g : Fin 256) (d : BufDesc) (s : State) (hF : s.Fit) : (after1 (execVoiceBlockWrite g d) s).Fit := by
  unfold after1 execVoiceBlockWrite
  repeat' (first | with_reducible assumption | simp only [fit_mk, fit_eta] | with_reducible refine foldS_fit _ _ (fun _ _ _ => ?_) _ ?_ | with_reducible refine foldl_fit _ _ (fun _ _ _ => ?_) _ ?_ | with_reducible refine ite_fit (fun _ => ?_) (fun _ => ?_) | with_reducible refine whenS_fit _ _ _ (fun _ _ => ?_) ?_ | with_reducible refine State.outTake_fit _ _ _ ?_ | split)

theorem State.setGfp_fit (ch : Nat) (x : Gfp) (s : State) (hF : s.Fit) : (State.setGfp ch x s).Fit := 
  fit_of_hide (State.setGfp_frame 35184372086767 (by decide) _ _ _).symm hF

theorem State.modGfp_fit (ch : Nat) (f : Gfp → Gfp) (s : State) (hF : s.Fit) : (State.modGfp ch f s).Fit := 
  fit_of_hide (State.modGfp_frame 35184372086767 (by decide) _ _ _).symm hF

theorem State.setLfd_fit (ch : Nat) (on : Bool) (s : State) (hF : s.Fit) : (State.setLfd ch on s).Fit := by
  unfold State.setLfd
  repeat' (first | with_reducible assumption | simp only [fit_mk, fit_eta] | with_reducible refine foldS_fit _ _ (fun _ _ _ => ?_) _ ?_ | with_reducible refine foldl_fit _ _ (fun _ _ _ => ?_) _ ?_ | with_reducible refine ite_fit (fun _ => ?_) (fun _ => ?_) | with_reducible refine whenS_fit _ _ _ (fun _ _ => ?_) ?_ | with_reducible refine State.raiseU_fit _ _ _ _ _ _ ?_ | with_reducible refine State.seeDef_fit _ _ _ _ ?_ | with_reducible refine State.setGfp_fit _ _ _ ?_ | split)

theorem State.gfpDeliver_fit (ch : Nat) (o : GfpOp) (d : BufDesc) (info : List Byte) (badFcs : Bool) (s : State) (hF : s.Fit) : (State.gfpDeliver ch o d info badFcs s).Fit := by
  unfold State.gfpDeliver
  repeat' (first | with_reducible assumption | simp only [fit_mk, fit_eta] | with_reducible refine foldS_fit _ _ (fun _ _ _ => ?_) _ ?_ | with_reducible refine foldl_fit _ _ (fun _ _ _ => ?_) _ ?_ | with_reducible refine ite_fit (fun _ => ?_) (fun _ => ?_) | with_reducible refine whenS_fit _ _ _ (fun _ _ => ?_) ?_ | with_reducible refine State.badDesc_fit _ _ _ _ ?_ | with_reducible refine State.dma_fit _ _ _ ?_ | with_reducible refine State.modGfp_fit _ _ _ ?_ | with_reducible refine State.writeBack_fit _ _ _ _ _ _ ?_ | split)

theorem State.gfpFrameIn_fit (ch : Nat) (o : GfpOp) (d : BufDesc) (pli : Nat) (body : List Byte) (s : State) (hF : s.Fit) : (State.gfpFrameIn ch o d pli body s).Fit := by
  unfold State.gfpFrameIn
  repeat' (first | with_reducible assumption | simp only [fit_mk, fit_eta] | with_reducible refine foldS_fit _ _ (fun _ _ _ => ?_) _ ?_ | with_reducible refine foldl_fit _ _ (fun _ _ _ => ?_) _ ?_ | with_reducible refine ite_fit (fun _ => ?_) (fun _ => ?_) | with_reducible refine whenS_fit _ _ _ (fun _ _ => ?_) ?_ | with_reducible refine State.gfpDeliver_fit _ _ _ _ _ _ ?_ | with_reducible refine State.modGfp_fit _ _ _ ?_ | with_reducible refine State.setGfp_fit _ _ _ ?_ | split)

theorem State.gfpHeader_fit (ch : Nat) (o : GfpOp) (d : BufDesc) (s : State) (hF : s.Fit) : (State.gfpHeader ch o d s).Fit := by
  unfold State.gfpHeader
  repeat' (first | with_reducible assumption | simp only [fit_mk, fit_eta] | with_reducible refine foldS_fit _ _ (fun _ _ _ => ?_) _ ?_ | with_reducible refine foldl_fit _ _ (fun _ _ _ => ?_) _ ?_ | with_reducible refine ite_fit (fun _ => ?_) (fun _ => ?_) | with_reducible refine whenS_fit _ _ _ (fun _ _ => ?_) ?_ | with_reducible refine State.gfpFrameIn_fit _ _ _ _ _ _ ?_ | with_reducible refine State.setGfp_fit _ _ _ ?_ | with_reducible refine State.setLfd_fit _ _ _ ?_ | split)

theorem State.gfpOpen_fit (o : GfpOp) (s : State) (hF : s.Fit) : (State.gfpOpen o s).Fit := by
  unfold State.gfpOpen
  repeat' (first | with_reducible assumption | simp only [fit_mk, fit_eta] | with_reducible refine foldS_fit _ _ (fun _ _ _ => ?_) _ ?_ | with_reducible refine foldl_fit _ _ (fun _ _ _ => ?_) _ ?_ | with_reducible refine ite_fit (fun _ => ?_) (fun _ => ?_) | with_reducible refine whenS_fit _ _ _ (fun _ _ => ?_) ?_ | with_reducible refine State.modGfp_fit _ _ _ ?_ | with_reducible refine State.setLfd_fit _ _ _ ?_ | split)

theorem State.gfpClose_fit (ch : Nat) (tx rx : Bool) (s : State) (hF : s.Fit) : (State.gfpClose ch tx rx s).Fit := 
  fit_of_hide (State.gfpClose_frame 35184372086767 (by decide) _ _ _ _).symm hF

theorem State.gfpFlush_fit (ch : Nat) (tx rx : Bool) (s : State) (hF : s.Fit) : (State.gfpFlush ch tx rx s).Fit := by
  unfold State.gfpFlush
  repeat' (first | with_reducible assumption | simp only [fit_mk, fit_eta] | with_reducible refine foldS_fit _ _ (fun _ _ _ => ?_) _ ?_ | with_reducible refine foldl_fit _ _ (fun _ _ _ => ?_) _ ?_ | with_reducible refine ite_fit (fun _ => ?_) (fun _ => ?_) | with_reducible refine whenS_fit _ _ _ (fun _ _ => ?_) ?_ | with_reducible refine State.consumeAll_fit _ _ _ ?_ | with_reducible refine State.modGfp_fit _ _ _ ?_ | with_reducible refine State.setLfd_fit _ _ _ ?_ | split)

theorem State.gfpQptr_fit (ch : Nat) (rx : Bool) (s : State) (hF : s.Fit) : (State.gfpQptr ch rx s).Fit := by
  unfold State.gfpQptr
  repeat' (first | with_reducible assumption | simp only [fit_mk, fit_eta] | with_reducible refine foldS_fit _ _ (fun _ _ _ => ?_) _ ?_ | with_reducible refine foldl_fit _ _ (fun _ _ _ => ?_) _ ?_ | with_reducible refine ite_fit (fun _ => ?_) (fun _ => ?_) | with_reducible refine whenS_fit _ _ _ (fun _ _ => ?_) ?_ | with_reducible refine State.consume_fit _ _ _ ?_ | with_reducible refine State.modGfp_fit _ _ _ ?_ | with_reducible refine State.setLfd_fit _ _ _ ?_ | split)

theorem State.gfpTick_fit (ch : Nat) (s : State) (hF : s.Fit) : (State.gfpTick ch s).Fit := 
  fit_of_hide (State.gfpTick_frame 35184372086767 (by decide) _ _).symm hF

theorem State.gfpFetch_fit (ch : Nat) (o : GfpOp) (d : BufDesc) (data : List Byte) (s : State) (hF : s.Fit) : (State.gfpFetch ch o d data s).Fit := by
  unfold State.gfpFetch
  repeat' (first | with_reducible assumption | simp only [fit_mk, fit_eta] | with_reducible refine foldS_fit _ _ (fun _ _ _ => ?_) _ ?_ | with_reducible refine foldl_fit _ _ (fun _ _ _ => ?_) _ ?_ | with_reducible refine ite_fit (fun _ => ?_) (fun _ => ?_) | with_reducible refine whenS_fit _ _ _ (fun _ _ => ?_) ?_ | with_reducible refine State.badDesc_fit _ _ _ _ ?_ | with_reducible refine State.consume_fit _ _ _ ?_ | with_reducible refine State.modGfp_fit _ _ _ ?_ | with_reducible refine State.readOk_fit _ _ _ ?_ | split)

theorem execGfpTxFrame_fit (ch : Fin 64) (d : BufDesc) (data : List Byte) (s : State) (hF : s.Fit) : (after1 (execGfpTxFrame ch d data) s).Fit := by
  unfold after1 execGfpTxFrame
  repeat' (first | with_reducible assumption | simp only [fit_mk, fit_eta] | with_reducible refine foldS_fit _ _ (fun _ _ _ => ?_) _ ?_ | with_reducible refine foldl_fit _ _ (fun _ _ _ => ?_) _ ?_ | with_reducible refine ite_fit (fun _ => ?_) (fun _ => ?_) | with_reducible refine whenS_fit _ _ _ (fun _ _ => ?_) ?_ | with_reducible refine State.gfpFetch_fit _ _ _ _ _ ?_ | split)

theorem execGfpRxHeader_fit (ch : Fin 64) (addr : DWord) (c : BufCtl) (s : State) (hF : s.Fit) : (after1 (execGfpRxHeader ch addr c) s).Fit := by
  unfold after1 execGfpRxHeader
  repeat' (first | with_reducible assumption | simp only [fit_mk, fit_eta] | with_reducible refine foldS_fit _ _ (fun _ _ _ => ?_) _ ?_ | with_reducible refine foldl_fit _ _ (fun _ _ _ => ?_) _ ?_ | with_reducible refine ite_fit (fun _ => ?_) (fun _ => ?_) | with_reducible refine whenS_fit _ _ _ (fun _ _ => ?_) ?_ | with_reducible refine State.gfpHeader_fit _ _ _ _ ?_ | split)

theorem State.sendJ1_fit (k : Nat) (s : State) (hF : s.Fit) : (State.sendJ1 k s).2.Fit := 
  fit_of_hide (State.sendJ1_frame 35184372086767 (by decide) _ _).symm hF

theorem State.sendVc_fit (k w : Nat) (h4 : Byte) (row : Nat → List Byte) (s : State) (hF : s.Fit) : (State.sendVc k w h4 row s).Fit := 
  fit_of_hide (State.sendVc_frame 35184372086767 (by decide) _ _ _ _ _).symm hF

theorem State.loSend_fit (m : Nat) (v : Vc4) (k w : Nat) (gs : List Nat) (s : State) (hF : s.Fit) : (State.loSend m v k w gs s).Fit := 
  fit_of_hide (State.loSend_frame 35184372086767 (by decide) _ _ _ _ _ _).symm hF

theorem State.loVcs_fit (s : State) (hF : s.Fit) : (State.loVcs s).Fit := 
  fit_of_hide (State.loVcs_frame 35184372086767 (by decide) _).symm hF

theorem State.gfpVcs_fit (s : State) (hF : s.Fit) : (State.gfpVcs s).Fit := 
  fit_of_hide (State.gfpVcs_frame 35184372086767 (by decide) _).symm hF

theorem State.mapperFrame_fit (s : State) (hF : s.Fit) : (State.mapperFrame s).Fit := by
  unfold State.mapperFrame
  repeat' (first | with_reducible assumption | simp only [fit_mk, fit_eta] | with_reducible refine foldS_fit _ _ (fun _ _ _ => ?_) _ ?_ | with_reducible refine foldl_fit _ _ (fun _ _ _ => ?_) _ ?_ | with_reducible refine ite_fit (fun _ => ?_) (fun _ => ?_) | with_reducible refine whenS_fit _ _ _ (fun _ _ => ?_) ?_ | with_reducible refine State.gfpVcs_fit _ ?_ | with_reducible refine State.loVcs_fit _ ?_ | with_reducible refine State.loopFrame_fit _ ?_ | with_reducible refine State.sinkFrame_fit _ _ _ ?_ | split)

theorem State.mapperSinks_fit (s : State) (hF : s.Fit) : (State.mapperSinks s).Fit := by
  unfold State.mapperSinks
  repeat' (first | with_reducible assumption | simp only [fit_mk, fit_eta] | with_reducible refine foldS_fit _ _ (fun _ _ _ => ?_) _ ?_ | with_reducible refine foldl_fit _ _ (fun _ _ _ => ?_) _ ?_ | with_reducible refine ite_fit (fun _ => ?_) (fun _ => ?_) | with_reducible refine whenS_fit _ _ _ (fun _ _ => ?_) ?_ | with_reducible refine State.sinkPull_fit _ _ _ ?_ | split)

theorem State.setKey_fit (i : Nat) (x : KeySlot) (s : State) (hF : s.Fit) : (State.setKey i x s).Fit := 
  fit_of_hide (State.setKey_frame 35184372086767 (by decide) _ _ _).symm hF

theorem State.staleOps_fit (slot : Nat) (s : State) (hF : s.Fit) : (State.staleOps slot s).Fit := 
  fit_of_hide (State.staleOps_frame 35184372086767 (by decide) _ _).symm hF

theorem State.emptyWindows_fit (slot : Nat) (s : State) (hF : s.Fit) : (State.emptyWindows slot s).Fit := 
  fit_of_hide (State.emptyWindows_frame 35184372086767 (by decide) _ _).symm hF

theorem State.keyLoad_fit (slot : Nat) (aes256 : Bool) (key : List Byte) (s : State) (hF : s.Fit) : (State.keyLoad slot aes256 key s).Fit := 
  fit_of_hide (State.keyLoad_frame 35184372086767 (by decide) _ _ _ _).symm hF

theorem State.keyErase_fit (slot : Nat) (s : State) (hF : s.Fit) : (State.keyErase slot s).Fit := 
  fit_of_hide (State.keyErase_frame 35184372086767 (by decide) _ _).symm hF

theorem State.keyRead_fit (slot : Nat) (s : State) (hF : s.Fit) : (State.keyRead slot s).Fit := by
  unfold State.keyRead
  repeat' (first | with_reducible assumption | simp only [fit_mk, fit_eta] | with_reducible refine foldS_fit _ _ (fun _ _ _ => ?_) _ ?_ | with_reducible refine foldl_fit _ _ (fun _ _ _ => ?_) _ ?_ | with_reducible refine ite_fit (fun _ => ?_) (fun _ => ?_) | with_reducible refine whenS_fit _ _ _ (fun _ _ => ?_) ?_ | with_reducible refine State.clearUpset_fit _ _ ?_ | with_reducible refine State.setKey_fit _ _ _ ?_ | with_reducible refine State.sramErr_fit _ _ _ _ ?_ | split)

theorem State.oxVerdict_fit (id : Nat) (ok : Bool) (s : State) (hF : s.Fit) : (State.oxVerdict id ok s).Fit := 
  fit_of_hide (State.oxVerdict_frame 35184372086767 (by decide) _ _ _).symm hF

theorem State.dropOp_fit (id : Nat) (s : State) (hF : s.Fit) : (State.dropOp id s).Fit := 
  fit_of_hide (State.dropOp_frame 35184372086767 (by decide) _ _).symm hF

theorem State.cmacStart_fit (o : CmacOp) (s : State) (hF : s.Fit) : (State.cmacStart o s).Fit := by
  unfold State.cmacStart
  repeat' (first | with_reducible assumption | simp only [fit_mk, fit_eta] | with_reducible refine foldS_fit _ _ (fun _ _ _ => ?_) _ ?_ | with_reducible refine foldl_fit _ _ (fun _ _ _ => ?_) _ ?_ | with_reducible refine ite_fit (fun _ => ?_) (fun _ => ?_) | with_reducible refine whenS_fit _ _ _ (fun _ _ => ?_) ?_ | with_reducible refine State.dropOp_fit _ _ ?_ | with_reducible refine State.keyRead_fit _ _ ?_ | with_reducible refine State.modDcc_fit _ _ _ ?_ | with_reducible refine State.oxDone_fit _ ?_ | with_reducible refine State.oxVerdict_fit _ _ _ ?_ | with_reducible refine State.raise_fit _ _ _ _ _ ?_ | with_reducible refine State.setKey_fit _ _ _ ?_ | split)

theorem State.cmacPump_fit (s : State) (hF : s.Fit) : (State.cmacPump s).Fit := by
  unfold State.cmacPump
  repeat' (first | with_reducible assumption | simp only [fit_mk, fit_eta] | with_reducible refine foldS_fit _ _ (fun _ _ _ => ?_) _ ?_ | with_reducible refine foldl_fit _ _ (fun _ _ _ => ?_) _ ?_ | with_reducible refine ite_fit (fun _ => ?_) (fun _ => ?_) | with_reducible refine whenS_fit _ _ _ (fun _ _ => ?_) ?_ | with_reducible refine State.cmacStart_fit _ _ ?_ | split)

theorem State.cmacEnd_fit (o : CmacOp) (s : State) (hF : s.Fit) : (State.cmacEnd o s).Fit := by
  unfold State.cmacEnd
  repeat' (first | with_reducible assumption | simp only [fit_mk, fit_eta] | with_reducible refine foldS_fit _ _ (fun _ _ _ => ?_) _ ?_ | with_reducible refine foldl_fit _ _ (fun _ _ _ => ?_) _ ?_ | with_reducible refine ite_fit (fun _ => ?_) (fun _ => ?_) | with_reducible refine whenS_fit _ _ _ (fun _ _ => ?_) ?_ | with_reducible refine State.clearUpset_fit _ _ ?_ | with_reducible refine State.cmacPump_fit _ ?_ | with_reducible refine State.dropOp_fit _ _ ?_ | with_reducible refine State.modDcc_fit _ _ _ ?_ | with_reducible refine State.oxDone_fit _ ?_ | with_reducible refine State.oxVerdict_fit _ _ _ ?_ | with_reducible refine State.sramErr_fit _ _ _ _ ?_ | split)

theorem State.signOp_fit (ch id : Nat) (info : List Byte) (s : State) (hF : s.Fit) : (State.signOp ch id info s).Fit := 
  fit_of_hide (State.signOp_frame 35184372086767 (by decide) _ _ _ _).symm hF

theorem State.dccQueue_fit (ch : Nat) (info : List Byte) (s : State) (hF : s.Fit) : (State.dccQueue ch info s).Fit := by
  unfold State.dccQueue
  repeat' (first | with_reducible assumption | simp only [fit_mk, fit_eta] | with_reducible refine foldS_fit _ _ (fun _ _ _ => ?_) _ ?_ | with_reducible refine foldl_fit _ _ (fun _ _ _ => ?_) _ ?_ | with_reducible refine ite_fit (fun _ => ?_) (fun _ => ?_) | with_reducible refine whenS_fit _ _ _ (fun _ _ => ?_) ?_ | with_reducible refine State.cmacPump_fit _ ?_ | with_reducible refine State.newId_fit _ ?_ | with_reducible refine State.setDcc_fit _ _ _ ?_ | with_reducible refine State.signOp_fit _ _ _ _ ?_ | split)

theorem State.resign_fit (ch : Nat) (s : State) (hF : s.Fit) : (State.resign ch s).Fit := by
  unfold State.resign
  repeat' (first | with_reducible assumption | simp only [fit_mk, fit_eta] | with_reducible refine foldS_fit _ _ (fun _ _ _ => ?_) _ ?_ | with_reducible refine foldl_fit _ _ (fun _ _ _ => ?_) _ ?_ | with_reducible refine ite_fit (fun _ => ?_) (fun _ => ?_) | with_reducible refine whenS_fit _ _ _ (fun _ _ => ?_) ?_ | with_reducible refine State.cmacPump_fit _ ?_ | with_reducible refine State.setDcc_fit _ _ _ ?_ | with_reducible refine State.signOp_fit _ _ _ _ ?_ | split)

theorem State.dccDeliver_fit (id ch : Nat) (f : DccFrame) (badFcs : Bool) (s : State) (hF : s.Fit) : (State.dccDeliver id ch f badFcs s).Fit := by
  unfold State.dccDeliver
  repeat' (first | with_reducible assumption | simp only [fit_mk, fit_eta] | with_reducible refine foldS_fit _ _ (fun _ _ _ => ?_) _ ?_ | with_reducible refine foldl_fit _ _ (fun _ _ _ => ?_) _ ?_ | with_reducible refine ite_fit (fun _ => ?_) (fun _ => ?_) | with_reducible refine whenS_fit _ _ _ (fun _ _ => ?_) ?_ | with_reducible refine State.cmacPump_fit _ ?_ | with_reducible refine State.oxDone_fit _ ?_ | with_reducible refine State.oxMod_fit _ _ _ ?_ | with_reducible refine State.oxStream_fit _ _ _ ?_ | split)

theorem State.dccDrop_fit (ch c : Nat) (f : DccFrame) (s : State) (hF : s.Fit) : (State.dccDrop ch c f s).Fit := by
  unfold State.dccDrop
  repeat' (first | with_reducible assumption | simp only [fit_mk, fit_eta] | with_reducible refine foldS_fit _ _ (fun _ _ _ => ?_) _ ?_ | with_reducible refine foldl_fit _ _ (fun _ _ _ => ?_) _ ?_ | with_reducible refine ite_fit (fun _ => ?_) (fun _ => ?_) | with_reducible refine whenS_fit _ _ _ (fun _ _ => ?_) ?_ | with_reducible refine State.modDcc_fit _ _ _ ?_ | with_reducible refine State.oxCancel_fit _ _ ?_ | split)

theorem State.dccJudge_fit (ch : Nat) (f : DccFrame) (s : State) (hF : s.Fit) : (State.dccJudge ch f s).Fit := by
  unfold State.dccJudge
  repeat' (first | with_reducible assumption | simp only [fit_mk, fit_eta] | with_reducible refine foldS_fit _ _ (fun _ _ _ => ?_) _ ?_ | with_reducible refine foldl_fit _ _ (fun _ _ _ => ?_) _ ?_ | with_reducible refine ite_fit (fun _ => ?_) (fun _ => ?_) | with_reducible refine whenS_fit _ _ _ (fun _ _ => ?_) ?_ | with_reducible refine State.dccDeliver_fit _ _ _ _ _ ?_ | with_reducible refine State.dccDrop_fit _ _ _ _ ?_ | split)

theorem State.dccIn_fit (ch : Nat) (d : BufDesc) (f : DccFrame) (s : State) (hF : s.Fit) : (State.dccIn ch d f s).Fit := by
  unfold State.dccIn
  repeat' (first | with_reducible assumption | simp only [fit_mk, fit_eta] | with_reducible refine foldS_fit _ _ (fun _ _ _ => ?_) _ ?_ | with_reducible refine foldl_fit _ _ (fun _ _ _ => ?_) _ ?_ | with_reducible refine ite_fit (fun _ => ?_) (fun _ => ?_) | with_reducible refine whenS_fit _ _ _ (fun _ _ => ?_) ?_ | with_reducible refine State.dccBuf_fit _ _ _ ?_ | with_reducible refine State.dccJudge_fit _ _ _ ?_ | with_reducible refine State.oxStream_fit _ _ _ ?_ | split)

theorem State.dccOpen_fit (ch : Nat) (d : BufDesc) (s : State) (hF : s.Fit) : (State.dccOpen ch d s).Fit := by
  unfold State.dccOpen
  repeat' (first | with_reducible assumption | simp only [fit_mk, fit_eta] | with_reducible refine foldS_fit _ _ (fun _ _ _ => ?_) _ ?_ | with_reducible refine foldl_fit _ _ (fun _ _ _ => ?_) _ ?_ | with_reducible refine ite_fit (fun _ => ?_) (fun _ => ?_) | with_reducible refine whenS_fit _ _ _ (fun _ _ => ?_) ?_ | with_reducible refine State.dccBuf_fit _ _ _ ?_ | with_reducible refine State.modDcc_fit _ _ _ ?_ | with_reducible refine State.oxArriving_fit _ _ ?_ | split)

theorem State.dccAuthCfg_fit (o : DccAuthOp) (s : State) (hF : s.Fit) : (State.dccAuthCfg o s).Fit := by
  unfold State.dccAuthCfg
  repeat' (first | with_reducible assumption | simp only [fit_mk, fit_eta] | with_reducible refine foldS_fit _ _ (fun _ _ _ => ?_) _ ?_ | with_reducible refine foldl_fit _ _ (fun _ _ _ => ?_) _ ?_ | with_reducible refine ite_fit (fun _ => ?_) (fun _ => ?_) | with_reducible refine whenS_fit _ _ _ (fun _ _ => ?_) ?_ | with_reducible refine State.resign_fit _ _ ?_ | with_reducible refine State.setDcc_fit _ _ _ ?_ | split)

theorem State.dccClear_fit (ch : Nat) (s : State) (hF : s.Fit) : (State.dccClear ch s).Fit := by
  unfold State.dccClear
  repeat' (first | with_reducible assumption | simp only [fit_mk, fit_eta] | with_reducible refine foldS_fit _ _ (fun _ _ _ => ?_) _ ?_ | with_reducible refine foldl_fit _ _ (fun _ _ _ => ?_) _ ?_ | with_reducible refine ite_fit (fun _ => ?_) (fun _ => ?_) | with_reducible refine whenS_fit _ _ _ (fun _ _ => ?_) ?_ | with_reducible refine State.modDcc_fit _ _ _ ?_ | with_reducible refine State.oxCancel_fit _ _ ?_ | split)

theorem State.dccQptr_fit (ch : Nat) (s : State) (hF : s.Fit) : (State.dccQptr ch s).Fit := by
  unfold State.dccQptr
  repeat' (first | with_reducible assumption | simp only [fit_mk, fit_eta] | with_reducible refine foldS_fit _ _ (fun _ _ _ => ?_) _ ?_ | with_reducible refine foldl_fit _ _ (fun _ _ _ => ?_) _ ?_ | with_reducible refine ite_fit (fun _ => ?_) (fun _ => ?_) | with_reducible refine whenS_fit _ _ _ (fun _ _ => ?_) ?_ | with_reducible refine State.cmacPump_fit _ ?_ | with_reducible refine State.dccClear_fit _ _ ?_ | split)

theorem execDccTxFrame_fit (d : BufDesc) (buf : List Byte) (s : State) (hF : s.Fit) : (after1 (execDccTxFrame d buf) s).Fit := by
  unfold after1 execDccTxFrame
  repeat' (first | with_reducible assumption | simp only [fit_mk, fit_eta] | with_reducible refine foldS_fit _ _ (fun _ _ _ => ?_) _ ?_ | with_reducible refine foldl_fit _ _ (fun _ _ _ => ?_) _ ?_ | with_reducible refine ite_fit (fun _ => ?_) (fun _ => ?_) | with_reducible refine whenS_fit _ _ _ (fun _ _ => ?_) ?_ | with_reducible refine State.badDesc_fit _ _ _ _ ?_ | with_reducible refine State.consume_fit _ _ _ ?_ | with_reducible refine State.dccQueue_fit _ _ _ ?_ | with_reducible refine State.modDcc_fit _ _ _ ?_ | split)

theorem execDccRxFrame_fit (ch : Fin 64) (addr : DWord) (c : BufCtl) (s : State) (hF : s.Fit) : (after1 (execDccRxFrame ch addr c) s).Fit := by
  unfold after1 execDccRxFrame
  repeat' (first | with_reducible assumption | simp only [fit_mk, fit_eta] | with_reducible refine foldS_fit _ _ (fun _ _ _ => ?_) _ ?_ | with_reducible refine foldl_fit _ _ (fun _ _ _ => ?_) _ ?_ | with_reducible refine ite_fit (fun _ => ?_) (fun _ => ?_) | with_reducible refine whenS_fit _ _ _ (fun _ _ => ?_) ?_ | with_reducible refine State.dccDrop_fit _ _ _ _ ?_ | with_reducible refine State.dccIn_fit _ _ _ _ ?_ | with_reducible refine State.dccOpen_fit _ _ _ ?_ | with_reducible refine State.modDcc_fit _ _ _ ?_ | split)

theorem execCmacDone_fit (slot : Fin 64) (s : State) (hF : s.Fit) : (after1 (execCmacDone slot) s).Fit := by
  unfold after1 execCmacDone
  repeat' (first | with_reducible assumption | simp only [fit_mk, fit_eta] | with_reducible refine foldS_fit _ _ (fun _ _ _ => ?_) _ ?_ | with_reducible refine foldl_fit _ _ (fun _ _ _ => ?_) _ ?_ | with_reducible refine ite_fit (fun _ => ?_) (fun _ => ?_) | with_reducible refine whenS_fit _ _ _ (fun _ _ => ?_) ?_ | with_reducible refine State.cmacEnd_fit _ _ ?_ | split)

theorem execQptr_fit (q : QOwner) (s : State) (hF : s.Fit) : (after1 (execQptr q) s).Fit := by
  unfold after1 execQptr
  repeat' (first | with_reducible assumption | simp only [fit_mk, fit_eta] | with_reducible refine foldS_fit _ _ (fun _ _ _ => ?_) _ ?_ | with_reducible refine foldl_fit _ _ (fun _ _ _ => ?_) _ ?_ | with_reducible refine ite_fit (fun _ => ?_) (fun _ => ?_) | with_reducible refine whenS_fit _ _ _ (fun _ _ => ?_) ?_ | with_reducible refine State.dccQptr_fit _ _ ?_ | with_reducible refine State.gfpQptr_fit _ _ _ ?_ | with_reducible refine State.raise_fit _ _ _ _ _ ?_ | with_reducible refine State.streamReset_fit _ _ ?_ | split)

end Sys2Proof.Machine
end

