-- ==== Sys2Proof/Laws/FitEngine.lean ====
section
/-! SUPPORT. `State.Fit` through the command engine, the host interface and the management plane. -/

namespace Sys2Proof.Machine

set_option linter.unusedSimpArgs false
set_option linter.unreachableTactic false
set_option linter.unusedTactic false
set_option linter.unusedVariables false

theorem State.setXcPage_fit (b : Bool) (t : Tab Word) (s : State) (hF : s.Fit) : (State.setXcPage b t s).Fit := 
  fit_of_hide (State.setXcPage_frame 35184372086767 (by decide) _ _ _).symm hF

theorem State.xcSet_fit (o : XcOp) (s : State) (hF : s.Fit) : (State.xcSet o s).Fit := 
  fit_of_hide (State.xcSet_frame 35184372086767 (by decide) _ _).symm hF

theorem State.xcSwap_fit (s : State) (hF : s.Fit) : (State.xcSwap s).Fit := 
  fit_of_hide (State.xcSwap_frame 35184372086767 (by decide) _).symm hF

theorem State.xcCopyDone_fit (s : State) (hF : s.Fit) : (State.xcCopyDone s).Fit := 
  fit_of_hide (State.xcCopyDone_frame 35184372086767 (by decide) _).symm hF

theorem State.fabricCommit_fit (s : State) (hF : s.Fit) : (State.fabricCommit s).Fit := 
  fit_of_hide (State.fabricCommit_frame 35184372086767 (by decide) _).symm hF

theorem execCopybackDone_fit (p : Paged) (s : State) (hF : s.Fit) : (after1 (execCopybackDone p) s).Fit := by
  unfold after1 execCopybackDone
  repeat' (first | with_reducible assumption | simp only [fit_mk, fit_eta] | with_reducible refine foldS_fit _ _ (fun _ _ _ => ?_) _ ?_ | with_reducible refine foldl_fit _ _ (fun _ _ _ => ?_) _ ?_ | with_reducible refine ite_fit (fun _ => ?_) (fun _ => ?_) | with_reducible refine whenS_fit _ _ _ (fun _ _ => ?_) ?_ | with_reducible refine State.cnfCopyDone_fit _ ?_ | with_reducible refine State.tswCopyDone_fit _ ?_ | with_reducible refine State.xcCopyDone_fit _ ?_ | split)

theorem State.dropTus_fit (m g k : Nat) (s : State) (hF : s.Fit) : (State.dropTus m g k s).Fit := 
  fit_of_hide (State.dropTus_frame 35184372086767 (by decide) _ _ _ _).symm hF

theorem State.lomapSet_fit (m st tu11 : Nat) (s : State) (hF : s.Fit) : (State.lomapSet m st tu11 s).Fit := 
  fit_of_hide (State.lomapSet_frame 35184372086767 (by decide) _ _ _ _).symm hF

theorem State.ohSet_fit (code : Nat) (t : Word) (v : Nat) (s : State) (hF : s.Fit) : (State.ohSet code t v s).Fit := 
  fit_of_hide (State.ohSet_frame 35184372086767 (by decide) _ _ _ _).symm hF

theorem State.traceSet_fit (o : TraceOp) (s : State) (hF : s.Fit) : (State.traceSet o s).Fit := by
  unfold State.traceSet
  repeat' (first | with_reducible assumption | simp only [fit_mk, fit_eta] | with_reducible refine foldS_fit _ _ (fun _ _ _ => ?_) _ ?_ | with_reducible refine foldl_fit _ _ (fun _ _ _ => ?_) _ ?_ | with_reducible refine ite_fit (fun _ => ?_) (fun _ => ?_) | with_reducible refine whenS_fit _ _ _ (fun _ _ => ?_) ?_ | with_reducible refine State.setTim_fit _ _ _ _ ?_ | with_reducible refine State.setTrace_fit _ _ _ _ ?_ | with_reducible refine State.timUpdate_fit _ _ _ ?_ | split)

theorem State.pmCfg_fit (scope i : Nat) (on : Bool) (s : State) (hF : s.Fit) : (State.pmCfg scope i on s).Fit := 
  fit_of_hide (State.pmCfg_frame 35184372086767 (by decide) _ _ _ _).symm hF

theorem State.putRecord_fit (a : DWord) (b : List Byte) (s : State) (hF : s.Fit) : (State.putRecord a b s).2.Fit := by
  unfold State.putRecord
  repeat' (first | with_reducible assumption | simp only [fit_mk, fit_eta] | with_reducible refine foldS_fit _ _ (fun _ _ _ => ?_) _ ?_ | with_reducible refine foldl_fit _ _ (fun _ _ _ => ?_) _ ?_ | with_reducible refine ite_fit (fun _ => ?_) (fun _ => ?_) | with_reducible refine whenS_fit _ _ _ (fun _ _ => ?_) ?_ | with_reducible refine State.dma_fit _ _ _ ?_ | split)

theorem State.resClaim_fit (ring rtype i lease : Nat) (s : State) (hF : s.Fit) : (State.resClaim ring rtype i lease s).2.Fit := by
  unfold State.resClaim
  repeat' (first | with_reducible assumption | simp only [fit_mk, fit_eta] | with_reducible refine foldS_fit _ _ (fun _ _ _ => ?_) _ ?_ | with_reducible refine foldl_fit _ _ (fun _ _ _ => ?_) _ ?_ | with_reducible refine ite_fit (fun _ => ?_) (fun _ => ?_) | with_reducible refine whenS_fit _ _ _ (fun _ _ => ?_) ?_ | with_reducible refine State.hostClaim_fit _ _ ?_ | with_reducible refine State.lockClaim_fit _ _ _ _ ?_ | split)

theorem State.resRelease_fit (ring rtype i : Nat) (s : State) (hF : s.Fit) : (State.resRelease ring rtype i s).Fit := by
  unfold State.resRelease
  repeat' (first | with_reducible assumption | simp only [fit_mk, fit_eta] | with_reducible refine foldS_fit _ _ (fun _ _ _ => ?_) _ ?_ | with_reducible refine foldl_fit _ _ (fun _ _ _ => ?_) _ ?_ | with_reducible refine ite_fit (fun _ => ?_) (fun _ => ?_) | with_reducible refine whenS_fit _ _ _ (fun _ _ => ?_) ?_ | with_reducible refine State.hostRelease_fit _ _ ?_ | with_reducible refine State.lockRelease_fit _ _ _ ?_ | split)

theorem State.apply_fit (ring : Nat) (c : Cmd) (s : State) (hF : s.Fit) : (State.apply ring c s).2.Fit := by
  unfold State.apply
  repeat' (first | with_reducible assumption | simp only [fit_mk, fit_eta] | with_reducible refine foldS_fit _ _ (fun _ _ _ => ?_) _ ?_ | with_reducible refine foldl_fit _ _ (fun _ _ _ => ?_) _ ?_ | with_reducible refine ite_fit (fun _ => ?_) (fun _ => ?_) | with_reducible refine whenS_fit _ _ _ (fun _ _ => ?_) ?_ | with_reducible refine State.cnfCreate_fit _ _ _ ?_ | with_reducible refine State.cnfDestroy_fit _ _ ?_ | with_reducible refine State.cnfJoin_fit _ _ _ ?_ | with_reducible refine State.cnfLeave_fit _ _ ?_ | with_reducible refine State.cnfModify_fit _ _ ?_ | with_reducible refine State.dccAuthCfg_fit _ _ ?_ | with_reducible refine State.fabricCommit_fit _ ?_ | with_reducible refine State.gfpClose_fit _ _ _ _ ?_ | with_reducible refine State.gfpFlush_fit _ _ _ _ ?_ | with_reducible refine State.gfpOpen_fit _ _ ?_ | with_reducible refine State.keyErase_fit _ _ ?_ | with_reducible refine State.keyLoad_fit _ _ _ _ ?_ | with_reducible refine State.lomapSet_fit _ _ _ _ ?_ | with_reducible refine State.ohSet_fit _ _ _ _ ?_ | with_reducible refine State.pmCfg_fit _ _ _ _ ?_ | with_reducible refine State.protCmd_fit _ _ _ _ ?_ | with_reducible refine State.protGroup_fit _ _ ?_ | with_reducible refine State.putRecord_fit _ _ _ ?_ | with_reducible refine State.resClaim_fit _ _ _ _ _ ?_ | with_reducible refine State.resRelease_fit _ _ _ _ ?_ | with_reducible refine State.setTrace_fit _ _ _ _ ?_ | with_reducible refine State.sigSet_fit _ _ ?_ | with_reducible refine State.streamClose_fit _ _ _ _ ?_ | with_reducible refine State.streamFlush_fit _ _ _ _ ?_ | with_reducible refine State.streamOpen_fit _ _ ?_ | with_reducible refine State.toneLoad_fit _ _ _ ?_ | with_reducible refine State.traceSet_fit _ _ ?_ | with_reducible refine State.tribCfg_fit _ _ _ ?_ | with_reducible refine State.tswFill_fit _ _ ?_ | with_reducible refine State.tswPatch_fit _ _ ?_ | with_reducible refine State.tswReadRec_fit _ _ ?_ | with_reducible refine State.tswSet_fit _ _ ?_ | with_reducible refine State.xcSet_fit _ _ ?_ | split)

theorem State.project_fit (c : Cmd) (s : State) (hF : s.Fit) : (State.project c s).Fit := by
  unfold State.project
  repeat' (first | with_reducible assumption | simp only [fit_mk, fit_eta] | with_reducible refine foldS_fit _ _ (fun _ _ _ => ?_) _ ?_ | with_reducible refine foldl_fit _ _ (fun _ _ _ => ?_) _ ?_ | with_reducible refine ite_fit (fun _ => ?_) (fun _ => ?_) | with_reducible refine whenS_fit _ _ _ (fun _ _ => ?_) ?_ | with_reducible refine State.cnfCopyDone_fit _ ?_ | with_reducible refine State.cnfCreate_fit _ _ _ ?_ | with_reducible refine State.cnfDestroy_fit _ _ ?_ | with_reducible refine State.cnfJoin_fit _ _ _ ?_ | with_reducible refine State.cnfLeave_fit _ _ ?_ | with_reducible refine State.cnfModify_fit _ _ ?_ | with_reducible refine State.cnfSwap_fit _ ?_ | with_reducible refine State.fabricCommit_fit _ ?_ | with_reducible refine State.gfpClose_fit _ _ _ _ ?_ | with_reducible refine State.gfpOpen_fit _ _ ?_ | with_reducible refine State.keyLoad_fit _ _ _ _ ?_ | with_reducible refine State.lomapSet_fit _ _ _ _ ?_ | with_reducible refine State.modGfp_fit _ _ _ ?_ | with_reducible refine State.modStrm_fit _ _ _ ?_ | with_reducible refine State.protGroup_fit _ _ ?_ | with_reducible refine State.setGroup_fit _ _ _ _ ?_ | with_reducible refine State.setKey_fit _ _ _ ?_ | with_reducible refine State.setTrace_fit _ _ _ _ ?_ | with_reducible refine State.streamClose_fit _ _ _ _ ?_ | with_reducible refine State.streamOpen_fit _ _ ?_ | with_reducible refine State.traceSet_fit _ _ ?_ | with_reducible refine State.tribCfg_fit _ _ _ ?_ | with_reducible refine State.xcCopyDone_fit _ ?_ | with_reducible refine State.xcSet_fit _ _ ?_ | with_reducible refine State.xcSwap_fit _ ?_ | split)

theorem State.projectAll_fit (l : List Due) (s : State) (hF : s.Fit) : (State.projectAll l s).Fit := by
  unfold State.projectAll
  repeat' (first | with_reducible assumption | simp only [fit_mk, fit_eta] | with_reducible refine foldS_fit _ _ (fun _ _ _ => ?_) _ ?_ | with_reducible refine foldl_fit _ _ (fun _ _ _ => ?_) _ ?_ | with_reducible refine ite_fit (fun _ => ?_) (fun _ => ?_) | with_reducible refine whenS_fit _ _ _ (fun _ _ => ?_) ?_ | with_reducible refine State.project_fit _ _ ?_ | split)

theorem State.passHead_fit (n : Nat) (s : State) (hF : s.Fit) : (State.passHead n s).Fit := 
  fit_of_hide (State.passHead_frame 35184372086767 (by decide) _ _).symm hF

theorem State.grant_fit (n : Nat) (s : State) (hF : s.Fit) : (State.grant n s).Fit := 
  fit_of_hide (State.grant_frame 35184372086767 (by decide) _ _).symm hF

theorem State.useSlot_fit (n : Nat) (x : Option (Word × Cmd)) (s : State) (hF : s.Fit) : (State.useSlot n x s).Fit := 
  fit_of_hide (State.useSlot_frame 35184372086767 (by decide) _ _ _).symm hF

theorem State.refuse_fit (n : Nat) (d : Desc) (status result : Nat) (s : State) (hF : s.Fit) : (State.refuse n d status result s).Fit := by
  unfold State.refuse
  repeat' (first | with_reducible assumption | simp only [fit_mk, fit_eta] | with_reducible refine foldS_fit _ _ (fun _ _ _ => ?_) _ ?_ | with_reducible refine foldl_fit _ _ (fun _ _ _ => ?_) _ ?_ | with_reducible refine ite_fit (fun _ => ?_) (fun _ => ?_) | with_reducible refine whenS_fit _ _ _ (fun _ _ => ?_) ?_ | with_reducible refine State.addComp_fit _ _ ?_ | with_reducible refine State.passHead_fit _ _ ?_ | with_reducible refine State.pmcAdd_fit _ _ _ ?_ | with_reducible refine State.pmcEvent_fit _ _ _ _ ?_ | with_reducible refine State.putComp_fit _ _ ?_ | split)

theorem State.pmcSamples_fit (d : Option Due) (l : List Nat) (s : State) (hF : s.Fit) : (State.pmcSamples d l s).Fit := by
  unfold State.pmcSamples
  repeat' (first | with_reducible assumption | simp only [fit_mk, fit_eta] | with_reducible refine foldS_fit _ _ (fun _ _ _ => ?_) _ ?_ | with_reducible refine foldl_fit _ _ (fun _ _ _ => ?_) _ ?_ | with_reducible refine ite_fit (fun _ => ?_) (fun _ => ?_) | with_reducible refine whenS_fit _ _ _ (fun _ _ => ?_) ?_ | with_reducible refine State.raise_fit _ _ _ _ _ ?_ | split)

theorem State.pmcTake_fit (d : Due) (s : State) (hF : s.Fit) : (State.pmcTake d s).Fit := by
  unfold State.pmcTake
  repeat' (first | with_reducible assumption | simp only [fit_mk, fit_eta] | with_reducible refine foldS_fit _ _ (fun _ _ _ => ?_) _ ?_ | with_reducible refine foldl_fit _ _ (fun _ _ _ => ?_) _ ?_ | with_reducible refine ite_fit (fun _ => ?_) (fun _ => ?_) | with_reducible refine whenS_fit _ _ _ (fun _ _ => ?_) ?_ | with_reducible refine State.pmcSamples_fit _ _ _ ?_ | split)

theorem State.finish_fit (d : Due) (e : Eff) (s : State) (hF : s.Fit) : (State.finish d e s).Fit := 
  fit_of_hide (State.finish_frame 35184372086767 (by decide) _ _ _).symm hF

theorem State.readDue_fit (e : Nat) (s : State) (hF : s.Fit) : (State.readDue e s).2.Fit := by
  unfold State.readDue
  repeat' (first | with_reducible assumption | simp only [fit_mk, fit_eta] | with_reducible refine foldS_fit _ _ (fun _ _ _ => ?_) _ ?_ | with_reducible refine foldl_fit _ _ (fun _ _ _ => ?_) _ ?_ | with_reducible refine ite_fit (fun _ => ?_) (fun _ => ?_) | with_reducible refine whenS_fit _ _ _ (fun _ _ => ?_) ?_ | with_reducible refine State.clearUpset_fit _ _ ?_ | with_reducible refine State.raise_fit _ _ _ _ _ ?_ | split)

theorem State.fenceDone_fit (d : Due) (s : State) (hF : s.Fit) : (State.fenceDone d s).Fit := by
  unfold State.fenceDone
  repeat' (first | with_reducible assumption | simp only [fit_mk, fit_eta] | with_reducible refine foldS_fit _ _ (fun _ _ _ => ?_) _ ?_ | with_reducible refine foldl_fit _ _ (fun _ _ _ => ?_) _ ?_ | with_reducible refine ite_fit (fun _ => ?_) (fun _ => ?_) | with_reducible refine whenS_fit _ _ _ (fun _ _ => ?_) ?_ | with_reducible refine State.addComp_fit _ _ ?_ | with_reducible refine State.finish_fit _ _ _ ?_ | with_reducible refine State.modRing_fit _ _ _ _ ?_ | with_reducible refine State.readDue_fit _ _ ?_ | split)

theorem State.fencesMet_fit (s : State) (hF : s.Fit) : (State.fencesMet s).Fit := by
  unfold State.fencesMet
  repeat' (first | with_reducible assumption | simp only [fit_mk, fit_eta] | with_reducible refine foldS_fit _ _ (fun _ _ _ => ?_) _ ?_ | with_reducible refine foldl_fit _ _ (fun _ _ _ => ?_) _ ?_ | with_reducible refine ite_fit (fun _ => ?_) (fun _ => ?_) | with_reducible refine whenS_fit _ _ _ (fun _ _ => ?_) ?_ | with_reducible refine State.fenceDone_fit _ _ ?_ | split)

theorem State.enter_fit (d : Due) (s : State) (hF : s.Fit) : (State.enter d s).Fit := by
  unfold State.enter
  repeat' (first | with_reducible assumption | simp only [fit_mk, fit_eta] | with_reducible refine foldS_fit _ _ (fun _ _ _ => ?_) _ ?_ | with_reducible refine foldl_fit _ _ (fun _ _ _ => ?_) _ ?_ | with_reducible refine ite_fit (fun _ => ?_) (fun _ => ?_) | with_reducible refine whenS_fit _ _ _ (fun _ _ => ?_) ?_ | with_reducible refine State.fencesMet_fit _ ?_ | with_reducible refine State.modRing_fit _ _ _ _ ?_ | with_reducible refine State.wordWritten_fit _ _ ?_ | split)

theorem State.admitHead_fit (n : Nat) (d : Desc) (b : Word) (c : Cmd) (s : State) (hF : s.Fit) : (State.admitHead n d b c s).Fit := by
  unfold State.admitHead
  repeat' (first | with_reducible assumption | simp only [fit_mk, fit_eta] | with_reducible refine foldS_fit _ _ (fun _ _ _ => ?_) _ ?_ | with_reducible refine foldl_fit _ _ (fun _ _ _ => ?_) _ ?_ | with_reducible refine ite_fit (fun _ => ?_) (fun _ => ?_) | with_reducible refine whenS_fit _ _ _ (fun _ _ => ?_) ?_ | with_reducible refine State.enter_fit _ _ ?_ | with_reducible refine State.passHead_fit _ _ ?_ | with_reducible refine State.pmcAdd_fit _ _ _ ?_ | with_reducible refine State.pmcEvent_fit _ _ _ _ ?_ | with_reducible refine State.pmcTake_fit _ _ ?_ | split)

theorem State.judgeHead_fit (n : Nat) (s : State) (hF : s.Fit) : (State.judgeHead n s).Fit := by
  unfold State.judgeHead
  repeat' (first | with_reducible assumption | simp only [fit_mk, fit_eta] | with_reducible refine foldS_fit _ _ (fun _ _ _ => ?_) _ ?_ | with_reducible refine foldl_fit _ _ (fun _ _ _ => ?_) _ ?_ | with_reducible refine ite_fit (fun _ => ?_) (fun _ => ?_) | with_reducible refine whenS_fit _ _ _ (fun _ _ => ?_) ?_ | with_reducible refine State.admitHead_fit _ _ _ _ _ ?_ | with_reducible refine State.grant_fit _ _ ?_ | with_reducible refine State.modRing_fit _ _ _ _ ?_ | with_reducible refine State.refuse_fit _ _ _ _ _ ?_ | with_reducible refine State.useSlot_fit _ _ _ ?_ | split)

theorem State.visitEnds_fit (s : State) (hF : s.Fit) : (State.visitEnds s).Fit := 
  fit_of_hide (State.visitEnds_frame 35184372086767 (by decide) _).symm hF

theorem State.serveTurns_fit (fuel : Nat) (s : State) (hF : s.Fit) : (State.serveTurns fuel s).Fit := by
  induction fuel generalizing s with
  | zero => exact State.visitEnds_fit s hF
  | succ n ih =>
    unfold State.serveTurns
    split
    · exact State.visitEnds_fit s hF
    · split
      · exact ih _ (State.judgeHead_fit _ _ (State.visitEnds_fit s hF))
      · exact State.visitEnds_fit s hF

theorem State.serve_fit (s : State) (hF : s.Fit) : (State.serve s).Fit := by
  unfold State.serve
  repeat' (first | with_reducible assumption | simp only [fit_mk, fit_eta] | with_reducible refine foldS_fit _ _ (fun _ _ _ => ?_) _ ?_ | with_reducible refine foldl_fit _ _ (fun _ _ _ => ?_) _ ?_ | with_reducible refine ite_fit (fun _ => ?_) (fun _ => ?_) | with_reducible refine whenS_fit _ _ _ (fun _ _ => ?_) ?_ | with_reducible refine State.serveTurns_fit _ _ ?_ | split)

theorem State.serveHeads_fit (s : State) (hF : s.Fit) : (State.serveHeads s).Fit := by
  unfold State.serveHeads
  repeat' (first | with_reducible assumption | simp only [fit_mk, fit_eta] | with_reducible refine foldS_fit _ _ (fun _ _ _ => ?_) _ ?_ | with_reducible refine foldl_fit _ _ (fun _ _ _ => ?_) _ ?_ | with_reducible refine ite_fit (fun _ => ?_) (fun _ => ?_) | with_reducible refine whenS_fit _ _ _ (fun _ _ => ?_) ?_ | with_reducible refine State.modRing_fit _ _ _ _ ?_ | with_reducible refine State.serve_fit _ ?_ | split)

theorem State.fetchHead_fit (n : Nat) (d : Desc) (blk : Option (List Byte)) (s : State) (hF : s.Fit) : (State.fetchHead n d blk s).Fit := 
  fit_of_hide (State.fetchHead_frame 35184372086767 (by decide) _ _ _ _).symm hF

theorem execDescriptorAdmission_fit (ring : Fin 64) (d : Desc) (blk : Option (List Byte)) (s : State) (hF : s.Fit) : (after1 (execDescriptorAdmission ring d blk) s).Fit := by
  unfold after1 execDescriptorAdmission
  repeat' (first | with_reducible assumption | simp only [fit_mk, fit_eta] | with_reducible refine foldS_fit _ _ (fun _ _ _ => ?_) _ ?_ | with_reducible refine foldl_fit _ _ (fun _ _ _ => ?_) _ ?_ | with_reducible refine ite_fit (fun _ => ?_) (fun _ => ?_) | with_reducible refine whenS_fit _ _ _ (fun _ _ => ?_) ?_ | with_reducible refine State.fetchHead_fit _ _ _ _ ?_ | with_reducible refine State.serve_fit _ ?_ | split)

theorem State.pmcRan_fit (c : Cmd) (s : State) (hF : s.Fit) : (State.pmcRan c s).Fit := 
  fit_of_hide (State.pmcRan_frame 35184372086767 (by decide) _ _).symm hF

theorem State.runDue_fit (d : Due) (s : State) (hF : s.Fit) : (State.runDue d s).Fit := by
  unfold State.runDue
  repeat' (first | with_reducible assumption | simp only [fit_mk, fit_eta] | with_reducible refine foldS_fit _ _ (fun _ _ _ => ?_) _ ?_ | with_reducible refine foldl_fit _ _ (fun _ _ _ => ?_) _ ?_ | with_reducible refine ite_fit (fun _ => ?_) (fun _ => ?_) | with_reducible refine whenS_fit _ _ _ (fun _ _ => ?_) ?_ | with_reducible refine State.addComp_fit _ _ ?_ | with_reducible refine State.apply_fit _ _ _ ?_ | with_reducible refine State.finish_fit _ _ _ ?_ | with_reducible refine State.pmcRan_fit _ _ ?_ | with_reducible refine State.readDue_fit _ _ ?_ | split)

theorem State.runSteps_fit (lo hi : Nat) (s : State) (hF : s.Fit) : (State.runSteps lo hi s).Fit := by
  unfold State.runSteps
  repeat' (first | with_reducible assumption | simp only [fit_mk, fit_eta] | with_reducible refine foldS_fit _ _ (fun _ _ _ => ?_) _ ?_ | with_reducible refine foldl_fit _ _ (fun _ _ _ => ?_) _ ?_ | with_reducible refine ite_fit (fun _ => ?_) (fun _ => ?_) | with_reducible refine whenS_fit _ _ _ (fun _ _ => ?_) ?_ | with_reducible refine State.runDue_fit _ _ ?_ | split)

theorem State.pruneFailed_fit (s : State) (hF : s.Fit) : (State.pruneFailed s).Fit := 
  fit_of_hide (State.pruneFailed_frame 35184372086767 (by decide) _).symm hF

theorem State.follow_fit (c : Cmd) (old s : State) (hF : s.Fit) : (State.follow c old s).Fit := by
  unfold State.follow
  repeat' (first | with_reducible assumption | simp only [fit_mk, fit_eta] | with_reducible refine foldS_fit _ _ (fun _ _ _ => ?_) _ ?_ | with_reducible refine foldl_fit _ _ (fun _ _ _ => ?_) _ ?_ | with_reducible refine ite_fit (fun _ => ?_) (fun _ => ?_) | with_reducible refine whenS_fit _ _ _ (fun _ _ => ?_) ?_ | with_reducible refine State.cnfChanges_fit _ _ ?_ | with_reducible refine State.cnfModify_fit _ _ ?_ | with_reducible refine State.fabricCommit_fit _ ?_ | with_reducible refine State.lomapSet_fit _ _ _ _ ?_ | with_reducible refine State.xcCheck_fit _ ?_ | split)

theorem State.runNow_fit (h : Hdr) (c : Cmd) (s : State) (hF : s.Fit) : (State.runNow h c s).Fit := by
  unfold State.runNow
  repeat' (first | with_reducible assumption | simp only [fit_mk, fit_eta] | with_reducible refine foldS_fit _ _ (fun _ _ _ => ?_) _ ?_ | with_reducible refine foldl_fit _ _ (fun _ _ _ => ?_) _ ?_ | with_reducible refine ite_fit (fun _ => ?_) (fun _ => ?_) | with_reducible refine whenS_fit _ _ _ (fun _ _ => ?_) ?_ | with_reducible refine State.addComp_fit _ _ ?_ | with_reducible refine State.apply_fit _ _ _ ?_ | with_reducible refine State.finish_fit _ _ _ ?_ | with_reducible refine State.follow_fit _ _ _ ?_ | with_reducible refine State.pmcRan_fit _ _ ?_ | split)

theorem State.fenceNow_fit (h : Hdr) (c : Cmd) (s : State) (hF : s.Fit) : (State.fenceNow h c s).Fit := by
  unfold State.fenceNow
  repeat' (first | with_reducible assumption | simp only [fit_mk, fit_eta] | with_reducible refine foldS_fit _ _ (fun _ _ _ => ?_) _ ?_ | with_reducible refine foldl_fit _ _ (fun _ _ _ => ?_) _ ?_ | with_reducible refine ite_fit (fun _ => ?_) (fun _ => ?_) | with_reducible refine whenS_fit _ _ _ (fun _ _ => ?_) ?_ | with_reducible refine State.enter_fit _ _ ?_ | split)

theorem execNop_fit (h : Hdr) (s : State) (hF : s.Fit) : (after1 (execNop h) s).Fit := 
  fit_of_hide (execNop_frame 35184372086767 (by decide) _ _).symm hF

theorem execFence_fit (h : Hdr) (s : State) (hF : s.Fit) : (after1 (execFence h) s).Fit := by
  unfold after1 execFence
  repeat' (first | with_reducible assumption | simp only [fit_mk, fit_eta] | with_reducible refine foldS_fit _ _ (fun _ _ _ => ?_) _ ?_ | with_reducible refine foldl_fit _ _ (fun _ _ _ => ?_) _ ?_ | with_reducible refine ite_fit (fun _ => ?_) (fun _ => ?_) | with_reducible refine whenS_fit _ _ _ (fun _ _ => ?_) ?_ | with_reducible refine State.fenceNow_fit _ _ _ ?_ | split)

theorem execFenceAll_fit (h : Hdr) (s : State) (hF : s.Fit) : (after1 (execFenceAll h) s).Fit := by
  unfold after1 execFenceAll
  repeat' (first | with_reducible assumption | simp only [fit_mk, fit_eta] | with_reducible refine foldS_fit _ _ (fun _ _ _ => ?_) _ ?_ | with_reducible refine foldl_fit _ _ (fun _ _ _ => ?_) _ ?_ | with_reducible refine ite_fit (fun _ => ?_) (fun _ => ?_) | with_reducible refine whenS_fit _ _ _ (fun _ _ => ?_) ?_ | with_reducible refine State.fenceNow_fit _ _ _ ?_ | split)

theorem execEcho_fit (h : Hdr) (v : Word) (s : State) (hF : s.Fit) : (after1 (execEcho h v) s).Fit := 
  fit_of_hide (execEcho_frame 35184372086767 (by decide) _ _ _).symm hF

theorem execTswSet_fit (h : Hdr) (o : TswRun) (s : State) (hF : s.Fit) : (after1 (execTswSet h o) s).Fit := 
  fit_of_hide (execTswSet_frame 35184372086767 (by decide) _ _ _).symm hF

theorem execTswFill_fit (h : Hdr) (o : TswRun) (s : State) (hF : s.Fit) : (after1 (execTswFill h o) s).Fit := 
  fit_of_hide (execTswFill_frame 35184372086767 (by decide) _ _ _).symm hF

theorem execTswPatch_fit (h : Hdr) (o : TswRun) (s : State) (hF : s.Fit) : (after1 (execTswPatch h o) s).Fit := 
  fit_of_hide (execTswPatch_frame 35184372086767 (by decide) _ _ _).symm hF

theorem execTswRead_fit (h : Hdr) (o : TswReadOp) (s : State) (hF : s.Fit) : (after1 (execTswRead h o) s).Fit := by
  unfold after1 execTswRead State.runNow State.apply State.follow
  repeat' (first | with_reducible assumption | simp only [fit_mk, fit_eta] | with_reducible refine foldS_fit _ _ (fun _ _ _ => ?_) _ ?_ | with_reducible refine foldl_fit _ _ (fun _ _ _ => ?_) _ ?_ | with_reducible refine ite_fit (fun _ => ?_) (fun _ => ?_) | with_reducible refine whenS_fit _ _ _ (fun _ _ => ?_) ?_ | with_reducible refine State.addComp_fit _ _ ?_ | with_reducible refine State.cnfChanges_fit _ _ ?_ | with_reducible refine State.finish_fit _ _ _ ?_ | with_reducible refine State.pmcRan_fit _ _ ?_ | with_reducible refine State.putRecord_fit _ _ _ ?_ | with_reducible refine State.tswReadRec_fit _ _ ?_ | with_reducible refine State.xcCheck_fit _ ?_ | split)

theorem execFabricCommit_fit (h : Hdr) (s : State) (hF : s.Fit) : (after1 (execFabricCommit h) s).Fit := by
  unfold after1 execFabricCommit State.runNow State.apply State.follow
  repeat' (first | with_reducible assumption | simp only [fit_mk, fit_eta] | with_reducible refine foldS_fit _ _ (fun _ _ _ => ?_) _ ?_ | with_reducible refine foldl_fit _ _ (fun _ _ _ => ?_) _ ?_ | with_reducible refine ite_fit (fun _ => ?_) (fun _ => ?_) | with_reducible refine whenS_fit _ _ _ (fun _ _ => ?_) ?_ | with_reducible refine State.addComp_fit _ _ ?_ | with_reducible refine State.cnfChanges_fit _ _ ?_ | with_reducible refine State.fabricCommit_fit _ ?_ | with_reducible refine State.finish_fit _ _ _ ?_ | with_reducible refine State.pmcRan_fit _ _ ?_ | with_reducible refine State.xcCheck_fit _ ?_ | split)

theorem execXcSet_fit (h : Hdr) (o : XcOp) (s : State) (hF : s.Fit) : (after1 (execXcSet h o) s).Fit := 
  fit_of_hide (execXcSet_frame 35184372086767 (by decide) _ _ _).symm hF

theorem execLomapSet_fit (h : Hdr) (m struct tu11 : Nat) (s : State) (hF : s.Fit) : (after1 (execLomapSet h m struct tu11) s).Fit := by
  unfold after1 execLomapSet State.runNow State.apply State.follow
  repeat' (first | with_reducible assumption | simp only [fit_mk, fit_eta] | with_reducible refine foldS_fit _ _ (fun _ _ _ => ?_) _ ?_ | with_reducible refine foldl_fit _ _ (fun _ _ _ => ?_) _ ?_ | with_reducible refine ite_fit (fun _ => ?_) (fun _ => ?_) | with_reducible refine whenS_fit _ _ _ (fun _ _ => ?_) ?_ | with_reducible refine State.addComp_fit _ _ ?_ | with_reducible refine State.cnfChanges_fit _ _ ?_ | with_reducible refine State.finish_fit _ _ _ ?_ | with_reducible refine State.lomapSet_fit _ _ _ _ ?_ | with_reducible refine State.pmcRan_fit _ _ ?_ | with_reducible refine State.xcCheck_fit _ ?_ | split)

theorem execTribCfg_fit (h : Hdr) (t : Nat) (c : TribSet) (s : State) (hF : s.Fit) : (after1 (execTribCfg h t c) s).Fit := by
  unfold after1 execTribCfg State.runNow State.apply State.follow
  repeat' (first | with_reducible assumption | simp only [fit_mk, fit_eta] | with_reducible refine foldS_fit _ _ (fun _ _ _ => ?_) _ ?_ | with_reducible refine foldl_fit _ _ (fun _ _ _ => ?_) _ ?_ | with_reducible refine ite_fit (fun _ => ?_) (fun _ => ?_) | with_reducible refine whenS_fit _ _ _ (fun _ _ => ?_) ?_ | with_reducible refine State.addComp_fit _ _ ?_ | with_reducible refine State.cnfChanges_fit _ _ ?_ | with_reducible refine State.finish_fit _ _ _ ?_ | with_reducible refine State.pmcRan_fit _ _ ?_ | with_reducible refine State.tribCfg_fit _ _ _ ?_ | with_reducible refine State.xcCheck_fit _ ?_ | split)

theorem execSigSet_fit (h : Hdr) (o : SigOp) (s : State) (hF : s.Fit) : (after1 (execSigSet h o) s).Fit := by
  unfold after1 execSigSet State.runNow State.apply State.follow
  repeat' (first | with_reducible assumption | simp only [fit_mk, fit_eta] | with_reducible refine foldS_fit _ _ (fun _ _ _ => ?_) _ ?_ | with_reducible refine foldl_fit _ _ (fun _ _ _ => ?_) _ ?_ | with_reducible refine ite_fit (fun _ => ?_) (fun _ => ?_) | with_reducible refine whenS_fit _ _ _ (fun _ _ => ?_) ?_ | with_reducible refine State.addComp_fit _ _ ?_ | with_reducible refine State.cnfChanges_fit _ _ ?_ | with_reducible refine State.finish_fit _ _ _ ?_ | with_reducible refine State.pmcRan_fit _ _ ?_ | with_reducible refine State.sigSet_fit _ _ ?_ | with_reducible refine State.xcCheck_fit _ ?_ | split)

theorem execCnfCreate_fit (h : Hdr) (n : Nat) (o : ConfSet) (s : State) (hF : s.Fit) : (after1 (execCnfCreate h n o) s).Fit := 
  fit_of_hide (execCnfCreate_frame 35184372086767 (by decide) _ _ _ _).symm hF

theorem execCnfJoin_fit (h : Hdr) (p : Nat) (o : PartSet) (s : State) (hF : s.Fit) : (after1 (execCnfJoin h p o) s).Fit := 
  fit_of_hide (execCnfJoin_frame 35184372086767 (by decide) _ _ _ _).symm hF

theorem execCnfLeave_fit (h : Hdr) (p : Nat) (s : State) (hF : s.Fit) : (after1 (execCnfLeave h p) s).Fit := 
  fit_of_hide (execCnfLeave_frame 35184372086767 (by decide) _ _ _).symm hF

theorem execCnfModify_fit (h : Hdr) (o : CnfMod) (s : State) (hF : s.Fit) : (after1 (execCnfModify h o) s).Fit := 
  fit_of_hide (execCnfModify_frame 35184372086767 (by decide) _ _ _).symm hF

theorem execCnfDestroy_fit (h : Hdr) (n : Nat) (s : State) (hF : s.Fit) : (after1 (execCnfDestroy h n) s).Fit := 
  fit_of_hide (execCnfDestroy_frame 35184372086767 (by decide) _ _ _).symm hF

theorem execCnfQuery_fit (h : Hdr) (a : DWord) (n : Nat) (s : State) (hF : s.Fit) : (after1 (execCnfQuery h a n) s).Fit := by
  unfold after1 execCnfQuery State.runNow State.apply State.follow
  repeat' (first | with_reducible assumption | simp only [fit_mk, fit_eta] | with_reducible refine foldS_fit _ _ (fun _ _ _ => ?_) _ ?_ | with_reducible refine foldl_fit _ _ (fun _ _ _ => ?_) _ ?_ | with_reducible refine ite_fit (fun _ => ?_) (fun _ => ?_) | with_reducible refine whenS_fit _ _ _ (fun _ _ => ?_) ?_ | with_reducible refine State.addComp_fit _ _ ?_ | with_reducible refine State.cnfChanges_fit _ _ ?_ | with_reducible refine State.finish_fit _ _ _ ?_ | with_reducible refine State.pmcRan_fit _ _ ?_ | with_reducible refine State.putRecord_fit _ _ _ ?_ | with_reducible refine State.xcCheck_fit _ ?_ | split)

theorem execToneLoad_fit (h : Hdr) (d : Nat) (t : ToneDef) (s : State) (hF : s.Fit) : (after1 (execToneLoad h d t) s).Fit := 
  fit_of_hide (execToneLoad_frame 35184372086767 (by decide) _ _ _ _).symm hF

theorem execProtGroup_fit (h : Hdr) (o : ProtOp) (s : State) (hF : s.Fit) : (after1 (execProtGroup h o) s).Fit := by
  unfold after1 execProtGroup State.runNow State.apply State.follow
  repeat' (first | with_reducible assumption | simp only [fit_mk, fit_eta] | with_reducible refine foldS_fit _ _ (fun _ _ _ => ?_) _ ?_ | with_reducible refine foldl_fit _ _ (fun _ _ _ => ?_) _ ?_ | with_reducible refine ite_fit (fun _ => ?_) (fun _ => ?_) | with_reducible refine whenS_fit _ _ _ (fun _ _ => ?_) ?_ | with_reducible refine State.addComp_fit _ _ ?_ | with_reducible refine State.cnfChanges_fit _ _ ?_ | with_reducible refine State.finish_fit _ _ _ ?_ | with_reducible refine State.pmcRan_fit _ _ ?_ | with_reducible refine State.protGroup_fit _ _ ?_ | with_reducible refine State.xcCheck_fit _ ?_ | split)

theorem execProtCmd_fit (h : Hdr) (k : Fin 4) (g code : Nat) (s : State) (hF : s.Fit) : (after1 (execProtCmd h k g code) s).Fit := by
  unfold after1 execProtCmd State.runNow State.apply State.follow
  repeat' (first | with_reducible assumption | simp only [fit_mk, fit_eta] | with_reducible refine foldS_fit _ _ (fun _ _ _ => ?_) _ ?_ | with_reducible refine foldl_fit _ _ (fun _ _ _ => ?_) _ ?_ | with_reducible refine ite_fit (fun _ => ?_) (fun _ => ?_) | with_reducible refine whenS_fit _ _ _ (fun _ _ => ?_) ?_ | with_reducible refine State.addComp_fit _ _ ?_ | with_reducible refine State.cnfChanges_fit _ _ ?_ | with_reducible refine State.finish_fit _ _ _ ?_ | with_reducible refine State.pmcRan_fit _ _ ?_ | with_reducible refine State.protCmd_fit _ _ _ _ ?_ | with_reducible refine State.xcCheck_fit _ ?_ | split)

theorem execProtQuery_fit (h : Hdr) (a : DWord) (k : Fin 4) (g : Nat) (s : State) (hF : s.Fit) : (after1 (execProtQuery h a k g) s).Fit := by
  unfold after1 execProtQuery State.runNow State.apply State.follow
  repeat' (first | with_reducible assumption | simp only [fit_mk, fit_eta] | with_reducible refine foldS_fit _ _ (fun _ _ _ => ?_) _ ?_ | with_reducible refine foldl_fit _ _ (fun _ _ _ => ?_) _ ?_ | with_reducible refine ite_fit (fun _ => ?_) (fun _ => ?_) | with_reducible refine whenS_fit _ _ _ (fun _ _ => ?_) ?_ | with_reducible refine State.addComp_fit _ _ ?_ | with_reducible refine State.cnfChanges_fit _ _ ?_ | with_reducible refine State.finish_fit _ _ _ ?_ | with_reducible refine State.pmcRan_fit _ _ ?_ | with_reducible refine State.putRecord_fit _ _ _ ?_ | with_reducible refine State.xcCheck_fit _ ?_ | split)

theorem execTraceSet_fit (h : Hdr) (o : TraceOp) (s : State) (hF : s.Fit) : (after1 (execTraceSet h o) s).Fit := by
  unfold after1 execTraceSet State.runNow State.apply State.follow
  repeat' (first | with_reducible assumption | simp only [fit_mk, fit_eta] | with_reducible refine foldS_fit _ _ (fun _ _ _ => ?_) _ ?_ | with_reducible refine foldl_fit _ _ (fun _ _ _ => ?_) _ ?_ | with_reducible refine ite_fit (fun _ => ?_) (fun _ => ?_) | with_reducible refine whenS_fit _ _ _ (fun _ _ => ?_) ?_ | with_reducible refine State.addComp_fit _ _ ?_ | with_reducible refine State.cnfChanges_fit _ _ ?_ | with_reducible refine State.finish_fit _ _ _ ?_ | with_reducible refine State.pmcRan_fit _ _ ?_ | with_reducible refine State.traceSet_fit _ _ ?_ | with_reducible refine State.xcCheck_fit _ ?_ | split)

theorem execTraceRead_fit (h : Hdr) (a : DWord) (k i : Nat) (s : State) (hF : s.Fit) : (after1 (execTraceRead h a k i) s).Fit := by
  unfold after1 execTraceRead State.runNow State.apply State.follow
  repeat' (first | with_reducible assumption | simp only [fit_mk, fit_eta] | with_reducible refine foldS_fit _ _ (fun _ _ _ => ?_) _ ?_ | with_reducible refine foldl_fit _ _ (fun _ _ _ => ?_) _ ?_ | with_reducible refine ite_fit (fun _ => ?_) (fun _ => ?_) | with_reducible refine whenS_fit _ _ _ (fun _ _ => ?_) ?_ | with_reducible refine State.addComp_fit _ _ ?_ | with_reducible refine State.cnfChanges_fit _ _ ?_ | with_reducible refine State.finish_fit _ _ _ ?_ | with_reducible refine State.pmcRan_fit _ _ ?_ | with_reducible refine State.putRecord_fit _ _ _ ?_ | with_reducible refine State.setTrace_fit _ _ _ _ ?_ | with_reducible refine State.xcCheck_fit _ ?_ | split)

theorem execOhSet_fit (h : Hdr) (code : Nat) (t : Word) (v : Nat) (s : State) (hF : s.Fit) : (after1 (execOhSet h code t v) s).Fit := 
  fit_of_hide (execOhSet_frame 35184372086767 (by decide) _ _ _ _ _).symm hF

theorem execStreamOpen_fit (h : Hdr) (o : StreamOp) (s : State) (hF : s.Fit) : (after1 (execStreamOpen h o) s).Fit := 
  fit_of_hide (execStreamOpen_frame 35184372086767 (by decide) _ _ _).symm hF

theorem execStreamClose_fit (h : Hdr) (g : Nat) (i o : Bool) (s : State) (hF : s.Fit) : (after1 (execStreamClose h g i o) s).Fit := by
  unfold after1 execStreamClose State.runNow State.apply State.follow
  repeat' (first | with_reducible assumption | simp only [fit_mk, fit_eta] | with_reducible refine foldS_fit _ _ (fun _ _ _ => ?_) _ ?_ | with_reducible refine foldl_fit _ _ (fun _ _ _ => ?_) _ ?_ | with_reducible refine ite_fit (fun _ => ?_) (fun _ => ?_) | with_reducible refine whenS_fit _ _ _ (fun _ _ => ?_) ?_ | with_reducible refine State.addComp_fit _ _ ?_ | with_reducible refine State.cnfChanges_fit _ _ ?_ | with_reducible refine State.finish_fit _ _ _ ?_ | with_reducible refine State.pmcRan_fit _ _ ?_ | with_reducible refine State.streamClose_fit _ _ _ _ ?_ | with_reducible refine State.xcCheck_fit _ ?_ | split)

theorem execStreamFlush_fit (h : Hdr) (g : Nat) (i o : Bool) (s : State) (hF : s.Fit) : (after1 (execStreamFlush h g i o) s).Fit := by
  unfold after1 execStreamFlush State.runNow State.apply State.follow
  repeat' (first | with_reducible assumption | simp only [fit_mk, fit_eta] | with_reducible refine foldS_fit _ _ (fun _ _ _ => ?_) _ ?_ | with_reducible refine foldl_fit _ _ (fun _ _ _ => ?_) _ ?_ | with_reducible refine ite_fit (fun _ => ?_) (fun _ => ?_) | with_reducible refine whenS_fit _ _ _ (fun _ _ => ?_) ?_ | with_reducible refine State.addComp_fit _ _ ?_ | with_reducible refine State.cnfChanges_fit _ _ ?_ | with_reducible refine State.finish_fit _ _ _ ?_ | with_reducible refine State.pmcRan_fit _ _ ?_ | with_reducible refine State.streamFlush_fit _ _ _ _ ?_ | with_reducible refine State.xcCheck_fit _ ?_ | split)

theorem execGfpOpen_fit (h : Hdr) (o : GfpOp) (s : State) (hF : s.Fit) : (after1 (execGfpOpen h o) s).Fit := by
  unfold after1 execGfpOpen State.runNow State.apply State.follow
  repeat' (first | with_reducible assumption | simp only [fit_mk, fit_eta] | with_reducible refine foldS_fit _ _ (fun _ _ _ => ?_) _ ?_ | with_reducible refine foldl_fit _ _ (fun _ _ _ => ?_) _ ?_ | with_reducible refine ite_fit (fun _ => ?_) (fun _ => ?_) | with_reducible refine whenS_fit _ _ _ (fun _ _ => ?_) ?_ | with_reducible refine State.addComp_fit _ _ ?_ | with_reducible refine State.cnfChanges_fit _ _ ?_ | with_reducible refine State.finish_fit _ _ _ ?_ | with_reducible refine State.gfpOpen_fit _ _ ?_ | with_reducible refine State.pmcRan_fit _ _ ?_ | with_reducible refine State.xcCheck_fit _ ?_ | split)

theorem execGfpClose_fit (h : Hdr) (ch : Nat) (t r : Bool) (s : State) (hF : s.Fit) : (after1 (execGfpClose h ch t r) s).Fit := 
  fit_of_hide (execGfpClose_frame 35184372086767 (by decide) _ _ _ _ _).symm hF

theorem execGfpFlush_fit (h : Hdr) (ch : Nat) (t r : Bool) (s : State) (hF : s.Fit) : (after1 (execGfpFlush h ch t r) s).Fit := by
  unfold after1 execGfpFlush State.runNow State.apply State.follow
  repeat' (first | with_reducible assumption | simp only [fit_mk, fit_eta] | with_reducible refine foldS_fit _ _ (fun _ _ _ => ?_) _ ?_ | with_reducible refine foldl_fit _ _ (fun _ _ _ => ?_) _ ?_ | with_reducible refine ite_fit (fun _ => ?_) (fun _ => ?_) | with_reducible refine whenS_fit _ _ _ (fun _ _ => ?_) ?_ | with_reducible refine State.addComp_fit _ _ ?_ | with_reducible refine State.cnfChanges_fit _ _ ?_ | with_reducible refine State.finish_fit _ _ _ ?_ | with_reducible refine State.gfpFlush_fit _ _ _ _ ?_ | with_reducible refine State.pmcRan_fit _ _ ?_ | with_reducible refine State.xcCheck_fit _ ?_ | split)

theorem execKeyLoad_fit (h : Hdr) (slot : Nat) (w : Bool) (key : List Byte) (s : State) (hF : s.Fit) : (after1 (execKeyLoad h slot w key) s).Fit := 
  fit_of_hide (execKeyLoad_frame 35184372086767 (by decide) _ _ _ _ _).symm hF

theorem execKeyErase_fit (h : Hdr) (slot : Nat) (s : State) (hF : s.Fit) : (after1 (execKeyErase h slot) s).Fit := 
  fit_of_hide (execKeyErase_frame 35184372086767 (by decide) _ _ _).symm hF

theorem execDccAuthCfg_fit (h : Hdr) (o : DccAuthOp) (s : State) (hF : s.Fit) : (after1 (execDccAuthCfg h o) s).Fit := by
  unfold after1 execDccAuthCfg State.runNow State.apply State.follow
  repeat' (first | with_reducible assumption | simp only [fit_mk, fit_eta] | with_reducible refine foldS_fit _ _ (fun _ _ _ => ?_) _ ?_ | with_reducible refine foldl_fit _ _ (fun _ _ _ => ?_) _ ?_ | with_reducible refine ite_fit (fun _ => ?_) (fun _ => ?_) | with_reducible refine whenS_fit _ _ _ (fun _ _ => ?_) ?_ | with_reducible refine State.addComp_fit _ _ ?_ | with_reducible refine State.cnfChanges_fit _ _ ?_ | with_reducible refine State.dccAuthCfg_fit _ _ ?_ | with_reducible refine State.finish_fit _ _ _ ?_ | with_reducible refine State.pmcRan_fit _ _ ?_ | with_reducible refine State.xcCheck_fit _ ?_ | split)

theorem execResClaim_fit (h : Hdr) (rtype i lease : Nat) (s : State) (hF : s.Fit) : (after1 (execResClaim h rtype i lease) s).Fit := by
  unfold after1 execResClaim State.runNow State.apply State.follow
  repeat' (first | with_reducible assumption | simp only [fit_mk, fit_eta] | with_reducible refine foldS_fit _ _ (fun _ _ _ => ?_) _ ?_ | with_reducible refine foldl_fit _ _ (fun _ _ _ => ?_) _ ?_ | with_reducible refine ite_fit (fun _ => ?_) (fun _ => ?_) | with_reducible refine whenS_fit _ _ _ (fun _ _ => ?_) ?_ | with_reducible refine State.addComp_fit _ _ ?_ | with_reducible refine State.cnfChanges_fit _ _ ?_ | with_reducible refine State.finish_fit _ _ _ ?_ | with_reducible refine State.pmcRan_fit _ _ ?_ | with_reducible refine State.resClaim_fit _ _ _ _ _ ?_ | with_reducible refine State.xcCheck_fit _ ?_ | split)

theorem execResRelease_fit (h : Hdr) (rtype i : Nat) (s : State) (hF : s.Fit) : (after1 (execResRelease h rtype i) s).Fit := by
  unfold after1 execResRelease State.runNow State.apply State.follow
  repeat' (first | with_reducible assumption | simp only [fit_mk, fit_eta] | with_reducible refine foldS_fit _ _ (fun _ _ _ => ?_) _ ?_ | with_reducible refine foldl_fit _ _ (fun _ _ _ => ?_) _ ?_ | with_reducible refine ite_fit (fun _ => ?_) (fun _ => ?_) | with_reducible refine whenS_fit _ _ _ (fun _ _ => ?_) ?_ | with_reducible refine State.addComp_fit _ _ ?_ | with_reducible refine State.cnfChanges_fit _ _ ?_ | with_reducible refine State.finish_fit _ _ _ ?_ | with_reducible refine State.pmcRan_fit _ _ ?_ | with_reducible refine State.resRelease_fit _ _ _ _ ?_ | with_reducible refine State.xcCheck_fit _ ?_ | split)

theorem execPmCfg_fit (h : Hdr) (sc i : Nat) (on : Bool) (s : State) (hF : s.Fit) : (after1 (execPmCfg h sc i on) s).Fit := 
  fit_of_hide (execPmCfg_frame 35184372086767 (by decide) _ _ _ _ _).symm hF

theorem State.doorbell_fit (kind n : Nat) (v : Word) (s : State) (hF : s.Fit) : (State.doorbell kind n v s).Fit := by
  unfold State.doorbell
  repeat' (first | with_reducible assumption | simp only [fit_mk, fit_eta] | with_reducible refine foldS_fit _ _ (fun _ _ _ => ?_) _ ?_ | with_reducible refine foldl_fit _ _ (fun _ _ _ => ?_) _ ?_ | with_reducible refine ite_fit (fun _ => ?_) (fun _ => ?_) | with_reducible refine whenS_fit _ _ _ (fun _ _ => ?_) ?_ | with_reducible refine State.modRing_fit _ _ _ _ ?_ | with_reducible refine State.pmcEvent_fit _ _ _ _ ?_ | with_reducible refine State.raise_fit _ _ _ _ _ ?_ | split)

theorem State.writeBar2_fit (o bytes : Nat) (v : DWord) (s : State) (hF : s.Fit) : (State.writeBar2 o bytes v s).Fit := by
  unfold State.writeBar2
  repeat' (first | with_reducible assumption | simp only [fit_mk, fit_eta] | with_reducible refine foldS_fit _ _ (fun _ _ _ => ?_) _ ?_ | with_reducible refine foldl_fit _ _ (fun _ _ _ => ?_) _ ?_ | with_reducible refine ite_fit (fun _ => ?_) (fun _ => ?_) | with_reducible refine whenS_fit _ _ _ (fun _ _ => ?_) ?_ | with_reducible refine State.doorbell_fit _ _ _ _ ?_ | split)

theorem execDoorbellWrite_fit (o bytes : Nat) (v : DWord) (s : State) (hF : s.Fit) : (after1 (execDoorbellWrite o bytes v) s).Fit := by
  unfold after1 execDoorbellWrite
  repeat' (first | with_reducible assumption | simp only [fit_mk, fit_eta] | with_reducible refine foldS_fit _ _ (fun _ _ _ => ?_) _ ?_ | with_reducible refine foldl_fit _ _ (fun _ _ _ => ?_) _ ?_ | with_reducible refine ite_fit (fun _ => ?_) (fun _ => ?_) | with_reducible refine whenS_fit _ _ _ (fun _ _ => ?_) ?_ | with_reducible refine State.writeBar2_fit _ _ _ _ ?_ | split)

theorem State.indexWriteback_fit (kind n : Nat) (s : State) (hF : s.Fit) : (State.indexWriteback kind n s).Fit := by
  unfold State.indexWriteback
  repeat' (first | with_reducible assumption | simp only [fit_mk, fit_eta] | with_reducible refine foldS_fit _ _ (fun _ _ _ => ?_) _ ?_ | with_reducible refine foldl_fit _ _ (fun _ _ _ => ?_) _ ?_ | with_reducible refine ite_fit (fun _ => ?_) (fun _ => ?_) | with_reducible refine whenS_fit _ _ _ (fun _ _ => ?_) ?_ | with_reducible refine State.dma_fit _ _ _ ?_ | with_reducible refine State.intr_fit _ _ ?_ | with_reducible refine State.modRing_fit _ _ _ _ ?_ | split)

theorem execConsumerIndexWriteback_fit (kind : Fin 10) (n : Nat) (s : State) (hF : s.Fit) : (after1 (execConsumerIndexWriteback kind n) s).Fit := by
  unfold after1 execConsumerIndexWriteback
  repeat' (first | with_reducible assumption | simp only [fit_mk, fit_eta] | with_reducible refine foldS_fit _ _ (fun _ _ _ => ?_) _ ?_ | with_reducible refine foldl_fit _ _ (fun _ _ _ => ?_) _ ?_ | with_reducible refine ite_fit (fun _ => ?_) (fun _ => ?_) | with_reducible refine whenS_fit _ _ _ (fun _ _ => ?_) ?_ | with_reducible refine State.indexWriteback_fit _ _ _ ?_ | split)

theorem State.writeComp_fit (cc : Nat) (s : State) (hF : s.Fit) : (State.writeComp cc s).Fit := by
  unfold State.writeComp
  repeat' (first | with_reducible assumption | simp only [fit_mk, fit_eta] | with_reducible refine foldS_fit _ _ (fun _ _ _ => ?_) _ ?_ | with_reducible refine foldl_fit _ _ (fun _ _ _ => ?_) _ ?_ | with_reducible refine ite_fit (fun _ => ?_) (fun _ => ?_) | with_reducible refine whenS_fit _ _ _ (fun _ _ => ?_) ?_ | with_reducible refine State.modRing_fit _ _ _ _ ?_ | with_reducible refine State.putComp_fit _ _ ?_ | split)

theorem execCompletionWrite_fit (cc : Fin 64) (s : State) (hF : s.Fit) : (after1 (execCompletionWrite cc) s).Fit := by
  unfold after1 execCompletionWrite
  repeat' (first | with_reducible assumption | simp only [fit_mk, fit_eta] | with_reducible refine foldS_fit _ _ (fun _ _ _ => ?_) _ ?_ | with_reducible refine foldl_fit _ _ (fun _ _ _ => ?_) _ ?_ | with_reducible refine ite_fit (fun _ => ?_) (fun _ => ?_) | with_reducible refine whenS_fit _ _ _ (fun _ _ => ?_) ?_ | with_reducible refine State.serveHeads_fit _ ?_ | with_reducible refine State.writeComp_fit _ _ ?_ | split)

theorem State.drainHeld_fit (cc : Nat) (s : State) (hF : s.Fit) : (State.drainHeld cc s).Fit := by
  unfold State.drainHeld
  repeat' (first | with_reducible assumption | simp only [fit_mk, fit_eta] | with_reducible refine foldS_fit _ _ (fun _ _ _ => ?_) _ ?_ | with_reducible refine foldl_fit _ _ (fun _ _ _ => ?_) _ ?_ | with_reducible refine ite_fit (fun _ => ?_) (fun _ => ?_) | with_reducible refine whenS_fit _ _ _ (fun _ _ => ?_) ?_ | with_reducible refine State.writeComp_fit _ _ ?_ | split)

theorem State.holdComps_fit (s : State) (hF : s.Fit) : (State.holdComps s).Fit := 
  fit_of_hide (State.holdComps_frame 35184372086767 (by decide) _).symm hF

theorem State.ceStalled_fit (s : State) (hF : s.Fit) : (State.ceStalled s).Fit := 
  fit_of_hide (State.ceStalled_frame 35184372086767 (by decide) _).symm hF

theorem execCeStall_fit (ring : Fin 64) (s : State) (hF : s.Fit) : (after1 (execCeStall ring) s).Fit := by
  unfold after1 execCeStall
  repeat' (first | with_reducible assumption | simp only [fit_mk, fit_eta] | with_reducible refine foldS_fit _ _ (fun _ _ _ => ?_) _ ?_ | with_reducible refine foldl_fit _ _ (fun _ _ _ => ?_) _ ?_ | with_reducible refine ite_fit (fun _ => ?_) (fun _ => ?_) | with_reducible refine whenS_fit _ _ _ (fun _ _ => ?_) ?_ | with_reducible refine State.ceStalled_fit _ ?_ | with_reducible refine State.raise_fit _ _ _ _ _ ?_ | with_reducible refine State.setRing_fit _ _ _ _ ?_ | split)

theorem State.ringOff_fit (kind n : Nat) (s : State) (hF : s.Fit) : (State.ringOff kind n s).Fit := by
  unfold State.ringOff
  repeat' (first | with_reducible assumption | simp only [fit_mk, fit_eta] | with_reducible refine foldS_fit _ _ (fun _ _ _ => ?_) _ ?_ | with_reducible refine foldl_fit _ _ (fun _ _ _ => ?_) _ ?_ | with_reducible refine ite_fit (fun _ => ?_) (fun _ => ?_) | with_reducible refine whenS_fit _ _ _ (fun _ _ => ?_) ?_ | with_reducible refine State.holdComps_fit _ ?_ | with_reducible refine State.outStops_fit _ ?_ | with_reducible refine State.oxStops_fit _ ?_ | with_reducible refine State.refuse_fit _ _ _ _ _ ?_ | with_reducible refine State.setRing_fit _ _ _ _ ?_ | split)

theorem State.ringOn_fit (kind n : Nat) (s : State) (hF : s.Fit) : (State.ringOn kind n s).Fit := by
  unfold State.ringOn
  repeat' (first | with_reducible assumption | simp only [fit_mk, fit_eta] | with_reducible refine foldS_fit _ _ (fun _ _ _ => ?_) _ ?_ | with_reducible refine foldl_fit _ _ (fun _ _ _ => ?_) _ ?_ | with_reducible refine ite_fit (fun _ => ?_) (fun _ => ?_) | with_reducible refine whenS_fit _ _ _ (fun _ _ => ?_) ?_ | with_reducible refine State.drainHeld_fit _ _ ?_ | with_reducible refine State.serveHeads_fit _ ?_ | with_reducible refine State.setRing_fit _ _ _ _ ?_ | split)

theorem State.rcfgWrite_fit (kind n : Nat) (v : Word) (s : State) (hF : s.Fit) : (State.rcfgWrite kind n v s).Fit := by
  unfold State.rcfgWrite
  repeat' (first | with_reducible assumption | simp only [fit_mk, fit_eta] | with_reducible refine foldS_fit _ _ (fun _ _ _ => ?_) _ ?_ | with_reducible refine foldl_fit _ _ (fun _ _ _ => ?_) _ ?_ | with_reducible refine ite_fit (fun _ => ?_) (fun _ => ?_) | with_reducible refine whenS_fit _ _ _ (fun _ _ => ?_) ?_ | with_reducible refine State.ringOff_fit _ _ _ ?_ | with_reducible refine State.ringOn_fit _ _ _ ?_ | with_reducible refine State.setRing_fit _ _ _ _ ?_ | split)

theorem execRingEnable_fit (kind : Fin 10) (n : Nat) (v : Word) (s : State) (hF : s.Fit) : (after1 (execRingEnable kind n v) s).Fit := by
  unfold after1 execRingEnable
  repeat' (first | with_reducible assumption | simp only [fit_mk, fit_eta] | with_reducible refine foldS_fit _ _ (fun _ _ _ => ?_) _ ?_ | with_reducible refine foldl_fit _ _ (fun _ _ _ => ?_) _ ?_ | with_reducible refine ite_fit (fun _ => ?_) (fun _ => ?_) | with_reducible refine whenS_fit _ _ _ (fun _ _ => ?_) ?_ | with_reducible refine State.rcfgWrite_fit _ _ _ _ ?_ | split)

theorem execRingDisable_fit (kind : Fin 10) (n : Nat) (s : State) (hF : s.Fit) : (after1 (execRingDisable kind n) s).Fit := by
  unfold after1 execRingDisable
  repeat' (first | with_reducible assumption | simp only [fit_mk, fit_eta] | with_reducible refine foldS_fit _ _ (fun _ _ _ => ?_) _ ?_ | with_reducible refine foldl_fit _ _ (fun _ _ _ => ?_) _ ?_ | with_reducible refine ite_fit (fun _ => ?_) (fun _ => ?_) | with_reducible refine whenS_fit _ _ _ (fun _ _ => ?_) ?_ | with_reducible refine State.ringOff_fit _ _ _ ?_ | split)

theorem State.ringReset_fit (kind n : Nat) (s : State) (hF : s.Fit) : (State.ringReset kind n s).Fit := by
  unfold State.ringReset
  repeat' (first | with_reducible assumption | simp only [fit_mk, fit_eta] | with_reducible refine foldS_fit _ _ (fun _ _ _ => ?_) _ ?_ | with_reducible refine foldl_fit _ _ (fun _ _ _ => ?_) _ ?_ | with_reducible refine ite_fit (fun _ => ?_) (fun _ => ?_) | with_reducible refine whenS_fit _ _ _ (fun _ _ => ?_) ?_ | with_reducible refine State.breakOwners_fit _ _ ?_ | with_reducible refine State.setRing_fit _ _ _ _ ?_ | split)

theorem execRingReset_fit (kind : Fin 10) (n : Nat) (s : State) (hF : s.Fit) : (after1 (execRingReset kind n) s).Fit := by
  unfold after1 execRingReset
  repeat' (first | with_reducible assumption | simp only [fit_mk, fit_eta] | with_reducible refine foldS_fit _ _ (fun _ _ _ => ?_) _ ?_ | with_reducible refine foldl_fit _ _ (fun _ _ _ => ?_) _ ?_ | with_reducible refine ite_fit (fun _ => ?_) (fun _ => ?_) | with_reducible refine whenS_fit _ _ _ (fun _ _ => ?_) ?_ | with_reducible refine State.ringReset_fit _ _ _ ?_ | split)

theorem execHifCplTo_fit (kind : Fin 10) (n : Nat) (second : Bool) (s : State) (hF : s.Fit) : (after1 (execHifCplTo kind n second) s).Fit := by
  unfold after1 execHifCplTo
  repeat' (first | with_reducible assumption | simp only [fit_mk, fit_eta] | with_reducible refine foldS_fit _ _ (fun _ _ _ => ?_) _ ?_ | with_reducible refine foldl_fit _ _ (fun _ _ _ => ?_) _ ?_ | with_reducible refine ite_fit (fun _ => ?_) (fun _ => ?_) | with_reducible refine whenS_fit _ _ _ (fun _ _ => ?_) ?_ | with_reducible refine State.raise_fit _ _ _ _ _ ?_ | with_reducible refine State.ringOff_fit _ _ _ ?_ | with_reducible refine State.setRing_fit _ _ _ _ ?_ | split)

theorem State.dmaResumes_fit (s : State) (hF : s.Fit) : (State.dmaResumes s).Fit := by
  unfold State.dmaResumes
  repeat' (first | with_reducible assumption | simp only [fit_mk, fit_eta] | with_reducible refine foldS_fit _ _ (fun _ _ _ => ?_) _ ?_ | with_reducible refine foldl_fit _ _ (fun _ _ _ => ?_) _ ?_ | with_reducible refine ite_fit (fun _ => ?_) (fun _ => ?_) | with_reducible refine whenS_fit _ _ _ (fun _ _ => ?_) ?_ | with_reducible refine State.drainHeld_fit _ _ ?_ | with_reducible refine State.flushVecs_fit _ ?_ | with_reducible refine State.serveHeads_fit _ ?_ | split)

theorem execBusMasterEnable_fit (s : State) (hF : s.Fit) : (after1 (execBusMasterEnable ) s).Fit := by
  unfold after1 execBusMasterEnable
  repeat' (first | with_reducible assumption | simp only [fit_mk, fit_eta] | with_reducible refine foldS_fit _ _ (fun _ _ _ => ?_) _ ?_ | with_reducible refine foldl_fit _ _ (fun _ _ _ => ?_) _ ?_ | with_reducible refine ite_fit (fun _ => ?_) (fun _ => ?_) | with_reducible refine whenS_fit _ _ _ (fun _ _ => ?_) ?_ | with_reducible refine State.dmaResumes_fit _ ?_ | split)

theorem execBusMasterDisable_fit (s : State) (hF : s.Fit) : (after1 (execBusMasterDisable ) s).Fit := by
  unfold after1 execBusMasterDisable
  repeat' (first | with_reducible assumption | simp only [fit_mk, fit_eta] | with_reducible refine foldS_fit _ _ (fun _ _ _ => ?_) _ ?_ | with_reducible refine foldl_fit _ _ (fun _ _ _ => ?_) _ ?_ | with_reducible refine ite_fit (fun _ => ?_) (fun _ => ?_) | with_reducible refine whenS_fit _ _ _ (fun _ _ => ?_) ?_ | with_reducible refine State.holdComps_fit _ ?_ | with_reducible refine State.outStops_fit _ ?_ | with_reducible refine State.oxStops_fit _ ?_ | split)

theorem execD3hotEntry_fit (s : State) (hF : s.Fit) : (after1 (execD3hotEntry ) s).Fit := by
  unfold after1 execD3hotEntry
  repeat' (first | with_reducible assumption | simp only [fit_mk, fit_eta] | with_reducible refine foldS_fit _ _ (fun _ _ _ => ?_) _ ?_ | with_reducible refine foldl_fit _ _ (fun _ _ _ => ?_) _ ?_ | with_reducible refine ite_fit (fun _ => ?_) (fun _ => ?_) | with_reducible refine whenS_fit _ _ _ (fun _ _ => ?_) ?_ | with_reducible refine State.holdComps_fit _ ?_ | with_reducible refine State.outStops_fit _ ?_ | with_reducible refine State.oxStops_fit _ ?_ | split)

theorem execD0Entry_fit (s : State) (hF : s.Fit) : (after1 (execD0Entry ) s).Fit := by
  unfold after1 execD0Entry
  repeat' (first | with_reducible assumption | simp only [fit_mk, fit_eta] | with_reducible refine foldS_fit _ _ (fun _ _ _ => ?_) _ ?_ | with_reducible refine foldl_fit _ _ (fun _ _ _ => ?_) _ ?_ | with_reducible refine ite_fit (fun _ => ?_) (fun _ => ?_) | with_reducible refine whenS_fit _ _ _ (fun _ _ => ?_) ?_ | with_reducible refine State.dmaResumes_fit _ ?_ | split)

theorem execMsixUnmask_fit (v : Option (Fin 64)) (s : State) (hF : s.Fit) : (after1 (execMsixUnmask v) s).Fit := by
  unfold after1 execMsixUnmask
  repeat' (first | with_reducible assumption | simp only [fit_mk, fit_eta] | with_reducible refine foldS_fit _ _ (fun _ _ _ => ?_) _ ?_ | with_reducible refine foldl_fit _ _ (fun _ _ _ => ?_) _ ?_ | with_reducible refine ite_fit (fun _ => ?_) (fun _ => ?_) | with_reducible refine whenS_fit _ _ _ (fun _ _ => ?_) ?_ | with_reducible refine State.flushVecs_fit _ ?_ | split)

theorem execLinkUp_fit (up : Bool) (width speed : Nat) (s : State) (hF : s.Fit) : (after1 (execLinkUp up width speed) s).Fit := 
  fit_of_hide (execLinkUp_frame 35184372086767 (by decide) _ _ _ _).symm hF

theorem State.purge_fit (s : State) (hF : s.Fit) : (State.purge s).Fit := 
  fit_of_hide (State.purge_frame 35184372086767 (by decide) _).symm hF

theorem State.hostReset_fit (last : Nat) (s : State) (hF : s.Fit) : (State.hostReset last s).Fit := by
  unfold State.hostReset
  repeat' (first | with_reducible assumption | simp only [fit_mk, fit_eta] | with_reducible refine foldS_fit _ _ (fun _ _ _ => ?_) _ ?_ | with_reducible refine foldl_fit _ _ (fun _ _ _ => ?_) _ ?_ | with_reducible refine ite_fit (fun _ => ?_) (fun _ => ?_) | with_reducible refine whenS_fit _ _ _ (fun _ _ => ?_) ?_ | with_reducible refine State.breakOwners_fit _ _ ?_ | with_reducible refine State.holdComps_fit _ ?_ | with_reducible refine State.outStops_fit _ ?_ | with_reducible refine State.oxStops_fit _ ?_ | with_reducible refine State.purge_fit _ ?_ | with_reducible refine State.ringOff_fit _ _ _ ?_ | split)

theorem execPerstN_fit (s : State) (hF : s.Fit) : (after1 (execPerstN ) s).Fit := by
  unfold after1 execPerstN
  repeat' (first | with_reducible assumption | simp only [fit_mk, fit_eta] | with_reducible refine foldS_fit _ _ (fun _ _ _ => ?_) _ ?_ | with_reducible refine foldl_fit _ _ (fun _ _ _ => ?_) _ ?_ | with_reducible refine ite_fit (fun _ => ?_) (fun _ => ?_) | with_reducible refine whenS_fit _ _ _ (fun _ _ => ?_) ?_ | with_reducible refine State.hostReset_fit _ _ ?_ | split)

theorem execFlr_fit (s : State) (hF : s.Fit) : (after1 (execFlr ) s).Fit := by
  unfold after1 execFlr
  repeat' (first | with_reducible assumption | simp only [fit_mk, fit_eta] | with_reducible refine foldS_fit _ _ (fun _ _ _ => ?_) _ ?_ | with_reducible refine foldl_fit _ _ (fun _ _ _ => ?_) _ ?_ | with_reducible refine ite_fit (fun _ => ?_) (fun _ => ?_) | with_reducible refine whenS_fit _ _ _ (fun _ _ => ?_) ?_ | with_reducible refine State.hostReset_fit _ _ ?_ | split)

theorem State.pmLose_fit (second : Word) (s : State) (hF : s.Fit) : (State.pmLose second s).Fit := by
  unfold State.pmLose
  repeat' (first | with_reducible assumption | simp only [fit_mk, fit_eta] | with_reducible refine foldS_fit _ _ (fun _ _ _ => ?_) _ ?_ | with_reducible refine foldl_fit _ _ (fun _ _ _ => ?_) _ ?_ | with_reducible refine ite_fit (fun _ => ?_) (fun _ => ?_) | with_reducible refine whenS_fit _ _ _ (fun _ _ => ?_) ?_ | with_reducible refine State.raise_fit _ _ _ _ _ ?_ | split)

theorem State.pmLatch_fit (s : State) (hF : s.Fit) : (State.pmLatch s).Fit := by
  unfold State.pmLatch
  repeat' (first | with_reducible assumption | simp only [fit_mk, fit_eta] | with_reducible refine foldS_fit _ _ (fun _ _ _ => ?_) _ ?_ | with_reducible refine foldl_fit _ _ (fun _ _ _ => ?_) _ ?_ | with_reducible refine ite_fit (fun _ => ?_) (fun _ => ?_) | with_reducible refine whenS_fit _ _ _ (fun _ _ => ?_) ?_ | with_reducible refine State.pmLose_fit _ _ ?_ | split)

theorem State.pmPart_fit (d : BufDesc) (s : State) (hF : s.Fit) : (State.pmPart d s).Fit := by
  unfold State.pmPart
  repeat' (first | with_reducible assumption | simp only [fit_mk, fit_eta] | with_reducible refine foldS_fit _ _ (fun _ _ _ => ?_) _ ?_ | with_reducible refine foldl_fit _ _ (fun _ _ _ => ?_) _ ?_ | with_reducible refine ite_fit (fun _ => ?_) (fun _ => ?_) | with_reducible refine whenS_fit _ _ _ (fun _ _ => ?_) ?_ | with_reducible refine State.badDesc_fit _ _ _ _ ?_ | with_reducible refine State.dma_fit _ _ _ ?_ | with_reducible refine State.writeBack_fit _ _ _ _ _ _ ?_ | split)

theorem execPmPartWrite_fit (d : BufDesc) (s : State) (hF : s.Fit) : (after1 (execPmPartWrite d) s).Fit := by
  unfold after1 execPmPartWrite
  repeat' (first | with_reducible assumption | simp only [fit_mk, fit_eta] | with_reducible refine foldS_fit _ _ (fun _ _ _ => ?_) _ ?_ | with_reducible refine foldl_fit _ _ (fun _ _ _ => ?_) _ ?_ | with_reducible refine ite_fit (fun _ => ?_) (fun _ => ?_) | with_reducible refine whenS_fit _ _ _ (fun _ _ => ?_) ?_ | with_reducible refine State.pmPart_fit _ _ ?_ | split)

theorem State.pmcSnap_fit (s : State) (hF : s.Fit) : (State.pmcSnap s).Fit := 
  fit_of_hide (State.pmcSnap_frame 35184372086767 (by decide) _).symm hF

theorem execPmcSnap_fit (s : State) (hF : s.Fit) : (after1 (execPmcSnap ) s).Fit := 
  fit_of_hide (execPmcSnap_frame 35184372086767 (by decide) _).symm hF

theorem execPmcFreeze_fit (on : Bool) (s : State) (hF : s.Fit) : (after1 (execPmcFreeze on) s).Fit := 
  fit_of_hide (execPmcFreeze_frame 35184372086767 (by decide) _ _).symm hF

theorem State.pmcPreset_fit (j : Nat) (v : DWord) (s : State) (hF : s.Fit) : (State.pmcPreset j v s).Fit := 
  fit_of_hide (State.pmcPreset_frame 35184372086767 (by decide) _ _ _).symm hF

theorem execPmcPreset_fit (j : Fin 13) (v : DWord) (s : State) (hF : s.Fit) : (after1 (execPmcPreset j v) s).Fit := 
  fit_of_hide (execPmcPreset_frame 35184372086767 (by decide) _ _ _).symm hF

theorem execPmcOvf_fit (j : Fin 13) (s : State) (hF : s.Fit) : (after1 (execPmcOvf j) s).Fit := 
  fit_of_hide (execPmcOvf_frame 35184372086767 (by decide) _ _).symm hF

theorem State.takeSample_fit (x : Sample) (s : State) (hF : s.Fit) : (State.takeSample x s).Fit := by
  unfold State.takeSample
  repeat' (first | with_reducible assumption | simp only [fit_mk, fit_eta] | with_reducible refine foldS_fit _ _ (fun _ _ _ => ?_) _ ?_ | with_reducible refine foldl_fit _ _ (fun _ _ _ => ?_) _ ?_ | with_reducible refine ite_fit (fun _ => ?_) (fun _ => ?_) | with_reducible refine whenS_fit _ _ _ (fun _ _ => ?_) ?_ | with_reducible refine State.raise_fit _ _ _ _ _ ?_ | split)

theorem State.scrubPlain_fit (m : Mem) (d : Bool) (s : State) (hF : s.Fit) : (State.scrubPlain m d s).Fit := 
  fit_of_hide (State.scrubPlain_frame 35184372086767 (by decide) _ _ _).symm hF

theorem State.scrubRead_fit (m : Mem) (s : State) (hF : s.Fit) : (State.scrubRead m s).Fit := by
  unfold State.scrubRead
  repeat' (first | with_reducible assumption | simp only [fit_mk, fit_eta] | with_reducible refine foldS_fit _ _ (fun _ _ _ => ?_) _ ?_ | with_reducible refine foldl_fit _ _ (fun _ _ _ => ?_) _ ?_ | with_reducible refine ite_fit (fun _ => ?_) (fun _ => ?_) | with_reducible refine whenS_fit _ _ _ (fun _ _ => ?_) ?_ | with_reducible refine State.cmRead_fit _ _ _ ?_ | with_reducible refine State.cnfEcc_fit _ _ _ _ ?_ | with_reducible refine State.cnfOnce_fit _ _ _ _ _ ?_ | with_reducible refine State.dmRead_fit _ _ _ _ ?_ | with_reducible refine State.groupRead_fit _ _ _ ?_ | with_reducible refine State.readDue_fit _ _ ?_ | with_reducible refine State.rsRead_fit _ _ _ _ ?_ | with_reducible refine State.scrubPlain_fit _ _ _ ?_ | with_reducible refine State.sramErr_fit _ _ _ _ ?_ | split)

theorem State.scrubWord_fit (m : Mem) (s : State) (hF : s.Fit) : (State.scrubWord m s).Fit := by
  unfold State.scrubWord
  repeat' (first | with_reducible assumption | simp only [fit_mk, fit_eta] | with_reducible refine foldS_fit _ _ (fun _ _ _ => ?_) _ ?_ | with_reducible refine foldl_fit _ _ (fun _ _ _ => ?_) _ ?_ | with_reducible refine ite_fit (fun _ => ?_) (fun _ => ?_) | with_reducible refine whenS_fit _ _ _ (fun _ _ => ?_) ?_ | with_reducible refine State.scrubRead_fit _ _ ?_ | split)

theorem execScrubWord_fit (m : Mem) (hit : Option Bool) (s : State) (hF : s.Fit) : (after1 (execScrubWord m hit) s).Fit := by
  unfold after1 execScrubWord
  repeat' (first | with_reducible assumption | simp only [fit_mk, fit_eta] | with_reducible refine foldS_fit _ _ (fun _ _ _ => ?_) _ ?_ | with_reducible refine foldl_fit _ _ (fun _ _ _ => ?_) _ ?_ | with_reducible refine ite_fit (fun _ => ?_) (fun _ => ?_) | with_reducible refine whenS_fit _ _ _ (fun _ _ => ?_) ?_ | with_reducible refine State.addUpsets_fit _ _ ?_ | with_reducible refine State.scrubWord_fit _ _ ?_ | split)

theorem State.sweepStart_fit (s : State) (hF : s.Fit) : (State.sweepStart s).Fit := 
  fit_of_hide (State.sweepStart_frame 35184372086767 (by decide) _).symm hF

theorem State.sweepEnd_fit (s : State) (hF : s.Fit) : (State.sweepEnd s).Fit := by
  unfold State.sweepEnd
  repeat' (first | with_reducible assumption | simp only [fit_mk, fit_eta] | with_reducible refine foldS_fit _ _ (fun _ _ _ => ?_) _ ?_ | with_reducible refine foldl_fit _ _ (fun _ _ _ => ?_) _ ?_ | with_reducible refine ite_fit (fun _ => ?_) (fun _ => ?_) | with_reducible refine whenS_fit _ _ _ (fun _ _ => ?_) ?_ | with_reducible refine State.scrubWord_fit _ _ ?_ | split)

theorem State.calibrate_fit (s : State) (hF : s.Fit) : (State.calibrate s).Fit := 
  fit_of_hide (State.calibrate_frame 35184372086767 (by decide) _).symm hF

theorem execCalibration_fit (s : State) (hF : s.Fit) : (after1 (execCalibration ) s).Fit := 
  fit_of_hide (execCalibration_frame 35184372086767 (by decide) _).symm hF

theorem State.newSecond_fit (s : State) (hF : s.Fit) : (State.newSecond s).Fit := 
  fit_of_hide (State.newSecond_frame 35184372086767 (by decide) _).symm hF

theorem State.storySecond_fit (x : Sample) (s : State) (hF : s.Fit) : (State.storySecond x s).Fit := by
  unfold State.storySecond
  repeat' (first | with_reducible assumption | simp only [fit_mk, fit_eta] | with_reducible refine foldS_fit _ _ (fun _ _ _ => ?_) _ ?_ | with_reducible refine foldl_fit _ _ (fun _ _ _ => ?_) _ ?_ | with_reducible refine ite_fit (fun _ => ?_) (fun _ => ?_) | with_reducible refine whenS_fit _ _ _ (fun _ _ => ?_) ?_ | with_reducible refine State.pmLatch_fit _ ?_ | with_reducible refine State.sweepStart_fit _ ?_ | with_reducible refine State.takeSample_fit _ _ ?_ | split)

theorem execStorySecond_fit (x : Sample) (s : State) (hF : s.Fit) : (after1 (execStorySecond x) s).Fit := by
  unfold after1 execStorySecond
  repeat' (first | with_reducible assumption | simp only [fit_mk, fit_eta] | with_reducible refine foldS_fit _ _ (fun _ _ _ => ?_) _ ?_ | with_reducible refine foldl_fit _ _ (fun _ _ _ => ?_) _ ?_ | with_reducible refine ite_fit (fun _ => ?_) (fun _ => ?_) | with_reducible refine whenS_fit _ _ _ (fun _ _ => ?_) ?_ | with_reducible refine State.storySecond_fit _ _ ?_ | split)

theorem State.legacyCmd_fit (op : Nat) (s : State) (hF : s.Fit) : (State.legacyCmd op s).Fit := 
  fit_of_hide (State.legacyCmd_frame 35184372086767 (by decide) _ _).symm hF

theorem execLegacySense_fit (s : State) (hF : s.Fit) : (after1 (execLegacySense ) s).Fit := 
  fit_of_hide (execLegacySense_frame 35184372086767 (by decide) _).symm hF

theorem execLegacyCal_fit (s : State) (hF : s.Fit) : (after1 (execLegacyCal ) s).Fit := 
  fit_of_hide (execLegacyCal_frame 35184372086767 (by decide) _).symm hF

theorem execLegacyScrubReport_fit (s : State) (hF : s.Fit) : (after1 (execLegacyScrubReport ) s).Fit := 
  fit_of_hide (execLegacyScrubReport_frame 35184372086767 (by decide) _).symm hF

theorem State.legacyEffect_fit (x : Sample) (s : State) (hF : s.Fit) : (State.legacyEffect x s).Fit := by
  unfold State.legacyEffect
  repeat' (first | with_reducible assumption | simp only [fit_mk, fit_eta] | with_reducible refine foldS_fit _ _ (fun _ _ _ => ?_) _ ?_ | with_reducible refine foldl_fit _ _ (fun _ _ _ => ?_) _ ?_ | with_reducible refine ite_fit (fun _ => ?_) (fun _ => ?_) | with_reducible refine whenS_fit _ _ _ (fun _ _ => ?_) ?_ | with_reducible refine State.calibrate_fit _ ?_ | with_reducible refine State.takeSample_fit _ _ ?_ | split)

theorem State.legacyEnd_fit (x : Sample) (s : State) (hF : s.Fit) : (State.legacyEnd x s).Fit := by
  unfold State.legacyEnd
  repeat' (first | with_reducible assumption | simp only [fit_mk, fit_eta] | with_reducible refine foldS_fit _ _ (fun _ _ _ => ?_) _ ?_ | with_reducible refine foldl_fit _ _ (fun _ _ _ => ?_) _ ?_ | with_reducible refine ite_fit (fun _ => ?_) (fun _ => ?_) | with_reducible refine whenS_fit _ _ _ (fun _ _ => ?_) ?_ | with_reducible refine State.legacyEffect_fit _ _ ?_ | split)

theorem execLegacyDone_fit (x : Sample) (s : State) (hF : s.Fit) : (after1 (execLegacyDone x) s).Fit := by
  unfold after1 execLegacyDone
  repeat' (first | with_reducible assumption | simp only [fit_mk, fit_eta] | with_reducible refine foldS_fit _ _ (fun _ _ _ => ?_) _ ?_ | with_reducible refine foldl_fit _ _ (fun _ _ _ => ?_) _ ?_ | with_reducible refine ite_fit (fun _ => ?_) (fun _ => ?_) | with_reducible refine whenS_fit _ _ _ (fun _ _ => ?_) ?_ | with_reducible refine State.legacyEnd_fit _ _ ?_ | split)

theorem execSvcModeWrite_fit (v : Word) (s : State) (hF : s.Fit) : (after1 (execSvcModeWrite v) s).Fit := 
  fit_of_hide (execSvcModeWrite_frame 35184372086767 (by decide) _ _).symm hF

theorem State.logMark_fit (v : Word) (s : State) (hF : s.Fit) : (State.logMark v s).Fit := 
  fit_of_hide (State.logMark_frame 35184372086767 (by decide) _ _).symm hF

theorem execLogMarkWrite_fit (v : Word) (s : State) (hF : s.Fit) : (after1 (execLogMarkWrite v) s).Fit := 
  fit_of_hide (execLogMarkWrite_frame 35184372086767 (by decide) _ _).symm hF

theorem State.logRidx_fit (v : Word) (s : State) (hF : s.Fit) : (State.logRidx v s).Fit := 
  fit_of_hide (State.logRidx_frame 35184372086767 (by decide) _ _).symm hF

theorem execLogRidxWrite_fit (v : Word) (s : State) (hF : s.Fit) : (after1 (execLogRidxWrite v) s).Fit := 
  fit_of_hide (execLogRidxWrite_frame 35184372086767 (by decide) _ _).symm hF

theorem State.logCfg_fit (v : Word) (s : State) (hF : s.Fit) : (State.logCfg v s).Fit := 
  fit_of_hide (State.logCfg_frame 35184372086767 (by decide) _ _).symm hF

theorem execLogCfgWrite_fit (v : Word) (s : State) (hF : s.Fit) : (after1 (execLogCfgWrite v) s).Fit := 
  fit_of_hide (execLogCfgWrite_frame 35184372086767 (by decide) _ _).symm hF

end Sys2Proof.Machine
end

