-- ==== Sys2Proof/Laws/FrameTop.lean ====
section
/-! SUPPORT. Frames of faults, boot, the frame boundary, register writes and the device on its own.
Each lemma says which parts its operation can change: those of the mask in its hypothesis. -/

namespace Sys2Proof.Machine

set_option linter.unusedSimpArgs false
set_option linter.unreachableTactic false
set_option linter.unusedTactic false
set_option linter.unusedVariables false

theorem State.reactWrite_frame (W : Nat) (hW : 8224 &&& W = 8224) (v : Word) (s : State) : (State.reactWrite v s).hide W = s.hide W := by
  refine hide_mono _ _ hW ?_
  unfold State.reactWrite
  repeat' (first | with_reducible rfl | simp only [State.wordWritten_frame, Nat.reduceAnd, hide_ite, snd_ite, foldS_frame, whenS_frame, foldl_frame, ite_self, implies_true, mk_leaf, State.hideU, Ce.hide, Glb.hide, Flt.hide, Hif.hide, Sec.hide, Stp.hide, pick, Nat.reduceEqDiff, reduceIte] | with_reducible refine (foldS_frame _ _ _ (fun _ _ => ?_) _).trans ?_ | with_reducible refine (whenS_frame _ _ _ _ (fun _ => ?_)).trans ?_ | split)

theorem State.reactRead_frame (W : Nat) (hW : 2080 &&& W = 2080) (src cls : Nat) (s : State) : (State.reactRead src cls s).2.hide W = s.hide W := by
  refine hide_mono _ _ hW ?_
  unfold State.reactRead
  repeat' (first | with_reducible rfl | simp only [State.clearUpset_frame, Nat.reduceAnd, hide_ite, snd_ite, foldS_frame, whenS_frame, foldl_frame, ite_self, implies_true, mk_leaf, State.hideU, Ce.hide, Glb.hide, Flt.hide, Hif.hide, Sec.hide, Stp.hide, pick, Nat.reduceEqDiff, reduceIte] | with_reducible refine (foldS_frame _ _ _ (fun _ _ => ?_) _).trans ?_ | with_reducible refine (whenS_frame _ _ _ _ (fun _ => ?_)).trans ?_ | split)

theorem State.portReset_frame (W : Nat) (hW : 553648136 &&& W = 553648136) (n : Nat) (s : State) : (State.portReset n s).hide W = s.hide W := by
  refine hide_mono _ _ hW ?_
  unfold State.portReset
  repeat' (first | with_reducible rfl | simp only [State.regsReset_frame, State.seeBits_frame, State.setPort_frame, Nat.reduceAnd, hide_ite, snd_ite, foldS_frame, whenS_frame, foldl_frame, ite_self, implies_true, mk_leaf, State.hideU, Ce.hide, Glb.hide, Flt.hide, Hif.hide, Sec.hide, Stp.hide, pick, Nat.reduceEqDiff, reduceIte] | with_reducible refine (foldS_frame _ _ _ (fun _ _ => ?_) _).trans ?_ | with_reducible refine (whenS_frame _ _ _ _ (fun _ => ?_)).trans ?_ | split)

theorem State.hoUnitReset_frame (W : Nat) (hW : 1090519040 &&& W = 1090519040) (n : Nat) (s : State) : (State.hoUnitReset n s).hide W = s.hide W := by
  refine hide_mono _ _ hW ?_
  unfold State.hoUnitReset
  repeat' (first | with_reducible rfl | simp only [State.seeBits_frame, State.setPath_frame, Nat.reduceAnd, hide_ite, snd_ite, foldS_frame, whenS_frame, foldl_frame, ite_self, implies_true, mk_leaf, State.hideU, Ce.hide, Glb.hide, Flt.hide, Hif.hide, Sec.hide, Stp.hide, pick, Nat.reduceEqDiff, reduceIte] | with_reducible refine (foldS_frame _ _ _ (fun _ _ => ?_) _).trans ?_ | with_reducible refine (whenS_frame _ _ _ _ (fun _ => ?_)).trans ?_ | split)

theorem State.loSliceReset_frame (W : Nat) (hW : 18270388224 &&& W = 18270388224) (i : Nat) (s : State) : (State.loSliceReset i s).hide W = s.hide W := by
  refine hide_mono _ _ hW ?_
  unfold State.loSliceReset
  repeat' (first | with_reducible rfl | simp only [State.seeBits_frame, Nat.reduceAnd, hide_ite, snd_ite, foldS_frame, whenS_frame, foldl_frame, ite_self, implies_true, mk_leaf, State.hideU, Ce.hide, Glb.hide, Flt.hide, Hif.hide, Sec.hide, Stp.hide, pick, Nat.reduceEqDiff, reduceIte] | with_reducible refine (foldS_frame _ _ _ (fun _ _ => ?_) _).trans ?_ | with_reducible refine (whenS_frame _ _ _ _ (fun _ => ?_)).trans ?_ | split)

theorem State.tribSliceReset_frame (W : Nat) (hW : 51556384768 &&& W = 51556384768) (i : Nat) (s : State) : (State.tribSliceReset i s).hide W = s.hide W := by
  refine hide_mono _ _ hW ?_
  unfold State.tribSliceReset
  repeat' (first | with_reducible rfl | simp only [State.seeBits_frame, State.setLo_frame, Nat.reduceAnd, hide_ite, snd_ite, foldS_frame, whenS_frame, foldl_frame, ite_self, implies_true, mk_leaf, State.hideU, Ce.hide, Glb.hide, Flt.hide, Hif.hide, Sec.hide, Stp.hide, pick, Nat.reduceEqDiff, reduceIte] | with_reducible refine (foldS_frame _ _ _ (fun _ _ => ?_) _).trans ?_ | with_reducible refine (whenS_frame _ _ _ _ (fun _ => ?_)).trans ?_ | split)

theorem State.hwyReset_frame (W : Nat) (hW : 68719476744 &&& W = 68719476744) (n : Nat) (s : State) : (State.hwyReset n s).hide W = s.hide W := by
  refine hide_mono _ _ hW ?_
  unfold State.hwyReset
  repeat' (first | with_reducible rfl | simp only [State.regsReset_frame, Nat.reduceAnd, hide_ite, snd_ite, foldS_frame, whenS_frame, foldl_frame, ite_self, implies_true, mk_leaf, State.hideU, Ce.hide, Glb.hide, Flt.hide, Hif.hide, Sec.hide, Stp.hide, pick, Nat.reduceEqDiff, reduceIte] | with_reducible refine (foldS_frame _ _ _ (fun _ _ => ?_) _).trans ?_ | with_reducible refine (whenS_frame _ _ _ _ (fun _ => ?_)).trans ?_ | split)

theorem State.gfpReset_frame (W : Nat) (hW : 4398063323136 &&& W = 4398063323136) (ch : Nat) (s : State) : (State.gfpReset ch s).hide W = s.hide W := by
  refine hide_mono _ _ hW ?_
  unfold State.gfpReset
  repeat' (first | with_reducible rfl | simp only [State.gfpQptr_frame, State.modGfp_frame, Nat.reduceAnd, hide_ite, snd_ite, foldS_frame, whenS_frame, foldl_frame, ite_self, implies_true, mk_leaf, State.hideU, Ce.hide, Glb.hide, Flt.hide, Hif.hide, Sec.hide, Stp.hide, pick, Nat.reduceEqDiff, reduceIte] | with_reducible refine (foldS_frame _ _ _ (fun _ _ => ?_) _).trans ?_ | with_reducible refine (whenS_frame _ _ _ _ (fun _ => ?_)).trans ?_ | split)

theorem State.dccReset_frame (W : Nat) (hW : 8796094171152 &&& W = 8796094171152) (n : Nat) (s : State) : (State.dccReset n s).hide W = s.hide W := by
  refine hide_mono _ _ hW ?_
  unfold State.dccReset
  repeat' (first | with_reducible rfl | simp only [State.dccClear_frame, State.modDcc_frame, Nat.reduceAnd, hide_ite, snd_ite, foldS_frame, whenS_frame, foldl_frame, ite_self, implies_true, mk_leaf, State.hideU, Ce.hide, Glb.hide, Flt.hide, Hif.hide, Sec.hide, Stp.hide, pick, Nat.reduceEqDiff, reduceIte] | with_reducible refine (foldS_frame _ _ _ (fun _ _ => ?_) _).trans ?_ | with_reducible refine (whenS_frame _ _ _ _ (fun _ => ?_)).trans ?_ | split)

theorem State.strReset_frame (W : Nat) (hW : 10995116376088 &&& W = 10995116376088) (s : State) : (State.strReset s).hide W = s.hide W := by
  refine hide_mono _ _ hW ?_
  unfold State.strReset
  repeat' (first | with_reducible rfl | simp only [State.modStrm_frame, State.regsReset_frame, State.streamReset_frame, Nat.reduceAnd, hide_ite, snd_ite, foldS_frame, whenS_frame, foldl_frame, ite_self, implies_true, mk_leaf, State.hideU, Ce.hide, Glb.hide, Flt.hide, Hif.hide, Sec.hide, Stp.hide, pick, Nat.reduceEqDiff, reduceIte] | with_reducible refine (foldS_frame _ _ _ (fun _ _ => ?_) _).trans ?_ | with_reducible refine (whenS_frame _ _ _ _ (fun _ => ?_)).trans ?_ | split)

theorem State.procReset_frame (W : Nat) (hW : 2107488 &&& W = 2107488) (p : Nat) (s : State) : (State.procReset p s).hide W = s.hide W := by
  refine hide_mono _ _ hW ?_
  unfold State.procReset
  repeat' (first | with_reducible rfl | simp only [State.breakOwners_frame, Nat.reduceAnd, hide_ite, snd_ite, foldS_frame, whenS_frame, foldl_frame, ite_self, implies_true, mk_leaf, State.hideU, Ce.hide, Glb.hide, Flt.hide, Hif.hide, Sec.hide, Stp.hide, pick, Nat.reduceEqDiff, reduceIte] | with_reducible refine (foldS_frame _ _ _ (fun _ _ => ?_) _).trans ?_ | with_reducible refine (whenS_frame _ _ _ _ (fun _ => ?_)).trans ?_ | split)

theorem State.blkRst_frame (W : Nat) (hW : 17439198390396 &&& W = 17439198390396) (src addr : Nat) (s : State) : (State.blkRst src addr s).hide W = s.hide W := by
  refine hide_mono _ _ hW ?_
  unfold State.blkRst
  repeat' (first | with_reducible rfl | simp only [State.dccReset_frame, State.gfpReset_frame, State.hoUnitReset_frame, State.hwyReset_frame, State.laneReset_frame, State.loSliceReset_frame, State.portReset_frame, State.procReset_frame, State.replicaReset_frame, State.strReset_frame, State.tribSliceReset_frame, State.unitReset_frame, Nat.reduceAnd, hide_ite, snd_ite, foldS_frame, whenS_frame, foldl_frame, ite_self, implies_true, mk_leaf, State.hideU, Ce.hide, Glb.hide, Flt.hide, Hif.hide, Sec.hide, Stp.hide, pick, Nat.reduceEqDiff, reduceIte] | with_reducible refine (foldS_frame _ _ _ (fun _ _ => ?_) _).trans ?_ | with_reducible refine (whenS_frame _ _ _ _ (fun _ => ?_)).trans ?_ | split)

theorem State.errAssert_frame (W : Nat) (hW : 8192 &&& W = 8192) (s : State) : (State.errAssert s).hide W = s.hide W := by
  refine hide_mono _ _ hW ?_
  unfold State.errAssert
  repeat' (first | with_reducible rfl | simp only [Nat.reduceAnd, hide_ite, snd_ite, foldS_frame, whenS_frame, foldl_frame, ite_self, implies_true, mk_leaf, State.hideU, Ce.hide, Glb.hide, Flt.hide, Hif.hide, Sec.hide, Stp.hide, pick, Nat.reduceEqDiff, reduceIte] | with_reducible refine (foldS_frame _ _ _ (fun _ _ => ?_) _).trans ?_ | with_reducible refine (whenS_frame _ _ _ _ (fun _ => ?_)).trans ?_ | split)

theorem State.errRelease_frame (W : Nat) (hW : 8192 &&& W = 8192) (s : State) : (State.errRelease s).hide W = s.hide W := by
  refine hide_mono _ _ hW ?_
  unfold State.errRelease
  repeat' (first | with_reducible rfl | simp only [Nat.reduceAnd, hide_ite, snd_ite, foldS_frame, whenS_frame, foldl_frame, ite_self, implies_true, mk_leaf, State.hideU, Ce.hide, Glb.hide, Flt.hide, Hif.hide, Sec.hide, Stp.hide, pick, Nat.reduceEqDiff, reduceIte] | with_reducible refine (foldS_frame _ _ _ (fun _ _ => ?_) _).trans ?_ | with_reducible refine (whenS_frame _ _ _ _ (fun _ => ?_)).trans ?_ | split)

theorem State.fltTouched_frame (W : Nat) (hW : 8192 &&& W = 8192) (s : State) : (State.fltTouched s).hide W = s.hide W := by
  refine hide_mono _ _ hW ?_
  unfold State.fltTouched
  repeat' (first | with_reducible rfl | simp only [Nat.reduceAnd, hide_ite, snd_ite, foldS_frame, whenS_frame, foldl_frame, ite_self, implies_true, mk_leaf, State.hideU, Ce.hide, Glb.hide, Flt.hide, Hif.hide, Sec.hide, Stp.hide, pick, Nat.reduceEqDiff, reduceIte] | with_reducible refine (foldS_frame _ _ _ (fun _ _ => ?_) _).trans ?_ | with_reducible refine (whenS_frame _ _ _ _ (fun _ => ?_)).trans ?_ | split)

theorem execErrPinAssert_frame (W : Nat) (hW : 8192 &&& W = 8192) (s : State) : (after1 (execErrPinAssert ) s).hide W = s.hide W := by
  refine hide_mono _ _ hW ?_
  unfold after1 execErrPinAssert
  repeat' (first | with_reducible rfl | simp only [State.errAssert_frame, State.fltTouched_frame, Nat.reduceAnd, hide_ite, snd_ite, foldS_frame, whenS_frame, foldl_frame, ite_self, implies_true, mk_leaf, State.hideU, Ce.hide, Glb.hide, Flt.hide, Hif.hide, Sec.hide, Stp.hide, pick, Nat.reduceEqDiff, reduceIte] | with_reducible refine (foldS_frame _ _ _ (fun _ _ => ?_) _).trans ?_ | with_reducible refine (whenS_frame _ _ _ _ (fun _ => ?_)).trans ?_ | split)

theorem execErrPinRelease_frame (W : Nat) (hW : 8192 &&& W = 8192) (s : State) : (after1 (execErrPinRelease ) s).hide W = s.hide W := by
  refine hide_mono _ _ hW ?_
  unfold after1 execErrPinRelease
  repeat' (first | with_reducible rfl | simp only [State.errRelease_frame, State.fltTouched_frame, Nat.reduceAnd, hide_ite, snd_ite, foldS_frame, whenS_frame, foldl_frame, ite_self, implies_true, mk_leaf, State.hideU, Ce.hide, Glb.hide, Flt.hide, Hif.hide, Sec.hide, Stp.hide, pick, Nat.reduceEqDiff, reduceIte] | with_reducible refine (foldS_frame _ _ _ (fun _ _ => ?_) _).trans ?_ | with_reducible refine (whenS_frame _ _ _ _ (fun _ => ?_)).trans ?_ | split)

theorem execErrPinWidthExpiry_frame (W : Nat) (hW : 8192 &&& W = 8192) (s : State) : (after1 (execErrPinWidthExpiry ) s).hide W = s.hide W := by
  refine hide_mono _ _ hW ?_
  unfold after1 execErrPinWidthExpiry
  repeat' (first | with_reducible rfl | simp only [Nat.reduceAnd, hide_ite, snd_ite, foldS_frame, whenS_frame, foldl_frame, ite_self, implies_true, mk_leaf, State.hideU, Ce.hide, Glb.hide, Flt.hide, Hif.hide, Sec.hide, Stp.hide, pick, Nat.reduceEqDiff, reduceIte] | with_reducible refine (foldS_frame _ _ _ (fun _ _ => ?_) _).trans ?_ | with_reducible refine (whenS_frame _ _ _ _ (fun _ => ?_)).trans ?_ | split)

theorem State.enterFatal_frame (W : Nat) (hW : 17592253616144 &&& W = 17592253616144) (s : State) : (State.enterFatal s).hide W = s.hide W := by
  refine hide_mono _ _ hW ?_
  unfold State.enterFatal
  repeat' (first | with_reducible rfl | simp only [State.sendVec_frame, Nat.reduceAnd, hide_ite, snd_ite, foldS_frame, whenS_frame, foldl_frame, ite_self, implies_true, mk_leaf, State.hideU, Ce.hide, Glb.hide, Flt.hide, Hif.hide, Sec.hide, Stp.hide, pick, Nat.reduceEqDiff, reduceIte] | with_reducible refine (foldS_frame _ _ _ (fun _ _ => ?_) _).trans ?_ | with_reducible refine (whenS_frame _ _ _ _ (fun _ => ?_)).trans ?_ | split)

theorem State.nmi_frame (W : Nat) (hW : 196688 &&& W = 196688) (s : State) : (State.nmi s).hide W = s.hide W := by
  refine hide_mono _ _ hW ?_
  unfold State.nmi
  repeat' (first | with_reducible rfl | simp only [State.sendVec_frame, Nat.reduceAnd, hide_ite, snd_ite, foldS_frame, whenS_frame, foldl_frame, ite_self, implies_true, mk_leaf, State.hideU, Ce.hide, Glb.hide, Flt.hide, Hif.hide, Sec.hide, Stp.hide, pick, Nat.reduceEqDiff, reduceIte] | with_reducible refine (foldS_frame _ _ _ (fun _ _ => ?_) _).trans ?_ | with_reducible refine (whenS_frame _ _ _ _ (fun _ => ?_)).trans ?_ | split)

theorem State.evOf_frame (W : Nat) (hW : 229392 &&& W = 229392) (m : Msg) (logged : Bool) (seq : Half) (s : State) : (State.evOf m logged seq s).hide W = s.hide W := by
  refine hide_mono _ _ hW ?_
  unfold State.evOf
  repeat' (first | with_reducible rfl | simp only [State.evPut_frame, Nat.reduceAnd, hide_ite, snd_ite, foldS_frame, whenS_frame, foldl_frame, ite_self, implies_true, mk_leaf, State.hideU, Ce.hide, Glb.hide, Flt.hide, Hif.hide, Sec.hide, Stp.hide, pick, Nat.reduceEqDiff, reduceIte] | with_reducible refine (foldS_frame _ _ _ (fun _ _ => ?_) _).trans ?_ | with_reducible refine (whenS_frame _ _ _ _ (fun _ => ?_)).trans ?_ | split)

theorem State.react_frame (W : Nat) (hW : 17439198521468 &&& W = 17439198521468) (r : BitVec 5) (m : Msg) (logged : Bool) (seq : Half) (s : State) : (State.react r m logged seq s).hide W = s.hide W := by
  refine hide_mono _ _ hW ?_
  unfold State.react
  repeat' (first | with_reducible rfl | simp only [State.blkRst_frame, State.errAssert_frame, State.evOf_frame, State.nmi_frame, Nat.reduceAnd, hide_ite, snd_ite, foldS_frame, whenS_frame, foldl_frame, ite_self, implies_true, mk_leaf, State.hideU, Ce.hide, Glb.hide, Flt.hide, Hif.hide, Sec.hide, Stp.hide, pick, Nat.reduceEqDiff, reduceIte] | with_reducible refine (foldS_frame _ _ _ (fun _ _ => ?_) _).trans ?_ | with_reducible refine (whenS_frame _ _ _ _ (fun _ => ?_)).trans ?_ | split)

theorem State.capture_frame (W : Nat) (hW : 8192 &&& W = 8192) (e : LogEntry) (s : State) : (State.capture e s).hide W = s.hide W := by
  refine hide_mono _ _ hW ?_
  unfold State.capture
  repeat' (first | with_reducible rfl | simp only [Nat.reduceAnd, hide_ite, snd_ite, foldS_frame, whenS_frame, foldl_frame, ite_self, implies_true, mk_leaf, State.hideU, Ce.hide, Glb.hide, Flt.hide, Hif.hide, Sec.hide, Stp.hide, pick, Nat.reduceEqDiff, reduceIte] | with_reducible refine (foldS_frame _ _ _ (fun _ _ => ?_) _).trans ?_ | with_reducible refine (whenS_frame _ _ _ _ (fun _ => ?_)).trans ?_ | split)

theorem State.handle_frame (W : Nat) (hW : 35031451957372 &&& W = 35031451957372) (m : Msg) (s : State) : (State.handle m s).hide W = s.hide W := by
  refine hide_mono _ _ hW ?_
  unfold State.handle
  repeat' (first | with_reducible rfl | simp only [State.capture_frame, State.enterFatal_frame, State.evOf_frame, State.logWrite_frame, State.reactRead_frame, State.react_frame, Nat.reduceAnd, hide_ite, snd_ite, foldS_frame, whenS_frame, foldl_frame, ite_self, implies_true, mk_leaf, State.hideU, Ce.hide, Glb.hide, Flt.hide, Hif.hide, Sec.hide, Stp.hide, pick, Nat.reduceEqDiff, reduceIte] | with_reducible refine (foldS_frame _ _ _ (fun _ _ => ?_) _).trans ?_ | with_reducible refine (whenS_frame _ _ _ _ (fun _ => ?_)).trans ?_ | split)

theorem State.collectorTake_frame (W : Nat) (hW : 35031451957372 &&& W = 35031451957372) (s : State) : (State.collectorTake s).hide W = s.hide W := by
  refine hide_mono _ _ hW ?_
  unfold State.collectorTake
  repeat' (first | with_reducible rfl | simp only [State.handle_frame, Nat.reduceAnd, hide_ite, snd_ite, foldS_frame, whenS_frame, foldl_frame, ite_self, implies_true, mk_leaf, State.hideU, Ce.hide, Glb.hide, Flt.hide, Hif.hide, Sec.hide, Stp.hide, pick, Nat.reduceEqDiff, reduceIte] | with_reducible refine (foldS_frame _ _ _ (fun _ _ => ?_) _).trans ?_ | with_reducible refine (whenS_frame _ _ _ _ (fun _ => ?_)).trans ?_ | split)

theorem execCollectorTake_frame (W : Nat) (hW : 35031451957372 &&& W = 35031451957372) (s : State) : (after1 (execCollectorTake ) s).hide W = s.hide W := by
  refine hide_mono _ _ hW ?_
  unfold after1 execCollectorTake
  repeat' (first | with_reducible rfl | simp only [State.collectorTake_frame, Nat.reduceAnd, hide_ite, snd_ite, foldS_frame, whenS_frame, foldl_frame, ite_self, implies_true, mk_leaf, State.hideU, Ce.hide, Glb.hide, Flt.hide, Hif.hide, Sec.hide, Stp.hide, pick, Nat.reduceEqDiff, reduceIte] | with_reducible refine (foldS_frame _ _ _ (fun _ _ => ?_) _).trans ?_ | with_reducible refine (whenS_frame _ _ _ _ (fun _ => ?_)).trans ?_ | split)

theorem execNmiReturn_frame (W : Nat) (hW : 17592186939504 &&& W = 17592186939504) (mp : Bool) (s : State) : (after1 (execNmiReturn mp) s).hide W = s.hide W := by
  refine hide_mono _ _ hW ?_
  unfold after1 execNmiReturn
  repeat' (first | with_reducible rfl | simp only [State.serveHeads_frame, Nat.reduceAnd, hide_ite, snd_ite, foldS_frame, whenS_frame, foldl_frame, ite_self, implies_true, mk_leaf, State.hideU, Ce.hide, Glb.hide, Flt.hide, Hif.hide, Sec.hide, Stp.hide, pick, Nat.reduceEqDiff, reduceIte] | with_reducible refine (foldS_frame _ _ _ (fun _ _ => ?_) _).trans ?_ | with_reducible refine (whenS_frame _ _ _ _ (fun _ => ?_)).trans ?_ | split)

theorem execProcessorReady_frame (W : Nat) (hW : 17592186939504 &&& W = 17592186939504) (p : Fin 7) (s : State) : (after1 (execProcessorReady p) s).hide W = s.hide W := by
  refine hide_mono _ _ hW ?_
  unfold after1 execProcessorReady
  repeat' (first | with_reducible rfl | simp only [State.serveHeads_frame, Nat.reduceAnd, hide_ite, snd_ite, foldS_frame, whenS_frame, foldl_frame, ite_self, implies_true, mk_leaf, State.hideU, Ce.hide, Glb.hide, Flt.hide, Hif.hide, Sec.hide, Stp.hide, pick, Nat.reduceEqDiff, reduceIte] | with_reducible refine (foldS_frame _ _ _ (fun _ _ => ?_) _).trans ?_ | with_reducible refine (whenS_frame _ _ _ _ (fun _ => ?_)).trans ?_ | split)

theorem execProcWdt_frame (W : Nat) (hW : 2048 &&& W = 2048) (p : Fin 7) (s : State) : (after1 (execProcWdt p) s).hide W = s.hide W := by
  refine hide_mono _ _ hW ?_
  unfold after1 execProcWdt
  repeat' (first | with_reducible rfl | simp only [State.raise_frame, Nat.reduceAnd, hide_ite, snd_ite, foldS_frame, whenS_frame, foldl_frame, ite_self, implies_true, mk_leaf, State.hideU, Ce.hide, Glb.hide, Flt.hide, Hif.hide, Sec.hide, Stp.hide, pick, Nat.reduceEqDiff, reduceIte] | with_reducible refine (foldS_frame _ _ _ (fun _ _ => ?_) _).trans ?_ | with_reducible refine (whenS_frame _ _ _ _ (fun _ => ?_)).trans ?_ | split)

theorem execProcExc_frame (W : Nat) (hW : 2048 &&& W = 2048) (p : Fin 7) (addr : Word) (s : State) : (after1 (execProcExc p addr) s).hide W = s.hide W := by
  refine hide_mono _ _ hW ?_
  unfold after1 execProcExc
  repeat' (first | with_reducible rfl | simp only [State.raise_frame, Nat.reduceAnd, hide_ite, snd_ite, foldS_frame, whenS_frame, foldl_frame, ite_self, implies_true, mk_leaf, State.hideU, Ce.hide, Glb.hide, Flt.hide, Hif.hide, Sec.hide, Stp.hide, pick, Nat.reduceEqDiff, reduceIte] | with_reducible refine (foldS_frame _ _ _ (fun _ _ => ?_) _).trans ?_ | with_reducible refine (whenS_frame _ _ _ _ (fun _ => ?_)).trans ?_ | split)

theorem execClkLol_frame (W : Nat) (hW : 10240 &&& W = 10240) (pll : Fin 2) (s : State) : (after1 (execClkLol pll) s).hide W = s.hide W := by
  refine hide_mono _ _ hW ?_
  unfold after1 execClkLol
  repeat' (first | with_reducible rfl | simp only [State.raise_frame, Nat.reduceAnd, hide_ite, snd_ite, foldS_frame, whenS_frame, foldl_frame, ite_self, implies_true, mk_leaf, State.hideU, Ce.hide, Glb.hide, Flt.hide, Hif.hide, Sec.hide, Stp.hide, pick, Nat.reduceEqDiff, reduceIte] | with_reducible refine (foldS_frame _ _ _ (fun _ _ => ?_) _).trans ?_ | with_reducible refine (whenS_frame _ _ _ _ (fun _ => ?_)).trans ?_ | split)

theorem execGrantWdt_frame (W : Nat) (hW : 2048 &&& W = 2048) (target : Fin 16) (master : Fin 9) (s : State) : (after1 (execGrantWdt target master) s).hide W = s.hide W := by
  refine hide_mono _ _ hW ?_
  unfold after1 execGrantWdt
  repeat' (first | with_reducible rfl | simp only [State.raise_frame, Nat.reduceAnd, hide_ite, snd_ite, foldS_frame, whenS_frame, foldl_frame, ite_self, implies_true, mk_leaf, State.hideU, Ce.hide, Glb.hide, Flt.hide, Hif.hide, Sec.hide, Stp.hide, pick, Nat.reduceEqDiff, reduceIte] | with_reducible refine (foldS_frame _ _ _ (fun _ _ => ?_) _).trans ?_ | with_reducible refine (whenS_frame _ _ _ _ (fun _ => ?_)).trans ?_ | split)

theorem State.busCommit_frame (W : Nat) (hW : 512 &&& W = 512) (s : State) : (State.busCommit s).hide W = s.hide W := by
  refine hide_mono _ _ hW ?_
  unfold State.busCommit
  repeat' (first | with_reducible rfl | simp only [Nat.reduceAnd, hide_ite, snd_ite, foldS_frame, whenS_frame, foldl_frame, ite_self, implies_true, mk_leaf, State.hideU, Ce.hide, Glb.hide, Flt.hide, Hif.hide, Sec.hide, Stp.hide, pick, Nat.reduceEqDiff, reduceIte] | with_reducible refine (foldS_frame _ _ _ (fun _ _ => ?_) _).trans ?_ | with_reducible refine (whenS_frame _ _ _ _ (fun _ => ?_)).trans ?_ | split)

theorem execBusCommit_frame (W : Nat) (hW : 512 &&& W = 512) (s : State) : (after1 (execBusCommit ) s).hide W = s.hide W := by
  refine hide_mono _ _ hW ?_
  unfold after1 execBusCommit
  repeat' (first | with_reducible rfl | simp only [State.busCommit_frame, Nat.reduceAnd, hide_ite, snd_ite, foldS_frame, whenS_frame, foldl_frame, ite_self, implies_true, mk_leaf, State.hideU, Ce.hide, Glb.hide, Flt.hide, Hif.hide, Sec.hide, Stp.hide, pick, Nat.reduceEqDiff, reduceIte] | with_reducible refine (foldS_frame _ _ _ (fun _ _ => ?_) _).trans ?_ | with_reducible refine (whenS_frame _ _ _ _ (fun _ => ?_)).trans ?_ | split)

theorem execBusFreezeWrite_frame (W : Nat) (hW : 8 &&& W = 8) (v : Word) (s : State) : (after1 (execBusFreezeWrite v) s).hide W = s.hide W := by
  refine hide_mono _ _ hW ?_
  unfold after1 execBusFreezeWrite
  repeat' (first | with_reducible rfl | simp only [State.regWrite_frame, Nat.reduceAnd, hide_ite, snd_ite, foldS_frame, whenS_frame, foldl_frame, ite_self, implies_true, mk_leaf, State.hideU, Ce.hide, Glb.hide, Flt.hide, Hif.hide, Sec.hide, Stp.hide, pick, Nat.reduceEqDiff, reduceIte] | with_reducible refine (foldS_frame _ _ _ (fun _ _ => ?_) _).trans ?_ | with_reducible refine (whenS_frame _ _ _ _ (fun _ => ?_)).trans ?_ | split)

theorem execFirstClr_frame (W : Nat) (hW : 8192 &&& W = 8192) (s : State) : (after1 (execFirstClr ) s).hide W = s.hide W := by
  refine hide_mono _ _ hW ?_
  unfold after1 execFirstClr
  repeat' (first | with_reducible rfl | simp only [State.fltTouched_frame, Nat.reduceAnd, hide_ite, snd_ite, foldS_frame, whenS_frame, foldl_frame, ite_self, implies_true, mk_leaf, State.hideU, Ce.hide, Glb.hide, Flt.hide, Hif.hide, Sec.hide, Stp.hide, pick, Nat.reduceEqDiff, reduceIte] | with_reducible refine (foldS_frame _ _ _ (fun _ _ => ?_) _).trans ?_ | with_reducible refine (whenS_frame _ _ _ _ (fun _ => ?_)).trans ?_ | split)

theorem State.clrFatal_frame (W : Nat) (hW : 8192 &&& W = 8192) (s : State) : (State.clrFatal s).hide W = s.hide W := by
  refine hide_mono _ _ hW ?_
  unfold State.clrFatal
  repeat' (first | with_reducible rfl | simp only [Nat.reduceAnd, hide_ite, snd_ite, foldS_frame, whenS_frame, foldl_frame, ite_self, implies_true, mk_leaf, State.hideU, Ce.hide, Glb.hide, Flt.hide, Hif.hide, Sec.hide, Stp.hide, pick, Nat.reduceEqDiff, reduceIte] | with_reducible refine (foldS_frame _ _ _ (fun _ _ => ?_) _).trans ?_ | with_reducible refine (whenS_frame _ _ _ _ (fun _ => ?_)).trans ?_ | split)

theorem execFirstClrFatal_frame (W : Nat) (hW : 8192 &&& W = 8192) (s : State) : (after1 (execFirstClrFatal ) s).hide W = s.hide W := by
  refine hide_mono _ _ hW ?_
  unfold after1 execFirstClrFatal
  repeat' (first | with_reducible rfl | simp only [State.clrFatal_frame, State.fltTouched_frame, Nat.reduceAnd, hide_ite, snd_ite, foldS_frame, whenS_frame, foldl_frame, ite_self, implies_true, mk_leaf, State.hideU, Ce.hide, Glb.hide, Flt.hide, Hif.hide, Sec.hide, Stp.hide, pick, Nat.reduceEqDiff, reduceIte] | with_reducible refine (foldS_frame _ _ _ (fun _ _ => ?_) _).trans ?_ | with_reducible refine (whenS_frame _ _ _ _ (fun _ => ?_)).trans ?_ | split)

theorem execReactionWrite_frame (W : Nat) (hW : 8224 &&& W = 8224) (v : Word) (s : State) : (after1 (execReactionWrite v) s).hide W = s.hide W := by
  refine hide_mono _ _ hW ?_
  unfold after1 execReactionWrite
  repeat' (first | with_reducible rfl | simp only [State.fltTouched_frame, State.reactWrite_frame, Nat.reduceAnd, hide_ite, snd_ite, foldS_frame, whenS_frame, foldl_frame, ite_self, implies_true, mk_leaf, State.hideU, Ce.hide, Glb.hide, Flt.hide, Hif.hide, Sec.hide, Stp.hide, pick, Nat.reduceEqDiff, reduceIte] | with_reducible refine (foldS_frame _ _ _ (fun _ _ => ?_) _).trans ?_ | with_reducible refine (whenS_frame _ _ _ _ (fun _ => ?_)).trans ?_ | split)

theorem State.injUnlock_frame (W : Nat) (hW : 8192 &&& W = 8192) (v : Word) (s : State) : (State.injUnlock v s).hide W = s.hide W := by
  refine hide_mono _ _ hW ?_
  unfold State.injUnlock
  repeat' (first | with_reducible rfl | simp only [Nat.reduceAnd, hide_ite, snd_ite, foldS_frame, whenS_frame, foldl_frame, ite_self, implies_true, mk_leaf, State.hideU, Ce.hide, Glb.hide, Flt.hide, Hif.hide, Sec.hide, Stp.hide, pick, Nat.reduceEqDiff, reduceIte] | with_reducible refine (foldS_frame _ _ _ (fun _ _ => ?_) _).trans ?_ | with_reducible refine (whenS_frame _ _ _ _ (fun _ => ?_)).trans ?_ | split)

theorem execInjUnlock_frame (W : Nat) (hW : 8192 &&& W = 8192) (v : Word) (s : State) : (after1 (execInjUnlock v) s).hide W = s.hide W := by
  refine hide_mono _ _ hW ?_
  unfold after1 execInjUnlock
  repeat' (first | with_reducible rfl | simp only [State.injUnlock_frame, Nat.reduceAnd, hide_ite, snd_ite, foldS_frame, whenS_frame, foldl_frame, ite_self, implies_true, mk_leaf, State.hideU, Ce.hide, Glb.hide, Flt.hide, Hif.hide, Sec.hide, Stp.hide, pick, Nat.reduceEqDiff, reduceIte] | with_reducible refine (foldS_frame _ _ _ (fun _ _ => ?_) _).trans ?_ | with_reducible refine (whenS_frame _ _ _ _ (fun _ => ?_)).trans ?_ | split)

theorem State.injCtl_frame (W : Nat) (hW : 10248 &&& W = 10248) (v : Word) (s : State) : (State.injCtl v s).hide W = s.hide W := by
  refine hide_mono _ _ hW ?_
  unfold State.injCtl
  repeat' (first | with_reducible rfl | simp only [State.post_frame, State.regWrite_frame, Nat.reduceAnd, hide_ite, snd_ite, foldS_frame, whenS_frame, foldl_frame, ite_self, implies_true, mk_leaf, State.hideU, Ce.hide, Glb.hide, Flt.hide, Hif.hide, Sec.hide, Stp.hide, pick, Nat.reduceEqDiff, reduceIte] | with_reducible refine (foldS_frame _ _ _ (fun _ _ => ?_) _).trans ?_ | with_reducible refine (whenS_frame _ _ _ _ (fun _ => ?_)).trans ?_ | split)

theorem execInjGo_frame (W : Nat) (hW : 10248 &&& W = 10248) (v : Word) (s : State) : (after1 (execInjGo v) s).hide W = s.hide W := by
  refine hide_mono _ _ hW ?_
  unfold after1 execInjGo
  repeat' (first | with_reducible rfl | simp only [State.fltTouched_frame, State.injCtl_frame, Nat.reduceAnd, hide_ite, snd_ite, foldS_frame, whenS_frame, foldl_frame, ite_self, implies_true, mk_leaf, State.hideU, Ce.hide, Glb.hide, Flt.hide, Hif.hide, Sec.hide, Stp.hide, pick, Nat.reduceEqDiff, reduceIte] | with_reducible refine (foldS_frame _ _ _ (fun _ _ => ?_) _).trans ?_ | with_reducible refine (whenS_frame _ _ _ _ (fun _ => ?_)).trans ?_ | split)

theorem State.flipFrame_frame (W : Nat) (hW : 8224 &&& W = 8224) (wr : Bool) (s : State) : (State.flipFrame wr s).hide W = s.hide W := by
  refine hide_mono _ _ hW ?_
  unfold State.flipFrame
  repeat' (first | with_reducible rfl | simp only [State.addUpsets_frame, Nat.reduceAnd, hide_ite, snd_ite, foldS_frame, whenS_frame, foldl_frame, ite_self, implies_true, mk_leaf, State.hideU, Ce.hide, Glb.hide, Flt.hide, Hif.hide, Sec.hide, Stp.hide, pick, Nat.reduceEqDiff, reduceIte] | with_reducible refine (foldS_frame _ _ _ (fun _ _ => ?_) _).trans ?_ | with_reducible refine (whenS_frame _ _ _ _ (fun _ => ?_)).trans ?_ | split)

theorem execPfail_frame (W : Nat) (hW : 256016 &&& W = 256016) (s : State) : (after1 (execPfail ) s).hide W = s.hide W := by
  refine hide_mono _ _ hW ?_
  unfold after1 execPfail
  repeat' (first | with_reducible rfl | simp only [State.flushFrom_frame, State.mirrorAll_frame, State.raise_frame, Nat.reduceAnd, hide_ite, snd_ite, foldS_frame, whenS_frame, foldl_frame, ite_self, implies_true, mk_leaf, State.hideU, Ce.hide, Glb.hide, Flt.hide, Hif.hide, Sec.hide, Stp.hide, pick, Nat.reduceEqDiff, reduceIte] | with_reducible refine (foldS_frame _ _ _ (fun _ _ => ?_) _).trans ?_ | with_reducible refine (whenS_frame _ _ _ _ (fun _ => ?_)).trans ?_ | split)

theorem execPfailClear_frame (W : Nat) (hW : 10240 &&& W = 10240) (s : State) : (after1 (execPfailClear ) s).hide W = s.hide W := by
  refine hide_mono _ _ hW ?_
  unfold after1 execPfailClear
  repeat' (first | with_reducible rfl | simp only [State.raise_frame, Nat.reduceAnd, hide_ite, snd_ite, foldS_frame, whenS_frame, foldl_frame, ite_self, implies_true, mk_leaf, State.hideU, Ce.hide, Glb.hide, Flt.hide, Hif.hide, Sec.hide, Stp.hide, pick, Nat.reduceEqDiff, reduceIte] | with_reducible refine (foldS_frame _ _ _ (fun _ _ => ?_) _).trans ?_ | with_reducible refine (whenS_frame _ _ _ _ (fun _ => ?_)).trans ?_ | split)

theorem State.decodeErr_frame (W : Nat) (hW : 512 &&& W = 512) (master : Nat) (write : Bool) (addr : Nat) (s : State) : (State.decodeErr master write addr s).hide W = s.hide W := by
  refine hide_mono _ _ hW ?_
  unfold State.decodeErr
  repeat' (first | with_reducible rfl | simp only [Nat.reduceAnd, hide_ite, snd_ite, foldS_frame, whenS_frame, foldl_frame, ite_self, implies_true, mk_leaf, State.hideU, Ce.hide, Glb.hide, Flt.hide, Hif.hide, Sec.hide, Stp.hide, pick, Nat.reduceEqDiff, reduceIte] | with_reducible refine (foldS_frame _ _ _ (fun _ _ => ?_) _).trans ?_ | with_reducible refine (whenS_frame _ _ _ _ (fun _ => ?_)).trans ?_ | split)

theorem State.busAccess_frame (W : Nat) (hW : 512 &&& W = 512) (master : Nat) (write : Option Byte) (addr : Nat) (s : State) : (State.busAccess master write addr s).hide W = s.hide W := by
  refine hide_mono _ _ hW ?_
  unfold State.busAccess
  repeat' (first | with_reducible rfl | simp only [State.decodeErr_frame, Nat.reduceAnd, hide_ite, snd_ite, foldS_frame, whenS_frame, foldl_frame, ite_self, implies_true, mk_leaf, State.hideU, Ce.hide, Glb.hide, Flt.hide, Hif.hide, Sec.hide, Stp.hide, pick, Nat.reduceEqDiff, reduceIte] | with_reducible refine (foldS_frame _ _ _ (fun _ _ => ?_) _).trans ?_ | with_reducible refine (whenS_frame _ _ _ _ (fun _ => ?_)).trans ?_ | split)

theorem State.portOp_frame (W : Nat) (hW : 824635828768 &&& W = 824635828768) (x : PortOp) (s : State) : (State.portOp x s).hide W = s.hide W := by
  refine hide_mono _ _ hW ?_
  unfold State.portOp
  repeat' (first | with_reducible rfl | simp only [State.busAccess_frame, State.claim_frame, State.lockClaim_frame, State.lockRelease_frame, State.readFinds_frame, Nat.reduceAnd, hide_ite, snd_ite, foldS_frame, whenS_frame, foldl_frame, ite_self, implies_true, mk_leaf, State.hideU, Ce.hide, Glb.hide, Flt.hide, Hif.hide, Sec.hide, Stp.hide, pick, Nat.reduceEqDiff, reduceIte] | with_reducible refine (foldS_frame _ _ _ (fun _ _ => ?_) _).trans ?_ | with_reducible refine (whenS_frame _ _ _ _ (fun _ => ?_)).trans ?_ | split)

theorem State.loadFrom_frame (W : Nat) (hW : 512 &&& W = 512) (start : Nat) (s : State) : (State.loadFrom start s).hide W = s.hide W := by
  refine hide_mono _ _ hW ?_
  unfold State.loadFrom
  repeat' (first | with_reducible rfl | simp only [State.busAccess_frame, Nat.reduceAnd, hide_ite, snd_ite, foldS_frame, whenS_frame, foldl_frame, ite_self, implies_true, mk_leaf, State.hideU, Ce.hide, Glb.hide, Flt.hide, Hif.hide, Sec.hide, Stp.hide, pick, Nat.reduceEqDiff, reduceIte] | with_reducible refine (foldS_frame _ _ _ (fun _ _ => ?_) _).trans ?_ | with_reducible refine (whenS_frame _ _ _ _ (fun _ => ?_)).trans ?_ | split)

theorem State.takeImage_frame (W : Nat) (hW : 768 &&& W = 768) (bs : List Byte) (s : State) : (State.takeImage bs s).hide W = s.hide W := by
  refine hide_mono _ _ hW ?_
  unfold State.takeImage
  repeat' (first | with_reducible rfl | simp only [State.loadFrom_frame, Nat.reduceAnd, hide_ite, snd_ite, foldS_frame, whenS_frame, foldl_frame, ite_self, implies_true, mk_leaf, State.hideU, Ce.hide, Glb.hide, Flt.hide, Hif.hide, Sec.hide, Stp.hide, pick, Nat.reduceEqDiff, reduceIte] | with_reducible refine (foldS_frame _ _ _ (fun _ _ => ?_) _).trans ?_ | with_reducible refine (whenS_frame _ _ _ _ (fun _ => ?_)).trans ?_ | split)

theorem State.unload_frame (W : Nat) (hW : 512 &&& W = 512) (s : State) : (State.unload s).hide W = s.hide W := by
  refine hide_mono _ _ hW ?_
  unfold State.unload
  repeat' (first | with_reducible rfl | simp only [Nat.reduceAnd, hide_ite, snd_ite, foldS_frame, whenS_frame, foldl_frame, ite_self, implies_true, mk_leaf, State.hideU, Ce.hide, Glb.hide, Flt.hide, Hif.hide, Sec.hide, Stp.hide, pick, Nat.reduceEqDiff, reduceIte] | with_reducible refine (foldS_frame _ _ _ (fun _ _ => ?_) _).trans ?_ | with_reducible refine (whenS_frame _ _ _ _ (fun _ => ?_)).trans ?_ | split)

theorem State.bootFail_frame (W : Nat) (hW : 2816 &&& W = 2816) (code : Nat) (s : State) : (State.bootFail code s).hide W = s.hide W := by
  refine hide_mono _ _ hW ?_
  unfold State.bootFail
  repeat' (first | with_reducible rfl | simp only [State.raise_frame, State.unload_frame, Nat.reduceAnd, hide_ite, snd_ite, foldS_frame, whenS_frame, foldl_frame, ite_self, implies_true, mk_leaf, State.hideU, Ce.hide, Glb.hide, Flt.hide, Hif.hide, Sec.hide, Stp.hide, pick, Nat.reduceEqDiff, reduceIte] | with_reducible refine (foldS_frame _ _ _ (fun _ _ => ?_) _).trans ?_ | with_reducible refine (whenS_frame _ _ _ _ (fun _ => ?_)).trans ?_ | split)

theorem State.bootEnd_frame (W : Nat) (hW : 1051456 &&& W = 1051456) (s : State) : (State.bootEnd s).hide W = s.hide W := by
  refine hide_mono _ _ hW ?_
  unfold State.bootEnd
  repeat' (first | with_reducible rfl | simp only [State.bootFail_frame, Nat.reduceAnd, hide_ite, snd_ite, foldS_frame, whenS_frame, foldl_frame, ite_self, implies_true, mk_leaf, State.hideU, Ce.hide, Glb.hide, Flt.hide, Hif.hide, Sec.hide, Stp.hide, pick, Nat.reduceEqDiff, reduceIte] | with_reducible refine (foldS_frame _ _ _ (fun _ _ => ?_) _).trans ?_ | with_reducible refine (whenS_frame _ _ _ _ (fun _ => ?_)).trans ?_ | split)

theorem execBootLoadDone_frame (W : Nat) (hW : 1051456 &&& W = 1051456) (image : List Byte) (s : State) : (after1 (execBootLoadDone image) s).hide W = s.hide W := by
  refine hide_mono _ _ hW ?_
  unfold after1 execBootLoadDone
  repeat' (first | with_reducible rfl | simp only [State.bootEnd_frame, State.takeImage_frame, Nat.reduceAnd, hide_ite, snd_ite, foldS_frame, whenS_frame, foldl_frame, ite_self, implies_true, mk_leaf, State.hideU, Ce.hide, Glb.hide, Flt.hide, Hif.hide, Sec.hide, Stp.hide, pick, Nat.reduceEqDiff, reduceIte] | with_reducible refine (foldS_frame _ _ _ (fun _ _ => ?_) _).trans ?_ | with_reducible refine (whenS_frame _ _ _ _ (fun _ => ?_)).trans ?_ | split)

theorem execSfdpDiscovery_frame (W : Nat) (hW : 2816 &&& W = 2816) (r : Option Sfdp) (s : State) : (after1 (execSfdpDiscovery r) s).hide W = s.hide W := by
  refine hide_mono _ _ hW ?_
  unfold after1 execSfdpDiscovery
  repeat' (first | with_reducible rfl | simp only [State.bootFail_frame, Nat.reduceAnd, hide_ite, snd_ite, foldS_frame, whenS_frame, foldl_frame, ite_self, implies_true, mk_leaf, State.hideU, Ce.hide, Glb.hide, Flt.hide, Hif.hide, Sec.hide, Stp.hide, pick, Nat.reduceEqDiff, reduceIte] | with_reducible refine (foldS_frame _ _ _ (fun _ _ => ?_) _).trans ?_ | with_reducible refine (whenS_frame _ _ _ _ (fun _ => ?_)).trans ?_ | split)

theorem State.fifoDrain_frame (W : Nat) (hW : 768 &&& W = 768) (s : State) : (State.fifoDrain s).hide W = s.hide W := by
  refine hide_mono _ _ hW ?_
  unfold State.fifoDrain
  repeat' (first | with_reducible rfl | simp only [State.takeImage_frame, Nat.reduceAnd, hide_ite, snd_ite, foldS_frame, whenS_frame, foldl_frame, ite_self, implies_true, mk_leaf, State.hideU, Ce.hide, Glb.hide, Flt.hide, Hif.hide, Sec.hide, Stp.hide, pick, Nat.reduceEqDiff, reduceIte] | with_reducible refine (foldS_frame _ _ _ (fun _ _ => ?_) _).trans ?_ | with_reducible refine (whenS_frame _ _ _ _ (fun _ => ?_)).trans ?_ | split)

theorem State.fifoStep_frame (W : Nat) (hW : 1051456 &&& W = 1051456) (s : State) : (State.fifoStep s).hide W = s.hide W := by
  refine hide_mono _ _ hW ?_
  unfold State.fifoStep
  repeat' (first | with_reducible rfl | simp only [State.bootEnd_frame, State.fifoDrain_frame, Nat.reduceAnd, hide_ite, snd_ite, foldS_frame, whenS_frame, foldl_frame, ite_self, implies_true, mk_leaf, State.hideU, Ce.hide, Glb.hide, Flt.hide, Hif.hide, Sec.hide, Stp.hide, pick, Nat.reduceEqDiff, reduceIte] | with_reducible refine (foldS_frame _ _ _ (fun _ _ => ?_) _).trans ?_ | with_reducible refine (whenS_frame _ _ _ _ (fun _ => ?_)).trans ?_ | split)

theorem State.pushClash_frame (W : Nat) (hW : 256 &&& W = 256) (i2c : Bool) (s : State) : (State.pushClash i2c s).hide W = s.hide W := by
  refine hide_mono _ _ hW ?_
  unfold State.pushClash
  repeat' (first | with_reducible rfl | simp only [Nat.reduceAnd, hide_ite, snd_ite, foldS_frame, whenS_frame, foldl_frame, ite_self, implies_true, mk_leaf, State.hideU, Ce.hide, Glb.hide, Flt.hide, Hif.hide, Sec.hide, Stp.hide, pick, Nat.reduceEqDiff, reduceIte] | with_reducible refine (foldS_frame _ _ _ (fun _ _ => ?_) _).trans ?_ | with_reducible refine (whenS_frame _ _ _ _ (fun _ => ?_)).trans ?_ | split)

theorem State.pushBytes_frame (W : Nat) (hW : 2816 &&& W = 2816) (i2c : Bool) (bs : List Byte) (s : State) : (State.pushBytes i2c bs s).hide W = s.hide W := by
  refine hide_mono _ _ hW ?_
  unfold State.pushBytes
  repeat' (first | with_reducible rfl | simp only [State.bootFail_frame, State.pushClash_frame, Nat.reduceAnd, hide_ite, snd_ite, foldS_frame, whenS_frame, foldl_frame, ite_self, implies_true, mk_leaf, State.hideU, Ce.hide, Glb.hide, Flt.hide, Hif.hide, Sec.hide, Stp.hide, pick, Nat.reduceEqDiff, reduceIte] | with_reducible refine (foldS_frame _ _ _ (fun _ _ => ?_) _).trans ?_ | with_reducible refine (whenS_frame _ _ _ _ (fun _ => ?_)).trans ?_ | split)

theorem State.pushEnd_frame (W : Nat) (hW : 1051456 &&& W = 1051456) (i2c : Bool) (s : State) : (State.pushEnd i2c s).hide W = s.hide W := by
  refine hide_mono _ _ hW ?_
  unfold State.pushEnd
  repeat' (first | with_reducible rfl | simp only [State.fifoStep_frame, State.pushClash_frame, Nat.reduceAnd, hide_ite, snd_ite, foldS_frame, whenS_frame, foldl_frame, ite_self, implies_true, mk_leaf, State.hideU, Ce.hide, Glb.hide, Flt.hide, Hif.hide, Sec.hide, Stp.hide, pick, Nat.reduceEqDiff, reduceIte] | with_reducible refine (foldS_frame _ _ _ (fun _ _ => ?_) _).trans ?_ | with_reducible refine (whenS_frame _ _ _ _ (fun _ => ?_)).trans ?_ | split)

theorem State.pushTail_frame (W : Nat) (hW : 1051456 &&& W = 1051456) (i2c : Bool) (v : Word) (s : State) : (State.pushTail i2c v s).hide W = s.hide W := by
  refine hide_mono _ _ hW ?_
  unfold State.pushTail
  repeat' (first | with_reducible rfl | simp only [State.pushBytes_frame, State.pushEnd_frame, Nat.reduceAnd, hide_ite, snd_ite, foldS_frame, whenS_frame, foldl_frame, ite_self, implies_true, mk_leaf, State.hideU, Ce.hide, Glb.hide, Flt.hide, Hif.hide, Sec.hide, Stp.hide, pick, Nat.reduceEqDiff, reduceIte] | with_reducible refine (foldS_frame _ _ _ (fun _ _ => ?_) _).trans ?_ | with_reducible refine (whenS_frame _ _ _ _ (fun _ => ?_)).trans ?_ | split)

theorem execBootPushData_frame (W : Nat) (hW : 2816 &&& W = 2816) (v : Word) (s : State) : (after1 (execBootPushData v) s).hide W = s.hide W := by
  refine hide_mono _ _ hW ?_
  unfold after1 execBootPushData
  repeat' (first | with_reducible rfl | simp only [State.pushBytes_frame, Nat.reduceAnd, hide_ite, snd_ite, foldS_frame, whenS_frame, foldl_frame, ite_self, implies_true, mk_leaf, State.hideU, Ce.hide, Glb.hide, Flt.hide, Hif.hide, Sec.hide, Stp.hide, pick, Nat.reduceEqDiff, reduceIte] | with_reducible refine (foldS_frame _ _ _ (fun _ _ => ?_) _).trans ?_ | with_reducible refine (whenS_frame _ _ _ _ (fun _ => ?_)).trans ?_ | split)

theorem execBootPushTail_frame (W : Nat) (hW : 1051456 &&& W = 1051456) (v : Word) (s : State) : (after1 (execBootPushTail v) s).hide W = s.hide W := by
  refine hide_mono _ _ hW ?_
  unfold after1 execBootPushTail
  repeat' (first | with_reducible rfl | simp only [State.pushTail_frame, Nat.reduceAnd, hide_ite, snd_ite, foldS_frame, whenS_frame, foldl_frame, ite_self, implies_true, mk_leaf, State.hideU, Ce.hide, Glb.hide, Flt.hide, Hif.hide, Sec.hide, Stp.hide, pick, Nat.reduceEqDiff, reduceIte] | with_reducible refine (foldS_frame _ _ _ (fun _ _ => ?_) _).trans ?_ | with_reducible refine (whenS_frame _ _ _ _ (fun _ => ?_)).trans ?_ | split)

theorem execBootPushEnd_frame (W : Nat) (hW : 1051456 &&& W = 1051456) (s : State) : (after1 (execBootPushEnd ) s).hide W = s.hide W := by
  refine hide_mono _ _ hW ?_
  unfold after1 execBootPushEnd
  repeat' (first | with_reducible rfl | simp only [State.pushEnd_frame, Nat.reduceAnd, hide_ite, snd_ite, foldS_frame, whenS_frame, foldl_frame, ite_self, implies_true, mk_leaf, State.hideU, Ce.hide, Glb.hide, Flt.hide, Hif.hide, Sec.hide, Stp.hide, pick, Nat.reduceEqDiff, reduceIte] | with_reducible refine (foldS_frame _ _ _ (fun _ _ => ?_) _).trans ?_ | with_reducible refine (whenS_frame _ _ _ _ (fun _ => ?_)).trans ?_ | split)

theorem State.rstctl_frame (W : Nat) (hW : 72 &&& W = 72) (v : Word) (s : State) : (State.rstctl v s).hide W = s.hide W := by
  refine hide_mono _ _ hW ?_
  unfold State.rstctl
  repeat' (first | with_reducible rfl | simp only [State.regWrite_frame, Nat.reduceAnd, hide_ite, snd_ite, foldS_frame, whenS_frame, foldl_frame, ite_self, implies_true, mk_leaf, State.hideU, Ce.hide, Glb.hide, Flt.hide, Hif.hide, Sec.hide, Stp.hide, pick, Nat.reduceEqDiff, reduceIte] | with_reducible refine (foldS_frame _ _ _ (fun _ _ => ?_) _).trans ?_ | with_reducible refine (whenS_frame _ _ _ _ (fun _ => ?_)).trans ?_ | split)

theorem execGlbChipRstRequest_frame (W : Nat) (hW : 72 &&& W = 72) (v : Word) (s : State) : (after1 (execGlbChipRstRequest v) s).hide W = s.hide W := by
  refine hide_mono _ _ hW ?_
  unfold after1 execGlbChipRstRequest
  repeat' (first | with_reducible rfl | simp only [State.rstctl_frame, Nat.reduceAnd, hide_ite, snd_ite, foldS_frame, whenS_frame, foldl_frame, ite_self, implies_true, mk_leaf, State.hideU, Ce.hide, Glb.hide, Flt.hide, Hif.hide, Sec.hide, Stp.hide, pick, Nat.reduceEqDiff, reduceIte] | with_reducible refine (foldS_frame _ _ _ (fun _ _ => ?_) _).trans ?_ | with_reducible refine (whenS_frame _ _ _ _ (fun _ => ?_)).trans ?_ | split)

theorem State.i2cWord_frame (W : Nat) (hW : 1067840 &&& W = 1067840) (o : Nat) (v : Word) (s : State) : (State.i2cWord o v s).hide W = s.hide W := by
  refine hide_mono _ _ hW ?_
  unfold State.i2cWord
  repeat' (first | with_reducible rfl | simp only [State.pushBytes_frame, State.pushEnd_frame, State.pushTail_frame, Nat.reduceAnd, hide_ite, snd_ite, foldS_frame, whenS_frame, foldl_frame, ite_self, implies_true, mk_leaf, State.hideU, Ce.hide, Glb.hide, Flt.hide, Hif.hide, Sec.hide, Stp.hide, pick, Nat.reduceEqDiff, reduceIte] | with_reducible refine (foldS_frame _ _ _ (fun _ _ => ?_) _).trans ?_ | with_reducible refine (whenS_frame _ _ _ _ (fun _ => ?_)).trans ?_ | split)

theorem execI2cIdleTimeout_frame (W : Nat) (hW : 1024 &&& W = 1024) (s : State) : (after1 (execI2cIdleTimeout ) s).hide W = s.hide W := by
  refine hide_mono _ _ hW ?_
  unfold after1 execI2cIdleTimeout
  repeat' (first | with_reducible rfl | simp only [Nat.reduceAnd, hide_ite, snd_ite, foldS_frame, whenS_frame, foldl_frame, ite_self, implies_true, mk_leaf, State.hideU, Ce.hide, Glb.hide, Flt.hide, Hif.hide, Sec.hide, Stp.hide, pick, Nat.reduceEqDiff, reduceIte] | with_reducible refine (foldS_frame _ _ _ (fun _ _ => ?_) _).trans ?_ | with_reducible refine (whenS_frame _ _ _ _ (fun _ => ?_)).trans ?_ | split)

theorem State.slotsLost_frame (W : Nat) (hW : 524288 &&& W = 524288) (n : Nat) (s : State) : (State.slotsLost n s).hide W = s.hide W := by
  refine hide_mono _ _ hW ?_
  unfold State.slotsLost
  repeat' (first | with_reducible rfl | simp only [State.pmcAdd_frame, State.pmcEvent_frame, Nat.reduceAnd, hide_ite, snd_ite, foldS_frame, whenS_frame, foldl_frame, ite_self, implies_true, mk_leaf, State.hideU, Ce.hide, Glb.hide, Flt.hide, Hif.hide, Sec.hide, Stp.hide, pick, Nat.reduceEqDiff, reduceIte] | with_reducible refine (foldS_frame _ _ _ (fun _ _ => ?_) _).trans ?_ | with_reducible refine (whenS_frame _ _ _ _ (fun _ => ?_)).trans ?_ | split)

theorem State.slotsOffered_frame (W : Nat) (hW : 786432 &&& W = 786432) (n : Nat) (s : State) : (State.slotsOffered n s).hide W = s.hide W := by
  refine hide_mono _ _ hW ?_
  unfold State.slotsOffered
  repeat' (first | with_reducible rfl | simp only [State.slotsLost_frame, Nat.reduceAnd, hide_ite, snd_ite, foldS_frame, whenS_frame, foldl_frame, ite_self, implies_true, mk_leaf, State.hideU, Ce.hide, Glb.hide, Flt.hide, Hif.hide, Sec.hide, Stp.hide, pick, Nat.reduceEqDiff, reduceIte] | with_reducible refine (foldS_frame _ _ _ (fun _ _ => ?_) _).trans ?_ | with_reducible refine (whenS_frame _ _ _ _ (fun _ => ?_)).trans ?_ | split)

theorem State.idleSlots_frame (W : Nat) (hW : 786432 &&& W = 786432) (x : Nat) (s : State) : (State.idleSlots x s).hide W = s.hide W :=
  State.slotsOffered_frame W hW _ s

theorem State.pmcLate_frame (W : Nat) (hW : 526336 &&& W = 526336) (s : State) : (State.pmcLate s).hide W = s.hide W := by
  refine hide_mono _ _ hW ?_
  unfold State.pmcLate
  repeat' (first | with_reducible rfl | simp only [State.pmcSamples_frame, Nat.reduceAnd, hide_ite, snd_ite, foldS_frame, whenS_frame, foldl_frame, ite_self, implies_true, mk_leaf, State.hideU, Ce.hide, Glb.hide, Flt.hide, Hif.hide, Sec.hide, Stp.hide, pick, Nat.reduceEqDiff, reduceIte] | with_reducible refine (foldS_frame _ _ _ (fun _ _ => ?_) _).trans ?_ | with_reducible refine (whenS_frame _ _ _ _ (fun _ => ?_)).trans ?_ | split)

theorem State.legacyWindow_frame (W : Nat) (hW : 16779264 &&& W = 16779264) (s : State) : (State.legacyWindow s).hide W = s.hide W := by
  refine hide_mono _ _ hW ?_
  unfold State.legacyWindow
  repeat' (first | with_reducible rfl | simp only [State.legacyEnd_frame, Nat.reduceAnd, hide_ite, snd_ite, foldS_frame, whenS_frame, foldl_frame, ite_self, implies_true, mk_leaf, State.hideU, Ce.hide, Glb.hide, Flt.hide, Hif.hide, Sec.hide, Stp.hide, pick, Nat.reduceEqDiff, reduceIte] | with_reducible refine (foldS_frame _ _ _ (fun _ _ => ?_) _).trans ?_ | with_reducible refine (whenS_frame _ _ _ _ (fun _ => ?_)).trans ?_ | split)

theorem State.frameEnd_frame (W : Nat) (hW : 3024012192288 &&& W = 3024012192288) (i : FrameInputs) (s : State) : (State.frameEnd i s).hide W = s.hide W := by
  refine hide_mono _ _ hW ?_
  unfold State.frameEnd
  repeat' (first | with_reducible rfl | simp only [State.addUpsets_frame, State.confFinish_frame, State.idleSlots_frame, State.legacyWindow_frame, State.outRow_frame, State.pmcLate_frame, State.portOp_frame, State.raise_frame, State.storySecond_frame, State.subTicksPass_frame, Nat.reduceAnd, hide_ite, snd_ite, foldS_frame, whenS_frame, foldl_frame, ite_self, implies_true, mk_leaf, State.hideU, Ce.hide, Glb.hide, Flt.hide, Hif.hide, Sec.hide, Stp.hide, pick, Nat.reduceEqDiff, reduceIte] | with_reducible refine (foldS_frame _ _ _ (fun _ _ => ?_) _).trans ?_ | with_reducible refine (whenS_frame _ _ _ _ (fun _ => ?_)).trans ?_ | split)

theorem State.rebase_frame (W : Nat) (hW : 21234955878400 &&& W = 21234955878400) (delta : Word) (s : State) : (State.rebase delta s).hide W = s.hide W := by
  refine hide_mono _ _ hW ?_
  unfold State.rebase
  repeat' (first | with_reducible rfl | simp only [Nat.reduceAnd, hide_ite, snd_ite, foldS_frame, whenS_frame, foldl_frame, ite_self, implies_true, mk_leaf, State.hideU, Ce.hide, Glb.hide, Flt.hide, Hif.hide, Sec.hide, Stp.hide, pick, Nat.reduceEqDiff, reduceIte] | with_reducible refine (foldS_frame _ _ _ (fun _ _ => ?_) _).trans ?_ | with_reducible refine (whenS_frame _ _ _ _ (fun _ => ?_)).trans ?_ | split)

theorem State.epochApply_frame (W : Nat) (hW : 21235224315904 &&& W = 21235224315904) (e : Word) (s : State) : (State.epochApply e s).hide W = s.hide W := by
  refine hide_mono _ _ hW ?_
  unfold State.epochApply
  repeat' (first | with_reducible rfl | simp only [State.raise_frame, State.rebase_frame, Nat.reduceAnd, hide_ite, snd_ite, foldS_frame, whenS_frame, foldl_frame, ite_self, implies_true, mk_leaf, State.hideU, Ce.hide, Glb.hide, Flt.hide, Hif.hide, Sec.hide, Stp.hide, pick, Nat.reduceEqDiff, reduceIte] | with_reducible refine (foldS_frame _ _ _ (fun _ _ => ?_) _).trans ?_ | with_reducible refine (whenS_frame _ _ _ _ (fun _ => ?_)).trans ?_ | split)

theorem State.originApply_frame (W : Nat) (hW : 301989888 &&& W = 301989888) (s : State) : (State.originApply s).hide W = s.hide W := by
  refine hide_mono _ _ hW ?_
  unfold State.originApply
  repeat' (first | with_reducible rfl | simp only [Nat.reduceAnd, hide_ite, snd_ite, foldS_frame, whenS_frame, foldl_frame, ite_self, implies_true, mk_leaf, State.hideU, Ce.hide, Glb.hide, Flt.hide, Hif.hide, Sec.hide, Stp.hide, pick, Nat.reduceEqDiff, reduceIte] | with_reducible refine (foldS_frame _ _ _ (fun _ _ => ?_) _).trans ?_ | with_reducible refine (whenS_frame _ _ _ _ (fun _ => ?_)).trans ?_ | split)

theorem State.countOn_frame (W : Nat) (hW : 30615432890368 &&& W = 30615432890368) (s : State) : (State.countOn s).hide W = s.hide W := by
  refine hide_mono _ _ hW ?_
  unfold State.countOn
  repeat' (first | with_reducible rfl | simp only [State.epochApply_frame, State.newSecond_frame, State.originApply_frame, Nat.reduceAnd, hide_ite, snd_ite, foldS_frame, whenS_frame, foldl_frame, ite_self, implies_true, mk_leaf, State.hideU, Ce.hide, Glb.hide, Flt.hide, Hif.hide, Sec.hide, Stp.hide, pick, Nat.reduceEqDiff, reduceIte] | with_reducible refine (foldS_frame _ _ _ (fun _ _ => ?_) _).trans ?_ | with_reducible refine (whenS_frame _ _ _ _ (fun _ => ?_)).trans ?_ | split)

theorem State.copyTicks_frame (W : Nat) (hW : 825707464736 &&& W = 825707464736) (s : State) : (State.copyTicks s).hide W = s.hide W := by
  refine hide_mono _ _ hW ?_
  unfold State.copyTicks
  repeat' (first | with_reducible rfl | simp only [State.cnfCopyTick_frame, State.tswCopyTick_frame, State.xcCopyDone_frame, Nat.reduceAnd, hide_ite, snd_ite, foldS_frame, whenS_frame, foldl_frame, ite_self, implies_true, mk_leaf, State.hideU, Ce.hide, Glb.hide, Flt.hide, Hif.hide, Sec.hide, Stp.hide, pick, Nat.reduceEqDiff, reduceIte] | with_reducible refine (foldS_frame _ _ _ (fun _ _ => ?_) _).trans ?_ | with_reducible refine (whenS_frame _ _ _ _ (fun _ => ?_)).trans ?_ | split)

theorem State.leasesOn_frame (W : Nat) (hW : 2097152 &&& W = 2097152) (s : State) : (State.leasesOn s).hide W = s.hide W := by
  refine hide_mono _ _ hW ?_
  unfold State.leasesOn
  repeat' (first | with_reducible rfl | simp only [Nat.reduceAnd, hide_ite, snd_ite, foldS_frame, whenS_frame, foldl_frame, ite_self, implies_true, mk_leaf, State.hideU, Ce.hide, Glb.hide, Flt.hide, Hif.hide, Sec.hide, Stp.hide, pick, Nat.reduceEqDiff, reduceIte] | with_reducible refine (foldS_frame _ _ _ (fun _ _ => ?_) _).trans ?_ | with_reducible refine (whenS_frame _ _ _ _ (fun _ => ?_)).trans ?_ | split)

theorem State.leasesEnd_frame (W : Nat) (hW : 2107424 &&& W = 2107424) (s : State) : (State.leasesEnd s).hide W = s.hide W := by
  refine hide_mono _ _ hW ?_
  unfold State.leasesEnd
  repeat' (first | with_reducible rfl | simp only [State.leaseTest_frame, Nat.reduceAnd, hide_ite, snd_ite, foldS_frame, whenS_frame, foldl_frame, ite_self, implies_true, mk_leaf, State.hideU, Ce.hide, Glb.hide, Flt.hide, Hif.hide, Sec.hide, Stp.hide, pick, Nat.reduceEqDiff, reduceIte] | with_reducible refine (foldS_frame _ _ _ (fun _ _ => ?_) _).trans ?_ | with_reducible refine (whenS_frame _ _ _ _ (fun _ => ?_)).trans ?_ | split)

theorem State.dueWork_frame (W : Nat) (hW : 34977701799988 &&& W = 34977701799988) (s : State) : (State.dueWork s).hide W = s.hide W := by
  refine hide_mono _ _ hW ?_
  unfold State.dueWork
  repeat' (first | with_reducible rfl | simp only [State.leasesEnd_frame, State.outSend_frame, State.protJudge_frame, State.runSteps_frame, Nat.reduceAnd, hide_ite, snd_ite, foldS_frame, whenS_frame, foldl_frame, ite_self, implies_true, mk_leaf, State.hideU, Ce.hide, Glb.hide, Flt.hide, Hif.hide, Sec.hide, Stp.hide, pick, Nat.reduceEqDiff, reduceIte] | with_reducible refine (foldS_frame _ _ _ (fun _ _ => ?_) _).trans ?_ | with_reducible refine (whenS_frame _ _ _ _ (fun _ => ?_)).trans ?_ | split)

theorem State.xcFollow_frame (W : Nat) (hW : 1073743872 &&& W = 1073743872) (old s : State) : (State.xcFollow old s).hide W = s.hide W := by
  refine hide_mono _ _ hW ?_
  unfold State.xcFollow
  repeat' (first | with_reducible rfl | simp only [State.xcCheck_frame, Nat.reduceAnd, hide_ite, snd_ite, foldS_frame, whenS_frame, foldl_frame, ite_self, implies_true, mk_leaf, State.hideU, Ce.hide, Glb.hide, Flt.hide, Hif.hide, Sec.hide, Stp.hide, pick, Nat.reduceEqDiff, reduceIte] | with_reducible refine (foldS_frame _ _ _ (fun _ _ => ?_) _).trans ?_ | with_reducible refine (whenS_frame _ _ _ _ (fun _ => ?_)).trans ?_ | split)

theorem State.settings_frame (W : Nat) (hW : 1170126931968 &&& W = 1170126931968) (old : State) (s : State) : (State.settings old s).hide W = s.hide W := by
  refine hide_mono _ _ hW ?_
  unfold State.settings
  repeat' (first | with_reducible rfl | simp only [State.enBoundary_frame, State.hwyApply_frame, State.ofsBoundary_frame, State.stpHold_frame, State.structBoundary_frame, State.xcFollow_frame, Nat.reduceAnd, hide_ite, snd_ite, foldS_frame, whenS_frame, foldl_frame, ite_self, implies_true, mk_leaf, State.hideU, Ce.hide, Glb.hide, Flt.hide, Hif.hide, Sec.hide, Stp.hide, pick, Nat.reduceEqDiff, reduceIte] | with_reducible refine (foldS_frame _ _ _ (fun _ _ => ?_) _).trans ?_ | with_reducible refine (whenS_frame _ _ _ _ (fun _ => ?_)).trans ?_ | split)

theorem State.clocks_frame (W : Nat) (hW : 402655236 &&& W = 402655236) (phaseErr : Int) (s : State) : (State.clocks phaseErr s).hide W = s.hide W := by
  refine hide_mono _ _ hW ?_
  unfold State.clocks
  repeat' (first | with_reducible rfl | simp only [State.dpllBoundary_frame, State.qlUpdate_frame, State.refBoundary_frame, State.refoutBoundary_frame, State.selBoundary_frame, Nat.reduceAnd, hide_ite, snd_ite, foldS_frame, whenS_frame, foldl_frame, ite_self, implies_true, mk_leaf, State.hideU, Ce.hide, Glb.hide, Flt.hide, Hif.hide, Sec.hide, Stp.hide, pick, Nat.reduceEqDiff, reduceIte] | with_reducible refine (foldS_frame _ _ _ (fun _ _ => ?_) _).trans ?_ | with_reducible refine (whenS_frame _ _ _ _ (fun _ => ?_)).trans ?_ | split)

theorem State.darkPorts_frame (W : Nat) (hW : 14357556725776 &&& W = 14357556725776) (s : State) : (State.darkPorts s).hide W = s.hide W := by
  refine hide_mono _ _ hW ?_
  unfold State.darkPorts
  repeat' (first | with_reducible rfl | simp only [State.lostFrame_frame, State.protMoves_frame, Nat.reduceAnd, hide_ite, snd_ite, foldS_frame, whenS_frame, foldl_frame, ite_self, implies_true, mk_leaf, State.hideU, Ce.hide, Glb.hide, Flt.hide, Hif.hide, Sec.hide, Stp.hide, pick, Nat.reduceEqDiff, reduceIte] | with_reducible refine (foldS_frame _ _ _ (fun _ _ => ?_) _).trans ?_ | with_reducible refine (whenS_frame _ _ _ _ (fun _ => ?_)).trans ?_ | split)

theorem State.tribsTake_frame (W : Nat) (hW : 1133888145408 &&& W = 1133888145408) (s : State) : (State.tribsTake s).hide W = s.hide W := by
  refine hide_mono _ _ hW ?_
  unfold State.tribsTake
  repeat' (first | with_reducible rfl | simp only [State.tribLo_frame, State.tribSig_frame, State.tribTake_frame, Nat.reduceAnd, hide_ite, snd_ite, foldS_frame, whenS_frame, foldl_frame, ite_self, implies_true, mk_leaf, State.hideU, Ce.hide, Glb.hide, Flt.hide, Hif.hide, Sec.hide, Stp.hide, pick, Nat.reduceEqDiff, reduceIte] | with_reducible refine (foldS_frame _ _ _ (fun _ _ => ?_) _).trans ?_ | with_reducible refine (whenS_frame _ _ _ _ (fun _ => ?_)).trans ?_ | split)

theorem State.playRows_frame (W : Nat) (hW : 2199023257632 &&& W = 2199023257632) (s : State) : (State.playRows s).2.hide W = s.hide W := by
  refine hide_mono _ _ hW ?_
  unfold State.playRows
  exact foldl_snd_frame _ _ _ (fun a e => by
    dsimp only
    split
    · exact (State.setStrm_frame _ (by decide) _ _ _).trans (State.stageRead_frame _ (by decide) _ _ a.2)
    · rfl) _

theorem State.inputFrame_frame (W : Nat) (hW : 2473901164576 &&& W = 2473901164576) (s : State) : (State.inputFrame s).hide W = s.hide W := by
  refine hide_mono _ _ hW ?_
  unfold State.inputFrame
  repeat' (first | with_reducible rfl | simp only [State.playRows_frame, Nat.reduceAnd, hide_ite, snd_ite, foldS_frame, whenS_frame, foldl_frame, ite_self, implies_true, mk_leaf, State.hideU, Ce.hide, Glb.hide, Flt.hide, Hif.hide, Sec.hide, Stp.hide, pick, Nat.reduceEqDiff, reduceIte] | with_reducible refine (foldS_frame _ _ _ (fun _ _ => ?_) _).trans ?_ | with_reducible refine (whenS_frame _ _ _ _ (fun _ => ?_)).trans ?_ | split)

theorem State.tribsSend_frame (W : Nat) (hW : 54777612288 &&& W = 54777612288) (s : State) : (State.tribsSend s).hide W = s.hide W := by
  refine hide_mono _ _ hW ?_
  unfold State.tribsSend
  repeat' (first | with_reducible rfl | simp only [State.loTx_frame, State.tribBridge_frame, State.tribTx_frame, Nat.reduceAnd, hide_ite, snd_ite, foldS_frame, whenS_frame, foldl_frame, ite_self, implies_true, mk_leaf, State.hideU, Ce.hide, Glb.hide, Flt.hide, Hif.hide, Sec.hide, Stp.hide, pick, Nat.reduceEqDiff, reduceIte] | with_reducible refine (foldS_frame _ _ _ (fun _ _ => ?_) _).trans ?_ | with_reducible refine (whenS_frame _ _ _ _ (fun _ => ?_)).trans ?_ | split)

theorem State.hwysSend_frame (W : Nat) (hW : 68719478784 &&& W = 68719478784) (s : State) : (State.hwysSend s).hide W = s.hide W := by
  refine hide_mono _ _ hW ?_
  unfold State.hwysSend
  repeat' (first | with_reducible rfl | simp only [State.hwyTx_frame, Nat.reduceAnd, hide_ite, snd_ite, foldS_frame, whenS_frame, foldl_frame, ite_self, implies_true, mk_leaf, State.hideU, Ce.hide, Glb.hide, Flt.hide, Hif.hide, Sec.hide, Stp.hide, pick, Nat.reduceEqDiff, reduceIte] | with_reducible refine (foldS_frame _ _ _ (fun _ _ => ?_) _).trans ?_ | with_reducible refine (whenS_frame _ _ _ _ (fun _ => ?_)).trans ?_ | split)

theorem State.lastStep_frame (W : Nat) (hW : 34977701799988 &&& W = 34977701799988) (s : State) : (State.lastStep s).hide W = s.hide W := by
  refine hide_mono _ _ hW ?_
  unfold State.lastStep
  repeat' (first | with_reducible rfl | simp only [State.cnfChanges_frame, State.runSteps_frame, State.xcFollow_frame, Nat.reduceAnd, hide_ite, snd_ite, foldS_frame, whenS_frame, foldl_frame, ite_self, implies_true, mk_leaf, State.hideU, Ce.hide, Glb.hide, Flt.hide, Hif.hide, Sec.hide, Stp.hide, pick, Nat.reduceEqDiff, reduceIte] | with_reducible refine (foldS_frame _ _ _ (fun _ _ => ?_) _).trans ?_ | with_reducible refine (whenS_frame _ _ _ _ (fun _ => ?_)).trans ?_ | split)

theorem State.dataFrame_frame (W : Nat) (hW : 35046421276724 &&& W = 35046421276724) (s : State) : (State.dataFrame s).hide W = s.hide W := by
  refine hide_mono _ _ hW ?_
  unfold State.dataFrame
  repeat' (first | with_reducible rfl | simp only [State.darkPorts_frame, State.flipFrame_frame, State.hwyTake_frame, State.hwysSend_frame, State.inputFrame_frame, State.lastStep_frame, State.loSweep_frame, State.mapperFrame_frame, State.mapperSinks_frame, State.readPass_frame, State.speakerBoundary_frame, State.tribsSend_frame, State.tribsTake_frame, Nat.reduceAnd, hide_ite, snd_ite, foldS_frame, whenS_frame, foldl_frame, ite_self, implies_true, mk_leaf, State.hideU, Ce.hide, Glb.hide, Flt.hide, Hif.hide, Sec.hide, Stp.hide, pick, Nat.reduceEqDiff, reduceIte] | with_reducible refine (foldS_frame _ _ _ (fun _ _ => ?_) _).trans ?_ | with_reducible refine (whenS_frame _ _ _ _ (fun _ => ?_)).trans ?_ | split)

theorem State.waitsOn_frame (W : Nat) (hW : 32768 &&& W = 32768) (s : State) : (State.waitsOn s).hide W = s.hide W := by
  refine hide_mono _ _ hW ?_
  unfold State.waitsOn
  repeat' (first | with_reducible rfl | simp only [State.modRing_frame, Nat.reduceAnd, hide_ite, snd_ite, foldS_frame, whenS_frame, foldl_frame, ite_self, implies_true, mk_leaf, State.hideU, Ce.hide, Glb.hide, Flt.hide, Hif.hide, Sec.hide, Stp.hide, pick, Nat.reduceEqDiff, reduceIte] | with_reducible refine (foldS_frame _ _ _ (fun _ _ => ?_) _).trans ?_ | with_reducible refine (whenS_frame _ _ _ _ (fun _ => ?_)).trans ?_ | split)

theorem State.frameRest_frame (W : Nat) (hW : 19516350114672 &&& W = 19516350114672) (s : State) : (State.frameRest s).hide W = s.hide W := by
  refine hide_mono _ _ hW ?_
  unfold State.frameRest
  repeat' (first | with_reducible rfl | simp only [State.fencesMet_frame, State.fifoStep_frame, State.pruneFailed_frame, State.serveHeads_frame, State.sweepEnd_frame, State.waitsOn_frame, Nat.reduceAnd, hide_ite, snd_ite, foldS_frame, whenS_frame, foldl_frame, ite_self, implies_true, mk_leaf, State.hideU, Ce.hide, Glb.hide, Flt.hide, Hif.hide, Sec.hide, Stp.hide, pick, Nat.reduceEqDiff, reduceIte] | with_reducible refine (foldS_frame _ _ _ (fun _ _ => ?_) _).trans ?_ | with_reducible refine (whenS_frame _ _ _ _ (fun _ => ?_)).trans ?_ | split)

theorem State.frameBoundary_frame (W : Nat) (hW : 35046924594036 &&& W = 35046924594036) (i : FrameInputs) (s : State) : (State.frameBoundary i s).hide W = s.hide W := by
  refine hide_mono _ _ hW ?_
  unfold State.frameBoundary
  repeat' (first | with_reducible rfl | simp only [State.addUpsets_frame, State.clocks_frame, State.cnfChanges_frame, State.confTurn_frame, State.copyTicks_frame, State.countOn_frame, State.dataFrame_frame, State.dueWork_frame, State.frameEnd_frame, State.frameRest_frame, State.lateErrors_frame, State.leasesOn_frame, State.protTick_frame, State.settings_frame, State.tswTurn_frame, Nat.reduceAnd, hide_ite, snd_ite, foldS_frame, whenS_frame, foldl_frame, ite_self, implies_true, mk_leaf, State.hideU, Ce.hide, Glb.hide, Flt.hide, Hif.hide, Sec.hide, Stp.hide, pick, Nat.reduceEqDiff, reduceIte] | with_reducible refine (foldS_frame _ _ _ (fun _ _ => ?_) _).trans ?_ | with_reducible refine (whenS_frame _ _ _ _ (fun _ => ?_)).trans ?_ | split)

theorem execFrameBoundary_frame (W : Nat) (hW : 35046924594036 &&& W = 35046924594036) (i : FrameInputs) (s : State) : (after1 (execFrameBoundary i) s).hide W = s.hide W := by
  refine hide_mono _ _ hW ?_
  unfold after1 execFrameBoundary
  repeat' (first | with_reducible rfl | simp only [State.frameBoundary_frame, Nat.reduceAnd, hide_ite, snd_ite, foldS_frame, whenS_frame, foldl_frame, ite_self, implies_true, mk_leaf, State.hideU, Ce.hide, Glb.hide, Flt.hide, Hif.hide, Sec.hide, Stp.hide, pick, Nat.reduceEqDiff, reduceIte] | with_reducible refine (foldS_frame _ _ _ (fun _ _ => ?_) _).trans ?_ | with_reducible refine (whenS_frame _ _ _ _ (fun _ => ?_)).trans ?_ | split)

theorem State.stpWrite_frame (W : Nat) (hW : 473966632 &&& W = 473966632) (o : Nat) (v : Word) (s : State) : (State.stpWrite o v s).hide W = s.hide W := by
  refine hide_mono _ _ hW ?_
  unfold State.stpWrite
  repeat' (first | with_reducible rfl | simp only [State.dpllCfgWrite_frame, State.epochWrite_frame, State.offsetWrite_frame, State.originWrite_frame, State.refoutWrite_frame, State.regWrite_frame, State.setTimer_frame, State.tmrArm_frame, State.tmrDisarm_frame, State.tmrWrite_frame, Nat.reduceAnd, hide_ite, snd_ite, foldS_frame, whenS_frame, foldl_frame, ite_self, implies_true, mk_leaf, State.hideU, Ce.hide, Glb.hide, Flt.hide, Hif.hide, Sec.hide, Stp.hide, pick, Nat.reduceEqDiff, reduceIte] | with_reducible refine (foldS_frame _ _ _ (fun _ _ => ?_) _).trans ?_ | with_reducible refine (whenS_frame _ _ _ _ (fun _ => ?_)).trans ?_ | split)

theorem State.ringWrite_frame (W : Nat) (hW : 28587306362928 &&& W = 28587306362928) (o : Nat) (v : Word) (s : State) : (State.ringWrite o v s).hide W = s.hide W := by
  refine hide_mono _ _ hW ?_
  unfold State.ringWrite
  repeat' (first | with_reducible rfl | simp only [State.rcfgWrite_frame, State.ringReset_frame, State.setRing_frame, Nat.reduceAnd, hide_ite, snd_ite, foldS_frame, whenS_frame, foldl_frame, ite_self, implies_true, mk_leaf, State.hideU, Ce.hide, Glb.hide, Flt.hide, Hif.hide, Sec.hide, Stp.hide, pick, Nat.reduceEqDiff, reduceIte] | with_reducible refine (foldS_frame _ _ _ (fun _ _ => ?_) _).trans ?_ | with_reducible refine (whenS_frame _ _ _ _ (fun _ => ?_)).trans ?_ | split)

theorem State.vecWrite_frame (W : Nat) (hW : 65552 &&& W = 65552) (i r : Nat) (v : Word) (s : State) : (State.vecWrite i r v s).hide W = s.hide W := by
  refine hide_mono _ _ hW ?_
  unfold State.vecWrite
  repeat' (first | with_reducible rfl | simp only [State.flushVecs_frame, Nat.reduceAnd, hide_ite, snd_ite, foldS_frame, whenS_frame, foldl_frame, ite_self, implies_true, mk_leaf, State.hideU, Ce.hide, Glb.hide, Flt.hide, Hif.hide, Sec.hide, Stp.hide, pick, Nat.reduceEqDiff, reduceIte] | with_reducible refine (foldS_frame _ _ _ (fun _ _ => ?_) _).trans ?_ | with_reducible refine (whenS_frame _ _ _ _ (fun _ => ?_)).trans ?_ | split)

theorem State.msixWrite_frame (W : Nat) (hW : 65552 &&& W = 65552) (o : Nat) (v : Word) (s : State) : (State.msixWrite o v s).hide W = s.hide W := by
  refine hide_mono _ _ hW ?_
  unfold State.msixWrite
  repeat' (first | with_reducible rfl | simp only [State.vecWrite_frame, Nat.reduceAnd, hide_ite, snd_ite, foldS_frame, whenS_frame, foldl_frame, ite_self, implies_true, mk_leaf, State.hideU, Ce.hide, Glb.hide, Flt.hide, Hif.hide, Sec.hide, Stp.hide, pick, Nat.reduceEqDiff, reduceIte] | with_reducible refine (foldS_frame _ _ _ (fun _ _ => ?_) _).trans ?_ | with_reducible refine (whenS_frame _ _ _ _ (fun _ => ?_)).trans ?_ | split)

theorem State.hifWrite_frame (W : Nat) (hW : 28587306494008 &&& W = 28587306494008) (o : Nat) (v : Word) (s : State) : (State.hifWrite o v s).hide W = s.hide W := by
  refine hide_mono _ _ hW ?_
  unfold State.hifWrite
  repeat' (first | with_reducible rfl | simp only [State.msixWrite_frame, State.regWrite_frame, State.ringWrite_frame, Nat.reduceAnd, hide_ite, snd_ite, foldS_frame, whenS_frame, foldl_frame, ite_self, implies_true, mk_leaf, State.hideU, Ce.hide, Glb.hide, Flt.hide, Hif.hide, Sec.hide, Stp.hide, pick, Nat.reduceEqDiff, reduceIte] | with_reducible refine (foldS_frame _ _ _ (fun _ _ => ?_) _).trans ?_ | with_reducible refine (whenS_frame _ _ _ _ (fun _ => ?_)).trans ?_ | split)

theorem State.errPinWrite_frame (W : Nat) (hW : 8200 &&& W = 8200) (v : Word) (s : State) : (State.errPinWrite v s).hide W = s.hide W := by
  refine hide_mono _ _ hW ?_
  unfold State.errPinWrite
  repeat' (first | with_reducible rfl | simp only [State.errAssert_frame, State.errRelease_frame, State.regWrite_frame, Nat.reduceAnd, hide_ite, snd_ite, foldS_frame, whenS_frame, foldl_frame, ite_self, implies_true, mk_leaf, State.hideU, Ce.hide, Glb.hide, Flt.hide, Hif.hide, Sec.hide, Stp.hide, pick, Nat.reduceEqDiff, reduceIte] | with_reducible refine (foldS_frame _ _ _ (fun _ _ => ?_) _).trans ?_ | with_reducible refine (whenS_frame _ _ _ _ (fun _ => ?_)).trans ?_ | split)

theorem State.causeClear_frame (W : Nat) (hW : 8192 &&& W = 8192) (w : Nat) (v : Word) (s : State) : (State.causeClear w v s).hide W = s.hide W := by
  refine hide_mono _ _ hW ?_
  unfold State.causeClear
  repeat' (first | with_reducible rfl | simp only [Nat.reduceAnd, hide_ite, snd_ite, foldS_frame, whenS_frame, foldl_frame, ite_self, implies_true, mk_leaf, State.hideU, Ce.hide, Glb.hide, Flt.hide, Hif.hide, Sec.hide, Stp.hide, pick, Nat.reduceEqDiff, reduceIte] | with_reducible refine (foldS_frame _ _ _ (fun _ _ => ?_) _).trans ?_ | with_reducible refine (whenS_frame _ _ _ _ (fun _ => ?_)).trans ?_ | split)

theorem State.fltWrite_frame (W : Nat) (hW : 10280 &&& W = 10280) (o : Nat) (v : Word) (s : State) : (State.fltWrite o v s).hide W = s.hide W := by
  refine hide_mono _ _ hW ?_
  unfold State.fltWrite
  repeat' (first | with_reducible rfl | simp only [State.causeClear_frame, State.clrFatal_frame, State.errPinWrite_frame, State.fltTouched_frame, State.injCtl_frame, State.injUnlock_frame, State.reactWrite_frame, State.regWrite_frame, Nat.reduceAnd, hide_ite, snd_ite, foldS_frame, whenS_frame, foldl_frame, ite_self, implies_true, mk_leaf, State.hideU, Ce.hide, Glb.hide, Flt.hide, Hif.hide, Sec.hide, Stp.hide, pick, Nat.reduceEqDiff, reduceIte] | with_reducible refine (foldS_frame _ _ _ (fun _ _ => ?_) _).trans ?_ | with_reducible refine (whenS_frame _ _ _ _ (fun _ => ?_)).trans ?_ | split)

theorem State.logRegWrite_frame (W : Nat) (hW : 16392 &&& W = 16392) (o : Nat) (v : Word) (s : State) : (State.logRegWrite o v s).hide W = s.hide W := by
  refine hide_mono _ _ hW ?_
  unfold State.logRegWrite
  repeat' (first | with_reducible rfl | simp only [State.logCfg_frame, State.logMark_frame, State.logRidx_frame, Nat.reduceAnd, hide_ite, snd_ite, foldS_frame, whenS_frame, foldl_frame, ite_self, implies_true, mk_leaf, State.hideU, Ce.hide, Glb.hide, Flt.hide, Hif.hide, Sec.hide, Stp.hide, pick, Nat.reduceEqDiff, reduceIte] | with_reducible refine (foldS_frame _ _ _ (fun _ _ => ?_) _).trans ?_ | with_reducible refine (whenS_frame _ _ _ _ (fun _ => ?_)).trans ?_ | split)

theorem State.pmcWrite_frame (W : Nat) (hW : 524296 &&& W = 524296) (o : Nat) (v : Word) (s : State) : (State.pmcWrite o v s).hide W = s.hide W := by
  refine hide_mono _ _ hW ?_
  unfold State.pmcWrite
  repeat' (first | with_reducible rfl | simp only [State.pmcSnap_frame, State.regWrite_frame, Nat.reduceAnd, hide_ite, snd_ite, foldS_frame, whenS_frame, foldl_frame, ite_self, implies_true, mk_leaf, State.hideU, Ce.hide, Glb.hide, Flt.hide, Hif.hide, Sec.hide, Stp.hide, pick, Nat.reduceEqDiff, reduceIte] | with_reducible refine (foldS_frame _ _ _ (fun _ _ => ?_) _).trans ?_ | with_reducible refine (whenS_frame _ _ _ _ (fun _ => ?_)).trans ?_ | split)

theorem State.lptWrite_frame (W : Nat) (hW : 536870920 &&& W = 536870920) (o : Nat) (v : Word) (s : State) : (State.lptWrite o v s).hide W = s.hide W := by
  refine hide_mono _ _ hW ?_
  unfold State.lptWrite
  repeat' (first | with_reducible rfl | simp only [State.modPort_frame, State.offsetWrite_frame, State.portCfgWrite_frame, State.regWrite_frame, State.serdesCfgWrite_frame, Nat.reduceAnd, hide_ite, snd_ite, foldS_frame, whenS_frame, foldl_frame, ite_self, implies_true, mk_leaf, State.hideU, Ce.hide, Glb.hide, Flt.hide, Hif.hide, Sec.hide, Stp.hide, pick, Nat.reduceEqDiff, reduceIte] | with_reducible refine (foldS_frame _ _ _ (fun _ _ => ?_) _).trans ?_ | with_reducible refine (whenS_frame _ _ _ _ (fun _ => ?_)).trans ?_ | split)

theorem State.trbWrite_frame (W : Nat) (hW : 34376517640 &&& W = 34376517640) (o : Nat) (v : Word) (s : State) : (State.trbWrite o v s).hide W = s.hide W := by
  refine hide_mono _ _ hW ?_
  unfold State.trbWrite
  repeat' (first | with_reducible rfl | simp only [State.putTrib_frame, State.regWrite_frame, Nat.reduceAnd, hide_ite, snd_ite, foldS_frame, whenS_frame, foldl_frame, ite_self, implies_true, mk_leaf, State.hideU, Ce.hide, Glb.hide, Flt.hide, Hif.hide, Sec.hide, Stp.hide, pick, Nat.reduceEqDiff, reduceIte] | with_reducible refine (foldS_frame _ _ _ (fun _ _ => ?_) _).trans ?_ | with_reducible refine (whenS_frame _ _ _ _ (fun _ => ?_)).trans ?_ | split)

theorem State.hwyRegWrite_frame (W : Nat) (hW : 206162634792 &&& W = 206162634792) (o : Nat) (v : Word) (s : State) : (State.hwyRegWrite o v s).hide W = s.hide W := by
  refine hide_mono _ _ hW ?_
  unfold State.hwyRegWrite
  repeat' (first | with_reducible rfl | simp only [State.hwyGroupWrite_frame, State.modHwy_frame, State.regWrite_frame, Nat.reduceAnd, hide_ite, snd_ite, foldS_frame, whenS_frame, foldl_frame, ite_self, implies_true, mk_leaf, State.hideU, Ce.hide, Glb.hide, Flt.hide, Hif.hide, Sec.hide, Stp.hide, pick, Nat.reduceEqDiff, reduceIte] | with_reducible refine (foldS_frame _ _ _ (fun _ _ => ?_) _).trans ?_ | with_reducible refine (whenS_frame _ _ _ _ (fun _ => ?_)).trans ?_ | split)

theorem State.strWrite_frame (W : Nat) (hW : 8796093022216 &&& W = 8796093022216) (o : Nat) (v : Word) (s : State) : (State.strWrite o v s).hide W = s.hide W := by
  refine hide_mono _ _ hW ?_
  unfold State.strWrite
  repeat' (first | with_reducible rfl | simp only [State.modDcc_frame, State.regWrite_frame, Nat.reduceAnd, hide_ite, snd_ite, foldS_frame, whenS_frame, foldl_frame, ite_self, implies_true, mk_leaf, State.hideU, Ce.hide, Glb.hide, Flt.hide, Hif.hide, Sec.hide, Stp.hide, pick, Nat.reduceEqDiff, reduceIte] | with_reducible refine (foldS_frame _ _ _ (fun _ _ => ?_) _).trans ?_ | with_reducible refine (whenS_frame _ _ _ _ (fun _ => ?_)).trans ?_ | split)

theorem State.gfpWrite_frame (W : Nat) (hW : 4398046511112 &&& W = 4398046511112) (o : Nat) (v : Word) (s : State) : (State.gfpWrite o v s).hide W = s.hide W := by
  refine hide_mono _ _ hW ?_
  unfold State.gfpWrite
  repeat' (first | with_reducible rfl | simp only [State.modGfp_frame, State.regWrite_frame, Nat.reduceAnd, hide_ite, snd_ite, foldS_frame, whenS_frame, foldl_frame, ite_self, implies_true, mk_leaf, State.hideU, Ce.hide, Glb.hide, Flt.hide, Hif.hide, Sec.hide, Stp.hide, pick, Nat.reduceEqDiff, reduceIte] | with_reducible refine (foldS_frame _ _ _ (fun _ _ => ?_) _).trans ?_ | with_reducible refine (whenS_frame _ _ _ _ (fun _ => ?_)).trans ?_ | split)

theorem State.mgtWrite_frame (W : Nat) (hW : 16777224 &&& W = 16777224) (o : Nat) (v : Word) (s : State) : (State.mgtWrite o v s).hide W = s.hide W := by
  refine hide_mono _ _ hW ?_
  unfold State.mgtWrite
  repeat' (first | with_reducible rfl | simp only [State.legacyCmd_frame, State.regWrite_frame, Nat.reduceAnd, hide_ite, snd_ite, foldS_frame, whenS_frame, foldl_frame, ite_self, implies_true, mk_leaf, State.hideU, Ce.hide, Glb.hide, Flt.hide, Hif.hide, Sec.hide, Stp.hide, pick, Nat.reduceEqDiff, reduceIte] | with_reducible refine (foldS_frame _ _ _ (fun _ _ => ?_) _).trans ?_ | with_reducible refine (whenS_frame _ _ _ _ (fun _ => ?_)).trans ?_ | split)

theorem State.gpioWrite_frame (W : Nat) (hW : 8388608 &&& W = 8388608) (dir : Bool) (v : Word) (s : State) : (State.gpioWrite dir v s).hide W = s.hide W := by
  refine hide_mono _ _ hW ?_
  unfold State.gpioWrite
  repeat' (first | with_reducible rfl | simp only [Nat.reduceAnd, hide_ite, snd_ite, foldS_frame, whenS_frame, foldl_frame, ite_self, implies_true, mk_leaf, State.hideU, Ce.hide, Glb.hide, Flt.hide, Hif.hide, Sec.hide, Stp.hide, pick, Nat.reduceEqDiff, reduceIte] | with_reducible refine (foldS_frame _ _ _ (fun _ _ => ?_) _).trans ?_ | with_reducible refine (whenS_frame _ _ _ _ (fun _ => ?_)).trans ?_ | split)

theorem State.pinWrite_frame (W : Nat) (hW : 12593192 &&& W = 12593192) (o : Nat) (v : Word) (s : State) : (State.pinWrite o v s).hide W = s.hide W := by
  refine hide_mono _ _ hW ?_
  unfold State.pinWrite
  repeat' (first | with_reducible rfl | simp only [State.altCfgWrite_frame, State.captCfgWrite_frame, State.gpioWrite_frame, State.regWrite_frame, State.setCapt_frame, Nat.reduceAnd, hide_ite, snd_ite, foldS_frame, whenS_frame, foldl_frame, ite_self, implies_true, mk_leaf, State.hideU, Ce.hide, Glb.hide, Flt.hide, Hif.hide, Sec.hide, Stp.hide, pick, Nat.reduceEqDiff, reduceIte] | with_reducible refine (foldS_frame _ _ _ (fun _ _ => ?_) _).trans ?_ | with_reducible refine (whenS_frame _ _ _ _ (fun _ => ?_)).trans ?_ | split)

theorem State.busWrite_frame (W : Nat) (hW : 520 &&& W = 520) (o : Nat) (v : Word) (s : State) : (State.busWrite o v s).hide W = s.hide W := by
  refine hide_mono _ _ hW ?_
  unfold State.busWrite
  repeat' (first | with_reducible rfl | simp only [State.busCommit_frame, State.regWrite_frame, Nat.reduceAnd, hide_ite, snd_ite, foldS_frame, whenS_frame, foldl_frame, ite_self, implies_true, mk_leaf, State.hideU, Ce.hide, Glb.hide, Flt.hide, Hif.hide, Sec.hide, Stp.hide, pick, Nat.reduceEqDiff, reduceIte] | with_reducible refine (foldS_frame _ _ _ (fun _ _ => ?_) _).trans ?_ | with_reducible refine (whenS_frame _ _ _ _ (fun _ => ?_)).trans ?_ | split)

theorem State.bootWrite_frame (W : Nat) (hW : 1051456 &&& W = 1051456) (o : Nat) (v : Word) (s : State) : (State.bootWrite o v s).hide W = s.hide W := by
  refine hide_mono _ _ hW ?_
  unfold State.bootWrite
  repeat' (first | with_reducible rfl | simp only [State.pushBytes_frame, State.pushEnd_frame, State.pushTail_frame, Nat.reduceAnd, hide_ite, snd_ite, foldS_frame, whenS_frame, foldl_frame, ite_self, implies_true, mk_leaf, State.hideU, Ce.hide, Glb.hide, Flt.hide, Hif.hide, Sec.hide, Stp.hide, pick, Nat.reduceEqDiff, reduceIte] | with_reducible refine (foldS_frame _ _ _ (fun _ _ => ?_) _).trans ?_ | with_reducible refine (whenS_frame _ _ _ _ (fun _ => ?_)).trans ?_ | split)

theorem State.writeWord_frame (W : Nat) (hW : 33226907183992 &&& W = 33226907183992) (o : Nat) (v : Word) (s : State) : (State.writeWord o v s).hide W = s.hide W := by
  refine hide_mono _ _ hW ?_
  unfold State.writeWord
  repeat' (first | with_reducible rfl | simp only [State.bootWrite_frame, State.busWrite_frame, State.fltWrite_frame, State.gfpWrite_frame, State.hifWrite_frame, State.hwyRegWrite_frame, State.logRegWrite_frame, State.lptWrite_frame, State.mgtWrite_frame, State.pinWrite_frame, State.pmcWrite_frame, State.regWrite_frame, State.rstctl_frame, State.stpWrite_frame, State.strWrite_frame, State.structWrite_frame, State.trbWrite_frame, Nat.reduceAnd, hide_ite, snd_ite, foldS_frame, whenS_frame, foldl_frame, ite_self, implies_true, mk_leaf, State.hideU, Ce.hide, Glb.hide, Flt.hide, Hif.hide, Sec.hide, Stp.hide, pick, Nat.reduceEqDiff, reduceIte] | with_reducible refine (foldS_frame _ _ _ (fun _ _ => ?_) _).trans ?_ | with_reducible refine (whenS_frame _ _ _ _ (fun _ => ?_)).trans ?_ | split)

theorem State.writeReg_frame (W : Nat) (hW : 33226907183992 &&& W = 33226907183992) (o bytes : Nat) (v : DWord) (s : State) : (State.writeReg o bytes v s).hide W = s.hide W := by
  refine hide_mono _ _ hW ?_
  unfold State.writeReg
  repeat' (first | with_reducible rfl | simp only [State.pmcPreset_frame, State.writeWord_frame, Nat.reduceAnd, hide_ite, snd_ite, foldS_frame, whenS_frame, foldl_frame, ite_self, implies_true, mk_leaf, State.hideU, Ce.hide, Glb.hide, Flt.hide, Hif.hide, Sec.hide, Stp.hide, pick, Nat.reduceEqDiff, reduceIte] | with_reducible refine (foldS_frame _ _ _ (fun _ _ => ?_) _).trans ?_ | with_reducible refine (whenS_frame _ _ _ _ (fun _ => ?_)).trans ?_ | split)

theorem execRegisterWrite_frame (W : Nat) (hW : 33226907183992 &&& W = 33226907183992) (o bytes : Nat) (v : DWord) (s : State) : (after1 (execRegisterWrite o bytes v) s).hide W = s.hide W := by
  refine hide_mono _ _ hW ?_
  unfold after1 execRegisterWrite
  repeat' (first | with_reducible rfl | simp only [State.writeReg_frame, Nat.reduceAnd, hide_ite, snd_ite, foldS_frame, whenS_frame, foldl_frame, ite_self, implies_true, mk_leaf, State.hideU, Ce.hide, Glb.hide, Flt.hide, Hif.hide, Sec.hide, Stp.hide, pick, Nat.reduceEqDiff, reduceIte] | with_reducible refine (foldS_frame _ _ _ (fun _ _ => ?_) _).trans ?_ | with_reducible refine (whenS_frame _ _ _ _ (fun _ => ?_)).trans ?_ | split)

theorem execResourceRegisterClaim_frame (W : Nat) (hW : 137787090984 &&& W = 137787090984) (r : ClaimReg) (v : Word) (s : State) : (after1 (execResourceRegisterClaim r v) s).hide W = s.hide W := by
  refine hide_mono _ _ hW ?_
  unfold after1 execResourceRegisterClaim
  repeat' (first | with_reducible rfl | simp only [State.altCfgWrite_frame, State.captCfgWrite_frame, State.hwyGroupWrite_frame, State.refoutWrite_frame, State.tmrWrite_frame, Nat.reduceAnd, hide_ite, snd_ite, foldS_frame, whenS_frame, foldl_frame, ite_self, implies_true, mk_leaf, State.hideU, Ce.hide, Glb.hide, Flt.hide, Hif.hide, Sec.hide, Stp.hide, pick, Nat.reduceEqDiff, reduceIte] | with_reducible refine (foldS_frame _ _ _ (fun _ _ => ?_) _).trans ?_ | with_reducible refine (whenS_frame _ _ _ _ (fun _ => ?_)).trans ?_ | split)

theorem State.readEffect_frame (W : Nat) (hW : 824642111520 &&& W = 824642111520) (o bytes : Nat) (s : State) : (State.readEffect o bytes s).hide W = s.hide W := by
  refine hide_mono _ _ hW ?_
  unfold State.readEffect
  repeat' (first | with_reducible rfl | simp only [State.captRead_frame, State.readFinds_frame, Nat.reduceAnd, hide_ite, snd_ite, foldS_frame, whenS_frame, foldl_frame, ite_self, implies_true, mk_leaf, State.hideU, Ce.hide, Glb.hide, Flt.hide, Hif.hide, Sec.hide, Stp.hide, pick, Nat.reduceEqDiff, reduceIte] | with_reducible refine (foldS_frame _ _ _ (fun _ _ => ?_) _).trans ?_ | with_reducible refine (whenS_frame _ _ _ _ (fun _ => ?_)).trans ?_ | split)

theorem State.i2cWrite_frame (W : Nat) (hW : 1067840 &&& W = 1067840) (n o : Nat) (b : List Byte) (s : State) : (State.i2cWrite n o b s).2.hide W = s.hide W := by
  refine hide_mono _ _ hW ?_
  induction n generalizing o b s with
  | zero => rfl
  | succ n ih =>
    unfold State.i2cWrite
    split
    · rfl
    · exact (ih _ _ _).trans (State.i2cWord_frame _ (by decide) _ _ _)

theorem execI2cTransaction_frame (W : Nat) (hW : 1068864 &&& W = 1068864) (x : I2c) (s : State) : (after1 (execI2cTransaction x) s).hide W = s.hide W := by
  refine hide_mono _ _ hW ?_
  unfold after1 execI2cTransaction
  repeat' (first | with_reducible rfl | simp only [State.i2cWrite_frame, Nat.reduceAnd, hide_ite, snd_ite, foldS_frame, whenS_frame, foldl_frame, ite_self, implies_true, mk_leaf, State.hideU, Ce.hide, Glb.hide, Flt.hide, Hif.hide, Sec.hide, Stp.hide, pick, Nat.reduceEqDiff, reduceIte] | with_reducible refine (foldS_frame _ _ _ (fun _ _ => ?_) _).trans ?_ | with_reducible refine (whenS_frame _ _ _ _ (fun _ => ?_)).trans ?_ | split)

theorem State.hostEvents_frame (W : Nat) (hW : 17592186939440 &&& W = 17592186939440) (s : State) : (State.hostEvents s).hide W = s.hide W := by
  refine hide_mono _ _ hW ?_
  unfold State.hostEvents
  repeat' (first | with_reducible rfl | simp only [State.indexWriteback_frame, execCeStall_frame, execCompletionWrite_frame, Nat.reduceAnd, hide_ite, snd_ite, foldS_frame, whenS_frame, foldl_frame, ite_self, implies_true, mk_leaf, State.hideU, Ce.hide, Glb.hide, Flt.hide, Hif.hide, Sec.hide, Stp.hide, pick, Nat.reduceEqDiff, reduceIte] | with_reducible refine (foldS_frame _ _ _ (fun _ _ => ?_) _).trans ?_ | with_reducible refine (whenS_frame _ _ _ _ (fun _ => ?_)).trans ?_ | split)

theorem State.confEvents_frame (W : Nat) (hW : 824633722916 &&& W = 824633722916) (s : State) : (State.confEvents s).hide W = s.hide W := by
  refine hide_mono _ _ hW ?_
  unfold State.confEvents
  repeat' (first | with_reducible rfl | simp only [execCollectorWindow_frame, execLanePass_frame, execSpeakerHoldoffExpiry_frame, Nat.reduceAnd, hide_ite, snd_ite, foldS_frame, whenS_frame, foldl_frame, ite_self, implies_true, mk_leaf, State.hideU, Ce.hide, Glb.hide, Flt.hide, Hif.hide, Sec.hide, Stp.hide, pick, Nat.reduceEqDiff, reduceIte] | with_reducible refine (foldS_frame _ _ _ (fun _ _ => ?_) _).trans ?_ | with_reducible refine (whenS_frame _ _ _ _ (fun _ => ?_)).trans ?_ | split)

theorem State.groupEvents_frame (W : Nat) (hW : 1099511629856 &&& W = 1099511629856) (k : Nat) (s : State) : (State.groupEvents k s).hide W = s.hide W := by
  refine hide_mono _ _ hW ?_
  unfold State.groupEvents
  repeat' (first | with_reducible rfl | simp only [State.protDecide_frame, execHoldoffExpiry_frame, execWtrExpiry_frame, Nat.reduceAnd, hide_ite, snd_ite, foldS_frame, whenS_frame, foldl_frame, ite_self, implies_true, mk_leaf, State.hideU, Ce.hide, Glb.hide, Flt.hide, Hif.hide, Sec.hide, Stp.hide, pick, Nat.reduceEqDiff, reduceIte] | with_reducible refine (foldS_frame _ _ _ (fun _ _ => ?_) _).trans ?_ | with_reducible refine (whenS_frame _ _ _ _ (fun _ => ?_)).trans ?_ | split)

theorem State.protEvents_frame (W : Nat) (hW : 1099511629856 &&& W = 1099511629856) (s : State) : (State.protEvents s).hide W = s.hide W := by
  refine hide_mono _ _ hW ?_
  unfold State.protEvents
  repeat' (first | with_reducible rfl | simp only [State.exerEnd_frame, State.groupEvents_frame, execK1Protocol_frame, Nat.reduceAnd, hide_ite, snd_ite, foldS_frame, whenS_frame, foldl_frame, ite_self, implies_true, mk_leaf, State.hideU, Ce.hide, Glb.hide, Flt.hide, Hif.hide, Sec.hide, Stp.hide, pick, Nat.reduceEqDiff, reduceIte] | with_reducible refine (foldS_frame _ _ _ (fun _ _ => ?_) _).trans ?_ | with_reducible refine (whenS_frame _ _ _ _ (fun _ => ?_)).trans ?_ | split)

theorem State.clockEvents_frame (W : Nat) (hW : 469764096 &&& W = 469764096) (s : State) : (State.clockEvents s).hide W = s.hide W := by
  refine hide_mono _ _ hW ?_
  unfold State.clockEvents
  repeat' (first | with_reducible rfl | simp only [execDpllLock_frame, execHoldReady_frame, execRefQual_frame, execTmrFire_frame, Nat.reduceAnd, hide_ite, snd_ite, foldS_frame, whenS_frame, foldl_frame, ite_self, implies_true, mk_leaf, State.hideU, Ce.hide, Glb.hide, Flt.hide, Hif.hide, Sec.hide, Stp.hide, pick, Nat.reduceEqDiff, reduceIte] | with_reducible refine (foldS_frame _ _ _ (fun _ _ => ?_) _).trans ?_ | with_reducible refine (whenS_frame _ _ _ _ (fun _ => ?_)).trans ?_ | split)

theorem State.unitEvents_frame (W : Nat) (hW : 10019773974580 &&& W = 10019773974580) (s : State) : (State.unitEvents s).hide W = s.hide W := by
  refine hide_mono _ _ hW ?_
  unfold State.unitEvents
  repeat' (first | with_reducible rfl | simp only [State.cmacEnd_frame, State.traceAccept_frame, execCrc4None_frame, execHwyFsLoss_frame, execLofL_frame, execRxTribFrame_frame, execSigHoldoffExpiry_frame, execTxLineFrame_frame, Nat.reduceAnd, hide_ite, snd_ite, foldS_frame, whenS_frame, foldl_frame, ite_self, implies_true, mk_leaf, State.hideU, Ce.hide, Glb.hide, Flt.hide, Hif.hide, Sec.hide, Stp.hide, pick, Nat.reduceEqDiff, reduceIte] | with_reducible refine (foldS_frame _ _ _ (fun _ _ => ?_) _).trans ?_ | with_reducible refine (whenS_frame _ _ _ _ (fun _ => ?_)).trans ?_ | split)

theorem State.subTickOn_frame (W : Nat) (hW : 101195776 &&& W = 101195776) (s : State) : (State.subTickOn s).hide W = s.hide W := by
  refine hide_mono _ _ hW ?_
  unfold State.subTickOn
  repeat' (first | with_reducible rfl | simp only [State.subTicksPass_frame, Nat.reduceAnd, hide_ite, snd_ite, foldS_frame, whenS_frame, foldl_frame, ite_self, implies_true, mk_leaf, State.hideU, Ce.hide, Glb.hide, Flt.hide, Hif.hide, Sec.hide, Stp.hide, pick, Nat.reduceEqDiff, reduceIte] | with_reducible refine (foldS_frame _ _ _ (fun _ _ => ?_) _).trans ?_ | with_reducible refine (whenS_frame _ _ _ _ (fun _ => ?_)).trans ?_ | split)

theorem State.subTick_frame (W : Nat) (hW : 35046924594036 &&& W = 35046924594036) (s : State) : (State.subTick s).hide W = s.hide W := by
  refine hide_mono _ _ hW ?_
  unfold State.subTick
  repeat' (first | with_reducible rfl | simp only [State.frameBoundary_frame, State.idleSlots_frame, State.pmcLate_frame, State.subTickOn_frame, Nat.reduceAnd, hide_ite, snd_ite, foldS_frame, whenS_frame, foldl_frame, ite_self, implies_true, mk_leaf, State.hideU, Ce.hide, Glb.hide, Flt.hide, Hif.hide, Sec.hide, Stp.hide, pick, Nat.reduceEqDiff, reduceIte] | with_reducible refine (foldS_frame _ _ _ (fun _ _ => ?_) _).trans ?_ | with_reducible refine (whenS_frame _ _ _ _ (fun _ => ?_)).trans ?_ | split)

end Sys2Proof.Machine
end

