-- ==== Sys2Proof/Laws/FitTop.lean ====
section
/-! SUPPORT. `State.Fit` through faults, boot, the frame boundary, register writes and the device on its own. -/

namespace Sys2Proof.Machine

set_option linter.unusedSimpArgs false
set_option linter.unreachableTactic false
set_option linter.unusedTactic false
set_option linter.unusedVariables false

theorem State.reactWrite_fit (v : Word) (s : State) (hF : s.Fit) : (State.reactWrite v s).Fit := 
  fit_of_hide (State.reactWrite_frame 35184372086767 (by decide) _ _).symm hF

theorem State.reactRead_fit (src cls : Nat) (s : State) (hF : s.Fit) : (State.reactRead src cls s).2.Fit := by
  unfold State.reactRead
  repeat' (first | with_reducible assumption | simp only [fit_mk, fit_eta] | with_reducible refine foldS_fit _ _ (fun _ _ _ => ?_) _ ?_ | with_reducible refine foldl_fit _ _ (fun _ _ _ => ?_) _ ?_ | with_reducible refine ite_fit (fun _ => ?_) (fun _ => ?_) | with_reducible refine whenS_fit _ _ _ (fun _ _ => ?_) ?_ | with_reducible refine State.clearUpset_fit _ _ ?_ | split)

theorem State.portReset_fit (n : Nat) (s : State) (hF : s.Fit) : (State.portReset n s).Fit := 
  fit_of_hide (State.portReset_frame 35184372086767 (by decide) _ _).symm hF

theorem State.hoUnitReset_fit (n : Nat) (s : State) (hF : s.Fit) : (State.hoUnitReset n s).Fit := 
  fit_of_hide (State.hoUnitReset_frame 35184372086767 (by decide) _ _).symm hF

theorem State.loSliceReset_fit (i : Nat) (s : State) (hF : s.Fit) : (State.loSliceReset i s).Fit := 
  fit_of_hide (State.loSliceReset_frame 35184372086767 (by decide) _ _).symm hF

theorem State.tribSliceReset_fit (i : Nat) (s : State) (hF : s.Fit) : (State.tribSliceReset i s).Fit := 
  fit_of_hide (State.tribSliceReset_frame 35184372086767 (by decide) _ _).symm hF

theorem State.hwyReset_fit (n : Nat) (s : State) (hF : s.Fit) : (State.hwyReset n s).Fit := 
  fit_of_hide (State.hwyReset_frame 35184372086767 (by decide) _ _).symm hF

theorem State.gfpReset_fit (ch : Nat) (s : State) (hF : s.Fit) : (State.gfpReset ch s).Fit := by
  unfold State.gfpReset
  repeat' (first | with_reducible assumption | simp only [fit_mk, fit_eta] | with_reducible refine foldS_fit _ _ (fun _ _ _ => ?_) _ ?_ | with_reducible refine foldl_fit _ _ (fun _ _ _ => ?_) _ ?_ | with_reducible refine ite_fit (fun _ => ?_) (fun _ => ?_) | with_reducible refine whenS_fit _ _ _ (fun _ _ => ?_) ?_ | with_reducible refine State.gfpQptr_fit _ _ _ ?_ | with_reducible refine State.modGfp_fit _ _ _ ?_ | split)

theorem State.dccReset_fit (n : Nat) (s : State) (hF : s.Fit) : (State.dccReset n s).Fit := by
  unfold State.dccReset
  repeat' (first | with_reducible assumption | simp only [fit_mk, fit_eta] | with_reducible refine foldS_fit _ _ (fun _ _ _ => ?_) _ ?_ | with_reducible refine foldl_fit _ _ (fun _ _ _ => ?_) _ ?_ | with_reducible refine ite_fit (fun _ => ?_) (fun _ => ?_) | with_reducible refine whenS_fit _ _ _ (fun _ _ => ?_) ?_ | with_reducible refine State.dccClear_fit _ _ ?_ | with_reducible refine State.modDcc_fit _ _ _ ?_ | split)

theorem State.strReset_fit (s : State) (hF : s.Fit) : (State.strReset s).Fit := by
  unfold State.strReset
  repeat' (first | with_reducible assumption | simp only [fit_mk, fit_eta] | with_reducible refine foldS_fit _ _ (fun _ _ _ => ?_) _ ?_ | with_reducible refine foldl_fit _ _ (fun _ _ _ => ?_) _ ?_ | with_reducible refine ite_fit (fun _ => ?_) (fun _ => ?_) | with_reducible refine whenS_fit _ _ _ (fun _ _ => ?_) ?_ | with_reducible refine State.modStrm_fit _ _ _ ?_ | with_reducible refine State.regsReset_fit _ _ ?_ | with_reducible refine State.streamReset_fit _ _ ?_ | split)

theorem State.procReset_fit (p : Nat) (s : State) (hF : s.Fit) : (State.procReset p s).Fit := by
  unfold State.procReset
  repeat' (first | with_reducible assumption | simp only [fit_mk, fit_eta] | with_reducible refine foldS_fit _ _ (fun _ _ _ => ?_) _ ?_ | with_reducible refine foldl_fit _ _ (fun _ _ _ => ?_) _ ?_ | with_reducible refine ite_fit (fun _ => ?_) (fun _ => ?_) | with_reducible refine whenS_fit _ _ _ (fun _ _ => ?_) ?_ | with_reducible refine State.breakOwners_fit _ _ ?_ | split)

theorem State.blkRst_fit (src addr : Nat) (s : State) (hF : s.Fit) : (State.blkRst src addr s).Fit := by
  unfold State.blkRst
  repeat' (first | with_reducible assumption | simp only [fit_mk, fit_eta] | with_reducible refine foldS_fit _ _ (fun _ _ _ => ?_) _ ?_ | with_reducible refine foldl_fit _ _ (fun _ _ _ => ?_) _ ?_ | with_reducible refine ite_fit (fun _ => ?_) (fun _ => ?_) | with_reducible refine whenS_fit _ _ _ (fun _ _ => ?_) ?_ | with_reducible refine State.dccReset_fit _ _ ?_ | with_reducible refine State.gfpReset_fit _ _ ?_ | with_reducible refine State.hoUnitReset_fit _ _ ?_ | with_reducible refine State.hwyReset_fit _ _ ?_ | with_reducible refine State.laneReset_fit _ _ ?_ | with_reducible refine State.loSliceReset_fit _ _ ?_ | with_reducible refine State.portReset_fit _ _ ?_ | with_reducible refine State.procReset_fit _ _ ?_ | with_reducible refine State.replicaReset_fit _ _ ?_ | with_reducible refine State.strReset_fit _ ?_ | with_reducible refine State.tribSliceReset_fit _ _ ?_ | with_reducible refine State.unitReset_fit _ _ ?_ | split)

theorem State.errAssert_fit (s : State) (hF : s.Fit) : (State.errAssert s).Fit := 
  fit_of_hide (State.errAssert_frame 35184372086767 (by decide) _).symm hF

theorem State.errRelease_fit (s : State) (hF : s.Fit) : (State.errRelease s).Fit := 
  fit_of_hide (State.errRelease_frame 35184372086767 (by decide) _).symm hF

theorem State.fltTouched_fit (s : State) (hF : s.Fit) : (State.fltTouched s).Fit := 
  fit_of_hide (State.fltTouched_frame 35184372086767 (by decide) _).symm hF

theorem execErrPinAssert_fit (s : State) (hF : s.Fit) : (after1 (execErrPinAssert ) s).Fit := 
  fit_of_hide (execErrPinAssert_frame 35184372086767 (by decide) _).symm hF

theorem execErrPinRelease_fit (s : State) (hF : s.Fit) : (after1 (execErrPinRelease ) s).Fit := 
  fit_of_hide (execErrPinRelease_frame 35184372086767 (by decide) _).symm hF

theorem execErrPinWidthExpiry_fit (s : State) (hF : s.Fit) : (after1 (execErrPinWidthExpiry ) s).Fit := 
  fit_of_hide (execErrPinWidthExpiry_frame 35184372086767 (by decide) _).symm hF

theorem State.enterFatal_fit (s : State) (hF : s.Fit) : (State.enterFatal s).Fit := by
  unfold State.enterFatal
  repeat' (first | with_reducible assumption | simp only [fit_mk, fit_eta] | with_reducible refine foldS_fit _ _ (fun _ _ _ => ?_) _ ?_ | with_reducible refine foldl_fit _ _ (fun _ _ _ => ?_) _ ?_ | with_reducible refine ite_fit (fun _ => ?_) (fun _ => ?_) | with_reducible refine whenS_fit _ _ _ (fun _ _ => ?_) ?_ | with_reducible refine State.sendVec_fit _ _ ?_ | split)

theorem State.nmi_fit (s : State) (hF : s.Fit) : (State.nmi s).Fit := by
  unfold State.nmi
  repeat' (first | with_reducible assumption | simp only [fit_mk, fit_eta] | with_reducible refine foldS_fit _ _ (fun _ _ _ => ?_) _ ?_ | with_reducible refine foldl_fit _ _ (fun _ _ _ => ?_) _ ?_ | with_reducible refine ite_fit (fun _ => ?_) (fun _ => ?_) | with_reducible refine whenS_fit _ _ _ (fun _ _ => ?_) ?_ | with_reducible refine State.sendVec_fit _ _ ?_ | split)

theorem State.evOf_fit (m : Msg) (logged : Bool) (seq : Half) (s : State) (hF : s.Fit) : (State.evOf m logged seq s).Fit := by
  unfold State.evOf
  repeat' (first | with_reducible assumption | simp only [fit_mk, fit_eta] | with_reducible refine foldS_fit _ _ (fun _ _ _ => ?_) _ ?_ | with_reducible refine foldl_fit _ _ (fun _ _ _ => ?_) _ ?_ | with_reducible refine ite_fit (fun _ => ?_) (fun _ => ?_) | with_reducible refine whenS_fit _ _ _ (fun _ _ => ?_) ?_ | with_reducible refine State.evPut_fit _ _ ?_ | split)

theorem State.react_fit (r : BitVec 5) (m : Msg) (logged : Bool) (seq : Half) (s : State) (hF : s.Fit) : (State.react r m logged seq s).Fit := by
  unfold State.react
  repeat' (first | with_reducible assumption | simp only [fit_mk, fit_eta] | with_reducible refine foldS_fit _ _ (fun _ _ _ => ?_) _ ?_ | with_reducible refine foldl_fit _ _ (fun _ _ _ => ?_) _ ?_ | with_reducible refine ite_fit (fun _ => ?_) (fun _ => ?_) | with_reducible refine whenS_fit _ _ _ (fun _ _ => ?_) ?_ | with_reducible refine State.blkRst_fit _ _ _ ?_ | with_reducible refine State.errAssert_fit _ ?_ | with_reducible refine State.evOf_fit _ _ _ _ ?_ | with_reducible refine State.nmi_fit _ ?_ | split)

theorem State.capture_fit (e : LogEntry) (s : State) (hF : s.Fit) : (State.capture e s).Fit := 
  fit_of_hide (State.capture_frame 35184372086767 (by decide) _ _).symm hF

theorem State.handle_fit (m : Msg) (s : State) (hF : s.Fit) : (State.handle m s).Fit := by
  unfold State.handle
  repeat' (first | with_reducible assumption | simp only [fit_mk, fit_eta] | with_reducible refine foldS_fit _ _ (fun _ _ _ => ?_) _ ?_ | with_reducible refine foldl_fit _ _ (fun _ _ _ => ?_) _ ?_ | with_reducible refine ite_fit (fun _ => ?_) (fun _ => ?_) | with_reducible refine whenS_fit _ _ _ (fun _ _ => ?_) ?_ | with_reducible refine State.capture_fit _ _ ?_ | with_reducible refine State.enterFatal_fit _ ?_ | with_reducible refine State.evOf_fit _ _ _ _ ?_ | with_reducible refine State.logWrite_fit _ _ ?_ | with_reducible refine State.reactRead_fit _ _ _ ?_ | with_reducible refine State.react_fit _ _ _ _ _ ?_ | split)

theorem State.collectorTake_fit (s : State) (hF : s.Fit) : (State.collectorTake s).Fit := by
  unfold State.collectorTake
  split
  · exact hF
  · rename_i m r hq
    refine State.handle_fit m _ ⟨hF.1, ?_⟩
    have := hF.2
    rw [hq, List.length_cons] at this
    exact Nat.le_of_succ_le this

theorem execCollectorTake_fit (s : State) (hF : s.Fit) : (after1 (execCollectorTake ) s).Fit := by
  unfold after1 execCollectorTake
  repeat' (first | with_reducible assumption | simp only [fit_mk, fit_eta] | with_reducible refine foldS_fit _ _ (fun _ _ _ => ?_) _ ?_ | with_reducible refine foldl_fit _ _ (fun _ _ _ => ?_) _ ?_ | with_reducible refine ite_fit (fun _ => ?_) (fun _ => ?_) | with_reducible refine whenS_fit _ _ _ (fun _ _ => ?_) ?_ | with_reducible refine State.collectorTake_fit _ ?_ | split)

theorem execNmiReturn_fit (mp : Bool) (s : State) (hF : s.Fit) : (after1 (execNmiReturn mp) s).Fit := by
  unfold after1 execNmiReturn
  repeat' (first | with_reducible assumption | simp only [fit_mk, fit_eta] | with_reducible refine foldS_fit _ _ (fun _ _ _ => ?_) _ ?_ | with_reducible refine foldl_fit _ _ (fun _ _ _ => ?_) _ ?_ | with_reducible refine ite_fit (fun _ => ?_) (fun _ => ?_) | with_reducible refine whenS_fit _ _ _ (fun _ _ => ?_) ?_ | with_reducible refine State.serveHeads_fit _ ?_ | split)

theorem execProcessorReady_fit (p : Fin 7) (s : State) (hF : s.Fit) : (after1 (execProcessorReady p) s).Fit := by
  unfold after1 execProcessorReady
  repeat' (first | with_reducible assumption | simp only [fit_mk, fit_eta] | with_reducible refine foldS_fit _ _ (fun _ _ _ => ?_) _ ?_ | with_reducible refine foldl_fit _ _ (fun _ _ _ => ?_) _ ?_ | with_reducible refine ite_fit (fun _ => ?_) (fun _ => ?_) | with_reducible refine whenS_fit _ _ _ (fun _ _ => ?_) ?_ | with_reducible refine State.serveHeads_fit _ ?_ | split)

theorem execProcWdt_fit (p : Fin 7) (s : State) (hF : s.Fit) : (after1 (execProcWdt p) s).Fit := by
  unfold after1 execProcWdt
  repeat' (first | with_reducible assumption | simp only [fit_mk, fit_eta] | with_reducible refine foldS_fit _ _ (fun _ _ _ => ?_) _ ?_ | with_reducible refine foldl_fit _ _ (fun _ _ _ => ?_) _ ?_ | with_reducible refine ite_fit (fun _ => ?_) (fun _ => ?_) | with_reducible refine whenS_fit _ _ _ (fun _ _ => ?_) ?_ | with_reducible refine State.raise_fit _ _ _ _ _ ?_ | split)

theorem execProcExc_fit (p : Fin 7) (addr : Word) (s : State) (hF : s.Fit) : (after1 (execProcExc p addr) s).Fit := by
  unfold after1 execProcExc
  repeat' (first | with_reducible assumption | simp only [fit_mk, fit_eta] | with_reducible refine foldS_fit _ _ (fun _ _ _ => ?_) _ ?_ | with_reducible refine foldl_fit _ _ (fun _ _ _ => ?_) _ ?_ | with_reducible refine ite_fit (fun _ => ?_) (fun _ => ?_) | with_reducible refine whenS_fit _ _ _ (fun _ _ => ?_) ?_ | with_reducible refine State.raise_fit _ _ _ _ _ ?_ | split)

theorem execClkLol_fit (pll : Fin 2) (s : State) (hF : s.Fit) : (after1 (execClkLol pll) s).Fit := by
  unfold after1 execClkLol
  repeat' (first | with_reducible assumption | simp only [fit_mk, fit_eta] | with_reducible refine foldS_fit _ _ (fun _ _ _ => ?_) _ ?_ | with_reducible refine foldl_fit _ _ (fun _ _ _ => ?_) _ ?_ | with_reducible refine ite_fit (fun _ => ?_) (fun _ => ?_) | with_reducible refine whenS_fit _ _ _ (fun _ _ => ?_) ?_ | with_reducible refine State.raise_fit _ _ _ _ _ ?_ | split)

theorem execGrantWdt_fit (target : Fin 16) (master : Fin 9) (s : State) (hF : s.Fit) : (after1 (execGrantWdt target master) s).Fit := by
  unfold after1 execGrantWdt
  repeat' (first | with_reducible assumption | simp only [fit_mk, fit_eta] | with_reducible refine foldS_fit _ _ (fun _ _ _ => ?_) _ ?_ | with_reducible refine foldl_fit _ _ (fun _ _ _ => ?_) _ ?_ | with_reducible refine ite_fit (fun _ => ?_) (fun _ => ?_) | with_reducible refine whenS_fit _ _ _ (fun _ _ => ?_) ?_ | with_reducible refine State.raise_fit _ _ _ _ _ ?_ | split)

theorem State.busCommit_fit (s : State) (hF : s.Fit) : (State.busCommit s).Fit := 
  fit_of_hide (State.busCommit_frame 35184372086767 (by decide) _).symm hF

theorem execBusCommit_fit (s : State) (hF : s.Fit) : (after1 (execBusCommit ) s).Fit := 
  fit_of_hide (execBusCommit_frame 35184372086767 (by decide) _).symm hF

theorem execBusFreezeWrite_fit (v : Word) (s : State) (hF : s.Fit) : (after1 (execBusFreezeWrite v) s).Fit := 
  fit_of_hide (execBusFreezeWrite_frame 35184372086767 (by decide) _ _).symm hF

theorem execFirstClr_fit (s : State) (hF : s.Fit) : (after1 (execFirstClr ) s).Fit := 
  fit_of_hide (execFirstClr_frame 35184372086767 (by decide) _).symm hF

theorem State.clrFatal_fit (s : State) (hF : s.Fit) : (State.clrFatal s).Fit := 
  fit_of_hide (State.clrFatal_frame 35184372086767 (by decide) _).symm hF

theorem execFirstClrFatal_fit (s : State) (hF : s.Fit) : (after1 (execFirstClrFatal ) s).Fit := 
  fit_of_hide (execFirstClrFatal_frame 35184372086767 (by decide) _).symm hF

theorem execReactionWrite_fit (v : Word) (s : State) (hF : s.Fit) : (after1 (execReactionWrite v) s).Fit := 
  fit_of_hide (execReactionWrite_frame 35184372086767 (by decide) _ _).symm hF

theorem State.injUnlock_fit (v : Word) (s : State) (hF : s.Fit) : (State.injUnlock v s).Fit := 
  fit_of_hide (State.injUnlock_frame 35184372086767 (by decide) _ _).symm hF

theorem execInjUnlock_fit (v : Word) (s : State) (hF : s.Fit) : (after1 (execInjUnlock v) s).Fit := 
  fit_of_hide (execInjUnlock_frame 35184372086767 (by decide) _ _).symm hF

theorem State.injCtl_fit (v : Word) (s : State) (hF : s.Fit) : (State.injCtl v s).Fit := by
  unfold State.injCtl
  repeat' (first | with_reducible assumption | simp only [fit_mk, fit_eta] | with_reducible refine foldS_fit _ _ (fun _ _ _ => ?_) _ ?_ | with_reducible refine foldl_fit _ _ (fun _ _ _ => ?_) _ ?_ | with_reducible refine ite_fit (fun _ => ?_) (fun _ => ?_) | with_reducible refine whenS_fit _ _ _ (fun _ _ => ?_) ?_ | with_reducible refine State.post_fit _ _ ?_ | with_reducible refine State.regWrite_fit _ _ _ ?_ | split)

theorem execInjGo_fit (v : Word) (s : State) (hF : s.Fit) : (after1 (execInjGo v) s).Fit := by
  unfold after1 execInjGo
  repeat' (first | with_reducible assumption | simp only [fit_mk, fit_eta] | with_reducible refine foldS_fit _ _ (fun _ _ _ => ?_) _ ?_ | with_reducible refine foldl_fit _ _ (fun _ _ _ => ?_) _ ?_ | with_reducible refine ite_fit (fun _ => ?_) (fun _ => ?_) | with_reducible refine whenS_fit _ _ _ (fun _ _ => ?_) ?_ | with_reducible refine State.fltTouched_fit _ ?_ | with_reducible refine State.injCtl_fit _ _ ?_ | split)

theorem State.flipFrame_fit (wr : Bool) (s : State) (hF : s.Fit) : (State.flipFrame wr s).Fit := 
  fit_of_hide (State.flipFrame_frame 35184372086767 (by decide) _ _).symm hF

theorem execPfail_fit (s : State) (hF : s.Fit) : (after1 (execPfail ) s).Fit := by
  unfold after1 execPfail
  repeat' (first | with_reducible assumption | simp only [fit_mk, fit_eta] | with_reducible refine foldS_fit _ _ (fun _ _ _ => ?_) _ ?_ | with_reducible refine foldl_fit _ _ (fun _ _ _ => ?_) _ ?_ | with_reducible refine ite_fit (fun _ => ?_) (fun _ => ?_) | with_reducible refine whenS_fit _ _ _ (fun _ _ => ?_) ?_ | with_reducible refine State.flushFrom_fit _ _ ?_ | with_reducible refine State.mirrorAll_fit _ ?_ | with_reducible refine State.raise_fit _ _ _ _ _ ?_ | split)

theorem execPfailClear_fit (s : State) (hF : s.Fit) : (after1 (execPfailClear ) s).Fit := by
  unfold after1 execPfailClear
  repeat' (first | with_reducible assumption | simp only [fit_mk, fit_eta] | with_reducible refine foldS_fit _ _ (fun _ _ _ => ?_) _ ?_ | with_reducible refine foldl_fit _ _ (fun _ _ _ => ?_) _ ?_ | with_reducible refine ite_fit (fun _ => ?_) (fun _ => ?_) | with_reducible refine whenS_fit _ _ _ (fun _ _ => ?_) ?_ | with_reducible refine State.raise_fit _ _ _ _ _ ?_ | split)

theorem State.decodeErr_fit (master : Nat) (write : Bool) (addr : Nat) (s : State) (hF : s.Fit) : (State.decodeErr master write addr s).Fit := 
  fit_of_hide (State.decodeErr_frame 35184372086767 (by decide) _ _ _ _).symm hF

theorem State.busAccess_fit (master : Nat) (write : Option Byte) (addr : Nat) (s : State) (hF : s.Fit) : (State.busAccess master write addr s).Fit := 
  fit_of_hide (State.busAccess_frame 35184372086767 (by decide) _ _ _ _).symm hF

theorem State.portOp_fit (x : PortOp) (s : State) (hF : s.Fit) : (State.portOp x s).Fit := by
  unfold State.portOp
  repeat' (first | with_reducible assumption | simp only [fit_mk, fit_eta] | with_reducible refine foldS_fit _ _ (fun _ _ _ => ?_) _ ?_ | with_reducible refine foldl_fit _ _ (fun _ _ _ => ?_) _ ?_ | with_reducible refine ite_fit (fun _ => ?_) (fun _ => ?_) | with_reducible refine whenS_fit _ _ _ (fun _ _ => ?_) ?_ | with_reducible refine State.busAccess_fit _ _ _ _ ?_ | with_reducible refine State.claim_fit _ _ _ ?_ | with_reducible refine State.lockClaim_fit _ _ _ _ ?_ | with_reducible refine State.lockRelease_fit _ _ _ ?_ | with_reducible refine State.readFinds_fit _ _ ?_ | split)

theorem State.loadFrom_fit (start : Nat) (s : State) (hF : s.Fit) : (State.loadFrom start s).Fit := 
  fit_of_hide (State.loadFrom_frame 35184372086767 (by decide) _ _).symm hF

theorem State.takeImage_fit (bs : List Byte) (s : State) (hF : s.Fit) : (State.takeImage bs s).Fit := 
  fit_of_hide (State.takeImage_frame 35184372086767 (by decide) _ _).symm hF

theorem State.unload_fit (s : State) (hF : s.Fit) : (State.unload s).Fit := 
  fit_of_hide (State.unload_frame 35184372086767 (by decide) _).symm hF

theorem State.bootFail_fit (code : Nat) (s : State) (hF : s.Fit) : (State.bootFail code s).Fit := by
  unfold State.bootFail
  repeat' (first | with_reducible assumption | simp only [fit_mk, fit_eta] | with_reducible refine foldS_fit _ _ (fun _ _ _ => ?_) _ ?_ | with_reducible refine foldl_fit _ _ (fun _ _ _ => ?_) _ ?_ | with_reducible refine ite_fit (fun _ => ?_) (fun _ => ?_) | with_reducible refine whenS_fit _ _ _ (fun _ _ => ?_) ?_ | with_reducible refine State.raise_fit _ _ _ _ _ ?_ | with_reducible refine State.unload_fit _ ?_ | split)

theorem State.bootEnd_fit (s : State) (hF : s.Fit) : (State.bootEnd s).Fit := by
  unfold State.bootEnd
  repeat' (first | with_reducible assumption | simp only [fit_mk, fit_eta] | with_reducible refine foldS_fit _ _ (fun _ _ _ => ?_) _ ?_ | with_reducible refine foldl_fit _ _ (fun _ _ _ => ?_) _ ?_ | with_reducible refine ite_fit (fun _ => ?_) (fun _ => ?_) | with_reducible refine whenS_fit _ _ _ (fun _ _ => ?_) ?_ | with_reducible refine State.bootFail_fit _ _ ?_ | split)

theorem execBootLoadDone_fit (image : List Byte) (s : State) (hF : s.Fit) : (after1 (execBootLoadDone image) s).Fit := by
  unfold after1 execBootLoadDone
  repeat' (first | with_reducible assumption | simp only [fit_mk, fit_eta] | with_reducible refine foldS_fit _ _ (fun _ _ _ => ?_) _ ?_ | with_reducible refine foldl_fit _ _ (fun _ _ _ => ?_) _ ?_ | with_reducible refine ite_fit (fun _ => ?_) (fun _ => ?_) | with_reducible refine whenS_fit _ _ _ (fun _ _ => ?_) ?_ | with_reducible refine State.bootEnd_fit _ ?_ | with_reducible refine State.takeImage_fit _ _ ?_ | split)

theorem execSfdpDiscovery_fit (r : Option Sfdp) (s : State) (hF : s.Fit) : (after1 (execSfdpDiscovery r) s).Fit := by
  unfold after1 execSfdpDiscovery
  repeat' (first | with_reducible assumption | simp only [fit_mk, fit_eta] | with_reducible refine foldS_fit _ _ (fun _ _ _ => ?_) _ ?_ | with_reducible refine foldl_fit _ _ (fun _ _ _ => ?_) _ ?_ | with_reducible refine ite_fit (fun _ => ?_) (fun _ => ?_) | with_reducible refine whenS_fit _ _ _ (fun _ _ => ?_) ?_ | with_reducible refine State.bootFail_fit _ _ ?_ | split)

theorem State.fifoDrain_fit (s : State) (hF : s.Fit) : (State.fifoDrain s).Fit := 
  fit_of_hide (State.fifoDrain_frame 35184372086767 (by decide) _).symm hF

theorem State.fifoStep_fit (s : State) (hF : s.Fit) : (State.fifoStep s).Fit := by
  unfold State.fifoStep
  repeat' (first | with_reducible assumption | simp only [fit_mk, fit_eta] | with_reducible refine foldS_fit _ _ (fun _ _ _ => ?_) _ ?_ | with_reducible refine foldl_fit _ _ (fun _ _ _ => ?_) _ ?_ | with_reducible refine ite_fit (fun _ => ?_) (fun _ => ?_) | with_reducible refine whenS_fit _ _ _ (fun _ _ => ?_) ?_ | with_reducible refine State.bootEnd_fit _ ?_ | with_reducible refine State.fifoDrain_fit _ ?_ | split)

theorem State.pushClash_fit (i2c : Bool) (s : State) (hF : s.Fit) : (State.pushClash i2c s).Fit := 
  fit_of_hide (State.pushClash_frame 35184372086767 (by decide) _ _).symm hF

theorem State.pushBytes_fit (i2c : Bool) (bs : List Byte) (s : State) (hF : s.Fit) : (State.pushBytes i2c bs s).Fit := by
  unfold State.pushBytes
  repeat' (first | with_reducible assumption | simp only [fit_mk, fit_eta] | with_reducible refine foldS_fit _ _ (fun _ _ _ => ?_) _ ?_ | with_reducible refine foldl_fit _ _ (fun _ _ _ => ?_) _ ?_ | with_reducible refine ite_fit (fun _ => ?_) (fun _ => ?_) | with_reducible refine whenS_fit _ _ _ (fun _ _ => ?_) ?_ | with_reducible refine State.bootFail_fit _ _ ?_ | with_reducible refine State.pushClash_fit _ _ ?_ | split)

theorem State.pushEnd_fit (i2c : Bool) (s : State) (hF : s.Fit) : (State.pushEnd i2c s).Fit := by
  unfold State.pushEnd
  repeat' (first | with_reducible assumption | simp only [fit_mk, fit_eta] | with_reducible refine foldS_fit _ _ (fun _ _ _ => ?_) _ ?_ | with_reducible refine foldl_fit _ _ (fun _ _ _ => ?_) _ ?_ | with_reducible refine ite_fit (fun _ => ?_) (fun _ => ?_) | with_reducible refine whenS_fit _ _ _ (fun _ _ => ?_) ?_ | with_reducible refine State.fifoStep_fit _ ?_ | with_reducible refine State.pushClash_fit _ _ ?_ | split)

theorem State.pushTail_fit (i2c : Bool) (v : Word) (s : State) (hF : s.Fit) : (State.pushTail i2c v s).Fit := by
  unfold State.pushTail
  repeat' (first | with_reducible assumption | simp only [fit_mk, fit_eta] | with_reducible refine foldS_fit _ _ (fun _ _ _ => ?_) _ ?_ | with_reducible refine foldl_fit _ _ (fun _ _ _ => ?_) _ ?_ | with_reducible refine ite_fit (fun _ => ?_) (fun _ => ?_) | with_reducible refine whenS_fit _ _ _ (fun _ _ => ?_) ?_ | with_reducible refine State.pushBytes_fit _ _ _ ?_ | with_reducible refine State.pushEnd_fit _ _ ?_ | split)

theorem execBootPushData_fit (v : Word) (s : State) (hF : s.Fit) : (after1 (execBootPushData v) s).Fit := by
  unfold after1 execBootPushData
  repeat' (first | with_reducible assumption | simp only [fit_mk, fit_eta] | with_reducible refine foldS_fit _ _ (fun _ _ _ => ?_) _ ?_ | with_reducible refine foldl_fit _ _ (fun _ _ _ => ?_) _ ?_ | with_reducible refine ite_fit (fun _ => ?_) (fun _ => ?_) | with_reducible refine whenS_fit _ _ _ (fun _ _ => ?_) ?_ | with_reducible refine State.pushBytes_fit _ _ _ ?_ | split)

theorem execBootPushTail_fit (v : Word) (s : State) (hF : s.Fit) : (after1 (execBootPushTail v) s).Fit := by
  unfold after1 execBootPushTail
  repeat' (first | with_reducible assumption | simp only [fit_mk, fit_eta] | with_reducible refine foldS_fit _ _ (fun _ _ _ => ?_) _ ?_ | with_reducible refine foldl_fit _ _ (fun _ _ _ => ?_) _ ?_ | with_reducible refine ite_fit (fun _ => ?_) (fun _ => ?_) | with_reducible refine whenS_fit _ _ _ (fun _ _ => ?_) ?_ | with_reducible refine State.pushTail_fit _ _ _ ?_ | split)

theorem execBootPushEnd_fit (s : State) (hF : s.Fit) : (after1 (execBootPushEnd ) s).Fit := by
  unfold after1 execBootPushEnd
  repeat' (first | with_reducible assumption | simp only [fit_mk, fit_eta] | with_reducible refine foldS_fit _ _ (fun _ _ _ => ?_) _ ?_ | with_reducible refine foldl_fit _ _ (fun _ _ _ => ?_) _ ?_ | with_reducible refine ite_fit (fun _ => ?_) (fun _ => ?_) | with_reducible refine whenS_fit _ _ _ (fun _ _ => ?_) ?_ | with_reducible refine State.pushEnd_fit _ _ ?_ | split)

theorem State.rstctl_fit (v : Word) (s : State) (hF : s.Fit) : (State.rstctl v s).Fit := 
  fit_of_hide (State.rstctl_frame 35184372086767 (by decide) _ _).symm hF

theorem execGlbChipRstRequest_fit (v : Word) (s : State) (hF : s.Fit) : (after1 (execGlbChipRstRequest v) s).Fit := 
  fit_of_hide (execGlbChipRstRequest_frame 35184372086767 (by decide) _ _).symm hF

theorem State.i2cWord_fit (o : Nat) (v : Word) (s : State) (hF : s.Fit) : (State.i2cWord o v s).Fit := by
  unfold State.i2cWord
  repeat' (first | with_reducible assumption | simp only [fit_mk, fit_eta] | with_reducible refine foldS_fit _ _ (fun _ _ _ => ?_) _ ?_ | with_reducible refine foldl_fit _ _ (fun _ _ _ => ?_) _ ?_ | with_reducible refine ite_fit (fun _ => ?_) (fun _ => ?_) | with_reducible refine whenS_fit _ _ _ (fun _ _ => ?_) ?_ | with_reducible refine State.pushBytes_fit _ _ _ ?_ | with_reducible refine State.pushEnd_fit _ _ ?_ | with_reducible refine State.pushTail_fit _ _ _ ?_ | split)

theorem execI2cIdleTimeout_fit (s : State) (hF : s.Fit) : (after1 (execI2cIdleTimeout ) s).Fit := 
  fit_of_hide (execI2cIdleTimeout_frame 35184372086767 (by decide) _).symm hF

theorem State.slotsLost_fit (n : Nat) (s : State) (hF : s.Fit) : (State.slotsLost n s).Fit := 
  fit_of_hide (State.slotsLost_frame 35184372086767 (by decide) _ _).symm hF

theorem State.idleSlots_fit (x : Nat) (s : State) (hF : s.Fit) : (State.idleSlots x s).Fit := 
  fit_of_hide (State.idleSlots_frame 35184372086767 (by decide) _ _).symm hF

theorem State.pmcLate_fit (s : State) (hF : s.Fit) : (State.pmcLate s).Fit := by
  unfold State.pmcLate
  repeat' (first | with_reducible assumption | simp only [fit_mk, fit_eta] | with_reducible refine foldS_fit _ _ (fun _ _ _ => ?_) _ ?_ | with_reducible refine foldl_fit _ _ (fun _ _ _ => ?_) _ ?_ | with_reducible refine ite_fit (fun _ => ?_) (fun _ => ?_) | with_reducible refine whenS_fit _ _ _ (fun _ _ => ?_) ?_ | with_reducible refine State.pmcSamples_fit _ _ _ ?_ | split)

theorem State.legacyWindow_fit (s : State) (hF : s.Fit) : (State.legacyWindow s).Fit := by
  unfold State.legacyWindow
  repeat' (first | with_reducible assumption | simp only [fit_mk, fit_eta] | with_reducible refine foldS_fit _ _ (fun _ _ _ => ?_) _ ?_ | with_reducible refine foldl_fit _ _ (fun _ _ _ => ?_) _ ?_ | with_reducible refine ite_fit (fun _ => ?_) (fun _ => ?_) | with_reducible refine whenS_fit _ _ _ (fun _ _ => ?_) ?_ | with_reducible refine State.legacyEnd_fit _ _ ?_ | split)

theorem State.frameEnd_fit (i : FrameInputs) (s : State) (hF : s.Fit) : (State.frameEnd i s).Fit := by
  unfold State.frameEnd
  repeat' (first | with_reducible assumption | simp only [fit_mk, fit_eta] | with_reducible refine foldS_fit _ _ (fun _ _ _ => ?_) _ ?_ | with_reducible refine foldl_fit _ _ (fun _ _ _ => ?_) _ ?_ | with_reducible refine ite_fit (fun _ => ?_) (fun _ => ?_) | with_reducible refine whenS_fit _ _ _ (fun _ _ => ?_) ?_ | with_reducible refine State.addUpsets_fit _ _ ?_ | with_reducible refine State.confFinish_fit _ ?_ | with_reducible refine State.idleSlots_fit _ _ ?_ | with_reducible refine State.legacyWindow_fit _ ?_ | with_reducible refine State.outRow_fit _ _ ?_ | with_reducible refine State.pmcLate_fit _ ?_ | with_reducible refine State.portOp_fit _ _ ?_ | with_reducible refine State.raise_fit _ _ _ _ _ ?_ | with_reducible refine State.storySecond_fit _ _ ?_ | with_reducible refine State.subTicksPass_fit _ _ ?_ | split)

theorem State.rebase_fit (delta : Word) (s : State) (hF : s.Fit) : (State.rebase delta s).Fit := 
  fit_of_hide (State.rebase_frame 35184372086767 (by decide) _ _).symm hF

theorem State.epochApply_fit (e : Word) (s : State) (hF : s.Fit) : (State.epochApply e s).Fit := by
  unfold State.epochApply
  repeat' (first | with_reducible assumption | simp only [fit_mk, fit_eta] | with_reducible refine foldS_fit _ _ (fun _ _ _ => ?_) _ ?_ | with_reducible refine foldl_fit _ _ (fun _ _ _ => ?_) _ ?_ | with_reducible refine ite_fit (fun _ => ?_) (fun _ => ?_) | with_reducible refine whenS_fit _ _ _ (fun _ _ => ?_) ?_ | with_reducible refine State.raise_fit _ _ _ _ _ ?_ | with_reducible refine State.rebase_fit _ _ ?_ | split)

theorem State.originApply_fit (s : State) (hF : s.Fit) : (State.originApply s).Fit := 
  fit_of_hide (State.originApply_frame 35184372086767 (by decide) _).symm hF

theorem State.countOn_fit (s : State) (hF : s.Fit) : (State.countOn s).Fit := by
  unfold State.countOn
  repeat' (first | with_reducible assumption | simp only [fit_mk, fit_eta] | with_reducible refine foldS_fit _ _ (fun _ _ _ => ?_) _ ?_ | with_reducible refine foldl_fit _ _ (fun _ _ _ => ?_) _ ?_ | with_reducible refine ite_fit (fun _ => ?_) (fun _ => ?_) | with_reducible refine whenS_fit _ _ _ (fun _ _ => ?_) ?_ | with_reducible refine State.epochApply_fit _ _ ?_ | with_reducible refine State.newSecond_fit _ ?_ | with_reducible refine State.originApply_fit _ ?_ | split)

theorem State.copyTicks_fit (s : State) (hF : s.Fit) : (State.copyTicks s).Fit := by
  unfold State.copyTicks
  repeat' (first | with_reducible assumption | simp only [fit_mk, fit_eta] | with_reducible refine foldS_fit _ _ (fun _ _ _ => ?_) _ ?_ | with_reducible refine foldl_fit _ _ (fun _ _ _ => ?_) _ ?_ | with_reducible refine ite_fit (fun _ => ?_) (fun _ => ?_) | with_reducible refine whenS_fit _ _ _ (fun _ _ => ?_) ?_ | with_reducible refine State.cnfCopyTick_fit _ ?_ | with_reducible refine State.tswCopyTick_fit _ ?_ | with_reducible refine State.xcCopyDone_fit _ ?_ | split)

theorem State.leasesOn_fit (s : State) (hF : s.Fit) : (State.leasesOn s).Fit := 
  fit_of_hide (State.leasesOn_frame 35184372086767 (by decide) _).symm hF

theorem State.leasesEnd_fit (s : State) (hF : s.Fit) : (State.leasesEnd s).Fit := by
  unfold State.leasesEnd
  repeat' (first | with_reducible assumption | simp only [fit_mk, fit_eta] | with_reducible refine foldS_fit _ _ (fun _ _ _ => ?_) _ ?_ | with_reducible refine foldl_fit _ _ (fun _ _ _ => ?_) _ ?_ | with_reducible refine ite_fit (fun _ => ?_) (fun _ => ?_) | with_reducible refine whenS_fit _ _ _ (fun _ _ => ?_) ?_ | with_reducible refine State.leaseTest_fit _ _ ?_ | split)

theorem State.dueWork_fit (s : State) (hF : s.Fit) : (State.dueWork s).Fit := by
  unfold State.dueWork
  repeat' (first | with_reducible assumption | simp only [fit_mk, fit_eta] | with_reducible refine foldS_fit _ _ (fun _ _ _ => ?_) _ ?_ | with_reducible refine foldl_fit _ _ (fun _ _ _ => ?_) _ ?_ | with_reducible refine ite_fit (fun _ => ?_) (fun _ => ?_) | with_reducible refine whenS_fit _ _ _ (fun _ _ => ?_) ?_ | with_reducible refine State.leasesEnd_fit _ ?_ | with_reducible refine State.outSend_fit _ _ ?_ | with_reducible refine State.protJudge_fit _ ?_ | with_reducible refine State.runSteps_fit _ _ _ ?_ | split)

theorem State.xcFollow_fit (old s : State) (hF : s.Fit) : (State.xcFollow old s).Fit := by
  unfold State.xcFollow
  repeat' (first | with_reducible assumption | simp only [fit_mk, fit_eta] | with_reducible refine foldS_fit _ _ (fun _ _ _ => ?_) _ ?_ | with_reducible refine foldl_fit _ _ (fun _ _ _ => ?_) _ ?_ | with_reducible refine ite_fit (fun _ => ?_) (fun _ => ?_) | with_reducible refine whenS_fit _ _ _ (fun _ _ => ?_) ?_ | with_reducible refine State.xcCheck_fit _ ?_ | split)

theorem State.settings_fit (old : State) (s : State) (hF : s.Fit) : (State.settings old s).Fit := by
  unfold State.settings
  repeat' (first | with_reducible assumption | simp only [fit_mk, fit_eta] | with_reducible refine foldS_fit _ _ (fun _ _ _ => ?_) _ ?_ | with_reducible refine foldl_fit _ _ (fun _ _ _ => ?_) _ ?_ | with_reducible refine ite_fit (fun _ => ?_) (fun _ => ?_) | with_reducible refine whenS_fit _ _ _ (fun _ _ => ?_) ?_ | with_reducible refine State.enBoundary_fit _ _ ?_ | with_reducible refine State.hwyApply_fit _ _ ?_ | with_reducible refine State.ofsBoundary_fit _ ?_ | with_reducible refine State.stpHold_fit _ ?_ | with_reducible refine State.structBoundary_fit _ ?_ | with_reducible refine State.xcFollow_fit _ _ ?_ | split)

theorem State.clocks_fit (phaseErr : Int) (s : State) (hF : s.Fit) : (State.clocks phaseErr s).Fit := by
  unfold State.clocks
  repeat' (first | with_reducible assumption | simp only [fit_mk, fit_eta] | with_reducible refine foldS_fit _ _ (fun _ _ _ => ?_) _ ?_ | with_reducible refine foldl_fit _ _ (fun _ _ _ => ?_) _ ?_ | with_reducible refine ite_fit (fun _ => ?_) (fun _ => ?_) | with_reducible refine whenS_fit _ _ _ (fun _ _ => ?_) ?_ | with_reducible refine State.dpllBoundary_fit _ _ ?_ | with_reducible refine State.qlUpdate_fit _ ?_ | with_reducible refine State.refBoundary_fit _ _ ?_ | with_reducible refine State.refoutBoundary_fit _ _ ?_ | with_reducible refine State.selBoundary_fit _ ?_ | split)

theorem State.darkPorts_fit (s : State) (hF : s.Fit) : (State.darkPorts s).Fit := by
  unfold State.darkPorts
  repeat' (first | with_reducible assumption | simp only [fit_mk, fit_eta] | with_reducible refine foldS_fit _ _ (fun _ _ _ => ?_) _ ?_ | with_reducible refine foldl_fit _ _ (fun _ _ _ => ?_) _ ?_ | with_reducible refine ite_fit (fun _ => ?_) (fun _ => ?_) | with_reducible refine whenS_fit _ _ _ (fun _ _ => ?_) ?_ | with_reducible refine State.lostFrame_fit _ _ ?_ | with_reducible refine State.protMoves_fit _ _ ?_ | split)

theorem State.tribsTake_fit (s : State) (hF : s.Fit) : (State.tribsTake s).Fit := by
  unfold State.tribsTake
  repeat' (first | with_reducible assumption | simp only [fit_mk, fit_eta] | with_reducible refine foldS_fit _ _ (fun _ _ _ => ?_) _ ?_ | with_reducible refine foldl_fit _ _ (fun _ _ _ => ?_) _ ?_ | with_reducible refine ite_fit (fun _ => ?_) (fun _ => ?_) | with_reducible refine whenS_fit _ _ _ (fun _ _ => ?_) ?_ | with_reducible refine State.tribLo_fit _ _ ?_ | with_reducible refine State.tribSig_fit _ _ ?_ | with_reducible refine State.tribTake_fit _ _ ?_ | split)

theorem State.playRows_fit (s : State) (hF : s.Fit) : (State.playRows s).2.Fit := by
  unfold State.playRows
  exact foldl_snd_fit _ _ (fun a e ha => by
    dsimp only
    split
    · exact State.setStrm_fit _ _ _ (State.stageRead_fit _ _ _ ha)
    · exact ha) _ hF

theorem State.inputFrame_fit (s : State) (hF : s.Fit) : (State.inputFrame s).Fit := by
  unfold State.inputFrame
  repeat' (first | with_reducible assumption | simp only [fit_mk, fit_eta] | with_reducible refine foldS_fit _ _ (fun _ _ _ => ?_) _ ?_ | with_reducible refine foldl_fit _ _ (fun _ _ _ => ?_) _ ?_ | with_reducible refine ite_fit (fun _ => ?_) (fun _ => ?_) | with_reducible refine whenS_fit _ _ _ (fun _ _ => ?_) ?_ | with_reducible refine State.playRows_fit _ ?_ | split)

theorem State.tribsSend_fit (s : State) (hF : s.Fit) : (State.tribsSend s).Fit := by
  unfold State.tribsSend
  repeat' (first | with_reducible assumption | simp only [fit_mk, fit_eta] | with_reducible refine foldS_fit _ _ (fun _ _ _ => ?_) _ ?_ | with_reducible refine foldl_fit _ _ (fun _ _ _ => ?_) _ ?_ | with_reducible refine ite_fit (fun _ => ?_) (fun _ => ?_) | with_reducible refine whenS_fit _ _ _ (fun _ _ => ?_) ?_ | with_reducible refine State.loTx_fit _ _ ?_ | with_reducible refine State.tribBridge_fit _ ?_ | with_reducible refine State.tribTx_fit _ _ _ ?_ | split)

theorem State.hwysSend_fit (s : State) (hF : s.Fit) : (State.hwysSend s).Fit := by
  unfold State.hwysSend
  repeat' (first | with_reducible assumption | simp only [fit_mk, fit_eta] | with_reducible refine foldS_fit _ _ (fun _ _ _ => ?_) _ ?_ | with_reducible refine foldl_fit _ _ (fun _ _ _ => ?_) _ ?_ | with_reducible refine ite_fit (fun _ => ?_) (fun _ => ?_) | with_reducible refine whenS_fit _ _ _ (fun _ _ => ?_) ?_ | with_reducible refine State.hwyTx_fit _ _ _ ?_ | split)

theorem State.lastStep_fit (s : State) (hF : s.Fit) : (State.lastStep s).Fit := by
  unfold State.lastStep
  repeat' (first | with_reducible assumption | simp only [fit_mk, fit_eta] | with_reducible refine foldS_fit _ _ (fun _ _ _ => ?_) _ ?_ | with_reducible refine foldl_fit _ _ (fun _ _ _ => ?_) _ ?_ | with_reducible refine ite_fit (fun _ => ?_) (fun _ => ?_) | with_reducible refine whenS_fit _ _ _ (fun _ _ => ?_) ?_ | with_reducible refine State.cnfChanges_fit _ _ ?_ | with_reducible refine State.runSteps_fit _ _ _ ?_ | with_reducible refine State.xcFollow_fit _ _ ?_ | split)

theorem State.dataFrame_fit (s : State) (hF : s.Fit) : (State.dataFrame s).Fit := by
  unfold State.dataFrame
  repeat' (first | with_reducible assumption | simp only [fit_mk, fit_eta] | with_reducible refine foldS_fit _ _ (fun _ _ _ => ?_) _ ?_ | with_reducible refine foldl_fit _ _ (fun _ _ _ => ?_) _ ?_ | with_reducible refine ite_fit (fun _ => ?_) (fun _ => ?_) | with_reducible refine whenS_fit _ _ _ (fun _ _ => ?_) ?_ | with_reducible refine State.darkPorts_fit _ ?_ | with_reducible refine State.flipFrame_fit _ _ ?_ | with_reducible refine State.hwyTake_fit _ _ ?_ | with_reducible refine State.hwysSend_fit _ ?_ | with_reducible refine State.inputFrame_fit _ ?_ | with_reducible refine State.lastStep_fit _ ?_ | with_reducible refine State.loSweep_fit _ ?_ | with_reducible refine State.mapperFrame_fit _ ?_ | with_reducible refine State.mapperSinks_fit _ ?_ | with_reducible refine State.readPass_fit _ ?_ | with_reducible refine State.speakerBoundary_fit _ ?_ | with_reducible refine State.tribsSend_fit _ ?_ | with_reducible refine State.tribsTake_fit _ ?_ | split)

theorem State.waitsOn_fit (s : State) (hF : s.Fit) : (State.waitsOn s).Fit := 
  fit_of_hide (State.waitsOn_frame 35184372086767 (by decide) _).symm hF

theorem State.frameRest_fit (s : State) (hF : s.Fit) : (State.frameRest s).Fit := by
  unfold State.frameRest
  repeat' (first | with_reducible assumption | simp only [fit_mk, fit_eta] | with_reducible refine foldS_fit _ _ (fun _ _ _ => ?_) _ ?_ | with_reducible refine foldl_fit _ _ (fun _ _ _ => ?_) _ ?_ | with_reducible refine ite_fit (fun _ => ?_) (fun _ => ?_) | with_reducible refine whenS_fit _ _ _ (fun _ _ => ?_) ?_ | with_reducible refine State.fencesMet_fit _ ?_ | with_reducible refine State.fifoStep_fit _ ?_ | with_reducible refine State.pruneFailed_fit _ ?_ | with_reducible refine State.serveHeads_fit _ ?_ | with_reducible refine State.sweepEnd_fit _ ?_ | with_reducible refine State.waitsOn_fit _ ?_ | split)

theorem State.frameBoundary_fit (i : FrameInputs) (s : State) (hF : s.Fit) : (State.frameBoundary i s).Fit := by
  unfold State.frameBoundary
  repeat' (first | with_reducible assumption | simp only [fit_mk, fit_eta] | with_reducible refine foldS_fit _ _ (fun _ _ _ => ?_) _ ?_ | with_reducible refine foldl_fit _ _ (fun _ _ _ => ?_) _ ?_ | with_reducible refine ite_fit (fun _ => ?_) (fun _ => ?_) | with_reducible refine whenS_fit _ _ _ (fun _ _ => ?_) ?_ | with_reducible refine State.addUpsets_fit _ _ ?_ | with_reducible refine State.clocks_fit _ _ ?_ | with_reducible refine State.cnfChanges_fit _ _ ?_ | with_reducible refine State.confTurn_fit _ ?_ | with_reducible refine State.copyTicks_fit _ ?_ | with_reducible refine State.countOn_fit _ ?_ | with_reducible refine State.dataFrame_fit _ ?_ | with_reducible refine State.dueWork_fit _ ?_ | with_reducible refine State.frameEnd_fit _ _ ?_ | with_reducible refine State.frameRest_fit _ ?_ | with_reducible refine State.lateErrors_fit _ _ ?_ | with_reducible refine State.leasesOn_fit _ ?_ | with_reducible refine State.protTick_fit _ ?_ | with_reducible refine State.settings_fit _ _ ?_ | with_reducible refine State.tswTurn_fit _ ?_ | split)

theorem execFrameBoundary_fit (i : FrameInputs) (s : State) (hF : s.Fit) : (after1 (execFrameBoundary i) s).Fit := by
  unfold after1 execFrameBoundary
  repeat' (first | with_reducible assumption | simp only [fit_mk, fit_eta] | with_reducible refine foldS_fit _ _ (fun _ _ _ => ?_) _ ?_ | with_reducible refine foldl_fit _ _ (fun _ _ _ => ?_) _ ?_ | with_reducible refine ite_fit (fun _ => ?_) (fun _ => ?_) | with_reducible refine whenS_fit _ _ _ (fun _ _ => ?_) ?_ | with_reducible refine State.frameBoundary_fit _ _ ?_ | split)

theorem State.stpWrite_fit (o : Nat) (v : Word) (s : State) (hF : s.Fit) : (State.stpWrite o v s).Fit := by
  unfold State.stpWrite
  repeat' (first | with_reducible assumption | simp only [fit_mk, fit_eta] | with_reducible refine foldS_fit _ _ (fun _ _ _ => ?_) _ ?_ | with_reducible refine foldl_fit _ _ (fun _ _ _ => ?_) _ ?_ | with_reducible refine ite_fit (fun _ => ?_) (fun _ => ?_) | with_reducible refine whenS_fit _ _ _ (fun _ _ => ?_) ?_ | with_reducible refine State.dpllCfgWrite_fit _ _ ?_ | with_reducible refine State.epochWrite_fit _ _ ?_ | with_reducible refine State.offsetWrite_fit _ _ _ ?_ | with_reducible refine State.originWrite_fit _ _ ?_ | with_reducible refine State.refoutWrite_fit _ _ _ ?_ | with_reducible refine State.regWrite_fit _ _ _ ?_ | with_reducible refine State.setTimer_fit _ _ _ ?_ | with_reducible refine State.tmrArm_fit _ _ ?_ | with_reducible refine State.tmrDisarm_fit _ _ ?_ | with_reducible refine State.tmrWrite_fit _ _ _ ?_ | split)

theorem State.ringWrite_fit (o : Nat) (v : Word) (s : State) (hF : s.Fit) : (State.ringWrite o v s).Fit := by
  unfold State.ringWrite
  repeat' (first | with_reducible assumption | simp only [fit_mk, fit_eta] | with_reducible refine foldS_fit _ _ (fun _ _ _ => ?_) _ ?_ | with_reducible refine foldl_fit _ _ (fun _ _ _ => ?_) _ ?_ | with_reducible refine ite_fit (fun _ => ?_) (fun _ => ?_) | with_reducible refine whenS_fit _ _ _ (fun _ _ => ?_) ?_ | with_reducible refine State.rcfgWrite_fit _ _ _ _ ?_ | with_reducible refine State.ringReset_fit _ _ _ ?_ | with_reducible refine State.setRing_fit _ _ _ _ ?_ | split)

theorem State.vecWrite_fit (i r : Nat) (v : Word) (s : State) (hF : s.Fit) : (State.vecWrite i r v s).Fit := by
  unfold State.vecWrite
  repeat' (first | with_reducible assumption | simp only [fit_mk, fit_eta] | with_reducible refine foldS_fit _ _ (fun _ _ _ => ?_) _ ?_ | with_reducible refine foldl_fit _ _ (fun _ _ _ => ?_) _ ?_ | with_reducible refine ite_fit (fun _ => ?_) (fun _ => ?_) | with_reducible refine whenS_fit _ _ _ (fun _ _ => ?_) ?_ | with_reducible refine State.flushVecs_fit _ ?_ | split)

theorem State.msixWrite_fit (o : Nat) (v : Word) (s : State) (hF : s.Fit) : (State.msixWrite o v s).Fit := by
  unfold State.msixWrite
  repeat' (first | with_reducible assumption | simp only [fit_mk, fit_eta] | with_reducible refine foldS_fit _ _ (fun _ _ _ => ?_) _ ?_ | with_reducible refine foldl_fit _ _ (fun _ _ _ => ?_) _ ?_ | with_reducible refine ite_fit (fun _ => ?_) (fun _ => ?_) | with_reducible refine whenS_fit _ _ _ (fun _ _ => ?_) ?_ | with_reducible refine State.vecWrite_fit _ _ _ _ ?_ | split)

theorem State.hifWrite_fit (o : Nat) (v : Word) (s : State) (hF : s.Fit) : (State.hifWrite o v s).Fit := by
  unfold State.hifWrite
  repeat' (first | with_reducible assumption | simp only [fit_mk, fit_eta] | with_reducible refine foldS_fit _ _ (fun _ _ _ => ?_) _ ?_ | with_reducible refine foldl_fit _ _ (fun _ _ _ => ?_) _ ?_ | with_reducible refine ite_fit (fun _ => ?_) (fun _ => ?_) | with_reducible refine whenS_fit _ _ _ (fun _ _ => ?_) ?_ | with_reducible refine State.msixWrite_fit _ _ _ ?_ | with_reducible refine State.regWrite_fit _ _ _ ?_ | with_reducible refine State.ringWrite_fit _ _ _ ?_ | split)

theorem State.errPinWrite_fit (v : Word) (s : State) (hF : s.Fit) : (State.errPinWrite v s).Fit := 
  fit_of_hide (State.errPinWrite_frame 35184372086767 (by decide) _ _).symm hF

theorem State.causeClear_fit (w : Nat) (v : Word) (s : State) (hF : s.Fit) : (State.causeClear w v s).Fit := 
  fit_of_hide (State.causeClear_frame 35184372086767 (by decide) _ _ _).symm hF

theorem State.fltWrite_fit (o : Nat) (v : Word) (s : State) (hF : s.Fit) : (State.fltWrite o v s).Fit := by
  unfold State.fltWrite
  repeat' (first | with_reducible assumption | simp only [fit_mk, fit_eta] | with_reducible refine foldS_fit _ _ (fun _ _ _ => ?_) _ ?_ | with_reducible refine foldl_fit _ _ (fun _ _ _ => ?_) _ ?_ | with_reducible refine ite_fit (fun _ => ?_) (fun _ => ?_) | with_reducible refine whenS_fit _ _ _ (fun _ _ => ?_) ?_ | with_reducible refine State.causeClear_fit _ _ _ ?_ | with_reducible refine State.clrFatal_fit _ ?_ | with_reducible refine State.errPinWrite_fit _ _ ?_ | with_reducible refine State.fltTouched_fit _ ?_ | with_reducible refine State.injCtl_fit _ _ ?_ | with_reducible refine State.injUnlock_fit _ _ ?_ | with_reducible refine State.reactWrite_fit _ _ ?_ | with_reducible refine State.regWrite_fit _ _ _ ?_ | split)

theorem State.logRegWrite_fit (o : Nat) (v : Word) (s : State) (hF : s.Fit) : (State.logRegWrite o v s).Fit := 
  fit_of_hide (State.logRegWrite_frame 35184372086767 (by decide) _ _ _).symm hF

theorem State.pmcWrite_fit (o : Nat) (v : Word) (s : State) (hF : s.Fit) : (State.pmcWrite o v s).Fit := 
  fit_of_hide (State.pmcWrite_frame 35184372086767 (by decide) _ _ _).symm hF

theorem State.lptWrite_fit (o : Nat) (v : Word) (s : State) (hF : s.Fit) : (State.lptWrite o v s).Fit := 
  fit_of_hide (State.lptWrite_frame 35184372086767 (by decide) _ _ _).symm hF

theorem State.trbWrite_fit (o : Nat) (v : Word) (s : State) (hF : s.Fit) : (State.trbWrite o v s).Fit := by
  unfold State.trbWrite
  repeat' (first | with_reducible assumption | simp only [fit_mk, fit_eta] | with_reducible refine foldS_fit _ _ (fun _ _ _ => ?_) _ ?_ | with_reducible refine foldl_fit _ _ (fun _ _ _ => ?_) _ ?_ | with_reducible refine ite_fit (fun _ => ?_) (fun _ => ?_) | with_reducible refine whenS_fit _ _ _ (fun _ _ => ?_) ?_ | with_reducible refine State.putTrib_fit _ _ _ ?_ | with_reducible refine State.regWrite_fit _ _ _ ?_ | split)

theorem State.hwyRegWrite_fit (o : Nat) (v : Word) (s : State) (hF : s.Fit) : (State.hwyRegWrite o v s).Fit := by
  unfold State.hwyRegWrite
  repeat' (first | with_reducible assumption | simp only [fit_mk, fit_eta] | with_reducible refine foldS_fit _ _ (fun _ _ _ => ?_) _ ?_ | with_reducible refine foldl_fit _ _ (fun _ _ _ => ?_) _ ?_ | with_reducible refine ite_fit (fun _ => ?_) (fun _ => ?_) | with_reducible refine whenS_fit _ _ _ (fun _ _ => ?_) ?_ | with_reducible refine State.hwyGroupWrite_fit _ _ _ ?_ | with_reducible refine State.modHwy_fit _ _ _ ?_ | with_reducible refine State.regWrite_fit _ _ _ ?_ | split)

theorem State.strWrite_fit (o : Nat) (v : Word) (s : State) (hF : s.Fit) : (State.strWrite o v s).Fit := 
  fit_of_hide (State.strWrite_frame 35184372086767 (by decide) _ _ _).symm hF

theorem State.gfpWrite_fit (o : Nat) (v : Word) (s : State) (hF : s.Fit) : (State.gfpWrite o v s).Fit := 
  fit_of_hide (State.gfpWrite_frame 35184372086767 (by decide) _ _ _).symm hF

theorem State.mgtWrite_fit (o : Nat) (v : Word) (s : State) (hF : s.Fit) : (State.mgtWrite o v s).Fit := 
  fit_of_hide (State.mgtWrite_frame 35184372086767 (by decide) _ _ _).symm hF

theorem State.gpioWrite_fit (dir : Bool) (v : Word) (s : State) (hF : s.Fit) : (State.gpioWrite dir v s).Fit := 
  fit_of_hide (State.gpioWrite_frame 35184372086767 (by decide) _ _ _).symm hF

theorem State.pinWrite_fit (o : Nat) (v : Word) (s : State) (hF : s.Fit) : (State.pinWrite o v s).Fit := by
  unfold State.pinWrite
  repeat' (first | with_reducible assumption | simp only [fit_mk, fit_eta] | with_reducible refine foldS_fit _ _ (fun _ _ _ => ?_) _ ?_ | with_reducible refine foldl_fit _ _ (fun _ _ _ => ?_) _ ?_ | with_reducible refine ite_fit (fun _ => ?_) (fun _ => ?_) | with_reducible refine whenS_fit _ _ _ (fun _ _ => ?_) ?_ | with_reducible refine State.altCfgWrite_fit _ _ _ ?_ | with_reducible refine State.captCfgWrite_fit _ _ _ ?_ | with_reducible refine State.gpioWrite_fit _ _ _ ?_ | with_reducible refine State.regWrite_fit _ _ _ ?_ | with_reducible refine State.setCapt_fit _ _ _ ?_ | split)

theorem State.busWrite_fit (o : Nat) (v : Word) (s : State) (hF : s.Fit) : (State.busWrite o v s).Fit := 
  fit_of_hide (State.busWrite_frame 35184372086767 (by decide) _ _ _).symm hF

theorem State.bootWrite_fit (o : Nat) (v : Word) (s : State) (hF : s.Fit) : (State.bootWrite o v s).Fit := by
  unfold State.bootWrite
  repeat' (first | with_reducible assumption | simp only [fit_mk, fit_eta] | with_reducible refine foldS_fit _ _ (fun _ _ _ => ?_) _ ?_ | with_reducible refine foldl_fit _ _ (fun _ _ _ => ?_) _ ?_ | with_reducible refine ite_fit (fun _ => ?_) (fun _ => ?_) | with_reducible refine whenS_fit _ _ _ (fun _ _ => ?_) ?_ | with_reducible refine State.pushBytes_fit _ _ _ ?_ | with_reducible refine State.pushEnd_fit _ _ ?_ | with_reducible refine State.pushTail_fit _ _ _ ?_ | split)

theorem State.writeWord_fit (o : Nat) (v : Word) (s : State) (hF : s.Fit) : (State.writeWord o v s).Fit := by
  unfold State.writeWord
  repeat' (first | with_reducible assumption | simp only [fit_mk, fit_eta] | with_reducible refine foldS_fit _ _ (fun _ _ _ => ?_) _ ?_ | with_reducible refine foldl_fit _ _ (fun _ _ _ => ?_) _ ?_ | with_reducible refine ite_fit (fun _ => ?_) (fun _ => ?_) | with_reducible refine whenS_fit _ _ _ (fun _ _ => ?_) ?_ | with_reducible refine State.bootWrite_fit _ _ _ ?_ | with_reducible refine State.busWrite_fit _ _ _ ?_ | with_reducible refine State.fltWrite_fit _ _ _ ?_ | with_reducible refine State.gfpWrite_fit _ _ _ ?_ | with_reducible refine State.hifWrite_fit _ _ _ ?_ | with_reducible refine State.hwyRegWrite_fit _ _ _ ?_ | with_reducible refine State.logRegWrite_fit _ _ _ ?_ | with_reducible refine State.lptWrite_fit _ _ _ ?_ | with_reducible refine State.mgtWrite_fit _ _ _ ?_ | with_reducible refine State.pinWrite_fit _ _ _ ?_ | with_reducible refine State.pmcWrite_fit _ _ _ ?_ | with_reducible refine State.regWrite_fit _ _ _ ?_ | with_reducible refine State.rstctl_fit _ _ ?_ | with_reducible refine State.stpWrite_fit _ _ _ ?_ | with_reducible refine State.strWrite_fit _ _ _ ?_ | with_reducible refine State.structWrite_fit _ _ _ _ ?_ | with_reducible refine State.trbWrite_fit _ _ _ ?_ | split)

theorem State.writeReg_fit (o bytes : Nat) (v : DWord) (s : State) (hF : s.Fit) : (State.writeReg o bytes v s).Fit := by
  unfold State.writeReg
  repeat' (first | with_reducible assumption | simp only [fit_mk, fit_eta] | with_reducible refine foldS_fit _ _ (fun _ _ _ => ?_) _ ?_ | with_reducible refine foldl_fit _ _ (fun _ _ _ => ?_) _ ?_ | with_reducible refine ite_fit (fun _ => ?_) (fun _ => ?_) | with_reducible refine whenS_fit _ _ _ (fun _ _ => ?_) ?_ | with_reducible refine State.pmcPreset_fit _ _ _ ?_ | with_reducible refine State.writeWord_fit _ _ _ ?_ | split)

theorem execRegisterWrite_fit (o bytes : Nat) (v : DWord) (s : State) (hF : s.Fit) : (after1 (execRegisterWrite o bytes v) s).Fit := by
  unfold after1 execRegisterWrite
  repeat' (first | with_reducible assumption | simp only [fit_mk, fit_eta] | with_reducible refine foldS_fit _ _ (fun _ _ _ => ?_) _ ?_ | with_reducible refine foldl_fit _ _ (fun _ _ _ => ?_) _ ?_ | with_reducible refine ite_fit (fun _ => ?_) (fun _ => ?_) | with_reducible refine whenS_fit _ _ _ (fun _ _ => ?_) ?_ | with_reducible refine State.writeReg_fit _ _ _ _ ?_ | split)

theorem execResourceRegisterClaim_fit (r : ClaimReg) (v : Word) (s : State) (hF : s.Fit) : (after1 (execResourceRegisterClaim r v) s).Fit := by
  unfold after1 execResourceRegisterClaim
  repeat' (first | with_reducible assumption | simp only [fit_mk, fit_eta] | with_reducible refine foldS_fit _ _ (fun _ _ _ => ?_) _ ?_ | with_reducible refine foldl_fit _ _ (fun _ _ _ => ?_) _ ?_ | with_reducible refine ite_fit (fun _ => ?_) (fun _ => ?_) | with_reducible refine whenS_fit _ _ _ (fun _ _ => ?_) ?_ | with_reducible refine State.altCfgWrite_fit _ _ _ ?_ | with_reducible refine State.captCfgWrite_fit _ _ _ ?_ | with_reducible refine State.hwyGroupWrite_fit _ _ _ ?_ | with_reducible refine State.refoutWrite_fit _ _ _ ?_ | with_reducible refine State.tmrWrite_fit _ _ _ ?_ | split)

theorem State.readEffect_fit (o bytes : Nat) (s : State) (hF : s.Fit) : (State.readEffect o bytes s).Fit := by
  unfold State.readEffect
  repeat' (first | with_reducible assumption | simp only [fit_mk, fit_eta] | with_reducible refine foldS_fit _ _ (fun _ _ _ => ?_) _ ?_ | with_reducible refine foldl_fit _ _ (fun _ _ _ => ?_) _ ?_ | with_reducible refine ite_fit (fun _ => ?_) (fun _ => ?_) | with_reducible refine whenS_fit _ _ _ (fun _ _ => ?_) ?_ | with_reducible refine State.captRead_fit _ _ ?_ | with_reducible refine State.readFinds_fit _ _ ?_ | split)

theorem State.i2cWrite_fit (n o : Nat) (b : List Byte) (s : State) (hF : s.Fit) : (State.i2cWrite n o b s).2.Fit := by
  induction n generalizing o b s with
  | zero => exact hF
  | succ n ih =>
    unfold State.i2cWrite
    split
    · exact hF
    · exact ih _ _ _ (State.i2cWord_fit _ _ _ hF)

theorem execI2cTransaction_fit (x : I2c) (s : State) (hF : s.Fit) : (after1 (execI2cTransaction x) s).Fit := by
  unfold after1 execI2cTransaction
  dsimp only
  split
  · exact State.i2cWrite_fit _ _ _ _ hF
  · exact hF

theorem State.hostEvents_fit (s : State) (hF : s.Fit) : (State.hostEvents s).Fit := by
  unfold State.hostEvents
  repeat' (first | with_reducible assumption | simp only [fit_mk, fit_eta] | with_reducible refine foldS_fit _ _ (fun _ _ _ => ?_) _ ?_ | with_reducible refine foldl_fit _ _ (fun _ _ _ => ?_) _ ?_ | with_reducible refine ite_fit (fun _ => ?_) (fun _ => ?_) | with_reducible refine whenS_fit _ _ _ (fun _ _ => ?_) ?_ | with_reducible refine State.indexWriteback_fit _ _ _ ?_ | with_reducible refine execCeStall_fit _ _ ?_ | with_reducible refine execCompletionWrite_fit _ _ ?_ | split)

theorem State.confEvents_fit (s : State) (hF : s.Fit) : (State.confEvents s).Fit := by
  unfold State.confEvents
  repeat' (first | with_reducible assumption | simp only [fit_mk, fit_eta] | with_reducible refine foldS_fit _ _ (fun _ _ _ => ?_) _ ?_ | with_reducible refine foldl_fit _ _ (fun _ _ _ => ?_) _ ?_ | with_reducible refine ite_fit (fun _ => ?_) (fun _ => ?_) | with_reducible refine whenS_fit _ _ _ (fun _ _ => ?_) ?_ | with_reducible refine execCollectorWindow_fit _ _ ?_ | with_reducible refine execLanePass_fit _ ?_ | with_reducible refine execSpeakerHoldoffExpiry_fit _ _ ?_ | split)

theorem State.groupEvents_fit (k : Nat) (s : State) (hF : s.Fit) : (State.groupEvents k s).Fit := by
  unfold State.groupEvents
  repeat' (first | with_reducible assumption | simp only [fit_mk, fit_eta] | with_reducible refine foldS_fit _ _ (fun _ _ _ => ?_) _ ?_ | with_reducible refine foldl_fit _ _ (fun _ _ _ => ?_) _ ?_ | with_reducible refine ite_fit (fun _ => ?_) (fun _ => ?_) | with_reducible refine whenS_fit _ _ _ (fun _ _ => ?_) ?_ | with_reducible refine State.protDecide_fit _ _ _ ?_ | with_reducible refine execHoldoffExpiry_fit _ _ _ _ ?_ | with_reducible refine execWtrExpiry_fit _ _ _ ?_ | split)

theorem State.protEvents_fit (s : State) (hF : s.Fit) : (State.protEvents s).Fit := by
  unfold State.protEvents
  repeat' (first | with_reducible assumption | simp only [fit_mk, fit_eta] | with_reducible refine foldS_fit _ _ (fun _ _ _ => ?_) _ ?_ | with_reducible refine foldl_fit _ _ (fun _ _ _ => ?_) _ ?_ | with_reducible refine ite_fit (fun _ => ?_) (fun _ => ?_) | with_reducible refine whenS_fit _ _ _ (fun _ _ => ?_) ?_ | with_reducible refine State.exerEnd_fit _ _ ?_ | with_reducible refine State.groupEvents_fit _ _ ?_ | with_reducible refine execK1Protocol_fit _ _ ?_ | split)

theorem State.clockEvents_fit (s : State) (hF : s.Fit) : (State.clockEvents s).Fit := by
  unfold State.clockEvents
  repeat' (first | with_reducible assumption | simp only [fit_mk, fit_eta] | with_reducible refine foldS_fit _ _ (fun _ _ _ => ?_) _ ?_ | with_reducible refine foldl_fit _ _ (fun _ _ _ => ?_) _ ?_ | with_reducible refine ite_fit (fun _ => ?_) (fun _ => ?_) | with_reducible refine whenS_fit _ _ _ (fun _ _ => ?_) ?_ | with_reducible refine execDpllLock_fit _ ?_ | with_reducible refine execHoldReady_fit _ ?_ | with_reducible refine execRefQual_fit _ _ _ ?_ | with_reducible refine execTmrFire_fit _ _ ?_ | split)

theorem State.unitEvents_fit (s : State) (hF : s.Fit) : (State.unitEvents s).Fit := by
  unfold State.unitEvents
  repeat' (first | with_reducible assumption | simp only [fit_mk, fit_eta] | with_reducible refine foldS_fit _ _ (fun _ _ _ => ?_) _ ?_ | with_reducible refine foldl_fit _ _ (fun _ _ _ => ?_) _ ?_ | with_reducible refine ite_fit (fun _ => ?_) (fun _ => ?_) | with_reducible refine whenS_fit _ _ _ (fun _ _ => ?_) ?_ | with_reducible refine State.cmacEnd_fit _ _ ?_ | with_reducible refine State.traceAccept_fit _ _ _ ?_ | with_reducible refine execCrc4None_fit _ _ ?_ | with_reducible refine execHwyFsLoss_fit _ _ ?_ | with_reducible refine execLofL_fit _ _ ?_ | with_reducible refine execRxTribFrame_fit _ _ _ ?_ | with_reducible refine execSigHoldoffExpiry_fit _ _ ?_ | with_reducible refine execTxLineFrame_fit _ _ _ ?_ | split)

theorem State.subTickOn_fit (s : State) (hF : s.Fit) : (State.subTickOn s).Fit := 
  fit_of_hide (State.subTickOn_frame 35184372086767 (by decide) _).symm hF

theorem State.subTick_fit (s : State) (hF : s.Fit) : (State.subTick s).Fit := by
  unfold State.subTick
  repeat' (first | with_reducible assumption | simp only [fit_mk, fit_eta] | with_reducible refine foldS_fit _ _ (fun _ _ _ => ?_) _ ?_ | with_reducible refine foldl_fit _ _ (fun _ _ _ => ?_) _ ?_ | with_reducible refine ite_fit (fun _ => ?_) (fun _ => ?_) | with_reducible refine whenS_fit _ _ _ (fun _ _ => ?_) ?_ | with_reducible refine State.frameBoundary_fit _ _ ?_ | with_reducible refine State.idleSlots_fit _ _ ?_ | with_reducible refine State.pmcLate_fit _ ?_ | with_reducible refine State.subTickOn_fit _ ?_ | split)

end Sys2Proof.Machine
end

