-- ==== Sys2Proof/Laws/Legal.lean ====
section
/-! SUPPORT. `State.Legal` through resets, the frame boundary and the device on its own. -/

namespace Sys2Proof.Machine

/-- What leaves the story pole's position leaves it legal. -/
theorem posOk_of_hide {s t : State} (h : t.hide 35184338534399 = s.hide 35184338534399) (hp : s.PosOk) : t.PosOk := by
  have h1 : t.stp.phase = s.stp.phase := pick_eq (W := 35184338534399) (m := 33554432) (0 : Nat) _ _ (by decide) (congrArg (fun x => x.stp.phase) h)
  have h2 : t.stp.sub = s.stp.sub := pick_eq (W := 35184338534399) (m := 33554432) (0 : Nat) _ _ (by decide) (congrArg (fun x => x.stp.sub) h)
  unfold State.PosOk
  rw [h1, h2]
  exact hp

theorem posOk_zero {s : State} (h1 : s.stp.phase = 0) (h2 : s.stp.sub = 0) : s.PosOk := by
  unfold State.PosOk
  rw [h1, h2]
  decide

/-! ### Resets -/

theorem State.release_legal (st : Straps) (last : Nat) (s : State) (h : s.Legal) : (s.release st last).Legal := by
  unfold State.release
  dsimp only
  split
  · exact ⟨posOk_of_hide (State.raise_frame 35184338534399 (by decide) _ _ _ _ _) h.1, State.raise_fit _ _ _ _ _ h.2⟩
  · exact h

theorem State.outside_reset_legal (s : State) (h : s.Legal) : (s.outside State.reset).Legal :=
  ⟨posOk_zero rfl rfl, h.2.1, Nat.zero_le _⟩

theorem State.resetN_legal (st : Straps) (s : State) (h : s.Legal) : (s.resetN st).Legal :=
  State.release_legal st 1 _ ⟨posOk_zero rfl rfl, h.2.1, Nat.zero_le _⟩

theorem State.warmReset_legal (st : Straps) (byReaction : Bool) (src kind : Nat) (s : State) (h : s.Legal) :
    (s.warmReset st byReaction src kind).Legal := by
  have hF : ∀ t : State, Memory.wf t.hostMem = true → t.flt.queue = [] → t.stp.phase = 0 → t.stp.sub = 0 → t.Legal :=
    fun t h1 h2 h3 h4 => ⟨posOk_zero h3 h4, h1, by rw [h2]; exact Nat.zero_le _⟩
  unfold State.warmReset
  refine State.release_legal _ _ _ ?_
  dsimp only
  split <;>
    exact ⟨posOk_of_hide (State.raise_frame 35184338534399 (by decide) _ _ _ _ _) (posOk_zero rfl rfl),
      State.raise_fit _ _ _ _ _ ⟨h.2.1, Nat.zero_le _⟩⟩

theorem execWarmChipRst_legal (st : Straps) (s : State) (h : s.Legal) : (after1 (execWarmChipRst st) s).Legal := by
  unfold after1 execWarmChipRst
  dsimp only
  split
  · exact h
  · exact State.warmReset_legal _ _ _ _ s h

/-- An operation that leaves the story pole and keeps `Fit` keeps `Legal`. -/
theorem legal_of {s t : State} (h : s.Legal) (e : t.hide 35184338534399 = s.hide 35184338534399) (f : s.Fit → t.Fit) : t.Legal :=
  ⟨posOk_of_hide e h.1, f h.2⟩

/-! ### The frame boundary and the device on its own -/

theorem State.countOn_posOk (s : State) : s.countOn.PosOk := by
  unfold State.countOn
  exact posOk_of_hide (whenS_frame _ _ _ _ (fun x => State.newSecond_frame 35184338534399 (by decide) x)) (posOk_zero rfl rfl)

theorem State.frameBoundary_legal (i : FrameInputs) (s : State) (h : s.Legal) : (s.frameBoundary i).Legal := by
  refine ⟨?_, State.frameBoundary_fit i s h.2⟩
  unfold State.frameBoundary
  refine posOk_of_hide ?_ (State.countOn_posOk (s.frameEnd i))
  simp only [State.lateErrors_frame, State.addUpsets_frame, State.frameRest_frame, State.dataFrame_frame, State.clocks_frame, State.settings_frame,
    State.cnfChanges_frame, State.dueWork_frame, State.leasesOn_frame, State.copyTicks_frame, State.protTick_frame,
    State.confTurn_frame, State.tswTurn_frame, Nat.reduceAnd, mk_leaf, State.hideU, Ce.hide, Glb.hide, Flt.hide, Hif.hide, Sec.hide,
    Stp.hide, pick, Nat.reduceEqDiff, reduceIte]

theorem State.subTickOn_legal (s : State) (h : s.Legal) (hn : s.stp.phase < 2429 ∨ s.stp.sub < 15) : s.subTickOn.Legal := by
  have hs : (s.subTicksPass 1).Legal :=
    ⟨posOk_of_hide (State.subTicksPass_frame 35184338534399 (by decide) _ _) h.1, State.subTicksPass_fit _ _ h.2⟩
  have hp : (s.subTicksPass 1).stp.phase = s.stp.phase ∧ (s.subTicksPass 1).stp.sub = s.stp.sub :=
    have e := State.subTicksPass_frame 35184338534399 (by decide) 1 s
    ⟨pick_eq (W := 35184338534399) (m := 33554432) (0 : Nat) _ _ (by decide) (congrArg (fun x => x.stp.phase) e),
     pick_eq (W := 35184338534399) (m := 33554432) (0 : Nat) _ _ (by decide) (congrArg (fun x => x.stp.sub) e)⟩
  unfold State.subTickOn
  dsimp only
  split
  · refine ⟨⟨hs.1.1, ?_⟩, hs.2⟩
    show (s.subTicksPass 1).stp.sub + 1 < 16
    omega
  · refine ⟨⟨?_, ?_⟩, hs.2⟩
    · show (s.subTicksPass 1).stp.phase + 1 < 2430
      omega
    · show (0 : Nat) < 16
      decide

theorem State.subTick_legal (s : State) (h : s.Legal) : s.subTick.Legal := by
  unfold State.subTick
  split
  · rename_i hn
    have e := State.idleSlots_frame 35184338534399 (by decide) (s.inFrame + 1) s
    have h0 : ((s.idleSlots (s.inFrame + 1)).subTickOn).Legal := by
      refine State.subTickOn_legal _ (legal_of h e (State.idleSlots_fit _ _)) ?_
      have h1 : (s.idleSlots (s.inFrame + 1)).stp.phase = s.stp.phase :=
        pick_eq (W := 35184338534399) (m := 33554432) (0 : Nat) _ _ (by decide) (congrArg (fun x => x.stp.phase) e)
      have h2 : (s.idleSlots (s.inFrame + 1)).stp.sub = s.stp.sub :=
        pick_eq (W := 35184338534399) (m := 33554432) (0 : Nat) _ _ (by decide) (congrArg (fun x => x.stp.sub) e)
      rw [h1, h2]
      exact hn
    exact legal_of h0 (State.pmcLate_frame 35184338534399 (by decide) _) (State.pmcLate_fit _)
  · exact State.frameBoundary_legal _ s h

theorem State.ownEvents_legal (s : State) (h : s.Legal) : s.ownEvents.Legal := by
  unfold State.ownEvents
  refine execWarmChipRst_legal _ _ ?_
  have h1 := legal_of h (State.storySecond_frame 35184338534399 (by decide) _ _) (State.storySecond_fit s.heldSample s)
  have h2 := legal_of h1 (execCalibration_frame 35184338534399 (by decide) _) (execCalibration_fit _)
  have h4 := legal_of h2 (execErrPinWidthExpiry_frame 35184338534399 (by decide) _) (execErrPinWidthExpiry_fit _)
  exact legal_of h4 (State.collectorTake_frame 35184338534399 (by decide) _) (State.collectorTake_fit _)

theorem State.tick_legal (s : State) (h : s.Legal) : s.tick.Legal := by
  unfold State.tick
  split
  · exact h
  · refine State.subTick_legal _ (State.ownEvents_legal _ ?_)
    have h1 := legal_of h (State.hostEvents_frame 35184338534399 (by decide) s) (State.hostEvents_fit s)
    have h2 := legal_of h1 (State.confEvents_frame 35184338534399 (by decide) _) (State.confEvents_fit _)
    have h3 := legal_of h2 (State.protEvents_frame 35184338534399 (by decide) _) (State.protEvents_fit _)
    have h4 := legal_of h3 (State.clockEvents_frame 35184338534399 (by decide) _) (State.clockEvents_fit _)
    exact legal_of h4 (State.unitEvents_frame 35184338534399 (by decide) _) (State.unitEvents_fit _)

end Sys2Proof.Machine
end

