-- ==== Sys2Proof/Laws/Line.lean ====
section
/-! SUPPORT. What the transmitter of a line port builds, each said once: the paths of a port tile its timeslots, what a path
sends fills its columns, and a line frame has 2,430 N bytes. -/

namespace Sys2Proof.Machine

/-! ### Sums over timeslots -/

/-- The sum of a function over 0 .. `n` - 1. -/
def sumTo (g : Nat → Nat) : Nat → Nat
  | 0 => 0
  | n + 1 => sumTo g n + g n

theorem sumTo_add (g : Nat → Nat) (m n : Nat) : sumTo g (m + n) = sumTo g m + sumTo (fun i => g (m + i)) n := by
  induction n with
  | zero => rfl
  | succ n ih => show sumTo g (m + n) + g (m + n) = _; rw [ih, Nat.add_assoc]; rfl

theorem sumTo_congr {g h : Nat → Nat} {n : Nat} (e : ∀ i, i < n → g i = h i) : sumTo g n = sumTo h n := by
  induction n with
  | zero => rfl
  | succ n ih => simp only [sumTo]; rw [ih (fun i hi => e i (by omega)), e n (by omega)]

theorem sumTo_const (c n : Nat) : sumTo (fun _ => c) n = c * n := by
  induction n with
  | zero => rfl
  | succ n ih => simp only [sumTo, ih, Nat.mul_succ]

/-- Equal blocks of `k` that each come to `c`. -/
theorem sumTo_blocks (g : Nat → Nat) (k c m : Nat) (h : ∀ i, i < m → sumTo (fun j => g (k * i + j)) k = c) : sumTo g (k * m) = c * m := by
  induction m with
  | zero => rfl
  | succ m ih => rw [Nat.mul_succ, sumTo_add, ih (fun i hi => h i (by omega)), h m (by omega), Nat.mul_succ]

/-- A block whose first place alone counts. -/
theorem sumTo_first (c k : Nat) (g : Nat → Nat) (h0 : g 0 = c) (h : ∀ j, 0 < j → j < k + 1 → g j = 0) : sumTo g (k + 1) = c := by
  induction k with
  | zero => simp only [sumTo]; omega
  | succ k ih =>
    rw [sumTo, ih (fun j a b => h j a (by omega)), h (k + 1) (by omega) (by omega)]; rfl

theorem sum_filterMap (f : Nat → Option (Nat × Nat)) (n : Nat) :
    (((List.range n).filterMap f).map (fun x => x.2)).sum = sumTo (fun t => match f t with | some x => x.2 | none => 0) n := by
  induction n with
  | zero => rfl
  | succ n ih =>
    rw [List.range_succ, List.filterMap_append, List.map_append, List.sum_append, ih]
    simp only [sumTo]
    cases h : f n <;> simp [h]

/-! ### The paths of a port -/

/-- The width of the path that starts at timeslot `t`, 0 where none does. -/
def State.startW (s : State) (n t : Nat) : Nat := if (s.pathOf n t).1 = t then (s.pathOf n t).2 else 0

theorem pathsOf_sum_eq (s : State) (n : Nat) : ((s.pathsOf n).map (fun x => x.2)).sum = sumTo (s.startW n) (3 * s.portN n) := by
  unfold State.pathsOf
  rw [List.filterMap_map, sum_filterMap]
  refine sumTo_congr fun t _ => ?_
  simp only [Function.comp, State.startW]
  by_cases h : (s.pathOf n t).1 = t
  · simp [h]
  · simp [h]

theorem portN_cases (s : State) (n : Nat) : s.portN n = 1 ∨ s.portN n = 4 ∨ s.portN n = 16 ∨ s.portN n = 64 := by
  unfold State.portN rateN
  split <;> simp

/-- The AUG-1s of a concatenated group all have its code. -/
theorem augGroup_code {s : State} {n a g code j : Nat} (h : s.augGroup n a g code = true) (hj : j / g = a / g) (hg : 0 < g) :
    s.augCode n j = code := by
  simp only [State.augGroup, Bool.and_eq_true, List.all_eq_true, List.mem_range, decide_eq_true_eq] at h
  have := h.2 (j % g) (Nat.mod_lt _ hg)
  rwa [← hj, Nat.div_add_mod' j g] at this

theorem augGroup_same {s : State} {n a b g code : Nat} (h : a / g = b / g) : s.augGroup n a g code = s.augGroup n b g code := by
  unfold State.augGroup; rw [h]

/-- An AUG-1 outside every group: a VC-4, or three VC-3s. -/
theorem startW_aug {s : State} {n a : Nat} (hq : s.augGroup n a 4 2 = false) (hh : s.augGroup n a 16 3 = false) :
    sumTo (fun j => s.startW n (3 * a + j)) 3 = 3 := by
  have d0 : (3 * a + 0) / 3 = a := by omega
  have d1 : (3 * a + 1) / 3 = a := by omega
  have d2 : (3 * a + 2) / 3 = a := by omega
  simp only [sumTo, State.startW, State.pathOf, d0, d1, d2, hq, hh]
  by_cases h : s.augCode n a = 1 <;> simp [h]

/-- A group of four AUG-1s: a VC-4-4c, or four AUG-1s of their own. -/
theorem startW_quad {s : State} {n q : Nat} (hh : s.augGroup n (4 * q) 16 3 = false) :
    sumTo (fun j => s.startW n (12 * q + j)) 12 = 12 := by
  by_cases hq : s.augGroup n (4 * q) 4 2 = true
  · have w (j : Nat) (hj : j < 12) : s.pathOf n (12 * q + j) = (12 * q, 12) := by
      have e : (12 * q + j) / 3 / 4 = q := by omega
      have c : s.augCode n ((12 * q + j) / 3) = 2 := augGroup_code hq (by omega) (by omega)
      have g : s.augGroup n ((12 * q + j) / 3) 4 2 = true := by rw [← hq]; exact augGroup_same (by omega)
      simp [State.pathOf, c, g, e]
    refine sumTo_first 12 11 _ ?_ fun j a b => ?_
    · simp only [State.startW]; rw [w 0 (by omega)]; simp
    · simp only [State.startW]; rw [w j (by omega), if_neg (by omega)]
  · refine (congrArg _ (by rfl)).trans (sumTo_blocks _ 3 3 4 fun i hi => ?_)
    have e (j : Nat) : 12 * q + (3 * i + j) = 3 * (4 * q + i) + j := by omega
    simp only [e]
    refine startW_aug ?_ ?_
    · rw [augGroup_same (b := 4 * q) (by omega)]; simpa using hq
    · rw [augGroup_same (b := 4 * q) (by omega)]; exact hh

/-- A group of sixteen AUG-1s: a VC-4-16c, or four groups of four. -/
theorem startW_sixteen {s : State} {n k : Nat} : sumTo (fun j => s.startW n (48 * k + j)) 48 = 48 := by
  by_cases hh : s.augGroup n (16 * k) 16 3 = true
  · have w (j : Nat) (hj : j < 48) : s.pathOf n (48 * k + j) = (48 * k, 48) := by
      have e : (48 * k + j) / 3 / 16 = k := by omega
      have c : s.augCode n ((48 * k + j) / 3) = 3 := augGroup_code hh (by omega) (by omega)
      have g : s.augGroup n ((48 * k + j) / 3) 16 3 = true := by rw [← hh]; exact augGroup_same (by omega)
      simp [State.pathOf, c, g, e]
    refine sumTo_first 48 47 _ ?_ fun j a b => ?_
    · simp only [State.startW]; rw [w 0 (by omega)]; simp
    · simp only [State.startW]; rw [w j (by omega), if_neg (by omega)]
  · refine (congrArg _ (by rfl)).trans (sumTo_blocks _ 12 12 4 fun i hi => ?_)
    have e (j : Nat) : 48 * k + (12 * i + j) = 12 * (4 * k + i) + j := by omega
    simp only [e]
    refine startW_quad ?_
    rw [augGroup_same (b := 16 * k) (by omega)]; simpa using hh

/-- A group that reaches past the port's AUG-1s is none. -/
theorem augGroup_past {s : State} {n a g code : Nat} (h : s.portN n < a / g * g + g) : s.augGroup n a g code = false := by
  unfold State.augGroup
  rw [decide_eq_false (by omega), Bool.false_and]

/-- The paths of a port fill its timeslots. -/
theorem pathsOf_sum (s : State) (n : Nat) : ((s.pathsOf n).map (fun x => x.2)).sum = 3 * s.portN n := by
  rw [pathsOf_sum_eq]
  rcases portN_cases s n with h | h | h | h <;> rw [h]
  · exact (sumTo_congr fun i _ => by rw [Nat.mul_zero, Nat.zero_add]).trans
      (startW_aug (s := s) (n := n) (a := 0) (augGroup_past (by omega)) (augGroup_past (by omega)))
  · exact (sumTo_congr fun i _ => by rw [Nat.mul_zero, Nat.zero_add]).trans
      (startW_quad (s := s) (n := n) (q := 0) (augGroup_past (by omega)))
  · exact sumTo_blocks _ 48 48 1 fun i _ => startW_sixteen
  · exact sumTo_blocks _ 48 48 4 fun i _ => startW_sixteen

/-! ### What a path sends -/

/-- A path of width `w` sends 783 units and H3 bytes, `w` bytes each. -/
def TxPath.fits (w : Nat) (x : TxPath) : Prop := x.units.length = 783 ∧ (∀ u ∈ x.units, u.length = w) ∧ x.h3.length = w

theorem bytesAt_length (b : List Byte) (i n : Nat) : (bytesAt b i n).length = n := by simp [bytesAt]

theorem unitBytes_length (w : Nat) (l : List (Option (Nat × List Byte))) (free : List Byte) :
    (unitBytes w l free).length = l.length ∧ ∀ u ∈ unitBytes w l free, u.length = w := by
  induction l generalizing free with
  | nil => exact ⟨rfl, fun u h => by cases h⟩
  | cons e l ih =>
    cases e with
    | some x => exact ⟨by simp [unitBytes, (ih free).1], fun u h => by
        rcases List.mem_cons.mp h with h | h
        · rw [h]; exact bytesAt_length _ _ _
        · exact (ih free).2 u h⟩
    | none => exact ⟨by simp [unitBytes, (ih _).1], fun u h => by
        rcases List.mem_cons.mp h with h | h
        · rw [h]; exact bytesAt_length _ _ _
        · exact (ih _).2 u h⟩

theorem Flow.read_length (pos n : Nat) (f : Flow) : (f.read pos n).length = n := by
  simp only [Flow.read, List.length_take, List.length_append, List.length_replicate]; omega

theorem genFixed_fits (n t w : Nat) (ais hold : Bool) (s : State) : (s.genFixed n t w ais hold).1.fits w := by
  refine ⟨List.length_replicate .., fun u h => ?_, List.length_replicate ..⟩
  rw [(List.mem_replicate.mp h).2]; exact List.length_replicate ..

theorem getD_length {l : List (List Byte)} {w i : Nat} {d : List Byte} (h : ∀ u ∈ l, u.length = w) (hd : d.length = w) :
    (l.getD i d).length = w := by
  rw [List.getD_eq_getElem?_getD]
  cases e : l[i]? with
  | none => exact hd
  | some u => exact h u (List.mem_of_getElem? e)

/-- What is sent of the units read: H3 carries one more where the pointer is decremented, none are read for the place after H3
where it is incremented. -/
theorem flowPath_fits (w : Nat) (neg stf : Bool) (got : List (Option (Nat × List Byte))) (free : List Byte)
    (hl : got.length = if neg then 784 else if stf then 782 else 783) :
    TxPath.fits w (if neg then { units := (unitBytes w got free).take 261 ++ (unitBytes w got free).drop 262
                                 h3 := (unitBytes w got free).getD 261 (List.replicate w (0#8)) }
      else if stf then { units := (unitBytes w got free).take 261 ++ List.replicate w (0#8) :: (unitBytes w got free).drop 261
                         h3 := List.replicate w (0#8) }
      else { units := unitBytes w got free, h3 := List.replicate w (0#8) }) := by
  obtain ⟨ul, uw⟩ := unitBytes_length w got free
  have z : (List.replicate w (0#8)).length = w := List.length_replicate ..
  cases neg
  · cases stf
    · exact ⟨ul.trans hl, uw, z⟩
    · refine ⟨?_, fun u h => ?_, z⟩
      · simp only [Bool.false_eq_true, if_false, if_true] at hl ⊢
        simp only [List.length_append, List.length_take, List.length_cons, List.length_drop]; omega
      · simp only [Bool.false_eq_true, if_false, if_true] at h
        rcases List.mem_append.mp h with h | h
        · exact uw u (List.mem_of_mem_take h)
        · rcases List.mem_cons.mp h with h | h
          · rw [h]; exact z
          · exact uw u (List.mem_of_mem_drop h)
  · refine ⟨?_, fun u h => ?_, getD_length uw z⟩
    · simp only [if_true] at hl ⊢
      simp only [List.length_append, List.length_take, List.length_drop]; omega
    · simp only [if_true] at h
      rcases List.mem_append.mp h with h | h
      · exact uw u (List.mem_of_mem_take h)
      · exact uw u (List.mem_of_mem_drop h)

theorem genFlow_fits (n t w k : Nat) (f : Flow) (s : State) : (s.genFlow n t w k f).1.fits w := by
  unfold State.genFlow
  exact flowPath_fits w _ _ _ _ (Flow.read_length ..)

theorem genPath_fits (n t w : Nat) (s : State) : (s.genPath n t w).1.fits w := by
  unfold State.genPath
  dsimp only
  split
  · exact genFixed_fits ..
  · split
    · exact genFixed_fits ..
    · exact genFlow_fits ..

/-- What the paths of a port send, each of its width. -/
theorem genPaths_fits (n : Nat) (l : List (Nat × Nat)) (s : State) :
    List.Forall₂ (fun (x : TxPath) w => x.fits w) (State.genPaths n l s).1 (l.map (fun x => x.2)) := by
  induction l generalizing s with
  | nil => exact List.Forall₂.nil
  | cons x l ih => exact List.Forall₂.cons (genPath_fits n x.1 x.2 s) (ih _)

/-- `k` columns take `k` bytes of each timeslot. -/
theorem interleave_length (k : Nat) (l : List (List (List Byte))) (ws : List Nat)
    (h : List.Forall₂ (fun (u : List (List Byte)) w => k ≤ u.length ∧ ∀ v ∈ u, v.length = w) l ws) :
    (interleave k l).length = k * ws.sum := by
  induction k generalizing l with
  | zero => simp [interleave]
  | succ k ih =>
    have head : (l.flatMap (fun u => u.headD [])).length = ws.sum := by
      clear ih
      induction h with
      | nil => rfl
      | @cons u w l ws hu _ ih =>
        rw [List.flatMap_cons, List.length_append, ih, List.sum_cons]
        congr 1
        match u, hu with
        | v :: _, ⟨_, hv⟩ => exact hv v (List.mem_cons_self ..)
    have tail : List.Forall₂ (fun (u : List (List Byte)) w => k ≤ u.length ∧ ∀ v ∈ u, v.length = w) (l.map (fun u => u.drop 1)) ws := by
      rw [List.forall₂_map_left_iff]
      refine h.imp fun u w hu => ⟨by rw [List.length_drop]; omega, fun v hv => hu.2 v (List.mem_of_mem_drop hv)⟩
    rw [interleave, List.length_append, head, ih _ tail, Nat.succ_mul, Nat.add_comm]

/-- A line frame before scrambling has 2,430 N bytes, and its first 6N are the framing pattern. -/
theorem frame_length (x : TxParts) (ws : List Nat) (h : List.Forall₂ (fun (p : TxPath) w => p.fits w) x.pay ws)
    (hs : ws.sum = 3 * x.nn) : x.frame.length = 2430 * x.nn := by
  have row (r : Nat) (hr : r < 9) : (x.row r).length = 270 * x.nn := by
    unfold TxParts.row
    rw [List.length_append, List.length_map, List.length_range, interleave_length 87 _ ws, hs]
    · omega
    · rw [List.forall₂_map_left_iff]
      refine h.imp fun p w hp => ⟨by rw [List.length_drop, hp.1]; omega, fun v hv => hp.2.1 v (List.mem_of_mem_drop hv)⟩
  unfold TxParts.frame
  simp only [List.range_succ, List.range_zero, List.flatMap_append, List.flatMap_nil, List.flatMap_cons, List.nil_append, List.append_nil,
    List.length_append]
  rw [row 0, row 1, row 2, row 3, row 4, row 5, row 6, row 7, row 8] <;> omega

end Sys2Proof.Machine
end

