-- ==== Sys2Proof/Laws/State.lean ====
section
/-! SUPPORT. What the plain updates of the state leave alone, one lemma per field and update, and what a read after one gives. -/

namespace Sys2Proof.Machine

/-! ### setReg -/

@[simp] theorem State.setReg_get (s : State) (o : Nat) (v : Word) : (s.setReg o v).reg o = v := tget_tset_same ..
theorem State.setReg_get_other (s : State) (o : Nat) (v : Word) (j : Nat) (h : j ≠ o) : (s.setReg o v).reg j = s.reg j := by
  unfold State.reg State.setReg tset
  split
  · exact tget_tdel_other _ _ _ _ h
  · exact tget_tput_other _ _ _ _ _ h
@[simp] theorem State.setReg_pending (s : State) (o : Nat) (v : Word) : (s.setReg o v).pending = s.pending := rfl
@[simp] theorem State.setReg_powered (s : State) (o : Nat) (v : Word) : (s.setReg o v).powered = s.powered := rfl
@[simp] theorem State.setReg_freeIdx (s : State) (o : Nat) (v : Word) : (s.setReg o v).freeIdx = s.freeIdx := rfl
@[simp] theorem State.setReg_hostMem (s : State) (o : Nat) (v : Word) : (s.setReg o v).hostMem = s.hostMem := rfl
@[simp] theorem State.setReg_upsets (s : State) (o : Nat) (v : Word) : (s.setReg o v).upsets = s.upsets := rfl
@[simp] theorem State.setReg_glb (s : State) (o : Nat) (v : Word) : (s.setReg o v).glb = s.glb := rfl
@[simp] theorem State.setReg_boot (s : State) (o : Nat) (v : Word) : (s.setReg o v).boot = s.boot := rfl
@[simp] theorem State.setReg_bus (s : State) (o : Nat) (v : Word) : (s.setReg o v).bus = s.bus := rfl
@[simp] theorem State.setReg_i2c (s : State) (o : Nat) (v : Word) : (s.setReg o v).i2c = s.i2c := rfl
@[simp] theorem State.setReg_flt (s : State) (o : Nat) (v : Word) : (s.setReg o v).flt = s.flt := rfl
@[simp] theorem State.setReg_log (s : State) (o : Nat) (v : Word) : (s.setReg o v).log = s.log := rfl
@[simp] theorem State.setReg_hif (s : State) (o : Nat) (v : Word) : (s.setReg o v).hif = s.hif := rfl
@[simp] theorem State.setReg_ce (s : State) (o : Nat) (v : Word) : (s.setReg o v).ce = s.ce := rfl
@[simp] theorem State.setReg_pmc (s : State) (o : Nat) (v : Word) : (s.setReg o v).pmc = s.pmc := rfl
@[simp] theorem State.setReg_sec (s : State) (o : Nat) (v : Word) : (s.setReg o v).sec = s.sec := rfl
@[simp] theorem State.setReg_pin (s : State) (o : Nat) (v : Word) : (s.setReg o v).pin = s.pin := rfl
@[simp] theorem State.setReg_mgt (s : State) (o : Nat) (v : Word) : (s.setReg o v).mgt = s.mgt := rfl
@[simp] theorem State.setReg_stp (s : State) (o : Nat) (v : Word) : (s.setReg o v).stp = s.stp := rfl
@[simp] theorem State.setReg_ports (s : State) (o : Nat) (v : Word) : (s.setReg o v).ports = s.ports := rfl
@[simp] theorem State.setReg_hop (s : State) (o : Nat) (v : Word) : (s.setReg o v).hop = s.hop := rfl
@[simp] theorem State.setReg_scribe (s : State) (o : Nat) (v : Word) : (s.setReg o v).scribe = s.scribe := rfl
@[simp] theorem State.setReg_vc4s (s : State) (o : Nat) (v : Word) : (s.setReg o v).vc4s = s.vc4s := rfl
@[simp] theorem State.setReg_h4s (s : State) (o : Nat) (v : Word) : (s.setReg o v).h4s = s.h4s := rfl
@[simp] theorem State.setReg_los (s : State) (o : Nat) (v : Word) : (s.setReg o v).los = s.los := rfl
@[simp] theorem State.setReg_tribs (s : State) (o : Nat) (v : Word) : (s.setReg o v).tribs = s.tribs := rfl
@[simp] theorem State.setReg_hwys (s : State) (o : Nat) (v : Word) : (s.setReg o v).hwys = s.hwys := rfl
@[simp] theorem State.setReg_grps (s : State) (o : Nat) (v : Word) : (s.setReg o v).grps = s.grps := rfl
@[simp] theorem State.setReg_tsw (s : State) (o : Nat) (v : Word) : (s.setReg o v).tsw = s.tsw := rfl
@[simp] theorem State.setReg_cnf (s : State) (o : Nat) (v : Word) : (s.setReg o v).cnf = s.cnf := rfl
@[simp] theorem State.setReg_prt (s : State) (o : Nat) (v : Word) : (s.setReg o v).prt = s.prt := rfl
@[simp] theorem State.setReg_strs (s : State) (o : Nat) (v : Word) : (s.setReg o v).strs = s.strs := rfl
@[simp] theorem State.setReg_gfps (s : State) (o : Nat) (v : Word) : (s.setReg o v).gfps = s.gfps := rfl
@[simp] theorem State.setReg_dccs (s : State) (o : Nat) (v : Word) : (s.setReg o v).dccs = s.dccs := rfl

/-! ### setRing -/

@[simp] theorem State.setRing_get (s : State) (kind n : Nat) (r : Ring) : (s.setRing kind n r).ring kind n = r := tget_tset_same ..
theorem State.setRing_get_other (s : State) (kind n : Nat) (r : Ring) (k j : Nat) (h : ringKey k j ≠ ringKey kind n) : (s.setRing kind n r).ring k j = s.ring k j := tget_tset_other _ _ _ _ _ h
@[simp] theorem State.setRing_pending (s : State) (kind n : Nat) (r : Ring) : (s.setRing kind n r).pending = s.pending := rfl
@[simp] theorem State.setRing_powered (s : State) (kind n : Nat) (r : Ring) : (s.setRing kind n r).powered = s.powered := rfl
@[simp] theorem State.setRing_freeIdx (s : State) (kind n : Nat) (r : Ring) : (s.setRing kind n r).freeIdx = s.freeIdx := rfl
@[simp] theorem State.setRing_cfg (s : State) (kind n : Nat) (r : Ring) : (s.setRing kind n r).cfg = s.cfg := rfl
@[simp] theorem State.setRing_hostMem (s : State) (kind n : Nat) (r : Ring) : (s.setRing kind n r).hostMem = s.hostMem := rfl
@[simp] theorem State.setRing_upsets (s : State) (kind n : Nat) (r : Ring) : (s.setRing kind n r).upsets = s.upsets := rfl
@[simp] theorem State.setRing_glb (s : State) (kind n : Nat) (r : Ring) : (s.setRing kind n r).glb = s.glb := rfl
@[simp] theorem State.setRing_boot (s : State) (kind n : Nat) (r : Ring) : (s.setRing kind n r).boot = s.boot := rfl
@[simp] theorem State.setRing_bus (s : State) (kind n : Nat) (r : Ring) : (s.setRing kind n r).bus = s.bus := rfl
@[simp] theorem State.setRing_i2c (s : State) (kind n : Nat) (r : Ring) : (s.setRing kind n r).i2c = s.i2c := rfl
@[simp] theorem State.setRing_flt (s : State) (kind n : Nat) (r : Ring) : (s.setRing kind n r).flt = s.flt := rfl
@[simp] theorem State.setRing_log (s : State) (kind n : Nat) (r : Ring) : (s.setRing kind n r).log = s.log := rfl
@[simp] theorem State.setRing_ce (s : State) (kind n : Nat) (r : Ring) : (s.setRing kind n r).ce = s.ce := rfl
@[simp] theorem State.setRing_pmc (s : State) (kind n : Nat) (r : Ring) : (s.setRing kind n r).pmc = s.pmc := rfl
@[simp] theorem State.setRing_sec (s : State) (kind n : Nat) (r : Ring) : (s.setRing kind n r).sec = s.sec := rfl
@[simp] theorem State.setRing_pin (s : State) (kind n : Nat) (r : Ring) : (s.setRing kind n r).pin = s.pin := rfl
@[simp] theorem State.setRing_mgt (s : State) (kind n : Nat) (r : Ring) : (s.setRing kind n r).mgt = s.mgt := rfl
@[simp] theorem State.setRing_stp (s : State) (kind n : Nat) (r : Ring) : (s.setRing kind n r).stp = s.stp := rfl
@[simp] theorem State.setRing_ports (s : State) (kind n : Nat) (r : Ring) : (s.setRing kind n r).ports = s.ports := rfl
@[simp] theorem State.setRing_hop (s : State) (kind n : Nat) (r : Ring) : (s.setRing kind n r).hop = s.hop := rfl
@[simp] theorem State.setRing_scribe (s : State) (kind n : Nat) (r : Ring) : (s.setRing kind n r).scribe = s.scribe := rfl
@[simp] theorem State.setRing_vc4s (s : State) (kind n : Nat) (r : Ring) : (s.setRing kind n r).vc4s = s.vc4s := rfl
@[simp] theorem State.setRing_h4s (s : State) (kind n : Nat) (r : Ring) : (s.setRing kind n r).h4s = s.h4s := rfl
@[simp] theorem State.setRing_los (s : State) (kind n : Nat) (r : Ring) : (s.setRing kind n r).los = s.los := rfl
@[simp] theorem State.setRing_tribs (s : State) (kind n : Nat) (r : Ring) : (s.setRing kind n r).tribs = s.tribs := rfl
@[simp] theorem State.setRing_hwys (s : State) (kind n : Nat) (r : Ring) : (s.setRing kind n r).hwys = s.hwys := rfl
@[simp] theorem State.setRing_grps (s : State) (kind n : Nat) (r : Ring) : (s.setRing kind n r).grps = s.grps := rfl
@[simp] theorem State.setRing_tsw (s : State) (kind n : Nat) (r : Ring) : (s.setRing kind n r).tsw = s.tsw := rfl
@[simp] theorem State.setRing_cnf (s : State) (kind n : Nat) (r : Ring) : (s.setRing kind n r).cnf = s.cnf := rfl
@[simp] theorem State.setRing_prt (s : State) (kind n : Nat) (r : Ring) : (s.setRing kind n r).prt = s.prt := rfl
@[simp] theorem State.setRing_strs (s : State) (kind n : Nat) (r : Ring) : (s.setRing kind n r).strs = s.strs := rfl
@[simp] theorem State.setRing_gfps (s : State) (kind n : Nat) (r : Ring) : (s.setRing kind n r).gfps = s.gfps := rfl
@[simp] theorem State.setRing_dccs (s : State) (kind n : Nat) (r : Ring) : (s.setRing kind n r).dccs = s.dccs := rfl

/-! ### setRef -/

@[simp] theorem State.setRef_get (s : State) (k : Nat) (r : RefState) : (s.setRef k r).ref k = r := tget_tset_same ..
theorem State.setRef_get_other (s : State) (k : Nat) (r : RefState) (j : Nat) (h : j ≠ k) : (s.setRef k r).ref j = s.ref j := tget_tset_other _ _ _ _ _ h
@[simp] theorem State.setRef_pending (s : State) (k : Nat) (r : RefState) : (s.setRef k r).pending = s.pending := rfl
@[simp] theorem State.setRef_powered (s : State) (k : Nat) (r : RefState) : (s.setRef k r).powered = s.powered := rfl
@[simp] theorem State.setRef_freeIdx (s : State) (k : Nat) (r : RefState) : (s.setRef k r).freeIdx = s.freeIdx := rfl
@[simp] theorem State.setRef_cfg (s : State) (k : Nat) (r : RefState) : (s.setRef k r).cfg = s.cfg := rfl
@[simp] theorem State.setRef_hostMem (s : State) (k : Nat) (r : RefState) : (s.setRef k r).hostMem = s.hostMem := rfl
@[simp] theorem State.setRef_upsets (s : State) (k : Nat) (r : RefState) : (s.setRef k r).upsets = s.upsets := rfl
@[simp] theorem State.setRef_glb (s : State) (k : Nat) (r : RefState) : (s.setRef k r).glb = s.glb := rfl
@[simp] theorem State.setRef_boot (s : State) (k : Nat) (r : RefState) : (s.setRef k r).boot = s.boot := rfl
@[simp] theorem State.setRef_bus (s : State) (k : Nat) (r : RefState) : (s.setRef k r).bus = s.bus := rfl
@[simp] theorem State.setRef_i2c (s : State) (k : Nat) (r : RefState) : (s.setRef k r).i2c = s.i2c := rfl
@[simp] theorem State.setRef_flt (s : State) (k : Nat) (r : RefState) : (s.setRef k r).flt = s.flt := rfl
@[simp] theorem State.setRef_log (s : State) (k : Nat) (r : RefState) : (s.setRef k r).log = s.log := rfl
@[simp] theorem State.setRef_hif (s : State) (k : Nat) (r : RefState) : (s.setRef k r).hif = s.hif := rfl
@[simp] theorem State.setRef_ce (s : State) (k : Nat) (r : RefState) : (s.setRef k r).ce = s.ce := rfl
@[simp] theorem State.setRef_pmc (s : State) (k : Nat) (r : RefState) : (s.setRef k r).pmc = s.pmc := rfl
@[simp] theorem State.setRef_sec (s : State) (k : Nat) (r : RefState) : (s.setRef k r).sec = s.sec := rfl
@[simp] theorem State.setRef_pin (s : State) (k : Nat) (r : RefState) : (s.setRef k r).pin = s.pin := rfl
@[simp] theorem State.setRef_mgt (s : State) (k : Nat) (r : RefState) : (s.setRef k r).mgt = s.mgt := rfl
@[simp] theorem State.setRef_ports (s : State) (k : Nat) (r : RefState) : (s.setRef k r).ports = s.ports := rfl
@[simp] theorem State.setRef_hop (s : State) (k : Nat) (r : RefState) : (s.setRef k r).hop = s.hop := rfl
@[simp] theorem State.setRef_scribe (s : State) (k : Nat) (r : RefState) : (s.setRef k r).scribe = s.scribe := rfl
@[simp] theorem State.setRef_vc4s (s : State) (k : Nat) (r : RefState) : (s.setRef k r).vc4s = s.vc4s := rfl
@[simp] theorem State.setRef_h4s (s : State) (k : Nat) (r : RefState) : (s.setRef k r).h4s = s.h4s := rfl
@[simp] theorem State.setRef_los (s : State) (k : Nat) (r : RefState) : (s.setRef k r).los = s.los := rfl
@[simp] theorem State.setRef_tribs (s : State) (k : Nat) (r : RefState) : (s.setRef k r).tribs = s.tribs := rfl
@[simp] theorem State.setRef_hwys (s : State) (k : Nat) (r : RefState) : (s.setRef k r).hwys = s.hwys := rfl
@[simp] theorem State.setRef_grps (s : State) (k : Nat) (r : RefState) : (s.setRef k r).grps = s.grps := rfl
@[simp] theorem State.setRef_tsw (s : State) (k : Nat) (r : RefState) : (s.setRef k r).tsw = s.tsw := rfl
@[simp] theorem State.setRef_cnf (s : State) (k : Nat) (r : RefState) : (s.setRef k r).cnf = s.cnf := rfl
@[simp] theorem State.setRef_prt (s : State) (k : Nat) (r : RefState) : (s.setRef k r).prt = s.prt := rfl
@[simp] theorem State.setRef_strs (s : State) (k : Nat) (r : RefState) : (s.setRef k r).strs = s.strs := rfl
@[simp] theorem State.setRef_gfps (s : State) (k : Nat) (r : RefState) : (s.setRef k r).gfps = s.gfps := rfl
@[simp] theorem State.setRef_dccs (s : State) (k : Nat) (r : RefState) : (s.setRef k r).dccs = s.dccs := rfl

/-! ### setRefout -/

@[simp] theorem State.setRefout_get (s : State) (m : Nat) (r : RefOut) : (s.setRefout m r).refout m = r := tget_tset_same ..
theorem State.setRefout_get_other (s : State) (m : Nat) (r : RefOut) (j : Nat) (h : j ≠ m) : (s.setRefout m r).refout j = s.refout j := tget_tset_other _ _ _ _ _ h
@[simp] theorem State.setRefout_pending (s : State) (m : Nat) (r : RefOut) : (s.setRefout m r).pending = s.pending := rfl
@[simp] theorem State.setRefout_powered (s : State) (m : Nat) (r : RefOut) : (s.setRefout m r).powered = s.powered := rfl
@[simp] theorem State.setRefout_freeIdx (s : State) (m : Nat) (r : RefOut) : (s.setRefout m r).freeIdx = s.freeIdx := rfl
@[simp] theorem State.setRefout_cfg (s : State) (m : Nat) (r : RefOut) : (s.setRefout m r).cfg = s.cfg := rfl
@[simp] theorem State.setRefout_hostMem (s : State) (m : Nat) (r : RefOut) : (s.setRefout m r).hostMem = s.hostMem := rfl
@[simp] theorem State.setRefout_upsets (s : State) (m : Nat) (r : RefOut) : (s.setRefout m r).upsets = s.upsets := rfl
@[simp] theorem State.setRefout_glb (s : State) (m : Nat) (r : RefOut) : (s.setRefout m r).glb = s.glb := rfl
@[simp] theorem State.setRefout_boot (s : State) (m : Nat) (r : RefOut) : (s.setRefout m r).boot = s.boot := rfl
@[simp] theorem State.setRefout_bus (s : State) (m : Nat) (r : RefOut) : (s.setRefout m r).bus = s.bus := rfl
@[simp] theorem State.setRefout_i2c (s : State) (m : Nat) (r : RefOut) : (s.setRefout m r).i2c = s.i2c := rfl
@[simp] theorem State.setRefout_flt (s : State) (m : Nat) (r : RefOut) : (s.setRefout m r).flt = s.flt := rfl
@[simp] theorem State.setRefout_log (s : State) (m : Nat) (r : RefOut) : (s.setRefout m r).log = s.log := rfl
@[simp] theorem State.setRefout_hif (s : State) (m : Nat) (r : RefOut) : (s.setRefout m r).hif = s.hif := rfl
@[simp] theorem State.setRefout_ce (s : State) (m : Nat) (r : RefOut) : (s.setRefout m r).ce = s.ce := rfl
@[simp] theorem State.setRefout_pmc (s : State) (m : Nat) (r : RefOut) : (s.setRefout m r).pmc = s.pmc := rfl
@[simp] theorem State.setRefout_sec (s : State) (m : Nat) (r : RefOut) : (s.setRefout m r).sec = s.sec := rfl
@[simp] theorem State.setRefout_pin (s : State) (m : Nat) (r : RefOut) : (s.setRefout m r).pin = s.pin := rfl
@[simp] theorem State.setRefout_mgt (s : State) (m : Nat) (r : RefOut) : (s.setRefout m r).mgt = s.mgt := rfl
@[simp] theorem State.setRefout_ports (s : State) (m : Nat) (r : RefOut) : (s.setRefout m r).ports = s.ports := rfl
@[simp] theorem State.setRefout_hop (s : State) (m : Nat) (r : RefOut) : (s.setRefout m r).hop = s.hop := rfl
@[simp] theorem State.setRefout_scribe (s : State) (m : Nat) (r : RefOut) : (s.setRefout m r).scribe = s.scribe := rfl
@[simp] theorem State.setRefout_vc4s (s : State) (m : Nat) (r : RefOut) : (s.setRefout m r).vc4s = s.vc4s := rfl
@[simp] theorem State.setRefout_h4s (s : State) (m : Nat) (r : RefOut) : (s.setRefout m r).h4s = s.h4s := rfl
@[simp] theorem State.setRefout_los (s : State) (m : Nat) (r : RefOut) : (s.setRefout m r).los = s.los := rfl
@[simp] theorem State.setRefout_tribs (s : State) (m : Nat) (r : RefOut) : (s.setRefout m r).tribs = s.tribs := rfl
@[simp] theorem State.setRefout_hwys (s : State) (m : Nat) (r : RefOut) : (s.setRefout m r).hwys = s.hwys := rfl
@[simp] theorem State.setRefout_grps (s : State) (m : Nat) (r : RefOut) : (s.setRefout m r).grps = s.grps := rfl
@[simp] theorem State.setRefout_tsw (s : State) (m : Nat) (r : RefOut) : (s.setRefout m r).tsw = s.tsw := rfl
@[simp] theorem State.setRefout_cnf (s : State) (m : Nat) (r : RefOut) : (s.setRefout m r).cnf = s.cnf := rfl
@[simp] theorem State.setRefout_prt (s : State) (m : Nat) (r : RefOut) : (s.setRefout m r).prt = s.prt := rfl
@[simp] theorem State.setRefout_strs (s : State) (m : Nat) (r : RefOut) : (s.setRefout m r).strs = s.strs := rfl
@[simp] theorem State.setRefout_gfps (s : State) (m : Nat) (r : RefOut) : (s.setRefout m r).gfps = s.gfps := rfl
@[simp] theorem State.setRefout_dccs (s : State) (m : Nat) (r : RefOut) : (s.setRefout m r).dccs = s.dccs := rfl

/-! ### setTimer -/

@[simp] theorem State.setTimer_get (s : State) (n : Nat) (x : Timer) : (s.setTimer n x).timer n = x := tget_tset_same ..
theorem State.setTimer_get_other (s : State) (n : Nat) (x : Timer) (j : Nat) (h : j ≠ n) : (s.setTimer n x).timer j = s.timer j := tget_tset_other _ _ _ _ _ h
@[simp] theorem State.setTimer_pending (s : State) (n : Nat) (x : Timer) : (s.setTimer n x).pending = s.pending := rfl
@[simp] theorem State.setTimer_powered (s : State) (n : Nat) (x : Timer) : (s.setTimer n x).powered = s.powered := rfl
@[simp] theorem State.setTimer_freeIdx (s : State) (n : Nat) (x : Timer) : (s.setTimer n x).freeIdx = s.freeIdx := rfl
@[simp] theorem State.setTimer_cfg (s : State) (n : Nat) (x : Timer) : (s.setTimer n x).cfg = s.cfg := rfl
@[simp] theorem State.setTimer_hostMem (s : State) (n : Nat) (x : Timer) : (s.setTimer n x).hostMem = s.hostMem := rfl
@[simp] theorem State.setTimer_upsets (s : State) (n : Nat) (x : Timer) : (s.setTimer n x).upsets = s.upsets := rfl
@[simp] theorem State.setTimer_glb (s : State) (n : Nat) (x : Timer) : (s.setTimer n x).glb = s.glb := rfl
@[simp] theorem State.setTimer_boot (s : State) (n : Nat) (x : Timer) : (s.setTimer n x).boot = s.boot := rfl
@[simp] theorem State.setTimer_bus (s : State) (n : Nat) (x : Timer) : (s.setTimer n x).bus = s.bus := rfl
@[simp] theorem State.setTimer_i2c (s : State) (n : Nat) (x : Timer) : (s.setTimer n x).i2c = s.i2c := rfl
@[simp] theorem State.setTimer_flt (s : State) (n : Nat) (x : Timer) : (s.setTimer n x).flt = s.flt := rfl
@[simp] theorem State.setTimer_log (s : State) (n : Nat) (x : Timer) : (s.setTimer n x).log = s.log := rfl
@[simp] theorem State.setTimer_hif (s : State) (n : Nat) (x : Timer) : (s.setTimer n x).hif = s.hif := rfl
@[simp] theorem State.setTimer_ce (s : State) (n : Nat) (x : Timer) : (s.setTimer n x).ce = s.ce := rfl
@[simp] theorem State.setTimer_pmc (s : State) (n : Nat) (x : Timer) : (s.setTimer n x).pmc = s.pmc := rfl
@[simp] theorem State.setTimer_sec (s : State) (n : Nat) (x : Timer) : (s.setTimer n x).sec = s.sec := rfl
@[simp] theorem State.setTimer_pin (s : State) (n : Nat) (x : Timer) : (s.setTimer n x).pin = s.pin := rfl
@[simp] theorem State.setTimer_mgt (s : State) (n : Nat) (x : Timer) : (s.setTimer n x).mgt = s.mgt := rfl
@[simp] theorem State.setTimer_ports (s : State) (n : Nat) (x : Timer) : (s.setTimer n x).ports = s.ports := rfl
@[simp] theorem State.setTimer_hop (s : State) (n : Nat) (x : Timer) : (s.setTimer n x).hop = s.hop := rfl
@[simp] theorem State.setTimer_scribe (s : State) (n : Nat) (x : Timer) : (s.setTimer n x).scribe = s.scribe := rfl
@[simp] theorem State.setTimer_vc4s (s : State) (n : Nat) (x : Timer) : (s.setTimer n x).vc4s = s.vc4s := rfl
@[simp] theorem State.setTimer_h4s (s : State) (n : Nat) (x : Timer) : (s.setTimer n x).h4s = s.h4s := rfl
@[simp] theorem State.setTimer_los (s : State) (n : Nat) (x : Timer) : (s.setTimer n x).los = s.los := rfl
@[simp] theorem State.setTimer_tribs (s : State) (n : Nat) (x : Timer) : (s.setTimer n x).tribs = s.tribs := rfl
@[simp] theorem State.setTimer_hwys (s : State) (n : Nat) (x : Timer) : (s.setTimer n x).hwys = s.hwys := rfl
@[simp] theorem State.setTimer_grps (s : State) (n : Nat) (x : Timer) : (s.setTimer n x).grps = s.grps := rfl
@[simp] theorem State.setTimer_tsw (s : State) (n : Nat) (x : Timer) : (s.setTimer n x).tsw = s.tsw := rfl
@[simp] theorem State.setTimer_cnf (s : State) (n : Nat) (x : Timer) : (s.setTimer n x).cnf = s.cnf := rfl
@[simp] theorem State.setTimer_prt (s : State) (n : Nat) (x : Timer) : (s.setTimer n x).prt = s.prt := rfl
@[simp] theorem State.setTimer_strs (s : State) (n : Nat) (x : Timer) : (s.setTimer n x).strs = s.strs := rfl
@[simp] theorem State.setTimer_gfps (s : State) (n : Nat) (x : Timer) : (s.setTimer n x).gfps = s.gfps := rfl
@[simp] theorem State.setTimer_dccs (s : State) (n : Nat) (x : Timer) : (s.setTimer n x).dccs = s.dccs := rfl

/-! ### setCapt -/

@[simp] theorem State.setCapt_get (s : State) (k : Nat) (c : Capt) : (s.setCapt k c).capt k = c := tget_tset_same ..
theorem State.setCapt_get_other (s : State) (k : Nat) (c : Capt) (j : Nat) (h : j ≠ k) : (s.setCapt k c).capt j = s.capt j := tget_tset_other _ _ _ _ _ h
@[simp] theorem State.setCapt_pending (s : State) (k : Nat) (c : Capt) : (s.setCapt k c).pending = s.pending := rfl
@[simp] theorem State.setCapt_powered (s : State) (k : Nat) (c : Capt) : (s.setCapt k c).powered = s.powered := rfl
@[simp] theorem State.setCapt_freeIdx (s : State) (k : Nat) (c : Capt) : (s.setCapt k c).freeIdx = s.freeIdx := rfl
@[simp] theorem State.setCapt_cfg (s : State) (k : Nat) (c : Capt) : (s.setCapt k c).cfg = s.cfg := rfl
@[simp] theorem State.setCapt_hostMem (s : State) (k : Nat) (c : Capt) : (s.setCapt k c).hostMem = s.hostMem := rfl
@[simp] theorem State.setCapt_upsets (s : State) (k : Nat) (c : Capt) : (s.setCapt k c).upsets = s.upsets := rfl
@[simp] theorem State.setCapt_glb (s : State) (k : Nat) (c : Capt) : (s.setCapt k c).glb = s.glb := rfl
@[simp] theorem State.setCapt_boot (s : State) (k : Nat) (c : Capt) : (s.setCapt k c).boot = s.boot := rfl
@[simp] theorem State.setCapt_bus (s : State) (k : Nat) (c : Capt) : (s.setCapt k c).bus = s.bus := rfl
@[simp] theorem State.setCapt_i2c (s : State) (k : Nat) (c : Capt) : (s.setCapt k c).i2c = s.i2c := rfl
@[simp] theorem State.setCapt_flt (s : State) (k : Nat) (c : Capt) : (s.setCapt k c).flt = s.flt := rfl
@[simp] theorem State.setCapt_log (s : State) (k : Nat) (c : Capt) : (s.setCapt k c).log = s.log := rfl
@[simp] theorem State.setCapt_hif (s : State) (k : Nat) (c : Capt) : (s.setCapt k c).hif = s.hif := rfl
@[simp] theorem State.setCapt_ce (s : State) (k : Nat) (c : Capt) : (s.setCapt k c).ce = s.ce := rfl
@[simp] theorem State.setCapt_pmc (s : State) (k : Nat) (c : Capt) : (s.setCapt k c).pmc = s.pmc := rfl
@[simp] theorem State.setCapt_sec (s : State) (k : Nat) (c : Capt) : (s.setCapt k c).sec = s.sec := rfl
@[simp] theorem State.setCapt_mgt (s : State) (k : Nat) (c : Capt) : (s.setCapt k c).mgt = s.mgt := rfl
@[simp] theorem State.setCapt_stp (s : State) (k : Nat) (c : Capt) : (s.setCapt k c).stp = s.stp := rfl
@[simp] theorem State.setCapt_ports (s : State) (k : Nat) (c : Capt) : (s.setCapt k c).ports = s.ports := rfl
@[simp] theorem State.setCapt_hop (s : State) (k : Nat) (c : Capt) : (s.setCapt k c).hop = s.hop := rfl
@[simp] theorem State.setCapt_scribe (s : State) (k : Nat) (c : Capt) : (s.setCapt k c).scribe = s.scribe := rfl
@[simp] theorem State.setCapt_vc4s (s : State) (k : Nat) (c : Capt) : (s.setCapt k c).vc4s = s.vc4s := rfl
@[simp] theorem State.setCapt_h4s (s : State) (k : Nat) (c : Capt) : (s.setCapt k c).h4s = s.h4s := rfl
@[simp] theorem State.setCapt_los (s : State) (k : Nat) (c : Capt) : (s.setCapt k c).los = s.los := rfl
@[simp] theorem State.setCapt_tribs (s : State) (k : Nat) (c : Capt) : (s.setCapt k c).tribs = s.tribs := rfl
@[simp] theorem State.setCapt_hwys (s : State) (k : Nat) (c : Capt) : (s.setCapt k c).hwys = s.hwys := rfl
@[simp] theorem State.setCapt_grps (s : State) (k : Nat) (c : Capt) : (s.setCapt k c).grps = s.grps := rfl
@[simp] theorem State.setCapt_tsw (s : State) (k : Nat) (c : Capt) : (s.setCapt k c).tsw = s.tsw := rfl
@[simp] theorem State.setCapt_cnf (s : State) (k : Nat) (c : Capt) : (s.setCapt k c).cnf = s.cnf := rfl
@[simp] theorem State.setCapt_prt (s : State) (k : Nat) (c : Capt) : (s.setCapt k c).prt = s.prt := rfl
@[simp] theorem State.setCapt_strs (s : State) (k : Nat) (c : Capt) : (s.setCapt k c).strs = s.strs := rfl
@[simp] theorem State.setCapt_gfps (s : State) (k : Nat) (c : Capt) : (s.setCapt k c).gfps = s.gfps := rfl
@[simp] theorem State.setCapt_dccs (s : State) (k : Nat) (c : Capt) : (s.setCapt k c).dccs = s.dccs := rfl

/-! ### setPort -/

@[simp] theorem State.setPort_get (s : State) (n : Nat) (p : Port) : (s.setPort n p).port n = p := tget_tset_same ..
theorem State.setPort_get_other (s : State) (n : Nat) (p : Port) (j : Nat) (h : j ≠ n) : (s.setPort n p).port j = s.port j := tget_tset_other _ _ _ _ _ h
@[simp] theorem State.setPort_pending (s : State) (n : Nat) (p : Port) : (s.setPort n p).pending = s.pending := rfl
@[simp] theorem State.setPort_powered (s : State) (n : Nat) (p : Port) : (s.setPort n p).powered = s.powered := rfl
@[simp] theorem State.setPort_freeIdx (s : State) (n : Nat) (p : Port) : (s.setPort n p).freeIdx = s.freeIdx := rfl
@[simp] theorem State.setPort_cfg (s : State) (n : Nat) (p : Port) : (s.setPort n p).cfg = s.cfg := rfl
@[simp] theorem State.setPort_hostMem (s : State) (n : Nat) (p : Port) : (s.setPort n p).hostMem = s.hostMem := rfl
@[simp] theorem State.setPort_upsets (s : State) (n : Nat) (p : Port) : (s.setPort n p).upsets = s.upsets := rfl
@[simp] theorem State.setPort_glb (s : State) (n : Nat) (p : Port) : (s.setPort n p).glb = s.glb := rfl
@[simp] theorem State.setPort_boot (s : State) (n : Nat) (p : Port) : (s.setPort n p).boot = s.boot := rfl
@[simp] theorem State.setPort_bus (s : State) (n : Nat) (p : Port) : (s.setPort n p).bus = s.bus := rfl
@[simp] theorem State.setPort_i2c (s : State) (n : Nat) (p : Port) : (s.setPort n p).i2c = s.i2c := rfl
@[simp] theorem State.setPort_flt (s : State) (n : Nat) (p : Port) : (s.setPort n p).flt = s.flt := rfl
@[simp] theorem State.setPort_log (s : State) (n : Nat) (p : Port) : (s.setPort n p).log = s.log := rfl
@[simp] theorem State.setPort_hif (s : State) (n : Nat) (p : Port) : (s.setPort n p).hif = s.hif := rfl
@[simp] theorem State.setPort_ce (s : State) (n : Nat) (p : Port) : (s.setPort n p).ce = s.ce := rfl
@[simp] theorem State.setPort_pmc (s : State) (n : Nat) (p : Port) : (s.setPort n p).pmc = s.pmc := rfl
@[simp] theorem State.setPort_sec (s : State) (n : Nat) (p : Port) : (s.setPort n p).sec = s.sec := rfl
@[simp] theorem State.setPort_pin (s : State) (n : Nat) (p : Port) : (s.setPort n p).pin = s.pin := rfl
@[simp] theorem State.setPort_mgt (s : State) (n : Nat) (p : Port) : (s.setPort n p).mgt = s.mgt := rfl
@[simp] theorem State.setPort_stp (s : State) (n : Nat) (p : Port) : (s.setPort n p).stp = s.stp := rfl
@[simp] theorem State.setPort_hop (s : State) (n : Nat) (p : Port) : (s.setPort n p).hop = s.hop := rfl
@[simp] theorem State.setPort_scribe (s : State) (n : Nat) (p : Port) : (s.setPort n p).scribe = s.scribe := rfl
@[simp] theorem State.setPort_vc4s (s : State) (n : Nat) (p : Port) : (s.setPort n p).vc4s = s.vc4s := rfl
@[simp] theorem State.setPort_h4s (s : State) (n : Nat) (p : Port) : (s.setPort n p).h4s = s.h4s := rfl
@[simp] theorem State.setPort_los (s : State) (n : Nat) (p : Port) : (s.setPort n p).los = s.los := rfl
@[simp] theorem State.setPort_tribs (s : State) (n : Nat) (p : Port) : (s.setPort n p).tribs = s.tribs := rfl
@[simp] theorem State.setPort_hwys (s : State) (n : Nat) (p : Port) : (s.setPort n p).hwys = s.hwys := rfl
@[simp] theorem State.setPort_grps (s : State) (n : Nat) (p : Port) : (s.setPort n p).grps = s.grps := rfl
@[simp] theorem State.setPort_tsw (s : State) (n : Nat) (p : Port) : (s.setPort n p).tsw = s.tsw := rfl
@[simp] theorem State.setPort_cnf (s : State) (n : Nat) (p : Port) : (s.setPort n p).cnf = s.cnf := rfl
@[simp] theorem State.setPort_prt (s : State) (n : Nat) (p : Port) : (s.setPort n p).prt = s.prt := rfl
@[simp] theorem State.setPort_strs (s : State) (n : Nat) (p : Port) : (s.setPort n p).strs = s.strs := rfl
@[simp] theorem State.setPort_gfps (s : State) (n : Nat) (p : Port) : (s.setPort n p).gfps = s.gfps := rfl
@[simp] theorem State.setPort_dccs (s : State) (n : Nat) (p : Port) : (s.setPort n p).dccs = s.dccs := rfl

/-! ### setPath -/

@[simp] theorem State.setPath_get (s : State) (k : Nat) (p : HoPath) : (s.setPath k p).path k = p := tget_tset_same ..
theorem State.setPath_get_other (s : State) (k : Nat) (p : HoPath) (j : Nat) (h : j ≠ k) : (s.setPath k p).path j = s.path j := tget_tset_other _ _ _ _ _ h
@[simp] theorem State.setPath_pending (s : State) (k : Nat) (p : HoPath) : (s.setPath k p).pending = s.pending := rfl
@[simp] theorem State.setPath_powered (s : State) (k : Nat) (p : HoPath) : (s.setPath k p).powered = s.powered := rfl
@[simp] theorem State.setPath_freeIdx (s : State) (k : Nat) (p : HoPath) : (s.setPath k p).freeIdx = s.freeIdx := rfl
@[simp] theorem State.setPath_cfg (s : State) (k : Nat) (p : HoPath) : (s.setPath k p).cfg = s.cfg := rfl
@[simp] theorem State.setPath_hostMem (s : State) (k : Nat) (p : HoPath) : (s.setPath k p).hostMem = s.hostMem := rfl
@[simp] theorem State.setPath_upsets (s : State) (k : Nat) (p : HoPath) : (s.setPath k p).upsets = s.upsets := rfl
@[simp] theorem State.setPath_glb (s : State) (k : Nat) (p : HoPath) : (s.setPath k p).glb = s.glb := rfl
@[simp] theorem State.setPath_boot (s : State) (k : Nat) (p : HoPath) : (s.setPath k p).boot = s.boot := rfl
@[simp] theorem State.setPath_bus (s : State) (k : Nat) (p : HoPath) : (s.setPath k p).bus = s.bus := rfl
@[simp] theorem State.setPath_i2c (s : State) (k : Nat) (p : HoPath) : (s.setPath k p).i2c = s.i2c := rfl
@[simp] theorem State.setPath_flt (s : State) (k : Nat) (p : HoPath) : (s.setPath k p).flt = s.flt := rfl
@[simp] theorem State.setPath_log (s : State) (k : Nat) (p : HoPath) : (s.setPath k p).log = s.log := rfl
@[simp] theorem State.setPath_hif (s : State) (k : Nat) (p : HoPath) : (s.setPath k p).hif = s.hif := rfl
@[simp] theorem State.setPath_ce (s : State) (k : Nat) (p : HoPath) : (s.setPath k p).ce = s.ce := rfl
@[simp] theorem State.setPath_pmc (s : State) (k : Nat) (p : HoPath) : (s.setPath k p).pmc = s.pmc := rfl
@[simp] theorem State.setPath_sec (s : State) (k : Nat) (p : HoPath) : (s.setPath k p).sec = s.sec := rfl
@[simp] theorem State.setPath_pin (s : State) (k : Nat) (p : HoPath) : (s.setPath k p).pin = s.pin := rfl
@[simp] theorem State.setPath_mgt (s : State) (k : Nat) (p : HoPath) : (s.setPath k p).mgt = s.mgt := rfl
@[simp] theorem State.setPath_stp (s : State) (k : Nat) (p : HoPath) : (s.setPath k p).stp = s.stp := rfl
@[simp] theorem State.setPath_ports (s : State) (k : Nat) (p : HoPath) : (s.setPath k p).ports = s.ports := rfl
@[simp] theorem State.setPath_scribe (s : State) (k : Nat) (p : HoPath) : (s.setPath k p).scribe = s.scribe := rfl
@[simp] theorem State.setPath_vc4s (s : State) (k : Nat) (p : HoPath) : (s.setPath k p).vc4s = s.vc4s := rfl
@[simp] theorem State.setPath_h4s (s : State) (k : Nat) (p : HoPath) : (s.setPath k p).h4s = s.h4s := rfl
@[simp] theorem State.setPath_los (s : State) (k : Nat) (p : HoPath) : (s.setPath k p).los = s.los := rfl
@[simp] theorem State.setPath_tribs (s : State) (k : Nat) (p : HoPath) : (s.setPath k p).tribs = s.tribs := rfl
@[simp] theorem State.setPath_hwys (s : State) (k : Nat) (p : HoPath) : (s.setPath k p).hwys = s.hwys := rfl
@[simp] theorem State.setPath_grps (s : State) (k : Nat) (p : HoPath) : (s.setPath k p).grps = s.grps := rfl
@[simp] theorem State.setPath_tsw (s : State) (k : Nat) (p : HoPath) : (s.setPath k p).tsw = s.tsw := rfl
@[simp] theorem State.setPath_cnf (s : State) (k : Nat) (p : HoPath) : (s.setPath k p).cnf = s.cnf := rfl
@[simp] theorem State.setPath_prt (s : State) (k : Nat) (p : HoPath) : (s.setPath k p).prt = s.prt := rfl
@[simp] theorem State.setPath_strs (s : State) (k : Nat) (p : HoPath) : (s.setPath k p).strs = s.strs := rfl
@[simp] theorem State.setPath_gfps (s : State) (k : Nat) (p : HoPath) : (s.setPath k p).gfps = s.gfps := rfl
@[simp] theorem State.setPath_dccs (s : State) (k : Nat) (p : HoPath) : (s.setPath k p).dccs = s.dccs := rfl

/-! ### setHoSrc -/

@[simp] theorem State.setHoSrc_get (s : State) (k : Nat) (p : HoSrc) : (s.setHoSrc k p).hoSrc k = p := tget_tset_same ..
theorem State.setHoSrc_get_other (s : State) (k : Nat) (p : HoSrc) (j : Nat) (h : j ≠ k) : (s.setHoSrc k p).hoSrc j = s.hoSrc j := tget_tset_other _ _ _ _ _ h
@[simp] theorem State.setHoSrc_pending (s : State) (k : Nat) (p : HoSrc) : (s.setHoSrc k p).pending = s.pending := rfl
@[simp] theorem State.setHoSrc_powered (s : State) (k : Nat) (p : HoSrc) : (s.setHoSrc k p).powered = s.powered := rfl
@[simp] theorem State.setHoSrc_freeIdx (s : State) (k : Nat) (p : HoSrc) : (s.setHoSrc k p).freeIdx = s.freeIdx := rfl
@[simp] theorem State.setHoSrc_cfg (s : State) (k : Nat) (p : HoSrc) : (s.setHoSrc k p).cfg = s.cfg := rfl
@[simp] theorem State.setHoSrc_hostMem (s : State) (k : Nat) (p : HoSrc) : (s.setHoSrc k p).hostMem = s.hostMem := rfl
@[simp] theorem State.setHoSrc_upsets (s : State) (k : Nat) (p : HoSrc) : (s.setHoSrc k p).upsets = s.upsets := rfl
@[simp] theorem State.setHoSrc_glb (s : State) (k : Nat) (p : HoSrc) : (s.setHoSrc k p).glb = s.glb := rfl
@[simp] theorem State.setHoSrc_boot (s : State) (k : Nat) (p : HoSrc) : (s.setHoSrc k p).boot = s.boot := rfl
@[simp] theorem State.setHoSrc_bus (s : State) (k : Nat) (p : HoSrc) : (s.setHoSrc k p).bus = s.bus := rfl
@[simp] theorem State.setHoSrc_i2c (s : State) (k : Nat) (p : HoSrc) : (s.setHoSrc k p).i2c = s.i2c := rfl
@[simp] theorem State.setHoSrc_flt (s : State) (k : Nat) (p : HoSrc) : (s.setHoSrc k p).flt = s.flt := rfl
@[simp] theorem State.setHoSrc_log (s : State) (k : Nat) (p : HoSrc) : (s.setHoSrc k p).log = s.log := rfl
@[simp] theorem State.setHoSrc_hif (s : State) (k : Nat) (p : HoSrc) : (s.setHoSrc k p).hif = s.hif := rfl
@[simp] theorem State.setHoSrc_ce (s : State) (k : Nat) (p : HoSrc) : (s.setHoSrc k p).ce = s.ce := rfl
@[simp] theorem State.setHoSrc_pmc (s : State) (k : Nat) (p : HoSrc) : (s.setHoSrc k p).pmc = s.pmc := rfl
@[simp] theorem State.setHoSrc_sec (s : State) (k : Nat) (p : HoSrc) : (s.setHoSrc k p).sec = s.sec := rfl
@[simp] theorem State.setHoSrc_pin (s : State) (k : Nat) (p : HoSrc) : (s.setHoSrc k p).pin = s.pin := rfl
@[simp] theorem State.setHoSrc_mgt (s : State) (k : Nat) (p : HoSrc) : (s.setHoSrc k p).mgt = s.mgt := rfl
@[simp] theorem State.setHoSrc_stp (s : State) (k : Nat) (p : HoSrc) : (s.setHoSrc k p).stp = s.stp := rfl
@[simp] theorem State.setHoSrc_ports (s : State) (k : Nat) (p : HoSrc) : (s.setHoSrc k p).ports = s.ports := rfl
@[simp] theorem State.setHoSrc_scribe (s : State) (k : Nat) (p : HoSrc) : (s.setHoSrc k p).scribe = s.scribe := rfl
@[simp] theorem State.setHoSrc_vc4s (s : State) (k : Nat) (p : HoSrc) : (s.setHoSrc k p).vc4s = s.vc4s := rfl
@[simp] theorem State.setHoSrc_h4s (s : State) (k : Nat) (p : HoSrc) : (s.setHoSrc k p).h4s = s.h4s := rfl
@[simp] theorem State.setHoSrc_los (s : State) (k : Nat) (p : HoSrc) : (s.setHoSrc k p).los = s.los := rfl
@[simp] theorem State.setHoSrc_tribs (s : State) (k : Nat) (p : HoSrc) : (s.setHoSrc k p).tribs = s.tribs := rfl
@[simp] theorem State.setHoSrc_hwys (s : State) (k : Nat) (p : HoSrc) : (s.setHoSrc k p).hwys = s.hwys := rfl
@[simp] theorem State.setHoSrc_grps (s : State) (k : Nat) (p : HoSrc) : (s.setHoSrc k p).grps = s.grps := rfl
@[simp] theorem State.setHoSrc_tsw (s : State) (k : Nat) (p : HoSrc) : (s.setHoSrc k p).tsw = s.tsw := rfl
@[simp] theorem State.setHoSrc_cnf (s : State) (k : Nat) (p : HoSrc) : (s.setHoSrc k p).cnf = s.cnf := rfl
@[simp] theorem State.setHoSrc_prt (s : State) (k : Nat) (p : HoSrc) : (s.setHoSrc k p).prt = s.prt := rfl
@[simp] theorem State.setHoSrc_strs (s : State) (k : Nat) (p : HoSrc) : (s.setHoSrc k p).strs = s.strs := rfl
@[simp] theorem State.setHoSrc_gfps (s : State) (k : Nat) (p : HoSrc) : (s.setHoSrc k p).gfps = s.gfps := rfl
@[simp] theorem State.setHoSrc_dccs (s : State) (k : Nat) (p : HoSrc) : (s.setHoSrc k p).dccs = s.dccs := rfl

/-! ### setStore -/

@[simp] theorem State.setStore_get (s : State) (d : Nat) (x : Store) : (s.setStore d x).store d = x := tget_tset_same ..
theorem State.setStore_get_other (s : State) (d : Nat) (x : Store) (j : Nat) (h : j ≠ d) : (s.setStore d x).store j = s.store j := tget_tset_other _ _ _ _ _ h
@[simp] theorem State.setStore_pending (s : State) (d : Nat) (x : Store) : (s.setStore d x).pending = s.pending := rfl
@[simp] theorem State.setStore_powered (s : State) (d : Nat) (x : Store) : (s.setStore d x).powered = s.powered := rfl
@[simp] theorem State.setStore_freeIdx (s : State) (d : Nat) (x : Store) : (s.setStore d x).freeIdx = s.freeIdx := rfl
@[simp] theorem State.setStore_cfg (s : State) (d : Nat) (x : Store) : (s.setStore d x).cfg = s.cfg := rfl
@[simp] theorem State.setStore_hostMem (s : State) (d : Nat) (x : Store) : (s.setStore d x).hostMem = s.hostMem := rfl
@[simp] theorem State.setStore_upsets (s : State) (d : Nat) (x : Store) : (s.setStore d x).upsets = s.upsets := rfl
@[simp] theorem State.setStore_glb (s : State) (d : Nat) (x : Store) : (s.setStore d x).glb = s.glb := rfl
@[simp] theorem State.setStore_boot (s : State) (d : Nat) (x : Store) : (s.setStore d x).boot = s.boot := rfl
@[simp] theorem State.setStore_bus (s : State) (d : Nat) (x : Store) : (s.setStore d x).bus = s.bus := rfl
@[simp] theorem State.setStore_i2c (s : State) (d : Nat) (x : Store) : (s.setStore d x).i2c = s.i2c := rfl
@[simp] theorem State.setStore_flt (s : State) (d : Nat) (x : Store) : (s.setStore d x).flt = s.flt := rfl
@[simp] theorem State.setStore_log (s : State) (d : Nat) (x : Store) : (s.setStore d x).log = s.log := rfl
@[simp] theorem State.setStore_hif (s : State) (d : Nat) (x : Store) : (s.setStore d x).hif = s.hif := rfl
@[simp] theorem State.setStore_ce (s : State) (d : Nat) (x : Store) : (s.setStore d x).ce = s.ce := rfl
@[simp] theorem State.setStore_pmc (s : State) (d : Nat) (x : Store) : (s.setStore d x).pmc = s.pmc := rfl
@[simp] theorem State.setStore_sec (s : State) (d : Nat) (x : Store) : (s.setStore d x).sec = s.sec := rfl
@[simp] theorem State.setStore_pin (s : State) (d : Nat) (x : Store) : (s.setStore d x).pin = s.pin := rfl
@[simp] theorem State.setStore_mgt (s : State) (d : Nat) (x : Store) : (s.setStore d x).mgt = s.mgt := rfl
@[simp] theorem State.setStore_stp (s : State) (d : Nat) (x : Store) : (s.setStore d x).stp = s.stp := rfl
@[simp] theorem State.setStore_ports (s : State) (d : Nat) (x : Store) : (s.setStore d x).ports = s.ports := rfl
@[simp] theorem State.setStore_scribe (s : State) (d : Nat) (x : Store) : (s.setStore d x).scribe = s.scribe := rfl
@[simp] theorem State.setStore_vc4s (s : State) (d : Nat) (x : Store) : (s.setStore d x).vc4s = s.vc4s := rfl
@[simp] theorem State.setStore_h4s (s : State) (d : Nat) (x : Store) : (s.setStore d x).h4s = s.h4s := rfl
@[simp] theorem State.setStore_los (s : State) (d : Nat) (x : Store) : (s.setStore d x).los = s.los := rfl
@[simp] theorem State.setStore_tribs (s : State) (d : Nat) (x : Store) : (s.setStore d x).tribs = s.tribs := rfl
@[simp] theorem State.setStore_hwys (s : State) (d : Nat) (x : Store) : (s.setStore d x).hwys = s.hwys := rfl
@[simp] theorem State.setStore_grps (s : State) (d : Nat) (x : Store) : (s.setStore d x).grps = s.grps := rfl
@[simp] theorem State.setStore_tsw (s : State) (d : Nat) (x : Store) : (s.setStore d x).tsw = s.tsw := rfl
@[simp] theorem State.setStore_cnf (s : State) (d : Nat) (x : Store) : (s.setStore d x).cnf = s.cnf := rfl
@[simp] theorem State.setStore_prt (s : State) (d : Nat) (x : Store) : (s.setStore d x).prt = s.prt := rfl
@[simp] theorem State.setStore_strs (s : State) (d : Nat) (x : Store) : (s.setStore d x).strs = s.strs := rfl
@[simp] theorem State.setStore_gfps (s : State) (d : Nat) (x : Store) : (s.setStore d x).gfps = s.gfps := rfl
@[simp] theorem State.setStore_dccs (s : State) (d : Nat) (x : Store) : (s.setStore d x).dccs = s.dccs := rfl

/-! ### setFlow -/

@[simp] theorem State.setFlow_get (s : State) (k : Nat) (x : Flow) : (s.setFlow k x).flow k = x := tget_tset_same ..
theorem State.setFlow_get_other (s : State) (k : Nat) (x : Flow) (j : Nat) (h : j ≠ k) : (s.setFlow k x).flow j = s.flow j := tget_tset_other _ _ _ _ _ h
@[simp] theorem State.setFlow_pending (s : State) (k : Nat) (x : Flow) : (s.setFlow k x).pending = s.pending := rfl
@[simp] theorem State.setFlow_powered (s : State) (k : Nat) (x : Flow) : (s.setFlow k x).powered = s.powered := rfl
@[simp] theorem State.setFlow_freeIdx (s : State) (k : Nat) (x : Flow) : (s.setFlow k x).freeIdx = s.freeIdx := rfl
@[simp] theorem State.setFlow_cfg (s : State) (k : Nat) (x : Flow) : (s.setFlow k x).cfg = s.cfg := rfl
@[simp] theorem State.setFlow_hostMem (s : State) (k : Nat) (x : Flow) : (s.setFlow k x).hostMem = s.hostMem := rfl
@[simp] theorem State.setFlow_upsets (s : State) (k : Nat) (x : Flow) : (s.setFlow k x).upsets = s.upsets := rfl
@[simp] theorem State.setFlow_glb (s : State) (k : Nat) (x : Flow) : (s.setFlow k x).glb = s.glb := rfl
@[simp] theorem State.setFlow_boot (s : State) (k : Nat) (x : Flow) : (s.setFlow k x).boot = s.boot := rfl
@[simp] theorem State.setFlow_bus (s : State) (k : Nat) (x : Flow) : (s.setFlow k x).bus = s.bus := rfl
@[simp] theorem State.setFlow_i2c (s : State) (k : Nat) (x : Flow) : (s.setFlow k x).i2c = s.i2c := rfl
@[simp] theorem State.setFlow_flt (s : State) (k : Nat) (x : Flow) : (s.setFlow k x).flt = s.flt := rfl
@[simp] theorem State.setFlow_log (s : State) (k : Nat) (x : Flow) : (s.setFlow k x).log = s.log := rfl
@[simp] theorem State.setFlow_hif (s : State) (k : Nat) (x : Flow) : (s.setFlow k x).hif = s.hif := rfl
@[simp] theorem State.setFlow_ce (s : State) (k : Nat) (x : Flow) : (s.setFlow k x).ce = s.ce := rfl
@[simp] theorem State.setFlow_pmc (s : State) (k : Nat) (x : Flow) : (s.setFlow k x).pmc = s.pmc := rfl
@[simp] theorem State.setFlow_sec (s : State) (k : Nat) (x : Flow) : (s.setFlow k x).sec = s.sec := rfl
@[simp] theorem State.setFlow_pin (s : State) (k : Nat) (x : Flow) : (s.setFlow k x).pin = s.pin := rfl
@[simp] theorem State.setFlow_mgt (s : State) (k : Nat) (x : Flow) : (s.setFlow k x).mgt = s.mgt := rfl
@[simp] theorem State.setFlow_stp (s : State) (k : Nat) (x : Flow) : (s.setFlow k x).stp = s.stp := rfl
@[simp] theorem State.setFlow_ports (s : State) (k : Nat) (x : Flow) : (s.setFlow k x).ports = s.ports := rfl
@[simp] theorem State.setFlow_scribe (s : State) (k : Nat) (x : Flow) : (s.setFlow k x).scribe = s.scribe := rfl
@[simp] theorem State.setFlow_vc4s (s : State) (k : Nat) (x : Flow) : (s.setFlow k x).vc4s = s.vc4s := rfl
@[simp] theorem State.setFlow_h4s (s : State) (k : Nat) (x : Flow) : (s.setFlow k x).h4s = s.h4s := rfl
@[simp] theorem State.setFlow_los (s : State) (k : Nat) (x : Flow) : (s.setFlow k x).los = s.los := rfl
@[simp] theorem State.setFlow_tribs (s : State) (k : Nat) (x : Flow) : (s.setFlow k x).tribs = s.tribs := rfl
@[simp] theorem State.setFlow_hwys (s : State) (k : Nat) (x : Flow) : (s.setFlow k x).hwys = s.hwys := rfl
@[simp] theorem State.setFlow_grps (s : State) (k : Nat) (x : Flow) : (s.setFlow k x).grps = s.grps := rfl
@[simp] theorem State.setFlow_tsw (s : State) (k : Nat) (x : Flow) : (s.setFlow k x).tsw = s.tsw := rfl
@[simp] theorem State.setFlow_cnf (s : State) (k : Nat) (x : Flow) : (s.setFlow k x).cnf = s.cnf := rfl
@[simp] theorem State.setFlow_prt (s : State) (k : Nat) (x : Flow) : (s.setFlow k x).prt = s.prt := rfl
@[simp] theorem State.setFlow_strs (s : State) (k : Nat) (x : Flow) : (s.setFlow k x).strs = s.strs := rfl
@[simp] theorem State.setFlow_gfps (s : State) (k : Nat) (x : Flow) : (s.setFlow k x).gfps = s.gfps := rfl
@[simp] theorem State.setFlow_dccs (s : State) (k : Nat) (x : Flow) : (s.setFlow k x).dccs = s.dccs := rfl

/-! ### setTu -/

@[simp] theorem State.setTu_get (s : State) (k : Nat) (x : TuRx) : (s.setTu k x).tu k = x := tget_tset_same ..
theorem State.setTu_get_other (s : State) (k : Nat) (x : TuRx) (j : Nat) (h : j ≠ k) : (s.setTu k x).tu j = s.tu j := tget_tset_other _ _ _ _ _ h
@[simp] theorem State.setTu_pending (s : State) (k : Nat) (x : TuRx) : (s.setTu k x).pending = s.pending := rfl
@[simp] theorem State.setTu_powered (s : State) (k : Nat) (x : TuRx) : (s.setTu k x).powered = s.powered := rfl
@[simp] theorem State.setTu_freeIdx (s : State) (k : Nat) (x : TuRx) : (s.setTu k x).freeIdx = s.freeIdx := rfl
@[simp] theorem State.setTu_cfg (s : State) (k : Nat) (x : TuRx) : (s.setTu k x).cfg = s.cfg := rfl
@[simp] theorem State.setTu_hostMem (s : State) (k : Nat) (x : TuRx) : (s.setTu k x).hostMem = s.hostMem := rfl
@[simp] theorem State.setTu_upsets (s : State) (k : Nat) (x : TuRx) : (s.setTu k x).upsets = s.upsets := rfl
@[simp] theorem State.setTu_glb (s : State) (k : Nat) (x : TuRx) : (s.setTu k x).glb = s.glb := rfl
@[simp] theorem State.setTu_boot (s : State) (k : Nat) (x : TuRx) : (s.setTu k x).boot = s.boot := rfl
@[simp] theorem State.setTu_bus (s : State) (k : Nat) (x : TuRx) : (s.setTu k x).bus = s.bus := rfl
@[simp] theorem State.setTu_i2c (s : State) (k : Nat) (x : TuRx) : (s.setTu k x).i2c = s.i2c := rfl
@[simp] theorem State.setTu_flt (s : State) (k : Nat) (x : TuRx) : (s.setTu k x).flt = s.flt := rfl
@[simp] theorem State.setTu_log (s : State) (k : Nat) (x : TuRx) : (s.setTu k x).log = s.log := rfl
@[simp] theorem State.setTu_hif (s : State) (k : Nat) (x : TuRx) : (s.setTu k x).hif = s.hif := rfl
@[simp] theorem State.setTu_ce (s : State) (k : Nat) (x : TuRx) : (s.setTu k x).ce = s.ce := rfl
@[simp] theorem State.setTu_pmc (s : State) (k : Nat) (x : TuRx) : (s.setTu k x).pmc = s.pmc := rfl
@[simp] theorem State.setTu_sec (s : State) (k : Nat) (x : TuRx) : (s.setTu k x).sec = s.sec := rfl
@[simp] theorem State.setTu_pin (s : State) (k : Nat) (x : TuRx) : (s.setTu k x).pin = s.pin := rfl
@[simp] theorem State.setTu_mgt (s : State) (k : Nat) (x : TuRx) : (s.setTu k x).mgt = s.mgt := rfl
@[simp] theorem State.setTu_stp (s : State) (k : Nat) (x : TuRx) : (s.setTu k x).stp = s.stp := rfl
@[simp] theorem State.setTu_ports (s : State) (k : Nat) (x : TuRx) : (s.setTu k x).ports = s.ports := rfl
@[simp] theorem State.setTu_scribe (s : State) (k : Nat) (x : TuRx) : (s.setTu k x).scribe = s.scribe := rfl
@[simp] theorem State.setTu_vc4s (s : State) (k : Nat) (x : TuRx) : (s.setTu k x).vc4s = s.vc4s := rfl
@[simp] theorem State.setTu_h4s (s : State) (k : Nat) (x : TuRx) : (s.setTu k x).h4s = s.h4s := rfl
@[simp] theorem State.setTu_los (s : State) (k : Nat) (x : TuRx) : (s.setTu k x).los = s.los := rfl
@[simp] theorem State.setTu_tribs (s : State) (k : Nat) (x : TuRx) : (s.setTu k x).tribs = s.tribs := rfl
@[simp] theorem State.setTu_hwys (s : State) (k : Nat) (x : TuRx) : (s.setTu k x).hwys = s.hwys := rfl
@[simp] theorem State.setTu_grps (s : State) (k : Nat) (x : TuRx) : (s.setTu k x).grps = s.grps := rfl
@[simp] theorem State.setTu_tsw (s : State) (k : Nat) (x : TuRx) : (s.setTu k x).tsw = s.tsw := rfl
@[simp] theorem State.setTu_cnf (s : State) (k : Nat) (x : TuRx) : (s.setTu k x).cnf = s.cnf := rfl
@[simp] theorem State.setTu_prt (s : State) (k : Nat) (x : TuRx) : (s.setTu k x).prt = s.prt := rfl
@[simp] theorem State.setTu_strs (s : State) (k : Nat) (x : TuRx) : (s.setTu k x).strs = s.strs := rfl
@[simp] theorem State.setTu_gfps (s : State) (k : Nat) (x : TuRx) : (s.setTu k x).gfps = s.gfps := rfl
@[simp] theorem State.setTu_dccs (s : State) (k : Nat) (x : TuRx) : (s.setTu k x).dccs = s.dccs := rfl

/-! ### setTrace -/

@[simp] theorem State.setTrace_get (s : State) (kind i : Nat) (x : Trace) : (s.setTrace kind i x).trace kind i = x := tget_tset_same ..
theorem State.setTrace_get_other (s : State) (kind i : Nat) (x : Trace) (k j : Nat) (h : traceKey k j ≠ traceKey kind i) : (s.setTrace kind i x).trace k j = s.trace k j := tget_tset_other _ _ _ _ _ h
@[simp] theorem State.setTrace_pending (s : State) (kind i : Nat) (x : Trace) : (s.setTrace kind i x).pending = s.pending := rfl
@[simp] theorem State.setTrace_powered (s : State) (kind i : Nat) (x : Trace) : (s.setTrace kind i x).powered = s.powered := rfl
@[simp] theorem State.setTrace_freeIdx (s : State) (kind i : Nat) (x : Trace) : (s.setTrace kind i x).freeIdx = s.freeIdx := rfl
@[simp] theorem State.setTrace_cfg (s : State) (kind i : Nat) (x : Trace) : (s.setTrace kind i x).cfg = s.cfg := rfl
@[simp] theorem State.setTrace_hostMem (s : State) (kind i : Nat) (x : Trace) : (s.setTrace kind i x).hostMem = s.hostMem := rfl
@[simp] theorem State.setTrace_upsets (s : State) (kind i : Nat) (x : Trace) : (s.setTrace kind i x).upsets = s.upsets := rfl
@[simp] theorem State.setTrace_glb (s : State) (kind i : Nat) (x : Trace) : (s.setTrace kind i x).glb = s.glb := rfl
@[simp] theorem State.setTrace_boot (s : State) (kind i : Nat) (x : Trace) : (s.setTrace kind i x).boot = s.boot := rfl
@[simp] theorem State.setTrace_bus (s : State) (kind i : Nat) (x : Trace) : (s.setTrace kind i x).bus = s.bus := rfl
@[simp] theorem State.setTrace_i2c (s : State) (kind i : Nat) (x : Trace) : (s.setTrace kind i x).i2c = s.i2c := rfl
@[simp] theorem State.setTrace_flt (s : State) (kind i : Nat) (x : Trace) : (s.setTrace kind i x).flt = s.flt := rfl
@[simp] theorem State.setTrace_log (s : State) (kind i : Nat) (x : Trace) : (s.setTrace kind i x).log = s.log := rfl
@[simp] theorem State.setTrace_hif (s : State) (kind i : Nat) (x : Trace) : (s.setTrace kind i x).hif = s.hif := rfl
@[simp] theorem State.setTrace_ce (s : State) (kind i : Nat) (x : Trace) : (s.setTrace kind i x).ce = s.ce := rfl
@[simp] theorem State.setTrace_pmc (s : State) (kind i : Nat) (x : Trace) : (s.setTrace kind i x).pmc = s.pmc := rfl
@[simp] theorem State.setTrace_sec (s : State) (kind i : Nat) (x : Trace) : (s.setTrace kind i x).sec = s.sec := rfl
@[simp] theorem State.setTrace_pin (s : State) (kind i : Nat) (x : Trace) : (s.setTrace kind i x).pin = s.pin := rfl
@[simp] theorem State.setTrace_mgt (s : State) (kind i : Nat) (x : Trace) : (s.setTrace kind i x).mgt = s.mgt := rfl
@[simp] theorem State.setTrace_stp (s : State) (kind i : Nat) (x : Trace) : (s.setTrace kind i x).stp = s.stp := rfl
@[simp] theorem State.setTrace_ports (s : State) (kind i : Nat) (x : Trace) : (s.setTrace kind i x).ports = s.ports := rfl
@[simp] theorem State.setTrace_hop (s : State) (kind i : Nat) (x : Trace) : (s.setTrace kind i x).hop = s.hop := rfl
@[simp] theorem State.setTrace_vc4s (s : State) (kind i : Nat) (x : Trace) : (s.setTrace kind i x).vc4s = s.vc4s := rfl
@[simp] theorem State.setTrace_h4s (s : State) (kind i : Nat) (x : Trace) : (s.setTrace kind i x).h4s = s.h4s := rfl
@[simp] theorem State.setTrace_los (s : State) (kind i : Nat) (x : Trace) : (s.setTrace kind i x).los = s.los := rfl
@[simp] theorem State.setTrace_tribs (s : State) (kind i : Nat) (x : Trace) : (s.setTrace kind i x).tribs = s.tribs := rfl
@[simp] theorem State.setTrace_hwys (s : State) (kind i : Nat) (x : Trace) : (s.setTrace kind i x).hwys = s.hwys := rfl
@[simp] theorem State.setTrace_grps (s : State) (kind i : Nat) (x : Trace) : (s.setTrace kind i x).grps = s.grps := rfl
@[simp] theorem State.setTrace_tsw (s : State) (kind i : Nat) (x : Trace) : (s.setTrace kind i x).tsw = s.tsw := rfl
@[simp] theorem State.setTrace_cnf (s : State) (kind i : Nat) (x : Trace) : (s.setTrace kind i x).cnf = s.cnf := rfl
@[simp] theorem State.setTrace_prt (s : State) (kind i : Nat) (x : Trace) : (s.setTrace kind i x).prt = s.prt := rfl
@[simp] theorem State.setTrace_strs (s : State) (kind i : Nat) (x : Trace) : (s.setTrace kind i x).strs = s.strs := rfl
@[simp] theorem State.setTrace_gfps (s : State) (kind i : Nat) (x : Trace) : (s.setTrace kind i x).gfps = s.gfps := rfl
@[simp] theorem State.setTrace_dccs (s : State) (kind i : Nat) (x : Trace) : (s.setTrace kind i x).dccs = s.dccs := rfl

/-! ### setLo -/

@[simp] theorem State.setLo_get (s : State) (k : Nat) (p : LoPath) : (s.setLo k p).lo k = p := tget_tset_same ..
theorem State.setLo_get_other (s : State) (k : Nat) (p : LoPath) (j : Nat) (h : j ≠ k) : (s.setLo k p).lo j = s.lo j := tget_tset_other _ _ _ _ _ h
@[simp] theorem State.setLo_pending (s : State) (k : Nat) (p : LoPath) : (s.setLo k p).pending = s.pending := rfl
@[simp] theorem State.setLo_powered (s : State) (k : Nat) (p : LoPath) : (s.setLo k p).powered = s.powered := rfl
@[simp] theorem State.setLo_freeIdx (s : State) (k : Nat) (p : LoPath) : (s.setLo k p).freeIdx = s.freeIdx := rfl
@[simp] theorem State.setLo_cfg (s : State) (k : Nat) (p : LoPath) : (s.setLo k p).cfg = s.cfg := rfl
@[simp] theorem State.setLo_hostMem (s : State) (k : Nat) (p : LoPath) : (s.setLo k p).hostMem = s.hostMem := rfl
@[simp] theorem State.setLo_upsets (s : State) (k : Nat) (p : LoPath) : (s.setLo k p).upsets = s.upsets := rfl
@[simp] theorem State.setLo_glb (s : State) (k : Nat) (p : LoPath) : (s.setLo k p).glb = s.glb := rfl
@[simp] theorem State.setLo_boot (s : State) (k : Nat) (p : LoPath) : (s.setLo k p).boot = s.boot := rfl
@[simp] theorem State.setLo_bus (s : State) (k : Nat) (p : LoPath) : (s.setLo k p).bus = s.bus := rfl
@[simp] theorem State.setLo_i2c (s : State) (k : Nat) (p : LoPath) : (s.setLo k p).i2c = s.i2c := rfl
@[simp] theorem State.setLo_flt (s : State) (k : Nat) (p : LoPath) : (s.setLo k p).flt = s.flt := rfl
@[simp] theorem State.setLo_log (s : State) (k : Nat) (p : LoPath) : (s.setLo k p).log = s.log := rfl
@[simp] theorem State.setLo_hif (s : State) (k : Nat) (p : LoPath) : (s.setLo k p).hif = s.hif := rfl
@[simp] theorem State.setLo_ce (s : State) (k : Nat) (p : LoPath) : (s.setLo k p).ce = s.ce := rfl
@[simp] theorem State.setLo_pmc (s : State) (k : Nat) (p : LoPath) : (s.setLo k p).pmc = s.pmc := rfl
@[simp] theorem State.setLo_sec (s : State) (k : Nat) (p : LoPath) : (s.setLo k p).sec = s.sec := rfl
@[simp] theorem State.setLo_pin (s : State) (k : Nat) (p : LoPath) : (s.setLo k p).pin = s.pin := rfl
@[simp] theorem State.setLo_mgt (s : State) (k : Nat) (p : LoPath) : (s.setLo k p).mgt = s.mgt := rfl
@[simp] theorem State.setLo_stp (s : State) (k : Nat) (p : LoPath) : (s.setLo k p).stp = s.stp := rfl
@[simp] theorem State.setLo_ports (s : State) (k : Nat) (p : LoPath) : (s.setLo k p).ports = s.ports := rfl
@[simp] theorem State.setLo_hop (s : State) (k : Nat) (p : LoPath) : (s.setLo k p).hop = s.hop := rfl
@[simp] theorem State.setLo_scribe (s : State) (k : Nat) (p : LoPath) : (s.setLo k p).scribe = s.scribe := rfl
@[simp] theorem State.setLo_vc4s (s : State) (k : Nat) (p : LoPath) : (s.setLo k p).vc4s = s.vc4s := rfl
@[simp] theorem State.setLo_h4s (s : State) (k : Nat) (p : LoPath) : (s.setLo k p).h4s = s.h4s := rfl
@[simp] theorem State.setLo_tribs (s : State) (k : Nat) (p : LoPath) : (s.setLo k p).tribs = s.tribs := rfl
@[simp] theorem State.setLo_hwys (s : State) (k : Nat) (p : LoPath) : (s.setLo k p).hwys = s.hwys := rfl
@[simp] theorem State.setLo_grps (s : State) (k : Nat) (p : LoPath) : (s.setLo k p).grps = s.grps := rfl
@[simp] theorem State.setLo_tsw (s : State) (k : Nat) (p : LoPath) : (s.setLo k p).tsw = s.tsw := rfl
@[simp] theorem State.setLo_cnf (s : State) (k : Nat) (p : LoPath) : (s.setLo k p).cnf = s.cnf := rfl
@[simp] theorem State.setLo_prt (s : State) (k : Nat) (p : LoPath) : (s.setLo k p).prt = s.prt := rfl
@[simp] theorem State.setLo_strs (s : State) (k : Nat) (p : LoPath) : (s.setLo k p).strs = s.strs := rfl
@[simp] theorem State.setLo_gfps (s : State) (k : Nat) (p : LoPath) : (s.setLo k p).gfps = s.gfps := rfl
@[simp] theorem State.setLo_dccs (s : State) (k : Nat) (p : LoPath) : (s.setLo k p).dccs = s.dccs := rfl

/-! ### setHwy -/

@[simp] theorem State.setHwy_get (s : State) (n : Nat) (x : Hwy) : (s.setHwy n x).hwy n = x := tget_tset_same ..
theorem State.setHwy_get_other (s : State) (n : Nat) (x : Hwy) (j : Nat) (h : j ≠ n) : (s.setHwy n x).hwy j = s.hwy j := tget_tset_other _ _ _ _ _ h
@[simp] theorem State.setHwy_pending (s : State) (n : Nat) (x : Hwy) : (s.setHwy n x).pending = s.pending := rfl
@[simp] theorem State.setHwy_powered (s : State) (n : Nat) (x : Hwy) : (s.setHwy n x).powered = s.powered := rfl
@[simp] theorem State.setHwy_freeIdx (s : State) (n : Nat) (x : Hwy) : (s.setHwy n x).freeIdx = s.freeIdx := rfl
@[simp] theorem State.setHwy_cfg (s : State) (n : Nat) (x : Hwy) : (s.setHwy n x).cfg = s.cfg := rfl
@[simp] theorem State.setHwy_hostMem (s : State) (n : Nat) (x : Hwy) : (s.setHwy n x).hostMem = s.hostMem := rfl
@[simp] theorem State.setHwy_upsets (s : State) (n : Nat) (x : Hwy) : (s.setHwy n x).upsets = s.upsets := rfl
@[simp] theorem State.setHwy_glb (s : State) (n : Nat) (x : Hwy) : (s.setHwy n x).glb = s.glb := rfl
@[simp] theorem State.setHwy_boot (s : State) (n : Nat) (x : Hwy) : (s.setHwy n x).boot = s.boot := rfl
@[simp] theorem State.setHwy_bus (s : State) (n : Nat) (x : Hwy) : (s.setHwy n x).bus = s.bus := rfl
@[simp] theorem State.setHwy_i2c (s : State) (n : Nat) (x : Hwy) : (s.setHwy n x).i2c = s.i2c := rfl
@[simp] theorem State.setHwy_flt (s : State) (n : Nat) (x : Hwy) : (s.setHwy n x).flt = s.flt := rfl
@[simp] theorem State.setHwy_log (s : State) (n : Nat) (x : Hwy) : (s.setHwy n x).log = s.log := rfl
@[simp] theorem State.setHwy_hif (s : State) (n : Nat) (x : Hwy) : (s.setHwy n x).hif = s.hif := rfl
@[simp] theorem State.setHwy_ce (s : State) (n : Nat) (x : Hwy) : (s.setHwy n x).ce = s.ce := rfl
@[simp] theorem State.setHwy_pmc (s : State) (n : Nat) (x : Hwy) : (s.setHwy n x).pmc = s.pmc := rfl
@[simp] theorem State.setHwy_sec (s : State) (n : Nat) (x : Hwy) : (s.setHwy n x).sec = s.sec := rfl
@[simp] theorem State.setHwy_pin (s : State) (n : Nat) (x : Hwy) : (s.setHwy n x).pin = s.pin := rfl
@[simp] theorem State.setHwy_mgt (s : State) (n : Nat) (x : Hwy) : (s.setHwy n x).mgt = s.mgt := rfl
@[simp] theorem State.setHwy_stp (s : State) (n : Nat) (x : Hwy) : (s.setHwy n x).stp = s.stp := rfl
@[simp] theorem State.setHwy_ports (s : State) (n : Nat) (x : Hwy) : (s.setHwy n x).ports = s.ports := rfl
@[simp] theorem State.setHwy_hop (s : State) (n : Nat) (x : Hwy) : (s.setHwy n x).hop = s.hop := rfl
@[simp] theorem State.setHwy_scribe (s : State) (n : Nat) (x : Hwy) : (s.setHwy n x).scribe = s.scribe := rfl
@[simp] theorem State.setHwy_vc4s (s : State) (n : Nat) (x : Hwy) : (s.setHwy n x).vc4s = s.vc4s := rfl
@[simp] theorem State.setHwy_h4s (s : State) (n : Nat) (x : Hwy) : (s.setHwy n x).h4s = s.h4s := rfl
@[simp] theorem State.setHwy_los (s : State) (n : Nat) (x : Hwy) : (s.setHwy n x).los = s.los := rfl
@[simp] theorem State.setHwy_tribs (s : State) (n : Nat) (x : Hwy) : (s.setHwy n x).tribs = s.tribs := rfl
@[simp] theorem State.setHwy_grps (s : State) (n : Nat) (x : Hwy) : (s.setHwy n x).grps = s.grps := rfl
@[simp] theorem State.setHwy_tsw (s : State) (n : Nat) (x : Hwy) : (s.setHwy n x).tsw = s.tsw := rfl
@[simp] theorem State.setHwy_cnf (s : State) (n : Nat) (x : Hwy) : (s.setHwy n x).cnf = s.cnf := rfl
@[simp] theorem State.setHwy_prt (s : State) (n : Nat) (x : Hwy) : (s.setHwy n x).prt = s.prt := rfl
@[simp] theorem State.setHwy_strs (s : State) (n : Nat) (x : Hwy) : (s.setHwy n x).strs = s.strs := rfl
@[simp] theorem State.setHwy_gfps (s : State) (n : Nat) (x : Hwy) : (s.setHwy n x).gfps = s.gfps := rfl
@[simp] theorem State.setHwy_dccs (s : State) (n : Nat) (x : Hwy) : (s.setHwy n x).dccs = s.dccs := rfl

/-! ### setHwyGrp -/

@[simp] theorem State.setHwyGrp_get (s : State) (g : Nat) (x : HwyGrp) : (s.setHwyGrp g x).hwyGrp g = x := tget_tset_same ..
theorem State.setHwyGrp_get_other (s : State) (g : Nat) (x : HwyGrp) (j : Nat) (h : j ≠ g) : (s.setHwyGrp g x).hwyGrp j = s.hwyGrp j := tget_tset_other _ _ _ _ _ h
@[simp] theorem State.setHwyGrp_pending (s : State) (g : Nat) (x : HwyGrp) : (s.setHwyGrp g x).pending = s.pending := rfl
@[simp] theorem State.setHwyGrp_powered (s : State) (g : Nat) (x : HwyGrp) : (s.setHwyGrp g x).powered = s.powered := rfl
@[simp] theorem State.setHwyGrp_freeIdx (s : State) (g : Nat) (x : HwyGrp) : (s.setHwyGrp g x).freeIdx = s.freeIdx := rfl
@[simp] theorem State.setHwyGrp_cfg (s : State) (g : Nat) (x : HwyGrp) : (s.setHwyGrp g x).cfg = s.cfg := rfl
@[simp] theorem State.setHwyGrp_hostMem (s : State) (g : Nat) (x : HwyGrp) : (s.setHwyGrp g x).hostMem = s.hostMem := rfl
@[simp] theorem State.setHwyGrp_upsets (s : State) (g : Nat) (x : HwyGrp) : (s.setHwyGrp g x).upsets = s.upsets := rfl
@[simp] theorem State.setHwyGrp_glb (s : State) (g : Nat) (x : HwyGrp) : (s.setHwyGrp g x).glb = s.glb := rfl
@[simp] theorem State.setHwyGrp_boot (s : State) (g : Nat) (x : HwyGrp) : (s.setHwyGrp g x).boot = s.boot := rfl
@[simp] theorem State.setHwyGrp_bus (s : State) (g : Nat) (x : HwyGrp) : (s.setHwyGrp g x).bus = s.bus := rfl
@[simp] theorem State.setHwyGrp_i2c (s : State) (g : Nat) (x : HwyGrp) : (s.setHwyGrp g x).i2c = s.i2c := rfl
@[simp] theorem State.setHwyGrp_flt (s : State) (g : Nat) (x : HwyGrp) : (s.setHwyGrp g x).flt = s.flt := rfl
@[simp] theorem State.setHwyGrp_log (s : State) (g : Nat) (x : HwyGrp) : (s.setHwyGrp g x).log = s.log := rfl
@[simp] theorem State.setHwyGrp_hif (s : State) (g : Nat) (x : HwyGrp) : (s.setHwyGrp g x).hif = s.hif := rfl
@[simp] theorem State.setHwyGrp_ce (s : State) (g : Nat) (x : HwyGrp) : (s.setHwyGrp g x).ce = s.ce := rfl
@[simp] theorem State.setHwyGrp_pmc (s : State) (g : Nat) (x : HwyGrp) : (s.setHwyGrp g x).pmc = s.pmc := rfl
@[simp] theorem State.setHwyGrp_sec (s : State) (g : Nat) (x : HwyGrp) : (s.setHwyGrp g x).sec = s.sec := rfl
@[simp] theorem State.setHwyGrp_pin (s : State) (g : Nat) (x : HwyGrp) : (s.setHwyGrp g x).pin = s.pin := rfl
@[simp] theorem State.setHwyGrp_mgt (s : State) (g : Nat) (x : HwyGrp) : (s.setHwyGrp g x).mgt = s.mgt := rfl
@[simp] theorem State.setHwyGrp_stp (s : State) (g : Nat) (x : HwyGrp) : (s.setHwyGrp g x).stp = s.stp := rfl
@[simp] theorem State.setHwyGrp_ports (s : State) (g : Nat) (x : HwyGrp) : (s.setHwyGrp g x).ports = s.ports := rfl
@[simp] theorem State.setHwyGrp_hop (s : State) (g : Nat) (x : HwyGrp) : (s.setHwyGrp g x).hop = s.hop := rfl
@[simp] theorem State.setHwyGrp_scribe (s : State) (g : Nat) (x : HwyGrp) : (s.setHwyGrp g x).scribe = s.scribe := rfl
@[simp] theorem State.setHwyGrp_vc4s (s : State) (g : Nat) (x : HwyGrp) : (s.setHwyGrp g x).vc4s = s.vc4s := rfl
@[simp] theorem State.setHwyGrp_h4s (s : State) (g : Nat) (x : HwyGrp) : (s.setHwyGrp g x).h4s = s.h4s := rfl
@[simp] theorem State.setHwyGrp_los (s : State) (g : Nat) (x : HwyGrp) : (s.setHwyGrp g x).los = s.los := rfl
@[simp] theorem State.setHwyGrp_tribs (s : State) (g : Nat) (x : HwyGrp) : (s.setHwyGrp g x).tribs = s.tribs := rfl
@[simp] theorem State.setHwyGrp_hwys (s : State) (g : Nat) (x : HwyGrp) : (s.setHwyGrp g x).hwys = s.hwys := rfl
@[simp] theorem State.setHwyGrp_tsw (s : State) (g : Nat) (x : HwyGrp) : (s.setHwyGrp g x).tsw = s.tsw := rfl
@[simp] theorem State.setHwyGrp_cnf (s : State) (g : Nat) (x : HwyGrp) : (s.setHwyGrp g x).cnf = s.cnf := rfl
@[simp] theorem State.setHwyGrp_prt (s : State) (g : Nat) (x : HwyGrp) : (s.setHwyGrp g x).prt = s.prt := rfl
@[simp] theorem State.setHwyGrp_strs (s : State) (g : Nat) (x : HwyGrp) : (s.setHwyGrp g x).strs = s.strs := rfl
@[simp] theorem State.setHwyGrp_gfps (s : State) (g : Nat) (x : HwyGrp) : (s.setHwyGrp g x).gfps = s.gfps := rfl
@[simp] theorem State.setHwyGrp_dccs (s : State) (g : Nat) (x : HwyGrp) : (s.setHwyGrp g x).dccs = s.dccs := rfl

/-! ### setGroup -/

@[simp] theorem State.setGroup_get (s : State) (kind g : Nat) (x : Group) : (s.setGroup kind g x).group kind g = x := tget_tset_same ..
theorem State.setGroup_get_other (s : State) (kind g : Nat) (x : Group) (k j : Nat) (h : groupKey k j ≠ groupKey kind g) : (s.setGroup kind g x).group k j = s.group k j := tget_tset_other _ _ _ _ _ h
@[simp] theorem State.setGroup_pending (s : State) (kind g : Nat) (x : Group) : (s.setGroup kind g x).pending = s.pending := rfl
@[simp] theorem State.setGroup_powered (s : State) (kind g : Nat) (x : Group) : (s.setGroup kind g x).powered = s.powered := rfl
@[simp] theorem State.setGroup_freeIdx (s : State) (kind g : Nat) (x : Group) : (s.setGroup kind g x).freeIdx = s.freeIdx := rfl
@[simp] theorem State.setGroup_cfg (s : State) (kind g : Nat) (x : Group) : (s.setGroup kind g x).cfg = s.cfg := rfl
@[simp] theorem State.setGroup_hostMem (s : State) (kind g : Nat) (x : Group) : (s.setGroup kind g x).hostMem = s.hostMem := rfl
@[simp] theorem State.setGroup_upsets (s : State) (kind g : Nat) (x : Group) : (s.setGroup kind g x).upsets = s.upsets := rfl
@[simp] theorem State.setGroup_glb (s : State) (kind g : Nat) (x : Group) : (s.setGroup kind g x).glb = s.glb := rfl
@[simp] theorem State.setGroup_boot (s : State) (kind g : Nat) (x : Group) : (s.setGroup kind g x).boot = s.boot := rfl
@[simp] theorem State.setGroup_bus (s : State) (kind g : Nat) (x : Group) : (s.setGroup kind g x).bus = s.bus := rfl
@[simp] theorem State.setGroup_i2c (s : State) (kind g : Nat) (x : Group) : (s.setGroup kind g x).i2c = s.i2c := rfl
@[simp] theorem State.setGroup_flt (s : State) (kind g : Nat) (x : Group) : (s.setGroup kind g x).flt = s.flt := rfl
@[simp] theorem State.setGroup_log (s : State) (kind g : Nat) (x : Group) : (s.setGroup kind g x).log = s.log := rfl
@[simp] theorem State.setGroup_hif (s : State) (kind g : Nat) (x : Group) : (s.setGroup kind g x).hif = s.hif := rfl
@[simp] theorem State.setGroup_ce (s : State) (kind g : Nat) (x : Group) : (s.setGroup kind g x).ce = s.ce := rfl
@[simp] theorem State.setGroup_pmc (s : State) (kind g : Nat) (x : Group) : (s.setGroup kind g x).pmc = s.pmc := rfl
@[simp] theorem State.setGroup_sec (s : State) (kind g : Nat) (x : Group) : (s.setGroup kind g x).sec = s.sec := rfl
@[simp] theorem State.setGroup_pin (s : State) (kind g : Nat) (x : Group) : (s.setGroup kind g x).pin = s.pin := rfl
@[simp] theorem State.setGroup_mgt (s : State) (kind g : Nat) (x : Group) : (s.setGroup kind g x).mgt = s.mgt := rfl
@[simp] theorem State.setGroup_stp (s : State) (kind g : Nat) (x : Group) : (s.setGroup kind g x).stp = s.stp := rfl
@[simp] theorem State.setGroup_ports (s : State) (kind g : Nat) (x : Group) : (s.setGroup kind g x).ports = s.ports := rfl
@[simp] theorem State.setGroup_hop (s : State) (kind g : Nat) (x : Group) : (s.setGroup kind g x).hop = s.hop := rfl
@[simp] theorem State.setGroup_scribe (s : State) (kind g : Nat) (x : Group) : (s.setGroup kind g x).scribe = s.scribe := rfl
@[simp] theorem State.setGroup_vc4s (s : State) (kind g : Nat) (x : Group) : (s.setGroup kind g x).vc4s = s.vc4s := rfl
@[simp] theorem State.setGroup_h4s (s : State) (kind g : Nat) (x : Group) : (s.setGroup kind g x).h4s = s.h4s := rfl
@[simp] theorem State.setGroup_los (s : State) (kind g : Nat) (x : Group) : (s.setGroup kind g x).los = s.los := rfl
@[simp] theorem State.setGroup_tribs (s : State) (kind g : Nat) (x : Group) : (s.setGroup kind g x).tribs = s.tribs := rfl
@[simp] theorem State.setGroup_hwys (s : State) (kind g : Nat) (x : Group) : (s.setGroup kind g x).hwys = s.hwys := rfl
@[simp] theorem State.setGroup_grps (s : State) (kind g : Nat) (x : Group) : (s.setGroup kind g x).grps = s.grps := rfl
@[simp] theorem State.setGroup_tsw (s : State) (kind g : Nat) (x : Group) : (s.setGroup kind g x).tsw = s.tsw := rfl
@[simp] theorem State.setGroup_cnf (s : State) (kind g : Nat) (x : Group) : (s.setGroup kind g x).cnf = s.cnf := rfl
@[simp] theorem State.setGroup_strs (s : State) (kind g : Nat) (x : Group) : (s.setGroup kind g x).strs = s.strs := rfl
@[simp] theorem State.setGroup_gfps (s : State) (kind g : Nat) (x : Group) : (s.setGroup kind g x).gfps = s.gfps := rfl
@[simp] theorem State.setGroup_dccs (s : State) (kind g : Nat) (x : Group) : (s.setGroup kind g x).dccs = s.dccs := rfl

/-! ### setLaneSt -/

@[simp] theorem State.setLaneSt_get (s : State) (p : Nat) (x : LaneSt) : (s.setLaneSt p x).laneSt p = x := tget_tset_same ..
theorem State.setLaneSt_get_other (s : State) (p : Nat) (x : LaneSt) (j : Nat) (h : j ≠ p) : (s.setLaneSt p x).laneSt j = s.laneSt j := tget_tset_other _ _ _ _ _ h
@[simp] theorem State.setLaneSt_pending (s : State) (p : Nat) (x : LaneSt) : (s.setLaneSt p x).pending = s.pending := rfl
@[simp] theorem State.setLaneSt_powered (s : State) (p : Nat) (x : LaneSt) : (s.setLaneSt p x).powered = s.powered := rfl
@[simp] theorem State.setLaneSt_freeIdx (s : State) (p : Nat) (x : LaneSt) : (s.setLaneSt p x).freeIdx = s.freeIdx := rfl
@[simp] theorem State.setLaneSt_cfg (s : State) (p : Nat) (x : LaneSt) : (s.setLaneSt p x).cfg = s.cfg := rfl
@[simp] theorem State.setLaneSt_hostMem (s : State) (p : Nat) (x : LaneSt) : (s.setLaneSt p x).hostMem = s.hostMem := rfl
@[simp] theorem State.setLaneSt_upsets (s : State) (p : Nat) (x : LaneSt) : (s.setLaneSt p x).upsets = s.upsets := rfl
@[simp] theorem State.setLaneSt_glb (s : State) (p : Nat) (x : LaneSt) : (s.setLaneSt p x).glb = s.glb := rfl
@[simp] theorem State.setLaneSt_boot (s : State) (p : Nat) (x : LaneSt) : (s.setLaneSt p x).boot = s.boot := rfl
@[simp] theorem State.setLaneSt_bus (s : State) (p : Nat) (x : LaneSt) : (s.setLaneSt p x).bus = s.bus := rfl
@[simp] theorem State.setLaneSt_i2c (s : State) (p : Nat) (x : LaneSt) : (s.setLaneSt p x).i2c = s.i2c := rfl
@[simp] theorem State.setLaneSt_flt (s : State) (p : Nat) (x : LaneSt) : (s.setLaneSt p x).flt = s.flt := rfl
@[simp] theorem State.setLaneSt_log (s : State) (p : Nat) (x : LaneSt) : (s.setLaneSt p x).log = s.log := rfl
@[simp] theorem State.setLaneSt_hif (s : State) (p : Nat) (x : LaneSt) : (s.setLaneSt p x).hif = s.hif := rfl
@[simp] theorem State.setLaneSt_ce (s : State) (p : Nat) (x : LaneSt) : (s.setLaneSt p x).ce = s.ce := rfl
@[simp] theorem State.setLaneSt_pmc (s : State) (p : Nat) (x : LaneSt) : (s.setLaneSt p x).pmc = s.pmc := rfl
@[simp] theorem State.setLaneSt_sec (s : State) (p : Nat) (x : LaneSt) : (s.setLaneSt p x).sec = s.sec := rfl
@[simp] theorem State.setLaneSt_pin (s : State) (p : Nat) (x : LaneSt) : (s.setLaneSt p x).pin = s.pin := rfl
@[simp] theorem State.setLaneSt_mgt (s : State) (p : Nat) (x : LaneSt) : (s.setLaneSt p x).mgt = s.mgt := rfl
@[simp] theorem State.setLaneSt_stp (s : State) (p : Nat) (x : LaneSt) : (s.setLaneSt p x).stp = s.stp := rfl
@[simp] theorem State.setLaneSt_ports (s : State) (p : Nat) (x : LaneSt) : (s.setLaneSt p x).ports = s.ports := rfl
@[simp] theorem State.setLaneSt_hop (s : State) (p : Nat) (x : LaneSt) : (s.setLaneSt p x).hop = s.hop := rfl
@[simp] theorem State.setLaneSt_scribe (s : State) (p : Nat) (x : LaneSt) : (s.setLaneSt p x).scribe = s.scribe := rfl
@[simp] theorem State.setLaneSt_vc4s (s : State) (p : Nat) (x : LaneSt) : (s.setLaneSt p x).vc4s = s.vc4s := rfl
@[simp] theorem State.setLaneSt_h4s (s : State) (p : Nat) (x : LaneSt) : (s.setLaneSt p x).h4s = s.h4s := rfl
@[simp] theorem State.setLaneSt_los (s : State) (p : Nat) (x : LaneSt) : (s.setLaneSt p x).los = s.los := rfl
@[simp] theorem State.setLaneSt_tribs (s : State) (p : Nat) (x : LaneSt) : (s.setLaneSt p x).tribs = s.tribs := rfl
@[simp] theorem State.setLaneSt_hwys (s : State) (p : Nat) (x : LaneSt) : (s.setLaneSt p x).hwys = s.hwys := rfl
@[simp] theorem State.setLaneSt_grps (s : State) (p : Nat) (x : LaneSt) : (s.setLaneSt p x).grps = s.grps := rfl
@[simp] theorem State.setLaneSt_tsw (s : State) (p : Nat) (x : LaneSt) : (s.setLaneSt p x).tsw = s.tsw := rfl
@[simp] theorem State.setLaneSt_prt (s : State) (p : Nat) (x : LaneSt) : (s.setLaneSt p x).prt = s.prt := rfl
@[simp] theorem State.setLaneSt_strs (s : State) (p : Nat) (x : LaneSt) : (s.setLaneSt p x).strs = s.strs := rfl
@[simp] theorem State.setLaneSt_gfps (s : State) (p : Nat) (x : LaneSt) : (s.setLaneSt p x).gfps = s.gfps := rfl
@[simp] theorem State.setLaneSt_dccs (s : State) (p : Nat) (x : LaneSt) : (s.setLaneSt p x).dccs = s.dccs := rfl

/-! ### setSpk -/

@[simp] theorem State.setSpk_get (s : State) (c : Nat) (x : Spk) : (s.setSpk c x).spkOf c = x := tget_tset_same ..
theorem State.setSpk_get_other (s : State) (c : Nat) (x : Spk) (j : Nat) (h : j ≠ c) : (s.setSpk c x).spkOf j = s.spkOf j := tget_tset_other _ _ _ _ _ h
@[simp] theorem State.setSpk_pending (s : State) (c : Nat) (x : Spk) : (s.setSpk c x).pending = s.pending := rfl
@[simp] theorem State.setSpk_powered (s : State) (c : Nat) (x : Spk) : (s.setSpk c x).powered = s.powered := rfl
@[simp] theorem State.setSpk_freeIdx (s : State) (c : Nat) (x : Spk) : (s.setSpk c x).freeIdx = s.freeIdx := rfl
@[simp] theorem State.setSpk_cfg (s : State) (c : Nat) (x : Spk) : (s.setSpk c x).cfg = s.cfg := rfl
@[simp] theorem State.setSpk_hostMem (s : State) (c : Nat) (x : Spk) : (s.setSpk c x).hostMem = s.hostMem := rfl
@[simp] theorem State.setSpk_upsets (s : State) (c : Nat) (x : Spk) : (s.setSpk c x).upsets = s.upsets := rfl
@[simp] theorem State.setSpk_glb (s : State) (c : Nat) (x : Spk) : (s.setSpk c x).glb = s.glb := rfl
@[simp] theorem State.setSpk_boot (s : State) (c : Nat) (x : Spk) : (s.setSpk c x).boot = s.boot := rfl
@[simp] theorem State.setSpk_bus (s : State) (c : Nat) (x : Spk) : (s.setSpk c x).bus = s.bus := rfl
@[simp] theorem State.setSpk_i2c (s : State) (c : Nat) (x : Spk) : (s.setSpk c x).i2c = s.i2c := rfl
@[simp] theorem State.setSpk_flt (s : State) (c : Nat) (x : Spk) : (s.setSpk c x).flt = s.flt := rfl
@[simp] theorem State.setSpk_log (s : State) (c : Nat) (x : Spk) : (s.setSpk c x).log = s.log := rfl
@[simp] theorem State.setSpk_hif (s : State) (c : Nat) (x : Spk) : (s.setSpk c x).hif = s.hif := rfl
@[simp] theorem State.setSpk_ce (s : State) (c : Nat) (x : Spk) : (s.setSpk c x).ce = s.ce := rfl
@[simp] theorem State.setSpk_pmc (s : State) (c : Nat) (x : Spk) : (s.setSpk c x).pmc = s.pmc := rfl
@[simp] theorem State.setSpk_sec (s : State) (c : Nat) (x : Spk) : (s.setSpk c x).sec = s.sec := rfl
@[simp] theorem State.setSpk_pin (s : State) (c : Nat) (x : Spk) : (s.setSpk c x).pin = s.pin := rfl
@[simp] theorem State.setSpk_mgt (s : State) (c : Nat) (x : Spk) : (s.setSpk c x).mgt = s.mgt := rfl
@[simp] theorem State.setSpk_stp (s : State) (c : Nat) (x : Spk) : (s.setSpk c x).stp = s.stp := rfl
@[simp] theorem State.setSpk_ports (s : State) (c : Nat) (x : Spk) : (s.setSpk c x).ports = s.ports := rfl
@[simp] theorem State.setSpk_hop (s : State) (c : Nat) (x : Spk) : (s.setSpk c x).hop = s.hop := rfl
@[simp] theorem State.setSpk_scribe (s : State) (c : Nat) (x : Spk) : (s.setSpk c x).scribe = s.scribe := rfl
@[simp] theorem State.setSpk_vc4s (s : State) (c : Nat) (x : Spk) : (s.setSpk c x).vc4s = s.vc4s := rfl
@[simp] theorem State.setSpk_h4s (s : State) (c : Nat) (x : Spk) : (s.setSpk c x).h4s = s.h4s := rfl
@[simp] theorem State.setSpk_los (s : State) (c : Nat) (x : Spk) : (s.setSpk c x).los = s.los := rfl
@[simp] theorem State.setSpk_tribs (s : State) (c : Nat) (x : Spk) : (s.setSpk c x).tribs = s.tribs := rfl
@[simp] theorem State.setSpk_hwys (s : State) (c : Nat) (x : Spk) : (s.setSpk c x).hwys = s.hwys := rfl
@[simp] theorem State.setSpk_grps (s : State) (c : Nat) (x : Spk) : (s.setSpk c x).grps = s.grps := rfl
@[simp] theorem State.setSpk_tsw (s : State) (c : Nat) (x : Spk) : (s.setSpk c x).tsw = s.tsw := rfl
@[simp] theorem State.setSpk_prt (s : State) (c : Nat) (x : Spk) : (s.setSpk c x).prt = s.prt := rfl
@[simp] theorem State.setSpk_strs (s : State) (c : Nat) (x : Spk) : (s.setSpk c x).strs = s.strs := rfl
@[simp] theorem State.setSpk_gfps (s : State) (c : Nat) (x : Spk) : (s.setSpk c x).gfps = s.gfps := rfl
@[simp] theorem State.setSpk_dccs (s : State) (c : Nat) (x : Spk) : (s.setSpk c x).dccs = s.dccs := rfl

/-! ### setStrm -/

@[simp] theorem State.setStrm_get (s : State) (g : Nat) (x : Stream) : (s.setStrm g x).strm g = x := tget_tset_same ..
theorem State.setStrm_get_other (s : State) (g : Nat) (x : Stream) (j : Nat) (h : j ≠ g) : (s.setStrm g x).strm j = s.strm j := tget_tset_other _ _ _ _ _ h
@[simp] theorem State.setStrm_pending (s : State) (g : Nat) (x : Stream) : (s.setStrm g x).pending = s.pending := rfl
@[simp] theorem State.setStrm_powered (s : State) (g : Nat) (x : Stream) : (s.setStrm g x).powered = s.powered := rfl
@[simp] theorem State.setStrm_freeIdx (s : State) (g : Nat) (x : Stream) : (s.setStrm g x).freeIdx = s.freeIdx := rfl
@[simp] theorem State.setStrm_cfg (s : State) (g : Nat) (x : Stream) : (s.setStrm g x).cfg = s.cfg := rfl
@[simp] theorem State.setStrm_hostMem (s : State) (g : Nat) (x : Stream) : (s.setStrm g x).hostMem = s.hostMem := rfl
@[simp] theorem State.setStrm_upsets (s : State) (g : Nat) (x : Stream) : (s.setStrm g x).upsets = s.upsets := rfl
@[simp] theorem State.setStrm_glb (s : State) (g : Nat) (x : Stream) : (s.setStrm g x).glb = s.glb := rfl
@[simp] theorem State.setStrm_boot (s : State) (g : Nat) (x : Stream) : (s.setStrm g x).boot = s.boot := rfl
@[simp] theorem State.setStrm_bus (s : State) (g : Nat) (x : Stream) : (s.setStrm g x).bus = s.bus := rfl
@[simp] theorem State.setStrm_i2c (s : State) (g : Nat) (x : Stream) : (s.setStrm g x).i2c = s.i2c := rfl
@[simp] theorem State.setStrm_flt (s : State) (g : Nat) (x : Stream) : (s.setStrm g x).flt = s.flt := rfl
@[simp] theorem State.setStrm_log (s : State) (g : Nat) (x : Stream) : (s.setStrm g x).log = s.log := rfl
@[simp] theorem State.setStrm_hif (s : State) (g : Nat) (x : Stream) : (s.setStrm g x).hif = s.hif := rfl
@[simp] theorem State.setStrm_ce (s : State) (g : Nat) (x : Stream) : (s.setStrm g x).ce = s.ce := rfl
@[simp] theorem State.setStrm_pmc (s : State) (g : Nat) (x : Stream) : (s.setStrm g x).pmc = s.pmc := rfl
@[simp] theorem State.setStrm_sec (s : State) (g : Nat) (x : Stream) : (s.setStrm g x).sec = s.sec := rfl
@[simp] theorem State.setStrm_pin (s : State) (g : Nat) (x : Stream) : (s.setStrm g x).pin = s.pin := rfl
@[simp] theorem State.setStrm_mgt (s : State) (g : Nat) (x : Stream) : (s.setStrm g x).mgt = s.mgt := rfl
@[simp] theorem State.setStrm_stp (s : State) (g : Nat) (x : Stream) : (s.setStrm g x).stp = s.stp := rfl
@[simp] theorem State.setStrm_ports (s : State) (g : Nat) (x : Stream) : (s.setStrm g x).ports = s.ports := rfl
@[simp] theorem State.setStrm_hop (s : State) (g : Nat) (x : Stream) : (s.setStrm g x).hop = s.hop := rfl
@[simp] theorem State.setStrm_scribe (s : State) (g : Nat) (x : Stream) : (s.setStrm g x).scribe = s.scribe := rfl
@[simp] theorem State.setStrm_vc4s (s : State) (g : Nat) (x : Stream) : (s.setStrm g x).vc4s = s.vc4s := rfl
@[simp] theorem State.setStrm_h4s (s : State) (g : Nat) (x : Stream) : (s.setStrm g x).h4s = s.h4s := rfl
@[simp] theorem State.setStrm_los (s : State) (g : Nat) (x : Stream) : (s.setStrm g x).los = s.los := rfl
@[simp] theorem State.setStrm_tribs (s : State) (g : Nat) (x : Stream) : (s.setStrm g x).tribs = s.tribs := rfl
@[simp] theorem State.setStrm_hwys (s : State) (g : Nat) (x : Stream) : (s.setStrm g x).hwys = s.hwys := rfl
@[simp] theorem State.setStrm_grps (s : State) (g : Nat) (x : Stream) : (s.setStrm g x).grps = s.grps := rfl
@[simp] theorem State.setStrm_tsw (s : State) (g : Nat) (x : Stream) : (s.setStrm g x).tsw = s.tsw := rfl
@[simp] theorem State.setStrm_cnf (s : State) (g : Nat) (x : Stream) : (s.setStrm g x).cnf = s.cnf := rfl
@[simp] theorem State.setStrm_prt (s : State) (g : Nat) (x : Stream) : (s.setStrm g x).prt = s.prt := rfl
@[simp] theorem State.setStrm_gfps (s : State) (g : Nat) (x : Stream) : (s.setStrm g x).gfps = s.gfps := rfl
@[simp] theorem State.setStrm_dccs (s : State) (g : Nat) (x : Stream) : (s.setStrm g x).dccs = s.dccs := rfl

/-! ### setGfp -/

@[simp] theorem State.setGfp_get (s : State) (c : Nat) (x : Gfp) : (s.setGfp c x).gfp c = x := tget_tset_same ..
theorem State.setGfp_get_other (s : State) (c : Nat) (x : Gfp) (j : Nat) (h : j ≠ c) : (s.setGfp c x).gfp j = s.gfp j := tget_tset_other _ _ _ _ _ h
@[simp] theorem State.setGfp_pending (s : State) (c : Nat) (x : Gfp) : (s.setGfp c x).pending = s.pending := rfl
@[simp] theorem State.setGfp_powered (s : State) (c : Nat) (x : Gfp) : (s.setGfp c x).powered = s.powered := rfl
@[simp] theorem State.setGfp_freeIdx (s : State) (c : Nat) (x : Gfp) : (s.setGfp c x).freeIdx = s.freeIdx := rfl
@[simp] theorem State.setGfp_cfg (s : State) (c : Nat) (x : Gfp) : (s.setGfp c x).cfg = s.cfg := rfl
@[simp] theorem State.setGfp_hostMem (s : State) (c : Nat) (x : Gfp) : (s.setGfp c x).hostMem = s.hostMem := rfl
@[simp] theorem State.setGfp_upsets (s : State) (c : Nat) (x : Gfp) : (s.setGfp c x).upsets = s.upsets := rfl
@[simp] theorem State.setGfp_glb (s : State) (c : Nat) (x : Gfp) : (s.setGfp c x).glb = s.glb := rfl
@[simp] theorem State.setGfp_boot (s : State) (c : Nat) (x : Gfp) : (s.setGfp c x).boot = s.boot := rfl
@[simp] theorem State.setGfp_bus (s : State) (c : Nat) (x : Gfp) : (s.setGfp c x).bus = s.bus := rfl
@[simp] theorem State.setGfp_i2c (s : State) (c : Nat) (x : Gfp) : (s.setGfp c x).i2c = s.i2c := rfl
@[simp] theorem State.setGfp_flt (s : State) (c : Nat) (x : Gfp) : (s.setGfp c x).flt = s.flt := rfl
@[simp] theorem State.setGfp_log (s : State) (c : Nat) (x : Gfp) : (s.setGfp c x).log = s.log := rfl
@[simp] theorem State.setGfp_hif (s : State) (c : Nat) (x : Gfp) : (s.setGfp c x).hif = s.hif := rfl
@[simp] theorem State.setGfp_ce (s : State) (c : Nat) (x : Gfp) : (s.setGfp c x).ce = s.ce := rfl
@[simp] theorem State.setGfp_pmc (s : State) (c : Nat) (x : Gfp) : (s.setGfp c x).pmc = s.pmc := rfl
@[simp] theorem State.setGfp_sec (s : State) (c : Nat) (x : Gfp) : (s.setGfp c x).sec = s.sec := rfl
@[simp] theorem State.setGfp_pin (s : State) (c : Nat) (x : Gfp) : (s.setGfp c x).pin = s.pin := rfl
@[simp] theorem State.setGfp_mgt (s : State) (c : Nat) (x : Gfp) : (s.setGfp c x).mgt = s.mgt := rfl
@[simp] theorem State.setGfp_stp (s : State) (c : Nat) (x : Gfp) : (s.setGfp c x).stp = s.stp := rfl
@[simp] theorem State.setGfp_ports (s : State) (c : Nat) (x : Gfp) : (s.setGfp c x).ports = s.ports := rfl
@[simp] theorem State.setGfp_hop (s : State) (c : Nat) (x : Gfp) : (s.setGfp c x).hop = s.hop := rfl
@[simp] theorem State.setGfp_scribe (s : State) (c : Nat) (x : Gfp) : (s.setGfp c x).scribe = s.scribe := rfl
@[simp] theorem State.setGfp_vc4s (s : State) (c : Nat) (x : Gfp) : (s.setGfp c x).vc4s = s.vc4s := rfl
@[simp] theorem State.setGfp_h4s (s : State) (c : Nat) (x : Gfp) : (s.setGfp c x).h4s = s.h4s := rfl
@[simp] theorem State.setGfp_los (s : State) (c : Nat) (x : Gfp) : (s.setGfp c x).los = s.los := rfl
@[simp] theorem State.setGfp_tribs (s : State) (c : Nat) (x : Gfp) : (s.setGfp c x).tribs = s.tribs := rfl
@[simp] theorem State.setGfp_hwys (s : State) (c : Nat) (x : Gfp) : (s.setGfp c x).hwys = s.hwys := rfl
@[simp] theorem State.setGfp_grps (s : State) (c : Nat) (x : Gfp) : (s.setGfp c x).grps = s.grps := rfl
@[simp] theorem State.setGfp_tsw (s : State) (c : Nat) (x : Gfp) : (s.setGfp c x).tsw = s.tsw := rfl
@[simp] theorem State.setGfp_cnf (s : State) (c : Nat) (x : Gfp) : (s.setGfp c x).cnf = s.cnf := rfl
@[simp] theorem State.setGfp_prt (s : State) (c : Nat) (x : Gfp) : (s.setGfp c x).prt = s.prt := rfl
@[simp] theorem State.setGfp_strs (s : State) (c : Nat) (x : Gfp) : (s.setGfp c x).strs = s.strs := rfl
@[simp] theorem State.setGfp_dccs (s : State) (c : Nat) (x : Gfp) : (s.setGfp c x).dccs = s.dccs := rfl

/-! ### setDcc -/

@[simp] theorem State.setDcc_get (s : State) (c : Nat) (x : Dcc) : (s.setDcc c x).dcc c = x := tget_tset_same ..
theorem State.setDcc_get_other (s : State) (c : Nat) (x : Dcc) (j : Nat) (h : j ≠ c) : (s.setDcc c x).dcc j = s.dcc j := tget_tset_other _ _ _ _ _ h
@[simp] theorem State.setDcc_pending (s : State) (c : Nat) (x : Dcc) : (s.setDcc c x).pending = s.pending := rfl
@[simp] theorem State.setDcc_powered (s : State) (c : Nat) (x : Dcc) : (s.setDcc c x).powered = s.powered := rfl
@[simp] theorem State.setDcc_freeIdx (s : State) (c : Nat) (x : Dcc) : (s.setDcc c x).freeIdx = s.freeIdx := rfl
@[simp] theorem State.setDcc_cfg (s : State) (c : Nat) (x : Dcc) : (s.setDcc c x).cfg = s.cfg := rfl
@[simp] theorem State.setDcc_hostMem (s : State) (c : Nat) (x : Dcc) : (s.setDcc c x).hostMem = s.hostMem := rfl
@[simp] theorem State.setDcc_upsets (s : State) (c : Nat) (x : Dcc) : (s.setDcc c x).upsets = s.upsets := rfl
@[simp] theorem State.setDcc_glb (s : State) (c : Nat) (x : Dcc) : (s.setDcc c x).glb = s.glb := rfl
@[simp] theorem State.setDcc_boot (s : State) (c : Nat) (x : Dcc) : (s.setDcc c x).boot = s.boot := rfl
@[simp] theorem State.setDcc_bus (s : State) (c : Nat) (x : Dcc) : (s.setDcc c x).bus = s.bus := rfl
@[simp] theorem State.setDcc_i2c (s : State) (c : Nat) (x : Dcc) : (s.setDcc c x).i2c = s.i2c := rfl
@[simp] theorem State.setDcc_flt (s : State) (c : Nat) (x : Dcc) : (s.setDcc c x).flt = s.flt := rfl
@[simp] theorem State.setDcc_log (s : State) (c : Nat) (x : Dcc) : (s.setDcc c x).log = s.log := rfl
@[simp] theorem State.setDcc_hif (s : State) (c : Nat) (x : Dcc) : (s.setDcc c x).hif = s.hif := rfl
@[simp] theorem State.setDcc_ce (s : State) (c : Nat) (x : Dcc) : (s.setDcc c x).ce = s.ce := rfl
@[simp] theorem State.setDcc_pmc (s : State) (c : Nat) (x : Dcc) : (s.setDcc c x).pmc = s.pmc := rfl
@[simp] theorem State.setDcc_sec (s : State) (c : Nat) (x : Dcc) : (s.setDcc c x).sec = s.sec := rfl
@[simp] theorem State.setDcc_pin (s : State) (c : Nat) (x : Dcc) : (s.setDcc c x).pin = s.pin := rfl
@[simp] theorem State.setDcc_mgt (s : State) (c : Nat) (x : Dcc) : (s.setDcc c x).mgt = s.mgt := rfl
@[simp] theorem State.setDcc_stp (s : State) (c : Nat) (x : Dcc) : (s.setDcc c x).stp = s.stp := rfl
@[simp] theorem State.setDcc_ports (s : State) (c : Nat) (x : Dcc) : (s.setDcc c x).ports = s.ports := rfl
@[simp] theorem State.setDcc_hop (s : State) (c : Nat) (x : Dcc) : (s.setDcc c x).hop = s.hop := rfl
@[simp] theorem State.setDcc_scribe (s : State) (c : Nat) (x : Dcc) : (s.setDcc c x).scribe = s.scribe := rfl
@[simp] theorem State.setDcc_vc4s (s : State) (c : Nat) (x : Dcc) : (s.setDcc c x).vc4s = s.vc4s := rfl
@[simp] theorem State.setDcc_h4s (s : State) (c : Nat) (x : Dcc) : (s.setDcc c x).h4s = s.h4s := rfl
@[simp] theorem State.setDcc_los (s : State) (c : Nat) (x : Dcc) : (s.setDcc c x).los = s.los := rfl
@[simp] theorem State.setDcc_tribs (s : State) (c : Nat) (x : Dcc) : (s.setDcc c x).tribs = s.tribs := rfl
@[simp] theorem State.setDcc_hwys (s : State) (c : Nat) (x : Dcc) : (s.setDcc c x).hwys = s.hwys := rfl
@[simp] theorem State.setDcc_grps (s : State) (c : Nat) (x : Dcc) : (s.setDcc c x).grps = s.grps := rfl
@[simp] theorem State.setDcc_tsw (s : State) (c : Nat) (x : Dcc) : (s.setDcc c x).tsw = s.tsw := rfl
@[simp] theorem State.setDcc_cnf (s : State) (c : Nat) (x : Dcc) : (s.setDcc c x).cnf = s.cnf := rfl
@[simp] theorem State.setDcc_prt (s : State) (c : Nat) (x : Dcc) : (s.setDcc c x).prt = s.prt := rfl
@[simp] theorem State.setDcc_strs (s : State) (c : Nat) (x : Dcc) : (s.setDcc c x).strs = s.strs := rfl
@[simp] theorem State.setDcc_gfps (s : State) (c : Nat) (x : Dcc) : (s.setDcc c x).gfps = s.gfps := rfl

/-! ### setKey -/

@[simp] theorem State.setKey_get (s : State) (i : Nat) (x : KeySlot) : (s.setKey i x).key i = x := tget_tset_same ..
theorem State.setKey_get_other (s : State) (i : Nat) (x : KeySlot) (j : Nat) (h : j ≠ i) : (s.setKey i x).key j = s.key j := tget_tset_other _ _ _ _ _ h
@[simp] theorem State.setKey_pending (s : State) (i : Nat) (x : KeySlot) : (s.setKey i x).pending = s.pending := rfl
@[simp] theorem State.setKey_powered (s : State) (i : Nat) (x : KeySlot) : (s.setKey i x).powered = s.powered := rfl
@[simp] theorem State.setKey_freeIdx (s : State) (i : Nat) (x : KeySlot) : (s.setKey i x).freeIdx = s.freeIdx := rfl
@[simp] theorem State.setKey_cfg (s : State) (i : Nat) (x : KeySlot) : (s.setKey i x).cfg = s.cfg := rfl
@[simp] theorem State.setKey_hostMem (s : State) (i : Nat) (x : KeySlot) : (s.setKey i x).hostMem = s.hostMem := rfl
@[simp] theorem State.setKey_upsets (s : State) (i : Nat) (x : KeySlot) : (s.setKey i x).upsets = s.upsets := rfl
@[simp] theorem State.setKey_glb (s : State) (i : Nat) (x : KeySlot) : (s.setKey i x).glb = s.glb := rfl
@[simp] theorem State.setKey_boot (s : State) (i : Nat) (x : KeySlot) : (s.setKey i x).boot = s.boot := rfl
@[simp] theorem State.setKey_bus (s : State) (i : Nat) (x : KeySlot) : (s.setKey i x).bus = s.bus := rfl
@[simp] theorem State.setKey_i2c (s : State) (i : Nat) (x : KeySlot) : (s.setKey i x).i2c = s.i2c := rfl
@[simp] theorem State.setKey_flt (s : State) (i : Nat) (x : KeySlot) : (s.setKey i x).flt = s.flt := rfl
@[simp] theorem State.setKey_log (s : State) (i : Nat) (x : KeySlot) : (s.setKey i x).log = s.log := rfl
@[simp] theorem State.setKey_hif (s : State) (i : Nat) (x : KeySlot) : (s.setKey i x).hif = s.hif := rfl
@[simp] theorem State.setKey_ce (s : State) (i : Nat) (x : KeySlot) : (s.setKey i x).ce = s.ce := rfl
@[simp] theorem State.setKey_pmc (s : State) (i : Nat) (x : KeySlot) : (s.setKey i x).pmc = s.pmc := rfl
@[simp] theorem State.setKey_pin (s : State) (i : Nat) (x : KeySlot) : (s.setKey i x).pin = s.pin := rfl
@[simp] theorem State.setKey_mgt (s : State) (i : Nat) (x : KeySlot) : (s.setKey i x).mgt = s.mgt := rfl
@[simp] theorem State.setKey_stp (s : State) (i : Nat) (x : KeySlot) : (s.setKey i x).stp = s.stp := rfl
@[simp] theorem State.setKey_ports (s : State) (i : Nat) (x : KeySlot) : (s.setKey i x).ports = s.ports := rfl
@[simp] theorem State.setKey_hop (s : State) (i : Nat) (x : KeySlot) : (s.setKey i x).hop = s.hop := rfl
@[simp] theorem State.setKey_scribe (s : State) (i : Nat) (x : KeySlot) : (s.setKey i x).scribe = s.scribe := rfl
@[simp] theorem State.setKey_vc4s (s : State) (i : Nat) (x : KeySlot) : (s.setKey i x).vc4s = s.vc4s := rfl
@[simp] theorem State.setKey_h4s (s : State) (i : Nat) (x : KeySlot) : (s.setKey i x).h4s = s.h4s := rfl
@[simp] theorem State.setKey_los (s : State) (i : Nat) (x : KeySlot) : (s.setKey i x).los = s.los := rfl
@[simp] theorem State.setKey_tribs (s : State) (i : Nat) (x : KeySlot) : (s.setKey i x).tribs = s.tribs := rfl
@[simp] theorem State.setKey_hwys (s : State) (i : Nat) (x : KeySlot) : (s.setKey i x).hwys = s.hwys := rfl
@[simp] theorem State.setKey_grps (s : State) (i : Nat) (x : KeySlot) : (s.setKey i x).grps = s.grps := rfl
@[simp] theorem State.setKey_tsw (s : State) (i : Nat) (x : KeySlot) : (s.setKey i x).tsw = s.tsw := rfl
@[simp] theorem State.setKey_cnf (s : State) (i : Nat) (x : KeySlot) : (s.setKey i x).cnf = s.cnf := rfl
@[simp] theorem State.setKey_prt (s : State) (i : Nat) (x : KeySlot) : (s.setKey i x).prt = s.prt := rfl
@[simp] theorem State.setKey_strs (s : State) (i : Nat) (x : KeySlot) : (s.setKey i x).strs = s.strs := rfl
@[simp] theorem State.setKey_gfps (s : State) (i : Nat) (x : KeySlot) : (s.setKey i x).gfps = s.gfps := rfl
@[simp] theorem State.setKey_dccs (s : State) (i : Nat) (x : KeySlot) : (s.setKey i x).dccs = s.dccs := rfl

/-! ### setXcPage -/

@[simp] theorem State.setXcPage_get (s : State) (b : Bool) (t : Tab Word) : (s.setXcPage b t).xcTab b = t := by cases b <;> rfl
@[simp] theorem State.setXcPage_get_other (s : State) (b : Bool) (t : Tab Word) : (s.setXcPage b t).xcTab (!b) = s.xcTab (!b) := by cases b <;> rfl
@[simp] theorem State.setXcPage_pending (s : State) (b : Bool) (t : Tab Word) : (s.setXcPage b t).pending = s.pending := rfl
@[simp] theorem State.setXcPage_powered (s : State) (b : Bool) (t : Tab Word) : (s.setXcPage b t).powered = s.powered := rfl
@[simp] theorem State.setXcPage_freeIdx (s : State) (b : Bool) (t : Tab Word) : (s.setXcPage b t).freeIdx = s.freeIdx := rfl
@[simp] theorem State.setXcPage_cfg (s : State) (b : Bool) (t : Tab Word) : (s.setXcPage b t).cfg = s.cfg := rfl
@[simp] theorem State.setXcPage_hostMem (s : State) (b : Bool) (t : Tab Word) : (s.setXcPage b t).hostMem = s.hostMem := rfl
@[simp] theorem State.setXcPage_upsets (s : State) (b : Bool) (t : Tab Word) : (s.setXcPage b t).upsets = s.upsets := rfl
@[simp] theorem State.setXcPage_glb (s : State) (b : Bool) (t : Tab Word) : (s.setXcPage b t).glb = s.glb := rfl
@[simp] theorem State.setXcPage_boot (s : State) (b : Bool) (t : Tab Word) : (s.setXcPage b t).boot = s.boot := rfl
@[simp] theorem State.setXcPage_bus (s : State) (b : Bool) (t : Tab Word) : (s.setXcPage b t).bus = s.bus := rfl
@[simp] theorem State.setXcPage_i2c (s : State) (b : Bool) (t : Tab Word) : (s.setXcPage b t).i2c = s.i2c := rfl
@[simp] theorem State.setXcPage_flt (s : State) (b : Bool) (t : Tab Word) : (s.setXcPage b t).flt = s.flt := rfl
@[simp] theorem State.setXcPage_log (s : State) (b : Bool) (t : Tab Word) : (s.setXcPage b t).log = s.log := rfl
@[simp] theorem State.setXcPage_hif (s : State) (b : Bool) (t : Tab Word) : (s.setXcPage b t).hif = s.hif := rfl
@[simp] theorem State.setXcPage_ce (s : State) (b : Bool) (t : Tab Word) : (s.setXcPage b t).ce = s.ce := rfl
@[simp] theorem State.setXcPage_pmc (s : State) (b : Bool) (t : Tab Word) : (s.setXcPage b t).pmc = s.pmc := rfl
@[simp] theorem State.setXcPage_sec (s : State) (b : Bool) (t : Tab Word) : (s.setXcPage b t).sec = s.sec := rfl
@[simp] theorem State.setXcPage_pin (s : State) (b : Bool) (t : Tab Word) : (s.setXcPage b t).pin = s.pin := rfl
@[simp] theorem State.setXcPage_mgt (s : State) (b : Bool) (t : Tab Word) : (s.setXcPage b t).mgt = s.mgt := rfl
@[simp] theorem State.setXcPage_stp (s : State) (b : Bool) (t : Tab Word) : (s.setXcPage b t).stp = s.stp := rfl
@[simp] theorem State.setXcPage_ports (s : State) (b : Bool) (t : Tab Word) : (s.setXcPage b t).ports = s.ports := rfl
@[simp] theorem State.setXcPage_scribe (s : State) (b : Bool) (t : Tab Word) : (s.setXcPage b t).scribe = s.scribe := rfl
@[simp] theorem State.setXcPage_vc4s (s : State) (b : Bool) (t : Tab Word) : (s.setXcPage b t).vc4s = s.vc4s := rfl
@[simp] theorem State.setXcPage_h4s (s : State) (b : Bool) (t : Tab Word) : (s.setXcPage b t).h4s = s.h4s := rfl
@[simp] theorem State.setXcPage_los (s : State) (b : Bool) (t : Tab Word) : (s.setXcPage b t).los = s.los := rfl
@[simp] theorem State.setXcPage_tribs (s : State) (b : Bool) (t : Tab Word) : (s.setXcPage b t).tribs = s.tribs := rfl
@[simp] theorem State.setXcPage_hwys (s : State) (b : Bool) (t : Tab Word) : (s.setXcPage b t).hwys = s.hwys := rfl
@[simp] theorem State.setXcPage_grps (s : State) (b : Bool) (t : Tab Word) : (s.setXcPage b t).grps = s.grps := rfl
@[simp] theorem State.setXcPage_tsw (s : State) (b : Bool) (t : Tab Word) : (s.setXcPage b t).tsw = s.tsw := rfl
@[simp] theorem State.setXcPage_cnf (s : State) (b : Bool) (t : Tab Word) : (s.setXcPage b t).cnf = s.cnf := rfl
@[simp] theorem State.setXcPage_prt (s : State) (b : Bool) (t : Tab Word) : (s.setXcPage b t).prt = s.prt := rfl
@[simp] theorem State.setXcPage_strs (s : State) (b : Bool) (t : Tab Word) : (s.setXcPage b t).strs = s.strs := rfl
@[simp] theorem State.setXcPage_gfps (s : State) (b : Bool) (t : Tab Word) : (s.setXcPage b t).gfps = s.gfps := rfl
@[simp] theorem State.setXcPage_dccs (s : State) (b : Bool) (t : Tab Word) : (s.setXcPage b t).dccs = s.dccs := rfl

/-! ### setTswPage -/

@[simp] theorem State.setTswPage_get (s : State) (b : Bool) (t : Tab Word) : (s.setTswPage b t).tswPage b = t := by cases b <;> rfl
@[simp] theorem State.setTswPage_get_other (s : State) (b : Bool) (t : Tab Word) : (s.setTswPage b t).tswPage (!b) = s.tswPage (!b) := by cases b <;> rfl
@[simp] theorem State.setTswPage_pending (s : State) (b : Bool) (t : Tab Word) : (s.setTswPage b t).pending = s.pending := rfl
@[simp] theorem State.setTswPage_powered (s : State) (b : Bool) (t : Tab Word) : (s.setTswPage b t).powered = s.powered := rfl
@[simp] theorem State.setTswPage_freeIdx (s : State) (b : Bool) (t : Tab Word) : (s.setTswPage b t).freeIdx = s.freeIdx := rfl
@[simp] theorem State.setTswPage_cfg (s : State) (b : Bool) (t : Tab Word) : (s.setTswPage b t).cfg = s.cfg := rfl
@[simp] theorem State.setTswPage_hostMem (s : State) (b : Bool) (t : Tab Word) : (s.setTswPage b t).hostMem = s.hostMem := rfl
@[simp] theorem State.setTswPage_upsets (s : State) (b : Bool) (t : Tab Word) : (s.setTswPage b t).upsets = s.upsets := rfl
@[simp] theorem State.setTswPage_glb (s : State) (b : Bool) (t : Tab Word) : (s.setTswPage b t).glb = s.glb := rfl
@[simp] theorem State.setTswPage_boot (s : State) (b : Bool) (t : Tab Word) : (s.setTswPage b t).boot = s.boot := rfl
@[simp] theorem State.setTswPage_bus (s : State) (b : Bool) (t : Tab Word) : (s.setTswPage b t).bus = s.bus := rfl
@[simp] theorem State.setTswPage_i2c (s : State) (b : Bool) (t : Tab Word) : (s.setTswPage b t).i2c = s.i2c := rfl
@[simp] theorem State.setTswPage_flt (s : State) (b : Bool) (t : Tab Word) : (s.setTswPage b t).flt = s.flt := rfl
@[simp] theorem State.setTswPage_log (s : State) (b : Bool) (t : Tab Word) : (s.setTswPage b t).log = s.log := rfl
@[simp] theorem State.setTswPage_hif (s : State) (b : Bool) (t : Tab Word) : (s.setTswPage b t).hif = s.hif := rfl
@[simp] theorem State.setTswPage_ce (s : State) (b : Bool) (t : Tab Word) : (s.setTswPage b t).ce = s.ce := rfl
@[simp] theorem State.setTswPage_pmc (s : State) (b : Bool) (t : Tab Word) : (s.setTswPage b t).pmc = s.pmc := rfl
@[simp] theorem State.setTswPage_sec (s : State) (b : Bool) (t : Tab Word) : (s.setTswPage b t).sec = s.sec := rfl
@[simp] theorem State.setTswPage_pin (s : State) (b : Bool) (t : Tab Word) : (s.setTswPage b t).pin = s.pin := rfl
@[simp] theorem State.setTswPage_mgt (s : State) (b : Bool) (t : Tab Word) : (s.setTswPage b t).mgt = s.mgt := rfl
@[simp] theorem State.setTswPage_stp (s : State) (b : Bool) (t : Tab Word) : (s.setTswPage b t).stp = s.stp := rfl
@[simp] theorem State.setTswPage_ports (s : State) (b : Bool) (t : Tab Word) : (s.setTswPage b t).ports = s.ports := rfl
@[simp] theorem State.setTswPage_hop (s : State) (b : Bool) (t : Tab Word) : (s.setTswPage b t).hop = s.hop := rfl
@[simp] theorem State.setTswPage_scribe (s : State) (b : Bool) (t : Tab Word) : (s.setTswPage b t).scribe = s.scribe := rfl
@[simp] theorem State.setTswPage_vc4s (s : State) (b : Bool) (t : Tab Word) : (s.setTswPage b t).vc4s = s.vc4s := rfl
@[simp] theorem State.setTswPage_h4s (s : State) (b : Bool) (t : Tab Word) : (s.setTswPage b t).h4s = s.h4s := rfl
@[simp] theorem State.setTswPage_los (s : State) (b : Bool) (t : Tab Word) : (s.setTswPage b t).los = s.los := rfl
@[simp] theorem State.setTswPage_tribs (s : State) (b : Bool) (t : Tab Word) : (s.setTswPage b t).tribs = s.tribs := rfl
@[simp] theorem State.setTswPage_hwys (s : State) (b : Bool) (t : Tab Word) : (s.setTswPage b t).hwys = s.hwys := rfl
@[simp] theorem State.setTswPage_grps (s : State) (b : Bool) (t : Tab Word) : (s.setTswPage b t).grps = s.grps := rfl
@[simp] theorem State.setTswPage_cnf (s : State) (b : Bool) (t : Tab Word) : (s.setTswPage b t).cnf = s.cnf := rfl
@[simp] theorem State.setTswPage_prt (s : State) (b : Bool) (t : Tab Word) : (s.setTswPage b t).prt = s.prt := rfl
@[simp] theorem State.setTswPage_strs (s : State) (b : Bool) (t : Tab Word) : (s.setTswPage b t).strs = s.strs := rfl
@[simp] theorem State.setTswPage_gfps (s : State) (b : Bool) (t : Tab Word) : (s.setTswPage b t).gfps = s.gfps := rfl
@[simp] theorem State.setTswPage_dccs (s : State) (b : Bool) (t : Tab Word) : (s.setTswPage b t).dccs = s.dccs := rfl

/-! ### setCnfParts -/

@[simp] theorem State.setCnfParts_get (s : State) (b : Bool) (t : Tab PEntry) : (s.setCnfParts b t).cnfParts b = t := by cases b <;> rfl
@[simp] theorem State.setCnfParts_get_other (s : State) (b : Bool) (t : Tab PEntry) : (s.setCnfParts b t).cnfParts (!b) = s.cnfParts (!b) := by cases b <;> rfl
@[simp] theorem State.setCnfParts_pending (s : State) (b : Bool) (t : Tab PEntry) : (s.setCnfParts b t).pending = s.pending := rfl
@[simp] theorem State.setCnfParts_powered (s : State) (b : Bool) (t : Tab PEntry) : (s.setCnfParts b t).powered = s.powered := rfl
@[simp] theorem State.setCnfParts_freeIdx (s : State) (b : Bool) (t : Tab PEntry) : (s.setCnfParts b t).freeIdx = s.freeIdx := rfl
@[simp] theorem State.setCnfParts_cfg (s : State) (b : Bool) (t : Tab PEntry) : (s.setCnfParts b t).cfg = s.cfg := rfl
@[simp] theorem State.setCnfParts_hostMem (s : State) (b : Bool) (t : Tab PEntry) : (s.setCnfParts b t).hostMem = s.hostMem := rfl
@[simp] theorem State.setCnfParts_upsets (s : State) (b : Bool) (t : Tab PEntry) : (s.setCnfParts b t).upsets = s.upsets := rfl
@[simp] theorem State.setCnfParts_glb (s : State) (b : Bool) (t : Tab PEntry) : (s.setCnfParts b t).glb = s.glb := rfl
@[simp] theorem State.setCnfParts_boot (s : State) (b : Bool) (t : Tab PEntry) : (s.setCnfParts b t).boot = s.boot := rfl
@[simp] theorem State.setCnfParts_bus (s : State) (b : Bool) (t : Tab PEntry) : (s.setCnfParts b t).bus = s.bus := rfl
@[simp] theorem State.setCnfParts_i2c (s : State) (b : Bool) (t : Tab PEntry) : (s.setCnfParts b t).i2c = s.i2c := rfl
@[simp] theorem State.setCnfParts_flt (s : State) (b : Bool) (t : Tab PEntry) : (s.setCnfParts b t).flt = s.flt := rfl
@[simp] theorem State.setCnfParts_log (s : State) (b : Bool) (t : Tab PEntry) : (s.setCnfParts b t).log = s.log := rfl
@[simp] theorem State.setCnfParts_hif (s : State) (b : Bool) (t : Tab PEntry) : (s.setCnfParts b t).hif = s.hif := rfl
@[simp] theorem State.setCnfParts_ce (s : State) (b : Bool) (t : Tab PEntry) : (s.setCnfParts b t).ce = s.ce := rfl
@[simp] theorem State.setCnfParts_pmc (s : State) (b : Bool) (t : Tab PEntry) : (s.setCnfParts b t).pmc = s.pmc := rfl
@[simp] theorem State.setCnfParts_sec (s : State) (b : Bool) (t : Tab PEntry) : (s.setCnfParts b t).sec = s.sec := rfl
@[simp] theorem State.setCnfParts_pin (s : State) (b : Bool) (t : Tab PEntry) : (s.setCnfParts b t).pin = s.pin := rfl
@[simp] theorem State.setCnfParts_mgt (s : State) (b : Bool) (t : Tab PEntry) : (s.setCnfParts b t).mgt = s.mgt := rfl
@[simp] theorem State.setCnfParts_stp (s : State) (b : Bool) (t : Tab PEntry) : (s.setCnfParts b t).stp = s.stp := rfl
@[simp] theorem State.setCnfParts_ports (s : State) (b : Bool) (t : Tab PEntry) : (s.setCnfParts b t).ports = s.ports := rfl
@[simp] theorem State.setCnfParts_hop (s : State) (b : Bool) (t : Tab PEntry) : (s.setCnfParts b t).hop = s.hop := rfl
@[simp] theorem State.setCnfParts_scribe (s : State) (b : Bool) (t : Tab PEntry) : (s.setCnfParts b t).scribe = s.scribe := rfl
@[simp] theorem State.setCnfParts_vc4s (s : State) (b : Bool) (t : Tab PEntry) : (s.setCnfParts b t).vc4s = s.vc4s := rfl
@[simp] theorem State.setCnfParts_h4s (s : State) (b : Bool) (t : Tab PEntry) : (s.setCnfParts b t).h4s = s.h4s := rfl
@[simp] theorem State.setCnfParts_los (s : State) (b : Bool) (t : Tab PEntry) : (s.setCnfParts b t).los = s.los := rfl
@[simp] theorem State.setCnfParts_tribs (s : State) (b : Bool) (t : Tab PEntry) : (s.setCnfParts b t).tribs = s.tribs := rfl
@[simp] theorem State.setCnfParts_hwys (s : State) (b : Bool) (t : Tab PEntry) : (s.setCnfParts b t).hwys = s.hwys := rfl
@[simp] theorem State.setCnfParts_grps (s : State) (b : Bool) (t : Tab PEntry) : (s.setCnfParts b t).grps = s.grps := rfl
@[simp] theorem State.setCnfParts_tsw (s : State) (b : Bool) (t : Tab PEntry) : (s.setCnfParts b t).tsw = s.tsw := rfl
@[simp] theorem State.setCnfParts_prt (s : State) (b : Bool) (t : Tab PEntry) : (s.setCnfParts b t).prt = s.prt := rfl
@[simp] theorem State.setCnfParts_strs (s : State) (b : Bool) (t : Tab PEntry) : (s.setCnfParts b t).strs = s.strs := rfl
@[simp] theorem State.setCnfParts_gfps (s : State) (b : Bool) (t : Tab PEntry) : (s.setCnfParts b t).gfps = s.gfps := rfl
@[simp] theorem State.setCnfParts_dccs (s : State) (b : Bool) (t : Tab PEntry) : (s.setCnfParts b t).dccs = s.dccs := rfl

/-! ### setCnfConfs -/

@[simp] theorem State.setCnfConfs_get (s : State) (b : Bool) (t : Tab CEntry) : (s.setCnfConfs b t).cnfConfs b = t := by cases b <;> rfl
@[simp] theorem State.setCnfConfs_get_other (s : State) (b : Bool) (t : Tab CEntry) : (s.setCnfConfs b t).cnfConfs (!b) = s.cnfConfs (!b) := by cases b <;> rfl
@[simp] theorem State.setCnfConfs_pending (s : State) (b : Bool) (t : Tab CEntry) : (s.setCnfConfs b t).pending = s.pending := rfl
@[simp] theorem State.setCnfConfs_powered (s : State) (b : Bool) (t : Tab CEntry) : (s.setCnfConfs b t).powered = s.powered := rfl
@[simp] theorem State.setCnfConfs_freeIdx (s : State) (b : Bool) (t : Tab CEntry) : (s.setCnfConfs b t).freeIdx = s.freeIdx := rfl
@[simp] theorem State.setCnfConfs_cfg (s : State) (b : Bool) (t : Tab CEntry) : (s.setCnfConfs b t).cfg = s.cfg := rfl
@[simp] theorem State.setCnfConfs_hostMem (s : State) (b : Bool) (t : Tab CEntry) : (s.setCnfConfs b t).hostMem = s.hostMem := rfl
@[simp] theorem State.setCnfConfs_upsets (s : State) (b : Bool) (t : Tab CEntry) : (s.setCnfConfs b t).upsets = s.upsets := rfl
@[simp] theorem State.setCnfConfs_glb (s : State) (b : Bool) (t : Tab CEntry) : (s.setCnfConfs b t).glb = s.glb := rfl
@[simp] theorem State.setCnfConfs_boot (s : State) (b : Bool) (t : Tab CEntry) : (s.setCnfConfs b t).boot = s.boot := rfl
@[simp] theorem State.setCnfConfs_bus (s : State) (b : Bool) (t : Tab CEntry) : (s.setCnfConfs b t).bus = s.bus := rfl
@[simp] theorem State.setCnfConfs_i2c (s : State) (b : Bool) (t : Tab CEntry) : (s.setCnfConfs b t).i2c = s.i2c := rfl
@[simp] theorem State.setCnfConfs_flt (s : State) (b : Bool) (t : Tab CEntry) : (s.setCnfConfs b t).flt = s.flt := rfl
@[simp] theorem State.setCnfConfs_log (s : State) (b : Bool) (t : Tab CEntry) : (s.setCnfConfs b t).log = s.log := rfl
@[simp] theorem State.setCnfConfs_hif (s : State) (b : Bool) (t : Tab CEntry) : (s.setCnfConfs b t).hif = s.hif := rfl
@[simp] theorem State.setCnfConfs_ce (s : State) (b : Bool) (t : Tab CEntry) : (s.setCnfConfs b t).ce = s.ce := rfl
@[simp] theorem State.setCnfConfs_pmc (s : State) (b : Bool) (t : Tab CEntry) : (s.setCnfConfs b t).pmc = s.pmc := rfl
@[simp] theorem State.setCnfConfs_sec (s : State) (b : Bool) (t : Tab CEntry) : (s.setCnfConfs b t).sec = s.sec := rfl
@[simp] theorem State.setCnfConfs_pin (s : State) (b : Bool) (t : Tab CEntry) : (s.setCnfConfs b t).pin = s.pin := rfl
@[simp] theorem State.setCnfConfs_mgt (s : State) (b : Bool) (t : Tab CEntry) : (s.setCnfConfs b t).mgt = s.mgt := rfl
@[simp] theorem State.setCnfConfs_stp (s : State) (b : Bool) (t : Tab CEntry) : (s.setCnfConfs b t).stp = s.stp := rfl
@[simp] theorem State.setCnfConfs_ports (s : State) (b : Bool) (t : Tab CEntry) : (s.setCnfConfs b t).ports = s.ports := rfl
@[simp] theorem State.setCnfConfs_hop (s : State) (b : Bool) (t : Tab CEntry) : (s.setCnfConfs b t).hop = s.hop := rfl
@[simp] theorem State.setCnfConfs_scribe (s : State) (b : Bool) (t : Tab CEntry) : (s.setCnfConfs b t).scribe = s.scribe := rfl
@[simp] theorem State.setCnfConfs_vc4s (s : State) (b : Bool) (t : Tab CEntry) : (s.setCnfConfs b t).vc4s = s.vc4s := rfl
@[simp] theorem State.setCnfConfs_h4s (s : State) (b : Bool) (t : Tab CEntry) : (s.setCnfConfs b t).h4s = s.h4s := rfl
@[simp] theorem State.setCnfConfs_los (s : State) (b : Bool) (t : Tab CEntry) : (s.setCnfConfs b t).los = s.los := rfl
@[simp] theorem State.setCnfConfs_tribs (s : State) (b : Bool) (t : Tab CEntry) : (s.setCnfConfs b t).tribs = s.tribs := rfl
@[simp] theorem State.setCnfConfs_hwys (s : State) (b : Bool) (t : Tab CEntry) : (s.setCnfConfs b t).hwys = s.hwys := rfl
@[simp] theorem State.setCnfConfs_grps (s : State) (b : Bool) (t : Tab CEntry) : (s.setCnfConfs b t).grps = s.grps := rfl
@[simp] theorem State.setCnfConfs_tsw (s : State) (b : Bool) (t : Tab CEntry) : (s.setCnfConfs b t).tsw = s.tsw := rfl
@[simp] theorem State.setCnfConfs_prt (s : State) (b : Bool) (t : Tab CEntry) : (s.setCnfConfs b t).prt = s.prt := rfl
@[simp] theorem State.setCnfConfs_strs (s : State) (b : Bool) (t : Tab CEntry) : (s.setCnfConfs b t).strs = s.strs := rfl
@[simp] theorem State.setCnfConfs_gfps (s : State) (b : Bool) (t : Tab CEntry) : (s.setCnfConfs b t).gfps = s.gfps := rfl
@[simp] theorem State.setCnfConfs_dccs (s : State) (b : Bool) (t : Tab CEntry) : (s.setCnfConfs b t).dccs = s.dccs := rfl

/-- A descriptor is its address and its second word. -/
@[simp] theorem bufDesc_ctl (d : BufDesc) : bufDesc d.addr d.ctl = d := rfl

end Sys2Proof.Machine
end

