-- ==== Sys2Proof/Laws/Truss.lean ====
section
/-! SUPPORT. What the truss operations do, each said once: a run, a connection-memory read, the copy-back of a page; and the
table operations they are made of. -/

namespace Sys2Proof.Machine

/-- What every step of a fold keeps, the fold keeps. -/
theorem foldS_keeps {α β : Type} (f : State → β) (l : List α) (g : α → State → State) (hg : ∀ a s, f (g a s) = f s) (s : State) :
    f (foldS l g s) = f s := by
  induction l generalizing s with
  | nil => rfl
  | cons a l ih => exact (ih (g a s)).trans (hg a s)

/-- A table with part of its entries kept. -/
theorem tget_tkeep {α : Type} (d : α) (p : Nat → Bool) (t : Tab α) (k : Nat) : tget d (tkeep p t) k = if p k then tget d t k else d := by
  induction t with
  | nil => simp [tkeep, tget]
  | cons e t ih =>
    unfold tkeep at ih ⊢
    rw [List.filter_cons]
    by_cases hp : p e.1 = true
    · rw [if_pos hp]
      simp only [tget]
      by_cases hk : k = e.1
      · subst hk; simp [hp]
      · simp only [if_neg hk, ih]
    · rw [if_neg hp, ih]
      simp only [tget]
      by_cases hk : k = e.1
      · subst hk; simp [hp]
      · simp only [if_neg hk]

/-- A page after the copy-back: the dirty entries from `b`, the others from `a`. -/
theorem tget_copyBack {α : Type} (d : α) (dirty : Nat → Bool) (a b : Tab α) (k : Nat) :
    tget d (copyBack dirty a b) k = if dirty k then tget d b k else tget d a k := by
  unfold copyBack
  have : ∀ (l : Tab α) (t : Tab α), (∀ e ∈ l, dirty e.1 = true) →
      tget d (l.foldr (fun (e : Nat × α) (t : Tab α) => tput t e.1 e.2) t) k = if ∃ e ∈ l, e.1 = k then tget d l k else tget d t k := by
    intro l t hl
    induction l with
    | nil => simp
    | cons e l ih =>
      have ih := ih (fun e he => hl e (List.mem_cons_of_mem _ he))
      rw [List.foldr_cons]
      by_cases hk : k = e.1
      · subst hk
        rw [tget_tput_same, if_pos ⟨e, by simp, rfl⟩]; simp [tget]
      · rw [tget_tput_other _ _ _ _ _ hk, ih]
        have : (∃ e' ∈ e :: l, e'.1 = k) ↔ ∃ e' ∈ l, e'.1 = k := by
          simp only [List.mem_cons, exists_eq_or_imp]
          constructor
          · rintro (h | h)
            · exact absurd h.symm hk
            · exact h
          · exact fun h => .inr h
        simp only [this, tget, if_neg hk]
  rw [this _ _ (by intro e he; unfold tkeep at he; exact (List.mem_filter.1 he).2)]
  rw [tget_tkeep, tget_tkeep]
  by_cases hd : dirty k = true
  · simp only [hd, if_true, Bool.not_true, Bool.false_eq_true, if_false]
    split
    · rfl
    · rename_i h
      have hn : ∀ (t : Tab α), (¬ ∃ e ∈ tkeep dirty t, e.1 = k) → tget d t k = d := by
        intro t
        induction t with
        | nil => intro _; rfl
        | cons e t ih =>
          intro hh
          have hke : k ≠ e.1 := by
            rintro rfl
            exact hh ⟨e, by unfold tkeep; rw [List.mem_filter]; exact ⟨by simp, hd⟩, rfl⟩
          simp only [tget, if_neg hke]
          refine ih (fun ⟨x, hx, hxk⟩ => hh ⟨x, ?_, hxk⟩)
          unfold tkeep at hx ⊢
          rw [List.mem_filter] at hx ⊢
          exact ⟨List.mem_cons_of_mem _ hx.1, hx.2⟩
      exact (hn b h).symm
  · simp only [hd, Bool.not_false, if_true, if_false, Bool.false_eq_true]
    rw [if_neg]
    rintro ⟨e, he, rfl⟩
    unfold tkeep at he
    exact hd (List.mem_filter.1 he).2
/-! ### Records written to host memory -/

theorem dmaOn_of_hide {s t : State} (h : t.hide 35184371957759 = s.hide 35184371957759) : t.dmaOn = s.dmaOn := by
  unfold State.dmaOn; rw [hif_bme_of_hide h, hif_d3hot_of_hide h]
theorem putRecord_on (a : DWord) (b : List Byte) (s : State) (h : s.dmaOn = true) :
    s.putRecord a b = ({ result := b.length, data := true }, { s with hostMem := memWrite s.hostMem a.toNat b }) := by
  unfold State.putRecord State.dma; rw [if_pos h, if_pos h]
theorem putRecord_off (a : DWord) (b : List Byte) (s : State) (h : s.dmaOn = false) : s.putRecord a b = ({}, s) := by
  unfold State.putRecord; rw [if_neg (by simp [h])]

/-! ### One entry, and a run (06 R173) -/

/-- A command carried out passes its static test. -/
theorem static_of_carries {c : Cmd} {s : State} (hc : Carries c s) : staticTest c = none := by
  have h := hc.2
  unfold State.stops at h
  split at h
  · cases h
  · assumption

@[simp] theorem tswPage_wordWritten (m : Mem) (s : State) (b : Bool) : (s.wordWritten m).tswPage b = s.tswPage b := by
  unfold State.wordWritten; dsimp only
  split
  · rfl
  · split <;> rfl
@[simp] theorem tsw_wordWritten (m : Mem) (s : State) : (s.wordWritten m).tsw = s.tsw := by
  unfold State.wordWritten; dsimp only
  split
  · rfl
  · split <;> rfl

theorem tswPut_same (b : Bool) (k : Nat) (e : Word) (s : State) (j : Nat) :
    tget 0 ((s.tswPut b k e).tswPage b) j = if j = k then e else tget 0 (s.tswPage b) j := by
  unfold State.tswPut
  rw [tswPage_wordWritten]
  have : ((s.setTswPage b (tset 0 (s.tswPage b) k e)).setTswPoison b k false).tswPage b = tset 0 (s.tswPage b) k e := by
    cases b <;> rfl
  rw [this]
  split
  · rename_i h; rw [h, tget_tset_same]
  · rename_i h; rw [tget_tset_other _ _ _ _ _ h]
theorem tswPut_other (b : Bool) (k : Nat) (e : Word) (s : State) : (s.tswPut b k e).tswPage (!b) = s.tswPage (!b) := by
  unfold State.tswPut
  rw [tswPage_wordWritten]
  cases b <;> rfl
theorem tswPut_tsw (b : Bool) (k : Nat) (e : Word) (s : State) : (s.tswPut b k e).tsw.active = s.tsw.active ∧
    (s.tswPut b k e).tsw.dirty = s.tsw.dirty ∧ (s.tswPut b k e).tsw.chgApplied = s.tsw.chgApplied := by
  unfold State.tswPut
  rw [tsw_wordWritten]
  cases b <;> exact ⟨rfl, rfl, rfl⟩
theorem tswPut_poison (b : Bool) (k : Nat) (e : Word) (s : State) (j : Nat) :
    (s.tswPut b k e).tswPoison b j = if j = k then false else s.tswPoison b j := by
  have : (s.tswPut b k e).tswPoison b j = tget false (tset false (if b then s.tsw.poisonB else s.tsw.poisonA) k false) j := by
    unfold State.tswPoison State.tswPut
    rw [tsw_wordWritten]
    cases b <;> rfl
  rw [this]
  by_cases h : j = k
  · rw [if_pos h, h, tget_tset_same]
  · rw [if_neg h, tget_tset_other _ _ _ _ _ h]; rfl

/-- A run over entries: the shadow page, its dirty bits and its parity marks change on the run alone. -/
theorem tswRun_spec (o : TswRun) (s : State) (n : Nat) :
    let t := foldS (List.range n) (fun i (s : State) =>
      let s := s.tswPut (!s.tsw.active) (o.out + i) (runEntry o i)
      { s with tsw := { s.tsw with dirty := tset false s.tsw.dirty (o.out + i) true } }) s
    t.tsw.active = s.tsw.active ∧ t.tsw.chgApplied = s.tsw.chgApplied ∧
    t.tswPage s.tsw.active = s.tswPage s.tsw.active ∧
    (∀ k, tget 0 (t.tswPage (!s.tsw.active)) k = if o.out ≤ k ∧ k < o.out + n then runEntry o (k - o.out) else tget 0 (s.tswPage (!s.tsw.active)) k) ∧
    (∀ k, t.tswDirty k = if o.out ≤ k ∧ k < o.out + n then true else s.tswDirty k) ∧
    (∀ k, t.tswPoison (!s.tsw.active) k = if o.out ≤ k ∧ k < o.out + n then false else s.tswPoison (!s.tsw.active) k) := by
  induction n with
  | zero =>
    refine ⟨rfl, rfl, rfl, ?_, ?_, ?_⟩ <;> intro k <;> rw [if_neg (by omega)] <;> rfl
  | succ n ih =>
    simp only [List.range_succ, foldS, List.foldl_append, List.foldl_cons, List.foldl_nil] at ih ⊢
    revert ih
    generalize (List.range n).foldl _ s = u
    intro ⟨h1, h2, h3, h4, h5, h6⟩
    rw [h1]
    obtain ⟨p1, p2, p3⟩ := tswPut_tsw (!s.tsw.active) (o.out + n) (runEntry o n) u
    refine ⟨p1.trans h1, p3.trans h2, ?_, ?_, ?_, ?_⟩
    · refine Eq.trans ?_ h3
      have := tswPut_other (!s.tsw.active) (o.out + n) (runEntry o n) u
      rw [Bool.not_not] at this
      exact this
    · intro k
      refine (tswPut_same _ _ _ _ _).trans ?_
      rw [h4]
      by_cases hk : k = o.out + n
      · subst hk; rw [if_pos rfl, if_pos (by omega), Nat.add_sub_cancel_left]
      · rw [if_neg hk]
        by_cases hk2 : o.out ≤ k ∧ k < o.out + n
        · rw [if_pos hk2, if_pos (by omega)]
        · rw [if_neg hk2, if_neg (by omega)]
    · intro k
      show tget false (tset false _ (o.out + n) true) k = _
      rw [p2]
      by_cases hk : k = o.out + n
      · subst hk; rw [tget_tset_same, if_pos (by omega)]
      · rw [tget_tset_other _ _ _ _ _ hk]
        refine (h5 k).trans ?_
        by_cases hk2 : o.out ≤ k ∧ k < o.out + n
        · rw [if_pos hk2, if_pos (by omega)]
        · rw [if_neg hk2, if_neg (by omega)]
    · intro k
      refine (tswPut_poison _ _ _ _ _).trans ?_
      rw [h6]
      by_cases hk : k = o.out + n
      · subst hk; rw [if_pos rfl, if_pos (by omega)]
      · rw [if_neg hk]
        by_cases hk2 : o.out ≤ k ∧ k < o.out + n
        · rw [if_pos hk2, if_pos (by omega)]
        · rw [if_neg hk2, if_neg (by omega)]

theorem run_src (o : TswRun) (j : Nat) (hs : o.step = true) (h : wfld o.entry 0 20 + j < 2 ^ 20) :
    wfld (runEntry o j) 0 20 = wfld o.entry 0 20 + j ∧ runEntry o j >>> 20 = o.entry >>> 20 := by
  unfold runEntry
  rw [if_pos hs]
  have hn : wfld o.entry 0 20 + j = (wfld o.entry 0 20 + j) % 2 ^ 20 := (Nat.mod_eq_of_lt h).symm
  rw [hn]
  generalize (wfld o.entry 0 20 + j) % 2 ^ 20 = x at hn
  have hx : x < 2 ^ 20 := hn ▸ h
  rw [Nat.mod_eq_of_lt hx]
  constructor
  · unfold wfld fld
    simp only [BitVec.toNat_or, BitVec.toNat_and, BitVec.toNat_ofNat, Nat.shiftRight_zero]
    rw [Nat.mod_eq_of_lt (show x < 2 ^ 32 by omega)]
    rw [Nat.or_mod_two_pow]
    have : (o.entry.toNat &&& 4293918720 % 2 ^ 32) % 2 ^ 20 = 0 := by
      rw [Nat.and_mod_two_pow]; simp
    rw [this, Nat.mod_eq_of_lt hx, Nat.zero_or]
  · apply BitVec.eq_of_toNat_eq
    simp only [BitVec.toNat_ushiftRight, BitVec.toNat_or, BitVec.toNat_and, BitVec.toNat_ofNat]
    rw [Nat.mod_eq_of_lt (show x < 2 ^ 32 by omega), Nat.shiftRight_or_distrib, Nat.shiftRight_and_distrib]
    have : x >>> 20 = 0 := by rw [Nat.shiftRight_eq_div_pow]; exact Nat.div_eq_of_lt hx
    rw [this, Nat.or_zero]
    have h4 : o.entry.toNat >>> 20 < 2 ^ 12 := by
      rw [Nat.shiftRight_eq_div_pow]; have := o.entry.isLt; omega
    rw [show (4293918720 % 2 ^ 32) >>> 20 = 2 ^ 12 - 1 from by decide, Nat.and_two_pow_sub_one_eq_mod, Nat.mod_eq_of_lt h4]

theorem tsw_src_lt (o : TswRun) (j : Nat) (h : tswOk o = true) (hs : o.step = true) (hj : j < o.count) : wfld o.entry 0 20 + j < 2 ^ 20 := by
  unfold tswOk inRunOk at h
  simp only [Bool.and_eq_true, decide_eq_true_eq, hs, if_true] at h
  omega

theorem tswRun_entry (o : TswRun) (hok : tswOk o = true) (j : Nat) (hj : j < o.count) :
    (o.step = false → runEntry o j = o.entry) ∧
    (o.step = true → wfld (runEntry o j) 0 20 = wfld o.entry 0 20 + j ∧ runEntry o j >>> 20 = o.entry >>> 20) :=
  ⟨fun h => by unfold runEntry; simp [h], fun h => run_src o j h (tsw_src_lt o j hok h hj)⟩

/-! ### Reads of the connection memory -/

theorem tswOnce_pages (k : Kind) (a b c : Nat) (s : State) (x : Bool) : (s.tswOnce k a b c).tswPage x = s.tswPage x := by
  unfold State.tswOnce State.raise State.post
  split
  · rfl
  · dsimp only
    split
    · rfl
    · split <;> rfl
theorem cmRead_pages (b : Bool) (k : Nat) (s : State) (x : Bool) : (s.cmRead b k).tswPage x = s.tswPage x := by
  unfold State.cmRead
  split
  · rfl
  · rw [tswOnce_pages]; rfl
  · rw [tswOnce_pages]
    show State.tswPage _ x = _
    dsimp only
    split
    · cases b <;> cases x <;> rfl
    · cases b <;> cases x <;> rfl

theorem cmReadAll_pages (b : Bool) (p : Nat → Bool) (s : State) (x : Bool) : (s.cmReadAll b p).tswPage x = s.tswPage x := by
  unfold State.cmReadAll
  refine foldS_keeps (fun s => s.tswPage x) _ _ (fun u s => ?_) s
  split
  · split
    · exact cmRead_pages _ _ _ _
    · rfl
  · rfl
theorem cmRead_keep {α : Type} (f : Tsw → α) (hp : ∀ t x, f { t with poisonA := x } = f t) (hp2 : ∀ t x, f { t with poisonB := x } = f t)
    (h1 : ∀ t x, f { t with cmCe := x } = f t) (h2 : ∀ t x y z, f { t with cmUe := x, lastUnit := y, lastAddr := z } = f t)
    (h3 : ∀ t x, f { t with seen := x } = f t) (b : Bool) (k : Nat) (s : State) : f (s.cmRead b k).tsw = f s.tsw := by
  have ho : ∀ k a b c (s : State), f (s.tswOnce k a b c).tsw = f s.tsw := by
    intro k a b c s
    unfold State.tswOnce State.raise State.post
    split
    · rfl
    · dsimp only
      split
      · exact h3 _ _
      · split <;> exact h3 _ _
  have hsp : ∀ b k v (s : State), f (s.setTswPoison b k v).tsw = f s.tsw := by
    intro b k v s; unfold State.setTswPoison; cases b
    · exact hp _ _
    · exact hp2 _ _
  unfold State.cmRead
  split
  · rfl
  · rw [ho]; exact h1 _ _
  · rw [ho]
    refine (h2 _ _ _ _).trans ?_
    split
    · rw [hsp, hsp]; rfl
    · rw [hsp]; rfl
theorem cmReadAll_keep {α : Type} (f : Tsw → α) (hp : ∀ t x, f { t with poisonA := x } = f t) (hp2 : ∀ t x, f { t with poisonB := x } = f t)
    (h1 : ∀ t x, f { t with cmCe := x } = f t) (h2 : ∀ t x y z, f { t with cmUe := x, lastUnit := y, lastAddr := z } = f t)
    (h3 : ∀ t x, f { t with seen := x } = f t) (b : Bool) (p : Nat → Bool) (s : State) : f (s.cmReadAll b p).tsw = f s.tsw := by
  unfold State.cmReadAll
  refine foldS_keeps (fun s => f s.tsw) _ _ (fun u s => ?_) s
  split
  · split
    · exact cmRead_keep f hp hp2 h1 h2 h3 _ _ _
    · rfl
  · rfl

end Sys2Proof.Machine
end

