-- ==== Sys2Proof/WellFormed.lean ====
section
/-! DEFINITION. Well-formed commands: an operand lies in the range its register, descriptor field or ball can bring. The
meanings of exec are total and do not ask for it. -/

namespace Sys2Proof

open Sys2Proof.Machine

/-- A value of an unsigned field of `w` bits. -/
def inBits (w n : Nat) : Bool := decide (n < 2 ^ w)

/-- A signed 8-bit value. -/
def inInt8 (v : Int) : Bool := decide (-128 ≤ v) && decide (v < 128)

/-- A word of a memory exists (06 Table TR-7, 07 Table CF-10, 10 R285). -/
def Mem.wf : Mem → Bool
  | .cm _ k => decide (k < 0xB4000)
  | .dm _ _ w => decide (w < 131072)
  | .participant _ p => decide (p < 65536)
  | .conference _ c => decide (c < 16384)
  | .lane p => decide (p < 65536)
  | .collector c => decide (c < 16384)
  | .due e => decide (e < 65536)
  | .group k g => decide (g < groupCount k.val)
  | .key _ => true
  | .cmac _ => true
  | .lock _ => true
  | .registry _ t i => resExists t.val i
  | .reaction src _ => decide (src < 512)
  | .staging _ => true
  | .other src _ => decide (src < 512)

/-- A ring exists (09 Table HR-3). -/
def ringWf (kind : Fin 10) (n : Nat) : Bool := decide (n < ringCount kind.val)

def TswRun.wf (o : TswRun) : Bool := inBits 20 o.out && inBits 17 o.count
def TswReadOp.wf (o : TswReadOp) : Bool := inBits 20 o.first && inBits 2 o.kind && inBits 11 o.count
def XcOp.wf (o : XcOp) : Bool := inBits 13 o.dest && inBits 13 o.src && inBits 8 o.width && inBits 2 o.force
def TribSet.wf (c : TribSet) : Bool :=
  inBits 9 c.pos.m && inBits 2 c.pos.grp && inBits 3 c.pos.tug2 && inBits 2 c.pos.tu && inBits 2 c.crc4 && inBits 5 c.saTx
    && inBits 4 c.tagSa && inBits 6 c.bomCode && inBits 8 c.bomRepeat && inBits 4 c.sigCond && inBits 4 c.sigIdle
def SigOp.wf (o : SigOp) : Bool := inBits 14 o.t && inBits 4 o.abcd
def ConfSet.wf (o : ConfSet) : Bool := inBits 4 o.k && inBits 8 o.hang && inBits 10 o.floor
def PartSet.wf (o : PartSet) : Bool := inBits 14 o.conf && inBits 2 o.role && inInt8 o.gin && inInt8 o.gout
def CnfMod.wf (o : CnfMod) : Bool := inBits 16 o.index && inBits 9 o.fields && o.part.wf && o.conf.wf
def ToneDef.wf (t : ToneDef) : Bool :=
  inBits 16 t.f1 && inBits 16 t.f2 && inBits 16 t.a1 && inBits 16 t.a2 && decide (t.durs.length = 8) && t.durs.all (inBits 16)
def ProtOp.wf (o : ProtOp) : Bool :=
  inBits 2 o.op && inBits 13 o.group && inBits 16 o.w && inBits 16 o.p && inBits 8 o.width && inBits 7 o.holdoff && inBits 10 o.wtr
    && inBits 6 o.lag
def TraceOp.wf (o : TraceOp) : Bool :=
  inBits 2 o.kind && inBits 14 o.index && inBits 6 o.fields && inBits 2 o.fmt && inBits 3 o.n && inBits 5 o.rxPort && inBits 8 o.rxS
    && inBits 13 o.txSlot && decide (o.txStr.length = 64) && decide (o.exStr.length = 64)
def StreamOp.wf (o : StreamOp) : Bool := inBits 8 o.group && inBits 10 o.k && inBits 3 o.depth && inBits 4 o.cutT && inBits 2 o.cku
def GfpOp.wf (o : GfpOp) : Bool :=
  inBits 6 o.ch && inBits 13 o.slot && inBits 8 o.width && inBits 8 o.upi && inBits 3 o.pti && inBits 3 o.delta && inBits 16 o.txThresh
    && inBits 16 o.maxLen
def DccAuthOp.wf (o : DccAuthOp) : Bool := inBits 5 o.port && inBits 6 o.txSlot && inBits 6 o.rxSlot
def Hdr.wf (h : Hdr) : Bool := inBits 16 h.index

/-- A processor's lease keeps the bounds of RES_CLAIM's (14 R388, 10 Table CM-14). -/
def PortOp.wf : PortOp → Bool
  | .claim _ _ l => decide (1 ≤ l) && inBits 16 l
  | .release _ _ | .access _ _ _ | .hostRead _ => true

/-- The size of a host access. -/
def sizeWf (bytes : Nat) : Bool := bytes = 1 || bytes = 2 || bytes = 4 || bytes = 8

/-- A command whose operands are in range. -/
def Instr.wf : Instr → Bool
  | .powerOn _ | .resetN _ | .warmChipRst _ | .glbChipRstRequest _ | .perstN | .flr => true
  | .busMasterEnable | .busMasterDisable | .d3hotEntry | .msixUnmask _ => true
  | .frameBoundary i => i.upsets.all (fun u => u.mem.wf) && i.late.all (fun u => u.mem.wf) && i.ports.all PortOp.wf
  | .storySecond x => decide (x.temps.length = 8) && decide (x.rails.length = 5)
  | .scrubWord m _ => m.wf
  | .calibration | .snapLatch | .epochWrite _ | .secondOriginWrite _ => true
  | .timerEnable _ _ | .timerArm _ | .timerDisarm _ | .tmrFire _ | .refoutEnable _ _ => true
  | .refDisq _ _ | .refQual _ _ | .dpllLock | .holdReady | .oscFail | .oscSelect => true
  | .portCfgWrite _ _ | .txOffsetWrite _ _ => true
  | .txLineFrame _ p => decide (p ≤ 2429)
  | .rxLineFrame _ b => decide (b.length ≤ 155520)
  | .lofL _ | .losL _ _ | .serdesLol _ _ | .hopStructWrite _ _ _ => true
  | .traceNew k i => decide (i < traceCount k.val)
  | .rxTribFrame _ _ => true
  | .crc4None _ | .sigHoldoffExpiry _ | .hwyCfgWrite _ _ => true
  | .hwyFrameSync _ r f => decide (r.bytes.length ≤ 256) && decide (f.bytes.length ≤ 256)
  | .hwyFsLoss _ | .copybackDone _ | .lanePass | .collectorWindow _ | .speakerHoldoffExpiry _ => true
  | .selectorDecision k g => decide (g < groupCount k.val)
  | .holdoffExpiry k g _ => decide (g < groupCount k.val)
  | .wtrExpiry k g => decide (g < groupCount k.val)
  | .protSw k g => decide (g < groupCount k.val)
  | .k1Protocol _ | .protExer _ => true
  | .doorbellWrite o n v => decide (o < 0x10000) && sizeWf n && decide (v.toNat < 2 ^ (8 * n))
  | .descriptorAdmission _ _ b => match b with | some l => decide (l.length ≤ 4096) | none => true
  | .consumerIndexWriteback k n => ringWf k n
  | .completionWrite _ | .ceStall _ => true
  | .ringEnable k n _ => ringWf k n
  | .ringDisable k n => ringWf k n
  | .ringReset k n => ringWf k n
  | .hifCplTo k n _ => ringWf k n
  | .nop h | .fence h | .fenceAll h | .echo h _ | .fabricCommit h => h.wf
  | .tswSet h o | .tswFill h o | .tswPatch h o => h.wf && o.wf
  | .tswRead h o => h.wf && o.wf
  | .xcSet h o => h.wf && o.wf
  | .lomapSet h m st tu => h.wf && inBits 9 m && inBits 2 st && inBits 21 tu
  | .tribCfg h t c => h.wf && inBits 14 t && c.wf
  | .sigSet h o => h.wf && o.wf
  | .cnfCreate h c o => h.wf && inBits 14 c && o.wf
  | .cnfJoin h p o => h.wf && inBits 16 p && o.wf
  | .cnfLeave h p => h.wf && inBits 16 p
  | .cnfModify h o => h.wf && o.wf
  | .cnfDestroy h c | .cnfQuery h _ c => h.wf && inBits 14 c
  | .toneLoad h d t => h.wf && inBits 8 d && t.wf
  | .protGroup h o => h.wf && o.wf
  | .protCmd h _ g code => h.wf && inBits 13 g && inBits 3 code
  | .protQuery h _ _ g => h.wf && inBits 13 g
  | .traceSet h o => h.wf && o.wf
  | .traceRead h _ k i => h.wf && inBits 2 k && inBits 14 i
  | .ohSet h code _ v => h.wf && inBits 8 code && inBits 16 v
  | .streamOpen h o => h.wf && o.wf
  | .streamClose h g _ _ | .streamFlush h g _ _ => h.wf && inBits 8 g
  | .gfpOpen h o => h.wf && o.wf
  | .gfpClose h ch _ _ | .gfpFlush h ch _ _ => h.wf && inBits 6 ch
  | .keyLoad h s _ k => h.wf && inBits 6 s && decide (k.length = 32)
  | .keyErase h s => h.wf && inBits 6 s
  | .dccAuthCfg h o => h.wf && o.wf
  | .resClaim h t i l => h.wf && inBits 8 t && inBits 16 i && inBits 16 l
  | .resRelease h t i => h.wf && inBits 8 t && inBits 16 i
  | .pmCfg h sc i _ => h.wf && inBits 8 sc && inBits 16 i
  | .voiceBlockArrival _ _ _ | .voiceBlockWrite _ _ | .qptr _ | .gfpTxFrame _ _ _ | .gfpRxHeader _ _ _ => true
  | .dccTxFrame _ b => decide (16 ≤ b.length)
  | .dccRxFrame _ _ _ | .cmacDone _ | .leaseExpiry _ | .resourceRegisterClaim _ _ | .captureEdge _ _ | .captDataRead _ => true
  | .pmPartWrite _ | .pmcSnap | .pmcFreeze _ | .pmcPreset _ _ | .pmcOvf _ => true
  | .legacySense | .legacyCal | .legacyScrubReport => true
  | .legacyDone x => decide (x.temps.length = 8) && decide (x.rails.length = 5)
  | .svcModeWrite _ | .logMarkWrite _ | .logRidxWrite _ | .logCfgWrite _ => true
  | .collectorTake | .nmiReturn _ | .processorReady _ | .errPinAssert | .errPinRelease | .errPinWidthExpiry => true
  | .firstClr | .firstClrFatal | .reactionWrite _ | .injUnlock _ | .injGo _ | .pfail | .pfailClear => true
  | .procWdt _ | .procExc _ _ | .clkLol _ | .grantWdt _ _ | .busCommit | .busFreezeWrite _ => true
  | .bootLoadDone _ | .bootPushData _ | .bootPushTail _ | .bootPushEnd => true
  | .i2cTransaction x => decide (x.write = []) || decide (x.read = 0)
  | .registerWrite o n v => decide (o < 0x400000) && sizeWf n && decide (v.toNat < 2 ^ (8 * n))
  | .serdesLock _ _ | .sfdpDiscovery _ | .powerLoss => true
  | .linkUp up w sp => !up || ((w = 1 || w = 2 || w = 4 || w = 8) && (sp = 3 || sp = 4 || sp = 5))
  | .d0Entry | .i2cIdleTimeout => true

end Sys2Proof
end

