-- ==== Sys2Proof/Tests/Slice0.lean ====
section
/-! SUPPORT. The model's own tests: an ill-formed command for each check of WellFormed, worked examples of the spec, and for
each statement with hypotheses a state and operands that meet them (the theorems named test_wit_…). -/

open Sys2Proof Sys2Proof.Machine

namespace Sys2Proof.Tests

set_option Elab.async false

/-! ### Operands -/

def hd : Hdr := { ring := 0, index := 0, tag := 7, int := false, nocomp := false, ordered := false, asap := true }
def run (out n : Nat) : TswRun := { entry := 0, out := out, step := false, count := n }
def rd (kind n : Nat) : TswReadOp := { addr := 8, first := 0, kind := kind, count := n }
def xc (dest src : Nat) : XcOp := { dest := dest, src := src, width := 1, force := 0, en := true, sel := false }
def trib (en : Bool) : TribSet :=
  { en := en, t1 := false, byteSync := false, pos := { m := 0, grp := 0, tug2 := 0, tu := 0 }, crc4 := 1, cas := false, saTx := 0,
    tagSa := 0, esf := false, rbs := false, crc6Reframe := false, raiEn := false, bomCode := 0, bomRepeat := 0, cond := 0xFF,
    sigCond := 0, sigIdle := 0 }
def conf (k : Nat) : ConfSet := { k := k, hang := 0, floor := 0, spkEv := true }
def part (c role : Nat) : PartSet := { conf := c, role := role, mu := false, gin := 0, gout := 0 }
def cmod (i : Nat) (isConf hot : Bool) (f : Nat) : CnfMod :=
  { index := i, isConf := isConf, hot := hot, fields := f, part := part 0 0, conf := conf 1 }
def tone (n : Nat) : ToneDef := { en := true, rep := false, f1 := 425, f2 := 0, a1 := 100, a2 := 0, durs := List.replicate n 0 }
def prot (op : Nat) (k : Fin 4) : ProtOp :=
  { op := op, kind := k, group := 0, w := 0, p := 1, width := 1, bidir := false, revert := true, sdEn := false, timSf := false,
    holdoff := 0, wtr := 5, lag := 0 }
def tr (n : Nat) : TraceOp :=
  { kind := 0, index := 0, fields := 63, fmt := 0, n := n, cmpEn := false, rxPort := 0, rxS := 0, rxBind := false, txBind := false,
    txSlot := 0, txStr := List.replicate 64 0, exStr := List.replicate 64 0 }
def strm (g : Nat) : StreamOp :=
  { group := g, dirIn := true, dirOut := true, mu := false, k := 1, depth := 0, cutT := 0, cku := 0, ckuEn := false, play := false,
    fill := 0xD5, fillLast := false, start := 0 }
def gop (ch : Nat) : GfpOp :=
  { ch := ch, dirTx := true, dirRx := true, slot := 6960, width := 1, upi := 1, pti := 0, pfcs := false, pscr := false,
    chscr := false, checCorr := false, delta := 1, txThresh := 0, maxLen := 64 }
def auth (port : Nat) : DccAuthOp := { port := port, ms := false, txEn := false, rxEn := false, txSlot := 0, rxSlot := 0 }
def bd (len : Word) : BufDesc := { addr := 4096, len := len, int := false }
def strap (b : Fin 4) : Straps := { testMode := false, mi2cAddr := 0, bootSrc := b }
def smp (n : Nat) : Sample := { temps := List.replicate n 0, rails := [900, 1100, 1200, 1800, 3300], power := 640 }

/-- The state that a command leaves. -/
def go (i : Instr) (s : State) : State := after1 (exec i) s

/-! ### Ill-formed commands -/

theorem test_wf_index : (Instr.nop { hd with index := 65536 }).wf = false ∧ (Instr.nop hd).wf = true := by decide
theorem test_wf_cm : Mem.wf (.cm false 0xB4000) = false ∧ Mem.wf (.cm false 0xB3FFF) = true := by decide
theorem test_wf_dm : Mem.wf (.dm 0 false 131072) = false := by decide
theorem test_wf_participant : Mem.wf (.participant false 65536) = false := by decide
theorem test_wf_conference : Mem.wf (.conference false 16384) = false := by decide
theorem test_wf_lane : Mem.wf (.lane 65536) = false := by decide
theorem test_wf_collector : Mem.wf (.collector 16384) = false := by decide
theorem test_wf_due : Mem.wf (.due 65536) = false := by decide
theorem test_wf_group : Mem.wf (.group 0 16) = false ∧ Mem.wf (.group 1 1024) = false := by decide
theorem test_wf_registry : Mem.wf (.registry true 0 16) = false := by decide
theorem test_wf_reaction : Mem.wf (.reaction 512 0) = false := by decide
theorem test_wf_other : Mem.wf (.other 512 0) = false := by decide
theorem test_wf_upset : (Instr.frameBoundary { upsets := [⟨.due 65536, true⟩], late := [], ports := [], cntFault := false, phaseErr := 0 }).wf = false := by decide
theorem test_wf_late : (Instr.frameBoundary { upsets := [], late := [⟨.lane 65536, true⟩], ports := [], cntFault := false, phaseErr := 0 }).wf = false := by
  decide
theorem test_wf_port : (PortOp.claim 0 255 0).wf = false ∧ (PortOp.claim 0 255 65536).wf = false ∧ (PortOp.claim 6 255 65535).wf = true := by decide
theorem test_wf_scrub : (Instr.scrubWord (.lane 65536) none).wf = false := by decide
theorem test_wf_sample_temps : (Instr.storySecond (smp 7)).wf = false ∧ (Instr.storySecond (smp 8)).wf = true := by decide
theorem test_wf_sample_rails : (Instr.legacyDone { smp 8 with rails := [] }).wf = false := by decide
theorem test_wf_line_frame (n : Nat) (h : 155520 < n) : (Instr.rxLineFrame 0 (List.replicate n 0)).wf = false := by
  simp only [Instr.wf, List.length_replicate]; exact decide_eq_false (by omega)
theorem test_wf_tx_phase : (Instr.txLineFrame 0 2430).wf = false := by decide
theorem test_wf_trace_new : (Instr.traceNew 0 32).wf = false := by decide
theorem test_wf_hwy_frame : (Instr.hwyFrameSync 0 ⟨List.replicate 257 0, 0⟩ ⟨[], 0⟩).wf = false ∧
    (Instr.hwyFrameSync 0 ⟨[], 0⟩ ⟨List.replicate 257 0, 0⟩).wf = false := by decide +kernel
theorem test_wf_selector : (Instr.selectorDecision 0 16).wf = false := by decide
theorem test_wf_holdoff : (Instr.holdoffExpiry 2 8192 false).wf = false := by decide
theorem test_wf_wtr : (Instr.wtrExpiry 3 2048).wf = false := by decide
theorem test_wf_move : (Instr.protSw 1 1024).wf = false := by decide
theorem test_wf_doorbell : (Instr.doorbellWrite 0x10000 4 0).wf = false ∧ (Instr.doorbellWrite 0 3 0).wf = false ∧
    (Instr.doorbellWrite 0 4 (2 ^ 32)).wf = false ∧ (Instr.doorbellWrite 0x1F8 4 5).wf = true := by decide +kernel
theorem test_wf_block : (Instr.descriptorAdmission 0 ⟨0, 0, 0, 0, 0, 0, 0, 0⟩ (some (List.replicate 4097 0))).wf = false := by decide +kernel
theorem test_wf_writeback : (Instr.consumerIndexWriteback 2 256).wf = false := by decide
theorem test_wf_ring_enable : (Instr.ringEnable 8 1 0).wf = false := by decide
theorem test_wf_ring_disable : (Instr.ringDisable 9 1).wf = false := by decide
theorem test_wf_ring_reset : (Instr.ringReset 4 64).wf = false := by decide
theorem test_wf_timeout : (Instr.hifCplTo 6 1 false).wf = false := by decide
theorem test_wf_run_out : (run 0x100000 1).wf = false := by decide
theorem test_wf_run_count : (run 0 131072).wf = false ∧ (run 0 65536).wf = true := by decide
theorem test_wf_read : (rd 4 1).wf = false ∧ (rd 0 2048).wf = false ∧ { rd 0 1 with first := 0x100000 }.wf = false := by decide
theorem test_wf_xc : (xc 8192 0).wf = false ∧ (xc 0 8192).wf = false ∧ { xc 0 0 with width := 256 }.wf = false ∧
    { xc 0 0 with force := 4 }.wf = false := by decide
theorem test_wf_lomap : (Instr.lomapSet hd 512 0 0).wf = false ∧ (Instr.lomapSet hd 0 4 0).wf = false ∧
    (Instr.lomapSet hd 0 0 (2 ^ 21)).wf = false := by decide
theorem test_wf_trib_number : (Instr.tribCfg hd 16384 (trib true)).wf = false := by decide
theorem test_wf_trib_pos : { trib true with pos := ⟨512, 0, 0, 0⟩ }.wf = false ∧ { trib true with pos := ⟨0, 4, 0, 0⟩ }.wf = false ∧
    { trib true with pos := ⟨0, 0, 8, 0⟩ }.wf = false ∧ { trib true with pos := ⟨0, 0, 0, 4⟩ }.wf = false := by decide
theorem test_wf_trib_fields : { trib true with crc4 := 4 }.wf = false ∧ { trib true with saTx := 32 }.wf = false ∧
    { trib true with tagSa := 16 }.wf = false ∧ { trib true with bomCode := 64 }.wf = false ∧
    { trib true with bomRepeat := 256 }.wf = false ∧ { trib true with sigCond := 16 }.wf = false ∧
    { trib true with sigIdle := 16 }.wf = false := by decide
theorem test_wf_sig : SigOp.wf ⟨16384, false, false, 0, 0⟩ = false ∧ SigOp.wf ⟨0, false, false, 16, 0⟩ = false := by decide
theorem test_wf_conf : { conf 1 with k := 16 }.wf = false ∧ { conf 1 with hang := 256 }.wf = false ∧
    { conf 1 with floor := 1024 }.wf = false ∧ (Instr.cnfCreate hd 16384 (conf 1)).wf = false := by decide
theorem test_wf_part : (part 16384 0).wf = false ∧ (part 0 4).wf = false ∧ { part 0 0 with gin := 128 }.wf = false ∧
    { part 0 0 with gout := -129 }.wf = false ∧ (Instr.cnfJoin hd 65536 (part 0 0)).wf = false := by decide
theorem test_wf_leave : (Instr.cnfLeave hd 65536).wf = false := by decide
theorem test_wf_modify : (cmod 65536 false false 0).wf = false ∧ (cmod 0 false false 512).wf = false := by decide
theorem test_wf_destroy : (Instr.cnfDestroy hd 16384).wf = false ∧ (Instr.cnfQuery hd 8 16384).wf = false := by decide
theorem test_wf_tone : (tone 7).wf = false ∧ { tone 8 with f1 := 65536 }.wf = false ∧ { tone 8 with f2 := 65536 }.wf = false ∧
    { tone 8 with a1 := 65536 }.wf = false ∧ { tone 8 with a2 := 65536 }.wf = false ∧
    { tone 8 with durs := List.replicate 8 65536 }.wf = false ∧ (Instr.toneLoad hd 256 (tone 8)).wf = false := by decide
theorem test_wf_prot : (prot 4 0).wf = false ∧ { prot 0 0 with group := 8192 }.wf = false ∧ { prot 0 0 with w := 65536 }.wf = false ∧
    { prot 0 0 with p := 65536 }.wf = false ∧ { prot 0 0 with width := 256 }.wf = false ∧ { prot 0 0 with holdoff := 128 }.wf = false ∧
    { prot 0 0 with wtr := 1024 }.wf = false ∧ { prot 0 0 with lag := 64 }.wf = false := by decide
theorem test_wf_prot_cmd : (Instr.protCmd hd 0 8192 0).wf = false ∧ (Instr.protCmd hd 0 0 8).wf = false ∧
    (Instr.protQuery hd 8 0 8192).wf = false := by decide
theorem test_wf_trace : (tr 8).wf = false ∧ { tr 3 with kind := 4 }.wf = false ∧ { tr 3 with index := 16384 }.wf = false ∧
    { tr 3 with fields := 64 }.wf = false ∧ { tr 3 with fmt := 4 }.wf = false ∧ { tr 3 with rxPort := 32 }.wf = false ∧
    { tr 3 with rxS := 256 }.wf = false ∧ { tr 3 with txSlot := 8192 }.wf = false ∧ { tr 3 with txStr := [] }.wf = false ∧
    { tr 3 with exStr := [] }.wf = false := by decide
theorem test_wf_trace_read : (Instr.traceRead hd 8 4 0).wf = false ∧ (Instr.traceRead hd 8 0 16384).wf = false := by decide
theorem test_wf_oh : (Instr.ohSet hd 256 0 0).wf = false ∧ (Instr.ohSet hd 0 0 65536).wf = false := by decide
theorem test_wf_stream : (strm 256).wf = false ∧ { strm 0 with k := 1024 }.wf = false ∧ { strm 0 with depth := 8 }.wf = false ∧
    { strm 0 with cutT := 16 }.wf = false ∧ { strm 0 with cku := 4 }.wf = false := by decide
theorem test_wf_stream_close : (Instr.streamClose hd 256 true true).wf = false ∧ (Instr.streamFlush hd 256 true true).wf = false := by decide
theorem test_wf_gfp : (gop 64).wf = false ∧ { gop 0 with slot := 8192 }.wf = false ∧ { gop 0 with width := 256 }.wf = false ∧
    { gop 0 with upi := 256 }.wf = false ∧ { gop 0 with pti := 8 }.wf = false ∧ { gop 0 with delta := 8 }.wf = false ∧
    { gop 0 with txThresh := 65536 }.wf = false ∧ { gop 0 with maxLen := 65536 }.wf = false := by decide
theorem test_wf_gfp_close : (Instr.gfpClose hd 64 true true).wf = false ∧ (Instr.gfpFlush hd 64 true true).wf = false := by decide
theorem test_wf_key : (Instr.keyLoad hd 64 true (List.replicate 32 0)).wf = false ∧
    (Instr.keyLoad hd 1 true (List.replicate 31 0)).wf = false ∧ (Instr.keyErase hd 64).wf = false := by decide
theorem test_wf_auth : (auth 32).wf = false ∧ { auth 0 with txSlot := 64 }.wf = false ∧ { auth 0 with rxSlot := 64 }.wf = false := by decide
theorem test_wf_resource : (Instr.resClaim hd 256 0 0).wf = false ∧ (Instr.resClaim hd 0 65536 0).wf = false ∧
    (Instr.resClaim hd 0 0 65536).wf = false ∧ (Instr.resRelease hd 256 0).wf = false ∧ (Instr.resRelease hd 0 65536).wf = false := by decide
theorem test_wf_pm : (Instr.pmCfg hd 256 0 true).wf = false ∧ (Instr.pmCfg hd 0 65536 true).wf = false := by decide
theorem test_wf_dcc_buffer : (Instr.dccTxFrame (bd 64) (List.replicate 15 0)).wf = false := by decide
theorem test_wf_i2c : (Instr.i2cTransaction ⟨0x58, 0, [1], 4, true⟩).wf = false ∧ (Instr.i2cTransaction ⟨0x58, 0, [1], 0, true⟩).wf = true := by decide
theorem test_wf_register : (Instr.registerWrite 0x400000 4 0).wf = false ∧ (Instr.registerWrite 0 3 0).wf = false ∧
    (Instr.registerWrite 0 4 (2 ^ 32)).wf = false := by decide +kernel
theorem test_wf_link : (Instr.linkUp true 3 5).wf = false ∧ (Instr.linkUp true 8 2).wf = false ∧ (Instr.linkUp true 8 5).wf = true := by decide
/-! ### An image that passes (15 R409, R410) -/

/-- An image of LENGTH 128 with one section of one byte, at offset 80, for target 0, but for its tag. -/
def imgBody : List Byte :=
  leBytes 4 0x54595250 ++ leBytes 4 1 ++ leBytes 4 128 ++ leBytes 4 9 ++ [1] ++ List.replicate 47 0 ++
    leBytes 4 0x10000000 ++ leBytes 4 1 ++ leBytes 4 80 ++ List.replicate 4 0 ++ [0xAB] ++ List.replicate 31 0
/-- The whole image. -/
def img : List Byte := imgBody ++ cmac true keyZero imgBody
theorem img_tag : (cmac true keyZero imgBody).length = 16 := by decide +kernel
theorem byteAt_left (a b : List Byte) (i : Nat) (h : i < a.length) : byteAt (a ++ b) i = byteAt a i := by
  simp [byteAt, List.getD, List.getElem?_append_left h]
theorem bytesAt_left (a b : List Byte) (i n : Nat) (h : i + n ≤ a.length) : bytesAt (a ++ b) i n = bytesAt a i n := by
  refine List.map_congr_left fun j hj => byteAt_left a b _ ?_
  have := List.mem_range.mp hj; omega
theorem imgWord_left (a b : List Byte) (i : Nat) (h : i + 4 ≤ a.length) : imgWord (a ++ b) i = imgWord a i := by
  simp only [imgWord, bytesAt_left a b i 4 h]
theorem img_len : imgBody.length = 112 := by decide
theorem test_image_code : imageCode img = 0 := by
  have w (i : Nat) (h : i + 4 ≤ 112) : imgWord img i = imgWord imgBody i := imgWord_left _ _ _ (by rw [img_len]; exact h)
  have l : img.length = 128 := by simp [img, img_tag, img_len]
  have t : img.take 112 = imgBody := by rw [img, List.take_left' img_len]
  have d : img.drop 112 = cmac true keyZero imgBody := by rw [img, List.drop_left' img_len]
  have b : byteAt img 16 = byteAt imgBody 16 := byteAt_left _ _ _ (by rw [img_len]; decide)
  have s : sectionOk img 128 0 = true := by
    simp only [sectionOk, w 64 (by decide), w 68 (by decide), w 72 (by decide)]; decide
  have e0 : imgWord imgBody 0 = 0x54595250 := by decide
  have e4 : imgWord imgBody 4 = 1 := by decide
  have e8 : imgWord imgBody 8 = 128 := by decide
  have eb : (byteAt imgBody 16).toNat = 1 := by decide
  simp only [imageCode, l, w 0 (by decide), w 4 (by decide), w 8 (by decide), e0, e4, e8, b, eb, t, d]
  simp [s, List.range_succ]

theorem img_last : img = img.dropLast ++ [img.getLastD 0] := by
  have h : img ≠ [] := by intro e; have := congrArg List.length e; simp [img, img_len] at this
  rw [List.getLastD_eq_getLast?, List.getLast?_eq_getLast_of_ne_nil h]; simp [List.dropLast_append_getLast h]
/-- The push word that ends the image: its last byte, COUNT = 1. -/
def tailWord : Word := BitVec.ofNat 32 ((img.getLastD 0).toNat + 2 ^ 24)
theorem tail_count : ∀ b : Byte, wfld (BitVec.ofNat 32 (b.toNat + 2 ^ 24)) 24 2 = 1 := by decide +kernel
theorem tail_byte : ∀ b : Byte, leBytes 1 (BitVec.ofNat 32 (b.toNat + 2 ^ 24)).toNat = [b] := by decide +kernel

/-! ### Witnesses: the whole machine, the clock, resets and boot -/

/-- Processors in service. -/
def sUp : State := { glb := { ready := true, insvc := 0x7F } }

theorem test_wit_StepRunsFrontCommand : { sUp with pending := [.snapLatch, .nop hd] : State }.pending = .snapLatch :: [.nop hd] := by decide
theorem test_wit_StepAnswers : State.reset.pending = [] ∧ ({ powered := false } : State).pending = [] ∧
    ({ powered := false } : State).powered = false := by decide
theorem test_wit_StepKeepsLegal : ∃ s t : State, s.Legal ∧ step s = .next t ∧ s.stp.phase = 2429 ∧ s.stp.sub = 15 :=
  ⟨{ stp := { phase := 2429, sub := 15 } }, _, ⟨⟨by decide, by decide⟩, by decide, by decide⟩, rfl, by decide, by decide⟩
theorem test_wit_ExecFrame : ∃ t, exec .snapLatch sUp = .next t := ⟨_, rfl⟩
theorem test_wit_PoleMoves : ∃ t, movesPole (.epochWrite 5) = false ∧ exec (.epochWrite 5) sUp = .next t := ⟨_, by decide, rfl⟩
/-- The device in the fatal state. -/
def sFatal : State := { sUp with flt := { fatal := true, firstFatal := some { cls := 2 } } }
theorem test_wit_FatalStays_any : ∃ t, sFatal.flt.fatal = true ∧ exec (.resetN (strap 0)) sFatal = .next t := ⟨_, by decide, rfl⟩
theorem test_wit_FatalStays_clr : ∃ t, sFatal.flt.fatal = true ∧ exec .firstClrFatal sFatal = .next t := ⟨_, by decide, rfl⟩

/-- Timer 0 enabled, its target at frame f, phase p; CFG bits in c. -/
def sTmr (c f p : Word) : State :=
  { sUp with cfg := [(0x1200, c), (0x1208, p), (0x120C, f)], stp := { timers := [(0, { claimed := true })] } }
theorem test_wit_TimerArm_next_tick : let s := sTmr 0x80000000 0 1
    (s.timer 0).claimed = true ∧ s.rf (tmrReg 0 0x8) 0 12 ≤ 2429 ∧ s.ticksTo (s.reg (tmrReg 0 0xC)) (s.rf (tmrReg 0 0x8) 0 12) = 1 ∧
    s.tmrPeriodOk 0 = true := by decide
theorem test_wit_TimerArm_last : let s := sTmr 0x80000000 0x100000 0
    (s.timer 0).claimed = true ∧ s.ticksTo (s.reg (tmrReg 0 0xC)) (s.rf (tmrReg 0 0x8) 0 12) = 2 ^ 20 * 2430 := by decide
theorem test_wit_TimerArm_bad : let s := sTmr 0x80000000 0 2430
    (s.timer 0).claimed = true ∧ ¬ s.rf (tmrReg 0 0x8) 0 12 ≤ 2429 := by decide
/-- Timer 0 due now with GPIO 3 held. -/
def sDue (c : Word) : State :=
  { sUp with cfg := [(0x1200, c)], stp := { timers := [(0, { claimed := true, target := some (0, 0), gpio := some 3 })] } }
theorem test_wit_TmrFire : let s := sDue 0xFC000000
    (s.timer 0).target = some (0, 0) ∧ s.tmrDue 0 = true ∧ s.rb (tmrReg 0 0) 28 = true ∧ (s.timer 0).gpio = some 3 ∧
    s.rb (tmrReg 0 0) 26 = true ∧ s.rb (tmrReg 0 0) 27 = true ∧ s.flt.queue.length < 64 := by decide
theorem test_wit_TmrFire_oneshot : let s := sDue 0x80000000
    s.tmrDue 0 = true ∧ s.rb (tmrReg 0 0) 28 = false ∧ s.rb (tmrReg 0 0) 27 = false := by decide
theorem test_wit_TimerEnable : wbit (0 : Word) 31 = false ∧ (wbit (0x80000000 : Word) 31 = true ∧ wbit (0x80000000 : Word) 26 = false) ∧
    (sUp.rb (tmrReg 15 0) 31 = false ∧ sUp.upsets = [] ∧ sUp.flt.flip = none ∧ (sUp.timer 15).gpio = none ∧
      (sUp.res (resKey 1 15)).owner = none) := by decide
/-- Every timer and reference output held by another owner. -/
def sHeld : State := { sUp with sec := { res := [(resKey 1 0, { owner := some 0x100 }), (resKey 2 0, { owner := some 0x100 })] } }
theorem test_wit_TimerRefused : sHeld.rb (tmrReg 0 0) 31 = false ∧ sHeld.upsets = [] ∧ sHeld.flt.flip = none ∧
    (sHeld.res (resKey 1 0)).owner = some 0x100 := by decide
theorem test_wit_RefoutEnable : sUp.rb 0x1084 31 = false ∧ sUp.upsets = [] ∧ sUp.flt.flip = none ∧ (sUp.res (resKey 2 1)).owner = none ∧
    (sHeld.rb 0x1080 31 = false ∧ (sHeld.res (resKey 2 0)).owner = some 0x100) := by decide
theorem test_wit_RefoutRelease : let s : State := { sUp with sec := { res := [(resKey 2 1, { owner := some 0x0301 })] } }
    wbit (0 : Word) 31 = false ∧ s.upsets = [] ∧ s.flt.flip = none ∧ (s.res (resKey 2 1)).owner = some 0x0301 ∧
    (s.res (resKey 2 1)).behind = false := by decide
theorem test_wit_OscFail : ({ stp := { onXo := false } } : State).stp.onXo = false := by decide
theorem test_wit_DpllLock : let s : State := { stp := { dpll := 1, acqFrames := 8000 } }
    s.stp.dpll = 1 ∧ 8000 ≤ s.stp.acqFrames := by decide
theorem test_wit_HoldReady : let s : State := { stp := { dpll := 2, lockFrames := 800000 } }
    s.stp.dpll = 2 ∧ 800000 ≤ s.stp.lockFrames ∧ s.stp.holdReady = false ∧ s.holdForce = false := by decide
theorem test_wit_HoldForce : let s : State := { cfg := [(0x102C, 0x10)], stp := { dpll := 2, lockFrames := 800000 } }
    s.stp.dpll = 2 ∧ 800000 ≤ s.stp.lockFrames ∧ s.stp.holdReady = false ∧ s.holdForce = true ∧ s.flt.queue.length < 64 := by decide
/-- Candidate 3 enabled. -/
def sRef (r : RefState) : State := { cfg := [(0x1058, 0x800F0000)], stp := { refs := [(3, r)], held := [(0x1058, 0x800F0000)] } }
/-- STP.SEL_CFG in force as given, candidate 3 qualified, the candidate given selected. -/
def sSel (c : Word) (k : Option (Fin 8)) : State := { stp := { refs := [(3, { qualified := true })], held := [(0x1024, c)], sel := k } }
theorem test_wit_RefSelect : let s := sSel 0x000B0000 none
    (s.stpB 0x1024 19 = true ∧ s.stpF 0x1024 16 3 = 3) ∧ (sSel 0 none).stpB 0x1024 19 = false ∧
    (∀ k, (sSel 0 none).stp.sel = some k → (sSel 0 none).stpB 0x1024 29 = true ∨ ((sSel 0 none).ref k).qualified = false) := by
  refine ⟨by decide, by decide, fun k h => ?_⟩; cases h
theorem test_wit_RefSelect_stays : let s := sSel 0 (some 3)
    s.stpB 0x1024 19 = false ∧ s.stpB 0x1024 29 = false ∧ s.stp.sel = some 3 ∧ (s.ref 3).qualified = true ∧ s.stpB 0x1024 31 = false := by decide
theorem test_wit_RefDisq : (sRef {}).refEn 3 = true ∧ ((⟨true, 1201⟩ : RefMeas).edges = false ∨ 1200 < (⟨true, 1201⟩ : RefMeas).fofs ∨
    (⟨true, 1201⟩ : RefMeas).fofs < -1200) := by decide
theorem test_wit_RefQual_start : let s := sRef {}
    s.refEn 3 = true ∧ (s.ref 3).qualified = false ∧ (s.ref 3).disq = false ∧ (s.ref 3).wtrRun = false ∧
    (s.refMeasure 3 ⟨true, 1000⟩).refClear 3 = true ∧ 0 < s.wtrSeconds := by decide
theorem test_wit_RefQual_end : let s := sRef { wtrRun := true }
    s.refEn 3 = true ∧ (s.ref 3).qualified = false ∧ (s.ref 3).disq = false ∧ (s.ref 3).wtrRun = true ∧ (s.ref 3).wtr = 0 ∧ (s.ref 3).wtrAt ≤ s.inFrame ∧
    (s.refMeasure 3 ⟨true, -1000⟩).refClear 3 = true ∧ s.flt.queue.length < 64 := by decide

theorem test_wit_PowerAndResetN : (strap 2).bootSrc ≠ 3 ∧ (strap 3).bootSrc = 3 ∧ sUp.pending = [] := by decide
theorem test_wit_WarmReset : let s : State := { sUp with glb := { sUp.glb with rstReq := some (true, 0x68, 0x41) } }
    s.glb.rstReq = some (true, 0x68, 0x41) ∧ (strap 0).bootSrc ≠ 3 := by decide
theorem test_wit_ChipRstRequest : wbit (0x8000C401 : Word) 31 = true ∧ wfld (0x8000C401 : Word) 8 8 = 0xC4 ∧ sUp.glb.rstReq = none ∧
    wfld (0x8000C501 : Word) 8 8 ≠ 0xC4 := by decide
theorem test_wit_KeysZeroed : ∃ t, exec (.powerOn (strap 0)) sUp = .next t := ⟨_, rfl⟩
theorem test_wit_KeysZeroed_warm : ∃ t, let s : State := { sUp with glb := { sUp.glb with rstReq := some (false, 0, 0) } }
    s.glb.rstReq.isSome = true ∧ exec (.warmChipRst (strap 0)) s = .next t := ⟨_, by decide, rfl⟩
/-- SP loading an image; its first copy, from a flash of the given density. -/
def sLoad (d : Nat) : State := { boot := { stage := 2, density := d } }
theorem test_wit_BootLoad_good : (sLoad 0).boot.stage = 2 ∧ (sLoad 0).loadHeld img = false ∧ imageCode img = 0 :=
  ⟨by decide, by decide +kernel, test_image_code⟩
theorem img_dest : ∀ p, p < 128 → imageDest img p = if p = 80 then [0x10000000] else [] := by decide +kernel
theorem test_wit_BootLoad_dest : imageTable img = true ∧ 80 < img.length ∧ 0x10000000 ∈ imageDest img 80 ∧
    busDecode false 2 0x10000000 = some (0, 0) ∧
    ∀ p' a' k' o', 80 < p' → p' < img.length → a' ∈ imageDest img p' → busDecode false 2 a' = some (k', o') → targetAddr k' o' ≠ targetAddr 0 0 := by
  have l : img.length = 128 := by simp [img, img_tag, img_len]
  refine ⟨by decide +kernel, by omega, by rw [img_dest 80 (by decide)]; simp, by decide, fun p a k o h1 h2 h3 _ => ?_⟩
  rw [img_dest p (by omega), if_neg (by omega)] at h3
  simp at h3
theorem test_wit_BootLoad_bad : (sLoad 27).boot.stage = 2 ∧ (sLoad 27).loadHeld [] = false ∧ imageCode [] ≠ 0 ∧ (sLoad 27).flt.queue.length < 64 ∧
    (sLoad 27).boot.copy = false ∧ 27 ≤ (sLoad 27).boot.density ∧ (sLoad 26).boot.density < 27 := by decide
theorem test_wit_Sfdp : State.reset.boot.stage ≤ 1 ∧ State.reset.boot.src = 0 ∧ State.reset.flt.queue.length < 64 := by decide
theorem test_wit_ProcessorReady : sUp.glb.ready = true := by decide
/-- The push open, with the bytes given in the FIFO. -/
def sPush (f : List Byte) : State := { boot := { stage := 4, src := 1, fifo := f } }
theorem test_wit_PushData : (sPush (List.replicate 4092 0)).pushOpen false = true ∧ (sPush (List.replicate 4092 0)).boot.fifo.length + 4 ≤ 4096 := by
  decide +kernel
theorem test_wit_PushData_over : (sPush (List.replicate 4093 0)).pushOpen false = true ∧ 4096 < (sPush (List.replicate 4093 0)).boot.fifo.length + 4 := by
  decide +kernel
theorem test_wit_PushData_conflict : let s : State := { boot := { stage := 4, owned := true, ownerI2c := true } }
    s.boot.stage = 4 ∧ s.glb.ready = false ∧ s.boot.owned = true ∧ s.boot.ownerI2c = true := by decide
theorem test_wit_PushEnd_held : let s : State := { sPush [] with cfg := [(0x8044, 0x4000)] }
    s.pushOpen false = true ∧ s.loadHeld (s.boot.image ++ s.boot.fifo) = true := by decide
theorem test_wit_PushEnd_good : (sPush img).pushOpen false = true ∧ (sPush img).loadHeld ((sPush img).boot.image ++ (sPush img).boot.fifo) = false ∧
    imageCode ((sPush img).boot.image ++ (sPush img).boot.fifo) = 0 :=
  ⟨rfl, by decide +kernel, test_image_code⟩
theorem test_wit_PushEnd_bad : (sPush []).pushOpen false = true ∧ (sPush []).loadHeld ((sPush []).boot.image ++ (sPush []).boot.fifo) = false ∧ imageCode ((sPush []).boot.image ++ (sPush []).boot.fifo) ≠ 0 := by decide
theorem test_wit_PushTail : let s := sPush img.dropLast
    s.pushOpen false = true ∧ 1 ≤ wfld tailWord 24 2 ∧ s.boot.fifo.length + wfld tailWord 24 2 ≤ 4096 ∧
    s.loadHeld (s.boot.image ++ s.boot.fifo ++ leBytes (wfld tailWord 24 2) tailWord.toNat) = false ∧
    imageCode (s.boot.image ++ s.boot.fifo ++ leBytes (wfld tailWord 24 2) tailWord.toNat) = 0 := by
  have h : wfld tailWord 24 2 = 1 := tail_count _
  have l : img.length = 128 := by simp [img, img_tag, img_len]
  have e : (sPush img.dropLast).boot.image ++ (sPush img.dropLast).boot.fifo ++ leBytes (wfld tailWord 24 2) tailWord.toNat = img := by
    rw [h]
    show [] ++ img.dropLast ++ leBytes 1 tailWord.toNat = img
    rw [List.nil_append, show leBytes 1 tailWord.toNat = [img.getLastD 0] from tail_byte _, ← img_last]
  refine ⟨rfl, by rw [h], by rw [h]; simp [sPush, l], ?_, ?_⟩
  · rw [e]; exact (by decide +kernel : (sPush []).loadHeld img = false)
  · rw [e]; exact test_image_code
theorem test_wit_I2cTarget : (0x5B#7 : BitVec 7) ≠ sUp.i2cTarget ∧ (0 : Word) ≠ 0x5020 ∧ (0 : Word) ≠ 0x9010 ∧ (0 : Word) ≠ 0x9014 ∧ (0 : Word) ≠ 0x9018 := by decide

/-! ### Witnesses: the host interface and the command engine -/

/-- CQ 0 bound to CC 0, both enabled with 16 entries, DMA running; CQ 0 with the given head, host and device index. -/
def sRings (h d : Nat) (head : Option (Desc × Option (List Byte))) : State :=
  { sUp with hif := { bme := true, rings := [(0, { en := true, host := h, dev := d, head := head, base := 4096 }),
                                           (256, { en := true, base := 8192 })] } }
theorem test_wit_Doorbell_at : doorbellAt 0x1F8 = some (0, 63) ∧ doorbellAt 0x1000 = some (1, 0) ∧ doorbellAt 0 = some (0, 0) ∧
    doorbellAt 4 = none ∧ doorbellAt 0x200 = none ∧ doorbellAt 0x9008 = none := by decide
theorem test_wit_Doorbell_off : let s := sUp
    s.glb.ready = true ∧ 63 < ringCount 0 ∧ (s.ring 0 63).en = false := by decide
theorem test_wit_Doorbell_refused : let s := sRings 0 0 none
    s.glb.ready = true ∧ DoorbellRefused s 0 0 16 := ⟨by decide, Or.inr (Or.inl (by decide))⟩
theorem test_wit_Doorbell_back : DoorbellRefused (sRings 2 0 none) 0 0 1 := Or.inr (Or.inr (Or.inr (Or.inl (by decide))))
theorem test_wit_Doorbell_written : DoorbellRefused { sUp with hif := { rings := [(256, { en := true })] } } 1 0 1 :=
  Or.inr (Or.inr (Or.inr (Or.inr (by decide))))
theorem test_wit_Doorbell_taken : (sRings 0 0 none).glb.ready = true ∧ ¬ DoorbellRefused (sRings 0 0 none) 0 0 15 := by
  unfold DoorbellRefused; decide
theorem test_wit_Doorbell_same : let s := sRings 3 3 none
    s.glb.ready = true ∧ (s.ring 0 0).en = true ∧ (s.ring 0 0).host < 2 ^ ringSize 0 (s.ring 0 0).size := by decide
theorem test_wit_RingEnable_cfgErr : sUp.glb.ready = true ∧ (sUp.ring 0 0).en = false ∧ (sUp.ring 1 (wfld (0x80000000 : Word) 16 6)).en = false := by decide
theorem test_wit_RingEnable : sUp.glb.ready = true ∧ 0 < ringCount 9 ∧ (sUp.ring 9 0).en = false ∧
    ((sRings 0 0 none).ring 0 5).en = false ∧ ((sRings 0 0 none).ring 1 (wfld (0x80000000 : Word) 16 6)).en = true := by decide
theorem test_wit_RingDisable : let s := sRings 0 0 none
    (s.ring 0 0).en = true ∧ (s.ring 0 0).head = none := by decide
theorem test_wit_RingDisable_kinds : let s : State := { sUp with hif := { bme := true, rings := [(256, { en := true }), (768, { en := true }), (1792, { en := true })] } }
    (s.ring 1 0).en = true ∧ (s.ring 3 0).en = true ∧ (s.ring 7 0).en = true := by decide
/-- A NOP, due at the frame given. -/
def dNop (due : Word) : Desc := ⟨0x00070000, due, 0, 0, 0, 0, 0, 0⟩
theorem test_wit_RingDisable_abort : let s : State := { sUp with hif := { rings := [(0, { en := true, host := 1, head := some (dNop 0, none) })] } }
    (s.ring 0 0).en = true ∧ (s.ring 0 0).head = some (dNop 0, none) ∧ s.ringRun 1 (s.ring 0 0).bind = false := by decide
theorem test_wit_CplTo_first : let s := sRings 1 0 none
    s.ringRun 0 0 = true ∧ deviceWritten 0 = false ∧ (s.ring 0 0).cplTo = false ∧ s.flt.queue.length < 64 := by decide
theorem test_wit_CplTo_second : let s : State := { sUp with hif := { bme := true, rings := [(512, { en := true, cplTo := true })] } }
    s.ringRun 2 0 = true ∧ deviceWritten 2 = false ∧ (s.ring 2 0).cplTo = true ∧ (s.ring 2 0).head = none := by decide
/-- A completion that waits on CC 0. -/
def comp : Comp := { entry := 0, ring := 0, cc := 0, index := 0, tag := 7, int := false, status := 0 }
theorem test_wit_RingEnable_held : let s : State := { sUp with hif := { bme := true }, ce := { comps := [{ comp with held := true }] } }
    let r := { s.ring 1 0 with en := true, weight := wfld (0x80000800 : Word) 26 4, intMode := 0, bind := 0, size := wfld (0x80000800 : Word) 8 5 }
    s.glb.ready = true ∧ (s.ring 1 0).en = false ∧ s.dmaOn = true ∧ wfld (0x80000800 : Word) 4 2 = 0 ∧ s.ce.comps = [{ comp with held := true }] ∧
    comp.cc = 0 ∧ comp.refusal = false ∧ r.outstanding 1 + 1 < ringLen 1 r := by decide
theorem test_wit_CompletionWrite : let s : State := { sRings 0 0 none with ce := { comps := [comp] } }
    s.ccRoom 0 = true ∧ s.ce.comps = [comp] ∧ comp.cc = 0 ∧ comp.refusal = false ∧ (s.ring 1 0).intMode = 0 := by decide
theorem test_wit_CompletionWrite_heads : ∀ n, ({ sRings 0 0 none with ce := { comps := [comp] } : State }.ring 0 n).head = none := by
  intro n
  rcases n with _ | n
  · rfl
  · simp [State.ring, ringKey, sRings, tget]
    split <;> rfl
theorem test_wit_Writeback : let s : State := { sUp with hif := { bme := true, rings := [(0, { en := true, wb := 64, wbDue := true })] } }
    s.dmaOn = true ∧ (s.ring 0 0).wbDue = true ∧ (s.ring 0 0).intMode = 0 ∧ (s.ring 0 0).wb ≠ 0 := by decide
theorem test_wit_BmeEnable : sUp.hif.bme = false ∧ sUp.hif.pend = 0 ∧ sUp.ce.comps = [] ∧ ∀ n, (sUp.ring 0 n).head = none :=
  ⟨by decide, by decide, by decide, fun _ => rfl⟩
theorem test_wit_D0Entry : let s : State := { sUp with hif := { d3hot := true } }
    s.hif.d3hot = true ∧ s.hif.pend = 0 ∧ s.ce.comps = [] ∧ ∀ n, (s.ring 0 n).head = none := ⟨by decide, by decide, by decide, fun _ => rfl⟩
theorem test_wit_MsixUnmask : let s : State := { sUp with hif := { bme := true, pend := 1#64 <<< 63 } }
    s.dmaOn = true ∧ s.hif.funcMask = false ∧ s.hif.pend = 1#64 <<< (63 : Fin 64).val ∧ sUp.hif.pend = 0 := by decide
theorem test_wit_HostResets : sUp.rb 0x0010 0 = false ∧ (∀ n, (sUp.ring 0 n).head = none) ∧ ({ cfg := [(0x10, 1)] } : State).rb 0x0010 0 = true :=
  ⟨by decide, fun _ => rfl, by decide⟩
theorem test_wit_Admission_opcode : opMask (wfld (0x000000FF : Word) 0 8) = none := by decide
theorem test_wit_Admission_static : parse ⟨0x00000800, 0, 0, 0, 0, 0, 0, 0⟩ none = .bad 0x06 0 := by decide
/-- KEY_LOAD needs CP or SP; here none is in service. -/
theorem test_wit_Admission_service : ∃ c, parse ⟨0x00000071, 0, 1, 0, 0, 0, 0, 0⟩ none = .ok c ∧ State.reset.execReady c = false :=
  ⟨.keyErase 1, by decide, by decide⟩
theorem test_wit_Admission_due : parse (dNop 3) none = .ok .nop ∧ State.reset.execReady .nop = true ∧ (dNop 3).w1 ≠ 0 ∧
    ((dNop 2).w1 - State.reset.stp.frame).toNat < 3 ∧ 3 ≤ ((dNop 3).w1 - State.reset.stp.frame).toNat ∧
    2 ^ 20 < ((dNop 0x100001).w1 - State.reset.stp.frame).toNat := by decide
theorem test_wit_Admission_asap : asapOnly .nop = false ∧ (if (executorOf .nop).isSome then 1215 else 2268) ≤ ({ stp := { phase := 2268 } } : State).stp.phase ∧
    State.reset.stp.phase < (if (executorOf .nop).isSome then 1215 else 2268) ∧ wbit (dNop 0).w0 8 = false ∧ asapOnly .fence = true := by decide
theorem comps_any (n : Nat) : n ≤ ({ ce := { comps := List.replicate n comp } } : State).ce.due.length +
    ({ ce := { comps := List.replicate n comp } } : State).ce.comps.length := by simp
theorem test_wit_Admission_full : ∃ s : State, 65536 ≤ s.ce.due.length + s.ce.comps.length := ⟨_, comps_any 65536⟩
theorem rings_head (h d n : Nat) : ((sRings h d none).ring 0 n).head = none := by
  rcases n with _ | n
  · rfl
  · simp [State.ring, ringKey, sRings, tget]
    split <;> rfl
theorem test_wit_Descriptor_heads : (∀ n, n ≠ 0 → ((sRings 1 0 none).ring 0 n).head = none) ∧
    ∀ n, n ≠ 0 → (({ sRings 1 0 none with stp := { phase := 2300 } } : State).ring 0 n).head = none :=
  ⟨fun n _ => rings_head 1 0 n, fun n _ => rings_head 1 0 n⟩
theorem test_wit_Descriptor_turn : let s : State := { sUp with hif := { bme := true, rings :=
      [(0, { en := true, host := 1 }), (1, { en := true, host := 1 }), (256, { en := true, base := 8192 })] } }
    (s.ring 0 0).head = none ∧ 0 < (s.ring 0 0).pendingCount 0 ∧ s.mayJudge 0 = true ∧ s.ccFree (s.ring 0 0).bind = true ∧
    (s.fetchHead 0 (dNop 3) none).turn = some 1 ∧ (s.ring 0 1).head = none := by decide +kernel
theorem test_wit_Descriptor_taken : let s := sRings 1 0 none
    (s.ring 0 0).head = none ∧ 0 < (s.ring 0 0).pendingCount 0 ∧ s.mayJudge 0 = true ∧ s.ccFree (s.ring 0 0).bind = true ∧
    (s.fetchHead 0 (dNop 3) none).turn = some 0 ∧
    (s.fetchHead 0 (dNop 3) none).verdict 0 (dNop 3) none = .take 3 .nop ∧ asapOnly .nop = false := by decide
theorem test_wit_Descriptor_waits : let s : State := { sRings 1 0 none with stp := { phase := 2300 } }
    (s.ring 0 0).head = none ∧ 0 < (s.ring 0 0).pendingCount 0 ∧ s.mayJudge 0 = true ∧ s.ccFree (s.ring 0 0).bind = true ∧
    (s.fetchHead 0 (dNop 0) none).turn = some 0 ∧ (s.fetchHead 0 (dNop 0) none).verdict 0 (dNop 0) none = .wait (some 0x06) := by decide
theorem test_wit_Descriptor_refused : let s := sRings 1 0 none
    (s.ring 0 0).head = none ∧ 0 < (s.ring 0 0).pendingCount 0 ∧ s.mayJudge 0 = true ∧ s.ccFree (s.ring 0 0).bind = true ∧
    (s.fetchHead 0 (dNop 2) none).turn = some 0 ∧ (s.fetchHead 0 (dNop 2) none).verdict 0 (dNop 2) none = .refuse 0x01 0 ∧ (s.ring 1 (s.ring 0 0).bind).intMode = 0 := by decide
theorem test_wit_CeStall : let s : State := { cfg := [(0x2204, 5)], hif := { rings := [(0, { en := true, head := some (dNop 0, none), waited := 5 })] } }
    s.rf 0x2204 0 16 ≠ 0 ∧ (s.ring 0 0).head.isSome = true ∧ (s.ring 0 0).waited = s.rf 0x2204 0 16 ∧ s.flt.queue.length < 64 := by decide
/-- A NOP of ring 0 that waits for frame 5. -/
def due (b : Word) : Due :=
  { entry := 0, seq := 0, ring := 0, cc := 0, index := 0, tag := 7, int := false, nocomp := false, asap := false, boundary := b,
    noBoundary := false, cmd := .nop }
theorem test_wit_Immediate : sUp.flt.fatal = false ∧ hd.nocomp = false ∧ { hd with nocomp := true }.nocomp = true ∧ sUp.flt.flip = none ∧
    sUp.ce.due = [] := by decide
theorem test_wit_Fence_waits : let s : State := { sUp with ce := { due := [due 5], seq := 1 } }
    s.flt.fatal = false ∧ s.ce.due = [due 5] ∧ (due 5).noBoundary = false ∧ (due 5).seq < s.ce.seq ∧ (due 5).ring = hd.ring ∧
    (due 5).ring ≠ ({ hd with ring := 1 } : Hdr).ring := by decide
theorem test_wit_Stopped : sUp.flt.fatal = false ∧ sUp.stops (.tswSet (run 0 33)) = some { status := 0x06, result := 0 } ∧
    staticTest (.tswSet (run 0 33)) = some 0 ∧ staticTest (.keyErase 1) = none ∧ State.reset.execReady (.keyErase 1) = false ∧
    sFatal.flt.fatal = true := by decide
theorem test_wit_NeverLate : let s : State := { ce := { due := [due 5], seq := 1 } }
    s.DueOk ∧ step s = .next s.tick ∧ (due 5) ∈ s.ce.due ∧ (due 5).noBoundary = false ∧ s.stp.epoch = none ∧
    (s.ce.due.map (fun d => d.seq)).Nodup ∧ (due 5).boundary ≠ s.stp.frame + 1 :=
  ⟨⟨by decide, by decide⟩, rfl, by decide, by decide, rfl, by decide, by decide⟩
theorem test_wit_NeverLate_epoch : let s : State := { stp := { epoch := some 1000 }, ce := { due := [due 5], seq := 1 } }
    s.stp.epoch = some 1000 ∧ (s.ce.due.map (fun d => d.seq)).Nodup ∧ (due 5).boundary ≠ s.stp.frame + 1 := by decide
theorem test_wit_NeverLate_frame : let s : State := { ce := { due := [due 5], seq := 1 } }
    s.DueOk ∧ ∃ t, exec .snapLatch s = .next t := ⟨⟨by decide, by decide⟩, _, rfl⟩

/-! ### Witnesses: HO and LO paths -/

theorem test_wit_Pi : (0 : Nat) ≤ 782 ∧ ({} : Pi).st ≠ 0 ∧ ({ st := 0 } : Pi).st = 0 ∧ 2 < popcount 10 (100 ^^^ (0 ^^^ 0x2AA)) ∧
    2 < popcount 10 (100 ^^^ (0 ^^^ 0x155)) ∧ ({ st := 0 } : Pi).ndf + 1 < 8 ∧ 0x2AA ≠ 0 ∧ popcount 10 (0x2AA ^^^ (0 ^^^ 0x2AA)) ≤ 2 ∧
    0x155 ≠ 0 ∧ 2 < popcount 10 (0x155 ^^^ (0 ^^^ 0x2AA)) ∧ popcount 10 (0x155 ^^^ (0 ^^^ 0x155)) ≤ 2 := by decide
/-- Path 0 as given; the flow of its timeslots with that many units, the entry of destination 0, its store. -/
def sPath (p : HoPath) (n : Nat) (e : Word) (st : Store) : State :=
  { sUp with hop := { paths := [(0, p)], flows := [(0, { base := 0, units := List.replicate n (5, [1]) })], xcA := [(0, e)], stores := [(0, st)] } }
theorem test_wit_RxPath : let s : State := { sUp with ports := [(0, { en := true, defects := 0 })] }
    (s.port 0).en = true ∧ (s.port 0).def_ 1 = false ∧ s.pathsOf 0 ≠ [] := by decide +kernel
theorem test_wit_RxPath_flow : let s := sPath { defects := 0, pi := { st := 0 } } 0 0 {}
    let r := s.rxPointer 0 (List.replicate 2430 0x60) 0 3
    (r.2.path 0).def_ 0 = false ∧ (r.2.path 0).def_ 1 = false := by decide +kernel
theorem test_wit_PathOverhead : let p := (sPath { c2Run := ⟨2, 4⟩, rdiRun := ⟨1, 4⟩, bip := some 0 } 0 0 {}).path 0
    p.c2Run.v = (2 : Byte).toNat ∧ 4 ≤ p.c2Run.n ∧ p.rdiRun.v = b2n ((8 : Byte).getLsbD 3) ∧ 4 ≤ p.rdiRun.n ∧ p.bip = some 0 := by decide
theorem test_wit_XcSource : wbit ((sPath {} 0 0 {}).xc 0) 15 = false ∧ (let e := (sPath {} 0 0xA005 {}).xc 0
      wbit e 15 = true ∧ tget 0 (sPath {} 0 0xA005 {}).hop.mism 0 = 0 ∧ wfld e 16 2 = 0 ∧ wbit e 14 = false) ∧
    (let e := (sPath {} 0 0xC000 {}).xc 0
     wbit e 15 = true ∧ wfld e 16 2 = 0 ∧ wbit e 14 = true) ∧
    (wfld ((sPath {} 0 0x18000 {}).xc 0) 16 2 = 1 ∧ wfld ((sPath {} 0 0x28000 {}).xc 0) 16 2 = 2 ∧
      tget 0 ({ sUp with hop := { mism := [(0, 1)] } } : State).hop.mism 0 ≠ 0) := by decide
theorem test_wit_GenPath : ((sPath {} 0 0x8000 {}).xcSource ((sPath {} 0 0x8000 {}).txSlot 0 0) = 0 ∧
      ((sPath {} 0 0x8000 {}).path ((sPath {} 0 0x8000 {}).lineMon 0)).aisDown = true) ∧
    (sPath {} 0 0 {}).xcSource ((sPath {} 0 0 {}).txSlot 0 0) = 8176 ∧ ((sPath {} 0 0 {}).store 0).hold = false ∧
    (sPath {} 0 0x18000 {}).xcSource ((sPath {} 0 0x18000 {}).txSlot 0 0) = 8177 ∧
    ((sPath { defects := 0 } 0 0x8000 {}).path ((sPath { defects := 0 } 0 0x8000 {}).lineMon 0)).aisDown = false := by decide +kernel
/-- A store that reads flow 0 from its first unit on, in a positive, no, or a negative justification. -/
theorem test_wit_GenFlow : ∀ n ∈ [784 + 783, 784 + 783 + 24, 784 + 783 + 48], let s := sPath {} n 0 { src := 0, ais := false, uneq := false, ptr := 778 }
    let f := s.flow 0
    let st := s.store 0
    let reach := f.ends + s.flowAge 0 - 783
    f.base ≤ st.pos ∧ st.src = 0 ∧ st.ais = false ∧ st.uneq = false ∧ st.pos + 784 ≤ reach ∧ reach ≤ st.pos + 784 + 48 ∧
    3 ≤ st.since ∧ (783 - ((f.since st.pos).getD 261 (0, [])).1) % 783 = st.ptr := by decide +kernel
theorem test_wit_GenFlow_slip : let s := sPath {} 1 0 { src := 0, ais := false, uneq := false }
    (s.flow 0).ends + s.flowAge 0 - 783 < (s.store 0).pos + 784 ∧ (s.store 0).src = 0 ∧ (s.store 0).src ≠ 1 := by decide

/-! ### Witnesses: the truss and the paged tables -/

/-- DMA running. -/
def sDma : State := { sUp with hif := { bme := true } }
theorem test_wit_TrussRun_min : Carries (.tswSet (run 0 1)) sUp := ⟨by decide, by decide⟩
theorem test_wit_TrussRun_max : Carries (.tswSet { run 0x7FFE0 32 with step := true }) sUp := ⟨by decide, by decide⟩
theorem test_wit_TrussFill : Carries (.tswFill (run 0 65536)) sUp ∧ Carries (.tswFill { run 0x8FFE0 32 with step := true }) sUp :=
  ⟨⟨by decide, by decide⟩, by decide, by decide⟩
theorem test_wit_TrussPatch : Carries (.tswPatch (run 0 1)) sUp ∧ sUp.tswDirty 0 = false ∧
    (Carries (.tswPatch (run 0 1)) { sUp with tsw := { dirty := [(0, true)] } } ∧
      ({ sUp with tsw := { dirty := [(0, true)] } } : State).tswDirty 0 = true) := ⟨⟨by decide, by decide⟩, by decide, ⟨by decide, by decide⟩, by decide⟩
theorem test_wit_TrussRead : Carries (.tswRead (rd 1 1024)) sDma ∧ Carries (.tswRead (rd 2 1)) sDma ∧ sDma.dmaOn = true :=
  ⟨⟨by decide, by decide⟩, ⟨by decide, by decide⟩, by decide⟩
theorem test_wit_TrussRead_stopped : Carries (.tswRead (rd 0 1)) sUp ∧ sUp.dmaOn = false := ⟨⟨by decide, by decide⟩, by decide⟩
/-- Slots 5 and 13 read input slots 2 and 8; slot 21 holds. -/
def sPass : State := { sUp with tsw := { pageA := [(5, 0x100002), (13, 0x100008), (21, 0x900000)] } }
theorem test_wit_ReadPass : ((sPass.tswPage sPass.tsw.active).map (fun e => e.1)).Nodup ∧ sPass.upsets = [] ∧
    (let idle (k : Nat) := wbit (tget 0 (sPass.tswPage sPass.tsw.active) k) 20 = false ∨ 0 < tget 0 sPass.tsw.wipe (k % 8) ∨
       sPass.tswPoison sPass.tsw.active k = true
     idle 6 ∧ ¬ idle 5 ∧ ¬ idle 21 ∧ wbit (tget 0 (sPass.tswPage sPass.tsw.active) 21) 23 = true ∧
     wbit (tget 0 (sPass.tswPage sPass.tsw.active) 5) 23 = false) ∧ (sPass.tsw.stage.map (fun e => e.1)).Nodup := by decide
theorem test_wit_ReadPass_lost : let s : State := { sPass with upsets := [{ mem := .dm 5 sPass.readHalf 0, double := true }] }
    ((s.tswPage s.tsw.active).map (fun e => e.1)).Nodup ∧ s.upsets = [{ mem := .dm 5 s.readHalf 0, double := true }] ∧ 5 % 8 = (5 : Fin 8).val ∧
    wfld (tget 0 (s.tswPage s.tsw.active) 5) 0 20 / 8 = 0 ∧ wbit (tget 0 (s.tswPage s.tsw.active) 5) 23 = false := by decide
theorem test_wit_Commit : Carries .fabricCommit sUp := ⟨by decide, by decide⟩
theorem test_wit_Commit_clash : ({ tsw := { committed := true }, stp := { frame := 3 } } : State).commitClash 3 = some 0 ∧
    ({ tsw := { committed := true }, stp := { frame := 4 } } : State).commitClash 4 = none := by decide
theorem test_wit_Copyback : let s : State := { tsw := { copyLeft := 3, dirty := [(5, true)] }, cnf := { copyLeft := 1 }, hop := { copy := true } }
    s.tsw.copyLeft ≠ 0 ∧ s.cnf.copyLeft ≠ 0 ∧ s.hop.copy = true ∧ s.tswDirty 5 = true := by decide

/-! ### Witnesses: maps, overhead, traces, line ports -/

theorem test_wit_XcSet : Carries (.xcSet (xc 8175 8176)) sUp ∧ Carries (.xcSet { xc 6144 6147 with width := 3 }) sUp :=
  ⟨⟨by decide, by decide⟩, by decide, by decide⟩
theorem test_wit_XcSet_sel : Carries (.xcSet { xc 8000 0 with sel := true })
    { sUp with prt := { groups := [(65536, { inUse := true, op := prot 0 1 })] } } := ⟨by decide, by decide⟩
theorem test_wit_LomapSet : Carries (.lomapSet 271 2 (2 ^ 21 - 1)) sUp ∧ (sUp.vc4 271).struct ≠ 2 ∧ Carries (.lomapSet 0 0 0) sUp ∧
    (sUp.vc4 0).struct = 0 := ⟨⟨by decide, by decide⟩, by decide, ⟨by decide, by decide⟩, by decide⟩
/-- Ports 0 and 1 a line pair. -/
def sPair : State := { sUp with prt := { groups := [(0, { inUse := true, op := { prot 0 0 with bidir := true } })] } }
theorem test_wit_HopStruct : sUp.pairOf 0 = none ∧ sPair.pairOf 1 = some 0 := by decide
theorem test_wit_OhSet_line : Carries (.ohSet 1 31 0xFF) sUp ∧ Carries (.ohSet 9 0 0) sUp := ⟨⟨by decide, by decide⟩, by decide, by decide⟩
theorem test_wit_OhSet_ho : Carries (.ohSet 0x10 6144 1) sUp ∧ Carries (.ohSet 0x11 0xBF1F 1) sUp ∧ Carries (.ohSet 0x12 0 0x3F) sUp ∧
    Carries (.ohSet 0x12 (BitVec.ofNat 32 (2 ^ 31 + 7727)) 1) sUp ∧ Carries (.ohSet 0x13 7727 1) sUp ∧ Carries (.ohSet 0x14 6144 0xFFFF) sUp ∧
    Carries (.ohSet 0x15 6144 1) sUp := by
  refine ⟨⟨?_, ?_⟩, ⟨?_, ?_⟩, ⟨?_, ?_⟩, ⟨?_, ?_⟩, ⟨?_, ?_⟩, ⟨?_, ?_⟩, ?_, ?_⟩ <;> decide
theorem test_wit_OhSet_lo : Carries (.ohSet 0x20 16383 0x3F) sUp ∧ Carries (.ohSet 0x21 0 0xFF) sUp ∧ Carries (.ohSet 0x22 0 0xFF) sUp := by
  refine ⟨⟨?_, ?_⟩, ⟨?_, ?_⟩, ?_, ?_⟩ <;> decide
theorem test_wit_TraceSet : Carries (.traceSet (tr 7)) sUp ∧ (tr 7).fields.testBit 3 = true ∧ (sUp.trace 0 0).n ≠ (tr 7).n ∧
    Carries (.traceSet { tr 3 with kind := 1, index := 2047, rxBind := true, txBind := true, txSlot := 7727 }) sUp := by
  refine ⟨⟨?_, ?_⟩, ?_, ?_, ?_, ?_⟩ <;> decide
theorem test_wit_TraceRead : Carries (.traceRead 8 2 16383) sDma ∧ sDma.dmaOn = true ∧ Carries (.traceRead 8 0 0) sUp ∧ sUp.dmaOn = false := by
  refine ⟨⟨?_, ?_⟩, ?_, ⟨?_, ?_⟩, ?_⟩ <;> decide
theorem test_wit_TraceNew : let s : State := { sUp with scribe := [(0, { ready := some [1] })], ports := [(0, { defects := 0 })] }
    (s.trace 0 0).ready = some [1] ∧ s.inSvc (traceOp 0 0) = true ∧ s.layerLost 0 0 = false ∧ s.rb 0x20008 25 = false ∧
    s.flt.queue.length < 64 ∧ (sUp.trace 0 0).ready = none := by decide

/-- Port 0 enabled, otherwise as given. -/
def sPort (p : Port) : State := { sUp with ports := [(0, { p with en := true })] }
theorem test_wit_PortCfg : ((sUp.port 0).en = false ∧ sUp.pairOf 0 = none) ∧ ((sPort {}).port 0).en = true ∧ (sPair.pairOf 1).isSome = true := by decide
theorem test_wit_Lof : ((sPort { oofInt := 24 }).port 0).en = true ∧ ((sPort { oofInt := 24 }).port 0).def_ 3 = false ∧
    24 ≤ ((sPort { oofInt := 24 }).port 0).oofInt := by decide
theorem test_wit_Lof_clear : let s := sPort { inRun := 24, defects := 0b1000 }
    (s.port 0).en = true ∧ (s.port 0).def_ 3 = true ∧ 24 ≤ (s.port 0).inRun := by decide
theorem test_wit_LosL : ((sPort { defects := 0 }).port 0).en = true ∧ ((sPort { noSignal := true }).port 0).noSignal = true := by decide
theorem test_wit_SerdesLol : let s := sPort { cdrLock := true, txLock := true }
    (s.port 0).en = true ∧ (s.port 0).rxLol = false ∧ (s.port 0).txLol = false ∧ s.flt.queue.length < 64 := by decide
theorem test_wit_TxFrame : let s := sPort { txLock := true }
    s.txStarts 0 = true ∧ s.txIdle 0 = false := by decide
theorem test_wit_TxFrame_idle : let s := sPort { txLol := true }
    s.txStarts 0 = true ∧ s.txIdle 0 = true ∧ sUp.txStarts 0 = false := by decide
theorem test_wit_RxFrame : let s := sPort { defects := 0, frm := 2, bad := 3 }
    (s.port 0).en = true ∧ (s.port 0).def_ 1 = false ∧ (s.port 0).frm = 2 ∧
    (s.port 0).align ∉ frameMarks (s.portN 0) (s.huntN 0) (rxSpan (lineLen (s.portN 0)) (s.port 0).rxPrev []) ∧ 3 ≤ (s.port 0).bad := by
  decide +kernel
/-- The bytes of a line frame that begins with the framing pattern. -/
def framed : List Byte := List.replicate 3 0xF6 ++ List.replicate 3 0x28
theorem test_wit_RxFrame_match : let s := sPort { defects := 0, frm := 1, passes := 1, align := 2430 }
    (s.port 0).frm = 1 ∧ frameMarks (s.portN 0) (s.huntN 0) (rxSpan (lineLen (s.portN 0)) (s.port 0).rxPrev framed) = [(s.port 0).align] ∧
    s.confirmN 0 ≤ (s.port 0).passes + 2 ∧ ((sPort { defects := 0 }).port 0).frm = 0 := by decide +kernel
theorem test_wit_RxFrame_off : (sUp.port 0).en = false ∧ ((sPort { defects := 0b10 }).port 0).def_ 1 = true := by decide

/-! ### Witnesses: tributaries and highways -/

/-- Tributary 0 with its settings and framer; VC-4 0 structured. -/
def sTrib (t : Trib) : State := { sUp with vc4s := [(0, { struct := 2 })], tribs := [(0, t)], los := [(0, { defects := 0 })] }
theorem test_wit_TribCfg : Carries (.tribCfg 0 (trib true)) (sTrib { cfg := trib false }) ∧ tribRestarts (trib false) (trib true) = true ∧
    Carries (.tribCfg 0 { trib true with cond := 0 }) (sTrib { cfg := trib true }) ∧
    tribRestarts (trib true) { trib true with cond := 0 } = false := by refine ⟨⟨?_, ?_⟩, ?_, ⟨?_, ?_⟩, ?_⟩ <;> decide
theorem test_wit_SigSet : let s := sTrib { cfg := { trib true with cas := true } }
    Carries (.sigSet ⟨0, false, false, 15, 0xFFFFFFFF⟩) s ∧ Carries (.sigSet ⟨0, true, true, 0, 0⟩) s ∧
    signalled (s.trib 0).want 1 = true ∧ signalled (s.trib 0).want 0 = false := by refine ⟨⟨?_, ?_⟩, ⟨?_, ?_⟩, ?_, ?_⟩ <;> decide
/-- Bits of an E1 frame with TS0 as given. -/
def e1 (b : Byte) : List Bool := bitsOf (b :: List.replicate 31 0)
theorem test_wit_E1_hunt : let s := sTrib { cfg := trib true, hunt := e1 0x1B ++ e1 0x40, rxBits := e1 0x1B }
    (s.trib 0).cfg.en = true ∧ (s.trib 0).cfg.t1 = false ∧ (s.trib 0).frm = 0 ∧ 256 ≤ (s.trib 0).rxBits.length ∧
    e1Find ((s.trib 0).hunt ++ (s.trib 0).rxBits.take 256) 0 = some 0 ∧ e1Find (e1 0x1B ++ e1 0 ++ e1 0x1B) 0 = none := by decide +kernel
theorem test_wit_E1_loss : let s := sTrib { cfg := trib true, frm := 1, fasBad := 2, rxBits := e1 0x5B }
    (s.trib 0).frm ≠ 0 ∧ (s.trib 0).odd = false ∧ 2 ≤ (s.trib 0).fasBad ∧
    byteAt (packBits 32 ((s.trib 0).rxBits.take 256)) 0 &&& 0x7F ≠ 0x1B := by decide +kernel
/-- The bits of a T1 frame of a superframe, all its channels 0. -/
def sf (k : Nat) : List Bool := ((t1Wanted false k).getD false) :: List.replicate 192 false
/-- A T1 framer in hunt before the frame that completes two superframes. -/
def sT1 : State := sTrib { cfg := { trib true with t1 := true }, hunt := (List.range 23).flatMap (fun k => sf (k % 12)), rxBits := sf 11 }
theorem test_wit_T1_hunt : let s := sT1
    (s.trib 0).cfg.en = true ∧ (s.trib 0).cfg.t1 = true ∧ (s.trib 0).frm = 0 ∧ 193 ≤ (s.trib 0).rxBits.length := by decide +kernel
theorem test_t1_aligns : ((go (.rxTribFrame 0 true) sT1).trib 0).frm = 2 := by decide +kernel
theorem test_wit_Trib_off : (sUp.trib 0).cfg.en = false ∧ ((sTrib { cfg := trib true }).trib 0).rxBits.length < 256 := by decide
theorem test_wit_Crc4None : let s := sTrib { cfg := { trib true with crc4 := 2 }, frm := 1, noMf := 3200 }
    (s.trib 0).cfg.en = true ∧ (s.trib 0).cfg.crc4 = 2 ∧ (s.trib 0).crcNone = false ∧ (s.trib 0).frm = 1 ∧ 3200 ≤ (s.trib 0).noMf ∧
    s.rb 0x30000 12 = false ∧ s.flt.queue.length < 64 := by decide
theorem test_wit_SigHoldoff : let s := sTrib { cfg := trib true, sig := { holdoff := some 0, pend := 2 } }
    (s.trib 0).sig.holdoff = some 0 ∧ (s.trib 0).sig.pend ≠ 0 ∧ s.rb 0x30000 9 = false ∧ s.flt.queue.length < 64 ∧
    ((sTrib { cfg := trib true, sig := { holdoff := some 0 } }).trib 0).sig.pend = 0 := by decide
/-- Highway 0 enabled. -/
def sHwy (h : Hwy) : State := { sUp with hwys := [(0, { h with cfg := 0x80000000 })] }
theorem test_wit_HwyGroup : (∃ j, j < 8 ∧ ((sHwy {}).hwy (8 * 0 + j)).en = true) ∧ ∀ j, j < 8 → (sUp.hwy (8 * 0 + j)).en = false :=
  ⟨⟨0, by decide, by decide⟩, by decide⟩
theorem test_wit_HwySync_master : let s : State := { sHwy {} with cfg := [(grpReg 0, 0x80000000)] }
    (s.hwy 0).en = true ∧ (s.hwyGrp 0).refused = false ∧ s.hwyMaster 0 = true := by decide
theorem test_wit_HwySync_slave : let s := sHwy { slip := { unread := some [], reading := true } }
    (s.hwy 0).en = true ∧ (s.hwyGrp 0).refused = false ∧ s.hwyMaster 0 = false ∧ (s.hwy 0).fsLoss = false ∧
    (s.hwy 0).slip.unread.isSome = true ∧ (s.hwy 0).slip.reading = true ∧ s.hwyOffset 0 = 0 ∧
    hwyOnCount s 0 ⟨[], 0⟩ ⟨[], s.hwyBits 0⟩ = true ∧ hwyOnCount s 0 ⟨[], s.hwyBits 0⟩ ⟨[], 0⟩ = false := by decide
theorem test_wit_HwySync_offset : let s : State := { sUp with hwys := [(0, { cfg := 0x80010000, cur := some [] })] }
    (s.hwy 0).en = true ∧ s.hwyOffset 0 = 1 ∧ (s.hwy 0).cur = some [] ∧ (s.hwy 0).fsLoss = false := by decide
theorem test_wit_HwyFsLoss : let s : State := { sHwy { syncAt := some (0, 0) } with stp := { frame := 2 } }
    (s.hwy 0).en = true ∧ s.hwyMaster 0 = false ∧ 2 * subTicks ≤ s.syncAge 0 ∧ (sHwy {}).syncAge 0 < 2 * subTicks := by decide
theorem test_wit_HwySync_regain : let s := sHwy { fsLoss := true, goodSync := 1 }
    (s.hwy 0).fsLoss = true ∧ 1 ≤ (s.hwy 0).goodSync := by decide
theorem test_wit_HwySync_bad : let s := sHwy { badSync := 1 }
    (s.hwy 0).en = true ∧ s.hwyMaster 0 = false ∧ (s.hwy 0).fsLoss = false ∧ 1 ≤ (s.hwy 0).badSync := by decide

/-! ### Witnesses: conferences -/

/-- Conference 0 with participant 0, in use on both pages. -/
def sCnf : State := { sDma with cnf := {
  confA := [(0, { inUse := true, set := conf 1 })], confB := [(0, { inUse := true, set := conf 1 })],
  partA := [(0, { inUse := true, set := part 0 3 })], partB := [(0, { inUse := true, set := part 0 3 })] } }
theorem test_wit_CnfCreate : Carries (.cnfCreate 16383 (conf 8)) sCnf := ⟨by decide, by decide⟩
theorem test_wit_CnfJoin : Carries (.cnfJoin 65535 (part 0 0)) sCnf := ⟨by decide, by decide⟩
theorem test_wit_CnfLeave : Carries (.cnfLeave 0) sCnf := ⟨by decide, by decide⟩
theorem test_wit_CnfDestroy : Carries (.cnfDestroy 0) sCnf := ⟨by decide, by decide⟩
theorem test_wit_CnfModify : Carries (.cnfModify (cmod 0 true false 0xF0)) sCnf ∧ (cmod 0 true false 0xF0).isConf = true ∧
    Carries (.cnfModify (cmod 0 false false 0x10F)) sCnf ∧ (cmod 0 false false 0x10F).hot = false := by
  refine ⟨⟨?_, ?_⟩, ?_, ⟨?_, ?_⟩, ?_⟩ <;> decide
theorem test_wit_CnfModify_hot : Carries (.cnfModify (cmod 0 false true 0xD)) sCnf ∧ sCnf.hotOk (cmod 0 false true 0xD) = true := by
  refine ⟨⟨?_, ?_⟩, ?_⟩ <;> decide
theorem test_wit_CnfQuery : Carries (.cnfQuery 8 16383) sDma ∧ sDma.dmaOn = true ∧ Carries (.cnfQuery 8 0) sUp ∧ sUp.dmaOn = false := by
  refine ⟨⟨?_, ?_⟩, ?_, ⟨?_, ?_⟩, ?_⟩ <;> decide
theorem test_wit_ToneLoad : Carries (.toneLoad 255 (tone 8)) sUp := ⟨by decide, by decide⟩
theorem test_wit_SpeakerHoldoff : let s : State := { cnf := { spk := [(0, { holdoff := some 0, pend := true }), (1, { holdoff := some 0 })] } }
    (s.spkOf 0).holdoff = some 0 ∧ (s.spkOf 0).pend = true ∧ s.rb 0x50008 0 = false ∧ s.flt.queue.length < 64 ∧
    (s.spkOf 1).holdoff = some 0 ∧ (s.spkOf 1).pend = false ∧ (Kind.cnfSpeaker.code, 0) ∉ s.cnf.seen ∧
    (Kind.cnfSpeaker.code, 0) ∈ ({ s with cnf := { s.cnf with seen := [(Kind.cnfSpeaker.code, 0)] } } : State).cnf.seen := by decide
theorem test_wit_LanePass : let s : State := { sCnf with stp := { phase := 150 } }
    s.cnf.laneDone = false ∧ 150 ≤ s.stp.phase ∧ s.upsets = [] ∧ s.partLive 0 = true ∧ s.laneWiped (0 / 4096) = false ∧ s.partPoison 0 = false := by
  decide
theorem test_wit_CollectorWindow : let s : State := { sCnf with cnf := { sCnf.cnf with laneDone := true }, stp := { phase := 1944 } }
    s.cnf.laneDone = true ∧ s.cnf.colDone = false ∧ 1944 ≤ s.stp.phase ∧ s.upsets = [] ∧ s.partLive 0 = true := by decide

/-! ### Witnesses: protection switching -/

/-- Group 0 of the kind in use, otherwise as given. -/
def sGrp (k : Fin 4) (g : Group) : State := { sUp with prt := { groups := [(65536 * k.val, { g with inUse := true })] } }
theorem test_wit_ProtGroup_create : Carries (.protGroup { prot 0 0 with wtr := 720, holdoff := 100 }) sUp := ⟨by decide, by decide⟩
theorem test_wit_ProtGroup_rest : Carries (.protGroup (prot 1 0)) (sGrp 0 { op := prot 0 0 }) ∧
    Carries (.protGroup (prot 2 0)) (sGrp 0 { op := prot 0 0 }) := by refine ⟨⟨?_, ?_⟩, ?_, ?_⟩ <;> decide
theorem test_wit_ProtCmd_none : Carries (.protCmd 0 15 1) sUp ∧ (sUp.group 0 15).inUse = false := by refine ⟨⟨?_, ?_⟩, ?_⟩ <;> decide
theorem test_wit_ProtCmd_poison : let s := sGrp 0 { op := prot 0 0, poison := true }
    Carries (.protCmd 0 0 1) s ∧ (s.group 0 0).inUse = true ∧ (s.group 0 0).poison = true ∧ s.upsetAt (.group 0 0) = none := by
  refine ⟨⟨?_, ?_⟩, ?_, ?_, ?_⟩ <;> decide
theorem test_wit_ProtCmd : let s := sGrp 0 { op := prot 0 0, cmd := some 1 }
    (s.group 0 0).inUse = true ∧ (s.group 0 0).poison = false ∧ s.upsetAt (.group 0 0) = none ∧ Carries (.protCmd 0 0 1) s ∧
    Carries (.protCmd 0 0 0) s ∧ (s.group 0 0).cmd = some 1 ∧ ((sGrp 0 { op := prot 0 0 }).group 0 0).cmd = none ∧
    Carries (.protCmd 0 0 0) (sGrp 0 { op := prot 0 0 }) := by refine ⟨?_, ?_, ?_, ⟨?_, ?_⟩, ⟨?_, ?_⟩, ?_, ?_, ?_, ?_⟩ <;> decide
theorem test_wit_ProtQuery : Carries (.protQuery 8 3 2047) sDma ∧ sDma.dmaOn = true ∧ Carries (.protQuery 8 0 0) sUp ∧ sUp.dmaOn = false := by
  refine ⟨⟨?_, ?_⟩, ?_, ⟨?_, ?_⟩, ?_⟩ <;> decide
/-- A line pair whose working port has failed. -/
def sSf : State := { sGrp 0 { op := prot 0 0, w := { hold := some 0 } } with
  ports := [(0, { en := true, defects := 0b10 }), (1, { en := true, defects := 0 })] }
theorem test_wit_SelectorDecision : let x := sSf.group 0 0
    x.decides 0 = true ∧ sSf.upsetAt (.group 0 0) = none ∧ sSf.bidir 0 x = false ∧ x.cmd = none ∧ x.op.holdoff = 0 ∧ x.selP = false ∧
    (sSf.triggers 0 x false).1 = true ∧ sSf.triggers 0 x true = (false, false) := by decide
theorem test_wit_HoldoffExpiry : let x := sSf.group 0 0
    x.decides 0 = true ∧ x.w.hold = some 0 ∧ x.w.at_ ≤ sSf.inFrame ∧ x.selP = false ∧ x.cmd = none := by decide
theorem test_wit_WtrExpiry : let s : State := { sGrp 0 { op := prot 0 0, selP := true, wtrOn := true, req := 8 } with
      ports := [(0, { en := true, defects := 0 }), (1, { en := true, defects := 0 })] }
    let x := s.group 0 0
    x.decides 0 = true ∧ s.bidir 0 x = false ∧ x.cmd = none ∧ x.selP = true ∧ x.op.revert = true ∧ x.wtrOn = true ∧ x.wtrLeft = 0 ∧
    x.wtrArm = false ∧ x.dnr = false ∧ x.req = 8 ∧ s.triggers 0 x false = (false, false) ∧ s.triggers 0 x true = (false, false) := by decide
theorem test_wit_ProtSw : let s := sGrp 2 { op := prot 0 2, move := some (true, 13) }
    (s.group 2 0).move = some (true, 13) ∧ s.inFrame = 0 ∧ s.rb 0x60004 0 = false ∧ s.flt.queue.length < 64 ∧ (sUp.group 0 0).move = none := by decide
theorem test_wit_K1Protocol : (sPair.group 0 0).inUse = true ∧ (sPair.group 0 0).poison = false ∧ sPair.pairOp (sPair.group 0 0) = true := by decide
theorem test_wit_ProtExer : let s := sGrp 0 { op := prot 0 0, exer := some 0, cmd := some 6 }
    (s.group 0 0).exer.isSome = true ∧ (s.group 0 0).exer = some 0 ∧ s.rb 0x60004 4 = false ∧ s.flt.queue.length < 64 := by decide

/-! ### Witnesses: streams, GFP, the DCC -/

/-- Stream 0 open in both directions, with its rings. -/
def sStr : State := { sUp with
  hif := { bme := true, rings := [(512, { en := true, host := 1 }), (768, { en := true, host := 1 })] }
  strs := [(0, { inn := some { op := strm 0 }, out := some { op := strm 0 }, outOp := some (strm 0)
                 wait := [{ seq := 0, first := 0, rows := [[0]], err := false, epoch := false }] })] }
theorem test_wit_StreamOpen : Carries (.streamOpen (strm 255)) sUp ∧ Carries (.streamOpen { strm 0 with dirIn := false, start := 1 }) sUp ∧
    Carries (.streamOpen { strm 0 with dirOut := false, k := 512, depth := 4 }) sUp := by refine ⟨⟨?_, ?_⟩, ⟨?_, ?_⟩, ?_, ?_⟩ <;> decide
theorem test_wit_StreamClose : Carries (.streamClose 0 true false) sStr ∧ Carries (.streamClose 0 false true) sStr ∧
    Carries (.streamFlush 0 true true) sStr ∧ (sStr.strm 0).out.isSome = true := by refine ⟨⟨?_, ?_⟩, ⟨?_, ?_⟩, ⟨?_, ?_⟩, ?_⟩ <;> decide
/-- A block of one row of one channel for the frame given. -/
def block (p : Nat) : List Byte := [0, 0, 1, 0, 0, 0, 0, 0] ++ leBytes 4 p ++ [1, 0, 0, 0] ++ [0x55] ++ List.replicate 15 0
theorem test_wit_VoiceBlock : sStr.hasBuf 2 0 = true ∧ bufOk (bd 32) = true ∧ (sStr.strm 0).inn = some { op := strm 0 } ∧
    headerOk 0 (strm 0) (bd 32).len.toNat (block 2) = true ∧ sStr.checkOk 0 (strm 0) (block 2) = true ∧
    sStr.lead 2 = some 4860 ∧ sStr.lead 32 = some 77760 ∧ sStr.lead 33 = some 80190 ∧ sStr.lead 1 = some 2430 ∧ sStr.lead 0 = none ∧
    headerOk 0 (strm 0) 32 [] = false ∧ (sStr.strm 0).rows = [] := by decide
theorem test_wit_VoiceBlock_none : sUp.hasBuf 2 0 = false := by decide
theorem test_wit_VoiceWrite : sStr.hasBuf 3 0 = true ∧ bufOk (bd 32) = true ∧ (sStr.strm 0).wait ≠ [] ∧ (sStr.strm 0).outOp = some (strm 0) ∧
    blockLen (strm 0) ≤ (bd 32).len.toNat ∧ (sStr.ring 3 0).intMode = 0 := by decide
/-- GFP channel 0, otherwise as given, with a client frame on its ring. -/
def sGfp (g : Gfp) : State := { sUp with hif := { bme := true, rings := [(1024, { en := true, host := 1 })] },
                                         gfps := [(0, { g with tx := some (gop 0), rx := some (gop 0) })] }
theorem test_wit_GfpOpen : Carries (.gfpOpen (gop 63)) sUp ∧ Carries (.gfpOpen { gop 0 with dirRx := false }) sUp ∧
    Carries (.gfpOpen { gop 0 with dirTx := false }) sUp := by refine ⟨⟨?_, ?_⟩, ⟨?_, ?_⟩, ?_, ?_⟩ <;> decide
theorem test_wit_GfpClose : Carries (.gfpClose 0 true false) (sGfp {}) ∧ Carries (.gfpClose 0 false true) (sGfp {}) ∧
    Carries (.gfpFlush 0 true true) (sGfp {}) := by refine ⟨⟨?_, ?_⟩, ⟨?_, ?_⟩, ?_, ?_⟩ <;> decide
theorem test_wit_GfpTx : let s := sGfp {}
    (s.gfp 0).tx = some (gop 0) ∧ s.hasBuf 4 0 = true ∧ bufOk (bd 64) = true ∧ (bd 64).len.toNat ≤ (gop 0).maxLen ∧
    gfpPli (gop 0) 64 ≤ 65535 ∧ (s.gfp 0).fetching = false ∧ (gop 0).maxLen < (bd 65).len.toNat := by decide
theorem test_wit_GfpTx_part : let s := sGfp { held := [(64, [0])] }
    s.hasBuf 4 0 = true ∧ (s.gfp 0).held = [] ++ [(64, [0])] ∧ ([0] : List Byte).length < 64 := by decide
theorem test_wit_GfpRx : gfpScan (gop 0) [0, 4, 0x40, 0x84] = some [0, 4, 0x40, 0x84] ∧ gfpScan (gop 0) [1, 1, 1, 1] = none ∧
    (let x := (sGfp { delin := 1, rxOct := [0, 4, 0x40, 0x84] }).gfp 0
     x.rx = some (gop 0) ∧ gfpChecks (gop 0) (x.rxOct.drop x.next) = true ∧ (gop 0).delta ≤ x.good + 1) ∧
    hecOk (gfpCore (gop 0) [1, 1, 1, 1]) = false ∧ (gop 0).checCorr = false := by decide
/-- Both DCC channels of port 0 enabled, OT and OX with a buffer, the port in frame. -/
def sDcc (d : Dcc) : State := { sUp with
  cfg := [(lpt 0 0x14, 3)], ports := [(0, { defects := 0 })], dccs := [(0, d)]
  hif := { bme := true, rings := [(1536, { en := true, host := 1 }), (1792, { en := true, host := 1 })] } }
theorem test_wit_DccAuth : Carries (.dccAuthCfg { auth 31 with txSlot := 1, rxSlot := 63 }) sUp := ⟨by decide, by decide⟩
theorem test_dcc_auth_slot0 : Carries (.dccAuthCfg { auth 31 with rxSlot := 1 }) sUp → False := fun h => absurd h.2 (by decide)
theorem test_wit_DccTx : let s := sDcc {}
    let buf : List Byte := [0, 0, 4, 0] ++ List.replicate 16 0
    s.hasBuf 6 0 = true ∧ bufOk (bd 20) = true ∧ s.dccOn ((byteAt buf 0).toNat % 64) = true ∧ s.dccOp 0 = true ∧
    1 ≤ leNat (bytesAt buf 2 2) ∧ leNat (bytesAt buf 2 2) ≤ dccMaxLen (s.dcc 0).cfg ∧ leNat (bytesAt buf 2 2) ≤ (bd 20).len.toNat - 16 ∧
    (s.dcc 0).auth.txEn = false ∧ (s.dcc 0).txQ = [] ∧ s.dccOn 2 = false := by decide
/-- A received frame of three bytes. -/
def fIn : DccFrame := { bytes := [1, 2, 3] ++ fcsBytes false [1, 2, 3], aborted := false, cfg := 0x5DC, auth := auth 0 }
theorem test_wit_DccRx : let s := sDcc { rxDone := [fIn] }
    (s.dcc 0).rxDone = fIn :: [] ∧ s.dccOp 0 = true ∧ wbit fIn.cfg 31 = false ∧ 2 + 1 ≤ fIn.bytes.length ∧
    fIn.bytes.length ≤ dccMaxLen fIn.cfg + 12 + 2 ∧ fcsBytes false (fIn.bytes.take (fIn.bytes.length - 2)) = fIn.bytes.drop (fIn.bytes.length - 2) ∧
    s.oxBuf = true ∧ bufOk (bd 64) = true ∧ fIn.auth.rxEn = false ∧ s.sec.ox = [] ∧ (s.ring 7 0).intMode = 0 := by decide +kernel
theorem test_wit_DccRx_lost : ({ sDcc { rxDone := [fIn] } with glb := {} } : State).dccOp 0 = false ∧ { fIn with aborted := true }.aborted = true := by
  decide +kernel
/-- A frame that has been sent is received between its flags, its octets whole. -/
theorem test_hdlc : ((({} : Dcc).take 0 (packBits 10 (hdlc false [1, 0xFF, 3] ++ List.replicate 7 true))).rxDone.map (fun f => (f.bytes, f.aborted))) =
    [([1, 0xFF, 3] ++ fcsBytes false [1, 0xFF, 3], false)] := by decide +kernel
theorem test_wit_DccGive : let e : DccOut := { id := 1, info := [5], ready := some [5] }
    let x : Dcc := { txQ := [e] }
    x.txBits = [] ∧ x.txQ = e :: [] ∧ e.ready = some [5] ∧ 8 * 3 ≤ (hdlc (wbit x.cfg 31) [5]).length := by decide +kernel
theorem test_wit_CmacDone : let o : CmacOp := { id := 1, verify := false, ch := 0, slot := 1, info := [1], bound := true }
    let e : DccOut := { id := 1, info := [1], ready := none }
    let s : State := { sDcc { txQ := [e] } with sec := { ops := [o] } }
    s.sec.ops = [o] ∧ o.bound = true ∧ o.slot = (1 : Fin 64).val ∧ o.verify = false ∧ s.upsetAt (.cmac 1) = none ∧
    (s.dcc o.ch).txQ = [e] ∧ e.id = o.id := by decide
theorem test_wit_Qptr : sUp.flt.queue.length < 64 ∧ ((sGfp {}).gfp 0).rx.isSome = true := by decide

/-! ### Witnesses: keys, locks, resources, pins -/

/-- Key slot 63 and lock 255 as given. -/
def sSec (k : KeySlot) (l : Lock) : State := { sUp with sec := { keys := [(63, k)], locks := [(255, l)] } }
theorem test_wit_KeyLoad : Carries (.keyLoad 63 true (List.replicate 32 1)) sUp ∧
    Carries (.keyLoad 1 false (List.replicate 16 1 ++ List.replicate 16 0)) sUp := by refine ⟨⟨?_, ?_⟩, ?_, ?_⟩ <;> decide
theorem test_wit_KeyErase : Carries (.keyErase 63) (sSec { loaded := true } {}) ∧ ((sSec { loaded := true } {}).key 63).loaded = true ∧
    Carries (.keyErase 63) sUp ∧ (sUp.key 63).loaded = false := by refine ⟨⟨?_, ?_⟩, ?_, ⟨?_, ?_⟩, ?_⟩ <;> decide
theorem test_wit_LockRelease : let s := sSec {} { state := 1, owner := 0x0800, left := 1 }
    Carries (.resRelease 5 255) s ∧ s.upsets = [] ∧ (s.lock 255).state = 1 ∧ (s.lock 255).owner = 0x0800 + hd.ring.val ∧
    (s.lock 0).state ≠ 1 := by refine ⟨⟨?_, ?_⟩, ?_, ?_, ?_, ?_⟩ <;> decide
theorem test_wit_LockClaim : let s := sSec {} { state := 2, owner := 0x0801 }
    Carries (.resClaim 5 255 65535) s ∧ s.upsets = [] ∧ (s.lock 255).state = 2 ∧ (s.lock 0).state = 0 ∧ Carries (.resClaim 5 0 1) s := by
  refine ⟨⟨?_, ?_⟩, ?_, ?_, ?_, ?_, ?_⟩ <;> decide
theorem test_wit_LockClaim_lost : let s : State := { sSec {} {} with upsets := [{ mem := .lock 255, double := true }] }
    Carries (.resClaim 5 255 1) s ∧ s.upsets = [{ mem := .lock 255, double := true }] ∧ (s.lock 255).state = 0 := by
  refine ⟨⟨?_, ?_⟩, ?_, ?_⟩ <;> decide
theorem test_wit_LockClaim_held : ((sSec {} { state := 1, owner := 0x0800 }).lock 255).owner = 0x0800 + hd.ring.val ∧
    ((sSec {} { state := 1, owner := 0x083F }).lock 255).owner ≠ 0x0800 + hd.ring.val ∧
    Carries (.resClaim 5 255 1) (sSec {} { state := 1, owner := 0x083F }) := by refine ⟨?_, ?_, ?_, ?_⟩ <;> decide
theorem test_wit_LeaseExpiry : let s := sSec {} { state := 1, owner := 0x0800 }
    (s.lock 255).state = 1 ∧ (s.lock 255).left = 0 ∧ s.upsets = [] ∧ s.rb 0x7014 0 = false ∧ s.flt.queue.length < 64 ∧
    (s.lock 0).state ≠ 1 := by decide
theorem test_wit_ResClaim : Carries (.resClaim 0 15 0) sUp ∧ sUp.upsets = [] ∧ (sUp.res (resKey 0 15)).owner = none ∧
    Carries (.resClaim 1 0 0) sHeld ∧ (sHeld.res (resKey 1 0)).owner = some 0x100 := by refine ⟨⟨?_, ?_⟩, ?_, ?_, ⟨?_, ?_⟩, ?_⟩ <;> decide
theorem test_wit_ResRelease : let s : State := { sUp with sec := { res := [(resKey 4 2, { owner := some 0 })] } }
    Carries (.resRelease 4 2) s ∧ s.upsets = [] ∧ (s.res (resKey 4 2)).owner = some 0 ∧ (s.res (resKey 4 1)).owner ≠ some 0 := by
  refine ⟨⟨?_, ?_⟩, ?_, ?_, ?_⟩ <;> decide
theorem test_wit_CaptClaim : wbit (0x83070000 : Word) 31 = true ∧ sUp.rb (0xB0040 + 0x10 * 7) 31 = false ∧ sUp.upsets = [] ∧ sUp.flt.flip = none ∧
    sUp.claimable (resKey 3 7) = true ∧ sUp.claimable (resKey 0 7) = true ∧
    ({ sUp with sec := { res := [(resKey 0 7, { owner := some 0x600 })] } } : State).claimable (resKey 0 7) = false := by decide
theorem test_wit_AltClaim : sUp.rb (0xB0020 + 4 * 2) 31 = false ∧ sUp.claimable (resKey 4 2) = true ∧ wbit (0 : Word) 31 = false := by decide
/-- Capture buffer 0 holds GPIO 3, both edges wanted, with the entries given. -/
def sCapt (q : List (Pos × Bool)) : State := { sUp with cfg := [(0xB0040, 0x83030000)], pin := { capt := [(0, { held := some 3, queue := q })] } }
theorem test_wit_Capture : ((sCapt []).capt 0).held = some 3 ∧ (sCapt []).rf 0xB0040 24 2 = 3 ∧
    ((sCapt (List.replicate 15 ({}, true))).capt 0).queue.length < 16 ∧ 16 ≤ ((sCapt (List.replicate 16 ({}, true))).capt 0).queue.length ∧
    (sUp.capt 0).held ≠ some 3 := by decide
theorem test_wit_CaptRead : ((sCapt [({}, true)]).capt 0).queue = ({}, true) :: [] ∧ (sUp.capt 0).queue = [] := by decide

/-! ### Witnesses: management, faults, the bus -/

theorem test_wit_PmCfg : Carries (.pmCfg 5 255 true) sUp := ⟨by decide, by decide⟩
theorem test_wit_PmPart : let s : State := { sUp with mgt := { bankOpen := true }, hif := { bme := true, rings := [(2304, { en := true, host := 1 })] } }
    s.hasBuf 9 0 = true ∧ s.mgt.bankOpen = true ∧ s.mpIn = true ∧ bufOk (bd 80) = true ∧ 80 ≤ (bd 80).len.toNat ∧ (s.ring 9 0).intMode = 0 := by decide
theorem test_wit_StorySecond : ({ sUp with stp := { atSecond := true } } : State).stp.atSecond = true ∧ sUp.stp.atSecond = false ∧
    sUp.mpIn = true ∧ sUp.glb.svc = false ∧ (smp 8).temps[7]? = some 0 := by decide
theorem test_wit_StorySecond_deliver : let s : State := { sUp with
      cfg := [(0xA0000, 0x80000000)], stp := { atSecond := true }, hif := { bme := true, rings := [(2304, { en := true })] }, mgt := { bankOpen := true } }
    s.stp.atSecond = true ∧ s.mpIn = true ∧ s.rb 0xA0000 31 = true ∧ s.ringRun 9 0 = true ∧ s.mgt.bankOpen = true ∧ s.flt.queue.length < 56 := by decide
theorem test_wit_PmcOvf_off : sUp.pmcCounts 12 = false := by decide
theorem test_wit_PmcOvf : sUp.pmcCounts 0 = true ∧ sUp.pmcFrozen = false ∧ ({ cfg := [(0x6000, 2)] } : State).pmcFrozen = true := by decide
theorem test_wit_LogCfg : wbit (2 : Word) 1 = true ∧ sUp.rb 0x5000 1 = false ∧ wbit (0 : Word) 1 = false := by decide
theorem test_wit_Scrub : let s : State := { sUp with mgt := { sweepOn := true }, upsets := [⟨.key 63, false⟩] }
    s.mgt.sweepOn = true ∧ s.mpIn = true ∧ s.upsetAt (.key 63) = some false ∧ s.upsetAt (.key 1) = none ∧ sUp.mgt.sweepOn = false := by decide
theorem test_wit_Calibration : let s : State := { sUp with mgt := { calSeconds := 64 } }
    64 ≤ s.mgt.calSeconds ∧ s.mpIn = true ∧ s.glb.svc = false := by decide
theorem test_wit_Legacy : let s : State := { sUp with glb := { sUp.glb with svc := true } }
    s.mgt.legacyTask = 0 ∧ s.glb.svc = true ∧ sUp.glb.svc = false := by decide
theorem test_wit_LegacyDone : let s : State := { sUp with
      glb := { sUp.glb with svc := true }, mgt := { legacyTask := 3, legacyLeft := 1 }, stp := { phase := 2429 } }
    s.mgt.legacyTask = 3 ∧ s.mpIn = true ∧ s.glb.svc = true ∧ s.mgt.legacyLeft ≤ 1 ∧ s.stp.phase = 2429 ∧
    2 ≤ ({ mgt := { legacyLeft := 2 } } : State).mgt.legacyLeft := by decide
/-- One message waits for the collector. -/
def sMsg (m : Msg) : State := { sUp with flt := { queue := [m] } }
theorem test_wit_Collector : let m : Msg := { source := 511, kind := 0x41, cls := 2 }
    (sMsg m).flt.queue = m :: [] ∧ m.cls ≠ 3 ∧ m.source < 512 ∧ (sMsg m).logStopped = false ∧ (sMsg m).rb 0x5000 1 = false ∧
    (sMsg m).flt.fatal = false ∧ sUp.flt.queue = [] := by decide
/-- The message with the reaction given, EV running or not. -/
def sReact (x : BitVec 5) (en : Bool) (m : Msg) : State := { sMsg m with
  flt := { queue := [m], react := [(4 * m.source + m.cls, some x)] }, hif := { bme := true, rings := [(2048, { en := en })] } }
theorem test_wit_Collector_react : let m : Msg := { source := 0x068, kind := 0x42, cls := 1 }
    (sReact 1 true m).flt.queue = m :: [] ∧ m.cls ≠ 3 ∧ m.source < 512 ∧ (sReact 1 true m).logStopped = false ∧ (sReact 1 true m).rb 0x5000 1 = false ∧
    (sReact 1 true m).upsets = [] ∧ (sReact 1 true m).reaction m.source m.cls = 1#5 ∧ m.cls ≠ 2 ∧ (sReact 1 true m).evRoom = true ∧
    ((sReact 1 true m).ring 8 0).intMode = 0 ∧ (sReact 1 false m).evRoom = false ∧ (sReact 8 true m).reaction m.source m.cls = 8#5 ∧
    ((sReact 0x16 true m).reaction m.source m.cls).getLsbD 0 = false ∧ ((sReact 0x16 true m).reaction m.source m.cls).getLsbD 1 = true ∧
    ((sReact 0x16 true m).reaction m.source m.cls).getLsbD 2 = true ∧ ((sReact 0x16 true m).reaction m.source m.cls).getLsbD 3 = false ∧
    ((sReact 0x16 true m).reaction m.source m.cls).getLsbD 4 = true ∧ (sReact 0x16 true m).glb.rstReq = none := by decide
theorem test_wit_Collector_fatal : let m : Msg := { source := 0x068, kind := 0x42, cls := 2 }
    (sMsg m).flt.queue = m :: [] ∧ m.cls = 2 ∧ (sMsg m).flt.fatal = false := by decide
theorem test_wit_Collector_logged : let m : Msg := { source := 0x132, kind := 0x11, cls := 3, masked := true }
    let s : State := { sMsg m with cfg := [(0x5000, 4)] }
    s.flt.queue = m :: [] ∧ m.cls = 3 ∧ s.rb 0x5000 2 = true ∧ s.logStopped = false ∧ s.rb 0x5000 1 = false ∧ m.masked = true := by decide
theorem test_wit_Collector_net : let m : Msg := { source := 0x132, kind := 0x11, cls := 3 }
    (sMsg m).flt.queue = m :: [] ∧ m.cls = 3 ∧ (sMsg m).rb 0x5000 2 = false ∧ isRecord m.kind = false ∧ m.masked = false ∧
    (sReact 0 true m).evRoom = true ∧ ((sReact 0 true m).ring 8 0).intMode = 0 ∧ (sReact 0 false m).evRoom = false := by decide
theorem test_wit_ErrPin : ({ flt := { errLatch := true } } : State).flt.errLatch = true ∧ ({ flt := { errLatch := true } } : State).flt.errLeft = 0 ∧
    ({ flt := { errLatch := true, errLeft := 1 } } : State).flt.errLeft ≠ 0 ∧ ({ flt := { errWait := true } } : State).flt.errWait = true ∧
    ({ flt := { errWait := true } } : State).flt.errLeft = 0 := by decide
theorem test_wit_FirstClr : sUp.flt.fatal = false ∧ sFatal.flt.fatal = true := by decide
theorem test_wit_Reaction : wfld (({ cfg := [(0x4080, 0x7FE)] } : State).reg 0x4080) 0 2 ≠ 3 ∧
    wfld (({ cfg := [(0x4080, 0x7FF)] } : State).reg 0x4080) 0 2 = 3 := by decide
theorem test_wit_Injection : let s : State := { sUp with flt := { injOpen := true, test := true } }
    s.flt.test = true ∧ s.flt.injOpen = true ∧ s.flt.queue.length < 64 ∧ sUp.flt.test = false ∧
    wbit (0x80000000 : Word) 30 = false ∧ wbit (0xC0000000 : Word) 30 = true := by decide
theorem test_wit_Pfail_flush : let s : State := { sUp with cfg := [(0x4010, 3)], hif := { linkUp := true } }
    s.flt.queue.length < 64 ∧ s.rb 0x4010 1 = true ∧ s.hif.linkUp = true ∧
    ({ cfg := [(0x4010, 0)] } : State).rb 0x4010 1 = false := by decide
theorem test_wit_FaultSources : sUp.flt.pfail = false ∧ sUp.flt.queue.length < 64 ∧ ({ flt := { pfail := true } } : State).flt.pfail = true ∧
    sUp.procRuns 6 = true ∧ State.reset.procRuns 6 = false := by decide
theorem test_wit_Registers : 2 % 4 ≠ 0 ∧ regRow 0x3FFFFC = none ∧ 4 % 8 ≠ 0 ∧ 0x7010 % 8 = 0 ∧ (0x7010 < 0x6000 ∨ 0x7000 ≤ 0x7010) ∧
    (0xA0140 % 4 = 0 ∧ (regRow 0xA0140).isSome = true ∧ hasWriteEffect 0xA0140 = false) := by decide +kernel

/-! ### Worked examples of the spec, one step each -/

/-- 02 Table SP-4: the epoch moves to 1,000,000. -/
def sEpoch : State := { sUp with
  stp := { frame := 4294967000, phase := 600, origin := 4294960000, epoch := some 1000000, timers := [(3, { claimed := true, target := some (4294967290, 1215) })] }
  ce := { due := [{ due 4294967200 with cmd := .fabricCommit }, { due 100 with cmd := .tswSet (run 0 1), seq := 1 }], seq := 2 } }
theorem test_epoch_count : let t := go (.frameBoundary ⟨[], [], [], false, 0⟩) sEpoch
    t.stp.frame = 1000000 ∧ t.stp.origin = 992999 ∧ (t.timer 3).target = some (1000289, 1215) ∧
    t.ce.due.map (fun d => d.boundary) = [1000199, 1000395] := by decide +kernel
/-- 02 Table SP-5: a descriptor due 4,294,967,250 fetched after the boundary is late. -/
theorem test_epoch_late : ({ sUp with stp := { frame := 1000000, phase := 300 } } : State).verdict 0 (dNop 4294967250) none = .refuse 0x01 0 := by decide
/-- 06, moving 300 channels: the last entry of the first run. -/
theorem test_truss_run : let t := go (.tswSet hd { entry := 0x00191800, out := 0x17701, step := true, count := 15 }) sUp
    tget 0 (t.tswPage true) 0x1770F = 0x0019180E ∧ tget 0 (t.tswPage true) 0x17710 = 0 := by decide +kernel
/-- 06 Table TR-9 and R178: a commit 20 frames after the last one passes, one 3 frames after does not. -/
theorem test_commit_spacing : near4 2400110 2400090 = false ∧ near4 2400093 2400090 = true := by decide
/-- 07 Table CF-13. -/
theorem test_conf_expand : expand false 0xFA = 1008 ∧ expand false 0x94 = 2240 ∧ expand false 0x0F = -6784 ∧ expand true 0xA7 = 6140 ∧
    expand false 0xD5 = 8 := by decide
theorem test_conf_gain : gain 12 (-6784) = -13536 ∧ gain (-6) 6140 = 4347 ∧ gain 12 (-8181) = -16323 ∧ gain 0 (-9189) = -9189 := by decide
theorem test_conf_encode : encode false (-9189) = 0x34 ∧ encode false (-16323) = 0x3A ∧ encode false 5355 = 0x81 ∧
    encode true (-12528) = 0x17 ∧ encode false (-8181) = 0x0A := by decide
/-- 07 R215, the 425 Hz tone. -/
theorem test_tone_increment : toneInc 4250 = 228170138 := by decide
/-- 03 and 04, thresholds: 249 B2 errors at STM-16, 16 for a VC-4, 5 for a VC-3. -/
theorem test_deg_counts : berCount 6 2488320000 = 249 ∧ berCount 6 150336000 = 16 ∧ berCount 6 48960000 = 5 := by decide
/-- 11 Table ST-2: the check of the worked block. -/
theorem test_check_unit : let s : State := { cfg := [(ckuReg 1 0, 8), (ckuReg 1 4, 7), (ckuReg 1 8, 0), (ckuReg 1 12, 0)] }
    s.blockCheck 5 { strm 5 with k := 2, cku := 1, ckuEn := true } 3 [5, 0, 2, 0, 3, 0, 0, 0, 0, 0, 1, 0, 1, 0, 0, 0] [0xD5, 0xD5] = 0x20 := by
  decide +kernel
/-- 14, the example of PG17: CQ4 claims, CQ9 is told who holds it, the lease ends, CQ9 takes the broken lock. -/
def sPg (l : Lock) (f : Word) : State := { sUp with sec := { locks := [(17, l)] }, stp := { frame := f } }
def byCq (n : Fin 64) : Hdr := { hd with ring := n }
theorem test_lock_claimed : (go (.resClaim (byCq 4) 5 17 800) (sPg {} 3000010)).lock 17 = ⟨1, 0x0804, 0, 800, 3000010⟩ := by decide +kernel
theorem test_lock_busy : ((go (.resClaim (byCq 9) 5 17 400) (sPg ⟨1, 0x0804, 0, 790, 3000010⟩ 3000020)).ce.comps.map
    (fun c => (c.status, c.result))) = [(0x07, 0x804)] := by decide +kernel
theorem test_lock_lease : let t := go (.leaseExpiry 17) (sPg ⟨1, 0x0804, 0, 0, 3000010⟩ 3000810)
    (t.lock 17).state = 2 ∧ t.flt.queue.map (fun m => (m.source, m.kind, m.cls, m.addr, m.data)) = [(0x185, 0xB0, 3, 17, 0x0804)] := by decide
theorem test_lock_broken : let t := go (.resClaim (byCq 9) 5 17 400) (sPg ⟨2, 0x0804, 0, 0, 3000010⟩ 3000812)
    (t.lock 17).state = 1 ∧ (t.lock 17).owner = 0x0809 ∧ (t.lock 17).left = 400 ∧ t.ce.comps.map (fun c => (c.status, c.result)) = [(0x0C, 0x804)] := by
  decide +kernel
/-- 16, the four addresses. -/
theorem test_addresses : tmrReg 9 0x18 = 0x1338 ∧ lpt 20 0x8 = 0x15008 ∧ hwyReg 37 (0x20 + 4 * 3) = 0x7252C := by decide +kernel
/-- 16, the reaction of contained messages from the truss connection memory: INT and ERR_PIN, then NMI as well; bit 3 stays 0. -/
theorem test_reaction : let s : State := { cfg := [(0x4080, 0x1A1)] }
    s.reaction 0x068 1 = 5 ∧ (go (.reactionWrite 7) s).reaction 0x068 1 = 7 ∧ (go (.reactionWrite 0xF) s).reaction 0x068 1 = 7 := by decide +kernel
/-- 09, steps 3 and 4 of the procedure: the two writes of HIF.RCFG. -/
theorem test_ring_setup : ((go (.ringEnable 1 5 0x80000B20) sUp).ring 1 5).size = 11 ∧ ((go (.ringEnable 1 5 0x80000B20) sUp).ring 1 5).intMode = 2 ∧
    (let t := go (.ringEnable 0 5 0x90050A00) { sUp with hif := { rings := [(256 + 5, { en := true, size := 11 })] } }
     (t.ring 0 5).en = true ∧ (t.ring 0 5).weight = 4 ∧ (t.ring 0 5).bind = 5 ∧ (t.ring 0 5).size = 10) := by decide +kernel
/-- 09 Table HR-10, from the doorbell on: CQ5 and CC5 set up, entry 0 holds the ECHO. -/
def sEcho (e : Option Due) : State := { sUp with
  hif := { bme := true, rings := [(5, { en := true, host := 1, bind := 5, size := 10, wb := 0x1234700040 }),
                                  (256 + 5, { en := true, size := 11, base := 0x1234600000 })] }
  stp := { frame := 310000, phase := 1760 }, ce := { due := e.toList, seq := 1 } }
theorem test_echo_admitted : let t := go (.descriptorAdmission 5 ⟨0x0A010403, 0, 0x12345678, 0, 0, 0, 0, 0⟩ none) (sEcho none)
    (t.ring 0 5).dev = 1 ∧ t.ce.due.map (fun d => (d.cmd, d.boundary, d.tag)) = [(.echo 0x12345678, 310001, 0x0A01)] := by decide +kernel
theorem test_echo_written : let t := go (.completionWrite 5) { sEcho none with ce := { comps := [{ comp with
      ring := 5, cc := 5, tag := 0x0A01, asap := true, exec := 310001, result := 0x12345678 }] } }
    t.hostMem = [(0x1234600000, 5), (0x1234600001, 0x80), (0x1234600002, 0), (0x1234600003, 0), (0x1234600004, 1), (0x1234600005, 0x0A),
      (0x1234600006, 0), (0x1234600007, 2), (0x1234600008, 0xF1), (0x1234600009, 0xBA), (0x123460000A, 4), (0x123460000B, 0),
      (0x123460000C, 0x78), (0x123460000D, 0x56), (0x123460000E, 0x34), (0x123460000F, 0x12)] := by decide +kernel
theorem test_echo_index : let s := sEcho none
    let t := go (.consumerIndexWriteback 0 5) { s with hif := { s.hif with rings := tmod {} s.hif.rings 5 (fun r => { r with host := 1, dev := 1, wbDue := true }) } }
    t.hostMem = [(0x1234700040, 1), (0x1234700041, 0), (0x1234700042, 0), (0x1234700043, 0), (0x1234700044, 0xF0), (0x1234700045, 0xBA),
      (0x1234700046, 4), (0x1234700047, 0)] := by decide +kernel
/-- Reset values of the register tables. -/
theorem test_reset_values : State.reset.readWord 0 = 0x64101D5A ∧ State.reset.readWord 0x1024 = 0x2B00012C ∧
    State.reset.readWord 0x1028 = 0xB0000000 ∧ State.reset.readWord 0x102C = 8 ∧ State.reset.readWord 0x1040 = 0x0F0F0000 ∧
    State.reset.readWord 0x1080 = 0x0B000000 ∧ State.reset.readWord 0x1200 = 0x100 := by decide +kernel
theorem test_reset_queue_empty : State.reset.pending = [] := by decide +kernel
/-- No row of the table has bits, so no word spells a command. -/
theorem test_decode_none : decodeTableWord 32 0 = none ∧ State.reset.withFetchWord 32 0 = State.reset := ⟨rfl, rfl⟩

/-! ### Test vectors of the standards that the spec names -/

/-- FIPS 197, appendix C.1. -/
theorem test_aes128 : aes false ((List.range 16).map (BitVec.ofNat 8)) ((List.range 16).map (fun i => BitVec.ofNat 8 (17 * i))) =
    [0x69, 0xC4, 0xE0, 0xD8, 0x6A, 0x7B, 0x04, 0x30, 0xD8, 0xCD, 0xB7, 0x80, 0x70, 0xB4, 0xC5, 0x5A] := by decide +kernel
/-- SP 800-38B, the empty message under the AES-128 example key. -/
theorem test_cmac_empty : cmac false [0x2B, 0x7E, 0x15, 0x16, 0x28, 0xAE, 0xD2, 0xA6, 0xAB, 0xF7, 0x15, 0x88, 0x09, 0xCF, 0x4F, 0x3C] [] =
    [0xBB, 0x1D, 0x69, 0x29, 0xE9, 0x59, 0x37, 0x28, 0x7F, 0xA3, 0x7D, 0x12, 0x9B, 0x75, 0x67, 0x46] := by decide +kernel
/-- The check values of CRC-16/X-25 and CRC-32 over "123456789". -/
theorem test_fcs : let m := (List.range 9).map (fun i => BitVec.ofNat 8 (0x31 + i))
    fcs16 m = 0x906E ∧ fcs32 m = 0xCBF43926 := by decide +kernel

end Sys2Proof.Tests
end

section
/-! O5. The frame of `exec`, command by command: the laws of `Sys2Proof/Laws` give every arm but the resets of the whole device,
which come first. -/

namespace Sys2Proof.Machine

/-! ### Resets of the whole device -/

/-- A reset keeps the queue, host memory and the model's counter; every other part it may set. -/
theorem State.outside_frame (s t : State) : (s.outside t).hide (mask device) = s.hide (mask device) := by
  have hm : mask device = 35184372088810 := rfl
  simp only [hm, State.outside, State.hide, Ce.hide, Glb.hide, Flt.hide, Hif.hide, Sec.hide, Stp.hide, pick, Nat.reduceAnd,
    Nat.reduceEqDiff, reduceIte]

/-- The release from a reset touches the straps, the boot state, TEST_MODE and, with BOOT_FAIL, the collector's queue. -/
theorem State.release_frame (W : Nat) (hW : 10688 &&& W = 10688) (st : Straps) (last : Nat) (s : State) :
    (s.release st last).hide W = s.hide W := by
  refine hide_mono _ _ hW ?_
  unfold State.release
  dsimp only
  split
  · exact State.raise_frame 10688 rfl _ _ _ _ _
  · rfl

theorem execPowerOn_frame (st : Straps) (s : State) : (after1 (execPowerOn st) s).hide (mask device) = s.hide (mask device) :=
  (State.release_frame _ rfl st 0 _).trans (State.outside_frame s State.reset)

theorem State.resetN_frame (st : Straps) (s : State) : (s.resetN st).hide (mask device) = s.hide (mask device) :=
  (State.release_frame _ rfl st 1 _).trans (State.outside_frame s State.reset)

theorem State.warmReset_frame (st : Straps) (byReaction : Bool) (src kind : Nat) (s : State) :
    (s.warmReset st byReaction src kind).hide (mask device) = s.hide (mask device) := by
  refine (State.release_frame _ rfl st _ _).trans (Eq.trans ?_ (State.outside_frame s State.reset))
  dsimp only
  split
  · exact (State.raise_frame _ rfl _ _ _ _ _).trans rfl
  · exact (State.raise_frame _ rfl _ _ _ _ _).trans rfl

theorem execWarmChipRst_frame (st : Straps) (s : State) :
    (after1 (execWarmChipRst st) s).hide (mask device) = s.hide (mask device) := by
  unfold after1 execWarmChipRst
  dsimp only
  split
  · rfl
  · exact State.warmReset_frame st _ _ _ s

/-! ### Every command -/

/-- What `reach` leaves out of a command, its arm leaves alone. -/
theorem exec_frame : ∀ (i : Instr) (s : State), (after1 (exec i) s).hide (mask (reach i)) = s.hide (mask (reach i))
  | .powerOn st, s => execPowerOn_frame st s
  | .resetN st, s => State.resetN_frame st s
  | .warmChipRst st, s => execWarmChipRst_frame st s
  | .powerLoss, s => State.outside_frame s State.reset
  | .glbChipRstRequest .., _ => execGlbChipRstRequest_frame _ (Nat.and_self _) _ _
  | .perstN, _ => execPerstN_frame _ (Nat.and_self _) _
  | .flr, _ => execFlr_frame _ (Nat.and_self _) _
  | .busMasterEnable, _ => execBusMasterEnable_frame _ (Nat.and_self _) _
  | .busMasterDisable, _ => execBusMasterDisable_frame _ (Nat.and_self _) _
  | .d3hotEntry, _ => execD3hotEntry_frame _ (Nat.and_self _) _
  | .msixUnmask .., _ => execMsixUnmask_frame _ (Nat.and_self _) _ _
  | .frameBoundary .., _ => execFrameBoundary_frame _ (Nat.and_self _) _ _
  | .storySecond .., _ => execStorySecond_frame _ (Nat.and_self _) _ _
  | .scrubWord .., _ => execScrubWord_frame _ (Nat.and_self _) _ _ _
  | .calibration, _ => execCalibration_frame _ (Nat.and_self _) _
  | .snapLatch, _ => execSnapLatch_frame _ (Nat.and_self _) _
  | .epochWrite .., _ => execEpochWrite_frame _ (Nat.and_self _) _ _
  | .secondOriginWrite .., _ => execSecondOriginWrite_frame _ (Nat.and_self _) _ _
  | .timerEnable .., _ => execTimerEnable_frame _ (Nat.and_self _) _ _ _
  | .timerArm .., _ => execTimerArm_frame _ (Nat.and_self _) _ _
  | .timerDisarm .., _ => execTimerDisarm_frame _ (Nat.and_self _) _ _
  | .tmrFire .., _ => execTmrFire_frame _ (Nat.and_self _) _ _
  | .refoutEnable .., _ => execRefoutEnable_frame _ (Nat.and_self _) _ _ _
  | .refDisq .., _ => execRefDisq_frame _ (Nat.and_self _) _ _ _
  | .refQual .., _ => execRefQual_frame _ (Nat.and_self _) _ _ _
  | .dpllLock, _ => execDpllLock_frame _ (Nat.and_self _) _
  | .holdReady, _ => execHoldReady_frame _ (Nat.and_self _) _
  | .oscFail, _ => execOscFail_frame _ (Nat.and_self _) _
  | .oscSelect, _ => execOscSelect_frame _ (Nat.and_self _) _
  | .portCfgWrite .., _ => execPortCfgWrite_frame _ (Nat.and_self _) _ _ _
  | .txOffsetWrite .., _ => execTxOffsetWrite_frame _ (Nat.and_self _) _ _ _
  | .txLineFrame .., _ => execTxLineFrame_frame _ (Nat.and_self _) _ _ _
  | .rxLineFrame .., _ => execRxLineFrame_frame _ (Nat.and_self _) _ _ _
  | .lofL .., _ => execLofL_frame _ (Nat.and_self _) _ _
  | .losL .., _ => execLosL_frame _ (Nat.and_self _) _ _ _
  | .serdesLol .., _ => execSerdesLol_frame _ (Nat.and_self _) _ _ _
  | .hopStructWrite .., _ => execHopStructWrite_frame _ (Nat.and_self _) _ _ _ _
  | .traceNew .., _ => execTraceNew_frame _ (Nat.and_self _) _ _ _
  | .rxTribFrame .., _ => execRxTribFrame_frame _ (Nat.and_self _) _ _ _
  | .crc4None .., _ => execCrc4None_frame _ (Nat.and_self _) _ _
  | .sigHoldoffExpiry .., _ => execSigHoldoffExpiry_frame _ (Nat.and_self _) _ _
  | .hwyCfgWrite .., _ => execHwyCfgWrite_frame _ (Nat.and_self _) _ _ _
  | .hwyFrameSync .., _ => execHwyFrameSync_frame _ (Nat.and_self _) _ _ _ _
  | .hwyFsLoss .., _ => execHwyFsLoss_frame _ (Nat.and_self _) _ _
  | .copybackDone .., _ => execCopybackDone_frame _ (Nat.and_self _) _ _
  | .lanePass, _ => execLanePass_frame _ (Nat.and_self _) _
  | .collectorWindow .., _ => execCollectorWindow_frame _ (Nat.and_self _) _ _
  | .speakerHoldoffExpiry .., _ => execSpeakerHoldoffExpiry_frame _ (Nat.and_self _) _ _
  | .selectorDecision .., _ => execSelectorDecision_frame _ (Nat.and_self _) _ _ _
  | .holdoffExpiry .., _ => execHoldoffExpiry_frame _ (Nat.and_self _) _ _ _ _
  | .wtrExpiry .., _ => execWtrExpiry_frame _ (Nat.and_self _) _ _ _
  | .protSw .., _ => execProtSw_frame _ (Nat.and_self _) _ _ _
  | .k1Protocol .., _ => execK1Protocol_frame _ (Nat.and_self _) _ _
  | .protExer .., _ => execProtExer_frame _ (Nat.and_self _) _ _
  | .doorbellWrite .., _ => execDoorbellWrite_frame _ (Nat.and_self _) _ _ _ _
  | .descriptorAdmission .., _ => execDescriptorAdmission_frame _ (Nat.and_self _) _ _ _ _
  | .consumerIndexWriteback .., _ => execConsumerIndexWriteback_frame _ (Nat.and_self _) _ _ _
  | .completionWrite .., _ => execCompletionWrite_frame _ (Nat.and_self _) _ _
  | .ceStall .., _ => execCeStall_frame _ (Nat.and_self _) _ _
  | .ringEnable .., _ => execRingEnable_frame _ (Nat.and_self _) _ _ _ _
  | .ringDisable .., _ => execRingDisable_frame _ (Nat.and_self _) _ _ _
  | .ringReset .., _ => execRingReset_frame _ (Nat.and_self _) _ _ _
  | .hifCplTo .., _ => execHifCplTo_frame _ (Nat.and_self _) _ _ _ _
  | .nop .., _ => execNop_frame _ (Nat.and_self _) _ _
  | .fence .., _ => execFence_frame _ (Nat.and_self _) _ _
  | .fenceAll .., _ => execFenceAll_frame _ (Nat.and_self _) _ _
  | .echo .., _ => execEcho_frame _ (Nat.and_self _) _ _ _
  | .tswSet .., _ => execTswSet_frame _ (Nat.and_self _) _ _ _
  | .tswFill .., _ => execTswFill_frame _ (Nat.and_self _) _ _ _
  | .tswPatch .., _ => execTswPatch_frame _ (Nat.and_self _) _ _ _
  | .tswRead .., _ => execTswRead_frame _ (Nat.and_self _) _ _ _
  | .fabricCommit .., _ => execFabricCommit_frame _ (Nat.and_self _) _ _
  | .xcSet .., _ => execXcSet_frame _ (Nat.and_self _) _ _ _
  | .lomapSet .., _ => execLomapSet_frame _ (Nat.and_self _) _ _ _ _ _
  | .tribCfg .., _ => execTribCfg_frame _ (Nat.and_self _) _ _ _ _
  | .sigSet .., _ => execSigSet_frame _ (Nat.and_self _) _ _ _
  | .cnfCreate .., _ => execCnfCreate_frame _ (Nat.and_self _) _ _ _ _
  | .cnfJoin .., _ => execCnfJoin_frame _ (Nat.and_self _) _ _ _ _
  | .cnfLeave .., _ => execCnfLeave_frame _ (Nat.and_self _) _ _ _
  | .cnfModify .., _ => execCnfModify_frame _ (Nat.and_self _) _ _ _
  | .cnfDestroy .., _ => execCnfDestroy_frame _ (Nat.and_self _) _ _ _
  | .cnfQuery .., _ => execCnfQuery_frame _ (Nat.and_self _) _ _ _ _
  | .toneLoad .., _ => execToneLoad_frame _ (Nat.and_self _) _ _ _ _
  | .protGroup .., _ => execProtGroup_frame _ (Nat.and_self _) _ _ _
  | .protCmd .., _ => execProtCmd_frame _ (Nat.and_self _) _ _ _ _ _
  | .protQuery .., _ => execProtQuery_frame _ (Nat.and_self _) _ _ _ _ _
  | .traceSet .., _ => execTraceSet_frame _ (Nat.and_self _) _ _ _
  | .traceRead .., _ => execTraceRead_frame _ (Nat.and_self _) _ _ _ _ _
  | .ohSet .., _ => execOhSet_frame _ (Nat.and_self _) _ _ _ _ _
  | .streamOpen .., _ => execStreamOpen_frame _ (Nat.and_self _) _ _ _
  | .streamClose .., _ => execStreamClose_frame _ (Nat.and_self _) _ _ _ _ _
  | .streamFlush .., _ => execStreamFlush_frame _ (Nat.and_self _) _ _ _ _ _
  | .gfpOpen .., _ => execGfpOpen_frame _ (Nat.and_self _) _ _ _
  | .gfpClose .., _ => execGfpClose_frame _ (Nat.and_self _) _ _ _ _ _
  | .gfpFlush .., _ => execGfpFlush_frame _ (Nat.and_self _) _ _ _ _ _
  | .keyLoad .., _ => execKeyLoad_frame _ (Nat.and_self _) _ _ _ _ _
  | .keyErase .., _ => execKeyErase_frame _ (Nat.and_self _) _ _ _
  | .dccAuthCfg .., _ => execDccAuthCfg_frame _ (Nat.and_self _) _ _ _
  | .resClaim .., _ => execResClaim_frame _ (Nat.and_self _) _ _ _ _ _
  | .resRelease .., _ => execResRelease_frame _ (Nat.and_self _) _ _ _ _
  | .pmCfg .., _ => execPmCfg_frame _ (Nat.and_self _) _ _ _ _ _
  | .voiceBlockArrival .., _ => execVoiceBlockArrival_frame _ (Nat.and_self _) _ _ _ _
  | .voiceBlockWrite .., _ => execVoiceBlockWrite_frame _ (Nat.and_self _) _ _ _
  | .qptr .., _ => execQptr_frame _ (Nat.and_self _) _ _
  | .gfpTxFrame .., _ => execGfpTxFrame_frame _ (Nat.and_self _) _ _ _ _
  | .gfpRxHeader .., _ => execGfpRxHeader_frame _ (Nat.and_self _) _ _ _ _
  | .dccTxFrame .., _ => execDccTxFrame_frame _ (Nat.and_self _) _ _ _
  | .dccRxFrame .., _ => execDccRxFrame_frame _ (Nat.and_self _) _ _ _ _
  | .cmacDone .., _ => execCmacDone_frame _ (Nat.and_self _) _ _
  | .leaseExpiry .., _ => execLeaseExpiry_frame _ (Nat.and_self _) _ _
  | .resourceRegisterClaim .., _ => execResourceRegisterClaim_frame _ (Nat.and_self _) _ _ _
  | .captureEdge .., _ => execCaptureEdge_frame _ (Nat.and_self _) _ _ _
  | .captDataRead .., _ => execCaptDataRead_frame _ (Nat.and_self _) _ _
  | .pmPartWrite .., _ => execPmPartWrite_frame _ (Nat.and_self _) _ _
  | .pmcSnap, _ => execPmcSnap_frame _ (Nat.and_self _) _
  | .pmcFreeze .., _ => execPmcFreeze_frame _ (Nat.and_self _) _ _
  | .pmcPreset .., _ => execPmcPreset_frame _ (Nat.and_self _) _ _ _
  | .pmcOvf .., _ => execPmcOvf_frame _ (Nat.and_self _) _ _
  | .legacySense, _ => execLegacySense_frame _ (Nat.and_self _) _
  | .legacyCal, _ => execLegacyCal_frame _ (Nat.and_self _) _
  | .legacyScrubReport, _ => execLegacyScrubReport_frame _ (Nat.and_self _) _
  | .legacyDone .., _ => execLegacyDone_frame _ (Nat.and_self _) _ _
  | .svcModeWrite .., _ => execSvcModeWrite_frame _ (Nat.and_self _) _ _
  | .logMarkWrite .., _ => execLogMarkWrite_frame _ (Nat.and_self _) _ _
  | .logRidxWrite .., _ => execLogRidxWrite_frame _ (Nat.and_self _) _ _
  | .logCfgWrite .., _ => execLogCfgWrite_frame _ (Nat.and_self _) _ _
  | .collectorTake, _ => execCollectorTake_frame _ (Nat.and_self _) _
  | .nmiReturn .., _ => execNmiReturn_frame _ (Nat.and_self _) _ _
  | .processorReady .., _ => execProcessorReady_frame _ (Nat.and_self _) _ _
  | .errPinAssert, _ => execErrPinAssert_frame _ (Nat.and_self _) _
  | .errPinRelease, _ => execErrPinRelease_frame _ (Nat.and_self _) _
  | .errPinWidthExpiry, _ => execErrPinWidthExpiry_frame _ (Nat.and_self _) _
  | .firstClr, _ => execFirstClr_frame _ (Nat.and_self _) _
  | .firstClrFatal, _ => execFirstClrFatal_frame _ (Nat.and_self _) _
  | .reactionWrite .., _ => execReactionWrite_frame _ (Nat.and_self _) _ _
  | .injUnlock .., _ => execInjUnlock_frame _ (Nat.and_self _) _ _
  | .injGo .., _ => execInjGo_frame _ (Nat.and_self _) _ _
  | .pfail, _ => execPfail_frame _ (Nat.and_self _) _
  | .pfailClear, _ => execPfailClear_frame _ (Nat.and_self _) _
  | .procWdt .., _ => execProcWdt_frame _ (Nat.and_self _) _ _
  | .procExc .., _ => execProcExc_frame _ (Nat.and_self _) _ _ _
  | .clkLol .., _ => execClkLol_frame _ (Nat.and_self _) _ _
  | .grantWdt .., _ => execGrantWdt_frame _ (Nat.and_self _) _ _ _
  | .busCommit, _ => execBusCommit_frame _ (Nat.and_self _) _
  | .busFreezeWrite .., _ => execBusFreezeWrite_frame _ (Nat.and_self _) _ _
  | .bootLoadDone .., _ => execBootLoadDone_frame _ (Nat.and_self _) _ _
  | .bootPushData .., _ => execBootPushData_frame _ (Nat.and_self _) _ _
  | .bootPushTail .., _ => execBootPushTail_frame _ (Nat.and_self _) _ _
  | .bootPushEnd, _ => execBootPushEnd_frame _ (Nat.and_self _) _
  | .i2cTransaction .., _ => execI2cTransaction_frame _ (Nat.and_self _) _ _
  | .registerWrite .., _ => execRegisterWrite_frame _ (Nat.and_self _) _ _ _ _
  | .serdesLock .., _ => execSerdesLock_frame _ (Nat.and_self _) _ _ _
  | .sfdpDiscovery .., _ => execSfdpDiscovery_frame _ (Nat.and_self _) _ _
  | .linkUp .., _ => execLinkUp_frame _ (Nat.and_self _) _ _ _ _
  | .d0Entry, _ => execD0Entry_frame _ (Nat.and_self _) _
  | .i2cIdleTimeout, _ => execI2cIdleTimeout_frame _ (Nat.and_self _) _

/-- Settles O5: the frame of the command's arm, read part by part. -/
theorem execFrame : Obligations.ExecFrame := by
  unfold Obligations.ExecFrame
  intro i s t h
  have ht : after1 (exec i) s = t := by rw [after1, h]
  exact unchanged_of_hide (ht ▸ (exec_frame i s).symm)

end Sys2Proof.Machine
end

section
/-! O26. Commands carried out at once: what a fence in the due table comes to, and the commands that nothing can stop. -/

namespace Sys2Proof.Machine

/-! ### Rings -/

/-- What leaves the rings leaves each of them. -/
theorem ring_of_hide {s t : State} (h : t.hide 35184372056063 = s.hide 35184372056063) (k n : Nat) : t.ring k n = s.ring k n := by
  unfold State.ring
  rw [hif_rings_of_hide h]

@[simp] theorem State.modRing_get (k n : Nat) (f : Ring → Ring) (s : State) : (s.modRing k n f).ring k n = f (s.ring k n) :=
  State.setRing_get ..
theorem State.modRing_get_other (k n : Nat) (f : Ring → Ring) (s : State) (j m : Nat) (h : ringKey j m ≠ ringKey k n) :
    (s.modRing k n f).ring j m = s.ring j m :=
  State.setRing_get_other _ _ _ _ _ _ h

/-! ### A fence enters the due table (R295) -/

/-- A fence has its place in the due table and stops its ring; whether its condition holds has not been looked at. -/
def State.fenceQueued (d : Due) (s : State) : State :=
  (({ s with ce := { s.ce with due := s.ce.due ++ [d], seq := s.ce.seq + 1 } }).wordWritten (.due d.entry)).modRing 0 d.ring
    (fun r => { r with fence := some (d.seq, decide (d.cmd = Cmd.fenceAll)) })

theorem State.enter_fence {d : Due} (hd : d.noBoundary = true) (s : State) : s.enter d = (s.fenceQueued d).fencesMet := by
  unfold State.enter State.fenceQueued
  rw [if_pos hd]

theorem State.wordWritten_ce (m : Mem) (s : State) : (s.wordWritten m).ce = s.ce := ce_of_hide (State.wordWritten_frame _ (by decide) _ _)

theorem State.fenceQueued_ce (d : Due) (s : State) :
    (s.fenceQueued d).ce = { s.ce with due := s.ce.due ++ [d], seq := s.ce.seq + 1 } :=
  State.wordWritten_ce _ _

theorem State.fenceQueued_fence (d : Due) (s : State) :
    ((s.fenceQueued d).ring 0 d.ring).fence = some (d.seq, decide (d.cmd = Cmd.fenceAll)) :=
  congrArg Ring.fence (State.modRing_get ..)

/-- A word just written whole holds no error while no bit flip is armed. -/
theorem State.wordWritten_upsetAt {s : State} (hs : s.flt.flip = none) (m : Mem) : (s.wordWritten m).upsetAt m = none := by
  have hw : s.wordWritten m = s.clearUpset m := by
    unfold State.wordWritten
    dsimp only
    rw [show (s.clearUpset m).flt.flip = none from hs]
  rw [hw]
  simp [State.upsetAt, State.clearUpset, List.filter_filter]

theorem State.fenceQueued_upsetAt {s : State} (hs : s.flt.flip = none) {d : Due} : (s.fenceQueued d).upsetAt (.due d.entry) = none :=
  State.wordWritten_upsetAt (s := { s with ce := { s.ce with due := s.ce.due ++ [d], seq := s.ce.seq + 1 } }) hs (.due d.entry)

/-- The one fence of the due table completes where its condition holds. -/
theorem State.fencesMet_single {s : State} {d : Due} (h : s.ce.due.filter (fun e => e.noBoundary) = [d]) :
    s.fencesMet = if s.fenceMet d then s.fenceDone d else s := by
  unfold State.fencesMet
  rw [h]
  rfl

/-! ### A fence completes -/

theorem State.finish_of_comp {d : Due} (hn : d.nocomp = false) (e : Eff) (s : State) : s.finish d e = s.addComp (d.comp s.stp.frame e) := by
  unfold State.finish
  rw [if_neg (by simp [hn])]

theorem State.readDue_none {s : State} {e : Nat} (h : s.upsetAt (.due e) = none) : s.readDue e = (false, s) := by
  unfold State.readDue
  rw [h]

/-- A fence whose condition holds has left the due table and its ring; its entry's word is yet to be read. -/
def State.fenceLeft (d : Due) (s : State) : State :=
  ({ s with ce := { s.ce with due := s.ce.due.filter (fun e => decide (e.seq ≠ d.seq)) } }).modRing 0 d.ring
    (fun r => if r.fence.map (fun (x : Nat × Bool) => x.1) = some d.seq then { r with fence := none } else r)

theorem State.fenceDone_eq (d : Due) (s : State) : s.fenceDone d =
    let r := (s.fenceLeft d).readDue d.entry
    if d.ue || r.1 then r.2.addComp (d.comp r.2.stp.frame { status := 0x0D }) else r.2.finish d {} := rfl

/-- A fence that completes changes, behind `fenceLeft`, the completions that wait, the error words and the collector's queue. -/
theorem State.fenceDone_frame_left (d : Due) (s : State) : (s.fenceDone d).hide 264224 = (s.fenceLeft d).hide 264224 := by
  have hr := State.readDue_frame 264224 rfl d.entry (s.fenceLeft d)
  rw [State.fenceDone_eq]
  dsimp only
  split
  · exact (State.addComp_frame _ rfl _ _).trans hr
  · exact (State.finish_frame _ rfl _ _ _).trans hr

theorem State.fenceDone_due (d : Due) (s : State) :
    (s.fenceDone d).ce.due = s.ce.due.filter (fun e => decide (e.seq ≠ d.seq)) :=
  ce_due_of_hide (hide_mono _ _ (by decide) (State.fenceDone_frame_left d s))

theorem State.fenceDone_seq (d : Due) (s : State) : (s.fenceDone d).ce.seq = s.ce.seq := by
  have hr : ((s.fenceLeft d).readDue d.entry).2.ce = (s.fenceLeft d).ce := ce_of_hide (State.readDue_frame _ (by decide) _ _)
  rw [State.fenceDone_eq]
  unfold State.finish State.addComp
  dsimp only
  split
  · exact congrArg (fun x => x.seq) hr
  · split <;> exact congrArg (fun x => x.seq) hr

theorem State.fenceDone_fence {d : Due} {s : State} {a : Bool} (h : (s.ring 0 d.ring).fence = some (d.seq, a)) :
    ((s.fenceDone d).ring 0 d.ring).fence = none := by
  rw [ring_of_hide (hide_mono _ _ (by decide) (State.fenceDone_frame_left d s))]
  unfold State.fenceLeft
  rw [State.modRing_get, if_pos (by exact congrArg (Option.map (fun (x : Nat × Bool) => x.1)) h)]

/-- A fence whose entry's word is sound completes with status OK. -/
theorem State.fenceDone_comps {d : Due} {s : State} (hu : d.ue = false) (hw : s.upsetAt (.due d.entry) = none) (hn : d.nocomp = false) :
    ∃ c : Comp, (s.fenceDone d).ce.comps = s.ce.comps ++ [c] ∧ c.status = 0 ∧ c.ring = d.ring := by
  have hr : (s.fenceLeft d).readDue d.entry = (false, s.fenceLeft d) := State.readDue_none hw
  rw [State.fenceDone_eq, hr]
  dsimp only
  rw [if_neg (by simp [hu]), State.finish_of_comp hn]
  exact ⟨_, rfl, rfl, rfl⟩

/-! ### FENCE and FENCE_ALL taken now -/

theorem State.fenceNow_eq {s : State} (hf : s.flt.fatal = false) (h : Hdr) {c : Cmd} (hc : asapOnly c = true) :
    s.fenceNow h c = (s.fenceQueued (s.entryOf h c)).fencesMet := by
  unfold State.fenceNow
  rw [if_neg (by simp [hf]), State.enter_fence (show (s.entryOf h c).noBoundary = true from hc)]

/-- Nothing waits: the fence completes at once. -/
theorem State.fenceNow_alone {s : State} (hf : s.flt.fatal = false) (hp : s.flt.flip = none) (h : Hdr) (hn : h.nocomp = false)
    {c : Cmd} (hc : asapOnly c = true) (hd : s.ce.due = []) :
    (s.fenceNow h c).ce.due = [] ∧ ((s.fenceNow h c).ring 0 h.ring).fence = none ∧ (s.fenceNow h c).ce.seq = s.ce.seq + 1 ∧
      ∃ x : Comp, (s.fenceNow h c).ce.comps = s.ce.comps ++ [x] ∧ x.status = 0 ∧ x.ring = h.ring := by
  have hq := State.fenceQueued_ce (s.entryOf h c) s
  have hb : (s.entryOf h c).noBoundary = true := hc
  rw [State.fenceNow_eq hf h hc, State.fencesMet_single (d := s.entryOf h c) (by simp [hq, hd, hb]),
    if_pos (by simp [State.fenceMet, hq, hd])]
  refine ⟨by simp [State.fenceDone_due, hq, hd], State.fenceDone_fence (State.fenceQueued_fence _ _), ?_, ?_⟩
  · rw [State.fenceDone_seq, hq]
  · obtain ⟨x, hx, hst, hr⟩ := State.fenceDone_comps (d := s.entryOf h c) (s := s.fenceQueued (s.entryOf h c)) rfl
      (State.fenceQueued_upsetAt hp) hn
    exact ⟨x, by rw [hx, hq], hst, hr⟩

/-- One entry waits for a boundary: the fence completes exactly where it does not stand in its way. -/
theorem State.fenceNow_behind {s : State} (hf : s.flt.fatal = false) (h : Hdr) {c : Cmd} (hc : asapOnly c = true) {e : Due}
    (hd : s.ce.due = [e]) (hb : e.noBoundary = false) (hs : e.seq < s.ce.seq) :
    s.fenceNow h c = if c = .fenceAll ∨ e.ring = h.ring then s.fenceQueued (s.entryOf h c)
      else (s.fenceQueued (s.entryOf h c)).fenceDone (s.entryOf h c) := by
  have hq := State.fenceQueued_ce (s.entryOf h c) s
  have hb' : (s.entryOf h c).noBoundary = true := hc
  have hm : (s.fenceQueued (s.entryOf h c)).fenceMet (s.entryOf h c) = !(decide (c = .fenceAll) || decide (e.ring = h.ring)) := by
    have hl : e.seq < (s.entryOf h c).seq := hs
    have hi : (s.entryOf h c).cmd = c ∧ (s.entryOf h c).ring = h.ring := ⟨rfl, rfl⟩
    simp [State.fenceMet, hq, hd, hl, hi]
  rw [State.fenceNow_eq hf h hc, State.fencesMet_single (d := s.entryOf h c) (by simp [hq, hd, hb, hb']), hm]
  by_cases hx : c = .fenceAll ∨ e.ring = h.ring
  · rw [if_pos hx, if_neg]
    rcases hx with hx | hx <;> simp [hx]
  · obtain ⟨h1, h2⟩ := not_or.1 hx
    rw [if_neg hx, if_pos (by simp [h1, h2])]

/-! ### Commands that no test stops -/

theorem State.stops_nop (s : State) : s.stops .nop = none := by
  simp [State.stops, staticTest, State.canExec, State.execReady, executorOf, State.stateTest, State.namedLater, cnfNames, protNames,
    State.limitsHold, limitPart, State.dueNow]
theorem State.stops_echo (v : Word) (s : State) : s.stops (.echo v) = none := by
  simp [State.stops, staticTest, State.canExec, State.execReady, executorOf, State.stateTest, State.namedLater, cnfNames, protNames,
    State.limitsHold, limitPart, State.dueNow]

theorem State.runNow_nop {s : State} (hf : s.flt.fatal = false) (h : Hdr) : s.runNow h .nop = s.finish (s.entryOf h .nop) {} := by
  rw [runNow_of_carries h ⟨hf, State.stops_nop s⟩]
  show State.finish _ _ (s.pmcRan .nop) = _
  rw [pmcRan_nop]
  rfl
theorem State.runNow_echo {s : State} (hf : s.flt.fatal = false) (h : Hdr) (v : Word) :
    s.runNow h (.echo v) = s.finish (s.entryOf h (.echo v)) { result := v.toNat } := by
  rw [runNow_of_carries h ⟨hf, State.stops_echo v s⟩]
  show State.finish _ _ (s.pmcRan (.echo v)) = _
  rw [pmcRan_echo]
  rfl

/-! ### Commands that a test stops -/

theorem State.runNow_stopped {s : State} {c : Cmd} {e : Eff} (hf : s.flt.fatal = false) (h : Hdr) (hs : s.stops c = some e) :
    s.runNow h c = s.addComp ((s.entryOf h c).comp s.stp.frame e) := by
  unfold State.runNow
  simp [hf, hs]

theorem State.stops_static {c : Cmd} {r : Nat} (s : State) (h : staticTest c = some r) :
    s.stops c = some { status := 0x06, result := r } := by
  unfold State.stops
  rw [h]

theorem State.stops_executor {c : Cmd} {s : State} (h : staticTest c = none) (hx : s.execReady c = false) :
    s.stops c = some { status := 0x0D } := by
  unfold State.stops
  rw [h]
  simp [State.canExec, hx]

/-! ### The obligation -/

/-- Settles O26: NOP and ECHO by the tests that cannot stop them, the fences by `fenceNow_alone` and `fenceNow_behind`, a stopped
command by `runNow_stopped`. -/
theorem immediateCommands : Obligations.ImmediateCommands := by
  unfold Obligations.ImmediateCommands
  refine ⟨⟨?nop, ?echo, ?silent, ?alone, ?behind⟩, ?stopped, fun c s r => State.stops_static s,
    fun c s => State.stops_executor, ?fatal⟩
  case nop =>
    intro h s hf hn
    refine ⟨_, rfl, ?_⟩
    rw [State.runNow_nop hf, State.finish_of_comp (show (s.entryOf h .nop).nocomp = false from hn)]
    exact ⟨_, rfl, rfl, rfl, rfl, rfl, rfl, rfl⟩
  case echo =>
    intro h v s hf hn
    refine ⟨_, rfl, ?_⟩
    rw [State.runNow_echo hf, State.finish_of_comp (show (s.entryOf h (.echo v)).nocomp = false from hn)]
    exact ⟨_, rfl, rfl, (BitVec.ofNat_toNat 32 v).trans (BitVec.setWidth_eq v), rfl, rfl⟩
  case silent =>
    intro h s hf hn
    show Host.Outcome.next (s.runNow h .nop) = _
    rw [State.runNow_nop hf]
    unfold State.finish
    rw [if_pos (by simp [State.entryOf, hn])]
  case alone =>
    rintro i h s (rfl | rfl) hf hp hn hd
    · exact ⟨_, rfl, State.fenceNow_alone hf hp h hn rfl hd⟩
    · exact ⟨_, rfl, State.fenceNow_alone hf hp h hn rfl hd⟩
  case behind =>
    intro h s e hf hd hb hs
    have hq := fun c => State.fenceQueued_ce (s.entryOf h c) s
    refine ⟨⟨_, rfl, ?_⟩, fun hr => ⟨_, rfl, ?_⟩, fun hr => ⟨_, rfl, ?_⟩⟩
    · rw [State.fenceNow_behind hf h rfl hd hb hs, if_pos (.inl rfl)]
      refine ⟨State.fenceQueued_fence _ _, ?_, ?_⟩
      · rw [hq]
      · rw [hq, hd]
        rfl
    · rw [State.fenceNow_behind hf h rfl hd hb hs, if_pos (.inr hr)]
      refine ⟨State.fenceQueued_fence _ _, ?_⟩
      rw [hq]
    · rw [State.fenceNow_behind hf h rfl hd hb hs, if_neg (by simp [hr])]
      refine ⟨?_, State.fenceDone_fence (State.fenceQueued_fence _ _)⟩
      rw [State.fenceDone_due, hq, hd]
      have : e.seq ≠ (s.entryOf h .fence).seq := Nat.ne_of_lt hs
      simp [this]
  case stopped =>
    intro h c s e hf hs
    exact ⟨_, State.runNow_stopped hf h hs, rfl, rfl⟩
  case fatal =>
    intro h c s hf
    exact ⟨by unfold State.runNow; simp [hf], by unfold State.fenceNow; simp [hf]⟩

end Sys2Proof.Machine
end

section
/-! O31. FABRIC_COMMIT and the copy-back of the three paged tables. -/

namespace Sys2Proof.Machine

/-! ### What a commit leaves of the conferences (07 R191, R196) -/

/-- The conferences but for the selection states and the speakers. -/
def Cnf.unselected (c : Cnf) : Cnf := { c with lane := [], spk := [] }

theorem Cnf.eq_of_unselected {c d : Cnf} (h : c.unselected = d.unselected) : c = { d with lane := c.lane, spk := c.spk } := by
  cases c
  cases d
  simp only [Cnf.unselected, Cnf.mk.injEq] at h ⊢
  simp only [h, and_self]

theorem State.setLaneSt_unselected (p : Nat) (x : LaneSt) (s : State) : (s.setLaneSt p x).cnf.unselected = s.cnf.unselected := rfl
theorem State.setSpk_unselected (c : Nat) (x : Spk) (s : State) : (s.setSpk c x).cnf.unselected = s.cnf.unselected := rfl

/-- A change of the active roster touches selection states and speakers alone. -/
theorem State.cnfChanges_unselected (o s : State) : (o.cnfChanges s).cnf.unselected = s.cnf.unselected := by
  unfold State.cnfChanges
  refine (foldS_keeps (fun s => s.cnf.unselected) _ _ (fun c u => ?_) _).trans
    (foldS_keeps (fun s => s.cnf.unselected) _ _ (fun p u => ?_) s)
  · dsimp only
    split
    · exact foldS_keeps (fun s => s.cnf.unselected) _ _ (fun p v => State.setLaneSt_unselected _ _ v) u
    · split
      · exact State.setSpk_unselected _ _ u
      · rfl
  · dsimp only
    split
    · rfl
    · split
      · exact State.setLaneSt_unselected _ _ u
      · split
        · exact State.setLaneSt_unselected _ _ u
        · rfl

/-! ### The check of the connections (04 R105) -/

theorem State.raise_withFlt (k : Kind) (src addr data : Nat) (s : State) : ∃ f, s.raise k src addr data = { s with flt := f } := by
  unfold State.raise State.post
  split
  · exact ⟨s.flt, rfl⟩
  · dsimp only
    split
    · exact ⟨_, rfl⟩
    · exact ⟨_, rfl⟩

theorem foldS_withFlt {α : Type} (g : α → State → State) (hg : ∀ a s, ∃ f, g a s = { s with flt := f }) (l : List α) (s : State) :
    ∃ f, foldS l g s = { s with flt := f } := by
  induction l generalizing s with
  | nil => exact ⟨s.flt, rfl⟩
  | cons a l ih =>
    obtain ⟨f, hf⟩ := hg a s
    obtain ⟨f', hf'⟩ := ih { s with flt := f }
    exact ⟨f', (congrArg (foldS l g) hf).trans hf'⟩

/-- The mismatch marks of a check: the connections that fail it, by destination. -/
def State.xcMism (s : State) : Tab Word :=
  (s.conns.filter (fun x => !(s.connMatch x.2 x.1))).foldl (fun t x => tset 0 t x.1 x.2) []

/-- The check sets the mismatch marks and raises messages. -/
theorem State.xcCheck_eq (s : State) : ∃ f, s.xcCheck = { s with flt := f, hop := { s.hop with mism := s.xcMism } } := by
  unfold State.xcCheck
  exact foldS_withFlt _ (fun x u => State.raise_withFlt _ _ _ _ u) _ _

/-- Non-zero words stored one after another: marked stands exactly what one of them names. -/
theorem tget_foldl_tset_ne {d : Nat} (l : List (Nat × Word)) (hl : ∀ x ∈ l, x.2 ≠ 0) (t : Tab Word) :
    tget 0 (l.foldl (fun t x => tset 0 t x.1 x.2) t) d ≠ 0 ↔ tget 0 t d ≠ 0 ∨ ∃ e, (d, e) ∈ l := by
  induction l generalizing t with
  | nil => simp
  | cons x l ih =>
    rw [List.foldl_cons, ih (fun y hy => hl y (List.mem_cons_of_mem _ hy))]
    by_cases hd : d = x.1
    · subst hd
      rw [tget_tset_same]
      exact iff_of_true (.inl (hl x List.mem_cons_self)) (.inr ⟨x.2, List.mem_cons_self⟩)
    · rw [tget_tset_other _ _ _ _ _ hd]
      have hx : ∀ e, (d, e) ≠ x := fun e h => hd (congrArg Prod.fst h)
      simp [List.mem_cons, hx]

theorem State.xcMism_ne_zero (s : State) (d : Nat) : tget 0 s.xcMism d ≠ 0 ↔ ∃ e, (d, e) ∈ s.conns ∧ s.connMatch e d = false := by
  unfold State.xcMism
  rw [tget_foldl_tset_ne]
  · simp [tget, List.mem_filter]
  · intro x hx h0
    have hc := (List.mem_filter.1 (List.mem_filter.1 hx).1).2
    rw [h0] at hc
    exact absurd hc (by decide)

/-! ### FABRIC_COMMIT (06 R175, R178) -/

theorem State.follow_commit (old s : State) : old.follow .fabricCommit s = (old.cnfChanges s).xcCheck := rfl

theorem State.stops_commit {s : State} {f : Word} (h : s.commitClash s.stp.frame = some f) :
    s.stops .fabricCommit = some { status := 0x08, result := f.toNat } := by
  simp [State.stops, staticTest, State.canExec, State.execReady, executorOf, State.stateTest, State.namedLater, cnfNames, protNames,
    State.limitsHold, limitPart, State.dueNow, h]

/-- The commit swaps the three tables as one action. -/
theorem execFabricCommit_does (h : Hdr) (s : State) (hc : Carries .fabricCommit s) : Does (.fabricCommit h) s fun t =>
    DoneWith h (b2n (!s.tsw.active)) s t ∧
    t.tsw = { s.tsw with active := !s.tsw.active, committed := true, lastCommit := s.stp.frame, dirty := [], copyLeft := 3 } ∧
    t.cnf = { s.cnf with active := !s.cnf.active, dirtyP := [], dirtyC := [], copyLeft := 3, lane := t.cnf.lane, spk := t.cnf.spk } ∧
    t.hop = { s.hop with active := !s.hop.active, dirty := [], copy := true, mism := t.hop.mism } ∧
    (∀ d, tget 0 t.hop.mism d ≠ 0 ↔ ∃ e, (d, e) ∈ t.conns ∧ t.connMatch e d = false) := by
  refine hc.follows (u := s.fabricCommit) (e := { result := b2n (!s.tsw.active) }) rfl rfl rfl ?_
  rw [State.follow_commit]
  have htsw : (s.cnfChanges s.fabricCommit).tsw = s.fabricCommit.tsw := tsw_of_hide (State.cnfChanges_frame _ (by decide) _ _)
  have hhop : (s.cnfChanges s.fabricCommit).hop = s.fabricCommit.hop := hop_of_hide (State.cnfChanges_frame _ (by decide) _ _)
  have hcnf := Cnf.eq_of_unselected (State.cnfChanges_unselected s s.fabricCommit)
  obtain ⟨f, hx⟩ := State.xcCheck_eq (s.cnfChanges s.fabricCommit)
  rw [hx]
  generalize s.cnfChanges s.fabricCommit = v at htsw hhop hcnf
  intro l p hd
  refine ⟨hd, htsw, hcnf, ?_, fun d => v.xcMism_ne_zero d⟩
  show ({ v.hop with mism := v.xcMism } : Hop) = _
  rw [hhop]
  rfl

/-! ### Copy-back (06 R176) -/

/-- The entry of a slot after the copy-back of its page: its own where it is dirty, the active page's elsewhere. -/
theorem tget_copyBack_page {α : Type} (d : α) (dirty : Nat → Bool) (pg : Bool → Tab α) (a : Bool) (k : Nat) :
    tget d (copyBack dirty (pg a) (pg (!a))) k = tget d (pg (if dirty k then !a else a)) k := by
  rw [tget_copyBack]
  split <;> rfl

theorem State.cmReadAll_tsw (b : Bool) (p : Nat → Bool) (s : State) : (s.cmReadAll b p).tsw.active = s.tsw.active ∧
    (s.cmReadAll b p).tsw.dirty = s.tsw.dirty :=
  ⟨cmReadAll_keep (fun t => t.active) (fun _ _ => rfl) (fun _ _ => rfl) (fun _ _ => rfl) (fun _ _ _ _ => rfl) (fun _ _ => rfl) b p s,
   cmReadAll_keep (fun t => t.dirty) (fun _ _ => rfl) (fun _ _ => rfl) (fun _ _ => rfl) (fun _ _ _ _ => rfl) (fun _ _ => rfl) b p s⟩

/-- The truss after its copy-back. -/
theorem State.tswCopyDone_spec {s : State} (h : s.tsw.copyLeft ≠ 0) :
    s.tswCopyDone.tswPage (!s.tsw.active) = copyBack (fun k => s.tswDirty k) (s.tswPage s.tsw.active) (s.tswPage (!s.tsw.active)) ∧
    s.tswCopyDone.tswPage s.tsw.active = s.tswPage s.tsw.active ∧ s.tswCopyDone.tsw.copyLeft = 0 ∧
    s.tswCopyDone.tsw.active = s.tsw.active := by
  have hp := cmReadAll_pages s.tsw.active (fun k => !(s.tswDirty k)) s
  have ha := (State.cmReadAll_tsw s.tsw.active (fun k => !(s.tswDirty k)) s).1
  unfold State.tswCopyDone
  rw [if_neg h]
  dsimp only
  generalize s.cmReadAll s.tsw.active (fun k => !(s.tswDirty k)) = u at hp ha
  rw [← hp s.tsw.active, ← hp (!s.tsw.active)]
  cases hb : s.tsw.active
  · exact ⟨rfl, rfl, rfl, ha.trans hb⟩
  · exact ⟨rfl, rfl, rfl, ha.trans hb⟩

/-- The roster's pages and dirty bitmaps: all that a copy-back's reads do not touch. -/
def Cnf.unread (c : Cnf) : Cnf :=
  { c with poisPA := [], poisPB := [], poisCA := [], poisCB := [], ce := 0, ue := 0, lastUnit := 0, lastAddr := 0, seen := [] }

theorem State.cnfEcc_unread (d : Bool) (unit addr : Nat) (s : State) : (s.cnfEcc d unit addr).cnf.unread = s.cnf.unread := by
  cases d <;> rfl
theorem State.setCnfPoisP_unread (b : Bool) (t : Tab Bool) (s : State) : (s.setCnfPoisP b t).cnf.unread = s.cnf.unread := by
  cases b <;> rfl
theorem State.setCnfPoisC_unread (b : Bool) (t : Tab Bool) (s : State) : (s.setCnfPoisC b t).cnf.unread = s.cnf.unread := by
  cases b <;> rfl
theorem State.raise_cnf (k : Kind) (src addr data : Nat) (s : State) : (s.raise k src addr data).cnf = s.cnf :=
  cnf_of_hide (State.raise_frame _ (by decide) _ _ _ _ _)
theorem State.cnfOnce_unread (k : Kind) (src addr data : Nat) (s : State) : (s.cnfOnce k src addr data).cnf.unread = s.cnf.unread := by
  unfold State.cnfOnce
  split
  · rfl
  · rw [State.raise_cnf]
    rfl

/-- A read of a roster entry touches error marks and counters alone. -/
theorem State.rsRead_unread (isConf b : Bool) (i : Nat) (s : State) : (s.rsRead isConf b i).cnf.unread = s.cnf.unread := by
  unfold State.rsRead
  dsimp only
  split
  · rfl
  · refine (State.cnfOnce_unread _ _ _ _ _).trans ?_
    split
    · exact State.cnfEcc_unread _ _ _ _
    · split
      · split
        · exact (State.setCnfPoisC_unread _ _ _).trans ((State.setCnfPoisC_unread _ _ _).trans (State.cnfEcc_unread _ _ _ _))
        · exact (State.setCnfPoisC_unread _ _ _).trans (State.cnfEcc_unread _ _ _ _)
      · split
        · exact (State.setCnfPoisP_unread _ _ _).trans ((State.setCnfPoisP_unread _ _ _).trans (State.cnfEcc_unread _ _ _ _))
        · exact (State.setCnfPoisP_unread _ _ _).trans (State.cnfEcc_unread _ _ _ _)

theorem State.rsReadAll_unread (isConf b : Bool) (s : State) : (s.rsReadAll isConf b).cnf.unread = s.cnf.unread := by
  unfold State.rsReadAll
  refine foldS_keeps (fun s => s.cnf.unread) _ _ (fun u s => ?_) s
  split
  · split
    · exact State.rsRead_unread _ _ _ _
    · rfl
  · split
    · exact State.rsRead_unread _ _ _ _
    · rfl
  · rfl

theorem State.cnfParts_of_unread {s t : State} (h : t.cnf.unread = s.cnf.unread) (b : Bool) : t.cnfParts b = s.cnfParts b := by
  cases b
  · exact (congrArg Cnf.partA h :)
  · exact (congrArg Cnf.partB h :)
theorem State.cnfConfs_of_unread {s t : State} (h : t.cnf.unread = s.cnf.unread) (b : Bool) : t.cnfConfs b = s.cnfConfs b := by
  cases b
  · exact (congrArg Cnf.confA h :)
  · exact (congrArg Cnf.confB h :)

theorem State.setCnfParts_other (a : Bool) (t : Tab PEntry) (s : State) : (s.setCnfParts (!a) t).cnfParts a = s.cnfParts a := by
  cases a <;> rfl
theorem State.setCnfParts_cnfConfs (b : Bool) (t : Tab PEntry) (s : State) (c : Bool) : (s.setCnfParts b t).cnfConfs c = s.cnfConfs c := by
  cases b <;> rfl
theorem State.setCnfConfs_other (a : Bool) (t : Tab CEntry) (s : State) : (s.setCnfConfs (!a) t).cnfConfs a = s.cnfConfs a := by
  cases a <;> rfl
theorem State.setCnfConfs_cnfParts (b : Bool) (t : Tab CEntry) (s : State) (c : Bool) : (s.setCnfConfs b t).cnfParts c = s.cnfParts c := by
  cases b <;> rfl

/-- The entries that a copy-back reads, in both pages. -/
def State.rosterReads (s : State) : State :=
  (((s.rsReadAll false s.cnf.active).rsReadAll true s.cnf.active).rsReadAll false (!s.cnf.active)).rsReadAll true (!s.cnf.active)

theorem State.rosterReads_unread (s : State) : s.rosterReads.cnf.unread = s.cnf.unread := by
  simp only [State.rosterReads, State.rsReadAll_unread]

/-- What a copy-back writes once it has read: the page beside the active page `a`. -/
def State.rosterBack (a : Bool) (s : State) : State :=
  let dp := fun k => tget false s.cnf.dirtyP k
  let dc := fun k => tget false s.cnf.dirtyC k
  let s := s.setCnfParts (!a) (copyBack dp (s.cnfParts a) (s.cnfParts (!a)))
  let s := s.setCnfConfs (!a) (copyBack dc (s.cnfConfs a) (s.cnfConfs (!a)))
  let s := s.setCnfPoisP (!a) (copyBack dp (s.cnfPoisP a) (s.cnfPoisP (!a)))
  let s := s.setCnfPoisC (!a) (copyBack dc (s.cnfPoisC a) (s.cnfPoisC (!a)))
  { s with cnf := { s.cnf with copyLeft := 0 } }

theorem State.cnfCopyDone_eq {s : State} (h : s.cnf.copyLeft ≠ 0) : s.cnfCopyDone = s.rosterReads.rosterBack s.cnf.active :=
  if_neg h

theorem State.rosterBack_spec (a : Bool) (s : State) :
    (s.rosterBack a).cnfParts (!a) = copyBack (fun k => tget false s.cnf.dirtyP k) (s.cnfParts a) (s.cnfParts (!a)) ∧
    (s.rosterBack a).cnfConfs (!a) = copyBack (fun k => tget false s.cnf.dirtyC k) (s.cnfConfs a) (s.cnfConfs (!a)) ∧
    (s.rosterBack a).cnfParts a = s.cnfParts a ∧ (s.rosterBack a).cnfConfs a = s.cnfConfs a ∧ (s.rosterBack a).cnf.copyLeft = 0 := by
  unfold State.rosterBack
  dsimp only
  generalize hv : State.setCnfConfs (!a) _ _ = v
  generalize hx : State.setCnfPoisC (!a) _ _ = x
  have hu : x.cnf.unread = v.cnf.unread := by
    rw [← hx, State.setCnfPoisC_unread, State.setCnfPoisP_unread]
  refine ⟨(State.cnfParts_of_unread hu _).trans ?_, (State.cnfConfs_of_unread hu _).trans ?_,
    (State.cnfParts_of_unread hu _).trans ?_, (State.cnfConfs_of_unread hu _).trans ?_, rfl⟩
  · rw [← hv, State.setCnfConfs_cnfParts, State.setCnfParts_get]
  · rw [← hv, State.setCnfConfs_get, State.setCnfParts_cnfConfs, State.setCnfParts_cnfConfs]
  · rw [← hv, State.setCnfConfs_cnfParts, State.setCnfParts_other]
  · rw [← hv, State.setCnfConfs_other, State.setCnfParts_cnfConfs]

/-- The roster after its copy-back. -/
theorem State.cnfCopyDone_spec {s : State} (h : s.cnf.copyLeft ≠ 0) :
    s.cnfCopyDone.cnfParts (!s.cnf.active) =
      copyBack (fun k => tget false s.cnf.dirtyP k) (s.cnfParts s.cnf.active) (s.cnfParts (!s.cnf.active)) ∧
    s.cnfCopyDone.cnfConfs (!s.cnf.active) =
      copyBack (fun k => tget false s.cnf.dirtyC k) (s.cnfConfs s.cnf.active) (s.cnfConfs (!s.cnf.active)) ∧
    s.cnfCopyDone.cnfParts s.cnf.active = s.cnfParts s.cnf.active ∧ s.cnfCopyDone.cnfConfs s.cnf.active = s.cnfConfs s.cnf.active ∧
    s.cnfCopyDone.cnf.copyLeft = 0 := by
  have hu := s.rosterReads_unread
  have hp : s.rosterReads.cnf.dirtyP = s.cnf.dirtyP := (congrArg Cnf.dirtyP hu :)
  have hc : s.rosterReads.cnf.dirtyC = s.cnf.dirtyC := (congrArg Cnf.dirtyC hu :)
  have hb := State.rosterBack_spec s.cnf.active s.rosterReads
  rw [State.cnfCopyDone_eq h]
  simpa only [State.cnfParts_of_unread hu, State.cnfConfs_of_unread hu, hp, hc] using hb

/-- The cross-connect map after its copy-back. -/
theorem State.xcCopyDone_spec {s : State} (h : s.hop.copy = true) :
    s.xcCopyDone.xcTab (!s.hop.active) = copyBack (fun k => tget false s.hop.dirty k) (s.xcTab s.hop.active) (s.xcTab (!s.hop.active)) ∧
    s.xcCopyDone.xcTab s.hop.active = s.xcTab s.hop.active ∧ s.xcCopyDone.hop.copy = false := by
  unfold State.xcCopyDone
  rw [if_neg (by simp [h])]
  dsimp only
  cases s.hop.active
  · exact ⟨rfl, rfl, rfl⟩
  · exact ⟨rfl, rfl, rfl⟩

/-! ### The obligation -/

/-- Settles O31: the commit by `execFabricCommit_does`, the copy-back of each table by what its page is made of. -/
theorem commitAndCopyback : Obligations.CommitAndCopyback := by
  unfold Obligations.CommitAndCopyback
  refine ⟨⟨execFabricCommit_does, fun s f => State.stops_commit⟩, ?truss, ?roster, ?xc, ?none⟩
  case truss =>
    intro s h
    obtain ⟨hs, ha, hl, hact⟩ := State.tswCopyDone_spec h
    refine ⟨_, congrArg Host.Outcome.next (if_neg h), fun k => ?_, ha, hl, hact⟩
    rw [hs]
    exact tget_copyBack_page 0 _ (fun b => s.tswPage b) s.tsw.active k
  case roster =>
    intro s h
    obtain ⟨hp, hq, hpa, hqa, hl⟩ := State.cnfCopyDone_spec h
    refine ⟨_, congrArg Host.Outcome.next (if_neg h), fun k => ?_, fun k => ?_, hpa, hqa, hl⟩
    · rw [hp]
      exact tget_copyBack_page _ _ (fun b => s.cnfParts b) s.cnf.active k
    · rw [hq]
      exact tget_copyBack_page _ _ (fun b => s.cnfConfs b) s.cnf.active k
  case xc =>
    intro s h
    obtain ⟨hs, ha, hc⟩ := State.xcCopyDone_spec h
    refine ⟨_, rfl, fun k => ?_, ha, hc⟩
    show tget 0 (s.xcCopyDone.xcTab (!s.hop.active)) k = tget 0 (s.xcTab _) k
    rw [hs]
    exact tget_copyBack_page 0 _ (fun b => s.xcTab b) s.hop.active k
  case none =>
    intro s
    refine ⟨fun h => congrArg Host.Outcome.next (if_pos h), fun h => congrArg Host.Outcome.next (if_pos h), fun h => ?_⟩
    exact congrArg Host.Outcome.next (if_pos (by simp [h]))

end Sys2Proof.Machine
end

section
/-! O16. Boot from SPI flash: what the bytes of an image come to behind the bus, and the verdict on it. -/

namespace Sys2Proof.Machine

/-- What leaves GLB, straps and all, as it was. -/
theorem glb_of_hide {s t : State} (h : t.hide 35184372088639 = s.hide 35184372088639) : t.glb = s.glb := by
  have key : ∀ x : Glb, x.hide 35184372088639 = x := fun x => by simp [Glb.hide, pick]
  have h0 : t.glb.hide 35184372088639 = s.glb.hide 35184372088639 := congrArg (fun x => x.glb) h
  rwa [key, key] at h0

/-! ### SP's writes behind the bus (R399, R403, R405) -/

/-- Where a byte that SP writes at an address is stored; none at a decode error, in the boot ROM, behind a frozen target. -/
def State.storeAt (s : State) (a : Nat) : Option Nat :=
  (busDecode s.glb.remap 2 a).bind (fun x => if s.frozen x.1 || decide (x.1 = 1) then none else some (targetAddr x.1 x.2))

theorem State.storeAt_of_decode {s : State} {a k o : Nat} (h : busDecode s.glb.remap 2 a = some (k, o)) (hf : s.frozen k = false)
    (hk : k ≠ 1) : s.storeAt a = some (targetAddr k o) := by
  simp [State.storeAt, h, hf, hk]

/-- An address whose byte is stored decodes to a target. -/
theorem State.decode_of_storeAt {s : State} {a x : Nat} (h : s.storeAt a = some x) :
    ∃ k o, busDecode s.glb.remap 2 a = some (k, o) ∧ targetAddr k o = x := by
  obtain ⟨⟨k, o⟩, hd, hx⟩ := Option.bind_eq_some_iff.1 h
  refine ⟨k, o, hd, ?_⟩
  split at hx
  · cases hx
  · exact Option.some.inj hx

/-- No write of SP moves where SP's writes go. -/
theorem State.busAccess_storeAt (m : Nat) (w : Option Byte) (x : Nat) (s : State) (a : Nat) : (s.busAccess m w x).storeAt a = s.storeAt a := by
  have hr : (s.busAccess m w x).glb.remap = s.glb.remap := glb_remap_of_hide (State.busAccess_frame _ (by decide) _ _ _ _)
  have hc : (s.busAccess m w x).cfg = s.cfg := cfg_of_hide (State.busAccess_frame _ (by decide) _ _ _ _)
  unfold State.storeAt State.frozen State.rb State.reg
  rw [hr, hc]

theorem State.busAccess_mem (b : Byte) (a : Nat) (s : State) (x : Nat) :
    tget 0 (s.busAccess 2 (some b) a).bus.mem x = if s.storeAt a = some x then b else tget 0 s.bus.mem x := by
  unfold State.busAccess State.storeAt
  cases hd : busDecode s.glb.remap 2 a with
  | none => simp [State.decodeErr]
  | some t =>
    obtain ⟨k, o⟩ := t
    dsimp only [Option.bind_some]
    by_cases hf : (s.frozen k || decide (k = 1)) = true
    · simp [hf]
    · simp only [if_neg hf]
      by_cases hx : targetAddr k o = x
      · subst hx
        simp
      · rw [if_neg (by simpa using hx)]
        exact tget_tset_other _ _ _ _ _ (Ne.symm hx)

/-- One byte of the image, written at each of its destinations. -/
def State.storeByte (l : List Nat) (b : Byte) (s : State) : State := foldS l (fun a (s : State) => s.busAccess 2 (some b) a) s

theorem State.storeByte_storeAt (l : List Nat) (b : Byte) (s : State) (a : Nat) : (s.storeByte l b).storeAt a = s.storeAt a :=
  foldS_keeps (fun s => s.storeAt a) l _ (fun x u => State.busAccess_storeAt _ _ x u a) s

/-- The byte stands where one of its destinations is stored; nothing else changes. -/
theorem State.storeByte_mem (l : List Nat) (b : Byte) (s : State) (x : Nat) :
    tget 0 (s.storeByte l b).bus.mem x = if ∃ a ∈ l, s.storeAt a = some x then b else tget 0 s.bus.mem x := by
  induction l generalizing s with
  | nil => simp [State.storeByte, foldS]
  | cons a l ih =>
    refine (ih (s.busAccess 2 (some b) a)).trans ?_
    simp only [State.busAccess_storeAt, State.busAccess_mem, List.exists_mem_cons_iff]
    by_cases hl : ∃ a ∈ l, s.storeAt a = some x
    · rw [if_pos hl, if_pos (.inr hl)]
    · by_cases ha : s.storeAt a = some x
      · rw [if_neg hl, if_pos ha, if_pos (.inl ha)]
      · rw [if_neg hl, if_neg ha, if_neg (not_or.2 ⟨ha, hl⟩)]

/-- Bytes `ps` of the image go to their destinations, in this order. -/
def State.storeBytes (image : List Byte) (ps : List Nat) (s : State) : State :=
  foldS ps (fun p (s : State) => s.storeByte (imageDest image p) (byteAt image p)) s

theorem State.storeBytes_storeAt (image : List Byte) (ps : List Nat) (s : State) (a : Nat) : (s.storeBytes image ps).storeAt a = s.storeAt a :=
  foldS_keeps (fun s => s.storeAt a) ps _ (fun _ u => State.storeByte_storeAt _ _ u a) s

/-- Bytes none of which is stored at `x` leave what stands there. -/
theorem State.storeBytes_mem_other (image : List Byte) (ps : List Nat) (s : State) (x : Nat)
    (h : ∀ p ∈ ps, ∀ a ∈ imageDest image p, s.storeAt a ≠ some x) : tget 0 (s.storeBytes image ps).bus.mem x = tget 0 s.bus.mem x := by
  induction ps generalizing s with
  | nil => rfl
  | cons p ps ih =>
    refine (ih (s.storeByte (imageDest image p) (byteAt image p)) fun q hq a ha => ?_).trans ?_
    · rw [State.storeByte_storeAt]
      exact h q (List.mem_cons_of_mem _ hq) a ha
    · rw [State.storeByte_mem, if_neg]
      rintro ⟨a, ha, hx⟩
      exact h p List.mem_cons_self a ha hx

/-- The last byte stored at a place is what stands there. -/
theorem State.storeBytes_mem_last (image : List Byte) (l r : List Nat) (p a x : Nat) (s : State) (ha : a ∈ imageDest image p)
    (hx : s.storeAt a = some x) (hr : ∀ q ∈ r, ∀ a ∈ imageDest image q, s.storeAt a ≠ some x) :
    tget 0 (s.storeBytes image (l ++ p :: r)).bus.mem x = byteAt image p := by
  have happ : s.storeBytes image (l ++ p :: r) =
      (((s.storeBytes image l).storeByte (imageDest image p) (byteAt image p)).storeBytes image r) := by
    simp [State.storeBytes, foldS]
  rw [happ, State.storeBytes_mem_other, State.storeByte_mem, if_pos]
  · exact ⟨a, ha, (State.storeBytes_storeAt ..).trans hx⟩
  · intro q hq b hb
    rw [State.storeByte_storeAt, State.storeBytes_storeAt]
    exact hr q hq b hb

/-! ### The image from SPI flash (R409) -/

/-- SP has taken the whole image from the flash. -/
def State.imageTaken (image : List Byte) (s : State) : State := ({ s with boot := { s.boot with image := [] } }).takeImage image

theorem State.imageTaken_eq (image : List Byte) (s : State) : s.imageTaken image =
    if imageTable image then ({ s with boot := { s.boot with image := image } }).storeBytes image (List.range' 0 image.length)
    else { s with boot := { s.boot with image := image } } := by
  unfold State.imageTaken State.takeImage
  dsimp only
  rw [List.nil_append, show (if imageTable [] then ([] : List Byte).length else 0) = 0 from by decide]
  unfold State.loadFrom
  dsimp only
  cases imageTable image
  · rfl
  · rfl

/-- Taking the image changes what stands behind the bus, and which image SP holds. -/
theorem State.imageTaken_frame (image : List Byte) (s : State) :
    (s.imageTaken image).hide 512 = ({ s with boot := { s.boot with image := image } } : State).hide 512 := by
  unfold State.imageTaken State.takeImage
  dsimp only
  rw [List.nil_append]
  exact State.loadFrom_frame _ rfl _ _

theorem State.imageTaken_boot (image : List Byte) (s : State) : (s.imageTaken image).boot = { s.boot with image := image } :=
  boot_of_hide (s := { s with boot := { s.boot with image := image } }) (hide_mono _ _ (by decide) (State.imageTaken_frame image s))

/-- No target of the image is frozen. -/
theorem State.frozen_of_loadHeld {s : State} {image : List Byte} (hl : s.loadHeld image = false) (ht : imageTable image = true) {p a k o : Nat}
    (hp : p < image.length) (ha : a ∈ imageDest image p) (hd : busDecode s.glb.remap 2 a = some (k, o)) : s.frozen k = false := by
  unfold State.loadHeld at hl
  simp only [Bool.or_eq_false_iff, ht, Bool.true_and, List.any_eq_false, List.mem_range] at hl
  have := hl.2 p hp
  simp only [Bool.not_eq_true, List.any_eq_false] at this
  have hk := this a ha
  rw [hd] at hk
  simpa using hk

/-- Each byte of a section stands at its destination, where no later byte has gone to the same place. -/
theorem State.imageTaken_mem {s : State} {image : List Byte} (hl : s.loadHeld image = false) (ht : imageTable image = true) {p a k o : Nat}
    (hp : p < image.length) (ha : a ∈ imageDest image p) (hd : busDecode s.glb.remap 2 a = some (k, o)) (hk : k ≠ 1)
    (hlast : ∀ p' a' k' o', p < p' → p' < image.length → a' ∈ imageDest image p' → busDecode s.glb.remap 2 a' = some (k', o') →
      targetAddr k' o' ≠ targetAddr k o) : tget 0 (s.imageTaken image).bus.mem (targetAddr k o) = byteAt image p := by
  have hsplit : List.range' 0 image.length = List.range' 0 p ++ p :: List.range' (p + 1) (image.length - p - 1) := by
    rw [← List.range'_succ, show image.length = p + (image.length - p - 1 + 1) by omega, ← List.range'_append_1]
    simp
  rw [State.imageTaken_eq, if_pos ht, hsplit]
  refine State.storeBytes_mem_last image _ _ p a _ _ ha
    (State.storeAt_of_decode (s := { s with boot := { s.boot with image := image } }) hd (State.frozen_of_loadHeld hl ht hp ha hd) hk) ?_
  intro q hq b hb hx
  obtain ⟨hq1, hq2⟩ := List.mem_range'_1.1 hq
  obtain ⟨k', o', hd', hx'⟩ := State.decode_of_storeAt hx
  exact hlast q b k' o' (by omega) (by omega) hb hd' hx'

/-! ### A failed image (R410, R411) -/

/-- What stands behind the bus once the destination at an address is zeroed. -/
def zeroAt (remap : Bool) (m : Tab Byte) (a : Nat) : Tab Byte :=
  match busDecode remap 2 a with
  | some (k, o) => tset 0 m (targetAddr k o) 0
  | none => m

theorem tget_zeroAt (remap : Bool) (m : Tab Byte) (a x : Nat) (h : tget 0 m x = 0) : tget 0 (zeroAt remap m a) x = 0 := by
  unfold zeroAt
  split
  · rename_i k o _
    by_cases hx : x = targetAddr k o
    · rw [hx, tget_tset_same]
    · rw [tget_tset_other _ _ _ _ _ hx, h]
  · exact h

theorem tget_zeroAt_decoded {remap : Bool} (m : Tab Byte) {a k o : Nat} (h : busDecode remap 2 a = some (k, o)) :
    tget 0 (zeroAt remap m a) (targetAddr k o) = 0 := by
  unfold zeroAt
  rw [h]
  exact tget_tset_same ..

/-- What a fold keeps and one of its steps brings about holds at its end. -/
theorem foldl_reaches {σ α : Type} (P : σ → Prop) (f : σ → α → σ) (hk : ∀ s a, P s → P (f s a)) {x : α} (hx : ∀ s, P (f s x)) :
    ∀ (l : List α) (s : σ), x ∈ l ∨ P s → P (l.foldl f s)
  | [], _, h => h.resolve_left (by simp)
  | y :: l, s, h => foldl_reaches P f hk hx l (f s y) <| by
    rcases h with h | h
    · rcases List.mem_cons.1 h with rfl | h
      · exact .inr (hx s)
      · exact .inl h
    · exact .inr (hk s y h)

theorem State.unload_mem_eq (s : State) (h : imageTable s.boot.image = true) : s.unload.bus.mem =
    (List.range s.boot.image.length).foldl (fun m p => (imageDest s.boot.image p).foldl (zeroAt s.glb.remap) m) s.bus.mem := by
  unfold State.unload
  dsimp only
  rw [if_neg (by simp [h])]
  rfl

/-- Every destination of the image that SP holds is zeroed. -/
theorem State.unload_zero {s : State} (ht : imageTable s.boot.image = true) {p a k o : Nat} (hp : p < s.boot.image.length)
    (ha : a ∈ imageDest s.boot.image p) (hd : busDecode s.glb.remap 2 a = some (k, o)) : tget 0 s.unload.bus.mem (targetAddr k o) = 0 := by
  have hkeep : ∀ m a, tget 0 m (targetAddr k o) = 0 → tget 0 (zeroAt s.glb.remap m a) (targetAddr k o) = 0 := fun m a =>
    tget_zeroAt _ m a _
  rw [State.unload_mem_eq s ht]
  refine foldl_reaches (fun m => tget 0 m (targetAddr k o) = 0) _ (fun m q hm => ?_) (x := p) (fun m => ?_) _ _ (.inl (List.mem_range.2 hp))
  · exact foldl_reaches (fun m => tget 0 m (targetAddr k o) = 0) _ hkeep (x := a) (fun m => tget_zeroAt_decoded m hd) _ m (.inr hm)
  · exact foldl_reaches (fun m => tget 0 m (targetAddr k o) = 0) _ hkeep (x := a) (fun m => tget_zeroAt_decoded m hd) _ m (.inl ha)

/-- A message of a source outside the processors, with a place free, waits in its order. -/
theorem State.raise_queue {k : Kind} {src addr data : Nat} {s : State} (hs : s.srcInReset src = false) (hq : s.flt.queue.length < 64) :
    (s.raise k src addr data).flt.queue = insertMsg
      { source := src, kind := k.code, cls := k.cls, addr := BitVec.ofNat 32 addr, data := BitVec.ofNat 64 data, at_ := s.now }
      s.flt.queue := by
  unfold State.raise State.post
  rw [if_neg (by simp [hs])]
  dsimp only
  rw [if_pos hq]

/-- The second copy is tried. -/
def Boot.second (b : Boot) (code : Nat) : Bool := decide (b.stage = 2) && !b.copy && decide (27 ≤ b.density) && code ≠ 5

/-- The boot state after a failure. -/
def Boot.failed (b : Boot) (code : Nat) : Boot :=
  { (if b.second code then { b with copy := true, image := [] } else { b.emptied with stage := 4 }) with fail := code }

theorem State.bootFail_eq (code : Nat) (s : State) :
    s.bootFail code = ({ s.unload with boot := s.unload.boot.failed code }).raise .bootFail 0x187 0 code := rfl

theorem State.unload_boot (s : State) : s.unload.boot = s.boot := boot_of_hide (State.unload_frame _ (by decide) _)
theorem State.unload_flt (s : State) : s.unload.flt = s.flt := by
  unfold State.unload
  dsimp only
  split <;> rfl
theorem State.unload_stp (s : State) : s.unload.stp = s.stp := by
  unfold State.unload
  dsimp only
  split <;> rfl
theorem State.unload_glb (s : State) : s.unload.glb = s.glb := by
  unfold State.unload
  dsimp only
  split <;> rfl

theorem State.bootFail_boot (code : Nat) (s : State) : (s.bootFail code).boot = s.boot.failed code := by
  rw [State.bootFail_eq, boot_of_hide (State.raise_frame _ (by decide) _ _ _ _ _), State.unload_boot]
theorem State.bootFail_bus (code : Nat) (s : State) : (s.bootFail code).bus = s.unload.bus := by
  rw [State.bootFail_eq, bus_of_hide (State.raise_frame _ (by decide) _ _ _ _ _)]
theorem State.bootFail_glb (code : Nat) (s : State) : (s.bootFail code).glb = s.glb := by
  rw [State.bootFail_eq, glb_of_hide (State.raise_frame _ (by decide) _ _ _ _ _), State.unload_glb]

/-- BOOT_FAIL waits with the code of the failure (Table IF-4). -/
theorem State.bootFail_queue {code : Nat} {s : State} (hq : s.flt.queue.length < 64) :
    (s.bootFail code).flt.queue = insertMsg
      { source := 0x187, kind := 0xB1, cls := 1, addr := 0, data := BitVec.ofNat 64 code, at_ := s.now } s.flt.queue := by
  rw [State.bootFail_eq, State.raise_queue rfl (by rw [State.unload_flt]; exact hq)]
  show insertMsg _ s.unload.flt.queue = _
  rw [State.unload_flt]
  unfold State.now
  rw [State.unload_stp]
  rfl

/-! ### The verdict (R410) -/

/-- The slot that holds K0 (14 R380). -/
def keyZeroSlot : KeySlot := { loaded := true, aes256 := true, key := keyZero, ctr := 0, kcv := kcv true keyZero }

/-- K0 stands in its slot as the image's tag is compared (14 R380). -/
def State.withKeyZero (s : State) : State := { s with sec := { s.sec with keys := tset {} s.sec.keys 0 keyZeroSlot } }

theorem State.withKeyZero_boot (s : State) : s.withKeyZero.boot = s.boot := rfl
theorem State.withKeyZero_flt (s : State) : s.withKeyZero.flt = s.flt := rfl
theorem State.withKeyZero_stp (s : State) : s.withKeyZero.stp = s.stp := rfl
theorem State.withKeyZero_glb (s : State) : s.withKeyZero.glb = s.glb := rfl

theorem State.bootEnd_eq (s : State) : s.bootEnd =
    if imageCode s.boot.image ≠ 0 then s.withKeyZero.bootFail (imageCode s.boot.image)
    else { s.withKeyZero with
      boot := { s.boot.emptied with stage := 5, version := BitVec.ofNat 32 (imgWord s.boot.image 12) }
      glb := { s.glb with ready := true, remap := true } } := rfl

/-- No image fails with code 5, that of a flash without SFDP data (Table IF-4). -/
theorem imageCode_ne_five (b : List Byte) : imageCode b ≠ 5 := by
  unfold imageCode
  dsimp only
  split_ifs <;> decide

theorem execBootLoadDone_eq {s : State} {image : List Byte} (hs : s.boot.stage = 2) (hl : s.loadHeld image = false) :
    exec (.bootLoadDone image) s = .next (s.imageTaken image).bootEnd :=
  congrArg Host.Outcome.next (if_pos (by simp [hs, hl]))

theorem State.imageTaken_glb (image : List Byte) (s : State) : (s.imageTaken image).glb = s.glb :=
  glb_of_hide (s := { s with boot := { s.boot with image := image } }) (hide_mono _ _ (by decide) (State.imageTaken_frame image s))

/-- Every part of FLT, and the pole, stand as they stood. -/
theorem State.imageTaken_flt_stp (image : List Byte) (s : State) : (s.imageTaken image).flt = s.flt ∧ (s.imageTaken image).stp = s.stp := by
  have h := State.imageTaken_frame image s
  have kf : ∀ x : Flt, x.hide 512 = x := fun x => by simp [Flt.hide, pick]
  have ks : ∀ x : Stp, x.hide 512 = x := fun x => by simp [Stp.hide, pick]
  have hf : (s.imageTaken image).flt.hide 512 = s.flt.hide 512 := congrArg (fun x => x.flt) h
  have hs : (s.imageTaken image).stp.hide 512 = s.stp.hide 512 := congrArg (fun x => x.stp) h
  rw [kf, kf] at hf
  rw [ks, ks] at hs
  exact ⟨hf, hs⟩

/-! ### Processors (01 R31) -/

theorem getLsbD_one_shiftLeft : ∀ p q : Fin 7, (1#7 <<< p.val).getLsbD q.val = decide (q = p) := by decide

/-- The obligation's clause on processors: `p` enters service, every other keeps its bits. -/
theorem execProcessorReady_does (p : Fin 7) (s : State) (h : s.glb.ready = true) : Does (.processorReady p) s fun t =>
    t.glb.insvc.getLsbD p = true ∧ t.glb.heldRst.getLsbD p = false ∧
    (∀ q : Fin 7, q ≠ p → t.glb.insvc.getLsbD q = s.glb.insvc.getLsbD q ∧ t.glb.heldRst.getLsbD q = s.glb.heldRst.getLsbD q) := by
  refine ⟨_, congrArg Host.Outcome.next (if_pos h), ?_⟩
  have hg := fun u => glb_of_hide (State.serveHeads_frame _ (by decide) u)
  dsimp only
  rw [hg]
  refine ⟨?_, ?_, fun q hq => ⟨?_, ?_⟩⟩
  · simp only [BitVec.getLsbD_or, getLsbD_one_shiftLeft, decide_true, Bool.or_true]
  · simp only [BitVec.getLsbD_and, BitVec.getLsbD_not, getLsbD_one_shiftLeft, decide_true, Bool.not_true, Bool.and_false]
  · simp only [BitVec.getLsbD_or, getLsbD_one_shiftLeft, hq, decide_false, Bool.or_false]
  · simp only [BitVec.getLsbD_and, BitVec.getLsbD_not, getLsbD_one_shiftLeft, hq, q.isLt, decide_true, decide_false, Bool.not_false,
      Bool.and_true]

/-! ### The obligation -/

/-- Settles O16: a good image by `imageTaken_mem` and `bootEnd_eq`, a failed one by `unload_zero` and `bootFail_eq`. -/
theorem bootAndProcessors : Obligations.BootAndProcessors := by
  unfold Obligations.BootAndProcessors
  refine ⟨⟨?pass, ?fail, ?sfdp, ?noSfdp⟩, execProcessorReady_does⟩
  case pass =>
    intro image s hs hl hc
    have hb := State.imageTaken_boot image s
    have hi : (s.imageTaken image).boot.image = image := by rw [hb]
    have hflt := (State.imageTaken_flt_stp image s).1
    have hmem := fun p a k o ht hp ha hd hk hlast => State.imageTaken_mem (p := p) (a := a) (k := k) (o := o) hl ht hp ha hd hk hlast
    refine ⟨_, execBootLoadDone_eq hs hl, ?_⟩
    generalize s.imageTaken image = u at hi hflt hmem ⊢
    rw [State.bootEnd_eq, hi, if_neg (not_not.2 hc)]
    exact ⟨rfl, rfl, rfl, rfl, hflt, hmem⟩
  case fail =>
    intro image s hs hl hc hq
    have hi : (s.imageTaken image).boot.image = image := by rw [State.imageTaken_boot]
    have hb : (s.imageTaken image).withKeyZero.boot = { s.boot with image := image } :=
      (State.withKeyZero_boot _).trans (State.imageTaken_boot image s)
    have hf : (s.imageTaken image).withKeyZero.flt = s.flt := (State.withKeyZero_flt _).trans (State.imageTaken_flt_stp image s).1
    have hp : (s.imageTaken image).withKeyZero.stp = s.stp := (State.withKeyZero_stp _).trans (State.imageTaken_flt_stp image s).2
    have hg : (s.imageTaken image).withKeyZero.glb = s.glb := (State.withKeyZero_glb _).trans (State.imageTaken_glb image s)
    have h5 := imageCode_ne_five image
    refine ⟨_, execBootLoadDone_eq hs hl, ?_⟩
    rw [State.bootEnd_eq, hi, if_pos hc]
    generalize (s.imageTaken image).withKeyZero = v at hb hf hp hg ⊢
    have hv : v.boot.image = image := by rw [hb]
    have hn : v.now = s.now := by unfold State.now; rw [hp]
    rw [State.bootFail_glb, State.bootFail_boot, State.bootFail_bus, State.bootFail_queue (by rw [hf]; exact hq), hb, hf, hn]
    refine ⟨hg, rfl, fun h0 hd => ?_, fun hor => ?_, fun p a k o ht hp ha hd => ?_, rfl⟩
    · simp [Boot.failed, Boot.second, hs, h0, hd, h5]
    · have h2 : Boot.second { s.boot with image := image } (imageCode image) = false := by
        rcases hor with h | h
        · simp [Boot.second, h]
        · simp [Boot.second, Nat.not_le.2 h]
      simp [Boot.failed, h2]
    · rw [← hg] at hd
      rw [← hv] at ht hp ha
      exact State.unload_zero ht hp ha hd
  case sfdp =>
    intro x s hs h0
    exact ⟨_, congrArg Host.Outcome.next (if_pos (by simp [hs, h0])), rfl, rfl, rfl, rfl, rfl⟩
  case noSfdp =>
    intro s hs h0 hq
    have h2 : s.boot.second 5 = false := by simp [Boot.second]
    refine ⟨s.bootFail 5, congrArg Host.Outcome.next (if_pos (by simp [hs, h0])), ?_⟩
    dsimp only
    rw [State.bootFail_boot]
    exact ⟨by simp [Boot.failed, h2], rfl, State.bootFail_queue hq⟩

end Sys2Proof.Machine
end

section
/-! O25 fails. `State.visitEnds` asks of the ring `rrRing` itself whether its visit goes on, while `State.rrOrder` takes `rrRing`
modulo 64. Where `rrRing` is no ring of the 64, the visit ends although the ring in turn may proceed, and the turn passes on.
The statement is about every state, and such a state is one, although `State.grant` notes only rings whose turn it is. -/

namespace Sys2Proof.Machine

/-- A descriptor of no opcode of Table CM-2. -/
def unknownDesc : Desc := ⟨4, 0, 0, 0, 0, 0, 0, 0⟩

/-- CQ 5 and CQ 6 each have one descriptor to fetch, and complete on CC 5; the visit noted is to 69, which is 5 modulo 64. -/
def strayVisit : State :=
  { hif := { bme := true
             rings := [(5, { en := true, host := 1, bind := 5, size := 4 }), (6, { en := true, host := 1, bind := 5, size := 4 }),
                       (256 + 5, { en := true, size := 4 })] }
    ce := { rrRing := 69, rrLeft := 1 } }

theorem strayVisit_head (n : Nat) : (strayVisit.ring 0 n).head = none := by
  unfold State.ring strayVisit
  simp only [tget]
  split_ifs <;> rfl

/-- The turn of the statement is that of CQ 5. -/
theorem strayVisit_turn : (strayVisit.fetchHead 5 unknownDesc none).turn = some 5 := by decide

theorem strayVisit_verdict : (strayVisit.fetchHead 5 unknownDesc none).verdict 5 unknownDesc none = .refuse 0x05 0 := by
  decide

/-- The engine leaves the fetched descriptor at the head: it finds the turn to be that of CQ 6. -/
theorem strayVisit_dev : ((strayVisit.fetchHead 5 unknownDesc none).serve.ring 0 5).dev = 0 := by decide

/-- Refutes O25, in its clause on a refusal: in `strayVisit` the turn is that of CQ 5 and the verdict on its descriptor a refusal,
but the engine ends the stray visit first and serves CQ 6, so that the consumer index of CQ 5 does not pass the descriptor. -/
theorem not_descriptorOutcome : ¬ Obligations.DescriptorOutcome := by
  unfold Obligations.DescriptorOutcome
  rintro ⟨-, hrefuse⟩
  obtain ⟨t, ht, hdev, -⟩ := hrefuse 5 unknownDesc none strayVisit 0x05 0 (strayVisit_head 5) (by decide) (by decide) (by decide)
    strayVisit_turn (fun n _ => strayVisit_head n) strayVisit_verdict (by decide)
  cases ht
  exact absurd (strayVisit_dev.symm.trans hdev) (by decide)

end Sys2Proof.Machine
end

section
/-! O2, O3, O4, O6. Every command answers a next state, and a step keeps the state legal: only the frame boundary and the resets of the
whole device reach the story pole, and every other command keeps `State.Fit`. -/

namespace Sys2Proof.Machine

/-! ### Every command answers (assumption 1) -/

/-- No arm of `exec` faults or refuses. -/
theorem exec_completes (i : Instr) (s : State) : Completes i s := by cases i <;> exact ⟨_, rfl⟩

theorem exec_next (i : Instr) (s : State) : exec i s = .next (after1 (exec i) s) := by
  obtain ⟨t, ht⟩ := exec_completes i s
  rw [after1, ht]

theorem after1_of_next {f : State → Host.Outcome State Fault Refusal} {s t : State} (h : f s = .next t) : after1 f s = t := by
  rw [after1, h]

theorem step_of_pending_nil {s : State} (h : s.pending = []) : step s = .next s.tick := by rw [step, h]

theorem step_of_pending_cons {s : State} {i : Instr} {rest : List Instr} (h : s.pending = i :: rest) :
    step s = .next (after1 (exec i) { s with pending := rest }) := by rw [step, h]; exact exec_next i _

theorem tick_of_not_powered {s : State} (h : s.powered = false) : s.tick = s := by rw [State.tick, h]; rfl

/-- Settles O2: by `exec_completes`, and by the two cases of the queue. -/
theorem stepAnswers : Obligations.StepAnswers := by
  unfold Obligations.StepAnswers
  refine ⟨⟨exec_completes, fun s => ?_⟩, fun s hs => ⟨step_of_pending_nil hs, fun hp => ?_⟩⟩
  · cases h : s.pending with
    | nil => exact ⟨_, step_of_pending_nil h⟩
    | cons i rest => exact ⟨_, step_of_pending_cons h⟩
  · rw [step_of_pending_nil hs, tick_of_not_powered hp]

/-! ### The story pole (02 R35) -/

theorem pole_not_mem_reach (i : Instr) : movesPole i = false → Part.pole ∉ reach i := by cases i <;> simp [movesPole, reach]

/-- Settles O6: the story pole is in the reach of no command but those of `movesPole`. -/
theorem poleMoves : Obligations.PoleMoves := by
  unfold Obligations.PoleMoves
  intro i s t hi h
  obtain ⟨hframe, hphase, hsub, horigin⟩ := execFrame i s t h .pole (pole_not_mem_reach i hi)
  exact ⟨hframe.symm, hphase.symm, hsub.symm, horigin.symm⟩

/-! ### Legal states -/

/-- A command that leaves the story pole alone keeps the state legal where it keeps `Fit`. -/
theorem legal_of_fit {i : Instr} {s : State} (hi : movesPole i = false) (h : s.Legal) (hf : (after1 (exec i) s).Fit) :
    (after1 (exec i) s).Legal := by
  obtain ⟨-, hphase, hsub, -⟩ := poleMoves i s _ hi (exec_next i s)
  refine ⟨?_, hf⟩
  rw [State.PosOk, hphase, hsub]
  exact h.1

theorem exec_legal : ∀ (i : Instr) (s : State), s.Legal → (after1 (exec i) s).Legal
  | .powerOn st, s, h => State.release_legal st 0 _ (State.outside_reset_legal s h)
  | .resetN st, s, h => State.resetN_legal st s h
  | .warmChipRst st, s, h => execWarmChipRst_legal st s h
  | .powerLoss, s, h => State.outside_reset_legal s h
  | .frameBoundary x, s, h => by
    rw [after1_of_next (f := exec (.frameBoundary x)) (t := s.frameBoundary x) rfl]
    exact State.frameBoundary_legal x s h
  | .glbChipRstRequest .., _, h => legal_of_fit rfl h (execGlbChipRstRequest_fit _ _ h.2)
  | .perstN, _, h => legal_of_fit rfl h (execPerstN_fit _ h.2)
  | .flr, _, h => legal_of_fit rfl h (execFlr_fit _ h.2)
  | .busMasterEnable, _, h => legal_of_fit rfl h (execBusMasterEnable_fit _ h.2)
  | .busMasterDisable, _, h => legal_of_fit rfl h (execBusMasterDisable_fit _ h.2)
  | .d3hotEntry, _, h => legal_of_fit rfl h (execD3hotEntry_fit _ h.2)
  | .msixUnmask .., _, h => legal_of_fit rfl h (execMsixUnmask_fit _ _ h.2)
  | .storySecond .., _, h => legal_of_fit rfl h (execStorySecond_fit _ _ h.2)
  | .scrubWord .., _, h => legal_of_fit rfl h (execScrubWord_fit _ _ _ h.2)
  | .calibration, _, h => legal_of_fit rfl h (execCalibration_fit _ h.2)
  | .snapLatch, _, h => legal_of_fit rfl h (execSnapLatch_fit _ h.2)
  | .epochWrite .., _, h => legal_of_fit rfl h (execEpochWrite_fit _ _ h.2)
  | .secondOriginWrite .., _, h => legal_of_fit rfl h (execSecondOriginWrite_fit _ _ h.2)
  | .timerEnable .., _, h => legal_of_fit rfl h (execTimerEnable_fit _ _ _ h.2)
  | .timerArm .., _, h => legal_of_fit rfl h (execTimerArm_fit _ _ h.2)
  | .timerDisarm .., _, h => legal_of_fit rfl h (execTimerDisarm_fit _ _ h.2)
  | .tmrFire .., _, h => legal_of_fit rfl h (execTmrFire_fit _ _ h.2)
  | .refoutEnable .., _, h => legal_of_fit rfl h (execRefoutEnable_fit _ _ _ h.2)
  | .refDisq .., _, h => legal_of_fit rfl h (execRefDisq_fit _ _ _ h.2)
  | .refQual .., _, h => legal_of_fit rfl h (execRefQual_fit _ _ _ h.2)
  | .dpllLock, _, h => legal_of_fit rfl h (execDpllLock_fit _ h.2)
  | .holdReady, _, h => legal_of_fit rfl h (execHoldReady_fit _ h.2)
  | .oscFail, _, h => legal_of_fit rfl h (execOscFail_fit _ h.2)
  | .oscSelect, _, h => legal_of_fit rfl h (execOscSelect_fit _ h.2)
  | .portCfgWrite .., _, h => legal_of_fit rfl h (execPortCfgWrite_fit _ _ _ h.2)
  | .txOffsetWrite .., _, h => legal_of_fit rfl h (execTxOffsetWrite_fit _ _ _ h.2)
  | .txLineFrame .., _, h => legal_of_fit rfl h (execTxLineFrame_fit _ _ _ h.2)
  | .rxLineFrame .., _, h => legal_of_fit rfl h (execRxLineFrame_fit _ _ _ h.2)
  | .lofL .., _, h => legal_of_fit rfl h (execLofL_fit _ _ h.2)
  | .losL .., _, h => legal_of_fit rfl h (execLosL_fit _ _ _ h.2)
  | .serdesLol .., _, h => legal_of_fit rfl h (execSerdesLol_fit _ _ _ h.2)
  | .hopStructWrite .., _, h => legal_of_fit rfl h (execHopStructWrite_fit _ _ _ _ h.2)
  | .traceNew .., _, h => legal_of_fit rfl h (execTraceNew_fit _ _ _ h.2)
  | .rxTribFrame .., _, h => legal_of_fit rfl h (execRxTribFrame_fit _ _ _ h.2)
  | .crc4None .., _, h => legal_of_fit rfl h (execCrc4None_fit _ _ h.2)
  | .sigHoldoffExpiry .., _, h => legal_of_fit rfl h (execSigHoldoffExpiry_fit _ _ h.2)
  | .hwyCfgWrite .., _, h => legal_of_fit rfl h (execHwyCfgWrite_fit _ _ _ h.2)
  | .hwyFrameSync .., _, h => legal_of_fit rfl h (execHwyFrameSync_fit _ _ _ _ h.2)
  | .hwyFsLoss .., _, h => legal_of_fit rfl h (execHwyFsLoss_fit _ _ h.2)
  | .copybackDone .., _, h => legal_of_fit rfl h (execCopybackDone_fit _ _ h.2)
  | .lanePass, _, h => legal_of_fit rfl h (execLanePass_fit _ h.2)
  | .collectorWindow .., _, h => legal_of_fit rfl h (execCollectorWindow_fit _ _ h.2)
  | .speakerHoldoffExpiry .., _, h => legal_of_fit rfl h (execSpeakerHoldoffExpiry_fit _ _ h.2)
  | .selectorDecision .., _, h => legal_of_fit rfl h (execSelectorDecision_fit _ _ _ h.2)
  | .holdoffExpiry .., _, h => legal_of_fit rfl h (execHoldoffExpiry_fit _ _ _ _ h.2)
  | .wtrExpiry .., _, h => legal_of_fit rfl h (execWtrExpiry_fit _ _ _ h.2)
  | .protSw .., _, h => legal_of_fit rfl h (execProtSw_fit _ _ _ h.2)
  | .k1Protocol .., _, h => legal_of_fit rfl h (execK1Protocol_fit _ _ h.2)
  | .protExer .., _, h => legal_of_fit rfl h (execProtExer_fit _ _ h.2)
  | .doorbellWrite .., _, h => legal_of_fit rfl h (execDoorbellWrite_fit _ _ _ _ h.2)
  | .descriptorAdmission .., _, h => legal_of_fit rfl h (execDescriptorAdmission_fit _ _ _ _ h.2)
  | .consumerIndexWriteback .., _, h => legal_of_fit rfl h (execConsumerIndexWriteback_fit _ _ _ h.2)
  | .completionWrite .., _, h => legal_of_fit rfl h (execCompletionWrite_fit _ _ h.2)
  | .ceStall .., _, h => legal_of_fit rfl h (execCeStall_fit _ _ h.2)
  | .ringEnable .., _, h => legal_of_fit rfl h (execRingEnable_fit _ _ _ _ h.2)
  | .ringDisable .., _, h => legal_of_fit rfl h (execRingDisable_fit _ _ _ h.2)
  | .ringReset .., _, h => legal_of_fit rfl h (execRingReset_fit _ _ _ h.2)
  | .hifCplTo .., _, h => legal_of_fit rfl h (execHifCplTo_fit _ _ _ _ h.2)
  | .nop .., _, h => legal_of_fit rfl h (execNop_fit _ _ h.2)
  | .fence .., _, h => legal_of_fit rfl h (execFence_fit _ _ h.2)
  | .fenceAll .., _, h => legal_of_fit rfl h (execFenceAll_fit _ _ h.2)
  | .echo .., _, h => legal_of_fit rfl h (execEcho_fit _ _ _ h.2)
  | .tswSet .., _, h => legal_of_fit rfl h (execTswSet_fit _ _ _ h.2)
  | .tswFill .., _, h => legal_of_fit rfl h (execTswFill_fit _ _ _ h.2)
  | .tswPatch .., _, h => legal_of_fit rfl h (execTswPatch_fit _ _ _ h.2)
  | .tswRead .., _, h => legal_of_fit rfl h (execTswRead_fit _ _ _ h.2)
  | .fabricCommit .., _, h => legal_of_fit rfl h (execFabricCommit_fit _ _ h.2)
  | .xcSet .., _, h => legal_of_fit rfl h (execXcSet_fit _ _ _ h.2)
  | .lomapSet .., _, h => legal_of_fit rfl h (execLomapSet_fit _ _ _ _ _ h.2)
  | .tribCfg .., _, h => legal_of_fit rfl h (execTribCfg_fit _ _ _ _ h.2)
  | .sigSet .., _, h => legal_of_fit rfl h (execSigSet_fit _ _ _ h.2)
  | .cnfCreate .., _, h => legal_of_fit rfl h (execCnfCreate_fit _ _ _ _ h.2)
  | .cnfJoin .., _, h => legal_of_fit rfl h (execCnfJoin_fit _ _ _ _ h.2)
  | .cnfLeave .., _, h => legal_of_fit rfl h (execCnfLeave_fit _ _ _ h.2)
  | .cnfModify .., _, h => legal_of_fit rfl h (execCnfModify_fit _ _ _ h.2)
  | .cnfDestroy .., _, h => legal_of_fit rfl h (execCnfDestroy_fit _ _ _ h.2)
  | .cnfQuery .., _, h => legal_of_fit rfl h (execCnfQuery_fit _ _ _ _ h.2)
  | .toneLoad .., _, h => legal_of_fit rfl h (execToneLoad_fit _ _ _ _ h.2)
  | .protGroup .., _, h => legal_of_fit rfl h (execProtGroup_fit _ _ _ h.2)
  | .protCmd .., _, h => legal_of_fit rfl h (execProtCmd_fit _ _ _ _ _ h.2)
  | .protQuery .., _, h => legal_of_fit rfl h (execProtQuery_fit _ _ _ _ _ h.2)
  | .traceSet .., _, h => legal_of_fit rfl h (execTraceSet_fit _ _ _ h.2)
  | .traceRead .., _, h => legal_of_fit rfl h (execTraceRead_fit _ _ _ _ _ h.2)
  | .ohSet .., _, h => legal_of_fit rfl h (execOhSet_fit _ _ _ _ _ h.2)
  | .streamOpen .., _, h => legal_of_fit rfl h (execStreamOpen_fit _ _ _ h.2)
  | .streamClose .., _, h => legal_of_fit rfl h (execStreamClose_fit _ _ _ _ _ h.2)
  | .streamFlush .., _, h => legal_of_fit rfl h (execStreamFlush_fit _ _ _ _ _ h.2)
  | .gfpOpen .., _, h => legal_of_fit rfl h (execGfpOpen_fit _ _ _ h.2)
  | .gfpClose .., _, h => legal_of_fit rfl h (execGfpClose_fit _ _ _ _ _ h.2)
  | .gfpFlush .., _, h => legal_of_fit rfl h (execGfpFlush_fit _ _ _ _ _ h.2)
  | .keyLoad .., _, h => legal_of_fit rfl h (execKeyLoad_fit _ _ _ _ _ h.2)
  | .keyErase .., _, h => legal_of_fit rfl h (execKeyErase_fit _ _ _ h.2)
  | .dccAuthCfg .., _, h => legal_of_fit rfl h (execDccAuthCfg_fit _ _ _ h.2)
  | .resClaim .., _, h => legal_of_fit rfl h (execResClaim_fit _ _ _ _ _ h.2)
  | .resRelease .., _, h => legal_of_fit rfl h (execResRelease_fit _ _ _ _ h.2)
  | .pmCfg .., _, h => legal_of_fit rfl h (execPmCfg_fit _ _ _ _ _ h.2)
  | .voiceBlockArrival .., _, h => legal_of_fit rfl h (execVoiceBlockArrival_fit _ _ _ _ h.2)
  | .voiceBlockWrite .., _, h => legal_of_fit rfl h (execVoiceBlockWrite_fit _ _ _ h.2)
  | .qptr .., _, h => legal_of_fit rfl h (execQptr_fit _ _ h.2)
  | .gfpTxFrame .., _, h => legal_of_fit rfl h (execGfpTxFrame_fit _ _ _ _ h.2)
  | .gfpRxHeader .., _, h => legal_of_fit rfl h (execGfpRxHeader_fit _ _ _ _ h.2)
  | .dccTxFrame .., _, h => legal_of_fit rfl h (execDccTxFrame_fit _ _ _ h.2)
  | .dccRxFrame .., _, h => legal_of_fit rfl h (execDccRxFrame_fit _ _ _ _ h.2)
  | .cmacDone .., _, h => legal_of_fit rfl h (execCmacDone_fit _ _ h.2)
  | .leaseExpiry .., _, h => legal_of_fit rfl h (execLeaseExpiry_fit _ _ h.2)
  | .resourceRegisterClaim .., _, h => legal_of_fit rfl h (execResourceRegisterClaim_fit _ _ _ h.2)
  | .captureEdge .., _, h => legal_of_fit rfl h (execCaptureEdge_fit _ _ _ h.2)
  | .captDataRead .., _, h => legal_of_fit rfl h (execCaptDataRead_fit _ _ h.2)
  | .pmPartWrite .., _, h => legal_of_fit rfl h (execPmPartWrite_fit _ _ h.2)
  | .pmcSnap, _, h => legal_of_fit rfl h (execPmcSnap_fit _ h.2)
  | .pmcFreeze .., _, h => legal_of_fit rfl h (execPmcFreeze_fit _ _ h.2)
  | .pmcPreset .., _, h => legal_of_fit rfl h (execPmcPreset_fit _ _ _ h.2)
  | .pmcOvf .., _, h => legal_of_fit rfl h (execPmcOvf_fit _ _ h.2)
  | .legacySense, _, h => legal_of_fit rfl h (execLegacySense_fit _ h.2)
  | .legacyCal, _, h => legal_of_fit rfl h (execLegacyCal_fit _ h.2)
  | .legacyScrubReport, _, h => legal_of_fit rfl h (execLegacyScrubReport_fit _ h.2)
  | .legacyDone .., _, h => legal_of_fit rfl h (execLegacyDone_fit _ _ h.2)
  | .svcModeWrite .., _, h => legal_of_fit rfl h (execSvcModeWrite_fit _ _ h.2)
  | .logMarkWrite .., _, h => legal_of_fit rfl h (execLogMarkWrite_fit _ _ h.2)
  | .logRidxWrite .., _, h => legal_of_fit rfl h (execLogRidxWrite_fit _ _ h.2)
  | .logCfgWrite .., _, h => legal_of_fit rfl h (execLogCfgWrite_fit _ _ h.2)
  | .collectorTake, _, h => legal_of_fit rfl h (execCollectorTake_fit _ h.2)
  | .nmiReturn .., _, h => legal_of_fit rfl h (execNmiReturn_fit _ _ h.2)
  | .processorReady .., _, h => legal_of_fit rfl h (execProcessorReady_fit _ _ h.2)
  | .errPinAssert, _, h => legal_of_fit rfl h (execErrPinAssert_fit _ h.2)
  | .errPinRelease, _, h => legal_of_fit rfl h (execErrPinRelease_fit _ h.2)
  | .errPinWidthExpiry, _, h => legal_of_fit rfl h (execErrPinWidthExpiry_fit _ h.2)
  | .firstClr, _, h => legal_of_fit rfl h (execFirstClr_fit _ h.2)
  | .firstClrFatal, _, h => legal_of_fit rfl h (execFirstClrFatal_fit _ h.2)
  | .reactionWrite .., _, h => legal_of_fit rfl h (execReactionWrite_fit _ _ h.2)
  | .injUnlock .., _, h => legal_of_fit rfl h (execInjUnlock_fit _ _ h.2)
  | .injGo .., _, h => legal_of_fit rfl h (execInjGo_fit _ _ h.2)
  | .pfail, _, h => legal_of_fit rfl h (execPfail_fit _ h.2)
  | .pfailClear, _, h => legal_of_fit rfl h (execPfailClear_fit _ h.2)
  | .procWdt .., _, h => legal_of_fit rfl h (execProcWdt_fit _ _ h.2)
  | .procExc .., _, h => legal_of_fit rfl h (execProcExc_fit _ _ _ h.2)
  | .clkLol .., _, h => legal_of_fit rfl h (execClkLol_fit _ _ h.2)
  | .grantWdt .., _, h => legal_of_fit rfl h (execGrantWdt_fit _ _ _ h.2)
  | .busCommit, _, h => legal_of_fit rfl h (execBusCommit_fit _ h.2)
  | .busFreezeWrite .., _, h => legal_of_fit rfl h (execBusFreezeWrite_fit _ _ h.2)
  | .bootLoadDone .., _, h => legal_of_fit rfl h (execBootLoadDone_fit _ _ h.2)
  | .bootPushData .., _, h => legal_of_fit rfl h (execBootPushData_fit _ _ h.2)
  | .bootPushTail .., _, h => legal_of_fit rfl h (execBootPushTail_fit _ _ h.2)
  | .bootPushEnd, _, h => legal_of_fit rfl h (execBootPushEnd_fit _ h.2)
  | .i2cTransaction .., _, h => legal_of_fit rfl h (execI2cTransaction_fit _ _ h.2)
  | .registerWrite .., _, h => legal_of_fit rfl h (execRegisterWrite_fit _ _ _ _ h.2)
  | .serdesLock .., _, h => legal_of_fit rfl h (execSerdesLock_fit _ _ _ h.2)
  | .sfdpDiscovery .., _, h => legal_of_fit rfl h (execSfdpDiscovery_fit _ _ h.2)
  | .linkUp .., _, h => legal_of_fit rfl h (execLinkUp_fit _ _ _ _ h.2)
  | .d0Entry, _, h => legal_of_fit rfl h (execD0Entry_fit _ h.2)
  | .i2cIdleTimeout, _, h => legal_of_fit rfl h (execI2cIdleTimeout_fit _ h.2)

/-- Settles O4: `exec_legal` for the command at the front, `State.tick_legal` on an empty queue. -/
theorem stepKeepsLegal : Obligations.StepKeepsLegal := by
  unfold Obligations.StepKeepsLegal
  intro s t hs hst
  cases h : s.pending with
  | nil =>
    rw [step_of_pending_nil h] at hst
    cases hst
    exact State.tick_legal s hs
  | cons i rest =>
    rw [step_of_pending_cons h] at hst
    cases hst
    exact exec_legal i _ hs

/-- Settles O3: at reset the story pole is at 0:0000, and host memory, the collector's queue and the due table are empty. -/
theorem resetLegal : Obligations.ResetLegal := by
  unfold Obligations.ResetLegal
  refine ⟨⟨posOk_zero rfl rfl, rfl, Nat.zero_le _⟩, ⟨?_, List.nodup_nil⟩, rfl, rfl, rfl, rfl⟩
  exact fun d hd => absurd hd List.not_mem_nil

end Sys2Proof.Machine
end

section
/-! O27 fails. Its clauses on a frame boundary ask that no two entries share a place in the order of admission, and not, as
`State.DueOk` does, that the next place lies behind every entry's. In a state of the kind that no admission leaves, where the next
place is taken, a FENCE admitted at the boundary gets the place of a waiting command, and the fence's completion takes out both. -/

namespace Sys2Proof.Machine

/-- A NOP of CQ 1 that waits for frame 5, at place 0 in the order of admission. -/
def waitingNop : Due :=
  { entry := 0, seq := 0, ring := 1, cc := 0, index := 0, tag := 7, int := false, nocomp := false, asap := false, boundary := 5,
    noBoundary := false, cmd := .nop }

def fenceDesc : Desc := ⟨0x00000001, 0, 0, 0, 0, 0, 0, 0⟩

/-- The next place in the order of admission is 0, which `waitingNop` has; CQ 0 has fetched a FENCE. -/
def takenPlace : State :=
  { hif := { bme := true, rings := [(0, { en := true, host := 1, head := some (fenceDesc, none) }), (256, { en := true, size := 4 })] }
    ce := { due := [waitingNop], seq := 0 } }

def quietFrame : FrameInputs := { upsets := [], late := [], ports := [], cntFault := false, phaseErr := 0 }

theorem exec_frameBoundary (i : FrameInputs) (s : State) : exec (.frameBoundary i) s = .next (s.frameBoundary i) := rfl

theorem parse_fenceDesc : parse fenceDesc none = .ok .fence := by decide

/-- The boundary admits the FENCE, completes it, and leaves no entry. -/
theorem takenPlace_frameBoundary_due : (takenPlace.frameBoundary quietFrame).ce.due = [] := by decide +kernel

/-- Refutes O27, in its clause on a boundary without an epoch: in `takenPlace` the command due at frame 5 is gone after the boundary
of frame 1. -/
theorem not_neverLate : ¬ Obligations.NeverLate := by
  unfold Obligations.NeverLate
  rintro ⟨-, -, hstays, -⟩
  obtain ⟨t, ht, hkept⟩ := hstays quietFrame takenPlace rfl (List.nodup_singleton _)
  obtain ⟨e, he, -⟩ := hkept waitingNop (List.mem_singleton.2 rfl) rfl (by decide)
  rw [exec_frameBoundary] at ht
  rw [← Host.Outcome.next.inj ht, takenPlace_frameBoundary_due] at he
  exact List.not_mem_nil he

end Sys2Proof.Machine
end

section
/-! O9 fails. The owner codes of its clauses are sums of a literal and the operand, which Lean takes in the operand's own type: the
statement's `0x0200 + n` is a sum in `Fin 16`, that is `n` itself, and not the code of timer `n` (14 R393, Table SE-2). -/

namespace Sys2Proof.Machine

/-- EN of STP.TMR_CFG, the other fields 0. -/
def tmrEn : Word := 0x80000000

/-- After reset a write of EN = 1 claims timer 0 for the owner with code 0x0200. -/
theorem timerEnable_reset_owner :
    ((after1 (exec (.timerEnable 0 tmrEn)) State.reset).res (resKey 1 0)).owner = some 0x0200 := by decide

/-- Refutes O9, in its clause on EN = 1 of a free timer: after reset it asks that timer 0 be owned by code 0, and the owner is
0x0200. -/
theorem not_timersAndRefouts : ¬ Obligations.TimersAndRefouts := by
  unfold Obligations.TimersAndRefouts
  rintro ⟨-, ⟨-, hclaim, -⟩, -⟩
  obtain ⟨t, ht, -, -, howner⟩ := hclaim 0 tmrEn State.reset (by decide) (by decide) (by decide) rfl rfl rfl rfl
  have hcode := timerEnable_reset_owner
  rw [after1, ht] at hcode
  exact absurd (hcode.symm.trans howner) (by decide)

end Sys2Proof.Machine
end

section
/-! O12. Power-on, RESET_N and power loss: the release from a reset, once for each boot source. -/

namespace Sys2Proof.Machine

/-- A message touches the collector's queue and the count of lost ones alone. -/
theorem State.raise_inbox (k : Kind) (src addr data : Nat) (s : State) :
    ∃ q l, s.raise k src addr data = { s with flt := { s.flt with queue := q, lost := l } } := by
  unfold State.raise State.post
  dsimp only
  split_ifs
  · exact ⟨_, _, rfl⟩
  · exact ⟨_, _, rfl⟩
  · exact ⟨_, _, rfl⟩

theorem State.raise_boot (k : Kind) (src addr data : Nat) (s : State) : (s.raise k src addr data).boot = s.boot :=
  boot_of_hide (State.raise_frame _ (by decide) _ _ _ _ _)

/-- The state that SP starts from after a reset (15 R408, R416; 16 R420). -/
def State.started (st : Straps) (last : Nat) (s : State) : State :=
  let b := st.bootSrc.val
  { s with glb := { s.glb with straps := st, last := last }
           flt := { s.flt with test := if last ≤ 1 then st.testMode else s.flt.test }
           boot := { s.boot with src := b, stage := if b = 1 then 4 else if b = 3 then 15 else 0, fail := if b = 3 then 7 else 0 } }

theorem State.release_of_bootSrc_ne {st : Straps} (h : st.bootSrc ≠ 3) (last : Nat) (s : State) : s.release st last = s.started st last :=
  if_neg fun h3 => h (Fin.ext h3)

theorem State.release_of_bootSrc_eq {st : Straps} (h : st.bootSrc = 3) (last : Nat) (s : State) :
    s.release st last = (s.started st last).raise .bootFail 0x187 0 7 :=
  if_pos (congrArg Fin.val h)

/-- Beyond the start of SP a release sends at most a message. -/
theorem State.release_inbox (st : Straps) (last : Nat) (s : State) :
    ∃ q l, s.release st last = { s.started st last with flt := { (s.started st last).flt with queue := q, lost := l } } := by
  by_cases h : st.bootSrc = 3
  · rw [State.release_of_bootSrc_eq h]
    exact State.raise_inbox ..
  · rw [State.release_of_bootSrc_ne h]
    exact ⟨_, _, rfl⟩

/-- Settles O12: the fields that no message reaches by `State.release_inbox`, the messages by the boot source. -/
theorem powerAndResetN : Obligations.PowerAndResetN := by
  unfold Obligations.PowerAndResetN
  refine ⟨⟨?on, ?resetN, ?reserved⟩, fun s => rfl, ?lost⟩
  case on =>
    intro st s
    obtain ⟨q, l, h⟩ := State.release_inbox st 0 (s.outside State.reset)
    refine ⟨_, congrArg Host.Outcome.next h, rfl, rfl, rfl, rfl, rfl, rfl, rfl, rfl, rfl, rfl, rfl, rfl, rfl, rfl, rfl, rfl, fun hb => ?_⟩
    exact congrArg State.flt (h.symm.trans (State.release_of_bootSrc_ne hb 0 _))
  case resetN =>
    intro st s
    obtain ⟨q, l, h⟩ := State.release_inbox st 1 { s.outside State.reset with
      flt := { (s.outside State.reset).flt with fatal := s.flt.fatal, firstFatal := s.flt.firstFatal } }
    refine ⟨_, congrArg Host.Outcome.next h, rfl, rfl, rfl, rfl, rfl, rfl, rfl, rfl, rfl, rfl, rfl, rfl, rfl, rfl, rfl, fun hb => ?_⟩
    exact congrArg State.flt (h.symm.trans (State.release_of_bootSrc_ne hb 1 _))
  case reserved =>
    intro st s h
    have hb : st.bootSrc.val = 3 := congrArg Fin.val h
    refine ⟨_, congrArg Host.Outcome.next (State.release_of_bootSrc_eq h 0 _), ?_, ?_, State.raise_queue rfl (Nat.succ_pos 63)⟩
    · rw [State.raise_boot]
      simp [State.started, hb]
    · rw [State.raise_boot]
      simp [State.started, hb]
  case lost =>
    intro s hs
    refine ⟨_, rfl, Eq.trans (step_of_pending_nil (s := { s.outside State.reset with powered := false }) hs) ?_⟩
    rw [tick_of_not_powered rfl]

end Sys2Proof.Machine
end

section
/-! O10. Oscillator failure and selection, DPLL lock and holdover. -/

namespace Sys2Proof.Machine

/-! ### Messages -/

@[simp] theorem State.raise_stp (k : Kind) (src addr data : Nat) (s : State) : (s.raise k src addr data).stp = s.stp := by
  obtain ⟨f, h⟩ := State.raise_withFlt k src addr data s
  rw [h]

/-- A source outside the processors is never in reset. -/
theorem State.srcInReset_of_lt {s : State} {src : Nat} (h : src < 0x160) : s.srcInReset src = false := by
  simp [State.srcInReset, Nat.not_le.2 h]

theorem mem_insertMsg {m x : Msg} {l : List Msg} : x ∈ insertMsg m l ↔ x = m ∨ x ∈ l := by
  induction l with
  | nil => exact List.mem_singleton.trans (by simp)
  | cons y r ih =>
    unfold insertMsg
    split
    · exact List.mem_cons
    · rw [List.mem_cons, List.mem_cons, ih]
      tauto

/-- A message with a place free keeps every one that waits. -/
theorem State.mem_raise_queue {k : Kind} {src addr data : Nat} {s : State} {x : Msg} (hq : s.flt.queue.length < 64)
    (hx : x ∈ s.flt.queue) : x ∈ (s.raise k src addr data).flt.queue := by
  by_cases h : s.srcInReset src = true
  · rw [State.raise, if_pos h]
    exact hx
  · rw [State.raise_queue (Bool.eq_false_iff.2 h) hq]
    exact mem_insertMsg.2 (.inr hx)

/-! ### The clock's QL -/

theorem State.qlUpdate_dpll (s : State) : s.qlUpdate.stp.dpll = s.stp.dpll ∧ s.qlUpdate.stp.holdReady = s.stp.holdReady := by
  unfold State.qlUpdate
  split
  · exact ⟨rfl, rfl⟩
  · rw [State.raise_stp]
    exact ⟨rfl, rfl⟩

theorem State.mem_qlUpdate_queue {s : State} {x : Msg} (hq : s.flt.queue.length < 64) (hx : x ∈ s.flt.queue) : x ∈ s.qlUpdate.flt.queue := by
  unfold State.qlUpdate
  split
  · exact hx
  · exact State.mem_raise_queue hq hx

/-! ### HOLDOVER (R49) -/

theorem State.enterHoldover_stp (s : State) : s.enterHoldover.stp = { s.stp with dpll := 3, lockFrames := 0, acqFrames := 0 } :=
  State.raise_stp ..

theorem State.enterHoldover_queue {s : State} (hq : s.flt.queue.length < 64) : s.enterHoldover.flt.queue =
    insertMsg { source := 0x131, kind := 0x15, cls := 3, addr := 0, data := 0, at_ := s.now } s.flt.queue :=
  State.raise_queue (State.srcInReset_of_lt (by decide)) hq

/-- The message of HOLDOVER waits also behind a change of QL. -/
theorem State.mem_enterHoldover_qlUpdate {s : State} (hq : s.flt.queue.length < 63) :
    ({ source := 0x131, kind := 0x15, cls := 3, addr := 0, data := 0, at_ := s.now } : Msg) ∈ s.enterHoldover.qlUpdate.flt.queue := by
  have h := State.enterHoldover_queue (Nat.lt_succ_of_lt hq)
  refine State.mem_qlUpdate_queue ?_ ?_
  · rw [h, insertMsg_length]
    exact Nat.succ_lt_succ hq
  · rw [h]
    exact mem_insertMsg.2 (.inl rfl)


/-- HOLD_READY upon which a waiting HOLD_FORCE enters HOLDOVER (R49). -/
theorem execHoldReady_forced {s : State} (hd : s.stp.dpll = 2) (hl : 800000 ≤ s.stp.lockFrames) (hr : s.stp.holdReady = false)
    (hf : s.holdForce = true) : execHoldReady s = .next
      (whenS (decide (s.inFrame = 0)) (fun s => (s.refoutBoundary 0).refoutBoundary 1)
        ({ s with stp := { s.stp with holdReady := true } } : State).enterHoldover.qlUpdate) := by
  unfold execHoldReady
  rw [if_pos (by simp [hd, hl, hr])]
  exact congrArg Host.Outcome.next (if_pos hf)

/-! ### The obligation -/

/-- Settles O10: each clause is the arm of its row under the conditions of the clause; HOLDOVER's message by `mem_insertMsg`. -/
theorem dpllEvents : Obligations.DpllEvents := by
  unfold Obligations.DpllEvents
  refine ⟨fun s h => ?oscFail, fun s => ?oscSel, fun s hd ha => ?lock, fun s hd hl hr hf => ?ready, fun s hd hl hr hf => ?holdover⟩
  case oscFail => exact congrArg Host.Outcome.next (if_neg (by simp [h]))
  case oscSel =>
    have hbit : wbit (s.reg 0x102C ||| 4#32) 2 = true := by simp [wbit]
    have hmask : (regMask 0x102C).getLsbD 2 = true := by decide
    refine ⟨_, congrArg Host.Outcome.next (if_pos hbit), rfl, rfl, ?_⟩
    show wbit ((s.regWrite 0x102C (s.reg 0x102C ||| 4#32)).reg 0x102C) 2 = true
    rw [State.regWrite, State.setReg_get]
    simp [wbit, hmask]
  case lock => exact congrArg Host.Outcome.next (if_pos (by simp [hd, ha]))
  case ready =>
    show execHoldReady s = _
    unfold execHoldReady
    rw [if_pos (by simp [hd, hl, hr])]
    exact congrArg Host.Outcome.next (if_neg (by rw [Bool.not_eq_true]; exact hf))
  case holdover =>
    refine ⟨_, execHoldReady_forced hd hl hr hf, ?_⟩
    set u : State := { s with stp := { s.stp with holdReady := true } }
    have hstp := State.enterHoldover_stp u
    obtain ⟨hdpll, hready⟩ := State.qlUpdate_dpll u.enterHoldover
    rw [hstp] at hdpll hready
    have hmem := State.mem_enterHoldover_qlUpdate (s := u)
    unfold whenS
    split
    · exact ⟨hdpll, hready, hmem⟩
    · exact ⟨hdpll, hready, hmem⟩

end Sys2Proof.Machine
end

section
/-! O8, O11. The frame boundary as the story pole and the clock see it: the end of a frame, the count, the settings that take force,
the clock; nothing after the clock reaches either. -/

namespace Sys2Proof.Machine

/-! ### The stages of a boundary -/

/-- What leaves the story pole, the timers, the clock and the rest of STP leaves STP. -/
theorem stp_of_hide {s t : State} (h : t.hide 35183868772351 = s.hide 35183868772351) : t.stp = s.stp := by
  have key : ∀ x : Stp, x.hide 35183868772351 = x := fun x => by simp [Stp.hide, pick]
  have h0 : t.stp.hide 35183868772351 = s.stp.hide 35183868772351 := congrArg (fun x => x.stp) h
  rwa [key, key] at h0

/-- A boundary's work between the count and the settings: `s` is the state after the count. -/
def State.boundaryWork (s : State) : State :=
  let t := s.tswTurn.confTurn.protTick.copyTicks.leasesOn
  s.cnfChanges { t with tsw := { t.tsw with chgApplied := 0, patApplied := 0 }, glb := { t.glb with svc := t.rb 0x000C 0 } }.dueWork

/-- A boundary up to the clock. -/
def State.clockDue (i : FrameInputs) (s : State) : State := (s.frameEnd i).countOn.settings (s.frameEnd i).countOn.boundaryWork

/-- A boundary after the clock. -/
def State.clockDone (i : FrameInputs) (s : State) : State := ((s.dataFrame.addUpsets i.late).lateErrors i.late).frameRest

theorem State.frameBoundary_eq (i : FrameInputs) (s : State) : s.frameBoundary i = ((s.clockDue i).clocks i.phaseErr).clockDone i := rfl

theorem State.clockDone_stp (i : FrameInputs) (s : State) : (s.clockDone i).stp = s.stp := by
  refine stp_of_hide ?_
  unfold State.clockDone
  simp only [State.frameRest_frame, State.lateErrors_frame, State.addUpsets_frame, State.dataFrame_frame, Nat.reduceAnd]

theorem State.boundaryWork_stp (s : State) : s.boundaryWork.stp = s.stp := by
  refine stp_of_hide ?_
  unfold State.boundaryWork
  simp only [State.cnfChanges_frame, State.dueWork_frame, State.leasesOn_frame, State.copyTicks_frame, State.protTick_frame,
    State.confTurn_frame, State.tswTurn_frame, Nat.reduceAnd, mk_leaf, State.hideU, Ce.hide, Glb.hide, Flt.hide, Hif.hide, Sec.hide,
    Stp.hide, pick, Nat.reduceEqDiff, reduceIte]

/-! ### Settings that take force (01 R12, R13) -/

theorem State.ofsBoundary_stp (s : State) : ∃ l, s.ofsBoundary.stp = { s.stp with lgOfs := l } := by
  refine ⟨(List.range 8).foldl (fun t g => tset 0 t g (s.rf (0x1100 + 4 * g) 0 12)) [], ?_⟩
  refine (foldS_keeps State.stp _ _ (fun n u => stp_of_hide ?_) _).trans rfl
  simp only [State.modPort_frame, Nat.reduceAnd, hide_ite, ite_self]

/-- Of STP the settings reach the words in force alone. -/
theorem State.settings_stp (old s : State) : ∃ h l, (old.settings s).stp = { s.stp with held := h, lgOfs := l } := by
  unfold State.settings
  dsimp only
  generalize hu : old.xcFollow _ = u
  have hstp : u.stp = s.stp := by
    rw [← hu]
    refine stp_of_hide ?_
    simp only [State.xcFollow_frame, State.structBoundary_frame, Nat.reduceAnd, mk_leaf, State.hideU, Ce.hide, Glb.hide, Flt.hide,
      Hif.hide, Sec.hide, Stp.hide, pick, Nat.reduceEqDiff, reduceIte]
  obtain ⟨l, hl⟩ := State.ofsBoundary_stp (foldS (List.range 32) (fun n (s : State) => s.enBoundary n) u.stpHold)
  rw [foldS_keeps State.stp _ _ fun n v => stp_of_hide (State.hwyApply_frame _ (by decide) n v), hl,
    foldS_keeps State.stp _ _ fun n v => stp_of_hide (State.enBoundary_frame _ (by decide) n v)]
  exact ⟨_, l, by rw [State.stpHold, hstp]⟩

theorem State.clockDue_stp (i : FrameInputs) (s : State) :
    ∃ h l, (s.clockDue i).stp = { (s.frameEnd i).countOn.stp with held := h, lgOfs := l } := by
  obtain ⟨h, l, hs⟩ := State.settings_stp (s.frameEnd i).countOn (s.frameEnd i).countOn.boundaryWork
  exact ⟨h, l, by rw [State.clockDue, hs, State.boundaryWork_stp]⟩

/-! ### The clock (02 R43-R54) -/

/-- What the clock leaves of STP once a candidate is selected. -/
def Stp.kept (x : Stp) : Option (Fin 8) × Tab RefState × Tab Word × Option Word × Option Word × Bool :=
  (x.sel, x.refs, x.held, x.epoch, x.originNew, x.atSecond)

theorem State.enterFreerun_kept (s : State) : s.enterFreerun.stp.kept = s.stp.kept :=
  (congrArg Stp.kept (State.raise_stp ..)).trans rfl

theorem State.enterHoldover_kept (s : State) : s.enterHoldover.stp.kept = s.stp.kept :=
  (congrArg Stp.kept (State.raise_stp ..)).trans rfl

theorem State.dpllBoundary_kept (e : Int) (s : State) : (s.dpllBoundary e).stp.kept = s.stp.kept := by
  unfold State.dpllBoundary
  dsimp only
  split
  · split
    · rfl
    · rfl
  split
  · split
    · rfl
    · rfl
  split
  · exact State.enterHoldover_kept _
  split
  · exact State.enterFreerun_kept _
  split
  · rfl
  · rfl

theorem State.qlUpdate_kept (s : State) : s.qlUpdate.stp.kept = s.stp.kept := by
  unfold State.qlUpdate
  split
  · rfl
  · rw [State.raise_stp]
    rfl

theorem State.selBoundary_stp (s : State) : s.selBoundary.stp = { s.stp with sel := s.refSelect } := by
  unfold State.selBoundary
  dsimp only
  split
  next h => rw [h]
  next => rw [State.raise_stp]

/-- The candidates at a frame boundary. -/
def State.refsOn (s : State) : State := foldS (List.range 8) (fun k (s : State) => s.refBoundary k) s

theorem State.refoutBoundary_kept (m : Nat) (s : State) : (s.refoutBoundary m).stp.kept = s.stp.kept := rfl

theorem State.clocks_kept (e : Int) (s : State) : (s.clocks e).stp.kept = { s.refsOn.stp with sel := s.refsOn.refSelect }.kept := by
  unfold State.clocks State.refsOn
  rw [State.refoutBoundary_kept, State.refoutBoundary_kept, State.qlUpdate_kept, State.dpllBoundary_kept, State.selBoundary_stp]

/-- The candidates change their own state alone, and may send messages. -/
theorem State.refBoundary_stp (k : Nat) (s : State) : ∃ r, (s.refBoundary k).stp = { s.stp with refs := r } := by
  unfold State.refBoundary
  dsimp only
  split_ifs
  · exact ⟨_, rfl⟩
  · exact ⟨_, State.raise_stp ..⟩
  · exact ⟨_, rfl⟩
  · exact ⟨_, rfl⟩
  · exact ⟨_, State.raise_stp ..⟩
  · exact ⟨_, rfl⟩
  · exact ⟨_, rfl⟩

theorem State.refsOn_stp (s : State) : s.refsOn.stp = { s.stp with refs := s.refsOn.stp.refs } := by
  have h : { s.refsOn.stp with refs := [] } = { s.stp with refs := [] } :=
    foldS_keeps (fun u => { u.stp with refs := [] }) _ _ (fun k u => by
      obtain ⟨r, hr⟩ := State.refBoundary_stp k u
      rw [hr]) s
  exact congrArg (fun x : Stp => { x with refs := s.refsOn.stp.refs }) h

/-! ### The end of a frame -/

/-- What no part but the rest of STP tells apart, and what STORY_SECOND keeps, the end of a frame keeps. -/
theorem State.frameEnd_keeps {α : Type} (f : State → α) (hf : ∀ s t : State, t.hide 35184103653375 = s.hide 35184103653375 → f t = f s)
    (hs : ∀ x s, f (State.storySecond x s) = f s) (i : FrameInputs) (s : State) : f (s.frameEnd i) = f s := by
  have hp : f (foldS i.ports (fun (x : PortOp) (s : State) => s.portOp x) s) = f s :=
    foldS_keeps f _ _ (fun x u => hf _ _ (State.portOp_frame _ (by decide) x u)) s
  unfold State.frameEnd
  dsimp only
  generalize foldS i.ports (fun (x : PortOp) (s : State) => s.portOp x) s = u at hp ⊢
  have hv : f (if u.stp.atSecond then u.storySecond u.heldSample else u) = f s := by
    split
    · exact (hs _ _).trans hp
    · exact hp
  refine (hf _ _ ?_).trans hv
  simp only [State.addUpsets_frame, State.confFinish_frame, State.idleSlots_frame, State.legacyWindow_frame, State.outRow_frame, State.pmcLate_frame, State.raise_frame, State.subTicksPass_frame, Nat.reduceAnd, hide_ite, foldS_frame, ite_self, implies_true]

theorem State.storySecond_epoch (x : Sample) (s : State) :
    (s.storySecond x).stp.epoch = s.stp.epoch ∧ (s.storySecond x).stp.originNew = s.stp.originNew := by
  unfold State.storySecond
  split
  · exact ⟨rfl, rfl⟩
  have h : ∀ u : State, (if u.mpIn && !u.glb.svc then u.takeSample x else u).stp = u.stp := fun u => by
    split
    · exact stp_of_hide (State.takeSample_frame _ (by decide) _ _)
    · rfl
  have hp : s.pmLatch.stp = s.stp := stp_of_hide (State.pmLatch_frame _ (by decide) _)
  dsimp only
  rw [stp_of_hide (State.sweepStart_frame _ (by decide) _), h]
  exact ⟨show s.pmLatch.stp.epoch = _ by rw [hp], show s.pmLatch.stp.originNew = _ by rw [hp]⟩

/-- What a boundary starts its count from. -/
theorem State.frameEnd_count (i : FrameInputs) (s : State) :
    (s.frameEnd i).stp.frame = s.stp.frame ∧ (s.frameEnd i).stp.origin = s.stp.origin ∧
    (s.frameEnd i).stp.epoch = s.stp.epoch ∧ (s.frameEnd i).stp.originNew = s.stp.originNew ∧ (s.frameEnd i).stp.sel = s.stp.sel := by
  refine ⟨stp_frame_of_hide (State.frameEnd_frame _ (by decide) i s), stp_origin_of_hide (State.frameEnd_frame _ (by decide) i s),
    State.frameEnd_keeps (fun u => u.stp.epoch) (fun _ _ => stp_epoch_of_hide) (fun x u => (State.storySecond_epoch x u).1) i s,
    State.frameEnd_keeps (fun u => u.stp.originNew) (fun _ _ => stp_originNew_of_hide) (fun x u => (State.storySecond_epoch x u).2) i s,
    stp_sel_of_hide (State.frameEnd_frame _ (by decide) i s)⟩

/-! ### The count (02 R33, R55, R62, R63) -/

theorem State.newSecond_stp (s : State) : s.newSecond.stp = s.stp := stp_of_hide (State.newSecond_frame _ (by decide) s)

theorem State.epochApply_count (e : Word) (s : State) : (s.epochApply e).stp.frame = e ∧ (s.epochApply e).stp.epoch = none ∧
    (s.epochApply e).stp.originNew = s.stp.originNew ∧ (s.epochApply e).stp.origin = s.stp.origin + (e - (s.stp.frame + 1)) := by
  unfold State.epochApply
  dsimp only
  rw [State.raise_stp, State.raise_stp]
  exact ⟨rfl, rfl, rfl, rfl⟩

theorem State.originApply_count (s : State) : s.originApply.stp.frame = s.stp.frame ∧ s.originApply.stp.epoch = s.stp.epoch ∧
    s.originApply.stp.originNew = none ∧ s.originApply.stp.origin = s.stp.originNew.getD s.stp.origin := by
  unfold State.originApply
  split
  next h => exact ⟨rfl, rfl, h, by rw [h]; rfl⟩
  next o h => exact ⟨rfl, rfl, rfl, by rw [h]; rfl⟩

/-- The count of a boundary before a second origin takes effect. -/
def State.nextFrame (s : State) : State :=
  match s.stp.epoch with
  | some e => s.epochApply e
  | none => { s with stp := { s.stp with frame := s.stp.frame + 1 } }

theorem State.nextFrame_count (s : State) :
    let f := s.stp.epoch.getD (s.stp.frame + 1)
    s.nextFrame.stp.frame = f ∧ s.nextFrame.stp.epoch = none ∧ s.nextFrame.stp.originNew = s.stp.originNew ∧
    s.nextFrame.stp.origin = s.stp.origin + (f - (s.stp.frame + 1)) := by
  unfold State.nextFrame
  split
  next e h =>
    obtain ⟨hf, he, hn, ho⟩ := State.epochApply_count e s
    rw [h]
    exact ⟨hf, he, hn, ho⟩
  next h =>
    rw [h]
    exact ⟨rfl, rfl, rfl, by simp⟩

/-- The count after a boundary: the waiting epoch, or the next value; a waiting second origin, or the one in force moved with it. -/
theorem State.countOn_count (s : State) :
    let f := s.stp.epoch.getD (s.stp.frame + 1)
    s.countOn.stp.frame = f ∧ s.countOn.stp.phase = 0 ∧ s.countOn.stp.sub = 0 ∧ s.countOn.stp.epoch = none ∧
    s.countOn.stp.originNew = none ∧ s.countOn.stp.origin = s.stp.originNew.getD (s.stp.origin + (f - (s.stp.frame + 1))) ∧
    s.countOn.stp.atSecond = decide ((s.countOn.stp.frame - s.countOn.stp.origin).toNat % 8000 = 0) := by
  obtain ⟨hf, he, hn, ho⟩ := s.nextFrame_count
  obtain ⟨hf', he', hn', ho'⟩ := s.nextFrame.originApply_count
  have hw : ∀ (b : Bool) (u : State), (whenS b State.newSecond u).stp = u.stp := fun b u => by
    cases b
    · rfl
    · exact u.newSecond_stp
  have hs : s.countOn.stp = { s.nextFrame.originApply.stp with
      phase := 0, sub := 0
      atSecond := decide ((s.nextFrame.originApply.stp.frame - s.nextFrame.originApply.stp.origin).toNat % 8000 = 0) } :=
    (hw ..).trans rfl
  rw [hn, ho] at ho'
  rw [hs]
  exact ⟨hf'.trans hf, rfl, rfl, he'.trans he, hn', ho', rfl⟩

/-! ### The snapshot, the epoch, the second origin and the boundary -/

/-- What the clock and what follows it leave of the settings' state. -/
theorem State.frameBoundary_count (i : FrameInputs) (s : State) :
    let c := (s.frameEnd i).countOn.stp
    let t := s.frameBoundary i
    t.stp.frame = c.frame ∧ t.stp.phase = c.phase ∧ t.stp.sub = c.sub ∧ t.stp.origin = c.origin ∧
    t.stp.epoch = c.epoch ∧ t.stp.originNew = c.originNew ∧ t.stp.atSecond = c.atSecond := by
  obtain ⟨h, l, hd⟩ := s.clockDue_stp i
  have hk : ((s.clockDue i).clocks i.phaseErr).stp.kept = _ := (s.clockDue i).clocks_kept i.phaseErr
  rw [State.refsOn_stp, hd] at hk
  simp only [Stp.kept, Prod.mk.injEq] at hk
  obtain ⟨-, -, -, he, hn, ha⟩ := hk
  have hp : ((s.clockDue i).clocks i.phaseErr).hide 35184338534399 = (s.clockDue i).hide 35184338534399 :=
    State.clocks_frame _ (by decide) ..
  have hf := stp_frame_of_hide hp
  have hph := stp_phase_of_hide hp
  have hsub := stp_sub_of_hide hp
  have ho := stp_origin_of_hide hp
  rw [hd] at hf hph hsub ho
  have ht : (s.frameBoundary i).stp = ((s.clockDue i).clocks i.phaseErr).stp := by rw [State.frameBoundary_eq, State.clockDone_stp]
  dsimp only
  rw [ht]
  exact ⟨hf, hph, hsub, ho, he, hn, ha⟩

theorem State.epochWrite_readDone (v : Word) (s : State) : ((s.epochWrite v).readWord 0x101C).getLsbD 0 = true := by
  have hr : (s.epochWrite v).readWord 0x101C = BitVec.ofNat 32 (putB s.stp.done 1 + 1) := by
    unfold State.readWord
    rw [if_neg (by decide)]
    rfl
  rw [hr]
  cases s.stp.done
  · rfl
  · rfl

/-- Settles O8: each write stores, and of the boundary's work the count alone moves the pole and takes what waits. -/
theorem epochOriginAndCount : Obligations.EpochOriginAndCount := by
  refine ⟨⟨fun s => rfl, fun v s => ⟨s.epochWrite v, rfl, rfl, rfl, rfl, rfl, ?_, s.epochWrite_readDone v⟩, fun v s => rfl⟩,
    fun i s => ⟨s.frameBoundary i, rfl, ?_⟩⟩
  · exact State.setReg_get s 0x1018 v
  obtain ⟨hf, hp, hsub, ho, he, hn, ha⟩ := s.frameBoundary_count i
  obtain ⟨hef, heo, hee, hen, -⟩ := s.frameEnd_count i
  obtain ⟨cf, cp, csub, ce, cn, co, ca⟩ := (s.frameEnd i).countOn_count
  rw [hef, hee] at cf co
  rw [heo, hen] at co
  refine ⟨hf.trans cf, hp.trans cp, hsub.trans csub, he.trans ce, hn.trans cn, ho.trans co, ?_⟩
  rw [ha, hf, ho, ca]

end Sys2Proof.Machine
end

section
/-! O11. The reference candidates: their measurements, their wait, their selection (02 R43-R46). -/

namespace Sys2Proof.Machine

/-! ### Measurements (R43, R44) -/

theorem State.refMeasure_flt (k : Nat) (m : RefMeas) (s : State) : (s.refMeasure k m).flt = s.flt := by
  unfold State.refMeasure
  dsimp only
  split
  · rfl
  · rfl

theorem State.refMeasure_get_other (k : Nat) (m : RefMeas) (s : State) (j : Nat) (h : j ≠ k) : (s.refMeasure k m).ref j = s.ref j := by
  unfold State.refMeasure
  dsimp only
  split
  · exact State.setRef_get_other _ _ _ _ h
  · exact (State.setRef_get_other _ _ _ _ h).trans (State.setRef_get_other _ _ _ _ h)

/-- What a measurement says of its candidate. -/
theorem State.refMeasure_get (k : Nat) (m : RefMeas) (s : State) :
    ((s.refMeasure k m).ref k).active = m.edges ∧
    ((s.refMeasure k m).ref k).freqOk = (decide (-1200 ≤ m.fofs) && decide (m.fofs ≤ 1200)) ∧
    ((s.refMeasure k m).ref k).qualified = (s.ref k).qualified := by
  unfold State.refMeasure
  dsimp only
  split
  · simp
  · simp

/-- The wait of a candidate is no part of its conditions. -/
theorem State.refClear_setWtr (s : State) (k : Nat) (b : Bool) (w : Nat) :
    (s.setRef k { s.ref k with wtrRun := b, wtr := w }).refClear k = s.refClear k := by
  unfold State.refClear State.refBad State.lineDef State.candRank
  rw [State.setRef_get]
  rfl

/-- A measurement with every condition clear leaves the wait alone. -/
theorem State.refMeasure_of_refClear {k : Nat} {m : RefMeas} {s : State} (h : (s.refMeasure k m).refClear k = true) :
    s.refMeasure k m =
      s.setRef k { s.ref k with active := m.edges, fofs := m.fofs, freqOk := decide (-1200 ≤ m.fofs) && decide (m.fofs ≤ 1200) } := by
  unfold State.refMeasure at h ⊢
  dsimp only at h ⊢
  split
  next => rfl
  next hc =>
    rw [if_neg hc, State.refClear_setWtr] at h
    exact absurd h hc

/-- R43: a measurement without edges, or out of range, is a disqualifying condition. -/
theorem State.refBad_refMeasure {k : Nat} {m : RefMeas} {s : State} (h : m.edges = false ∨ 1200 < m.fofs ∨ m.fofs < -1200) :
    (s.refMeasure k m).refBad k = true := by
  obtain ⟨ha, hf, -⟩ := s.refMeasure_get k m
  unfold State.refBad
  rw [ha, hf]
  rcases h with h | h | h
  · simp [h]
  · simp [show ¬ m.fofs ≤ 1200 by omega]
  · simp [show ¬ -1200 ≤ m.fofs by omega]

theorem State.refEn_refMeasure (k j : Nat) (m : RefMeas) (s : State) : (s.refMeasure k m).refEn j = s.refEn j := by
  unfold State.refMeasure
  dsimp only
  split
  · rfl
  · rfl

theorem refDisq_marks (k : Fin 8) (m : RefMeas) (s : State) (he : s.refEn k = true)
    (hm : m.edges = false ∨ 1200 < m.fofs ∨ m.fofs < -1200) :
    Does (.refDisq k m) s fun t => (t.ref k).disq = true ∧ (t.ref k).qualified = (s.ref k).qualified ∧
      (∀ j, j ≠ k.val → t.ref j = s.ref j) ∧ t.flt = s.flt := by
  obtain ⟨-, -, hq⟩ := s.refMeasure_get k m
  refine ⟨(s.refMeasure k m).setRef k { (s.refMeasure k m).ref k with disq := true }, ?_, ?_, ?_, ?_, ?_⟩
  · exact congrArg Host.Outcome.next (if_pos (by rw [State.refEn_refMeasure, he, State.refBad_refMeasure hm]; rfl))
  · rw [State.setRef_get]
  · rw [State.setRef_get]
    exact hq
  · exact fun j hj => (State.setRef_get_other _ _ _ _ hj).trans (State.refMeasure_get_other _ _ _ _ hj)
  · exact s.refMeasure_flt k m

/-- R44: the wait of a candidate whose conditions are clear. -/
theorem refQual_starts (k : Fin 8) (m : RefMeas) (s : State) (he : s.refEn k = true) (hq : (s.ref k).qualified = false)
    (hd : (s.ref k).disq = false) (hr : (s.ref k).wtrRun = false) (hc : (s.refMeasure k m).refClear k = true) (hw : 0 < s.wtrSeconds) :
    Does (.refQual k m) s fun t => (t.ref k).wtrRun = true ∧ (t.ref k).wtr = s.wtrSeconds * 8000 ∧
      (t.ref k).wtrAt = s.inFrame ∧ (t.ref k).qualified = false ∧ t.flt = s.flt := by
  have hm := State.refMeasure_of_refClear hc
  have hr' : (s.refMeasure k m).ref k = _ := (congrArg (State.ref · k) hm).trans (State.setRef_get ..)
  have hw' : (s.refMeasure k m).wtrSeconds = s.wtrSeconds := by rw [hm]; rfl
  refine ⟨(s.refMeasure k m).setRef k { (s.refMeasure k m).ref k with
    wtrRun := true, wtr := (s.refMeasure k m).wtrSeconds * 8000, wtrAt := (s.refMeasure k m).inFrame }, ?_, ?_, ?_, ?_, ?_, ?_⟩
  · refine congrArg Host.Outcome.next ?_
    dsimp only
    rw [if_neg (by rw [State.refEn_refMeasure, he, hc, hr']; simp [hq, hd]), if_neg (by rw [hr']; simp [hr]),
      if_neg (by rw [hw']; omega)]
  · rw [State.setRef_get]
  · rw [State.setRef_get, hw']
  · rw [State.setRef_get, hm]
    rfl
  · rw [State.setRef_get, hr']
    exact hq
  · exact s.refMeasure_flt k m

/-- A candidate that requalifies, and its message. -/
theorem State.requalify_done {k : Nat} (hk : k < 8) {s : State} (hl : s.flt.queue.length < 64) :
    ((s.requalify k).ref k).qualified = true ∧ ((s.requalify k).ref k).wtrRun = false ∧
    (s.requalify k).flt.queue = insertMsg { source := refSource k, kind := 0x11, cls := 3, addr := BitVec.ofNat 32 k, data := 0,
                                            at_ := s.now } s.flt.queue := by
  have hsrc : refSource k < 0x160 := by
    unfold refSource
    split <;> omega
  have href : (s.requalify k).ref k = { s.ref k with qualified := true, wtrRun := false, wtr := 0, disq := false } := by
    unfold State.requalify State.ref
    rw [State.raise_stp]
    exact State.setRef_get s k _
  rw [href]
  exact ⟨rfl, rfl, State.raise_queue (State.srcInReset_of_lt hsrc) hl⟩

theorem refQual_ends (k : Fin 8) (m : RefMeas) (s : State) (he : s.refEn k = true) (hq : (s.ref k).qualified = false)
    (hd : (s.ref k).disq = false) (hr : (s.ref k).wtrRun = true) (h0 : (s.ref k).wtr = 0) (ha : (s.ref k).wtrAt ≤ s.inFrame)
    (hc : (s.refMeasure k m).refClear k = true) (hl : s.flt.queue.length < 64) :
    Does (.refQual k m) s fun t => (t.ref k).qualified = true ∧ (t.ref k).wtrRun = false ∧
      t.flt.queue = insertMsg { source := refSource k, kind := 0x11, cls := 3, addr := BitVec.ofNat 32 k, data := 0,
                                at_ := s.now } s.flt.queue := by
  have hm := State.refMeasure_of_refClear hc
  have hr' : (s.refMeasure k m).ref k = _ := (congrArg (State.ref · k) hm).trans (State.setRef_get ..)
  have hi : (s.refMeasure k m).inFrame = s.inFrame := by rw [hm]; rfl
  have hn : (s.refMeasure k m).now = s.now := by rw [hm]; rfl
  refine ⟨(s.refMeasure k m).requalify k, congrArg Host.Outcome.next ?_, ?_⟩
  · rw [if_neg (by rw [State.refEn_refMeasure, he, hc, hr']; simp [hq, hd]), if_pos (by rw [hr']; exact hr),
      if_pos (by unfold State.wtrOver; rw [hr', hi]; simp [hr, h0, ha])]
  · have h := State.requalify_done k.isLt (s := s.refMeasure k m) (by rw [State.refMeasure_flt]; exact hl)
    rw [State.refMeasure_flt, hn] at h
    exact h

/-! ### Selection (R45, R46) -/

theorem State.refBest_some {s : State} {k : Fin 8} (h : s.refBest = some k) :
    s.refEligible k = true ∧ ∀ j : Fin 8, j ≠ k → s.refEligible j = true → s.refBefore k j = true := by
  have hk := List.find?_some h
  rw [Bool.and_eq_true, List.all_eq_true] at hk
  refine ⟨hk.1, fun j hj he => ?_⟩
  have := hk.2 j (List.mem_finRange j)
  simpa [he, hj] using this

/-- The order of the selection: the rank, the priority, the candidate's number. -/
def State.refCost (s : State) (k : Nat) : Nat ×ₗ Nat ×ₗ Nat :=
  toLex (if s.stpB 0x1024 31 then s.candRank k else 0, toLex (s.stpF (refReg k) 16 4, k))

theorem State.refBefore_iff {s : State} {a b : Nat} : s.refBefore a b = true ↔ s.refCost a < s.refCost b := by
  unfold State.refBefore State.refCost
  simp only [Prod.Lex.toLex_lt_toLex, Bool.or_eq_true, Bool.and_eq_true, decide_eq_true_eq]

theorem State.refCost_inj {s : State} {a b : Nat} (h : s.refCost a = s.refCost b) : a = b := by
  simpa [State.refCost] using (congrArg (fun x => (ofLex (ofLex x).2).2) h)

/-- Where a candidate is eligible, the first of them in the order is chosen. -/
theorem State.refBest_ne_none {s : State} {k : Fin 8} (h : s.refEligible k = true) : s.refBest ≠ none := by
  obtain ⟨m, hm, hmin⟩ := (Finset.univ.filter fun j : Fin 8 => s.refEligible j = true).exists_min_image (fun j => s.refCost j)
    ⟨k, by simpa using h⟩
  simp only [Finset.mem_filter, Finset.mem_univ, true_and] at hm hmin
  intro hn
  refine List.find?_eq_none.1 hn m (List.mem_finRange m) ?_
  rw [Bool.and_eq_true, List.all_eq_true]
  refine ⟨hm, fun j _ => ?_⟩
  by_cases he : s.refEligible j = true
  · by_cases hj : j = m
    · simp [hj]
    · have hlt : s.refCost m < s.refCost j := lt_of_le_of_ne (hmin j he) fun e => hj (Fin.ext (State.refCost_inj e).symm)
      simp [State.refBefore_iff.2 hlt]
  · simp [he]

theorem State.refEligible_iff {s : State} {k : Nat} :
    s.refEligible k = true ↔ (s.ref k).qualified = true ∧ s.stpF (refReg k) 16 4 < 15 := by
  unfold State.refEligible
  rw [Bool.and_eq_true, decide_eq_true_eq]

/-- R45: a forced selection. -/
theorem State.refSelect_forced {s : State} {k : Fin 8} (h : s.stpB 0x1024 19 = true) (hk : k.val = s.stpF 0x1024 16 3) :
    s.refSelect = if (s.ref k).qualified then some k else none := by
  have hf : Fin.ofNat 8 (s.stpF 0x1024 16 3) = k := by
    rw [← hk]
    exact Fin.ofNat_val_eq_self k
  unfold State.refSelect
  rw [if_pos h]
  dsimp only
  rw [hf]

/-- R46: an automatic selection that nothing holds back takes the best candidate. -/
theorem State.refSelect_best {s : State} (h : s.stpB 0x1024 19 = false)
    (hn : ∀ k, s.stp.sel = some k → s.stpB 0x1024 29 = true ∨ (s.ref k).qualified = false) : s.refSelect = s.refBest := by
  unfold State.refSelect
  rw [if_neg (by simp [h])]
  split
  next k hk =>
    refine if_neg ?_
    rcases hn k hk with hr | hq
    · simp [hr]
    · simp [hq]
  next => rfl

/-- R46: a non-revertive selection keeps its candidate but for one of better QL. -/
theorem State.refSelect_held {s : State} {k : Fin 8} (h : s.stpB 0x1024 19 = false) (hr : s.stpB 0x1024 29 = false)
    (hk : s.stp.sel = some k) (hq : (s.ref k).qualified = true) :
    s.refSelect = some k ∨ s.stpB 0x1024 31 = true ∧ ∃ b, s.refSelect = some b ∧ s.candRank b < s.candRank k := by
  unfold State.refSelect
  rw [if_neg (by simp [h]), hk]
  dsimp only
  rw [if_pos (by simp [hr, hq])]
  split
  next b _ =>
    split
    next hb =>
      rw [Bool.and_eq_true, decide_eq_true_eq] at hb
      exact .inr ⟨hb.1, b, rfl, hb.2⟩
    next => exact .inl rfl
  next => exact .inl rfl

/-- The candidates and the selection of a frame boundary, and the settings in force. -/
theorem State.frameBoundary_sel (i : FrameInputs) (s : State) :
    let u := (s.clockDue i).refsOn
    (s.frameBoundary i).stp.sel = u.refSelect ∧ u.stp.sel = s.stp.sel ∧ u.stp.held = (s.frameBoundary i).stp.held ∧
    u.stp.refs = (s.frameBoundary i).stp.refs := by
  have ht : (s.frameBoundary i).stp = ((s.clockDue i).clocks i.phaseErr).stp := by rw [State.frameBoundary_eq, State.clockDone_stp]
  have hk : ((s.clockDue i).clocks i.phaseErr).stp.kept = _ := (s.clockDue i).clocks_kept i.phaseErr
  simp only [Stp.kept, Prod.mk.injEq] at hk
  obtain ⟨hsel, hrefs, hheld, -⟩ := hk
  obtain ⟨h, l, hd⟩ := s.clockDue_stp i
  have hs : (s.clockDue i).refsOn.stp.sel = s.stp.sel := by
    rw [State.refsOn_stp, hd]
    exact (stp_sel_of_hide (State.countOn_frame _ (by decide) _)).trans (s.frameEnd_count i).2.2.2.2
  dsimp only
  rw [ht]
  exact ⟨hsel, hs, hheld.symm, hrefs.symm⟩

/-- Settles O11: the order of the selection has a first eligible candidate, and the clock selects by the state of `refsOn`. -/
theorem refCandidates : Obligations.RefCandidates := by
  refine ⟨⟨fun s k h hk => State.refSelect_forced h hk, fun s h hn => ⟨fun k hk => ?best, fun hk k hq => ?none⟩,
    fun s k h hr hk hq => ?held, fun i s => ?boundary⟩, refDisq_marks, refQual_starts, refQual_ends⟩
  case best =>
    rw [State.refSelect_best h hn] at hk
    obtain ⟨he, hb⟩ := State.refBest_some hk
    obtain ⟨hq, hp⟩ := State.refEligible_iff.1 he
    refine ⟨hq, hp, fun j hj hjq hjp => ?_⟩
    have hlt := hb j hj (State.refEligible_iff.2 ⟨hjq, hjp⟩)
    simp only [State.refBefore, Bool.or_eq_true, Bool.and_eq_true, decide_eq_true_eq] at hlt
    exact hlt
  case none =>
    rw [State.refSelect_best h hn] at hk
    have hne : ¬ s.stpF (refReg k) 16 4 < 15 := fun hp => State.refBest_ne_none (State.refEligible_iff.2 ⟨hq, hp⟩) hk
    have hlt : s.stpF (refReg k) 16 4 < 16 := Nat.mod_lt _ (by decide)
    exact Nat.le_antisymm (Nat.le_of_lt_succ hlt) (Nat.not_lt.1 hne)
  case held =>
    rcases State.refSelect_held h hr hk hq with hsel | ⟨hssm, b, hsel, hlt⟩
    · exact ⟨fun _ => hsel, fun j hj => .inl (Option.some.inj (hj.symm.trans hsel))⟩
    · refine ⟨fun hf => absurd (hssm.symm.trans hf) (by decide), fun j hj => .inr ?_⟩
      rw [Option.some.inj (hj.symm.trans hsel)]
      exact hlt
  case boundary =>
    obtain ⟨hsel, hs, hheld, hrefs⟩ := s.frameBoundary_sel i
    refine ⟨s.frameBoundary i, rfl, (s.clockDue i).refsOn, hsel, hs, hheld, fun k => ?_⟩
    unfold State.ref
    rw [hrefs]

end Sys2Proof.Machine
end

section
/-! O36, receive. The framer of a port: its moves over a frame time (03 R70-R73), and that nothing else of the receive path reaches
it: a defect other than OOF, an error window and a trace leave it as it is. -/

namespace Sys2Proof.Machine

/-! ### What of a port the framer is -/

/-- The framer of a port: its state, its place, the errored patterns in a row, and OOF. -/
def Port.framing (p : Port) : Nat × Nat × Nat × Bool := (p.frm, p.align, p.bad, p.def_ 2)

def State.framing (s : State) (n : Nat) : Nat × Nat × Nat × Bool := (s.port n).framing

theorem framing_of_hide {s t : State} {n : Nat} (h : t.hide 35183835217919 = s.hide 35183835217919) : t.framing n = s.framing n := by
  unfold State.framing State.port
  rw [ports_of_hide h]

theorem State.setPort_framing {s : State} {m n : Nat} {p : Port} (h : p.framing = s.framing m) :
    (s.setPort m p).framing n = s.framing n := by
  by_cases hn : n = m
  · subst hn
    rw [State.framing, State.setPort_get, h]
  · rw [State.framing, State.setPort_get_other _ _ _ _ hn]
    rfl

theorem State.modPort_framing {s : State} {m n : Nat} {f : Port → Port} (h : ∀ p, (f p).framing = p.framing) :
    (s.modPort m f).framing n = s.framing n :=
  State.setPort_framing (h _)

/-- A defect other than OOF is no part of a framer. -/
theorem State.setDef_framing {b : Nat} (hb : b ≠ 2) (m : Nat) (k : Kind) (on : Bool) (s : State) (n : Nat) :
    (s.setDef m b k on).framing n = s.framing n := by
  unfold State.setDef
  dsimp only
  split
  · rfl
  refine (framing_of_hide (State.raiseU_frame _ (by decide) ..)).trans ?_
  have hsee : ∀ u : State, (whenS (decide (b ≤ 8)) (fun s => s.seeDef 0 m (b - 1)) u).framing n = u.framing n := fun u =>
    framing_of_hide (whenS_frame _ _ _ _ fun u => State.seeDef_frame _ (by decide) ..)
  refine (hsee _).trans (State.setPort_framing ?_)
  unfold State.framing Port.framing Port.def_
  cases on <;> simp <;> omega

/-- OOF as a frame time leaves it. -/
theorem State.setOof_framing (n : Nat) (p : Port) (on : Bool) (s : State) :
    ((s.setPort n p).setDef n 2 .oofL on).framing n = (p.frm, p.align, p.bad, on) := by
  unfold State.setDef
  dsimp only
  rw [State.setPort_get]
  split
  next h => rw [State.framing, State.setPort_get, Port.framing, h]
  next =>
    refine (framing_of_hide (State.raiseU_frame _ (by decide) ..)).trans ?_
    refine (framing_of_hide (whenS_frame _ _ _ _ fun u => State.seeDef_frame _ (by decide) ..)).trans ?_
    rw [State.framing, State.setPort_get]
    cases on <;> simp [Port.framing, Port.def_]

/-! ### Traces (R126) -/

theorem State.setTim_framing (kind i : Nat) (on : Bool) (s : State) (n : Nat) : (s.setTim kind i on).framing n = s.framing n := by
  unfold State.setTim
  dsimp only
  split
  · exact State.setDef_framing (by decide) ..
  · split
    · exact framing_of_hide (State.setPathDef_frame _ (by decide) ..)
    · rfl
  · exact framing_of_hide (State.setLoDef_frame _ (by decide) ..)

theorem State.timUpdate_framing (kind i : Nat) (s : State) (n : Nat) : (s.timUpdate kind i).framing n = s.framing n := by
  unfold State.timUpdate
  split
  · rfl
  · exact State.setTim_framing ..

theorem State.traceLost_framing (kind i : Nat) (s : State) (n : Nat) : (s.traceLost kind i).framing n = s.framing n := by
  unfold State.traceLost
  dsimp only
  split
  · exact State.setTim_framing ..
  · rfl

theorem State.traceByte_framing (kind i : Nat) (b : Byte) (s : State) (n : Nat) : (s.traceByte kind i b).framing n = s.framing n := by
  unfold State.traceByte
  split
  · exact State.traceLost_framing ..
  · exact State.timUpdate_framing ..

/-! ### Tributaries and paths -/

theorem framing_ite (c : Prop) [Decidable c] (s t : State) (n : Nat) :
    (if c then s else t).framing n = if c then s.framing n else t.framing n := apply_ite (State.framing · n) c s t

theorem foldS_framing {α : Type} {f : α → State → State} {n : Nat} (h : ∀ x s, (f x s).framing n = s.framing n) (l : List α) (s : State) :
    (foldS l f s).framing n = s.framing n :=
  foldS_keeps (State.framing · n) _ _ h s

theorem State.loQuarter_framing (t : Nat) (c : TribSet) (q : Nat) (l : List Byte) (s : State) (n : Nat) :
    (s.loQuarter t c q l).framing n = s.framing n := by
  have ho : ∀ w x r (u : State), (u.loOverhead t w x r).framing n = u.framing n := fun _ _ _ u =>
    framing_of_hide (State.loOverhead_frame _ (by decide) ..)
  unfold State.loQuarter
  dsimp only
  simp only [framing_ite, State.traceByte_framing, ho, ite_self]
  exact ite_self _

theorem State.tuFrame_framing (p : TuPos) (t1 : Bool) (mf : Nat) (b : List Byte) (s : State) (n : Nat) :
    (s.tuFrame p t1 mf b).framing n = s.framing n := by
  unfold State.tuFrame
  dsimp only
  split
  · rfl
  refine (foldS_framing (fun c u => State.loQuarter_framing ..) _ _).trans ?_
  have hu : ∀ t x (u : State), (u.loServerUpdate t x).framing n = u.framing n := fun _ _ u =>
    framing_of_hide (State.loServerUpdate_frame _ (by decide) ..)
  simp only [framing_ite, State.traceLost_framing, hu, ite_self]
  rfl

theorem State.vcTerm_framing (d w h4 : Nat) (l : List Byte) (s : State) (n : Nat) : (s.vcTerm d w h4 l).framing n = s.framing n := by
  unfold State.vcTerm
  dsimp only
  split
  · split
    · rfl
    · exact (foldS_framing (fun x u => State.tuFrame_framing ..) _ _).trans (framing_of_hide (State.h4Frame_frame _ (by decide) ..))
  · rfl

theorem State.sinkVc_framing (d w : Nat) (l : List Byte) (s : State) (n : Nat) : (s.sinkVc d w l).framing n = s.framing n :=
  (State.vcTerm_framing ..).trans (framing_of_hide (State.pathOverhead_frame _ (by decide) ..))

theorem State.sinkPull_framing (d w : Nat) (s : State) (n : Nat) : (s.sinkPull d w).framing n = s.framing n := by
  have ht : ∀ u : State, (u.sinkTim d).framing n = u.framing n := fun u => framing_of_hide (State.sinkTim_frame _ (by decide) ..)
  have hp : (s.pathServer d false false).framing n = s.framing n := framing_of_hide (State.pathServer_frame _ (by decide) ..)
  unfold State.sinkPull
  dsimp only
  split
  · rfl
  split
  · exact (ht _).trans hp
  · exact (ht _).trans ((foldS_framing (fun c u => State.sinkVc_framing ..) _ _).trans hp)

theorem State.loSweep_framing (s : State) (n : Nat) : s.loSweep.framing n = s.framing n := by
  have hu : ∀ t x (u : State), (u.loServerUpdate t x).framing n = u.framing n := fun _ _ u =>
    framing_of_hide (State.loServerUpdate_frame _ (by decide) ..)
  refine foldS_framing (fun e u => ?_) _ s
  simp only [framing_ite, State.traceLost_framing, hu, ite_self]

theorem State.rxJ1_framing (m t : Nat) (b : Option Byte) (s : State) (n : Nat) : (s.rxJ1 m t b).framing n = s.framing n := by
  unfold State.rxJ1
  split
  · rfl
  · split
    · exact State.traceByte_framing ..
    · exact State.traceLost_framing ..

theorem State.rxVc_framing (m t w : Nat) (l : List Byte) (s : State) (n : Nat) : (s.rxVc m t w l).framing n = s.framing n :=
  (State.rxJ1_framing ..).trans (framing_of_hide (State.pathOverhead_frame _ (by decide) ..))

theorem State.rxPath_framing (m : Nat) (d : List Byte) (t w : Nat) (s : State) (n : Nat) :
    (s.rxPath m d t w).framing n = s.framing n := by
  have hp : (s.rxPointer m d t w).2.framing n = s.framing n := framing_of_hide (State.rxPointer_frame _ (by decide) ..)
  unfold State.rxPath
  dsimp only
  split
  · exact (State.rxJ1_framing ..).trans hp
  · exact (framing_of_hide (State.modFlow_frame _ (by decide) ..)).trans
      ((foldS_framing (fun x u => State.rxVc_framing ..) _ _).trans hp)

theorem State.rxPaths_framing (m : Nat) (d : List Byte) (s : State) (n : Nat) : (s.rxPaths m d).framing n = s.framing n := by
  refine (State.loSweep_framing ..).trans ?_
  refine (foldS_framing (fun x u => ?_) _ _).trans (foldS_framing (fun x u => State.rxPath_framing ..) _ _)
  simp only [framing_ite, State.sinkPull_framing, ite_self]

/-! ### The section -/

theorem State.dccBreak_framing (m : Nat) (s : State) (n : Nat) : (s.dccBreak m).framing n = s.framing n :=
  framing_of_hide (State.dccBreak_frame _ (by decide) ..)

theorem State.lofTest_framing (m : Nat) (s : State) (n : Nat) : (s.lofTest m).framing n = s.framing n := by
  have hr : ∀ u : State, (u.refLine m).framing n = u.framing n := fun u => framing_of_hide (State.refLine_frame _ (by decide) ..)
  have hd : ∀ on (u : State), (u.setDef m 3 .lofL on).framing n = u.framing n := fun on u => State.setDef_framing (by decide) ..
  unfold State.lofTest
  simp only [framing_ite, State.dccBreak_framing, State.traceLost_framing, hr, hd, ite_self]

theorem State.rxParity_framing (m : Nat) (was : Bool) (raw d : List Byte) (s : State) (n : Nat) :
    (s.rxParity m was raw d).framing n = s.framing n := State.setPort_framing rfl

theorem State.rxRei_framing (m : Nat) (now : Bool) (d : List Byte) (s : State) (n : Nat) :
    (s.rxRei m now d).framing n = s.framing n := State.modPort_framing fun _ => rfl

theorem State.rxBer_framing (m e2 : Nat) (s : State) (n : Nat) : (s.rxBer m e2).framing n = s.framing n := by
  unfold State.rxBer
  dsimp only
  split
  · exact State.setPort_framing rfl
  · exact (State.setDef_framing (by decide) ..).trans ((State.setDef_framing (by decide) ..).trans (State.setPort_framing rfl))

theorem State.rxDcc_framing (m : Nat) (d : List Byte) (s : State) (n : Nat) : (s.rxDcc m d).framing n = s.framing n :=
  framing_of_hide (State.rxDcc_frame _ (by decide) ..)

theorem State.rxKS_framing (m : Nat) (d : List Byte) (s : State) (n : Nat) : (s.rxKS m d).framing n = s.framing n := by
  have hd : ∀ {b : Nat}, b ≠ 2 → ∀ k on (u : State), (u.setDef m b k on).framing n = u.framing n := fun hb k on u =>
    State.setDef_framing hb ..
  have hr : ∀ x k src addr data (u : State), (u.raiseU x k src addr data).framing n = u.framing n := fun _ _ _ _ _ u =>
    framing_of_hide (State.raiseU_frame _ (by decide) ..)
  have hw : ∀ c (u : State), (whenS c (fun s => s.traceLost 0 m) u).framing n = u.framing n := fun c u => by
    unfold whenS
    rw [framing_ite, State.traceLost_framing, ite_self]
  have hs : ∀ v (u : State), (u.modPort m fun p => { p with s1Acc := v }).framing n = u.framing n := fun v u =>
    State.modPort_framing fun _ => rfl
  unfold State.rxKS
  dsimp only
  simp only [framing_ite, hr, hs, hw, hd (show 9 ≠ 2 by decide), hd (show 4 ≠ 2 by decide), hd (show 5 ≠ 2 by decide), ite_self]
  exact State.setPort_framing rfl

/-! ### A frame time -/

/-- What the framer makes of the frame time `b` of received bytes (R70-R73). -/
def State.framed (s : State) (n : Nat) (b : List Byte) : Port :=
  (s.port n).frame (frameMarks (s.portN n) (s.huntN n) (rxSpan (lineLen (s.portN n)) (s.port n).rxPrev b)) (s.confirmN n)

theorem State.rxFrame_framing (n : Nat) (b : List Byte) (s : State) :
    (s.rxFrame n b).framing n =
      ((s.framed n b).frm, (s.framed n b).align, (s.framed n b).bad, decide ((s.framed n b).frm ≠ 2)) := by
  have hi : ∀ oof p, (Port.integrate oof p).frm = p.frm ∧ (Port.integrate oof p).align = p.align ∧ (Port.integrate oof p).bad = p.bad :=
    fun oof p => by
      cases oof
      · exact ⟨rfl, rfl, rfl⟩
      · exact ⟨rfl, rfl, rfl⟩
  obtain ⟨hf, ha, hb⟩ := hi ((s.port n).def_ 2) (s.framed n b)
  have hg : ∀ u : State, (u.traceGap 0 n).framing n = u.framing n := fun u => rfl
  have ho : ∀ u : State, (u.modPort n fun p => { p.outOfFrame with exc := {}, deg := {} }).framing n = u.framing n := fun u =>
    State.modPort_framing fun _ => rfl
  unfold State.rxFrame
  dsimp only
  simp only [framing_ite, State.rxPaths_framing, State.dccBreak_framing, hg, ho, State.rxDcc_framing, State.rxBer_framing,
    State.rxRei_framing, State.rxKS_framing, State.rxParity_framing, State.traceByte_framing, State.lofTest_framing,
    State.setOof_framing, ite_self]
  rw [← hf, ← ha, ← hb]
  rfl

theorem State.protMoves_framed (n : Nat) (s : State) (m : Nat) (b : List Byte) : (s.protMoves m).framed n b = s.framed n b := by
  have h : (s.protMoves m).hide 1099511629824 = s.hide 1099511629824 := State.protMoves_frame _ (by decide) ..
  have hp : (s.protMoves m).ports = s.ports := ports_of_hide (hide_mono _ _ (by decide) h)
  have hc : (s.protMoves m).cfg = s.cfg := cfg_of_hide (hide_mono _ _ (by decide) h)
  unfold State.framed State.huntN State.confirmN State.portN State.lptF State.lptCfg State.rf State.reg State.port
  rw [hp, hc]

theorem State.rxLine_framing (n : Nat) (b : List Byte) (s : State) :
    (s.rxLine n b).framing n =
      ((s.framed n b).frm, (s.framed n b).align, (s.framed n b).bad, decide ((s.framed n b).frm ≠ 2)) := by
  have he : ∀ g k1 (u : State), (u.exerAnswer g k1).framing n = u.framing n := fun _ _ u =>
    framing_of_hide (State.exerAnswer_frame _ (by decide) ..)
  have hk : ∀ g x (u : State), (u.kWatch g x).framing n = u.framing n := fun _ _ u =>
    framing_of_hide (State.kWatch_frame _ (by decide) ..)
  have hx := (s.protMoves n).rxFrame_framing n b
  rw [State.protMoves_framed] at hx
  unfold State.rxLine
  dsimp only
  split
  · exact hx
  · simp only [framing_ite, he, hk, ite_self]
    exact hx

/-! ### The framer's moves (R71-R73) -/

theorem Port.settle_cons {confirm c k : Nat} (r : List (Nat × Nat)) (p : Port) :
    (p.settle confirm ((c, k) :: r)).frm = (if confirm ≤ k + 1 then 2 else 1) ∧ (p.settle confirm ((c, k) :: r)).align = c := by
  unfold Port.settle
  dsimp only
  split
  · exact ⟨rfl, rfl⟩
  · exact ⟨rfl, rfl⟩

/-- A match that no check has confirmed yet puts no framer in frame. -/
theorem Port.settle_fresh {confirm : Nat} (hc : 2 ≤ confirm) (l : List Nat) (p : Port) :
    (p.settle confirm (l.map fun m => (m, 0))).frm ≠ 2 := by
  cases l with
  | nil => exact Nat.zero_ne_add_one 1
  | cons m r =>
    rw [List.map_cons, (Port.settle_cons _ p).1, if_neg (by omega)]
    decide

theorem Port.frame_hunt {p : Port} (h : p.frm = 0) (marks : List Nat) (confirm : Nat) :
    p.frame marks confirm = p.settle confirm (marks.map fun m => (m, 0)) := by
  unfold Port.frame
  split
  next => rfl
  next h1 => exact absurd (h.symm.trans h1) (by decide)
  next h0 _ => exact absurd h h0

theorem Port.frame_inFrame {p : Port} (h : p.frm = 2) (marks : List Nat) (confirm : Nat) : p.frame marks confirm =
    if p.align ∈ marks then { p with bad := 0 }
    else if 4 ≤ p.bad + 1 then
      ({ p with bad := 0 }).settle confirm ((marks.filter (fun m => decide (p.align < m))).map (fun m => (m, 0)))
    else { p with bad := p.bad + 1 } := by
  unfold Port.frame
  split
  next h0 => exact absurd (h.symm.trans h0) (by decide)
  next h1 => exact absurd (h.symm.trans h1) (by decide)
  next => rfl

/-- The candidate's last check (R72). -/
theorem Port.frame_confirmed {p : Port} {marks : List Nat} {confirm : Nat} (h : p.frm = 1) (hm : p.align ∈ marks)
    (hc : confirm ≤ p.passes + 2) : (p.frame marks confirm).frm = 2 := by
  unfold Port.frame
  split
  case h_1 h0 => exact absurd (h.symm.trans h0) (by decide)
  case h_3 h1 => exact absurd h h1
  dsimp only
  rw [List.filter_cons_of_pos (by simpa using hm), List.map_cons, List.cons_append, (Port.settle_cons _ p).1, if_pos hc]

theorem State.two_le_confirmN (s : State) (n : Nat) : 2 ≤ s.confirmN n := by
  unfold State.confirmN clamp
  omega

/-! ### The receive clauses -/

/-- The moves of a framer over a frame time whose matches are `l` (R71-R73). -/
theorem Port.frame_moves {p : Port} {confirm : Nat} (hc : 2 ≤ confirm) (l : List Nat) :
    let q := p.frame l confirm
    let ok := decide (p.align ∈ l)
    (p.frm = 0 → l = [] → q.frm = 0) ∧
    (p.frm = 0 → ∀ m r, l = m :: r → q.frm = 1 ∧ q.align = m) ∧
    (p.frm = 2 → ok = true → q.frm = 2 ∧ q.bad = 0) ∧
    (p.frm = 2 → ok = false → p.bad < 3 → q.frm = 2 ∧ q.bad = p.bad + 1) ∧
    (p.frm = 2 → ok = false → 3 ≤ p.bad → q.frm ≠ 2) ∧
    (p.frm = 1 → ok = true → confirm ≤ p.passes + 2 → q.frm = 2) := by
  dsimp only
  refine ⟨fun h hl => ?none, fun h m r hl => ?first, fun h hok => ?good, fun h hok hb => ?errored, fun h hok hb => ?lost,
    fun h hok hp => Port.frame_confirmed h (of_decide_eq_true hok) hp⟩
  case none =>
    rw [Port.frame_hunt h, hl]
    rfl
  case first =>
    rw [Port.frame_hunt h, hl, List.map_cons, (Port.settle_cons _ p).1, (Port.settle_cons _ p).2, if_neg (by omega)]
    exact ⟨rfl, rfl⟩
  case good =>
    rw [Port.frame_inFrame h, if_pos (of_decide_eq_true hok)]
    exact ⟨h, rfl⟩
  case errored =>
    rw [Port.frame_inFrame h, if_neg (of_decide_eq_false hok), if_neg (by omega)]
    exact ⟨h, rfl⟩
  case lost =>
    rw [Port.frame_inFrame h, if_neg (of_decide_eq_false hok), if_pos (by omega)]
    exact Port.settle_fresh hc _ _

theorem execRxLineFrame_next {n : Fin 32} {s : State} (b : List Byte) (he : (s.port n).en = true) (hd : (s.port n).def_ 1 = false) :
    exec (.rxLineFrame n b) s = .next (s.rxLine n b) :=
  congrArg Host.Outcome.next (if_pos (by simp [he, hd]))

theorem execRxLineFrame_idle {n : Fin 32} {s : State} (b : List Byte) (h : (s.port n).en = false ∨ (s.port n).def_ 1 = true) :
    exec (.rxLineFrame n b) s = .next s :=
  congrArg Host.Outcome.next (if_neg (by rcases h with h | h <;> simp [h]))

end Sys2Proof.Machine
end

section
/-! O36, transmit. A line frame as it is sent: its length, the framing pattern before everything that may be laid over it, and its B1
(03 R70, R76, R77, R89). -/

namespace Sys2Proof.Machine

/-! ### What is laid over a frame -/

theorem scrambleFrom_length (r : Nat) (l : List Byte) : (scrambleFrom r l).length = l.length := by
  induction l generalizing r with
  | nil => rfl
  | cons b l ih => rw [scrambleFrom, List.length_cons, ih, List.length_cons]

theorem scrambleFrame_length (n : Nat) (l : List Byte) : (scrambleFrame n l).length = l.length := by
  rw [scrambleFrame, List.length_append, scrambleFrom_length, ← List.length_append, List.take_append_drop]

/-- The first row of the RS overhead is not scrambled (R76). -/
theorem scrambleFrame_take {k n : Nat} {l : List Byte} (hk : k ≤ n) (hl : n ≤ l.length) : (scrambleFrame n l).take k = l.take k := by
  rw [scrambleFrame, List.take_append_of_le_length (by rw [List.length_take]; omega), List.take_take, Nat.min_eq_left hk]

theorem msAis_length (nn : Nat) (l : List Byte) : (msAis nn l).length = l.length := List.length_mapIdx

/-- MS-AIS leaves the RS overhead (R89). -/
theorem msAis_take {k nn : Nat} (hk : k ≤ 9 * nn) (l : List Byte) : (msAis nn l).take k = l.take k := by
  refine List.ext_getElem (by simp [msAis_length]) fun i hi _ => ?_
  rw [List.length_take] at hi
  have hrow : i / (270 * nn) = 0 := Nat.div_eq_of_lt (by omega)
  have hcol : i % (270 * nn) = i := Nat.mod_eq_of_lt (by omega)
  rw [List.getElem_take, List.getElem_take]
  simp only [msAis, List.getElem_mapIdx, hrow, hcol]
  exact if_pos ⟨by decide, by omega⟩

/-- The framing pattern: 3N times A1, 3N times A2 (R70). -/
theorem TxParts.frame_take (x : TxParts) :
    x.frame.take (6 * x.nn) = List.replicate (3 * x.nn) 0xF6 ++ List.replicate (3 * x.nn) 0x28 := by
  have hrow : x.frame = (List.range (9 * x.nn)).map (x.overhead 0) ++
      (interleave 87 (x.pay.map fun p => p.units.drop (87 * 0)) ++ ((List.range 8).map Nat.succ).flatMap x.row) := by
    rw [TxParts.frame, List.range_succ_eq_map, List.flatMap_cons, ← List.append_assoc]
    rfl
  rw [hrow, List.take_append_of_le_length (by rw [List.length_map, List.length_range]; omega)]
  refine List.ext_getElem (by simp; omega) fun i hi _ => ?_
  simp only [List.length_take, List.length_map, List.length_range] at hi
  rw [List.getElem_take, List.getElem_map, List.getElem_range, List.getElem_append]
  simp only [List.length_replicate, List.getElem_replicate, TxParts.overhead]
  split
  · rfl
  · exact if_pos (by omega)

/-! ### The frame sent -/

/-- The bytes on the line of a frame built from `x`: under MS-AIS where `ais`, unscrambled where `clear`. -/
def TxParts.sent (x : TxParts) (ais clear : Bool) : List Byte :=
  let plain := if ais then msAis x.nn x.frame else x.frame
  if clear then plain else scrambleFrame (9 * x.nn) plain

theorem TxParts.plain_length (x : TxParts) (ais : Bool) : (if ais then msAis x.nn x.frame else x.frame).length = x.frame.length := by
  split
  · exact msAis_length ..
  · rfl

theorem TxParts.plain_take (x : TxParts) (ais : Bool) :
    (if ais then msAis x.nn x.frame else x.frame).take (6 * x.nn) = x.frame.take (6 * x.nn) := by
  split
  · exact msAis_take (by omega) _
  · rfl

theorem TxParts.sent_length (x : TxParts) (ais clear : Bool) : (x.sent ais clear).length = x.frame.length := by
  unfold TxParts.sent
  dsimp only
  split
  · exact x.plain_length ais
  · rw [scrambleFrame_length, x.plain_length]

theorem TxParts.sent_take {x : TxParts} (hl : 9 * x.nn ≤ x.frame.length) (ais clear : Bool) :
    (x.sent ais clear).take (6 * x.nn) = x.frame.take (6 * x.nn) := by
  unfold TxParts.sent
  dsimp only
  split
  · exact x.plain_take ais
  · rw [scrambleFrame_take (by omega) (by rwa [x.plain_length]), x.plain_take]

/-- What a transmitter that is not idle leaves of a frame it starts (R56, R77). -/
theorem State.txFrame_port {n : Nat} {s : State} (h : s.txIdle n = false) : ∃ (x : TxParts) (ais clear : Bool), x.nn = s.portN n ∧
    List.Forall₂ (fun (p : TxPath) w => p.fits w) x.pay ((s.pathsOf n).map fun y => y.2) ∧
    ((s.txFrame n).port n).txFrame = x.sent ais clear ∧ ((s.txFrame n).port n).txAt = some s.stp.frame ∧
    ((s.txFrame n).port n).tx.b1 = bip8 (s.port n).txFrame ^^^ (if s.rb (lpt n 0x44) 2 then 1 else 0) := by
  have hpay : (State.genPaths n (s.pathsOf n) s).2.hide 8799314247684 = s.hide 8799314247684 := State.genPaths_frame _ (by decide) ..
  unfold State.txFrame
  rw [if_neg (by simp [h])]
  dsimp only
  generalize hu : (State.txDcc (2 * n + 1) 9 _ _).2 = u
  have huh : u.hide 8799314247684 = s.hide 8799314247684 := by
    rw [← hu, State.txDcc_frame _ (by decide), State.txDcc_frame _ (by decide), State.traceSend_frame _ (by decide), hpay]
  have hstp : u.stp = s.stp := stp_of_hide (hide_mono _ _ (by decide) huh)
  have hcfg : u.cfg = s.cfg := cfg_of_hide (hide_mono _ _ (by decide) huh)
  have hports : (State.genPaths n (s.pathsOf n) s).2.port n = s.port n := by
    unfold State.port
    rw [ports_of_hide (hide_mono _ _ (by decide) hpay)]
  have hrb : u.rb (lpt n 0x44) 2 = s.rb (lpt n 0x44) 2 := by
    unfold State.rb State.reg
    rw [hcfg]
  rw [State.modPort, State.setPort_get, hports, hstp, hrb]
  generalize hx : TxParts.mk _ _ _ _ _ _ _ _ _ _ _ _ = x
  have hnn : x.nn = s.portN n := by rw [← hx]
  refine ⟨x, u.rb (lpt n 0x44) 0, u.lptB n 0 5, hnn, ?fits, ?sent, rfl, rfl⟩
  case fits =>
    rw [← hx]
    exact genPaths_fits n (s.pathsOf n) s
  case sent => rw [TxParts.sent, hnn]

theorem State.txFrame_idle {n : Nat} {s : State} (h : s.txIdle n = true) :
    (s.txFrame n).port n = { s.port n with txFrame := [], txB2 := [], tx := {}, txAt := some s.stp.frame } := by
  unfold State.txFrame
  rw [if_pos h]
  exact State.setPort_get ..

theorem State.txStarts_iff {n : Nat} {s : State} : s.txStarts n = true ↔ ((s.port n).en = true ∧ s.stp.phase = s.txOffset n ∧
    s.stp.sub = 0 ∧ (s.port n).txAt ≠ some s.stp.frame) := by
  unfold State.txStarts
  simp only [Bool.and_eq_true, decide_eq_true_eq, and_assoc]

theorem execTxLineFrame_next {n : Fin 32} {s : State} (h : s.txStarts n = true) :
    exec (.txLineFrame n (s.txOffset n)) s = .next (s.txFrame n) := by
  obtain ⟨-, hp, -⟩ := State.txStarts_iff.1 h
  exact congrArg Host.Outcome.next (if_pos (by simp [h, hp]))

theorem execTxLineFrame_idle {n : Fin 32} {p : Nat} {s : State} (h : s.txStarts n = false ∨ p ≠ s.txOffset n) :
    exec (.txLineFrame n p) s = .next s := by
  refine congrArg Host.Outcome.next (if_neg fun ht => ?_)
  rw [Bool.and_eq_true, decide_eq_true_eq] at ht
  obtain ⟨hs, hp⟩ := ht
  obtain ⟨-, ho, -⟩ := State.txStarts_iff.1 hs
  exact h.elim (fun hf => Bool.noConfusion (hf.symm.trans hs)) fun hne => hne (hp.trans ho)

/-- Settles O36: transmit by the parts of the frame sent, receive by the framer's moves, which the rest of the frame time keeps. -/
theorem lineFrames : Obligations.LineFrames := by
  refine ⟨fun n s hs hi => ?sends, fun n s hs hi => ⟨_, execTxLineFrame_next hs, State.txFrame_idle hi⟩, fun n s => State.txStarts_iff,
    fun n p s h => execTxLineFrame_idle h, fun n b s he hd => ?receives, fun n b s h => execRxLineFrame_idle b h⟩
  case sends =>
    obtain ⟨x, ais, clear, hn, hpay, hsent, hat, hb1⟩ := State.txFrame_port hi
    have hlen : x.frame.length = 2430 * s.portN n := by
      rw [frame_length x _ hpay (by rw [pathsOf_sum, hn]), hn]
    refine ⟨_, execTxLineFrame_next hs, ?_, hat, ?_, hb1⟩
    · rw [hsent, x.sent_length, hlen]
    · rw [hsent, ← hn, TxParts.sent_take (by rw [hlen, hn]; omega), x.frame_take]
  case receives =>
    obtain ⟨hfrm, halign, hbad, hoof⟩ : _ ∧ _ ∧ _ ∧ _ := by
      simpa only [State.framing, Port.framing, Prod.mk.injEq] using s.rxLine_framing n b
    refine ⟨_, execRxLineFrame_next b he hd, ?_⟩
    dsimp only
    rw [hoof, hfrm, halign, hbad]
    exact ⟨rfl, Port.frame_moves (s.two_le_confirmN n) _⟩

end Sys2Proof.Machine
end

section
/-! O35, messages. A message that waits in the collector's queue waits on while the block posts more messages of its instant that do
not rank before it (13 R362, R363): what a port out of signal tells and breaks off. -/

namespace Sys2Proof.Machine

/-! ### A place in the queue -/

/-- A message stands within the queue's 64 entries, and none of its instant stands before it that ranks behind it. -/
def Placed (m : Msg) (l : List Msg) : Prop :=
  ∃ a b, l = a ++ m :: b ∧ a.length + b.length < 64 ∧ ∀ y ∈ a, y.at_ = m.at_ → msgRank y ≤ msgRank m

theorem Placed.mem {m : Msg} {l : List Msg} (h : Placed m l) : m ∈ l := by
  obtain ⟨a, b, rfl, -⟩ := h
  exact List.mem_append_right a List.mem_cons_self

/-- A message passes over those of its instant that do not rank behind it. -/
theorem insertMsg_append {x : Msg} {a : List Msg} (h : ∀ y ∈ a, y.at_ = x.at_ → msgRank y ≤ msgRank x) (b : List Msg) :
    insertMsg x (a ++ b) = a ++ insertMsg x b := by
  induction a with
  | nil => rfl
  | cons y a ih =>
    obtain ⟨hy, ha⟩ := List.forall_mem_cons.1 h
    rw [List.cons_append, insertMsg, if_neg fun hx => (hy hx.1).not_gt hx.2, ih ha, List.cons_append]

/-- A message enters at its place. -/
theorem insertMsg_place (m : Msg) (l : List Msg) :
    ∃ a b, insertMsg m l = a ++ m :: b ∧ a ++ b = l ∧ ∀ y ∈ a, y.at_ = m.at_ → msgRank y ≤ msgRank m := by
  induction l with
  | nil => exact ⟨[], [], rfl, rfl, fun _ h => absurd h List.not_mem_nil⟩
  | cons x l ih =>
    rw [insertMsg]
    split
    next => exact ⟨[], x :: l, rfl, rfl, fun _ h => absurd h List.not_mem_nil⟩
    next hx =>
      obtain ⟨a, b, he, rfl, ha⟩ := ih
      exact ⟨x :: a, b, congrArg (x :: ·) he, rfl, List.forall_mem_cons.2 ⟨fun ht => Nat.not_lt.1 fun hr => hx ⟨ht, hr⟩, ha⟩⟩

theorem placed_insertMsg (m : Msg) {l : List Msg} (h : l.length < 64) : Placed m (insertMsg m l) := by
  obtain ⟨a, b, he, rfl, ha⟩ := insertMsg_place m l
  exact ⟨a, b, he, by rwa [← List.length_append], ha⟩

/-- A later message of the same instant that does not rank before it leaves a message its place, in a full queue too. -/
theorem Placed.take_insertMsg {m x : Msg} {l : List Msg} (h : Placed m l) (ht : x.at_ = m.at_) (hr : msgRank m ≤ msgRank x) :
    Placed m ((insertMsg x l).take 64) := by
  obtain ⟨a, b, rfl, hl, ha⟩ := h
  obtain ⟨k, hk⟩ : ∃ k, 64 - a.length = k + 1 := ⟨63 - a.length, by omega⟩
  have hb : insertMsg x (m :: b) = m :: insertMsg x b := if_neg fun hx => hr.not_gt hx.2
  rw [insertMsg_append (fun y hy hyx => (ha y hy (hyx.trans ht)).trans hr), hb, List.take_append, hk, List.take_succ_cons,
    List.take_of_length_le (by omega)]
  refine ⟨a, _, rfl, ?_, ha⟩
  rw [List.length_take]
  omega

/-! ### A waiting message -/

/-- A message of the present instant waits for the collector. -/
def State.Waits (m : Msg) (s : State) : Prop := m.at_ = s.now ∧ Placed m s.flt.queue

/-- What leaves the queue and the story pole leaves what waits. -/
theorem waits_of_hide {m : Msg} {s t : State} (hw : s.Waits m) (h : t.hide 35184338532351 = s.hide 35184338532351) : t.Waits m := by
  have hp : t.hide 35184338534399 = s.hide 35184338534399 := hide_mono _ _ (by decide) h
  have hq : t.flt.queue = s.flt.queue := flt_queue_of_hide (hide_mono _ _ (by decide) h)
  unfold State.Waits State.now at *
  rwa [hq, stp_frame_of_hide hp, stp_phase_of_hide hp, stp_sub_of_hide hp]

theorem waits_ite {m : Msg} {c : Prop} [Decidable c] {s t : State} (hs : s.Waits m) (ht : t.Waits m) : (if c then s else t).Waits m := by
  split
  · exact hs
  · exact ht

theorem State.post_waits {m x : Msg} {s : State} (hw : s.Waits m) (hr : msgRank m ≤ msgRank x) : (s.post x).Waits m := by
  obtain ⟨ht, hp⟩ := hw
  have hq := hp.take_insertMsg (x := { x with at_ := s.now }) ht.symm hr
  unfold State.post
  dsimp only
  split
  next hl =>
    rw [List.take_of_length_le (by rw [insertMsg_length]; omega)] at hq
    exact ⟨ht, hq⟩
  next => exact ⟨ht, hq⟩

theorem State.raise_waits_self {k : Kind} {src addr data : Nat} {s : State} (hs : s.srcInReset src = false)
    (hq : s.flt.queue.length < 64) : (s.raise k src addr data).Waits
      { source := src, kind := k.code, cls := k.cls, addr := BitVec.ofNat 32 addr, data := BitVec.ofNat 64 data, at_ := s.now } := by
  refine ⟨?_, ?_⟩
  · unfold State.now
    rw [State.raise_stp]
  · rw [State.raise_queue hs hq]
    exact placed_insertMsg _ hq

/-! ### What ranks behind a contained message of a line port -/

section

variable {m : Msg} (hm : msgRank m ≤ 512 + 0x141)
include hm

/-- A NET event of any source. -/
theorem State.raiseU_waits {k : Kind} (hk : k.cls = 3) {mask : Bool} {src addr data : Nat} {s : State} (hw : s.Waits m) :
    (s.raiseU mask k src addr data).Waits m := by
  refine State.post_waits hw (hm.trans ?_)
  simp only [msgRank, hk]
  omega

theorem State.setDef_waits {n b : Nat} {k : Kind} (hk : k.cls = 3) {on : Bool} {s : State} (hw : s.Waits m) :
    (s.setDef n b k on).Waits m := by
  have hp : ∀ p c, (whenS c (fun s => s.seeDef 0 n (b - 1)) (s.setPort n p)).Waits m := fun p c =>
    waits_of_hide (s := s.setPort n p) hw (whenS_frame _ _ _ _ fun u => State.seeDef_frame _ (by decide) ..)
  unfold State.setDef
  exact waits_ite hw (State.raiseU_waits hm hk (hp _ _))

theorem State.traceLost_waits {n : Nat} {s : State} (hw : s.Waits m) : (s.traceLost 0 n).Waits m := by
  have hs : ∀ {i : Nat} {x : Trace} {u : State}, u.Waits m → (u.setTrace 0 i x).Waits m := fun h =>
    waits_of_hide h (State.setTrace_frame _ (by decide) ..)
  unfold State.traceLost
  exact waits_ite (State.setDef_waits hm rfl (hs (hs hw))) (hs hw)

theorem State.badDesc_waits {d : BufDesc} {s : State} (hw : s.Waits m) : (s.badDesc 7 0 d).Waits m := by
  have hb : ((s.writeBack 7 0 d 0 5).modRing 7 0 fun r => { r with descErr := true }).Waits m := by
    refine waits_of_hide hw ?_
    rw [State.modRing_frame _ (by decide), State.writeBack_frame _ (by decide)]
  unfold State.badDesc State.raise
  exact waits_ite hb (State.post_waits hb hm)

theorem State.oxWrite_waits {x : OxItem} {st : Nat} {s : State} (hw : s.Waits m) : (s.oxWrite x st).Waits m := by
  have hmod : ∀ {f : Dcc → Dcc} {u : State}, u.Waits m → (u.modDcc x.ch f).Waits m := fun h =>
    waits_of_hide h (State.modDcc_frame _ (by decide) ..)
  have hback : ∀ {n st : Nat} {u : State}, u.Waits m → (u.writeBack 7 0 x.buf n st).Waits m := fun h =>
    waits_of_hide h (State.writeBack_frame _ (by decide) ..)
  have hdma : ∀ {a : Nat} {l : List Byte}, (s.dma a l).Waits m := waits_of_hide hw (State.dma_frame _ (by decide) ..)
  unfold State.oxWrite
  refine waits_ite (State.badDesc_waits hm hw) (waits_ite (hback hw) ?_)
  exact waits_ite (hmod (hback hdma)) (waits_ite (State.raiseU_waits hm rfl (hmod (hmod (hback hdma)))) (hmod (hmod (hback hdma))))

theorem State.oxFlush_waits {fuel : Nat} {s : State} (hw : s.Waits m) : (s.oxFlush fuel).Waits m := by
  induction fuel generalizing s with
  | zero => exact hw
  | succ fuel ih =>
    unfold State.oxFlush
    split
    · exact hw
    split
    · exact hw
    · exact ih (State.oxWrite_waits hm hw)

theorem State.oxCancel_waits {p : OxItem → Bool} {s : State} (hw : s.Waits m) : (s.oxCancel p).Waits m :=
  State.oxFlush_waits hm hw

theorem State.dccCut_waits {ch : Nat} {s : State} (hw : s.Waits m) : (s.dccCut ch).Waits m := by
  unfold State.dccCut
  exact waits_ite hw (State.oxCancel_waits hm (waits_of_hide hw (State.modDcc_frame _ (by decide) ..)))

theorem State.losUpdate_waits {n : Nat} {s : State} (hw : s.Waits m) : (s.losUpdate n).Waits m := by
  have hlos : ∀ on, ((s.setDef n 1 .losL on).refLine n).Waits m := fun on =>
    waits_of_hide (State.setDef_waits hm rfl hw) (State.refLine_frame _ (by decide) ..)
  unfold State.losUpdate
  refine waits_ite ?_ (hlos _)
  refine State.dccCut_waits hm (State.dccCut_waits hm (State.traceLost_waits hm (State.setDef_waits hm rfl ?_)))
  exact waits_of_hide (hlos _) (State.modPort_frame _ (by decide) ..)

end

end Sys2Proof.Machine
end

section
/-! O35. The settings of a line port as written, and its defects LOS, LOF and OOF with the locks of its SerDes (02 R58; 03 R68, R69,
R74, R75, R92; 08 R223). -/

namespace Sys2Proof.Machine

/-! ### Registers as written -/

theorem regMask_lptCfg : ∀ n : Fin 32, regMask (lpt n 0) = 0x800000F7#32 := by decide

theorem regMask_portOffset : ∀ n : Fin 32, regMask (lpt n 0x40) = 0x87000FFF#32 := by decide

theorem regMask_groupOffset : ∀ g : Fin 8, regMask (0x1100 + 4 * g.val) = 0xFFF#32 := by decide

/-- The low `w` bits of a word are what its low field holds. -/
theorem wfld_low_congr {a b : Word} {w : Nat} (h : ∀ i < w, a.getLsbD i = b.getLsbD i) : wfld a 0 w = wfld b 0 w := by
  refine Nat.eq_of_testBit_eq fun i => ?_
  unfold wfld fld
  rw [Nat.testBit_mod_two_pow, Nat.testBit_mod_two_pow, Nat.shiftRight_zero, Nat.shiftRight_zero]
  by_cases hi : i < w
  · rw [show a.toNat.testBit i = b.toNat.testBit i from h i hi]
  · simp only [hi, decide_false, Bool.false_and]

/-- A write whose low `w` bits are all stored is read back there. -/
theorem State.regWrite_low {o w : Nat} (hm : ∀ i < w, (regMask o).getLsbD i = true) (v : Word) (s : State) :
    (s.regWrite o v).rf o 0 w = wfld v 0 w := by
  unfold State.rf State.regWrite
  rw [State.setReg_get]
  exact wfld_low_congr fun i hi => by simp [hm i hi]

theorem State.offsetWrite_low {o : Nat} (hm : ∀ i < 12, (regMask o).getLsbD i = true) (v : Word) (s : State) :
    (s.offsetWrite o v).rf o 0 12 = if wfld v 0 12 ≤ 2429 then wfld v 0 12 else s.rf o 0 12 := by
  unfold State.offsetWrite
  dsimp only
  rw [State.regWrite_low hm]
  split
  · rfl
  · have hlow : ∀ i < 12, (0xFFF#32).getLsbD i = true := by decide
    exact wfld_low_congr fun i hi => by
      simp only [BitVec.getLsbD_or, BitVec.getLsbD_and, BitVec.getLsbD_not, hlow i hi, Bool.not_true, Bool.and_false, Bool.false_or,
        Bool.and_true]

/-- An offset register takes an OFFSET up to 2429, and nothing else changes (R58). -/
theorem State.offsetWrite_spec {o : Nat} (hm : ∀ i < 12, (regMask o).getLsbD i = true) (v : Word) (s : State) :
    (s.offsetWrite o v).rf o 0 12 = (if wfld v 0 12 ≤ 2429 then wfld v 0 12 else s.rf o 0 12) ∧
      (∀ w, w ≠ o → (s.offsetWrite o v).reg w = s.reg w) ∧ (s.offsetWrite o v).ports = s.ports ∧ (s.offsetWrite o v).stp = s.stp :=
  ⟨State.offsetWrite_low hm v s, fun _ hw => State.setReg_get_other _ _ _ _ hw, rfl, rfl⟩

theorem State.portCfgWrite_free {n : Nat} {s : State} (he : (s.port n).en = false) (hp : s.pairOf n = none) (v : Word) :
    (s.portCfgWrite n v).reg (lpt n 0) = (s.reg (lpt n 0) &&& ~~~ regMask (lpt n 0)) ||| (v &&& regMask (lpt n 0)) := by
  unfold State.portCfgWrite
  simp only [he, hp, Option.isSome_none, Bool.or_self, if_neg Bool.false_ne_true, State.setReg_get, BitVec.ofNat_eq_ofNat,
    BitVec.or_zero, BitVec.not_zero, BitVec.and_allOnes]

/-- A port that is enabled or in a pair keeps RATE and MODE, and takes EN (R68, 08 R223). -/
theorem State.portCfgWrite_held {n : Fin 32} {s : State} (h : (s.port n).en = true ∨ (s.pairOf n).isSome = true) (v : Word) :
    wfld ((s.portCfgWrite n v).reg (lpt n 0)) 0 3 = wfld (s.reg (lpt n 0)) 0 3 ∧
      wbit ((s.portCfgWrite n v).reg (lpt n 0)) 31 = wbit v 31 := by
  have hc : ((s.port n).en || (s.pairOf n).isSome) = true := Bool.or_eq_true_iff.2 h
  have hlow : ∀ i < 3, (0x7#32).getLsbD i = true := by decide
  unfold State.portCfgWrite
  simp only [hc, if_true, State.setReg_get]
  refine ⟨wfld_low_congr fun i hi => ?_, ?_⟩
  · simp only [BitVec.getLsbD_or, BitVec.getLsbD_and, BitVec.getLsbD_not, hlow i hi, Bool.not_true, Bool.and_false, Bool.or_true,
      Bool.and_true, Bool.or_false]
  · simp [wbit, regMask_lptCfg]

/-! ### A defect of a port -/

/-- A port with defect `b` standing or not. -/
def Port.putDef (b : Nat) (on : Bool) (p : Port) : Port :=
  if p.def_ b = on then p
  else { p with defects := if on then p.defects ||| (1#10 <<< b) else p.defects &&& ~~~ (1#10 <<< b)
                sticky := if on then p.sticky ||| (1#10 <<< b) else p.sticky
                taint := p.taint || (on && (b = 1 || b = 2 || b = 3)) }

theorem State.setDef_port (n b : Nat) (k : Kind) (on : Bool) (s : State) : (s.setDef n b k on).port n = (s.port n).putDef b on := by
  unfold State.setDef Port.putDef
  dsimp only
  split
  · rfl
  · unfold State.port
    rw [ports_of_hide (State.raiseU_frame _ (by decide) ..),
      ports_of_hide (whenS_frame _ _ _ _ fun u => State.seeDef_frame _ (by decide) ..)]
    exact State.setPort_get ..

theorem Port.putDef_def {b : Nat} (hb : b < 10) (on : Bool) (p : Port) : (p.putDef b on).def_ b = on := by
  unfold Port.putDef
  split
  next h => exact h
  next => cases on <;> simp [Port.def_, hb]

theorem Port.putDef_def_other {b j : Nat} (hj : j < 10 ∧ j ≠ b) (on : Bool) (p : Port) : (p.putDef b on).def_ j = p.def_ j := by
  unfold Port.putDef
  split
  · rfl
  · unfold Port.def_
    cases on <;> simp <;> omega

/-! ### The signal of a port -/

/-- What LOS rests on: no signal, the receive PLL out of lock, the clock recovery in lock. -/
def Port.signal (p : Port) : Bool × Bool × Bool := (p.noSignal, p.rxLol, p.cdrLock)

/-- LOS stands exactly where a port has no signal or its receiver no lock (R69, R75, R92). -/
def Port.los (p : Port) : Bool := p.noSignal || p.rxLol || !p.cdrLock

theorem Port.putDef_signal (b : Nat) (on : Bool) (p : Port) : (p.putDef b on).signal = p.signal := by
  unfold Port.putDef
  split
  · rfl
  · rfl

theorem port_of_hide {s t : State} (h : t.hide 35183835217919 = s.hide 35183835217919) (n : Nat) : t.port n = s.port n := by
  unfold State.port
  rw [ports_of_hide h]

/-- The trace of a port that loses its layer clears TIM at most (R126). -/
theorem State.traceLost_port (n : Nat) (s : State) :
    (s.traceLost 0 n).port n = s.port n ∨ (s.traceLost 0 n).port n = (s.port n).putDef 6 false := by
  unfold State.traceLost
  dsimp only
  split
  · exact .inr (State.setDef_port ..)
  · exact .inl rfl

/-- What TIM is no part of stays when a port's trace loses its layer and its DCC bytes stop. -/
theorem State.traceLost_dccBreak_port {n : Nat} {s : State} {α : Type} (f : Port → α) (hf : ∀ p on, f (p.putDef 6 on) = f p) :
    f (((s.traceLost 0 n).dccBreak n).port n) = f (s.port n) := by
  rw [port_of_hide (State.dccBreak_frame _ (by decide) ..)]
  rcases s.traceLost_port n with h | h
  · rw [h]
  · rw [h, hf]

theorem State.losUpdate_signal (n : Nat) (s : State) : ((s.losUpdate n).port n).signal = (s.port n).signal ∧
    ((s.losUpdate n).port n).def_ 1 = (s.port n).los := by
  have hlos : ∀ on, (((s.setDef n 1 .losL on).refLine n).port n) = (s.port n).putDef 1 on := fun on =>
    (port_of_hide (State.refLine_frame _ (by decide) ..) n).trans (State.setDef_port ..)
  unfold State.losUpdate
  dsimp only
  split
  · rw [State.traceLost_dccBreak_port Port.signal fun p on => p.putDef_signal 6 on,
      State.traceLost_dccBreak_port (Port.def_ · 1) fun p on => p.putDef_def_other (by decide) on, State.setDef_port, Port.putDef_signal,
      Port.putDef_def_other (by decide), State.modPort, State.setPort_get, hlos]
    exact ⟨Port.putDef_signal .., Port.putDef_def (by decide) ..⟩
  · rw [hlos]
    exact ⟨Port.putDef_signal .., Port.putDef_def (by decide) ..⟩

theorem State.losUpdate_modPort (n : Nat) (f : Port → Port) (s : State) :
    (((s.modPort n f).losUpdate n).port n).signal = (f (s.port n)).signal ∧
      (((s.modPort n f).losUpdate n).port n).def_ 1 = (f (s.port n)).los := by
  have h := (s.modPort n f).losUpdate_signal n
  rwa [State.modPort, State.setPort_get] at h

/-- Under LOS the framer is held in HUNT, out of frame (R75). -/
theorem State.losUpdate_hunts {n : Nat} {s : State} (hd : ((s.losUpdate n).port n).def_ 1 = true) :
    ((s.losUpdate n).port n).frm = 0 ∧ ((s.losUpdate n).port n).def_ 2 = true := by
  have h : ((s.port n).noSignal || (s.port n).rxLol || !(s.port n).cdrLock) = true := (s.losUpdate_signal n).2.symm.trans hd
  have hf : ∃ a, (s.losUpdate n).framing n = (0, a, 0, true) := by
    unfold State.losUpdate
    dsimp only
    rw [if_pos h, State.dccBreak_framing, State.traceLost_framing, State.modPort, State.setOof_framing]
    exact ⟨_, rfl⟩
  obtain ⟨a, ha⟩ := hf
  exact ⟨congrArg (·.1) ha, congrArg (·.2.2.2) ha⟩

/-! ### LOF (R74) -/

theorem State.lofTest_raises {n : Nat} {s : State} (he : (s.port n).en = true) (hd : (s.port n).def_ 3 = false)
    (hi : 24 ≤ (s.port n).oofInt) : ((s.lofTest n).port n).def_ 3 = true := by
  unfold State.lofTest
  dsimp only
  rw [if_neg (by simp [he]), if_pos (by simp [hd, hi]),
    State.traceLost_dccBreak_port (Port.def_ · 3) fun p on => p.putDef_def_other (by decide) on,
    port_of_hide (State.refLine_frame _ (by decide) ..), State.setDef_port]
  exact Port.putDef_def (by decide) ..

theorem State.lofTest_clears {n : Nat} {s : State} (he : (s.port n).en = true) (hd : (s.port n).def_ 3 = true)
    (hi : 24 ≤ (s.port n).inRun) : ((s.lofTest n).port n).def_ 3 = false := by
  unfold State.lofTest
  dsimp only
  rw [if_neg (by simp [he]), if_neg (by simp [hd]), if_pos (by simp [hd, hi]),
    port_of_hide (State.refLine_frame _ (by decide) ..), State.setDef_port]
  exact Port.putDef_def (by decide) ..

/-! ### The locks of the SerDes (R92) -/

/-- A receive PLL that loses lock. -/
def State.rxUnlock (n : Nat) (s : State) : State :=
  (s.modPort n (fun p => { p with rxLol := true, cdrLock := false })).raise .serdesLol n 0 0

theorem State.rxUnlock_port (n : Nat) (s : State) : (s.rxUnlock n).port n = { s.port n with rxLol := true, cdrLock := false } :=
  (port_of_hide (State.raise_frame _ (by decide) ..) n).trans (State.setPort_get ..)

/-- SERDES_LOL of the receiver of port `n` waits behind all that LOS tells and breaks off. -/
theorem State.rxUnlock_waits (n : Fin 32) {s : State} (hq : s.flt.queue.length < 64) : ((s.rxUnlock n).losUpdate n).Waits
    { source := n, kind := Kind.serdesLol.code, cls := 1, addr := 0, data := 0, at_ := s.now } := by
  have hself : (s.rxUnlock n).Waits { source := n, kind := Kind.serdesLol.code, cls := 1, addr := 0, data := 0, at_ := s.now } :=
    State.raise_waits_self (s := s.modPort n fun p => { p with rxLol := true, cdrLock := false })
      (State.srcInReset_of_lt (n.isLt.trans (by decide))) hq
  refine State.losUpdate_waits ?_ hself
  show 1 * 512 + (n : Nat) ≤ 512 + 0x141
  omega

theorem execLosL_next {n : Fin 32} {s : State} (he : (s.port n).en = true) (a : Bool) :
    exec (.losL n a) s = .next ((s.modPort n fun p => { p with noSignal := a }).losUpdate n) :=
  congrArg Host.Outcome.next (if_pos he)

theorem execSerdesLol_rx {n : Fin 32} {s : State} (he : (s.port n).en = true) (hl : (s.port n).rxLol = false) :
    exec (.serdesLol n true) s = .next ((s.rxUnlock n).losUpdate n) :=
  congrArg Host.Outcome.next ((if_neg (by simp [he])).trans ((if_pos rfl).trans (if_neg (by simp [hl]))))

theorem execSerdesLol_tx {n : Fin 32} {s : State} (he : (s.port n).en = true) (hl : (s.port n).txLol = false) :
    exec (.serdesLol n false) s = .next ((s.modPort n fun p => { p with txLol := true, txLock := false, txFrame := [], txB2 := [] }).raise
      .serdesLol n 0 0) :=
  congrArg Host.Outcome.next ((if_neg (by simp [he])).trans ((if_neg Bool.false_ne_true).trans (if_neg (by simp [hl]))))

theorem execSerdesLock_next {n : Fin 32} {s : State} (he : (s.port n).en = true) (rx : Bool) : exec (.serdesLock n rx) s = .next
    (if rx then (s.modPort n fun p => { p with rxLol := false, cdrLock := true }).losUpdate n
      else s.modPort n fun p => { p with txLol := false, txLock := true }) :=
  congrArg Host.Outcome.next (if_neg (by simp [he]))

/-! ### The obligation -/

/-- Settles O35: the writes by what they store, LOF and LOS by the defect they set and what leaves it, SERDES_LOL by its place in the
queue, which the messages of the LOS that follows do not take. -/
theorem portSettingsAndDefects : Obligations.PortSettingsAndDefects := by
  refine ⟨⟨fun n v s => ?cfg, fun r v s => ?offset⟩, fun n s he hd hi => ⟨_, rfl, State.lofTest_raises he hd hi⟩,
    fun n s he hd hi => ⟨_, rfl, State.lofTest_clears he hd hi⟩, fun n a s he => ⟨_, execLosL_next he a, ?los⟩,
    fun n s he hl hq => ⟨_, execSerdesLol_rx he hl, ?rxLol⟩, fun n s he hl hq => ⟨_, execSerdesLol_tx he hl, ?txLol⟩,
    fun n s he => ⟨_, execSerdesLock_next he true, ?rxLock⟩, fun n s he => ⟨_, execSerdesLock_next he false, State.setPort_get .., rfl⟩⟩
  case cfg =>
    exact ⟨_, rfl, rfl, fun _ hw => State.setReg_get_other _ _ _ _ hw, fun he hp => State.portCfgWrite_free he hp v,
      fun h => State.portCfgWrite_held h v⟩
  case offset =>
    have hlow : ∀ i < 12, (0x87000FFF#32).getLsbD i = true ∧ (0xFFF#32).getLsbD i = true := by decide
    cases r with
    | port n => exact ⟨_, rfl, State.offsetWrite_spec (fun i hi => by rw [regMask_portOffset, (hlow i hi).1]) v s⟩
    | group g => exact ⟨_, rfl, State.offsetWrite_spec (fun i hi => by rw [regMask_groupOffset, (hlow i hi).2]) v s⟩
  case los =>
    obtain ⟨hsig, hdef⟩ := s.losUpdate_modPort n fun p => { p with noSignal := a }
    exact ⟨congrArg (·.1) hsig, hdef, State.losUpdate_hunts⟩
  case rxLol =>
    obtain ⟨hsig, hdef⟩ := (s.rxUnlock n).losUpdate_signal n
    rw [State.rxUnlock_port] at hsig hdef
    refine ⟨congrArg (·.2.1) hsig, congrArg (·.2.2) hsig, hdef.trans ?_, (State.rxUnlock_waits n hq).2.mem⟩
    simp [Port.los]
  case txLol =>
    set u := s.modPort n fun p => { p with txLol := true, txLock := false, txFrame := [], txB2 := [] }
    have hu : (u.raise .serdesLol n 0 0).port n = { s.port n with txLol := true, txLock := false, txFrame := [], txB2 := [] } :=
      (port_of_hide (State.raise_frame _ (by decide) ..) n).trans (State.setPort_get ..)
    refine ⟨by rw [hu], by rw [hu], ?_, State.raise_queue (State.srcInReset_of_lt (n.isLt.trans (by decide))) hq⟩
    rw [State.txIdle, hu, Bool.or_true]
  case rxLock =>
    obtain ⟨hsig, hdef⟩ := s.losUpdate_modPort n fun p => { p with rxLol := false, cdrLock := true }
    refine ⟨congrArg (·.2.1) hsig, congrArg (·.2.2) hsig, hdef.trans ?_⟩
    simp [Port.los]

end Sys2Proof.Machine
end

section
/-! O32. The maps between paths: XC_SET by the fields of its entries, LOMAP_SET by its VC-4 and the H4 multiframes that it lets be
hunted again, HOP.STRUCT by the words of both ports of a line pair. -/

namespace Sys2Proof.Machine

/-! ### What lets a command be carried out -/

/-- The tests of the operands and of the executor that a command carried out has passed (10 R288). -/
theorem Carries.passed {c : Cmd} {s : State} (h : Carries c s) : staticTest c = none ∧ s.execReady c = true := by
  obtain ⟨-, hstop⟩ := h
  unfold State.stops at hstop
  split at hstop
  · cases hstop
  next hst =>
    refine ⟨hst, ?_⟩
    split at hstop
    · cases hstop
    next hx =>
      simp only [State.canExec, Bool.not_eq_true', Bool.not_eq_false, Bool.and_eq_true] at hx
      exact hx.1

/-! ### The entries of a connection (04 Table PA-3) -/

theorem xcWidth_code {w : Nat} (h : widthOk w = true) : xcWidthCode w < 8 ∧ xcWidth (xcWidthCode w) = w := by
  simp only [widthOk, Bool.or_eq_true, decide_eq_true_eq] at h
  obtain ((rfl | rfl) | rfl) | rfl := h <;> decide

/-- No connection ends beyond the slots that 13 bits name. -/
theorem slotEnd_le {x : Nat} (h : x ≤ 8177) : slotEnd x ≤ 8192 := by
  unfold slotEnd
  split_ifs <;> omega

/-- What the static tests of XC_SET leave (04 R103). -/
theorem xcOk_bounds {o : XcOp} (h : xcOk o = true) : widthOk o.width = true ∧ o.force ≤ 2 ∧
    ∀ i < o.width, (if o.sel then o.src else o.src + i) < 8192 := by
  simp only [xcOk, firstSlotOk, Bool.and_eq_true, decide_eq_true_eq] at h
  obtain ⟨⟨⟨-, ⟨hw, -⟩, -⟩, hf⟩, hs⟩ := h
  refine ⟨hw, hf, fun i hi => ?_⟩
  split at hs
  next hsel =>
    rw [if_pos hsel]
    have := of_decide_eq_true hs
    omega
  next hsel =>
    rw [if_neg hsel]
    simp only [Bool.and_eq_true, decide_eq_true_eq] at hs
    have := slotEnd_le hs.1
    omega

theorem putB_eq (b : Bool) (lo : Nat) : putB b lo = b2n b * 2 ^ lo := by
  cases b
  · exact (Nat.zero_mul _).symm
  · exact Nat.shiftLeft_eq ..

theorem put_eq {v w : Nat} (lo : Nat) (h : v < 2 ^ w) : put v lo w = v * 2 ^ lo := by
  rw [put, Nat.mod_eq_of_lt h, Nat.shiftLeft_eq]

/-- The fields of an entry do not overlap. -/
theorem xcEntry_fields {o : XcOp} {i : Nat} (h : xcOk o = true) (hi : i < o.width) :
    wbit (xcEntry o i) 21 = decide (i = 0) ∧ xcWidth (wfld (xcEntry o i) 18 3) = o.width ∧ wfld (xcEntry o i) 16 2 = o.force ∧
      wbit (xcEntry o i) 15 = o.en ∧ wbit (xcEntry o i) 14 = o.sel ∧
      wfld (xcEntry o i) 0 13 = (if o.sel then o.src else o.src + i) := by
  obtain ⟨hw, hf, hx⟩ := xcOk_bounds h
  obtain ⟨hc, hcw⟩ := xcWidth_code hw
  have hsrc := hx i hi
  have hbit : ∀ b, b2n b < 2 := by decide
  have hwbit : ∀ (v : Word) (j : Nat) (b : Bool), v.toNat / 2 ^ j % 2 = b2n b → wbit v j = b := fun v j b hv => by
    rw [wbit, ← BitVec.testBit_toNat, Nat.testBit_eq_decide_div_mod_eq, hv]
    cases b <;> rfl
  have hz := hbit (decide (i = 0))
  have he := hbit o.en
  have hs := hbit o.sel
  have hv : (xcEntry o i).toNat = b2n (decide (i = 0)) * 2 ^ 21 + xcWidthCode o.width * 2 ^ 18 + o.force * 2 ^ 16 + b2n o.en * 2 ^ 15
      + b2n o.sel * 2 ^ 14 + (if o.sel then o.src else o.src + i) := by
    rw [xcEntry, putB_eq, put_eq 18 (by omega), put_eq 16 (by omega), putB_eq, putB_eq, put_eq 0 (by omega), BitVec.toNat_ofNat,
      Nat.mod_eq_of_lt (by omega), Nat.pow_zero, Nat.mul_one]
  generalize (if o.sel then o.src else o.src + i) = x at *
  refine ⟨hwbit _ _ _ ?_, (congrArg xcWidth ?_).trans hcw, ?_, hwbit _ _ _ ?_, hwbit _ _ _ ?_, ?_⟩ <;>
    simp only [wfld, fld, Nat.shiftRight_eq_div_pow, hv] <;> omega

/-! ### XC_SET (04 R103) -/

theorem State.xcSet_page (o : XcOp) (s : State) (k : Nat) : (s.xcSet o).xcPage (!s.hop.active) k =
    if o.dest ≤ k ∧ k < o.dest + o.width then xcEntry o (k - o.dest) else s.xcPage (!s.hop.active) k := by
  have h : (s.xcSet o).xcTab (!s.hop.active) = tsetRun 0 (s.xcTab (!s.hop.active)) o.dest o.width (xcEntry o) := State.setXcPage_get ..
  exact (congrArg (tget 0 · k) h).trans (tget_tsetRun ..)

theorem State.xcSet_active (o : XcOp) (s : State) : (s.xcSet o).xcTab s.hop.active = s.xcTab s.hop.active ∧
    (s.xcSet o).hop.active = s.hop.active := by
  have hother := State.setXcPage_get_other s (!s.hop.active) (tsetRun 0 (s.xcTab (!s.hop.active)) o.dest o.width (xcEntry o))
  have hactive : ∀ b t, (s.setXcPage b t).hop.active = s.hop.active := fun b t => by cases b <;> rfl
  rw [Bool.not_not] at hother
  exact ⟨hother, hactive ..⟩

/-! ### LOMAP_SET (05 R132) -/

/-- The H4 multiframes of a VC-4 are hunted again. -/
def huntH4 (m : Nat) (t : Tab H4) : Tab H4 :=
  [3 * m, 3 * m + 1, 3 * m + 2].foldl (fun t k => tmod {} t k fun h => { h with inMf := false, run := 0, outN := 0, inN := 0 }) t

/-- The VC-4 as set; the TU interpreters that begin again are no part of it. -/
theorem State.lomapSet_vc4 (m st tu11 : Nat) (s : State) :
    (s.lomapSet m st tu11).vc4s = tset {} s.vc4s m { struct := st, tu11 := tu11 } ∧
      (s.lomapSet m st tu11).h4s = if (s.vc4 m).struct = st then s.h4s else huntH4 m s.h4s := by
  unfold State.lomapSet
  dsimp only
  generalize hu : foldS (List.range 21) _ _ = u
  have hkeep : ∀ {β : Type} (f : State → β), (∀ g k v, f (State.dropTus m g k v) = f v) →
      f u = f { s with vc4s := tset {} s.vc4s m { struct := st, tu11 := tu11 } } := fun f hf => by
    rw [← hu]
    exact foldS_keeps f _ _ (fun i v => by split; exacts [hf .., rfl]) _
  have hv : u.vc4s = tset {} s.vc4s m { struct := st, tu11 := tu11 } := hkeep (·.vc4s) fun _ _ _ => rfl
  have hh : u.h4s = s.h4s := hkeep (·.h4s) fun _ _ _ => rfl
  split
  · exact ⟨hv, hh⟩
  · rw [← hv, ← hh]
    exact ⟨rfl, rfl⟩

/-- A multiframe hunted again is out of step, with LOM as it stood. -/
theorem tget_huntH4 {m k : Nat} (hk : k / 3 = m) (t : Tab H4) :
    (tget {} (huntH4 m t) k).inMf = false ∧ (tget {} (huntH4 m t) k).lom = (tget {} t k).lom := by
  have hset : ∀ (u : Tab H4) (x : H4), tget {} (tset {} u k x) k = x := fun u x => tget_tset_same ..
  have hoth : ∀ (u : Tab H4) (j : Nat) (x : H4), k ≠ j → tget {} (tset {} u j x) k = tget {} u k := fun u j x h => tget_tset_other _ _ _ _ _ h
  simp only [huntH4, List.foldl_cons, List.foldl_nil, tmod]
  have hk3 : k = 3 * m ∨ k = 3 * m + 1 ∨ k = 3 * m + 2 := by omega
  rcases hk3 with h | h | h
  · rw [hoth _ _ _ (by omega), hoth _ _ _ (by omega), ← h, hset]
    exact ⟨rfl, rfl⟩
  · rw [hoth _ (3 * m + 2) _ (by omega), ← h, hset, hoth _ (3 * m) _ (by omega)]
    exact ⟨rfl, rfl⟩
  · rw [← h, hset, hoth _ (3 * m + 1) _ (by omega), hoth _ (3 * m) _ (by omega)]
    exact ⟨rfl, rfl⟩

/-! ### HOP.STRUCT (04 R96; 08 R223) -/

/-- A word of a line pair's structure is stored for both of its ports. -/
theorem State.structWrite_pair {n i : Nat} {s : State} (h : s.pairOf n = some i) (w : Nat) (v : Word) :
    (s.structWrite n w v).reg (0x20100 + 0x10 * (s.group 0 i).op.w + 4 * w) = v ∧
      (s.structWrite n w v).reg (0x20100 + 0x10 * (s.group 0 i).op.p + 4 * w) = v := by
  rw [State.structWrite, h]
  dsimp only
  refine ⟨?_, State.setReg_get ..⟩
  by_cases he : 0x20100 + 0x10 * (s.group 0 i).op.w + 4 * w = 0x20100 + 0x10 * (s.group 0 i).op.p + 4 * w
  · rw [he, State.setReg_get]
  · rw [State.setReg_get_other _ _ _ _ he, State.setReg_get]

/-! ### The obligation -/

/-- Settles O32: XC_SET by `xcEntry_fields`, LOMAP_SET by `lomapSet_vc4`, HOP.STRUCT by `structWrite_pair`. -/
theorem mapCommands : Obligations.MapCommands := by
  unfold Obligations.MapCommands
  refine ⟨fun h o s hc => ⟨rfl, hc.does (u := s.xcSet o) rfl rfl rfl rfl fun l p hd => ⟨hd, fun i hi => ?entry, fun k hk => ?other,
    State.xcSet_active o s⟩⟩,
    fun h m st tu11 s hc => hc.follows (u := s.lomapSet m st tu11) rfl rfl rfl ?lomap, fun n w v s => ⟨_, rfl, ?struct⟩⟩
  case entry =>
    have hok : xcOk o = true := by
      simpa [staticTest] using hc.passed.1
    have hpage := State.xcSet_page o s (o.dest + i)
    rw [if_pos (by omega), Nat.add_sub_cancel_left] at hpage
    simp only [withComps_xcPage_eq, withPmc_xcPage_eq, hpage]
    exact xcEntry_fields hok hi
  case other =>
    exact (State.xcSet_page o s k).trans (if_neg (by omega))
  case lomap =>
    intro l p hd
    obtain ⟨hv, hh⟩ := State.lomapSet_vc4 m st tu11 s
    obtain ⟨f, hx⟩ := State.xcCheck_eq (s.lomapSet m st tu11)
    rw [show s.follow (.lomapSet m st tu11) (s.lomapSet m st tu11) = _ from hx] at hd ⊢
    refine ⟨hd, ?_, fun k hk => ?_, fun he => ?_, fun he k hk => ?_⟩
    · exact (congrArg (tget {} · m) hv).trans (tget_tset_same ..)
    · exact (congrArg (tget {} · k) hv).trans (tget_tset_other _ _ _ _ _ hk)
    · exact hh.trans (if_pos he)
    · have ht := tget_huntH4 hk s.h4s
      rw [if_neg he] at hh
      rw [← hh] at ht
      exact ht
  case struct =>
    refine ⟨?_, fun hn => ?_, fun i hi => State.structWrite_pair hi w v⟩
    · exact hop_of_hide (State.structWrite_frame _ (by decide) ..)
    · rw [State.structWrite, hn]
      exact State.setReg_get ..

end Sys2Proof.Machine
end

section
/-! O28 and O34, defects. A defect of an HO or LO path as it is set, and that a path's other defects and everything else of the
path's monitor stay (04 R115, R122, R129). -/

namespace Sys2Proof.Machine

/-! ### A defect of an HO path -/

/-- A path with defect `b` standing or not. -/
def HoPath.putDef (b : Nat) (on : Bool) (p : HoPath) : HoPath :=
  if p.def_ b = on then p else { p with defects := if on then p.defects ||| (1#8 <<< b) else p.defects &&& ~~~ (1#8 <<< b) }

theorem HoPath.putDef_eq (b : Nat) (on : Bool) (p : HoPath) : p.putDef b on = { p with defects := (p.putDef b on).defects } := by
  unfold HoPath.putDef
  split
  · rfl
  · rfl

theorem HoPath.putDef_def {b : Nat} (hb : b < 8) (on : Bool) (p : HoPath) : (p.putDef b on).def_ b = on := by
  unfold HoPath.putDef
  split
  next h => exact h
  next => cases on <;> simp [HoPath.def_, hb]

theorem HoPath.putDef_def_other {b j : Nat} (hj : j < 8 ∧ j ≠ b) (on : Bool) (p : HoPath) : (p.putDef b on).def_ j = p.def_ j := by
  unfold HoPath.putDef
  split
  · rfl
  · unfold HoPath.def_
    cases on <;> simp <;> omega

theorem State.setPathDef_hop (k b : Nat) (kind : Kind) (on : Bool) (s : State) :
    (s.setPathDef k b kind on).hop = s.hop ∧ (s.path k).def_ b = on ∨
      (s.setPathDef k b kind on).hop = (s.setPath k ((s.path k).putDef b on)).hop := by
  unfold State.setPathDef HoPath.putDef
  dsimp only
  split
  next h => exact .inl ⟨rfl, h⟩
  next h =>
    right
    split
    · rw [hop_of_hide (State.raiseU_frame _ (by decide) ..), hop_of_hide (State.seeDef_frame _ (by decide) ..)]
    · rfl

theorem State.setPathDef_path (k b : Nat) (kind : Kind) (on : Bool) (s : State) :
    (s.setPathDef k b kind on).path k = (s.path k).putDef b on := by
  unfold State.path
  rcases s.setPathDef_hop k b kind on with ⟨h, hb⟩ | h
  · rw [h]
    exact (if_pos hb).symm
  · rw [h]
    exact State.setPath_get ..

/-! ### A defect of an LO path -/

/-- An LO path with defect `b` standing or not. -/
def LoPath.putDef (b : Nat) (on : Bool) (p : LoPath) : LoPath :=
  if p.def_ b = on then p else { p with defects := if on then p.defects ||| (1#8 <<< b) else p.defects &&& ~~~ (1#8 <<< b) }

theorem LoPath.putDef_def {b : Nat} (hb : b < 8) (on : Bool) (p : LoPath) : (p.putDef b on).def_ b = on := by
  unfold LoPath.putDef
  split
  next h => exact h
  next => cases on <;> simp [LoPath.def_, hb]

theorem LoPath.putDef_def_other {b j : Nat} (hj : j < 8 ∧ j ≠ b) (on : Bool) (p : LoPath) : (p.putDef b on).def_ j = p.def_ j := by
  unfold LoPath.putDef
  split
  · rfl
  · unfold LoPath.def_
    cases on <;> simp <;> omega

theorem State.setLoDef_lo (t b : Nat) (kind : Kind) (on : Bool) (s : State) : (s.setLoDef t b kind on).lo t = (s.lo t).putDef b on := by
  unfold State.setLoDef LoPath.putDef
  dsimp only
  split
  · rfl
  · unfold State.lo
    rw [los_of_hide (State.raiseU_frame _ (by decide) ..), los_of_hide (State.seeDef_frame _ (by decide) ..)]
    exact State.setLo_get ..

/-! ### Messages that wait -/

theorem State.raiseU_queue {masked : Bool} {k : Kind} {src addr data : Nat} {s : State} (hq : s.flt.queue.length < 64) :
    (s.raiseU masked k src addr data).flt.queue = insertMsg
      { source := src, kind := k.code, cls := k.cls, addr := BitVec.ofNat 32 addr, data := BitVec.ofNat 64 data, at_ := s.now,
        masked := masked } s.flt.queue := by
  unfold State.raiseU State.post
  dsimp only
  rw [if_pos hq]

theorem State.mem_raiseU {masked : Bool} {k : Kind} {src addr data : Nat} {s : State} (hq : s.flt.queue.length < 64) :
    ({ source := src, kind := k.code, cls := k.cls, addr := BitVec.ofNat 32 addr, data := BitVec.ofNat 64 data, at_ := s.now,
       masked := masked } : Msg) ∈ (s.raiseU masked k src addr data).flt.queue := by
  rw [State.raiseU_queue hq]
  exact mem_insertMsg.2 (.inl rfl)

/-- A message writes the fault state alone. -/
theorem State.raiseU_eq (masked : Bool) (k : Kind) (src addr data : Nat) (s : State) :
    ∃ f, s.raiseU masked k src addr data = { s with flt := f } := by
  unfold State.raiseU State.post
  dsimp only
  split
  · exact ⟨_, rfl⟩
  · exact ⟨_, rfl⟩

/-- A change of state, and a NET event about it, keep every message that waits where one more has a place. -/
theorem State.mem_raiseU_queue {masked : Bool} {k : Kind} {src addr data : Nat} {s t : State} {x : Msg}
    (ht : t.flt.queue = s.flt.queue) (hq : s.flt.queue.length < 64) (hx : x ∈ s.flt.queue) :
    x ∈ (t.raiseU masked k src addr data).flt.queue := by
  rw [State.raiseU_queue (by rwa [ht]), ht]
  exact mem_insertMsg.2 (.inr hx)

theorem State.mem_setDef_queue {n b : Nat} {k : Kind} {on : Bool} {s : State} {x : Msg} (hq : s.flt.queue.length < 64)
    (hx : x ∈ s.flt.queue) : x ∈ (s.setDef n b k on).flt.queue := by
  unfold State.setDef
  dsimp only
  split
  · exact hx
  · refine State.mem_raiseU_queue (flt_queue_of_hide ?_) hq hx
    exact (whenS_frame _ _ _ _ fun u => State.seeDef_frame _ (by decide) ..).trans (State.setPort_frame _ (by decide) ..)

theorem State.mem_setPathDef_queue {k b : Nat} {kind : Kind} {on : Bool} {s : State} {x : Msg} (hq : s.flt.queue.length < 64)
    (hx : x ∈ s.flt.queue) : x ∈ (s.setPathDef k b kind on).flt.queue := by
  unfold State.setPathDef
  dsimp only
  split
  · exact hx
  split
  · refine State.mem_raiseU_queue (flt_queue_of_hide ?_) hq hx
    exact (State.seeDef_frame _ (by decide) ..).trans (State.setPath_frame _ (by decide) ..)
  · exact hx

theorem State.mem_setLoDef_queue {t b : Nat} {kind : Kind} {on : Bool} {s : State} {x : Msg} (hq : s.flt.queue.length < 64)
    (hx : x ∈ s.flt.queue) : x ∈ (s.setLoDef t b kind on).flt.queue := by
  unfold State.setLoDef
  dsimp only
  split
  · exact hx
  · refine State.mem_raiseU_queue (flt_queue_of_hide ?_) hq hx
    exact (State.seeDef_frame _ (by decide) ..).trans (State.setLo_frame _ (by decide) ..)

end Sys2Proof.Machine
end

section
/-! O34. Traces: TIM follows its entry and never tells whether the entry's layer is lost; TRACE_SET, TRACE_READ and the OP's acceptance
come to that (04 R123-R128). -/

namespace Sys2Proof.Machine

/-! ### TIM (R126) -/

theorem State.setTim_scribe (k i : Nat) (on : Bool) (s : State) :
    (s.setTim k i on).scribe = (s.setTrace k i { s.trace k i with tim := on }).scribe := by
  unfold State.setTim
  dsimp only
  split
  · exact scribe_of_hide (State.setDef_frame _ (by decide) ..)
  · split
    · exact scribe_of_hide (State.setPathDef_frame _ (by decide) ..)
    · rfl
  · exact scribe_of_hide (State.setLoDef_frame _ (by decide) ..)

theorem State.setTim_trace (k i : Nat) (on : Bool) (s : State) : (s.setTim k i on).trace k i = { s.trace k i with tim := on } := by
  unfold State.trace
  rw [State.setTim_scribe]
  exact State.setTrace_get ..

theorem State.setTim_trace_other {k i j n : Nat} (h : traceKey j n ≠ traceKey k i) (on : Bool) (s : State) :
    (s.setTim k i on).trace j n = s.trace j n := by
  unfold State.trace
  rw [State.setTim_scribe]
  exact State.setTrace_get_other _ _ _ _ _ _ h

theorem State.setTrace_layerLost {k i : Nat} {x : Trace} {s : State} (h : x.rx = (s.trace k i).rx) (j n : Nat) :
    (s.setTrace k i x).layerLost j n = s.layerLost j n := by
  have hrx : ((s.setTrace k i x).trace 1 n).rx = (s.trace 1 n).rx := by
    by_cases hk : traceKey 1 n = traceKey k i
    · unfold State.trace at *
      rw [hk, ← h]
      exact congrArg Trace.rx (State.setTrace_get ..)
    · rw [State.setTrace_get_other _ _ _ _ _ _ hk]
  unfold State.layerLost
  split
  · rfl
  · rw [hrx]
    rfl
  · rfl

/-- TIM is no defect that a layer is lost by. -/
theorem State.setTim_layerLost (k i : Nat) (on : Bool) (s : State) : (s.setTim k i on).layerLost k i = s.layerLost k i := by
  rw [← State.setTrace_layerLost (k := k) (i := i) (x := { s.trace k i with tim := on }) rfl]
  unfold State.setTim
  dsimp only
  generalize s.setTrace k i { s.trace k i with tim := on } = u
  split
  · simp only [State.layerLost, State.setDef_port, Port.putDef_def_other (b := 6) (show 1 < 10 ∧ 1 ≠ 6 by decide),
      Port.putDef_def_other (b := 6) (show 3 < 10 ∧ 3 ≠ 6 by decide), Port.putDef_def_other (b := 6) (show 4 < 10 ∧ 4 ≠ 6 by decide)]
  · cases hr : (u.trace 1 i).rx with
    | none => rfl
    | some x =>
      have ht : ((u.setPathDef (192 * x.1 + x.2) 4 .timJ1 on).trace 1 i).rx = some x := by
        unfold State.trace at *
        rw [scribe_of_hide (State.setPathDef_frame _ (by decide) ..), hr]
      simp only [State.layerLost, hr, ht, State.setPathDef_path, HoPath.putDef_def_other (b := 4) (show 0 < 8 ∧ 0 ≠ 4 by decide),
        HoPath.putDef_def_other (b := 4) (show 1 < 8 ∧ 1 ≠ 4 by decide)]
  · simp only [State.layerLost, State.setLoDef_lo, LoPath.putDef_def_other (b := 4) (show 0 < 8 ∧ 0 ≠ 4 by decide),
      LoPath.putDef_def_other (b := 4) (show 1 < 8 ∧ 1 ≠ 4 by decide)]

theorem State.mem_setTim_queue {k i : Nat} {on : Bool} {s : State} {x : Msg} (hq : s.flt.queue.length < 64) (hx : x ∈ s.flt.queue) :
    x ∈ (s.setTim k i on).flt.queue := by
  unfold State.setTim
  dsimp only
  split
  · exact State.mem_setDef_queue hq hx
  · split
    · exact State.mem_setPathDef_queue hq hx
    · exact hx
  · exact State.mem_setLoDef_queue hq hx

/-! ### TIM decided again -/

theorem State.timUpdate_eq {k i : Nat} {s : State} (h : s.inSvc (traceOp k i) = true) :
    s.timUpdate k i = s.setTim k i ((s.trace k i).timNow && !s.layerLost k i) :=
  if_neg (by simp [h])

theorem State.timUpdate_trace {k i : Nat} {s : State} (h : s.inSvc (traceOp k i) = true) :
    (s.timUpdate k i).trace k i = { s.trace k i with tim := (s.trace k i).timNow && !(s.timUpdate k i).layerLost k i } := by
  rw [State.timUpdate_eq h, State.setTim_trace, State.setTim_layerLost]

/-! ### TRACE_SET (R127) -/

/-- The fields of an entry as FIELDS selects them. -/
theorem Trace.set_fields (o : TraceOp) (t : Trace) :
    (t.set o).tx = (if o.fields.testBit 0 then o.txStr else t.tx) ∧ (t.set o).exp = (if o.fields.testBit 1 then o.exStr else t.exp) ∧
    (t.set o).fmt = (if o.fields.testBit 2 then o.fmt else t.fmt) ∧ (t.set o).n = (if o.fields.testBit 3 then o.n else t.n) ∧
    (t.set o).cmp = (if o.fields.testBit 4 then o.cmpEn else t.cmp) := by
  simp only [Trace.set, Trace.stop, apply_ite Trace.tx, apply_ite Trace.exp, apply_ite Trace.fmt, apply_ite Trace.n, apply_ite Trace.cmp,
    ite_self, and_self]

theorem Trace.set_binding {o : TraceOp} (h5 : o.fields.testBit 5 = true) (hk : o.kind = 1) (t : Trace) :
    (t.set o).rx = (if o.rxBind then some (o.rxPort, o.rxS) else none) ∧ (t.set o).txPt = if o.txBind then some o.txSlot else none := by
  unfold Trace.set
  dsimp only
  rw [if_pos (by simp [h5, hk])]
  exact ⟨rfl, rfl⟩

/-- A change of format or of N forgets the accepted string and the run. -/
theorem Trace.set_changed {o : TraceOp} {t : Trace}
    (h : (o.fields.testBit 2 = true ∧ t.fmt ≠ o.fmt) ∨ (o.fields.testBit 3 = true ∧ t.n ≠ o.n)) :
    (t.set o).acc = none ∧ (t.set o).run = [] ∧ (t.set o).runLen = 0 := by
  have hc : ((o.fields.testBit 2 && decide (t.fmt ≠ o.fmt)) || (o.fields.testBit 3 && decide (t.n ≠ o.n))) = true := by
    simpa using h
  simp only [Trace.set, Trace.stop, if_pos hc, apply_ite Trace.acc, apply_ite Trace.run, apply_ite Trace.runLen, ite_self, and_self]

theorem State.traceSet_trace {o : TraceOp} {s : State} (h : s.inSvc (traceOp o.kind o.index) = true) :
    (s.traceSet o).trace o.kind o.index = { (s.trace o.kind o.index).set o with
      tim := ((s.trace o.kind o.index).set o).timNow && !(s.traceSet o).layerLost o.kind o.index } := by
  unfold State.traceSet
  dsimp only
  rw [State.timUpdate_trace, State.setTrace_get]
  · rfl
  · have hs : ∀ u : State, u.glb = s.glb → u.inSvc (traceOp o.kind o.index) = true := fun u hu => by
      rw [← h, State.inSvc, hu]
      rfl
    refine hs _ ?_
    split
    · rfl
    · exact glb_of_hide (State.setTim_frame _ (by decide) ..)

theorem State.traceSet_trace_other {o : TraceOp} {k i : Nat} (h : traceKey k i ≠ traceKey o.kind o.index) (s : State) :
    (s.traceSet o).trace k i = s.trace k i := by
  have htim : ∀ u : State, (u.timUpdate o.kind o.index).trace k i = u.trace k i := fun u => by
    unfold State.timUpdate
    split
    · rfl
    · exact State.setTim_trace_other h ..
  unfold State.traceSet
  dsimp only
  rw [htim, State.setTrace_get_other _ _ _ _ _ _ h]
  split
  · rfl
  · exact State.setTim_trace_other h ..

/-! ### TRACE_READ (R128, Table PA-9) -/

theorem leBytes_length (n v : Nat) : (leBytes n v).length = n := by
  induction n generalizing v with
  | zero => rfl
  | succ n ih => rw [leBytes, List.length_cons, ih]

theorem State.traceRec_length (s : State) (k i : Nat) : (s.traceRec k i).length = 208 := by
  simp only [State.traceRec, List.length_append, leBytes_length, bytesAt_length]

/-- The state after a record `l` went to host memory and its entry's marks were cleared. -/
def State.readOut (a k i : Nat) (l : List Byte) (s : State) : State :=
  ({ s with hostMem := memWrite s.hostMem a l } : State).setTrace k i { s.trace k i with crcErr := false, unframed := false }

theorem State.readOut_hostMem (a k i : Nat) (l : List Byte) (s : State) : (s.readOut a k i l).hostMem = memWrite s.hostMem a l := rfl

theorem State.readOut_trace (a k i : Nat) (l : List Byte) (s : State) :
    (s.readOut a k i l).trace k i = { s.trace k i with crcErr := false, unframed := false } := State.setTrace_get ..

theorem State.readOut_of_putRecord {s : State} (hd : s.dmaOn = true) (a : DWord) (k i : Nat) (l : List Byte) :
    (let r := s.putRecord a l
     (r.1, if r.1.data then r.2.setTrace k i { r.2.trace k i with crcErr := false, unframed := false } else r.2)) =
      (({ result := l.length, data := true } : Eff), s.readOut a.toNat k i l) := by
  rw [State.putRecord, if_pos hd, State.dma, if_pos hd]
  rfl

theorem State.apply_traceRead {s : State} (hd : s.dmaOn = true) (r : Nat) (a : DWord) (k i : Nat) :
    s.apply r (.traceRead a k i) = (({ result := 208, data := true } : Eff), s.readOut a.toNat k i (s.traceRec k i)) :=
  (State.readOut_of_putRecord hd a k i (s.traceRec k i)).trans (by rw [State.traceRec_length])

/-! ### A string accepted (R125) -/

theorem State.traceAccept_none {k i : Nat} {s : State} (h : (s.trace k i).ready = none) : s.traceAccept k i = s := by
  unfold State.traceAccept
  dsimp only
  rw [h]

/-- The entry of an accepted string as the OP leaves it, before TIM is decided. -/
def Trace.accepted (str : List Byte) (t : Trace) : Trace := { t with acc := some str, ready := none }

/-- The OP in service accepts the run's string, tells it, and decides TIM. -/
theorem State.traceAccept_some {k i : Nat} {s : State} {str : List Byte} (hr : (s.trace k i).ready = some str)
    (hi : s.inSvc (traceOp k i) = true) (hl : s.layerLost k i = false) :
    ∃ src, s.traceAccept k i = ((s.setTrace k i ((s.trace k i).accepted str)).raiseU (s.rb 0x20008 25) .traceNew src i (k * 256)).timUpdate k i := by
  unfold State.traceAccept
  dsimp only
  rw [hr]
  dsimp only
  rw [if_neg (by simp [hi, hl])]
  exact ⟨_, rfl⟩

theorem State.traceAccept_spec {k i : Nat} {s : State} {str : List Byte} (hr : (s.trace k i).ready = some str)
    (hi : s.inSvc (traceOp k i) = true) (hl : s.layerLost k i = false) :
    (s.traceAccept k i).trace k i = { (s.trace k i).accepted str with tim := ((s.trace k i).accepted str).timNow } ∧
      (s.flt.queue.length < 63 → ∃ m ∈ (s.traceAccept k i).flt.queue, m.kind = Kind.traceNew.code ∧ m.cls = Kind.traceNew.cls ∧
        m.addr = BitVec.ofNat 32 i ∧ m.data = BitVec.ofNat 64 (k * 256) ∧ m.masked = s.rb 0x20008 25 ∧ m.at_ = s.now) := by
  obtain ⟨src, he⟩ := State.traceAccept_some hr hi hl
  rw [he]
  set u := s.setTrace k i ((s.trace k i).accepted str) with hu
  have hlu : u.layerLost k i = false := (State.setTrace_layerLost (x := (s.trace k i).accepted str) rfl ..).trans hl
  have htu : u.trace k i = (s.trace k i).accepted str := State.setTrace_get ..
  obtain ⟨f, hf⟩ := u.raiseU_eq (s.rb 0x20008 25) .traceNew src i (k * 256)
  rw [State.timUpdate_eq (by rw [hf]; exact hi)]
  refine ⟨?_, fun hq => ?_⟩
  · have hlf : ({ u with flt := f } : State).layerLost k i = false := hlu
    have htf : ({ u with flt := f } : State).trace k i = (s.trace k i).accepted str := htu
    rw [State.setTim_trace, hf, hlf, htf, Bool.not_false, Bool.and_true]
  · have hu : u.flt.queue.length < 64 := Nat.lt_succ_of_lt hq
    refine ⟨_, State.mem_setTim_queue ?_ (State.mem_raiseU hu), rfl, rfl, rfl, rfl, rfl, rfl⟩
    rw [State.raiseU_queue hu, insertMsg_length]
    exact Nat.succ_lt_succ hq

/-! ### The obligation -/

/-- Settles O34: TRACE_SET by `traceSet_trace`, TRACE_READ by the record it writes, TRACE_NEW by `traceAccept_spec`. -/
theorem traces : Obligations.Traces := by
  unfold Obligations.Traces
  refine ⟨fun h o s hc => ?set, fun h a k i s hc hd => ?read, fun h a k i s hc hd => ?unread, fun k i s str hr hi hl => ?new,
    fun k i s hr => congrArg Host.Outcome.next (State.traceAccept_none hr)⟩
  case set =>
    have hi : s.inSvc (traceOp o.kind o.index) = true := hc.passed.2
    refine hc.does (u := s.traceSet o) rfl rfl rfl rfl fun l p hd => ?_
    have ht := State.traceSet_trace hi
    obtain ⟨htx, hexp, hfmt, hn, hcmp⟩ := Trace.set_fields o (s.trace o.kind o.index)
    simp only [withComps_trace_eq, withPmc_trace_eq, withComps_layerLost_eq, withPmc_layerLost_eq, ht]
    refine ⟨hd, htx, hexp, hfmt, hn, hcmp, fun h5 hk => Trace.set_binding h5 hk _, fun hch => ?_, rfl,
      fun k i hk => State.traceSet_trace_other hk s⟩
    obtain ⟨hacc, hrun, hlen⟩ := Trace.set_changed hch
    exact ⟨hacc, hrun, hlen, by rw [Trace.timNow, hacc]; rfl⟩
  case read =>
    refine hc.does (State.apply_traceRead hd ..) rfl rfl rfl fun l p hd' => ⟨hd', s.traceRec_length k i, ?_, ?_⟩
    · rw [withComps_hostMem, withPmc_hostMem, State.readOut_hostMem]
    · rw [withComps_trace_eq, withPmc_trace_eq, State.readOut_trace]
  case unread =>
    refine hc.does (u := s) (e := {}) ?_ rfl rfl rfl fun l p hd => ⟨hd, rfl, rfl⟩
    show (_, _) = _
    rw [State.putRecord, if_neg (by simp [hd])]
    rfl
  case new =>
    obtain ⟨ht, hm⟩ := State.traceAccept_spec hr hi hl
    refine ⟨_, rfl, ?_⟩
    beta_reduce
    rw [ht]
    exact ⟨rfl, rfl, rfl, hm⟩

end Sys2Proof.Machine
end

section
/-! O28. The pointer interpreter, one kind of pointer at a time (04 R97-R99, Table PA-1). -/

namespace Sys2Proof.Machine

/-! ### Pointers of one kind in a row -/

/-- What each pointer of a row brings one further, the row brings as far as it is long. -/
theorem iterate_reaches {α : Type} {f : α → α} {A : Nat → α → Prop} (hf : ∀ i q, A i q → A (i + 1) (f q)) {p : α} (hp : A 0 p) (n : Nat) :
    A n (f^[n] p) := by
  induction n with
  | zero => exact hp
  | succ n ih => rw [Function.iterate_succ_apply']; exact hf _ _ ih

theorem piStep_ais_st {lopN m : Nat} {q : Pi} (h : 2 ≤ q.ais) : (piStep lopN m .ais q).1.st = 1 := by
  simp only [piStep]
  rw [if_pos (by omega)]

theorem piStep_ais_ais {lopN m i : Nat} {q : Pi} (h : min i 2 ≤ q.ais) : min (i + 1) 2 ≤ (piStep lopN m .ais q).1.ais := by
  simp only [piStep]
  split
  · dsimp only
    omega
  · dsimp only
    omega

/-- In LOP, or `i` invalid pointers counted. -/
def Pi.LostBy (lopN i : Nat) (q : Pi) : Prop := q.st = 2 ∨ (i ≤ q.inv ∧ i < lopN)

theorem piStep_invalid_lost {lopN m i : Nat} {q : Pi} (h : q.LostBy lopN i) : (piStep lopN m .invalid q).1.LostBy lopN (i + 1) := by
  simp only [piStep, Pi.bad, Pi.LostBy] at *
  split
  · exact .inl rfl
  · rename_i hc
    simp only [Bool.and_eq_true, decide_eq_true_eq, not_and_or, not_not] at hc
    dsimp only
    omega

/-- In LOP, or in NORM with `i` NDF-enabled pointers counted. -/
def Pi.FlaggedBy (lopN i : Nat) (q : Pi) : Prop := q.st = 2 ∨ (q.st = 0 ∧ i ≤ q.ndf ∧ i < lopN)

theorem piStep_ndf_out {lopN m o : Nat} {q : Pi} (ho : o ≤ m) (h : q.st ≠ 0) : (piStep lopN m (.ndf o) q).1.st = q.st := by
  simp only [piStep, if_neg (Nat.not_lt.2 ho), if_pos h]

theorem piStep_ndf_lost {lopN m o : Nat} {q : Pi} (ho : o ≤ m) (h : q.st = 0) (hn : lopN ≤ q.ndf + 1) :
    (piStep lopN m (.ndf o) q).1.st = 2 := by
  simp only [piStep, if_neg (Nat.not_lt.2 ho), if_neg (not_not.2 h), if_pos hn]

theorem piStep_ndf_norm {lopN m o : Nat} {q : Pi} (ho : o ≤ m) (h : q.st = 0) (hn : q.ndf + 1 < lopN) :
    (piStep lopN m (.ndf o) q).1.st = 0 ∧ (piStep lopN m (.ndf o) q).1.ofs = o ∧ (piStep lopN m (.ndf o) q).1.ndf = q.ndf + 1 := by
  simp only [piStep, if_neg (Nat.not_lt.2 ho), if_neg (not_not.2 h), if_neg (Nat.not_le.2 hn), and_self, and_true]
  exact h

theorem piStep_ndf_flagged {lopN m o i : Nat} {q : Pi} (ho : o ≤ m) (h : q.FlaggedBy lopN i) :
    (piStep lopN m (.ndf o) q).1.FlaggedBy lopN (i + 1) := by
  obtain h2 | ⟨h0, hi, -⟩ := h
  · exact .inl ((piStep_ndf_out ho (by omega)).trans h2)
  · by_cases hn : q.ndf + 1 < lopN
    · obtain ⟨hst, -, hndf⟩ := piStep_ndf_norm ho h0 hn
      exact .inr ⟨hst, by omega, by omega⟩
    · exact .inl (piStep_ndf_lost ho h0 (by omega))

/-! ### Normal pointers -/

/-- A normal pointer that is the offset in force changes nothing. -/
theorem piStep_normal_same {lopN m o : Nat} {q : Pi} (h0 : q.st = 0) (ho : q.ofs = o) :
    (piStep lopN m (.normal o) q).1.st = 0 ∧ (piStep lopN m (.normal o) q).1.ofs = o := by
  simp only [piStep, h0, if_true, ho, and_self]

theorem piStep_normal_inc {lopN m o : Nat} {q : Pi} (h0 : q.st = 0) (ho : o ≠ q.ofs) (hi : popcount 10 (o ^^^ (q.ofs ^^^ 0x2AA)) ≤ 2) :
    (piStep lopN m (.normal o) q).1.st = 0 ∧
      (piStep lopN m (.normal o) q).1.ofs = if 2 ≤ q.since then (q.ofs + 1) % (m + 1) else q.ofs := by
  simp only [piStep, h0, if_true, if_neg ho, if_pos hi, le_min_iff, le_refl, true_and, Nat.reduceLeDiff]
  split <;> exact ⟨rfl, rfl⟩

theorem piStep_normal_dec {lopN m o : Nat} {q : Pi} (h0 : q.st = 0) (ho : o ≠ q.ofs) (hi : 2 < popcount 10 (o ^^^ (q.ofs ^^^ 0x2AA)))
    (hd : popcount 10 (o ^^^ (q.ofs ^^^ 0x155)) ≤ 2) :
    (piStep lopN m (.normal o) q).1.st = 0 ∧
      (piStep lopN m (.normal o) q).1.ofs = if 2 ≤ q.since then (q.ofs + m) % (m + 1) else q.ofs := by
  simp only [piStep, h0, if_true, if_neg ho, if_neg (Nat.not_le.2 hi), if_pos hd, le_min_iff, le_refl, true_and, Nat.reduceLeDiff]
  split <;> exact ⟨rfl, rfl⟩

/-- Outside NORM, or in NORM and no increment or decrement from there: an offset that only three in a row bring. -/
def Pi.Far (o : Nat) (q : Pi) : Prop :=
  q.st ≠ 0 ∨ (2 < popcount 10 (o ^^^ (q.ofs ^^^ 0x2AA)) ∧ 2 < popcount 10 (o ^^^ (q.ofs ^^^ 0x155)))

theorem piStep_normal_fresh {lopN m o : Nat} {q : Pi} (ho : o ≤ m) (hf : q.Far o) (hne : ¬(q.st = 0 ∧ q.ofs = o)) :
    (piStep lopN m (.normal o) q).1 = ({ q with since := min 3 (q.since + 1) } : Pi).fresh o := by
  by_cases h0 : q.st = 0
  · obtain ⟨hi, hd⟩ := hf.resolve_left (not_not.2 h0)
    have hn : o ≠ q.ofs := fun h => hne ⟨h0, h.symm⟩
    simp only [piStep, h0, if_true, if_neg hn, if_neg (Nat.not_le.2 hi), if_neg (Nat.not_le.2 hd), if_neg (Nat.not_lt.2 ho)]
  · simp only [piStep, if_neg h0, if_neg (Nat.not_lt.2 ho)]

/-- In NORM with the offset `o`, or `o` still far with `i` equal pointers counted. -/
def Pi.FoundBy (o i : Nat) (q : Pi) : Prop :=
  (q.st = 0 ∧ q.ofs = o) ∨ (q.Far o ∧ i < 3 ∧ (i = 0 ∨ (q.new.v = o ∧ i ≤ q.new.n)))

/-- Pointers in a row with the offset `o`, this one included. -/
def Run.again (o : Nat) (r : Run) : Run := if r.n ≠ 0 && r.v = o then { v := o, n := r.n + 1 } else { v := o, n := 1 }

theorem Run.again_v (o : Nat) (r : Run) : (r.again o).v = o := by
  rw [Run.again, apply_ite Run.v, ite_self]

theorem Run.again_n {o i : Nat} {r : Run} (hi : i = 0 ∨ (r.v = o ∧ i ≤ r.n)) : i + 1 ≤ (r.again o).n := by
  simp only [Run.again, apply_ite Run.n, Bool.and_eq_true, decide_eq_true_eq]
  split <;> omega

theorem Pi.fresh_found {o i : Nat} {q : Pi} (hf : q.Far o) (hi : i = 0 ∨ (q.new.v = o ∧ i ≤ q.new.n)) : (q.fresh o).FoundBy o (i + 1) := by
  have hfresh : q.fresh o = if 3 ≤ (q.new.again o).n then { q with st := 0, ofs := o, inv := 0, ndf := 0, ais := 0, new := {}, since := 0 }
      else { q with inv := 0, ndf := 0, ais := 0, new := q.new.again o } := rfl
  have hn := Run.again_n hi
  rw [hfresh]
  split
  · exact .inl ⟨rfl, rfl⟩
  · exact .inr ⟨hf, by omega, .inr ⟨Run.again_v .., hn⟩⟩

theorem piStep_normal_found {lopN m o i : Nat} {q : Pi} (ho : o ≤ m) (h : q.FoundBy o i) :
    (piStep lopN m (.normal o) q).1.FoundBy o (i + 1) := by
  by_cases hr : q.st = 0 ∧ q.ofs = o
  · exact .inl (piStep_normal_same hr.1 hr.2)
  · obtain ⟨hf, -, hi⟩ := h.resolve_left hr
    rw [piStep_normal_fresh ho hf hr]
    exact Pi.fresh_found hf hi

theorem Pi.Far.found {lopN m o : Nat} {p : Pi} (ho : o ≤ m) (hf : p.Far o) :
    ((fun q => (piStep lopN m (.normal o) q).1)^[3] p).st = 0 ∧ ((fun q => (piStep lopN m (.normal o) q).1)^[3] p).ofs = o :=
  (iterate_reaches (A := Pi.FoundBy o) (fun _ _ => piStep_normal_found ho) (.inr ⟨hf, by decide, .inl rfl⟩) 3).resolve_right
    fun h => absurd h.2.1 (by decide)

theorem piStep_ais_row (lopN m : Nat) (p : Pi) : ((fun q => (piStep lopN m .ais q).1)^[3] p).st = 1 := by
  have h := iterate_reaches (f := fun q => (piStep lopN m .ais q).1) (A := fun i q => min i 2 ≤ q.ais) (fun _ _ => piStep_ais_ais)
    (Nat.zero_le p.ais) 2
  rw [Function.iterate_succ_apply']
  exact piStep_ais_st h

theorem piStep_invalid_row {lopN m : Nat} (h : 8 ≤ lopN) (p : Pi) : ((fun q => (piStep lopN m .invalid q).1)^[lopN] p).st = 2 :=
  (iterate_reaches (A := Pi.LostBy lopN) (fun _ _ => piStep_invalid_lost) (.inr ⟨Nat.zero_le _, by omega⟩) lopN).resolve_right
    fun h => absurd h.2 (lt_irrefl _)

theorem piStep_ndf_row {lopN m o : Nat} {p : Pi} (h : 8 ≤ lopN) (ho : o ≤ m) (h0 : p.st = 0) :
    ((fun q => (piStep lopN m (.ndf o) q).1)^[lopN] p).st = 2 :=
  (iterate_reaches (A := Pi.FlaggedBy lopN) (fun _ _ => piStep_ndf_flagged ho) (.inr ⟨h0, Nat.zero_le _, by omega⟩) lopN).resolve_right
    fun h => absurd h.2.2 (lt_irrefl _)

end Sys2Proof.Machine
end

section
/-! O28. What the line, trace and mapper operations leave of an HO path's monitor: TIM apart, only its own pointer and its own
VC change it (04 R100, R113, R115, R126). -/

namespace Sys2Proof.Machine

/-! ### A monitor apart from its TIM -/

/-- A path apart from its TIM, which follows a trace entry. -/
def HoPath.untimed (p : HoPath) : HoPath := { p with defects := p.defects &&& ~~~ 16#8 }

theorem HoPath.untimed_def {j : Nat} (h : j ≠ 4) (p : HoPath) : p.untimed.def_ j = p.def_ j := by
  have hm : ∀ j < 8, j ≠ 4 → (~~~ 16#8).getLsbD j = true := by decide
  unfold HoPath.untimed HoPath.def_
  rw [BitVec.getLsbD_and]
  by_cases hj : j < 8
  · rw [hm j hj h, Bool.and_true]
  · rw [BitVec.getLsbD_of_ge p.defects j (by omega), Bool.false_and]

theorem HoPath.untimed_putDef (on : Bool) (p : HoPath) : (p.putDef 4 on).untimed = p.untimed := by
  rw [HoPath.putDef_eq]
  unfold HoPath.untimed
  congr 1
  unfold HoPath.putDef
  split
  · rfl
  · cases on
    · simp [BitVec.and_assoc]
    · simp [BitVec.and_or_distrib_right]

/-- What of path `k` the operations on other paths leave, with the registers and the flows. -/
def State.held (k : Nat) (s : State) : HoPath × Word × Tab Flow × Tab Word := ((s.path k).untimed, s.hop.piCfg, s.hop.flows, s.cfg)

theorem held_of_hide {k : Nat} {s t : State} (h : t.hide 35183298346999 = s.hide 35183298346999) : t.held k = s.held k := by
  unfold State.held State.path
  rw [hop_of_hide (hide_mono _ _ (by decide) h), cfg_of_hide (hide_mono _ _ (by decide) h)]

theorem held_ite (k : Nat) (c : Prop) [Decidable c] (s t : State) : (if c then s else t).held k = if c then s.held k else t.held k :=
  apply_ite (State.held k) c s t

/-- What the steps for a list's members leave. -/
theorem foldS_mem_keeps {α β : Type} (g : State → β) {f : α → State → State} {l : List α} (h : ∀ x ∈ l, ∀ s, g (f x s) = g s) (s : State) :
    g (foldS l f s) = g s := by
  induction l generalizing s with
  | nil => rfl
  | cons x l ih => exact (ih (fun y hy => h y (List.mem_cons_of_mem _ hy)) (f x s)).trans (h x List.mem_cons_self s)

theorem foldS_held {α : Type} {f : α → State → State} {k : Nat} {l : List α} (h : ∀ x ∈ l, ∀ s, (f x s).held k = s.held k) (s : State) :
    (foldS l f s).held k = s.held k :=
  foldS_mem_keeps (State.held k) h s

/-! ### Traces -/

theorem State.setPath_held {j k : Nat} (h : j ≠ k) (p : HoPath) (s : State) : (s.setPath j p).held k = s.held k := by
  unfold State.held
  rw [State.setPath_get_other _ _ _ _ h.symm]
  rfl

theorem State.setPath_held_same {k : Nat} {p : HoPath} {s : State} (h : p.untimed = (s.path k).untimed) :
    (s.setPath k p).held k = s.held k := by
  unfold State.held
  rw [State.setPath_get, h]
  rfl

/-- A defect of another path, or TIM. -/
theorem State.setPathDef_held {j k b : Nat} (h : j ≠ k ∨ b = 4) (kind : Kind) (on : Bool) (s : State) :
    (s.setPathDef j b kind on).held k = s.held k := by
  have hc : (s.setPathDef j b kind on).cfg = s.cfg := cfg_of_hide (State.setPathDef_frame _ (by decide) ..)
  have hp : (s.setPath j ((s.path j).putDef b on)).held k = s.held k := by
    by_cases hj : j = k
    · obtain rfl := hj
      obtain rfl := h.resolve_left (not_not.2 rfl)
      exact State.setPath_held_same (HoPath.untimed_putDef ..)
    · exact State.setPath_held hj ..
  obtain ⟨hh, -⟩ | hh := s.setPathDef_hop j b kind on
  · unfold State.held State.path
    rw [hh, hc]
  · rw [← hp]
    unfold State.held State.path
    rw [hh, hc]
    rfl

theorem State.setTim_held (kind i : Nat) (on : Bool) (k : Nat) (s : State) : (s.setTim kind i on).held k = s.held k := by
  unfold State.setTim
  dsimp only
  split
  · exact held_of_hide (State.setDef_frame _ (by decide) ..)
  · split
    · exact State.setPathDef_held (.inr rfl) ..
    · rfl
  · exact held_of_hide (State.setLoDef_frame _ (by decide) ..)

theorem State.timUpdate_held (kind i k : Nat) (s : State) : (s.timUpdate kind i).held k = s.held k := by
  unfold State.timUpdate
  rw [held_ite, State.setTim_held, ite_self]

theorem State.traceLost_held (kind i k : Nat) (s : State) : (s.traceLost kind i).held k = s.held k := by
  unfold State.traceLost
  dsimp only
  rw [held_ite, State.setTim_held]
  exact ite_self _

theorem State.traceByte_held (kind i : Nat) (b : Byte) (k : Nat) (s : State) : (s.traceByte kind i b).held k = s.held k := by
  unfold State.traceByte
  rw [held_ite, State.traceLost_held, State.timUpdate_held]
  exact ite_self _

theorem State.rxJ1_held (n t : Nat) (b : Option Byte) (k : Nat) (s : State) : (s.rxJ1 n t b).held k = s.held k := by
  unfold State.rxJ1
  split
  · rfl
  · split
    · exact State.traceByte_held ..
    · exact State.traceLost_held ..

/-! ### Another path -/

theorem State.pathServer_held {j k : Nat} (h : j ≠ k) (ais lop : Bool) (s : State) : (s.pathServer j ais lop).held k = s.held k := by
  have hd : ∀ b kind on (u : State), (u.setPathDef j b kind on).held k = u.held k := fun _ _ _ u => State.setPathDef_held (.inl h) ..
  unfold State.pathServer
  simp only [held_ite, State.setPath_held h, hd, ite_self]

theorem State.pathOverhead_held {j k : Nat} (h : j ≠ k) (w : Nat) (r : RxPath) (s : State) : (s.pathOverhead j w r).held k = s.held k := by
  have hd : ∀ b kind on (u : State), (u.setPathDef j b kind on).held k = u.held k := fun _ _ _ u => State.setPathDef_held (.inl h) ..
  unfold State.pathOverhead
  simp only [hd, held_ite, ite_self]
  split
  · simp only [hd, State.setPath_held h]
  · rw [State.setPath_held h]

theorem State.sinkTim_held (d k : Nat) (s : State) : (s.sinkTim d).held k = s.held k := State.setPathDef_held (.inr rfl) ..

theorem State.rxPointer_held {n t k : Nat} (h : 192 * n + t ≠ k) (d : List Byte) (w : Nat) (s : State) :
    (s.rxPointer n d t w).2.held k = s.held k :=
  (State.pathServer_held h ..).trans (State.setPath_held h ..)

theorem State.rxVc_held {n t k : Nat} (h : 192 * n + t ≠ k) (w : Nat) (l : List Byte) (s : State) :
    (s.rxVc n t w l).held k = s.held k :=
  (State.rxJ1_held ..).trans (State.pathOverhead_held h ..)

/-! ### The LO mapper -/

theorem State.loQuarter_held (t : Nat) (c : TribSet) (q : Nat) (l : List Byte) (k : Nat) (s : State) :
    (s.loQuarter t c q l).held k = s.held k := by
  have ho : ∀ w x r (u : State), (u.loOverhead t w x r).held k = u.held k := fun _ _ _ u =>
    held_of_hide (State.loOverhead_frame _ (by decide) ..)
  unfold State.loQuarter
  dsimp only
  simp only [held_ite, State.traceByte_held, ho, ite_self]
  exact ite_self _

theorem State.loServerUpdate_held (t : Nat) (ho : Bool) (k : Nat) (s : State) : (s.loServerUpdate t ho).held k = s.held k :=
  held_of_hide (State.loServerUpdate_frame _ (by decide) ..)

theorem State.tuFrame_held (p : TuPos) (t1 : Bool) (mf : Nat) (b : List Byte) (k : Nat) (s : State) :
    (s.tuFrame p t1 mf b).held k = s.held k := by
  unfold State.tuFrame
  dsimp only
  split
  · rfl
  refine (foldS_held (fun c _ u => State.loQuarter_held ..) _).trans ?_
  simp only [held_ite, State.traceLost_held, State.loServerUpdate_held, ite_self]
  rfl

theorem State.vcTerm_held (d w h4 : Nat) (l : List Byte) (k : Nat) (s : State) : (s.vcTerm d w h4 l).held k = s.held k := by
  unfold State.vcTerm
  dsimp only
  split
  · split
    · rfl
    · exact (foldS_held (fun x _ u => State.tuFrame_held ..) _).trans (held_of_hide (State.h4Frame_frame _ (by decide) ..))
  · rfl

theorem State.sinkVc_held {d k : Nat} (h : d ≠ k) (w : Nat) (l : List Byte) (s : State) : (s.sinkVc d w l).held k = s.held k :=
  (State.vcTerm_held ..).trans (State.pathOverhead_held h ..)

theorem State.sinkPull_held {d k : Nat} (h : d ≠ k) (w : Nat) (s : State) : (s.sinkPull d w).held k = s.held k := by
  have hp : ∀ p, ((s.pathServer d false false).setPath d p).held k = s.held k := fun p =>
    (State.setPath_held h ..).trans (State.pathServer_held h ..)
  unfold State.sinkPull
  dsimp only
  split
  · rfl
  split
  · exact (State.sinkTim_held ..).trans (hp _)
  · exact (State.sinkTim_held ..).trans ((foldS_held (fun c _ u => State.sinkVc_held h ..) _).trans (hp _))

theorem State.loSweep_held (k : Nat) (s : State) : s.loSweep.held k = s.held k := by
  refine foldS_held (fun e _ u => ?_) s
  simp only [held_ite, State.traceLost_held, State.loServerUpdate_held, ite_self]

/-- Every sink is a destination slot of a mapper. -/
theorem State.sinks_ge {s : State} {x : Nat × Nat} (h : x ∈ s.sinks) : 6144 ≤ x.1 := by
  unfold State.sinks at h
  rw [List.mem_append] at h
  obtain h | h := h
  · obtain ⟨e, -, he⟩ := List.mem_flatMap.1 h
    split at he
    · obtain rfl := List.mem_singleton.1 he
      exact Nat.le_add_right ..
    split at he
    · obtain ⟨g, -, rfl⟩ := List.mem_map.1 he
      dsimp only
      omega
    · exact absurd he List.not_mem_nil
  · have := of_decide_eq_true (List.mem_filter.1 h).2
    omega

/-- The mapper sinks that a port feeds leave the monitors of the line as they are. -/
theorem State.sinksPull_held {n k : Nat} (hk : k < 6144) (s : State) :
    (foldS s.sinks (fun x (u : State) => let y := u.xcSource x.1
      if decide (y < 6144) && decide (u.lineMon y / 192 = n) then u.sinkPull x.1 x.2 else u) s).held k = s.held k := by
  refine foldS_held (fun x hx u => ?_) s
  have hne : x.1 ≠ k := by
    have := State.sinks_ge hx
    omega
  dsimp only
  rw [held_ite, State.sinkPull_held hne, ite_self]

end Sys2Proof.Machine
end

section
/-! O28. A received path's own monitor: the interpreter's step, AIS-P and LOP-P, and what either holds cleared (04 R99, R100, R115). -/

namespace Sys2Proof.Machine

/-! ### Defects set and the rest of the monitor -/

@[simp] theorem HoPath.putDef_pi (b : Nat) (on : Bool) (p : HoPath) : (p.putDef b on).pi = p.pi := by rw [HoPath.putDef_eq]
@[simp] theorem HoPath.putDef_concLop (b : Nat) (on : Bool) (p : HoPath) : (p.putDef b on).concLop = p.concLop := by rw [HoPath.putDef_eq]
@[simp] theorem HoPath.putDef_bip (b : Nat) (on : Bool) (p : HoPath) : (p.putDef b on).bip = p.bip := by rw [HoPath.putDef_eq]
@[simp] theorem HoPath.putDef_b3 (b : Nat) (on : Bool) (p : HoPath) : (p.putDef b on).b3 = p.b3 := by rw [HoPath.putDef_eq]
@[simp] theorem HoPath.putDef_rei (b : Nat) (on : Bool) (p : HoPath) : (p.putDef b on).rei = p.rei := by rw [HoPath.putDef_eq]

/-- The defects that AIS-P and LOP-P hold cleared and the runs and windows that they restart (R115); TIM follows its entry. -/
def HoPath.Held (p : HoPath) : Prop :=
  p.def_ 2 = false ∧ p.def_ 3 = false ∧ p.def_ 5 = false ∧ p.def_ 6 = false ∧ p.def_ 7 = false ∧
    p.c2Run = {} ∧ p.rdiRun = {} ∧ p.bip = none ∧ p.exc = {} ∧ p.deg = {}

/-- A defect among 0 to 7 after defect `b` was set. -/
theorem HoPath.putDef_def_if {b j : Nat} (hb : b < 8) (hj : j < 8) (on : Bool) (p : HoPath) :
    (p.putDef b on).def_ j = if j = b then on else p.def_ j := by
  split
  next h => rw [h, HoPath.putDef_def hb]
  next h => exact HoPath.putDef_def_other ⟨hj, h⟩ ..

theorem HoPath.restart_pi (p : HoPath) : p.restart.pi = p.pi := rfl
theorem HoPath.restart_concLop (p : HoPath) : p.restart.concLop = p.concLop := rfl
theorem HoPath.restart_def (j : Nat) (p : HoPath) : p.restart.def_ j = p.def_ j := rfl

/-- AIS-P and LOP-P as given, and what they hold cleared. -/
theorem State.pathServer_spec (k : Nat) (ais lop : Bool) (s : State) :
    let q := (s.pathServer k ais lop).path k
    q.pi = (s.path k).pi ∧ q.concLop = (s.path k).concLop ∧ q.def_ 0 = ais ∧ q.def_ 1 = lop ∧ (ais = true ∨ lop = true → q.Held) := by
  have hd : ∀ {b j : Nat}, b < 8 ∧ j < 8 → ∀ on p, (HoPath.putDef b on p).def_ j = if j = b then on else p.def_ j := fun h =>
    HoPath.putDef_def_if h.1 h.2
  unfold State.pathServer
  dsimp only
  split
  · split
    all_goals
      simp only [State.setPath_get, State.setPathDef_path, HoPath.restart_pi, HoPath.restart_concLop, HoPath.restart_def,
        HoPath.putDef_pi, HoPath.putDef_concLop, HoPath.Held, hd, Nat.reduceLT, and_self, Nat.reduceEqDiff, if_true, if_false,
        true_and]
      exact fun _ => ⟨rfl, rfl, rfl, rfl, rfl⟩
  next h =>
    simp only [Bool.or_eq_true] at h
    simp only [State.setPathDef_path, HoPath.putDef_pi, HoPath.putDef_concLop, hd, Nat.reduceLT, and_self, Nat.reduceEqDiff, if_true,
      if_false, true_and]
    exact fun hs => absurd hs h

/-! ### The overhead of a VC frame -/

/-- The accepted C2 after one more (R111). -/
def HoPath.nextC2 (c2 : Nat) (p : HoPath) : Option Nat := if 5 ≤ (p.c2Run.push c2).n then some c2 else p.c2Acc

/-- What a VC frame's overhead changes and leaves of its path. -/
theorem State.pathOverhead_spec (k w : Nat) (r : RxPath) (s : State) :
    let p := s.path k
    let q := (s.pathOverhead k w r).path k
    q.pi = p.pi ∧ q.concLop = p.concLop ∧ q.def_ 0 = p.def_ 0 ∧ q.def_ 1 = p.def_ 1 ∧ q.bip = some r.bip ∧
    q.b3 = p.b3 + BitVec.ofNat 32 (match p.bip with | some b => bipErrors b r.b3 | none => 0) ∧
    q.rei = p.rei + BitVec.ofNat 32 (if r.g1.toNat / 16 ≤ 8 then r.g1.toNat / 16 else 0) ∧
    (∀ a, p.nextC2 r.c2.toNat = some a → q.def_ 2 = decide (a = 0) ∧ q.def_ 3 = plmP a (p.expected k)) ∧
    (5 ≤ (p.rdiRun.push (b2n (r.g1.getLsbD 3))).n → q.def_ 5 = r.g1.getLsbD 3) := by
  have hd : ∀ {b j : Nat}, b < 8 ∧ j < 8 → ∀ on p, (HoPath.putDef b on p).def_ j = if j = b then on else p.def_ j := fun h =>
    HoPath.putDef_def_if h.1 h.2
  unfold State.pathOverhead
  dsimp only
  rw [← HoPath.nextC2]
  generalize r.g1.getLsbD 3 = f
  cases (s.path k).bip <;> cases HoPath.nextC2 r.c2.toNat (s.path k) <;> dsimp only <;> split
  all_goals
    rename_i h5
    simp only [State.setPath_get, State.setPathDef_path, HoPath.putDef_pi, HoPath.putDef_concLop, HoPath.putDef_bip, HoPath.putDef_b3,
      HoPath.putDef_rei, hd, Nat.reduceLT, and_self, Nat.reduceEqDiff, if_true, if_false, true_and]
    simp +contextual [HoPath.def_, h5]

/-- The overhead leaves the interpreter, AIS-P and LOP-P. -/
theorem State.pathOverhead_server (k w : Nat) (r : RxPath) (s : State) :
    let q := (s.pathOverhead k w r).path k
    q.pi = (s.path k).pi ∧ q.concLop = (s.path k).concLop ∧ q.def_ 0 = (s.path k).def_ 0 ∧ q.def_ 1 = (s.path k).def_ 1 := by
  obtain ⟨hpi, hlop, h0, h1, -⟩ := s.pathOverhead_spec k w r
  exact ⟨hpi, hlop, h0, h1⟩

/-! ### What a VC frame tells (R110-R112) -/

theorem Run.push_n {v n : Nat} {r : Run} (hn : n < 255) (hv : r.v = v) (h : n ≤ r.n) (h0 : n ≠ 0) : n + 1 ≤ (r.push v).n := by
  have hr : (r.n ≠ 0 && r.v = v) = true := by simp [hv]; omega
  rw [Run.push, if_pos hr]
  dsimp only
  omega

theorem HoPath.nextC2_run {a : Nat} {p : HoPath} (hv : p.c2Run.v = a) (hn : 4 ≤ p.c2Run.n) : p.nextC2 a = some a :=
  if_pos (Run.push_n (by decide) hv hn (by decide))

theorem plmP_iff (a e : Nat) : plmP a e = true ↔ a ≠ e ∧ a ≠ 0 ∧ e ≠ 1 ∧ ¬ (a = 1 ∧ e ≠ 0) := by
  simp only [plmP, ne_eq, decide_not, Bool.and_eq_true, Bool.not_eq_true', Bool.or_eq_false_iff, Bool.and_eq_false_iff,
    decide_eq_false_iff_not, Bool.not_eq_false', decide_eq_true_eq]
  omega

end Sys2Proof.Machine
end

section
/-! O28. A received line frame: each path of the port takes one step of its interpreter (04 R96-R100, R115), and its units reach its
flow (R106). -/

namespace Sys2Proof.Machine

/-! ### One step of a path -/

/-- A monitor one pointer after `old`: AIS-P and LOP-P follow the interpreter, and either holds the rest cleared. -/
def HoPath.Stepped (lopN : Nat) (ss : Option Nat) (old p : HoPath) : Prop :=
  (∃ h1 h2, p.pi = (piStep lopN 782 (classify ss h1 h2) old.pi).1) ∧
    p.def_ 0 = decide (p.pi.st = 1) ∧ p.def_ 1 = (decide (p.pi.st = 2) || p.concLop) ∧ (p.def_ 0 = true ∨ p.def_ 1 = true → p.Held)

theorem HoPath.untimed_server {p q : HoPath} (h : q.untimed = p.untimed) :
    q.pi = p.pi ∧ q.concLop = p.concLop ∧ q.def_ 0 = p.def_ 0 ∧ q.def_ 1 = p.def_ 1 := by
  refine ⟨(congrArg HoPath.pi h :), (congrArg HoPath.concLop h :), ?_, ?_⟩
  · rw [← HoPath.untimed_def (by decide) q, h, HoPath.untimed_def (by decide)]
  · rw [← HoPath.untimed_def (by decide) q, h, HoPath.untimed_def (by decide)]

theorem HoPath.Held.of_untimed {p q : HoPath} (h : q.untimed = p.untimed) (hp : p.Held) : q.Held := by
  have hd : ∀ {j : Nat}, j ≠ 4 → q.def_ j = p.def_ j := fun hj => by
    rw [← HoPath.untimed_def hj q, h, HoPath.untimed_def hj]
  have hc : q.c2Run = p.c2Run := (congrArg HoPath.c2Run h :)
  have hr : q.rdiRun = p.rdiRun := (congrArg HoPath.rdiRun h :)
  have hb : q.bip = p.bip := (congrArg HoPath.bip h :)
  have he : q.exc = p.exc := (congrArg HoPath.exc h :)
  have hg : q.deg = p.deg := (congrArg HoPath.deg h :)
  unfold HoPath.Held at *
  rw [hd (by decide), hd (by decide), hd (by decide), hd (by decide), hd (by decide), hc, hr, hb, he, hg]
  exact hp

/-- TIM has no part in the step. -/
theorem HoPath.Stepped.of_untimed {lopN : Nat} {ss : Option Nat} {old old' p q : HoPath} (ho : old'.untimed = old.untimed)
    (h : q.untimed = p.untimed) (hp : HoPath.Stepped lopN ss old p) : HoPath.Stepped lopN ss old' q := by
  obtain ⟨hold, -⟩ := HoPath.untimed_server ho
  obtain ⟨hpi, hlop, hd0, hd1⟩ := HoPath.untimed_server h
  obtain ⟨hstep, h0, h1, hheld⟩ := hp
  refine ⟨?_, ?_, ?_, ?_⟩
  · rw [hpi, hold]
    exact hstep
  · rw [hd0, hpi, h0]
  · rw [hd1, hpi, hlop, h1]
  · rw [hd0, hd1]
    exact fun hs => (hheld hs).of_untimed h

/-- The server's defects declared after the step. -/
theorem HoPath.Stepped.of_server {lopN : Nat} {ss : Option Nat} {old p q : HoPath} {ais lop : Bool}
    (hp : (∃ h1 h2, p.pi = (piStep lopN 782 (classify ss h1 h2) old.pi).1) ∧ ais = decide (p.pi.st = 1) ∧
      lop = (decide (p.pi.st = 2) || p.concLop))
    (hq : q.pi = p.pi ∧ q.concLop = p.concLop ∧ q.def_ 0 = ais ∧ q.def_ 1 = lop ∧ (ais = true ∨ lop = true → q.Held)) :
    HoPath.Stepped lopN ss old q := by
  obtain ⟨hpi, hlop, h0, h1, hheld⟩ := hq
  obtain ⟨hstep, ha, hl⟩ := hp
  refine ⟨hpi ▸ hstep, ?_, ?_, ?_⟩
  · rw [h0, hpi, ha]
  · rw [h1, hpi, hlop, hl]
  · rw [h0, h1]
    exact hheld

/-- The pointer of a frame is one step. -/
theorem State.rxPointer_stepped (n : Nat) (d : List Byte) (t w : Nat) (s : State) :
    HoPath.Stepped s.lopN (s.ssAsked n) (s.path (192 * n + t)) ((s.rxPointer n d t w).2.path (192 * n + t)) := by
  unfold State.rxPointer
  dsimp only
  refine HoPath.Stepped.of_server ?_ (State.pathServer_spec ..)
  rw [State.setPath_get]
  exact ⟨⟨_, _, rfl⟩, rfl, rfl⟩

/-- A path without AIS-P and LOP-P, apart from what its VC frames tell. -/
def State.served (k : Nat) (s : State) : Pi × Bool × Bool × Bool :=
  ((s.path k).pi, (s.path k).concLop, (s.path k).def_ 0, (s.path k).def_ 1)

theorem served_of_held {k : Nat} {s t : State} (h : t.held k = s.held k) : t.served k = s.served k := by
  obtain ⟨hpi, hlop, h0, h1⟩ := HoPath.untimed_server (congrArg Prod.fst h :)
  unfold State.served
  rw [hpi, hlop, h0, h1]

theorem State.rxVc_served (n t w : Nat) (l : List Byte) (s : State) : (s.rxVc n t w l).served (192 * n + t) = s.served (192 * n + t) := by
  refine (served_of_held (State.rxJ1_held ..)).trans ?_
  obtain ⟨hpi, hlop, h0, h1⟩ := s.pathOverhead_server (192 * n + t) w (rxOf w l)
  unfold State.served
  rw [hpi, hlop, h0, h1]

theorem State.served_stepped {lopN : Nat} {ss : Option Nat} {k : Nat} {old : HoPath} {s t : State} (h : t.served k = s.served k)
    (h0 : (s.path k).def_ 0 = false) (h1 : (s.path k).def_ 1 = false) (hs : HoPath.Stepped lopN ss old (s.path k)) :
    HoPath.Stepped lopN ss old (t.path k) := by
  simp only [State.served, Prod.mk.injEq] at h
  obtain ⟨hpi, hlop, hd0, hd1⟩ := h
  obtain ⟨hstep, hs0, hs1, -⟩ := hs
  refine ⟨hpi ▸ hstep, ?_, ?_, fun hd => ?_⟩
  · rw [hd0, hpi, hs0]
  · rw [hd1, hpi, hlop, hs1]
  · rw [hd0, hd1, h0, h1] at hd
    exact absurd hd (by decide)

/-! ### One path of a received frame -/

/-- What the step of a path asks of the state beside its own monitor. -/
def State.calm (k : Nat) (s : State) : HoPath × Word × Tab Word := ((s.path k).untimed, s.hop.piCfg, s.cfg)

theorem calm_of_held {k : Nat} {s t : State} (h : t.held k = s.held k) : t.calm k = s.calm k := by
  simp only [State.held, Prod.mk.injEq] at h
  obtain ⟨hp, hc, -, hg⟩ := h
  unfold State.calm
  rw [hp, hc, hg]

theorem State.rxPath_down {n t w : Nat} {d : List Byte} {s : State}
    (h : (((s.rxPointer n d t w).2.path (192 * n + t)).def_ 0 || ((s.rxPointer n d t w).2.path (192 * n + t)).def_ 1) = true) :
    s.rxPath n d t w = (s.rxPointer n d t w).2.rxJ1 n t none := if_pos h

/-- The path's state before its VC frames: the bytes of a VC frame begun wait. -/
def State.rxBegun (n : Nat) (d : List Byte) (t w : Nat) (s : State) : State :=
  let r := s.rxPointer n d t w
  let p := r.2.path (192 * n + t)
  r.2.setPath (192 * n + t) { p with vc := (vcSplit 783 r.1 p.vc).2 }

theorem State.rxPath_up {n t w : Nat} {d : List Byte} {s : State}
    (h : (((s.rxPointer n d t w).2.path (192 * n + t)).def_ 0 || ((s.rxPointer n d t w).2.path (192 * n + t)).def_ 1) = false) :
    s.rxPath n d t w = (foldS (vcSplit 783 (s.rxPointer n d t w).1 ((s.rxPointer n d t w).2.path (192 * n + t)).vc).1
      (fun l s => s.rxVc n t w l.2) (s.rxBegun n d t w)).modFlow (192 * n + t) (Flow.push (s.rxPointer n d t w).1) :=
  if_neg (by rw [h]; decide)

theorem State.rxBegun_held {n t k : Nat} (h : 192 * n + t ≠ k) (d : List Byte) (w : Nat) (s : State) :
    (s.rxBegun n d t w).held k = s.held k :=
  (State.setPath_held h ..).trans (State.rxPointer_held h ..)

theorem State.modFlow_path (j : Nat) (g : Flow → Flow) (k : Nat) (s : State) : (s.modFlow j g).path k = s.path k := rfl

theorem State.modFlow_calm (j : Nat) (g : Flow → Flow) (k : Nat) (s : State) : (s.modFlow j g).calm k = s.calm k := rfl

/-- The monitors of the other paths stay. -/
theorem State.rxPath_calm {n t k : Nat} (h : 192 * n + t ≠ k) (d : List Byte) (w : Nat) (s : State) :
    (s.rxPath n d t w).calm k = s.calm k := by
  cases hc : ((s.rxPointer n d t w).2.path (192 * n + t)).def_ 0 || ((s.rxPointer n d t w).2.path (192 * n + t)).def_ 1
  · rw [State.rxPath_up hc, State.modFlow_calm]
    exact calm_of_held ((foldS_held (fun _ _ _ => State.rxVc_held h ..) _).trans (State.rxBegun_held h ..))
  · rw [State.rxPath_down hc]
    exact calm_of_held ((State.rxJ1_held ..).trans (State.rxPointer_held h ..))

/-- A path of a received frame takes one step. -/
theorem State.rxPath_stepped (n : Nat) (d : List Byte) (t w : Nat) (s : State) :
    HoPath.Stepped s.lopN (s.ssAsked n) (s.path (192 * n + t)) ((s.rxPath n d t w).path (192 * n + t)) := by
  have hs := s.rxPointer_stepped n d t w
  cases hc : ((s.rxPointer n d t w).2.path (192 * n + t)).def_ 0 || ((s.rxPointer n d t w).2.path (192 * n + t)).def_ 1
  · obtain ⟨h0, h1⟩ := Bool.or_eq_false_iff.1 hc
    have hb : (s.rxBegun n d t w).served (192 * n + t) = (s.rxPointer n d t w).2.served (192 * n + t) := by
      unfold State.rxBegun State.served
      rw [State.setPath_get]
      rfl
    rw [State.rxPath_up hc, State.modFlow_path]
    refine State.served_stepped ?_ h0 h1 hs
    exact (foldS_keeps (State.served (192 * n + t)) _ _ (fun _ _ => State.rxVc_served ..) _).trans hb
  · rw [State.rxPath_down hc]
    exact hs.of_untimed rfl (congrArg Prod.fst (State.rxJ1_held n t none (192 * n + t) _))

/-- The units of a path without AIS-P and LOP-P reach its flow. -/
theorem State.rxPath_flow {n t w : Nat} {d : List Byte} {s : State} (h0 : ((s.rxPointer n d t w).2.path (192 * n + t)).def_ 0 = false)
    (h1 : ((s.rxPointer n d t w).2.path (192 * n + t)).def_ 1 = false) :
    (s.rxPath n d t w).flow (192 * n + t) = (s.flow (192 * n + t)).push (s.rxPointer n d t w).1 := by
  have hne : 192 * n + t ≠ 192 * n + t + 1 := (Nat.lt_succ_self _).ne
  have hf : ∀ {u v : State}, u.held (192 * n + t + 1) = v.held (192 * n + t + 1) → u.flow (192 * n + t) = v.flow (192 * n + t) :=
    fun h => by
      simp only [State.held, Prod.mk.injEq] at h
      rw [State.flow, h.2.2.1, State.flow]
  rw [State.rxPath_up (by rw [h0, h1]; rfl), State.modFlow, State.setFlow_get]
  rw [hf ((foldS_held (fun _ _ _ => State.rxVc_held hne ..) _).trans (State.rxBegun_held hne d w s))]

/-! ### The paths of a received frame -/

theorem State.lopN_of_calm {k : Nat} {s t : State} (h : t.calm k = s.calm k) : t.lopN = s.lopN := by
  have hc : t.hop.piCfg = s.hop.piCfg := congrArg (fun x => x.2.1) h
  rw [State.lopN, hc, State.lopN]

theorem State.ssAsked_of_calm {k : Nat} {s t : State} (h : t.calm k = s.calm k) (n : Nat) : t.ssAsked n = s.ssAsked n := by
  have hc : t.hop.piCfg = s.hop.piCfg := congrArg (fun x => x.2.1) h
  have hg : t.cfg = s.cfg := congrArg (fun x => x.2.2) h
  unfold State.ssAsked State.ssChk State.sonet State.rb State.reg
  rw [hc, hg]

theorem State.path_of_calm {k : Nat} {s t : State} (h : t.calm k = s.calm k) : (t.path k).untimed = (s.path k).untimed :=
  congrArg (fun x => x.1) h

theorem State.pathsOf_nodup (s : State) (n : Nat) : ((s.pathsOf n).map Prod.fst).Nodup := by
  unfold State.pathsOf
  rw [List.filterMap_map, List.map_filterMap]
  refine List.nodup_range.filterMap fun a b c ha hb => ?_
  simp only [Function.comp, Option.mem_def, Option.map_eq_some_iff, Option.ite_none_right_eq_some, Option.some.injEq] at ha hb
  obtain ⟨_, ⟨ha, rfl⟩, rfl⟩ := ha
  obtain ⟨_, ⟨hb, rfl⟩, h⟩ := hb
  omega

theorem State.pathsOf_lt {s : State} {n : Nat} {x : Nat × Nat} (h : x ∈ s.pathsOf n) : x.1 < 192 := by
  unfold State.pathsOf at h
  obtain ⟨y, hy, he⟩ := List.mem_filterMap.1 h
  obtain ⟨t, ht, rfl⟩ := List.mem_map.1 hy
  simp only [Option.ite_none_right_eq_some, Option.some.injEq] at he
  obtain ⟨he, rfl⟩ := he
  have ht := List.mem_range.1 ht
  rcases portN_cases s n with h | h | h | h <;> omega

/-- Each of several paths of a port takes one step, whatever the others do. -/
theorem State.rxEach_stepped (n : Nat) (d : List Byte) {l : List (Nat × Nat)} (hl : (l.map Prod.fst).Nodup) (s : State) {x : Nat × Nat}
    (hx : x ∈ l) : HoPath.Stepped s.lopN (s.ssAsked n) (s.path (192 * n + x.1))
      ((foldS l (fun x s => s.rxPath n d x.1 x.2) s).path (192 * n + x.1)) := by
  induction l generalizing s with
  | nil => exact absurd hx List.not_mem_nil
  | cons y l ih =>
    obtain ⟨hy, hl⟩ := List.nodup_cons.1 hl
    obtain rfl | hx := List.mem_cons.1 hx
    · have hrest : (foldS l (fun x s => s.rxPath n d x.1 x.2) (s.rxPath n d x.1 x.2)).calm (192 * n + x.1) =
          (s.rxPath n d x.1 x.2).calm (192 * n + x.1) := by
        refine foldS_mem_keeps (State.calm _) (fun z hz u => State.rxPath_calm (fun he => hy ?_) ..) _
        exact List.mem_map.2 ⟨z, hz, by omega⟩
      exact (s.rxPath_stepped n d x.1 x.2).of_untimed rfl (State.path_of_calm hrest)
    · have hne : 192 * n + y.1 ≠ 192 * n + x.1 := fun he => hy (List.mem_map.2 ⟨x, hx, by omega⟩)
      have hc := State.rxPath_calm hne d y.2 s
      have h := ih hl (s.rxPath n d y.1 y.2) hx
      rw [State.lopN_of_calm hc, State.ssAsked_of_calm hc] at h
      exact h.of_untimed (State.path_of_calm hc).symm rfl

theorem State.rxPaths_stepped {n : Nat} (hn : n < 32) (d : List Byte) (s : State) {x : Nat × Nat} (hx : x ∈ s.pathsOf n) :
    HoPath.Stepped s.lopN (s.ssAsked n) (s.path (192 * n + x.1)) ((s.rxPaths n d).path (192 * n + x.1)) := by
  have hk : 192 * n + x.1 < 6144 := by
    have := State.pathsOf_lt hx
    omega
  refine (s.rxEach_stepped n d (s.pathsOf_nodup n) hx).of_untimed rfl ?_
  exact State.path_of_calm (calm_of_held ((State.loSweep_held ..).trans (State.sinksPull_held hk _)))

end Sys2Proof.Machine
end

section
/-! O28. A received line frame: what the section and the K bytes leave of the paths (03 R70-R90), and the step that every path of the
port takes. -/

namespace Sys2Proof.Machine

/-! ### The section -/

/-- The HO paths and the registers. -/
def State.ground (s : State) : Hop × Tab Word := (s.hop, s.cfg)

theorem ground_of_hide {s t : State} (h : t.hide 35183298346999 = s.hide 35183298346999) : t.ground = s.ground := by
  unfold State.ground
  rw [hop_of_hide (hide_mono _ _ (by decide) h), cfg_of_hide (hide_mono _ _ (by decide) h)]

theorem ground_ite (c : Prop) [Decidable c] (s t : State) : (if c then s else t).ground = if c then s.ground else t.ground :=
  apply_ite State.ground c s t

theorem State.setDef_ground (n b : Nat) (k : Kind) (on : Bool) (s : State) : (s.setDef n b k on).ground = s.ground :=
  ground_of_hide (State.setDef_frame _ (by decide) ..)

/-- The entries of J0 touch their ports only. -/
theorem State.setTim_ground (n : Nat) (on : Bool) (s : State) : (s.setTim 0 n on).ground = s.ground := State.setDef_ground ..

theorem State.traceLost_ground (n : Nat) (s : State) : (s.traceLost 0 n).ground = s.ground := by
  unfold State.traceLost
  dsimp only
  rw [ground_ite, State.setTim_ground]
  exact ite_self _

theorem State.traceByte_ground (n : Nat) (b : Byte) (s : State) : (s.traceByte 0 n b).ground = s.ground := by
  unfold State.traceByte State.timUpdate
  rw [ground_ite, State.traceLost_ground, ground_ite, State.setTim_ground]
  exact (congrArg _ (ite_self _)).trans (ite_self _)

theorem State.dccBreak_ground (n : Nat) (s : State) : (s.dccBreak n).ground = s.ground :=
  ground_of_hide (State.dccBreak_frame _ (by decide) ..)

theorem State.lofTest_ground (n : Nat) (s : State) : (s.lofTest n).ground = s.ground := by
  have hr : ∀ u : State, (u.refLine n).ground = u.ground := fun u => ground_of_hide (State.refLine_frame _ (by decide) ..)
  unfold State.lofTest
  simp only [ground_ite, State.dccBreak_ground, State.traceLost_ground, hr, State.setDef_ground, ite_self]

theorem State.rxKS_ground (n : Nat) (d : List Byte) (s : State) : (s.rxKS n d).ground = s.ground := by
  have hr : ∀ x k src addr data (u : State), (u.raiseU x k src addr data).ground = u.ground := fun _ _ _ _ _ u =>
    ground_of_hide (State.raiseU_frame _ (by decide) ..)
  have hw : ∀ c (u : State), (whenS c (fun s => s.traceLost 0 n) u).ground = u.ground := fun c u => by
    unfold whenS
    rw [ground_ite, State.traceLost_ground, ite_self]
  have hs : ∀ v (u : State), (u.modPort n fun p => { p with s1Acc := v }).ground = u.ground := fun v u => rfl
  unfold State.rxKS
  dsimp only
  simp only [ground_ite, hr, hs, hw, State.setDef_ground, ite_self]
  rfl

/-! ### A received frame -/

/-- The paths of a received frame are those of some bytes, the section before and after leaving the monitors. -/
theorem State.rxFrame_paths (n : Nat) (b : List Byte) (s : State) :
    ∃ d u, State.ground u = s.ground ∧ (s.rxFrame n b).hop = (u.rxPaths n d).hop := by
  have hbefore : ∀ p on (u : State), (((u.setPort n p).setDef n 2 .oofL on).lofTest n).ground = u.ground := fun _ _ u =>
    (State.lofTest_ground ..).trans (State.setDef_ground ..)
  have hgap : ∀ f (u : State), (((u.modPort n f).traceGap 0 n).dccBreak n).ground = u.ground := fun _ u => State.dccBreak_ground ..
  have hline : ∀ now raw x (u : State), ((u.rxParity n now raw x).rxKS n x).ground = u.ground := fun _ _ _ u =>
    (State.rxKS_ground ..).trans (ground_of_hide (State.rxParity_frame _ (by decide) ..))
  have hafter : ∀ now x e (u : State), (((u.rxRei n now x).rxBer n e).rxDcc n x).hop = u.hop := fun _ _ _ u =>
    (hop_of_hide (State.rxDcc_frame _ (by decide) ..)).trans ((hop_of_hide (State.rxBer_frame _ (by decide) ..)).trans
      (hop_of_hide (State.rxRei_frame _ (by decide) ..)))
  unfold State.rxFrame
  dsimp only
  split
  · exact ⟨_, _, by rw [hgap, hbefore], rfl⟩
  · exact ⟨_, _, by rw [hline, State.traceByte_ground, hbefore], hafter ..⟩

/-- Selector moves come before the frame, the K bytes' watch after it. -/
theorem State.rxLine_paths (n : Nat) (b : List Byte) (s : State) :
    ∃ d u, State.ground u = s.ground ∧ (s.rxLine n b).hop = (u.rxPaths n d).hop := by
  obtain ⟨d, u, hu, hf⟩ := (s.protMoves n).rxFrame_paths n b
  refine ⟨d, u, hu.trans (ground_of_hide (State.protMoves_frame _ (by decide) ..)), Eq.trans ?_ hf⟩
  have he : ∀ g k (v : State), (v.exerAnswer g k).hop = v.hop := fun _ _ v => hop_of_hide (State.exerAnswer_frame _ (by decide) ..)
  have hk : ∀ g x (v : State), (v.kWatch g x).hop = v.hop := fun _ _ v => hop_of_hide (State.kWatch_frame _ (by decide) ..)
  unfold State.rxLine
  dsimp only
  split
  · rfl
  · simp only [apply_ite State.hop, he, hk, ite_self]

theorem State.pathsOf_of_ground {s t : State} (h : t.ground = s.ground) (n : Nat) : t.pathsOf n = s.pathsOf n := by
  obtain ⟨hh, hc⟩ := Prod.mk.inj h
  unfold State.pathsOf State.pathOf State.augGroup State.augCode State.portN State.rf State.reg
  rw [hh, hc]

/-- Every path of a port takes one step with a received line frame. -/
theorem State.rxLine_stepped {n : Nat} (hn : n < 32) (b : List Byte) (s : State) {x : Nat × Nat} (hx : x ∈ s.pathsOf n) :
    HoPath.Stepped s.lopN (s.ssAsked n) (s.path (192 * n + x.1)) ((s.rxLine n b).path (192 * n + x.1)) := by
  obtain ⟨d, u, hu, hf⟩ := s.rxLine_paths n b
  obtain ⟨hh, hc⟩ := Prod.mk.inj hu
  have hpath : (s.rxLine n b).path (192 * n + x.1) = (u.rxPaths n d).path (192 * n + x.1) := by
    rw [State.path, hf, State.path]
  have h := State.rxPaths_stepped hn d u (State.pathsOf_of_ground hu n ▸ hx)
  have hcalm : u.calm (192 * n + x.1) = s.calm (192 * n + x.1) := by
    unfold State.calm State.path
    rw [hh, hc]
  rw [State.lopN_of_calm hcalm, State.ssAsked_of_calm hcalm] at h
  rw [hpath]
  exact h.of_untimed (State.path_of_calm hcalm).symm rfl

end Sys2Proof.Machine
end

section
/-! O28. AIS-V and LOP-V of an LO path and what they hold cleared (04 R115, R122). -/

namespace Sys2Proof.Machine

theorem LoPath.putDef_def_if {b j : Nat} (hb : b < 8) (hj : j < 8) (on : Bool) (p : LoPath) :
    (p.putDef b on).def_ j = if j = b then on else p.def_ j := by
  split
  next h => rw [h, LoPath.putDef_def hb]
  next h => exact LoPath.putDef_def_other ⟨hj, h⟩ ..

/-- The defects that AIS-V and LOP-V hold cleared and the runs and windows that they restart (R122). -/
def LoPath.Held (p : LoPath) : Prop :=
  p.def_ 2 = false ∧ p.def_ 3 = false ∧ p.def_ 5 = false ∧ p.def_ 6 = false ∧ p.def_ 7 = false ∧
    p.rdiRun = {} ∧ p.bip = none ∧ p.exc = {} ∧ p.deg = {}

/-- The runs and windows that AIS-V and LOP-V restart, the run of labels as given. -/
def LoPath.restart (l : Run) (p : LoPath) : LoPath := { p with labelRun := l, rdiRun := {}, bip := none, exc := {}, deg := {} }

theorem LoPath.restart_def (l : Run) (j : Nat) (p : LoPath) : (p.restart l).def_ j = p.def_ j := rfl

/-- AIS-V and LOP-V from the interpreter, the label and the server, and what they hold cleared. -/
theorem State.loServerUpdate_spec (t : Nat) (ho : Bool) (s : State) :
    let q := (s.loServerUpdate t ho).lo t
    let ais := decide (s.tuState t = 1) || decide ((s.lo t).label = some 7) || ho
    q.def_ 0 = ais ∧ q.def_ 1 = decide (s.tuState t = 2) ∧ (q.def_ 0 = true ∨ q.def_ 1 = true → q.Held) := by
  have hd : ∀ {b j : Nat}, b < 8 ∧ j < 8 → ∀ on p, (LoPath.putDef b on p).def_ j = if j = b then on else p.def_ j := fun h =>
    LoPath.putDef_def_if h.1 h.2
  have hr : ∀ (u : State) (l : Run), (u.setLo t { u.lo t with labelRun := l, rdiRun := {}, bip := none, exc := {}, deg := {} }).lo t =
      (u.lo t).restart l := fun u l => State.setLo_get ..
  have htim : ∀ (c : Prop) [Decidable c] (u : State) {j : Nat}, j < 8 ∧ ¬ j = 4 →
      ((if c then u.setLoDef t 4 .timJ2 false else u).lo t).def_ j = (u.lo t).def_ j := fun c _ u j hj => by
    split
    · rw [State.setLoDef_lo, LoPath.putDef_def_other hj]
    · rfl
  unfold State.loServerUpdate
  dsimp only
  split
  · simp only [hr]
    simp only [State.setLoDef_lo, LoPath.Held, LoPath.restart_def, hd, htim, Nat.reduceLT, and_self, Nat.reduceEqDiff, if_true,
      if_false, true_and, not_false_eq_true]
    exact fun _ => ⟨rfl, rfl, rfl, rfl⟩
  next h =>
    simp only [Bool.or_eq_true, decide_eq_true_eq] at h
    simp only [State.setLoDef_lo, hd, Nat.reduceLT, and_self, Nat.reduceEqDiff, if_true, if_false, true_and, Bool.or_eq_true,
      decide_eq_true_eq]
    exact fun hs => absurd hs h

end Sys2Proof.Machine
end

section
/-! O28. The source of a destination slot by its entry, and what a path sends without a flow (04 R101, R102, R105, R108). -/

namespace Sys2Proof.Machine

/-! ### The source of a destination slot -/

theorem State.xcSource_off {s : State} {d : Nat} (h : wbit (s.xc d) 15 = false) : s.xcSource d = 8176 := by
  unfold State.xcSource
  dsimp only
  rw [h]
  rfl

theorem State.xcSource_on {s : State} {d : Nat} (h : wbit (s.xc d) 15 = true) : s.xcSource d =
    if tget 0 s.hop.mism (connFirst (s.xc d) d) ≠ 0 then 8177 else if wfld (s.xc d) 16 2 = 1 then 8177
    else if wfld (s.xc d) 16 2 = 2 then 8176
    else if wbit (s.xc d) 14 then s.connSrc (s.xc d) + (d - connFirst (s.xc d) d) else wfld (s.xc d) 0 13 := by
  unfold State.xcSource
  dsimp only
  rw [h]
  rfl

theorem State.xcSource_ais {s : State} {d : Nat} (h : wbit (s.xc d) 15 = true)
    (ha : tget 0 s.hop.mism (connFirst (s.xc d) d) ≠ 0 ∨ wfld (s.xc d) 16 2 = 1) : s.xcSource d = 8177 := by
  rw [State.xcSource_on h]
  split
  · rfl
  next hm => rw [if_pos (ha.resolve_left hm)]

/-! ### What a source sends -/

theorem State.srcKind_line {s : State} {x : Nat} (h : x < 6144) : s.srcKind x = b2n (s.path (s.lineMon x)).aisDown := if_pos h

theorem State.srcKind_ais (s : State) : s.srcKind 8177 = 1 := rfl

theorem State.srcKind_unequipped (s : State) : s.srcKind 8176 = 2 := rfl

/-- A source in AU-AIS gives AU-AIS. -/
theorem State.genPath_ais {n t w : Nat} {s : State} (h : s.srcKind (s.xcSource (s.txSlot n t)) = 1) :
    ∃ hold, s.genPath n t w = s.genFixed n t w true hold :=
  ⟨_, if_pos (by rw [decide_eq_true h, Bool.or_true])⟩

theorem State.genPath_unequipped {n t w : Nat} {s : State} (h : s.srcKind (s.xcSource (s.txSlot n t)) = 2)
    (hh : (s.store (192 * n + t)).hold = false) : s.genPath n t w = s.genFixed n t w false false := by
  unfold State.genPath
  dsimp only
  rw [hh, h]
  rfl

theorem State.genPath_flow {n t w : Nat} {s : State} (h : s.srcKind (s.xcSource (s.txSlot n t)) = 0)
    (hh : (s.store (192 * n + t)).hold = false) :
    s.genPath n t w = s.genFlow n t w (s.flowKey (s.xcSource (s.txSlot n t))) (s.flowOf (s.xcSource (s.txSlot n t)) w) := by
  unfold State.genPath
  dsimp only
  rw [hh, h]
  rfl

theorem State.flowOf_line {s : State} {x : Nat} (h : x < 6144) (w : Nat) : s.flowOf x w = s.flow (s.lineMon x) := by
  rw [State.flowOf, if_neg (by simp; omega), State.flowKey, if_pos h]

theorem State.genFixed_ais (n t w : Nat) (hold : Bool) (s : State) :
    (s.genFixed n t w true hold).1 = { units := List.replicate 783 (List.replicate w 0xFF), h3 := List.replicate w 0xFF } ∧
      ((s.genFixed n t w true hold).2.store (192 * n + t)).h1 = 0xFF ∧ ((s.genFixed n t w true hold).2.store (192 * n + t)).h2 = 0xFF := by
  unfold State.genFixed
  dsimp only
  rw [State.setStore_get]
  exact ⟨rfl, rfl, rfl⟩

/-- The first byte of a pointer that is sent is no AIS. -/
theorem ptrBytes_ne_ais (ndf sonet : Bool) (o : Nat) : (ptrBytes ndf sonet o).1 ≠ 0xFF := by
  have ho : o / 256 % 4 < 4 := Nat.mod_lt _ (by decide)
  have h : ∀ q < 4, BitVec.ofNat 8 ((if ndf then 0x90 else 0x60) + (if sonet then 0 else 8) + q) ≠ 0xFF#8 := by
    cases ndf <;> cases sonet <;> decide
  exact h _ ho

theorem classify_ne_ais {h1 h2 : Byte} (h : h1 ≠ 0xFF) : classify none h1 h2 ≠ .ais := by
  unfold classify
  dsimp only
  rw [if_neg (by rw [decide_eq_false h]; exact Bool.false_ne_true)]
  split_ifs <;> exact fun h => by cases h

theorem State.genFixed_unequipped (n t w : Nat) (s : State) :
    (s.genFixed n t w false false).1 = { units := List.replicate 783 (List.replicate w 0), h3 := List.replicate w 0 } ∧
      classify none ((s.genFixed n t w false false).2.store (192 * n + t)).h1 ((s.genFixed n t w false false).2.store (192 * n + t)).h2 ≠
        .ais := by
  unfold State.genFixed
  dsimp only
  rw [State.setStore_get]
  rw [if_neg Bool.false_ne_true]
  exact ⟨rfl, classify_ne_ais (ptrBytes_ne_ais _ _ _)⟩

end Sys2Proof.Machine
end

section
/-! O28. A path that a flow feeds: its elastic store, the units it sends and its pointer (04 R106-R109). -/

namespace Sys2Proof.Machine

/-! ### The decisions and what they send -/

/-- The units that the flow has brought by now, less a frame. -/
def State.reach (k : Nat) (f : Flow) (s : State) : Nat := f.ends + s.flowAge k - 783

/-- The store starts afresh: another source, or none before. -/
def Store.afresh (k : Nat) (st : Store) : Bool := decide (st.src ≠ k) || st.ais || st.uneq

/-- The store is empty or full. -/
def Store.slips (reach : Nat) (st : Store) : Bool := decide (reach < st.pos + 784) || decide (st.pos + 784 + 48 < reach)

/-- A frame of a fed path with its decisions: read from count `pos` with the store's fill `fill`; an increment `stf`, a decrement `neg`,
NDF, a slip. -/
def State.sendFlow (n t w k : Nat) (f : Flow) (pos fill : Nat) (neg stf ndf slip : Bool) (s : State) : TxPath × State :=
  let st := s.store (192 * n + t)
  let v := readPlace (f.read pos 784)
  let o := (783 - v) % 783
  let h := ptrBytes ndf (s.sonet n) (if neg then o ^^^ 0x155 else if stf then o ^^^ 0x2AA else o)
  let got := f.read pos (if neg then 784 else if stf then 782 else 783)
  let r := s.takeFree (w * (got.filter (fun u => u.isNone)).length)
  let us := unitBytes w got r.1
  let s := r.2.setStore (192 * n + t) { st with
    fill := fill, pos := pos + got.length, src := k, ais := false, uneq := false, hold := false, ndf := ndf, h1 := h.1, h2 := h.2,
    ptr := if neg then (782 - v) % 783 else if stf then (784 - v) % 783 else o, since := if neg || stf then 0 else min 3 (st.since + 1) }
  let s := if slip then s.setPath (192 * n + t) { s.path (192 * n + t) with slip := (s.path (192 * n + t)).slip + 1 } else s
  let zero := List.replicate w (0#8)
  (if neg then { units := us.take 261 ++ us.drop 262, h3 := us.getD 261 zero }
   else if stf then { units := us.take 261 ++ zero :: us.drop 261, h3 := zero }
   else { units := us, h3 := zero }, s)

/-- A fed path sends afresh or after a slip from the middle of the store, else from where it stood; the pointer moves only without
NDF, three frames after it moved last. -/
theorem State.genFlow_eq (n t w k : Nat) (f : Flow) (s : State) :
    let st := s.store (192 * n + t)
    let slip := !st.afresh k && st.slips (s.reach k f)
    let pos := if st.afresh k || slip then s.reach k f - 808 else st.pos
    let fill := s.reach k f - (pos + 784)
    let ndf := st.afresh k || slip || decide ((783 - readPlace (f.read pos 784)) % 783 ≠ st.ptr)
    s.genFlow n t w k f = s.sendFlow n t w k f pos fill (!ndf && decide (32 < fill) && decide (3 ≤ st.since))
      (!ndf && decide (fill < 16) && decide (3 ≤ st.since)) ndf slip := rfl

section
variable (n t w k : Nat) (f : Flow) (pos fill : Nat) (neg stf ndf slip : Bool) (s : State)

theorem State.sendFlow_store :
    let st := s.store (192 * n + t)
    let v := readPlace (f.read pos 784)
    let h := ptrBytes ndf (s.sonet n) (if neg then (783 - v) % 783 ^^^ 0x155 else if stf then (783 - v) % 783 ^^^ 0x2AA else (783 - v) % 783)
    (s.sendFlow n t w k f pos fill neg stf ndf slip).2.store (192 * n + t) = { st with
      fill := fill, pos := pos + (if neg then 784 else if stf then 782 else 783), src := k, ais := false, uneq := false, hold := false,
      ndf := ndf, h1 := h.1, h2 := h.2,
      ptr := if neg then (782 - v) % 783 else if stf then (784 - v) % 783 else (783 - v) % 783,
      since := if neg || stf then 0 else min 3 (st.since + 1) } := by
  unfold State.sendFlow
  dsimp only
  rw [Flow.read_length]
  split
  · exact State.setStore_get ..
  · exact State.setStore_get ..

theorem State.sendFlow_path : (s.sendFlow n t w k f pos fill neg stf ndf slip).2.path (192 * n + t) =
    if slip then { s.path (192 * n + t) with slip := (s.path (192 * n + t)).slip + 1 } else s.path (192 * n + t) := by
  unfold State.sendFlow
  dsimp only
  split
  · exact State.setPath_get ..
  · rfl

end

/-! ### The store starts afresh, or slips -/

theorem State.genFlow_afresh {n t w k : Nat} {f : Flow} {s : State} (h : (s.store (192 * n + t)).afresh k = true) :
    ((s.genFlow n t w k f).2.store (192 * n + t)).ndf = true ∧
      ((s.genFlow n t w k f).2.path (192 * n + t)).slip = (s.path (192 * n + t)).slip := by
  rw [State.genFlow_eq, State.sendFlow_store, State.sendFlow_path, h]
  exact ⟨rfl, rfl⟩

theorem State.genFlow_slips {n t w k : Nat} {f : Flow} {s : State} (h : (s.store (192 * n + t)).afresh k = false)
    (hs : (s.store (192 * n + t)).slips (s.reach k f) = true) :
    ((s.genFlow n t w k f).2.store (192 * n + t)).ndf = true ∧
      ((s.genFlow n t w k f).2.path (192 * n + t)).slip = (s.path (192 * n + t)).slip + 1 := by
  rw [State.genFlow_eq, State.sendFlow_store, State.sendFlow_path, h, hs]
  exact ⟨rfl, rfl⟩

/-! ### The units read -/

theorem State.reach_le_ends (k : Nat) (f : Flow) (s : State) : s.reach k f ≤ f.ends := by
  have h : s.flowAge k ≤ 783 := min_le_left ..
  unfold State.reach
  omega

/-- Where all units asked for have come, they are read. -/
theorem Flow.read_full {f : Flow} {pos m : Nat} (hb : f.base ≤ pos) (hm : m ≤ (f.since pos).length) :
    f.read pos m = ((f.since pos).take m).map some := by
  have h : f.base - pos = 0 := Nat.sub_eq_zero_of_le hb
  unfold Flow.read
  dsimp only
  rw [h, List.replicate_zero, List.nil_append, List.take_append_of_le_length (by rwa [List.length_map]), List.map_take]

theorem Flow.since_length {f : Flow} {pos m : Nat} (hb : f.base ≤ pos) (hm : pos + m ≤ f.ends) : m ≤ (f.since pos).length := by
  unfold Flow.ends at hm
  rw [Flow.since, List.length_drop]
  omega

theorem unitBytes_some (w : Nat) (l : List (Nat × List Byte)) (free : List Byte) :
    unitBytes w (l.map some) free = l.map (fun u => bytesAt u.2 0 w) := by
  induction l with
  | nil => rfl
  | cons u l ih => rw [List.map_cons, List.map_cons, unitBytes, ih]

theorem readPlace_some {l : List (Nat × List Byte)} {m : Nat} (hm : 261 < m) (hl : m ≤ l.length) :
    readPlace ((l.take m).map some) = (l.getD 261 (0, [])).1 := by
  have h : ((l.take m).map some).getD 261 none = some (l.getD 261 (0, [])) := by
    rw [List.getD_eq_getElem _ _ (by rw [List.length_map, List.length_take]; omega), List.getElem_map, List.getElem_take,
      List.getD_eq_getElem _ _ (by omega)]
  unfold readPlace
  rw [h]

/-! ### The units sent -/

/-- The bytes of the units from count `pos` on. -/
def Flow.sends (w pos : Nat) (f : Flow) : List (List Byte) := (f.since pos).map (fun u => bytesAt u.2 0 w)

section
variable {n t w k : Nat} {f : Flow} {pos : Nat} (hb : f.base ≤ pos) (hl : 784 ≤ (f.since pos).length) (fill : Nat) (ndf slip : Bool)
  (s : State)
include hb hl

theorem unitBytes_read {m : Nat} (hm : m ≤ 784) (free : List Byte) : unitBytes w (f.read pos m) free = (f.sends w pos).take m := by
  rw [Flow.read_full hb (hm.trans hl), unitBytes_some, Flow.sends, List.map_take]

theorem readPlace_read : readPlace (f.read pos 784) = ((f.since pos).getD 261 (0, [])).1 := by
  rw [Flow.read_full hb hl, readPlace_some (by decide) hl]

theorem State.sendFlow_even : (s.sendFlow n t w k f pos fill false false ndf slip).1.units = (f.sends w pos).take 783 :=
  unitBytes_read hb hl (by decide) _

theorem State.sendFlow_neg (stf : Bool) : (s.sendFlow n t w k f pos fill true stf ndf slip).1 =
    { units := (f.sends w pos).take 261 ++ ((f.sends w pos).take 784).drop 262, h3 := (f.sends w pos).getD 261 [] } := by
  have hus : ∀ free, unitBytes w (f.read pos 784) free = (f.sends w pos).take 784 := unitBytes_read hb hl le_rfl
  have hlen : 784 ≤ (f.sends w pos).length := by rwa [Flow.sends, List.length_map]
  unfold State.sendFlow
  simp only [if_true, hus, List.take_take, TxPath.mk.injEq]
  refine ⟨rfl, ?_⟩
  rw [List.getD_eq_getElem _ _ (by rw [List.length_take]; omega), List.getD_eq_getElem _ _ (by omega), List.getElem_take]

theorem State.sendFlow_stf : (s.sendFlow n t w k f pos fill false true ndf slip).1.units =
    (f.sends w pos).take 261 ++ List.replicate w 0 :: ((f.sends w pos).take 782).drop 261 := by
  have hus : ∀ free, unitBytes w (f.read pos 782) free = (f.sends w pos).take 782 := unitBytes_read hb hl (by decide)
  unfold State.sendFlow
  simp only [Bool.false_eq_true, if_false, if_true, hus, List.take_take]
  rfl

end

/-! ### A store that goes on -/

/-- The store goes on with the flow: the units from its place on are all kept, it neither starts afresh nor slips. -/
def State.Feeds (n t k : Nat) (f : Flow) (s : State) : Prop :=
  f.base ≤ (s.store (192 * n + t)).pos ∧ (s.store (192 * n + t)).afresh k = false ∧ (s.store (192 * n + t)).slips (s.reach k f) = false

/-- The fill of the store when a frame of it is read. -/
def State.fedFill (n t k : Nat) (f : Flow) (s : State) : Nat := s.reach k f - ((s.store (192 * n + t)).pos + 784)

/-- The pointer that the place of the unit after H3 asks for. -/
def State.fedPtr (n t : Nat) (f : Flow) (s : State) : Nat := (783 - ((f.since (s.store (192 * n + t)).pos).getD 261 (0, [])).1) % 783

section
variable {n t w k : Nat} {f : Flow} {s : State} (h : s.Feeds n t k f)
include h

theorem State.Feeds.length : 784 ≤ (f.since (s.store (192 * n + t)).pos).length := by
  obtain ⟨hb, -, hs⟩ := h
  simp only [Store.slips, Bool.or_eq_false_iff, decide_eq_false_iff_not, not_lt] at hs
  exact Flow.since_length hb (hs.1.trans (State.reach_le_ends k f s))

theorem State.Feeds.readPlace : (783 - readPlace (f.read (s.store (192 * n + t)).pos 784)) % 783 = s.fedPtr n t f := by
  rw [readPlace_read h.1 h.length]
  rfl

/-- A store that goes on reads from where it stood. -/
theorem State.Feeds.genFlow_eq : s.genFlow n t w k f =
    s.sendFlow n t w k f (s.store (192 * n + t)).pos (s.fedFill n t k f)
      (!decide (s.fedPtr n t f ≠ (s.store (192 * n + t)).ptr) && decide (32 < s.fedFill n t k f) &&
        decide (3 ≤ (s.store (192 * n + t)).since))
      (!decide (s.fedPtr n t f ≠ (s.store (192 * n + t)).ptr) && decide (s.fedFill n t k f < 16) &&
        decide (3 ≤ (s.store (192 * n + t)).since))
      (decide (s.fedPtr n t f ≠ (s.store (192 * n + t)).ptr)) false := by
  rw [State.genFlow_eq, h.2.1, h.2.2, ← h.readPlace]
  rfl

theorem State.Feeds.even (h16 : 16 ≤ s.fedFill n t k f) (h32 : s.fedFill n t k f ≤ 32) : s.genFlow n t w k f =
    s.sendFlow n t w k f (s.store (192 * n + t)).pos (s.fedFill n t k f) false false
      (decide (s.fedPtr n t f ≠ (s.store (192 * n + t)).ptr)) false := by
  rw [h.genFlow_eq, decide_eq_false (Nat.not_lt.2 h32), decide_eq_false (Nat.not_lt.2 h16), Bool.and_false, Bool.false_and]

theorem State.Feeds.neg (h32 : 32 < s.fedFill n t k f) (hs : 3 ≤ (s.store (192 * n + t)).since)
    (hv : s.fedPtr n t f = (s.store (192 * n + t)).ptr) :
    s.genFlow n t w k f = s.sendFlow n t w k f (s.store (192 * n + t)).pos (s.fedFill n t k f) true false false false := by
  rw [h.genFlow_eq, decide_eq_false (not_not.2 hv), decide_eq_true h32, decide_eq_true hs, decide_eq_false (by omega)]
  rfl

theorem State.Feeds.stf (h16 : s.fedFill n t k f < 16) (hs : 3 ≤ (s.store (192 * n + t)).since)
    (hv : s.fedPtr n t f = (s.store (192 * n + t)).ptr) :
    s.genFlow n t w k f = s.sendFlow n t w k f (s.store (192 * n + t)).pos (s.fedFill n t k f) false true false false := by
  rw [h.genFlow_eq, decide_eq_false (not_not.2 hv), decide_eq_true h16, decide_eq_true hs, decide_eq_false (by omega)]
  rfl

theorem State.Feeds.keeps : ((s.genFlow n t w k f).2.path (192 * n + t)).slip = (s.path (192 * n + t)).slip ∧
    ((s.genFlow n t w k f).2.store (192 * n + t)).fill = s.fedFill n t k f := by
  rw [h.genFlow_eq, State.sendFlow_path, State.sendFlow_store]
  exact ⟨rfl, rfl⟩

/-- A store between the thresholds: 783 units, the pointer as their places ask. -/
theorem State.Feeds.sends_even (h16 : 16 ≤ s.fedFill n t k f) (h32 : s.fedFill n t k f ≤ 32) :
    let st := s.store (192 * n + t)
    let q := s.genFlow n t w k f
    let x := q.2.store (192 * n + t)
    q.1.units = (f.sends w st.pos).take 783 ∧ x.pos = st.pos + 783 ∧ x.ptr = s.fedPtr n t f ∧ x.ndf = decide (s.fedPtr n t f ≠ st.ptr) := by
  rw [h.even h16 h32]
  refine ⟨State.sendFlow_even h.1 h.length .., ?_⟩
  rw [State.sendFlow_store, h.readPlace]
  exact ⟨rfl, rfl, rfl⟩

/-- A store over its upper threshold: one unit more, in H3. -/
theorem State.Feeds.sends_neg (h32 : 32 < s.fedFill n t k f) (hs : 3 ≤ (s.store (192 * n + t)).since)
    (hv : s.fedPtr n t f = (s.store (192 * n + t)).ptr) :
    let st := s.store (192 * n + t)
    let q := s.genFlow n t w k f
    let x := q.2.store (192 * n + t)
    q.1.units = (f.sends w st.pos).take 261 ++ ((f.sends w st.pos).take 784).drop 262 ∧ q.1.h3 = (f.sends w st.pos).getD 261 [] ∧
      x.pos = st.pos + 784 ∧ x.ndf = false ∧ x.since = 0 ∧ (x.h1, x.h2) = ptrBytes false (s.sonet n) (s.fedPtr n t f ^^^ 0x155) := by
  have hsent := State.sendFlow_neg (w := w) (n := n) (t := t) (k := k) h.1 h.length (s.fedFill n t k f) false false s false
  rw [h.neg h32 hs hv]
  refine ⟨congrArg TxPath.units hsent, congrArg TxPath.h3 hsent, ?_⟩
  rw [State.sendFlow_store, h.readPlace]
  exact ⟨rfl, rfl, rfl, rfl⟩

/-- A store under its lower threshold: one unit fewer, a stuffed place after H3. -/
theorem State.Feeds.sends_stf (h16 : s.fedFill n t k f < 16) (hs : 3 ≤ (s.store (192 * n + t)).since)
    (hv : s.fedPtr n t f = (s.store (192 * n + t)).ptr) :
    let st := s.store (192 * n + t)
    let q := s.genFlow n t w k f
    let x := q.2.store (192 * n + t)
    q.1.units = (f.sends w st.pos).take 261 ++ List.replicate w 0 :: ((f.sends w st.pos).take 782).drop 261 ∧
      x.pos = st.pos + 782 ∧ x.ndf = false ∧ x.since = 0 ∧ (x.h1, x.h2) = ptrBytes false (s.sonet n) (s.fedPtr n t f ^^^ 0x2AA) := by
  rw [h.stf h16 hs hv]
  refine ⟨State.sendFlow_stf h.1 h.length .., ?_⟩
  rw [State.sendFlow_store, h.readPlace]
  exact ⟨rfl, rfl, rfl, rfl⟩

end

end Sys2Proof.Machine
end

section
/-! O28. What the paths send is what a transmit line frame carries (03 R77; 04 R94, R106), and the obligation. -/

namespace Sys2Proof.Machine

/-! ### A transmit line frame -/

theorem State.txH_of_ground {s t : State} (h : t.ground = s.ground) (n : Nat) : t.txH n = s.txH n := by
  obtain ⟨hh, hc⟩ := Prod.mk.inj h
  unfold State.txH State.pathOf State.augGroup State.augCode State.store State.portN State.sonet State.rf State.rb State.reg
  rw [hh, hc]

theorem State.lptB_of_ports {s t : State} (hp : t.ports = s.ports) (hc : t.cfg = s.cfg) (n o i : Nat) : t.lptB n o i = s.lptB n o i := by
  unfold State.lptB State.lptCfg State.port State.reg
  rw [hp, hc]

/-- A frame that a transmitter sends carries what its port's paths send and the pointers of their stores. -/
theorem State.txFrame_carries {n : Nat} {s : State} (h : s.txIdle n = false) : ∃ x : TxParts, x.nn = s.portN n ∧
    x.pay = (State.genPaths n (s.pathsOf n) s).1 ∧ x.h = (State.genPaths n (s.pathsOf n) s).2.txH n ∧
    let plain := if s.rb (lpt n 0x44) 0 then msAis (s.portN n) x.frame else x.frame
    ((s.txFrame n).port n).txFrame = if s.lptB n 0 5 then plain else scrambleFrame (9 * s.portN n) plain := by
  unfold State.txFrame
  rw [if_neg (by rw [h]; exact Bool.false_ne_true)]
  dsimp only
  generalize hv : (State.genPaths n (s.pathsOf n) s).2 = v
  have hvs : v.hide 1073741828 = s.hide 1073741828 := by
    rw [← hv, State.genPaths_frame _ (by decide)]
  generalize hu : (State.txDcc (2 * n + 1) 9 _ _).2 = u
  have huv : u.hide 8798240505856 = v.hide 8798240505856 := by
    rw [← hu, State.txDcc_frame _ (by decide), State.txDcc_frame _ (by decide), State.traceSend_frame _ (by decide)]
  have hg : u.ground = v.ground := ground_of_hide (hide_mono _ _ (by decide) huv)
  have hcfg : u.cfg = s.cfg := (Prod.mk.inj hg).2.trans (cfg_of_hide (hide_mono _ _ (by decide) hvs))
  have hports : u.ports = s.ports :=
    (ports_of_hide (hide_mono _ _ (by decide) huv)).trans (ports_of_hide (hide_mono _ _ (by decide) hvs))
  have hrb : u.rb (lpt n 0x44) 0 = s.rb (lpt n 0x44) 0 := by
    unfold State.rb State.reg
    rw [hcfg]
  rw [State.modPort, State.setPort_get, hrb, State.lptB_of_ports hports hcfg]
  generalize hx : TxParts.mk _ _ _ _ _ _ _ _ _ _ _ _ = x
  refine ⟨x, ?_, ?_, ?_, rfl⟩
  · rw [← hx]
  · rw [← hx]
  · rw [← hx, ← State.txH_of_ground hg]

/-! ### The obligation -/

/-- Settles O28: the interpreter by rows of equal pointers, a received frame by the one step that each path takes, the source by its
entry, and what a fed path sends by its store's decisions. -/
theorem pointersAndPaths : Obligations.PointersAndPaths := by
  unfold Obligations.PointersAndPaths
  refine ⟨fun lopN m p h8 _ _ => ?interpreter, ⟨fun n b s he hd => ?received, fun n t w d s h0 h1 => State.rxPath_flow h0 h1,
      fun k w a r s ha => ?overhead⟩, ⟨fun s d => ?source, fun n t w s => ?path, fun n t w k f s => ?feeds, fun n t w k f s => ?breaks,
      fun n s hs hi => ?sent⟩, fun t ho s => State.loServerUpdate_spec t ho s⟩
  case interpreter =>
    exact ⟨fun _ ho hst => Pi.Far.found ho (.inl hst), fun _ ho _ hi hd => Pi.Far.found ho (.inr ⟨hi, hd⟩), piStep_ais_row lopN m p,
      piStep_invalid_row h8 p, fun _ => piStep_ndf_row h8,
      fun _ ho h0 hn => ⟨(piStep_ndf_norm ho h0 hn).1, (piStep_ndf_norm ho h0 hn).2.1⟩, fun _ => piStep_ndf_out,
      fun _ => piStep_normal_inc, fun _ => piStep_normal_dec⟩
  case received =>
    exact ⟨_, execRxLineFrame_next b he hd, fun x hx => State.rxLine_stepped n.isLt b s hx⟩
  case overhead =>
    obtain ⟨-, -, -, -, hbip, hb3, hrei, hc2, hrdi⟩ := s.pathOverhead_spec k w r
    refine ⟨fun hv hn => ?_, fun f hf hv hn => ?_, fun b hb => ?_, hbip, hrei⟩
    · obtain ⟨h2, h3⟩ := hc2 a (ha ▸ HoPath.nextC2_run (hv.trans ha.symm) hn)
      exact ⟨h2, by rw [h3, plmP_iff]⟩
    · rw [← hf]
      exact hrdi (Run.push_n (by decide) (hv.trans (by rw [hf])) hn (by decide))
    · rw [hb3, hb]
      rfl
  case source =>
    refine ⟨State.xcSource_off, State.xcSource_ais, fun hon hm => ⟨fun h2 => ?_, fun h0 hw => ?_, fun h0 hg => ?_⟩⟩
    · rw [State.xcSource_on hon, if_neg (not_not.2 hm), if_neg (by omega), if_pos h2]
    · rw [State.xcSource_on hon, if_neg (not_not.2 hm), if_neg (by omega), if_neg (by omega), hw]
      rfl
    · rw [State.xcSource_on hon, if_neg (not_not.2 hm), if_neg (by omega), if_neg (by omega), hg, State.connSrc, hg]
      rfl
  case path =>
    refine ⟨fun ha hsrc => ?_, fun hsrc hh => ?_, fun hsrc hh ha => ?_⟩
    · have hk : s.srcKind (s.xcSource (s.txSlot n t)) = 1 := by
        obtain hl | hl := hsrc
        · rw [State.srcKind_line hl, ha hl]
          rfl
        · rw [hl, State.srcKind_ais]
      obtain ⟨hold, hg⟩ := State.genPath_ais (w := w) hk
      rw [hg]
      exact State.genFixed_ais n t w hold s
    · rw [State.genPath_unequipped (hsrc ▸ State.srcKind_unequipped s) hh]
      exact State.genFixed_unequipped n t w s
    · rw [State.genPath_flow ((State.srcKind_line hsrc).trans (congrArg b2n ha)) hh, State.flowKey, if_pos hsrc, State.flowOf_line hsrc]
  case feeds =>
    intro st reach us q x v hb hsrc hais huneq hlo hhi
    have h : s.Feeds n t k f := by
      refine ⟨hb, ?_, ?_⟩
      · rw [Store.afresh, decide_eq_false (not_not.2 hsrc), hais, huneq]
        rfl
      · exact Bool.or_eq_false_iff.2 ⟨decide_eq_false (Nat.not_lt.2 hlo), decide_eq_false (Nat.not_lt.2 hhi)⟩
    obtain ⟨hslip, hfill⟩ := h.keeps (w := w)
    have hx : x.fill = s.fedFill n t k f := hfill
    refine ⟨hslip, hfill, ?_⟩
    rw [hx]
    exact ⟨h.sends_even, h.sends_neg, h.sends_stf⟩
  case breaks =>
    refine ⟨fun hn => State.genFlow_afresh ?_, fun hsrc hais huneq hs => State.genFlow_slips ?_ ?_⟩
    · simpa [Store.afresh, or_assoc] using hn
    · rw [Store.afresh, decide_eq_false (not_not.2 hsrc), hais, huneq]
      rfl
    · exact Bool.or_eq_true_iff.2 (hs.imp decide_eq_true decide_eq_true)
  case sent =>
    exact ⟨_, execTxLineFrame_next hs, State.txFrame_carries hi⟩

end Sys2Proof.Machine
end

section
/-! O37. The settings of a tributary and its signalling overrides, as TRIB_CFG and SIG_SET leave them (05 R135, R136, R152). -/

namespace Sys2Proof.Machine

/-! ### A tributary as it is stored -/

/-- What `putTrib` stores: a slip buffer restarts where a conditioning defect ends (R148). -/
def State.storedTrib (t : Nat) (x : Trib) (s : State) : Trib :=
  if (List.range 4).any (fun i => (s.trib t).def_ i && !(x.def_ i)) && (s.mergeOfA t).isNone then { x with slip := {} } else x

/-- Stored as given, the slip buffer apart. -/
theorem State.storedTrib_eq (t : Nat) (x : Trib) (s : State) : ∃ sl, s.storedTrib t x = { x with slip := sl } := by
  unfold State.storedTrib
  split
  · exact ⟨_, rfl⟩
  · exact ⟨x.slip, rfl⟩

theorem State.storedTrib_of_slip {t : Nat} {x : Trib} {s : State} (h : x.slip = {}) : s.storedTrib t x = x := by
  unfold State.storedTrib
  split
  · rw [← h]
  · rfl

theorem Trib.def_congr {x y : Trib} (h : x.defects = y.defects) (i : Nat) : x.def_ i = y.def_ i := congrArg (BitVec.getLsbD · i) h

theorem State.storedTrib_of_defects {t : Nat} {x : Trib} {s : State} (h : x.defects = (s.trib t).defects) : s.storedTrib t x = x := by
  unfold State.storedTrib
  simp [Trib.def_congr h]

theorem State.putTrib_tribs (t : Nat) (x : Trib) (s : State) : (s.putTrib t x).tribs = tput s.tribs t (s.storedTrib t x) := by
  have hr : ∀ m k a b c (u : State), (u.raiseU m k a b c).tribs = u.tribs := fun m k a b c u =>
    tribs_of_hide (State.raiseU_frame _ (by decide) ..)
  have hd : ∀ a b c (u : State), (u.seeDef a b c).tribs = u.tribs := fun a b c u => tribs_of_hide (State.seeDef_frame _ (by decide) ..)
  unfold State.putTrib
  dsimp only
  rw [apply_ite State.tribs, hr, ite_self, apply_ite State.tribs, hr, ite_self,
    foldS_mem_keeps State.tribs fun i _ u => by rw [apply_ite State.tribs, hr, hd, ite_self]]
  rfl

/-- One tributary is overwritten. -/
theorem State.trib_of_tput {s u : State} {t : Nat} {y : Trib} (h : u.tribs = tput s.tribs t y) :
    u.trib t = y ∧ ∀ m, m ≠ t → u.trib m = s.trib m := by
  unfold State.trib
  rw [h]
  exact ⟨tget_tput_same .., fun m hm => tget_tput_other _ _ _ _ _ hm⟩

theorem State.putTrib_trib (t : Nat) (x : Trib) (s : State) : (s.putTrib t x).trib t = s.storedTrib t x :=
  (State.trib_of_tput (State.putTrib_tribs t x s)).1

theorem State.putTrib_trib_other {t m : Nat} (h : m ≠ t) (x : Trib) (s : State) : (s.putTrib t x).trib m = s.trib m :=
  (State.trib_of_tput (State.putTrib_tribs t x s)).2 m h

/-! ### TRIB_CFG (R136) -/

/-- Settings that restart a tributary, or disable it, are in force at once. -/
theorem State.tribCfg_restart {t : Nat} {c : TribSet} {s : State} (h : c.en = false ∨ tribRestarts (s.trib t).want c = true) :
    (s.tribCfg t c).tribs = tput s.tribs t ((s.trib t).restart c) := by
  have hput : ∀ u : State, (u.putTrib t ((s.trib t).restart c)).tribs = tput u.tribs t ((s.trib t).restart c) := fun u => by
    rw [State.putTrib_tribs, State.storedTrib_of_slip rfl]
  unfold State.tribCfg
  dsimp only
  split
  next => exact hput _
  next hen =>
    rw [if_pos (h.resolve_left (by simpa using hen))]
    exact hput _

/-- The settings of a running tributary while a change waits for its multiframe: the conditioning values alone are in force. -/
def Trib.waitCfg (c : TribSet) (x : Trib) : Trib :=
  { x with cfg := { x.cfg with cond := c.cond, sigCond := c.sigCond, sigIdle := c.sigIdle }
           cfgNew := if c = { x.cfg with cond := c.cond, sigCond := c.sigCond, sigIdle := c.sigIdle } then none else some c }

theorem Trib.waitCfg_want (c : TribSet) (x : Trib) : (x.waitCfg c).want = c := by
  unfold Trib.waitCfg Trib.want
  dsimp only
  split
  next h => exact h.symm
  next => rfl

theorem State.tribCfg_wait {t : Nat} {c : TribSet} {s : State} (hen : c.en = true) (hr : tribRestarts (s.trib t).want c = false) :
    (s.tribCfg t c).tribs = tput s.tribs t ((s.trib t).waitCfg c) := by
  unfold State.tribCfg
  dsimp only
  rw [if_neg (by simp [hen]), if_neg (by simp [hr]), State.putTrib_tribs]
  exact congrArg (tput s.tribs t) (State.storedTrib_of_defects rfl)

/-! ### SIG_SET (R152) -/

/-- A value written at the slots of a list is read there, and what was there elsewhere. -/
theorem tget_foldl_tset (l : List Nat) (v : Nat) (t : Tab Nat) (k : Nat) :
    tget 0 (l.foldl (fun t i => tset 0 t i v) t) k = if k ∈ l then v else tget 0 t k := by
  induction l generalizing t with
  | nil => rfl
  | cons i l ih =>
    rw [List.foldl_cons, ih]
    by_cases hk : k = i
    · subst hk
      simp
    · rw [tget_tset_other _ _ _ _ _ hk]
      simp [hk]

/-- The slots that a SIG_SET acts on. -/
def State.sigSlots (o : SigOp) (s : State) : List Nat :=
  (List.range 32).filter fun ts => wbit o.mask ts && signalled (s.trib o.t).want ts

/-- The overrides of a direction, for the next transmit multiframe in the transmit one. -/
def SigState.over (tx : Bool) (x : SigState) : Tab Nat := if tx then x.ovTxNew else x.ovRx

theorem State.sigSet_fst (o : SigOp) (s : State) : (s.sigSet o).1 = (s.sigSlots o).length := rfl

theorem State.sigSet_trib_other {o : SigOp} {m : Nat} (h : m ≠ o.t) (s : State) : (s.sigSet o).2.trib m = s.trib m :=
  State.putTrib_trib_other h ..

theorem State.sigSet_sig (o : SigOp) (s : State) : (((s.sigSet o).2.trib o.t).sig.over o.tx =
      (s.sigSlots o).foldl (fun t i => tset 0 t i (if o.follow then 0 else o.abcd + 1)) ((s.trib o.t).sig.over o.tx)) ∧
    ((s.sigSet o).2.trib o.t).sig.over (!o.tx) = (s.trib o.t).sig.over (!o.tx) := by
  unfold State.sigSet
  dsimp only
  rw [State.putTrib_trib, State.storedTrib_of_defects (by rfl)]
  cases o.tx
  · exact ⟨rfl, rfl⟩
  · exact ⟨rfl, rfl⟩

theorem State.sigSet_at {o : SigOp} {ts : Nat} (s : State) (hts : ts < 32) : tget 0 (((s.sigSet o).2.trib o.t).sig.over o.tx) ts =
    if wbit o.mask ts && signalled (s.trib o.t).want ts then (if o.follow then 0 else o.abcd + 1)
    else tget 0 ((s.trib o.t).sig.over o.tx) ts := by
  rw [(s.sigSet_sig o).1, tget_foldl_tset]
  simp [State.sigSlots, hts]

/-! ### The obligation -/

/-- Settles O37: TRIB_CFG by the tributary that it stores, restarted or waiting, SIG_SET by the overrides it writes. -/
theorem tribSettings : Obligations.TribSettings := by
  unfold Obligations.TribSettings
  refine ⟨fun h n c s hc => hc.does (u := s.tribCfg n c) rfl rfl rfl rfl fun l p hd => ?cfg,
    fun h o s hc => hc.does (u := (s.sigSet o).2) rfl rfl rfl rfl fun l p hd => ?sig⟩
  case cfg =>
    simp only [withComps_trib_eq, withPmc_trib_eq]
    by_cases hr : c.en = false ∨ tribRestarts (s.trib n).want c = true
    · obtain ⟨hn, ho⟩ := State.trib_of_tput (State.tribCfg_restart hr)
      rw [hn]
      exact ⟨hd, rfl, ho, fun _ => ⟨rfl, rfl, rfl, rfl, rfl, rfl, rfl⟩, fun he hf => by simp [he, hf] at hr⟩
    · obtain ⟨he, hf⟩ : c.en = true ∧ tribRestarts (s.trib n).want c = false := by simpa using hr
      obtain ⟨hn, ho⟩ := State.trib_of_tput (State.tribCfg_wait he hf)
      rw [hn]
      exact ⟨hd, Trib.waitCfg_want .., ho, fun h => absurd h hr, fun _ _ => ⟨rfl, rfl, rfl⟩⟩
  case sig =>
    have hother := (s.sigSet_sig o).2
    simp only [withComps_trib_eq, withPmc_trib_eq]
    refine ⟨hd, fun ts hts hh => (State.sigSet_at s hts).trans (if_pos hh),
      fun ts hts hh => (State.sigSet_at s hts).trans (if_neg (Bool.not_eq_true _ ▸ hh)), ?_, fun m hm => State.sigSet_trib_other hm s⟩
    cases htx : o.tx <;> rwa [htx] at hother

end Sys2Proof.Machine
end

section
/-! O38. The framer of a tributary: the E1 hunt and its loss of frame, the T1 hunt (05 R139, R143), what of a received frame's way
leaves the framer alone; CRC4_NONE and the signalling hold-off (R139, R150). -/

namespace Sys2Proof.Machine

/-! ### The E1 hunt (R139) -/

/-- A FAS, an NFAS a frame later and a FAS two frames later begin the bits. -/
def e1Begins (l : List Bool) : Bool := fasAt l && (l.drop 257).head? = some true && fasAt (l.drop 512)

theorem e1Begins_drop {l : List Bool} {j : Nat} : e1Begins (l.drop j) = true ↔
    fasAt (l.drop j) = true ∧ (l.drop (j + 257)).head? = some true ∧ fasAt (l.drop (j + 512)) = true := by
  simp only [e1Begins, List.drop_drop, Bool.and_eq_true, decide_eq_true_eq, and_assoc]

/-- The place found is the first at which they begin. -/
theorem e1Find_eq_some (l : List Bool) (k i : Nat) :
    e1Find l k = some i ↔ ∃ j, i = k + j ∧ e1Begins (l.drop j) = true ∧ ∀ m < j, e1Begins (l.drop m) = false := by
  induction l generalizing k with
  | nil =>
    have h : e1Begins [] = false := by decide
    simp [e1Find, h]
  | cons v l ih =>
    have hstep : e1Find (v :: l) k = if e1Begins (v :: l) then some k else e1Find l (k + 1) := rfl
    rw [hstep]
    by_cases h0 : e1Begins (v :: l) = true
    · rw [if_pos h0, Option.some.injEq]
      constructor
      · rintro rfl
        exact ⟨0, rfl, h0, fun m hm => absurd hm (Nat.not_lt_zero m)⟩
      · rintro ⟨j, rfl, -, hj⟩
        cases j with
        | zero => rfl
        | succ j => exact absurd h0 (by simpa using hj 0 (Nat.succ_pos j))
    · rw [if_neg h0, ih]
      constructor
      · rintro ⟨j, rfl, hb, hj⟩
        refine ⟨j + 1, by omega, hb, fun m hm => ?_⟩
        cases m with
        | zero => simpa using h0
        | succ m => exact hj m (by omega)
      · rintro ⟨j, rfl, hb, hj⟩
        cases j with
        | zero => exact absurd hb h0
        | succ j => exact ⟨j, by omega, hb, fun m hm => hj (m + 1) (by omega)⟩

/-! ### The framer's part of a tributary -/

/-- What the framer goes by: the settings, its state, the bits it has, the tag lock and LOF. -/
structure Framer where
  cfg : TribSet
  frm : Nat
  odd : Bool
  fasBad : Nat
  hunt : List Bool
  rxBits : List Bool
  tagLock : Bool
  lof : Bool

def Trib.framer (x : Trib) : Framer := ⟨x.cfg, x.frm, x.odd, x.fasBad, x.hunt, x.rxBits, x.tagLock, x.def_ 2⟩

theorem Trib.setD_eq (i : Nat) (on : Bool) (x : Trib) : ∃ d k, x.setD i on = { x with defects := d, sticky := k } := by
  unfold Trib.setD
  split
  · exact ⟨_, _, rfl⟩
  · exact ⟨_, x.sticky, rfl⟩

theorem Trib.setD_def {i : Nat} (hi : i < 7) (on : Bool) (x : Trib) : (x.setD i on).def_ i = on := by
  cases on <;> simp [Trib.setD, Trib.def_, hi]

theorem Trib.setD_def_other {i j : Nat} (hj : j < 7 ∧ j ≠ i) (on : Bool) (x : Trib) : (x.setD i on).def_ j = x.def_ j := by
  cases on <;> simp [Trib.setD, Trib.def_] <;> omega

/-- A defect but LOF is no part of the framer. -/
theorem Trib.setD_framer {i : Nat} (hi : i ≠ 2) (on : Bool) (x : Trib) : (x.setD i on).framer = x.framer := by
  obtain ⟨d, k, he⟩ := x.setD_eq i on
  have hd := Trib.setD_def_other ⟨by decide, hi.symm⟩ on x
  unfold Trib.framer
  rw [hd, he]

theorem Trib.setD_lof_framer (on : Bool) (x : Trib) : (x.setD 2 on).framer = { x.framer with lof := on } := by
  obtain ⟨d, k, he⟩ := x.setD_eq 2 on
  have hd := Trib.setD_def (by decide : 2 < 7) on x
  unfold Trib.framer
  rw [hd, he]

theorem framer_ite (c : Prop) [Decidable c] (x y : Trib) : (if c then x else y).framer = if c then x.framer else y.framer :=
  apply_ite Trib.framer c x y

theorem Trib.casFrame_framer (b : Byte) (x : Trib) : (x.casFrame b).framer = x.framer := by
  unfold Trib.casFrame
  dsimp only
  simp only [framer_ite, Trib.setD_framer (by decide : (4 : Nat) ≠ 2), Trib.setD_framer (by decide : (6 : Nat) ≠ 2)]
  simp only [Trib.framer, Trib.def_, ite_self]

theorem Trib.casSkip_framer (x : Trib) : x.casSkip.framer = x.framer := by
  unfold Trib.casSkip
  split
  · rfl
  · rfl

/-! ### The scan for LOS and AIS -/

theorem BitScan.note_chg {i : Nat} (hi : i < 2) {was now : Bool} {x : BitScan} (h : ∀ e ∈ x.chg, e.1 < 2) :
    ∀ e ∈ (x.note i was now).chg, e.1 < 2 := by
  unfold BitScan.note
  split
  · exact h
  · intro e he
    obtain he | he := List.mem_append.1 he
    · exact h e he
    · rw [List.mem_singleton.1 he]
      exact hi

theorem BitScan.bit_chg {x : BitScan} (t1 lo b : Bool) (h : ∀ e ∈ x.chg, e.1 < 2) : ∀ e ∈ (x.bit t1 lo b).chg, e.1 < 2 := by
  have hite : ∀ (c : Prop) [Decidable c] (y z : BitScan), (∀ e ∈ y.chg, e.1 < 2) → (∀ e ∈ z.chg, e.1 < 2) →
      ∀ e ∈ (if c then y else z).chg, e.1 < 2 := fun c _ y z hy hz => by
    split
    · exact hy
    · exact hz
  unfold BitScan.bit
  dsimp only
  refine hite _ _ _ (BitScan.note_chg (i := 0) (by decide) ?_)
    (BitScan.note_chg (i := 1) (by decide) (BitScan.note_chg (i := 0) (by decide) ?_))
  · exact h
  · exact h

/-- The scan tells of LOS and AIS alone. -/
theorem Trib.scan_chg (l : List Bool) (x : Trib) : ∀ e ∈ (x.scan l).2, e.1 < 2 := by
  unfold Trib.scan
  dsimp only
  exact List.foldlRecOn l _ (motive := fun r : BitScan => ∀ e ∈ r.chg, e.1 < 2) (by simp) fun r hr b _ => BitScan.bit_chg _ _ _ hr

theorem Trib.scan_framer (l : List Bool) (x : Trib) : (x.scan l).1.framer = x.framer := rfl

/-! ### The way of a frame past the framer -/

/-- The framer of tributary `n`. -/
def State.framer (n : Nat) (s : State) : Framer := (s.trib n).framer

theorem State.framer_of_tribs {s t : State} (h : t.tribs = s.tribs) (n : Nat) : t.framer n = s.framer n := by
  unfold State.framer State.trib
  rw [h]

theorem tribFramer_ite (n : Nat) (c : Prop) [Decidable c] (s t : State) :
    (if c then s else t).framer n = if c then s.framer n else t.framer n := apply_ite (State.framer n) c s t

theorem State.putTrib_framer_self (t : Nat) (x : Trib) (s : State) : (s.putTrib t x).framer t = x.framer := by
  obtain ⟨sl, he⟩ := s.storedTrib_eq t x
  unfold State.framer
  rw [State.putTrib_trib, he]
  rfl

theorem State.putTrib_framer {t : Nat} {x : Trib} {s : State} (h : x.framer = (s.trib t).framer) (n : Nat) :
    (s.putTrib t x).framer n = s.framer n := by
  by_cases hn : n = t
  · subst hn
    exact (State.putTrib_framer_self ..).trans h
  · unfold State.framer
    rw [State.putTrib_trib_other hn]

theorem State.raiseU_framer (m : Bool) (k : Kind) (src addr data : Nat) (s : State) (n : Nat) :
    (s.raiseU m k src addr data).framer n = s.framer n := State.framer_of_tribs (tribs_of_hide (State.raiseU_frame _ (by decide) ..)) n

theorem State.tribSlip_framer (t : Nat) (del : Bool) (s : State) (n : Nat) : (s.tribSlip t del).framer n = s.framer n := by
  unfold State.tribSlip
  dsimp only
  rw [tribFramer_ite, State.raiseU_framer, ite_self]
  exact State.putTrib_framer (by rfl) n

theorem State.slipWrite_framer (t : Nat) (f : List Byte) (s : State) (n : Nat) : (s.slipWrite t f).framer n = s.framer n := by
  unfold State.slipWrite
  dsimp only
  rw [tribFramer_ite, State.tribSlip_framer, ite_self]
  exact State.putTrib_framer (by rfl) n

theorem State.mergeRead_framer (g : Nat) (s : State) (n : Nat) : (s.mergeRead g).framer n = s.framer n := by
  unfold State.mergeRead
  dsimp only
  split
  · rfl
  · rw [State.slipWrite_framer, tribFramer_ite]
    refine (ite_congr rfl (fun _ => ?_) fun _ => rfl).trans (ite_self _)
    refine State.putTrib_framer ?_ n
    rw [framer_ite, Trib.casSkip_framer, Trib.casFrame_framer, ite_self]

theorem State.setGroup_framer (kind g : Nat) (x : Group) (s : State) (n : Nat) : (s.setGroup kind g x).framer n = s.framer n := rfl

theorem State.mergeNext_framer (g : Nat) (b : Bool) (s : State) (n : Nat) : (s.mergeNext g b).framer n = s.framer n := by
  unfold State.mergeNext
  dsimp only
  rw [State.mergeRead_framer, tribFramer_ite, State.framer_of_tribs (tribs_of_hide (State.mergeOut_frame _ (by decide) ..)), ite_self]

theorem State.mergePace_framer (g : Nat) (b mine other : Bool) (s : State) (n : Nat) :
    (s.mergePace g b mine other).framer n = s.framer n := by
  unfold State.mergePace
  dsimp only
  simp only [tribFramer_ite, State.mergeNext_framer, State.mergeRead_framer, State.setGroup_framer, ite_self]

theorem State.mergeIn_framer (g : Nat) (b : Bool) (x : Trib) (pos : Nat) (f : List Byte) (hurt : Bool) (s : State) (n : Nat) :
    (s.mergeIn g b x pos f hurt).framer n = s.framer n := by
  unfold State.mergeIn
  dsimp only
  rw [State.mergePace_framer, State.framer_of_tribs (tribs_of_hide (State.mergeTake_frame _ (by decide) ..)),
    State.framer_of_tribs (tribs_of_hide (State.mergeTell_frame _ (by decide) ..))]
  rfl

/-- A received frame leaves a framer as `frameIn` makes it, from a tributary with the framer that was there. -/
theorem State.tribFrame_framer (t : Nat) (l : List Bool) (s : State) : ∃ x : Trib, ∃ isA, x.framer = (s.trib t).framer ∧
    (s.tribFrame t l).framer t = (x.frameIn l isA).2.framer := by
  have hscan : (foldS ((s.trib t).scan l).2 (fun e s => s.modTrib t (Trib.setD e.1 e.2)) (s.putTrib t ((s.trib t).scan l).1)).framer t =
      s.framer t := by
    refine (foldS_mem_keeps (State.framer t) (fun e he u => ?_) _).trans (State.putTrib_framer (Trib.scan_framer l _) t)
    have he2 := Trib.scan_chg l _ e he
    exact State.putTrib_framer (Trib.setD_framer (by omega) ..) t
  refine ⟨_, (s.mergeOfA t).isSome, hscan, ?_⟩
  unfold State.tribFrame
  dsimp only
  rw [tribFramer_ite, State.slipWrite_framer, ite_self]
  split
  case' h_1 => rw [State.mergeIn_framer]
  all_goals
    split
    · exact (State.raiseU_framer ..).trans (State.putTrib_framer_self ..)
    · exact State.putTrib_framer_self ..

/-- The framer takes the next frame of received bits of an enabled tributary, once it is there (R138). -/
theorem State.tribBits_framer {t : Nat} {s : State} (hen : (s.trib t).cfg.en = true)
    (hl : (s.trib t).frameBits ≤ (s.trib t).rxBits.length) :
    ∃ x : Trib, ∃ isA, x.framer = { (s.trib t).framer with rxBits := (s.trib t).rxBits.drop (s.trib t).frameBits } ∧
      (s.tribBits t).framer t = (x.frameIn ((s.trib t).rxBits.take (s.trib t).frameBits) isA).2.framer := by
  obtain ⟨x, isA, hx, ht⟩ := State.tribFrame_framer t ((s.trib t).rxBits.take (s.trib t).frameBits)
    (s.putTrib t { s.trib t with rxBits := (s.trib t).rxBits.drop (s.trib t).frameBits })
  refine ⟨x, isA, hx.trans (State.putTrib_framer_self ..), ?_⟩
  unfold State.tribBits
  dsimp only
  rw [if_pos (by simp [hen, hl])]
  exact ht

/-! ### What the framer does (R139, R143) -/

/-- An E1 framer in hunt hunts. -/
theorem Trib.frameIn_hunt {x : Trib} (h1 : x.cfg.t1 = false) (hf : x.frm = 0) (l : List Bool) (isA : Bool) :
    (x.frameIn l isA).2 = x.e1Hunt l := by
  unfold Trib.frameIn Trib.e1Frame
  simp [h1, hf]

theorem Trib.e1Hunt_some {x : Trib} {l : List Bool} {i : Nat} (h : e1Find (x.hunt ++ l) 0 = some i) : (x.e1Hunt l).framer =
    { x.framer with frm := 1, hunt := [], odd := false, fasBad := 0, lof := false
                    rxBits := (x.hunt ++ l).drop (i + 512) ++ x.rxBits } := by
  unfold Trib.e1Hunt
  simp only [h, Trib.setD_lof_framer]
  rfl

theorem Trib.e1Hunt_none {x : Trib} {l : List Bool} (h : e1Find (x.hunt ++ l) 0 = none) :
    (x.e1Hunt l).framer = { x.framer with hunt := (x.hunt ++ l).drop ((x.hunt ++ l).length - 519) } := by
  unfold Trib.e1Hunt
  simp only [h]
  generalize (x.hunt ++ l).drop ((x.hunt ++ l).length - 519) = k
  rfl

/-- The third errored FAS in a row loses the frame, with LOF; the tag goes with it (R139, R154). -/
theorem Trib.frameIn_lost {x : Trib} {l : List Bool} (h1 : x.cfg.t1 = false) (hf : x.frm ≠ 0) (ho : x.odd = false)
    (hfas : byteAt (packBits 32 l) 0 &&& 0x7F ≠ 0x1B) (hb : 2 ≤ x.fasBad) (isA : Bool) :
    let y := (x.frameIn l isA).2.framer
    y.frm = 0 ∧ y.lof = true ∧ y.tagLock = false := by
  have hy : x.e1Frame l =
      (({ x with frmErr := x.frmErr + 1 } : Trib).rehunt (bitsOf ((packBits 32 l).drop 1))).setD 2 true := by
    unfold Trib.e1Frame Trib.e1Aligned
    rw [if_neg hf]
    exact if_pos (by rw [ho, decide_eq_false hfas]; simpa using hb)
  have hfr : (x.e1Frame l).framer =
      { x.framer with frm := 0, hunt := bitsOf ((packBits 32 l).drop 1), fasBad := 0, tagLock := false, lof := true } := by
    rw [hy, Trib.setD_lof_framer]
    rfl
  have hin : (x.frameIn l isA).2.framer = (x.e1Frame l).framer := by
    unfold Trib.frameIn
    simp only [h1, Bool.false_eq_true, if_false, framer_ite, Trib.casFrame_framer, ite_self]
  dsimp only
  rw [hin, hfr]
  exact ⟨rfl, rfl, rfl⟩

/-- The bits that a T1 framer in hunt looks at, and the positions among them that pass (R143). -/
def t1Held (esf : Bool) (h : List Bool) : List Bool := h.drop (h.length - 193 * (2 * t1Len esf + 1))

def t1Places (esf crc : Bool) (h : List Bool) : List Nat :=
  (List.range 193).filter fun o => decide (193 * (2 * t1Len esf) + o ≤ h.length) &&
    t1Passes esf crc (h.drop (h.length - 193 * (2 * t1Len esf) - o))

theorem Trib.t1Hunt_frm (l : List Bool) (x : Trib) : (x.t1Hunt l).frm =
    if (t1Places x.cfg.esf x.cfg.crc6Reframe (t1Held x.cfg.esf (x.hunt ++ l))).length = 1 then 2 else x.frm := by
  obtain ⟨y, hy, hc, hh, hf⟩ : ∃ y : Trib, (if 20000 ≤ min 20000 (x.oofInt + 1) then
      ({ x with oofInt := min 20000 (x.oofInt + 1), inRun := 0 } : Trib).setD 2 true
      else { x with oofInt := min 20000 (x.oofInt + 1), inRun := 0 }) = y ∧ y.cfg = x.cfg ∧ y.hunt = x.hunt ∧ y.frm = x.frm := by
    refine ⟨_, rfl, ?_⟩
    split
    · exact ⟨rfl, rfl, rfl⟩
    · exact ⟨rfl, rfl, rfl⟩
  unfold Trib.t1Hunt
  dsimp only
  rw [hy]
  split
  next o ho =>
    rw [hc, hh] at ho
    exact (if_pos (congrArg List.length ho)).symm
  next hne =>
    rw [hc, hh] at hne
    refine hf.trans (if_neg fun h1 => ?_).symm
    obtain ⟨o, ho⟩ := List.length_eq_one_iff.1 h1
    exact hne o ho

/-! ### CRC4_NONE and the signalling hold-off (R139, R150) -/

/-- A tributary whose defects, tag lock and Sa bits stay is stored, and nothing else changes. -/
theorem State.putTrib_quiet {t : Nat} {x : Trib} {s : State} (hd : x.defects = (s.trib t).defects)
    (hl : x.tagLock = (s.trib t).tagLock) (hs : x.saAcc = (s.trib t).saAcc) : s.putTrib t x = { s with tribs := tput s.tribs t x } := by
  have hst := State.storedTrib_of_defects hd
  unfold State.storedTrib at hst
  unfold State.putTrib
  dsimp only
  rw [hst, if_pos hs.symm, if_pos hl.symm]
  exact foldS_mem_keeps id (fun i _ u => if_pos (Trib.def_congr hd.symm i)) _

/-- A quiet change of a tributary: its event alone is told. -/
theorem State.putTrib_raiseU {t : Nat} {x : Trib} {s : State} (hd : x.defects = (s.trib t).defects)
    (hl : x.tagLock = (s.trib t).tagLock) (hs : x.saAcc = (s.trib t).saAcc) (hq : s.flt.queue.length < 64) (masked : Bool) (k : Kind)
    (data : Nat) : let u := (s.putTrib t x).raiseU masked k (tribSource t) t data
    u.trib t = x ∧ u.flt.queue = insertMsg
      { source := 0x50 + t / 1024, kind := k.code, cls := k.cls, addr := BitVec.ofNat 32 t, data := BitVec.ofNat 64 data, at_ := s.now,
        masked := masked } s.flt.queue := by
  have hq' : (s.putTrib t x).flt.queue.length < 64 := by rwa [State.putTrib_quiet hd hl hs]
  refine ⟨?_, ?_⟩
  · rw [State.trib, tribs_of_hide (State.raiseU_frame _ (by decide) ..), State.putTrib_quiet hd hl hs]
    exact tget_tput_same ..
  · rw [State.raiseU_queue hq', State.putTrib_quiet hd hl hs]
    rfl

/-! ### RX_TRIB_FRAME -/

theorem execRxTribFrame_next {n : Fin 16384} {t1 : Bool} {s : State} (h : (s.trib n).cfg.t1 = t1) :
    exec (.rxTribFrame n t1) s = .next (s.tribBits n) := congrArg Host.Outcome.next (if_pos h.symm)

theorem State.tribBits_none {t : Nat} {s : State}
    (h : (s.trib t).cfg.en = false ∨ (s.trib t).rxBits.length < (s.trib t).frameBits) : s.tribBits t = s := by
  refine if_neg fun hc => ?_
  obtain ⟨hen, hl⟩ := Bool.and_eq_true_iff.1 hc
  exact h.elim (fun h0 => Bool.false_ne_true (h0.symm.trans hen)) fun h0 => absurd (of_decide_eq_true hl) (Nat.not_le.2 h0)

/-- A frame of an E1 framer in hunt (R139). -/
theorem State.tribBits_e1_hunt {n : Nat} {s : State} (hen : (s.trib n).cfg.en = true) (h1 : (s.trib n).cfg.t1 = false)
    (hl : 256 ≤ (s.trib n).rxBits.length) (hf : (s.trib n).frm = 0) :
    ∃ x : Trib, x.framer = { (s.trib n).framer with rxBits := (s.trib n).rxBits.drop 256 } ∧
      (s.tribBits n).framer n = (x.e1Hunt ((s.trib n).rxBits.take 256)).framer := by
  have hb : (s.trib n).frameBits = 256 := by simp [Trib.frameBits, h1]
  obtain ⟨x, isA, hx, ht⟩ := State.tribBits_framer hen (hb ▸ hl)
  rw [hb] at hx ht
  refine ⟨x, hx, ?_⟩
  rw [ht, Trib.frameIn_hunt ((congrArg (·.cfg.t1) hx).trans h1) ((congrArg (·.frm) hx).trans hf)]

/-! ### The two events -/

theorem execCrc4None_next {n : Fin 16384} {s : State} (hen : (s.trib n).cfg.en = true) (h4 : (s.trib n).cfg.crc4 = 2)
    (hno : (s.trib n).crcNone = false) (hf : (s.trib n).frm = 1) (hmf : 3200 ≤ (s.trib n).noMf) : exec (.crc4None n) s =
    .next ((s.putTrib n { s.trib n with crcNone := true }).raiseU (s.rb 0x30000 12) .crc4None (tribSource n) n 0) :=
  congrArg Host.Outcome.next (if_pos (by simp [hen, h4, hno, hf, hmf]))

theorem execSigHoldoffExpiry_ends {n : Fin 16384} {s : State} (hh : (s.trib n).sig.holdoff = some 0) (hp : (s.trib n).sig.pend = 0) :
    exec (.sigHoldoffExpiry n) s = .next (s.putTrib n { s.trib n with sig := { (s.trib n).sig with holdoff := none } }) :=
  congrArg Host.Outcome.next ((if_neg (not_not.2 hh)).trans (if_pos hp))

theorem execSigHoldoffExpiry_tells {n : Fin 16384} {s : State} (hh : (s.trib n).sig.holdoff = some 0) (hp : (s.trib n).sig.pend ≠ 0) :
    exec (.sigHoldoffExpiry n) s = .next ((s.putTrib n { s.trib n with
      sig := { (s.trib n).sig with pend := 0, holdoff := some 16 } }).raiseU (s.rb 0x30000 9) .sigChange (tribSource n) n
        (s.trib n).sig.pend.toNat) :=
  congrArg Host.Outcome.next ((if_neg (not_not.2 hh)).trans (if_neg hp))

/-! ### The obligation -/

/-- Settles O38: the hunt by the first place at which its pattern begins, a received frame by what `frameIn` makes of the framer, the
rest of the frame's way leaving it, the two events by `putTrib_quiet`. -/
theorem tribFrames : Obligations.TribFrames := by
  unfold Obligations.TribFrames
  refine ⟨⟨fun l i => ?find, fun n s hen h1 hl => ⟨_, execRxTribFrame_next h1, fun hf i hi => ?found, fun hf hi => ?unfound,
    fun hf ho hfas hb => ?lost⟩, fun n s hen h1 hf hl => ⟨_, execRxTribFrame_next h1, ?t1⟩, fun n t1 s h => ?nothing⟩,
    fun n s hen h4 hno hf hmf hq => ⟨_, execCrc4None_next hen h4 hno hf hmf, ?none⟩,
    fun n s hh hp => ⟨_, execSigHoldoffExpiry_ends hh hp, ?ends⟩,
    fun n s hh hp hq => ⟨_, execSigHoldoffExpiry_tells hh hp, ?told⟩⟩
  case find =>
    dsimp only
    simp only [← e1Begins_drop, e1Find_eq_some, Nat.zero_add, Bool.not_eq_true]
    exact ⟨fun ⟨j, hij, h⟩ => hij ▸ h, fun h => ⟨i, rfl, h⟩⟩
  case found =>
    obtain ⟨x, hx, ht⟩ := State.tribBits_e1_hunt hen h1 hl hf
    have hh : x.hunt = (s.trib n).hunt := congrArg Framer.hunt hx
    have hr : x.rxBits = (s.trib n).rxBits.drop 256 := congrArg Framer.rxBits hx
    rw [Trib.e1Hunt_some (hh ▸ hi), hh, hr] at ht
    exact ⟨congrArg Framer.frm ht, congrArg Framer.lof ht, congrArg Framer.rxBits ht⟩
  case unfound =>
    obtain ⟨x, hx, ht⟩ := State.tribBits_e1_hunt hen h1 hl hf
    have hh : x.hunt = (s.trib n).hunt := congrArg Framer.hunt hx
    rw [Trib.e1Hunt_none (hh ▸ hi), hx] at ht
    exact ⟨(congrArg Framer.frm ht).trans hf, congrArg Framer.lof ht, congrArg Framer.rxBits ht⟩
  case lost =>
    have hb256 : (s.trib n).frameBits = 256 := by simp [Trib.frameBits, h1]
    obtain ⟨x, isA, hx, ht⟩ := State.tribBits_framer hen (hb256 ▸ hl)
    have h := Trib.frameIn_lost (x := x) ((congrArg (·.cfg.t1) hx).trans h1) (fun h0 => hf ((congrArg Framer.frm hx).symm.trans h0))
      ((congrArg Framer.odd hx).trans ho) (of_decide_eq_false hfas) (hb.trans_eq (congrArg Framer.fasBad hx).symm) isA
    rw [hb256] at ht
    rw [← ht] at h
    exact h
  case t1 =>
    have hb : (s.trib n).frameBits = 193 := by simp [Trib.frameBits, h1]
    obtain ⟨x, isA, hx, ht⟩ := State.tribBits_framer hen (hb ▸ hl)
    have hc : x.cfg = (s.trib n).cfg := congrArg Framer.cfg hx
    have hxf : x.frm = 0 := (congrArg Framer.frm hx).trans hf
    have hin : (x.frameIn ((s.trib n).rxBits.take 193) isA).2 = x.t1Hunt ((s.trib n).rxBits.take 193) := by
      unfold Trib.frameIn Trib.t1Frame
      rw [if_pos (hc ▸ h1), if_pos hxf]
    rw [hb, hin] at ht
    refine (congrArg Framer.frm ht).trans ((Trib.t1Hunt_frm ..).trans ?_)
    rw [hc, hxf, show x.hunt = (s.trib n).hunt from congrArg Framer.hunt hx]
    rfl
  case nothing =>
    refine congrArg Host.Outcome.next ?_
    split
    next ht => exact State.tribBits_none (h.imp_right (·.resolve_right (not_not.2 ht)))
    next => rfl
  case none =>
    exact State.putTrib_raiseU (by rfl) (by rfl) (by rfl) hq ..
  case ends =>
    rw [State.putTrib_quiet (by rfl) (by rfl) (by rfl)]
    exact ⟨congrArg Trib.sig (tget_tput_same ..), rfl⟩
  case told =>
    obtain ⟨htrib, hmsg⟩ := State.putTrib_raiseU (s := s) (t := n)
      (x := { s.trib n with sig := { (s.trib n).sig with pend := 0, holdoff := some 16 } }) rfl rfl rfl hq (s.rb 0x30000 9) .sigChange
      (s.trib n).sig.pend.toNat
    exact ⟨congrArg Trib.sig htrib, hmsg⟩

end Sys2Proof.Machine
end

section
/-! O39. Local highways: their settings as written, a frame sync on count and off, the loss of frame sync (05 R158-R162). -/

namespace Sys2Proof.Machine

/-! ### Settings as written (R158) -/

theorem regMask_hwyTxEn : ∀ n : Fin 64, ∀ w : Fin 8, regMask (hwyReg n (0x20 + 4 * w.val)) = BitVec.allOnes 32 := by decide

/-- A word whose every bit is writable takes what is written. -/
theorem State.regWrite_all {o : Nat} (hm : regMask o = BitVec.allOnes 32) (v : Word) (s : State) : (s.regWrite o v).reg o = v := by
  unfold State.regWrite
  rw [State.setReg_get, hm, BitVec.not_allOnes, BitVec.and_zero, BitVec.zero_or, BitVec.and_allOnes]

theorem State.hwyGroupWrite_refused {g : Nat} {s : State} {j : Nat} (hj : j < 8) (he : (s.hwy (8 * g + j)).en = true) (v : Word) :
    s.hwyGroupWrite g v = s :=
  if_pos (List.any_eq_true.2 ⟨j, List.mem_range.2 hj, he⟩)

/-- The registers and ports after a write of a group none of whose ports is enabled: the sync GPIO it claims or gives up is no
part of them. -/
theorem State.hwyGroupWrite_stored {g : Nat} {s : State} (h : ∀ j, j < 8 → (s.hwy (8 * g + j)).en = false) (v : Word) :
    (s.hwyGroupWrite g v).cfg = (s.regWrite (grpReg g) v).cfg ∧ (s.hwyGroupWrite g v).hwys = s.hwys := by
  have hoff : ¬(List.range 8).any (fun j => (s.hwy (8 * g + j)).en) = true := by simpa using h
  refine ⟨?_, hwys_of_hide (State.hwyGroupWrite_frame _ (by decide) ..)⟩
  unfold State.hwyGroupWrite
  dsimp only
  rw [if_neg hoff, apply_ite State.cfg, apply_ite State.cfg, cfg_of_hide (State.hwySyncClaim_frame _ (by decide) ..),
    cfg_of_hide (State.hwySyncFree_frame _ (by decide) ..), ite_self, ite_self]

/-! ### What a port's channels rest on -/

theorem hwy_of_hide {s t : State} (h : t.hide 35115652612095 = s.hide 35115652612095) (n : Nat) : t.hwy n = s.hwy n := by
  unfold State.hwy
  rw [hwys_of_hide h]

theorem State.raiseU_hwy (m : Bool) (k : Kind) (src addr data : Nat) (s : State) (n : Nat) :
    (s.raiseU m k src addr data).hwy n = s.hwy n := hwy_of_hide (State.raiseU_frame _ (by decide) ..) n

/-- The offset and the frame of a port rest on the registers and its settings alone. -/
theorem State.hwyFrame_congr {s t : State} (hr : t.cfg = s.cfg) {n : Nat} (hc : (t.hwy n).cfg = (s.hwy n).cfg) :
    t.hwyOffset n = s.hwyOffset n ∧ t.hwyFrame n = s.hwyFrame n := by
  have hrf : ∀ o i w, t.rf o i w = s.rf o i w := fun o i w => by unfold State.rf State.reg; rw [hr]
  have hrb : ∀ o i, t.rb o i = s.rb o i := fun o i => by unfold State.rb State.reg; rw [hr]
  have ho : t.hwyOffset n = s.hwyOffset n := by
    unfold State.hwyOffset State.hwyBits State.hwyChans
    rw [hrf]
    unfold State.hwy at hc
    rw [hc]
  refine ⟨ho, ?_⟩
  funext a b
  unfold State.hwyFrame State.hwyOrder State.hwyChans
  dsimp only
  rw [ho, hrf, hrb]

/-! ### The receive side of a port (R161) -/

/-- What a frame sync leaves of a port: the bytes received, the slip buffer with its count of deletions, the state of the sync. -/
structure HwyRx where
  cur : Option (List Byte)
  slip : Slip
  del : Half
  badSync : Nat
  fsLoss : Bool

def State.hwyRx (n : Nat) (s : State) : HwyRx :=
  ⟨(s.hwy n).cur, (s.hwy n).slip, (s.hwy n).del, (s.hwy n).badSync, (s.hwy n).fsLoss⟩

theorem State.hwyRx_fields {t : State} {n : Nat} {x : HwyRx} (h : t.hwyRx n = x) : (t.hwy n).cur = x.cur ∧ (t.hwy n).slip = x.slip ∧
    (t.hwy n).del = x.del ∧ (t.hwy n).badSync = x.badSync ∧ (t.hwy n).fsLoss = x.fsLoss := by
  subst h
  exact ⟨rfl, rfl, rfl, rfl, rfl⟩

theorem State.hwySlip_hwy (n : Nat) (del tx : Bool) (s : State) : (s.hwySlip n del tx).hwy n =
    (if tx then (if del then { s.hwy n with slipSeen := true, sticky := (s.hwy n).sticky ||| 1, txDel := (s.hwy n).txDel + 1 }
        else { s.hwy n with slipSeen := true, sticky := (s.hwy n).sticky ||| 1, txRep := (s.hwy n).txRep + 1 })
      else (if del then { s.hwy n with slipSeen := true, sticky := (s.hwy n).sticky ||| 1, del := (s.hwy n).del + 1 }
        else { s.hwy n with slipSeen := true, sticky := (s.hwy n).sticky ||| 1, rep := (s.hwy n).rep + 1 })) :=
  (hwy_of_hide (whenS_frame _ _ _ _ fun u => State.raiseU_frame _ (by decide) ..) n).trans (State.setHwy_get ..)

/-- A slip of the transmit side is no part of the receive side. -/
theorem State.hwySlip_tx (n : Nat) (del : Bool) (s : State) : (s.hwySlip n del true).hwyRx n = s.hwyRx n := by
  unfold State.hwyRx
  rw [State.hwySlip_hwy]
  cases del
  · rfl
  · rfl

/-- A frame discarded is counted. -/
theorem State.hwySlip_del (n : Nat) (s : State) : (s.hwySlip n true false).hwyRx n = { s.hwyRx n with del := (s.hwy n).del + 1 } := by
  unfold State.hwyRx
  rw [State.hwySlip_hwy]
  rfl

theorem State.setHwy_rx (n : Nat) (h : Hwy) (s : State) :
    (s.setHwy n h).hwyRx n = ⟨h.cur, h.slip, h.del, h.badSync, h.fsLoss⟩ := by
  unfold State.hwyRx
  rw [State.setHwy_get]

theorem State.hwySend_rx (n : Nat) (f : List Byte) (s : State) : (s.hwySend n f).hwyRx n = s.hwyRx n := by
  unfold State.hwySend
  dsimp only
  split
  · rfl
  · exact State.setHwy_rx ..

/-- A complete frame is the unread one; one that stood there and is being read past is counted as deleted. -/
def HwyRx.takes (f : List Byte) (x : HwyRx) : HwyRx :=
  { x with slip := { x.slip with unread := some f }, del := x.del + (if x.slip.unread.isSome && x.slip.reading then 1 else 0) }

theorem State.hwySlipIn_rx (n : Nat) (f : List Byte) (s : State) : (s.hwySlipIn n f).hwyRx n = (s.hwyRx n).takes f := by
  have hx : (s.hwyRx n).takes f = { s.hwyRx n with
      slip := { (s.hwy n).slip with unread := some f }
      del := (s.hwy n).del + (if (s.hwy n).slip.unread.isSome && (s.hwy n).slip.reading then 1 else 0) } := rfl
  rw [hx]
  unfold State.hwySlipIn
  dsimp only
  split
  · rw [State.hwySlip_del, State.setHwy_rx, State.setHwy_get]
    rfl
  · rw [State.setHwy_rx]
    exact congrArg (fun d : Half => HwyRx.mk _ _ d _ _) (BitVec.add_zero _).symm

/-- The frame that is complete with the bytes of a sync: the one that begins OFFSET bit periods after a sync (R160). -/
def State.hwyComplete (s : State) (n : Nat) (bytes : List Byte) : Option (List Byte) :=
  if s.hwyOffset n = 0 then some (s.hwyFrame n bytes []) else (s.hwy n).cur.map fun a => s.hwyFrame n a bytes

/-- A sync of a port that has its sync: the complete frame is taken, the bytes are kept for the next sync, and what is sent is no
part of the receive side. -/
theorem State.hwySlave_rx (n : Nat) (bytes : List Byte) (s : State) : (s.hwySlave n bytes).hwyRx n =
    { (s.hwyComplete n bytes).elim (s.hwyRx n) fun f => (s.hwyRx n).takes f with cur := some bytes } := by
  unfold State.hwySlave
  dsimp only
  generalize hu : (if s.hwyOffset n = 0 then _ else _ : State) = u
  have hrx : u.hwyRx n = (s.hwyComplete n bytes).elim (s.hwyRx n) fun f => (s.hwyRx n).takes f := by
    rw [← hu]
    unfold State.hwyComplete
    split
    · exact State.hwySlipIn_rx ..
    · split
      next a ha =>
        rw [ha]
        exact State.hwySlipIn_rx ..
      next hn =>
        rw [hn]
        rfl
  have hcur : (u.modHwy n fun h => { h with cur := some bytes }).hwyRx n = { u.hwyRx n with cur := some bytes } := State.setHwy_rx ..
  rw [← hrx, ← hcur]
  split
  · rw [State.hwySend_rx, State.setHwy_rx]
    rfl
  · split
    · rw [State.hwySlip_tx, State.hwySend_rx]
    · rw [State.hwySend_rx]

/-! ### Loss of frame sync (R162) -/

theorem State.hwyLoss_other {m k : Nat} (h : k ≠ m) (on : Bool) (s : State) : (s.hwyLoss m on).hwy k = s.hwy k := by
  unfold State.hwyLoss
  dsimp only
  split
  · rfl
  · rw [State.raiseU_hwy, State.setHwy_get_other _ _ _ _ h]

/-- An enabled port loses its sync, or regains it, and stays enabled. -/
theorem State.hwyLoss_self {m : Nat} {s : State} (he : (s.hwy m).en = true) (on : Bool) :
    ((s.hwyLoss m on).hwy m).en = true ∧ ((s.hwyLoss m on).hwy m).fsLoss = on := by
  unfold State.hwyLoss
  dsimp only
  split
  next h =>
    exact ⟨he, by simpa [he] using h⟩
  next =>
    rw [State.raiseU_hwy, State.setHwy_get]
    cases on
    · exact ⟨he, rfl⟩
    · exact ⟨he, rfl⟩

/-- The loss told to each port of a list is a loss on each enabled one. -/
theorem foldS_hwyLoss {l : List Nat} {b k : Nat} {s : State} (he : (s.hwy k).en = true)
    (hk : (s.hwy k).fsLoss = true ∨ ∃ j ∈ l, b + j = k) : ((foldS l (fun j s => s.hwyLoss (b + j) true) s).hwy k).fsLoss = true := by
  induction l generalizing s with
  | nil => exact hk.resolve_right (by simp)
  | cons i l ih =>
    change ((foldS l _ (s.hwyLoss (b + i) true)).hwy k).fsLoss = true
    by_cases hi : b + i = k
    · subst hi
      obtain ⟨he', hl⟩ := State.hwyLoss_self he true
      exact ih he' (.inl hl)
    · have hother := State.hwyLoss_other (Ne.symm hi) true s
      refine ih (by rwa [hother]) (hk.imp (fun h => by rwa [hother]) fun ⟨j, hj, hjk⟩ => ⟨j, ?_, hjk⟩)
      exact (List.mem_cons.1 hj).resolve_left fun h => hi (h ▸ hjk)

theorem State.hwyGroupLoss_lost {n j : Nat} {s : State} (hj : j < 8) (he : (s.hwy (n / 8 * 8 + j)).en = true) :
    ((s.hwyGroupLoss n).hwy (n / 8 * 8 + j)).fsLoss = true :=
  foldS_hwyLoss he (.inr ⟨j, List.mem_range.2 hj, rfl⟩)

/-! ### HWY_FRAME_SYNC and HWY_FS_LOSS (R161, R162) -/

/-- A port notes a sync, with so many wrong and right ones in a row. -/
def State.hwySynced (n bad good : Nat) (s : State) : State :=
  s.setHwy n { s.hwy n with badSync := bad, goodSync := good, syncAt := some (s.stp.frame, s.inFrame) }

theorem State.hwySynced_rx (n bad good : Nat) (s : State) : (s.hwySynced n bad good).hwyRx n = { s.hwyRx n with badSync := bad } :=
  State.setHwy_rx ..

theorem State.hwySynced_cfg (n bad good : Nat) (s : State) (k : Nat) : ((s.hwySynced n bad good).hwy k).cfg = (s.hwy k).cfg := by
  by_cases h : k = n
  · subst h
    unfold State.hwySynced
    rw [State.setHwy_get]
  · exact congrArg Hwy.cfg (State.setHwy_get_other _ _ _ _ h)

theorem State.hwySynced_en {n k : Nat} {s : State} (h : (s.hwy k).en = true) (bad good : Nat) :
    ((s.hwySynced n bad good).hwy k).en = true := by
  unfold Hwy.en at h ⊢
  rwa [State.hwySynced_cfg]

/-- A port that notes a sync and takes its bytes, the frame that is complete being `f`, or none. -/
theorem State.hwySynced_slave {n : Nat} {s : State} {w : List Byte} {f : Option (List Byte)} (hf : s.hwyComplete n w = f)
    (bad good : Nat) : ((s.hwySynced n bad good).hwySlave n w).hwyRx n =
      { f.elim { s.hwyRx n with badSync := bad } fun f => ({ s.hwyRx n with badSync := bad } : HwyRx).takes f with cur := some w } := by
  obtain ⟨hoff, hframe⟩ := State.hwyFrame_congr (s := s) (t := s.hwySynced n bad good) rfl (State.hwySynced_cfg ..)
  have hcur : ((s.hwySynced n bad good).hwy n).cur = (s.hwy n).cur := congrArg HwyRx.cur (State.hwySynced_rx n bad good s)
  have hc : (s.hwySynced n bad good).hwyComplete n w = f := by
    rw [← hf]
    unfold State.hwyComplete
    rw [hoff, hframe, hcur]
  rw [State.hwySlave_rx, hc, State.hwySynced_rx]

section
variable {n : Fin 64} {a b : HwySeen} {s : State}

theorem execHwyFrameSync_off (h : (s.hwy n).en = false ∨ (s.hwyGrp (n / 8)).refused = true) : exec (.hwyFrameSync n a b) s = .next s :=
  congrArg Host.Outcome.next (if_pos (by simpa using h))

theorem execHwyFrameSync_master (he : (s.hwy n).en = true) (hr : (s.hwyGrp (n / 8)).refused = false) (hm : s.hwyMaster n = true) :
    exec (.hwyFrameSync n a b) s = .next (s.setHwy n { s.hwy n with cur := some (hwyBytes s n a b) }) :=
  congrArg Host.Outcome.next ((if_neg (by simp [he, hr])).trans (if_pos hm))

/-- A sync on count of a port that has its sync. -/
theorem execHwyFrameSync_kept (he : (s.hwy n).en = true) (hr : (s.hwyGrp (n / 8)).refused = false) (hm : s.hwyMaster n = false)
    (hc : hwyOnCount s n a b = true) (hl : (s.hwy n).fsLoss = false) : exec (.hwyFrameSync n a b) s =
      .next ((s.hwySynced n 0 (min 2 ((s.hwy n).goodSync + 1))).hwySlave n (hwyBytes s n a b)) := by
  refine congrArg Host.Outcome.next ((if_neg (by simp [he, hr])).trans ((if_neg (by simp [hm])).trans ?_))
  rw [if_pos (of_decide_eq_true hc), if_neg (by simp [hl]), if_neg (Nat.not_succ_le_zero 1)]
  rfl

/-- A sync on count of a port that has lost its sync. -/
theorem execHwyFrameSync_regains (he : (s.hwy n).en = true) (hr : (s.hwyGrp (n / 8)).refused = false) (hm : s.hwyMaster n = false)
    (hc : hwyOnCount s n a b = true) (hl : (s.hwy n).fsLoss = true) : exec (.hwyFrameSync n a b) s =
      .next (if 2 ≤ min 2 ((s.hwy n).goodSync + 1) then (s.hwySynced n 0 (min 2 ((s.hwy n).goodSync + 1))).hwyLoss n false
        else s.hwySynced n 0 (min 2 ((s.hwy n).goodSync + 1))) := by
  refine congrArg Host.Outcome.next ((if_neg (by simp [he, hr])).trans ((if_neg (by simp [hm])).trans ?_))
  rw [if_pos (of_decide_eq_true hc), if_pos hl]
  rfl

/-- The second wrong sync in a row. -/
theorem execHwyFrameSync_lost (he : (s.hwy n).en = true) (hr : (s.hwyGrp (n / 8)).refused = false) (hm : s.hwyMaster n = false)
    (hc : hwyOnCount s n a b = false) (hl : (s.hwy n).fsLoss = false) (hb : 1 ≤ (s.hwy n).badSync) : exec (.hwyFrameSync n a b) s =
      .next ((s.hwySynced n ((s.hwy n).badSync + 1) 0).hwyGroupLoss n) := by
  refine congrArg Host.Outcome.next ((if_neg (by simp [he, hr])).trans ((if_neg (by simp [hm])).trans ?_))
  rw [if_neg (of_decide_eq_false hc), if_neg (by simp [hl]), if_pos (Nat.succ_le_succ hb)]
  rfl

theorem execHwyFsLoss_lost (he : (s.hwy n).en = true) (hm : s.hwyMaster n = false) (ha : 2 * subTicks ≤ s.syncAge n) :
    exec (.hwyFsLoss n) s = .next (s.hwyGroupLoss n) :=
  congrArg Host.Outcome.next (if_pos (by simp [he, hm, ha]))

theorem execHwyFsLoss_none (h : (s.hwy n).en = false ∨ s.hwyMaster n = true ∨ s.syncAge n < 2 * subTicks) :
    exec (.hwyFsLoss n) s = .next s :=
  congrArg Host.Outcome.next (if_neg (by simpa [or_assoc, imp_iff_not_or] using h))

end

/-! ### The obligation -/

/-- Settles O39: the writes by what they store, a sync on count by the frame it completes and the receive side it leaves, a loss by the
fold over the ports of the group. -/
theorem highways : Obligations.Highways := by
  unfold Obligations.Highways
  refine ⟨fun n w v s => ⟨⟨_, rfl, rfl, State.setReg_get ..⟩, ⟨_, rfl, rfl, State.regWrite_all (regMask_hwyTxEn n w) v s⟩⟩,
    fun g v s ⟨j, hj, he⟩ => congrArg Host.Outcome.next (State.hwyGroupWrite_refused hj he v), fun g v s h => ⟨_, rfl, ?group⟩,
    fun n a b s he hr hm => execHwyFrameSync_master he hr hm, fun n a b s he hr hm hc => ?onCount,
    fun n a b s he hr hm hc hl hb => ⟨_, execHwyFrameSync_lost he hr hm hc hl hb, fun j hj hej =>
      State.hwyGroupLoss_lost hj (State.hwySynced_en hej _ _)⟩, fun n a b s h => execHwyFrameSync_off h,
    fun n s he hm ha => ⟨_, execHwyFsLoss_lost he hm ha, fun j hj hej => State.hwyGroupLoss_lost hj hej⟩,
    fun n s h => execHwyFsLoss_none h⟩
  case group =>
    obtain ⟨hc, hh⟩ := State.hwyGroupWrite_stored h v
    refine ⟨?_, hh⟩
    have hreg : (s.hwyGroupWrite g v).reg (grpReg g) = (s.regWrite (grpReg g) v).reg (grpReg g) := by
      unfold State.reg
      rw [hc]
    exact hreg.trans (State.setReg_get ..)
  case onCount =>
    cases hl : (s.hwy n).fsLoss
    case true =>
      refine ⟨_, execHwyFrameSync_regains he hr hm hc hl, nofun, fun _ hg => ?_⟩
      rw [if_pos (by omega)]
      exact (State.hwyLoss_self (State.hwySynced_en he _ _) false).2
    case false =>
      refine ⟨_, execHwyFrameSync_kept he hr hm hc hl, fun _ => ?_, nofun⟩
      have hrx := fun f (hf : s.hwyComplete n (hwyBytes s n a b) = f) =>
        State.hwyRx_fields (State.hwySynced_slave hf 0 (min 2 ((s.hwy n).goodSync + 1)))
      by_cases h0 : s.hwyOffset n = 0
      · obtain ⟨hcur, hslip, hdel, hbad, hloss⟩ := hrx _ (if_pos h0)
        exact ⟨hcur, hbad, hloss.trans hl, fun _ => congrArg Slip.unread hslip, fun hn => absurd h0 hn, fun hn => absurd h0 hn,
          fun _ => hdel⟩
      cases hw : (s.hwy n).cur with
      | some w =>
        obtain ⟨hcur, hslip, hdel, hbad, hloss⟩ := hrx _ ((if_neg h0).trans (congrArg (Option.map _) hw))
        refine ⟨hcur, hbad, hloss.trans hl, fun hn => absurd hn h0, fun _ v hv => ?_, fun _ hv => (nomatch hv), fun _ => hdel⟩
        rw [← Option.some.inj hv]
        exact congrArg Slip.unread hslip
      | none =>
        obtain ⟨hcur, hslip, hdel, hbad, hloss⟩ := hrx _ ((if_neg h0).trans (congrArg (Option.map _) hw))
        exact ⟨hcur, hbad, hloss.trans hl, fun hn => absurd hn h0, fun _ v hv => (nomatch hv), fun _ _ => ⟨hslip, hdel⟩,
          fun h => (h.elim h0 nofun).elim⟩

end Sys2Proof.Machine
end

section
/-! O29. TSW_SET: a run of standby entries. -/

namespace Sys2Proof.Machine

/-- What the static tests of TSW_SET leave (06 R173, R181). -/
theorem Carries.tswSet_ok {o : TswRun} {s : State} (h : Carries (.tswSet o) s) : 1 ≤ o.count ∧ o.count ≤ 32 ∧ tswOk o = true := by
  simpa [staticTest, and_assoc] using h.passed.1

/-- The standby page after TSW_SET, with its dirty bits and its poison: new on the run, as before beside it. -/
theorem State.tswSet_slot (o : TswRun) (s : State) (k : Nat) :
    tget 0 ((s.tswSet o).tswPage (!s.tsw.active)) k =
      (if o.out ≤ k ∧ k < o.out + o.count then runEntry o (k - o.out) else tget 0 (s.tswPage (!s.tsw.active)) k) ∧
    (s.tswSet o).tswDirty k = (if o.out ≤ k ∧ k < o.out + o.count then true else s.tswDirty k) ∧
    (s.tswSet o).tswPoison (!s.tsw.active) k =
      (if o.out ≤ k ∧ k < o.out + o.count then false else s.tswPoison (!s.tsw.active) k) := by
  obtain ⟨-, -, -, hpage, hdirty, hpoison⟩ := tswRun_spec o s o.count
  exact ⟨hpage k, hdirty k, hpoison k⟩

/-- TSW_SET leaves the active page and its number, and counts its entries. -/
theorem State.tswSet_active (o : TswRun) (s : State) :
    (s.tswSet o).tswPage s.tsw.active = s.tswPage s.tsw.active ∧ (s.tswSet o).tsw.active = s.tsw.active ∧
    (s.tswSet o).tsw.chgApplied = s.tsw.chgApplied + o.count := by
  obtain ⟨hactive, hcount, hpage, -⟩ := tswRun_spec o s o.count
  exact ⟨hpage, hactive, congrArg (· + o.count) hcount⟩

/-- Settles O29: the slots of the run and beside it by `tswSet_slot`, an entry's fields by `tswRun_entry`. -/
theorem trussRun : Obligations.TrussRun := by
  unfold Obligations.TrussRun
  intro h o s hc
  obtain ⟨hmin, hmax, hok⟩ := hc.tswSet_ok
  refine ⟨hmin, hmax, rfl, rfl, hc.does (u := s.tswSet o) rfl rfl rfl rfl fun l p hd =>
    ⟨hd, fun j hj => ?inside, fun k hk => ?beside, State.tswSet_active o s⟩⟩
  case inside =>
    obtain ⟨hpage, hdirty, hpoison⟩ := State.tswSet_slot o s (o.out + j)
    have hin : o.out ≤ o.out + j ∧ o.out + j < o.out + o.count := by omega
    rw [if_pos hin, Nat.add_sub_cancel_left] at hpage
    rw [if_pos hin] at hdirty hpoison
    obtain ⟨hsame, hstep⟩ := tswRun_entry o hok j hj
    simp only [withComps_tswPage_eq, withPmc_tswPage_eq, hpage]
    exact ⟨hsame, hstep, hdirty, hpoison⟩
  case beside =>
    obtain ⟨hpage, hdirty, -⟩ := State.tswSet_slot o s k
    rw [if_neg (by omega)] at hpage hdirty
    exact ⟨hpage, hdirty⟩

end Sys2Proof.Machine
end

section
/-! O30 fails. Its clause on the frame boundary asks that the read pass read the input frame as it stood when the boundary began. Where
the collector window of the ended frame has not been reported, the boundary first does the collector's work, which writes the
conference outputs into that input frame (06 R171, 07 R206), and the pass reads these too. The
clause leaves that out: no state whose input frame is the old one forms the same pass. -/

namespace Sys2Proof.Machine

theorem State.raise_tsw (k : Kind) (src addr data : Nat) (s : State) : (s.raise k src addr data).tsw = s.tsw :=
  tsw_of_hide (State.raise_frame _ (by decide) ..)

theorem State.tswOnce_inPrev (k : Kind) (src addr data : Nat) (s : State) : (s.tswOnce k src addr data).tsw.inPrev = s.tsw.inPrev := by
  unfold State.tswOnce
  split
  · rfl
  · rw [State.raise_tsw]

/-- A read of a data-memory word leaves the input frame that the pass reads. -/
theorem State.dmRead_inPrev (r : Fin 8) (half : Bool) (w : Nat) (s : State) : (s.dmRead r half w).tsw.inPrev = s.tsw.inPrev := by
  unfold State.dmRead
  dsimp only
  split
  · rfl
  · exact State.tswOnce_inPrev ..
  · exact State.tswOnce_inPrev ..

theorem State.dmReadAll_inPrev (s : State) : s.dmReadAll.tsw.inPrev = s.tsw.inPrev := by
  refine foldS_keeps (fun u => u.tsw.inPrev) _ _ (fun x u => ?_) s
  split
  · split
    · exact State.dmRead_inPrev ..
    · rfl
  · rfl

theorem State.cmReadAll_inPrev (b : Bool) (p : Nat → Bool) (s : State) : (s.cmReadAll b p).tsw.inPrev = s.tsw.inPrev :=
  cmReadAll_keep (fun x => x.inPrev) (fun _ _ => rfl) (fun _ _ => rfl) (fun _ _ => rfl) (fun _ _ _ _ => rfl) (fun _ _ => rfl) b p s

/-- A slot brings a byte of the input frame that the pass reads, or none. -/
theorem State.passByte_v (s : State) (k : Nat) (e : Word) : (s.passByte k e).v = {} ∨ ∃ src, (s.passByte k e).v = tget {} s.tsw.inPrev src := by
  unfold State.passByte
  dsimp only
  split_ifs
  · exact .inl rfl
  · exact .inl rfl
  · exact .inl rfl
  · exact .inr ⟨_, rfl⟩

/-- What a read pass forms carries a byte of the input frame that it reads, or none (06 R166). -/
theorem State.readPass_passOut_v {s : State} {e : Nat × PassByte} (he : e ∈ s.readPass.tsw.passOut) :
    e.2.v = {} ∨ ∃ src, e.2.v = tget {} s.tsw.inPrev src := by
  obtain ⟨x, -, hx⟩ := List.mem_filterMap.1 (List.mem_filter.1 he).1
  dsimp only at hx
  split at hx
  · cases hx
  · cases hx
    rw [← State.cmReadAll_inPrev s.tsw.active (fun _ => true) s, ← State.dmReadAll_inPrev]
    exact State.passByte_v ..

/-- Conference 0 has one participant, of µ-law, and output slot 5 takes the participant's byte. The collector window of the frame has
not been reported, and the input frame holds no byte yet. -/
def unreportedMix : State :=
  { tsw := { pageA := [(5, 0x00180000)] }
    cnf := { partA := [(0, { inUse := true, set := { conf := 0, role := 0, mu := true, gin := 0, gout := 0 } })]
             confA := [(0, { inUse := true })] } }

/-- What the pass forms from the collector's byte for the participant: silence in µ-law. -/
def mixIdle : PassByte := { idle := false, v := { b := 0xFF } }

theorem unreportedMix_passOut : (5, mixIdle) ∈ (unreportedMix.frameBoundary quietFrame).tsw.passOut := by decide +kernel

/-- Refutes O30, in its clause on a frame boundary: the input frame of `unreportedMix` is empty, and
yet the pass of its boundary forms a byte that no slot of an empty input frame has. -/
theorem not_trussFillPatchRead : ¬ Obligations.TrussFillPatchRead := by
  unfold Obligations.TrussFillPatchRead
  rintro ⟨-, -, hboundary, -⟩
  obtain ⟨t, ht, u, hpass, -, -, -, hin, -⟩ := hboundary quietFrame unreportedMix rfl
  rw [exec_frameBoundary] at ht
  have hmem := unreportedMix_passOut
  rw [Host.Outcome.next.inj ht, hpass] at hmem
  have hv : mixIdle.v = {} := by
    obtain h | ⟨src, h⟩ := State.readPass_passOut_v hmem
    · exact h
    · rw [hin] at h
      exact h
  exact absurd hv (by decide)

end Sys2Proof.Machine
end

section
/-! O40. The roster commands: what a write of one entry leaves of the two roster pages, and the commands as such writes (07
R191-R195). -/

namespace Sys2Proof.Machine

/-! ### What a table lists -/

theorem mem_keys_tput {α : Type} {t : Tab α} {k j : Nat} {v : α} : j ∈ (tput t k v).map Prod.fst ↔ j = k ∨ j ∈ t.map Prod.fst := by
  induction t with
  | nil => simp [tput]
  | cons e t ih =>
    unfold tput
    split
    · simp
    · split
      next h => simp [← h]
      next => simp only [List.map_cons, List.mem_cons, ih, or_left_comm]

/-- What an index reads as, where it is not the default, is listed. -/
theorem mem_of_tget_ne {α : Type} {d : α} {t : Tab α} {k : Nat} (h : tget d t k ≠ d) : (k, tget d t k) ∈ t := by
  induction t with
  | nil => exact absurd rfl h
  | cons e t ih =>
    unfold tget at h ⊢
    split
    next hk => exact hk ▸ List.mem_cons_self
    next hk =>
      rw [if_neg hk] at h
      exact List.mem_cons_of_mem _ (ih h)

/-! ### A participant entry is written -/

theorem State.wordWritten_cnf (m : Mem) (s : State) : (s.wordWritten m).cnf = s.cnf :=
  cnf_of_hide (State.wordWritten_frame _ (by decide) ..)

theorem State.putPart_unread (b : Bool) (p : Nat) (e : PEntry) (s : State) :
    (s.putPart b p e).cnf.unread = (s.setCnfParts b (tset {} (s.cnfParts b) p e)).cnf.unread :=
  (congrArg Cnf.unread (State.wordWritten_cnf ..)).trans (State.setCnfPoisP_unread ..)

/-- A page of which no entry is written stays. -/
theorem State.putPart_other (a : Bool) (p : Nat) (e : PEntry) (s : State) : (s.putPart (!a) p e).cnfParts a = s.cnfParts a :=
  (State.cnfParts_of_unread (State.putPart_unread ..) a).trans (State.setCnfParts_other ..)

/-- Of both pages, the one entry changes. -/
theorem State.putPart_entry (b : Bool) (p : Nat) (e : PEntry) (s : State) (b' : Bool) (q : Nat) :
    tget {} ((s.putPart b p e).cnfParts b') q = if b' = b ∧ q = p then e else tget {} (s.cnfParts b') q := by
  by_cases hb : b' = b
  · subst hb
    rw [State.cnfParts_of_unread (State.putPart_unread ..), State.setCnfParts_get]
    by_cases hq : q = p
    · rw [if_pos ⟨rfl, hq⟩, hq, tget_tset_same]
    · rw [if_neg (fun h => hq h.2), tget_tset_other _ _ _ _ _ hq]
  · rw [if_neg (fun h => hb h.1), Bool.eq_not.2 (Ne.symm hb), State.putPart_other]

theorem State.putPart_kept (b : Bool) (p : Nat) (e : PEntry) (s : State) :
    (∀ b', (s.putPart b p e).cnfConfs b' = s.cnfConfs b') ∧ (s.putPart b p e).cnf.active = s.cnf.active ∧
    (s.putPart b p e).cnf.copyLeft = s.cnf.copyLeft ∧ (s.putPart b p e).cnf.dirtyP = s.cnf.dirtyP ∧
    (s.putPart b p e).cnf.dirtyC = s.cnf.dirtyC := by
  have hu := State.putPart_unread b p e s
  refine ⟨fun b' => (State.cnfConfs_of_unread hu b').trans (State.setCnfParts_cnfConfs ..), (congrArg Cnf.active hu).trans ?_,
    (congrArg Cnf.copyLeft hu).trans ?_, (congrArg Cnf.dirtyP hu).trans ?_, (congrArg Cnf.dirtyC hu).trans ?_⟩
  all_goals cases b <;> rfl

/-! ### A conference entry is written -/

theorem State.putConf_unread (b : Bool) (c : Nat) (e : CEntry) (s : State) :
    (s.putConf b c e).cnf.unread = (s.setCnfConfs b (tset {} (s.cnfConfs b) c e)).cnf.unread :=
  (congrArg Cnf.unread (State.wordWritten_cnf ..)).trans (State.setCnfPoisC_unread ..)

/-- A page of which no entry is written stays. -/
theorem State.putConf_other (a : Bool) (c : Nat) (e : CEntry) (s : State) : (s.putConf (!a) c e).cnfConfs a = s.cnfConfs a :=
  (State.cnfConfs_of_unread (State.putConf_unread ..) a).trans (State.setCnfConfs_other ..)

/-- Of both pages, the one entry changes. -/
theorem State.putConf_entry (b : Bool) (c : Nat) (e : CEntry) (s : State) (b' : Bool) (k : Nat) :
    tget {} ((s.putConf b c e).cnfConfs b') k = if b' = b ∧ k = c then e else tget {} (s.cnfConfs b') k := by
  by_cases hb : b' = b
  · subst hb
    rw [State.cnfConfs_of_unread (State.putConf_unread ..), State.setCnfConfs_get]
    by_cases hk : k = c
    · rw [if_pos ⟨rfl, hk⟩, hk, tget_tset_same]
    · rw [if_neg (fun h => hk h.2), tget_tset_other _ _ _ _ _ hk]
  · rw [if_neg (fun h => hb h.1), Bool.eq_not.2 (Ne.symm hb), State.putConf_other]

theorem State.putConf_kept (b : Bool) (c : Nat) (e : CEntry) (s : State) :
    (∀ b', (s.putConf b c e).cnfParts b' = s.cnfParts b') ∧ (s.putConf b c e).cnf.active = s.cnf.active ∧
    (s.putConf b c e).cnf.copyLeft = s.cnf.copyLeft ∧ (s.putConf b c e).cnf.dirtyP = s.cnf.dirtyP ∧
    (s.putConf b c e).cnf.dirtyC = s.cnf.dirtyC := by
  have hu := State.putConf_unread b c e s
  refine ⟨fun b' => (State.cnfParts_of_unread hu b').trans (State.setCnfConfs_cnfParts ..), (congrArg Cnf.active hu).trans ?_,
    (congrArg Cnf.copyLeft hu).trans ?_, (congrArg Cnf.dirtyP hu).trans ?_, (congrArg Cnf.dirtyC hu).trans ?_⟩
  all_goals cases b <;> rfl

/-! ### A standby entry is written (R191) -/

theorem State.standbyPart_active (p : Nat) (e : PEntry) (s : State) :
    (s.standbyPart p e).cnf.active = s.cnf.active ∧ (s.standbyPart p e).cnfParts s.cnf.active = s.cnfParts s.cnf.active :=
  ⟨(State.putPart_kept ..).2.1, State.putPart_other ..⟩

theorem State.standbyConf_active (c : Nat) (e : CEntry) (s : State) :
    (s.standbyConf c e).cnf.active = s.cnf.active ∧ (s.standbyConf c e).cnfConfs s.cnf.active = s.cnfConfs s.cnf.active ∧
    ∀ b, (s.standbyConf c e).cnfParts b = s.cnfParts b := by
  obtain ⟨hparts, hactive, -⟩ := State.putConf_kept (!s.cnf.active) c e s
  exact ⟨hactive, State.putConf_other .., hparts⟩

/-- The page of a standby value, by the frames of copy-back left and the dirty bits. -/
def standbyPage (left : Nat) (active : Bool) (dirty : Tab Bool) (k : Nat) : Bool :=
  if left = 0 || tget false dirty k then !active else active

/-- A dirty entry stands on the standby page whether copy-back runs or not. -/
theorem standbyPage_dirtied (left : Nat) (active : Bool) (dirty : Tab Bool) (k j : Nat) :
    standbyPage left active (tset false dirty k true) j = if j = k then !active else standbyPage left active dirty j := by
  unfold standbyPage
  by_cases hj : j = k
  · rw [if_pos hj, hj, tget_tset_same, Bool.or_true, if_pos rfl]
  · rw [if_neg hj, tget_tset_other _ _ _ _ _ hj]

theorem State.partPage_eq (s : State) (p : Nat) : s.partPage p = standbyPage s.cnf.copyLeft s.cnf.active s.cnf.dirtyP p := rfl
theorem State.confPage_eq (s : State) (c : Nat) : s.confPage c = standbyPage s.cnf.copyLeft s.cnf.active s.cnf.dirtyC c := rfl

theorem State.standbyPart_partPage (p : Nat) (e : PEntry) (s : State) (q : Nat) :
    (s.standbyPart p e).partPage q = if q = p then !s.cnf.active else s.partPage q := by
  obtain ⟨-, hactive, hcopy, hdirty, -⟩ := State.putPart_kept (!s.cnf.active) p e s
  rw [State.partPage_eq, State.partPage_eq, ← standbyPage_dirtied, ← hactive, ← hcopy, ← hdirty]
  rfl

theorem State.standbyConf_confPage (c : Nat) (e : CEntry) (s : State) (k : Nat) :
    (s.standbyConf c e).confPage k = if k = c then !s.cnf.active else s.confPage k := by
  obtain ⟨-, hactive, hcopy, -, hdirty⟩ := State.putConf_kept (!s.cnf.active) c e s
  rw [State.confPage_eq, State.confPage_eq, ← standbyPage_dirtied, ← hactive, ← hcopy, ← hdirty]
  rfl

/-- Of the standby page, the participant's entry changes. -/
theorem State.standbyPart_sbPart (p : Nat) (e : PEntry) (s : State) (q : Nat) :
    (s.standbyPart p e).sbPart q = if q = p then e else s.sbPart q := by
  have hentry := State.putPart_entry (!s.cnf.active) p e s
  unfold State.sbPart
  rw [State.standbyPart_partPage]
  by_cases hq : q = p
  · rw [if_pos hq, if_pos hq]
    exact (hentry _ q).trans (if_pos ⟨rfl, hq⟩)
  · rw [if_neg hq, if_neg hq]
    exact (hentry _ q).trans (if_neg fun h => hq h.2)

theorem State.standbyPart_sbConf (p : Nat) (e : PEntry) (s : State) (k : Nat) : (s.standbyPart p e).sbConf k = s.sbConf k := by
  obtain ⟨hconfs, hactive, hcopy, -, hdirty⟩ := State.putPart_kept (!s.cnf.active) p e s
  have hpage : (s.standbyPart p e).confPage k = s.confPage k := by
    rw [State.confPage_eq, State.confPage_eq, ← hactive, ← hcopy, ← hdirty]
    rfl
  unfold State.sbConf
  rw [hpage]
  exact congrArg (tget {} · k) (hconfs _)

/-- Of the standby page, the conference's entry changes. -/
theorem State.standbyConf_sbConf (c : Nat) (e : CEntry) (s : State) (k : Nat) :
    (s.standbyConf c e).sbConf k = if k = c then e else s.sbConf k := by
  have hentry := State.putConf_entry (!s.cnf.active) c e s
  unfold State.sbConf
  rw [State.standbyConf_confPage]
  by_cases hk : k = c
  · rw [if_pos hk, if_pos hk]
    exact (hentry _ k).trans (if_pos ⟨rfl, hk⟩)
  · rw [if_neg hk, if_neg hk]
    exact (hentry _ k).trans (if_neg fun h => hk h.2)

theorem State.standbyConf_sbPart (c : Nat) (e : CEntry) (s : State) (p : Nat) : (s.standbyConf c e).sbPart p = s.sbPart p := by
  obtain ⟨hparts, hactive, hcopy, hdirty, -⟩ := State.putConf_kept (!s.cnf.active) c e s
  have hpage : (s.standbyConf c e).partPage p = s.partPage p := by
    rw [State.partPage_eq, State.partPage_eq, ← hactive, ← hcopy, ← hdirty]
    rfl
  unfold State.sbPart
  rw [hpage]
  exact congrArg (tget {} · p) (hparts _)

/-! ### CNF_DESTROY -/

theorem State.mem_partKeys {s : State} {p : Nat} : p ∈ s.partKeys ↔ ∃ b, p ∈ (s.cnfParts b).map Prod.fst := by
  have hfold : ∀ (l : List (Nat × PEntry)) (t : Tab Bool),
      p ∈ (l.foldl (fun t e => tput t e.1 true) t).map Prod.fst ↔ p ∈ l.map Prod.fst ∨ p ∈ t.map Prod.fst := by
    intro l
    induction l with
    | nil => simp
    | cons e l ih => intro t; simp only [List.foldl_cons, ih, mem_keys_tput, List.map_cons, List.mem_cons, or_assoc, or_left_comm]
  rw [Bool.exists_bool, State.partKeys]
  refine (hfold _ _).trans (or_congr_right ?_)
  rw [List.map_map]
  rfl

/-- The members of a conference on the standby page. -/
theorem State.mem_sbMembers {s : State} {c p : Nat} : p ∈ s.sbMembers c ↔ (s.sbPart p).inUse = true ∧ (s.sbPart p).set.conf = c := by
  unfold State.sbMembers
  rw [List.mem_filter, Bool.and_eq_true, decide_eq_true_eq, and_iff_right_iff_imp]
  rintro ⟨huse, -⟩
  refine State.mem_partKeys.2 ⟨s.partPage p, List.mem_map_of_mem (mem_of_tget_ne (d := {}) fun h => ?_)⟩
  rw [State.sbPart, h] at huse
  cases huse

/-- The standby page with every participant of a list taken out. -/
def State.leaveAll (l : List Nat) (s : State) : State := foldS l (fun p s => s.standbyPart p {}) s

theorem State.leaveAll_sbPart (l : List Nat) (s : State) (q : Nat) :
    (s.leaveAll l).sbPart q = if q ∈ l then {} else s.sbPart q := by
  induction l generalizing s with
  | nil => rfl
  | cons p l ih =>
    refine (ih (s.standbyPart p {})).trans ?_
    rw [State.standbyPart_sbPart]
    by_cases hl : q ∈ l
    · simp [hl]
    · simp only [hl, if_false, List.mem_cons, or_false]

theorem State.leaveAll_sbConf (l : List Nat) (s : State) (k : Nat) :
    (s.leaveAll l).sbConf k = s.sbConf k :=
  foldS_keeps (fun s => s.sbConf k) _ _ (fun p s => State.standbyPart_sbConf p {} s k) s

theorem State.leaveAll_active (l : List Nat) (s : State) :
    (s.leaveAll l).cnf.active = s.cnf.active ∧
    (s.leaveAll l).cnfParts s.cnf.active = s.cnfParts s.cnf.active := by
  induction l generalizing s with
  | nil => exact ⟨rfl, rfl⟩
  | cons p l ih =>
    obtain ⟨hactive, hparts⟩ := State.standbyPart_active p {} s
    obtain ⟨hactive', hparts'⟩ := ih (s.standbyPart p {})
    exact ⟨hactive'.trans hactive, (hactive ▸ hparts').trans hparts⟩

/-! ### CNF_MODIFY (R193, R195) -/

theorem State.cnfModify_conf {o : CnfMod} (h : o.isConf = true) (s : State) :
    s.cnfModify o = (0, s.standbyConf o.index ((s.sbConf o.index).modify o)) := if_pos h

theorem State.cnfModify_cold {o : CnfMod} (h : o.isConf = false) (hh : o.hot = false) (s : State) :
    s.cnfModify o = (0, s.standbyPart o.index ((s.sbPart o.index).modify o)) := by
  unfold State.cnfModify
  rw [h, hh]
  rfl

/-- The active entry of a hot modify, changed where it can be. -/
def State.hotActive (o : CnfMod) (s : State) : State :=
  if s.hotOk o then s.putPart s.cnf.active o.index ((tget {} (s.cnfParts s.cnf.active) o.index).modify o) else s

/-- The standby entry after it: a dirty one keeps its pending value (R195). -/
def State.hotStandby (o : CnfMod) (old s : State) : State :=
  if tget false old.cnf.dirtyP o.index then s else s.putPart (!old.cnf.active) o.index ((old.sbPart o.index).modify o)

theorem State.cnfModify_hot {o : CnfMod} (h : o.isConf = false) (hh : o.hot = true) (s : State) :
    s.cnfModify o = (b2n (!s.hotOk o), s.hotStandby o (s.hotActive o)) := by
  unfold State.cnfModify
  rw [h, hh]
  rfl

theorem State.hotActive_entry (o : CnfMod) (s : State) (b : Bool) (q : Nat) :
    tget {} ((s.hotActive o).cnfParts b) q =
      if s.hotOk o = true ∧ b = s.cnf.active ∧ q = o.index then (tget {} (s.cnfParts s.cnf.active) o.index).modify o
      else tget {} (s.cnfParts b) q := by
  unfold State.hotActive
  by_cases hok : s.hotOk o = true
  · simp only [hok, if_true, true_and, State.putPart_entry]
  · simp only [hok, if_false, false_and, Bool.false_eq_true]

theorem State.hotStandby_entry (o : CnfMod) (old s : State) (b : Bool) (q : Nat) :
    tget {} ((old.hotStandby o s).cnfParts b) q =
      if tget false old.cnf.dirtyP o.index = false ∧ b = (!old.cnf.active) ∧ q = o.index then (old.sbPart o.index).modify o
      else tget {} (s.cnfParts b) q := by
  unfold State.hotStandby
  cases tget false old.cnf.dirtyP o.index
  · simp only [Bool.false_eq_true, if_false, true_and, State.putPart_entry]
  · rfl

/-- A hot modify that cannot be made leaves the active page; none moves it. -/
theorem State.hotStandby_active (o : CnfMod) (old s : State) :
    (old.hotStandby o s).cnfParts old.cnf.active = s.cnfParts old.cnf.active ∧ (old.hotStandby o s).cnf.active = s.cnf.active := by
  unfold State.hotStandby
  split
  · exact ⟨rfl, rfl⟩
  · exact ⟨State.putPart_other .., (State.putPart_kept ..).2.1⟩

theorem State.hotActive_active (o : CnfMod) (s : State) : (s.hotActive o).cnf.active = s.cnf.active := by
  unfold State.hotActive
  split
  · exact (State.putPart_kept ..).2.1
  · rfl

/-- Selection states and speakers follow a hot modify; the roster is as it left it (R196). -/
theorem State.follow_hot {o : CnfMod} (hh : o.hot = true) (old s : State) :
    (∀ b, (old.follow (.cnfModify o) s).cnfParts b = s.cnfParts b) ∧ (old.follow (.cnfModify o) s).cnf.active = s.cnf.active := by
  have hu : (old.follow (.cnfModify o) s).cnf.unselected = s.cnf.unselected := by
    rw [show old.follow (.cnfModify o) s = old.cnfChanges s from if_pos hh]
    exact State.cnfChanges_unselected ..
  refine ⟨fun b => ?_, (congrArg Cnf.active hu :)⟩
  cases b
  · exact (congrArg Cnf.partA hu :)
  · exact (congrArg Cnf.partB hu :)

/-- A hot modify of a participant (R195). -/
theorem execCnfModify_hot {h : Hdr} {o : CnfMod} {s : State} (hc : Carries (.cnfModify o) s) (hp : o.isConf = false)
    (hh : o.hot = true) : Does (.cnfModify h o) s fun t =>
      DoneWith h (if s.hotOk o then 0 else 1) s t ∧ t.cnf.active = s.cnf.active ∧
      (s.hotOk o = true → tget {} (t.cnfParts s.cnf.active) o.index = (tget {} (s.cnfParts s.cnf.active) o.index).modify o) ∧
      (s.hotOk o = false → t.cnfParts s.cnf.active = s.cnfParts s.cnf.active) ∧
      tget {} (t.cnfParts (!s.cnf.active)) o.index =
        (if tget false s.cnf.dirtyP o.index then tget {} (s.cnfParts (!s.cnf.active)) o.index else (s.sbPart o.index).modify o) ∧
      ∀ b p, p ≠ o.index → tget {} (t.cnfParts b) p = tget {} (s.cnfParts b) p := by
  refine hc.follows (r := if s.hotOk o then 0 else 1)
    (congrArg (fun r => (({ result := r.1 } : Eff), r.2)) (State.cnfModify_hot hp hh s)) rfl ?result ?effect
  case result => cases s.hotOk o <;> rfl
  case effect =>
    intro l c hd
    obtain ⟨hparts, hactive⟩ := State.follow_hot hh s (s.hotStandby o (s.hotActive o))
    obtain ⟨hpage, hact⟩ := State.hotStandby_active o s (s.hotActive o)
    simp only [withComps_cnfParts_eq, withPmc_cnfParts_eq, hparts]
    refine ⟨hd, (hactive.trans hact).trans (State.hotActive_active o s), fun hok => ?_, fun hok => ?_, ?_, fun b p hne => ?_⟩
    · rw [hpage, State.hotActive_entry, if_pos ⟨hok, rfl, rfl⟩]
    · rw [hpage, State.hotActive, if_neg (by simp [hok])]
    · have hpending : tget {} ((s.hotActive o).cnfParts (!s.cnf.active)) o.index = tget {} (s.cnfParts (!s.cnf.active)) o.index :=
        (State.hotActive_entry ..).trans (if_neg (by simp))
      rw [State.hotStandby_entry, hpending]
      cases tget false s.cnf.dirtyP o.index
      · simp
      · simp
    · rw [State.hotStandby_entry, if_neg (fun hx => hne hx.2.2), State.hotActive_entry, if_neg (fun hx => hne hx.2.2)]

/-- A conference has no hot modify (R193). -/
theorem Carries.confMod_cold {o : CnfMod} {s : State} (hc : Carries (.cnfModify o) s) (h : o.isConf = true) : o.hot = false := by
  have hok : modOk o = true := by simpa [staticTest] using hc.passed.1
  unfold modOk at hok
  simp only [h, if_true, Bool.and_eq_true, Bool.not_eq_true'] at hok
  obtain ⟨-, ⟨⟨⟨⟨⟨-, hcold⟩, -⟩, -⟩, -⟩, -⟩⟩ := hok
  exact hcold

/-! ### The obligation -/

/-- Settles O40: each command by the standby entries it writes, CNF_DESTROY by those of its members, a hot CNF_MODIFY by
`execCnfModify_hot`. -/
theorem rosterCommands : Obligations.RosterCommands := by
  unfold Obligations.RosterCommands
  refine ⟨⟨fun h n o s hc => hc.does (u := s.standbyConf n { inUse := true, set := o }) rfl rfl rfl rfl fun l c hd => ?create,
    fun h p o s hc => hc.does (u := s.standbyPart p { inUse := true, set := o }) rfl rfl rfl rfl fun l c hd => ?join,
    fun h p s hc => hc.does (u := s.standbyPart p {}) rfl rfl rfl rfl fun l c hd => ?leave,
    fun h n s hc => hc.does (u := (s.leaveAll (s.sbMembers n)).standbyConf n {}) rfl rfl rfl rfl fun l c hd => ?destroy,
    fun h o s hc hk => hc.does (congrArg (fun r => (({ result := r.1 } : Eff), r.2)) (State.cnfModify_conf hk s))
      (if_neg (by simp [hc.confMod_cold hk])) rfl rfl fun l c hd => ⟨hd, ?conf⟩,
    fun h o s hc hp hh => hc.does (congrArg (fun r => (({ result := r.1 } : Eff), r.2)) (State.cnfModify_cold hp hh s))
      (if_neg (by simp [hh])) rfl rfl fun l c hd => ?cold⟩,
    fun h o s hc hp hh => ⟨congrArg b2n hh, execCnfModify_hot hc hp hh⟩⟩
  all_goals simp only [withComps_sbPart_eq, withPmc_sbPart_eq, withComps_sbConf_eq, withPmc_sbConf_eq, withComps_cnfParts_eq,
    withPmc_cnfParts_eq, withComps_cnfConfs_eq, withPmc_cnfConfs_eq, withComps_cnf, withPmc_cnf, State.standbyPart_sbPart,
    State.standbyConf_sbConf, State.standbyConf_sbPart, State.leaveAll_sbPart, State.leaveAll_sbConf, if_true, true_and, implies_true]
  case create =>
    obtain ⟨hactive, hconfs, -⟩ := State.standbyConf_active n { inUse := true, set := o } s
    exact ⟨hd, fun k hk => if_neg hk, hconfs, hactive⟩
  case join =>
    obtain ⟨hactive, hparts⟩ := State.standbyPart_active p { inUse := true, set := o } s
    exact ⟨hd, fun q hq => if_neg hq, hparts, hactive⟩
  case leave =>
    obtain ⟨hactive, hparts⟩ := State.standbyPart_active p {} s
    exact ⟨hd, fun q hq => if_neg hq, hparts, hactive⟩
  case destroy =>
    obtain ⟨hactive, -, hparts⟩ := State.standbyConf_active n {} (s.leaveAll (s.sbMembers n))
    obtain ⟨hactive', hparts'⟩ := State.leaveAll_active (s.sbMembers n) s
    refine ⟨hd, fun k hk => if_neg hk, fun p => ?_, (hparts _).trans hparts', hactive.trans hactive'⟩
    simp only [State.mem_sbMembers]
    split
    · rfl
    · rfl
  case conf => rfl
  case cold =>
    obtain ⟨-, hparts⟩ := State.standbyPart_active o.index ((s.sbPart o.index).modify o) s
    exact ⟨hd, hparts, rfl⟩

end Sys2Proof.Machine
end

section
/-! O41. The record of CNF_QUERY, a tone definition loaded, and the end of a speaker hold-off (07 R205, R217, R218). -/

namespace Sys2Proof.Machine

/-! ### CNF_QUERY (R218) -/

/-- Sixteen lines of 8 bytes. -/
theorem length_lines {l : List (List Byte)} (hl : ∀ x ∈ l, x.length = 8) (hn : 16 ≤ l.length) : (l.take 16).flatten.length = 128 := by
  have hsum : ((l.take 16).map List.length).sum = (l.take 16).length * 8 := by
    have hall : ∀ n ∈ (l.take 16).map List.length, n = 8 := by
      rintro n hn
      obtain ⟨x, hx, rfl⟩ := List.mem_map.1 hn
      exact hl x (List.mem_of_mem_take hx)
    rw [List.sum_eq_card_nsmul _ 8 hall, List.length_map, smul_eq_mul]
  rw [List.length_flatten, hsum, List.length_take_of_le hn]

theorem State.cnfQueryRec_length (s : State) (c : Nat) : (s.cnfQueryRec c).length = 144 := by
  unfold State.cnfQueryRec
  dsimp only
  split
  · rw [List.length_append, leBytes_length, List.length_replicate]
  · simp only [List.length_append, leBytes_length]
    rw [length_lines]
    · intro x hx
      simp only [List.mem_append, List.mem_map, List.mem_replicate] at hx
      rcases hx with (⟨p, -, rfl⟩ | ⟨p, -, rfl⟩) | ⟨-, rfl⟩
      all_goals simp only [List.length_append, leBytes_length, List.length_replicate]
    · rw [List.length_append, List.length_replicate]
      exact Nat.le_add_left ..

/-- The record begins with the conference's index. -/
theorem State.cnfQueryRec_index (s : State) (c : Nat) : (s.cnfQueryRec c).take 2 = leBytes 2 c := by
  unfold State.cnfQueryRec
  dsimp only
  split
  · exact List.take_left' (leBytes_length ..)
  · simp only [List.append_assoc]
    exact List.take_left' (leBytes_length ..)

theorem State.putRecord_on {s : State} (hd : s.dmaOn = true) (a : DWord) (l : List Byte) :
    s.putRecord a l = ({ result := l.length, data := true }, { s with hostMem := memWrite s.hostMem a.toNat l }) := by
  rw [State.putRecord, if_pos hd, State.dma, if_pos hd]

theorem State.putRecord_off {s : State} (hd : s.dmaOn = false) (a : DWord) (l : List Byte) : s.putRecord a l = ({}, s) :=
  if_neg (by simp [hd])

/-! ### The end of a speaker hold-off (R205) -/

theorem execSpeakerHoldoffExpiry_rests {c : Fin 16384} {s : State} (hh : (s.spkOf c).holdoff = some 0) (hp : (s.spkOf c).pend = false) :
    exec (.speakerHoldoffExpiry c) s = .next (s.setSpk c { s.spkOf c with holdoff := none }) :=
  congrArg Host.Outcome.next ((if_neg (not_not.2 hh)).trans (if_neg (by simp [hp])))

theorem execSpeakerHoldoffExpiry_reports {c : Fin 16384} {s : State} (hh : (s.spkOf c).holdoff = some 0)
    (hp : (s.spkOf c).pend = true) : exec (.speakerHoldoffExpiry c) s = .next (s.speakerRaise c) :=
  congrArg Host.Outcome.next ((if_neg (not_not.2 hh)).trans (if_pos hp))

/-- The scheme holds off anew, its pending change reported. -/
def State.spkHeld (c : Nat) (s : State) : State := s.setSpk c { s.spkOf c with pend := false, holdoff := some 16 }

/-- The story second has had the conference's report. -/
def State.spkSeen (c : Nat) (s : State) : State := { s with cnf := { s.cnf with seen := (Kind.cnfSpeaker.code, c) :: s.cnf.seen } }

/-- The first talker of a conference and their number, as the report carries them. -/
def State.spkData (c : Nat) (s : State) : Nat :=
  let l := (s.spkOf c).rank.filter (fun p => (s.laneSt p).sel)
  l.headD 0xFFFF + l.length * 65536

theorem State.speakerRaise_seen {c : Nat} {s : State} (h : (Kind.cnfSpeaker.code, c) ∈ s.cnf.seen) : s.speakerRaise c = s.spkHeld c :=
  if_pos h

theorem State.speakerRaise_new {c : Nat} {s : State} (h : (Kind.cnfSpeaker.code, c) ∉ s.cnf.seen) : s.speakerRaise c =
    ((s.spkHeld c).spkSeen c).raiseU (s.rb 0x50008 0) .cnfSpeaker (0x070 + s.lowLane c) c (s.spkData c) :=
  if_neg h

theorem State.speakerRaise_spkOf (c : Nat) (s : State) :
    (s.speakerRaise c).spkOf c = { s.spkOf c with pend := false, holdoff := some 16 } := by
  by_cases h : (Kind.cnfSpeaker.code, c) ∈ s.cnf.seen
  · rw [State.speakerRaise_seen h]
    exact State.setSpk_get ..
  · rw [State.speakerRaise_new h, State.spkOf, cnf_of_hide (State.raiseU_frame _ (by decide) ..)]
    exact State.setSpk_get ..

/-! ### The obligation -/

/-- Settles O41: the record by its 16 lines, the hold-off by whether the story second has had the report. -/
theorem queryToneSpeaker : Obligations.QueryToneSpeaker := by
  unfold Obligations.QueryToneSpeaker
  refine ⟨fun h a n s hc hd => ?query, fun h a n s hc hd => hc.does (State.putRecord_off hd ..) rfl rfl rfl fun l p hdone => ⟨hdone, rfl⟩,
    fun h d x s hc => hc.does (u := s.toneLoad d x) rfl rfl rfl rfl fun l p hdone =>
      ⟨hdone, tget_tset_same .., fun k hk => tget_tset_other _ _ _ _ _ hk⟩,
    fun c s hh hp => ⟨_, execSpeakerHoldoffExpiry_rests hh hp, State.setSpk_get .., rfl⟩,
    fun c s hh hp => ⟨_, execSpeakerHoldoffExpiry_reports hh hp, State.speakerRaise_spkOf .., fun hs => ?again,
      fun hs => ⟨?seen, fun hq => ?new⟩⟩⟩
  case query =>
    exact hc.does (State.putRecord_on hd ..) rfl rfl (s.cnfQueryRec_length n) fun l p hdone =>
      ⟨hdone, s.cnfQueryRec_length n, s.cnfQueryRec_index n, rfl, rfl⟩
  case again =>
    rw [State.speakerRaise_seen hs]
    rfl
  case seen =>
    rw [State.speakerRaise_new hs, cnf_of_hide (State.raiseU_frame _ (by decide) ..)]
    exact List.mem_cons_self
  case new =>
    rw [State.speakerRaise_new hs]
    exact State.raiseU_queue hq

end Sys2Proof.Machine
end

section
/-! O42. What a participant hears: the lane pass and the collector window, each a fold in which the one participant's step settles
its outcome and every other step leaves it (07 R197-R201). -/

namespace Sys2Proof.Machine

/-- What every step keeps under `Q`, and the step for one member of the list brings about, holds at the end. -/
theorem foldS_establishes {α : Type} {P Q : State → Prop} {f : α → State → State} {l : List α} {a : α} (ha : a ∈ l)
    (hQ : ∀ b s, Q s → Q (f b s)) (hset : ∀ s, Q s → P (f a s)) (hP : ∀ b s, Q s → P s → P (f b s)) {s : State} (hs : Q s) :
    P (foldS l f s) := by
  have hkeep : ∀ (l : List α) (s : State), Q s → P s → P (foldS l f s) := by
    intro l
    induction l with
    | nil => exact fun s _ hp => hp
    | cons b l ih => exact fun s hq hp => ih _ (hQ b s hq) (hP b s hq hp)
  induction l generalizing s with
  | nil => cases ha
  | cons b l ih =>
    rcases List.mem_cons.1 ha with rfl | ha
    · exact hkeep l _ (hQ a s hs) (hset s hs)
    · exact ih ha (hQ b s hs)

/-! ### Passes without errors -/

theorem State.rsReadAll_clean {s : State} (h : s.upsets = []) (isConf b : Bool) : s.rsReadAll isConf b = s := by
  unfold State.rsReadAll
  rw [h]
  rfl

theorem State.laneErrors_clean {s : State} (h : s.upsets = []) : s.laneErrors = ([], s) := by
  unfold State.laneErrors
  rw [h]
  rfl

theorem State.colErrors_clean {s : State} (h : s.upsets = []) : s.colErrors = ([], s) := by
  unfold State.colErrors
  rw [h]
  rfl

/-! ### Participants and conferences in use are listed -/

theorem State.cnfPart_eq (s : State) (p : Nat) : s.cnfPart p = tget {} (s.cnfParts s.cnf.active) p := rfl

theorem State.cnfPart_listed {s : State} {p : Nat} (h : (s.cnfPart p).inUse = true) : (p, s.cnfPart p) ∈ s.cnfParts s.cnf.active :=
  mem_of_tget_ne fun h0 => by
    rw [State.cnfPart_eq, h0] at h
    cases h

theorem State.mem_livePartsOf {s : State} {c p : Nat} : p ∈ s.livePartsOf c ↔ s.partLive p = true ∧ (s.cnfPart p).set.conf = c := by
  unfold State.livePartsOf
  rw [List.mem_map]
  constructor
  · rintro ⟨e, he, rfl⟩
    simpa using (List.mem_filter.1 he).2
  · rintro ⟨hlive, hc⟩
    exact ⟨_, List.mem_filter.2 ⟨State.cnfPart_listed (Bool.and_eq_true_iff.1 hlive).1, by simp [hlive, hc]⟩, rfl⟩

theorem State.mem_liveConfs {s : State} {c : Nat} (h : (s.cnfConf c).inUse = true) : c ∈ s.liveConfs := by
  have hc : (c, s.cnfConf c) ∈ s.cnfConfs s.cnf.active := mem_of_tget_ne fun h0 => by
    rw [State.cnfConf, h0] at h
    cases h
  exact List.mem_map.2 ⟨_, List.mem_filter.2 ⟨hc, h⟩, rfl⟩

/-! ### The lane pass (R199, R202) -/

/-- A lane writes what it presents of a participant, with the participant's selection state. -/
def State.present (p : Nat) (x : LaneSt) (c : Contrib) (s : State) : State :=
  let s := s.setLaneSt p x
  { s with cnf := { s.cnf with contrib := tput s.cnf.contrib p c } }

theorem State.present_same (p : Nat) (x : LaneSt) (c : Contrib) (s : State) :
    tget {} (s.present p x c).cnf.contrib p = c ∧ (s.present p x c).laneSt p = x := ⟨tget_tput_same .., tget_tset_same ..⟩

theorem State.present_other {p q : Nat} (h : p ≠ q) (x : LaneSt) (c : Contrib) (s : State) :
    (tget {} (s.present q x c).cnf.contrib p : Contrib) = tget {} s.cnf.contrib p ∧ (s.present q x c).laneSt p = s.laneSt p :=
  ⟨tget_tput_other _ _ _ _ _ h, tget_tset_other _ _ _ _ _ h⟩

theorem State.lanePart_present (l : List Nat) (p : Nat) (s : State) : ∃ x c, s.lanePart l p = s.present p x c := by
  unfold State.lanePart
  dsimp only
  split
  · exact ⟨_, _, rfl⟩
  · exact ⟨_, _, rfl⟩

/-- The sample of a participant's input byte. -/
def State.laneSample (s : State) (p : Nat) : Int := gain (s.cnfPart p).set.gin (expand (s.cnfPart p).set.mu (s.confByte p))

/-- The selection state with the sample in its window. -/
def State.laneTaken (s : State) (p : Nat) : LaneSt := { s.laneSt p with win := (s.laneSample p :: (s.laneSt p).win).take 32 }

/-- What a lane presents of a participant that no error mutes. -/
def State.laneContrib (s : State) (p : Nat) : Contrib :=
  let r := (s.cnfPart p).set.role
  { y := s.laneSample p, e := (s.laneTaken p).energy
    mix := decide (r = 3) || (decide (r = 0 ∨ r = 2) && (s.laneSt p).sel), cand := decide (r = 0 ∨ r = 2), mute := decide (r = 2) }

theorem State.lanePart_heard {s : State} {p : Nat} (hw : s.laneWiped (p / 4096) = false) (hp : s.partPoison p = false) :
    s.lanePart [] p = s.present p (s.laneTaken p) (s.laneContrib p) := by
  have hrole : ∀ r, roleTalks r = decide (r = 0 ∨ r = 2) := fun r => (Bool.decide_or ..).symm
  unfold State.lanePart
  simp only [hw, hp, hrole, List.not_mem_nil, decide_false, Bool.false_or, Bool.false_eq_true, if_false, Bool.not_false, Bool.true_and,
    Bool.and_true]
  rfl

/-- The state without what a lane pass writes. -/
def State.unpassed (s : State) : State := { s with cnf := { s.cnf with lane := [], contrib := [] } }

/-- One entry of a lane pass without errors. -/
def State.laneStep (p : Nat) (s : State) : State := if s.partLive p then s.lanePart [] p else s

theorem State.laneStep_unpassed (p : Nat) (s : State) : (s.laneStep p).unpassed = s.unpassed := by
  unfold State.laneStep
  split
  · obtain ⟨x, c, h⟩ := State.lanePart_present [] p s
    rw [h]
    rfl
  · rfl

theorem State.laneStep_other {p q : Nat} (h : p ≠ q) (s : State) :
    (tget {} (s.laneStep q).cnf.contrib p : Contrib) = tget {} s.cnf.contrib p ∧ (s.laneStep q).laneSt p = s.laneSt p := by
  unfold State.laneStep
  split
  · obtain ⟨x, c, hx⟩ := State.lanePart_present [] q s
    rw [hx]
    exact State.present_other h x c s
  · exact ⟨rfl, rfl⟩

/-- A participant in use that no error mutes, as a pass from `s` finds it in `u`: selected or not as it was before the pass. -/
def State.Unheard (s : State) (p : Nat) (u : State) : Prop := u.unpassed = s.unpassed ∧ (u.laneSt p).sel = (s.laneSt p).sel

/-- What a pass from `s` leaves of the participant in `u`. -/
def State.Heard (s : State) (p : Nat) (u : State) : Prop :=
  let x : Contrib := tget {} u.cnf.contrib p
  x = { s.laneContrib p with e := (u.laneSt p).energy } ∧ (u.laneSt p).win.head? = some (s.laneSample p) ∧
  (u.laneSt p).sel = (s.laneSt p).sel

/-- The pass is begun. -/
def State.passBegun (s : State) : State := { s with cnf := { s.cnf with contrib := [], laneDone := true } }

theorem State.lanePass_clean {s : State} (h : s.upsets = []) : s.lanePass =
    foldS ((s.cnfParts s.cnf.active).map (fun (e : Nat × PEntry) => e.1)) State.laneStep s.passBegun := by
  unfold State.lanePass
  dsimp only
  rw [State.rsReadAll_clean h, State.laneErrors_clean h]
  rfl

theorem State.lanePass_laneDone {s : State} (h : s.upsets = []) : s.lanePass.cnf.laneDone = true := by
  have hu := foldS_keeps State.unpassed ((s.cnfParts s.cnf.active).map (fun (e : Nat × PEntry) => e.1)) _ State.laneStep_unpassed
    s.passBegun
  rw [State.lanePass_clean h]
  exact (congrArg (fun v => v.cnf.laneDone) hu :)

section
variable {s : State} {p : Nat} (hlive : s.partLive p = true) (hw : s.laneWiped (p / 4096) = false) (hp : s.partPoison p = false)
include hlive hw hp

/-- The step of the participant itself. -/
theorem State.laneStep_heard {u : State} (h : s.Unheard p u) : s.Heard p (u.laneStep p) := by
  obtain ⟨hu, hsel⟩ := h
  have hlive' : u.partLive p = true := (congrArg (fun v => v.partLive p) hu : u.partLive p = s.partLive p).trans hlive
  have hw' : u.laneWiped (p / 4096) = false := (congrArg (fun v => v.laneWiped (p / 4096)) hu : u.laneWiped _ = s.laneWiped _).trans hw
  have hp' : u.partPoison p = false := (congrArg (fun v => v.partPoison p) hu : u.partPoison p = s.partPoison p).trans hp
  have hsample : u.laneSample p = s.laneSample p := congrArg (fun v => v.laneSample p) hu
  have hpart : u.cnfPart p = s.cnfPart p := congrArg (fun v => v.cnfPart p) hu
  have hstep : u.laneStep p = u.present p (u.laneTaken p) (u.laneContrib p) := (if_pos hlive').trans (State.lanePart_heard hw' hp')
  obtain ⟨hc, hl⟩ := State.present_same p (u.laneTaken p) (u.laneContrib p) u
  unfold State.Heard
  rw [hstep, hc, hl]
  refine ⟨?_, congrArg some hsample, hsel⟩
  simp only [State.laneContrib, hpart, hsel, hsample]

theorem State.laneStep_unheard (q : Nat) {u : State} (h : s.Unheard p u) : s.Unheard p (u.laneStep q) := by
  refine ⟨(State.laneStep_unpassed q u).trans h.1, ?_⟩
  by_cases hq : p = q
  · subst hq
    obtain ⟨-, -, hsel⟩ := State.laneStep_heard hlive hw hp h
    exact hsel
  · rw [(State.laneStep_other hq u).2]
    exact h.2

theorem State.laneStep_keeps (q : Nat) {u : State} (h : s.Unheard p u) (hh : s.Heard p u) : s.Heard p (u.laneStep q) := by
  by_cases hq : p = q
  · subst hq
    exact State.laneStep_heard hlive hw hp h
  · obtain ⟨hc, hl⟩ := State.laneStep_other hq u
    unfold State.Heard
    rw [hc, hl]
    exact hh

theorem State.lanePass_heard (hup : s.upsets = []) : s.Heard p s.lanePass := by
  rw [State.lanePass_clean hup]
  have hlisted := List.mem_map_of_mem (f := fun (e : Nat × PEntry) => e.1) (State.cnfPart_listed (Bool.and_eq_true_iff.1 hlive).1)
  exact foldS_establishes (s := s.passBegun) (P := s.passBegun.Heard p) (Q := s.passBegun.Unheard p) hlisted
    (fun q u => State.laneStep_unheard (s := s.passBegun) hlive hw hp q)
    (fun u => State.laneStep_heard (s := s.passBegun) hlive hw hp)
    (fun q u => State.laneStep_keeps (s := s.passBegun) hlive hw hp q) ⟨rfl, rfl⟩

end

/-! ### The collector window (R200, R201) -/

/-- The state without what the collector writes of a conference. -/
def State.uncollected (s : State) : State := { s with tsw := { s.tsw with inCur := [] }, cnf := { s.cnf with lane := [], spk := [] } }

/-- A decision changes selection states and the conference's speakers (R203). -/
theorem State.decideConf_uncollected (c : Nat) (s : State) : (s.decideConf c).uncollected = s.uncollected := by
  unfold State.decideConf
  dsimp only
  refine (show State.uncollected (State.setSpk _ _ _) = State.uncollected _ from rfl).trans ?_
  refine (foldS_keeps State.uncollected _ _ (fun p u => ?_) _).trans (foldS_keeps State.uncollected _ _ (fun p u => ?_) s)
  · split
    · rfl
    · rfl
  · split
    · rfl
    · split
      · rfl
      · split
        · rfl
        · rfl

theorem State.decideConf_tsw (c : Nat) (s : State) : (s.decideConf c).tsw = s.tsw := tsw_of_hide (State.decideConf_frame _ (by decide) ..)

/-- The byte of participant `p` in the present input frame. -/
def State.heardByte (s : State) (p : Nat) : Byte := (tget {} s.tsw.inCur (0x80000 + p)).b

theorem State.putInput_heardByte (s : State) (p q : Nat) (b : Byte) :
    (s.putInput (0x80000 + q) b).heardByte p = if p = q then b else s.heardByte p := by
  unfold State.heardByte State.putInput
  by_cases h : p = q
  · rw [if_pos h, h, tget_tset_same]
  · rw [if_neg h, tget_tset_other _ _ _ _ _ (by omega)]

/-- The sum of a conference's mix. -/
def State.mixTotal (s : State) (c : Nat) : Int :=
  (s.livePartsOf c).foldl (fun (a : Int) p => let x : Contrib := tget {} s.cnf.contrib p; if x.mix then a + x.y else a) 0

/-- What conference `c` sends to its member `p`. -/
def State.mixOutput (s : State) (c p : Nat) : Byte := s.mixByte (s.mixTotal c) (tget false (s.cnfPoisC s.cnf.active) c) p

/-- The output of one member is written. -/
def State.sendMix (total : Int) (quiet : Bool) (p : Nat) (s : State) : State := s.putInput (0x80000 + p) (s.mixByte total quiet p)

/-- The outputs of a conference's members. -/
def State.mixAll (c : Nat) (s : State) : State :=
  foldS (s.livePartsOf c) (State.sendMix (s.mixTotal c) (tget false (s.cnfPoisC s.cnf.active) c)) s

theorem State.sendMix_heardByte (total : Int) (quiet : Bool) (p q : Nat) (s : State) :
    (s.sendMix total quiet q).heardByte p = if p = q then s.mixByte total quiet p else s.heardByte p := by
  rw [State.sendMix, State.putInput_heardByte]
  split
  next h => rw [h]
  next => rfl

theorem State.sendMix_uncollected (total : Int) (quiet : Bool) (p : Nat) (s : State) :
    (s.sendMix total quiet p).uncollected = s.uncollected := rfl

theorem State.collectConf_clean (c : Nat) (s : State) : s.collectConf [] c = (s.mixAll c).decideConf c := by
  unfold State.collectConf
  simp only [List.not_mem_nil, decide_false, Bool.false_or, if_false]
  rfl

theorem State.mixAll_uncollected (c : Nat) (s : State) : (s.mixAll c).uncollected = s.uncollected :=
  foldS_keeps State.uncollected _ _ (State.sendMix_uncollected _ _) s

theorem State.mixAll_member {c p : Nat} {s : State} (h : p ∈ s.livePartsOf c) :
    (s.mixAll c).heardByte p = s.mixOutput c p := by
  have hbyte : ∀ u : State, u.uncollected = s.uncollected →
      u.mixByte (s.mixTotal c) (tget false (s.cnfPoisC s.cnf.active) c) p = s.mixOutput c p :=
    fun u hu => congrArg (fun v => v.mixByte (s.mixTotal c) (tget false (s.cnfPoisC s.cnf.active) c) p) hu
  refine foldS_establishes (Q := fun u => u.uncollected = s.uncollected) (P := fun u => u.heardByte p = s.mixOutput c p) h
    (fun q u hu => (State.sendMix_uncollected _ _ q u).trans hu) (fun u hu => ?_) (fun q u hu hp => ?_) rfl
  · rw [State.sendMix_heardByte, if_pos rfl, hbyte u hu]
  · rw [State.sendMix_heardByte, hbyte u hu, hp, ite_self]

theorem State.mixAll_other {c p : Nat} {s : State} (h : p ∉ s.livePartsOf c) : (s.mixAll c).heardByte p = s.heardByte p :=
  foldS_mem_keeps (fun u => u.heardByte p)
    (fun q hq _ => (State.sendMix_heardByte ..).trans (if_neg fun hpq : p = q => h (hpq ▸ hq))) s

/-- A conference's window writes its members' bytes. -/
theorem State.collectConf_heardByte (c p : Nat) (s : State) : (s.collectConf [] c).heardByte p =
    if p ∈ s.livePartsOf c then s.mixOutput c p else s.heardByte p := by
  rw [State.collectConf_clean, State.heardByte, State.decideConf_tsw]
  split
  next h => exact State.mixAll_member h
  next h => exact State.mixAll_other h

theorem State.collectConf_uncollected (c : Nat) (s : State) : (s.collectConf [] c).uncollected = s.uncollected := by
  rw [State.collectConf_clean, State.decideConf_uncollected, State.mixAll_uncollected]

/-- The window's work is begun. -/
def State.colBegun (s : State) : State := { s with cnf := { s.cnf with colDone := true } }

theorem State.collect_clean {s : State} (h : s.upsets = []) :
    s.collect = foldS s.liveConfs (fun c s => s.collectConf [] c) s.colBegun := by
  unfold State.collect
  dsimp only
  rw [State.rsReadAll_clean h, State.colErrors_clean h]
  rfl

/-- What a participant in use hears. -/
theorem State.collect_heardByte {s : State} {p : Nat} (h : s.upsets = []) (hlive : s.partLive p = true) :
    s.collect.heardByte p = s.mixOutput (s.cnfPart p).set.conf p := by
  set c := (s.cnfPart p).set.conf
  obtain ⟨-, hconf⟩ := Bool.and_eq_true_iff.1 hlive
  have hmem : ∀ (k : Nat) (u : State), u.uncollected = s.colBegun.uncollected → (p ∈ u.livePartsOf k ↔ c = k) := fun k u hu => by
    rw [show u.livePartsOf k = s.livePartsOf k from (congrArg (fun v => v.livePartsOf k) hu :), State.mem_livePartsOf]
    exact and_iff_right hlive
  have hown : ∀ u : State, u.uncollected = s.colBegun.uncollected → (u.collectConf [] c).heardByte p = s.mixOutput c p := fun u hu => by
    rw [State.collectConf_heardByte, if_pos ((hmem c u hu).2 rfl)]
    exact (congrArg (fun v => v.mixOutput c p) hu :)
  rw [State.collect_clean h]
  refine foldS_establishes (Q := fun u => u.uncollected = s.colBegun.uncollected) (P := fun u => u.heardByte p = s.mixOutput c p)
    (State.mem_liveConfs hconf) (fun k u hu => (State.collectConf_uncollected k u).trans hu) hown (fun k u hu hp => ?_) rfl
  by_cases hk : c = k
  · rw [← hk, hown u hu]
  · rw [State.collectConf_heardByte, if_neg fun hm => hk ((hmem k u hu).1 hm), hp]

theorem State.collect_colDone {s : State} (h : s.upsets = []) : s.collect.cnf.colDone = true := by
  have hu := foldS_keeps State.uncollected s.liveConfs _ (fun c u => State.collectConf_uncollected c u) s.colBegun
  rw [State.collect_clean h]
  exact (congrArg (fun v => v.cnf.colDone) hu :)

/-- What participant `p` adds to the mix. -/
def State.mixPart (s : State) (p : Nat) : Int := let x : Contrib := tget {} s.cnf.contrib p; if x.mix then x.y else 0

theorem State.mixTotal_eq (s : State) (c : Nat) : s.mixTotal c = ((s.livePartsOf c).map s.mixPart).sum := by
  have hfold : ∀ (l : List Nat) (a : Int),
      l.foldl (fun (a : Int) p => let x : Contrib := tget {} s.cnf.contrib p; if x.mix then a + x.y else a) a =
        a + (l.map s.mixPart).sum := by
    intro l
    induction l with
    | nil => exact fun a => (add_zero a).symm
    | cons p l ih =>
      intro a
      rw [List.foldl_cons, ih, List.map_cons, List.sum_cons, ← add_assoc]
      congr 1
      unfold State.mixPart
      dsimp only
      split
      · rfl
      · exact (add_zero a).symm
  exact (hfold _ 0).trans (zero_add _)

/-- A participant hears the mix less its own part of it. -/
theorem State.mixByte_eq (s : State) (total : Int) (muted : Bool) (p : Nat) : s.mixByte total muted p =
    if muted || (tget {} s.cnf.contrib p : Contrib).mute then idle (s.cnfPart p).set.mu
    else encode (s.cnfPart p).set.mu (sat16 (gain (s.cnfPart p).set.gout (total - s.mixPart p))) := by
  unfold State.mixByte State.mixPart
  dsimp only
  split
  · rfl
  · split
    · rfl
    · rw [Int.sub_zero]

/-! ### The obligation -/

theorem execLanePass_runs {s : State} (hd : s.cnf.laneDone = false) (hph : 150 ≤ s.stp.phase) : exec .lanePass s = .next s.lanePass :=
  congrArg Host.Outcome.next (if_pos (by simp [hd, hph]))

theorem execCollectorWindow_runs {s : State} (hl : s.cnf.laneDone = true) (hd : s.cnf.colDone = false) (hph : 1944 ≤ s.stp.phase) :
    exec (.collectorWindow false) s = .next s.collect :=
  congrArg Host.Outcome.next ((if_pos (by simp [hd, hph])).trans (by rw [hl]; rfl))

/-- Settles O42: the lane pass by `lanePass_heard`, the window by `collect_heardByte` and the sum that the fold over the members is. -/
theorem conferenceMix : Obligations.ConferenceMix := by
  unfold Obligations.ConferenceMix
  refine ⟨fun s p hd hph hup hlive hw hp => ⟨_, execLanePass_runs hd hph, ?lane⟩,
    fun s p hl hd hph hup hlive => ⟨_, execCollectorWindow_runs hl hd hph, State.collect_colDone hup, ?mix⟩⟩
  case lane =>
    obtain ⟨hx, hwin, hsel⟩ := State.lanePass_heard hlive hw hp hup
    dsimp only
    rw [hx]
    exact ⟨State.lanePass_laneDone hup, rfl, hwin, hsel, rfl, rfl, rfl, rfl⟩
  case mix =>
    have h := State.collect_heardByte hup hlive
    rw [State.mixOutput, State.mixByte_eq, State.mixTotal_eq] at h
    exact h

end Sys2Proof.Machine
end

section
/-! O43, O44. The decisions of a sister unit (08 R226-R231): what no decision changes of a group, and what one comes to where neither a
command nor the far end takes part. -/

namespace Sys2Proof.Machine

/-! ### What of the state a group is -/

theorem group_of_prt {s t : State} (h : t.prt = s.prt) (kind g : Nat) : t.group kind g = s.group kind g :=
  congrArg (fun p : Prt => tget ({} : Group) p.groups (groupKey kind g)) h

theorem State.raise_group (k : Kind) (src addr data : Nat) (s : State) (kind g : Nat) :
    (s.raise k src addr data).group kind g = s.group kind g := group_of_prt (prt_of_hide (State.raise_frame _ (by decide) ..)) ..

theorem State.prtEvent_group (n j bit : Nat) (k : Kind) (data : Nat) (s : State) (kind g : Nat) :
    (s.prtEvent n j bit k data).group kind g = s.group kind g := group_of_prt (prt_of_hide (State.raiseU_frame _ (by decide) ..)) ..

/-! ### What no decision changes of a group -/

/-- `y` is the group `x` as decisions leave it: its settings and its selector stand, and so does a LOCKOUT or a FORCE (codes 1 to 3 of
Table SI-6); other commands can at most be dropped, and exercises at most end (R231). -/
structure Group.Keeps (x y : Group) : Prop where
  inUse : y.inUse = x.inUse
  op : y.op = x.op
  selP : y.selP = x.selP
  farK1 : y.farK1 = x.farK1
  stands : ∀ c ≤ 3, x.cmd = some c → y.cmd = some c
  noCmd : x.cmd = none → y.cmd = none
  noExer : x.exer = none → y.exer = none

/-- The same of a group whose state holds no error (R253). -/
structure Group.Decided (x y : Group) : Prop extends x.Keeps y where
  poison : y.poison = x.poison

theorem Group.Keeps.of_eq {x y : Group} (hu : y.inUse = x.inUse) (ho : y.op = x.op) (hs : y.selP = x.selP) (hf : y.farK1 = x.farK1)
    (hc : y.cmd = x.cmd) (he : x.exer = none → y.exer = none) : x.Keeps y := ⟨hu, ho, hs, hf, fun _ _ h => hc.trans h, hc.trans, he⟩

theorem Group.Keeps.refl (x : Group) : x.Keeps x := .of_eq rfl rfl rfl rfl rfl id

theorem Group.Keeps.trans {x y z : Group} (h : x.Keeps y) (k : y.Keeps z) : x.Keeps z :=
  ⟨k.inUse.trans h.inUse, k.op.trans h.op, k.selP.trans h.selP, k.farK1.trans h.farK1,
    fun c hc hx => k.stands c hc (h.stands c hc hx), fun hx => k.noCmd (h.noCmd hx), fun hx => k.noExer (h.noExer hx)⟩

theorem Group.Decided.of_eq {x y : Group} (hu : y.inUse = x.inUse) (ho : y.op = x.op) (hs : y.selP = x.selP) (hf : y.farK1 = x.farK1)
    (hc : y.cmd = x.cmd) (he : y.exer = x.exer) (hp : y.poison = x.poison) : x.Decided y := ⟨.of_eq hu ho hs hf hc he.trans, hp⟩

theorem Group.Decided.refl (x : Group) : x.Decided x := ⟨.refl x, rfl⟩

theorem Group.Decided.trans {x y z : Group} (h : x.Decided y) (k : y.Decided z) : x.Decided z :=
  ⟨h.toKeeps.trans k.toKeeps, k.poison.trans h.poison⟩

/-! ### Commands that a higher request overtakes (R231) -/

theorem Group.top_pos (x : Group) : 0 < x.top := by
  unfold Group.top
  split_ifs <;> decide

theorem farReq_ne_zero (k1 : Nat) : farReq k1 ≠ some 0 := by
  unfold farReq
  dsimp only
  by_cases hp : k1 % 16 = 1
  · simp only [hp, if_true]
    split <;> decide
  · simp only [hp, if_false]
    split <;> decide

theorem State.farOf_ne_zero (s : State) (kind : Nat) (x : Group) : s.farOf kind x ≠ some 0 := by
  unfold State.farOf
  split
  · exact farReq_ne_zero _
  · exact nofun

/-- No request is of priority 0, which alone would overtake another command than MANUAL and EXERCISE. -/
theorem Group.cmd_of_overtaken {far : Option Nat} (hf : far ≠ some 0) {x : Group} (h : x.overtaken far = true) :
    x.cmd = some 6 ∨ x.cmd = some 4 ∨ x.cmd = some 5 := by
  by_contra hc
  obtain ⟨h6, h4, h5⟩ : x.cmd ≠ some 6 ∧ x.cmd ≠ some 4 ∧ x.cmd ≠ some 5 := by simpa only [not_or] using hc
  have ht := x.top_pos
  unfold Group.overtaken at h
  rw [if_neg h6, if_neg (by simp [h4, h5])] at h
  cases far with
  | none => simp at h; omega
  | some f => simp at h hf; omega

theorem State.protDrop_of_noCmd {kind g : Nat} {x : Group} (hc : x.cmd = none) {far : Option Nat} (hf : far ≠ some 0) (s : State) :
    s.protDrop kind g x far = (x, s) := if_neg fun h => by simpa [hc] using Group.cmd_of_overtaken hf h

theorem State.protDrop_decided {kind g : Nat} {x : Group} {far : Option Nat} (hf : far ≠ some 0) (s : State) :
    x.Decided (s.protDrop kind g x far).1 := by
  unfold State.protDrop
  split
  next h =>
    refine ⟨⟨rfl, rfl, rfl, rfl, fun c hc hx => ?_, fun _ => rfl, fun _ => rfl⟩, rfl⟩
    rcases Group.cmd_of_overtaken hf h with h | h | h
    all_goals
      obtain rfl : c = _ := Option.some.inj (hx.symm.trans h)
      omega
  next => exact .refl x

/-! ### A decision -/

theorem Group.decided_ite {c : Prop} [Decidable c] {x y z : Group} (hy : x.Decided y) (hz : x.Decided z) :
    x.Decided (if c then y else z) := iteInduction (fun _ => hy) (fun _ => hz)

theorem Group.after_decided (prev : Nat) (x : Group) : x.Decided (x.after prev) :=
  decided_ite (.refl x) (decided_ite (decided_ite (.of_eq rfl rfl rfl rfl rfl rfl rfl) (.of_eq rfl rfl rfl rfl rfl rfl rfl))
    (decided_ite (.refl x) (.of_eq rfl rfl rfl rfl rfl rfl rfl)))

theorem Group.restoration_decided (far : Option Nat) (prev : Nat) (x : Group) : x.Decided (x.restoration far prev) := by
  refine decided_ite (.of_eq rfl rfl rfl rfl rfl rfl rfl) ?_
  cases far with
  | none => exact x.after_decided prev
  | some f => exact decided_ite (.of_eq rfl rfl rfl rfl rfl rfl rfl) (x.after_decided prev)

theorem State.protWin_decided (kind : Nat) (far : Option Nat) (x : Group) (s : State) : x.Decided (s.protWin kind far x) :=
  Group.decided_ite (.of_eq rfl rfl rfl rfl rfl rfl rfl) (.of_eq rfl rfl rfl rfl rfl rfl rfl)

theorem State.sides_decided (s : State) (kind : Nat) (x : Group) : x.Decided (s.sides kind x) :=
  .of_eq rfl rfl rfl rfl rfl rfl rfl

theorem State.protEval_decided (kind g : Nat) (x : Group) (s : State) : x.Decided ((s.protEval kind g x).group kind g) := by
  rw [State.protEval, State.setGroup_get]
  exact ((State.protDrop_decided (s.farOf_ne_zero kind x) s).trans (Group.restoration_decided ..)).trans (State.protWin_decided ..)

/-! ### The group's state is read (R253) -/

theorem State.groupRead_rest {kind : Fin 4} {g : Nat} {s : State} (hu : s.upsetAt (.group kind g) = none) : s.groupRead kind g = s := by
  rw [State.groupRead, hu]

/-- A group whose state an uncorrectable error has struck. -/
def Group.poisoned (x : Group) : Group :=
  { x with poison := true, move := none, wtrOn := false, wtrArm := false, exer := none, w := { x.w with hold := none },
           p := { x.p with hold := none } }

theorem Group.poisoned_keeps (x : Group) : x.Keeps x.poisoned := .of_eq rfl rfl rfl rfl rfl fun _ => rfl

theorem State.groupRead_group (kind : Fin 4) (g : Nat) (s : State) : (s.groupRead kind g).group kind g =
    if s.upsetAt (.group kind g) = some true then (s.group kind g).poisoned else s.group kind g := by
  unfold State.groupRead
  cases s.upsetAt (.group kind g) with
  | none => rfl
  | some double =>
    cases double
    · exact State.raise_group ..
    · exact (State.raise_group ..).trans (State.setGroup_get ..)

theorem State.groupRead_keeps (kind : Fin 4) (g : Nat) (s : State) :
    (s.group kind g).Keeps ((s.groupRead kind g).group kind g) := by
  rw [State.groupRead_group]
  split
  · exact Group.poisoned_keeps _
  · exact .refl _

theorem State.protDecide_keeps (kind : Fin 4) (g : Nat) (s : State) :
    (s.group kind g).Keeps ((s.protDecide kind g).group kind g) := by
  unfold State.protDecide
  dsimp only
  split
  · have hread := s.groupRead_keeps kind g
    split
    · exact hread.trans ((State.sides_decided ..).trans (State.protEval_decided ..)).toKeeps
    · exact hread
  · split
    · exact ((State.sides_decided ..).trans (State.protEval_decided ..)).toKeeps
    · exact .refl _

/-- A decision where the group's state holds no error. -/
theorem State.protDecide_of_sound {kind : Fin 4} {g : Nat} {s : State} (hu : s.upsetAt (.group kind g) = none) :
    s.protDecide kind g = if (s.group kind g).decides kind then s.protEval kind g (s.sides kind (s.group kind g)) else s := by
  rw [State.protDecide, State.groupRead_rest hu, ite_self]

theorem State.protDecide_decided {kind : Fin 4} {g : Nat} {s : State} (hu : s.upsetAt (.group kind g) = none) :
    (s.group kind g).Decided ((s.protDecide kind g).group kind g) := by
  rw [State.protDecide_of_sound hu]
  split
  · exact (State.sides_decided ..).trans (State.protEval_decided ..)
  · exact .refl _

end Sys2Proof.Machine
end

section
/-! O43. PROT_GROUP, PROT_CMD and PROT_QUERY (08 R220, R222, R231, R250, R251). -/

namespace Sys2Proof.Machine

/-! ### PROT_GROUP (R220, R222) -/

/-- The state test of a command carried out: none of its refusals holds. -/
theorem Carries.stateTest_none {c : Cmd} {s : State} (h : Carries c s) : s.stateTest s s s.stp.frame false c = none := by
  obtain ⟨-, hstop⟩ := h
  unfold State.stops at hstop
  split at hstop
  · cases hstop
  split at hstop
  · cases hstop
  split at hstop
  · cases hstop
  · assumption

/-- Only a create finds its group not in use (R221). -/
theorem Carries.protGroup_inUse {o : ProtOp} {s : State} (h : Carries (.protGroup o) s) (ho : o.op ≠ 0) :
    (s.group o.kind o.group).inUse = true := by
  have ht : s.protTest s false o = none := h.stateTest_none
  by_contra hu
  rw [State.protTest, if_pos (by simp [ho, Bool.eq_false_iff.2 hu])] at ht
  cases ht

theorem State.wordWritten_group (m : Mem) (s : State) (kind g : Nat) : (s.wordWritten m).group kind g = s.group kind g :=
  group_of_prt (prt_of_hide (State.wordWritten_frame _ (by decide) ..)) ..

theorem State.mergeStart_group (o : ProtOp) (s : State) (kind g : Nat) : (s.mergeStart o).group kind g = s.group kind g :=
  group_of_prt (prt_of_hide (State.mergeStart_frame _ (by decide) ..)) ..

/-- A created group has decided at most. -/
theorem State.protGroup_create {o : ProtOp} (ho : o.op = 0) (s : State) :
    (Group.create o).Keeps ((s.protGroup o).group o.kind o.group) := by
  unfold State.protGroup
  rw [ho]
  dsimp only
  refine .trans ?_ (State.protDecide_keeps ..)
  have hnew : ∀ u : State, ((u.setGroup o.kind o.group (.create o)).wordWritten (.group o.kind o.group)).group o.kind o.group =
    .create o := fun u => (State.wordWritten_group ..).trans (State.setGroup_get ..)
  split
  · rw [State.mergeStart_group, hnew]
    exact .refl _
  · rw [hnew]
    exact .refl _

theorem State.timersOver_keeps (kind : Fin 4) (g : Nat) (s : State) :
    (s.group kind g).Keeps ((s.timersOver kind g).group kind g) := by
  unfold State.timersOver
  dsimp only
  split
  · rw [State.setGroup_get]
    exact .of_eq rfl rfl rfl rfl rfl id
  · exact .refl _

theorem State.protGroup_modify {o : ProtOp} (ho : o.op = 1) (s : State) :
    ((s.group o.kind o.group).modify o).Keeps ((s.protGroup o).group o.kind o.group) := by
  unfold State.protGroup
  rw [ho]
  have h := State.timersOver_keeps o.kind o.group (s.setGroup o.kind o.group ((s.group o.kind o.group).modify o))
  rw [State.setGroup_get] at h
  exact h.trans (State.protDecide_keeps ..)

theorem State.groupDelete_inUse (kind g : Nat) (s : State) : ((s.groupDelete kind g).group kind g).inUse = false := by
  rw [State.groupDelete, State.setGroup_get]
  split <;> rfl

theorem State.protGroup_delete {o : ProtOp} (ho : o.op = 2) (s : State) : s.protGroup o = s.groupDelete o.kind o.group := by
  unfold State.protGroup
  rw [ho]
  rfl

/-! ### PROT_CMD (R231) -/

/-- A group as PROT_CMD finds it: decided anew, or, of a merge, read. -/
def State.protRead (k : Fin 4) (g : Nat) (s : State) : State := if k.val < 3 then s.protDecide k g else s.groupRead k g

theorem State.protRead_decided {k : Fin 4} {g : Nat} {s : State} (hu : s.upsetAt (.group k g) = none) :
    (s.group k g).Decided ((s.protRead k g).group k g) := by
  unfold State.protRead
  split
  · exact State.protDecide_decided hu
  · rw [State.groupRead_rest hu]
    exact .refl _

/-- A poisoned group takes no further requests (R253). -/
theorem State.protRead_poisoned {k : Fin 4} {g : Nat} {s : State} (hu : s.upsetAt (.group k g) = none)
    (hp : (s.group k g).poison = true) : s.protRead k g = s := by
  have hd : s.protDecide k g = s := (State.protDecide_of_sound hu).trans (if_neg (by simp [Group.decides, hp]))
  rw [State.protRead, State.groupRead_rest hu, hd, ite_self]

/-- The group takes `cmd` for its command, without an exercise, and decides. -/
def State.protTake (k : Fin 4) (g : Nat) (cmd : Option Nat) (s : State) : State :=
  (s.setGroup k g { s.group k g with cmd := cmd, exer := none, exerRr := false }).protDecide k g

theorem State.protTake_keeps (k : Fin 4) (g : Nat) (cmd : Option Nat) (s : State) :
    ({ s.group k g with cmd := cmd, exer := none, exerRr := false } : Group).Keeps ((s.protTake k g cmd).group k g) := by
  have h := (s.setGroup k g { s.group k g with cmd := cmd, exer := none, exerRr := false }).protDecide_keeps k g
  rwa [State.setGroup_get] at h

section

variable {k : Fin 4} {g : Nat} {s : State}

theorem State.protCmd_notInUse (code : Nat) (hi : (s.group k g).inUse = false) : s.protCmd k g code = (3, s) :=
  if_pos (by simp [hi])

theorem State.protCmd_poisoned (code : Nat) (hi : (s.group k g).inUse = true) (hp : ((s.protRead k g).group k g).poison = true) :
    s.protCmd k g code = (1, s.protRead k g) :=
  (if_neg (by simp [hi])).trans (if_pos hp)

variable (hi : (s.group k g).inUse = true) (hp : ((s.protRead k g).group k g).poison = false)
include hi hp

theorem State.protCmd_lockout : s.protCmd k g 1 = (0, (s.protRead k g).protTake k g (some 1)) :=
  (if_neg (by simp [hi])).trans (if_neg (by rw [← State.protRead, hp]; exact Bool.false_ne_true))

theorem State.protCmd_clear (hc : ((s.protRead k g).group k g).cmd ≠ none) :
    s.protCmd k g 0 = (0, (s.protRead k g).protTake k g none) :=
  (if_neg (by simp [hi])).trans ((if_neg (by rw [← State.protRead, hp]; exact Bool.false_ne_true)).trans
    (if_neg (mt Option.isNone_iff_eq_none.1 hc)))

theorem State.protCmd_clear_none (hc : ((s.protRead k g).group k g).cmd = none) : s.protCmd k g 0 = (2, s.protRead k g) :=
  (if_neg (by simp [hi])).trans ((if_neg (by rw [← State.protRead, hp]; exact Bool.false_ne_true)).trans
    (if_pos (Option.isNone_iff_eq_none.2 hc)))

end

/-! ### PROT_QUERY (R251) -/

theorem State.protQueryRec_length (s : State) (k : Fin 4) (g : Nat) : (s.protQueryRec k g).length = 32 := by
  unfold State.protQueryRec
  dsimp only
  split
  · simp only [List.length_append, leBytes_length, List.length_replicate]
  · simp only [List.length_append, leBytes_length]

/-! ### The obligation -/

theorem Group.cmd_of_standing {x y : Group} (h : x.Keeps y) (hc : x.cmd = some 1 ∨ x.cmd = some 2 ∨ x.cmd = some 3) :
    y.cmd ≠ none := by
  have hne : ∀ c ≤ 3, x.cmd = some c → y.cmd ≠ none := fun c hc hx => by simp [h.stands c hc hx]
  rcases hc with hc | hc | hc
  · exact hne 1 (by decide) hc
  · exact hne 2 (by decide) hc
  · exact hne 3 (by decide) hc

/-- A PROT_CMD that nothing stops answers its RESULT and its effect `u`. -/
theorem Carries.protCmd {h : Hdr} {k : Fin 4} {g code r : Nat} {s u : State} {P : State → Prop} (hc : Carries (.protCmd k g code) s)
    (hu : s.protCmd k g code = (r, u))
    (hP : ∀ (l : List Comp) (p : Pmc), DoneWith h r s ((u.withPmc p).withComps l) → P ((u.withPmc p).withComps l)) :
    Does (.protCmd h k g code) s P := by
  have ha : s.apply h.ring.val (.protCmd k g code) = (({ result := r } : Eff), u) := by rw [State.apply, hu]
  exact hc.does ha rfl rfl rfl hP

/-- Settles O43: PROT_GROUP and PROT_CMD by what no decision changes of the group they write, PROT_QUERY by its record. -/
theorem protectionCommands : Obligations.ProtectionCommands := by
  unfold Obligations.ProtectionCommands
  refine ⟨fun h o s hc => hc.does (u := s.protGroup o) rfl rfl rfl rfl fun l p hd => ?group,
    fun h k g code s hc hi => hc.protCmd (State.protCmd_notInUse code hi) fun l p hd => ⟨hd, rfl⟩,
    fun h k g code s hc hi hp hu => ?poisoned, fun h k g s hi hp hu => ?sound,
    fun h a k g s hc => ?query⟩
  case group =>
    simp only [withComps_group_eq, withPmc_group_eq]
    refine ⟨hd, fun h0 => ?_, fun h1 => ?_, fun h2 => ?_⟩
    · have hk := State.protGroup_create h0 s
      exact ⟨hk.inUse, hk.op, hk.selP, hk.noCmd rfl⟩
    · have hk := State.protGroup_modify h1 s
      have hu := hc.protGroup_inUse (by omega)
      exact ⟨hk.inUse.trans hu, hk.selP, hk.op⟩
    · rw [State.protGroup_delete h2]
      exact State.groupDelete_inUse ..
  case poisoned =>
    have hr := State.protRead_poisoned hu hp
    have h1 := State.protCmd_poisoned code hi (by rwa [hr])
    rw [hr] at h1
    exact hc.protCmd h1 fun l p hd => ⟨hd, rfl⟩
  case sound =>
    have hread := State.protRead_decided hu
    have hpr := hread.poison.trans hp
    refine ⟨fun hc => hc.protCmd (State.protCmd_lockout hi hpr) fun l p hd => ⟨hd, ?_⟩,
      fun hc hcmd => hc.protCmd (State.protCmd_clear hi hpr (Group.cmd_of_standing hread.toKeeps hcmd)) fun l p hd => ⟨hd, ?_⟩,
      fun hc hcmd => hc.protCmd (State.protCmd_clear_none hi hpr (hread.noCmd hcmd)) fun l p hd => ⟨hd, hread.noCmd hcmd⟩⟩
    · rw [withComps_group_eq, withPmc_group_eq]
      exact ((s.protRead k g).protTake_keeps k g (some 1)).stands 1 (by decide) rfl
    · rw [withComps_group_eq, withPmc_group_eq]
      exact ((s.protRead k g).protTake_keeps k g none).noCmd rfl
  case query =>
    have hlen := s.protQueryRec_length k g
    cases hdma : s.dmaOn with
    | true =>
      exact hc.does (State.putRecord_on hdma ..) rfl rfl hlen fun l p hd => ⟨hlen, rfl, fun _ => ⟨hd, rfl⟩, Bool.noConfusion⟩
    | false =>
      exact hc.does (State.putRecord_off hdma ..) rfl rfl rfl fun l p hd => ⟨hlen, rfl, Bool.noConfusion, fun _ => ⟨hd, rfl⟩⟩

end Sys2Proof.Machine
end

section
/-! O44. What a selector decides by its own requests, how a decided move takes effect, the far end's K1 and the end of an exercise (08
R225-R229, R232, R235, R236). -/

namespace Sys2Proof.Machine

/-! ### Triggers taken in (R225) -/

/-- No trigger, no request. -/
theorem Side.take_free (holdoff at_ : Nat) (x : Side) :
    (x.take holdoff at_ (false, false)).sf = false ∧ (x.take holdoff at_ (false, false)).sd = false := by
  unfold Side.take
  dsimp only
  split
  · exact ⟨rfl, rfl⟩
  · exact ⟨Bool.and_false _, Bool.and_false _⟩

/-- What has entered the request logic at the end of a hold-off starts none. -/
theorem Side.take_expire (holdoff at_ : Nat) (t : Bool × Bool) (x : Side) : (x.expire t).take holdoff at_ t = x.expire t := by
  unfold Side.take Side.expire
  dsimp only
  split
  · rfl
  · simp only [Bool.and_self, Bool.and_not_self, Bool.false_and, Bool.false_eq_true, if_false]

/-! ### A decision without a command or the far end (R226-R228) -/

/-- `y` is the group `x` with its own request in force: the selector is to move where the side that the request asks for is not the one
it stands on. -/
structure Group.OwnWins (x y : Group) : Prop where
  req : y.req = x.top
  move : y.move = if x.sideOf x.top = x.selP then none else some (x.sideOf x.top, reqCode x.top)
  w : y.w = x.w
  wtrOn : y.wtrOn = x.wtrOn

theorem State.protWin_own (kind : Nat) (x : Group) (s : State) : x.OwnWins (s.protWin kind none x) :=
  iteInduction (motive := x.OwnWins) (fun _ => ⟨rfl, rfl, rfl, rfl⟩) (fun _ => ⟨rfl, rfl, rfl, rfl⟩)

theorem State.protEval_own {kind g : Nat} {x : Group} {s : State} (hb : s.bidir kind x = false) (hc : x.cmd = none) :
    (s.protEval kind g x).group kind g = s.protWin kind none (x.restoration none x.req) := by
  have hfar : s.farOf kind x = none := if_neg (by simp [hb])
  rw [State.protEval, State.protDrop_of_noCmd hc (s.farOf_ne_zero kind x), hfar, State.setGroup_get]

/-- Requests above wait-to-restore end it (R228). -/
def Group.noWtr (x : Group) : Group := { x with wtrOn := false, wtrArm := false, dnr := false }

theorem Group.restoration_high {far : Option Nat} {prev : Nat} {x : Group} (h : x.top ≤ 7) : x.restoration far prev = x.noWtr := if_pos h

/-- Wait-to-restore has ended. -/
theorem Group.restoration_wtr {x : Group} (h : 7 < x.top) : x.restoration none 8 = x := if_neg (Nat.not_le.2 h)

theorem Group.top_of_sfW {x : Group} (hc : x.cmd = none) (hp : x.p.sf = false) (hw : x.w.sf = true) : x.top = 4 := by
  simp [Group.top, hc, hp, hw]

/-- SF of W, with none of P, moves the selector from W to P. -/
theorem State.protEval_sfW {kind g : Nat} {x : Group} {s : State} (hb : s.bidir kind x = false) (hc : x.cmd = none)
    (hs : x.selP = false) (hp : x.p.sf = false) (hw : x.w.sf = true) :
    ((s.protEval kind g x).group kind g).req = 4 ∧ ((s.protEval kind g x).group kind g).move = some (true, 13) ∧
    ((s.protEval kind g x).group kind g).w = x.w := by
  have htop : x.top = 4 := Group.top_of_sfW hc hp hw
  have htop' : x.noWtr.top = 4 := Group.top_of_sfW hc hp hw
  obtain ⟨hreq, hmove, hside, -⟩ := s.protWin_own kind x.noWtr
  rw [State.protEval_own hb hc, Group.restoration_high (htop ▸ by decide)]
  rw [htop'] at hreq hmove
  exact ⟨hreq, hmove.trans (if_neg (by simp [Group.noWtr, Group.sideOf, hs])), hside⟩

theorem Group.top_of_none {x : Group} (hc : x.cmd = none) (hw : x.w.sf = false ∧ x.w.sd = false) (hp : x.p.sf = false ∧ x.p.sd = false)
    (ho : x.wtrOn = false) (ha : x.wtrArm = false) (hd : x.dnr = false) : x.top = 12 := by
  simp [Group.top, hc, hw, hp, ho, ha, hd]

/-- With no request left as wait-to-restore ends, the selector of a revertive group returns to W. -/
theorem State.protEval_wtrEnd {kind g : Nat} {x : Group} {s : State} (hb : s.bidir kind x = false) (hc : x.cmd = none)
    (htop : x.top = 12) (hq : x.req = 8) (hs : x.selP = true) (hr : x.op.revert = true) :
    ((s.protEval kind g x).group kind g).req = 12 ∧ ((s.protEval kind g x).group kind g).wtrOn = x.wtrOn ∧
    ((s.protEval kind g x).group kind g).move = some (false, 0) := by
  obtain ⟨hreq, hmove, -, hwtr⟩ := s.protWin_own kind x
  rw [State.protEval_own hb hc, hq, Group.restoration_wtr (htop ▸ by decide)]
  rw [htop] at hreq hmove
  exact ⟨hreq, hwtr, hmove.trans ((if_neg (by simp [Group.sideOf, hr, hs])).trans (by simp [Group.sideOf, hr, reqCode]))⟩

/-! ### The three ways to such a decision -/

section

variable {k : Fin 4} {g : Nat} {s : State}

theorem execSelectorDecision_decides (hd : (s.group k g).decides k = true) (hu : s.upsetAt (.group k g) = none) :
    exec (.selectorDecision k g) s = .next (s.protEval k g (s.sides k (s.group k g))) :=
  congrArg Host.Outcome.next ((State.protDecide_of_sound hu).trans (if_pos hd))

/-- The group as W's hold-off ends. -/
def State.expired (k : Nat) (x : Group) (s : State) : Group := { x with w := x.w.expire (s.triggers k x false) }

theorem execHoldoffExpiry_expires (hd : (s.group k g).decides k = true) (hh : (s.group k g).w.hold = some 0)
    (ha : (s.group k g).w.at_ ≤ s.inFrame) :
    exec (.holdoffExpiry k g false) s = .next (s.protEval k g (s.sides k (s.expired k (s.group k g)))) :=
  congrArg Host.Outcome.next (if_pos (by simp [hd, hh, ha]))

theorem execWtrExpiry_expires (hd : (s.group k g).decides k = true) (ho : (s.group k g).wtrOn = true) (hl : (s.group k g).wtrLeft = 0) :
    exec (.wtrExpiry k g) s = .next (s.protEval k g (s.sides k { s.group k g with wtrOn := false })) :=
  congrArg Host.Outcome.next (if_pos (by simp [hd, ho, hl]))

end

/-! ### A decided move (R229) -/

theorem execProtSw_moves {k : Fin 4} {g : Nat} {s : State} (h3 : k.val ≠ 3) (h2 : k.val = 2 → s.inFrame = 0) :
    exec (.protSw k g) s = .next (s.protMove k g) :=
  congrArg Host.Outcome.next ((if_neg (by simpa using h2)).trans (if_neg h3))

theorem State.protMove_none {kind g : Nat} {s : State} (h : (s.group kind g).move = none) : s.protMove kind g = s := by
  unfold State.protMove
  dsimp only
  rw [h]

theorem execProtSw_none {k : Fin 4} {g : Nat} {s : State} (h : (s.group k g).move = none) : exec (.protSw k g) s = .next s := by
  refine congrArg Host.Outcome.next ?_
  rw [State.protMove_none h]
  split
  · rfl
  · exact ite_self _

/-- The group whose selector has moved to side `b` in frame `f`. -/
def Group.moved (b : Bool) (f : Word) (x : Group) : Group := { x with selP := b, move := none, lastSw := f, switches := x.switches + 1 }

/-- The selector moves; the moves of all groups are counted. -/
def State.movedTo (kind g : Nat) (b : Bool) (s : State) : State :=
  let s' := s.setGroup kind g ((s.group kind g).moved b s.stp.frame)
  { s' with prt := { s'.prt with switches := s'.prt.switches + 1 } }

theorem State.protMove_some {kind g c : Nat} {b : Bool} {s : State} (h : (s.group kind g).move = some (b, c)) :
    s.protMove kind g = (s.movedTo kind g b).prtEvent kind g 0 .protSw (b2n b + 16 * c) := by
  unfold State.protMove
  dsimp only
  rw [h]
  rfl

theorem State.movedTo_group (kind g : Nat) (b : Bool) (s : State) :
    (s.movedTo kind g b).group kind g = (s.group kind g).moved b s.stp.frame := State.setGroup_get ..

/-! ### The far end's K1 (R235-R237) -/

theorem State.setFop_keeps (g : Nat) (on mis : Bool) (s : State) : (s.group 0 g).Keeps ((s.setFop g on mis).group 0 g) := by
  unfold State.setFop
  dsimp only
  split
  · exact .refl _
  · rw [State.prtEvent_group, State.setGroup_get]
    exact .of_eq rfl rfl rfl rfl rfl id

theorem State.setModeMm_keeps (g : Nat) (on : Bool) (s : State) : (s.group 0 g).Keeps ((s.setModeMm g on).group 0 g) := by
  unfold State.setModeMm
  dsimp only
  split
  · exact .refl _
  · rw [State.prtEvent_group, State.setGroup_get]
    exact .of_eq rfl rfl rfl rfl rfl id

theorem State.keeps_ite {x : Group} {kind g : Nat} {c : Prop} [Decidable c] {s t : State} (hs : x.Keeps (s.group kind g))
    (ht : x.Keeps (t.group kind g)) : x.Keeps ((if c then s else t).group kind g) :=
  iteInduction (motive := fun u : State => x.Keeps (u.group kind g)) (fun _ => hs) (fun _ => ht)

theorem State.kWatch_keeps (g : Nat) (frame : Bool) (s : State) : (s.group 0 g).Keeps ((s.kWatch g frame).group 0 g) := by
  have hset : ∀ a b c, (s.group 0 g).Keeps
      ((s.setGroup 0 g { s.group 0 g with misRun := a, clrFop := b, clrMm := c }).group 0 g) := fun a b c => by
    rw [State.setGroup_get]
    exact .of_eq rfl rfl rfl rfl rfl id
  have hfop : ∀ {u : State} (on mis : Bool), (s.group 0 g).Keeps (u.group 0 g) → (s.group 0 g).Keeps ((u.setFop g on mis).group 0 g) :=
    fun on mis h => h.trans (State.setFop_keeps ..)
  have hmm : ∀ {u : State} (on : Bool), (s.group 0 g).Keeps (u.group 0 g) → (s.group 0 g).Keeps ((u.setModeMm g on).group 0 g) :=
    fun on h => h.trans (State.setModeMm_keeps ..)
  unfold State.kWatch
  refine State.keeps_ite (.refl _) ?_
  extract_lets c mis long fopNow clrF clrM s₁ s₂
  have h₁ : (s.group 0 g).Keeps (s₁.group 0 g) := hset ..
  have h₂ : (s.group 0 g).Keeps (s₂.group 0 g) := State.keeps_ite (hfop _ _ h₁) (State.keeps_ite (hfop _ _ h₁) h₁)
  exact State.keeps_ite (hmm _ h₂) (State.keeps_ite (hmm _ h₂) h₂)

/-- The OP takes the accepted K1 of the protection port for the far end's. -/
def State.farTaken (g : Nat) (s : State) : State :=
  s.setGroup 0 g { s.group 0 g with farK1 := (s.port (s.group 0 g).op.p).k1Acc }

theorem State.kProtocol_takes {g : Nat} {s : State} (hi : (s.group 0 g).inUse = true) (hp : (s.group 0 g).poison = false)
    (ho : s.pairOp (s.group 0 g) = true) : s.kProtocol g = ((s.farTaken g).kWatch g false).protDecide 0 g :=
  if_neg (by simp [hi, hp, ho])

theorem State.kProtocol_farK1 {g : Nat} {s : State} (hi : (s.group 0 g).inUse = true) (hp : (s.group 0 g).poison = false)
    (ho : s.pairOp (s.group 0 g) = true) : ((s.kProtocol g).group 0 g).farK1 = (s.port (s.group 0 g).op.p).k1Acc := by
  have hk := (State.kWatch_keeps g false (s.farTaken g)).trans (State.protDecide_keeps 0 g _)
  rw [State.kProtocol_takes hi hp ho]
  exact hk.farK1.trans (congrArg Group.farK1 (State.setGroup_get ..))

/-! ### The end of an exercise (R232) -/

theorem State.raise_queue_length {k : Kind} {src addr data : Nat} {s : State} (hq : s.flt.queue.length < 64) :
    (s.raise k src addr data).flt.queue.length ≤ s.flt.queue.length + 1 := by
  by_cases h : s.srcInReset src = true
  · rw [State.raise, if_pos h]
    exact Nat.le_succ _
  · rw [State.raise_queue (Bool.eq_false_iff.2 h) hq, insertMsg_length]

/-- A read of the group's state posts one message at most. -/
theorem State.groupRead_queue {kind : Fin 4} {g : Nat} {s : State} {m : Msg} (hq : s.flt.queue.length < 64) (hm : m ∈ s.flt.queue) :
    m ∈ (s.groupRead kind g).flt.queue ∧ (s.groupRead kind g).flt.queue.length ≤ s.flt.queue.length + 1 := by
  unfold State.groupRead
  split
  · exact ⟨hm, Nat.le_succ _⟩
  · exact ⟨State.mem_raise_queue hq hm, State.raise_queue_length hq⟩
  · exact ⟨State.mem_raise_queue hq hm, State.raise_queue_length hq⟩

theorem State.protEval_queue {kind g : Nat} {x : Group} {s : State} {m : Msg} (hq : s.flt.queue.length < 64) (hm : m ∈ s.flt.queue) :
    m ∈ (s.protEval kind g x).flt.queue := by
  rw [State.protEval, State.setGroup_flt, State.protDrop]
  split
  · exact State.mem_raiseU_queue rfl hq hm
  · exact hm

/-- A decision keeps what waits where two more messages have a place. -/
theorem State.protDecide_queue {kind : Fin 4} {g : Nat} {s : State} {m : Msg} (hq : s.flt.queue.length < 63) (hm : m ∈ s.flt.queue) :
    m ∈ (s.protDecide kind g).flt.queue := by
  obtain ⟨hr, hl⟩ := State.groupRead_queue (kind := kind) (g := g) (Nat.lt_succ_of_lt hq) hm
  unfold State.protDecide
  dsimp only
  split
  · split
    · exact State.protEval_queue (by omega) hr
    · exact hr
  · split
    · exact State.protEval_queue (by omega) hm
    · exact hm

/-- The group whose exercise has ended. -/
def Group.exerOver (x : Group) : Group := { x with exer := none, exerRr := false, cmd := if x.cmd = some 6 then none else x.cmd }

/-- The exercise's end is stored and reported. -/
def State.exerTold (g : Nat) (s : State) : State :=
  (s.setGroup 0 g (s.group 0 g).exerOver).prtEvent 0 g 4 .protExer (b2n (!(s.group 0 g).exerRr))

theorem State.exerEnd_ends {g : Nat} {s : State} (hx : (s.group 0 g).exer.isSome = true)
    (he : (s.group 0 g).exerRr = true ∨ (s.group 0 g).exer = some 0) : s.exerEnd g = (s.exerTold g).protDecide 0 g :=
  (if_neg (by simp [Option.isSome_iff_ne_none.1 hx])).trans (if_pos (by simpa using he))

theorem State.exerTold_group (g : Nat) (s : State) : (s.exerTold g).group 0 g = (s.group 0 g).exerOver :=
  (State.prtEvent_group ..).trans (State.setGroup_get ..)

theorem State.exerTold_queue {g : Nat} {s : State} (hq : s.flt.queue.length < 64) :
    ∃ m : Msg, (s.exerTold g).flt.queue = insertMsg m s.flt.queue ∧ m.kind = Kind.protExer.code ∧ m.source = prtSource 0 g ∧
      m.at_ = s.now ∧ m.masked = s.rb 0x60004 4 ∧ m.data = BitVec.ofNat 64 (b2n (!(s.group 0 g).exerRr)) :=
  ⟨_, State.raiseU_queue hq, rfl, rfl, rfl, rfl, rfl⟩

/-! ### The obligation -/

/-- Settles O44: SF of W and the end of wait-to-restore by the decision of the group's own requests, the far end's K1 by what no
decision changes, the exercise's report by its place in the collector's queue. -/
theorem selectors : Obligations.Selectors := by
  unfold Obligations.Selectors
  refine ⟨⟨?sf, ?holdoff, ?wtr⟩, ?move, fun k g s h => execProtSw_none h, ?k1, ?exer⟩
  case sf =>
    intro k g s x hd hu hb hc hh hs hw hp
    have hsf : (s.sides k x).w.sf = true := by rw [State.sides, hh]; exact hw
    have hpf : (s.sides k x).p.sf = false := by rw [State.sides, hp]; exact (Side.take_free ..).1
    obtain ⟨hreq, hmove, -⟩ := State.protEval_sfW (kind := k) (g := g) (x := s.sides k x) hb hc hs hpf hsf
    exact ⟨_, execSelectorDecision_decides hd hu, hreq, hmove, (State.protEval_decided ..).selP.trans hs⟩
  case holdoff =>
    intro k g s x hd hb hc hs hh ha hw hp
    have hside : (s.sides k (s.expired k x)).w = x.w.expire (s.triggers k x false) := Side.take_expire ..
    have hsf : (s.sides k (s.expired k x)).w.sf = true := by rw [hside]; exact hw
    have hpf : (s.sides k (s.expired k x)).p.sf = false := by
      have : s.triggers k (s.expired k x) true = (false, false) := hp
      rw [State.sides, this]
      exact (Side.take_free ..).1
    obtain ⟨hreq, hmove, hkept⟩ := State.protEval_sfW (kind := k) (g := g) (x := s.sides k (s.expired k x)) hb hc hs hpf hsf
    refine ⟨_, execHoldoffExpiry_expires hd hh ha, hreq, hmove, ?_, ?_⟩
    · rw [hkept, hsf]
    · rw [hkept, hside]
      rfl
  case wtr =>
    intro k g s x hd hb hc hs hr ho hl ha hn hq hw hp
    have htop : (s.sides k { x with wtrOn := false }).top = 12 := by
      have hwx : s.triggers k { x with wtrOn := false } false = (false, false) := hw
      have hpx : s.triggers k { x with wtrOn := false } true = (false, false) := hp
      rw [State.sides, hwx, hpx]
      exact Group.top_of_none hc (Side.take_free ..) (Side.take_free ..) rfl ha hn
    exact ⟨_, execWtrExpiry_expires hd ho hl, State.protEval_wtrEnd hb hc htop hq hs hr⟩
  case move =>
    intro k g s b c hm h3 h2 hq
    refine ⟨_, execProtSw_moves h3 h2, ?_⟩
    rw [State.protMove_some hm]
    exact ⟨(State.prtEvent_group ..).trans (State.movedTo_group ..), State.raiseU_queue hq⟩
  case k1 => exact fun i s hi hp ho => ⟨_, rfl, State.kProtocol_farK1 hi hp ho⟩
  case exer =>
    intro i s hx he hq
    refine ⟨_, rfl, ?_⟩
    rw [State.exerEnd_ends hx he]
    obtain ⟨m, hm, hmsg⟩ := State.exerTold_queue (g := i) (Nat.lt_trans hq (by decide : 60 < 64))
    have hk : (s.group 0 i).exerOver.Keeps (((s.exerTold i).protDecide 0 i).group 0 i) :=
      State.exerTold_group i s ▸ State.protDecide_keeps 0 i _
    have hlen : (s.exerTold i).flt.queue.length < 63 := by
      rw [hm, insertMsg_length]
      omega
    exact ⟨hk.noExer rfl, fun h6 => hk.noCmd (if_pos h6), m,
      State.protDecide_queue hlen (hm ▸ mem_insertMsg.2 (.inl rfl)), hmsg⟩

end Sys2Proof.Machine
end

section
/-! O20 fails. Its clause on a CC that is enabled asks that no consumer index moves, of any ring number `m` of kind 0. A ring stands in
the table at 256 times its kind plus its number, so that `ring 0 (256 + n)` is CC `n`, whose index the completion moves. -/

namespace Sys2Proof.Machine

/-- CC 0 is disabled, and one completion is held for it. -/
def heldOnCc0 : State :=
  { glb := { ready := true }, hif := { bme := true }
    ce := { comps := [{ entry := 0, ring := 0, cc := 0, index := 0, tag := 7, int := false, status := 0, held := true }] } }

/-- The completion is written, and the index of CC 0 moves on. -/
theorem heldOnCc0_dev : ((after1 (exec (.ringEnable 1 0 0)) heldOnCc0).ring 1 0).dev = 1 := by decide +kernel

/-- Refutes O20, in its clause on held completions: in `heldOnCc0` the enabled CC 0 moves its index to 1, and the clause's `m` = 256
asks for the index 0 there. -/
theorem not_ringEnableDisableReset : ¬ Obligations.RingEnableDisableReset := by
  unfold Obligations.RingEnableDisableReset
  rintro ⟨⟨-, -, hheld, -⟩, -⟩
  obtain ⟨t, ht, -, -, hdev, -⟩ := hheld 0 0 heldOnCc0 _ rfl rfl rfl (by decide) rfl rfl rfl rfl (fun _ => rfl) (by decide)
  have hmoved := heldOnCc0_dev
  rw [after1, show exec (.ringEnable 1 0 0) heldOnCc0 = .next t from ht] at hmoved
  exact absurd (hmoved.symm.trans (hdev 256)) (by decide)

end Sys2Proof.Machine
end

section
/-! O22 fails. Its clauses on the return of DMA ask that the bit alone changes. The engine serves the rings from a fresh cycle on (09
R283, 10 R300), which forgets what the slots of the cycle before it admitted. -/

namespace Sys2Proof.Machine

/-- DMA is stopped, nothing waits, and the present cycle has used one slot, on a refusal. -/
def usedCycle : State := { ce := { cycle := [none] } }

theorem usedCycle_served : (after1 (exec .busMasterEnable) usedCycle).ce.cycle = [] := by decide +kernel

/-- Refutes O22, in its clause on BUS_MASTER_ENABLE: the cycle of `usedCycle` is begun afresh. -/
theorem not_dmaStopsAndUnmask : ¬ Obligations.DmaStopsAndUnmask := by
  unfold Obligations.DmaStopsAndUnmask
  rintro ⟨⟨-, -, henable, -⟩, -⟩
  have hcycle := usedCycle_served
  rw [after1, henable usedCycle rfl rfl rfl fun _ => rfl] at hcycle
  exact absurd hcycle (by decide)

end Sys2Proof.Machine
end

section
/-! O57 fails. Its clause on an entry without INT asks that the index of EV stays. BLK_RST of the STR block writes back the buffer that
a block in progress has taken of ring VO of its group, for every group that the table of streams lists. The statement is about every
state, and in one that lists a group 1280, which no STREAM_OPEN opens, that VO ring is the entry of EV in the table of rings. -/

namespace Sys2Proof.Machine

/-- A contained fault of the STR block, whose reaction is BLK_RST alone; group 1280 has a block in progress with its buffer. -/
def strayGroup : State :=
  { flt := { queue := [{ source := 0x142, kind := 0, cls := 1 }], react := [(4 * 0x142 + 1, some 8#5)] }
    strs := [(1280, { out := some {
      op := { group := 1280, dirIn := false, dirOut := true, mu := false, k := 1, depth := 0, cutT := 1, cku := 0, ckuEn := false,
              play := false, fill := 0, fillLast := false, start := 0 }
      rows := [[0]], desc := some { addr := 0, len := 64, int := false } } })] }

theorem strayGroup_reaction : strayGroup.reaction 0x142 1 = 8#5 := by decide

theorem strayGroup_dev : ((after1 (exec .collectorTake) strayGroup).ring 8 0).dev = 1 := by decide +kernel

/-- Refutes O57, in its clause on an entry without INT: in `strayGroup` the index of EV goes from 0 to 1. -/
theorem not_collectorTakes : ¬ Obligations.CollectorTakes := by
  unfold Obligations.CollectorTakes
  rintro ⟨-, hfault, -⟩
  obtain ⟨t, ht, -, -, -, -, -, -, -, -, -, -, hquiet, -⟩ :=
    hfault strayGroup _ [] rfl (by decide) (by decide) (by decide) (by decide) rfl
  have hmoved := strayGroup_dev
  rw [after1, ht] at hmoved
  exact absurd (hmoved.symm.trans (hquiet (by rw [strayGroup_reaction]; rfl)).1) (by decide)

end Sys2Proof.Machine
end

section
/-! O60. BUS.COMMIT and BUS.FREEZE, and register writes: in a word whose register has no write effect the operation of its block
comes to a plain write (16 R419). -/

namespace Sys2Proof.Machine

/-! ### Words without a write effect, block by block -/

section
variable {o : Nat} (h : hasWriteEffect o = false) (v : Word) (s : State)
include h

theorem ne_of_hasWriteEffect {w : Nat} (hw : hasWriteEffect w = true) : o ≠ w := by
  rintro rfl
  rw [h] at hw
  cases hw

theorem State.stpWrite_plain : s.stpWrite o v = s.regWrite o v := by
  have hpin : ¬(0x1080 ≤ o ∧ o < 0x108C) := fun ⟨ha, hb⟩ => by simp [hasWriteEffect, ha, hb] at h
  have hofs : ¬(0x1100 ≤ o ∧ o < 0x1120) := fun ⟨ha, hb⟩ => by simp [hasWriteEffect, ha, hb] at h
  unfold State.stpWrite
  rw [if_neg (ne_of_hasWriteEffect h (by decide)), if_neg (ne_of_hasWriteEffect h (by decide)),
    if_neg (ne_of_hasWriteEffect h (by decide)), if_neg (ne_of_hasWriteEffect h (by decide)),
    if_neg (ne_of_hasWriteEffect h (by decide)), if_neg (by omega), if_neg (by omega), if_neg hofs]
  split
  · next ht =>
    have htmr : (o - 0x1200) % 0x20 ∉ [0x00, 0x14, 0x18] := fun hr => by
      simp [hasWriteEffect, ht.1, ht.2, List.contains_eq_mem, hr] at h
    simp only [List.mem_cons, List.not_mem_nil, or_false, not_or] at htmr
    obtain ⟨hcfg, hctl, hstat⟩ := htmr
    dsimp only
    rw [if_neg hcfg, if_neg hctl, if_neg hstat]
  · rfl

theorem State.hifWrite_plain (hb : o < 0x4000) : s.hifWrite o v = s.regWrite o v := by
  have hmsix : ¬ 0x3000 ≤ o := fun ha => by simp [hasWriteEffect, ha, hb] at h
  have hring : ¬(0x2108 ≤ o ∧ o < 0x212C) := fun ⟨ha, hb⟩ => by simp [hasWriteEffect, ha, hb] at h
  unfold State.hifWrite
  rw [if_neg hmsix, if_neg hring, if_neg (ne_of_hasWriteEffect h (by decide)), if_neg (ne_of_hasWriteEffect h (by decide)),
    if_neg (ne_of_hasWriteEffect h (by decide)), if_neg (ne_of_hasWriteEffect h (by decide))]

theorem State.pmcWrite_plain : s.pmcWrite o v = s.regWrite o v := by
  unfold State.pmcWrite
  rw [if_neg (ne_of_hasWriteEffect h (by decide)), if_neg (ne_of_hasWriteEffect h (by decide))]

theorem State.busWrite_plain : s.busWrite o v = s.regWrite o v := by
  unfold State.busWrite
  rw [if_neg (ne_of_hasWriteEffect h (by decide)), if_neg (ne_of_hasWriteEffect h (by decide))]

theorem State.lptWrite_plain (ha : 0x10000 ≤ o) (hb : o < 0x20000) : s.lptWrite o v = s.regWrite o v := by
  have hlpt : (o - 0x10000) % 0x400 ∉ [0x000, 0x004, 0x01C, 0x040] := fun hr => by
    simp [hasWriteEffect, ha, hb, List.contains_eq_mem, hr] at h
  simp only [List.mem_cons, List.not_mem_nil, or_false, not_or] at hlpt
  obtain ⟨hcfg, hserdes, hsticky, hofs⟩ := hlpt
  unfold State.lptWrite
  dsimp only
  rw [if_neg hcfg, if_neg hserdes, if_neg hsticky, if_neg hofs]

theorem State.trbWrite_plain : s.trbWrite o v = s.regWrite o v := by
  unfold State.trbWrite
  rw [if_neg (ne_of_hasWriteEffect h (by decide))]

theorem State.hwyRegWrite_plain (ha : 0x70000 ≤ o) (hb : o < 0x80000) : s.hwyRegWrite o v = s.regWrite o v := by
  have hgrp : ¬ 0x74000 ≤ o := fun hg => by simp [hasWriteEffect, hg, hb] at h
  have hsticky : ¬(o - 0x70000) % 0x100 = 8 := fun hr => by simp [hasWriteEffect, ha, Nat.lt_of_not_le hgrp, hr] at h
  unfold State.hwyRegWrite
  rw [if_neg hgrp, if_neg hsticky]

theorem State.strWrite_plain (ha : 0x80000 ≤ o) : s.strWrite o v = s.regWrite o v := by
  have hcku : ¬ o < 0x80040 := fun hb => by simp [hasWriteEffect, ha, hb] at h
  unfold State.strWrite
  rw [if_neg hcku, if_neg (ne_of_hasWriteEffect h (by decide))]

theorem State.gfpWrite_plain : s.gfpWrite o v = s.regWrite o v := by
  unfold State.gfpWrite
  rw [if_neg (ne_of_hasWriteEffect h (by decide))]

theorem State.mgtWrite_plain : s.mgtWrite o v = s.regWrite o v := by
  unfold State.mgtWrite
  rw [if_neg (ne_of_hasWriteEffect h (by decide)), if_neg (ne_of_hasWriteEffect h (by decide))]

theorem State.pinWrite_plain (hb : o < 0xC0000) : s.pinWrite o v = s.regWrite o v := by
  have halt : ¬(0xB0020 ≤ o ∧ o < 0xB002C) := fun ⟨ha, hb⟩ => by simp [hasWriteEffect, ha, hb] at h
  have hcapt : ¬ 0xB0040 ≤ o := fun ha => by simp [hasWriteEffect, ha, hb] at h
  unfold State.pinWrite
  rw [if_neg (ne_of_hasWriteEffect h (by decide)), if_neg (ne_of_hasWriteEffect h (by decide)), if_neg halt, if_neg hcapt]

/-- Every block stores the word as it is written. -/
theorem State.writeWord_plain (hrow : (regRow o).isSome = true) : s.writeWord o v = s.regWrite o v := by
  have hflt : ¬(0x4000 ≤ o ∧ o < 0x6000) := fun ⟨ha, hb⟩ => by simp [hasWriteEffect, ha, hb] at h
  have hboot : ¬(0x9000 ≤ o ∧ o < 0xA000) := fun ⟨ha, hb⟩ => by simp [hasWriteEffect, ha, hb] at h
  have hstruct : ¬(0x20100 ≤ o ∧ o < 0x30000) := fun ⟨ha, hb⟩ => by simp [hasWriteEffect, ha, hb] at h
  unfold State.writeWord
  rw [if_neg (by rw [← Option.not_isSome, hrow]; decide)]
  split
  · split
    case h_1 => rw [if_neg (ne_of_hasWriteEffect h (by decide))]
    case h_2 => exact State.stpWrite_plain h v s
    case h_3 => exact State.hifWrite_plain h v s (by omega)
    case h_4 => exact State.hifWrite_plain h v s (by omega)
    case h_5 => omega
    case h_6 => omega
    case h_7 => exact State.pmcWrite_plain h v s
    case h_8 => exact State.busWrite_plain h v s
    case h_9 => omega
    case h_10 => rfl
  · split
    case h_1 => exact State.lptWrite_plain h v s (by omega) (by omega)
    case h_2 => rw [if_neg (by omega)]
    case h_3 => exact State.trbWrite_plain h v s
    case h_4 => exact State.hwyRegWrite_plain h v s (by omega) (by omega)
    case h_5 => exact State.strWrite_plain h v s (by omega)
    case h_6 => exact State.gfpWrite_plain h v s
    case h_7 => exact State.mgtWrite_plain h v s
    case h_8 => exact State.pinWrite_plain h v s (by omega)
    case h_9 => rfl

end

/-! ### Writes of a word -/

theorem exec_registerWrite (o bytes : Nat) (v : DWord) (s : State) :
    exec (.registerWrite o bytes v) s = .next (s.writeReg o bytes v) := rfl

/-- An aligned write of 4 bytes. -/
theorem State.writeReg_word {o : Nat} (ho : o % 4 = 0) (v : DWord) (s : State) :
    s.writeReg o 4 v = s.writeWord o (v.extractLsb' 0 32) := by
  unfold State.writeReg
  rw [if_neg (by decide), if_neg (by omega)]

/-- A word where no register stands. -/
theorem State.writeWord_none {o : Nat} (ho : regRow o = none) (v : Word) (s : State) : s.writeWord o v = s :=
  if_pos (by rw [ho]; rfl)

theorem State.writeReg_none {o : Nat} (ho : regRow o = none) (v : DWord) (s : State) : s.writeReg o 4 v = s := by
  rw [State.writeReg, if_neg (by decide), State.writeWord_none ho, ite_self]

/-- A plain write stores the bits that a write reaches, and changes no other word. -/
theorem State.regWrite_stores (s : State) (o : Nat) (v : Word) :
    (s.regWrite o v).reg o = (s.reg o &&& ~~~ regMask o) ||| (v &&& regMask o) ∧ (∀ w, w ≠ o → (s.regWrite o v).reg w = s.reg w) ∧
      s.regWrite o v = { s with cfg := (s.regWrite o v).cfg } :=
  ⟨State.setReg_get .., State.setReg_get_other s o _, rfl⟩

/-! ### BUS -/

/-- Every master's ACTIVE value is its SHADOW value (15 R402). -/
theorem State.busCommit_active (s : State) {m : Nat} (hm : m < 9) : tget 0 s.busCommit.bus.active m = s.rf (0x8000 + 4 * m) 0 4 := by
  unfold State.busCommit
  dsimp only
  interval_cases m <;> simp [List.range_succ, tget_tset_other]

/-! ### The obligation -/

/-- Settles O60: BUS.COMMIT by `busCommit_active`, a register without a write effect by `writeWord_plain`; what is discarded, the words
of FLT and the words with effects by the map of the write. -/
theorem busAndRegisters : Obligations.BusAndRegisters := by
  unfold Obligations.BusAndRegisters
  refine ⟨fun s => ⟨_, rfl, rfl, fun m => State.busCommit_active s⟩, fun v s => ⟨_, rfl, rfl, State.setReg_get ..⟩, ?discard,
    ?plain, ?flt, ?preset, ?wide, fun v s => ⟨rfl, rfl, rfl, rfl, rfl, rfl, rfl, rfl⟩⟩
  case discard =>
    intro o v s
    simp only [exec_registerWrite]
    refine ⟨fun h => ?_, fun h => ?_, fun n h4 h8 => ?_⟩
    · obtain h | h := h
      · rw [State.writeReg, if_neg (by decide), if_pos (.inr h)]
      · rw [State.writeReg_none h]
    · rw [State.writeReg, if_pos rfl, if_pos h]
    · rw [State.writeReg, if_neg h8, if_pos (.inl h4)]
  case plain =>
    intro o v s ho hrow h
    refine ⟨_, rfl, ?_⟩
    rw [State.writeReg_word ho, State.writeWord_plain h _ s hrow]
    exact State.regWrite_stores s o _
  case flt =>
    rintro o v s (rfl | rfl | rfl) <;> exact ⟨_, rfl, State.regWrite_stores s.fltTouched _ _⟩
  case preset =>
    intro j v s
    rw [exec_registerWrite, State.writeReg, if_pos rfl, if_neg (by omega), if_pos (by omega),
      show (0x6100 + 8 * j.val - 0x6100) / 8 = j.val by omega]
    rfl
  case wide =>
    intro o v s ho hb
    rw [exec_registerWrite, State.writeReg, if_pos rfl, if_neg (by omega), if_neg (by omega)]

end Sys2Proof.Machine
end

section
/-! O19. Doorbells: the words of BAR2 that name a ring, the tests of a doorbell write, and what a read of the word gives (09 R257, R262,
R263, Table HR-4). -/

namespace Sys2Proof.Machine

/-! ### The words of BAR2 -/

theorem ringCount_le (kind : Nat) : ringCount kind ≤ 256 := by
  unfold ringCount
  split <;> decide

/-- The doorbell of ring `n` of a kind stands at BLOCK + 8 n, and nowhere else. -/
theorem doorbellAt_eq_some {o kind n : Nat} :
    doorbellAt o = some (kind, n) ↔ o = 0x1000 * kind + 8 * n ∧ kind < 10 ∧ n < ringCount kind := by
  unfold doorbellAt
  constructor
  · intro h
    split at h
    · next hc =>
      simp only [Bool.and_eq_true, decide_eq_true_eq] at hc
      obtain ⟨⟨h8, hk⟩, hn⟩ := hc
      cases h
      exact ⟨by omega, hk, hn⟩
    · cases h
  · rintro ⟨rfl, hk, hn⟩
    have hle := ringCount_le kind
    have hkind : (0x1000 * kind + 8 * n) / 0x1000 = kind := by omega
    have hring : (0x1000 * kind + 8 * n) % 0x1000 / 8 = n := by omega
    have h8 : (0x1000 * kind + 8 * n) % 8 = 0 := by omega
    rw [hkind, hring, if_pos (by simp [h8, hk, hn])]

theorem exec_doorbellWrite (o bytes : Nat) (v : DWord) (s : State) :
    exec (.doorbellWrite o bytes v) s = .next (s.writeBar2 o bytes v) := rfl

/-- A write of 4 or 8 bytes to a doorbell's word is a doorbell write of its low half. -/
theorem State.writeBar2_doorbell {o bytes kind n : Nat} (hb : bytes = 4 ∨ bytes = 8) (ho : doorbellAt o = some (kind, n)) (v : DWord)
    (s : State) : s.writeBar2 o bytes v = s.doorbell kind n (v.extractLsb' 0 32) := by
  have ha : o % bytes = 0 := by
    have := (doorbellAt_eq_some.1 ho).1
    obtain rfl | rfl := hb <;> omega
  unfold State.writeBar2
  rw [if_pos (by simpa [ha] using hb), ho]

/-- Any other write to BAR2 is discarded. -/
theorem State.writeBar2_other {o bytes : Nat} (h : doorbellAt o = none ∨ (bytes ≠ 4 ∧ bytes ≠ 8) ∨ o % bytes ≠ 0) (v : DWord)
    (s : State) : s.writeBar2 o bytes v = s := by
  unfold State.writeBar2
  split
  · next hc =>
    simp only [Bool.and_eq_true, Bool.or_eq_true, decide_eq_true_eq] at hc
    obtain h | h | h := h
    · rw [h]
    · exact absurd hc.1 (not_or.2 h)
    · exact absurd hc.2 h
  · rfl

/-- An index in the low half and a phase in bit 16, as a doorbell's word shows them. -/
theorem indexPhase_toNat (i : Nat) (p : Bool) : (BitVec.ofNat 32 (put i 0 16 + putB p 16)).toNat = i % 65536 + 65536 * b2n p := by
  cases p <;> simp [put, putB, b2n] <;> omega

/-- A read of a doorbell's word: the index that the host sees in its low half, the phase in bit 16. -/
theorem State.readBar2_doorbell {o kind n : Nat} (ho : doorbellAt o = some (kind, n)) (s : State) :
    (s.readBar2 o 4).toNat % 65536 = s.seenIdx kind n % 65536 ∧ wbit ((s.readBar2 o 4).setWidth 32) 16 = (s.ring kind n).phase := by
  obtain ⟨hat, -, hn⟩ := doorbellAt_eq_some.1 ho
  have hw : s.readBar2 o 4 = (BitVec.ofNat 32 (put (s.seenIdx kind n) 0 16 + putB (s.ring kind n).phase 16)).setWidth 64 := by
    unfold State.readBar2 State.bar2Word State.readDoorbell
    rw [if_pos (.inl rfl), if_pos (by omega), ho]
    dsimp only
    rw [if_neg (by omega)]
  have hval := indexPhase_toNat (s.seenIdx kind n) (s.ring kind n).phase
  have hback (w : Word) : (w.setWidth 64).toNat = w.toNat ∧ (w.setWidth 64).setWidth 32 = w := ⟨by simp; omega, by simp⟩
  obtain ⟨hnat, hword⟩ := hback (BitVec.ofNat 32 (put (s.seenIdx kind n) 0 16 + putB (s.ring kind n).phase 16))
  rw [hw, hnat, hword, wbit, BitVec.getLsbD, Nat.testBit_eq_decide_div_mod_eq, hval]
  refine ⟨by omega, ?_⟩
  have hlow : (s.seenIdx kind n % 65536 + 65536 * b2n (s.ring kind n).phase) / 2 ^ 16 = b2n (s.ring kind n).phase := by omega
  rw [hlow]
  cases (s.ring kind n).phase <;> rfl

/-! ### The tests of a doorbell write (R263) -/

theorem State.doorbellBad_iff (s : State) (kind n : Nat) (v : Word) : s.doorbellBad kind n v = true ↔ DoorbellRefused s kind n v := by
  have hv := v.isLt
  unfold State.doorbellBad DoorbellRefused
  simp only [wfld, fld, Nat.shiftRight_eq_div_pow]
  rw [Nat.mod_eq_of_lt (a := v.toNat / 2 ^ 16) (by omega)]
  unfold Ring.outstanding Ring.pendingCount ringLen
  cases deviceWritten kind <;> simp [or_assoc]

/-- A doorbell write that fails a test leaves the ring, sets HIF.DB_ERR and is reported. -/
theorem State.doorbell_refused {s : State} {kind n : Nat} {v : Word} (hr : s.glb.ready = true) (hn : n < ringCount kind)
    (h : DoorbellRefused s kind n v) : s.doorbell kind n v =
      State.raise .hifDbErr 0x141 (kind * 256 + n) 0 { s with hif := { s.hif with dbErr := true, dbKind := kind, dbRing := n } } := by
  unfold State.doorbell
  rw [if_neg (by simpa [hr] using hn), if_pos ((State.doorbellBad_iff ..).2 h)]

/-- One that passes them stores the host index; the performance counters apart nothing else changes. -/
theorem State.doorbell_taken {s : State} {kind n : Nat} {v : Word} (hr : s.glb.ready = true) (hn : n < ringCount kind)
    (h : ¬ DoorbellRefused s kind n v) :
    ∃ p, s.doorbell kind n v = (s.setRing kind n { s.ring kind n with host := v.toNat % 65536 }).withPmc p := by
  unfold State.doorbell
  rw [if_neg (by simpa [hr] using hn), if_neg (fun hb => h ((State.doorbellBad_iff ..).1 hb))]
  exact ⟨_, pmcEvent_eq ..⟩

theorem ringSize_le (kind size : Nat) : ringSize kind size ≤ 16 := by
  unfold ringSize clamp
  split_ifs <;> omega

/-- The current host index, written again, passes the tests. -/
theorem not_doorbellRefused_host {s : State} {kind n : Nat} {v : Word} (hen : (s.ring kind n).en = true)
    (hh : (s.ring kind n).host < 2 ^ ringSize kind (s.ring kind n).size) (hv : v.toNat = (s.ring kind n).host) :
    ¬ DoorbellRefused s kind n v := by
  have hlen : 2 ^ ringSize kind (s.ring kind n).size ≤ 2 ^ 16 := Nat.pow_le_pow_right (by decide) (ringSize_le ..)
  have hmod : v.toNat % 65536 = (s.ring kind n).host := by omega
  unfold DoorbellRefused
  simp only [hmod, hen]
  rintro (h | h | h | ⟨-, h⟩ | ⟨-, h⟩)
  · cases h
  · omega
  · omega
  · exact lt_irrefl _ h
  · rw [Nat.add_sub_cancel_left, Nat.mod_self] at h
    omega

/-- The host sees the index that the device has, whatever of the ring but this has changed. -/
theorem State.setRing_seenIdx {s : State} {kind n : Nat} {r : Ring} (h : r.dev = (s.ring kind n).dev) :
    (s.setRing kind n r).seenIdx kind n = s.seenIdx kind n := by
  unfold State.seenIdx State.visIdx
  split
  · next hk =>
    subst hk
    rw [State.setRing_ce, State.setRing_get, h]
  · rw [State.setRing_get, h]

theorem lowHalf_mod (v : DWord) : (v.extractLsb' 0 32).toNat % 65536 = v.toNat % 65536 := by
  simp [BitVec.extractLsb'_toNat]

/-! ### The obligation -/

/-- Settles O19: the words by `doorbellAt_eq_some`, a write by the tests of `doorbellBad_iff`, the read by `readBar2_doorbell`. -/
theorem doorbellWrite : Obligations.DoorbellWrite := by
  unfold Obligations.DoorbellWrite
  refine ⟨⟨fun kind n hk hn => doorbellAt_eq_some.2 ⟨rfl, hk, hn⟩, fun o kind n => doorbellAt_eq_some.1⟩, ?refused, ?taken, ?same,
    fun o bytes v s h => by rw [exec_doorbellWrite, State.writeBar2_other h]⟩
  case refused =>
    intro o bytes kind n v s hr hb ho h
    rw [exec_doorbellWrite, State.writeBar2_doorbell hb ho, State.doorbell_refused hr (doorbellAt_eq_some.1 ho).2.2 h]
  case taken =>
    intro o bytes kind n v s hr hb ho h
    obtain ⟨p, hp⟩ := State.doorbell_taken hr (doorbellAt_eq_some.1 ho).2.2 h
    rw [← State.writeBar2_doorbell hb ho, lowHalf_mod] at hp
    refine ⟨_, rfl, ?_⟩
    obtain ⟨hindex, hphase⟩ := State.readBar2_doorbell ho (s.writeBar2 o bytes v)
    rw [hp] at hindex hphase ⊢
    refine ⟨State.setRing_get .., fun k m => State.setRing_get_other _ _ _ _ _ _, rfl, rfl, hindex.trans ?_, hphase.trans ?_⟩
    · exact congrArg (· % 65536) (State.setRing_seenIdx (s := s) rfl)
    · rw [withPmc_ring_eq, State.setRing_get]
  case same =>
    intro o bytes kind n s hr hb ho hen hh
    have hlen : 2 ^ ringSize kind (s.ring kind n).size ≤ 2 ^ 16 := Nat.pow_le_pow_right (by decide) (ringSize_le ..)
    have hv : ((BitVec.ofNat 64 (s.ring kind n).host).extractLsb' 0 32).toNat = (s.ring kind n).host := by
      simp [BitVec.extractLsb'_toNat]
      omega
    obtain ⟨p, hp⟩ := State.doorbell_taken hr (doorbellAt_eq_some.1 ho).2.2 (not_doorbellRefused_host hen hh hv)
    rw [← State.writeBar2_doorbell hb ho, hv, Nat.mod_eq_of_lt (by omega)] at hp
    refine ⟨_, rfl, ?_⟩
    rw [hp]
    exact ⟨State.setRing_get .., rfl⟩

end Sys2Proof.Machine
end

section
/-! O21. What the device writes of its own to a host's rings: a completion at the device index of its CC, and the index write-back (09
R268, R269, Table HR-6). -/

namespace Sys2Proof.Machine

/-! ### No head waits -/

/-- The engine has begun a fresh cycle and found nothing to judge: a visit to a ring that cannot proceed has ended. -/
def State.idleServed (s : State) : State := State.visitEnds { s with ce := { s.ce with cycle := [] } }

/-- A visit that ends changes its credit alone. -/
theorem State.visitEnds_eq (s : State) : s.visitEnds = { s with ce := { s.ce with rrLeft := s.visitEnds.ce.rrLeft } } := by
  unfold State.visitEnds
  split <;> rfl

theorem State.serveTurns_idle {s : State} (h : ∀ n, (s.ring 0 n).head = none) (fuel : Nat) : s.serveTurns fuel = s.visitEnds := by
  cases fuel with
  | zero => rfl
  | succ fuel =>
    have hv (n : Nat) : (s.visitEnds.ring 0 n).head = none := by
      rw [State.visitEnds_eq]
      exact h n
    unfold State.serveTurns
    split
    · rfl
    · next n _ => rw [hv n]; rfl

/-- With no head fetched the engine has nothing to judge afresh. -/
theorem State.serveHeads_idle {s : State} (h : ∀ n, (s.ring 0 n).head = none) : s.serveHeads = s.idleServed := by
  have hstep (l : List Nat) : foldS l (fun n (s : State) =>
      if (s.ring 0 n).waits && (s.ring 0 n).head.isSome then s.modRing 0 n (fun r => { r with waits := false }) else s) s = s := by
    induction l with
    | nil => rfl
    | cons n l ih =>
      rw [foldS, List.foldl_cons]
      rw [h n, if_neg (by simp)]
      exact ih
  unfold State.serveHeads
  rw [hstep]
  exact State.serveTurns_idle (s := { s with ce := { s.ce with cycle := [] } }) h 64

@[simp] theorem State.idleServed_comps (s : State) : s.idleServed.ce.comps = s.ce.comps := by
  rw [State.idleServed, State.visitEnds_eq]
@[simp] theorem State.idleServed_due (s : State) : s.idleServed.ce.due = s.ce.due := by
  rw [State.idleServed, State.visitEnds_eq]
@[simp] theorem State.idleServed_hostMem (s : State) : s.idleServed.hostMem = s.hostMem := by
  rw [State.idleServed, State.visitEnds_eq]
@[simp] theorem State.idleServed_ring (s : State) (k n : Nat) : s.idleServed.ring k n = s.ring k n := by
  rw [State.idleServed, State.visitEnds_eq]
  rfl

/-- A ring of any kind is the entry of its key, as those of kind 0 are. -/
theorem State.ring_zero (s : State) (k n : Nat) : s.ring 0 (ringKey k n) = s.ring k n := by
  simp [State.ring, ringKey]

/-- Rings of one key are one entry. -/
theorem State.ring_congr {k n j m : Nat} (h : ringKey k n = ringKey j m) (s : State) : s.ring k n = s.ring j m := by
  unfold State.ring
  rw [h]

theorem State.setRing_head_none {s : State} {kind k : Nat} {r : Ring} (hr : r.head = none) (h : ∀ n, (s.ring 0 n).head = none) (n : Nat) :
    ((s.setRing kind k r).ring 0 n).head = none := by
  by_cases he : ringKey 0 n = ringKey kind k
  · rw [State.ring_congr he, State.setRing_get, hr]
  · rw [State.setRing_get_other _ _ _ _ _ _ he, h]

/-! ### An entry of a device-written ring -/

/-- Bytes have been written to host memory. -/
def State.memWritten (a : Nat) (bs : List Byte) (s : State) : State := { s with hostMem := memWrite s.hostMem a bs }

theorem State.dma_on {s : State} (hd : s.dmaOn = true) (a : Nat) (bs : List Byte) : s.dma a bs = s.memWritten a bs := if_pos hd

theorem Ring.intNow_quiet {r : Ring} (h : r.intMode = 0) (wanted : Bool) : r.intNow wanted = false := by simp [Ring.intNow, h]

/-- An entry of a ring without interrupts is written at the device index, and the index moves on. -/
theorem State.putEntry_quiet {s : State} {kind n : Nat} (hd : s.dmaOn = true) (hi : (s.ring kind n).intMode = 0) (esize : Nat)
    (f : Bool → List Byte) (wanted : Bool) : s.putEntry kind n esize f wanted =
      (s.memWritten ((s.ring kind n).addrOf esize (s.ring kind n).dev) (f (s.ring kind n).phase)).setRing kind n
        ((s.ring kind n).advance kind) := by
  unfold State.putEntry
  dsimp only
  rw [Ring.intNow_quiet hi, State.dma_on hd]
  rfl

/-! ### A completion is written (R269) -/

/-- Completion `c` stands in host memory, and `rest` waits. -/
def State.compWritten (c : Comp) (rest : List Comp) (s : State) : State :=
  (State.memWritten ((s.ring 1 c.cc).addrOf 16 (s.ring 1 c.cc).dev) (c.bytes (s.ring 1 c.cc).phase)
    { s with ce := { s.ce with comps := rest } }).setRing 1 c.cc ((s.ring 1 c.cc).advance 1)

theorem State.dmaOn_of_ccRoom {s : State} {cc : Nat} (h : s.ccRoom cc = true) : s.dmaOn = true := by
  unfold State.ccRoom State.ringRun at h
  simp only [Bool.and_eq_true] at h
  exact h.1.2

/-- The oldest completion, for a CC without interrupts and no refusal, is written; the performance counters apart nothing else
changes. -/
theorem State.writeComp_first {s : State} {c : Comp} {rest : List Comp} (hroom : s.ccRoom c.cc = true) (hc : s.ce.comps = c :: rest)
    (hr : c.refusal = false) (hi : (s.ring 1 c.cc).intMode = 0) : ∃ p, s.writeComp c.cc = (s.compWritten c rest).withPmc p := by
  unfold State.writeComp
  rw [if_neg (by simp [hroom]), hc, takeComp, if_pos rfl]
  dsimp only
  rw [if_neg (by simp [hr]), State.putComp,
    State.putEntry_quiet (s := { s with ce := { s.ce with comps := rest } }) (State.dmaOn_of_ccRoom hroom) hi]
  exact ⟨_, pmcEvent_eq ..⟩

theorem exec_completionWrite {s : State} (cc : Fin 64) (hroom : s.ccRoom cc = true) {c : Comp} (hc : c ∈ s.ce.comps) (hcc : c.cc = cc) :
    exec (.completionWrite cc) s = .next (s.writeComp cc).serveHeads := by
  have hany : s.ce.comps.any (fun c => c.cc = cc.val) = true := List.any_eq_true.2 ⟨c, hc, decide_eq_true hcc⟩
  exact congrArg Host.Outcome.next (if_pos (by rw [hroom, hany]; rfl))

theorem State.compWritten_comps (c : Comp) (rest : List Comp) (s : State) : (s.compWritten c rest).ce.comps = rest := rfl
theorem State.compWritten_due (c : Comp) (rest : List Comp) (s : State) : (s.compWritten c rest).ce.due = s.ce.due := rfl
theorem State.compWritten_ring (c : Comp) (rest : List Comp) (s : State) :
    (s.compWritten c rest).ring 1 c.cc = (s.ring 1 c.cc).advance 1 := State.setRing_get ..
theorem State.compWritten_hostMem (c : Comp) (rest : List Comp) (s : State) : (s.compWritten c rest).hostMem =
    memWrite s.hostMem ((s.ring 1 c.cc).addrOf 16 (s.ring 1 c.cc).dev) (c.bytes (s.ring 1 c.cc).phase) := rfl

theorem State.compWritten_head {c : Comp} {rest : List Comp} {s : State} (h : ∀ n, (s.ring 0 n).head = none) (n : Nat) :
    ((s.compWritten c rest).ring 0 n).head = none := by
  have hcc : (s.ring 1 c.cc).head = none := by rw [← State.ring_zero, h]
  exact State.setRing_head_none (r := (s.ring 1 c.cc).advance 1) (by exact hcc) (by exact h) n

/-! ### The index write-back (R268) -/

theorem getElem?_byteAt {l : List Byte} {i : Nat} (h : i < l.length) : l[i]? = some (byteAt l i) := by
  simp [byteAt, h]

/-- An index that waits for its write-back is written at HIF.RWB with the frame, and waits no longer. -/
theorem State.indexWriteback_quiet {s : State} {kind n : Nat} (hd : s.dmaOn = true) (hw : (s.ring kind n).wbDue = true)
    (hi : (s.ring kind n).intMode = 0) (ha : (s.ring kind n).wb ≠ 0) : s.indexWriteback kind n =
      (s.memWritten ((s.ring kind n).wb.toNat / 8 * 8) (leBytes 4 (s.seenIdx kind n) ++ leBytes 4 s.stp.frame.toNat)).setRing kind n
        { s.ring kind n with wbDue := false } := by
  unfold State.indexWriteback
  rw [if_neg (by simp [State.wbWaits, hd, hw])]
  dsimp only
  rw [Ring.intNow_quiet hi, if_neg ha, State.dma_on hd]
  rfl

/-! ### The obligation -/

/-- Settles O21: a completion by `writeComp_first`, an index by `indexWriteback_quiet` and what host memory reads after a write. -/
theorem completionAndIndexWrites : Obligations.CompletionAndIndexWrites := by
  unfold Obligations.CompletionAndIndexWrites
  refine ⟨?completion, ?index⟩
  case completion =>
    intro cc s c rest hroom hc hcc hr hi hh
    refine ⟨_, exec_completionWrite cc hroom (hc ▸ List.mem_cons_self) hcc, ?_⟩
    rw [← hcc] at hroom hi ⊢
    obtain ⟨p, hp⟩ := State.writeComp_first hroom hc hr hi
    rw [hp, State.serveHeads_idle (fun n => by rw [withPmc_ring_eq, State.compWritten_head hh])]
    simp only [State.idleServed_comps, State.idleServed_due, State.idleServed_hostMem, State.idleServed_ring, withPmc_ce, withPmc_hostMem,
      withPmc_ring_eq, State.compWritten_comps, State.compWritten_due, State.compWritten_ring, State.compWritten_hostMem]
    exact ⟨trivial, trivial, rfl, rfl⟩
  case index =>
    intro kind n s hd hw hi ha
    have hlen (x y : Nat) : (leBytes 4 x ++ leBytes 4 y).length = 8 := rfl
    have hwb := (s.ring kind n).wb.isLt
    refine ⟨_, rfl, ?_⟩
    rw [State.indexWriteback_quiet hd hw hi ha]
    refine ⟨fun i hi => ?_, fun x hx hout => ?_, State.setRing_get ..⟩
    · exact (memRead_memWrite _ _ _ _ hi (by rw [hlen]; omega)).trans (getElem?_byteAt hi)
    · refine memRead_memWrite_other _ _ _ _ fun i hi => ?_
      rw [hlen] at hi
      omega

end Sys2Proof.Machine
end

section
/-! O23. PERST_N and FLR: the rings go off one by one, the purge of the due table where it is set, and what neither touches (09 R279,
R281, R283). -/

namespace Sys2Proof.Machine

/-! ### A ring goes off -/

/-- Without a fetched head to refuse, a ring that goes off changes rings, completions and the work of VO and OX alone. -/
theorem State.ringOff_frame_quiet (W : Nat) (hW : 10995117623296 &&& W = 10995117623296) {kind n : Nat} {s : State}
    (hh : (s.ring kind n).head = none) : (s.ringOff kind n).hide W = s.hide W := by
  refine hide_mono _ _ hW ?_
  unfold State.ringOff
  dsimp only
  rw [hh]
  split_ifs
  · exact State.setRing_frame _ (by decide) ..
  · exact (State.holdComps_frame _ (by decide) _).trans (State.setRing_frame _ (by decide) ..)
  · exact (State.outStops_frame _ (by decide) _).trans (State.setRing_frame _ (by decide) ..)
  · exact (State.oxStops_frame _ (by decide) _).trans (State.setRing_frame _ (by decide) ..)
  · exact State.setRing_frame _ (by decide) ..

/-- Its EN is cleared, and no other ring changes. -/
theorem State.ringOff_ring {kind n : Nat} {s : State} (hh : (s.ring kind n).head = none) (k m : Nat) :
    (s.ringOff kind n).ring k m = (s.setRing kind n { s.ring kind n with en := false, cplTo := false }).ring k m := by
  unfold State.ringOff
  dsimp only
  rw [hh]
  split_ifs
  · rfl
  · exact ring_of_hide (State.holdComps_frame _ (by decide) _) k m
  · exact ring_of_hide (State.outStops_frame _ (by decide) _) k m
  · exact ring_of_hide (State.oxStops_frame _ (by decide) _) k m
  · rfl

/-- A state without a fetched head: the ring of every kind and number is the entry of a ring of kind 0. -/
theorem State.head_none {s : State} (h : ∀ n, (s.ring 0 n).head = none) (kind n : Nat) : (s.ring kind n).head = none := by
  rw [← State.ring_zero, h]

/-! ### The enabled rings go off -/

/-- The enabled rings among those listed go off, in turn. -/
def State.ringsOff (l : Tab Ring) (s : State) : State :=
  foldS l (fun e (s : State) => if e.2.en then s.ringOff (e.1 / 256) (e.1 % 256) else s) s

/-- What holds before and what every step keeps holds at the end. -/
theorem foldS_invariant {α : Type} {P : State → Prop} {f : α → State → State} (hf : ∀ a s, P s → P (f a s)) (l : List α) {s : State}
    (hs : P s) : P (foldS l f s) := by
  induction l generalizing s with
  | nil => exact hs
  | cons a l ih => exact ih (hf a s hs)

/-- No head is fetched, and ring `n` of a kind is as in `s` but for its EN and the note of a timeout. -/
def State.RingKept (s : State) (k n : Nat) (t : State) : Prop :=
  (∀ m, (t.ring 0 m).head = none) ∧ t.ring k n = { s.ring k n with en := (t.ring k n).en, cplTo := (t.ring k n).cplTo }

theorem State.RingKept.ringOff {s t : State} {k n : Nat} (h : s.RingKept k n t) (kind m : Nat) : s.RingKept k n (t.ringOff kind m) := by
  obtain ⟨hh, hr⟩ := h
  have hoff := State.ringOff_ring (State.head_none hh kind m)
  refine ⟨fun j => ?_, ?_⟩
  · rw [hoff]
    exact State.setRing_head_none (by exact State.head_none hh kind m) hh j
  · rw [hoff]
    by_cases he : ringKey k n = ringKey kind m
    · rw [State.ring_congr he, State.setRing_get, ← State.ring_congr he t, hr]
    · rw [State.setRing_get_other _ _ _ _ _ _ he]
      exact hr

/-- A ring that is off stays off. -/
theorem State.ringOff_en {t : State} {k n : Nat} (hh : ∀ m, (t.ring 0 m).head = none) (kind m : Nat) (h : (t.ring k n).en = false) :
    ((t.ringOff kind m).ring k n).en = false := by
  rw [State.ringOff_ring (State.head_none hh kind m)]
  by_cases he : ringKey k n = ringKey kind m
  · rw [State.ring_congr he, State.setRing_get]
  · rw [State.setRing_get_other _ _ _ _ _ _ he, h]

theorem ringKey_divMod (j : Nat) : ringKey (j / 256) (j % 256) = j := Nat.div_add_mod j 256

/-- Without a fetched head every ring of the table goes off, and nothing else of any ring changes but the note of a timeout. -/
theorem State.ringsOff_ring {s t : State} (hr : ∀ k n, t.ring k n = s.ring k n) (hh : ∀ n, (s.ring 0 n).head = none) (k n : Nat) :
    (t.ringsOff s.hif.rings).ring k n =
      { s.ring k n with en := false, cplTo := ((t.ringsOff s.hif.rings).ring k n).cplTo } := by
  have hstart : s.RingKept k n t := ⟨fun m => by rw [hr, hh], by rw [hr]⟩
  have hstep (e : Nat × Ring) (u : State) (hu : s.RingKept k n u) :
      s.RingKept k n (if e.2.en then u.ringOff (e.1 / 256) (e.1 % 256) else u) := by
    split
    · exact hu.ringOff ..
    · exact hu
  have hkeep (e : Nat × Ring) (u : State) (hu : s.RingKept k n u) (hen : (u.ring k n).en = false) :
      ((if e.2.en then u.ringOff (e.1 / 256) (e.1 % 256) else u).ring k n).en = false := by
    split
    · exact State.ringOff_en hu.1 _ _ hen
    · exact hen
  have hend : s.RingKept k n (t.ringsOff s.hif.rings) := foldS_invariant hstep _ hstart
  have hoff : ((t.ringsOff s.hif.rings).ring k n).en = false := by
    cases hen : (s.ring k n).en
    · exact (foldS_invariant (P := fun u => s.RingKept k n u ∧ (u.ring k n).en = false)
        (fun e u ⟨hu, he⟩ => ⟨hstep e u hu, hkeep e u hu he⟩) _ ⟨hstart, by rw [hr, hen]⟩).2
    · have hne : s.ring k n ≠ {} := fun h0 => by rw [h0] at hen; cases hen
      have hmem : (ringKey k n, s.ring k n) ∈ s.hif.rings := mem_of_tget_ne hne
      refine foldS_establishes (P := fun u => (u.ring k n).en = false) hmem hstep (fun u hu => ?_) hkeep hstart
      rw [if_pos hen, State.ringOff_ring (State.head_none hu.1 _ _), State.ring_congr (ringKey_divMod _).symm, State.setRing_get]
  rw [hend.2, hoff]

/-- What it changes beside rings: completions, and the work of VO and OX. -/
theorem State.ringsOff_frame_quiet (W : Nat) (hW : 10995117623296 &&& W = 10995117623296) (l : Tab Ring) {s : State}
    (hh : ∀ n, (s.ring 0 n).head = none) : (s.ringsOff l).hide W = s.hide W := by
  refine (foldS_invariant (P := fun u => s.RingKept 0 0 u ∧ u.hide W = s.hide W) (fun e u ⟨hu, hw⟩ => ?_) l ⟨⟨hh, rfl⟩, rfl⟩).2
  split
  · exact ⟨hu.ringOff .., (State.ringOff_frame_quiet W hW (State.head_none hu.1 _ _)).trans hw⟩
  · exact ⟨hu, hw⟩

/-- And in any state. -/
theorem State.ringsOff_frame (W : Nat) (hW : 10995118213136 &&& W = 10995118213136) (l : Tab Ring) (s : State) :
    (s.ringsOff l).hide W = s.hide W :=
  foldS_frame W l _ (fun e u => by split; exacts [State.ringOff_frame W hW .., rfl]) s

/-! ### Received frames that hold a buffer of OX (R281) -/

theorem State.oxStops_ox {s : State} (h : s.ringRun 7 0 = false ∨ s.sec.ox = []) : s.oxStops.sec.ox = [] := by
  unfold State.oxStops
  split
  · next hc =>
    obtain h | h := h
    · simpa [h] using hc
    · exact h
  · rfl

theorem State.ringOff_ox {kind n : Nat} {s : State} (hh : (s.ring kind n).head = none) (h : s.sec.ox = []) :
    (s.ringOff kind n).sec.ox = [] := by
  unfold State.ringOff
  dsimp only
  rw [hh]
  split_ifs
  · exact h
  · exact h
  · exact (sec_ox_of_hide (State.outStops_frame _ (by decide) _)).trans h
  · exact State.oxStops_ox (.inr h)
  · exact h

theorem State.ringsOff_ox (l : Tab Ring) {s : State} (hh : ∀ n, (s.ring 0 n).head = none) (h : s.sec.ox = []) :
    (s.ringsOff l).sec.ox = [] := by
  refine (foldS_invariant (P := fun u => s.RingKept 0 0 u ∧ u.sec.ox = []) (fun e u ⟨hu, hx⟩ => ?_) l ⟨⟨hh, rfl⟩, h⟩).2
  split
  · exact ⟨hu.ringOff .., State.ringOff_ox (State.head_none hu.1 _ _) hx⟩
  · exact ⟨hu, hx⟩

/-! ### A reset of the host interface (R279) -/

/-- While Bus Master Enable is clear no ring runs. -/
theorem State.ringRun_of_bme {s : State} (h : s.hif.bme = false) {kind n : Nat} : s.ringRun kind n = false := by
  simp [State.ringRun, State.dmaOn, h]

/-- The host interface after a reset, its rings and all that is not its own apart. -/
def State.hifReset (last : Nat) (s : State) : State :=
  { s with hif := { s.hif with bme := false, d3hot := false, vecs := [], pend := 0, funcMask := false, rstLast := last } }

/-- DMA has stopped, and the rings are off. -/
def State.hostCut (last : Nat) (s : State) : State := ((s.hifReset last).holdComps.outStops.oxStops).ringsOff s.hif.rings

/-- Then the purge, where it is set, and the locks of the queue sets break. -/
def State.hostEnded (last : Nat) (s : State) : State :=
  (if (s.hostCut last).rb 0x0010 0 then (s.hostCut last).purge else s.hostCut last).breakOwners
    (fun o => decide (0x0800 ≤ o) && decide (o < 0x0840))

/-- A push over PCIe starts again (15 R412). -/
def State.pushRestarted (s : State) : State :=
  if s.boot.owned && !s.boot.ownerI2c then
    { s with boot := { s.boot with fifo := [], image := [], eod := false, owned := false, ovf := false } }
  else s

theorem State.pushRestarted_eq (s : State) : s.pushRestarted = { s with boot := s.pushRestarted.boot } := by
  unfold State.pushRestarted
  split <;> rfl

theorem State.hostReset_eq (last : Nat) (s : State) :
    s.hostReset last = { s.hostEnded last with boot := (s.hostEnded last).pushRestarted.boot } :=
  State.pushRestarted_eq (s.hostEnded last)

/-- What a reset of the host interface leaves of the plain registers, the purge option among them. -/
theorem State.hostCut_rb (last : Nat) (s : State) (o i : Nat) : (s.hostCut last).rb o i = s.rb o i := by
  have hcfg : (s.hostCut last).cfg = s.cfg := cfg_of_hide <|
    (State.ringsOff_frame _ (by decide) _ _).trans <| (State.oxStops_frame _ (by decide) _).trans <|
    (State.outStops_frame _ (by decide) _).trans <| State.holdComps_frame _ (by decide) _
  unfold State.rb State.reg
  rw [hcfg]

/-- Before the rings go off nothing of them has changed. -/
theorem State.hifReset_stops_frame (W : Nat) (hW : 10995117623296 &&& W = 10995117623296) (last : Nat) (s : State) :
    ((s.hifReset last).holdComps.outStops.oxStops).hide W = (s.hifReset last).hide W :=
  hide_mono _ _ hW <| (State.oxStops_frame _ (by decide) _).trans <| (State.outStops_frame _ (by decide) _).trans <|
    State.holdComps_frame _ (by decide) _

theorem State.hifReset_stops_ring (last : Nat) (s : State) (k n : Nat) :
    ((s.hifReset last).holdComps.outStops.oxStops).ring k n = s.ring k n :=
  ring_of_hide ((State.oxStops_frame _ (by decide) _).trans <| (State.outStops_frame _ (by decide) _).trans <|
    State.holdComps_frame _ (by decide) (s.hifReset last)) k n

/-! ### Without the purge -/

section
variable {s : State} (last : Nat) (hp : s.rb 0x0010 0 = false)
include hp

theorem State.hostEnded_kept : s.hostEnded last = (s.hostCut last).breakOwners (fun o => decide (0x0800 ≤ o) && decide (o < 0x0840)) := by
  unfold State.hostEnded
  rw [State.hostCut_rb, hp]
  rfl

variable (hh : ∀ n, (s.ring 0 n).head = none)
include hh

theorem State.hostEnded_frame_quiet (W : Nat) (hW : 10995119728672 &&& W = 10995119728672) :
    (s.hostEnded last).hide W = (s.hifReset last).hide W := by
  refine hide_mono _ _ hW ?_
  rw [State.hostEnded_kept last hp]
  have hcut : (s.hostCut last).hide 10995119728672 = _ :=
    State.ringsOff_frame_quiet _ (by decide) _ fun n => by rw [State.hifReset_stops_ring, hh]
  exact (State.breakOwners_frame _ (by decide) _ _).trans (hcut.trans (State.hifReset_stops_frame _ (by decide) last s))

theorem State.hostEnded_ox : (s.hostEnded last).sec.ox = [] := by
  have hstop : ((s.hifReset last).holdComps.outStops).ringRun 7 0 = false := State.ringRun_of_bme <|
    hif_bme_of_hide ((State.outStops_frame _ (by decide) _).trans (State.holdComps_frame _ (by decide) (s.hifReset last)))
  rw [State.hostEnded_kept last hp, sec_ox_of_hide (State.breakOwners_frame _ (by decide) _ _)]
  exact State.ringsOff_ox _ (fun n => by rw [State.hifReset_stops_ring, hh]) (State.oxStops_ox (.inl hstop))

theorem State.hostEnded_ring (k n : Nat) : (s.hostEnded last).ring k n =
    { s.ring k n with en := false, cplTo := ((s.hostEnded last).ring k n).cplTo } := by
  have hcut : (s.hostEnded last).ring k n = (s.hostCut last).ring k n := by
    rw [State.hostEnded_kept last hp]
    exact ring_of_hide (State.breakOwners_frame _ (by decide) _ _) k n
  rw [hcut]
  exact State.ringsOff_ring (State.hifReset_stops_ring last s) hh k n

/-- The host interface is reset; due table, host memory and the rings' indices stay. -/
theorem State.hostReset_kept : let t := s.hostReset last
    t.hif.bme = false ∧ t.hif.d3hot = false ∧ t.hif.vecs = [] ∧ t.hif.pend = 0 ∧ t.hif.funcMask = false ∧ t.hif.rstLast = last ∧
      t.ce.due = s.ce.due ∧ t.hostMem = s.hostMem ∧ t.sec.ox = [] ∧
      ∀ k n, t.ring k n = { s.ring k n with en := false, cplTo := (t.ring k n).cplTo } := by
  have hf (W : Nat) := State.hostEnded_frame_quiet last hp hh W
  rw [State.hostReset_eq]
  exact ⟨hif_bme_of_hide (hf _ (by decide)), hif_d3hot_of_hide (hf _ (by decide)), hif_vecs_of_hide (hf _ (by decide)),
    hif_pend_of_hide (hf _ (by decide)), hif_funcMask_of_hide (hf _ (by decide)), hif_rstLast_of_hide (hf _ (by decide)),
    ce_due_of_hide (hf _ (by decide)), hostMem_of_hide (hf _ (by decide)), State.hostEnded_ox last hp hh,
    State.hostEnded_ring last hp hh⟩

end

/-! ### With the purge -/

/-- The purge empties the CQs: their device index is the host's. -/
theorem State.purge_dev (s : State) {n : Nat} (hn : n < 64) : (s.purge.ring 0 n).dev = (s.purge.ring 0 n).host := by
  unfold State.purge
  refine foldS_establishes (P := fun u => (u.ring 0 n).dev = (u.ring 0 n).host) (Q := fun _ => True) (List.mem_range.2 hn)
    (fun _ _ _ => trivial) (fun u _ => ?_) (fun q u _ hu => ?_) trivial
  · rw [State.modRing_get]
  · by_cases he : ringKey 0 n = ringKey 0 q
    · rw [State.ring_congr he, State.modRing_get]
    · rw [State.modRing_get_other _ _ _ _ _ _ he, hu]

/-- The due table is empty, and PURGED counts what it held. -/
theorem State.purge_due (s : State) : s.purge.ce.due = [] ∧ s.purge.ce.comps = [] ∧
    s.purge.hif.purged = min s.ce.due.length (2 ^ 17 - 1) := by
  have hkeep := foldS_keeps (fun u => (u.ce, u.hif.purged)) (List.range 64)
    (fun q (u : State) => u.modRing 0 q (fun r => { r with dev := r.host, fence := none, wbDue := false })) (fun _ _ => rfl)
    { s with ce := { s.ce with due := [], comps := [], failed := [] }, hif := { s.hif with purged := min s.ce.due.length (2 ^ 17 - 1) } }
  obtain ⟨hce, hpurged⟩ := Prod.mk.inj hkeep
  exact ⟨congrArg Ce.due hce, congrArg Ce.comps hce, hpurged⟩

/-- What the due table holds when the rings have gone off. -/
theorem State.hostCut_due (last : Nat) (s : State) : (s.hostCut last).ce.due = s.ce.due :=
  ce_due_of_hide ((State.ringsOff_frame _ (by decide) _ _).trans (State.hifReset_stops_frame _ (by decide) last s))

/-- Accepted commands and the completions that wait are gone, and the CQs are empty. -/
theorem State.hostReset_purged (last : Nat) {s : State} (hp : s.rb 0x0010 0 = true) : let t := s.hostReset last
    t.ce.due = [] ∧ t.ce.comps = [] ∧ t.hif.purged = min s.ce.due.length (2 ^ 17 - 1) ∧
      ∀ n, n < 64 → (t.ring 0 n).dev = (t.ring 0 n).host := by
  have hend : s.hostEnded last = (s.hostCut last).purge.breakOwners (fun o => decide (0x0800 ≤ o) && decide (o < 0x0840)) := by
    unfold State.hostEnded
    rw [State.hostCut_rb, hp]
    rfl
  have hf (W : Nat) (hW : 2107424 &&& W = 2107424) : (s.hostEnded last).hide W = (s.hostCut last).purge.hide W := by
    rw [hend]
    exact State.breakOwners_frame W hW _ _
  obtain ⟨hdue, hcomps, hpurged⟩ := State.purge_due (s.hostCut last)
  rw [State.hostCut_due] at hpurged
  rw [State.hostReset_eq]
  refine ⟨(ce_due_of_hide (hf _ (by decide))).trans hdue, (ce_comps_of_hide (hf _ (by decide))).trans hcomps,
    (hif_purged_of_hide (hf _ (by decide))).trans hpurged, fun n hn => ?_⟩
  have hring : (s.hostEnded last).ring 0 n = (s.hostCut last).purge.ring 0 n := ring_of_hide (hf _ (by decide)) 0 n
  show ((s.hostEnded last).ring 0 n).dev = ((s.hostEnded last).ring 0 n).host
  rw [hring, State.purge_dev _ hn]

/-! ### The obligation -/

/-- The device as PERST_N finds it once the link is down. -/
def State.linkDown (s : State) : State := { s with hif := { s.hif with linkUp := false, linkWidth := 0, linkSpeed := 0 } }

theorem exec_perstN (s : State) : exec .perstN s = .next (s.linkDown.hostReset 1) := rfl
theorem exec_flr (s : State) : exec .flr s = .next (s.hostReset 2) := rfl

/-- Settles O23: a reset of the host interface by `hostReset_kept` and `hostReset_purged`, the link by its command. -/
theorem hostResets : Obligations.HostResets := by
  unfold Obligations.HostResets
  refine ⟨?kept, ?purged, fun up w sp s => rfl⟩
  case kept =>
    rintro i s (rfl | rfl) hp hh
    · rw [if_neg (by decide)]
      exact ⟨_, exec_perstN s, State.hostReset_kept (s := s.linkDown) 1 hp hh⟩
    · rw [if_pos rfl]
      exact ⟨_, exec_flr s, State.hostReset_kept 2 hp hh⟩
  case purged =>
    rintro i s (rfl | rfl) hp
    · exact ⟨_, exec_perstN s, State.hostReset_purged (s := s.linkDown) 1 hp⟩
    · exact ⟨_, exec_flr s, State.hostReset_purged 2 hp⟩

end Sys2Proof.Machine
end

section
/-! O33. OH_SET by its code (10 R302): the target that TARGET names, and the value stored there. -/

namespace Sys2Proof.Machine

/-! ### The target (03 Table LP-5, 04 Table PA-4) -/

/-- A word that fits in its low field is the value of that field. -/
theorem wfld_low_eq {v : Word} {w : Nat} (h : v.toNat < 2 ^ w) : wfld v 0 w = v.toNat := Nat.mod_eq_of_lt h

/-- A section byte names a port. -/
theorem ohOk_port {code v : Nat} {g : Word} (h : ohOk code g v = true) (hc : code ≤ 9) : g.toNat < 32 := by
  unfold ohOk at h
  dsimp only at h
  by_cases h1 : 1 ≤ code ∧ code ≤ 9
  · rw [if_pos h1, Bool.and_eq_true, decide_eq_true_eq] at h
    exact h.1
  · obtain rfl : code = 0 := by omega
    exact absurd h (by simp)

/-- A source byte names a slot of the mappers. -/
theorem ohOk_source {code v : Nat} {g : Word} (h : ohOk code g v = true)
    (hc : code = 0x10 ∨ code = 0x13 ∨ code = 0x14 ∨ code = 0x15) : g.toNat ≤ 7727 := by
  rcases hc with rfl | rfl | rfl | rfl
  all_goals
    simp [ohOk] at h
    obtain ⟨⟨-, hmax⟩, -⟩ := h
    exact hmax

/-- Flags with bit 31 of TARGET name a slot of the mappers in the bits below it. -/
theorem ohOk_flagsSlot {v : Nat} {g : Word} (h : ohOk 0x12 g v = true) (hb : wbit g 31 = true) :
    6144 ≤ g.toNat - 2 ^ 31 ∧ g.toNat - 2 ^ 31 ≤ 7727 := by
  simp [ohOk, hb] at h
  omega

/-- What the static test of OH_SET leaves. -/
theorem Carries.ohSet_ok {code v : Nat} {g : Word} {s : State} (h : Carries (.ohSet code g v) s) : ohOk code g v = true := by
  simpa [staticTest] using h.passed.1

/-- A source byte is stored at the slot that TARGET is. -/
theorem Carries.ohSet_slot {code v : Nat} {g : Word} {s : State} (h : Carries (.ohSet code g v) s)
    (hc : code = 0x10 ∨ code = 0x13 ∨ code = 0x14 ∨ code = 0x15) : wfld g 0 13 = g.toNat :=
  wfld_low_eq (Nat.lt_of_le_of_lt (ohOk_source h.ohSet_ok hc) (by decide))

/-! ### What is stored -/

/-- A section byte is stored for its port alone, by its code. -/
theorem State.ohSet_port {code : Nat} {g : Word} (hc : code ≤ 9) (hg : g.toNat < 32) (v : Nat) (s : State) :
    tget none ((s.ohSet code g v).port g.toNat).ohSet code = some (BitVec.ofNat 8 v) ∧
      ∀ m, m ≠ g.toNat → (s.ohSet code g v).port m = s.port m := by
  have hset : s.ohSet code g v = s.modPort g.toNat fun p => { p with ohSet := tset none p.ohSet code (some (BitVec.ofNat 8 v)) } := by
    rw [← wfld_low_eq (w := 5) hg]
    exact if_pos hc
  rw [hset, State.modPort]
  refine ⟨?_, fun m hm => State.setPort_get_other _ _ _ _ hm⟩
  rw [State.setPort_get, tget_tset_same]

/-- The flags of an HO path are stored where bit 31 of TARGET tells how to read it. -/
theorem State.ohSet_flags (g : Word) (v : Nat) (s : State) :
    ((s.ohSet 0x12 g v).path (if wbit g 31 then wfld g 0 13 else 192 * wfld g 0 5 + wfld g 8 8)).flags = v :=
  congrArg HoPath.flags (State.setPath_get ..)

/-! ### The obligation -/

/-- Settles O33: the section bytes by `ohSet_port`, the other codes by what is read of the entry that the code sets. -/
theorem overheadSet : Obligations.OverheadSet := by
  unfold Obligations.OverheadSet
  intro h code g v s hc
  refine hc.does (u := s.ohSet code g v) rfl rfl rfl rfl fun l p hd => ?_
  simp only [withComps_port_eq, withComps_hoSrc_eq, withComps_path_eq, withComps_lo_eq, withPmc_port_eq, withPmc_hoSrc_eq,
    withPmc_path_eq, withPmc_lo_eq]
  refine ⟨hd, fun hcode => ?port, ?c2, ?expC2, ?flagsSlot, ?flagsLine, ?f2, ?f3k3, ?n1, ?loFlags, ?k4Tx, ?n2Tx⟩
  case port => exact State.ohSet_port hcode (ohOk_port hc.ohSet_ok hcode) v s
  case c2 =>
    rintro rfl
    rw [← hc.ohSet_slot (.inl rfl)]
    exact congrArg HoSrc.c2 (State.setHoSrc_get s ..)
  case expC2 =>
    rintro rfl
    exact congrArg HoPath.expC2 (State.setPath_get s ..)
  case flagsSlot =>
    rintro rfl hb
    have hx : wfld g 0 13 = g.toNat - 2 ^ 31 := by
      have := ohOk_flagsSlot hc.ohSet_ok hb
      simp only [wfld, fld, Nat.shiftRight_zero]
      omega
    have hf := State.ohSet_flags g v s
    rwa [if_pos hb, hx] at hf
  case flagsLine =>
    rintro rfl hb
    have hf := State.ohSet_flags g v s
    rwa [hb] at hf
  case f2 =>
    rintro rfl
    rw [← hc.ohSet_slot (.inr (.inl rfl))]
    exact congrArg HoSrc.f2 (State.setHoSrc_get s ..)
  case f3k3 =>
    rintro rfl
    rw [← hc.ohSet_slot (.inr (.inr (.inl rfl)))]
    have hsrc := State.setHoSrc_get s
    exact ⟨congrArg HoSrc.f3 (hsrc ..), congrArg HoSrc.k3 (hsrc ..)⟩
  case n1 =>
    rintro rfl
    rw [← hc.ohSet_slot (.inr (.inr (.inr rfl)))]
    exact congrArg HoSrc.n1 (State.setHoSrc_get s ..)
  case loFlags =>
    rintro rfl
    exact congrArg LoPath.flags (State.setLo_get s ..)
  case k4Tx =>
    rintro rfl
    exact congrArg LoPath.k4Tx (State.setLo_get s ..)
  case n2Tx =>
    rintro rfl
    exact congrArg LoPath.n2Tx (State.setLo_get s ..)

end Sys2Proof.Machine
end

section
/-! O24. The judgement of the descriptor at a ring's head, branch by branch (10 R288-R292): the tests of its operands, its place
against the frame, and the due table. -/

namespace Sys2Proof.Machine

/-! ### A command whose frames move with the count (02 R63) -/

@[simp] theorem executorOf_rebaseCmd (delta : Word) (c : Cmd) : executorOf (rebaseCmd delta c) = executorOf c := by
  unfold rebaseCmd
  split
  · split <;> rfl
  · rfl

@[simp] theorem asapOnly_rebaseCmd (delta : Word) (c : Cmd) : asapOnly (rebaseCmd delta c) = asapOnly c := by
  unfold rebaseCmd
  split
  · split <;> rfl
  · rfl

@[simp] theorem State.execReady_rebaseCmd (delta : Word) (c : Cmd) (s : State) : s.execReady (rebaseCmd delta c) = s.execReady c := by
  rw [State.execReady, executorOf_rebaseCmd]
  rfl

@[simp] theorem cutoffOf_rebaseCmd (delta : Word) (c : Cmd) : cutoffOf (rebaseCmd delta c) = cutoffOf c := by
  rw [cutoffOf, executorOf_rebaseCmd]
  rfl

/-! ### The tests whatever the frame (R288, R289, R290) -/

/-- An unknown opcode fails the first test. -/
theorem parse_unknown {d : Desc} (h : opMask (wfld d.w0 0 8) = none) (blk : Option (List Byte)) : parse d blk = .bad 0x05 0 := by
  unfold parse
  dsimp only
  rw [h]

theorem State.verdict_bad {d : Desc} {blk : Option (List Byte)} {st r : Nat} (h : parse d blk = .bad st r) (s : State) (n : Nat) :
    s.verdict n d blk = .refuse st r := by
  unfold State.verdict
  rw [h]

theorem State.verdict_unready {d : Desc} {blk : Option (List Byte)} {c : Cmd} {s : State} (h : parse d blk = .ok c)
    (hx : s.execReady c = false) (n : Nat) : s.verdict n d blk = .refuse 0x0B 0 := by
  unfold State.verdict
  rw [h]
  simp [hx]

/-! ### The tests against the frame (R291, R292, R295) -/

/-- The judgement of a command that is in order, by what it is and the frame it names. -/
def State.verdictOk (s : State) (n : Nat) (d : Desc) (c : Cmd) : Verdict :=
  let moved := (s.ring 0 n).headDelta
  let k := (d.w1 + moved - s.stp.frame).toNat
  if asapOnly c then s.verdictDue n d s.stp.frame (rebaseCmd moved c)
  else if d.w1 = 0 then
    if cutoffOf c ≤ s.stp.phase then .wait (some 0x06)
    else if wbit d.w0 8 && s.orderWaits n then .wait none
    else s.verdictDue n d (s.stp.frame + 1) (rebaseCmd moved c)
  else if 2 ^ 31 ≤ k ∨ k < 3 then .refuse 0x01 0
  else if 2 ^ 20 < k then .refuse 0x02 0
  else s.verdictDue n d (d.w1 + moved) (rebaseCmd moved c)

theorem State.verdict_ok {d : Desc} {blk : Option (List Byte)} {c : Cmd} {s : State} (h : parse d blk = .ok c)
    (hx : s.execReady c = true) (n : Nat) : s.verdict n d blk = s.verdictOk n d c := by
  unfold State.verdict State.verdictOk
  rw [h]
  simp [hx]

/-- A fence is judged at any phase. -/
theorem State.verdictOk_fence {c : Cmd} (hf : asapOnly c = true) (s : State) (n : Nat) (d : Desc) :
    s.verdictOk n d c = s.verdictDue n d s.stp.frame (rebaseCmd (s.ring 0 n).headDelta c) :=
  if_pos hf

section
variable {c : Cmd} {d : Desc} (hf : asapOnly c = false)
include hf

/-- The judgement of a scheduled descriptor, by how far ahead it lies. -/
theorem State.verdictOk_scheduled (hd : d.w1 ≠ 0) (s : State) (n : Nat) :
    let f := d.w1 + (s.ring 0 n).headDelta
    let k := (f - s.stp.frame).toNat
    s.verdictOk n d c = if 2 ^ 31 ≤ k ∨ k < 3 then .refuse 0x01 0 else if 2 ^ 20 < k then .refuse 0x02 0
      else s.verdictDue n d f (rebaseCmd (s.ring 0 n).headDelta c) := by
  dsimp only
  rw [State.verdictOk, hf, if_neg Bool.false_ne_true, if_neg hd]

/-- The judgement of an ASAP descriptor, by the phase and its ring's order. -/
theorem State.verdictOk_asap (hd : d.w1 = 0) (s : State) (n : Nat) :
    s.verdictOk n d c = if cutoffOf c ≤ s.stp.phase then .wait (some 0x06) else if wbit d.w0 8 && s.orderWaits n then .wait none
      else s.verdictDue n d (s.stp.frame + 1) (rebaseCmd (s.ring 0 n).headDelta c) := by
  rw [State.verdictOk, hf, if_neg Bool.false_ne_true, if_pos hd]

end

/-! ### The due table -/

/-- A full due table, before anything else of the command is looked at. -/
theorem State.verdictDue_full {s : State} (h : 65536 ≤ s.ce.due.length + s.ce.comps.length) (n : Nat) (d : Desc) (b : Word) (c : Cmd) :
    s.verdictDue n d b c = if s.ce.comps.any (fun x => !x.refusal) then .wait (some 0x09) else .refuse 0x03 0 :=
  if_pos h

/-! ### The obligation -/

/-- Settles O24: the first tests by `verdict_bad` and `verdict_unready`, the place against the frame by `verdictOk_scheduled`,
`verdictOk_asap` and `verdictOk_fence`, the due table by `verdictDue_full`. -/
theorem admissionVerdict : Obligations.AdmissionVerdict := by
  unfold Obligations.AdmissionVerdict
  refine ⟨⟨fun s n d blk h => State.verdict_bad (parse_unknown h blk) s n, fun s n d blk r h => State.verdict_bad h s n,
    fun s n d blk c h hx => State.verdict_unready h hx n, fun s n d b c h => State.verdictDue_full h n d b c⟩,
    fun s n d blk c h hx => ?_⟩
  rw [State.verdict_ok h hx n]
  refine ⟨fun hf hd hk => ?late, fun hf hd hfar hk => ?far, fun hf hd hnear hk => ?due, fun hd hf hp => ?cutoff,
    fun hd hf hp ho => ?nextFrame, fun hf => State.verdictOk_fence hf s n d⟩
  case late => rw [State.verdictOk_scheduled hf hd s n, if_pos hk.symm]
  case far => rw [State.verdictOk_scheduled hf hd s n, if_neg (by omega), if_pos hfar]
  case due => rw [State.verdictOk_scheduled hf hd s n, if_neg (by omega), if_neg (by omega)]
  case cutoff => rw [State.verdictOk_asap hf hd s n, if_pos (show cutoffOf c ≤ _ from hp)]
  case nextFrame =>
    rw [State.verdictOk_asap hf hd s n, if_neg (show ¬ cutoffOf c ≤ _ from Nat.not_le.2 hp), ho, Bool.false_and,
      if_neg Bool.false_ne_true]

end Sys2Proof.Machine
end

section
/-! O45. STREAM_OPEN, STREAM_CLOSE and STREAM_FLUSH: what each makes of its own group, direction by direction, and that no other
group changes (11 R304, R310, R315, R319). -/

namespace Sys2Proof.Machine

/-! ### A group of the stream engine -/

@[simp] theorem State.modStrm_get (g : Nat) (f : Stream → Stream) (s : State) : (s.modStrm g f).strm g = f (s.strm g) :=
  State.setStrm_get ..
theorem State.modStrm_get_other (g : Nat) (f : Stream → Stream) (s : State) (k : Nat) (h : k ≠ g) :
    (s.modStrm g f).strm k = s.strm k :=
  State.setStrm_get_other _ _ _ _ h

/-- What leaves the stream engine leaves each group. -/
theorem strm_of_hide {s t : State} (h : t.hide 32985348833279 = s.hide 32985348833279) (g : Nat) : t.strm g = s.strm g := by
  unfold State.strm
  rw [strs_of_hide h]

@[simp] theorem Stream.count_cnts_same (c n : Nat) (x : Stream) : tget 0 (x.count c n).cnts c = tget 0 x.cnts c + BitVec.ofNat 32 n :=
  tget_tset_same ..
theorem Stream.count_cnts_other (c n : Nat) (x : Stream) {j : Nat} (h : j ≠ c) : tget 0 (x.count c n).cnts j = tget 0 x.cnts j :=
  tget_tset_other _ _ _ _ _ h

/-! ### The block in progress is discarded (R315) -/

/-- A direction whose block in progress is discarded; `begun` where frames of it have been sent, and the next covers frames from `f`. -/
def StreamDir.discarded (begun : Bool) (f : Word) (d : StreamDir) : StreamDir := if begun then d.next f else { d with first := f }

theorem State.outDiscard_strm (g : Nat) (begun : Bool) (f : Word) (s : State) :
    (s.outDiscard g begun f).strm g = { s.strm g with out := (s.strm g).out.map (StreamDir.discarded begun f) } := by
  unfold State.outDiscard
  split
  next hout => rw [hout]; exact congrArg (fun o => { s.strm g with out := o }) hout
  next d hout =>
    rw [State.modStrm_get, hout]
    dsimp only
    split
    · rw [strm_of_hide (State.writeBack_frame _ (by decide) ..)]; rfl
    · rfl

theorem State.outDiscard_strm_other (g : Nat) (begun : Bool) (f : Word) (s : State) {k : Nat} (hk : k ≠ g) :
    (s.outDiscard g begun f).strm k = s.strm k := by
  unfold State.outDiscard
  split
  · rfl
  · dsimp only
    rw [State.modStrm_get_other _ _ _ _ hk]
    split
    · exact strm_of_hide (State.writeBack_frame _ (by decide) ..) k
    · rfl

/-- A block is in progress where rows of it have been sent. -/
theorem State.outBegun_iff {s : State} {g : Nat} {d : StreamDir} (h : (s.strm g).out = some d) :
    s.outBegun g = true ↔ d.rows ≠ [] := by
  unfold State.outBegun
  rw [h]
  exact decide_eq_true_iff

/-! ### STREAM_OPEN (R304) -/

theorem State.streamOpen_strm_other (o : StreamOp) (s : State) {k : Nat} (hk : k ≠ o.group) : (s.streamOpen o).strm k = s.strm k :=
  State.modStrm_get_other _ _ _ _ hk

/-! ### STREAM_CLOSE (R310, R315) -/

/-- A group whose host-to-device direction is closed, its accepted rows discarded and their blocks counted. -/
def Stream.inClosed (x : Stream) : Stream := { x.dropRows with inn := none }

/-- The host-to-device half of STREAM_CLOSE. -/
def State.inClosed (g : Nat) (s : State) : State := (s.modStrm g Stream.inClosed).readCut g

/-- The device-to-host half of STREAM_CLOSE. -/
def State.outClosed (g : Nat) (s : State) : State :=
  (s.outDiscard g (s.outBegun g) s.stp.frame).modStrm g (fun x => { x with out := none })

theorem State.streamClose_eq (g : Nat) (i o : Bool) (s : State) :
    s.streamClose g i o = whenS o (State.outClosed g) (whenS i (State.inClosed g) s) := rfl

/-- A block that is being read may go with what is held; its buffer is then counted and returned (assumption 150). -/
theorem State.readCut_strm (g : Nat) (s : State) :
    (s.readCut g).strm g = s.strm g ∨ s.hasBuf 2 g = true ∧ (s.readCut g).strm g = (s.strm g).count 7 1 := by
  unfold State.readCut
  split
  next => exact .inl rfl
  next hb =>
    dsimp only
    split
    next => exact .inr ⟨by simpa using hb, State.modStrm_get ..⟩
    next => exact .inl rfl

theorem State.readCut_strm_other (g : Nat) (s : State) {k : Nat} (hk : k ≠ g) : (s.readCut g).strm k = s.strm k := by
  unfold State.readCut
  split
  · rfl
  · dsimp only
    split
    · exact State.modStrm_get_other _ _ _ _ hk
    · rfl

theorem State.inClosed_strm (g : Nat) (s : State) : (s.inClosed g).strm g = (s.strm g).inClosed ∨
    s.hasBuf 2 g = true ∧ (s.inClosed g).strm g = (s.strm g).inClosed.count 7 1 := by
  have h := (s.modStrm g Stream.inClosed).readCut_strm g
  rwa [State.modStrm_get] at h

theorem State.inClosed_strm_other (g : Nat) (s : State) {k : Nat} (hk : k ≠ g) : (s.inClosed g).strm k = s.strm k :=
  (State.readCut_strm_other g _ hk).trans (State.modStrm_get_other _ _ _ _ hk)

theorem Stream.inClosed_flushed (x : Stream) : tget 0 x.inClosed.cnts 7 = tget 0 x.cnts 7 + BitVec.ofNat 32 x.blocks :=
  Stream.count_cnts_same ..

theorem State.outClosed_strm (g : Nat) (s : State) : (s.outClosed g).strm g = { s.strm g with out := none } := by
  rw [State.outClosed, State.modStrm_get, State.outDiscard_strm]

theorem State.outClosed_strm_other (g : Nat) (s : State) {k : Nat} (hk : k ≠ g) : (s.outClosed g).strm k = s.strm k :=
  (State.modStrm_get_other _ _ _ _ hk).trans (State.outDiscard_strm_other _ _ _ _ hk)

theorem State.streamClose_strm_other (g : Nat) (i o : Bool) (s : State) {k : Nat} (hk : k ≠ g) : (s.streamClose g i o).strm k = s.strm k := by
  have hin : (whenS i (State.inClosed g) s).strm k = s.strm k := by
    cases i
    · rfl
    · exact State.inClosed_strm_other g s hk
  rw [State.streamClose_eq]
  cases o
  · exact hin
  · exact (State.outClosed_strm_other g _ hk).trans hin

/-- The device-to-host half of STREAM_CLOSE touches the open settings of its own direction alone. -/
theorem State.streamClose_strm (g : Nat) (i o : Bool) (s : State) : (s.streamClose g i o).strm g =
    { (whenS i (State.inClosed g) s).strm g with out := if o then none else ((whenS i (State.inClosed g) s).strm g).out } := by
  rw [State.streamClose_eq]
  cases o
  · rfl
  · exact State.outClosed_strm ..

/-! ### STREAM_FLUSH (R319) -/

/-- The host-to-device half of STREAM_FLUSH. -/
def State.inFlushed (g : Nat) (s : State) : State :=
  (s.consumeAll 2 g).2.modStrm g (fun x => x.dropRows.count 7 (s.consumeAll 2 g).1)

theorem State.streamFlush_eq (g : Nat) (i o : Bool) (s : State) : s.streamFlush g i o =
    whenS o (fun s => s.outDiscard g (s.outBegun g) s.stp.frame) (whenS i (State.inFlushed g) s) := rfl

theorem State.consumeAll_strm (g k : Nat) (s : State) : (s.consumeAll 2 g).2.strm k = s.strm k :=
  strm_of_hide (State.consumeAll_frame _ (by decide) ..) k

theorem State.inFlushed_strm (g : Nat) (s : State) :
    (s.inFlushed g).strm g = (s.strm g).dropRows.count 7 (s.consumeAll 2 g).1 := by
  rw [State.inFlushed, State.modStrm_get, State.consumeAll_strm]

theorem State.inFlushed_strm_other (g : Nat) (s : State) {k : Nat} (hk : k ≠ g) : (s.inFlushed g).strm k = s.strm k :=
  (State.modStrm_get_other _ _ _ _ hk).trans (State.consumeAll_strm ..)

theorem State.streamFlush_strm_other (g : Nat) (i o : Bool) (s : State) {k : Nat} (hk : k ≠ g) : (s.streamFlush g i o).strm k = s.strm k := by
  have hin : (whenS i (State.inFlushed g) s).strm k = s.strm k := by
    cases i
    · rfl
    · exact State.inFlushed_strm_other g s hk
  rw [State.streamFlush_eq]
  cases o
  · exact hin
  · exact (State.outDiscard_strm_other _ _ _ _ hk).trans hin

/-- STREAM_FLUSH leaves the host-to-device direction open, its rows gone where it is named, and discards the block in progress of the
other where that is. -/
theorem State.streamFlush_strm (g : Nat) (i o : Bool) (s : State) :
    ((s.streamFlush g i o).strm g).inn = (s.strm g).inn ∧ ((s.streamFlush g i o).strm g).rows = (if i then [] else (s.strm g).rows) ∧
    ((s.streamFlush g i o).strm g).out =
      if o then (s.strm g).out.map (StreamDir.discarded (s.outBegun g) s.stp.frame) else (s.strm g).out := by
  have hin : ((whenS i (State.inFlushed g) s).strm g).inn = (s.strm g).inn ∧
      ((whenS i (State.inFlushed g) s).strm g).rows = (if i then [] else (s.strm g).rows) ∧
      ((whenS i (State.inFlushed g) s).strm g).out = (s.strm g).out ∧ (whenS i (State.inFlushed g) s).stp.frame = s.stp.frame := by
    cases i
    · exact ⟨rfl, rfl, rfl, rfl⟩
    · rw [whenS, if_pos rfl, State.inFlushed_strm]
      exact ⟨rfl, rfl, rfl, stp_frame_of_hide (State.consumeAll_frame _ (by decide) ..)⟩
  rw [State.streamFlush_eq]
  generalize whenS i (State.inFlushed g) s = u at hin ⊢
  obtain ⟨hinn, hrows, hout, hframe⟩ := hin
  cases o
  · exact ⟨hinn, hrows, hout⟩
  · have hbegun : u.outBegun g = s.outBegun g := by unfold State.outBegun; rw [hout]
    rw [whenS, if_pos rfl, State.outDiscard_strm, hbegun, hframe, hout]
    exact ⟨hinn, hrows, rfl⟩

/-! ### The obligation -/

/-- Settles O45: STREAM_OPEN by the group that it stores, STREAM_CLOSE and STREAM_FLUSH by what each of their halves makes of it. -/
theorem streamCommands : Obligations.StreamCommands := by
  unfold Obligations.StreamCommands
  refine ⟨fun h o s hc => hc.does (u := s.streamOpen o) rfl rfl rfl rfl fun l p hd => ?opened,
    fun h g i o s hc => hc.does (u := s.streamClose g i o) rfl rfl rfl rfl fun l p hd => ?closed,
    fun h g i o s hc => hc.does (u := s.streamFlush g i o) rfl rfl rfl rfl fun l p hd => ?flushed⟩
  case opened =>
    simp only [withComps_strm_eq, withPmc_strm_eq]
    refine ⟨hd, fun k hk => State.streamOpen_strm_other o s hk, ?_⟩
    rw [State.streamOpen, State.modStrm_get]
    refine ⟨fun hin => ?_, fun hin => ?_, fun hout => ?_, fun hout => ?_⟩
    · simp [hin]
    · simp [hin]
    · simp [hout]
    · simp [hout]
  case closed =>
    simp only [withComps_strm_eq, withPmc_strm_eq]
    refine ⟨hd, fun k hk => State.streamClose_strm_other g i o s hk, ?_⟩
    rw [State.streamClose_strm]
    refine ⟨?_, ?_, fun ho => by rw [ho]; rfl, ?_⟩
    · rintro rfl
      obtain h | ⟨hb, h⟩ := s.inClosed_strm g
      · rw [whenS, if_pos rfl, h]
        exact ⟨rfl, rfl, .inl (Stream.inClosed_flushed _)⟩
      · rw [whenS, if_pos rfl, h]
        refine ⟨rfl, rfl, .inr ⟨hb, ?_⟩⟩
        exact (Stream.count_cnts_same ..).trans (congrArg (· + 1) (Stream.inClosed_flushed _))
    · rintro rfl
      exact ⟨rfl, rfl⟩
    · rintro rfl
      cases i
      · rfl
      · obtain h | ⟨-, h⟩ := s.inClosed_strm g
        · rw [whenS, if_pos rfl, h]; rfl
        · rw [whenS, if_pos rfl, h]; rfl
  case flushed =>
    simp only [withComps_strm_eq, withPmc_strm_eq]
    obtain ⟨hinn, hrows, hout⟩ := s.streamFlush_strm g i o
    refine ⟨hd, fun k hk => State.streamFlush_strm_other g i o s hk, hinn, fun hi => ?_, fun hi => ?_, fun ho => ?_, fun d ho hd => ?_⟩
    · rw [hrows, if_pos hi]
    · rw [hrows, hi]; rfl
    · rw [hout, ho]; rfl
    · rw [hout, if_pos ho, hd]
      refine ⟨_, rfl, ?_⟩
      by_cases hr : d.rows = []
      · have hb : s.outBegun g = false := Bool.eq_false_iff.2 fun h => (State.outBegun_iff hd).1 h hr
        rw [hb, if_pos hr]
        exact ⟨rfl, hr, rfl⟩
      · rw [(State.outBegun_iff hd).2 hr, if_neg hr]
        exact ⟨rfl, rfl, rfl⟩

end Sys2Proof.Machine
end

section
/-! O46. A block that has been read is judged test by test (11 R307), and a whole device-to-host block is written with its descriptor
(11 R312). -/

namespace Sys2Proof.Machine

/-! ### Descriptors of a ring -/

theorem State.dmaOn_of_hasBuf {s : State} {kind n : Nat} (h : s.hasBuf kind n = true) : s.dmaOn = true := by
  unfold State.hasBuf State.ringRun at h
  simp only [Bool.and_eq_true] at h
  exact h.1.2

theorem State.consume_dev (kind n : Nat) (s : State) :
    ((s.consume kind n).ring kind n).dev = ((s.ring kind n).dev + 1) % ringLen kind (s.ring kind n) :=
  congrArg Ring.dev (State.modRing_get ..)

/-- A write-back moves the device index, whatever interrupt it gives. -/
theorem State.writeBack_ring (kind n : Nat) (d : BufDesc) (used stat : Nat) (s : State) :
    (s.writeBack kind n d used stat).ring kind n = (s.ring kind n).advance kind := by
  unfold State.writeBack
  dsimp only
  rw [ring_of_hide (whenS_frame _ _ _ _ fun u => State.intr_frame _ (by decide) ..)]
  exact State.setRing_get ..

theorem State.memWritten_hostMem (a : Nat) (bs : List Byte) (s : State) : (s.memWritten a bs).hostMem = memWrite s.hostMem a bs := rfl
theorem State.memWritten_ring (a : Nat) (bs : List Byte) (s : State) (kind n : Nat) : (s.memWritten a bs).ring kind n = s.ring kind n := rfl

/-- The write-back form of a descriptor, with the ring's phase (09 Table HR-7). -/
def Ring.backBytes (r : Ring) (used stat : Nat) : List Byte := leBytes 4 used ++ leBytes 1 stat ++ [0] ++ leBytes 2 (putB r.phase 15)

theorem Ring.backBytes_ok (r : Ring) (used : Nat) : r.backBytes used 0 = leBytes 4 used ++ [0, 0] ++ leBytes 2 (putB r.phase 15) :=
  congrArg (· ++ leBytes 2 (putB r.phase 15)) (List.append_assoc (leBytes 4 used) [0] [0])

/-- A descriptor of a ring without interrupts is written back at the device index, and the index moves on. -/
theorem State.writeBack_quiet {s : State} {kind n : Nat} (hd : s.dmaOn = true) (hi : (s.ring kind n).intMode = 0) (d : BufDesc)
    (used stat : Nat) : s.writeBack kind n d used stat =
      (s.memWritten ((s.ring kind n).addrOf 16 (s.ring kind n).dev + 8) ((s.ring kind n).backBytes used stat)).setRing kind n
        ((s.ring kind n).advance kind) := by
  unfold State.writeBack
  dsimp only
  rw [Ring.intNow_quiet hi, State.dma_on hd]
  rfl

/-! ### A host-to-device block is judged (R307) -/

theorem State.strLate_strm (g : Nat) (s : State) : (s.strLate g).strm g = { s.strm g with lateSeen := true } := by
  unfold State.strLate State.strEvent
  rw [strm_of_hide (whenS_frame _ _ _ _ fun u => State.raiseU_frame _ (by decide) ..), State.modStrm_get]

/-- The first play frame that a block names. -/
def playFrame (b : List Byte) : Word := BitVec.ofNat 32 (leNat (bytesAt b 8 4))

/-- The rows of a block, each with the frame it plays in. -/
def blockRows (o : StreamOp) (b : List Byte) : List (Word × Word × List Byte) :=
  (List.range (strD o)).map (fun k => (playFrame b + BitVec.ofNat 32 k, playFrame b, bytesAt b (16 + k * o.k) o.k))

/-- A group that has taken a block's rows. -/
def Stream.accepted (o : StreamOp) (b : List Byte) (x : Stream) : Stream := { x.count 0 1 with rows := x.rows ++ blockRows o b }

section

variable {g len l : Nat} {b : List Byte} {s : State} {x : StreamDir}

/-- A block for a frame to come is judged by its lead and by what plays in its frames already. -/
theorem State.blockLate_some (hl : s.lead (playFrame b) = some l) (o : StreamOp) : s.blockLate g o b =
    if l < 4860 then (false, (s.modStrm g (Stream.count 1 1)).strLate g)
    else if 77760 < l then (false, (s.modStrm g (Stream.count 2 1)).strLate g)
    else if (List.range (strD o)).any (fun k => (s.strm g).rows.any (fun r => decide (r.1 = playFrame b + BitVec.ofNat 32 k))) then
      (false, s.modStrm g (Stream.count 3 1))
    else (true, s.modStrm g (Stream.accepted o b)) := by
  unfold State.blockLate
  dsimp only
  rw [show s.lead (BitVec.ofNat 32 (leNat (bytesAt b 8 4))) = some l from hl]
  rfl

theorem State.blockLate_short (h : ∀ l, s.lead (playFrame b) = some l → l < 4860) (o : StreamOp) :
    (s.blockLate g o b).2 = (s.modStrm g (Stream.count 1 1)).strLate g := by
  unfold State.blockLate
  dsimp only
  split
  next => rfl
  next l hl => rw [if_pos (h l hl)]

theorem State.blockLate_long (hl : s.lead (playFrame b) = some l) (h : 77760 < l) (o : StreamOp) :
    (s.blockLate g o b).2 = (s.modStrm g (Stream.count 2 1)).strLate g := by
  rw [State.blockLate_some hl, if_neg (by omega), if_pos h]

/-- No row of the block plays in a frame that has one already. -/
theorem State.blockLate_plays (hl : s.lead (playFrame b) = some l) (h1 : 4860 ≤ l) (h2 : l ≤ 77760) {o : StreamOp}
    (hf : ∀ r ∈ blockRows o b, ∀ q ∈ (s.strm g).rows, q.1 ≠ r.1) :
    (s.blockLate g o b).2 = s.modStrm g (Stream.accepted o b) := by
  have hany : ((List.range (strD o)).any fun k => (s.strm g).rows.any fun r => decide (r.1 = playFrame b + BitVec.ofNat 32 k)) = false := by
    simp only [List.any_eq_false, decide_eq_true_eq, List.any_eq_true, not_exists, not_and]
    exact fun k hk q hq => hf _ (List.mem_map_of_mem hk) q hq
  rw [State.blockLate_some hl, if_neg (by omega), if_neg (by omega), if_neg (Bool.eq_false_iff.1 hany)]

theorem State.blockJudge_badHeader (hi : (s.strm g).inn = some x) (hh : headerOk g x.op len b = false) :
    s.blockJudge g len b = s.modStrm g (Stream.count 3 1) := by
  unfold State.blockJudge
  rw [hi]
  exact if_pos (by rw [hh]; rfl)

theorem State.blockJudge_checked (hi : (s.strm g).inn = some x) (hh : headerOk g x.op len b = true) (hc : s.checkOk g x.op b = true) :
    s.blockJudge g len b = (s.blockLate g x.op b).2 := by
  unfold State.blockJudge
  rw [hi]
  exact (if_neg (by rw [hh]; decide)).trans (if_pos hc)

end

/-- The group whose SEQ has been compared: a gap is counted and the number kept (R308). -/
def Stream.seqSeen (n : Nat) (q : Option Word) (x : Stream) : Stream := { x.count 5 n with prevSeq := q }

theorem State.seqCheck_strm (g : Nat) (b : List Byte) (s : State) : ∃ n q, (s.seqCheck g b).strm g = (s.strm g).seqSeen n q :=
  ⟨_, _, State.setStrm_get ..⟩

/-- The counter of a verdict moves by one, beside that of the gaps. -/
theorem Stream.seqSeen_counted (x : Stream) (n : Nat) (q : Option Word) {c : Nat} (hc : c ≠ 5) :
    tget 0 ((x.seqSeen n q).count c 1).cnts c = tget 0 x.cnts c + 1 :=
  (Stream.count_cnts_same ..).trans (congrArg (· + 1) (Stream.count_cnts_other 5 n x hc))

/-- A group that takes no row of a block counts the verdict `c`, and ACCEPTED does not move. -/
structure Stream.TurnsDown (c : Nat) (x y : Stream) : Prop where
  rows : y.rows = x.rows
  counted : tget 0 y.cnts c = tget 0 x.cnts c + 1
  accepted : tget 0 y.cnts 0 = tget 0 x.cnts 0

theorem Stream.seqSeen_turnsDown (x : Stream) (n : Nat) (q : Option Word) {c : Nat} (h0 : 0 ≠ c) (hc : c ≠ 5) :
    x.TurnsDown c ((x.seqSeen n q).count c 1) where
  rows := rfl
  counted := x.seqSeen_counted n q hc
  accepted := (Stream.count_cnts_other c 1 _ h0).trans (Stream.count_cnts_other 5 n x (by decide))

theorem Stream.TurnsDown.late {c : Nat} {x y : Stream} (h : x.TurnsDown c y) : x.TurnsDown c { y with lateSeen := true } :=
  ⟨h.rows, h.counted, h.accepted⟩

theorem execVoiceBlockArrival_judges {g : Fin 256} {d : BufDesc} {s : State} (hb : s.hasBuf 2 g = true) (hd : bufOk d = true)
    (b : List Byte) : exec (.voiceBlockArrival g d b) s = .next (((s.seqCheck g b).blockJudge g d.len.toNat b).consume 2 g) := by
  refine congrArg Host.Outcome.next ?_
  rw [if_neg (by rw [hb]; decide), if_neg (by rw [hd]; decide)]

theorem State.consume_strm (kind n g : Nat) (s : State) : (s.consume kind n).strm g = s.strm g := rfl

theorem State.blockJudge_ring (g len : Nat) (b : List Byte) (s : State) (k n : Nat) :
    ((s.seqCheck g b).blockJudge g len b).ring k n = s.ring k n := by
  rw [ring_of_hide (State.blockJudge_frame _ (by decide) ..), ring_of_hide (State.seqCheck_frame _ (by decide) ..)]

/-! ### A device-to-host block is written (R312) -/

/-- The oldest whole block of a group is written into a buffer that it fits, and the descriptor after it. -/
theorem State.outTake_whole {g : Nat} {d : BufDesc} {s : State} {b : OutBlock} {r : List OutBlock} {o : StreamOp}
    (hw : (s.strm g).wait = b :: r) (ho : (s.strm g).outOp = some o) (hd : bufOk d = true) (hl : blockLen o ≤ d.len.toNat) :
    s.outTake g d = (s.setStrm g { s.strm g with wait := r }).outWrite g o b d := by
  unfold State.outTake
  dsimp only
  rw [hw, ho]
  dsimp only
  rw [if_neg (by rw [hd]; decide), if_neg (Nat.not_lt.2 hl)]

theorem State.outWrite_ring (g : Nat) (o : StreamOp) (b : OutBlock) (d : BufDesc) (s : State) :
    (s.outWrite g o b d).ring 3 g = (s.ring 3 g).advance 3 := by
  rw [State.outWrite, State.writeBack_ring, ring_of_hide (State.dma_frame _ (by decide) ..)]

theorem State.outWrite_hostMem {g : Nat} {s : State} (hon : s.dmaOn = true) (hi : (s.ring 3 g).intMode = 0) (o : StreamOp) (b : OutBlock)
    (d : BufDesc) : (s.outWrite g o b d).hostMem =
      memWrite (memWrite s.hostMem d.addr.toNat (s.outBytes g o b)) ((s.ring 3 g).addrOf 16 (s.ring 3 g).dev + 8)
        ((s.ring 3 g).backBytes (blockLen o) 0) := by
  rw [State.outWrite, State.dma_on hon, State.writeBack_quiet (s := s.memWritten d.addr.toNat (s.outBytes g o b)) hon hi,
    State.setRing_hostMem, State.memWritten_hostMem, State.memWritten_hostMem, State.memWritten_ring]

/-! ### The obligation -/

/-- Settles O46: a block by the tests that it passes, its descriptor by `consume_dev`; a block sent by what `outWrite` leaves. -/
theorem voiceBlocks : Obligations.VoiceBlocks := by
  unfold Obligations.VoiceBlocks
  refine ⟨?arrival, fun g d b s hb => congrArg Host.Outcome.next (if_pos (by rw [hb]; rfl)), ?write⟩
  case arrival =>
    intro g d b s x hb hd hi p rows free good
    refine ⟨_, execVoiceBlockArrival_judges hb hd b, ?_⟩
    have hdev := State.consume_dev 2 g ((s.seqCheck g b).blockJudge g d.len.toNat b)
    rw [State.blockJudge_ring] at hdev
    obtain ⟨n, q, hu⟩ := s.seqCheck_strm g b
    have hin : ((s.seqCheck g b).strm g).inn = some x := by rw [hu]; exact hi
    have hchecked (hg : good) (hc : s.checkOk g x.op b = true) :
        (((s.seqCheck g b).blockJudge g d.len.toNat b).consume 2 g).strm g = ((s.seqCheck g b).blockLate g x.op b).2.strm g := by
      rw [State.consume_strm, State.blockJudge_checked hin hg hc]
    refine ⟨hdev, fun l hg hc hl h1 h2 hf => ?plays, fun hg => ?rejected, fun hg hc hs => ?short, fun l hg hc hl hlong => ?long⟩
    case plays =>
      have h := hchecked hg hc
      rw [State.blockLate_plays (s := s.seqCheck g b) hl h1 h2 (by rw [hu]; exact hf), State.modStrm_get, hu] at h
      rw [h]
      exact ⟨rfl, Stream.seqSeen_counted _ n q (by decide)⟩
    case rejected =>
      have h : (((s.seqCheck g b).blockJudge g d.len.toNat b).consume 2 g).strm g = ((s.strm g).seqSeen n q).count 3 1 := by
        rw [State.consume_strm, State.blockJudge_badHeader hin (Bool.eq_false_iff.2 hg), State.modStrm_get, hu]
      obtain ⟨hrows, hcnt, hacc⟩ := h ▸ Stream.seqSeen_turnsDown (s.strm g) n q (c := 3) (by decide) (by decide)
      exact ⟨hrows, hcnt, hacc⟩
    case short =>
      have h := hchecked hg hc
      rw [State.blockLate_short (s := s.seqCheck g b) hs, State.strLate_strm, State.modStrm_get, hu] at h
      obtain ⟨hrows, hcnt, hacc⟩ := h ▸ (Stream.seqSeen_turnsDown (s.strm g) n q (c := 1) (by decide) (by decide)).late
      exact ⟨hrows, hcnt, hacc⟩
    case long =>
      have h := hchecked hg hc
      rw [State.blockLate_long (s := s.seqCheck g b) hl hlong, State.strLate_strm, State.modStrm_get, hu] at h
      obtain ⟨hrows, hcnt, hacc⟩ := h ▸ (Stream.seqSeen_turnsDown (s.strm g) n q (c := 2) (by decide) (by decide)).late
      exact ⟨hrows, hcnt, hacc⟩
  case write =>
    intro g d s b r o hb hd hw ho hl hi
    refine ⟨_, congrArg Host.Outcome.next (if_pos hb), ?_⟩
    rw [State.outTake_whole hw ho hd hl]
    have hwait := (strm_of_hide (State.outWrite_frame _ (by decide) g o b d _) g).trans (State.setStrm_get s g { s.strm g with wait := r })
    have hring := State.outWrite_ring g o b d (s.setStrm g { s.strm g with wait := r })
    have hmem := State.outWrite_hostMem (s := s.setStrm g { s.strm g with wait := r }) (State.dmaOn_of_hasBuf hb) hi o b d
    rw [Ring.backBytes_ok] at hmem
    exact ⟨congrArg Stream.wait hwait, congrArg Ring.dev hring, hmem⟩

end Sys2Proof.Machine
end

section
/-! O47. The GFP commands, the client frames that are fetched, and the delineator's states (11 R319, R321-R328, Table ST-4). -/

namespace Sys2Proof.Machine

/-! ### A channel -/

@[simp] theorem State.modGfp_get (ch : Nat) (f : Gfp → Gfp) (s : State) : (s.modGfp ch f).gfp ch = f (s.gfp ch) := State.setGfp_get ..
theorem State.modGfp_get_other (ch : Nat) (f : Gfp → Gfp) (s : State) (k : Nat) (h : k ≠ ch) : (s.modGfp ch f).gfp k = s.gfp k :=
  State.setGfp_get_other _ _ _ _ h

/-- What leaves the GFP channels leaves each of them. -/
theorem gfp_of_hide {s t : State} (h : t.hide 30786325577727 = s.hide 30786325577727) (ch : Nat) : t.gfp ch = s.gfp ch := by
  unfold State.gfp
  rw [gfps_of_hide h]

/-- LFD stands as it is told; beside it only the sticky bit can change. -/
theorem State.setLfd_gfp (ch : Nat) (on : Bool) (s : State) :
    ∃ b, (s.setLfd ch on).gfp ch = { s.gfp ch with lfd := on, lfdSticky := b } := by
  unfold State.setLfd
  dsimp only
  split
  next h => exact ⟨(s.gfp ch).lfdSticky, by rw [← h]⟩
  next =>
    refine ⟨(s.gfp ch).lfdSticky || on, ?_⟩
    rw [gfp_of_hide (State.raiseU_frame _ (by decide) ..), gfp_of_hide (State.seeDef_frame _ (by decide) ..), State.setGfp_get]

theorem State.setLfd_gfp_other (ch : Nat) (on : Bool) (s : State) {k : Nat} (hk : k ≠ ch) : (s.setLfd ch on).gfp k = s.gfp k := by
  unfold State.setLfd
  dsimp only
  split
  · rfl
  · rw [gfp_of_hide (State.raiseU_frame _ (by decide) ..), gfp_of_hide (State.seeDef_frame _ (by decide) ..),
      State.setGfp_get_other _ _ _ _ hk]

/-! ### GFP_OPEN (R321, R326) -/

/-- A channel open for transmission, nothing held. -/
def Gfp.txOpened (o : GfpOp) (x : Gfp) : Gfp := { x with tx := some o, held := [], cur := none, idleOct := 0, scrTx := [] }

/-- The receive half of GFP_OPEN: the channel hunts, with LFD. -/
def State.rxOpened (o : GfpOp) (s : State) : State :=
  (s.modGfp o.ch (fun x => { x.hunt with rx := some o, lfd := false, scrRx := [] })).setLfd o.ch true

theorem State.gfpOpen_eq (o : GfpOp) (s : State) :
    s.gfpOpen o = whenS o.dirRx (State.rxOpened o) (whenS o.dirTx (State.modGfp o.ch (Gfp.txOpened o)) s) := rfl

theorem State.rxOpened_gfp (o : GfpOp) (s : State) : ∃ b, (s.rxOpened o).gfp o.ch =
    { (s.gfp o.ch).hunt with rx := some o, lfd := true, lfdSticky := b, scrRx := [] } := by
  obtain ⟨b, hb⟩ := State.setLfd_gfp o.ch true (s.modGfp o.ch (fun x => { x.hunt with rx := some o, lfd := false, scrRx := [] }))
  refine ⟨b, ?_⟩
  rw [State.rxOpened, hb, State.modGfp_get]

theorem State.gfpOpen_gfp_other (o : GfpOp) (s : State) {k : Nat} (hk : k ≠ o.ch) : (s.gfpOpen o).gfp k = s.gfp k := by
  have htx : (whenS o.dirTx (State.modGfp o.ch (Gfp.txOpened o)) s).gfp k = s.gfp k := by
    cases o.dirTx
    · rfl
    · exact State.modGfp_get_other _ _ _ _ hk
  rw [State.gfpOpen_eq]
  cases o.dirRx
  · exact htx
  · exact (State.setLfd_gfp_other _ _ _ hk).trans ((State.modGfp_get_other _ _ _ _ hk).trans htx)

theorem State.gfpOpen_tx (o : GfpOp) (s : State) :
    (whenS o.dirTx (State.modGfp o.ch (Gfp.txOpened o)) s).gfp o.ch = if o.dirTx then (s.gfp o.ch).txOpened o else s.gfp o.ch := by
  cases o.dirTx
  · rfl
  · exact State.modGfp_get ..

/-- The receive half leaves the transmit side as the transmit half made it. -/
theorem State.gfpOpen_txSide (o : GfpOp) (s : State) :
    let x := if o.dirTx then (s.gfp o.ch).txOpened o else s.gfp o.ch
    ((s.gfpOpen o).gfp o.ch).tx = x.tx ∧ ((s.gfpOpen o).gfp o.ch).held = x.held ∧ ((s.gfpOpen o).gfp o.ch).cur = x.cur := by
  rw [State.gfpOpen_eq, ← State.gfpOpen_tx]
  generalize whenS o.dirTx (State.modGfp o.ch (Gfp.txOpened o)) s = u
  cases o.dirRx
  · exact ⟨rfl, rfl, rfl⟩
  · obtain ⟨b, hb⟩ := State.rxOpened_gfp o u
    rw [whenS, if_pos rfl, hb]
    exact ⟨rfl, rfl, rfl⟩

theorem State.gfpOpen_rx {o : GfpOp} (h : o.dirRx = true) (s : State) :
    ((s.gfpOpen o).gfp o.ch).rx = some o ∧ ((s.gfpOpen o).gfp o.ch).delin = 0 ∧ ((s.gfpOpen o).gfp o.ch).lfd = true := by
  rw [State.gfpOpen_eq, h, whenS, if_pos rfl]
  obtain ⟨b, hb⟩ := State.rxOpened_gfp o (whenS o.dirTx (State.modGfp o.ch (Gfp.txOpened o)) s)
  rw [hb]
  exact ⟨rfl, rfl, rfl⟩

theorem State.gfpOpen_notRx {o : GfpOp} (h : o.dirRx = false) (s : State) :
    ((s.gfpOpen o).gfp o.ch).rx = (s.gfp o.ch).rx ∧ ((s.gfpOpen o).gfp o.ch).delin = (s.gfp o.ch).delin := by
  rw [State.gfpOpen_eq, h, whenS, if_neg Bool.false_ne_true, State.gfpOpen_tx]
  split
  · exact ⟨rfl, rfl⟩
  · exact ⟨rfl, rfl⟩

/-! ### GFP_CLOSE (R325) -/

/-- The receive half of GFP_CLOSE. -/
def State.rxClosed (ch : Nat) (s : State) : State :=
  (s.seeBits 4 ch (b2n (s.gfp ch).lfd)).modGfp ch (fun x => { x.hunt with rx := none, lfd := false })

theorem State.gfpClose_eq (ch : Nat) (tx rx : Bool) (s : State) :
    s.gfpClose ch tx rx = whenS rx (State.rxClosed ch) (whenS tx (State.modGfp ch Gfp.closeTx) s) := rfl

theorem State.rxClosed_gfp (ch : Nat) (s : State) : (s.rxClosed ch).gfp ch = { (s.gfp ch).hunt with rx := none, lfd := false } :=
  State.modGfp_get ..

theorem State.rxClosed_gfp_other (ch : Nat) (s : State) {k : Nat} (hk : k ≠ ch) : (s.rxClosed ch).gfp k = s.gfp k :=
  State.modGfp_get_other _ _ _ _ hk

theorem State.gfpClose_gfp_other (ch : Nat) (tx rx : Bool) (s : State) {k : Nat} (hk : k ≠ ch) :
    (s.gfpClose ch tx rx).gfp k = s.gfp k := by
  have htx : (whenS tx (State.modGfp ch Gfp.closeTx) s).gfp k = s.gfp k := by
    cases tx
    · rfl
    · exact State.modGfp_get_other _ _ _ _ hk
  rw [State.gfpClose_eq]
  cases rx
  · exact htx
  · exact (State.rxClosed_gfp_other ch _ hk).trans htx

theorem State.gfpClose_tx (ch : Nat) (tx : Bool) (s : State) :
    (whenS tx (State.modGfp ch Gfp.closeTx) s).gfp ch = if tx then (s.gfp ch).closeTx else s.gfp ch := by
  cases tx
  · rfl
  · exact State.modGfp_get ..

/-- The receive half leaves the transmit side as the transmit half made it. -/
theorem State.gfpClose_txSide (ch : Nat) (tx rx : Bool) (s : State) :
    let x := if tx then (s.gfp ch).closeTx else s.gfp ch
    ((s.gfpClose ch tx rx).gfp ch).tx = x.tx ∧ ((s.gfpClose ch tx rx).gfp ch).held = x.held := by
  rw [State.gfpClose_eq, ← State.gfpClose_tx]
  generalize whenS tx (State.modGfp ch Gfp.closeTx) s = u
  cases rx
  · exact ⟨rfl, rfl⟩
  · rw [whenS, if_pos rfl, State.rxClosed_gfp]
    exact ⟨rfl, rfl⟩

theorem State.gfpClose_rx (ch : Nat) (tx : Bool) (s : State) :
    ((s.gfpClose ch tx true).gfp ch).rx = none ∧ ((s.gfpClose ch tx true).gfp ch).lfd = false := by
  rw [State.gfpClose_eq, whenS, if_pos rfl, State.rxClosed_gfp]
  exact ⟨rfl, rfl⟩

theorem State.gfpClose_notRx (ch : Nat) (tx : Bool) (s : State) : ((s.gfpClose ch tx false).gfp ch).rx = (s.gfp ch).rx := by
  rw [State.gfpClose_eq, whenS, if_neg Bool.false_ne_true, State.gfpClose_tx]
  split
  · rfl
  · rfl

/-! ### GFP_FLUSH (R319) -/

/-- The transmit half of GFP_FLUSH. -/
def State.txFlushed (ch : Nat) (s : State) : State :=
  (s.consumeAll 4 ch).2.modGfp ch (fun x => x.abort.dropHeld.count 7 (s.consumeAll 4 ch).1)

theorem State.gfpFlush_eq (ch : Nat) (tx rx : Bool) (s : State) : s.gfpFlush ch tx rx =
    whenS rx (fun s => (s.modGfp ch Gfp.hunt).setLfd ch true) (whenS tx (State.txFlushed ch) s) := rfl

theorem State.txFlushed_gfp (ch : Nat) (s : State) :
    (s.txFlushed ch).gfp ch = (s.gfp ch).abort.dropHeld.count 7 (s.consumeAll 4 ch).1 := by
  rw [State.txFlushed, State.modGfp_get, gfp_of_hide (State.consumeAll_frame _ (by decide) ..)]

/-- A hunt with LFD declared. -/
theorem State.hunts_gfp (ch : Nat) (s : State) :
    ∃ b, ((s.modGfp ch Gfp.hunt).setLfd ch true).gfp ch = { (s.gfp ch).hunt with lfd := true, lfdSticky := b } := by
  obtain ⟨b, hb⟩ := State.setLfd_gfp ch true (s.modGfp ch Gfp.hunt)
  exact ⟨b, by rw [hb, State.modGfp_get]⟩

theorem State.gfpFlush_tx (ch : Nat) (tx : Bool) (s : State) :
    ((whenS tx (State.txFlushed ch) s).gfp ch).tx = (s.gfp ch).tx ∧ ((whenS tx (State.txFlushed ch) s).gfp ch).rx = (s.gfp ch).rx ∧
    (tx = true → ((whenS tx (State.txFlushed ch) s).gfp ch).held = []) := by
  cases tx
  · exact ⟨rfl, rfl, Bool.noConfusion⟩
  · rw [whenS, if_pos rfl, State.txFlushed_gfp]
    exact ⟨rfl, rfl, fun _ => rfl⟩

/-- Neither half closes a direction; the receive half hunts with LFD. -/
theorem State.gfpFlush_gfp (ch : Nat) (tx rx : Bool) (s : State) :
    ((s.gfpFlush ch tx rx).gfp ch).tx = (s.gfp ch).tx ∧ ((s.gfpFlush ch tx rx).gfp ch).rx = (s.gfp ch).rx ∧
    (tx = true → ((s.gfpFlush ch tx rx).gfp ch).held = []) ∧
    (rx = true → ((s.gfpFlush ch tx rx).gfp ch).delin = 0 ∧ ((s.gfpFlush ch tx rx).gfp ch).lfd = true) := by
  obtain ⟨htx, hrx, hheld⟩ := State.gfpFlush_tx ch tx s
  rw [State.gfpFlush_eq]
  generalize whenS tx (State.txFlushed ch) s = u at htx hrx hheld ⊢
  cases rx
  · exact ⟨htx, hrx, hheld, Bool.noConfusion⟩
  · obtain ⟨b, hb⟩ := State.hunts_gfp ch u
    rw [whenS, if_pos rfl, hb]
    exact ⟨htx, hrx, hheld, fun _ => ⟨rfl, rfl⟩⟩

/-! ### Client frames fetched (R322, R323) -/

/-- The frame being fetched is the last one held, where that is not whole. -/
theorem Gfp.fetching_last {x : Gfp} {l : List (Nat × List Byte)} {e : Nat × List Byte} (h : x.held = l ++ [e]) :
    x.fetching = decide (e.2.length < e.1) := by
  unfold Gfp.fetching
  rw [h, List.getLast?_concat]

/-- Bytes that are read go to the last frame held, as many as it lacks. -/
theorem Gfp.fetch_last {x : Gfp} {l : List (Nat × List Byte)} {e : Nat × List Byte} (h : x.held = l ++ [e]) (data : List Byte) :
    x.fetch data = { x with held := l ++ [(e.1, (e.2 ++ data).take e.1)] } := by
  unfold Gfp.fetch
  rw [h, List.getLast?_concat, List.dropLast_concat]

/-- The frame that new bytes of the ring belong to: the one being fetched, else a new one of `n` bytes. -/
def Gfp.receiving (n : Nat) (x : Gfp) : Gfp := if x.fetching then x else { x with held := x.held ++ [(n, [])] }

section

variable {ch : Nat} {o : GfpOp} {d : BufDesc} {s : State}

/-- A frame longer than MAX_LEN is taken off its ring and counted. -/
theorem State.gfpFetch_long (hd : bufOk d = true) (hf : (s.gfp ch).fetching = false) (hl : o.maxLen < d.len.toNat) (data : List Byte) :
    s.gfpFetch ch o d data = (s.consume 4 ch).modGfp ch (Gfp.count 2 1) := by
  unfold State.gfpFetch
  rw [if_neg (by rw [hd]; simp), if_pos (by simp [hf, hl])]

/-- The channel has the bytes read. -/
def State.gfpTook (ch n : Nat) (data : List Byte) (s : State) : State := s.modGfp ch (fun x => (x.receiving n).fetch data)

/-- Any other frame of a good descriptor takes the bytes read. -/
theorem State.gfpFetch_takes (hd : (s.gfp ch).fetching = true ∨ bufOk d = true ∧ d.len.toNat ≤ o.maxLen ∧ gfpPli o d.len.toNat ≤ 65535)
    (data : List Byte) : s.gfpFetch ch o d data =
      if ((s.gfpTook ch d.len.toNat data).gfp ch).fetching then (s.gfpTook ch d.len.toNat data).readOk 4 ch
      else (s.gfpTook ch d.len.toNat data).consume 4 ch := by
  unfold State.gfpFetch
  rw [if_neg (by rcases hd with h | ⟨h, -⟩ <;> simp [h]), if_neg (by rcases hd with h | ⟨-, h⟩ <;> simp [h])]
  rfl

theorem State.readOk_gfp (kind n ch : Nat) (s : State) : (s.readOk kind n).gfp ch = s.gfp ch := rfl
theorem State.consume_gfp (kind n ch : Nat) (s : State) : (s.consume kind n).gfp ch = s.gfp ch := rfl
theorem State.readOk_dev (kind n : Nat) (s : State) : ((s.readOk kind n).ring kind n).dev = (s.ring kind n).dev := by
  rw [State.readOk, State.modRing_get]
theorem State.gfpTook_ring (ch n : Nat) (data : List Byte) (s : State) (k m : Nat) : (s.gfpTook ch n data).ring k m = s.ring k m := rfl

/-- The last frame held has the bytes; its descriptor is consumed with the last of them. -/
theorem State.gfpFetch_last (hd : (s.gfp ch).fetching = true ∨ bufOk d = true ∧ d.len.toNat ≤ o.maxLen ∧ gfpPli o d.len.toNat ≤ 65535)
    {data : List Byte} {l : List (Nat × List Byte)} {e : Nat × List Byte} (hh : ((s.gfp ch).receiving d.len.toNat).held = l ++ [e]) :
    ((s.gfpFetch ch o d data).gfp ch).held = l ++ [(e.1, (e.2 ++ data).take e.1)] ∧
    ((s.gfpFetch ch o d data).ring 4 ch).dev =
      if e.1 ≤ e.2.length + data.length then ((s.ring 4 ch).dev + 1) % ringLen 4 (s.ring 4 ch) else (s.ring 4 ch).dev := by
  have htook : ((s.gfpTook ch d.len.toNat data).gfp ch).held = l ++ [(e.1, (e.2 ++ data).take e.1)] := by
    rw [State.gfpTook, State.modGfp_get, Gfp.fetch_last hh]
  have hstill : ((s.gfpTook ch d.len.toNat data).gfp ch).fetching = true ↔ ¬ e.1 ≤ e.2.length + data.length := by
    rw [Gfp.fetching_last htook, decide_eq_true_iff, List.length_take, List.length_append]
    omega
  rw [State.gfpFetch_takes hd]
  split
  next h =>
    rw [State.readOk_gfp, State.readOk_dev, State.gfpTook_ring, if_neg (hstill.1 h)]
    exact ⟨htook, rfl⟩
  next h =>
    rw [State.consume_gfp, State.consume_dev, State.gfpTook_ring, if_pos (not_not.1 fun hn => h (hstill.2 hn))]
    exact ⟨htook, rfl⟩

end

theorem execGfpTxFrame_fetches {ch : Fin 64} {o : GfpOp} {s : State} (ht : (s.gfp ch).tx = some o) (hb : s.hasBuf 4 ch = true)
    (d : BufDesc) (data : List Byte) : exec (.gfpTxFrame ch d data) s = .next (s.gfpFetch ch o d data) := by
  refine congrArg Host.Outcome.next ?_
  rw [ht]
  exact if_pos hb

/-! ### The search for a header (R326) -/

/-- A header needs its four octets. -/
theorem gfpChecks_nil (o : GfpOp) : gfpChecks o [] = false := rfl

theorem lt_length_of_gfpChecks {o : GfpOp} {l : List Byte} (h : gfpChecks o l = true) : 3 < l.length := by
  simp only [gfpChecks, Bool.and_eq_true, Bool.not_eq_true', List.isEmpty_eq_false_iff, ne_eq, List.drop_eq_nil_iff, not_le] at h
  exact h.1.1

/-- The search answers the octets from the first position on at which a header checks. -/
theorem gfpScan_eq_some {o : GfpOp} {l m : List Byte} : gfpScan o l = some m ↔
    ∃ k, m = l.drop k ∧ gfpChecks o m = true ∧ ∀ j, j < k → gfpChecks o (l.drop j) = false := by
  induction l with
  | nil =>
    refine ⟨fun h => (by cases h), ?_⟩
    rintro ⟨k, rfl, hm, -⟩
    rw [List.drop_nil, gfpChecks_nil] at hm
    cases hm
  | cons b l ih =>
    unfold gfpScan
    split
    next hb =>
      rw [Option.some_inj]
      constructor
      · rintro rfl
        exact ⟨0, rfl, hb, fun j hj => absurd hj (Nat.not_lt_zero j)⟩
      · rintro ⟨k, rfl, -, hbefore⟩
        cases k with
        | zero => rfl
        | succ k => exact absurd hb (Bool.eq_false_iff.1 (hbefore 0 (Nat.succ_pos k)))
    next hb =>
      rw [ih]
      constructor
      · rintro ⟨k, rfl, hm, hbefore⟩
        refine ⟨k + 1, rfl, hm, fun j hj => ?_⟩
        cases j with
        | zero => exact Bool.eq_false_iff.2 hb
        | succ j => exact hbefore j (Nat.lt_of_succ_lt_succ hj)
      · rintro ⟨k, rfl, hm, hbefore⟩
        cases k with
        | zero => exact absurd hm hb
        | succ k => exact ⟨k, rfl, hm, fun j hj => hbefore (j + 1) (Nat.succ_lt_succ hj)⟩

/-! ### The delineator (Table ST-4) -/

section

variable {ch : Nat} {o : GfpOp} {d : BufDesc} {s : State}

/-- Outside SYNC the header of a channel is searched for, with LFD unless the search ends in SYNC. -/
theorem State.gfpHeader_searches (h : (s.gfp ch).delin ≠ 2) : s.gfpHeader ch o d =
    (s.setGfp ch ((s.gfp ch).search o)).setLfd ch (((s.gfp ch).search o).delin ≠ 2) :=
  if_pos h

theorem State.gfpHeader_search_gfp (h : (s.gfp ch).delin ≠ 2) : ∃ b, (s.gfpHeader ch o d).gfp ch =
    { (s.gfp ch).search o with lfd := decide (((s.gfp ch).search o).delin ≠ 2), lfdSticky := b } := by
  obtain ⟨b, hb⟩ := State.setLfd_gfp ch (decide (((s.gfp ch).search o).delin ≠ 2)) (s.setGfp ch ((s.gfp ch).search o))
  exact ⟨b, by rw [State.gfpHeader_searches h, hb, State.setGfp_get]⟩

theorem execGfpRxHeader_handles {ch : Fin 64} (hr : (s.gfp ch).rx = some o) (d : BufDesc) :
    exec (.gfpRxHeader ch d.addr d.ctl) s = .next (s.gfpHeader ch o d) := by
  refine congrArg Host.Outcome.next ?_
  rw [hr]
  rfl

/-- In SYNC a header that does not check, with no correction set, is lost. -/
theorem State.gfpHeader_lost (h : (s.gfp ch).delin = 2) (hl : 4 ≤ (s.gfp ch).rxOct.length)
    (hc : hecOk (gfpCore o (s.gfp ch).rxOct) = false) (ho : o.checCorr = false) : s.gfpHeader ch o d =
      (s.setGfp ch ((s.gfp ch).huntIn ((s.gfp ch).rxOct.drop 1))).setLfd ch true := by
  unfold State.gfpHeader
  dsimp only
  rw [if_neg (not_not.2 h), if_neg (Nat.not_lt.2 hl), hc, ho]
  rfl

end

theorem Gfp.search_found {o : GfpOp} {x : Gfp} {l : List Byte} (h : x.delin = 0) (hl : gfpScan o x.rxOct = some l) :
    x.search o = x.candidate o l := by
  unfold Gfp.search
  rw [if_pos h, hl]

theorem Gfp.search_none {o : GfpOp} {x : Gfp} (h : x.delin = 0) (hl : gfpScan o x.rxOct = none) :
    x.search o = x.huntIn (x.rxOct.drop (x.rxOct.length - 3)) := by
  unfold Gfp.search
  rw [if_pos h, hl]

/-- The last of DELTA right headers ends PRESYNC. -/
theorem Gfp.search_synced {o : GfpOp} {x : Gfp} (h : x.delin = 1) (hc : gfpChecks o (x.rxOct.drop x.next) = true)
    (hd : o.delta ≤ x.good + 1) : (x.search o).delin = 2 := by
  have hlen := lt_length_of_gfpChecks hc
  rw [List.length_drop] at hlen
  unfold Gfp.search
  rw [if_neg (by omega), if_neg (by omega), if_pos hc, if_pos hd]

/-! ### The obligation -/

/-- Settles O47: the commands by their halves, a client frame by what the last frame held takes, the delineator by its search. -/
theorem gfpChannels : Obligations.GfpChannels := by
  unfold Obligations.GfpChannels
  refine ⟨fun h o s hc => hc.does (u := s.gfpOpen o) rfl rfl rfl rfl fun l p hd => ?opened,
    fun h ch a b s hc => hc.does (u := s.gfpClose ch a b) rfl rfl rfl rfl fun l p hd => ?closed,
    fun h ch a b s hc => hc.does (u := s.gfpFlush ch a b) rfl rfl rfl rfl fun l p hd => ?flushed,
    fun ch d data s o ht hb hd hf => ⟨_, execGfpTxFrame_fetches ht hb d data, ?frame⟩,
    fun ch d data s o l e ht hb hh he => ⟨_, execGfpTxFrame_fetches ht hb d data, ?more⟩,
    fun o l m => gfpScan_eq_some,
    fun ch d s o hr => ?header⟩
  case opened =>
    simp only [withComps_gfp_eq, withPmc_gfp_eq]
    obtain ⟨htx, hheld, hcur⟩ := State.gfpOpen_txSide o s
    refine ⟨hd, fun k hk => State.gfpOpen_gfp_other o s hk, fun ht => ?_, fun ht => ?_, fun hr => State.gfpOpen_rx hr s,
      fun hr => State.gfpOpen_notRx hr s⟩
    · rw [htx, hheld, hcur, if_pos ht]
      exact ⟨rfl, rfl, rfl⟩
    · rw [htx, ht]
      rfl
  case closed =>
    simp only [withComps_gfp_eq, withPmc_gfp_eq]
    obtain ⟨htx, hheld⟩ := State.gfpClose_txSide ch a b s
    refine ⟨hd, fun k hk => State.gfpClose_gfp_other ch a b s hk, fun ha => ?_, fun ha => ?_, ?_, ?_⟩
    · rw [htx, hheld, if_pos ha]
      exact ⟨rfl, rfl⟩
    · rw [htx, hheld, ha]
      exact ⟨rfl, rfl⟩
    · rintro rfl
      exact State.gfpClose_rx ch a s
    · rintro rfl
      exact State.gfpClose_notRx ch a s
  case flushed =>
    simp only [withComps_gfp_eq, withPmc_gfp_eq]
    exact ⟨hd, State.gfpFlush_gfp ch a b s⟩
  case frame =>
    refine ⟨fun hl => ?_, fun hl hp => ?_⟩
    · rw [State.gfpFetch_long hd hf hl, State.modGfp_get]
      refine ⟨rfl, State.consume_dev 4 ch s, tget_tset_same ..⟩
    · have hnew : ((s.gfp ch).receiving d.len.toNat).held = (s.gfp ch).held ++ [(d.len.toNat, [])] := by
        rw [Gfp.receiving, if_neg (by rw [hf]; decide)]
      obtain ⟨hheld, hdev⟩ := State.gfpFetch_last (o := o) (data := data) (.inr ⟨hd, hl, hp⟩) hnew
      rw [List.nil_append] at hheld
      rw [List.length_nil, Nat.zero_add] at hdev
      exact ⟨hheld, hdev⟩
  case more =>
    have hf : (s.gfp ch).fetching = true := (Gfp.fetching_last hh).trans (decide_eq_true he)
    exact State.gfpFetch_last (.inl hf) (by rw [Gfp.receiving, if_pos hf, hh])
  case header =>
    refine ⟨s.gfpHeader ch o d, execGfpRxHeader_handles hr d, fun h0 l hl => ?found, fun h0 hn => ?none, fun h1 hck hdel => ?synced,
      fun h2 hlen hh hcc => ?lost⟩
    case found =>
      obtain ⟨b, hb⟩ := State.gfpHeader_search_gfp (o := o) (d := d) (s := s) (ch := ch) (by rw [h0]; decide)
      rw [hb, Gfp.search_found h0 hl]
      exact ⟨rfl, rfl, rfl, rfl⟩
    case none =>
      obtain ⟨b, hb⟩ := State.gfpHeader_search_gfp (o := o) (d := d) (s := s) (ch := ch) (by rw [h0]; decide)
      rw [hb, Gfp.search_none h0 hn]
      exact ⟨rfl, rfl⟩
    case synced =>
      obtain ⟨b, hb⟩ := State.gfpHeader_search_gfp (o := o) (d := d) (s := s) (ch := ch) (by rw [h1]; decide)
      have hdelin := Gfp.search_synced h1 hck hdel
      rw [hb]
      exact ⟨hdelin, decide_eq_false (not_not.2 hdelin)⟩
    case lost =>
      obtain ⟨b, hb⟩ := State.setLfd_gfp ch true (s.setGfp ch ((s.gfp ch).huntIn ((s.gfp ch).rxOct.drop 1)))
      rw [State.gfpHeader_lost h2 hlen hh hcc, hb, State.setGfp_get]
      exact ⟨rfl, rfl⟩

end Sys2Proof.Machine
end

section
/-! O48. What the CMAC engine and OX leave of a DCC channel, whichever operations start or end and whichever frames are written back
(11 R330-R333; 14 R383-R386). -/

namespace Sys2Proof.Machine

/-! ### A channel -/

@[simp] theorem State.modDcc_get (ch : Nat) (f : Dcc → Dcc) (s : State) : (s.modDcc ch f).dcc ch = f (s.dcc ch) := State.setDcc_get ..
theorem State.modDcc_get_other (ch : Nat) (f : Dcc → Dcc) (s : State) (k : Nat) (h : k ≠ ch) : (s.modDcc ch f).dcc k = s.dcc k :=
  State.setDcc_get_other _ _ _ _ h

/-- What leaves the DCC channels leaves each of them. -/
theorem dcc_of_hide {s t : State} (h : t.hide 26388279066623 = s.hide 26388279066623) (ch : Nat) : t.dcc ch = s.dcc ch := by
  unfold State.dcc
  rw [dccs_of_hide h]

@[simp] theorem Dcc.count_cnts_same (c n : Nat) (x : Dcc) : tget 0 (x.count c n).cnts c = tget 0 x.cnts c + BitVec.ofNat 32 n :=
  tget_tset_same ..
theorem Dcc.count_cnts_other (c n : Nat) (x : Dcc) {j : Nat} (h : j ≠ c) : tget 0 (x.count c n).cnts j = tget 0 x.cnts j :=
  tget_tset_other _ _ _ _ _ h

/-- The counters of the CMAC engine and OX: TX_DROP, RX_FRAMES, AUTH_FAIL. -/
def oxCounter (c : Nat) : Prop := c = 1 ∨ c = 2 ∨ c = 5

/-- `y` has the settings of `x`, what `x` receives and the bits it has begun; counters but those of `oxCounter` stand, and an empty
queue stays empty. -/
structure Dcc.Keeps (x y : Dcc) : Prop where
  auth : y.auth = x.auth
  txBits : y.txBits = x.txBits
  rx : y.rx = x.rx
  rxDone : y.rxDone = x.rxDone
  noTx : x.txQ = [] → y.txQ = []
  cnts : ∀ c, ¬ oxCounter c → tget 0 y.cnts c = tget 0 x.cnts c

theorem Dcc.Keeps.refl (x : Dcc) : x.Keeps x := ⟨rfl, rfl, rfl, rfl, id, fun _ _ => rfl⟩

theorem Dcc.Keeps.trans {x y z : Dcc} (h : x.Keeps y) (h' : y.Keeps z) : x.Keeps z where
  auth := h'.auth.trans h.auth
  txBits := h'.txBits.trans h.txBits
  rx := h'.rx.trans h.rx
  rxDone := h'.rxDone.trans h.rxDone
  noTx hx := h'.noTx (h.noTx hx)
  cnts c hc := (h'.cnts c hc).trans (h.cnts c hc)

theorem Dcc.count_keeps {c : Nat} (hc : oxCounter c) (n : Nat) (x : Dcc) : x.Keeps (x.count c n) where
  auth := rfl
  txBits := rfl
  rx := rfl
  rxDone := rfl
  noTx := id
  cnts _ hj := Dcc.count_cnts_other c n x fun he => hj (he ▸ hc)

theorem Dcc.dropTx_keeps (id : Nat) (x : Dcc) : x.Keeps (x.dropTx id) where
  auth := rfl
  txBits := rfl
  rx := rfl
  rxDone := rfl
  noTx hx := by simp [Dcc.dropTx, Dcc.count, hx]
  cnts c hc := (Dcc.count_keeps (.inl rfl) 1 x).cnts c hc

/-! ### All channels -/

/-- Every channel of `t` keeps what it has in `s`. -/
structure State.DccsKept (s t : State) : Prop where
  dcc : ∀ ch, (s.dcc ch).Keeps (t.dcc ch)

theorem State.DccsKept.refl (s : State) : s.DccsKept s := ⟨fun _ => .refl _⟩

theorem State.DccsKept.trans {s t u : State} (h : s.DccsKept t) (h' : t.DccsKept u) : s.DccsKept u :=
  ⟨fun ch => (h.dcc ch).trans (h'.dcc ch)⟩

theorem State.DccsKept.of_dccs {s t : State} (h : t.dccs = s.dccs) : s.DccsKept t := ⟨fun ch => by
  unfold State.dcc
  rw [h]
  exact .refl _⟩

theorem State.withSec_kept (x : Sec) (s : State) : s.DccsKept { s with sec := x } := .of_dccs rfl

theorem State.dropOp_kept (id : Nat) (s : State) : s.DccsKept (s.dropOp id) := State.withSec_kept _ s
theorem State.oxVerdict_kept (id : Nat) (ok : Bool) (s : State) : s.DccsKept (s.oxVerdict id ok) := State.withSec_kept _ s

theorem State.DccsKept.ite {s t u : State} {c : Prop} [Decidable c] (ht : s.DccsKept t) (hu : s.DccsKept u) :
    s.DccsKept (if c then t else u) := by
  split
  · exact ht
  · exact hu

theorem State.modDcc_kept {f : Dcc → Dcc} (hf : ∀ x, Dcc.Keeps x (f x)) (ch : Nat) (s : State) : s.DccsKept (s.modDcc ch f) := ⟨fun k => by
  by_cases hk : k = ch
  · rw [hk, State.modDcc_get]
    exact hf _
  · rw [State.modDcc_get_other _ _ _ _ hk]
    exact .refl _⟩

theorem State.oxWrite_kept (x : OxItem) (st : Nat) (s : State) : s.DccsKept (s.oxWrite x st) := by
  have hbad : s.DccsKept (s.badDesc 7 0 x.buf) := .of_dccs (dccs_of_hide (State.badDesc_frame _ (by decide) ..))
  have hcut : s.DccsKept (s.writeBack 7 0 x.buf 0 4) := .of_dccs (dccs_of_hide (State.writeBack_frame _ (by decide) ..))
  have hgot (a : Nat) (l : List Byte) (n st : Nat) : s.DccsKept (((s.dma a l).writeBack 7 0 x.buf n st).modDcc x.ch (Dcc.count 2 1)) :=
    .trans (.of_dccs (dccs_of_hide ((State.writeBack_frame _ (by decide) ..).trans (State.dma_frame _ (by decide) ..))))
      (State.modDcc_kept (Dcc.count_keeps (.inr (.inl rfl)) 1) x.ch _)
  have htold (u : State) (c : Bool) : u.DccsKept (whenS c (fun s => s.raiseU (s.rb 0x80040 3) .dccAuthFail (0x100 + x.ch / 2) x.ch 0)
      (u.modDcc x.ch (fun d => { d.count 5 1 with failSeen := true }))) :=
    .trans (State.modDcc_kept (f := fun d => { d.count 5 1 with failSeen := true })
        (fun d => (Dcc.count_keeps (.inr (.inr rfl)) 1 d).trans ⟨rfl, rfl, rfl, rfl, id, fun _ _ => rfl⟩) x.ch u)
      (.of_dccs (dccs_of_hide (whenS_frame _ _ _ _ fun _ => State.raiseU_frame _ (by decide) ..)))
  unfold State.oxWrite
  exact .ite hbad (.ite hcut (.ite (hgot ..) ((hgot ..).trans (htold ..))))

theorem State.oxFlush_kept (fuel : Nat) (s : State) : s.DccsKept (s.oxFlush fuel) := by
  induction fuel generalizing s with
  | zero => exact .refl s
  | succ fuel ih =>
    unfold State.oxFlush
    split
    · exact .refl s
    next x r _ =>
      split
      · exact .refl s
      next st _ => exact (State.withSec_kept { s.sec with ox := r } s).trans ((State.oxWrite_kept x st _).trans (ih _))

theorem State.oxDone_kept (s : State) : s.DccsKept s.oxDone := State.oxFlush_kept _ s

theorem State.oxCancel_kept (p : OxItem → Bool) (s : State) : s.DccsKept (s.oxCancel p) := by
  unfold State.oxCancel
  exact (State.withSec_kept _ s).trans (State.oxDone_kept _)

theorem State.dccBuf_kept (ch : Nat) (d : BufDesc) (s : State) : s.DccsKept (s.dccBuf ch d).2 := by
  unfold State.dccBuf
  split
  · exact .refl s
  dsimp only
  split
  · exact .of_dccs rfl
  · refine State.DccsKept.trans ?_ (State.oxDone_kept _)
    exact .of_dccs rfl

theorem State.oxStream_kept (id : Nat) (info : List Byte) (s : State) : s.DccsKept (s.oxStream id info) :=
  .of_dccs (dccs_of_hide (State.oxStream_frame _ (by decide) ..))

theorem State.cmacStart_kept (o : CmacOp) (s : State) : s.DccsKept (s.cmacStart o) := by
  have hread : s.DccsKept (s.keyRead o.slot) := .of_dccs (dccs_of_hide (State.keyRead_frame _ (by decide) ..))
  have hkeyEx (u : State) : u.DccsKept (u.modDcc o.ch (fun d => { d with keyEx := true })) :=
    State.modDcc_kept (f := fun d => { d with keyEx := true }) (fun x => ⟨rfl, rfl, rfl, rfl, id, fun _ _ => rfl⟩) o.ch u
  have hdrop (u : State) : u.DccsKept ((u.dropOp o.id).modDcc o.ch (Dcc.dropTx o.id)) :=
    (State.dropOp_kept o.id u).trans (State.modDcc_kept (Dcc.dropTx_keeps o.id) o.ch _)
  unfold State.cmacStart
  refine hread.trans ?_
  dsimp only
  generalize s.keyRead o.slot = u
  split
  · split
    · exact ((State.dropOp_kept o.id u).trans (State.oxVerdict_kept o.id false _)).trans (State.oxDone_kept _)
    · exact State.withSec_kept _ u
  split
  · split
    · exact ((hdrop u).trans (hkeyEx _)).trans (.of_dccs (dccs_of_hide (State.raise_frame _ (by decide) ..)))
    · exact hdrop u
  · exact .of_dccs rfl

theorem State.cmacPump_kept (s : State) : s.DccsKept s.cmacPump := by
  refine foldS_invariant (P := s.DccsKept) (fun o u hu => ?_) _ (.refl s)
  split
  · exact hu
  · exact hu.trans (State.cmacStart_kept o u)

/-! ### Rings beside OX -/

section

variable {j m : Nat}

theorem State.writeBack_ring_other {kind n : Nat} (h : ringKey j m ≠ ringKey kind n) (d : BufDesc) (used stat : Nat) (s : State) :
    (s.writeBack kind n d used stat).ring j m = s.ring j m := by
  unfold State.writeBack
  dsimp only
  rw [ring_of_hide (whenS_frame _ _ _ _ fun u => State.intr_frame _ (by decide) ..), State.setRing_get_other _ _ _ _ _ _ h]
  exact ring_of_hide (State.dma_frame _ (by decide) ..) j m

theorem State.modDcc_ring (ch : Nat) (f : Dcc → Dcc) (s : State) : (s.modDcc ch f).ring j m = s.ring j m := rfl

variable (h : ringKey j m ≠ ringKey 7 0)
include h

theorem State.badDesc_ring_other (d : BufDesc) (s : State) : (s.badDesc 7 0 d).ring j m = s.ring j m := by
  unfold State.badDesc
  dsimp only
  rw [ring_of_hide (State.raise_frame _ (by decide) ..), State.modRing_get_other _ _ _ _ _ _ h]
  exact State.writeBack_ring_other h ..

/-- A frame that is written back moves no ring but OX. -/
theorem State.oxWrite_ring_other (x : OxItem) (st : Nat) (s : State) : (s.oxWrite x st).ring j m = s.ring j m := by
  have hgot (a : Nat) (l : List Byte) (n st : Nat) :
      (((s.dma a l).writeBack 7 0 x.buf n st).modDcc x.ch (Dcc.count 2 1)).ring j m = s.ring j m :=
    (State.modDcc_ring ..).trans ((State.writeBack_ring_other h ..).trans (ring_of_hide (State.dma_frame _ (by decide) ..) j m))
  have htold (u : State) (c : Bool) (f : Dcc → Dcc) : (whenS c (fun s => s.raiseU (s.rb 0x80040 3) .dccAuthFail (0x100 + x.ch / 2) x.ch 0)
      (u.modDcc x.ch f)).ring j m = u.ring j m :=
    (ring_of_hide (whenS_frame _ _ _ _ fun _ => State.raiseU_frame _ (by decide) ..) j m).trans (State.modDcc_ring ..)
  unfold State.oxWrite
  refine iteInduction (motive := fun t : State => t.ring j m = s.ring j m) (fun _ => State.badDesc_ring_other h ..) (fun _ => ?_)
  refine iteInduction (motive := fun t : State => t.ring j m = s.ring j m) (fun _ => State.writeBack_ring_other h ..) (fun _ => ?_)
  exact iteInduction (motive := fun t : State => t.ring j m = s.ring j m) (fun _ => hgot ..) (fun _ => (htold ..).trans (hgot ..))

theorem State.oxFlush_ring_other (fuel : Nat) (s : State) : (s.oxFlush fuel).ring j m = s.ring j m := by
  induction fuel generalizing s with
  | zero => rfl
  | succ fuel ih =>
    unfold State.oxFlush
    split
    · rfl
    split
    · rfl
    · exact (ih _).trans (State.oxWrite_ring_other h ..)

theorem State.cmacStart_ring_other (o : CmacOp) (s : State) : (s.cmacStart o).ring j m = s.ring j m := by
  have hread : (s.keyRead o.slot).ring j m = s.ring j m := ring_of_hide (State.keyRead_frame _ (by decide) ..) j m
  unfold State.cmacStart
  dsimp only
  generalize s.keyRead o.slot = u at hread ⊢
  rw [← hread]
  split
  · split
    · exact State.oxFlush_ring_other h _ _
    · rfl
  split
  · split
    · exact ring_of_hide (State.raise_frame _ (by decide) ..) j m
    · rfl
  · rfl

theorem State.cmacPump_ring_other (s : State) : s.cmacPump.ring j m = s.ring j m := by
  refine foldS_invariant (P := fun t => t.ring j m = s.ring j m) (fun o u hu => ?_) _ rfl
  split
  · exact hu
  · exact (State.cmacStart_ring_other h o u).trans hu

end

end Sys2Proof.Machine
end

section
/-! O48, received frames. A frame with its closing flag is lost, discarded, or handed over with its OX descriptor (11 R330, R333; 09
R270). -/

namespace Sys2Proof.Machine

/-! ### OX with one frame in it -/

theorem State.oxDone_nil {s : State} (h : s.sec.ox = []) : s.oxDone = s := by
  unfold State.oxDone
  rw [h]
  rfl

theorem State.oxCancel_nil {s : State} (h : s.sec.ox = []) (p : OxItem → Bool) : s.oxCancel p = s := by
  have hs : { s with sec := { s.sec with ox := [] } } = s := by rw [← h]
  unfold State.oxCancel
  rw [h]
  exact (congrArg State.oxDone hs).trans (State.oxDone_nil h)

/-- OX holds the frames of `l`. -/
def State.oxHolds (l : List OxItem) (s : State) : State := { s with sec := { s.sec with ox := l } }

/-- The only frame of OX is written back as its verdict is known. -/
theorem State.oxDone_single {s : State} {x : OxItem} {st : Nat} (h : s.sec.ox = [x]) (hx : x.stat = some st) :
    s.oxDone = (s.oxHolds []).oxWrite x st := by
  unfold State.oxDone
  rw [h, List.length_singleton, State.oxFlush, h]
  dsimp only
  rw [hx]
  rfl

theorem State.oxStream_single {s : State} {x : OxItem} (h : s.sec.ox = [x]) (info : List Byte) :
    s.oxStream x.id info = s.dma (x.buf.addr.toNat + 16) (info.take (x.buf.len.toNat - 16)) := by
  unfold State.oxStream
  rw [h, List.find?_cons_of_pos (by exact decide_eq_true rfl)]

theorem State.oxMod_single {s : State} {x : OxItem} (h : s.sec.ox = [x]) (g : OxItem → OxItem) : (s.oxMod x.id g).sec.ox = [g x] := by
  unfold State.oxMod
  rw [h]
  exact congrArg ([·]) (if_pos rfl)

/-- A frame that is discarded as the only one of OX leaves its descriptor to the next. -/
theorem State.oxCancel_single {s : State} {x : OxItem} (h : s.sec.ox = [x]) {p : OxItem → Bool} (hp : p x = true) (hs : x.stat = none) :
    s.oxCancel p = s.oxHolds [] := by
  unfold State.oxCancel
  rw [h]
  simp only [List.map_cons, List.map_nil, hp, hs]
  exact State.oxDone_nil (s := s.oxHolds []) rfl

/-! ### A frame finds its buffer -/

/-- The frame's item as it takes descriptor `d`. -/
def State.oxFresh (ch : Nat) (d : BufDesc) (s : State) : OxItem := { id := s.sec.opId, ch := ch, buf := d, info := [] }

/-- A frame of channel `ch` has taken descriptor `d`. -/
def State.oxTaken (ch : Nat) (d : BufDesc) (s : State) : State := (s.newId.2.readOk 7 0).oxPut (s.oxFresh ch d)

theorem State.dccBuf_none {s : State} (h : s.oxBuf = false) (ch : Nat) (d : BufDesc) : s.dccBuf ch d = (none, s) := by
  unfold State.dccBuf
  rw [if_pos (by rw [h]; rfl)]

theorem State.dccBuf_taken {s : State} {d : BufDesc} (h : s.oxBuf = true) (hd : bufOk d = true) (ch : Nat) :
    s.dccBuf ch d = (some s.sec.opId, s.oxTaken ch d) := by
  unfold State.dccBuf
  rw [if_neg (by rw [h]; decide)]
  exact if_pos hd

theorem State.oxTaken_ox {s : State} (h : s.sec.ox = []) (ch : Nat) (d : BufDesc) : (s.oxTaken ch d).sec.ox = [s.oxFresh ch d] :=
  congrArg (· ++ [s.oxFresh ch d]) h

/-! ### The verdict of R330 -/

/-- The FCS of a received frame is not that of its bytes. -/
def DccFrame.badFcs (f : DccFrame) : Bool := decide (fcsBytes (wbit f.cfg 31) f.body ≠ f.bytes.drop f.body.length)

/-- A received frame is discarded: aborted, without an information field, too long, or with a bad FCS where such are not delivered. -/
def DccFrame.fails (f : DccFrame) : Bool :=
  f.aborted || decide (f.body.length < 1) || decide (dccMaxLen f.cfg + 12 < f.body.length) || (f.badFcs && !(wbit f.cfg 30))

/-- The frame with buffer `i`. -/
def DccFrame.withItem (f : DccFrame) (i : Option Nat) : DccFrame := { f with item := i }

theorem DccFrame.withItem_fails (f : DccFrame) (i : Option Nat) : (f.withItem i).fails = f.fails := rfl
theorem DccFrame.withItem_lost (f : DccFrame) (i : Option Nat) : (f.withItem i).lost = f.lost := rfl

theorem DccFrame.body_length (f : DccFrame) : f.body.length = f.bytes.length - fcsLen f.cfg :=
  List.length_take_of_le (Nat.sub_le ..)

theorem DccFrame.badFcs_iff (f : DccFrame) :
    f.badFcs = true ↔ ¬ fcsBytes (wbit f.cfg 31) f.body = f.bytes.drop (f.bytes.length - fcsLen f.cfg) := by
  rw [DccFrame.badFcs, DccFrame.body_length, decide_eq_true_iff]

theorem DccFrame.fails_iff (f : DccFrame) : f.fails = true ↔ f.aborted = true ∨ f.bytes.length < fcsLen f.cfg + 1 ∨
    dccMaxLen f.cfg + 12 + fcsLen f.cfg < f.bytes.length ∨
    (¬ fcsBytes (wbit f.cfg 31) f.body = f.bytes.drop (f.bytes.length - fcsLen f.cfg) ∧ wbit f.cfg 30 = false) := by
  have hshort : f.body.length < 1 ↔ f.bytes.length < fcsLen f.cfg + 1 := by rw [DccFrame.body_length]; omega
  have hlong : dccMaxLen f.cfg + 12 < f.body.length ↔ dccMaxLen f.cfg + 12 + fcsLen f.cfg < f.bytes.length := by
    rw [DccFrame.body_length]; omega
  simp only [DccFrame.fails, Bool.or_eq_true, Bool.and_eq_true, decide_eq_true_iff, Bool.not_eq_true', hshort, hlong, or_assoc,
    DccFrame.badFcs_iff]

/-- A whole frame of a length between the limits whose FCS is right passes R330. -/
theorem DccFrame.passes {f : DccFrame} (ha : f.aborted = false) (hmin : fcsLen f.cfg + 1 ≤ f.bytes.length)
    (hmax : f.bytes.length ≤ dccMaxLen f.cfg + 12 + fcsLen f.cfg)
    (hg : fcsBytes (wbit f.cfg 31) f.body = f.bytes.drop (f.bytes.length - fcsLen f.cfg)) : f.fails = false ∧ f.badFcs = false := by
  refine ⟨Bool.eq_false_iff.2 fun h => ?_, Bool.eq_false_iff.2 fun h => f.badFcs_iff.1 h hg⟩
  obtain h | h | h | ⟨h, -⟩ := f.fails_iff.1 h
  · exact Bool.false_ne_true (ha.symm.trans h)
  · exact absurd hmin (Nat.not_le.2 h)
  · exact absurd hmax (Nat.not_le.2 h)
  · exact h hg

theorem State.dccJudge_fails {f : DccFrame} (h : f.fails = true) (ch : Nat) (s : State) : s.dccJudge ch f = s.dccDrop ch 3 f :=
  if_pos h

theorem State.dccJudge_passes {f : DccFrame} {id : Nat} (h : f.fails = false) (hi : f.item = some id) (hl : f.lost = false) (ch : Nat)
    (s : State) : s.dccJudge ch f = s.dccDeliver id ch f f.badFcs := by
  unfold State.dccJudge
  refine (if_neg (Bool.eq_false_iff.1 h)).trans ?_
  rw [hi]
  exact if_neg (by rw [hl]; decide)

/-! ### A frame that is discarded -/

theorem State.dccDrop_eq {f : DccFrame} (hl : f.lost = false) (ch c : Nat) (s : State) :
    s.dccDrop ch c f = (s.modDcc ch (Dcc.count c 1)).oxCancel (fun x => f.item = some x.id) := by
  unfold State.dccDrop
  rw [hl]
  rfl

/-- A discarded frame is counted, and those behind it wait on. -/
theorem State.dccDrop_dcc {f : DccFrame} (hl : f.lost = false) {c : Nat} (hc : ¬ oxCounter c) (ch : Nat) (s : State) :
    ((s.dccDrop ch c f).dcc ch).rxDone = (s.dcc ch).rxDone ∧
    tget 0 ((s.dccDrop ch c f).dcc ch).cnts c = tget 0 (s.dcc ch).cnts c + 1 := by
  have hk := (State.oxCancel_kept (fun x => f.item = some x.id) (s.modDcc ch (Dcc.count c 1))).dcc ch
  rw [State.modDcc_get, ← State.dccDrop_eq hl] at hk
  exact ⟨hk.rxDone, (hk.cnts c hc).trans (Dcc.count_cnts_same ..)⟩

/-- The state in which a frame that had no buffer has found one, or none, with what arrived of it written there. -/
def State.dccFound (ch : Nat) (d : BufDesc) (f : DccFrame) (s : State) : State :=
  match (s.dccBuf ch d).1 with
  | some id => (s.dccBuf ch d).2.oxStream id (infoSoFar f.cfg f.auth f.bytes)
  | none => (s.dccBuf ch d).2

theorem State.dccFound_kept (ch : Nat) (d : BufDesc) (f : DccFrame) (s : State) : s.DccsKept (s.dccFound ch d f) := by
  unfold State.dccFound
  split
  · exact (State.dccBuf_kept ch d s).trans (State.oxStream_kept ..)
  · exact State.dccBuf_kept ch d s

theorem State.dccFound_none {s : State} (h : s.oxBuf = false) (ch : Nat) (d : BufDesc) (f : DccFrame) : s.dccFound ch d f = s := by
  unfold State.dccFound
  rw [State.dccBuf_none h]

/-- What arrived of the frame is written behind the header's place. -/
theorem State.dccFound_taken {s : State} {d : BufDesc} (h : s.oxBuf = true) (hd : bufOk d = true) (hox : s.sec.ox = []) (ch : Nat)
    (f : DccFrame) : s.dccFound ch d f =
      (s.oxTaken ch d).dma (d.addr.toNat + 16) ((infoSoFar f.cfg f.auth f.bytes).take (d.len.toNat - 16)) := by
  unfold State.dccFound
  rw [State.dccBuf_taken h hd]
  exact State.oxStream_single (State.oxTaken_ox hox ch d) _

/-- A frame without a buffer is judged with the one it finds. -/
theorem State.dccIn_new {f : DccFrame} (hi : f.item.isSome = false) (hl : f.lost = false) (ch : Nat) (d : BufDesc) (s : State) :
    s.dccIn ch d f = (s.dccFound ch d f).dccJudge ch (f.withItem (s.dccBuf ch d).1) := by
  unfold State.dccIn
  rw [if_neg (by rw [hi, hl]; decide)]
  rfl

/-- A frame that fails R330 is discarded, with the buffer that it has or finds. -/
theorem State.dccIn_fails {f : DccFrame} (hf : f.fails = true) (hl : f.lost = false) (ch : Nat) (d : BufDesc) (s : State) :
    ∃ (u : State) (g : DccFrame), g.lost = false ∧ s.DccsKept u ∧ s.dccIn ch d f = u.dccDrop ch 3 g := by
  cases hi : f.item.isSome with
  | true =>
    refine ⟨s, f, hl, .refl s, ?_⟩
    unfold State.dccIn
    rw [if_pos (by rw [hi]; rfl), State.dccJudge_fails hf]
  | false =>
    refine ⟨s.dccFound ch d f, f.withItem (s.dccBuf ch d).1, hl, State.dccFound_kept ch d f s, ?_⟩
    rw [State.dccIn_new hi hl, State.dccJudge_fails ((f.withItem_fails _).trans hf)]

theorem not_oxCounter_three : ¬ oxCounter 3 := by unfold oxCounter; decide
theorem not_oxCounter_four : ¬ oxCounter 4 := by unfold oxCounter; decide

theorem State.dccIn_fails_dcc {f : DccFrame} (hf : f.fails = true) (hl : f.lost = false) (ch : Nat) (d : BufDesc) (s : State) :
    ((s.dccIn ch d f).dcc ch).rxDone = (s.dcc ch).rxDone ∧
    tget 0 ((s.dccIn ch d f).dcc ch).cnts 3 = tget 0 (s.dcc ch).cnts 3 + 1 := by
  obtain ⟨u, g, hg, hk, hin⟩ := State.dccIn_fails hf hl ch d s
  obtain ⟨hrx, hcnt⟩ := State.dccDrop_dcc hg not_oxCounter_three ch u
  rw [hin]
  exact ⟨hrx.trans (hk.dcc ch).rxDone, hcnt.trans (congrArg (· + 1) ((hk.dcc ch).cnts 3 not_oxCounter_three))⟩

theorem State.oxTaken_dev (ch : Nat) (d : BufDesc) (s : State) : ((s.oxTaken ch d).ring 7 0).dev = (s.ring 7 0).dev :=
  State.readOk_dev 7 0 s.newId.2

/-- Its descriptor serves the next frame (assumption 151). -/
theorem State.dccIn_fails_ox {f : DccFrame} (hf : f.fails = true) (hl : f.lost = false) (hi : f.item = none) (ch : Nat) {d : BufDesc}
    {s : State} (hox : s.sec.ox = []) (hb : s.oxBuf = false ∨ bufOk d = true) :
    (s.dccIn ch d f).sec.ox = [] ∧ ((s.dccIn ch d f).ring 7 0).dev = (s.ring 7 0).dev := by
  rw [State.dccIn_new (by rw [hi]; rfl) hl, State.dccJudge_fails ((f.withItem_fails _).trans hf),
    State.dccDrop_eq ((f.withItem_lost _).trans hl)]
  cases hbuf : s.oxBuf with
  | false =>
    rw [State.dccFound_none hbuf, State.oxCancel_nil (s := s.modDcc ch _) hox]
    exact ⟨hox, rfl⟩
  | true =>
    have hd : bufOk d = true := hb.resolve_left (by rw [hbuf]; decide)
    rw [State.dccFound_taken hbuf hd hox, State.dccBuf_taken hbuf hd]
    have hone : ((State.dma (d.addr.toNat + 16) ((infoSoFar f.cfg f.auth f.bytes).take (d.len.toNat - 16)) (s.oxTaken ch d)).modDcc ch
        (Dcc.count 3 1)).sec.ox = [s.oxFresh ch d] :=
      (sec_ox_of_hide (State.dma_frame _ (by decide) ..)).trans (State.oxTaken_ox hox ch d)
    rw [State.oxCancel_single hone (decide_eq_true rfl) rfl]
    refine ⟨rfl, (congrArg Ring.dev (ring_of_hide (State.dma_frame _ (by decide) ..) 7 0)).trans (State.oxTaken_dev ch d s)⟩

/-! ### A frame that is handed over (R333) -/

/-- The item of an unsigned frame as its verdict is known. -/
def OxItem.plain (f : DccFrame) (x : OxItem) : OxItem :=
  { x with info := f.body, auth := false, seqNo := 0, frame := f.at_, stat := some 0 }

/-- A frame without authentication whose FCS is right stands in its buffer, and its verdict is known. -/
theorem State.dccDeliver_plain {f : DccFrame} (ha : f.auth.rxEn = false) (id ch : Nat) (s : State) :
    s.dccDeliver id ch f false = ((s.oxStream id f.body).oxMod id (OxItem.plain f)).oxDone := by
  unfold State.dccDeliver OxItem.plain
  rw [ha]
  simp only [Bool.false_and, Bool.false_eq_true, if_false, Bool.not_false, if_true, List.take_length]
  rfl

/-- A frame is given back with its header in the buffer and its descriptor written: `n` bytes of it with status `st`. -/
def State.oxGiven (x : OxItem) (n st : Nat) (s : State) : State :=
  ((s.dma x.buf.addr.toNat (x.header.take n)).writeBack 7 0 x.buf n st).modDcc x.ch (Dcc.count 2 1)

theorem State.oxWrite_given {x : OxItem} (hb : x.bad = false) (hc : x.cut = false) (s : State) : s.oxWrite x 0 =
    s.oxGiven x (min (16 + x.info.length) x.buf.len.toNat)
      (if min (16 + x.info.length) x.buf.len.toNat < 16 + x.info.length then 1 else 0) := by
  unfold State.oxWrite
  rw [if_neg (by rw [hb]; decide), if_neg (by rw [hc]; decide)]
  simp only [decide_true, Bool.true_and, decide_eq_true_eq]
  rw [if_pos (by split <;> decide)]
  rfl

section

variable (x : OxItem) (n st : Nat) (s : State)

theorem State.oxGiven_ox : (s.oxGiven x n st).sec.ox = s.sec.ox := by
  refine sec_ox_of_hide ?_
  rw [State.oxGiven, State.modDcc_frame _ (by decide), State.writeBack_frame _ (by decide), State.dma_frame _ (by decide)]

theorem State.oxGiven_dcc : (s.oxGiven x n st).dcc x.ch = (s.dcc x.ch).count 2 1 := by
  rw [State.oxGiven, State.modDcc_get, dcc_of_hide (State.writeBack_frame _ (by decide) ..), dcc_of_hide (State.dma_frame _ (by decide) ..)]

theorem State.oxGiven_ring : (s.oxGiven x n st).ring 7 0 = (s.ring 7 0).advance 7 := by
  rw [State.oxGiven, ring_of_hide (State.modDcc_frame _ (by decide) ..), State.writeBack_ring, ring_of_hide (State.dma_frame _ (by decide) ..)]

theorem State.oxGiven_hostMem (hd : s.dmaOn = true) (hi : (s.ring 7 0).intMode = 0) : (s.oxGiven x n st).hostMem =
    memWrite (memWrite s.hostMem x.buf.addr.toNat (x.header.take n)) ((s.ring 7 0).addrOf 16 (s.ring 7 0).dev + 8)
      ((s.ring 7 0).backBytes n st) := by
  rw [State.oxGiven, hostMem_of_hide (State.modDcc_frame _ (by decide) ..), State.dma_on hd,
    State.writeBack_quiet (s := s.memWritten x.buf.addr.toNat (x.header.take n)) hd hi, State.setRing_hostMem, State.memWritten_hostMem,
    State.memWritten_hostMem, State.memWritten_ring]

end

/-- The information field of a frame has been written behind the header's place, and its item waits for nothing. -/
def State.oxReady (ch : Nat) (d : BufDesc) (f : DccFrame) (s : State) : State :=
  (((s.oxTaken ch d).memWritten (d.addr.toNat + 16) (f.body.take (d.len.toNat - 16))).memWritten (d.addr.toNat + 16)
    (f.body.take (d.len.toNat - 16))).oxHolds []

section

variable (ch : Nat) (d : BufDesc) (f : DccFrame) (s : State)

theorem State.oxTaken_dmaOn : (s.oxTaken ch d).dmaOn = s.dmaOn := rfl
theorem State.oxTaken_dcc (k : Nat) : (s.oxTaken ch d).dcc k = s.dcc k := rfl
theorem State.oxTaken_hostMem : (s.oxTaken ch d).hostMem = s.hostMem := rfl
theorem State.oxTaken_ring : (s.oxTaken ch d).ring 7 0 = { s.ring 7 0 with cplTo := false } :=
  State.modRing_get 7 0 (fun r => { r with cplTo := false }) s.newId.2

theorem State.oxHolds_dcc (l : List OxItem) (k : Nat) : (s.oxHolds l).dcc k = s.dcc k := rfl
theorem State.oxHolds_dmaOn (l : List OxItem) : (s.oxHolds l).dmaOn = s.dmaOn := rfl
theorem State.oxHolds_hostMem (l : List OxItem) : (s.oxHolds l).hostMem = s.hostMem := rfl
theorem State.oxHolds_ring (l : List OxItem) (j m : Nat) : (s.oxHolds l).ring j m = s.ring j m := rfl

theorem State.memWritten_dcc (a : Nat) (l : List Byte) (k : Nat) : (s.memWritten a l).dcc k = s.dcc k := rfl
theorem State.memWritten_dmaOn (a : Nat) (l : List Byte) : (s.memWritten a l).dmaOn = s.dmaOn := rfl

theorem State.oxReady_dcc (k : Nat) : (s.oxReady ch d f).dcc k = s.dcc k := by
  rw [State.oxReady, State.oxHolds_dcc, State.memWritten_dcc, State.memWritten_dcc, State.oxTaken_dcc]

theorem State.oxReady_dmaOn : (s.oxReady ch d f).dmaOn = s.dmaOn := by
  rw [State.oxReady, State.oxHolds_dmaOn, State.memWritten_dmaOn, State.memWritten_dmaOn, State.oxTaken_dmaOn]

theorem State.oxReady_ring : (s.oxReady ch d f).ring 7 0 = { s.ring 7 0 with cplTo := false } := by
  rw [State.oxReady, State.oxHolds_ring, State.memWritten_ring, State.memWritten_ring, State.oxTaken_ring]

theorem State.oxReady_hostMem : (s.oxReady ch d f).hostMem =
    memWrite (memWrite s.hostMem (d.addr.toNat + 16) (f.body.take (d.len.toNat - 16))) (d.addr.toNat + 16)
      (f.body.take (d.len.toNat - 16)) := by
  rw [State.oxReady, State.oxHolds_hostMem, State.memWritten_hostMem, State.memWritten_hostMem, State.oxTaken_hostMem]

end

theorem State.dmaOn_of_oxBuf {s : State} (h : s.oxBuf = true) : s.dmaOn = true := by
  unfold State.oxBuf State.ringRun at h
  simp only [Bool.and_eq_true] at h
  exact h.1.2

/-- What has arrived of an unsigned frame as its closing flag comes is its information field. -/
theorem infoSoFar_plain {f : DccFrame} (ha : f.auth.rxEn = false) : infoSoFar f.cfg f.auth f.bytes = f.body := by
  unfold infoSoFar
  rw [ha]
  rfl

/-- An unsigned frame that passes R330 is written back with status OK in the buffer that it finds. -/
theorem State.dccIn_given {f : DccFrame} (hf : f.fails = false) (hg : f.badFcs = false) (ha : f.auth.rxEn = false) (hi : f.item = none)
    (hl : f.lost = false) (ch : Nat) {d : BufDesc} {s : State} (hb : s.oxBuf = true) (hd : bufOk d = true) (hox : s.sec.ox = []) :
    s.dccIn ch d f = (s.oxReady ch d f).oxWrite (OxItem.plain f (s.oxFresh ch d)) 0 := by
  have hon : (s.oxTaken ch d).dmaOn = true := (State.oxTaken_dmaOn ch d s).trans (State.dmaOn_of_oxBuf hb)
  have hone : ((s.oxTaken ch d).memWritten (d.addr.toNat + 16) (f.body.take (d.len.toNat - 16))).sec.ox = [s.oxFresh ch d] :=
    State.oxTaken_ox hox ch d
  have hstream := State.oxStream_single hone f.body
  rw [State.dma_on (show State.dmaOn (State.memWritten _ _ (s.oxTaken ch d)) = true from hon)] at hstream
  rw [State.dccIn_new (by rw [hi]; rfl) hl, State.dccBuf_taken hb hd,
    State.dccJudge_passes (id := s.sec.opId) ((f.withItem_fails _).trans hf) rfl ((f.withItem_lost _).trans hl),
    show (f.withItem (some s.sec.opId)).badFcs = false from hg, State.dccDeliver_plain (f := f.withItem (some s.sec.opId)) ha,
    State.dccFound_taken hb hd hox, infoSoFar_plain ha, State.dma_on hon]
  refine (congrArg (fun u => (State.oxMod s.sec.opId (OxItem.plain f) u).oxDone) hstream).trans ?_
  exact State.oxDone_single (State.oxMod_single hone _) rfl

end Sys2Proof.Machine
end

section
/-! O48. DCC_AUTH_CFG, the frames that a channel sends, signed and unsigned, and the queues that are emptied (11 R320, R329-R332; 14
R385). -/

namespace Sys2Proof.Machine

/-! ### DCC_AUTH_CFG (R331) -/

/-- The settings of a channel are stored, before the frames that wait are signed afresh. -/
def State.authStored (ch : Nat) (o : DccAuthOp) (s : State) : State :=
  s.setDcc ch { s.dcc ch with
    auth := o, win := if (s.dcc ch).auth.rxEn = o.rxEn && (s.dcc ch).auth.rxSlot = o.rxSlot then (s.dcc ch).win else none,
    keyEx := if (s.dcc ch).auth.txSlot = o.txSlot then (s.dcc ch).keyEx else false }

theorem State.dccAuthCfg_eq (o : DccAuthOp) (s : State) : s.dccAuthCfg o =
    if (s.dcc (2 * o.port + b2n o.ms)).auth.txEn = o.txEn && (!o.txEn || (s.dcc (2 * o.port + b2n o.ms)).auth.txSlot = o.txSlot) then
      s.authStored (2 * o.port + b2n o.ms) o
    else (s.authStored (2 * o.port + b2n o.ms) o).resign (2 * o.port + b2n o.ms) := rfl

/-- A write of the queue of frames that wait leaves every channel's settings. -/
theorem State.setDcc_txQ_auth (ch : Nat) (q : List DccOut) (s : State) (k : Nat) :
    ((s.setDcc ch { s.dcc ch with txQ := q }).dcc k).auth = (s.dcc k).auth := by
  by_cases hk : k = ch
  · rw [hk, State.setDcc_get]
  · rw [State.setDcc_get_other _ _ _ _ hk]

theorem State.signOps_dcc (ch : Nat) (q : List DccOut) (s : State) (k : Nat) :
    (foldS q (fun e s => s.signOp ch e.id e.info) s).dcc k = s.dcc k :=
  foldS_keeps (fun s => s.dcc k) q (fun e s => s.signOp ch e.id e.info) (fun _ _ => rfl) s

/-- Signing afresh leaves the settings. -/
theorem State.resign_auth (ch : Nat) (s : State) (k : Nat) : ((s.resign ch).dcc k).auth = (s.dcc k).auth := by
  unfold State.resign
  dsimp only
  split
  · refine ((State.cmacPump_kept _).dcc k).auth.trans ?_
    rw [State.signOps_dcc]
    exact State.setDcc_txQ_auth ch _ { s with sec := _ } k
  · exact State.setDcc_txQ_auth ch _ { s with sec := _ } k

theorem State.dccAuthCfg_auth (o : DccAuthOp) (s : State) (k : Nat) :
    ((s.dccAuthCfg o).dcc k).auth = ((s.authStored (2 * o.port + b2n o.ms) o).dcc k).auth := by
  rw [State.dccAuthCfg_eq]
  split
  · rfl
  · exact State.resign_auth ..

/-- With the signing setting as it was, no other channel changes. -/
theorem State.dccAuthCfg_same {o : DccAuthOp} {s : State} (he : (s.dcc (2 * o.port + b2n o.ms)).auth.txEn = o.txEn)
    (hs : (s.dcc (2 * o.port + b2n o.ms)).auth.txSlot = o.txSlot) : s.dccAuthCfg o = s.authStored (2 * o.port + b2n o.ms) o := by
  rw [State.dccAuthCfg_eq, if_pos (by simp [he, hs])]

/-! ### A frame from the host (R330) -/

theorem execDccTxFrame_tests {d : BufDesc} {s : State} (hb : s.hasBuf 6 0 = true) (hd : bufOk d = true) (buf : List Byte) :
    let ch := (byteAt buf 0).toNat % 64
    let len := leNat (bytesAt buf 2 2)
    let ok := s.dccOn ch = true ∧ s.dccOp ch = true ∧ 1 ≤ len ∧ len ≤ dccMaxLen (s.dcc ch).cfg ∧ len ≤ d.len.toNat - 16
    (ok → exec (.dccTxFrame d buf) s = .next ((s.consume 6 0).dccQueue ch (bytesAt buf 16 len))) ∧
    (¬ ok → exec (.dccTxFrame d buf) s = .next ((s.consume 6 0).modDcc ch (Dcc.count 1 1))) := by
  intro ch len ok
  have hexec : exec (.dccTxFrame d buf) s = .next (if !(s.dccOn ch) || len = 0 || decide (dccMaxLen (s.dcc ch).cfg < len) ||
      decide (d.len.toNat - 16 < len) || !(s.dccOp ch) then (s.consume 6 0).modDcc ch (Dcc.count 1 1)
      else (s.consume 6 0).dccQueue ch (bytesAt buf 16 len)) := by
    refine congrArg Host.Outcome.next ?_
    rw [if_neg (by rw [hb]; decide), if_neg (by rw [hd]; decide)]
    rfl
  have hok : (!(s.dccOn ch) || len = 0 || decide (dccMaxLen (s.dcc ch).cfg < len) || decide (d.len.toNat - 16 < len) ||
      !(s.dccOp ch)) = true ↔ ¬ ok := by
    simp only [Bool.or_eq_true, Bool.not_eq_true', decide_eq_true_eq, ok, Nat.one_le_iff_ne_zero, ← not_le, ← Bool.not_eq_true]
    tauto
  rw [hexec]
  exact ⟨fun h => congrArg Host.Outcome.next (if_neg fun hn => hok.1 hn h), fun h => congrArg Host.Outcome.next (if_pos (hok.2 h))⟩

/-- A frame of a channel that does not sign waits to be sent as it is. -/
theorem State.dccQueue_plain {ch : Nat} {s : State} (h : (s.dcc ch).auth.txEn = false) (info : List Byte) : s.dccQueue ch info =
    s.newId.2.setDcc ch { s.dcc ch with txQ := (s.dcc ch).txQ ++ [{ id := s.sec.opId, info := info, ready := some info }] } :=
  if_neg (by rw [show (s.newId.2.dcc ch).auth.txEn = false from h]; decide)

/-- A frame that waits, signed or not, moves no ring but OX. -/
theorem State.dccQueue_ring_other {j m : Nat} (h : ringKey j m ≠ ringKey 7 0) (ch : Nat) (info : List Byte) (s : State) :
    (s.dccQueue ch info).ring j m = s.ring j m := by
  unfold State.dccQueue
  dsimp only
  split
  · exact State.cmacPump_ring_other h _
  · rfl

/-! ### The bits that a channel sends (R329) -/

theorem fillBits_full {wide : Bool} {need : Nat} {bits : List Bool} (h : need ≤ bits.length) (q : List DccOut) :
    fillBits wide need q bits = (q, bits, 0) := by
  cases q with
  | nil => rfl
  | cons e r => exact if_pos h

/-- A frame that waits begins as the bits run out; it is counted. -/
theorem Dcc.give_first {x : Dcc} {n : Nat} {e : DccOut} {r : List DccOut} {b : List Byte} (hbits : x.txBits = []) (hq : x.txQ = e :: r)
    (hb : e.ready = some b) (hn : 0 < n) (hl : 8 * n ≤ (hdlc (wbit x.cfg 31) b).length) :
    x.give n = (packBits n (hdlc (wbit x.cfg 31) b),
      { x.count 0 1 with txQ := r, txBits := (hdlc (wbit x.cfg 31) b).drop (8 * n) }) := by
  have hfill : fillBits (wbit x.cfg 31) (8 * n) x.txQ x.txBits = (r, hdlc (wbit x.cfg 31) b, 1) := by
    rw [hbits, hq, fillBits, if_neg (by simp; omega), hb]
    dsimp only
    rw [List.nil_append, fillBits_full hl]
  have hpad : cdiv (8 * n - (hdlc (wbit x.cfg 31) b).length) 8 = 0 := by
    rw [Nat.sub_eq_zero_of_le hl]
    rfl
  unfold Dcc.give
  rw [hfill]
  dsimp only
  rw [hpad, List.replicate_zero, List.flatten_nil, List.append_nil]

/-! ### A signature is complete (R331; 14 R385) -/

theorem State.cmacPump_nil {s : State} (h : s.sec.ops = []) : s.cmacPump = s := by
  unfold State.cmacPump
  rw [h]
  rfl

/-- What goes between the flags of a signed frame before its FCS. -/
def CmacOp.signed (o : CmacOp) : List Byte :=
  o.info ++ (leBytes 4 o.seqNo.toNat).reverse ++ (cmac o.aes256 o.key (cmacMsg o.ch o.seqNo o.info)).take 8

/-- A signature without an error in the engine readies its frame. -/
theorem State.cmacEnd_signs {o : CmacOp} {s : State} (hu : s.upsetAt (.cmac (Fin.ofNat 64 o.slot)) = none) (hv : o.verify = false) :
    s.cmacEnd o = ((s.dropOp o.id).modDcc o.ch (Dcc.readyTx o.id o.signed)).cmacPump := by
  unfold State.cmacEnd
  dsimp only
  rw [hu, hv]
  rfl

theorem Dcc.readyTx_single {x : Dcc} {e : DccOut} (h : x.txQ = [e]) (b : List Byte) :
    (x.readyTx e.id b).txQ = [{ e with ready := some b }] := by
  unfold Dcc.readyTx
  rw [h]
  exact congrArg ([·]) (if_pos rfl)

theorem State.dropOp_single {s : State} {o : CmacOp} (h : s.sec.ops = [o]) : (s.dropOp o.id).sec.ops = [] := by
  simp [State.dropOp, h]

theorem execCmacDone_single {n : Fin 64} {s : State} {o : CmacOp} (h : s.sec.ops = [o]) (hb : o.bound = true) (hs : o.slot = n.val) :
    exec (.cmacDone n) s = .next (s.cmacEnd o) := by
  refine congrArg Host.Outcome.next ?_
  rw [h, List.find?_cons_of_pos (by simp [hb, hs])]

/-! ### Queues that are emptied (R320) -/

/-- A message after a change that leaves the queue and the story pole. -/
theorem State.raise_queue_of_hide {s t : State} (h : t.hide 35184338532351 = s.hide 35184338532351) {k : Kind} {src addr data : Nat}
    (hs : src < 0x160) (hq : s.flt.queue.length < 64) : (t.raise k src addr data).flt.queue = insertMsg
      { source := src, kind := k.code, cls := k.cls, addr := BitVec.ofNat 32 addr, data := BitVec.ofNat 64 data, at_ := s.now }
      s.flt.queue := by
  have hp : t.hide 35184338534399 = s.hide 35184338534399 := hide_mono _ _ (by decide) h
  have hqueue : t.flt.queue = s.flt.queue := flt_queue_of_hide (hide_mono _ _ (by decide) h)
  have hnow : t.now = s.now := by
    unfold State.now
    rw [stp_frame_of_hide hp, stp_phase_of_hide hp, stp_sub_of_hide hp]
  rw [State.raise_queue (State.srcInReset_of_lt hs) (by rwa [hqueue]), hqueue, hnow]

theorem execQptr_stream (g : Fin 256) (s : State) : exec (.qptr (.stream g)) s = .next ((s.streamReset g).raise .qptr 0x142 g 0) := rfl
theorem execQptr_gfpTx (c : Fin 64) (s : State) : exec (.qptr (.gfpTx c)) s = .next ((s.gfpQptr c false).raise .qptr (0x0C0 + c) c 0) := rfl
theorem execQptr_gfpRx (c : Fin 64) (s : State) : exec (.qptr (.gfpRx c)) s = .next ((s.gfpQptr c true).raise .qptr (0x0C0 + c) c 0) := rfl
theorem execQptr_dcc (c : Fin 64) (s : State) : exec (.qptr (.dcc c)) s = .next ((s.dccQptr c).raise .qptr (0x100 + c / 2) c 0) := rfl

theorem State.raise_strm (k : Kind) (src addr data : Nat) (s : State) (g : Nat) : (s.raise k src addr data).strm g = s.strm g :=
  strm_of_hide (State.raise_frame _ (by decide) ..) g
theorem State.raise_gfp (k : Kind) (src addr data : Nat) (s : State) (g : Nat) : (s.raise k src addr data).gfp g = s.gfp g :=
  gfp_of_hide (State.raise_frame _ (by decide) ..) g
theorem State.raise_dcc (k : Kind) (src addr data : Nat) (s : State) (g : Nat) : (s.raise k src addr data).dcc g = s.dcc g :=
  dcc_of_hide (State.raise_frame _ (by decide) ..) g

theorem State.streamReset_rows (g : Nat) (s : State) : ((s.streamReset g).strm g).rows = [] := by
  have hrows : ((s.modStrm g (fun x => { x.dropRows.count 6 x.wait.length with wait := [] })).strm g).rows = [] :=
    congrArg Stream.rows (State.modStrm_get ..)
  unfold State.streamReset
  dsimp only
  generalize s.modStrm g _ = u at hrows ⊢
  refine iteInduction (motive := fun t : State => (t.strm g).rows = []) (fun _ => ?_) (fun _ => hrows)
  rw [State.modStrm_get, State.outDiscard_strm]
  exact hrows

/-- The transmit queue of a GFP channel is emptied without a message of its own. -/
theorem State.gfpQptr_tx_hide (ch : Nat) (s : State) : (s.gfpQptr ch false).hide 35184338532351 = s.hide 35184338532351 := by
  unfold State.gfpQptr
  rw [if_neg Bool.false_ne_true, State.modGfp_frame _ (by decide)]
  split
  · exact State.consume_frame _ (by decide) ..
  · rfl

theorem State.gfpQptr_held (ch : Nat) (s : State) : ((s.gfpQptr ch false).gfp ch).held = [] := by
  unfold State.gfpQptr
  rw [if_neg Bool.false_ne_true, State.modGfp_get]

theorem State.gfpQptr_hunts {ch : Nat} {s : State} (h : (s.gfp ch).rx.isSome = true) :
    ((s.gfpQptr ch true).gfp ch).delin = 0 ∧ ((s.gfpQptr ch true).gfp ch).lfd = true := by
  obtain ⟨b, hb⟩ := State.hunts_gfp ch s
  unfold State.gfpQptr
  rw [if_pos rfl, if_pos h, hb]
  exact ⟨rfl, rfl⟩

/-- A channel whose queues are emptied; a frame that was being sent is cut. -/
def Dcc.emptied (x : Dcc) : Dcc := { x.abortTx with txQ := [], rx := {}, rxDone := [] }

/-- The operations of other channels than `ch` stand. -/
def State.opsWithout (ch : Nat) (s : State) : State :=
  { s with sec := { s.sec with ops := s.sec.ops.filter (fun (o : CmacOp) => decide (o.ch ≠ ch)) } }

theorem State.opsWithout_hide (ch : Nat) (s : State) : (s.opsWithout ch).hide 35184338532351 = s.hide 35184338532351 := rfl

theorem State.dccQptr_eq (ch : Nat) (s : State) : s.dccQptr ch =
    (((s.opsWithout ch).modDcc ch Dcc.emptied).oxCancel (fun x => x.ch = ch)).cmacPump := rfl

/-- The emptied channel keeps what it has while operations and frames of others go on. -/
theorem State.dccQptr_keeps (ch : Nat) (s : State) : (s.dcc ch).emptied.Keeps ((s.dccQptr ch).dcc ch) := by
  have h := ((State.oxCancel_kept (fun x => x.ch = ch) ((s.opsWithout ch).modDcc ch Dcc.emptied)).trans (State.cmacPump_kept _)).dcc ch
  rw [State.modDcc_get] at h
  exact h

theorem State.dccQptr_idle {s : State} (ho : s.sec.ops = []) (hx : s.sec.ox = []) (ch : Nat) :
    s.dccQptr ch = (s.opsWithout ch).modDcc ch Dcc.emptied := by
  have hops : ((s.opsWithout ch).modDcc ch Dcc.emptied).sec.ops = [] :=
    (congrArg (List.filter fun o : CmacOp => decide (o.ch ≠ ch)) ho)
  rw [State.dccQptr_eq, State.oxCancel_nil (s := (s.opsWithout ch).modDcc ch Dcc.emptied) hx, State.cmacPump_nil hops]

/-! ### A received frame -/

/-- The oldest received frame of a channel is taken out. -/
def State.rxTaken (ch : Nat) (r : List DccFrame) (s : State) : State := s.modDcc ch (fun x => { x with rxDone := r })

theorem State.rxTaken_dcc (ch : Nat) (r : List DccFrame) (s : State) : (s.rxTaken ch r).dcc ch = { s.dcc ch with rxDone := r } :=
  State.modDcc_get ..

section

variable {ch : Fin 64} {s : State} {f : DccFrame} {r : List DccFrame}

theorem execDccRxFrame_idle (h : (s.dcc ch).rxDone = []) (ho : s.dccOp ch = false ∨ (s.dcc ch).rx.open_ = false) (d : BufDesc) :
    exec (.dccRxFrame ch d.addr d.ctl) s = .next s := by
  refine congrArg Host.Outcome.next ?_
  rw [h]
  dsimp only
  split
  next hop =>
    exact if_pos (by rw [ho.resolve_left (by rw [hop]; decide)]; rfl)
  next => rfl

theorem execDccRxFrame_lost (h : (s.dcc ch).rxDone = f :: r) (ho : s.dccOp ch = false) (d : BufDesc) :
    exec (.dccRxFrame ch d.addr d.ctl) s = .next ((s.rxTaken ch r).dccDrop ch 4 f) := by
  refine congrArg Host.Outcome.next ?_
  rw [h]
  exact if_neg (Bool.eq_false_iff.1 ho)

theorem execDccRxFrame_in (h : (s.dcc ch).rxDone = f :: r) (ho : s.dccOp ch = true) (d : BufDesc) :
    exec (.dccRxFrame ch d.addr d.ctl) s = .next ((s.rxTaken ch r).dccIn ch d f) := by
  refine congrArg Host.Outcome.next ?_
  rw [h]
  exact if_pos ho

end

/-! ### The obligation -/

/-- Settles O48: the settings by `dccAuthCfg_auth`, a frame sent by `give_first`, a received one by `dccDrop_dcc`, `dccIn_fails` and
`dccIn_given`, a signature by `cmacEnd_signs`, a damaged queue by what stays of it. -/
theorem dccFrames : Obligations.DccFrames := by
  unfold Obligations.DccFrames
  refine ⟨fun h o s hc => hc.does (u := s.dccAuthCfg o) rfl rfl rfl rfl fun l p hd => ?auth, ?tx,
    fun x n e r b hbits hq hb hn hl => ?bits, fun ch d s hr ho => execDccRxFrame_idle hr ho d,
    fun ch d f r s hr => ⟨fun ho hl => ⟨_, execDccRxFrame_lost hr ho d, ?lost⟩, fun ho hl hf => ⟨_, execDccRxFrame_in hr ho d, ?bad⟩,
      fun ho hab hn hx hg hi hl hb hd ha hox => ⟨_, execDccRxFrame_in hr ho d, ?given⟩⟩,
    fun n s o e ho hb hs hv hu hq he => ⟨_, execCmacDone_single ho hb hs, ?signed⟩,
    fun g s hq => ⟨_, execQptr_stream g s, ?stream⟩,
    fun c s hq => ⟨⟨_, execQptr_gfpTx c s, ?gfpTx⟩, ⟨_, execQptr_gfpRx c s, ?gfpRx⟩, ⟨_, execQptr_dcc c s, ?dcc⟩⟩⟩
  case auth =>
    simp only [withComps_dcc_eq, withPmc_dcc_eq]
    refine ⟨hd, ?_, fun k hk => ?_, fun he hs k hk => ?_⟩
    · rw [State.dccAuthCfg_auth, State.authStored, State.setDcc_get]
    · rw [State.dccAuthCfg_auth, State.authStored, State.setDcc_get_other _ _ _ _ hk]
    · rw [State.dccAuthCfg_same he hs, State.authStored, State.setDcc_get_other _ _ _ _ hk]
  case tx =>
    intro d buf s hb hd ch len ok
    obtain ⟨htaken, hdropped⟩ := execDccTxFrame_tests hb hd buf
    by_cases h : ok
    · refine ⟨_, htaken h, ?_, fun _ he => ?_, fun hn => absurd h hn⟩
      · rw [State.dccQueue_ring_other (by decide)]
        exact State.consume_dev 6 0 s
      · rw [State.dccQueue_plain (s := s.consume 6 0) he, State.setDcc_get]
        exact ⟨rfl, _, rfl, rfl, rfl⟩
    · refine ⟨_, hdropped h, State.consume_dev 6 0 s, fun hn => absurd hn h, fun _ => ?_⟩
      rw [State.modDcc_get]
      exact ⟨rfl, rfl, Dcc.count_cnts_same ..⟩
  case bits =>
    rw [Dcc.give_first hbits hq hb hn hl]
    exact ⟨rfl, rfl, rfl, Dcc.count_cnts_same ..⟩
  case lost =>
    obtain ⟨hrx, hcnt⟩ := State.dccDrop_dcc hl not_oxCounter_four ch (s.rxTaken ch r)
    rw [State.rxTaken_dcc] at hrx hcnt
    refine ⟨hrx, hcnt, fun hox => ?_⟩
    rw [State.dccDrop_eq hl, State.oxCancel_nil (s := (s.rxTaken ch r).modDcc ch _) hox]
    rfl
  case bad =>
    have hfails := f.fails_iff.2 hf
    obtain ⟨hrx, hcnt⟩ := State.dccIn_fails_dcc hfails hl ch d (s.rxTaken ch r)
    rw [State.rxTaken_dcc] at hrx hcnt
    exact ⟨hrx, hcnt, fun hox hi hb => State.dccIn_fails_ox (s := s.rxTaken ch r) hfails hl hi ch hox hb⟩
  case given =>
    obtain ⟨hfails, hbad⟩ := DccFrame.passes hab hn hx hg
    have hin := (State.dccIn_given (s := s.rxTaken ch r) hfails hbad ha hi hl ch hb hd hox).trans (State.oxWrite_given rfl rfl _)
    have hring := State.oxReady_ring ch d f (s.rxTaken ch r)
    have hdcc := (State.oxReady_dcc ch d f (s.rxTaken ch r) ch).trans (State.rxTaken_dcc ch r s)
    have hgiven n st := (State.oxGiven_dcc (OxItem.plain f (State.oxFresh ch d (s.rxTaken ch r))) n st
      (State.oxReady ch d f (s.rxTaken ch r))).trans (congrArg (Dcc.count 2 1) hdcc)
    rw [hin]
    refine ⟨State.oxGiven_ox .., ?_, ?_, ?_, fun hq => ?_⟩
    · exact congrArg Dcc.rxDone (hgiven _ _)
    · exact (congrArg (fun x => tget 0 x.cnts 2) (hgiven _ _)).trans (Dcc.count_cnts_same ..)
    · rw [State.oxGiven_ring, hring]
      rfl
    · rw [State.oxGiven_hostMem _ _ _ _ ((State.oxReady_dmaOn ..).trans (State.dmaOn_of_oxBuf (s := s.rxTaken ch r) hb)) (by rw [hring]; exact hq),
        State.oxReady_hostMem, hring]
      rfl
  case signed =>
    have hslot : Fin.ofNat 64 o.slot = n := Fin.ext ((congrArg (· % 64) hs).trans (Nat.mod_eq_of_lt n.isLt))
    have hops : ((s.dropOp o.id).modDcc o.ch (Dcc.readyTx o.id o.signed)).sec.ops = [] := State.dropOp_single ho
    rw [State.cmacEnd_signs (by rw [hslot]; exact hu) hv, State.cmacPump_nil hops]
    refine ⟨hops, ?_⟩
    rw [State.modDcc_get, ← he]
    exact Dcc.readyTx_single hq o.signed
  case stream =>
    exact ⟨(congrArg Stream.rows (State.raise_strm ..)).trans (State.streamReset_rows g s),
      State.raise_queue_of_hide (State.streamReset_frame _ (by decide) ..) (by decide) hq⟩
  case gfpTx =>
    exact ⟨(congrArg Gfp.held (State.raise_gfp ..)).trans (State.gfpQptr_held c s),
      State.raise_queue_of_hide (State.gfpQptr_tx_hide c s) (by omega) hq⟩
  case gfpRx =>
    intro h
    obtain ⟨hdelin, hlfd⟩ := State.gfpQptr_hunts h
    exact ⟨(congrArg Gfp.delin (State.raise_gfp ..)).trans hdelin, (congrArg Gfp.lfd (State.raise_gfp ..)).trans hlfd⟩
  case dcc =>
    have hk : (s.dcc c).emptied.Keeps (((s.dccQptr c).raise .qptr (0x100 + c / 2) c 0).dcc c) := by
      rw [State.raise_dcc]
      exact State.dccQptr_keeps c s
    refine ⟨hk.noTx rfl, hk.rxDone, hk.rx, hk.txBits, fun ho hx => ?_⟩
    rw [State.dccQptr_idle ho hx]
    exact State.raise_queue_of_hide (src := 0x100 + c / 2) ((State.modDcc_frame _ (by decide) ..).trans (State.opsWithout_hide c s))
      (by omega) hq

end Sys2Proof.Machine
end

section
/-! O1, O7, O13, O15. A step and the command at the front of the queue; what leaves the fatal state (13 R372); a warm reset of the
device and the write that asks for it (13 R366, 16 R421); the key slots over the resets (14 R387). -/

namespace Sys2Proof.Machine

/-- Settles O1: the arm of `step` for a queue that is not empty. -/
theorem stepRunsFrontCommand : Obligations.StepRunsFrontCommand := by
  unfold Obligations.StepRunsFrontCommand
  intro c rest s hs
  rw [step, hs]

/-! ### The fatal state (13 R371, R372) -/

/-- Beside the resets of the device and the loss of power, only the collector reaches the fatal state. -/
theorem cases_of_fatal_mem_reach (i : Instr) : Part.fatal ∈ reach i →
    (∃ st, i = .powerOn st) ∨ (∃ st, i = .resetN st) ∨ (∃ st, i = .warmChipRst st) ∨ i = .powerLoss ∨ i = .collectorTake := by
  cases i <;> simp [reach, device]

theorem State.enterFatal_of_fatal {s : State} (h : s.flt.fatal = true) : s.enterFatal = s := if_pos h

theorem State.capture_fatal {e : LogEntry} {b : BitVec 512} {s : State} (h : s.flt.fatal = true) :
    (({ s with flt := { s.flt with cause := b } } : State).capture e).flt.fatal = true :=
  (flt_fatal_of_hide (State.capture_frame _ (by decide) _ _)).trans h

/-- Handling a message never ends the fatal state. -/
theorem State.handle_fatal {m : Msg} {s : State} (h : s.flt.fatal = true) : (s.handle m).flt.fatal = true := by
  have hlog : (s.logWrite m).2.flt.fatal = true := (flt_fatal_of_hide (State.logWrite_frame _ (by decide) m s)).trans h
  unfold State.handle
  dsimp only
  split
  · refine (flt_fatal_of_hide (whenS_frame _ _ _ _ fun u => State.evOf_frame _ (by decide) ..)).trans ?_
    split
    · exact hlog
    · exact h
  · refine (flt_fatal_of_hide (State.react_frame _ (by decide) ..)).trans ?_
    refine (flt_fatal_of_hide (State.reactRead_frame _ (by decide) ..)).trans ?_
    split
    · rw [State.enterFatal_of_fatal (State.capture_fatal hlog)]
      exact State.capture_fatal hlog
    · exact State.capture_fatal hlog

theorem State.collectorTake_fatal {s : State} (h : s.flt.fatal = true) : s.collectorTake.flt.fatal = true := by
  unfold State.collectorTake
  split
  · exact h
  · exact State.handle_fatal h

/-- What RESET_N keeps of FLT (13 R379). -/
theorem State.resetN_fatal (st : Straps) (s : State) :
    (s.resetN st).flt.fatal = s.flt.fatal ∧ (s.resetN st).flt.firstFatal = s.flt.firstFatal := by
  obtain ⟨q, l, h⟩ := State.release_inbox st 1 { s.outside State.reset with
    flt := { (s.outside State.reset).flt with fatal := s.flt.fatal, firstFatal := s.flt.firstFatal } }
  rw [show s.resetN st = _ from h]
  exact ⟨rfl, rfl⟩

/-! ### A warm reset of the device (13 R366; 16 R421) -/

/-- What a warm reset keeps, before RESET_REC is raised and SP starts. -/
def State.warmKept (s : State) : State :=
  let t := s.outside State.reset
  { t with cfg := tkeep warmKeeps s.cfg, flt := s.flt.warm, log := s.log
           hif := { t.hif with bme := s.hif.bme, d3hot := s.hif.d3hot, funcMask := s.hif.funcMask, linkUp := s.hif.linkUp,
                               linkWidth := s.hif.linkWidth, linkSpeed := s.hif.linkSpeed } }

/-- The message of a warm reset, with what caused it (13 R366). -/
def resetRec (byReaction : Bool) (src kind : Nat) : Msg :=
  { source := 0x180, kind := 0xF1, cls := 3, addr := if byReaction then 0 else 1,
    data := if byReaction then BitVec.ofNat 64 (src + kind * 65536) else 0 }

/-- RESET_REC is the only message that waits. -/
def State.warmTold (byReaction : Bool) (src kind : Nat) (s : State) : State :=
  { s.warmKept with flt := { s.flt.warm with queue := [resetRec byReaction src kind] } }

theorem State.warmReset_eq (st : Straps) (byReaction : Bool) (src kind : Nat) (s : State) :
    s.warmReset st byReaction src kind = (s.warmTold byReaction src kind).release st (if byReaction then 2 else 3) := by
  cases byReaction <;> rfl

theorem execWarmChipRst_of_asked {st : Straps} {s : State} {byReaction : Bool} {src kind : Nat}
    (h : s.glb.rstReq = some (byReaction, src, kind)) : exec (.warmChipRst st) s = .next (s.warmReset st byReaction src kind) := by
  refine congrArg Host.Outcome.next ?_
  rw [h]

theorem execWarmChipRst_of_not_asked {st : Straps} {s : State} (h : s.glb.rstReq = none) : exec (.warmChipRst st) s = .next s := by
  refine congrArg Host.Outcome.next ?_
  rw [h]

/-- The fields that the start of SP does not reach. -/
theorem State.warmReset_inbox (st : Straps) (byReaction : Bool) (src kind : Nat) (s : State) :
    ∃ last q l, s.warmReset st byReaction src kind = { (s.warmTold byReaction src kind).started st last with
      flt := { ((s.warmTold byReaction src kind).started st last).flt with queue := q, lost := l } } := by
  obtain ⟨q, l, h⟩ := State.release_inbox st (if byReaction then 2 else 3) (s.warmTold byReaction src kind)
  exact ⟨_, q, l, (State.warmReset_eq ..).trans h⟩

/-- What a warm reset keeps of FLT (13 R379), whether it has been asked for or not. -/
theorem execWarmChipRst_fatal {st : Straps} {s t : State} (h : exec (.warmChipRst st) s = .next t) :
    t.flt.fatal = s.flt.fatal ∧ t.flt.firstFatal = s.flt.firstFatal := by
  cases hr : s.glb.rstReq with
  | none =>
    rw [execWarmChipRst_of_not_asked hr] at h
    cases h
    exact ⟨rfl, rfl⟩
  | some x =>
    rw [execWarmChipRst_of_asked hr] at h
    cases h
    obtain ⟨last, q, l, ht⟩ := State.warmReset_inbox st x.1 x.2.1 x.2.2 s
    rw [show s.warmReset st x.1 x.2.1 x.2.2 = _ from ht]
    exact ⟨rfl, rfl⟩

/-- Settles O7: what reaches the fatal state by `cases_of_fatal_mem_reach`, the collector by `handle_fatal`. -/
theorem fatalStays : Obligations.FatalStays := by
  unfold Obligations.FatalStays
  refine ⟨?stays, ?captured⟩
  case stays =>
    intro i s t hon hoff hf h
    by_cases hi : Part.fatal ∈ reach i
    · obtain ⟨st, rfl⟩ | ⟨st, rfl⟩ | ⟨st, rfl⟩ | rfl | rfl := cases_of_fatal_mem_reach i hi
      · exact absurd rfl (hon st)
      · cases h
        exact (State.resetN_fatal st s).1.trans hf
      · exact (execWarmChipRst_fatal h).1.trans hf
      · exact absurd rfl hoff
      · cases h
        exact State.collectorTake_fatal hf
    · exact (execFrame i s t h .fatal hi).symm.trans hf
  case captured =>
    rintro i s t (⟨st, rfl⟩ | ⟨st, rfl⟩ | rfl) hf h
    · cases h
      exact (State.resetN_fatal st s).2
    · exact (execWarmChipRst_fatal h).2
    · cases h
      rw [State.clrFatal, if_pos (show s.fltTouched.flt.fatal = true from hf)]
      rfl

/-- A write of GLB.RSTCTL that asks for the reset, or leaves what was asked for. -/
theorem State.rstctl_eq (v : Word) (s : State) : s.rstctl v =
    if wbit v 31 = true ∧ wfld v 8 8 = 0xC4 ∧ s.glb.rstReq = none then
      { s.regWrite 0x0010 v with glb := { s.glb with rstReq := some (false, 0, 0) } }
    else s.regWrite 0x0010 v := by
  unfold State.rstctl
  simp only [Bool.and_eq_true, decide_eq_true_eq, Option.isNone_iff_eq_none, and_assoc]
  rfl

theorem State.rstctl_cfg (v : Word) (s : State) : (s.rstctl v).cfg = (s.regWrite 0x0010 v).cfg := by
  rw [State.rstctl_eq]
  split <;> rfl

/-- A writable bit takes the value written. -/
theorem State.regWrite_rb {o i : Nat} (hm : (regMask o).getLsbD i = true) (v : Word) (s : State) : (s.regWrite o v).rb o i = wbit v i := by
  unfold State.rb State.regWrite
  rw [State.setReg_get]
  simp [wbit, hm]

/-- Settles O13: the reset by `warmReset_eq`, the write by `rstctl_eq`. -/
theorem warmReset : Obligations.WarmReset := by
  unfold Obligations.WarmReset
  refine ⟨?reset, ?asked⟩
  case reset =>
    intro st s byReaction src kind hr hb
    refine ⟨_, (execWarmChipRst_of_asked hr).trans <| congrArg Host.Outcome.next <|
      (State.warmReset_eq ..).trans (State.release_of_bootSrc_ne hb _ _), ?_⟩
    cases byReaction <;>
      exact ⟨rfl, rfl, rfl, rfl, rfl, rfl, rfl, rfl, rfl, rfl, rfl, rfl, rfl, rfl, rfl, rfl, rfl, rfl, rfl⟩
  case asked =>
    intro v s
    refine ⟨s.rstctl v, rfl, ?_, fun h31 hkey hnone => ?_, fun hno => ?_⟩
    · unfold State.rb State.reg
      rw [State.rstctl_cfg]
      exact State.regWrite_rb (by decide) v s
    · rw [State.rstctl_eq, if_pos ⟨h31, hkey, hnone⟩]
    · rw [State.rstctl_eq, if_neg fun ⟨h31, hkey, _⟩ => hno.elim (fun h => by rw [h] at h31; cases h31) (fun h => h hkey)]
      rfl

/-! ### The key slots (14 R380, R387) -/

theorem State.key_congr {s t : State} (h : t.sec.keys = s.sec.keys) (n : Nat) : t.key n = s.key n :=
  congrArg (fun k => tget ({} : KeySlot) k n) h

/-- SP starts with the key slots as they are. -/
theorem State.release_keys (st : Straps) (last : Nat) (s : State) : (s.release st last).sec.keys = s.sec.keys :=
  sec_keys_of_hide (State.release_frame _ (by decide) st last s)

theorem State.resetN_keys (st : Straps) (s : State) : (s.resetN st).sec.keys = (s.outside State.reset).sec.keys :=
  State.release_keys st 1 _

/-- The verdict on an image leaves K0 in its slot, and the other slots as they stood. -/
theorem State.bootEnd_keys (s : State) : s.bootEnd.sec.keys = s.withKeyZero.sec.keys := by
  rw [State.bootEnd_eq]
  split
  · exact sec_keys_of_hide (State.bootFail_frame _ (by decide) _ _)
  · rfl

theorem State.imageTaken_keys (image : List Byte) (s : State) : (s.imageTaken image).sec.keys = s.sec.keys :=
  sec_keys_of_hide (s := { s with boot := { s.boot with image := image } }) (hide_mono _ _ (by decide) (State.imageTaken_frame image s))

/-- Settles O15: no reset leaves a key, and the verdict on the image loads K0. -/
theorem keysZeroed : Obligations.KeysZeroed := by
  unfold Obligations.KeysZeroed
  refine ⟨?resets, ?loads⟩
  case resets =>
    rintro i s t (⟨st, rfl⟩ | ⟨st, rfl⟩ | ⟨⟨st, rfl⟩, hr⟩) h n
    · cases h
      exact State.key_congr (s := s.outside State.reset) (State.release_keys ..) n
    · cases h
      exact State.key_congr (s := s.outside State.reset) (State.resetN_keys st s) n
    · obtain ⟨x, hx⟩ := Option.isSome_iff_exists.1 hr
      rw [execWarmChipRst_of_asked hx] at h
      cases h
      refine (State.key_congr (s := s.warmTold x.1 x.2.1 x.2.2) ?_ n).trans rfl
      rw [show s.warmReset st x.1 x.2.1 x.2.2 = _ from State.warmReset_eq ..]
      exact State.release_keys ..
  case loads =>
    intro image s hs hl
    have hkeys : (s.imageTaken image).bootEnd.sec.keys = tset {} s.sec.keys 0 keyZeroSlot :=
      (State.bootEnd_keys _).trans (congrArg (fun k => tset ({} : KeySlot) k 0 keyZeroSlot) (State.imageTaken_keys image s))
    have h0 : (s.imageTaken image).bootEnd.key 0 = keyZeroSlot := by
      unfold State.key
      rw [hkeys, tget_tset_same]
    refine ⟨_, execBootLoadDone_eq hs hl, ?_, ?_, ?_, fun n hn => ?_⟩
    · rw [h0]; rfl
    · rw [h0]; rfl
    · rw [h0]; rfl
    · unfold State.key
      rw [hkeys, tget_tset_other _ _ _ _ _ hn]

end Sys2Proof.Machine
end

section
/-! O14. The chalk log over the resets (12 R355): no reset but power-on and RESET_N touches the log's registers. -/

namespace Sys2Proof.Machine

/-! ### Words of the register map -/

/-- What leaves the plain register words leaves each of them. -/
theorem State.reg_of_hide {s t : State} (h : t.hide 35184372088823 = s.hide 35184372088823) (o : Nat) : t.reg o = s.reg o := by
  unfold State.reg
  rw [cfg_of_hide h]

theorem State.regsReset_reg {p : Nat → Bool} {o : Nat} (h : p o = false) (s : State) : (s.regsReset p).reg o = s.reg o :=
  (tget_tkeep (regReset o) (fun o => !p o) s.cfg o).trans (if_pos (by rw [h]; rfl))

/-- A choice between two states that both keep `f` keeps it. -/
theorem State.ite_keeps {β : Type} (f : State → β) {c : Prop} [Decidable c] {a b : State} {x : β} (ha : f a = x) (hb : f b = x) :
    f (if c then a else b) = x := by
  split
  · exact ha
  · exact hb

/-! ### BLK_RST (13 Table FT-4) -/

section
variable {o : Nat} (ho : o < 0x6000)
include ho

theorem State.portReset_reg (n : Nat) (s : State) : (s.portReset n).reg o = s.reg o :=
  (State.reg_of_hide (State.setPort_frame _ (by decide) ..) o).trans <|
    (State.regsReset_reg (by simp [lpt]; omega) _).trans (State.reg_of_hide (State.seeBits_frame _ (by decide) ..) o)

theorem State.hwyReset_reg (n : Nat) (s : State) : (s.hwyReset n).reg o = s.reg o :=
  State.regsReset_reg (p := fun o => decide (hwyReg n 0 ≤ o) && decide (o < hwyReg n 0x100)) (by simp [hwyReg]; omega) s

theorem State.strReset_reg (s : State) : s.strReset.reg o = s.reg o := by
  have hregs : (s.regsReset (fun o => decide (0x80000 ≤ o) && decide (o < 0x81000))).reg o = s.reg o :=
    State.regsReset_reg (by simp; omega) s
  refine Eq.trans (State.reg_of_hide ?_ o) hregs
  exact foldS_frame _ _ _ (fun g u => (State.streamReset_frame _ (by decide) ..).trans (State.modStrm_frame _ (by decide) ..)) _

/-- The registers below those of the units that a BLK_RST can name. -/
theorem State.blkRst_reg (src addr : Nat) (s : State) : (s.blkRst src addr).reg o = s.reg o := by
  unfold State.blkRst
  repeat' with_reducible refine State.ite_keeps (fun t => t.reg o) ?_ ?_
  · exact State.portReset_reg ho _ s
  · exact State.reg_of_hide (State.hoUnitReset_frame _ (by decide) ..) o
  · exact State.reg_of_hide (State.loSliceReset_frame _ (by decide) ..) o
  · exact State.reg_of_hide (State.tribSliceReset_frame _ (by decide) ..) o
  · exact State.reg_of_hide (State.replicaReset_frame _ (by decide) ..) o
  · rfl
  · exact State.reg_of_hide (State.laneReset_frame _ (by decide) ..) o
  · exact State.hwyReset_reg ho _ s
  · exact State.reg_of_hide (State.gfpReset_frame _ (by decide) ..) o
  · exact State.reg_of_hide (State.dccReset_frame _ (by decide) ..) o
  · exact State.reg_of_hide (State.unitReset_frame _ (by decide) ..) o
  · exact State.strReset_reg ho s
  · exact State.reg_of_hide (State.procReset_frame _ (by decide) ..) o
  · exact State.reg_of_hide (State.procReset_frame _ (by decide) ..) o
  · rfl
  · rfl
  · rfl

end

/-! ### The log over the resets -/

/-- The log as it stands, with the words of LOG.CFG and LOG.RIDX. -/
def State.chalk (s : State) : ChalkLog × Word × Word := (s.log, s.reg 0x5000, s.reg 0x5020)

theorem State.chalk_eq_iff {s t : State} :
    t.chalk = s.chalk ↔ t.log = s.log ∧ t.reg 0x5000 = s.reg 0x5000 ∧ t.reg 0x5020 = s.reg 0x5020 := by
  simp [State.chalk]

theorem State.blkRst_chalk (src addr : Nat) (s : State) : (s.blkRst src addr).chalk = s.chalk :=
  State.chalk_eq_iff.2 ⟨log_of_hide (State.blkRst_frame _ (by decide) src addr s), State.blkRst_reg (by decide) src addr s,
    State.blkRst_reg (by decide) src addr s⟩

theorem State.hostReset_chalk (last : Nat) (s : State) : (s.hostReset last).chalk = s.chalk :=
  State.chalk_eq_iff.2 ⟨log_of_hide (State.hostReset_frame _ (by decide) last s),
    State.reg_of_hide (State.hostReset_frame _ (by decide) last s) _, State.reg_of_hide (State.hostReset_frame _ (by decide) last s) _⟩

/-- The start of SP sends at most a message. -/
theorem State.release_chalk (st : Straps) (last : Nat) (s : State) : (s.release st last).chalk = s.chalk :=
  State.chalk_eq_iff.2 ⟨log_of_hide (State.release_frame _ (by decide) st last s),
    State.reg_of_hide (State.release_frame _ (by decide) st last s) _, State.reg_of_hide (State.release_frame _ (by decide) st last s) _⟩

theorem State.warmKept_reg {o : Nat} (h : warmKeeps o = true) (s : State) : s.warmKept.reg o = s.reg o :=
  (tget_tkeep (regReset o) warmKeeps s.cfg o).trans (if_pos h)

theorem State.warmReset_chalk (st : Straps) (byReaction : Bool) (src kind : Nat) (s : State) :
    (s.warmReset st byReaction src kind).chalk = s.chalk := by
  rw [State.warmReset_eq, State.release_chalk]
  exact State.chalk_eq_iff.2 ⟨rfl, State.warmKept_reg (by decide) s, State.warmKept_reg (by decide) s⟩

/-- After power-on and RESET_N the log is empty and its registers are 0. -/
theorem chalk_reset : State.reset.chalk = ({}, 0, 0) := by decide

/-- Settles O14, reset by reset. -/
theorem logSurvives : Obligations.LogSurvives := by
  unfold Obligations.LogSurvives
  refine ⟨?survives, fun src addr s => State.chalk_eq_iff.1 (State.blkRst_chalk src addr s), ?zero⟩
  case survives =>
    rintro i s (⟨st, rfl⟩ | rfl | rfl)
    · cases hr : s.glb.rstReq with
      | none => exact ⟨s, execWarmChipRst_of_not_asked hr, rfl, rfl, rfl⟩
      | some x => exact ⟨_, execWarmChipRst_of_asked hr, State.chalk_eq_iff.1 (State.warmReset_chalk ..)⟩
    · exact ⟨_, exec_perstN s, State.chalk_eq_iff.1 (State.hostReset_chalk 1 s.linkDown)⟩
    · exact ⟨_, exec_flr s, State.chalk_eq_iff.1 (State.hostReset_chalk 2 s)⟩
  case zero =>
    have hzero {t : State} (h : t.chalk = State.reset.chalk) : (∀ k, tget {} t.log.entries k = ({} : LogEntry)) ∧
        t.log.wr = 0 ∧ t.log.mark = 0 ∧ t.log.mirr = 0 ∧ t.log.seq = 0 ∧ t.reg 0x5000 = 0 ∧ t.reg 0x5020 = 0 := by
      obtain ⟨hlog, hregs⟩ := Prod.mk.inj (h.trans chalk_reset)
      obtain ⟨hcfg, hridx⟩ := Prod.mk.inj hregs
      rw [hlog]
      exact ⟨fun _ => rfl, rfl, rfl, rfl, rfl, hcfg, hridx⟩
    rintro i s ⟨st, rfl | rfl⟩
    · exact ⟨_, rfl, hzero (State.release_chalk st 0 (s.outside State.reset))⟩
    · exact ⟨_, rfl, hzero ((State.release_chalk st 1 _).trans rfl)⟩

end Sys2Proof.Machine
end

section
/-! O17, O18. A push of the boot image (15 R412, R413): what the FIFO yields, the verdict at its end, and the target on the
board-management I2C that shares it (15 R415). -/

namespace Sys2Proof.Machine

/-! ### Bytes and numbers -/

theorem leNat_lt (l : List Byte) : leNat l < 256 ^ l.length := by
  induction l with
  | nil => exact Nat.one_pos
  | cons b r ih =>
    have hb := b.isLt
    rw [leNat, List.length_cons, Nat.pow_succ]
    omega

/-- A number that bytes spell is spelled by those bytes. -/
theorem leBytes_leNat (l : List Byte) : leBytes l.length (leNat l) = l := by
  induction l with
  | nil => rfl
  | cons b r ih =>
    have hb := b.isLt
    have hhead : BitVec.ofNat 8 (leNat (b :: r)) = b := BitVec.eq_of_toNat_eq (by rw [BitVec.toNat_ofNat, leNat]; omega)
    have htail : leNat (b :: r) >>> 8 = leNat r := by rw [Nat.shiftRight_eq_div_pow, leNat]; omega
    rw [List.length_cons, leBytes, hhead, htail, ih]

theorem leNat_leBytes (n v : Nat) : leNat (leBytes n v) = v % 256 ^ n := by
  induction n generalizing v with
  | zero => exact (Nat.mod_one v).symm
  | succ n ih =>
    rw [leBytes, leNat, ih, BitVec.toNat_ofNat, Nat.shiftRight_eq_div_pow, Nat.pow_succ' (m := 256), Nat.mod_mul]

theorem ofNat_leNat_leBytes (v : Word) : BitVec.ofNat 32 (leNat (leBytes 4 v.toNat)) = v :=
  BitVec.eq_of_toNat_eq (by rw [leNat_leBytes, BitVec.toNat_ofNat]; have := v.isLt; omega)

/-- A word's bytes, byte 0 first. -/
theorem leBytes_word (v : Word) :
    leBytes 4 v.toNat = [v.extractLsb' 0 8, v.extractLsb' 8 8, v.extractLsb' 16 8, v.extractLsb' 24 8] := by
  simp [leBytes, BitVec.extractLsb', ← Nat.shiftRight_add]

/-! ### The read side of the FIFO (15 R413) -/

/-- A run of at most eight bytes comes back from the word it makes. -/
theorem leBytes_fifoWord {l : List Byte} (h : l.length ≤ 8) : leBytes l.length (BitVec.ofNat 64 (leNat l)).toNat = l := by
  have hlt : leNat l < 2 ^ 64 := (leNat_lt l).trans_le (Nat.pow_le_pow_right (by decide) h)
  rw [BitVec.toNat_ofNat, Nat.mod_eq_of_lt hlt, leBytes_leNat]

/-- With end-of-data marked SP reads every byte that the FIFO holds. -/
theorem fifoRead_eod (n : Nat) (l : List Byte) (h : l.length ≤ n) : fifoRead true n l = (l, []) := by
  induction n generalizing l with
  | zero => rw [List.length_eq_zero_iff.1 (Nat.le_zero.1 h)]; rfl
  | succ n ih =>
    by_cases hfull : 8 ≤ l.length
    · have htake : (l.take 8).length = 8 := List.length_take_of_le hfull
      have hword : fifoWord true l = some { data := BitVec.ofNat 64 (leNat (l.take 8)), valid := 8 } := if_pos hfull
      have hbytes := leBytes_fifoWord htake.le
      rw [htake] at hbytes
      rw [fifoRead, hword]
      dsimp only
      rw [ih _ (by rw [List.length_drop]; omega), hbytes, List.take_append_drop]
    · cases l with
      | nil => rfl
      | cons b r =>
        have hword : fifoWord true (b :: r) = some { data := BitVec.ofNat 64 (leNat (b :: r)), valid := (b :: r).length } :=
          (if_neg hfull).trans (if_pos (by simp))
        rw [fifoRead, hword]
        dsimp only
        rw [List.drop_length, ih _ (Nat.zero_le _), leBytes_fifoWord (by omega), List.append_nil]

/-! ### SP takes what it reads (15 R409) -/

theorem State.takeImage_boot (bs : List Byte) (s : State) :
    (s.takeImage bs).boot = { s.boot with image := s.boot.image ++ bs } :=
  boot_of_hide (s := { s with boot := { s.boot with image := s.boot.image ++ bs } }) (State.loadFrom_frame _ (by decide) _ _)

/-- SP has read the FIFO to its end. -/
def State.fifoTaken (s : State) : State := ({ s with boot := { s.boot with fifo := [] } }).takeImage s.boot.fifo

theorem State.fifoTaken_boot (s : State) : s.fifoTaken.boot = { s.boot with fifo := [], image := s.boot.image ++ s.boot.fifo } :=
  State.takeImage_boot ..

theorem State.fifoTaken_glb (s : State) : s.fifoTaken.glb = s.glb :=
  glb_of_hide (s := { s with boot := { s.boot with fifo := [] } }) (State.takeImage_frame _ (by decide) _ _)

/-- A frozen target holds SP at the end of the data (R403). -/
theorem State.fifoStep_held {s : State} (h : s.loadHeld (s.boot.image ++ s.boot.fifo) = true) : s.fifoStep = s := by
  have hdrain : s.fifoDrain = s := if_pos h
  unfold State.fifoStep
  rw [hdrain, h]
  exact if_neg (by simp)

/-- Without one, SP reads on to the end and the image is judged. -/
theorem State.fifoStep_ends {s : State} (he : s.boot.eod = true) (h : s.loadHeld (s.boot.image ++ s.boot.fifo) = false) :
    s.fifoStep = s.fifoTaken.bootEnd := by
  have hdrain : s.fifoDrain = s.fifoTaken := by
    unfold State.fifoDrain
    rw [if_neg (by simp [h]), he]
    dsimp only
    rw [fifoRead_eod _ _ le_rfl]
    rfl
  unfold State.fifoStep
  rw [hdrain]
  exact if_pos (by simp [State.fifoTaken_boot, he, h])

/-- A good image makes the device READY. -/
theorem State.bootEnd_good {s : State} (h : imageCode s.boot.image = 0) : s.bootEnd.glb.ready = true ∧ s.bootEnd.glb.remap = true ∧
    s.bootEnd.boot.stage = 5 ∧ s.bootEnd.boot.fifo = [] ∧ s.bootEnd.boot.owned = false := by
  rw [State.bootEnd_eq, if_neg (not_not.2 h)]
  exact ⟨rfl, rfl, rfl, rfl, rfl⟩

/-- A failed push opens the push again, with nothing held (R410). -/
theorem Boot.failed_of_push {b : Boot} (h : b.stage = 4) (code : Nat) : b.failed code = { b.emptied with stage := 4, fail := code } := by
  have h2 : b.second code = false := by simp [Boot.second, h]
  simp [Boot.failed, h2]

theorem State.bootEnd_bad {s : State} (h : imageCode s.boot.image ≠ 0) : s.bootEnd.glb = s.glb ∧
    s.bootEnd.boot = s.boot.failed (imageCode s.boot.image) := by
  rw [State.bootEnd_eq, if_pos h]
  exact ⟨State.bootFail_glb .., State.bootFail_boot ..⟩

/-! ### What a push source writes (15 R412) -/

/-- The FIFO in the hands of a source. -/
def Boot.taken (i2c : Bool) (b : Boot) : Boot := if b.owned then b else { b with owned := true, ownerI2c := i2c, ovf := false }

theorem State.pushOpen_iff {s : State} {i2c : Bool} : s.pushOpen i2c = true ↔
    s.boot.stage = 4 ∧ s.glb.ready = false ∧ s.boot.eod = false ∧ (s.boot.owned = false ∨ s.boot.ownerI2c = i2c) := by
  unfold State.pushOpen
  simp [and_assoc]

/-- The source that may write owns the FIFO from then on; nothing else changes. -/
theorem Boot.taken_eq {b : Boot} {i2c : Bool} (h : b.owned = false ∨ b.ownerI2c = i2c) :
    b.taken i2c = { b with owned := true, ownerI2c := i2c, ovf := (b.taken i2c).ovf } := by
  unfold Boot.taken
  split
  next ho =>
    obtain h | rfl := h
    · rw [h] at ho
      cases ho
    · rw [← ho]
  next => rfl

section
variable {s : State} {i2c : Bool} {bs : List Byte} (ho : s.pushOpen i2c = true)
include ho

theorem State.pushBytes_fits (hr : s.boot.fifo.length + bs.length ≤ 4096) :
    s.pushBytes i2c bs = { s with boot := { s.boot with
      owned := true, ownerI2c := i2c, ovf := (s.boot.taken i2c).ovf, fifo := s.boot.fifo ++ bs } } := by
  obtain ⟨-, -, -, howner⟩ := State.pushOpen_iff.1 ho
  unfold State.pushBytes
  rw [if_neg (by simp [ho])]
  show (if 4096 - (s.boot.taken i2c).fifo.length < bs.length then _ else { s with boot := { s.boot.taken i2c with
    fifo := (s.boot.taken i2c).fifo ++ bs.take (4096 - (s.boot.taken i2c).fifo.length) } }) = _
  rw [Boot.taken_eq howner]
  dsimp only
  rw [if_neg (by omega), List.take_of_length_le (by omega)]

/-- A byte that finds the FIFO full is discarded, and the image fails with code 6. -/
theorem State.pushBytes_overflows (hb : bs ≠ []) (hr : 4096 < s.boot.fifo.length + bs.length) : (s.pushBytes i2c bs).boot =
    { s.boot with fifo := [], image := [], eod := false, owned := false, ownerI2c := i2c, ovf := true, stage := 4, fail := 6 } := by
  obtain ⟨hstage, -, -, howner⟩ := State.pushOpen_iff.1 ho
  unfold State.pushBytes
  rw [if_neg (by simp [ho])]
  show (if 4096 - (s.boot.taken i2c).fifo.length < bs.length then ({ s with boot := { s.boot.taken i2c with
    fifo := (s.boot.taken i2c).fifo ++ bs.take (4096 - (s.boot.taken i2c).fifo.length), ovf := true } } : State).bootFail 6 else _).boot = _
  rw [Boot.taken_eq howner]
  dsimp only
  have hpos := List.length_pos_of_ne_nil hb
  rw [if_pos (by omega), State.bootFail_boot, Boot.failed_of_push (by exact hstage)]
  rfl

/-- End-of-data is marked, and the FIFO has no owner. -/
def State.pushEnded (s : State) : State := { s with boot := { s.boot with eod := true, owned := false } }

theorem State.pushEnd_eq : s.pushEnd i2c = s.pushEnded.fifoStep := if_neg (by simp [ho])

theorem State.pushEnd_held (h : s.loadHeld (s.boot.image ++ s.boot.fifo) = true) : s.pushEnd i2c = s.pushEnded :=
  (State.pushEnd_eq ho).trans (State.fifoStep_held h)

theorem State.pushEnd_ends (h : s.loadHeld (s.boot.image ++ s.boot.fifo) = false) : s.pushEnd i2c = s.pushEnded.fifoTaken.bootEnd :=
  (State.pushEnd_eq ho).trans (State.fifoStep_ends rfl h)

end

theorem State.pushEnded_image (s : State) : s.pushEnded.fifoTaken.boot.image = s.boot.image ++ s.boot.fifo := by
  rw [State.fifoTaken_boot]
  rfl

/-- A tail of COUNT bytes that fit, then end-of-data. -/
theorem State.pushTail_eq {s : State} {v : Word} (ho : s.pushOpen false = true) (hn : 1 ≤ wfld v 24 2)
    (hr : s.boot.fifo.length + wfld v 24 2 ≤ 4096) :
    s.pushTail false v = (s.pushBytes false (leBytes (wfld v 24 2) v.toNat)).pushEnd false := by
  have hfits := State.pushBytes_fits (bs := leBytes (wfld v 24 2) v.toNat) ho (by rwa [leBytes_length])
  unfold State.pushTail
  dsimp only
  rw [if_neg (by omega), hfits]
  rfl

/-- Settles O17: the FIFO by `pushBytes_fits` and `pushBytes_overflows`, the end of the data by `fifoStep_held` and `fifoStep_ends`. -/
theorem bootPush : Obligations.BootPush := by
  unfold Obligations.BootPush
  refine ⟨?fits, ?overflows, ?clash, ?held, ?good, ?bad, ?tail⟩
  case fits =>
    intro v s ho hr
    refine ⟨_, congrArg Host.Outcome.next (State.pushBytes_fits ho (by rwa [leBytes_length])), ?_, rfl, rfl, rfl, rfl⟩
    exact congrArg (s.boot.fifo ++ ·) (leBytes_word v)
  case overflows =>
    intro v s ho hr
    refine ⟨_, rfl, ?_⟩
    dsimp only
    rw [State.pushBytes_overflows ho (by simp [leBytes]) (by rwa [leBytes_length])]
    exact ⟨rfl, rfl, rfl, rfl, rfl⟩
  case clash =>
    intro v s hstage hready howned howner
    have hclosed : s.pushOpen false = false := by simp [State.pushOpen, howned, howner]
    refine congrArg Host.Outcome.next (Eq.trans (if_pos (by simp [hclosed])) ?_)
    exact if_pos (by simp [hstage, hready, howned, howner])
  case held =>
    intro s ho h
    exact congrArg Host.Outcome.next (State.pushEnd_held ho h)
  case good =>
    intro s ho h hc
    exact ⟨_, congrArg Host.Outcome.next (State.pushEnd_ends ho h), State.bootEnd_good (by rwa [State.pushEnded_image])⟩
  case bad =>
    intro s ho h hc
    obtain ⟨hstage, -, -, -⟩ := State.pushOpen_iff.1 ho
    have himage := State.pushEnded_image s
    obtain ⟨hglb, hboot⟩ := State.bootEnd_bad (s := s.pushEnded.fifoTaken) (by rwa [himage])
    refine ⟨_, congrArg Host.Outcome.next (State.pushEnd_ends ho h), hglb.trans (State.fifoTaken_glb _), ?_⟩
    rw [hboot, himage, Boot.failed_of_push (by rw [State.fifoTaken_boot]; exact hstage)]
    exact ⟨rfl, rfl, rfl, rfl⟩
  case tail =>
    intro v s ho hn hr h hc
    obtain ⟨hstage, hready, heod, -⟩ := State.pushOpen_iff.1 ho
    have hfits := State.pushBytes_fits (bs := leBytes (wfld v 24 2) v.toNat) ho (by rwa [leBytes_length])
    have hopen : (s.pushBytes false (leBytes (wfld v 24 2) v.toNat)).pushOpen false = true := by
      rw [hfits]
      exact State.pushOpen_iff.2 ⟨hstage, hready, heod, .inr rfl⟩
    rw [List.append_assoc] at h hc
    have hend := State.pushEnd_ends hopen (by rw [hfits]; exact h)
    obtain ⟨hrdy, -, h5, hfifo, -⟩ := State.bootEnd_good (s := (s.pushBytes false (leBytes (wfld v 24 2) v.toNat)).pushEnded.fifoTaken)
      (by rw [State.pushEnded_image, hfits]; exact hc)
    exact ⟨_, congrArg Host.Outcome.next ((State.pushTail_eq ho hn hr).trans hend), hrdy, h5, hfifo⟩

/-! ### Board-management I2C (15 R415; 16 R424; 17 R438) -/

/-- A write of four bytes is a write of the word they spell. -/
theorem State.i2cWrite_word (o : Nat) (v : Word) (s : State) : s.i2cWrite (leBytes 4 v.toNat).length o (leBytes 4 v.toNat) = ([], s.i2cWord o v) := by
  have hlen := leBytes_length 4 v.toNat
  have hword : BitVec.ofNat 32 (leNat ((leBytes 4 v.toNat).take 4)) = v := by
    rw [List.take_of_length_le hlen.le, ofNat_leNat_leBytes]
  rw [hlen, State.i2cWrite, if_neg (by omega), hword, List.drop_eq_nil_of_le hlen.le]
  rfl

/-- Only the push registers and LOG.RIDX take a word over I2C. -/
theorem State.i2cWord_discarded {o : Nat} (hridx : o ≠ 0x5020) (hctl : o ≠ 0x9010) (hdata : o ≠ 0x9014) (htail : o ≠ 0x9018) (v : Word)
    (s : State) : s.i2cWord o v = s := by
  unfold State.i2cWord
  rw [if_neg hctl, if_neg hdata, if_neg htail, if_neg hridx]

/-- A word written to the device's own target, with a stop. -/
theorem execI2cTransaction_word (o v : Word) (s : State) :
    exec (.i2cTransaction { target := s.i2cTarget, offset := o, write := leBytes 4 v.toNat, read := 0, stop := true }) s =
      .next { s.i2cWord o.toNat v with i2c := { open_ := false, offset := o + 4, got := [], sent := [] } } := by
  refine congrArg Host.Outcome.next ((if_pos rfl).trans ?_)
  dsimp only
  rw [State.i2cWrite_word]
  rfl

/-- Settles O18, clause by clause. -/
theorem i2cTarget : Obligations.I2cTarget := by
  unfold Obligations.I2cTarget
  refine ⟨?ridx, ?discarded, ?read, ?other, fun s => rfl⟩
  case ridx => exact fun s v => ⟨_, execI2cTransaction_word 0x5020 v s, rfl, rfl, rfl, rfl, rfl⟩
  case discarded =>
    intro s o v hridx hctl hdata htail
    have hoff {w : Word} (h : o ≠ w) : o.toNat ≠ w.toNat := fun he => h (BitVec.eq_of_toNat_eq he)
    have hw := execI2cTransaction_word o v s
    rw [State.i2cWord_discarded (hoff hridx) (hoff hctl) (hoff hdata) (hoff htail)] at hw
    exact ⟨_, hw, fun p hp => unchanged_of_hide (l := [.i2c]) (by rfl) p (by simpa using hp)⟩
  case read =>
    intro s o n
    refine congrArg Host.Outcome.next ((if_pos rfl).trans ?_)
    simp [State.i2cWrite]
  case other => exact fun x s hx => congrArg Host.Outcome.next (if_neg hx)

end Sys2Proof.Machine
end

section
/-! O49, O50, O51. Key slots and the peg board: KEY_LOAD and KEY_ERASE (14 R381, R382), the locks that RES_CLAIM takes and RES_RELEASE
gives back (14 R388-R391). -/

namespace Sys2Proof.Machine

/-! ### A command that completes with a status of its own -/

/-- A command that nothing stops and whose effect gives a status other than OK: NOCOMP does not leave its completion out (10 R284). -/
theorem Carries.answers {c : Cmd} {s u : State} {h : Hdr} {e : Eff} {P : State → Prop} (hc : Carries c s)
    (he : s.apply h.ring.val c = (e, u)) (hu : s.follow c u = u) (hs : e.status ≠ 0)
    (hP : ∀ (x : Comp) (p : Pmc), x.status = e.status → x.result = BitVec.ofNat 32 e.result →
      P ((u.withPmc p).withComps (s.ce.comps ++ [x]))) :
    ∃ t, Host.Outcome.next (ρ := Refusal) (φ := Fault) (s.runNow h c) = .next t ∧ P t := by
  have hce : u.ce = s.ce := (congrArg (fun r => r.2.ce) he).symm.trans (State.apply_ce h.ring.val c s)
  refine ⟨_, rfl, ?_⟩
  rw [runNow_of_carries h hc, he]
  dsimp only
  rw [hu, pmcRan_eq c u, State.finish, if_neg (by simp [hs])]
  rw [← hce] at hP
  exact hP _ _ rfl rfl

/-! ### A word written whole (13 R376) -/

/-- Writing a word touches the errors that wait, and an armed flip, alone. -/
theorem State.wordWritten_eq (m : Mem) (s : State) :
    ∃ x u, s.wordWritten m = { s with flt := { s.flt with flip := x }, upsets := u } := by
  unfold State.wordWritten
  dsimp only
  split
  · exact ⟨s.flt.flip, _, rfl⟩
  · split
    · exact ⟨none, _, rfl⟩
    · exact ⟨s.flt.flip, _, rfl⟩

theorem State.wordWritten_sec (m : Mem) (s : State) : (s.wordWritten m).sec = s.sec := by
  obtain ⟨x, u, h⟩ := State.wordWritten_eq m s
  rw [h]

theorem State.wordWritten_dccs (m : Mem) (s : State) : (s.wordWritten m).dccs = s.dccs := by
  obtain ⟨x, u, h⟩ := State.wordWritten_eq m s
  rw [h]

theorem State.upsetAt_of_nil {s : State} (h : s.upsets = []) (m : Mem) : s.upsetAt m = none := by
  unfold State.upsetAt
  rw [h]
  rfl

/-- An armed flip `x` does not strike word `m`. -/
def FlipSpares (m : Mem) (x : Option (Nat × Word × Bool)) : Prop := ∀ src a dbl, x = some (src, a, dbl) → memWord m ≠ (src, a.toNat)

theorem State.wordWritten_of_spares {m : Mem} {s : State} (h : FlipSpares m s.flt.flip) : s.wordWritten m = s.clearUpset m := by
  unfold State.wordWritten
  dsimp only
  split
  · rfl
  · exact if_neg (h _ _ _ (by assumption))

/-- A flip strikes once: the next write of the same word is spared. -/
theorem State.wordWritten_spares (m : Mem) (s : State) : FlipSpares m (s.wordWritten m).flt.flip := by
  unfold State.wordWritten
  dsimp only
  split
  next hf => exact fun _ _ _ h => by rw [hf] at h; cases h
  next src a dbl hf =>
    split
    · exact fun _ _ _ h => by cases h
    next hm => exact fun _ _ _ h => by rw [hf] at h; cases h; exact hm

/-- The errors of other words stay as they were. -/
theorem State.wordWritten_upsets_others (m : Mem) (s : State) :
    (s.wordWritten m).upsets.filter (fun u => !decide (u.mem = m)) = s.upsets.filter (fun u => !decide (u.mem = m)) := by
  unfold State.wordWritten
  dsimp only
  split
  · simp [State.clearUpset, List.filter_filter]
  · split
    · simp [State.addUpsets, State.clearUpset, List.filter_filter, List.filter_append]
    · simp [State.clearUpset, List.filter_filter]

/-! ### Key slots (14 R381-R383) -/

/-- Where a change leaves the default alone and does not make a listed entry the default, the table reads as changed. -/
theorem tget_tmapAll {α : Type} [DecidableEq α] {d : α} {f : Nat → α → α} {t : Tab α} {k : Nat} (hd : f k d = d)
    (h : f k (tget d t k) ≠ d) : tget d (tmapAll d f t) k = f k (tget d t k) := by
  induction t with
  | nil => exact absurd hd h
  | cons e t ih =>
    have hcons : tmapAll d f (e :: t) = if f e.1 e.2 = d then tmapAll d f t else (e.1, f e.1 e.2) :: tmapAll d f t := by
      unfold tmapAll
      rw [List.filterMap_cons]
      dsimp only
      split_ifs <;> rfl
    by_cases hk : k = e.1
    · subst hk
      have he : tget d (e :: t) e.1 = e.2 := if_pos rfl
      rw [he] at h ⊢
      rw [hcons, if_neg h]
      exact if_pos rfl
    · have he : tget d (e :: t) k = tget d t k := if_neg hk
      rw [he] at h ⊢
      rw [hcons]
      split_ifs
      · exact ih h
      · exact (if_neg hk).trans (ih h)

/-- A channel that verifies with slot `n` has an empty window (14 R381). -/
def Dcc.windowEmptied (n : Nat) (d : Dcc) : Dcc := if d.auth.rxEn && d.auth.rxSlot = n then { d with win := none } else d

/-- A channel that signs with slot `n` may use its key again. -/
def Dcc.keyRenewed (n : Nat) (d : Dcc) : Dcc := if d.auth.txEn && d.auth.txSlot = n then { d with keyEx := false } else d

theorem Dcc.keyRenewed_keeps (n : Nat) (d : Dcc) :
    (d.keyRenewed n).auth = d.auth ∧ (d.keyRenewed n).win = d.win := by
  unfold Dcc.keyRenewed
  split <;> exact ⟨rfl, rfl⟩

/-- The slot as KEY_LOAD leaves it. -/
def loadedSlot (w : Bool) (k : List Byte) : KeySlot :=
  { loaded := true, aes256 := w, key := bytesAt k 0 (if w then 32 else 16), ctr := 0,
    kcv := kcv w (bytesAt k 0 (if w then 32 else 16)), poison := false }

theorem State.keyLoad_keys (n : Nat) (w : Bool) (k : List Byte) (s : State) :
    (s.keyLoad n w k).sec.keys = tset {} s.sec.keys n (loadedSlot w k) := by
  show tset {} (((s.staleOps n).emptyWindows n).wordWritten (.key (Fin.ofNat 64 n))).sec.keys n (loadedSlot w k) = _
  rw [State.wordWritten_sec]
  rfl

theorem State.keyLoad_dccs (n : Nat) (w : Bool) (k : List Byte) (s : State) : (s.keyLoad n w k).dccs =
    tmapAll {} (fun _ => Dcc.keyRenewed n) (tmapAll {} (fun _ => Dcc.windowEmptied n) s.dccs) :=
  congrArg (tmapAll ({} : Dcc) (fun _ => Dcc.keyRenewed n)) (State.wordWritten_dccs (.key (Fin.ofNat 64 n)) ((s.staleOps n).emptyWindows n))

/-- A channel that verifies is not as one that was never set. -/
theorem Dcc.ne_default_of_rxEn {d : Dcc} (h : d.auth.rxEn = true) : d ≠ {} := fun hd => by rw [hd] at h; cases h

theorem Dcc.windowEmptied_of_rx {d : Dcc} {n : Nat} (hen : d.auth.rxEn = true) (hslot : d.auth.rxSlot = n) :
    d.windowEmptied n = { d with win := none } := if_pos (by simp [hen, hslot])

theorem State.keyLoad_window {n ch : Nat} {w : Bool} {k : List Byte} {s : State} (hen : (s.dcc ch).auth.rxEn = true)
    (hslot : (s.dcc ch).auth.rxSlot = n) : ((s.keyLoad n w k).dcc ch).win = none := by
  have hempty := Dcc.windowEmptied_of_rx hen hslot
  generalize hd : s.dcc ch = d at hen hempty
  unfold State.dcc at hd ⊢
  have hfirst : tget {} (tmapAll {} (fun _ => Dcc.windowEmptied n) s.dccs) ch = d.windowEmptied n := by
    rw [← hd]
    exact tget_tmapAll (f := fun _ => Dcc.windowEmptied n) rfl (by rw [hd, hempty]; exact Dcc.ne_default_of_rxEn hen)
  obtain ⟨hauth, hwin⟩ := Dcc.keyRenewed_keeps n (d.windowEmptied n)
  have hrx : ((d.windowEmptied n).keyRenewed n).auth.rxEn = true := by rw [hauth, hempty]; exact hen
  rw [State.keyLoad_dccs, tget_tmapAll (f := fun _ => Dcc.keyRenewed n) rfl (by rw [hfirst]; exact Dcc.ne_default_of_rxEn hrx), hfirst,
    hwin, hempty]

theorem State.keyErase_loaded {n : Nat} {s : State} (h : (s.key n).loaded = true) :
    s.keyErase n = (s.staleOps n).setKey n { s.key n with loaded := false, key := [], kcv := 0 } := if_neg (by simp [h])

theorem State.keyErase_empty {n : Nat} {s : State} (h : (s.key n).loaded = false) : s.keyErase n = s := if_pos (by simp [h])

/-- Settles O49: the slot by `keyLoad_keys`, the windows by `keyLoad_window`. -/
theorem keyCommands : Obligations.KeyCommands := by
  unfold Obligations.KeyCommands
  refine ⟨fun h n w k s hc => ?load, fun h n s hc hl => ?erase, fun h n s hc hl => ?empty⟩
  case load =>
    refine hc.does (u := s.keyLoad n w k) rfl rfl rfl rfl fun l p hd => ?_
    have hslot : (s.keyLoad n w k).key n = loadedSlot w k :=
      (congrArg (tget ({} : KeySlot) · n) (State.keyLoad_keys ..)).trans (tget_tset_same ..)
    have hother (m : Nat) (hm : m ≠ n) : (s.keyLoad n w k).key m = s.key m :=
      (congrArg (tget ({} : KeySlot) · m) (State.keyLoad_keys ..)).trans (tget_tset_other _ _ _ _ _ hm)
    exact ⟨hd, congrArg KeySlot.loaded hslot, congrArg KeySlot.aes256 hslot, congrArg KeySlot.key hslot, congrArg KeySlot.ctr hslot,
      congrArg KeySlot.poison hslot, hother, fun ch => State.keyLoad_window (w := w) (k := k)⟩
  case erase =>
    refine hc.does (u := (s.staleOps n).setKey n { s.key n with loaded := false, key := [], kcv := 0 })
      (congrArg (fun u => (({} : Eff), u)) (State.keyErase_loaded hl)) rfl rfl rfl fun l p hd => ?_
    have hslot := State.setKey_get (s.staleOps n) n { s.key n with loaded := false, key := [], kcv := 0 }
    exact ⟨hd, congrArg KeySlot.loaded hslot, congrArg KeySlot.usable hslot, congrArg KeySlot.key hslot,
      fun m hm => State.setKey_get_other _ _ _ _ hm⟩
  case empty =>
    exact hc.does (u := s) (congrArg (fun u => (({} : Eff), u)) (State.keyErase_empty hl)) rfl rfl rfl fun l p hd => ⟨hd, rfl⟩

/-! ### The peg board (14 R388-R391) -/

@[simp] theorem State.setLock_get (i : Nat) (x : Lock) (s : State) : (s.setLock i x).lock i = x := tget_tset_same ..

theorem State.setLock_get_other (i : Nat) (x : Lock) (s : State) (j : Nat) (h : j ≠ i) : (s.setLock i x).lock j = s.lock j :=
  (tget_tset_other _ _ _ _ _ h).trans (congrArg (fun z : Sec => tget {} z.locks j) (State.wordWritten_sec ..))

/-- What leaves the peg board leaves each lock. -/
theorem lock_of_hide {s t : State} (h : t.hide 35184369991679 = s.hide 35184369991679) (i : Nat) : t.lock i = s.lock i := by
  unfold State.lock
  rw [sec_locks_of_hide h]

/-- A state word without an error reads as it stands. -/
theorem State.lockRead_sound {s : State} (h : s.upsets = []) (i : Nat) : s.lockRead i = s := by
  unfold State.lockRead
  dsimp only
  rw [State.upsetAt_of_nil h]

theorem State.lockRelease_sound {s : State} (h : s.upsets = []) (i me : Nat) : s.lockRelease i me =
    if (s.lock i).state = 1 ∧ (s.lock i).owner = me then s.setLock i { since := (s.lock i).since } else s := by
  unfold State.lockRelease
  rw [State.lockRead_sound h]
  simp only [Bool.and_eq_true, decide_eq_true_eq]

/-- The lock in the hands of a claimant (14 R389). -/
def State.heldLock (me len : Nat) (s : State) : Lock := { state := 1, owner := me, cause := 0, left := len, since := s.stp.frame }

theorem State.lockClaim_eq (i me len : Nat) (s : State) : s.lockClaim i me len =
    (if ((s.lockRead i).lock i).state = 0 then (0x00, 0, (s.lockRead i).setLock i ((s.lockRead i).heldLock me len))
     else if ((s.lockRead i).lock i).state = 2 then
       (0x0C, ((s.lockRead i).lock i).owner, (s.lockRead i).setLock i ((s.lockRead i).heldLock me len))
     else if ((s.lockRead i).lock i).owner = me then
       (0x00, 0, (s.lockRead i).setLock i { (s.lockRead i).lock i with left := len })
     else (0x07, ((s.lockRead i).lock i).owner, s.lockRead i)) := rfl

/-- RES_CLAIM of a lock answers what the claim comes to. -/
theorem State.apply_claim_lock {r i l : Nat} {s u : State} {st res : Nat} (h : s.lockClaim i (0x0800 + r) l = (st, res, u)) :
    s.apply r (.resClaim 5 i l) = ({ status := st, result := res }, u) :=
  congrArg (fun x : Nat × Nat × State => (({ status := x.1, result := x.2.1 } : Eff), x.2.2)) h

section
variable {s : State} {i me len : Nat} (hu : s.upsets = [])
include hu

theorem State.lockClaim_free (h : (s.lock i).state = 0) : s.lockClaim i me len = (0x00, 0, s.setLock i (s.heldLock me len)) := by
  rw [State.lockClaim_eq, State.lockRead_sound hu, if_pos h]

theorem State.lockClaim_broken (h : (s.lock i).state = 2) :
    s.lockClaim i me len = (0x0C, (s.lock i).owner, s.setLock i (s.heldLock me len)) := by
  rw [State.lockClaim_eq, State.lockRead_sound hu, if_neg (by omega), if_pos h]

theorem State.lockClaim_own (h : (s.lock i).state = 1) (ho : (s.lock i).owner = me) :
    s.lockClaim i me len = (0x00, 0, s.setLock i { s.lock i with left := len }) := by
  rw [State.lockClaim_eq, State.lockRead_sound hu, if_neg (by omega), if_neg (by omega), if_pos ho]

theorem State.lockClaim_busy (h : (s.lock i).state = 1) (ho : (s.lock i).owner ≠ me) :
    s.lockClaim i me len = (0x07, (s.lock i).owner, s) := by
  rw [State.lockClaim_eq, State.lockRead_sound hu, if_neg (by omega), if_neg (by omega), if_neg ho]

end

/-- A lock as it breaks (14 R391). -/
def State.brokenLock (i cause : Nat) (s : State) : Lock :=
  { state := 2, owner := (s.lock i).owner, cause := cause, left := 0, since := s.stp.frame }

theorem State.breakLock_eq {i cause : Nat} {s : State} (h : (s.lock i).state = 1 ∨ cause = 2 ∧ (s.lock i).state = 0) :
    s.breakLock i cause = (s.setLock i (s.brokenLock i cause)).raiseU (s.rb 0x7014 0) .lockBroken 0x185 i
      ((s.lock i).owner + cause * 65536) := if_pos (by simpa using h)

/-! ### An uncorrectable state word (assumption 177) -/

theorem memLock_ofNat (i : Fin 256) : Mem.lock (Fin.ofNat 256 i) = .lock i := congrArg Mem.lock (Fin.ext (Nat.mod_eq_of_lt i.isLt))

/-- An uncorrectable error of the state word has been found and told. -/
def State.lockLost (i : Fin 256) (s : State) : State := (s.clearUpset (.lock i)).sramErr 0x185 i true

theorem State.lockLost_frame (W : Nat) (hW : 2048 &&& W = 2048) (i : Fin 256) (s : State) :
    (s.lockLost i).hide W = (s.clearUpset (.lock i)).hide W := State.raise_frame W hW ..

section
variable {s : State} {i : Fin 256} (hu : s.upsets = [{ mem := .lock i, double := true }])
include hu

theorem State.upsetAt_lone : s.upsetAt (.lock i) = some true := by
  unfold State.upsetAt
  rw [hu]
  simp

theorem State.lockLost_upsets : (s.lockLost i).upsets = [] := by
  rw [upsets_of_hide (State.lockLost_frame _ (by decide) i s), State.clearUpset, hu]
  simp

variable (h0 : (s.lock i).state = 0)
include h0

/-- A FREE lock with an uncorrectable state word is found BROKEN. -/
theorem State.lockRead_lost : s.lockRead i =
    ((s.lockLost i).setLock i (s.brokenLock i 2)).raiseU ((s.lockLost i).rb 0x7014 0) .lockBroken 0x185 i ((s.lock i).owner + 2 * 65536) := by
  have hlock : (s.lockLost i).lock i = s.lock i := lock_of_hide (State.lockLost_frame _ (by decide) i s) i
  have hstp : (s.lockLost i).stp = s.stp := stp_of_hide (State.lockLost_frame _ (by decide) i s)
  have hread : s.lockRead i = (s.lockLost i).breakLock i 2 := by
    unfold State.lockRead
    dsimp only
    rw [memLock_ofNat, State.upsetAt_lone hu]
    rfl
  rw [hread, State.breakLock_eq (.inr ⟨rfl, by rw [hlock]; exact h0⟩), State.brokenLock, hlock, hstp]
  rfl

theorem State.lockRead_lost_frame (W : Nat) (hW : 2048 &&& W = 2048) :
    (s.lockRead i).hide W = ((s.lockLost i).setLock i (s.brokenLock i 2)).hide W := by
  rw [State.lockRead_lost hu h0]
  exact State.raiseU_frame W hW ..

/-- The second write of the state word leaves no error in it, whatever flip was armed. -/
theorem State.setLock_lost (x : Lock) : ((s.lockRead i).setLock i x).upsets = [] := by
  have hf (W : Nat) := State.lockRead_lost_frame hu h0 W
  have hspares : FlipSpares (.lock i) (s.lockRead i).flt.flip := by
    rw [flt_flip_of_hide (hf _ (by decide)), ← memLock_ofNat i]
    exact State.wordWritten_spares _ _
  have hupsets : (s.lockRead i).upsets = ((s.lockLost i).wordWritten (.lock i)).upsets := by
    rw [upsets_of_hide (hf _ (by decide)), ← memLock_ofNat i]
    rfl
  show ((s.lockRead i).wordWritten (.lock (Fin.ofNat 256 i))).upsets = []
  rw [memLock_ofNat, State.wordWritten_of_spares hspares]
  show (s.lockRead i).upsets.filter _ = []
  have hothers := State.wordWritten_upsets_others (.lock i) (s.lockLost i)
  rw [State.lockLost_upsets hu] at hothers
  rw [hupsets]
  simpa using hothers

/-- The claim of such a lock takes it as a BROKEN one. -/
theorem State.lockClaim_lost (me len : Nat) : s.lockClaim i me len =
    (0x0C, (s.lock i).owner, (s.lockRead i).setLock i (s.heldLock me len)) := by
  have hf (W : Nat) := State.lockRead_lost_frame hu h0 W
  have hlock : (s.lockRead i).lock i = s.brokenLock i 2 :=
    (lock_of_hide (hf _ (by decide)) i).trans (State.setLock_get ..)
  have hstp : (s.lockRead i).stp = s.stp := stp_of_hide <|
    (hf _ (by decide)).trans <| (State.setLock_frame _ (by decide) ..).trans <| State.lockLost_frame _ (by decide) i s
  rw [State.lockClaim_eq, hlock, if_neg (by simp [State.brokenLock]), if_pos (show (s.brokenLock i 2).state = 2 from rfl)]
  unfold State.heldLock
  rw [hstp]
  rfl

end

/-! ### The obligations on locks -/

/-- Settles O50: a sound state word is read and, where the issuing CQ holds the lock, written. -/
theorem lockRelease : Obligations.LockRelease := by
  unfold Obligations.LockRelease
  intro h i s hc hu
  refine hc.does (u := s.lockRelease i (0x0800 + h.ring.val)) rfl rfl rfl rfl fun l p hd => ⟨hd, ?_⟩
  simp only [withComps_lock_eq, withPmc_lock_eq, withComps_sec, withPmc_sec, State.lockRelease_sound hu]
  refine ⟨fun h1 ho => ?_, fun hno => ?_, fun j hj => ?_⟩
  · rw [if_pos ⟨h1, ho⟩, State.setLock_get]
  · rw [if_neg fun ⟨h1, ho⟩ => hno.elim (· h1) (· ho)]
  · split
    · exact State.setLock_get_other _ _ _ _ hj
    · rfl

/-- A lease that has run out (14 R391). -/
theorem execLeaseExpiry_broken {i : Fin 256} {s : State} (h1 : (s.lock i).state = 1) (hl : (s.lock i).left = 0) (hu : s.upsets = []) :
    exec (.leaseExpiry i) s = .next ((s.setLock i (s.brokenLock i 0)).raiseU (s.rb 0x7014 0) .lockBroken 0x185 i (s.lock i).owner) := by
  refine congrArg Host.Outcome.next ((if_pos (by simp [h1, hl])).trans ?_)
  rw [State.lockRead_sound hu, State.breakLock_eq (.inl h1)]
  rfl

/-- Settles O51: the claims by `lockClaim_eq`, case by case, the lost state word by `lockClaim_lost`. -/
theorem lockClaim : Obligations.LockClaim := by
  unfold Obligations.LockClaim
  refine ⟨fun h i l s hc hu => ⟨fun hs => ?free, fun hs => ?broken, fun hs ho => ?own, fun hs ho => ?busy⟩,
    fun h i l s hc hu hs => ?lost, fun i s h1 hl hu hq => ?lease, fun i s hno => ?other⟩
  case free =>
    refine hc.does (State.apply_claim_lock (State.lockClaim_free hu hs)) rfl rfl rfl fun c p hd => ⟨hd, ?_, fun j hj => ?_⟩
    · rw [withComps_lock_eq, withPmc_lock_eq, State.setLock_get]
      rfl
    · rw [withComps_lock_eq, withPmc_lock_eq, State.setLock_get_other _ _ _ _ hj]
  case broken =>
    refine hc.answers (State.apply_claim_lock (State.lockClaim_broken hu hs)) rfl (Nat.succ_ne_zero _)
      fun x p hx hr => ⟨?_, x, rfl, hx, hr⟩
    rw [withComps_lock_eq, withPmc_lock_eq, State.setLock_get]
    rfl
  case own =>
    refine hc.does (State.apply_claim_lock (State.lockClaim_own hu hs ho)) rfl rfl rfl fun c p hd => ⟨hd, ?_⟩
    rw [withComps_lock_eq, withPmc_lock_eq, State.setLock_get]
  case busy =>
    exact hc.answers (State.apply_claim_lock (State.lockClaim_busy hu hs ho)) rfl (Nat.succ_ne_zero _)
      fun x p hx hr => ⟨rfl, x, rfl, hx, hr⟩
  case lost =>
    refine hc.answers (State.apply_claim_lock (State.lockClaim_lost hu hs _ l)) rfl (Nat.succ_ne_zero _)
      fun x p hx hr => ⟨?_, ?_, x, rfl, hx, hr⟩
    · rw [withComps_lock_eq, withPmc_lock_eq, State.setLock_get]
      rfl
    · rw [withComps_upsets, withPmc_upsets]
      exact State.setLock_lost hu hs _
  case lease =>
    refine ⟨_, execLeaseExpiry_broken h1 hl hu, ?_⟩
    have hs (W : Nat) := fun hW => State.setLock_frame W hW i (s.brokenLock i 0) s
    have hqueue : (s.setLock i (s.brokenLock i 0)).flt.queue = s.flt.queue := flt_queue_of_hide (hs _ (by decide))
    have hstp : (s.setLock i (s.brokenLock i 0)).stp = s.stp := stp_of_hide (hs _ (by decide))
    dsimp only
    rw [lock_of_hide (State.raiseU_frame _ (by decide) ..), State.setLock_get, State.raiseU_queue (by rw [hqueue]; exact hq), hqueue,
      State.now, hstp]
    exact ⟨rfl, rfl, rfl, rfl⟩
  case other =>
    exact congrArg Host.Outcome.next (if_neg (by
      rw [Bool.and_eq_true, decide_eq_true_eq, decide_eq_true_eq, not_and_or]
      exact hno))

end Sys2Proof.Machine
end

section
/-! O52, O53. The resource registry and the capture buffers (14 R392-R398). -/

namespace Sys2Proof.Machine

/-! ### Entries of the registry (14 R392, R396) -/

theorem State.setRes_sec (k : Nat) (r : Res) (s : State) :
    (s.setRes k r).sec = { s.sec with res := tset {} s.sec.res k r } := by
  have hw : ((s.wordWritten (resMem false k)).wordWritten (resMem true k)).sec = s.sec :=
    (State.wordWritten_sec ..).trans (State.wordWritten_sec ..)
  unfold State.setRes
  dsimp only
  rw [hw]

@[simp] theorem State.setRes_get (k : Nat) (r : Res) (s : State) : (s.setRes k r).res k = r := by
  unfold State.res
  rw [State.setRes_sec, tget_tset_same]

theorem State.setRes_get_other (k : Nat) (r : Res) (s : State) (j : Nat) (h : j ≠ k) : (s.setRes k r).res j = s.res j := by
  unfold State.res
  rw [State.setRes_sec, tget_tset_other _ _ _ _ _ h]

theorem State.setRes_pin (k : Nat) (r : Res) (s : State) : (s.setRes k r).pin = s.pin :=
  pin_of_hide (State.setRes_frame _ (by decide) k r s)

/-- An entry without an error reads as it stands. -/
theorem State.resRead_sound {s : State} (h : s.upsets = []) (k : Nat) : s.resRead k = s := by
  unfold State.resRead State.resUpset
  rw [State.upsetAt_of_nil h, State.upsetAt_of_nil h]

/-! ### The host's reservations (14 R394) -/

section
variable {s : State} (hu : s.upsets = [])
include hu

theorem State.hostClaim_free {k : Nat} (h : (s.res k).owner = none) :
    s.hostClaim k = (0x00, 0, s.setRes k { owner := some 0, behind := false }) := by
  unfold State.hostClaim
  dsimp only
  rw [State.resRead_sound hu, h]

theorem State.hostClaim_held {k o : Nat} (h : (s.res k).owner = some o) : s.hostClaim k = (0x07, o, s) := by
  unfold State.hostClaim
  dsimp only
  rw [State.resRead_sound hu, h]

theorem State.hostRelease_sound (k : Nat) : s.hostRelease k =
    if (s.res k).owner = some 0 then s.setRes k {} else s.setRes k { s.res k with behind := false } := by
  unfold State.hostRelease
  dsimp only
  rw [State.resRead_sound hu]

/-! ### Register claims (14 R392) -/

/-- Two resources are claimed together, or neither is. -/
theorem State.claimAll_pair (owner a b : Nat) : s.claimAll owner [a, b] =
    if s.claimable a = true ∧ s.claimable b = true then (true, (s.claim owner a).claim owner b) else (false, s) := by
  have hread : foldS [a, b] (fun k (s : State) => s.resRead k) s = s := by
    rw [foldS, List.foldl_cons, State.resRead_sound hu, List.foldl_cons, State.resRead_sound hu, List.foldl_nil]
  unfold State.claimAll
  rw [hread]
  simp only [List.all_cons, List.all_nil, Bool.and_true, Bool.and_eq_true]
  rfl

end

/-- RES_CLAIM of a resource of the registry. -/
theorem State.apply_claim_res {r q i l : Nat} {s u : State} {st res : Nat} (hr : r < 5) (h : s.hostClaim (resKey r i) = (st, res, u)) :
    s.apply q (.resClaim r i l) = ({ status := st, result := res }, u) := by
  show s.resClaim q r i l = _
  unfold State.resClaim
  rw [if_neg (by omega), h]

theorem State.apply_release_res {r q i : Nat} {s : State} (hr : r < 5) :
    s.apply q (.resRelease r i) = ({}, s.hostRelease (resKey r i)) := by
  show (({} : Eff), s.resRelease q r i) = _
  rw [State.resRelease, if_neg (by omega)]

theorem State.claim_owner (owner k : Nat) (s : State) : ((s.claim owner k).res k).owner = some owner :=
  congrArg Res.owner (State.setRes_get ..)

theorem State.claim_owner_other {owner k j : Nat} {s : State} (h : j ≠ k) : (s.claim owner k).res j = s.res j :=
  State.setRes_get_other _ _ _ _ h

/-- Both resources of a claim that succeeds are the claimant's. -/
theorem State.claim_pair_owners {owner a b : Nat} (h : a ≠ b) (s : State) :
    (((s.claim owner a).claim owner b).res a).owner = some owner ∧ (((s.claim owner a).claim owner b).res b).owner = some owner :=
  ⟨by rw [State.claim_owner_other h, State.claim_owner], State.claim_owner ..⟩

theorem resKey_ne_gpio {t i g : Nat} (ht : 1 ≤ t) (hg : g < 16) : resKey t i ≠ resKey 0 g := by
  unfold resKey
  omega

theorem wfld_four_lt (v : Word) (lo : Nat) : wfld v lo 4 < 16 := Nat.mod_lt _ (by decide)

/-- Alternate `a` holds the GPIO, and the note of a refusal, that `x` says. -/
def State.putAlt (a : Nat) (x : Option Nat × Bool) (s : State) : State :=
  { s with pin := { s.pin with alt := tset (none, false) s.pin.alt a x } }

theorem State.putAlt_get (a : Nat) (x : Option Nat × Bool) (s : State) : tget (none, false) (s.putAlt a x).pin.alt a = x :=
  tget_tset_same ..

section
variable {v : Word} {s : State} (hv : wbit v 31 = true)
include hv

/-- EN from 0 to 1 of a capture buffer claims the buffer and its GPIO. -/
theorem State.captCfgWrite_claims {k : Nat} (hw : s.rb (0xB0040 + 0x10 * k) 31 = false) : s.captCfgWrite k v =
    (let r := (s.regWrite (0xB0040 + 0x10 * k) v).claimAll (0x0600 + k) [resKey 3 k, resKey 0 (wfld v 16 4)]
     r.2.setCapt k { s.capt k with held := if r.1 then some (wfld v 16 4) else none, refused := !r.1 }) :=
  if_pos (by simp [hv, hw])

/-- EN from 0 to 1 of an alternate claims the alternate and its GPIO. -/
theorem State.altCfgWrite_claims {a : Nat} (hw : s.rb (0xB0020 + 4 * a) 31 = false) : s.altCfgWrite a v =
    (let r := (s.regWrite (0xB0020 + 4 * a) v).claimAll (0x0500 + a) [resKey 4 a, resKey 0 (wfld v 16 4)]
     r.2.putAlt a (if r.1 then some (wfld v 16 4) else none, !r.1)) :=
  if_pos (by simp [hv, hw])

end

/-- EN = 0 of a capture buffer ends its claim and empties its queue. -/
theorem State.captCfgWrite_ends {k : Nat} {v : Word} (hv : wbit v 31 = false) (s : State) :
    ∃ u : State, s.captCfgWrite k v = u.setCapt k { s.capt k with held := none, refused := false, queue := [] } :=
  ⟨_, (if_neg (by simp [hv])).trans (if_pos (by simp [hv]))⟩

/-- Settles O52: the host's claims by `hostClaim`, the registers' by `claimAll_pair`. -/
theorem resourceClaims : Obligations.ResourceClaims := by
  unfold Obligations.ResourceClaims
  refine ⟨fun h r i l s hc hr hu => ⟨fun hf => ?free, fun o ho => ?busy⟩, fun h r i s hc hr hu => ?release,
    fun v s n m g => ⟨rfl, rfl, rfl⟩, fun k v s hv hw hu _ => ?capt, fun a v s hv hw hu _ => ?alt, fun k v s hv => ?ends⟩
  case free =>
    refine hc.does (State.apply_claim_res hr (State.hostClaim_free hu hf)) rfl rfl rfl fun c p hd => ⟨hd, ?_, fun k hk => ?_⟩
    · rw [withComps_res_eq, withPmc_res_eq, State.setRes_get]
    · rw [withComps_res_eq, withPmc_res_eq, State.setRes_get_other _ _ _ _ hk]
  case busy =>
    exact hc.answers (State.apply_claim_res hr (State.hostClaim_held hu ho)) rfl (Nat.succ_ne_zero _)
      fun x p hx hres => ⟨rfl, x, rfl, hx, hres⟩
  case release =>
    refine hc.does (State.apply_release_res hr) rfl rfl rfl fun c p hd => ⟨hd, fun ho => ?_, fun ho => ?_⟩
    · rw [withComps_res_eq, withPmc_res_eq, State.hostRelease_sound hu, if_pos ho, State.setRes_get]
    · rw [withComps_res_eq, withPmc_res_eq, State.hostRelease_sound hu, if_neg ho, State.setRes_get]
  case capt =>
    have hne := resKey_ne_gpio (t := 3) (i := k) (by decide) (wfld_four_lt v 16)
    refine ⟨_, congrArg Host.Outcome.next ((State.captCfgWrite_claims hv hw).trans
      (by rw [State.claimAll_pair (by exact hu)])), fun hfree => ?_, fun hno => ?_⟩
    · rw [if_pos (by exact hfree)]
      obtain ⟨hbuf, hgpio⟩ := State.claim_pair_owners (owner := 0x0600 + k.val) hne (s.regWrite (0xB0040 + 0x10 * k.val) v)
      rw [State.setCapt_get]
      exact ⟨rfl, rfl, hbuf, hgpio⟩
    · rw [if_neg (by exact hno), State.setCapt_get]
      exact ⟨rfl, rfl, rfl⟩
  case alt =>
    have hne := resKey_ne_gpio (t := 4) (i := a) (by decide) (wfld_four_lt v 16)
    refine ⟨_, congrArg Host.Outcome.next ((State.altCfgWrite_claims hv hw).trans
      (by rw [State.claimAll_pair (by exact hu)])), fun hfree => ?_, fun hno => ?_⟩
    · rw [if_pos (by exact hfree)]
      obtain ⟨halt, hgpio⟩ := State.claim_pair_owners (owner := 0x0500 + a.val) hne (s.regWrite (0xB0020 + 4 * a.val) v)
      exact ⟨State.putAlt_get .., halt, hgpio⟩
    · rw [if_neg (by exact hno)]
      exact ⟨State.putAlt_get .., rfl⟩
  case ends =>
    obtain ⟨u, h⟩ := State.captCfgWrite_ends (k := k) hv s
    refine ⟨_, congrArg Host.Outcome.next h, ?_⟩
    dsimp only
    rw [State.setCapt_get]
    exact ⟨rfl, rfl, rfl⟩

/-! ### Capture buffers (14 R398) -/

/-- Buffer `k` captures this edge of GPIO `p`. -/
def State.captures (s : State) (k p : Nat) (rise : Bool) : Prop :=
  (s.capt k).held = some p ∧ (if rise then s.rf (0xB0040 + 0x10 * k) 24 2 % 2 = 1 else s.rf (0xB0040 + 0x10 * k) 24 2 / 2 = 1)

/-- A buffer takes an edge, or drops it with OVF. -/
def Capt.taken (c : Capt) (at_ : Pos) (rise : Bool) : Capt :=
  if c.queue.length < 16 then { c with queue := c.queue ++ [(at_.back 1, rise)] } else { c with ovf := true }

section
variable {k p : Nat} {rise : Bool} {s : State}

theorem State.captEdge_of_captures (h : s.captures k p rise) : s.captEdge k p rise = s.setCapt k ((s.capt k).taken s.now rise) := by
  have hwanted : ((s.capt k).held = some p && ((rise && s.rf (0xB0040 + 0x10 * k) 24 2 % 2 = 1) ||
      (!rise && s.rf (0xB0040 + 0x10 * k) 24 2 / 2 = 1))) = true := by
    obtain ⟨hheld, hedge⟩ := h
    cases rise <;> simpa [hheld] using hedge
  refine (if_pos hwanted).trans ?_
  unfold Capt.taken
  split <;> rfl

theorem State.captEdge_of_not_captures (h : ¬ s.captures k p rise) : s.captEdge k p rise = s := by
  refine if_neg fun hwanted => h ?_
  cases rise <;> simpa [State.captures] using hwanted

/-- An edge at one buffer changes no other buffer, and nothing that decides what another captures. -/
theorem State.captEdge_keeps {j : Nat} (h : k ≠ j) (s : State) :
    (s.captEdge j p rise).capt k = s.capt k ∧ ((s.captEdge j p rise).captures k p rise ↔ s.captures k p rise) ∧
      (s.captEdge j p rise).now = s.now := by
  by_cases hc : s.captures j p rise
  · rw [State.captEdge_of_captures hc]
    have hcapt := State.setCapt_get_other s j ((s.capt j).taken s.now rise) k h
    exact ⟨hcapt, by rw [State.captures, hcapt]; exact Iff.rfl, rfl⟩
  · rw [State.captEdge_of_not_captures hc]
    exact ⟨rfl, Iff.rfl, rfl⟩

end

/-- The edge at a list of buffers. -/
def State.captEdges (p : Nat) (rise : Bool) (l : List Nat) (s : State) : State := foldS l (fun k s => s.captEdge k p rise) s

theorem State.captEdges_other {p k : Nat} {rise : Bool} {l : List Nat} (h : k ∉ l) (s : State) :
    (s.captEdges p rise l).capt k = s.capt k := by
  induction l generalizing s with
  | nil => rfl
  | cons j l ih =>
    exact (ih (List.not_mem_of_not_mem_cons h) _).trans (State.captEdge_keeps (List.ne_of_not_mem_cons h) s).1

/-- Each buffer of the list sees the edge once. -/
theorem State.captEdges_mem {p k : Nat} {rise : Bool} {l : List Nat} (hd : l.Nodup) (h : k ∈ l) (s : State) :
    (s.captures k p rise → (s.captEdges p rise l).capt k = (s.capt k).taken s.now rise) ∧
    (¬ s.captures k p rise → (s.captEdges p rise l).capt k = s.capt k) := by
  induction l generalizing s with
  | nil => cases h
  | cons j l ih =>
    obtain ⟨hj, hl⟩ := List.nodup_cons.mp hd
    by_cases hkj : k = j
    · subst hkj
      have hrest : (s.captEdges p rise (k :: l)).capt k = (s.captEdge k p rise).capt k := State.captEdges_other hj _
      rw [hrest]
      exact ⟨fun hc => by rw [State.captEdge_of_captures hc, State.setCapt_get], fun hc => by rw [State.captEdge_of_not_captures hc]⟩
    · obtain ⟨hcapt, hiff, hnow⟩ := State.captEdge_keeps (p := p) (rise := rise) hkj s
      have hrest := ih hl (List.mem_of_ne_of_mem hkj h) (s.captEdge j p rise)
      rwa [hcapt, hiff, hnow] at hrest

theorem State.captEdges_gpioIn (p : Nat) (rise : Bool) (l : List Nat) (s : State) :
    (s.captEdges p rise l).pin.gpioIn = s.pin.gpioIn := by
  refine foldS_keeps (fun s => s.pin.gpioIn) l _ (fun k t => ?_) s
  by_cases hc : t.captures k p rise
  · rw [State.captEdge_of_captures hc]
    rfl
  · rw [State.captEdge_of_not_captures hc]

/-- The levels of the balls after an edge at GPIO `p`. -/
def gpioLevel (w : BitVec 16) (p : Fin 16) (rise : Bool) : BitVec 16 :=
  if rise then w ||| (1#16 <<< p.val) else w &&& ~~~ (1#16 <<< p.val)

theorem gpioLevel_at (w : BitVec 16) (p : Fin 16) (rise : Bool) : (gpioLevel w p rise).getLsbD p = rise := by
  cases rise <;> simp [gpioLevel]

/-- The ball of GPIO `p` after its edge; nothing else has changed yet. -/
def State.levelSet (p : Fin 16) (rise : Bool) (s : State) : State :=
  { s with pin := { s.pin with gpioIn := gpioLevel s.pin.gpioIn p rise } }

/-- Settles O53: the eight buffers see the edge by `captEdges_mem`. -/
theorem captures : Obligations.Captures := by
  unfold Obligations.Captures
  refine ⟨fun p rise s => ?edge, fun k s x r hq => ?read, fun k s hq => ?empty⟩
  case edge =>
    refine ⟨(s.levelSet p rise).captEdges p rise (List.range 8), rfl, ?_, fun k => ?_⟩
    · rw [State.captEdges_gpioIn]
      exact gpioLevel_at ..
    · obtain ⟨htaken, hkept⟩ := State.captEdges_mem (p := p) (rise := rise) List.nodup_range (List.mem_range.mpr k.isLt)
        (s.levelSet p rise)
      exact ⟨fun hw hroom => (htaken hw).trans (if_pos hroom), fun hw hfull => (htaken hw).trans (if_neg (Nat.not_lt.mpr hfull)), hkept⟩
  case read =>
    refine ⟨s.setCapt k { s.capt k with queue := r }, congrArg Host.Outcome.next ?_, State.setCapt_get .., fun j hj =>
      State.setCapt_get_other _ _ _ _ hj⟩
    unfold State.captRead
    rw [hq]
  case empty =>
    refine congrArg Host.Outcome.next ?_
    unfold State.captRead
    rw [hq]

end Sys2Proof.Machine
end

section
/-! O55. The performance counters (12 R341-R344) and the chalk-log registers (R351-R354). -/

namespace Sys2Proof.Machine

/-! ### Performance counters -/

theorem pmcFrozen_setReg (w : Word) (s : State) : (s.setReg 0x6000 w).pmcFrozen = wbit w 1 :=
  congrArg (fun w => wbit w 1) (State.setReg_get ..)

/-- PMC.CTL with FREEZE as asked. -/
def freezeWord (on : Bool) (w : Word) : Word := if on then w ||| 2#32 else w &&& ~~~ 2#32

theorem getLsbD_or_one_shiftLeft {n j : Nat} (h : j < n) (w : BitVec n) : (w ||| (1#n <<< j)).getLsbD j = true := by
  simp [h]

theorem freezeWord_bit (on : Bool) (w : Word) : wbit (freezeWord on w) 1 = on := by
  cases on <;> simp [freezeWord, wbit]

theorem or_and_not_self {n : Nat} (w m : BitVec n) : (w ||| m) &&& ~~~ m = w &&& ~~~ m := by
  refine BitVec.eq_of_getLsbD_eq fun i hi => ?_
  cases h : m.getLsbD i <;> simp [h]

theorem freezeWord_rest (on : Bool) (w : Word) : freezeWord on w &&& ~~~ 2#32 = w &&& ~~~ 2#32 := by
  cases on
  · exact (BitVec.and_assoc ..).trans (congrArg (w &&& ·) BitVec.and_self)
  · exact or_and_not_self w 2#32

theorem State.pmcAdd_of_frozen {s : State} (h : s.pmcFrozen = true) (j n : Nat) : s.pmcAdd j n = s :=
  if_pos (by rw [h]; rfl)

/-- What carries a counter past its last value. -/
def pmcCarry (x : Nat) : Nat := 2 ^ 48 - x % 2 ^ 48

theorem pmcCarry_wraps (x : Nat) : pmcCarry x ≠ 0 ∧ 2 ^ 48 ≤ x + pmcCarry x ∧ (x + pmcCarry x) % 2 ^ 48 = 0 := by
  unfold pmcCarry
  omega

/-- A counter that wraps: its value, its overflow bit, every other counter as it was. -/
theorem State.pmcAdd_carry {s : State} (h : s.pmcFrozen = false) (j : Fin 13) :
    let t := s.pmcAdd j.val (pmcCarry (tget 0 s.pmc.cnt j.val))
    t.pmc.cnt = tset 0 s.pmc.cnt j.val 0 ∧ t.pmc.ovf = s.pmc.ovf ||| (1#13 <<< j.val) := by
  obtain ⟨hpos, hover, hzero⟩ := pmcCarry_wraps (tget 0 s.pmc.cnt j.val)
  unfold State.pmcAdd
  rw [if_neg (by rw [h]; simpa using hpos)]
  dsimp only
  rw [if_neg (Nat.not_lt.mpr hover), hzero]
  exact ⟨State.ite_keeps (fun t => t.pmc.cnt) rfl rfl, State.ite_keeps (fun t => t.pmc.ovf) rfl rfl⟩

/-! ### The chalk log's registers -/

/-- Setting MIRR leaves LOG.CFG as the write stored it. -/
theorem State.logCfg_reg (v : Word) (s : State) : (s.logCfg v).reg 0x5000 = (s.regWrite 0x5000 v).reg 0x5000 := by
  unfold State.logCfg
  dsimp only
  split <;> rfl

/-- MIRROR from 0 to 1 sets MIRR to WR, and no other write of LOG.CFG touches the log. -/
theorem State.logCfg_log (v : Word) (s : State) :
    (s.logCfg v).log = if wbit v 1 && !(s.rb 0x5000 1) then { s.log with mirr := s.log.wr } else s.log := by
  unfold State.logCfg
  dsimp only
  split <;> rfl

/-- Settles O55. -/
theorem countersAndLogRegisters : Obligations.CountersAndLogRegisters := by
  unfold Obligations.CountersAndLogRegisters
  refine ⟨⟨fun s => rfl, fun on s => ?freeze, fun j v s => ?preset, fun j s h => ?idle, fun j s h => ?frozen, fun j s hc hf => ?wrap⟩,
    fun v s => ?mark, fun v s => ?ridx, fun v s => ?cfg⟩
  case freeze =>
    refine ⟨s.setReg 0x6000 (freezeWord on (s.reg 0x6000)), rfl, ?_, rfl, ?_⟩
    · rw [pmcFrozen_setReg, freezeWord_bit]
    · rw [State.setReg_get, freezeWord_rest]
  case preset => exact ⟨_, rfl, tget_tset_same .., fun k hk => tget_tset_other _ _ _ _ _ hk⟩
  case idle => exact congrArg Host.Outcome.next (if_neg (by simp [h]))
  case frozen =>
    refine ⟨congrArg Host.Outcome.next ?_, State.pmcAdd_of_frozen h j⟩
    rw [State.pmcAdd_of_frozen h, ite_self]
  case wrap =>
    obtain ⟨hcnt, hovf⟩ := State.pmcAdd_carry hf j
    refine ⟨_, congrArg Host.Outcome.next (if_pos hc), ?_, ?_, fun k hk => ?_⟩
    · exact (congrArg (fun c => tget 0 c j.val) hcnt).trans (tget_tset_same ..)
    · exact (congrArg (fun o => o.getLsbD j.val) hovf).trans (getLsbD_or_one_shiftLeft j.isLt _)
    · exact (congrArg (fun c => tget 0 c k) hcnt).trans (tget_tset_other _ _ _ _ _ hk)
  case mark =>
    refine congrArg Host.Outcome.next ?_
    rw [apply_ite fun l => ({ s with log := l } : State)]
    rfl
  case ridx => exact ⟨_, rfl, rfl, State.regWrite_low (by decide) v s⟩
  case cfg =>
    refine ⟨s.logCfg v, rfl, ?_, fun hv hw => ?_, fun h => ?_⟩
    · rw [State.logCfg_reg]
      exact State.regWrite_low (by decide) v s
    · rw [State.logCfg_log, if_pos (by rw [hv, hw]; rfl)]
    · rw [State.logCfg_log, if_neg (by rcases h with h | h <;> simp [h])]

end Sys2Proof.Machine
end

section
/-! O56. Scrubbing, calibration, the legacy commands, GLB.MODE (12 R348, R349, R356-R358). -/

namespace Sys2Proof.Machine

/-! ### Scrubbing -/

theorem State.clearUpset_upsetAt (m : Mem) (s : State) : (s.clearUpset m).upsetAt m = none := by
  refine if_pos ?_
  simp [State.clearUpset]

theorem State.upsetAt_of_hide {s t : State} (h : t.hide 35184372088799 = s.hide 35184372088799) (m : Mem) : t.upsetAt m = s.upsetAt m := by
  unfold State.upsetAt
  rw [upsets_of_hide h]

/-- In a sweep, with MP in service, the word is scrubbed with what has just arisen there. -/
theorem execScrubWord_of_sweep {s : State} (h : s.mgt.sweepOn = true) (hm : s.mpIn = true) (m : Mem) :
    exec (.scrubWord m none) s = .next (s.scrubWord m) :=
  congrArg Host.Outcome.next (if_pos (by rw [h, hm]; rfl))

theorem State.scrubWord_sound {s : State} {m : Mem} (h : s.upsetAt m = none) : s.scrubWord m =
    { s with mgt := { s.mgt with toScrub := s.mgt.toScrub.filter (fun u => decide (u.mem ≠ m)) } } := by
  unfold State.scrubWord State.scrubRead
  rw [h]

/-- A single-bit error of the key store, counted and corrected before it is reported. -/
def State.keyCorrected (k : Fin 64) (s : State) : State :=
  { s with mgt := { s.mgt with scrubCe := s.mgt.scrubCe + 1 } }.clearUpset (.key k)

theorem State.scrubRead_key {s : State} {k : Fin 64} (h : s.upsetAt (.key k) = some false) :
    s.scrubRead (.key k) = (s.keyCorrected k).sramErr 0x183 k.val false := by
  unfold State.scrubRead
  rw [h]
  rfl

/-! ### Servicing models -/

/-- The operations of MGT.LEGACY_CMD. -/
theorem exec_legacyCmd {i : Instr} {n : Nat} (h : (i = .legacySense ∧ n = 1) ∨ (i = .legacyCal ∧ n = 2) ∨ (i = .legacyScrubReport ∧ n = 3))
    (s : State) : exec i s = .next (s.legacyCmd n) ∧ n % 4 = n ∧ n ≠ 0 := by
  rcases h with ⟨rfl, rfl⟩ | ⟨rfl, rfl⟩ | ⟨rfl, rfl⟩ <;> exact ⟨rfl, rfl, by decide⟩

theorem State.legacyCmd_starts {s : State} {n : Nat} (ht : s.mgt.legacyTask = 0) (hs : s.glb.svc = true) (hn : n % 4 = n) (h0 : n ≠ 0) :
    s.legacyCmd n = { s with mgt := { s.mgt with legacyTask := n, legacyLeft := if s.stp.phase < 2304 then 1 else 2 } } := by
  refine (if_neg (by simp [ht, hs, hn, h0])).trans ?_
  rw [hn]

theorem State.legacyCmd_errs {s : State} {n : Nat} (h : s.mgt.legacyTask ≠ 0 ∨ s.glb.svc = false) :
    s.legacyCmd n = { s with mgt := { s.mgt with legacyErr := true } } :=
  if_pos (by rcases h with h | h <;> simp [h])

theorem State.legacyEnd_eq {s : State} (ht : s.mgt.legacyTask ≠ 0) (hm : s.mpIn = true) (x : Sample) : s.legacyEnd x =
    { s.legacyEffect x with mgt := { (s.legacyEffect x).mgt with legacyTask := 0, legacyDone := true } } :=
  if_neg (by simp [ht, hm])

/-- SCRUB_REPORT moves the counts into the data registers. -/
theorem State.legacyEffect_report {s : State} (h : s.mgt.legacyTask = 3) (x : Sample) : s.legacyEffect x =
    { s with mgt := { s.mgt with
      legacyData := tset 0 (tset 0 s.mgt.legacyData 14 (s.mgt.scrubCe : Nat)) 15 (s.mgt.scrubUe : Nat), scrubCe := 0, scrubUe := 0 } } :=
  (if_neg (by omega)).trans (if_neg (by omega))

/-- Settles O56. -/
theorem scrubCalLegacy : Obligations.ScrubCalLegacy := by
  unfold Obligations.ScrubCalLegacy
  refine ⟨fun m s hw hm hu => ?sound, fun k s hw hm hu => ?key, fun m u s h => ?outside, fun s h64 hm hs => ?calibrates,
    fun i n s hi => ⟨fun ht hs => ?starts, fun h => ?errs⟩, fun x s h => ?early, fun x s ht hm hs hl hp => ?done, fun v s => ?mode⟩
  case sound => rw [execScrubWord_of_sweep hw hm, State.scrubWord_sound hu]
  case key =>
    have hf (W) (hW : 2048 &&& W = 2048) := State.raise_frame W hW .sramCe 0x183 k.val 0 (s.keyCorrected k)
    have hread : (s.scrubRead (.key k)) = (s.keyCorrected k).raise .sramCe 0x183 k.val 0 := State.scrubRead_key hu
    refine ⟨_, execScrubWord_of_sweep hw hm _, ?_⟩
    unfold State.scrubWord
    rw [hread]
    exact ⟨congrArg (·.scrubCe) (mgt_of_hide (hf _ (by decide))),
      (State.upsetAt_of_hide (hf _ (by decide)) _).trans (State.clearUpset_upsetAt ..), State.key_congr (sec_keys_of_hide (hf _ (by decide))) k⟩
  case outside => exact congrArg Host.Outcome.next (if_neg (by rcases h with h | h <;> simp [h]))
  case calibrates => exact congrArg Host.Outcome.next (if_pos (by simp [h64, hm, hs]))
  case starts =>
    obtain ⟨he, hn, h0⟩ := exec_legacyCmd hi s
    rw [he, State.legacyCmd_starts ht hs hn h0]
  case errs => rw [(exec_legacyCmd hi s).1, State.legacyCmd_errs h]
  case early =>
    refine congrArg Host.Outcome.next (if_neg fun hc => ?_)
    simp only [Bool.and_eq_true, decide_eq_true_eq] at hc
    obtain ⟨⟨hs, hl⟩, hp⟩ := hc
    rcases h with h | h | h
    · simp [h] at hs
    · omega
    · exact h hp
  case done =>
    refine ⟨s.legacyEnd x, congrArg Host.Outcome.next (if_pos (by simp [hs, hl, hp])), ?_⟩
    rw [State.legacyEnd_eq ht hm]
    refine ⟨rfl, rfl, fun h3 => ?_⟩
    rw [State.legacyEffect_report h3]
    exact ⟨rfl, rfl, (tget_tset_other _ _ _ _ _ (by decide)).trans (tget_tset_same ..), tget_tset_same ..⟩
  case mode => exact ⟨s.regWrite 0x000C v, rfl, rfl, State.regWrite_rb (by decide) v s⟩

end Sys2Proof.Machine
end

section
/-! O58. ERR_N, the first-fault captures, the reaction table, injection (13 R365, R368, R370, R376). -/

namespace Sys2Proof.Machine

/-! ### The reaction table -/

/-- The reactions are those of the stored table. -/
theorem State.reaction_congr {s t : State} (h : t.flt.react = s.flt.react) (src cls : Nat) : t.reaction src cls = s.reaction src cls := by
  unfold State.reaction
  rw [h]

/-- Reaction `x` of an entry as the table stores it: nothing where it is the reset value. -/
def storedReaction (src cls : Nat) (x : BitVec 5) : Option (BitVec 5) := if x = reactReset src cls then none else some x

theorem storedReaction_getD (src cls : Nat) (x : BitVec 5) : (storedReaction src cls x).getD (reactReset src cls) = x := by
  unfold storedReaction
  split
  · next h => exact h.symm
  · rfl

/-- Reaction `x` stored at the entry of a source and class. -/
def State.setReaction (src cls : Nat) (x : BitVec 5) (s : State) : State :=
  { s with flt := { s.flt with react := tset none s.flt.react (4 * src + cls) (storedReaction src cls x) } }

theorem State.setReaction_get (src cls : Nat) (x : BitVec 5) (s : State) : (s.setReaction src cls x).reaction src cls = x := by
  unfold State.reaction State.setReaction
  rw [tget_tset_same, storedReaction_getD]

theorem State.setReaction_get_other {src cls a c : Nat} (h : 4 * a + c ≠ 4 * src + cls) (x : BitVec 5) (s : State) :
    (s.setReaction src cls x).reaction a c = s.reaction a c := by
  unfold State.reaction State.setReaction
  rw [tget_tset_other _ _ _ _ _ h]

/-- A write of RDATA for an entry there is. -/
theorem State.reactWrite_eq {v : Word} {s : State} (h : wfld (s.reg 0x4080) 0 2 ≠ 3) : ∃ t : State, t.flt.react = s.flt.react ∧
    s.reactWrite v = t.setReaction (wfld (s.reg 0x4080) 2 9) (wfld (s.reg 0x4080) 0 2)
      (BitVec.ofNat 5 v.toNat &&& reactMask (wfld (s.reg 0x4080) 2 9)) := by
  refine ⟨_, ?_, if_neg h⟩
  obtain ⟨x, u, hw⟩ := State.wordWritten_eq (.reaction (wfld (s.reg 0x4080) 2 9) (Fin.ofNat 4 (wfld (s.reg 0x4080) 0 2))) s
  rw [hw]

/-! ### Injection -/

/-- INJ_CTL with GO. -/
def withGo (v : Word) : Word := v ||| 0x80000000#32

theorem wbit_withGo {i : Nat} (h : i < 31) (v : Word) : wbit (withGo v) i = wbit v i := by
  have hgo : (0x80000000#32).getLsbD i = false := by
    refine (BitVec.getLsbD_twoPow 31 i (w := 32)).trans ?_
    simp [Nat.ne_of_gt h]
  simp [withGo, wbit, hgo]

theorem wfld_withGo {lo w : Nat} (h : lo + w ≤ 31) (v : Word) : wfld (withGo v) lo w = wfld v lo w := by
  refine Nat.eq_of_testBit_eq fun i => ?_
  unfold wfld fld
  rw [Nat.testBit_mod_two_pow, Nat.testBit_mod_two_pow, Nat.testBit_shiftRight, Nat.testBit_shiftRight]
  by_cases hi : i < w
  · exact congrArg (decide (i < w) && ·) (wbit_withGo (by omega) v)
  · simp [hi]

/-- A message that finds room takes its place in the queue. -/
theorem State.post_of_room {s : State} (h : s.flt.queue.length < 64) (m : Msg) :
    s.post m = { s with flt := { s.flt with queue := insertMsg { m with at_ := s.now } s.flt.queue } } :=
  if_pos h

/-- A write of INJ_CTL breaks off the unlock sequence and is stored. -/
def State.injStored (v : Word) (s : State) : State := s.fltTouched.regWrite 0x4184 (withGo v)

theorem State.injStored_addr (v : Word) (s : State) : (s.injStored v).reg 0x4188 = s.reg 0x4188 :=
  State.setReg_get_other s.fltTouched 0x4184 _ 0x4188 (by decide)

/-- What GO does with INJ_CTL as `v` and INJ_ADDR as `a`: a bit flip is armed, or a message queued. -/
def State.inject (v a : Word) (s : State) : State :=
  if wbit v 30 then { s with flt := { s.flt with flip := some (wfld v 18 9, a, wbit v 29) } }
  else s.post { source := wfld v 18 9, kind := wfld v 0 8, cls := wfld v 27 2, addr := a, data := 0 }

theorem State.inject_withGo (v a : Word) (s : State) : s.inject (withGo v) a = s.inject v a := by
  unfold State.inject
  rw [wbit_withGo (by decide), wbit_withGo (by decide), wfld_withGo (by decide), wfld_withGo (by decide), wfld_withGo (by decide)]

/-- GO in factory test mode, unlocked. -/
theorem State.injCtl_go {v : Word} {s : State} (ht : s.flt.test = true) (ho : s.flt.injOpen = true) :
    s.fltTouched.injCtl (withGo v) = (s.injStored v).inject v (s.reg 0x4188) := by
  have hgo : (!wbit (withGo v) 31 || !(s.injStored v).flt.injOpen) = false := by
    have hbit : wbit (withGo v) 31 = true := by simp [withGo, wbit]
    rw [hbit, show (s.injStored v).flt.injOpen = true from ho]
    rfl
  have hinject : s.fltTouched.injCtl (withGo v) = (s.injStored v).inject (withGo v) ((s.injStored v).reg 0x4188) :=
    (if_neg (by simp [State.fltTouched, ht])).trans (if_neg (by exact ne_true_of_eq_false hgo))
  rw [hinject, State.injStored_addr, State.inject_withGo]

/-- Settles O58. -/
theorem errorPinsAndInjection : Obligations.ErrorPinsAndInjection := by
  unfold Obligations.ErrorPinsAndInjection
  refine ⟨⟨fun s => rfl, fun s => ?release, fun s hw hl => ?expiry, fun s => rfl, fun s hf => ?clear, fun s hf => ?keep,
    fun v s => ?reaction⟩, fun v s ht => ?mission, fun v s ht => ?unlock, fun v s ht ho hq => ?go⟩
  case release =>
    refine ⟨s.fltTouched.errRelease, rfl, fun hlatch hleft => ?_, fun hlatch hleft => ?_⟩ <;> unfold State.errRelease
    · rw [if_neg (by simp [State.fltTouched, hlatch]), if_pos (by exact hleft)]
      exact ⟨rfl, rfl⟩
    · rw [if_neg (by simp [State.fltTouched, hlatch]), if_neg (by exact hleft)]
      exact ⟨hlatch, rfl⟩
  case expiry => exact congrArg Host.Outcome.next (if_pos (by simp [hw, hl]))
  case clear => exact congrArg Host.Outcome.next (if_neg (by simp [State.fltTouched, hf]))
  case keep => exact ⟨s.fltTouched, congrArg Host.Outcome.next (if_pos hf), rfl⟩
  case reaction =>
    refine ⟨s.fltTouched.reactWrite v, rfl, ?_⟩
    by_cases hcls : wfld (s.reg 0x4080) 0 2 = 3
    · have hw : s.fltTouched.reactWrite v = s.fltTouched := if_pos hcls
      rw [hw]
      exact ⟨fun h => absurd hcls h, fun _ => rfl, fun a c _ => rfl⟩
    · obtain ⟨t, ht, hw⟩ := State.reactWrite_eq (v := v) (s := s.fltTouched) hcls
      rw [hw]
      exact ⟨fun _ => State.setReaction_get .., fun h => absurd h hcls,
        fun a c hac => (State.setReaction_get_other hac _ t).trans (State.reaction_congr (s := s) ht a c)⟩
  case mission =>
    exact ⟨congrArg Host.Outcome.next (if_pos (by simp [ht])), congrArg Host.Outcome.next (if_pos (by simp [State.fltTouched, ht]))⟩
  case unlock => exact ⟨_, congrArg Host.Outcome.next (if_neg (by simp [ht])), rfl, rfl⟩
  case go =>
    refine ⟨_, congrArg Host.Outcome.next (State.injCtl_go (v := v) ht ho), fun h30 => ?_, fun h30 => ?_⟩
    · have hpost : (s.injStored v).inject v (s.reg 0x4188) = _ := (if_neg (by simp [h30])).trans (State.post_of_room (s := s.injStored v) hq _)
      rw [hpost]
      rfl
    · have hflip : (s.injStored v).inject v (s.reg 0x4188) = _ := if_pos h30
      rw [hflip]
      exact ⟨rfl, rfl⟩

end Sys2Proof.Machine
end

section
/-! O59. Power failure, processors, PLLs, grants, the return from an NMI (13 R373, R374; 15 R404; 17 R446). -/

namespace Sys2Proof.Machine

/-! ### Messages of sources that are not in reset -/

/-- Message `m` takes its place in the collector's queue, and nothing else changes. -/
def State.queued (m : Msg) (s : State) : State := { s with flt := { s.flt with queue := insertMsg m s.flt.queue } }

/-- A message that finds room, from a source not in reset. -/
theorem State.raise_of_room {k : Kind} {src addr data : Nat} {s : State} (hs : s.srcInReset src = false) (hq : s.flt.queue.length < 64) :
    s.raise k src addr data = s.queued
      { source := src, kind := k.code, cls := k.cls, addr := BitVec.ofNat 32 addr, data := BitVec.ofNat 64 data, at_ := s.now } :=
  (if_neg (by simp [hs])).trans (State.post_of_room hq _)

/-- No source above the processors is ever in reset. -/
theorem State.srcInReset_of_ge {s : State} {src : Nat} (h : 0x167 ≤ src) : s.srcInReset src = false := by
  simp [State.srcInReset, Nat.not_lt.2 h]

/-- A processor that runs its firmware is not in reset. -/
theorem State.srcInReset_of_procRuns {s : State} {p : Nat} (h : s.procRuns p = true) : s.srcInReset (0x160 + p) = false := by
  obtain ⟨_, hheld⟩ := Bool.and_eq_true_iff.mp h
  unfold State.srcInReset
  rw [Nat.add_sub_cancel_left, Bool.not_eq_true' _ |>.mp hheld, Bool.and_false]

/-! ### Power failure (13 R374) -/

/-- PFAIL noted, with the squelch where it is set. -/
def State.pfailNoted (s : State) : State :=
  { s with flt := { s.flt with pfail := true, pfSquelch := s.flt.pfSquelch || s.rb 0x4010 0 } }

/-- PFAIL noted and told. -/
def State.pfailTold (s : State) : State := s.pfailNoted.raise .pfail 0x188 0 1

theorem State.pfailTold_eq {s : State} (hq : s.flt.queue.length < 64) : s.pfailTold =
    s.pfailNoted.queued { source := 0x188, kind := Kind.pfail.code, cls := Kind.pfail.cls, addr := 0, data := 1, at_ := s.now } :=
  State.raise_of_room (s := s.pfailNoted) (State.srcInReset_of_ge (by decide)) hq

/-- The flush of the log to EV: all of it where the log is mirrored, else what EV has not had. -/
def State.pfailFlush (s : State) : State := if s.rb 0x5000 1 then s.mirrorAll else s.flushFrom s.log.unflushed

/-- The flush touches the host interface, host memory and the log alone. -/
theorem State.pfailFlush_frame (W : Nat) (hW : 245776 &&& W = 245776) (s : State) : s.pfailFlush.hide W = s.hide W := by
  refine hide_mono _ _ hW ?_
  unfold State.pfailFlush
  split
  · exact State.mirrorAll_frame _ (by decide) s
  · exact State.flushFrom_frame _ (by decide) _ s

/-- Of the log only MIRR moves, to WR where the log is mirrored. -/
theorem State.pfailFlush_log (s : State) :
    s.pfailFlush.log = if s.rb 0x5000 1 then { s.log with mirr := s.log.wr } else s.log := by
  have hkept (l : List Nat) (t : State) : (t.flushFrom l).log = t.log := log_of_hide (State.flushFrom_frame _ (by decide) l t)
  unfold State.pfailFlush
  split
  · exact hkept s.log.unflushed { s with log := { s.log with mirr := s.log.wr } }
  · exact hkept ..

theorem ite_bnot {α : Type} (c : Bool) (a b : α) : (if !c then a else b) = if c then b else a := by
  cases c <;> rfl

theorem exec_pfail (s : State) : exec .pfail s =
    .next (if s.rb 0x4010 1 && s.hif.linkUp then s.pfailTold.pfailFlush else s.pfailTold) := by
  have htold : s.pfailTold.rb 0x4010 1 = s.rb 0x4010 1 ∧ s.pfailTold.hif.linkUp = s.hif.linkUp := by
    obtain ⟨q, l, h⟩ := State.raise_inbox .pfail 0x188 0 1 s.pfailNoted
    rw [State.pfailTold, h]
    exact ⟨rfl, rfl⟩
  refine congrArg Host.Outcome.next ?_
  rw [← htold.1, ← htold.2]
  exact ite_bnot ..

/-- Power failure, whether or not it flushes the log. -/
theorem execPfail_does {s : State} (hq : s.flt.queue.length < 64) : Does .pfail s fun t =>
    t.flt.pfail = true ∧ t.flt.pfSquelch = (s.flt.pfSquelch || s.rb 0x4010 0) ∧
    t.flt.queue = insertMsg { source := 0x188, kind := Kind.pfail.code, cls := Kind.pfail.cls, addr := 0, data := 1, at_ := s.now } s.flt.queue ∧
    (s.rb 0x4010 1 = false ∨ s.hif.linkUp = false → t.log = s.log ∧ t.hostMem = s.hostMem) ∧
    (s.rb 0x4010 1 = true → s.hif.linkUp = true → t.log = if s.rb 0x5000 1 then { s.log with mirr := s.log.wr } else s.log) := by
  refine ⟨_, exec_pfail s, ?_⟩
  dsimp only
  by_cases hflush : (s.rb 0x4010 1 && s.hif.linkUp) = true
  · have hf (W) (hW : 245776 &&& W = 245776) := State.pfailFlush_frame W hW s.pfailTold
    rw [if_pos hflush, flt_pfail_of_hide (hf _ (by decide)), flt_pfSquelch_of_hide (hf _ (by decide)), flt_queue_of_hide (hf _ (by decide)),
      State.pfailFlush_log, State.pfailTold_eq hq]
    exact ⟨rfl, rfl, rfl, fun h => by rcases h with h | h <;> simp [h] at hflush, fun _ _ => rfl⟩
  · rw [if_neg hflush, State.pfailTold_eq hq]
    exact ⟨rfl, rfl, rfl, fun _ => ⟨rfl, rfl⟩, fun h1 h2 => absurd (by rw [h1, h2]; rfl) hflush⟩

/-- Settles O59. -/
theorem faultSources : Obligations.FaultSources := by
  unfold Obligations.FaultSources
  refine ⟨fun s hq => execPfail_does hq, fun s hp => ?noPfail, fun s hp hq => ?pfailEnds, fun p s hr hq => ?heartbeat, fun p a s hr hq => ?trap,
    fun p a s hr => ?still, fun p s hq => ?lol, fun a m s hq => ?grant, fun b s => ?nmi⟩
  case noPfail => exact congrArg Host.Outcome.next (if_neg (by simp [hp]))
  case pfailEnds =>
    refine ⟨_, congrArg Host.Outcome.next ((if_pos hp).trans (State.raise_of_room (State.srcInReset_of_ge (by decide)) hq)), rfl, rfl, rfl⟩
  case heartbeat =>
    exact ⟨_, congrArg Host.Outcome.next ((if_pos hr).trans (State.raise_of_room (State.srcInReset_of_procRuns hr) hq)), rfl⟩
  case trap =>
    refine ⟨_, congrArg Host.Outcome.next ((if_pos hr).trans (State.raise_of_room (State.srcInReset_of_procRuns hr) hq)), ?_⟩
    rw [BitVec.ofNat_toNat, BitVec.setWidth_eq]
    rfl
  case still => exact ⟨congrArg Host.Outcome.next (if_neg (by simp [hr])), congrArg Host.Outcome.next (if_neg (by simp [hr]))⟩
  case lol =>
    refine ⟨_, congrArg Host.Outcome.next (State.raise_of_room (State.srcInReset_of_ge (by decide)) hq), ?_, rfl⟩
    exact getLsbD_or_one_shiftLeft p.isLt s.flt.pllLol
  case grant =>
    exact ⟨_, congrArg Host.Outcome.next (State.raise_of_room (State.srcInReset_of_ge (by omega)) hq), rfl⟩
  case nmi => exact ⟨_, rfl, glb_of_hide (State.serveHeads_frame _ (by decide) _)⟩

end Sys2Proof.Machine
end

section
/-! O54. PM_CFG, the parts of a bank, the story second (12 R337-R340, R346). -/

namespace Sys2Proof.Machine

/-! ### Messages that wait -/

/-- Message `m` waits in a queue of less than `n` messages. -/
def State.WaitsBelow (m : Msg) (n : Nat) (s : State) : Prop := m ∈ s.flt.queue ∧ s.flt.queue.length < n

section
variable {m : Msg} {n : Nat} {s : State}

theorem State.raise_waitsBelow (h : s.WaitsBelow m n) (hn : n ≤ 64) (k : Kind) (src addr data : Nat) :
    (s.raise k src addr data).WaitsBelow m (n + 1) := by
  obtain ⟨hm, hl⟩ := h
  have hq : s.flt.queue.length < 64 := by omega
  exact ⟨State.mem_raise_queue hq hm, by have := State.raise_queue_length (k := k) (src := src) (addr := addr) (data := data) hq; omega⟩

/-- An alarm that may be raised keeps what waits. -/
theorem State.alarm_waitsBelow (h : s.WaitsBelow m n) (hn : n ≤ 64) (c : Prop) [Decidable c] (k : Kind) (src addr data : Nat) :
    (if c then s else s.raise k src addr data).WaitsBelow m (n + 1) := by
  split
  · exact ⟨h.1, Nat.lt_succ_of_lt h.2⟩
  · exact State.raise_waitsBelow h hn ..

end

/-! ### A sample (12 R346) -/

theorem State.raise_mgt (k : Kind) (src addr data : Nat) (s : State) : (s.raise k src addr data).mgt = s.mgt :=
  mgt_of_hide (State.raise_frame _ (by decide) ..)

theorem State.alarm_mgt (s : State) (c : Prop) [Decidable c] (k : Kind) (src addr data : Nat) :
    (if c then s else s.raise k src addr data).mgt = s.mgt :=
  State.ite_keeps State.mgt rfl (State.raise_mgt ..)

/-- A table after the entries of `l` have been stored from `f`. -/
theorem tget_foldl_store {α : Type} [DecidableEq α] (d : α) (f : Nat → α) (l : List Nat) (t : Tab α) (k : Nat) :
    tget d (l.foldl (fun a i => tset d a i (f i)) t) k = if k ∈ l then f k else tget d t k := by
  induction l generalizing t with
  | nil => rfl
  | cons i l ih =>
    rw [List.foldl_cons, ih]
    by_cases hki : k = i
    · subst hki
      simp
    · simp [hki, tget_tset_other d t i k (f i) hki]

/-- What a sample leaves in the management registers: the power, the frame, the temperatures taken. -/
theorem State.takeSample_values (x : Sample) (s : State) :
    (s.takeSample x).mgt.power = x.power ∧ (s.takeSample x).mgt.sensFrame = s.stp.frame ∧
    ∀ k v, k < 8 → x.temps[k]? = some v → tget 0 (s.takeSample x).mgt.temp k = v := by
  unfold State.takeSample
  dsimp only
  rw [State.alarm_mgt, State.alarm_mgt, State.alarm_mgt]
  refine ⟨rfl, rfl, fun k v hk hv => ?_⟩
  dsimp only
  rw [tget_foldl_store, if_pos (List.mem_range.mpr hk)]
  simp [hv]

/-- The sensor registers of `m`, all else as in `m'`. -/
def Mgt.withSensors (m m' : Mgt) : Mgt :=
  { m' with temp := m.temp, tempMax := m.tempMax, volt := m.volt, power := m.power, sensFrame := m.sensFrame, hot := m.hot,
            crit := m.crit, voltBad := m.voltBad }

/-- A sample changes the sensor registers alone. -/
theorem State.takeSample_mgt (x : Sample) (s : State) : (s.takeSample x).mgt = (s.takeSample x).mgt.withSensors s.mgt := by
  unfold State.takeSample
  dsimp only
  simp only [State.alarm_mgt]
  rfl

theorem State.takeSample_waitsBelow {m : Msg} {n : Nat} {s : State} (h : s.WaitsBelow m n) (hn : n ≤ 61) (x : Sample) :
    (s.takeSample x).WaitsBelow m (n + 1 + 1 + 1) := by
  unfold State.takeSample
  dsimp only
  with_reducible refine State.alarm_waitsBelow (State.alarm_waitsBelow (State.alarm_waitsBelow ?_ ?_ ..) ?_ ..) ?_ ..
  · exact h
  all_goals omega

/-! ### The latch (12 R337, R340) -/

/-- PM_LOST for the bank of a second. -/
def lostMsg (second : Word) (now : Pos) : Msg :=
  { source := 0x161, kind := Kind.pmLost.code, cls := Kind.pmLost.cls, addr := second, data := 0, at_ := now }

theorem State.srcInReset_of_mpIn {s : State} (h : s.mpIn = true) : s.srcInReset 0x161 = false := by
  obtain ⟨_, hheld⟩ := Bool.and_eq_true_iff.mp h
  show (true && s.glb.heldRst.getLsbD 1) = false
  rw [Bool.not_eq_true' _ |>.mp hheld]
  rfl

/-- A lost bank is counted, and the collector told. -/
theorem State.pmLose_eq (second : Word) (s : State) : ∃ q l, s.pmLose second =
    { s with mgt := { s.mgt with pmLost := (s.mgt.pmLost + 1) % 65536, lostBefore := true }, flt := { s.flt with queue := q, lost := l } } :=
  State.raise_inbox ..

section
variable {m : Msg} {n : Nat} {s : State} {second : Word}

theorem State.pmLose_waitsBelow (h : s.WaitsBelow m n) (hn : n ≤ 64) : (s.pmLose second).WaitsBelow m (n + 1) :=
  State.raise_waitsBelow (s := { s with mgt := { s.mgt with pmLost := (s.mgt.pmLost + 1) % 65536, lostBefore := true } }) h hn ..

theorem State.pmLose_tells (hm : s.mpIn = true) (hl : s.flt.queue.length < n) (hn : n ≤ 64) :
    (s.pmLose second).WaitsBelow (lostMsg second s.now) (n + 1) := by
  have hq : (s.pmLose second).flt.queue = insertMsg (lostMsg second s.now) s.flt.queue := by
    have hraise := State.raise_queue (k := .pmLost) (addr := second.toNat) (data := 0)
      (s := { s with mgt := { s.mgt with pmLost := (s.mgt.pmLost + 1) % 65536, lostBefore := true } })
      (State.srcInReset_of_mpIn hm) (Nat.lt_of_lt_of_le hl hn)
    rwa [BitVec.ofNat_toNat, BitVec.setWidth_eq] at hraise
  unfold State.WaitsBelow
  rw [hq, insertMsg_length]
  exact ⟨mem_insertMsg.mpr (.inl rfl), Nat.succ_lt_succ hl⟩

end

/-- A bank that was still open is lost. -/
def State.openLost (s : State) : State := if s.mgt.bankOpen then s.pmLose s.mgt.second else s

theorem State.openLost_eq (s : State) : ∃ p q l, s.openLost =
    { s with mgt := { s.mgt with pmLost := p, lostBefore := s.mgt.lostBefore || s.mgt.bankOpen }, flt := { s.flt with queue := q, lost := l } } := by
  unfold State.openLost
  by_cases h : s.mgt.bankOpen = true
  · obtain ⟨q, l, he⟩ := State.pmLose_eq s.mgt.second s
    rw [if_pos h, he, h, Bool.or_true]
    exact ⟨_, q, l, rfl⟩
  · rw [if_neg h, Bool.eq_false_iff.mpr h, Bool.or_false]
    exact ⟨_, _, _, rfl⟩

/-- The next second begins with no bank and no defect seen. -/
def State.secondBegun (s : State) : State :=
  { s with mgt := { s.mgt with second := s.mgt.second + 1, seen := [], bank := [], bankOpen := false, bankTotal := 0, bankPart := 0 } }

/-- The records of the included units. -/
def State.pmRecs (s : State) : List PmRec := (tkeys (fun b => b) s.mgt.incl).map (fun k => s.pmRec k)

/-- The bank `recs`, open for delivery. -/
def State.bankOpened (recs : List PmRec) (s : State) : State :=
  { s with mgt := { s.mgt with bank := recs, bankOpen := true, bankTotal := recs.length, bankFrame := s.stp.frame, lostBefore := false,
                               bankFlags := putB s.mgt.lostBefore 2 + putB s.stp.epochIn 1 + putB s.stp.short 0 } }

/-- The bank of the second can be delivered: MP in service, PM enabled, its ring running. -/
def State.delivers (s : State) : Prop := s.mpIn = true ∧ s.rb 0xA0000 31 = true ∧ s.ringRun 9 0 = true

/-- The bank cannot be delivered: lost without a message where MP is out of service (assumption 82). -/
def State.bankUnsent (s : State) : State :=
  if s.mpIn then s.pmLose s.mgt.second else { s with mgt := { s.mgt with lostBefore := true } }

theorem State.secondBegun_delivers (s : State) : s.openLost.secondBegun.delivers ↔ s.delivers := by
  obtain ⟨p, q, l, h⟩ := State.openLost_eq s
  rw [h]
  exact Iff.rfl

/-- The latch, on the state in which the second begins. -/
theorem State.pmLatch_cases (s : State) : s.pmLatch =
    if !s.openLost.secondBegun.mpIn then { s.openLost.secondBegun with mgt := { s.openLost.secondBegun.mgt with lostBefore := true } }
    else if s.openLost.secondBegun.rb 0xA0000 31 && s.openLost.secondBegun.ringRun 9 0 then s.openLost.secondBegun.bankOpened s.pmRecs
    else s.openLost.secondBegun.pmLose s.openLost.secondBegun.mgt.second := rfl

theorem State.pmLatch_of_delivers {s : State} (h : s.delivers) : s.pmLatch = s.openLost.secondBegun.bankOpened s.pmRecs := by
  obtain ⟨hm, hon, hrun⟩ := (State.secondBegun_delivers s).mpr h
  rw [State.pmLatch_cases, hm, hon, hrun]
  rfl

theorem State.pmLatch_of_not_delivers {s : State} (h : ¬ s.delivers) : s.pmLatch = s.openLost.secondBegun.bankUnsent := by
  have hno : s.openLost.secondBegun.mpIn = true → ¬ (s.openLost.secondBegun.rb 0xA0000 31 && s.openLost.secondBegun.ringRun 9 0) = true :=
    fun hm hc => h ((State.secondBegun_delivers s).mp ⟨hm, Bool.and_eq_true_iff.mp hc⟩)
  rw [State.pmLatch_cases, State.bankUnsent, ite_bnot]
  split
  · next hm => exact if_neg (hno hm)
  · rfl

/-- The management plane after a latch. -/
structure State.Latched (s : State) (m : Mgt) : Prop where
  second : m.second = s.mgt.second + 1
  seen : m.seen = []
  part : m.bankPart = 0
  cal : m.calSeconds = s.mgt.calSeconds
  sent : s.delivers → m.bankOpen = true ∧ m.bank = s.pmRecs ∧ m.bankTotal = s.pmRecs.length ∧ m.bankFrame = s.stp.frame ∧
    m.bankFlags = putB (s.mgt.lostBefore || s.mgt.bankOpen) 2 + putB s.stp.epochIn 1 + putB s.stp.short 0 ∧ m.lostBefore = false
  unsent : ¬ s.delivers → m.bankOpen = false ∧ m.bank = [] ∧ m.lostBefore = true

/-- The latch changes the management plane and the collector's queue alone. -/
theorem State.pmLatch_eq (s : State) : ∃ m f, s.pmLatch = { s with mgt := m, flt := f } ∧ s.Latched m := by
  obtain ⟨p, q, l, ho⟩ := State.openLost_eq s
  by_cases hd : s.delivers
  · rw [State.pmLatch_of_delivers hd, ho]
    exact ⟨_, _, rfl, rfl, rfl, rfl, rfl, fun _ => ⟨rfl, rfl, rfl, rfl, rfl, rfl⟩, fun h => absurd hd h⟩
  · rw [State.pmLatch_of_not_delivers hd, ho, State.bankUnsent]
    split
    · obtain ⟨q, l, h⟩ := State.pmLose_eq (s.mgt.second + 1) { s with
        mgt := { s.mgt with pmLost := p, lostBefore := s.mgt.lostBefore || s.mgt.bankOpen }, flt := { s.flt with queue := q, lost := l } }.secondBegun
      refine ⟨_, _, h, rfl, rfl, rfl, rfl, fun h => absurd h hd, fun _ => ⟨rfl, rfl, rfl⟩⟩
    · exact ⟨_, _, rfl, rfl, rfl, rfl, rfl, fun h => absurd h hd, fun _ => ⟨rfl, rfl, rfl⟩⟩

/-! ### What the latch tells the collector (12 R340) -/

section
variable {m : Msg} {n : Nat} {s : State}

theorem State.WaitsBelow.mono {k : Nat} (h : s.WaitsBelow m n) (hnk : n ≤ k) : s.WaitsBelow m k := ⟨h.1, Nat.lt_of_lt_of_le h.2 hnk⟩

theorem State.openLost_queue_length (hl : s.flt.queue.length < n) (hn : n ≤ 64) : s.openLost.flt.queue.length < n + 1 := by
  unfold State.openLost
  split
  · exact Nat.lt_of_le_of_lt (State.raise_queue_length (by exact Nat.lt_of_lt_of_le hl hn)) (Nat.succ_lt_succ hl)
  · exact Nat.lt_succ_of_lt hl

/-- What waits when the second begins waits after the latch. -/
theorem State.pmLatch_waitsBelow (h : s.openLost.WaitsBelow m n) (hn : n ≤ 64) : s.pmLatch.WaitsBelow m (n + 1) := by
  by_cases hd : s.delivers
  · rw [State.pmLatch_of_delivers hd]
    exact State.WaitsBelow.mono (n := n) h (Nat.le_succ n)
  · rw [State.pmLatch_of_not_delivers hd, State.bankUnsent]
    split
    · exact State.pmLose_waitsBelow (s := s.openLost.secondBegun) h hn
    · exact State.WaitsBelow.mono (n := n) h (Nat.le_succ n)

/-- A bank still open, and one that cannot be delivered, are told. -/
theorem State.pmLatch_tells (hm : s.mpIn = true) (hl : s.flt.queue.length < n) (hn : n ≤ 63) :
    (s.mgt.bankOpen = true → s.pmLatch.WaitsBelow (lostMsg s.mgt.second s.now) (n + 1 + 1)) ∧
    (¬ s.delivers → s.pmLatch.WaitsBelow (lostMsg (s.mgt.second + 1) s.now) (n + 1 + 1)) := by
  refine ⟨fun hopen => State.pmLatch_waitsBelow ?_ (by omega), fun hd => ?_⟩
  · rw [State.openLost, if_pos hopen]
    exact State.pmLose_tells hm hl (by omega)
  · obtain ⟨p, q, l, ho⟩ := State.openLost_eq s
    have hlen : q.length < n + 1 := by
      have := State.openLost_queue_length hl (by omega)
      rwa [ho] at this
    rw [State.pmLatch_of_not_delivers hd, ho, State.bankUnsent, if_pos (by exact hm)]
    exact State.pmLose_tells (by exact hm) hlen (by omega)

end

/-! ### The story second (12 R337, R346) -/

/-- The second is latched, and its flags are cleared. -/
def State.secondLatched (s : State) : State :=
  { s.pmLatch with stp := { s.pmLatch.stp with atSecond := false, short := false, epochIn := false } }

/-- A sample is taken where MP is in service and the device is not being serviced. -/
def State.sampledIn (x : Sample) (s : State) : State := if s.mpIn && !s.glb.svc then s.takeSample x else s

theorem State.sampledIn_mgt (x : Sample) (s : State) : (s.sampledIn x).mgt = (s.sampledIn x).mgt.withSensors s.mgt := by
  unfold State.sampledIn
  split
  · exact State.takeSample_mgt x s
  · rfl

theorem State.sampledIn_stp (x : Sample) (s : State) : (s.sampledIn x).stp = s.stp :=
  State.ite_keeps State.stp (stp_of_hide (State.takeSample_frame _ (by decide) x s)) rfl

theorem State.sampledIn_values {s : State} (hm : s.mpIn = true) (hv : s.glb.svc = false) (x : Sample) :
    (s.sampledIn x).mgt.sensFrame = s.stp.frame ∧ (s.sampledIn x).mgt.power = x.power ∧
    ∀ k v, k < 8 → x.temps[k]? = some v → tget 0 (s.sampledIn x).mgt.temp k = v := by
  obtain ⟨hpower, hframe, htemp⟩ := State.takeSample_values x s
  rw [State.sampledIn, if_pos (by rw [hm, hv]; rfl)]
  exact ⟨hframe, hpower, htemp⟩

theorem State.sampledIn_waitsBelow {m : Msg} {n : Nat} {s : State} (h : s.WaitsBelow m n) (hn : n ≤ 61) (x : Sample) :
    (s.sampledIn x).WaitsBelow m (n + 1 + 1 + 1) := by
  unfold State.sampledIn
  split
  · exact State.takeSample_waitsBelow h hn x
  · exact h.mono (by omega)

theorem execStorySecond_of_second {s : State} (h : s.stp.atSecond = true) (x : Sample) : exec (.storySecond x) s =
    .next { (s.secondLatched.sampledIn x).sweepStart with
      mgt := { (s.secondLatched.sampledIn x).sweepStart.mgt with calSeconds := (s.secondLatched.sampledIn x).mgt.calSeconds + 1 } } :=
  congrArg Host.Outcome.next (if_neg (by simp [h]))

/-! ### The parts of a bank (12 R339) -/

/-- Records that the next part takes into a buffer. -/
def State.partSize (s : State) (d : BufDesc) : Nat := min s.mgt.bank.length ((d.len.toNat - 32) / 48)

/-- The part in the buffer: its header and its records. -/
def State.partBytes (s : State) (d : BufDesc) : List Byte :=
  s.pmHeader (s.partSize d) (decide (s.partSize d = s.mgt.bank.length)) ++ (s.mgt.bank.take (s.partSize d)).flatMap PmRec.bytes

theorem Ring.advance_dev (kind : Nat) (r : Ring) : (r.advance kind).dev = (r.dev + 1) % ringLen kind r := rfl

/-- The part is in host memory, and the rest of the bank remains. -/
def State.partWritten (d : BufDesc) (s : State) : State :=
  { s.memWritten d.addr.toNat (s.partBytes d) with
    mgt := { s.mgt with bank := s.mgt.bank.drop (s.partSize d), bankPart := s.mgt.bankPart + 1,
                        bankOpen := decide (s.partSize d ≠ s.mgt.bank.length) } }

theorem State.partWritten_ring (d : BufDesc) (s : State) (kind n : Nat) : (s.partWritten d).ring kind n = s.ring kind n := rfl
theorem State.partWritten_hostMem (d : BufDesc) (s : State) :
    (s.partWritten d).hostMem = memWrite s.hostMem d.addr.toNat (s.partBytes d) := by
  rw [State.partWritten, State.memWritten_hostMem]

theorem State.pmPart_eq {d : BufDesc} {s : State} (hb : s.hasBuf 9 0 = true) (ho : s.mgt.bankOpen = true) (hm : s.mpIn = true)
    (hd : bufOk d = true) (hl : 80 ≤ d.len.toNat) :
    s.pmPart d = (s.partWritten d).writeBack 9 0 d (32 + 48 * s.partSize d) 0 := by
  refine (if_neg (by simp [hb, ho, hm])).trans ((if_neg (by simp [hd])).trans ((if_neg (Nat.not_lt.mpr hl)).trans ?_))
  dsimp only
  rw [State.dma_on (State.dmaOn_of_hasBuf hb), ← decide_not]
  rfl

/-- A part, its write-back, and the bank that remains. -/
theorem execPmPartWrite_does {d : BufDesc} {s : State} (hb : s.hasBuf 9 0 = true) (ho : s.mgt.bankOpen = true) (hm : s.mpIn = true)
    (hd : bufOk d = true) (hl : 80 ≤ d.len.toNat) : Does (.pmPartWrite d) s fun t =>
      t.mgt = (s.partWritten d).mgt ∧ (t.ring 9 0).dev = ((s.ring 9 0).dev + 1) % ringLen 9 (s.ring 9 0) ∧
      ((s.ring 9 0).intMode = 0 → ∃ wb : List Byte, wb.length = 8 ∧ t.hostMem =
        memWrite (memWrite s.hostMem d.addr.toNat (s.partBytes d)) ((s.ring 9 0).base.toNat / 4096 * 4096 + 16 * (s.ring 9 0).dev + 8) wb) := by
  refine ⟨_, congrArg Host.Outcome.next (State.pmPart_eq hb ho hm hd hl), mgt_of_hide (State.writeBack_frame _ (by decide) ..), ?_,
    fun hi => ⟨(s.ring 9 0).backBytes (32 + 48 * s.partSize d) 0, by simp [Ring.backBytes, leBytes_length], ?_⟩⟩
  · rw [State.writeBack_ring, State.partWritten_ring, Ring.advance_dev]
  · rw [State.writeBack_quiet (s := s.partWritten d) (State.dmaOn_of_hasBuf hb) hi, State.setRing_hostMem, State.memWritten_hostMem,
      State.partWritten_ring, State.partWritten_hostMem, Ring.addrOf]

theorem State.apply_pmCfg (q sc i : Nat) (on : Bool) (s : State) : s.apply q (.pmCfg sc i on) = ({}, s.pmCfg sc i on) := rfl

/-- Settles O54: the parts by `pmPart_eq`, the second by `pmLatch_eq`, `pmLatch_tells` and the sample's lemmas. -/
theorem pmAndSeconds : Obligations.PmAndSeconds := by
  unfold Obligations.PmAndSeconds
  refine ⟨fun h sc i on s hc => ?cfg, fun d s hb ho hm hd hl => execPmPartWrite_does hb ho hm hd hl, fun x s hs => ?second,
    fun x s hs => congrArg Host.Outcome.next (if_pos (by simp [hs]))⟩
  case cfg =>
    exact hc.does (State.apply_pmCfg ..) rfl rfl rfl fun c p hd => ⟨hd, tget_tset_same .., fun k hk => tget_tset_other _ _ _ _ _ hk⟩
  case second =>
    obtain ⟨m, f, hlatch, hm⟩ := State.pmLatch_eq s
    have hbegun : s.secondLatched = { s with mgt := m, flt := f, stp := { s.stp with atSecond := false, short := false, epochIn := false } } := by
      rw [State.secondLatched, hlatch]
    have hmgt : (s.secondLatched.sampledIn x).mgt = (s.secondLatched.sampledIn x).mgt.withSensors m := by
      rw [State.sampledIn_mgt, hbegun]
      rfl
    have hstp : (s.secondLatched.sampledIn x).stp = { s.stp with atSecond := false, short := false, epochIn := false } := by
      rw [State.sampledIn_stp, hbegun]
    refine ⟨_, execStorySecond_of_second hs x, congrArg (·.atSecond) hstp, (congrArg (·.second) hmgt).trans hm.second, rfl,
      (congrArg (·.seen) hmgt).trans hm.seen, ?cal, ?sensors, congrArg (·.short) hstp, congrArg (·.epochIn) hstp,
      (congrArg (·.bankPart) hmgt).trans hm.part, ?sent, ?unsent, ?told⟩
    case cal => exact congrArg (· + 1) ((congrArg (·.calSeconds) hmgt).trans hm.cal)
    case sensors =>
      intro hmp hv
      have hvalues := State.sampledIn_values (s := s.secondLatched) (by rw [hbegun]; exact hmp) (by rw [hbegun]; exact hv) x
      rw [hbegun] at hvalues ⊢
      exact hvalues
    case sent =>
      intro hd
      obtain ⟨hopen, hbank, htotal, hframe, hflags, hlost⟩ := hm.sent hd
      exact ⟨(congrArg (·.bankOpen) hmgt).trans hopen, (congrArg (·.bank) hmgt).trans hbank, (congrArg (·.bankTotal) hmgt).trans htotal,
        (congrArg (·.bankFrame) hmgt).trans hframe, (congrArg (·.bankFlags) hmgt).trans hflags, (congrArg (·.lostBefore) hmgt).trans hlost⟩
    case unsent =>
      intro hd
      obtain ⟨hopen, hbank, hlost⟩ := hm.unsent hd
      exact ⟨(congrArg (·.bankOpen) hmgt).trans hopen, (congrArg (·.bank) hmgt).trans hbank, (congrArg (·.lostBefore) hmgt).trans hlost⟩
    case told =>
      intro hmp hq
      have hwaits {msg : Msg} (h : s.pmLatch.WaitsBelow msg 58) : msg ∈ (s.secondLatched.sampledIn x).flt.queue :=
        (State.sampledIn_waitsBelow (s := s.secondLatched) h (by decide) x).1
      obtain ⟨hopen, hunsent⟩ := State.pmLatch_tells hmp hq (by decide)
      exact ⟨fun h => hwaits (hopen h), fun h => hwaits (hunsent h)⟩

end Sys2Proof.Machine
end
